-- ==== Sys2Proof/Machine/Table.lean ====
section
/-! DEFINITION. Tables of plain data: an association list with a default, and a byte memory in one canonical form. -/

namespace Sys2Proof.Machine

/-- A table from keys to values; a key that is not listed holds the default its user names. -/
abbrev Tab (κ α : Type) := List (κ × α)

/-- The value listed for a key, if any. -/
def Tab.find {κ α : Type} [DecidableEq κ] : Tab κ α → κ → Option α
  | [], _ => none
  | (j, v) :: t, k => if j = k then some v else Tab.find t k

/-- The value of a key, the default where it is not listed. -/
def Tab.get {κ α : Type} [DecidableEq κ] (t : Tab κ α) (k : κ) (dflt : α) : α :=
  (Tab.find t k).getD dflt

/-- The table without a key. -/
def Tab.erase {κ α : Type} [DecidableEq κ] : Tab κ α → κ → Tab κ α
  | [], _ => []
  | (j, v) :: t, k => if j = k then Tab.erase t k else (j, v) :: Tab.erase t k

/-- The table with a key set to a value. -/
def Tab.set {κ α : Type} [DecidableEq κ] (t : Tab κ α) (k : κ) (v : α) : Tab κ α :=
  (k, v) :: Tab.erase t k

/-- The table with the value of a key replaced by a function of it. -/
def Tab.upd {κ α : Type} [DecidableEq κ] (t : Tab κ α) (k : κ) (dflt : α) (f : α → α) : Tab κ α :=
  Tab.set t k (f (Tab.get t k dflt))

/-- A byte memory: address and byte, addresses strictly rising, no entry equal to what an unlisted address
reads as (0). -/
abbrev Mem := List Host.Cell

/-- What an address that is not listed reads as. DESIGN CHOICE (log 5). -/
def Mem.unlisted : Byte := 0

/-- One byte of a memory. DESIGN CHOICE (log 5). -/
def Mem.read : Mem → Nat → Byte
  | [], _ => Mem.unlisted
  | (j, v) :: t, a => if j = a then v else Mem.read t a

/-- Insert a byte that differs from what an unlisted address reads as. -/
def Mem.insert : Mem → Nat → Byte → Mem
  | [], a, b => [(a, b)]
  | (j, v) :: t, a, b =>
    if a < j then (a, b) :: (j, v) :: t
    else if a = j then (a, b) :: t
    else (j, v) :: Mem.insert t a b

/-- Remove an address from the listed ones. -/
def Mem.drop : Mem → Nat → Mem
  | [], _ => []
  | (j, v) :: t, a => if j = a then Mem.drop t a else (j, v) :: Mem.drop t a

/-- Write one byte; the canonical form is kept. -/
def Mem.write (m : Mem) (a : Nat) (b : Byte) : Mem :=
  if b = Mem.unlisted then Mem.drop m a else Mem.insert m a b

/-- Write bytes at rising addresses. -/
def Mem.writeBytes : Mem → Nat → List Byte → Mem
  | m, _, [] => m
  | m, a, b :: bs => Mem.writeBytes (Mem.write m a b) (a + 1) bs

/-- Read n bytes at rising addresses. -/
def Mem.readBytes (m : Mem) (a : Nat) : Nat → List Byte
  | 0 => []
  | n + 1 => Mem.read m a :: Mem.readBytes m (a + 1) n

/-- Write zeros to the n bytes from a on: they are no longer listed. -/
def Mem.zero (m : Mem) (a n : Nat) : Mem :=
  m.filter fun c => decide (c.1 < a ∨ a + n ≤ c.1)

/-- Addresses strictly rising from a lower bound, and no listed byte that reads as an unlisted one. -/
def Mem.wfFrom : Nat → Mem → Bool
  | _, [] => true
  | lo, (a, b) :: t => decide (lo ≤ a) && (b != Mem.unlisted) && Mem.wfFrom (a + 1) t

/-- The canonical form of a memory. -/
def Mem.wf (m : Mem) : Bool := Mem.wfFrom 0 m

end Sys2Proof.Machine
end

