-- ==== Sys2Proof/Machine/StateDmc.lean ====
section
/-! DEFINITION. State of the DRAM subsystem beyond its registers (chapter "DRAM Subsystem"). -/

namespace Sys2Proof.Machine

/-- What the 64 KiB unit of a burst holds (Table 16.3). DESIGN CHOICE (log 77). -/
inductive UnitClass where
  /-- Heap or tag store of a block: its region, strip and first offset. -/
  | reel (region strip first : Nat)
  /-- A copy of the inspection store, by its place. -/
  | storeCopy (place : Nat)
  | owner
  /-- A free unit; again where the zeros could not be read back. -/
  | freeUnit (again : Bool)
  /-- Loop state of nozzles of a port. -/
  | loopState (port : Nat) (nozzles : List Nat)
  | park (record : Nat)
  | control
  deriving DecidableEq, Repr

/-- A request (R410): requester (Table 16.2), the core for MGMT, the instant since which it waits, DRAM byte address,
the data of a write, and, for a read, its column commands less one, the address of the burst that the devices answer
with where it is not the one asked for, the symbol errors they answer with (column command, codeword, symbol and error),
and what its unit holds. DESIGN CHOICE (log 77). -/
structure DramReq where
  q : Fin 9
  core : Option (Fin 4)
  since : Nat
  addr : Nat
  data : Option (List Byte)
  more : Fin 4
  other : Option Nat
  errors : List (Fin 4 × Fin 2 × Fin 40 × Byte)
  holds : UnitClass
  deriving DecidableEq, Repr

/-- A corrected codeword that waits to be written back (R418): burst address, rank, and device. -/
structure EccFix where
  addr : Nat
  device : Nat
  deriving DecidableEq, Repr

/-- One bank (R409, R413, R414). DEDUCED (log 78). -/
structure Bank where
  /-- Open row, and the instant of its last access. -/
  row : Option Nat
  used : Nat
  /-- Page-close predictor. -/
  count : Nat
  /-- Row recorded for neighbour refresh. -/
  record : Option Nat
  /-- Refreshes postponed. -/
  postponed : Nat
  deriving DecidableEq, Repr

/-- A bank after a cold reset. -/
def Bank.reset : Bank := { row := none, used := 0, count := 0, record := none, postponed := 0 }

/-- The DRAM subsystem. -/
structure DmcState where
  /-- Waiting reads and queued writes by subchannel; whether the writes drain (R412). -/
  reads : Tab Nat (List DramReq)
  writes : Tab Nat (List DramReq)
  draining : Tab Nat Bool
  /-- Banks by subchannel, rank, bank group and bank. -/
  bank : Tab (Nat × Nat × Nat × Nat) Bank
  /-- Addresses of poisoned bursts (R416). -/
  poisoned : List Nat
  /-- Corrected codewords not yet written back (R418). -/
  fixes : List EccFix
  /-- Instants of the corrections of the last 24 h by channel and device counter, and of the last E_DMC_CE_DEVICE (R418). -/
  corrections : Tab (Nat × Nat) (List Nat)
  told : Tab (Nat × Nat) Nat
  /-- Device temperature by channel in °C (R413). -/
  temp : Tab Nat Int
  /-- Best candidate of the retraining in progress: read and write eye (R424). -/
  best : Tab Nat (Nat × Nat)
  /-- Tj at each group's last training, in 0.1 °C. -/
  trainTj : Tab Nat Nat
  /-- A freeze has stopped a controller running solo (R422). -/
  lost : Bool
  /-- Start of the scrub pass. -/
  passStart : Nat
  deriving DecidableEq, Repr

/-- The DRAM subsystem after a cold reset. DESIGN CHOICE (log 3). -/
def DmcState.reset : DmcState :=
  { reads := [], writes := [], draining := [], bank := [], poisoned := [], fixes := [], corrections := [], told := [], temp := [], best := [],
    trainTj := [], lost := false, passStart := 0 }

end Sys2Proof.Machine
end

