-- ==== Sys2Proof/Machine/Regs.lean ====
section
/-! DEFINITION. The registers of the control space: one name per register of the spec's register tables, with the
block, the offset, the strides of its instances, the access masks (Table 0.3) and the reset value (R9).
A 64-bit quantity (R7) is one register here, low word at the lower address. -/

namespace Sys2Proof.Machine

/-- The blocks of Table 17.2 that hold registers (NZT is a window, not a register). -/
inductive Block where
  | glb
  | img
  | pos
  | irq
  | pwr
  | ptn
  | ctl
  | sec
  | cal
  | nva
  | tsu
  | cue
  | hpt
  | emb
  | ins
  | lne
  | dmc
  | cdc
  | hst
  | ten
  deriving DecidableEq, Repr

/-- The offset of a block in the control space (Table 17.2). -/
def Block.base : Block → Nat
  | .glb => 0x0
  | .img => 0x10000
  | .pos => 0x20000
  | .irq => 0x30000
  | .pwr => 0x40000
  | .ptn => 0x50000
  | .ctl => 0x60000
  | .sec => 0x70000
  | .cal => 0x80000
  | .nva => 0x90000
  | .tsu => 0xa0000
  | .cue => 0xb0000
  | .hpt => 0x100000
  | .emb => 0x200000
  | .ins => 0x300000
  | .lne => 0x400000
  | .dmc => 0x500000
  | .cdc => 0x600000
  | .hst => 0x700000
  | .ten => 0x800000

/-- Every register of the spec, by name; an instance is given beside it. -/
inductive Reg where
  | glbId
  | glbBadAccess
  | glbReset
  | glbBootStage
  | glbResetCause
  | glbBarShape
  | glbBarPitch
  | glbFluid
  | glbMgmtStatus
  | glbWdtCfg
  | glbWdtKick
  | glbWdtResets
  | glbLastErr
  | imgCtrl
  | imgStatus
  | imgError
  | imgErrorLoc
  | imgSrcAddr
  | imgActFire
  | imgClampCount
  | imgActiveSerial
  | imgDigest
  | imgClampReport
  | posCtrl
  | posStatus
  | posEvent
  | posLine
  | posLineFrac
  | posFireIndex
  | posBindFire
  | posBindLine
  | posSpeed
  | posFirePeriod
  | posPassLo
  | posPassHi
  | posPassCtrl
  | posSkipCount
  | posDeferCount
  | posXcDiff
  | posEncStatus
  | posEncCount
  | posEncZlatch
  | posEncGlitch
  | posEncWireCount
  | posEncQuadCount
  | posPortDelay
  | irqSrcCfg
  | irqMaskSet
  | irqMaskClr
  | irqPendSet
  | irqPendClr
  | irqLevel
  | irqClaimN
  | irqClaimF
  | irqModN
  | irqModF
  | irqKeeperClaim
  | pwrCtrl
  | pwrStatus
  | pwrEvent
  | pwrEstimate
  | pwrReserveUsed
  | pwrDeltaBytes
  | pwrLastBreath
  | pwrLostFire
  | pwrCkptFire
  | pwrCkptSeq
  | pwrPfGlitch
  | pwrTj
  | pwrTaskStatus
  | pwrTaskRuns
  | pwrTaskMisses
  | pwrTaskLastMs
  | ptnCtrl
  | ptnStatus
  | ptnEvent
  | ptnTakeFire
  | ptnSplices
  | ptnMseq
  | ptnReelLag
  | ptnCmpCount
  | ptnNocmp
  | ptnMismatch
  | ptnBindDiff
  | ptnSurrender
  | ptnPartnerDigest
  | ctlLoopCtrl
  | ctlLoopStatus
  | ctlLoopSp
  | ctlLoopFb
  | ctlLoopInt
  | ctlLoopMissed
  | ctlLoopStale
  | ctlLoopFrozen
  | ctlLoopSeqDiscard
  | ctlAxCtrl
  | ctlAxStatus
  | ctlAxPos
  | ctlAxVel
  | ctlAxMoveTarget
  | ctlAxMoveV
  | ctlAxMoveA
  | ctlAxMoveFlags
  | ctlAxLoad
  | ctlRcAddr
  | ctlRcData
  | ctlLoad
  | ctlEvent
  | lspCrcErr
  | asbCrcErr
  | secStatus
  | secCtrl
  | secArg
  | secLast
  | secDeviceId
  | secFwSvn
  | secTally
  | secToken
  | secKeyData
  | calCtrl
  | calSel
  | calEvent
  | calItemStatus
  | calItemValue
  | calItemCount
  | calItemFail
  | calItemLastNs
  | calItemLastFire
  | calItemSet
  | nvaStatus
  | nvaEvent
  | nvaEccCe
  | nvaOpCtrl
  | nvaOpStatus
  | nvaOpAddr
  | nvaOpSrc
  | nvaOpLines
  | nvaOpDone
  | tsuCtrl
  | tsuTime
  | tsuFrac
  | tsuInc
  | tsuStep
  | tsuSet
  | toutCtrl
  | toutWidth
  | toutStart
  | toutPeriod
  | toutPeriodFrac
  | toutMissed
  | cueEvent
  | cueLastDone
  | cueAbort
  | cueQuery
  | cueQueryResult
  | cueSeq
  | linkCtrl
  | linkStatus
  | linkEvent
  | headId
  | headCap
  | headTiming
  | maxFireHz
  | joinFire
  | hUnderrun
  | hLate
  | hBatchCrc
  | hCheckErr
  | hSlateMiss
  | hDualAct
  | hptSkipped
  | hptNoCredit
  | hptBlockErr
  | hptRelinks
  | synCtrl
  | synStatus
  | updFire
  | rowdly
  | rowdlyRev
  | synEvent
  | fcEst
  | lmap
  | nbr
  | xtW
  | xtAct
  | xtThr
  | energy
  | fcLast
  | rpLine
  | rpStatus
  | rpD
  | rpUnderrun
  | rpReadCrc
  | hlGlbCtrl
  | hlGlbStatus
  | hlGlbEvent
  | embStatus
  | embCtrl
  | embBatches
  | embTableCe
  | embGlbCap
  | embGlbEvent
  | embHcCtrl
  | embHcColLo
  | embHcColHi
  | embHcLine
  | embHcStatus
  | embHcResult
  | insCtrl
  | insStatus
  | insEvent
  | insFrameNo
  | insCamId
  | insMinLineNs
  | insTrigDefer
  | insTrigSkip
  | insLineIncomplete
  | insStoreMiss
  | insRecDrop
  | insUploadSkip
  | insRecSlot
  | insStatRingBase
  | insStatRingCtrl
  | insStatRingHead
  | insStatRingTail
  | insGtAddr
  | insGtData
  | insMeta
  | insStoreSize
  | insStoreUsed
  | insStoreDrop
  | qlCtrl
  | qlStatus
  | qlEvent
  | qlFreeze
  | qlLogBase
  | qlLogCtrl
  | qlLogHead
  | qlLogTail
  | qlLogDrop
  | qlOuts
  | qlSets
  | qlDefer
  | qlSat
  | qlCasDrop
  | qlCasRx
  | lneCtrl
  | lneStatus
  | lneEvent
  | lneRateKbps
  | lneBlockErr
  | lneLosCount
  | lneRetrains
  | lneWakes
  | lneScanSkip
  | lnePrbsCtrl
  | lnePrbsUser
  | lnePrbsErr
  | lnePrbsBits
  | lneLockLoss
  | lneInjCtrl
  | lneInjCount
  | lneDfe
  | lneCtle
  | cluStatus
  | cluRefSwitches
  | lneGlbStatus
  | lneGlbEvent
  | lneGlbCtrl
  | lneGlbDown
  | dmcStatus
  | dmcCeCount
  | dmcUeCount
  | dmcScrubUe
  | dmcPoisonReads
  | dmcRetrains
  | dmcMargin
  | dmcPnrCount
  | dmcFrzCmd
  | dmcFrzAddr
  | dmcFrzLinear
  | dmcFrzSynd
  | dmcCeDev
  | dmcFrzBanks
  | dmcCfg
  | dmcEvent
  | dmcGrpCtrl
  | dmcGrpStatus
  | dmcScrubAddr
  | dmcScrubPass
  | dmcPageIdleNs
  | dmcPnrCfg
  | dmcCeThr
  | dmcTrainMin
  | dmcPrio
  | cdcCodecCap
  | cdcFmtLast
  | cdcFmtCount
  | cdcEvent
  | cdcUnitStatus
  | cdcUnitSelfchk
  | cdcUnitBlocks
  | cdcUnitStored
  | cmpLeadLines
  | cmpLockLine
  | cmpRegions
  | cmpSpoilCount
  | cmpMissingLines
  | cmpIngestFail
  | cmpEvent
  | cmpPassNext
  | cmpPassCur
  | epCtrl
  | epStatus
  | epMac
  | epVlan
  | epIpv4
  | epIpv6
  | epTxDlyPs
  | epRxDlyPs
  | epMacCorrPs
  | epPauseRx
  | epIpDrop
  | epMgmtDrop
  | epTsDrop
  | epTxts
  | pcieStatus
  | pfWinBase
  | pfVec
  | vfVec
  | xptUdpPort
  | xptVerMax
  | xptRtoUs
  | xptAuthDrop
  | xptSession
  | xptResends
  | tenState
  | tenHandle
  | tenSqTail
  | tenSqHead
  | tenCqHead
  | tenCqTail
  | tenCqHostBase
  | tenDramQuota
  | tenDramUsed
  | tenRegions
  | tenShare
  | tenDbErr
  | tenEvDrop
  | tenCqErr
  | tenLastErr
  | tenAcctDrops
  | tenAcctEnergy
  | tenGlbCount
  | tenGlbParked
  | tenCtxFullCount
  | tenPoolUnits
  | tenPoolFree
  | tenAccessErr
  | tenEvent
  deriving DecidableEq, Repr

/-- What a register table says of a register. Instance k of the register is instance k / c2 of the outer array
(stride s1, c1 instances) and k mod c2 of the inner one (stride s2, c2 instances). -/
structure RegDesc where
  /-- The block that holds it. -/
  block : Block
  /-- Offset of instance 0 in the block. -/
  off : Nat
  /-- True for a 64-bit quantity in two words (R7). -/
  wide : Bool
  /-- Outer stride. -/
  s1 : Nat
  /-- Outer count. -/
  c1 : Nat
  /-- Inner stride. -/
  s2 : Nat
  /-- Inner count. -/
  c2 : Nat
  /-- Bits that a write stores (RW). -/
  rw : BitVec 64
  /-- Bits that a write of 1 clears (W1C). -/
  w1c : BitVec 64
  /-- Reset value (R9). -/
  reset : BitVec 64
  /-- True where the write (or the read) is a row of the table of its own. -/
  own : Bool
  /-- True where a read returns 0 (WO). -/
  wo : Bool
  deriving DecidableEq, Repr

/-- The register tables of the chapters. DESIGN CHOICE (log 4, 115). -/
def Reg.desc : Reg → RegDesc
  | .glbId => ⟨.glb, 0, false, 0, 1, 0, 1, 0, 0, 0x91920000, false, false⟩ -- Table 17.10
  | .glbBadAccess => ⟨.glb, 0x10, false, 0, 1, 0, 1, 0, 0, 0, false, false⟩ -- R6
  | .glbReset => ⟨.glb, 0x20, false, 0, 1, 0, 1, 0, 0, 0, true, true⟩ -- Table 19.5
  | .glbBootStage => ⟨.glb, 0x24, false, 0, 1, 0, 1, 0, 0, 0x10000000, false, false⟩ -- Table 19.6
  | .glbResetCause => ⟨.glb, 0x28, false, 0, 1, 0, 1, 0, 0, 1, false, false⟩ -- Table 19.7
  | .glbBarShape => ⟨.glb, 0x100, false, 0, 1, 0, 1, 0, 0, 0, false, false⟩ -- R31
  | .glbBarPitch => ⟨.glb, 0x104, false, 0, 1, 0, 1, 0, 0, 0, false, false⟩ -- R31
  | .glbFluid => ⟨.glb, 0x140, false, 4, 16, 0, 1, 0, 0, 0, false, false⟩ -- R31
  | .glbMgmtStatus => ⟨.glb, 0x200, false, 0, 1, 0, 1, 0, 0, 0, false, false⟩ -- R430
  | .glbWdtCfg => ⟨.glb, 0x210, false, 0x10, 4, 0, 1, 0x80003fff, 0, 0x800003e8, false, false⟩ -- R428
  | .glbWdtKick => ⟨.glb, 0x214, false, 0x10, 4, 0, 1, 0, 0, 0, true, true⟩ -- R428
  | .glbWdtResets => ⟨.glb, 0x218, false, 0x10, 4, 0, 1, 0, 0, 0, false, false⟩ -- R428
  | .glbLastErr => ⟨.glb, 0x260, false, 4, 5, 0, 1, 0, 0, 0, false, false⟩ -- R41
  | .imgCtrl => ⟨.img, 0, false, 0, 1, 0, 1, 0x300, 0, 0, false, false⟩ -- Table 2.12
  | .imgStatus => ⟨.img, 4, false, 0, 1, 0, 1, 0, 0, 0, false, false⟩ -- Table 2.13
  | .imgError => ⟨.img, 8, false, 0, 1, 0, 1, 0, 0, 0xffff0000, false, false⟩ -- R41
  | .imgErrorLoc => ⟨.img, 0xc, false, 0, 1, 0, 1, 0, 0, 0, false, false⟩ -- R19
  | .imgSrcAddr => ⟨.img, 0x10, true, 0, 1, 0, 1, 0xffffffffffffffc0, 0, 0, false, false⟩ -- Table 2.14
  | .imgActFire => ⟨.img, 0x18, true, 0, 1, 0, 1, 0xffffffffffff, 0, 0, false, false⟩ -- R47
  | .imgClampCount => ⟨.img, 0x20, false, 0, 1, 0, 1, 0, 0, 0, false, false⟩ -- R44
  | .imgActiveSerial => ⟨.img, 0x24, false, 0, 1, 0, 1, 0, 0, 0, false, false⟩ -- Table 2.14
  | .imgDigest => ⟨.img, 0x40, false, 4, 12, 0, 1, 0, 0, 0, false, false⟩ -- R49
  | .imgClampReport => ⟨.img, 0x8000, false, 0x10, 1024, 4, 4, 0, 0, 0, false, false⟩ -- R44
  | .posCtrl => ⟨.pos, 0, false, 0, 1, 0, 1, 1, 0, 0, true, false⟩ -- Table 3.4
  | .posStatus => ⟨.pos, 4, false, 0, 1, 0, 1, 0, 0, 0, false, false⟩ -- Table 3.5
  | .posEvent => ⟨.pos, 8, false, 0, 1, 0, 1, 0, 0x1ff, 0, false, false⟩ -- Table 3.7
  | .posLine => ⟨.pos, 0x10, true, 0, 1, 0, 1, 0, 0, 0, false, false⟩ -- R64
  | .posLineFrac => ⟨.pos, 0x18, false, 0, 1, 0, 1, 0, 0, 0, false, false⟩ -- R64
  | .posFireIndex => ⟨.pos, 0x20, true, 0, 1, 0, 1, 0, 0, 0, false, false⟩ -- Table 3.7
  | .posBindFire => ⟨.pos, 0x28, true, 0, 1, 0, 1, 0, 0, 0, false, false⟩ -- R66
  | .posBindLine => ⟨.pos, 0x30, true, 0, 1, 0, 1, 0, 0, 0, false, false⟩ -- R66
  | .posSpeed => ⟨.pos, 0x38, false, 0, 1, 0, 1, 0, 0, 0, false, false⟩ -- R59
  | .posFirePeriod => ⟨.pos, 0x3c, false, 0, 1, 0, 1, 0, 0, 0, false, false⟩ -- Table 3.7
  | .posPassLo => ⟨.pos, 0x40, true, 0, 1, 0, 1, 0xffffffffffffffff, 0, 0, false, false⟩ -- R70
  | .posPassHi => ⟨.pos, 0x48, true, 0, 1, 0, 1, 0xffffffffffffffff, 0, 0, false, false⟩ -- R70
  | .posPassCtrl => ⟨.pos, 0x50, false, 0, 1, 0, 1, 1, 0, 0, false, false⟩ -- R70
  | .posSkipCount => ⟨.pos, 0x54, false, 0, 1, 0, 1, 0, 0, 0, false, false⟩ -- R67
  | .posDeferCount => ⟨.pos, 0x58, false, 0, 1, 0, 1, 0, 0, 0, false, false⟩ -- R68
  | .posXcDiff => ⟨.pos, 0x5c, false, 0, 1, 0, 1, 0, 0, 0, false, false⟩ -- R81
  | .posEncStatus => ⟨.pos, 0x100, false, 0x40, 8, 0, 1, 0, 0x10000000, 0, false, false⟩ -- Table 3.6
  | .posEncCount => ⟨.pos, 0x108, true, 0x40, 8, 0, 1, 0, 0, 0, false, false⟩ -- R57
  | .posEncZlatch => ⟨.pos, 0x110, true, 0x40, 8, 0, 1, 0, 0, 0, false, false⟩ -- R58
  | .posEncGlitch => ⟨.pos, 0x118, false, 0x40, 8, 0, 1, 0, 0, 0, false, false⟩ -- R54
  | .posEncWireCount => ⟨.pos, 0x11c, false, 0x40, 8, 0, 1, 0, 0, 0, false, false⟩ -- R55
  | .posEncQuadCount => ⟨.pos, 0x120, false, 0x40, 8, 0, 1, 0, 0, 0, false, false⟩ -- R56
  | .posPortDelay => ⟨.pos, 0x1000, false, 4, 192, 0, 1, 0xffff, 0, 0, true, false⟩ -- R79
  | .irqSrcCfg => ⟨.irq, 0, false, 4, 2048, 0, 1, 0xffff, 0, 0x300, false, false⟩ -- Table 17.8
  | .irqMaskSet => ⟨.irq, 0x2000, false, 4, 64, 0, 1, 0, 0, 0xffffffff, true, false⟩ -- R439
  | .irqMaskClr => ⟨.irq, 0x2100, false, 4, 64, 0, 1, 0, 0, 0xffffffff, true, false⟩ -- R439
  | .irqPendSet => ⟨.irq, 0x2200, false, 4, 64, 0, 1, 0, 0, 0, true, false⟩ -- R439
  | .irqPendClr => ⟨.irq, 0x2300, false, 4, 64, 0, 1, 0, 0, 0, true, false⟩ -- R439
  | .irqLevel => ⟨.irq, 0x2400, false, 4, 64, 0, 1, 0, 0, 0, false, false⟩ -- R438
  | .irqClaimN => ⟨.irq, 0x3000, false, 0x40, 4, 0, 1, 0, 0, 0x80000000, true, false⟩ -- R440
  | .irqClaimF => ⟨.irq, 0x3004, false, 0x40, 4, 0, 1, 0, 0, 0x80000000, true, false⟩ -- R440
  | .irqModN => ⟨.irq, 0x3008, false, 0x40, 4, 0, 1, 0xffffffff, 0, 0, false, false⟩ -- R442
  | .irqModF => ⟨.irq, 0x300c, false, 0x40, 4, 0, 1, 0xffffffff, 0, 0, false, false⟩ -- R442
  | .irqKeeperClaim => ⟨.irq, 0x3100, false, 0, 1, 0, 1, 0, 0, 0x80000000, true, false⟩ -- R440
  | .pwrCtrl => ⟨.pwr, 0, false, 0, 1, 0, 1, 1, 0, 1, true, false⟩ -- Table 13.11
  | .pwrStatus => ⟨.pwr, 4, false, 0, 1, 0, 1, 0, 0, 0, false, false⟩ -- Table 13.12
  | .pwrEvent => ⟨.pwr, 8, false, 0, 1, 0, 1, 0, 0xff, 0, false, false⟩ -- Table 13.13
  | .pwrEstimate => ⟨.pwr, 0xc, false, 0, 1, 0, 1, 0, 0, 0, false, false⟩ -- R337
  | .pwrReserveUsed => ⟨.pwr, 0x10, false, 0, 1, 0, 1, 0, 0, 0, false, false⟩ -- Table 13.13
  | .pwrDeltaBytes => ⟨.pwr, 0x14, false, 0, 1, 0, 1, 0, 0, 0, false, false⟩ -- R343
  | .pwrLastBreath => ⟨.pwr, 0x18, false, 0, 1, 0, 1, 0, 0, 0, false, false⟩ -- R355
  | .pwrLostFire => ⟨.pwr, 0x20, true, 0, 1, 0, 1, 0, 0, 0, false, false⟩ -- R357
  | .pwrCkptFire => ⟨.pwr, 0x28, true, 0, 1, 0, 1, 0, 0, 0, false, false⟩ -- Table 13.13
  | .pwrCkptSeq => ⟨.pwr, 0x30, false, 0, 1, 0, 1, 0, 0, 0, false, false⟩ -- Table 13.13
  | .pwrPfGlitch => ⟨.pwr, 0x34, false, 0, 1, 0, 1, 0, 0, 0, false, false⟩ -- R348
  | .pwrTj => ⟨.pwr, 0x40, false, 4, 8, 0, 1, 0, 0, 0, false, false⟩ -- R337
  | .pwrTaskStatus => ⟨.pwr, 0x100, false, 0x20, 8, 0, 1, 0, 0, 0, false, false⟩ -- Table 13.13
  | .pwrTaskRuns => ⟨.pwr, 0x104, false, 0x20, 8, 0, 1, 0, 0, 0, false, false⟩ -- Table 13.13
  | .pwrTaskMisses => ⟨.pwr, 0x108, false, 0x20, 8, 0, 1, 0, 0, 0, false, false⟩ -- R341
  | .pwrTaskLastMs => ⟨.pwr, 0x10c, false, 0x20, 8, 0, 1, 0, 0, 0, false, false⟩ -- Table 13.13
  | .ptnCtrl => ⟨.ptn, 0, false, 0, 1, 0, 1, 1, 0, 1, true, false⟩ -- Table 12.11
  | .ptnStatus => ⟨.ptn, 4, false, 0, 1, 0, 1, 0, 0, 0, false, false⟩ -- Table 12.12
  | .ptnEvent => ⟨.ptn, 8, false, 0, 1, 0, 1, 0, 0x7f, 0, false, false⟩ -- Table 12.13
  | .ptnTakeFire => ⟨.ptn, 0x10, true, 0, 1, 0, 1, 0, 0, 0, false, false⟩ -- R330
  | .ptnSplices => ⟨.ptn, 0x18, false, 0, 1, 0, 1, 0, 0, 0, false, false⟩ -- R330
  | .ptnMseq => ⟨.ptn, 0x1c, false, 0, 1, 0, 1, 0, 0, 0, false, false⟩ -- R321
  | .ptnReelLag => ⟨.ptn, 0x20, false, 0, 1, 0, 1, 0, 0, 0, false, false⟩ -- R328
  | .ptnCmpCount => ⟨.ptn, 0x24, false, 0, 1, 0, 1, 0, 0, 0, false, false⟩ -- R325
  | .ptnNocmp => ⟨.ptn, 0x28, false, 0, 1, 0, 1, 0, 0, 0, false, false⟩ -- R325
  | .ptnMismatch => ⟨.ptn, 0x2c, false, 0, 1, 0, 1, 0, 0, 0, false, false⟩ -- R326
  | .ptnBindDiff => ⟨.ptn, 0x30, false, 0, 1, 0, 1, 0, 0, 0, false, false⟩ -- R324
  | .ptnSurrender => ⟨.ptn, 0x34, false, 0, 1, 0, 1, 0, 0, 0, false, false⟩ -- R329
  | .ptnPartnerDigest => ⟨.ptn, 0x40, false, 4, 12, 0, 1, 0, 0, 0, false, false⟩ -- R328
  | .ctlLoopCtrl => ⟨.ctl, 0, false, 0x80, 256, 0, 1, 0, 0, 0, true, false⟩ -- Table 14.10
  | .ctlLoopStatus => ⟨.ctl, 4, false, 0x80, 256, 0, 1, 0, 0x1c000000, 0, false, false⟩ -- Table 14.7
  | .ctlLoopSp => ⟨.ctl, 8, false, 0x80, 256, 0, 1, 0xffff, 0, 0, true, false⟩ -- R372
  | .ctlLoopFb => ⟨.ctl, 0xc, false, 0x80, 256, 0, 1, 0, 0, 0, false, false⟩ -- Table 14.10
  | .ctlLoopInt => ⟨.ctl, 0x10, true, 0x80, 256, 0, 1, 0, 0, 0, false, false⟩ -- Table 14.10
  | .ctlLoopMissed => ⟨.ctl, 0x18, false, 0x80, 256, 0, 1, 0, 0, 0, false, false⟩ -- R368
  | .ctlLoopStale => ⟨.ctl, 0x1c, false, 0x80, 256, 0, 1, 0, 0, 0, false, false⟩ -- R370
  | .ctlLoopFrozen => ⟨.ctl, 0x20, false, 0x80, 256, 0, 1, 0, 0, 0, false, false⟩ -- R370
  | .ctlLoopSeqDiscard => ⟨.ctl, 0x24, false, 0x80, 256, 0, 1, 0, 0, 0, false, false⟩ -- R363
  | .ctlAxCtrl => ⟨.ctl, 0x8000, false, 0x100, 32, 0, 1, 0, 0, 0, true, false⟩ -- Table 14.8
  | .ctlAxStatus => ⟨.ctl, 0x8004, false, 0x100, 32, 0, 1, 0, 0x10000000, 0x80000000, false, false⟩ -- Table 14.9
  | .ctlAxPos => ⟨.ctl, 0x8008, false, 0x100, 32, 0, 1, 0, 0, 0, false, false⟩ -- Table 14.10
  | .ctlAxVel => ⟨.ctl, 0x800c, false, 0x100, 32, 0, 1, 0, 0, 0, false, false⟩ -- Table 14.10
  | .ctlAxMoveTarget => ⟨.ctl, 0x8010, false, 0x100, 32, 0, 1, 0xffffffff, 0, 0, false, false⟩ -- R374
  | .ctlAxMoveV => ⟨.ctl, 0x8014, false, 0x100, 32, 0, 1, 0xffffffff, 0, 0, false, false⟩ -- R374
  | .ctlAxMoveA => ⟨.ctl, 0x8018, false, 0x100, 32, 0, 1, 0xffffffff, 0, 0, false, false⟩ -- R374
  | .ctlAxMoveFlags => ⟨.ctl, 0x801c, false, 0x100, 32, 0, 1, 1, 0, 0, false, false⟩ -- R374
  | .ctlAxLoad => ⟨.ctl, 0x8020, false, 0x100, 32, 0, 1, 0, 0, 0, false, false⟩ -- R378
  | .ctlRcAddr => ⟨.ctl, 0xc000, false, 0, 1, 0, 1, 0xffff, 0, 0, false, false⟩ -- Table 14.10
  | .ctlRcData => ⟨.ctl, 0xc004, true, 0, 1, 0, 1, 0xffffffffffffffff, 0, 0, true, false⟩ -- Table 14.10
  | .ctlLoad => ⟨.ctl, 0xc010, false, 0, 1, 0, 1, 0, 0, 0, false, false⟩ -- Table 14.10
  | .ctlEvent => ⟨.ctl, 0xc014, false, 0, 1, 0, 1, 0, 0x1f, 0, false, false⟩ -- Table 14.10
  | .lspCrcErr => ⟨.ctl, 0xc020, false, 4, 8, 0, 1, 0, 0, 0, false, false⟩ -- R361
  | .asbCrcErr => ⟨.ctl, 0xc040, false, 4, 4, 0, 1, 0, 0, 0, false, false⟩ -- Table 14.10
  | .secStatus => ⟨.sec, 0, false, 0, 1, 0, 1, 0, 0, 0x10000001, false, false⟩ -- Table 18.7
  | .secCtrl => ⟨.sec, 4, false, 0, 1, 0, 1, 0, 0, 0, true, false⟩ -- Table 18.8
  | .secArg => ⟨.sec, 8, false, 0, 1, 0, 1, 0xffffffff, 0, 0, false, false⟩ -- Table 18.9
  | .secLast => ⟨.sec, 0xc, false, 0, 1, 0, 1, 0, 0, 0, false, false⟩ -- Table 18.9
  | .secDeviceId => ⟨.sec, 0x10, true, 0, 1, 0, 1, 0, 0, 0, false, false⟩ -- Table 18.9
  | .secFwSvn => ⟨.sec, 0x18, false, 0, 1, 0, 1, 0, 0, 0, false, false⟩ -- Table 18.9
  | .secTally => ⟨.sec, 0x20, false, 0, 1, 0, 1, 0, 0, 0xfd100804, false, false⟩ -- R448
  | .secToken => ⟨.sec, 0x100, false, 4, 32, 0, 1, 0xffffffff, 0, 0, false, true⟩ -- R451
  | .secKeyData => ⟨.sec, 0x200, false, 4, 32, 0, 1, 0xffffffff, 0, 0, false, true⟩ -- R456
  | .calCtrl => ⟨.cal, 0, false, 0, 1, 0, 1, 0xff00, 0, 0, true, false⟩ -- Table 19.9
  | .calSel => ⟨.cal, 4, false, 0, 1, 0, 1, 0xfff, 0, 0, false, false⟩ -- Table 19.9
  | .calEvent => ⟨.cal, 8, false, 0, 1, 0, 1, 0, 7, 0, false, false⟩ -- Table 19.9
  | .calItemStatus => ⟨.cal, 0x100, false, 0x40, 11, 0, 1, 0, 0, 0, false, false⟩ -- Table 19.8
  | .calItemValue => ⟨.cal, 0x104, false, 0x40, 11, 0, 1, 0, 0, 0, false, false⟩ -- Table 19.9
  | .calItemCount => ⟨.cal, 0x108, false, 0x40, 11, 0, 1, 0, 0, 0, false, false⟩ -- Table 19.9
  | .calItemFail => ⟨.cal, 0x10c, false, 0x40, 11, 0, 1, 0, 0, 0, false, false⟩ -- Table 19.9
  | .calItemLastNs => ⟨.cal, 0x110, true, 0x40, 11, 0, 1, 0, 0, 0, false, false⟩ -- Table 19.9
  | .calItemLastFire => ⟨.cal, 0x118, true, 0x40, 11, 0, 1, 0, 0, 0, false, false⟩ -- Table 19.9
  | .calItemSet => ⟨.cal, 0x120, false, 0x40, 11, 4, 5, 0, 0, 0, false, false⟩ -- R469
  | .nvaStatus => ⟨.nva, 0, false, 0, 1, 0, 1, 0, 0, 0, false, false⟩ -- Table 17.10
  | .nvaEvent => ⟨.nva, 4, false, 0, 1, 0, 1, 0, 7, 0, false, false⟩ -- Table 17.10
  | .nvaEccCe => ⟨.nva, 8, false, 0, 1, 0, 1, 0, 0, 0, false, false⟩ -- R431
  | .nvaOpCtrl => ⟨.nva, 0x100, false, 0x40, 5, 0, 1, 2, 0, 0, false, false⟩ -- Table 17.9
  | .nvaOpStatus => ⟨.nva, 0x104, false, 0x40, 5, 0, 1, 0, 0, 0, false, false⟩ -- Table 17.10
  | .nvaOpAddr => ⟨.nva, 0x108, false, 0x40, 5, 0, 1, 0xc1ffffc0, 0, 0, false, false⟩ -- Table 17.10
  | .nvaOpSrc => ⟨.nva, 0x110, true, 0x40, 5, 0, 1, 0xffffffffffffffc0, 0, 0, false, false⟩ -- Table 17.10
  | .nvaOpLines => ⟨.nva, 0x118, false, 0x40, 5, 0, 1, 0x1fffff, 0, 0, false, false⟩ -- Table 17.10
  | .nvaOpDone => ⟨.nva, 0x11c, false, 0x40, 5, 0, 1, 0, 0, 0, false, false⟩ -- R434
  | .tsuCtrl => ⟨.tsu, 0, false, 0, 1, 0, 1, 0, 0, 0, true, false⟩ -- Table 11.11
  | .tsuTime => ⟨.tsu, 0x10, true, 0, 1, 0, 1, 0, 0, 0, false, false⟩ -- R305
  | .tsuFrac => ⟨.tsu, 0x18, false, 0, 1, 0, 1, 0, 0, 0, false, false⟩ -- R305
  | .tsuInc => ⟨.tsu, 0x20, true, 0, 1, 0, 1, 0xfffffffff, 0, 0x19999999a, true, false⟩ -- R305
  | .tsuStep => ⟨.tsu, 0x28, true, 0, 1, 0, 1, 0xffffffffffffffff, 0, 0, false, false⟩ -- R306
  | .tsuSet => ⟨.tsu, 0x30, true, 0, 1, 0, 1, 0xffffffffffffffff, 0, 0, false, false⟩ -- R306
  | .toutCtrl => ⟨.tsu, 0x2000, false, 0x40, 8, 0, 1, 4, 0, 0, false, false⟩ -- Table 11.10
  | .toutWidth => ⟨.tsu, 0x2004, false, 0x40, 8, 0, 1, 0xffffffff, 0, 0, false, false⟩ -- Table 11.11
  | .toutStart => ⟨.tsu, 0x2008, true, 0x40, 8, 0, 1, 0xffffffffffffffff, 0, 0, false, false⟩ -- Table 11.11
  | .toutPeriod => ⟨.tsu, 0x2010, true, 0x40, 8, 0, 1, 0xffffffffffffffff, 0, 0, false, false⟩ -- Table 11.11
  | .toutPeriodFrac => ⟨.tsu, 0x2018, false, 0x40, 8, 0, 1, 0xffffffff, 0, 0, false, false⟩ -- Table 11.11
  | .toutMissed => ⟨.tsu, 0x201c, false, 0x40, 8, 0, 1, 0, 0, 0, false, false⟩ -- R311
  | .cueEvent => ⟨.cue, 0, false, 0, 1, 0, 1, 0, 1, 0, false, false⟩ -- Table 17.10
  | .cueLastDone => ⟨.cue, 4, false, 0, 1, 0, 1, 0, 0, 0, false, false⟩ -- Table 17.10
  | .cueAbort => ⟨.cue, 8, false, 0, 1, 0, 1, 0, 0, 0, true, true⟩ -- R437
  | .cueQuery => ⟨.cue, 0x40, false, 0, 1, 0, 1, 0xff0fff, 0, 0, true, false⟩ -- R436
  | .cueQueryResult => ⟨.cue, 0x44, false, 0, 1, 0, 1, 0, 0, 0, false, false⟩ -- R436
  | .cueSeq => ⟨.cue, 0x100, false, 0x20, 8, 0, 1, 0, 0, 0, false, false⟩ -- Table 17.10
  | .linkCtrl => ⟨.hpt, 0, false, 0x1000, 192, 0, 1, 0, 0, 0, true, false⟩ -- Table 7.14
  | .linkStatus => ⟨.hpt, 4, false, 0x1000, 192, 0, 1, 0, 0, 0, false, false⟩ -- Table 7.15
  | .linkEvent => ⟨.hpt, 8, false, 0x1000, 192, 0, 1, 0, 0x7f, 0, false, false⟩ -- Table 7.16
  | .headId => ⟨.hpt, 0x10, true, 0x1000, 192, 0, 1, 0, 0, 0, false, false⟩ -- Table 7.16
  | .headCap => ⟨.hpt, 0x18, false, 0x1000, 192, 0, 1, 0, 0, 0, false, false⟩ -- Table 7.16
  | .headTiming => ⟨.hpt, 0x1c, false, 0x1000, 192, 0, 1, 0, 0, 0, false, false⟩ -- Table 7.16
  | .maxFireHz => ⟨.hpt, 0x20, false, 0x1000, 192, 0, 1, 0, 0, 0, false, false⟩ -- R193
  | .joinFire => ⟨.hpt, 0x28, true, 0x1000, 192, 0, 1, 0, 0, 0, false, false⟩ -- R197
  | .hUnderrun => ⟨.hpt, 0x30, false, 0x1000, 192, 0, 1, 0, 0, 0, false, false⟩ -- R204
  | .hLate => ⟨.hpt, 0x34, false, 0x1000, 192, 0, 1, 0, 0, 0, false, false⟩ -- R204
  | .hBatchCrc => ⟨.hpt, 0x38, false, 0x1000, 192, 0, 1, 0, 0, 0, false, false⟩ -- R204
  | .hCheckErr => ⟨.hpt, 0x3c, false, 0x1000, 192, 0, 1, 0, 0, 0, false, false⟩ -- R204
  | .hSlateMiss => ⟨.hpt, 0x40, false, 0x1000, 192, 0, 1, 0, 0, 0, false, false⟩ -- R204
  | .hDualAct => ⟨.hpt, 0x44, false, 0x1000, 192, 0, 1, 0, 0, 0, false, false⟩ -- R204
  | .hptSkipped => ⟨.hpt, 0x48, false, 0x1000, 192, 0, 1, 0, 0, 0, false, false⟩ -- R190
  | .hptNoCredit => ⟨.hpt, 0x4c, false, 0x1000, 192, 0, 1, 0, 0, 0, false, false⟩ -- R189
  | .hptBlockErr => ⟨.hpt, 0x50, false, 0x1000, 192, 0, 1, 0, 0, 0, false, false⟩ -- R177
  | .hptRelinks => ⟨.hpt, 0x54, false, 0x1000, 192, 0, 1, 0, 0, 0, false, false⟩ -- Table 7.16
  | .synCtrl => ⟨.hpt, 0x400, false, 0x1000, 192, 0, 1, 1, 0, 0, true, false⟩ -- Table 6.12
  | .synStatus => ⟨.hpt, 0x404, false, 0x1000, 192, 0, 1, 0, 0, 0xff000000, false, false⟩ -- Table 6.13
  | .updFire => ⟨.hpt, 0x408, true, 0x1000, 192, 0, 1, 0xffffffffffff, 0, 0, false, false⟩ -- R164
  | .rowdly => ⟨.hpt, 0x410, false, 0x1000, 192, 0, 1, 0, 0, 0, false, false⟩ -- R153
  | .rowdlyRev => ⟨.hpt, 0x414, false, 0x1000, 192, 0, 1, 0, 0, 0, false, false⟩ -- R153
  | .synEvent => ⟨.hpt, 0x418, false, 0x1000, 192, 0, 1, 0, 3, 0, false, false⟩ -- Table 6.14
  | .fcEst => ⟨.hpt, 0x41c, false, 0x1000, 192, 0, 1, 0, 0, 0, false, false⟩ -- R169
  | .lmap => ⟨.hpt, 0x420, true, 0x1000, 192, 8, 16, 0xfffffffffffffff0, 0, 0xfedcba9876543210, true, false⟩ -- R146
  | .nbr => ⟨.hpt, 0x4a0, true, 0x1000, 192, 0, 1, 0xffffffffffffff, 0, 0x31d021e011f00, true, false⟩ -- R148
  | .xtW => ⟨.hpt, 0x4a8, false, 0x1000, 192, 4, 7, 0xffffffff, 0, 0, true, false⟩ -- R150
  | .xtAct => ⟨.hpt, 0x4c4, false, 0x1000, 192, 4, 4, 0xffffffff, 0, 0, true, false⟩ -- R150
  | .xtThr => ⟨.hpt, 0x4d4, false, 0x1000, 192, 4, 8, 0xffffffff, 0, 0x7fff7fff, true, false⟩ -- R151
  | .energy => ⟨.hpt, 0x500, false, 0x1000, 192, 4, 16, 0xfff0fff, 0, 0, true, false⟩ -- R167
  | .fcLast => ⟨.hpt, 0x540, false, 0x1000, 192, 0, 1, 0, 0, 0, false, false⟩ -- R167
  | .rpLine => ⟨.hpt, 0x800, true, 0x1000, 192, 0x40, 4, 0, 0, 0, false, false⟩ -- Table 4.10
  | .rpStatus => ⟨.hpt, 0x808, false, 0x1000, 192, 0x40, 4, 0, 0, 0, false, false⟩ -- Table 4.9
  | .rpD => ⟨.hpt, 0x80c, false, 0x1000, 192, 0x40, 4, 0, 0, 0, false, false⟩ -- Table 4.10
  | .rpUnderrun => ⟨.hpt, 0x810, false, 0x1000, 192, 0x40, 4, 0, 0, 0, false, false⟩ -- R106
  | .rpReadCrc => ⟨.hpt, 0x814, false, 0x1000, 192, 0x40, 4, 0, 0, 0, false, false⟩ -- R107
  | .hlGlbCtrl => ⟨.hpt, 0xc0000, false, 0, 1, 0, 1, 0, 0, 0, true, false⟩ -- Table 7.16
  | .hlGlbStatus => ⟨.hpt, 0xc0004, false, 0, 1, 0, 1, 0, 0, 0, false, false⟩ -- R195
  | .hlGlbEvent => ⟨.hpt, 0xc0008, false, 0, 1, 0, 1, 0, 3, 0, false, false⟩ -- Table 7.16
  | .embStatus => ⟨.emb, 0, false, 0x1000, 200, 0, 1, 0, 0, 0xff, false, false⟩ -- Table 6.11
  | .embCtrl => ⟨.emb, 4, false, 0x1000, 200, 0, 1, 0, 0, 0, true, false⟩ -- R173
  | .embBatches => ⟨.emb, 8, false, 0x1000, 200, 0, 1, 0, 0, 0, false, false⟩ -- Table 6.14
  | .embTableCe => ⟨.emb, 0xc, false, 0x1000, 200, 0, 1, 0, 0, 0, false, false⟩ -- R170
  | .embGlbCap => ⟨.emb, 0xc8000, false, 0, 1, 0, 1, 0, 0, 0x800c8, false, false⟩ -- Table 6.14
  | .embGlbEvent => ⟨.emb, 0xc8004, false, 0, 1, 0, 1, 0, 0x1f, 0, false, false⟩ -- Table 6.14
  | .embHcCtrl => ⟨.emb, 0xc8010, false, 0, 1, 0, 1, 0x40ff000f, 0, 0, false, false⟩ -- R173
  | .embHcColLo => ⟨.emb, 0xc8014, false, 0, 1, 0, 1, 0x3fffff, 0, 0, false, false⟩ -- Table 6.14
  | .embHcColHi => ⟨.emb, 0xc8018, false, 0, 1, 0, 1, 0x3fffff, 0, 0, false, false⟩ -- Table 6.14
  | .embHcLine => ⟨.emb, 0xc8020, true, 0, 1, 0, 1, 0xffffffffffffffff, 0, 0, false, false⟩ -- Table 6.14
  | .embHcStatus => ⟨.emb, 0xc8028, false, 0, 1, 0, 1, 0, 0, 0, false, false⟩ -- R492
  | .embHcResult => ⟨.emb, 0xc8030, true, 8, 4, 0, 1, 0, 0, 0, false, false⟩ -- R144
  | .insCtrl => ⟨.ins, 0, false, 0x4000, 24, 0, 1, 1, 0, 0, true, false⟩ -- Table 8.9
  | .insStatus => ⟨.ins, 4, false, 0x4000, 24, 0, 1, 0, 0, 0, false, false⟩ -- Table 8.10
  | .insEvent => ⟨.ins, 8, false, 0x4000, 24, 0, 1, 0, 0x3f, 0, false, false⟩ -- Table 8.11
  | .insFrameNo => ⟨.ins, 0xc, false, 0x4000, 24, 0, 1, 0, 0, 0, false, false⟩ -- R226
  | .insCamId => ⟨.ins, 0x10, true, 0x4000, 24, 0, 1, 0, 0, 0, false, false⟩ -- Table 8.11
  | .insMinLineNs => ⟨.ins, 0x18, false, 0x4000, 24, 0, 1, 0, 0, 0, false, false⟩ -- R213
  | .insTrigDefer => ⟨.ins, 0x1c, false, 0x4000, 24, 0, 1, 0, 0, 0, false, false⟩ -- R217
  | .insTrigSkip => ⟨.ins, 0x20, false, 0x4000, 24, 0, 1, 0, 0, 0, false, false⟩ -- R217
  | .insLineIncomplete => ⟨.ins, 0x24, false, 0x4000, 24, 0, 1, 0, 0, 0, false, false⟩ -- R219
  | .insStoreMiss => ⟨.ins, 0x28, false, 0x4000, 24, 0, 1, 0, 0, 0, false, false⟩ -- Table 8.11
  | .insRecDrop => ⟨.ins, 0x2c, false, 0x4000, 24, 0, 1, 0, 0, 0, false, false⟩ -- R232
  | .insUploadSkip => ⟨.ins, 0x30, false, 0x4000, 24, 0, 1, 0, 0, 0, false, false⟩ -- R236
  | .insRecSlot => ⟨.ins, 0x34, false, 0x4000, 24, 0, 1, 0, 0, 0, false, false⟩ -- R233
  | .insStatRingBase => ⟨.ins, 0x40, true, 0x4000, 24, 0, 1, 0xfffffffffffff000, 0, 0, false, false⟩ -- R239
  | .insStatRingCtrl => ⟨.ins, 0x48, false, 0x4000, 24, 0, 1, 0xf, 0, 0, false, false⟩ -- R239
  | .insStatRingHead => ⟨.ins, 0x4c, false, 0x4000, 24, 0, 1, 0, 0, 0, false, false⟩ -- R232
  | .insStatRingTail => ⟨.ins, 0x50, false, 0x4000, 24, 0, 1, 0x1ffff, 0, 0, false, false⟩ -- R232
  | .insGtAddr => ⟨.ins, 0x60, false, 0x4000, 24, 0, 1, 0xffff, 0, 0, false, false⟩ -- R221
  | .insGtData => ⟨.ins, 0x64, false, 0x4000, 24, 0, 1, 0xffffffff, 0, 0, true, false⟩ -- R221
  | .insMeta => ⟨.ins, 0x100, false, 0x4000, 24, 4, 64, 0, 0, 0, false, false⟩ -- Table 8.11
  | .insStoreSize => ⟨.ins, 0x60000, false, 0, 1, 0, 1, 0, 0, 0, false, false⟩ -- R223
  | .insStoreUsed => ⟨.ins, 0x60004, false, 0, 1, 0, 1, 0, 0, 0, false, false⟩ -- R223
  | .insStoreDrop => ⟨.ins, 0x60008, false, 0, 1, 0, 1, 0, 0, 0, false, false⟩ -- R223
  | .qlCtrl => ⟨.ins, 0x70000, false, 0, 1, 0, 1, 0x1f, 0, 0x12, false, false⟩ -- Table 9.6
  | .qlStatus => ⟨.ins, 0x70004, false, 0, 1, 0, 1, 0, 0, 0, false, false⟩ -- Table 9.7
  | .qlEvent => ⟨.ins, 0x70008, false, 0, 1, 0, 1, 0, 0x3f, 0, false, false⟩ -- Table 9.8
  | .qlFreeze => ⟨.ins, 0x70010, false, 4, 6, 0, 1, 0xffffffff, 0, 0, false, false⟩ -- R257
  | .qlLogBase => ⟨.ins, 0x70030, true, 0, 1, 0, 1, 0xfffffffffffff000, 0, 0, false, false⟩ -- R263
  | .qlLogCtrl => ⟨.ins, 0x70038, false, 0, 1, 0, 1, 0x1f, 0, 0, false, false⟩ -- R263
  | .qlLogHead => ⟨.ins, 0x7003c, false, 0, 1, 0, 1, 0, 0, 0, false, false⟩ -- R256
  | .qlLogTail => ⟨.ins, 0x70040, false, 0, 1, 0, 1, 0x1ffff, 0, 0, false, false⟩ -- R256
  | .qlLogDrop => ⟨.ins, 0x70044, false, 0, 1, 0, 1, 0, 0, 0, false, false⟩ -- R256
  | .qlOuts => ⟨.ins, 0x70048, false, 0, 1, 0, 1, 0, 0, 0, false, false⟩ -- Table 9.8
  | .qlSets => ⟨.ins, 0x7004c, false, 0, 1, 0, 1, 0, 0, 0, false, false⟩ -- Table 9.8
  | .qlDefer => ⟨.ins, 0x70050, false, 0, 1, 0, 1, 0, 0, 0, false, false⟩ -- R252
  | .qlSat => ⟨.ins, 0x70054, false, 0, 1, 0, 1, 0, 0, 0, false, false⟩ -- Table 9.8
  | .qlCasDrop => ⟨.ins, 0x70058, false, 0, 1, 0, 1, 0, 0, 0, false, false⟩ -- R259
  | .qlCasRx => ⟨.ins, 0x7005c, false, 0, 1, 0, 1, 0, 0, 0, false, false⟩ -- Table 9.8
  | .lneCtrl => ⟨.lne, 0, false, 0x400, 1024, 0, 1, 0xc, 0, 0, false, false⟩ -- Table 15.6
  | .lneStatus => ⟨.lne, 4, false, 0x400, 1024, 0, 1, 0, 0, 0x10000000, false, false⟩ -- Table 15.7
  | .lneEvent => ⟨.lne, 8, false, 0x400, 1024, 0, 1, 0, 0x7f, 0, false, false⟩ -- Table 15.8
  | .lneRateKbps => ⟨.lne, 0xc, false, 0x400, 1024, 0, 1, 0x1ffffff, 0, 0, false, false⟩ -- R405
  | .lneBlockErr => ⟨.lne, 0x10, false, 0x400, 1024, 0, 1, 0, 0, 0, false, false⟩ -- Table 15.8
  | .lneLosCount => ⟨.lne, 0x14, false, 0x400, 1024, 0, 1, 0, 0, 0, false, false⟩ -- R393
  | .lneRetrains => ⟨.lne, 0x18, false, 0x400, 1024, 0, 1, 0, 0, 0, false, false⟩ -- Table 15.8
  | .lneWakes => ⟨.lne, 0x1c, false, 0x400, 1024, 0, 1, 0, 0, 0, false, false⟩ -- R397
  | .lneScanSkip => ⟨.lne, 0x20, false, 0x400, 1024, 0, 1, 0, 0, 0, false, false⟩ -- R401
  | .lnePrbsCtrl => ⟨.lne, 0x30, false, 0x400, 1024, 0, 1, 0xc0070000, 0, 0, false, false⟩ -- R405
  | .lnePrbsUser => ⟨.lne, 0x34, false, 0x400, 1024, 0, 1, 0xffffffff, 0, 0, false, false⟩ -- Table 15.8
  | .lnePrbsErr => ⟨.lne, 0x38, true, 0x400, 1024, 0, 1, 0, 0, 0, false, false⟩ -- R399
  | .lnePrbsBits => ⟨.lne, 0x40, true, 0x400, 1024, 0, 1, 0, 0, 0, false, false⟩ -- R399
  | .lneLockLoss => ⟨.lne, 0x48, false, 0x400, 1024, 0, 1, 0, 0, 0, false, false⟩ -- R399
  | .lneInjCtrl => ⟨.lne, 0x50, false, 0x400, 1024, 0, 1, 0xffffffff, 0, 0, true, false⟩ -- R400
  | .lneInjCount => ⟨.lne, 0x54, false, 0x400, 1024, 0, 1, 0, 0, 0, false, false⟩ -- R400
  | .lneDfe => ⟨.lne, 0x100, false, 0x400, 1024, 4, 12, 0, 0, 0, false, false⟩ -- R395
  | .lneCtle => ⟨.lne, 0x130, false, 0x400, 1024, 0, 1, 0, 0, 0, false, false⟩ -- Table 15.8
  | .cluStatus => ⟨.lne, 0x300, false, 0x4000, 64, 0, 1, 0, 0, 0, false, false⟩ -- Table 15.8
  | .cluRefSwitches => ⟨.lne, 0x304, false, 0x4000, 64, 0, 1, 0, 0, 0, false, false⟩ -- R388
  | .lneGlbStatus => ⟨.lne, 0x380, false, 0, 1, 0, 1, 0, 0, 0, false, false⟩ -- Table 15.8
  | .lneGlbEvent => ⟨.lne, 0x384, false, 0, 1, 0, 1, 0, 0xf, 0, false, false⟩ -- Table 15.8
  | .lneGlbCtrl => ⟨.lne, 0x388, false, 0, 1, 0, 1, 0, 0, 0, true, false⟩ -- R401
  | .lneGlbDown => ⟨.lne, 0x38c, false, 0, 1, 0, 1, 0, 0, 0, false, false⟩ -- Table 15.8
  | .dmcStatus => ⟨.dmc, 0, false, 0x4000, 16, 0, 1, 0, 0, 0, false, false⟩ -- Table 16.7
  | .dmcCeCount => ⟨.dmc, 4, false, 0x4000, 16, 0, 1, 0, 0, 0, false, false⟩ -- R418
  | .dmcUeCount => ⟨.dmc, 8, false, 0x4000, 16, 0, 1, 0, 0, 0, false, false⟩ -- Table 16.9
  | .dmcScrubUe => ⟨.dmc, 0xc, false, 0x4000, 16, 0, 1, 0, 0, 0, false, false⟩ -- R419
  | .dmcPoisonReads => ⟨.dmc, 0x10, false, 0x4000, 16, 0, 1, 0, 0, 0, false, false⟩ -- R416
  | .dmcRetrains => ⟨.dmc, 0x14, false, 0x4000, 16, 0, 1, 0, 0, 0, false, false⟩ -- R424
  | .dmcMargin => ⟨.dmc, 0x18, false, 0x4000, 16, 0, 1, 0, 0, 0, false, false⟩ -- Table 16.9
  | .dmcPnrCount => ⟨.dmc, 0x1c, false, 0x4000, 16, 0, 1, 0, 0, 0, false, false⟩ -- R414
  | .dmcFrzCmd => ⟨.dmc, 0x20, false, 0x4000, 16, 0, 1, 0, 0, 0, false, false⟩ -- R421
  | .dmcFrzAddr => ⟨.dmc, 0x28, true, 0x4000, 16, 0, 1, 0, 0, 0, false, false⟩ -- R421
  | .dmcFrzLinear => ⟨.dmc, 0x30, true, 0x4000, 16, 0, 1, 0, 0, 0, false, false⟩ -- R421
  | .dmcFrzSynd => ⟨.dmc, 0x40, false, 0x4000, 16, 4, 4, 0, 0, 0, false, false⟩ -- R421
  | .dmcCeDev => ⟨.dmc, 0x100, false, 0x4000, 16, 4, 20, 0, 0, 0, false, false⟩ -- R418
  | .dmcFrzBanks => ⟨.dmc, 0x200, false, 0x4000, 16, 4, 128, 0, 0, 0, false, false⟩ -- R421
  | .dmcCfg => ⟨.dmc, 0x40000, false, 0, 1, 0, 1, 0, 0, 0, false, false⟩ -- R407
  | .dmcEvent => ⟨.dmc, 0x40004, false, 0, 1, 0, 1, 0, 0x7f, 0, false, false⟩ -- Table 16.9
  | .dmcGrpCtrl => ⟨.dmc, 0x40010, false, 4, 4, 0, 1, 0, 0, 0, true, false⟩ -- R422
  | .dmcGrpStatus => ⟨.dmc, 0x40020, false, 4, 4, 0, 1, 0, 0, 0, false, false⟩ -- Table 16.9
  | .dmcScrubAddr => ⟨.dmc, 0x40030, true, 0, 1, 0, 1, 0, 0, 0, false, false⟩ -- R419
  | .dmcScrubPass => ⟨.dmc, 0x40038, false, 0, 1, 0, 1, 0, 0, 0, false, false⟩ -- Table 16.9
  | .dmcPageIdleNs => ⟨.dmc, 0x40040, false, 0, 1, 0, 1, 0xfff, 0, 0xc8, false, false⟩ -- Table 16.9
  | .dmcPnrCfg => ⟨.dmc, 0x40044, false, 0, 1, 0, 1, 0x11f, 0, 0xa, false, false⟩ -- R425
  | .dmcCeThr => ⟨.dmc, 0x40048, false, 0, 1, 0, 1, 0xffffff, 0, 0x400, false, false⟩ -- Table 16.9
  | .dmcTrainMin => ⟨.dmc, 0x4004c, false, 0, 1, 0, 1, 0x3f, 0, 0xc, false, false⟩ -- R425
  | .dmcPrio => ⟨.dmc, 0x40100, false, 4, 9, 0, 1, 7, 0, 0, true, false⟩ -- R411
  | .cdcCodecCap => ⟨.cdc, 0, false, 0, 1, 0, 1, 0, 0, 0x20000100, false, false⟩ -- Table 5.7
  | .cdcFmtLast => ⟨.cdc, 0x10, false, 0, 1, 0, 1, 0, 0, 0, false, false⟩ -- R127
  | .cdcFmtCount => ⟨.cdc, 0x14, false, 0, 1, 0, 1, 0, 0, 0, false, false⟩ -- Table 5.7
  | .cdcEvent => ⟨.cdc, 0x18, false, 0, 1, 0, 1, 0, 3, 0, false, false⟩ -- Table 5.7
  | .cdcUnitStatus => ⟨.cdc, 0x100, false, 0x10, 32, 0, 1, 0, 0, 0, false, false⟩ -- Table 5.6
  | .cdcUnitSelfchk => ⟨.cdc, 0x104, false, 0x10, 32, 0, 1, 0, 0, 0, false, false⟩ -- R132
  | .cdcUnitBlocks => ⟨.cdc, 0x108, false, 0x10, 32, 0, 1, 0, 0, 0, false, false⟩ -- Table 5.7
  | .cdcUnitStored => ⟨.cdc, 0x10c, false, 0x10, 32, 0, 1, 0, 0, 0, false, false⟩ -- Table 5.7
  | .cmpLeadLines => ⟨.cdc, 0x8000, false, 0, 1, 0, 1, 0xffffff, 0, 0, true, false⟩ -- R101
  | .cmpLockLine => ⟨.cdc, 0x8008, true, 0, 1, 0, 1, 0, 0, 0, false, false⟩ -- R98
  | .cmpRegions => ⟨.cdc, 0x8010, false, 0, 1, 0, 1, 0, 0, 0, false, false⟩ -- Table 4.10
  | .cmpSpoilCount => ⟨.cdc, 0x8014, false, 0, 1, 0, 1, 0, 0, 0, false, false⟩ -- R107
  | .cmpMissingLines => ⟨.cdc, 0x8018, false, 0, 1, 0, 1, 0, 0, 0, false, false⟩ -- R98
  | .cmpIngestFail => ⟨.cdc, 0x801c, false, 0, 1, 0, 1, 0, 0, 0, false, false⟩ -- R95
  | .cmpEvent => ⟨.cdc, 0x8020, false, 0, 1, 0, 1, 0, 0xf, 0, false, false⟩ -- Table 4.10
  | .cmpPassNext => ⟨.cdc, 0x8028, true, 0, 1, 0, 1, 0, 0, 0, false, false⟩ -- R99
  | .cmpPassCur => ⟨.cdc, 0x8030, true, 0, 1, 0, 1, 0, 0, 0, false, false⟩ -- R99
  | .epCtrl => ⟨.hst, 0, false, 0x400, 20, 0, 1, 0xff3, 0, 0, false, false⟩ -- Table 11.9
  | .epStatus => ⟨.hst, 4, false, 0x400, 20, 0, 1, 0, 0, 0, false, false⟩ -- Table 11.11
  | .epMac => ⟨.hst, 8, true, 0x400, 20, 0, 1, 0xffffffffffff, 0, 0, false, false⟩ -- Table 11.11
  | .epVlan => ⟨.hst, 0x10, false, 0x400, 20, 0, 1, 0x1fff, 0, 0, false, false⟩ -- Table 11.11
  | .epIpv4 => ⟨.hst, 0x20, false, 0x400, 20, 4, 4, 0xffffffff, 0, 0, false, false⟩ -- Table 11.11
  | .epIpv6 => ⟨.hst, 0x40, false, 0x400, 20, 4, 16, 0xffffffff, 0, 0, false, false⟩ -- Table 11.11
  | .epTxDlyPs => ⟨.hst, 0x80, false, 0x400, 20, 0, 1, 0xffffff, 0, 0, false, false⟩ -- R308
  | .epRxDlyPs => ⟨.hst, 0x84, false, 0x400, 20, 0, 1, 0xffffff, 0, 0, false, false⟩ -- R308
  | .epMacCorrPs => ⟨.hst, 0x88, false, 0x400, 20, 0, 1, 0xffffffff, 0, 0, false, false⟩ -- R308
  | .epPauseRx => ⟨.hst, 0x90, false, 0x400, 20, 0, 1, 0, 0, 0, false, false⟩ -- R290
  | .epIpDrop => ⟨.hst, 0x94, false, 0x400, 20, 0, 1, 0, 0, 0, false, false⟩ -- R291
  | .epMgmtDrop => ⟨.hst, 0x98, false, 0x400, 20, 0, 1, 0, 0, 0, false, false⟩ -- R291
  | .epTsDrop => ⟨.hst, 0x9c, false, 0x400, 20, 0, 1, 0, 0, 0, false, false⟩ -- R309
  | .epTxts => ⟨.hst, 0xa0, false, 0x400, 20, 4, 4, 0, 0, 0, false, false⟩ -- R309
  | .pcieStatus => ⟨.hst, 0x10000, false, 0, 1, 0, 1, 0, 0, 0, false, false⟩ -- R299
  | .pfWinBase => ⟨.hst, 0x10008, true, 0, 1, 0, 1, 0xffffffff00000000, 0, 0, false, false⟩ -- Table 11.11
  | .pfVec => ⟨.hst, 0x11000, false, 0x10, 64, 0, 1, 0xffffffff, 0, 0, false, false⟩ -- R302
  | .vfVec => ⟨.hst, 0x12000, false, 0x10, 64, 0, 1, 0xffffffff, 0, 0, false, false⟩ -- R302
  | .xptUdpPort => ⟨.hst, 0x20000, false, 0, 1, 0, 1, 0xffff, 0, 0xb7fc, false, false⟩ -- Table 11.11
  | .xptVerMax => ⟨.hst, 0x20004, false, 0, 1, 0, 1, 0xf, 0, 3, false, false⟩ -- Table 11.11
  | .xptRtoUs => ⟨.hst, 0x20008, false, 0, 1, 0, 1, 0xffff, 0, 0xc8, false, false⟩ -- Table 11.11
  | .xptAuthDrop => ⟨.hst, 0x2000c, false, 0, 1, 0, 1, 0, 0, 0, false, false⟩ -- R293
  | .xptSession => ⟨.hst, 0x30000, false, 0x40, 4096, 0, 1, 0, 0, 0, false, false⟩ -- Table 11.11
  | .xptResends => ⟨.hst, 0x30004, false, 0x40, 4096, 0, 1, 0, 0, 0, false, false⟩ -- Table 11.11
  | .tenState => ⟨.ten, 0, false, 0x100, 4096, 0, 1, 3, 0, 0, false, false⟩ -- Table 10.10
  | .tenHandle => ⟨.ten, 4, false, 0x100, 4096, 0, 1, 0, 0, 0, false, false⟩ -- R265
  | .tenSqTail => ⟨.ten, 8, false, 0x100, 4096, 0, 1, 0x1ffff, 0, 0, true, false⟩ -- R272
  | .tenSqHead => ⟨.ten, 0xc, false, 0x100, 4096, 0, 1, 0, 0, 0, false, false⟩ -- R272
  | .tenCqHead => ⟨.ten, 0x10, false, 0x100, 4096, 0, 1, 0x1ffff, 0, 0, true, false⟩ -- R272
  | .tenCqTail => ⟨.ten, 0x14, false, 0x100, 4096, 0, 1, 0, 0, 0, false, false⟩ -- R272
  | .tenCqHostBase => ⟨.ten, 0x18, true, 0x100, 4096, 0, 1, 0xfffffffffffff000, 0, 0, false, false⟩ -- R289
  | .tenDramQuota => ⟨.ten, 0x20, false, 0x100, 4096, 0, 1, 0, 0, 0, false, false⟩ -- Table 10.11
  | .tenDramUsed => ⟨.ten, 0x24, false, 0x100, 4096, 0, 1, 0, 0, 0, false, false⟩ -- Table 10.11
  | .tenRegions => ⟨.ten, 0x28, false, 0x100, 4096, 0, 1, 0, 0, 0, false, false⟩ -- Table 10.11
  | .tenShare => ⟨.ten, 0x2c, false, 0x100, 4096, 0, 1, 0, 0, 0, false, false⟩ -- Table 10.11
  | .tenDbErr => ⟨.ten, 0x30, false, 0x100, 4096, 0, 1, 0, 0, 0, false, false⟩ -- R272
  | .tenEvDrop => ⟨.ten, 0x34, false, 0x100, 4096, 0, 1, 0, 0, 0, false, false⟩ -- R273
  | .tenCqErr => ⟨.ten, 0x38, false, 0x100, 4096, 0, 1, 0, 0, 0, false, false⟩ -- Table 10.9
  | .tenLastErr => ⟨.ten, 0x3c, false, 0x100, 4096, 0, 1, 0, 0, 0, false, false⟩ -- Table 10.11
  | .tenAcctDrops => ⟨.ten, 0x40, false, 0x100, 4096, 4, 3, 0, 0, 0, false, false⟩ -- R283
  | .tenAcctEnergy => ⟨.ten, 0x50, true, 0x100, 4096, 0, 1, 0, 0, 0, false, false⟩ -- R283
  | .tenGlbCount => ⟨.ten, 0x100000, false, 0, 1, 0, 1, 0, 0, 1, false, false⟩ -- Table 10.11
  | .tenGlbParked => ⟨.ten, 0x100004, false, 0, 1, 0, 1, 0, 0, 0, false, false⟩ -- Table 10.11
  | .tenCtxFullCount => ⟨.ten, 0x100008, false, 0, 1, 0, 1, 0, 0, 0, false, false⟩ -- R268
  | .tenPoolUnits => ⟨.ten, 0x10000c, false, 0, 1, 0, 1, 0, 0, 0, false, false⟩ -- R278
  | .tenPoolFree => ⟨.ten, 0x100010, false, 0, 1, 0, 1, 0, 0, 0, false, false⟩ -- R278
  | .tenAccessErr => ⟨.ten, 0x100014, false, 0, 1, 0, 1, 0, 0, 0, false, false⟩ -- R286
  | .tenEvent => ⟨.ten, 0x100018, false, 0, 1, 0, 1, 0, 0xf, 0, false, false⟩ -- Table 10.11

/-- Reset values that differ from one instance to another: the spare engines (Table 6.11), the compressor groups (Table
5.6), slot 0 (R264), the DRAM priorities (Table 16.2); every other register resets to its table's value.
DESIGN CHOICE (log 4); DEDUCED (log 125). -/
def Reg.reset (r : Reg) (inst : Nat) : BitVec 64 :=
  if r = .embStatus then (if 192 ≤ inst then 0x400000ff else 0xff)
  else if r = .cdcUnitStatus then (if inst < 24 then 0 else if inst < 28 then 0x40000 else 0x80000)
  else if r = .tenState ∧ inst = 0 then 0x20000000
  else if r = .tenHandle ∧ inst = 0 then 0x1000
  else if r = .dmcPrio then [7, 7, 6, 5, 4, 4, 3, 2, 1].getD inst 0
  else r.desc.reset

/-- The registers in the order of the tables, part 1. -/
def Reg.part1 : List Reg :=
  [Reg.glbId, Reg.glbBadAccess, Reg.glbReset, Reg.glbBootStage, Reg.glbResetCause, Reg.glbBarShape, Reg.glbBarPitch, Reg.glbFluid, Reg.glbMgmtStatus, Reg.glbWdtCfg, Reg.glbWdtKick, Reg.glbWdtResets, Reg.glbLastErr, Reg.imgCtrl, Reg.imgStatus, Reg.imgError, Reg.imgErrorLoc, Reg.imgSrcAddr, Reg.imgActFire, Reg.imgClampCount, Reg.imgActiveSerial, Reg.imgDigest, Reg.imgClampReport, Reg.posCtrl, Reg.posStatus, Reg.posEvent, Reg.posLine, Reg.posLineFrac, Reg.posFireIndex, Reg.posBindFire, Reg.posBindLine, Reg.posSpeed, Reg.posFirePeriod, Reg.posPassLo, Reg.posPassHi, Reg.posPassCtrl, Reg.posSkipCount, Reg.posDeferCount, Reg.posXcDiff, Reg.posEncStatus]

/-- The registers in the order of the tables, part 2. -/
def Reg.part2 : List Reg :=
  [Reg.posEncCount, Reg.posEncZlatch, Reg.posEncGlitch, Reg.posEncWireCount, Reg.posEncQuadCount, Reg.posPortDelay, Reg.irqSrcCfg, Reg.irqMaskSet, Reg.irqMaskClr, Reg.irqPendSet, Reg.irqPendClr, Reg.irqLevel, Reg.irqClaimN, Reg.irqClaimF, Reg.irqModN, Reg.irqModF, Reg.irqKeeperClaim, Reg.pwrCtrl, Reg.pwrStatus, Reg.pwrEvent, Reg.pwrEstimate, Reg.pwrReserveUsed, Reg.pwrDeltaBytes, Reg.pwrLastBreath, Reg.pwrLostFire, Reg.pwrCkptFire, Reg.pwrCkptSeq, Reg.pwrPfGlitch, Reg.pwrTj, Reg.pwrTaskStatus, Reg.pwrTaskRuns, Reg.pwrTaskMisses, Reg.pwrTaskLastMs, Reg.ptnCtrl, Reg.ptnStatus, Reg.ptnEvent, Reg.ptnTakeFire, Reg.ptnSplices, Reg.ptnMseq, Reg.ptnReelLag]

/-- The registers in the order of the tables, part 3. -/
def Reg.part3 : List Reg :=
  [Reg.ptnCmpCount, Reg.ptnNocmp, Reg.ptnMismatch, Reg.ptnBindDiff, Reg.ptnSurrender, Reg.ptnPartnerDigest, Reg.ctlLoopCtrl, Reg.ctlLoopStatus, Reg.ctlLoopSp, Reg.ctlLoopFb, Reg.ctlLoopInt, Reg.ctlLoopMissed, Reg.ctlLoopStale, Reg.ctlLoopFrozen, Reg.ctlLoopSeqDiscard, Reg.ctlAxCtrl, Reg.ctlAxStatus, Reg.ctlAxPos, Reg.ctlAxVel, Reg.ctlAxMoveTarget, Reg.ctlAxMoveV, Reg.ctlAxMoveA, Reg.ctlAxMoveFlags, Reg.ctlAxLoad, Reg.ctlRcAddr, Reg.ctlRcData, Reg.ctlLoad, Reg.ctlEvent, Reg.lspCrcErr, Reg.asbCrcErr, Reg.secStatus, Reg.secCtrl, Reg.secArg, Reg.secLast, Reg.secDeviceId, Reg.secFwSvn, Reg.secTally, Reg.secToken, Reg.secKeyData, Reg.calCtrl]

/-- The registers in the order of the tables, part 4. -/
def Reg.part4 : List Reg :=
  [Reg.calSel, Reg.calEvent, Reg.calItemStatus, Reg.calItemValue, Reg.calItemCount, Reg.calItemFail, Reg.calItemLastNs, Reg.calItemLastFire, Reg.calItemSet, Reg.nvaStatus, Reg.nvaEvent, Reg.nvaEccCe, Reg.nvaOpCtrl, Reg.nvaOpStatus, Reg.nvaOpAddr, Reg.nvaOpSrc, Reg.nvaOpLines, Reg.nvaOpDone, Reg.tsuCtrl, Reg.tsuTime, Reg.tsuFrac, Reg.tsuInc, Reg.tsuStep, Reg.tsuSet, Reg.toutCtrl, Reg.toutWidth, Reg.toutStart, Reg.toutPeriod, Reg.toutPeriodFrac, Reg.toutMissed, Reg.cueEvent, Reg.cueLastDone, Reg.cueAbort, Reg.cueQuery, Reg.cueQueryResult, Reg.cueSeq, Reg.linkCtrl, Reg.linkStatus, Reg.linkEvent, Reg.headId]

/-- The registers in the order of the tables, part 5. -/
def Reg.part5 : List Reg :=
  [Reg.headCap, Reg.headTiming, Reg.maxFireHz, Reg.joinFire, Reg.hUnderrun, Reg.hLate, Reg.hBatchCrc, Reg.hCheckErr, Reg.hSlateMiss, Reg.hDualAct, Reg.hptSkipped, Reg.hptNoCredit, Reg.hptBlockErr, Reg.hptRelinks, Reg.synCtrl, Reg.synStatus, Reg.updFire, Reg.rowdly, Reg.rowdlyRev, Reg.synEvent, Reg.fcEst, Reg.lmap, Reg.nbr, Reg.xtW, Reg.xtAct, Reg.xtThr, Reg.energy, Reg.fcLast, Reg.rpLine, Reg.rpStatus, Reg.rpD, Reg.rpUnderrun, Reg.rpReadCrc, Reg.hlGlbCtrl, Reg.hlGlbStatus, Reg.hlGlbEvent, Reg.embStatus, Reg.embCtrl, Reg.embBatches, Reg.embTableCe]

/-- The registers in the order of the tables, part 6. -/
def Reg.part6 : List Reg :=
  [Reg.embGlbCap, Reg.embGlbEvent, Reg.embHcCtrl, Reg.embHcColLo, Reg.embHcColHi, Reg.embHcLine, Reg.embHcStatus, Reg.embHcResult, Reg.insCtrl, Reg.insStatus, Reg.insEvent, Reg.insFrameNo, Reg.insCamId, Reg.insMinLineNs, Reg.insTrigDefer, Reg.insTrigSkip, Reg.insLineIncomplete, Reg.insStoreMiss, Reg.insRecDrop, Reg.insUploadSkip, Reg.insRecSlot, Reg.insStatRingBase, Reg.insStatRingCtrl, Reg.insStatRingHead, Reg.insStatRingTail, Reg.insGtAddr, Reg.insGtData, Reg.insMeta, Reg.insStoreSize, Reg.insStoreUsed, Reg.insStoreDrop, Reg.qlCtrl, Reg.qlStatus, Reg.qlEvent, Reg.qlFreeze, Reg.qlLogBase, Reg.qlLogCtrl, Reg.qlLogHead, Reg.qlLogTail, Reg.qlLogDrop]

/-- The registers in the order of the tables, part 7. -/
def Reg.part7 : List Reg :=
  [Reg.qlOuts, Reg.qlSets, Reg.qlDefer, Reg.qlSat, Reg.qlCasDrop, Reg.qlCasRx, Reg.lneCtrl, Reg.lneStatus, Reg.lneEvent, Reg.lneRateKbps, Reg.lneBlockErr, Reg.lneLosCount, Reg.lneRetrains, Reg.lneWakes, Reg.lneScanSkip, Reg.lnePrbsCtrl, Reg.lnePrbsUser, Reg.lnePrbsErr, Reg.lnePrbsBits, Reg.lneLockLoss, Reg.lneInjCtrl, Reg.lneInjCount, Reg.lneDfe, Reg.lneCtle, Reg.cluStatus, Reg.cluRefSwitches, Reg.lneGlbStatus, Reg.lneGlbEvent, Reg.lneGlbCtrl, Reg.lneGlbDown, Reg.dmcStatus, Reg.dmcCeCount, Reg.dmcUeCount, Reg.dmcScrubUe, Reg.dmcPoisonReads, Reg.dmcRetrains, Reg.dmcMargin, Reg.dmcPnrCount, Reg.dmcFrzCmd, Reg.dmcFrzAddr]

/-- The registers in the order of the tables, part 8. -/
def Reg.part8 : List Reg :=
  [Reg.dmcFrzLinear, Reg.dmcFrzSynd, Reg.dmcCeDev, Reg.dmcFrzBanks, Reg.dmcCfg, Reg.dmcEvent, Reg.dmcGrpCtrl, Reg.dmcGrpStatus, Reg.dmcScrubAddr, Reg.dmcScrubPass, Reg.dmcPageIdleNs, Reg.dmcPnrCfg, Reg.dmcCeThr, Reg.dmcTrainMin, Reg.dmcPrio, Reg.cdcCodecCap, Reg.cdcFmtLast, Reg.cdcFmtCount, Reg.cdcEvent, Reg.cdcUnitStatus, Reg.cdcUnitSelfchk, Reg.cdcUnitBlocks, Reg.cdcUnitStored, Reg.cmpLeadLines, Reg.cmpLockLine, Reg.cmpRegions, Reg.cmpSpoilCount, Reg.cmpMissingLines, Reg.cmpIngestFail, Reg.cmpEvent, Reg.cmpPassNext, Reg.cmpPassCur, Reg.epCtrl, Reg.epStatus, Reg.epMac, Reg.epVlan, Reg.epIpv4, Reg.epIpv6, Reg.epTxDlyPs, Reg.epRxDlyPs]

/-- The registers in the order of the tables, part 9. -/
def Reg.part9 : List Reg :=
  [Reg.epMacCorrPs, Reg.epPauseRx, Reg.epIpDrop, Reg.epMgmtDrop, Reg.epTsDrop, Reg.epTxts, Reg.pcieStatus, Reg.pfWinBase, Reg.pfVec, Reg.vfVec, Reg.xptUdpPort, Reg.xptVerMax, Reg.xptRtoUs, Reg.xptAuthDrop, Reg.xptSession, Reg.xptResends, Reg.tenState, Reg.tenHandle, Reg.tenSqTail, Reg.tenSqHead, Reg.tenCqHead, Reg.tenCqTail, Reg.tenCqHostBase, Reg.tenDramQuota, Reg.tenDramUsed, Reg.tenRegions, Reg.tenShare, Reg.tenDbErr, Reg.tenEvDrop, Reg.tenCqErr, Reg.tenLastErr, Reg.tenAcctDrops, Reg.tenAcctEnergy, Reg.tenGlbCount, Reg.tenGlbParked, Reg.tenCtxFullCount, Reg.tenPoolUnits, Reg.tenPoolFree, Reg.tenAccessErr, Reg.tenEvent]

/-- The registers in the order of the tables. -/
def Reg.all : List Reg :=
  Reg.part1 ++ Reg.part2 ++ Reg.part3 ++ Reg.part4 ++ Reg.part5 ++ Reg.part6 ++ Reg.part7 ++ Reg.part8 ++ Reg.part9

/-- Number of instances. -/
def Reg.count (r : Reg) : Nat := r.desc.c1 * r.desc.c2

/-- Control-space offset of the low word of an instance. -/
def Reg.addr (r : Reg) (inst : Nat) : Nat :=
  r.desc.block.base + r.desc.off + r.desc.s1 * (inst / r.desc.c2) + r.desc.s2 * (inst % r.desc.c2)

/-- The instance of r whose low word (false) or high word (true) lies at control-space offset a, if any. -/
def Reg.hit (r : Reg) (a : Nat) : Option (Nat × Bool) :=
  let d := r.desc
  let b := d.block.base + d.off
  if a < b then none else
    let x := a - b
    let i1 := if d.s1 = 0 then 0 else min (x / d.s1) (d.c1 - 1)
    let y := x - d.s1 * i1
    let i2 := if d.s2 = 0 then 0 else min (y / d.s2) (d.c2 - 1)
    let z := y - d.s2 * i2
    if z = 0 then some (i1 * d.c2 + i2, false)
    else if z = 4 ∧ d.wide = true then some (i1 * d.c2 + i2, true)
    else none

/-- The register word at a control-space offset (R429), if a register occupies it. -/
def Reg.find (a : Nat) : Option (Reg × Nat × Bool) :=
  Reg.all.findSome? fun r => (r.hit a).map fun p => (r, p.1, p.2)

end Sys2Proof.Machine
end

