-- ==== Sys2Proof/Config.lean ====
section
/-! DEFINITION. What an implementation or a standard outside the spec fixes, as constants with no body: free values,
secrets and what a standard of another field gives. -/

namespace Sys2Proof.Config

/-- A free value: the n-th value the spec leaves open, drawn by a counter of the state. DESIGN CHOICE (log 6). -/
opaque freeValue : Nat → BitVec 64

/-- Tolerance of DRAM ZQ calibration, which JESD79-5 gives (Table 19.3). DESIGN CHOICE (log 7). -/
opaque zqTolerance : Nat

/-- A device secret derived on the die (R457 and the park key). DESIGN CHOICE (log 7). -/
opaque deviceSecret : Nat → List Byte

/-- The IV under which a FEED block is sealed, from the bytes of its message before the block: the spec names none.
DESIGN CHOICE (log 50). -/
opaque cascadeIv : List Byte → List Byte

end Sys2Proof.Config
end

