-- ==== Sys2Proof/Machine/Bits.lean ====
section
/-! DEFINITION. Bit fields, signed readings, byte orders, exact rounding and cyclic redundancy checks. -/

namespace Sys2Proof.Machine

/-- Bits lsb and up of a number, w of them. -/
def bits (n lsb w : Nat) : Nat := (n >>> lsb) % 2 ^ w

/-- The number with w bits from lsb on replaced by v. -/
def setBits (n lsb w v : Nat) : Nat :=
  n % 2 ^ lsb + (v % 2 ^ w) <<< lsb + (n >>> (lsb + w)) <<< (lsb + w)

/-- One bit of a number. -/
def bitOf (n i : Nat) : Bool := n.testBit i

/-- A number of w bits read in two's complement. -/
def signedOf (w n : Nat) : Int :=
  let m := n % 2 ^ w
  if w ≠ 0 ∧ 2 ^ (w - 1) ≤ m then (m : Int) - (2 ^ w : Nat) else (m : Int)

/-- The w-bit two's complement form of a number. -/
def unsignedOf (w : Nat) (x : Int) : Nat := (x % ((2 ^ w : Nat) : Int)).toNat

/-- A value held between two bounds. -/
def clampInt (x lo hi : Int) : Int := if x < lo then lo else if hi < x then hi else x

/-- A count that stops at the largest w-bit value. DEDUCED (log 17). -/
def satAdd (w a b : Nat) : Nat := min (a + b) (2 ^ w - 1)

/-- Quotient rounded to the nearest integer, ties away from zero. -/
def divRoundAway (a : Int) (b : Nat) : Int :=
  if b = 0 then 0
  else if 0 ≤ a then (2 * a + b) / (2 * b) else -((2 * (-a) + b) / (2 * b))

/-- Quotient rounded to the nearest integer, ties rounded up. -/
def divRoundUp (a : Int) (b : Nat) : Int :=
  if b = 0 then 0 else (2 * a + b) / (2 * b)

/-- Quotient of naturals rounded up. -/
def ceilDiv (a b : Nat) : Nat := if b = 0 then 0 else (a + b - 1) / b

/-- Little-endian bytes as a number. -/
def leNat : List Byte → Nat
  | [] => 0
  | b :: bs => b.toNat + 256 * leNat bs

/-- A number as n little-endian bytes. -/
def leBytes (v : Nat) : Nat → List Byte
  | 0 => []
  | n + 1 => BitVec.ofNat 8 v :: leBytes (v / 256) n

/-- Big-endian bytes as a number. -/
def beNat (bs : List Byte) : Nat := bs.foldl (fun a b => a * 256 + b.toNat) 0

/-- A number as n big-endian bytes. -/
def beBytes (v n : Nat) : List Byte := (leBytes v n).reverse

/-- The 32-bit little-endian word at a byte offset. -/
def le32At (bs : List Byte) (off : Nat) : Nat := leNat ((bs.drop off).take 4)

/-- Bytes as 32-bit little-endian words. -/
def leWords (bs : List Byte) : List Nat :=
  (List.range (bs.length / 4)).map fun i => le32At bs (4 * i)

/-- A number as n 32-bit words, the lowest first. -/
def wordsOf (v : Nat) : Nat → List Nat
  | 0 => []
  | n + 1 => v % 2 ^ 32 :: wordsOf (v / 2 ^ 32) n

/-- One reflected CRC step for n bits, least significant first. -/
def crcStep (poly : Nat) : Nat → Nat → Nat
  | 0, c => c
  | n + 1, c => crcStep poly n (if c % 2 = 1 then (c / 2) ^^^ poly else c / 2)

/-- A reflected CRC over bytes from a start value, before the final XOR. -/
def crcReflected (poly init : Nat) (bs : List Byte) : Nat :=
  bs.foldl (fun c b => crcStep poly 8 (c ^^^ b.toNat)) init

/-- CRC-32C (R34). -/
def crc32c (bs : List Byte) : Nat := crcReflected 0x82f63b78 0xffffffff bs ^^^ 0xffffffff

/-- One step, for n bits, of a CRC of width w processed most significant bit first. -/
def crcStepMsb (w poly : Nat) : Nat → Nat → Nat
  | 0, c => c
  | n + 1, c =>
    crcStepMsb w poly n (if c.testBit (w - 1) then (2 * c % 2 ^ w) ^^^ poly else 2 * c % 2 ^ w)

/-- A CRC of width w (8 or more) over bytes, most significant bit first. -/
def crcMsb (w poly init : Nat) (bs : List Byte) : Nat :=
  bs.foldl (fun c b => crcStepMsb w poly 8 (c ^^^ (b.toNat <<< (w - 8)))) init

/-- Frame number or counter comparison modulo 2^32 with a window of 2^31: a is newer than b (R28). -/
def newer32 (a b : Nat) : Bool :=
  let d := (a + 2 ^ 32 - b % 2 ^ 32) % 2 ^ 32
  d != 0 && decide (d < 2 ^ 31)

/-- A list with one place replaced. -/
def setAt {α : Type} (l : List α) (i : Nat) (v : α) : List α := l.set i v

/-- The least element of a list of numbers, if any. -/
def leastOf : List Nat → Option Nat
  | [] => none
  | a :: t => match leastOf t with
    | none => some a
    | some b => some (min a b)

end Sys2Proof.Machine
end

