-- ==== Sys2Proof/Machine/Codes.lean ====
section
/-! DEFINITION. The status codes of Table 17.7 and their numeric values (R443). -/

namespace Sys2Proof.Machine

/-- A status or error code (R12), by the name of Table 17.7 without its E_. -/
inductive ECode where
  | transit -- E_TRANSIT
  | cueNoAbort -- E_CUE_NO_ABORT
  | nvaBusy -- E_NVA_BUSY
  | nvaSelfBank -- E_NVA_SELF_BANK
  | nvaRange -- E_NVA_RANGE
  | nvaAborted -- E_NVA_ABORTED
  | nvaEcc -- E_NVA_ECC
  | mgmtOverload -- E_MGMT_OVERLOAD
  | mgmtWdt -- E_MGMT_WDT
  | imgMagic -- E_IMG_MAGIC
  | imgVersion -- E_IMG_VERSION
  | imgIncomplete -- E_IMG_INCOMPLETE
  | imgFormat -- E_IMG_FORMAT
  | imgSignature -- E_IMG_SIGNATURE
  | imgSection -- E_IMG_SECTION
  | imgMissing -- E_IMG_MISSING
  | imgCoverage -- E_IMG_COVERAGE
  | imgGeometry -- E_IMG_GEOMETRY
  | imgBusy -- E_IMG_BUSY
  | imgNotStopped -- E_IMG_NOT_STOPPED
  | imgNotHot -- E_IMG_NOT_HOT
  | imgFirePast -- E_IMG_FIRE_PAST
  | imgDigest -- E_IMG_DIGEST
  | imgEngine -- E_IMG_ENGINE
  | imgLoop -- E_IMG_LOOP
  | fireIndexEnd -- E_FIRE_INDEX_END
  | posNoImage -- E_POS_NO_IMAGE
  | posSkipped -- E_POS_SKIPPED
  | posOverspeed -- E_POS_OVERSPEED
  | posPassBusy -- E_POS_PASS_BUSY
  | posPdRange -- E_POS_PD_RANGE
  | posFiring -- E_POS_FIRING
  | posXcheck -- E_POS_XCHECK
  | posDeadreckEnd -- E_POS_DEADRECK_END
  | calInput -- E_CAL_INPUT
  | calDisagree -- E_CAL_DISAGREE
  | clkEthref -- E_CLK_ETHREF
  | clkPcieref -- E_CLK_PCIEREF
  | regionFull -- E_REGION_FULL
  | regionBounds -- E_REGION_BOUNDS
  | regionOverlap -- E_REGION_OVERLAP
  | regionLate -- E_REGION_LATE
  | regionOwner -- E_REGION_OWNER
  | reelFull -- E_REEL_FULL
  | reelFormat -- E_REEL_FORMAT
  | reelCrc -- E_REEL_CRC
  | reelAuth -- E_REEL_AUTH
  | reelIv -- E_REEL_IV
  | reelReadCrc -- E_REEL_READ_CRC
  | blockOrder -- E_BLOCK_ORDER
  | blockLate -- E_BLOCK_LATE
  | blockLocked -- E_BLOCK_LOCKED
  | blockMissing -- E_BLOCK_MISSING
  | rpUnderrun -- E_RP_UNDERRUN
  | cdcSelfcheck -- E_CDC_SELFCHECK
  | cdcUnitFault -- E_CDC_UNIT_FAULT
  | embFault -- E_EMB_FAULT
  | embNoSpare -- E_EMB_NO_SPARE
  | embHealthPast -- E_EMB_HEALTH_PAST
  | embHealthFull -- E_EMB_HEALTH_FULL
  | embHealthBusy -- E_EMB_HEALTH_BUSY
  | embColumnDead -- E_EMB_COLUMN_DEAD
  | nztStageFull -- E_NZT_STAGE_FULL
  | nztFirePast -- E_NZT_FIRE_PAST
  | nztBusy -- E_NZT_BUSY
  | nztAborted -- E_NZT_ABORTED
  | fcLate -- E_FC_LATE
  | embHealthRange -- E_EMB_HEALTH_RANGE
  | hlDown -- E_HL_DOWN
  | hlHead -- E_HL_HEAD
  | hlSkip -- E_HL_SKIP
  | hlNoCredit -- E_HL_NO_CREDIT
  | hlRate -- E_HL_RATE
  | hlVersion -- E_HL_VERSION
  | hlNotReady -- E_HL_NOT_READY
  | hlLane -- E_HL_LANE
  | hlEcho -- E_HL_ECHO
  | insCamDown -- E_INS_CAM_DOWN
  | insVersion -- E_INS_VERSION
  | insRate -- E_INS_RATE
  | insLine -- E_INS_LINE
  | insRunning -- E_INS_RUNNING
  | insTable -- E_INS_TABLE
  | insStoreFull -- E_INS_STORE_FULL
  | insRingFull -- E_INS_RING_FULL
  | qlReassignLate -- E_QL_REASSIGN_LATE
  | qlLogFull -- E_QL_LOG_FULL
  | qlCasDown -- E_QL_CAS_DOWN
  | qlCasDrop -- E_QL_CAS_DROP
  | qlRunning -- E_QL_RUNNING
  | ctxOwner -- E_CTX_OWNER
  | ctxStale -- E_CTX_STALE
  | ctxBind -- E_CTX_BIND
  | ctxSlotBusy -- E_CTX_SLOT_BUSY
  | ctxFull -- E_CTX_FULL
  | ctxKey -- E_CTX_KEY
  | ctxBusy -- E_CTX_BUSY
  | ctxClosed -- E_CTX_CLOSED
  | ctxFreed -- E_CTX_FREED
  | ctxRestored -- E_CTX_RESTORED
  | ctxSpliced -- E_CTX_SPLICED
  | parkFull -- E_PARK_FULL
  | parkUnknown -- E_PARK_UNKNOWN
  | parkLost -- E_PARK_LOST
  | quotaDram -- E_QUOTA_DRAM
  | quotaRegions -- E_QUOTA_REGIONS
  | ringDoorbell -- E_RING_DOORBELL
  | ringOpcode -- E_RING_OPCODE
  | ringEntry -- E_RING_ENTRY
  | tenAccess -- E_TEN_ACCESS
  | epBusy -- E_EP_BUSY
  | epLink -- E_EP_LINK
  | xptSrc -- E_XPT_SRC
  | xptSessionLost -- E_XPT_SESSION_LOST
  | pcieFlr -- E_PCIE_FLR
  | tsuRange -- E_TSU_RANGE
  | tsuPast -- E_TSU_PAST
  | tsuFifo -- E_TSU_FIFO
  | ptnSplice -- E_PTN_SPLICE
  | ptnNoStandby -- E_PTN_NO_STANDBY
  | ptnHb -- E_PTN_HB
  | ptnDual -- E_PTN_DUAL
  | ptnMirror -- E_PTN_MIRROR
  | ptnStandby -- E_PTN_STANDBY
  | ptnMismatch -- E_PTN_MISMATCH
  | ptnDigest -- E_PTN_DIGEST
  | ptnRemoveRefused -- E_PTN_REMOVE_REFUSED
  | pwrSpeed -- E_PWR_SPEED
  | pwrDeadline -- E_PWR_DEADLINE
  | pwrOver -- E_PWR_OVER
  | pwrHot -- E_PWR_HOT
  | pwrThermalStop -- E_PWR_THERMAL_STOP
  | pwrTrip -- E_PWR_TRIP
  | pwrSupply -- E_PWR_SUPPLY
  | pwrCkpt -- E_PWR_CKPT
  | pwrPfRecover -- E_PWR_PF_RECOVER
  | breathPartial -- E_BREATH_PARTIAL
  | breathIncomplete -- E_BREATH_INCOMPLETE
  | ctlMissed -- E_CTL_MISSED
  | ctlFbStale -- E_CTL_FB_STALE
  | ctlFbFrozen -- E_CTL_FB_FROZEN
  | ctlFb -- E_CTL_FB
  | ctlSafe -- E_CTL_SAFE
  | ctlRunning -- E_CTL_RUNNING
  | axQueueFull -- E_AX_QUEUE_FULL
  | axRange -- E_AX_RANGE
  | axLimit -- E_AX_LIMIT
  | axPosLost -- E_AX_POS_LOST
  | axBusy -- E_AX_BUSY
  | axHome -- E_AX_HOME
  | axFault -- E_AX_FAULT
  | lneDown -- E_LNE_DOWN
  | lneTrain -- E_LNE_TRAIN
  | lneRef -- E_LNE_REF
  | lneRefLost -- E_LNE_REF_LOST
  | lneRail -- E_LNE_RAIL
  | lneMargin -- E_LNE_MARGIN
  | lneBusy -- E_LNE_BUSY
  | lneFiring -- E_LNE_FIRING
  | dmcConfig -- E_DMC_CONFIG
  | dmcFreeze -- E_DMC_FREEZE
  | dmcGroupLost -- E_DMC_GROUP_LOST
  | dmcCtlLost -- E_DMC_CTL_LOST
  | dmcScrubUe -- E_DMC_SCRUB_UE
  | dmcOwnerPoison -- E_DMC_OWNER_POISON
  | dmcPoison -- E_DMC_POISON
  | dmcCeDevice -- E_DMC_CE_DEVICE
  | dmcTrainKept -- E_DMC_TRAIN_KEPT
  | dmcTrainFail -- E_DMC_TRAIN_FAIL
  | dmcBusy -- E_DMC_BUSY
  | secBoot -- E_SEC_BOOT
  | secVersion -- E_SEC_VERSION
  | secKeyRevoked -- E_SEC_KEY_REVOKED
  | secLcDenied -- E_SEC_LC_DENIED
  | secLcCount -- E_SEC_LC_COUNT
  | secFuseCount -- E_SEC_FUSE_COUNT
  | secDebugLocked -- E_SEC_DEBUG_LOCKED
  | secVoltage -- E_SEC_VOLTAGE
  deriving DecidableEq, Repr

/-- The 16-bit value of a code: group in [15:8], position in the row of Table 17.7 in [7:0] (R443). -/
def ECode.code : ECode → BitVec 16
  | .transit => 0x0101
  | .cueNoAbort => 0x0102
  | .nvaBusy => 0x0103
  | .nvaSelfBank => 0x0104
  | .nvaRange => 0x0105
  | .nvaAborted => 0x0106
  | .nvaEcc => 0x0107
  | .mgmtOverload => 0x0108
  | .mgmtWdt => 0x0109
  | .imgMagic => 0x0201
  | .imgVersion => 0x0202
  | .imgIncomplete => 0x0203
  | .imgFormat => 0x0204
  | .imgSignature => 0x0205
  | .imgSection => 0x0206
  | .imgMissing => 0x0207
  | .imgCoverage => 0x0208
  | .imgGeometry => 0x0209
  | .imgBusy => 0x020a
  | .imgNotStopped => 0x020b
  | .imgNotHot => 0x020c
  | .imgFirePast => 0x020d
  | .imgDigest => 0x020e
  | .imgEngine => 0x020f
  | .imgLoop => 0x0210
  | .fireIndexEnd => 0x0301
  | .posNoImage => 0x0302
  | .posSkipped => 0x0303
  | .posOverspeed => 0x0304
  | .posPassBusy => 0x0305
  | .posPdRange => 0x0306
  | .posFiring => 0x0307
  | .posXcheck => 0x0308
  | .posDeadreckEnd => 0x0309
  | .calInput => 0x0401
  | .calDisagree => 0x0402
  | .clkEthref => 0x0403
  | .clkPcieref => 0x0404
  | .regionFull => 0x0501
  | .regionBounds => 0x0502
  | .regionOverlap => 0x0503
  | .regionLate => 0x0504
  | .regionOwner => 0x0505
  | .reelFull => 0x0506
  | .reelFormat => 0x0507
  | .reelCrc => 0x0508
  | .reelAuth => 0x0509
  | .reelIv => 0x050a
  | .reelReadCrc => 0x050b
  | .blockOrder => 0x050c
  | .blockLate => 0x050d
  | .blockLocked => 0x050e
  | .blockMissing => 0x050f
  | .rpUnderrun => 0x0510
  | .cdcSelfcheck => 0x0601
  | .cdcUnitFault => 0x0602
  | .embFault => 0x0701
  | .embNoSpare => 0x0702
  | .embHealthPast => 0x0703
  | .embHealthFull => 0x0704
  | .embHealthBusy => 0x0705
  | .embColumnDead => 0x0706
  | .nztStageFull => 0x0707
  | .nztFirePast => 0x0708
  | .nztBusy => 0x0709
  | .nztAborted => 0x070a
  | .fcLate => 0x070b
  | .embHealthRange => 0x070c
  | .hlDown => 0x0801
  | .hlHead => 0x0802
  | .hlSkip => 0x0803
  | .hlNoCredit => 0x0804
  | .hlRate => 0x0805
  | .hlVersion => 0x0806
  | .hlNotReady => 0x0807
  | .hlLane => 0x0808
  | .hlEcho => 0x0809
  | .insCamDown => 0x0901
  | .insVersion => 0x0902
  | .insRate => 0x0903
  | .insLine => 0x0904
  | .insRunning => 0x0905
  | .insTable => 0x0906
  | .insStoreFull => 0x0907
  | .insRingFull => 0x0908
  | .qlReassignLate => 0x0a01
  | .qlLogFull => 0x0a02
  | .qlCasDown => 0x0a03
  | .qlCasDrop => 0x0a04
  | .qlRunning => 0x0a05
  | .ctxOwner => 0x0b01
  | .ctxStale => 0x0b02
  | .ctxBind => 0x0b03
  | .ctxSlotBusy => 0x0b04
  | .ctxFull => 0x0b05
  | .ctxKey => 0x0b06
  | .ctxBusy => 0x0b07
  | .ctxClosed => 0x0b08
  | .ctxFreed => 0x0b09
  | .ctxRestored => 0x0b0a
  | .ctxSpliced => 0x0b0b
  | .parkFull => 0x0b0c
  | .parkUnknown => 0x0b0d
  | .parkLost => 0x0b0e
  | .quotaDram => 0x0b0f
  | .quotaRegions => 0x0b10
  | .ringDoorbell => 0x0b11
  | .ringOpcode => 0x0b12
  | .ringEntry => 0x0b13
  | .tenAccess => 0x0b14
  | .epBusy => 0x0c01
  | .epLink => 0x0c02
  | .xptSrc => 0x0c03
  | .xptSessionLost => 0x0c04
  | .pcieFlr => 0x0c05
  | .tsuRange => 0x0c06
  | .tsuPast => 0x0c07
  | .tsuFifo => 0x0c08
  | .ptnSplice => 0x0d01
  | .ptnNoStandby => 0x0d02
  | .ptnHb => 0x0d03
  | .ptnDual => 0x0d04
  | .ptnMirror => 0x0d05
  | .ptnStandby => 0x0d06
  | .ptnMismatch => 0x0d07
  | .ptnDigest => 0x0d08
  | .ptnRemoveRefused => 0x0d09
  | .pwrSpeed => 0x0e01
  | .pwrDeadline => 0x0e02
  | .pwrOver => 0x0e03
  | .pwrHot => 0x0e04
  | .pwrThermalStop => 0x0e05
  | .pwrTrip => 0x0e06
  | .pwrSupply => 0x0e07
  | .pwrCkpt => 0x0e08
  | .pwrPfRecover => 0x0e09
  | .breathPartial => 0x0e0a
  | .breathIncomplete => 0x0e0b
  | .ctlMissed => 0x0f01
  | .ctlFbStale => 0x0f02
  | .ctlFbFrozen => 0x0f03
  | .ctlFb => 0x0f04
  | .ctlSafe => 0x0f05
  | .ctlRunning => 0x0f06
  | .axQueueFull => 0x0f07
  | .axRange => 0x0f08
  | .axLimit => 0x0f09
  | .axPosLost => 0x0f0a
  | .axBusy => 0x0f0b
  | .axHome => 0x0f0c
  | .axFault => 0x0f0d
  | .lneDown => 0x1001
  | .lneTrain => 0x1002
  | .lneRef => 0x1003
  | .lneRefLost => 0x1004
  | .lneRail => 0x1005
  | .lneMargin => 0x1006
  | .lneBusy => 0x1007
  | .lneFiring => 0x1008
  | .dmcConfig => 0x1101
  | .dmcFreeze => 0x1102
  | .dmcGroupLost => 0x1103
  | .dmcCtlLost => 0x1104
  | .dmcScrubUe => 0x1105
  | .dmcOwnerPoison => 0x1106
  | .dmcPoison => 0x1107
  | .dmcCeDevice => 0x1108
  | .dmcTrainKept => 0x1109
  | .dmcTrainFail => 0x110a
  | .dmcBusy => 0x110b
  | .secBoot => 0x1201
  | .secVersion => 0x1202
  | .secKeyRevoked => 0x1203
  | .secLcDenied => 0x1204
  | .secLcCount => 0x1205
  | .secFuseCount => 0x1206
  | .secDebugLocked => 0x1207
  | .secVoltage => 0x1208

/-- The value of a result that may be success (0x0000, R443). -/
def ECode.codeOf : Option ECode → BitVec 16
  | none => 0
  | some e => e.code

end Sys2Proof.Machine
end

