-- ==== Sys2Proof/Machine/Crypto.lean ====
section
/-! DEFINITION. The cryptographic standards the spec names: SHA-384 (FIPS 180-4), ECDSA P-384 verification (FIPS 186-5), AES-256
(FIPS 197) in GCM (SP 800-38D) and key wrap (RFC 3394). -/

namespace Sys2Proof.Machine

/-! ### SHA-384 (R36, R49, R451) -/

/-- The round constants of SHA-384. -/
def sha384K : List Nat :=
  [0x428a2f98d728ae22, 0x7137449123ef65cd, 0xb5c0fbcfec4d3b2f, 0xe9b5dba58189dbbc] ++
  [0x3956c25bf348b538, 0x59f111f1b605d019, 0x923f82a4af194f9b, 0xab1c5ed5da6d8118] ++
  [0xd807aa98a3030242, 0x12835b0145706fbe, 0x243185be4ee4b28c, 0x550c7dc3d5ffb4e2] ++
  [0x72be5d74f27b896f, 0x80deb1fe3b1696b1, 0x9bdc06a725c71235, 0xc19bf174cf692694] ++
  [0xe49b69c19ef14ad2, 0xefbe4786384f25e3, 0xfc19dc68b8cd5b5, 0x240ca1cc77ac9c65] ++
  [0x2de92c6f592b0275, 0x4a7484aa6ea6e483, 0x5cb0a9dcbd41fbd4, 0x76f988da831153b5] ++
  [0x983e5152ee66dfab, 0xa831c66d2db43210, 0xb00327c898fb213f, 0xbf597fc7beef0ee4] ++
  [0xc6e00bf33da88fc2, 0xd5a79147930aa725, 0x6ca6351e003826f, 0x142929670a0e6e70] ++
  [0x27b70a8546d22ffc, 0x2e1b21385c26c926, 0x4d2c6dfc5ac42aed, 0x53380d139d95b3df] ++
  [0x650a73548baf63de, 0x766a0abb3c77b2a8, 0x81c2c92e47edaee6, 0x92722c851482353b] ++
  [0xa2bfe8a14cf10364, 0xa81a664bbc423001, 0xc24b8b70d0f89791, 0xc76c51a30654be30] ++
  [0xd192e819d6ef5218, 0xd69906245565a910, 0xf40e35855771202a, 0x106aa07032bbd1b8] ++
  [0x19a4c116b8d2d0c8, 0x1e376c085141ab53, 0x2748774cdf8eeb99, 0x34b0bcb5e19b48a8] ++
  [0x391c0cb3c5c95a63, 0x4ed8aa4ae3418acb, 0x5b9cca4f7763e373, 0x682e6ff3d6b2b8a3] ++
  [0x748f82ee5defb2fc, 0x78a5636f43172f60, 0x84c87814a1f0ab72, 0x8cc702081a6439ec] ++
  [0x90befffa23631e28, 0xa4506cebde82bde9, 0xbef9a3f7b2c67915, 0xc67178f2e372532b] ++
  [0xca273eceea26619c, 0xd186b8c721c0c207, 0xeada7dd6cde0eb1e, 0xf57d4f7fee6ed178] ++
  [0x6f067aa72176fba, 0xa637dc5a2c898a6, 0x113f9804bef90dae, 0x1b710b35131c471b] ++
  [0x28db77f523047d84, 0x32caab7b40c72493, 0x3c9ebe0a15c9bebc, 0x431d67c49c100d4c] ++
  [0x4cc5d4becb3e42b6, 0x597f299cfc657e2a, 0x5fcb6fab3ad6faec, 0x6c44198c4a475817]

/-- The initial hash value of SHA-384. -/
def sha384Init : List Nat :=
  [0xcbbb9d5dc1059ed8, 0x629a292a367cd507, 0x9159015a3070dd17, 0x152fecd8f70e5939] ++
  [0x67332667ffc00b31, 0x8eb44a8768581511, 0xdb0c2e0d64f98fa7, 0x47b5481dbefa4fa4]

/-- A 64-bit rotation to the right. -/
def rotr64 (x n : Nat) : Nat := (x >>> n) ||| (x <<< (64 - n)) % 2 ^ 64

/-- The message schedule, newest word first: n words follow. -/
def sha384Schedule : Nat → List Nat → List Nat
  | 0, ws => ws
  | n + 1, ws =>
    let a := ws.getD 1 0
    let b := ws.getD 14 0
    let s1 := rotr64 a 19 ^^^ rotr64 a 61 ^^^ (a >>> 6)
    let s0 := rotr64 b 1 ^^^ rotr64 b 8 ^^^ (b >>> 7)
    sha384Schedule n (((s1 + ws.getD 6 0 + s0 + ws.getD 15 0) % 2 ^ 64) :: ws)

/-- One round with a constant and a schedule word. -/
def sha384Round (h : List Nat) (kw : Nat × Nat) : List Nat :=
  match h with
  | [a, b, c, d, e, f, g, x] =>
    let t1 := x + (rotr64 e 14 ^^^ rotr64 e 18 ^^^ rotr64 e 41) + ((e &&& f) ^^^ ((2 ^ 64 - 1 - e) &&& g)) + kw.1 + kw.2
    let t2 := (rotr64 a 28 ^^^ rotr64 a 34 ^^^ rotr64 a 39) + ((a &&& b) ^^^ (a &&& c) ^^^ (b &&& c))
    [(t1 + t2) % 2 ^ 64, a, b, c, (d + t1) % 2 ^ 64, e, f, g]
  | _ => h

/-- One block of 16 words. -/
def sha384Block (h ws : List Nat) : List Nat :=
  let sched := (sha384Schedule 64 ws.reverse).reverse
  (h.zip ((sha384K.zip sched).foldl sha384Round h)).map fun p => (p.1 + p.2) % 2 ^ 64

/-- The blocks of a padded message: n of them. -/
def sha384Blocks : Nat → List Nat → List Nat → List Nat
  | 0, h, _ => h
  | n + 1, h, ws => sha384Blocks n (sha384Block h (ws.take 16)) (ws.drop 16)

/-- Bytes as big-endian words of 8 bytes: n of them. -/
def beWords64 : Nat → List Byte → List Nat
  | 0, _ => []
  | n + 1, bs => beNat (bs.take 8) :: beWords64 n (bs.drop 8)

/-- SHA-384 (FIPS 180-4), its first byte the most significant. -/
def sha384 (bs : List Byte) : BitVec 384 :=
  let blocks := (bs.length + 17 + 127) / 128
  let pad := bs ++ [0x80] ++ List.replicate (128 * blocks - bs.length - 17) 0 ++ beBytes (8 * bs.length) 16
  let h := sha384Blocks blocks sha384Init (beWords64 (16 * blocks) pad)
  BitVec.ofNat 384 ((h.take 6).foldl (fun a x => a * 2 ^ 64 + x) 0)

/-! ### ECDSA P-384 (R36, R451, R456) -/

/-- The prime of the field, the order of the group, and the coefficient b of P-384. -/
def p384P : Nat := 2 ^ 384 - 2 ^ 128 - 2 ^ 96 + 2 ^ 32 - 1
def p384N : Nat :=
  0xffffffffffffffffffffffffffffffffffffffffffffffffc7634d81f4372ddf581a0db248b0a77aecec196accc52973
def p384B : Nat :=
  0xb3312fa7e23ee7e4988e056be3f82d19181d9c6efe8141120314088f5013875ac656398d8a2ed19d2a85c8edd3ec2aef

/-- The base point. -/
def p384G : Nat × Nat :=
  (0xaa87ca22be8b05378eb1c71ef320ad746e1d3b628ba79b9859f741e082542a385502f25dbf55296c3a545e3872760ab7,
   0x3617de4a96262c6f5d9e98bf9292dc29f8f41dbd289a147ce9da3113b5f0b8c00a60b1ce1d7e819d7a431d7c90ea0e5f)

/-- A power modulo m by the bits of the exponent, k of them from the lowest. -/
def powMod (m : Nat) : Nat → Nat → Nat → Nat
  | 0, _, _ => 1 % m
  | k + 1, x, e => (if e % 2 = 1 then x else 1) * powMod m k (x * x % m) (e / 2) % m

/-- The inverse modulo one of the two primes. -/
def invMod (m x : Nat) : Nat := powMod m 384 (x % m) (m - 2)

/-- A point of the curve in Jacobian coordinates: Z is 0 at infinity. -/
structure JPoint where
  x : Nat
  y : Nat
  z : Nat
  deriving DecidableEq, Repr

/-- The point at infinity. -/
def JPoint.zero : JPoint := ⟨1, 1, 0⟩

/-- The point of affine coordinates. -/
def JPoint.of (q : Nat × Nat) : JPoint := ⟨q.1, q.2, 1⟩

/-- Difference in the field. -/
def fsub (a b : Nat) : Nat := (a + p384P - b % p384P) % p384P

/-- Twice a point, with a = -3. -/
def JPoint.dbl (q : JPoint) : JPoint :=
  let d := q.z * q.z % p384P
  let g := q.y * q.y % p384P
  let b := q.x * g % p384P
  let a := 3 * (fsub q.x d * (q.x + d)) % p384P
  let x := fsub (a * a % p384P) (8 * b)
  let t := (q.y + q.z) * (q.y + q.z) % p384P
  let z := fsub (fsub t g) d
  let y := fsub (a * fsub (4 * b) x % p384P) (8 * (g * g % p384P))
  ⟨x, y, z⟩

/-- The sum of two points. -/
def JPoint.add (p q : JPoint) : JPoint :=
  if p.z = 0 then q
  else if q.z = 0 then p
  else
    let z1 := p.z * p.z % p384P
    let z2 := q.z * q.z % p384P
    let u1 := p.x * z2 % p384P
    let u2 := q.x * z1 % p384P
    let s1 := p.y * (q.z * z2 % p384P) % p384P
    let s2 := q.y * (p.z * z1 % p384P) % p384P
    if u1 = u2 then (if s1 = s2 then p.dbl else JPoint.zero)
    else
      let h := fsub u2 u1
      let r := fsub s2 s1
      let hh := h * h % p384P
      let hhh := h * hh % p384P
      let v := u1 * hh % p384P
      let x := fsub (fsub (r * r % p384P) hhh) (2 * v)
      let y := fsub (r * fsub v x % p384P) (s1 * hhh % p384P)
      ⟨x, y, h * (p.z * q.z % p384P) % p384P⟩

/-- u times p plus v times q, by the k lowest bits of u and v, the highest first. -/
def JPoint.mul2 (p q pq : JPoint) (u v : Nat) : Nat → JPoint → JPoint
  | 0, acc => acc
  | k + 1, acc =>
    let a := acc.dbl
    let b := match u.testBit k, v.testBit k with
      | true, true => a.add pq
      | true, false => a.add p
      | false, true => a.add q
      | false, false => a
    JPoint.mul2 p q pq u v k b

/-- The sum of a multiple of one point and a multiple of another. -/
def JPoint.comb (p q : JPoint) (u v : Nat) : JPoint := JPoint.mul2 p q (p.add q) u v 384 JPoint.zero

/-- The affine coordinates of a point that is not at infinity. -/
def JPoint.affine (q : JPoint) : Nat × Nat :=
  let i := invMod p384P q.z
  let i2 := i * i % p384P
  (q.x * i2 % p384P, q.y * (i2 * i % p384P) % p384P)

/-- The point lies on the curve. -/
def onP384 (q : Nat × Nat) : Bool :=
  decide (q.1 < p384P) && decide (q.2 < p384P) &&
    q.2 * q.2 % p384P == (q.1 * q.1 * q.1 + (p384P - 3) * q.1 + p384B) % p384P

/-- ECDSA verification (FIPS 186-5) under a public key of 96 bytes: its two coordinates, big-endian. -/
def ecdsaVerify (key : List Byte) (digest r s : BitVec 384) : Bool :=
  let q := (beNat (key.take 48), beNat ((key.drop 48).take 48))
  let r' := r.toNat
  let s' := s.toNat
  if key.length ≠ 96 ∨ !onP384 q ∨ r' = 0 ∨ s' = 0 ∨ p384N ≤ r' ∨ p384N ≤ s' then false
  else
    let w := invMod p384N s'
    let x := JPoint.comb (JPoint.of p384G) (JPoint.of q) (digest.toNat * w % p384N) (r' * w % p384N)
    x.z % p384P != 0 && (x.affine.1 % p384N == r')

/-- The public keys under which a signature verifies, at most four: each point whose x is r modulo n gives one. -/
def ecdsaKeys (digest : BitVec 384) (r s : Nat) : List (List Byte) :=
  let i := invMod p384N r
  [r, r + p384N].flatMap fun x =>
    let c := (x * x * x + (p384P - 3) * x + p384B) % p384P
    let y := powMod p384P 384 c ((p384P + 1) / 4)
    if p384P ≤ x ∨ y * y % p384P ≠ c then []
    else [y, p384P - y].map fun y =>
      let q := (JPoint.comb (JPoint.of p384G) (JPoint.of (x, y)) ((p384N - digest.toNat % p384N) * i % p384N)
        (s * i % p384N)).affine
      beBytes q.1 48 ++ beBytes q.2 48

/-- ECDSA verification under a key that is known by its SHA-384 alone, as a root slot of the fuses names it (R451): some
key with that hash verifies the signature, R then S, big-endian. DESIGN CHOICE (log 7). -/
def rootVerify (keyHash digest : BitVec 384) (signature : List Byte) : Bool :=
  let r := beNat (signature.take 48)
  let s := beNat ((signature.drop 48).take 48)
  (ecdsaKeys digest r s).any fun k =>
    sha384 k == keyHash && ecdsaVerify k digest (BitVec.ofNat 384 r) (BitVec.ofNat 384 s)

/-! ### AES-256 (FIPS 197) -/

/-- The substitution box. -/
def aesSbox : List Nat :=
  [0x63, 0x7c, 0x77, 0x7b, 0xf2, 0x6b, 0x6f, 0xc5, 0x30, 0x1, 0x67, 0x2b, 0xfe, 0xd7, 0xab, 0x76] ++
  [0xca, 0x82, 0xc9, 0x7d, 0xfa, 0x59, 0x47, 0xf0, 0xad, 0xd4, 0xa2, 0xaf, 0x9c, 0xa4, 0x72, 0xc0] ++
  [0xb7, 0xfd, 0x93, 0x26, 0x36, 0x3f, 0xf7, 0xcc, 0x34, 0xa5, 0xe5, 0xf1, 0x71, 0xd8, 0x31, 0x15] ++
  [0x4, 0xc7, 0x23, 0xc3, 0x18, 0x96, 0x5, 0x9a, 0x7, 0x12, 0x80, 0xe2, 0xeb, 0x27, 0xb2, 0x75] ++
  [0x9, 0x83, 0x2c, 0x1a, 0x1b, 0x6e, 0x5a, 0xa0, 0x52, 0x3b, 0xd6, 0xb3, 0x29, 0xe3, 0x2f, 0x84] ++
  [0x53, 0xd1, 0x0, 0xed, 0x20, 0xfc, 0xb1, 0x5b, 0x6a, 0xcb, 0xbe, 0x39, 0x4a, 0x4c, 0x58, 0xcf] ++
  [0xd0, 0xef, 0xaa, 0xfb, 0x43, 0x4d, 0x33, 0x85, 0x45, 0xf9, 0x2, 0x7f, 0x50, 0x3c, 0x9f, 0xa8] ++
  [0x51, 0xa3, 0x40, 0x8f, 0x92, 0x9d, 0x38, 0xf5, 0xbc, 0xb6, 0xda, 0x21, 0x10, 0xff, 0xf3, 0xd2] ++
  [0xcd, 0xc, 0x13, 0xec, 0x5f, 0x97, 0x44, 0x17, 0xc4, 0xa7, 0x7e, 0x3d, 0x64, 0x5d, 0x19, 0x73] ++
  [0x60, 0x81, 0x4f, 0xdc, 0x22, 0x2a, 0x90, 0x88, 0x46, 0xee, 0xb8, 0x14, 0xde, 0x5e, 0xb, 0xdb] ++
  [0xe0, 0x32, 0x3a, 0xa, 0x49, 0x6, 0x24, 0x5c, 0xc2, 0xd3, 0xac, 0x62, 0x91, 0x95, 0xe4, 0x79] ++
  [0xe7, 0xc8, 0x37, 0x6d, 0x8d, 0xd5, 0x4e, 0xa9, 0x6c, 0x56, 0xf4, 0xea, 0x65, 0x7a, 0xae, 0x8] ++
  [0xba, 0x78, 0x25, 0x2e, 0x1c, 0xa6, 0xb4, 0xc6, 0xe8, 0xdd, 0x74, 0x1f, 0x4b, 0xbd, 0x8b, 0x8a] ++
  [0x70, 0x3e, 0xb5, 0x66, 0x48, 0x3, 0xf6, 0xe, 0x61, 0x35, 0x57, 0xb9, 0x86, 0xc1, 0x1d, 0x9e] ++
  [0xe1, 0xf8, 0x98, 0x11, 0x69, 0xd9, 0x8e, 0x94, 0x9b, 0x1e, 0x87, 0xe9, 0xce, 0x55, 0x28, 0xdf] ++
  [0x8c, 0xa1, 0x89, 0xd, 0xbf, 0xe6, 0x42, 0x68, 0x41, 0x99, 0x2d, 0xf, 0xb0, 0x54, 0xbb, 0x16]

/-- The inverse substitution box. -/
def aesInvSbox : List Nat :=
  [0x52, 0x9, 0x6a, 0xd5, 0x30, 0x36, 0xa5, 0x38, 0xbf, 0x40, 0xa3, 0x9e, 0x81, 0xf3, 0xd7, 0xfb] ++
  [0x7c, 0xe3, 0x39, 0x82, 0x9b, 0x2f, 0xff, 0x87, 0x34, 0x8e, 0x43, 0x44, 0xc4, 0xde, 0xe9, 0xcb] ++
  [0x54, 0x7b, 0x94, 0x32, 0xa6, 0xc2, 0x23, 0x3d, 0xee, 0x4c, 0x95, 0xb, 0x42, 0xfa, 0xc3, 0x4e] ++
  [0x8, 0x2e, 0xa1, 0x66, 0x28, 0xd9, 0x24, 0xb2, 0x76, 0x5b, 0xa2, 0x49, 0x6d, 0x8b, 0xd1, 0x25] ++
  [0x72, 0xf8, 0xf6, 0x64, 0x86, 0x68, 0x98, 0x16, 0xd4, 0xa4, 0x5c, 0xcc, 0x5d, 0x65, 0xb6, 0x92] ++
  [0x6c, 0x70, 0x48, 0x50, 0xfd, 0xed, 0xb9, 0xda, 0x5e, 0x15, 0x46, 0x57, 0xa7, 0x8d, 0x9d, 0x84] ++
  [0x90, 0xd8, 0xab, 0x0, 0x8c, 0xbc, 0xd3, 0xa, 0xf7, 0xe4, 0x58, 0x5, 0xb8, 0xb3, 0x45, 0x6] ++
  [0xd0, 0x2c, 0x1e, 0x8f, 0xca, 0x3f, 0xf, 0x2, 0xc1, 0xaf, 0xbd, 0x3, 0x1, 0x13, 0x8a, 0x6b] ++
  [0x3a, 0x91, 0x11, 0x41, 0x4f, 0x67, 0xdc, 0xea, 0x97, 0xf2, 0xcf, 0xce, 0xf0, 0xb4, 0xe6, 0x73] ++
  [0x96, 0xac, 0x74, 0x22, 0xe7, 0xad, 0x35, 0x85, 0xe2, 0xf9, 0x37, 0xe8, 0x1c, 0x75, 0xdf, 0x6e] ++
  [0x47, 0xf1, 0x1a, 0x71, 0x1d, 0x29, 0xc5, 0x89, 0x6f, 0xb7, 0x62, 0xe, 0xaa, 0x18, 0xbe, 0x1b] ++
  [0xfc, 0x56, 0x3e, 0x4b, 0xc6, 0xd2, 0x79, 0x20, 0x9a, 0xdb, 0xc0, 0xfe, 0x78, 0xcd, 0x5a, 0xf4] ++
  [0x1f, 0xdd, 0xa8, 0x33, 0x88, 0x7, 0xc7, 0x31, 0xb1, 0x12, 0x10, 0x59, 0x27, 0x80, 0xec, 0x5f] ++
  [0x60, 0x51, 0x7f, 0xa9, 0x19, 0xb5, 0x4a, 0xd, 0x2d, 0xe5, 0x7a, 0x9f, 0x93, 0xc9, 0x9c, 0xef] ++
  [0xa0, 0xe0, 0x3b, 0x4d, 0xae, 0x2a, 0xf5, 0xb0, 0xc8, 0xeb, 0xbb, 0x3c, 0x83, 0x53, 0x99, 0x61] ++
  [0x17, 0x2b, 0x4, 0x7e, 0xba, 0x77, 0xd6, 0x26, 0xe1, 0x69, 0x14, 0x63, 0x55, 0x21, 0xc, 0x7d]

/-- Substitute one byte. -/
def aesSub (x : Nat) : Nat := aesSbox.getD x 0
def aesInvSub (x : Nat) : Nat := aesInvSbox.getD x 0

/-- Multiply by x in the field of AES. -/
def aesX (a : Nat) : Nat := if 128 ≤ a then (2 * a) ^^^ 0x11b else 2 * a

/-- Product in the field of AES. -/
def aesMul (a b : Nat) : Nat :=
  ((List.range 8).foldl (fun (s : Nat × Nat) i => (if b.testBit i then s.1 ^^^ s.2 else s.1, aesX s.2)) (0, a)).1

/-- The XOR of two lists of bytes. -/
def xorList (a b : List Nat) : List Nat := (a.zip b).map fun p => p.1 ^^^ p.2

/-- The key schedule of AES-256, newest word first: n words follow; each word is four bytes. -/
def aesSchedule : Nat → Nat → List (List Nat) → List (List Nat)
  | 0, _, ws => ws
  | n + 1, i, ws =>
    let t := ws.headD []
    let u := if i % 8 = 0 then
        xorList ((t.drop 1 ++ t.take 1).map aesSub) [(List.range (i / 8 - 1)).foldl (fun a _ => aesX a) 1, 0, 0, 0]
      else if i % 8 = 4 then t.map aesSub
      else t
    aesSchedule n (i + 1) (xorList (ws.getD 7 []) u :: ws)

/-- The 15 round keys of an AES-256 key, of 16 bytes each. -/
def aesKeys (key : List Byte) : List (List Nat) :=
  let k := (key.take 32).map BitVec.toNat
  let ws := (aesSchedule 52 8 ((List.range 8).map fun i => (k.drop (4 * i)).take 4).reverse).reverse
  (List.range 15).map fun r => ((ws.drop (4 * r)).take 4).flatten

/-- A column of the state times a circulant matrix whose first row is m. -/
def aesColumn (m c : List Nat) : List Nat :=
  (List.range 4).map fun i => (List.range 4).foldl (fun a j => a ^^^ aesMul (m.getD ((j + 4 - i) % 4) 0) (c.getD j 0)) 0

/-- The columns of the state times such a matrix. -/
def aesMix (m s : List Nat) : List Nat := (List.range 4).flatMap fun c => aesColumn m ((s.drop (4 * c)).take 4)

/-- The rows of the state moved left by their number, or right. -/
def aesShift (right : Bool) (s : List Nat) : List Nat :=
  (List.range 16).map fun i =>
    let row := i % 4
    s.getD (4 * ((i / 4 + (if right then 4 - row else row)) % 4) + row) 0

/-- Encrypt one block. -/
def aesEncrypt (keys : List (List Nat)) (block : List Nat) : List Nat :=
  let s := ((keys.drop 1).take 13).foldl (fun s k => xorList (aesMix [2, 3, 1, 1] (aesShift false (s.map aesSub))) k)
    (xorList block (keys.headD []))
  xorList (aesShift false (s.map aesSub)) (keys.getD 14 [])

/-- Decrypt one block. -/
def aesDecrypt (keys : List (List Nat)) (block : List Nat) : List Nat :=
  let s := ((keys.drop 1).take 13).reverse.foldl
    (fun s k => aesMix [14, 11, 13, 9] (xorList ((aesShift true s).map aesInvSub) k)) (xorList block (keys.getD 14 []))
  xorList ((aesShift true s).map aesInvSub) (keys.headD [])

/-! ### GCM (SP 800-38D; R279, R292, R260) -/

/-- Bytes as numbers, and back. -/
def natsOf (bs : List Byte) : List Nat := bs.map BitVec.toNat
def bytesOf (ns : List Nat) : List Byte := ns.map (BitVec.ofNat 8)

/-- Product in the field of GHASH: bit 127 is the coefficient of 1. n bits of x remain, from bit n - 1 down. -/
def ghashMul (x : Nat) : Nat → Nat → Nat → Nat
  | 0, _, z => z
  | n + 1, v, z =>
    ghashMul x n (if v % 2 = 1 then (v / 2) ^^^ (0xe1 <<< 120) else v / 2) (if x.testBit n then z ^^^ v else z)

/-- Bytes, padded with zeros to whole blocks, as numbers of 16 big-endian bytes: n blocks. -/
def blocks16 : Nat → List Byte → List Nat
  | 0, _ => []
  | n + 1, bs =>
    let b := bs.take 16
    beNat (b ++ List.replicate (16 - b.length) 0) :: blocks16 n (bs.drop 16)

/-- GHASH of additional data and ciphertext. -/
def ghash (h : Nat) (aad cipher : List Byte) : Nat :=
  (blocks16 ((aad.length + 15) / 16) aad ++ blocks16 ((cipher.length + 15) / 16) cipher ++
    [(8 * aad.length) * 2 ^ 64 + 8 * cipher.length]).foldl (fun y x => ghashMul (y ^^^ x) 128 h 0) 0

/-- The counter block of a 12-byte IV. -/
def gcmCounter (iv : List Byte) (n : Nat) : List Nat := natsOf (iv.take 12 ++ beBytes n 4)

/-- The key stream from counter 2 on XORed over data: n blocks. -/
def gcmStream (keys : List (List Nat)) (iv : List Byte) : Nat → Nat → List Byte → List Byte
  | 0, _, _ => []
  | n + 1, c, bs =>
    bytesOf (xorList (natsOf (bs.take 16)) (aesEncrypt keys (gcmCounter iv c))) ++ gcmStream keys iv n (c + 1) (bs.drop 16)

/-- The tag of a ciphertext. -/
def gcmTag (keys : List (List Nat)) (iv aad cipher : List Byte) : Nat :=
  let h := beNat (bytesOf (aesEncrypt keys (List.replicate 16 0)))
  ghash h aad cipher ^^^ beNat (bytesOf (aesEncrypt keys (gcmCounter iv 1)))

/-- AES-256-GCM encryption under a key, a 12-byte IV and additional data: the ciphertext and the tag, whose first byte is the
lowest of the number. -/
def aesGcmSeal (key iv aad plain : List Byte) : List Byte × BitVec 128 :=
  let ks := aesKeys key
  let c := gcmStream ks iv ((plain.length + 15) / 16) 2 plain
  (c, BitVec.ofNat 128 (leNat (beBytes (gcmTag ks iv aad c) 16)))

/-- AES-256-GCM decryption: the plaintext, or none where the tag does not verify. -/
def aesGcmOpen (key iv aad cipher : List Byte) (tag : BitVec 128) : Option (List Byte) :=
  let ks := aesKeys key
  if leNat (beBytes (gcmTag ks iv aad cipher) 16) = tag.toNat then
    some (gcmStream ks iv ((cipher.length + 15) / 16) 2 cipher)
  else none

/-! ### Key wrap (RFC 3394; R281) -/

/-- The integrity value. -/
def keyWrapValue : List Nat := List.replicate 8 0xa6

/-- One step of unwrapping: the integrity register and the blocks of 8 bytes; t counts down from 6 n. -/
def keyUnwrapStep (keys : List (List Nat)) (n : Nat) (s : List Nat × List (List Nat)) (t : Nat) : List Nat × List (List Nat) :=
  let i := (t - 1) % n
  let b := aesDecrypt keys (xorList s.1 (natsOf (beBytes t 8)) ++ s.2.getD i [])
  (b.take 8, s.2.set i (b.drop 8))

/-- AES key unwrap (RFC 3394): none where the integrity value does not match. -/
def keyUnwrap (kek wrapped : List Byte) : Option (List Byte) :=
  let n := wrapped.length / 8 - 1
  let w := natsOf wrapped
  let ks := aesKeys kek
  let s := ((List.range (6 * n)).reverse.map (· + 1)).foldl (keyUnwrapStep ks n)
    (w.take 8, (List.range n).map fun i => (w.drop (8 * (i + 1))).take 8)
  if n = 0 ∨ wrapped.length % 8 ≠ 0 ∨ s.1 ≠ keyWrapValue then none else some (bytesOf s.2.flatten)

end Sys2Proof.Machine
end

