-- ==== Sys2Proof/Machine/Fields.lean ====
section
/-! DEFINITION. The fields of the bar image: one name per field of the section tables, with its place in the image,
its value rules (Table 2.8), its default and whether it is hot (R45). -/

namespace Sys2Proof.Machine

/-- Every field of the section tables (Tables 2.5, 3.3, 6.10, 7.13, 8.8, 9.5, 10.7, 13.10, 14.5, 14.6, 15.5). -/
inductive Field where
  | fluidPresent
  | fluidColumns
  | fluidK
  | headUsed
  | headFluid
  | headSibling
  | headStartCol
  | distNm
  | bandW
  | lpi
  | rowSpacingNm
  | posMode
  | posPrimary
  | posSecondary
  | cpl
  | encInvert
  | minEdgeNs
  | fireMode
  | slateLeadNs
  | fineEn
  | speedAvg
  | xcTolQ12
  | xcSilent
  | drMaxUs
  | ovsLagQ12
  | eoutSrc
  | bidirQ12
  | zPeriod
  | engine
  | engineSpare
  | split
  | fcEn
  | hlVersions
  | hlWidth
  | hlFmt
  | hlLead
  | hlFmaxHz
  | hlSenseNz
  | hlUpIdleUs
  | hlAutoRejoin
  | laneEn
  | lanePol
  | txFir
  | rxProfile
  | refSel
  | marginWarn
  | marginFail
  | blkErrRetrain
  | pipeEn
  | camWidth
  | camVer
  | camDistNm
  | tile
  | channels
  | rawFmt
  | trigStep
  | cFirst
  | ncol
  | x0Q16
  | xstepQ16
  | planeFluid
  | cmatrix
  | lden
  | frameLines
  | regX
  | regY
  | regDec
  | defThr
  | defCount
  | outThr
  | minSamples
  | expMidNs
  | storeMb
  | qlAvgN
  | qlKd
  | qlDeadband
  | qlAmpLim
  | qlCommitLead
  | barId
  | casEn
  | planeBar
  | casFeed
  | casHops
  | ownerDramMb
  | parkSlots
  | defDramMb
  | defRegions
  | defShare
  | maxRingLog2
  | zeroGbps
  | pwrLimitW
  | taskPeriod
  | taskDeadline
  | speedHoldMs
  | retrainDtC
  | deltaUrgentKib
  | loopEn
  | fbSrc
  | outDst
  | periodUs
  | loopSp
  | kp
  | ki
  | kd
  | dshift
  | ulim
  | ff
  | rcCfg
  | rcPeriod
  | rcGain
  | rcLim
  | staleN
  | frozenM
  | noiseFloor
  | holdMs
  | loopSafe
  | headMask
  | recoverN
  | lspMhz
  | axEn
  | stepNs
  | dirSetupNs
  | vmax
  | amax
  | soft
  | homeCfg
  | homeV
  | homeBackoff
  | homeOffset
  | homeMax
  | axCurrent
  | loadKnee
  deriving DecidableEq, Repr

/-- Where a field stands in the image. -/
structure FieldDesc where
  /-- Section TYPE (Table 2.4). -/
  sec : Nat
  /-- FIELD_ID (Table 2.3). -/
  fid : Nat
  /-- Number of instances. -/
  count : Nat
  /-- Number of value words. -/
  words : Nat
  /-- True where the field may change at a hot activation (R45). -/
  hot : Bool
  deriving DecidableEq, Repr

/-- The section tables. -/
def Field.desc : Field → FieldDesc
  | .fluidPresent => ⟨2, 0x001, 16, 1, false⟩ -- Table 2.5
  | .fluidColumns => ⟨2, 0x002, 16, 1, false⟩ -- Table 2.5
  | .fluidK => ⟨2, 0x003, 16, 1, false⟩ -- Table 2.5
  | .headUsed => ⟨3, 0x001, 192, 1, false⟩ -- Table 2.5
  | .headFluid => ⟨3, 0x002, 192, 1, false⟩ -- Table 2.5
  | .headSibling => ⟨3, 0x003, 192, 1, false⟩ -- Table 2.5
  | .headStartCol => ⟨3, 0x004, 192, 1, false⟩ -- Table 2.5
  | .distNm => ⟨4, 0x001, 64, 1, false⟩ -- Table 2.5
  | .bandW => ⟨6, 0x001, 1, 1, false⟩ -- Table 2.5
  | .lpi => ⟨6, 0x002, 1, 1, false⟩ -- Table 2.5
  | .rowSpacingNm => ⟨6, 0x003, 1, 1, false⟩ -- Table 2.5
  | .posMode => ⟨12, 0x001, 1, 1, false⟩ -- Table 3.3
  | .posPrimary => ⟨12, 0x002, 1, 1, false⟩ -- Table 3.3
  | .posSecondary => ⟨12, 0x003, 1, 1, false⟩ -- Table 3.3
  | .cpl => ⟨12, 0x004, 8, 2, false⟩ -- Table 3.3
  | .encInvert => ⟨12, 0x005, 8, 1, false⟩ -- Table 3.3
  | .minEdgeNs => ⟨12, 0x006, 8, 1, false⟩ -- Table 3.3
  | .fireMode => ⟨12, 0x007, 1, 1, false⟩ -- Table 3.3
  | .slateLeadNs => ⟨12, 0x008, 1, 1, false⟩ -- Table 3.3
  | .fineEn => ⟨12, 0x009, 1, 1, false⟩ -- Table 3.3
  | .speedAvg => ⟨12, 0x00A, 1, 1, false⟩ -- Table 3.3
  | .xcTolQ12 => ⟨12, 0x00B, 1, 1, false⟩ -- Table 3.3
  | .xcSilent => ⟨12, 0x00C, 1, 1, false⟩ -- Table 3.3
  | .drMaxUs => ⟨12, 0x00D, 1, 1, false⟩ -- Table 3.3
  | .ovsLagQ12 => ⟨12, 0x00E, 1, 1, false⟩ -- Table 3.3
  | .eoutSrc => ⟨12, 0x00F, 4, 1, false⟩ -- Table 3.3
  | .bidirQ12 => ⟨12, 0x010, 1, 1, false⟩ -- Table 3.3
  | .zPeriod => ⟨12, 0x011, 8, 1, false⟩ -- Table 3.3
  | .engine => ⟨5, 0x001, 192, 1, false⟩ -- Table 6.10
  | .engineSpare => ⟨5, 0x002, 200, 1, false⟩ -- Table 6.10
  | .split => ⟨5, 0x003, 16, 4, false⟩ -- Table 6.10
  | .fcEn => ⟨5, 0x004, 8, 1, false⟩ -- Table 6.10
  | .hlVersions => ⟨1, 0x001, 192, 1, false⟩ -- Table 7.13
  | .hlWidth => ⟨1, 0x002, 192, 1, false⟩ -- Table 7.13
  | .hlFmt => ⟨1, 0x003, 192, 1, false⟩ -- Table 7.13
  | .hlLead => ⟨1, 0x004, 1, 1, false⟩ -- Table 7.13
  | .hlFmaxHz => ⟨1, 0x005, 1, 1, false⟩ -- Table 7.13
  | .hlSenseNz => ⟨1, 0x006, 1, 1, false⟩ -- Table 7.13
  | .hlUpIdleUs => ⟨1, 0x007, 1, 1, false⟩ -- Table 7.13
  | .hlAutoRejoin => ⟨1, 0x008, 1, 1, false⟩ -- Table 7.13
  | .laneEn => ⟨1, 0x100, 1024, 1, false⟩ -- Table 15.5
  | .lanePol => ⟨1, 0x101, 1024, 1, false⟩ -- Table 15.5
  | .txFir => ⟨1, 0x102, 1024, 1, false⟩ -- Table 15.5
  | .rxProfile => ⟨1, 0x103, 1024, 1, false⟩ -- Table 15.5
  | .refSel => ⟨1, 0x104, 64, 1, false⟩ -- Table 15.5
  | .marginWarn => ⟨1, 0x105, 1, 1, false⟩ -- Table 15.5
  | .marginFail => ⟨1, 0x106, 1, 1, false⟩ -- Table 15.5
  | .blkErrRetrain => ⟨1, 0x107, 1, 1, false⟩ -- Table 15.5
  | .pipeEn => ⟨10, 0x001, 24, 1, false⟩ -- Table 8.8
  | .camWidth => ⟨10, 0x002, 24, 1, false⟩ -- Table 8.8
  | .camVer => ⟨10, 0x003, 24, 1, false⟩ -- Table 8.8
  | .camDistNm => ⟨10, 0x004, 24, 1, false⟩ -- Table 8.8
  | .tile => ⟨10, 0x005, 96, 1, false⟩ -- Table 8.8
  | .channels => ⟨10, 0x006, 24, 1, false⟩ -- Table 8.8
  | .rawFmt => ⟨10, 0x007, 24, 1, false⟩ -- Table 8.8
  | .trigStep => ⟨10, 0x008, 24, 1, false⟩ -- Table 8.8
  | .cFirst => ⟨10, 0x009, 24, 1, false⟩ -- Table 8.8
  | .ncol => ⟨10, 0x00A, 24, 1, false⟩ -- Table 8.8
  | .x0Q16 => ⟨10, 0x00B, 24, 1, true⟩ -- Table 8.8
  | .xstepQ16 => ⟨10, 0x00C, 24, 1, true⟩ -- Table 8.8
  | .planeFluid => ⟨10, 0x00D, 96, 1, false⟩ -- Table 8.8
  | .cmatrix => ⟨10, 0x00E, 96, 3, true⟩ -- Table 8.8
  | .lden => ⟨10, 0x00F, 16, 8, true⟩ -- Table 8.8
  | .frameLines => ⟨10, 0x010, 24, 1, true⟩ -- Table 8.8
  | .regX => ⟨10, 0x011, 24, 1, true⟩ -- Table 8.8
  | .regY => ⟨10, 0x012, 24, 1, true⟩ -- Table 8.8
  | .regDec => ⟨10, 0x013, 24, 1, true⟩ -- Table 8.8
  | .defThr => ⟨10, 0x014, 24, 1, true⟩ -- Table 8.8
  | .defCount => ⟨10, 0x015, 24, 1, true⟩ -- Table 8.8
  | .outThr => ⟨10, 0x016, 24, 1, true⟩ -- Table 8.8
  | .minSamples => ⟨10, 0x017, 24, 1, true⟩ -- Table 8.8
  | .expMidNs => ⟨10, 0x018, 24, 1, false⟩ -- Table 8.8
  | .storeMb => ⟨10, 0x019, 1, 1, false⟩ -- Table 8.8
  | .qlAvgN => ⟨10, 0x020, 1, 1, true⟩ -- Table 9.5
  | .qlKd => ⟨10, 0x021, 1, 1, true⟩ -- Table 9.5
  | .qlDeadband => ⟨10, 0x022, 1, 1, true⟩ -- Table 9.5
  | .qlAmpLim => ⟨10, 0x023, 1, 1, true⟩ -- Table 9.5
  | .qlCommitLead => ⟨10, 0x024, 1, 1, true⟩ -- Table 9.5
  | .barId => ⟨10, 0x025, 1, 1, false⟩ -- Table 9.5
  | .casEn => ⟨10, 0x026, 2, 1, false⟩ -- Table 9.5
  | .planeBar => ⟨10, 0x027, 96, 1, false⟩ -- Table 9.5
  | .casFeed => ⟨10, 0x028, 1, 1, false⟩ -- Table 9.5
  | .casHops => ⟨10, 0x029, 1, 1, false⟩ -- Table 9.5
  | .ownerDramMb => ⟨7, 0x001, 1, 1, false⟩ -- Table 10.7
  | .parkSlots => ⟨7, 0x002, 1, 1, false⟩ -- Table 10.7
  | .defDramMb => ⟨7, 0x003, 1, 1, true⟩ -- Table 10.7
  | .defRegions => ⟨7, 0x004, 1, 1, true⟩ -- Table 10.7
  | .defShare => ⟨7, 0x005, 1, 1, true⟩ -- Table 10.7
  | .maxRingLog2 => ⟨7, 0x006, 1, 1, false⟩ -- Table 10.7
  | .zeroGbps => ⟨7, 0x007, 1, 1, true⟩ -- Table 10.7
  | .pwrLimitW => ⟨11, 0x001, 1, 1, true⟩ -- Table 13.10
  | .taskPeriod => ⟨11, 0x002, 5, 1, true⟩ -- Table 13.10
  | .taskDeadline => ⟨11, 0x003, 5, 1, true⟩ -- Table 13.10
  | .speedHoldMs => ⟨11, 0x004, 1, 1, true⟩ -- Table 13.10
  | .retrainDtC => ⟨11, 0x005, 1, 1, true⟩ -- Table 13.10
  | .deltaUrgentKib => ⟨11, 0x006, 1, 1, true⟩ -- Table 13.10
  | .loopEn => ⟨8, 0x001, 256, 1, false⟩ -- Table 14.5
  | .fbSrc => ⟨8, 0x002, 256, 1, false⟩ -- Table 14.5
  | .outDst => ⟨8, 0x003, 256, 1, false⟩ -- Table 14.5
  | .periodUs => ⟨8, 0x004, 256, 1, false⟩ -- Table 14.5
  | .loopSp => ⟨8, 0x005, 256, 1, true⟩ -- Table 14.5
  | .kp => ⟨8, 0x006, 256, 1, true⟩ -- Table 14.5
  | .ki => ⟨8, 0x007, 256, 1, true⟩ -- Table 14.5
  | .kd => ⟨8, 0x008, 256, 1, true⟩ -- Table 14.5
  | .dshift => ⟨8, 0x009, 256, 1, true⟩ -- Table 14.5
  | .ulim => ⟨8, 0x00A, 256, 1, true⟩ -- Table 14.5
  | .ff => ⟨8, 0x00B, 256, 2, true⟩ -- Table 14.5
  | .rcCfg => ⟨8, 0x00C, 256, 1, true⟩ -- Table 14.5
  | .rcPeriod => ⟨8, 0x00D, 256, 2, true⟩ -- Table 14.5
  | .rcGain => ⟨8, 0x00E, 256, 1, true⟩ -- Table 14.5
  | .rcLim => ⟨8, 0x00F, 256, 1, true⟩ -- Table 14.5
  | .staleN => ⟨8, 0x010, 256, 1, true⟩ -- Table 14.5
  | .frozenM => ⟨8, 0x011, 256, 1, true⟩ -- Table 14.5
  | .noiseFloor => ⟨8, 0x012, 256, 1, true⟩ -- Table 14.5
  | .holdMs => ⟨8, 0x013, 256, 1, true⟩ -- Table 14.5
  | .loopSafe => ⟨8, 0x014, 256, 1, true⟩ -- Table 14.5
  | .headMask => ⟨8, 0x015, 256, 6, false⟩ -- Table 14.5
  | .recoverN => ⟨8, 0x016, 256, 1, true⟩ -- Table 14.5
  | .lspMhz => ⟨8, 0x020, 8, 1, false⟩ -- Table 14.5
  | .axEn => ⟨9, 0x001, 32, 1, false⟩ -- Table 14.6
  | .stepNs => ⟨9, 0x002, 32, 1, false⟩ -- Table 14.6
  | .dirSetupNs => ⟨9, 0x003, 32, 1, false⟩ -- Table 14.6
  | .vmax => ⟨9, 0x004, 32, 1, false⟩ -- Table 14.6
  | .amax => ⟨9, 0x005, 32, 1, false⟩ -- Table 14.6
  | .soft => ⟨9, 0x006, 32, 2, false⟩ -- Table 14.6
  | .homeCfg => ⟨9, 0x007, 32, 1, false⟩ -- Table 14.6
  | .homeV => ⟨9, 0x008, 32, 1, false⟩ -- Table 14.6
  | .homeBackoff => ⟨9, 0x009, 32, 1, false⟩ -- Table 14.6
  | .homeOffset => ⟨9, 0x00A, 32, 1, false⟩ -- Table 14.6
  | .homeMax => ⟨9, 0x00B, 32, 1, false⟩ -- Table 14.6
  | .axCurrent => ⟨9, 0x00C, 32, 1, false⟩ -- Table 14.6
  | .loadKnee => ⟨9, 0x00D, 32, 1, false⟩ -- Table 14.6

/-- The value rule of one part of a field (Table 2.8). -/
inductive Check where
  /-- The part is taken as given. -/
  | free
  /-- A range with a step: BELOW_MIN, ABOVE_MAX, STEP. -/
  | range (lo hi : Int) (step : Nat)
  /-- "0, or lo to hi" with a step (R43). -/
  | zeroOr (lo hi : Int) (step : Nat)
  /-- A set of values: NOT_IN_SET. -/
  | oneOf (vs : List Int)
  /-- The set of the values 0 to hi: NOT_IN_SET. -/
  | upTo (hi : Int)
  deriving DecidableEq, Repr

/-- One part of a field's value; the value is its words read as one number, the first word least significant. -/
structure Part where
  lsb : Nat
  width : Nat
  /-- True where the part is read in two's complement. -/
  signed : Bool
  check : Check
  deriving DecidableEq, Repr

/-- The parts of a field that have a rule, at an instance (R43; Table 13.2 for TASK_PERIOD, R358). -/
def Field.parts (f : Field) (inst : Nat) : List Part :=
  match f with
  | .fluidPresent => [⟨0, 32, false, .range 0 1 1⟩]
  | .fluidColumns => [⟨0, 32, false, .range 4 3145728 4⟩]
  | .fluidK => [⟨0, 32, false, .range 1 4 1⟩]
  | .headUsed => [⟨0, 32, false, .range 0 1 1⟩]
  | .headFluid => [⟨0, 32, false, .range 0 15 1⟩]
  | .headSibling => [⟨0, 32, false, .range 0 3 1⟩]
  | .headStartCol => [⟨0, 32, true, .range (-16380) 3145724 4⟩]
  | .distNm => [⟨0, 32, false, .range 0 4000000000 1⟩]
  | .bandW => [⟨0, 32, false, .oneOf [256, 512, 1024]⟩]
  | .lpi => [⟨0, 32, false, .range 300 4800 1⟩]
  | .rowSpacingNm => [⟨0, 32, false, .range 100000 5000000 1⟩]
  | .posMode => [⟨0, 32, false, .range 0 1 1⟩]
  | .posPrimary => [⟨0, 32, false, .range 0 7 1⟩]
  | .posSecondary => [⟨0, 32, false, .oneOf [0, 1, 2, 3, 4, 5, 6, 7, 15]⟩]
  | .cpl => [⟨0, 64, false, .range 0x10000000 0x1000000000000 1⟩]
  | .encInvert => [⟨0, 32, false, .range 0 1 1⟩]
  | .minEdgeNs => [⟨0, 32, false, .range 2 1000 1⟩]
  | .fireMode => [⟨0, 32, false, .range 0 1 1⟩]
  | .slateLeadNs => [⟨0, 32, false, .range 256 1020 4⟩]
  | .fineEn => [⟨0, 32, false, .range 0 1 1⟩]
  | .speedAvg => [⟨0, 32, false, .range 0 4 1⟩]
  | .xcTolQ12 => [⟨0, 32, false, .range 1 1048576 1⟩]
  | .xcSilent => [⟨0, 32, false, .range 1 64 1⟩]
  | .drMaxUs => [⟨0, 32, false, .range 0 20000 1⟩]
  | .ovsLagQ12 => [⟨0, 32, false, .range 0 4096 1⟩]
  | .eoutSrc => [⟨0, 32, false, .oneOf [0, 1, 2, 3, 4, 5, 6, 7, 8, 15]⟩]
  | .bidirQ12 => [⟨0, 32, true, .range (-2048) 2047 1⟩]
  | .zPeriod => [⟨0, 32, false, .range 0 2147483647 1⟩]
  | .engine => [⟨0, 32, false, .range 0 199 1⟩]
  | .engineSpare => [⟨0, 32, false, .range 0 1 1⟩]
  | .split => []
  | .fcEn => [⟨0, 32, false, .range 0 1 1⟩]
  | .hlVersions => [⟨0, 32, false, .range 1 7 1⟩]
  | .hlWidth => [⟨0, 32, false, .oneOf [1, 2, 4]⟩]
  | .hlFmt => [⟨0, 32, false, .range 0 1 1⟩]
  | .hlLead => [⟨0, 32, false, .range 5 12 1⟩]
  | .hlFmaxHz => [⟨0, 32, false, .range 1000 200000 1⟩]
  | .hlSenseNz => [⟨0, 32, false, .range 0 64 1⟩]
  | .hlUpIdleUs => [⟨0, 32, false, .range 1 1000 1⟩]
  | .hlAutoRejoin => [⟨0, 32, false, .range 0 1 1⟩]
  | .laneEn => [⟨0, 32, false, .range 0 1 1⟩]
  | .lanePol => [⟨0, 32, false, .range 0 3 1⟩]
  | .txFir => [⟨16, 6, false, .range 0 15 1⟩, ⟨8, 6, false, .range 24 63 1⟩, ⟨0, 6, false, .range 0 31 1⟩]
  | .rxProfile => [⟨0, 32, false, .range 0 2 1⟩]
  | .refSel => [⟨0, 32, false, .range 0 2 1⟩]
  | .marginWarn => [⟨8, 8, false, .range 8 48 1⟩, ⟨0, 8, false, .range 4 64 1⟩]
  | .marginFail => [⟨8, 8, false, .range 8 48 1⟩, ⟨0, 8, false, .range 4 64 1⟩]
  | .blkErrRetrain => [⟨0, 32, false, .range 10 1000000 1⟩]
  | .pipeEn => [⟨0, 32, false, .range 0 1 1⟩]
  | .camWidth => [⟨0, 32, false, .oneOf [1, 2, 4]⟩]
  | .camVer => [⟨0, 32, false, .range 1 3 1⟩]
  | .camDistNm => [⟨0, 32, false, .range 0 4000000000 1⟩]
  | .tile => [⟨16, 16, false, .range 0 16384 1⟩, ⟨0, 16, false, .range 0 16383 1⟩]
  | .channels => [⟨0, 32, false, .range 1 4 1⟩]
  | .rawFmt => [⟨0, 32, false, .range 1 3 1⟩]
  | .trigStep => [⟨0, 32, false, .range 0x10000 0x400000 1⟩]
  | .cFirst => [⟨0, 32, true, .range (-16380) 3145724 4⟩]
  | .ncol => [⟨0, 32, false, .range 64 16384 64⟩]
  | .x0Q16 => []
  | .xstepQ16 => [⟨0, 32, false, .range 0x4000 0x40000 1⟩]
  | .planeFluid => [⟨0, 32, false, .oneOf [0, 1, 2, 3, 4, 5, 6, 7, 8, 9, 10, 11, 12, 13, 14, 15, 255]⟩]
  | .cmatrix => []
  | .lden => []
  | .frameLines => [⟨0, 32, false, .range 64 16384 64⟩]
  | .regX => [⟨0, 32, false, .range 0 64 1⟩]
  | .regY => [⟨0, 32, false, .range 0 64 1⟩]
  | .regDec => [⟨0, 32, false, .oneOf [1, 2, 4, 8]⟩]
  | .defThr => [⟨0, 32, false, .range 1 65535 1⟩]
  | .defCount => [⟨0, 32, false, .range 1 4096 1⟩]
  | .outThr => [⟨0, 32, true, .range (-32767) 0 1⟩]
  | .minSamples => [⟨0, 32, false, .range 1 16384 1⟩]
  | .expMidNs => [⟨0, 32, false, .range 0 16777215 1⟩]
  | .storeMb => [⟨0, 32, false, .zeroOr 64 524288 64⟩]
  | .qlAvgN => [⟨0, 32, false, .range 1 64 1⟩]
  | .qlKd => [⟨0, 32, false, .range 0 256 1⟩]
  | .qlDeadband => [⟨0, 32, false, .range 0 1638 1⟩]
  | .qlAmpLim => [⟨0, 32, false, .range 0 127 1⟩]
  | .qlCommitLead => [⟨0, 32, false, .range 16 1024 1⟩]
  | .barId => [⟨0, 32, false, .range 0 254 1⟩]
  | .casEn => [⟨0, 32, false, .range 0 1 1⟩]
  | .planeBar => [⟨0, 32, false, .upTo 255⟩]
  | .casFeed => [⟨0, 32, false, .range 0 65535 1⟩]
  | .casHops => [⟨0, 32, false, .range 1 16 1⟩]
  | .ownerDramMb => [⟨0, 32, false, .zeroOr 64 524288 64⟩]
  | .parkSlots => [⟨0, 32, false, .range 0 65536 1024⟩]
  | .defDramMb => [⟨0, 32, false, .range 64 524288 64⟩]
  | .defRegions => [⟨0, 32, false, .range 1 65535 1⟩]
  | .defShare => [⟨0, 32, false, .range 1 255 1⟩]
  | .maxRingLog2 => [⟨0, 32, false, .range 4 16 1⟩]
  | .zeroGbps => [⟨0, 32, false, .range 8 128 1⟩]
  | .pwrLimitW => [⟨0, 32, false, .range 120 260 1⟩]
  | .taskPeriod => [⟨0, 32, false, [.range 3600000 604800000 1, .range 1000 600000 1, .range 60000 86400000 1, .range 60000 86400000 1, .range 100 60000 1].getD inst .free⟩]
  | .taskDeadline => [⟨0, 32, false, .range 1 604800000 1⟩]
  | .speedHoldMs => [⟨0, 32, false, .range 1 1000 1⟩]
  | .retrainDtC => [⟨0, 32, false, .range 2 20 1⟩]
  | .deltaUrgentKib => [⟨0, 32, false, .range 1024 12288 64⟩]
  | .loopEn => [⟨0, 32, false, .range 0 1 1⟩]
  | .fbSrc => [⟨30, 2, false, .oneOf [0, 1, 2]⟩]
  | .outDst => []
  | .periodUs => [⟨0, 32, false, .range 25 1000000 25⟩]
  | .loopSp => [⟨0, 32, true, .range (-32768) 32767 1⟩]
  | .kp => []
  | .ki => []
  | .kd => []
  | .dshift => [⟨0, 32, false, .range 0 8 1⟩]
  | .ulim => []
  | .ff => []
  | .rcCfg => [⟨28, 4, false, .oneOf [0, 1, 2, 3, 4, 5, 6, 7, 8, 15]⟩]
  | .rcPeriod => [⟨32, 32, false, .range 2 2147483647 1⟩]
  | .rcGain => []
  | .rcLim => [⟨0, 32, false, .range 0 32767 1⟩]
  | .staleN => [⟨0, 32, false, .range 1 255 1⟩]
  | .frozenM => [⟨0, 32, false, .range 2 65535 1⟩]
  | .noiseFloor => [⟨0, 32, false, .range 0 32767 1⟩]
  | .holdMs => [⟨0, 32, false, .range 1 60000 1⟩]
  | .loopSafe => []
  | .headMask => []
  | .recoverN => [⟨0, 32, false, .range 1 255 1⟩]
  | .lspMhz => [⟨0, 32, false, .range 1 50 1⟩]
  | .axEn => [⟨0, 32, false, .range 0 1 1⟩]
  | .stepNs => [⟨0, 32, false, .range 100 10000 10⟩]
  | .dirSetupNs => [⟨0, 32, false, .range 50 50000 10⟩]
  | .vmax => [⟨0, 32, false, .range 1 2000000 1⟩]
  | .amax => [⟨0, 32, false, .range 1 1000000000 1⟩]
  | .soft => []
  | .homeCfg => []
  | .homeV => []
  | .homeBackoff => [⟨0, 32, false, .range 1 1000000 1⟩]
  | .homeOffset => []
  | .homeMax => [⟨0, 32, false, .range 1 2147483647 1⟩]
  | .axCurrent => []
  | .loadKnee => [⟨0, 32, false, .range 0 1023 1⟩]

/-- The default of a field at an instance, its words read as one number (TASK_DEADLINE of task 0 follows the period in
force: see Image.get). -/
def Field.dflt (f : Field) (inst : Nat) : Nat :=
  match f with
  | .fluidPresent => 0
  | .fluidColumns => 4
  | .fluidK => 1
  | .headUsed => 0
  | .headFluid => 0
  | .headSibling => 0
  | .headStartCol => 0
  | .distNm => 0
  | .bandW => 512
  | .lpi => 1200
  | .rowSpacingNm => 500000
  | .posMode => 0
  | .posPrimary => 0
  | .posSecondary => 15
  | .cpl => 0x100000000
  | .encInvert => 0
  | .minEdgeNs => 100
  | .fireMode => 0
  | .slateLeadNs => 512
  | .fineEn => 1
  | .speedAvg => 2
  | .xcTolQ12 => 8192
  | .xcSilent => 4
  | .drMaxUs => 20000
  | .ovsLagQ12 => 1024
  | .eoutSrc => 15
  | .bidirQ12 => 0
  | .zPeriod => 0
  | .engine => inst
  | .engineSpare => if 192 ≤ inst then 1 else 0
  | .split => 0x0f0e0d0c0b0a09080706050403020100
  | .fcEn => 0
  | .hlVersions => 7
  | .hlWidth => 4
  | .hlFmt => 0
  | .hlLead => 12
  | .hlFmaxHz => 200000
  | .hlSenseNz => 16
  | .hlUpIdleUs => 20
  | .hlAutoRejoin => 1
  | .laneEn => 1
  | .lanePol => 0
  | .txFir => 0x00043c08
  | .rxProfile => 2
  | .refSel => 0
  | .marginWarn => 0x180c
  | .marginFail => 0x0c06
  | .blkErrRetrain => 1000
  | .pipeEn => 0
  | .camWidth => 4
  | .camVer => 3
  | .camDistNm => 1500000000
  | .tile => if inst % 4 = 0 then 0x40000000 else 0
  | .channels => 1
  | .rawFmt => 2
  | .trigStep => 0x20000
  | .cFirst => 0
  | .ncol => 16384
  | .x0Q16 => 0
  | .xstepQ16 => 0x10000
  | .planeFluid => 255
  | .cmatrix => 4096 <<< (16 * (inst % 4))
  | .lden => 0xffffeeeeddddccccbbbbaaaa9999888877776666555544443333222211110000
  | .frameLines => 1024
  | .regX => 8
  | .regY => 8
  | .regDec => 4
  | .defThr => 8192
  | .defCount => 16
  | .outThr => 0xffffe000
  | .minSamples => 64
  | .expMidNs => 0
  | .storeMb => 0
  | .qlAvgN => 8
  | .qlKd => 128
  | .qlDeadband => 82
  | .qlAmpLim => 100
  | .qlCommitLead => 40
  | .barId => 0
  | .casEn => 0
  | .planeBar => 255
  | .casFeed => 0
  | .casHops => 16
  | .ownerDramMb => 4096
  | .parkSlots => 4096
  | .defDramMb => 2048
  | .defRegions => 64
  | .defShare => 16
  | .maxRingLog2 => 12
  | .zeroGbps => 64
  | .pwrLimitW => 260
  | .taskPeriod => [86400000, 10000, 3600000, 1800000, 1000].getD inst 0
  | .taskDeadline => [86400000, 5000, 3600000, 60000, 1000].getD inst 0
  | .speedHoldMs => 100
  | .retrainDtC => 10
  | .deltaUrgentKib => 12288
  | .loopEn => 0
  | .fbSrc => 0
  | .outDst => 0
  | .periodUs => 1000
  | .loopSp => 0
  | .kp => 0
  | .ki => 0
  | .kd => 0
  | .dshift => 0
  | .ulim => 0x7fff8000
  | .ff => 0
  | .rcCfg => 0xf0000000
  | .rcPeriod => 0x200000000
  | .rcGain => 0
  | .rcLim => 0
  | .staleN => 4
  | .frozenM => 64
  | .noiseFloor => 0
  | .holdMs => 50
  | .loopSafe => 0
  | .headMask => 0
  | .recoverN => 8
  | .lspMhz => 10
  | .axEn => 0
  | .stepNs => 500
  | .dirSetupNs => 1000
  | .vmax => 10000
  | .amax => 100000
  | .soft => 0x7fffffff80000000
  | .homeCfg => 0
  | .homeV => 0x00200004
  | .homeBackoff => 200
  | .homeOffset => 0
  | .homeMax => 1000000
  | .axCurrent => 0x4080c010
  | .loadKnee => 512

/-- The fields in the order of the tables, part 1. -/
def Field.part1 : List Field :=
  [Field.fluidPresent, Field.fluidColumns, Field.fluidK, Field.headUsed, Field.headFluid, Field.headSibling, Field.headStartCol, Field.distNm, Field.bandW, Field.lpi, Field.rowSpacingNm, Field.posMode, Field.posPrimary, Field.posSecondary, Field.cpl, Field.encInvert, Field.minEdgeNs, Field.fireMode, Field.slateLeadNs, Field.fineEn, Field.speedAvg, Field.xcTolQ12, Field.xcSilent, Field.drMaxUs, Field.ovsLagQ12, Field.eoutSrc, Field.bidirQ12, Field.zPeriod, Field.engine, Field.engineSpare, Field.split, Field.fcEn, Field.hlVersions, Field.hlWidth, Field.hlFmt, Field.hlLead, Field.hlFmaxHz, Field.hlSenseNz, Field.hlUpIdleUs, Field.hlAutoRejoin]

/-- The fields in the order of the tables, part 2. -/
def Field.part2 : List Field :=
  [Field.laneEn, Field.lanePol, Field.txFir, Field.rxProfile, Field.refSel, Field.marginWarn, Field.marginFail, Field.blkErrRetrain, Field.pipeEn, Field.camWidth, Field.camVer, Field.camDistNm, Field.tile, Field.channels, Field.rawFmt, Field.trigStep, Field.cFirst, Field.ncol, Field.x0Q16, Field.xstepQ16, Field.planeFluid, Field.cmatrix, Field.lden, Field.frameLines, Field.regX, Field.regY, Field.regDec, Field.defThr, Field.defCount, Field.outThr, Field.minSamples, Field.expMidNs, Field.storeMb, Field.qlAvgN, Field.qlKd, Field.qlDeadband, Field.qlAmpLim, Field.qlCommitLead, Field.barId, Field.casEn]

/-- The fields in the order of the tables, part 3. -/
def Field.part3 : List Field :=
  [Field.planeBar, Field.casFeed, Field.casHops, Field.ownerDramMb, Field.parkSlots, Field.defDramMb, Field.defRegions, Field.defShare, Field.maxRingLog2, Field.zeroGbps, Field.pwrLimitW, Field.taskPeriod, Field.taskDeadline, Field.speedHoldMs, Field.retrainDtC, Field.deltaUrgentKib, Field.loopEn, Field.fbSrc, Field.outDst, Field.periodUs, Field.loopSp, Field.kp, Field.ki, Field.kd, Field.dshift, Field.ulim, Field.ff, Field.rcCfg, Field.rcPeriod, Field.rcGain, Field.rcLim, Field.staleN, Field.frozenM, Field.noiseFloor, Field.holdMs, Field.loopSafe, Field.headMask, Field.recoverN, Field.lspMhz, Field.axEn]

/-- The fields in the order of the tables, part 4. -/
def Field.part4 : List Field :=
  [Field.stepNs, Field.dirSetupNs, Field.vmax, Field.amax, Field.soft, Field.homeCfg, Field.homeV, Field.homeBackoff, Field.homeOffset, Field.homeMax, Field.axCurrent, Field.loadKnee]

/-- The fields in the order of the tables. -/
def Field.all : List Field :=
  Field.part1 ++ Field.part2 ++ Field.part3 ++ Field.part4

/-- The field of a section TYPE and FIELD_ID. -/
def Field.find (sec fid : Nat) : Option Field :=
  Field.all.find? fun f => f.desc.sec == sec && f.desc.fid == fid

end Sys2Proof.Machine
end

