-- ==== Sys2Proof/Machine/ImageFormat.lean ====
section
/-! DEFINITION. The bar image: its byte layout, the structural checks, the field walk with the clamp report, the checks
after the walk and the geometry (R33 to R44, R489, R490, R172, R361, R364, R382). -/

namespace Sys2Proof.Machine

/-- A loaded bar image. -/
structure Image where
  /-- VERSION major: 4, or 3 for a PX4064 image. -/
  major : Nat
  serial : Nat
  /-- The values in force of the fields that were given or adjusted. -/
  fields : Tab (Field × Nat) Nat
  /-- SHA-384 over the bytes of R49. -/
  digest : BitVec 384
  /-- The image as loaded. -/
  bytes : List Byte
  deriving DecidableEq, Repr

/-- The image before any is active: every field at its default. -/
def Image.empty : Image := { major := 4, serial := 0, fields := [], digest := 0, bytes := [] }

/-- The value in force of a field, its default where absent (R38, R358). -/
def Image.get (g : Image) (f : Field) (inst : Nat) : Nat :=
  match Tab.find g.fields (f, inst) with
  | some v => v
  | none =>
    if f = .taskDeadline ∧ inst = 0 then Tab.get g.fields (.taskPeriod, 0) (Field.dflt .taskPeriod 0)
    else Field.dflt f inst

/-- The value of a signed 32-bit field. -/
def Image.getInt (g : Image) (f : Field) (inst : Nat) : Int := signedOf 32 (g.get f inst)

/-- One entry of the clamp report (Table 2.9). -/
structure ClampEntry where
  section16 : Nat
  reason : Nat
  fid : Nat
  word : Nat
  inst : Nat
  requested : Nat
  applied : Nat
  deriving DecidableEq, Repr

/-- The four words of a clamp report entry (Table 2.9). -/
def ClampEntry.words (e : ClampEntry) : List Nat :=
  [e.section16 <<< 16 + e.reason <<< 12 + e.fid, e.word <<< 12 + e.inst, e.requested, e.applied]

/-- One field entry of a section (Table 2.3). -/
structure FieldEntry where
  fid : Nat
  inst : Nat
  given : List Nat
  deriving DecidableEq, Repr

/-- One section: its CRIT bit and TYPE as [15] and [14:0], and its entries. -/
structure Section where
  section16 : Nat
  entries : List FieldEntry
  deriving DecidableEq, Repr

/-- Section TYPE without CRIT. -/
def Section.type (x : Section) : Nat := x.section16 % 0x8000

/-- Why a load fails: the code, the section at fault and the location (R41, Table 2.14). -/
structure LoadError where
  code : ECode
  sectionIndex : Nat
  loc : Option (Nat × Nat)
  deriving DecidableEq, Repr

/-- The field entries of a payload's words, none where they do not fill it exactly (R35). -/
def parseEntries : Nat → List Nat → Option (List FieldEntry)
  | _, [] => some []
  | 0, _ :: _ => none
  | n + 1, h :: t =>
    let k := bits h 0 8
    if t.length < k then none
    else (parseEntries n (t.drop k)).map fun es =>
      { fid := bits h 20 12, inst := bits h 8 12, given := t.take k } :: es

/-- The sections, each checked in full before the next (R489 item 5). -/
def parseSections (bs : List Byte) (stop : Nat) : Nat → Nat → Nat → Except LoadError (List Section × Nat)
  | 0, _, off => .ok ([], off)
  | n + 1, idx, off =>
    let plen := le32At bs (off + 4)
    if stop < off + 12 then .error ⟨.imgIncomplete, idx, none⟩
    else if stop < off + 12 + plen then .error ⟨.imgIncomplete, idx, none⟩
    else
      let payload := (bs.drop (off + 12)).take plen
      if crc32c ((bs.drop off).take 8 ++ payload) ≠ le32At bs (off + 8) then .error ⟨.imgIncomplete, idx, none⟩
      else if plen % 4 ≠ 0 then .error ⟨.imgFormat, idx, none⟩
      else match parseEntries plen (leWords payload) with
        | none => .error ⟨.imgFormat, idx, none⟩
        | some es =>
          match parseSections bs stop n (idx + 1) (off + 12 + plen) with
          | .error e => .error e
          | .ok (rest, last) => .ok ({ section16 := bits (le32At bs off) 16 16, entries := es } :: rest, last)

/-- The word of two values that first differs, 0 where none does. -/
def firstDiff (words a b : Nat) : Nat :=
  ((List.range words).find? fun i => bits a (32 * i) 32 != bits b (32 * i) 32).getD 0

/-- The value rule of one part: the applied value and the reason, if any (Table 2.8). -/
def Check.apply (c : Check) (dflt x : Int) : Int × Option Nat :=
  match c with
  | .free => (x, none)
  | .range lo hi step =>
    if x < lo then (lo, some 1)
    else if hi < x then (hi, some 2)
    else if step ≠ 0 ∧ x % (step : Int) ≠ 0 then (x.tdiv step * step, some 4)
    else (x, none)
  | .zeroOr lo hi step =>
    if x = 0 then (x, none)
    else if x < lo then (lo, some 1)
    else if hi < x then (hi, some 2)
    else if step ≠ 0 ∧ x % (step : Int) ≠ 0 then (x.tdiv step * step, some 4)
    else (x, none)
  | .oneOf vs => if x ∈ vs then (x, none) else (dflt, some 3)
  | .upTo hi => if 0 ≤ x ∧ x ≤ hi then (x, none) else (dflt, some 3)

/-- The smaller of two reasons, as the table orders them. -/
def minReason : Option Nat → Option Nat → Option Nat
  | none, b => b
  | a, none => a
  | some a, some b => some (min a b)

/-- The value rules of a field, part by part (R43 step 3). -/
def applyParts (dflt : Nat) : List Part → Nat → Nat × Option Nat
  | [], v => (v, none)
  | p :: ps, v =>
    let rd := fun n => if p.signed then signedOf p.width (bits n p.lsb p.width) else (bits n p.lsb p.width : Int)
    let r := p.check.apply (rd dflt) (rd v)
    let t := applyParts dflt ps (setBits v p.lsb p.width (unsignedOf p.width r.1))
    (t.1, minReason r.2 t.2)

/-- The value rules of a field, those between parts of one field included (R43, R382). -/
def Field.applyRules (f : Field) (inst v : Nat) : Nat × Option Nat :=
  let r := applyParts (f.dflt inst) (f.parts inst) v
  if f = .ulim ∧ signedOf 16 (bits v 16 16) < signedOf 16 (bits v 0 16) then (f.dflt inst, some 3) else r

/-- The words of an entry read as one number. -/
def wordsNat : List Nat → Nat
  | [] => 0
  | w :: ws => w + (wordsNat ws) <<< 32

/-- The translation of BBI v3 (Table 2.11): the value it gives a field, if it sets one. -/
def xlateV3 (f : Field) (inst : Nat) : Option Nat :=
  match f with
  | .hlWidth => if inst < 64 then some 2 else none
  | .hlVersions => if inst < 64 then some 1 else none
  | .bandW => some 512
  | .fineEn => some 0
  | .engine => if inst < 64 then some inst else none
  | .engineSpare => if 192 ≤ inst then some 1 else none
  | .ownerDramMb => some 0
  | _ => none

/-- The fields the translation of BBI v3 sets, in ascending section TYPE, FIELD_ID and INSTANCE. -/
def xlateV3Targets : List (Field × Nat) :=
  ((List.range 64).map fun i => (Field.hlVersions, i)) ++ ((List.range 64).map fun i => (Field.hlWidth, i)) ++
  ((List.range 64).map fun i => (Field.engine, i)) ++ ((List.range 8).map fun i => (Field.engineSpare, 192 + i)) ++
  [(Field.bandW, 0), (Field.ownerDramMb, 0), (Field.fineEn, 0)]

/-- True where a section TYPE is known to an image of this major version (Tables 2.4 and 2.11). DESIGN CHOICE (log 118).
-/
def sectionKnown (major t : Nat) : Bool :=
  decide (1 ≤ t ∧ t ≤ 12) && !(major == 3 && (t == 8 || t == 9 || t == 10))

/-- The walk in progress. -/
structure Walk where
  fields : Tab (Field × Nat) Nat
  /-- CRIT and TYPE of the entry in force of each field. -/
  src : Tab (Field × Nat) Nat
  report : List ClampEntry
  deriving DecidableEq, Repr

/-- Append a report entry. -/
def Walk.say (w : Walk) (e : ClampEntry) : Walk := { w with report := w.report ++ [e] }

/-- Append the report entry of a change from a to b of a field. -/
def Walk.sayChange (w : Walk) (sec reason : Nat) (f : Field) (inst a b : Nat) : Walk :=
  let i := firstDiff f.desc.words a b
  w.say { section16 := sec, reason := reason, fid := f.desc.fid, word := i, inst := inst,
          requested := bits a (32 * i) 32, applied := bits b (32 * i) 32 }

/-- One field entry of a known section (R43). DESIGN CHOICE (log 118). -/
def Walk.entry (major sec : Nat) (w : Walk) (e : FieldEntry) : Walk :=
  let ignored := fun r => w.say { section16 := sec, reason := r, fid := e.fid, word := 0, inst := e.inst,
                                  requested := e.given.headD 0, applied := 0 }
  match Field.find (sec % 0x8000) e.fid with
  | none => ignored 7
  | some f =>
    let cnt := if major = 3 ∧ f.desc.sec = 3 then 64 else f.desc.count
    if cnt ≤ e.inst then ignored 0xc
    else
      let n := f.desc.words
      let g := e.given.length
      let dv := f.dflt e.inst
      let full := wordsNat (e.given.take n) + (dv >>> (32 * min g n)) <<< (32 * min g n)
      let w1 := if g = n then w
        else if g < n then
          let i := ((List.range n).find? fun j => g ≤ j).getD 0
          w.say { section16 := sec, reason := 0xb, fid := e.fid, word := i, inst := e.inst,
                  requested := 0, applied := bits full (32 * i) 32 }
        else w.say { section16 := sec, reason := 0xb, fid := e.fid, word := n, inst := e.inst,
                     requested := e.given.getD n 0, applied := 0 }
      let r := f.applyRules e.inst full
      let w2 := match r.2 with
        | none => w1
        | some q => w1.sayChange sec q f e.inst full r.1
      let w3 := match Tab.find w.fields (f, e.inst) with
        | none => w2
        | some old =>
          let i := firstDiff n old r.1
          w2.say { section16 := sec, reason := 8, fid := e.fid, word := i, inst := e.inst,
                   requested := bits r.1 (32 * i) 32, applied := bits r.1 (32 * i) 32 }
      let v := if major = 3 then (xlateV3 f e.inst).getD r.1 else r.1
      let w4 := if v = r.1 then w3 else w3.sayChange sec 9 f e.inst r.1 v
      { w4 with fields := Tab.set w4.fields (f, e.inst) v, src := Tab.set w4.src (f, e.inst) sec }

/-- One section of the walk (R43): an unknown one leaves one entry. -/
def Walk.part (major : Nat) (w : Walk) (x : Section) : Walk :=
  if sectionKnown major x.type then x.entries.foldl (Walk.entry major x.section16) w
  else w.say { section16 := x.section16, reason := 0xa, fid := 0xfff, word := 0, inst := 0, requested := 0, applied := 0 }

/-- The value in force during the walk. -/
def Walk.get (w : Walk) (f : Field) (inst : Nat) : Nat :=
  (Image.get { Image.empty with fields := w.fields } f inst)

/-- An adjustment after the walk (R490). -/
def Walk.adjust (w : Walk) (reason : Nat) (f : Field) (inst v : Nat) : Walk :=
  let old := w.get f inst
  if old = v then w
  else
    let w1 := w.sayChange (Tab.get w.src (f, inst) f.desc.sec) reason f inst old v
    { w1 with fields := Tab.set w1.fields (f, inst) v }

/-- The fields that the translation of BBI v3 produces (R51). -/
def Walk.translate (major : Nat) (w : Walk) : Walk :=
  if major = 3 then
    xlateV3Targets.foldl (fun w t =>
      match Tab.find w.fields t, xlateV3 t.1 t.2 with
      | none, some v =>
        let w1 := w.sayChange t.1.desc.sec 9 t.1 t.2 (t.1.dflt t.2) v
        { w1 with fields := Tab.set w1.fields t v }
      | _, _ => w) w
  else w

/-- The checks that relate two fields (R490, R404, R86). -/
def Walk.relations (w : Walk) : Walk :=
  let warn := w.get .marginWarn 0
  let bad := w.get .marginFail 0
  let w1 := w.adjust 2 .marginFail 0
    (setBits (setBits bad 8 8 (min (bits bad 8 8) (bits warn 8 8))) 0 8 (min (bits bad 0 8) (bits warn 0 8)))
  if w1.get .posSecondary 0 = w1.get .posPrimary 0 then w1.adjust 3 .posSecondary 0 15 else w1

/-- Fractions of naturals: the sum. -/
def fracAdd (a b : Nat × Nat) : Nat × Nat := (a.1 * b.2 + b.1 * a.2, a.2 * b.2)

/-- Enabled loops. -/
def Walk.loopsOn (w : Walk) : List Nat := (List.range 256).filter fun l => w.get .loopEn l != 0

/-- LSP port and channel of a loop's feedback, if it has one there. -/
def Walk.fbLsp (w : Walk) (l : Nat) : Option (Nat × Nat) :=
  let v := w.get .fbSrc l
  if bits v 30 2 = 2 then some (bits v 16 8, bits v 0 8) else none

/-- LSP port and channel of a loop's output. -/
def Walk.outLsp (w : Walk) (l : Nat) : Nat × Nat := (bits (w.get .outDst l) 16 3, bits (w.get .outDst l) 0 7)

/-- Lengthen the periods of loops by a ratio num / den (R361, R364). -/
def Walk.lengthen (w : Walk) (ls : List Nat) (num den : Nat) : Walk :=
  ls.foldl (fun w l =>
    let t := w.get .periodUs l
    w.adjust 5 .periodUs l (min 1000000 (25 * ceilDiv (t * num) (den * 25)))) w

/-- The frame rate loops need on an LSP port: one poll per channel in each period of the fastest loop that uses it, one
write per evaluation (R361). -/
def Walk.lspNeed (w : Walk) (p : Nat) : Nat × Nat :=
  let on := w.loopsOn
  let polls := (List.range 256).filterMap fun ch =>
    leastOf ((on.filter fun l => w.fbLsp l = some (p, ch)).map fun l => w.get .periodUs l)
  let writes := (on.filter fun l => (w.outLsp l).1 = p).map fun l => w.get .periodUs l
  (polls ++ writes).foldl (fun a t => fracAdd a (1000000, t)) (0, 1)

/-- The RESOURCE checks: per LSP port (R361), then bar-wide (R364). -/
def Walk.resources (w : Walk) : Walk :=
  let w1 := (List.range 8).foldl (fun w p =>
    let need := w.lspNeed p
    let cap := (w.get .lspMhz p * 1000000, 48)
    if cap.1 * need.2 < need.1 * cap.2 then
      w.lengthen (w.loopsOn.filter fun l => (w.outLsp l).1 = p ∨ (w.fbLsp l).map (·.1) = some p)
        (need.1 * cap.2) (need.2 * cap.1)
    else w) w
  let sum := (w1.loopsOn.map fun l => w1.get .periodUs l).foldl (fun a t => fracAdd a (1000000, t)) (0, 1)
  if 4000000 * sum.2 < sum.1 then w1.lengthen w1.loopsOn sum.1 (sum.2 * 4000000) else w1

/-- Used head ports. -/
def Image.usedPorts (g : Image) : List Nat := (List.range 192).filter fun n => g.get .headUsed n != 0

/-- Present fluids. -/
def Image.fluids (g : Image) : List Nat := (List.range 16).filter fun f => g.get .fluidPresent f != 0

/-- The ports of one head row. -/
def Image.rowPorts (g : Image) (f r : Nat) : List Nat :=
  g.usedPorts.filter fun n => g.get .headFluid n = f ∧ g.get .headSibling n = r

/-- The smallest DIST_NM of the head rows in use (R39). -/
def Image.distBase (g : Image) : Nat :=
  (leastOf (g.usedPorts.map fun n => g.get .distNm (4 * g.get .headFluid n + g.get .headSibling n))).getD 0

/-- d of a nozzle row in 1/4,096 line (R24, R39). -/
def Image.dQ12 (g : Image) (f r j : Nat) : Nat :=
  let dist := g.get .distNm (4 * f + r) - g.distBase
  ((dist + j * g.get .rowSpacingNm 0) * g.get .lpi 0 * 4096 + 12700000) / 25400000

/-- How many heads of a head row serve a column. -/
def Image.coverage (g : Image) (f r : Nat) (c : Int) : Nat :=
  ((g.rowPorts f r).filter fun n =>
    g.getInt .headStartCol n ≤ c ∧ c < g.getInt .headStartCol n + 16384).length

/-- The lowest window column that is not served exactly once in a head row (R17); coverage changes only at column 0 and
where a head starts or ends. -/
def Image.badColumn (g : Image) (f r : Nat) : Option Nat :=
  let w : Int := g.get .fluidColumns f
  let marks : List Int := 0 :: ((g.rowPorts f r).map fun n => g.getInt .headStartCol n) ++
    ((g.rowPorts f r).map fun n => g.getInt .headStartCol n + 16384)
  leastOf ((marks.filter fun c => 0 ≤ c ∧ c < w ∧ g.coverage f r c ≠ 1).map Int.toNat)

/-- The column that stands for no column (R19). -/
def noColumn : Nat := 0x3fffff

/-- The geometry checks of one fluid, in order (R40 item 3). -/
def Image.fluidBreach (g : Image) (f : Nat) : Option LoadError :=
  let k := g.get .fluidK f
  let rows := List.range k
  if rows.any fun r => (g.rowPorts f r).isEmpty then some ⟨.imgCoverage, 0xffff, some (f, noColumn)⟩
  else match leastOf (rows.filterMap fun r => g.badColumn f r) with
    | some c => some ⟨.imgCoverage, 0xffff, some (f, c)⟩
    | none =>
      if (List.range (k - 1)).any fun r => g.get .distNm (4 * f + r + 1) ≤ g.get .distNm (4 * f + r) then
        some ⟨.imgGeometry, 0xffff, some (f, noColumn)⟩
      else if rows.any fun r => (List.range 4).any fun j => (2 ^ 31 - 1) * 4096 < g.dQ12 f r j then
        some ⟨.imgGeometry, 0xffff, some (f, noColumn)⟩
      else none

/-- The geometry checks, stopping at the first breach (R40). -/
def Image.geometryBreach (g : Image) : Option LoadError :=
  if g.fluids.isEmpty then some ⟨.imgCoverage, 0xffff, some (0, noColumn)⟩
  else
    let head := g.usedPorts.findSome? fun n =>
      let f := g.get .headFluid n
      if g.get .fluidPresent f = 0 ∨ g.get .fluidK f ≤ g.get .headSibling n then
        some (LoadError.mk .imgCoverage 0xffff (some (f, noColumn)))
      else none
    match head with
    | some e => some e
    | none => g.fluids.findSome? g.fluidBreach

/-- The engine checks (R172). -/
def Image.engineBreach (g : Image) : Bool :=
  let es := g.usedPorts.map fun n => g.get .engine n
  !(decide es.Nodup) || es.any fun e => g.get .engineSpare e != 0

/-- The loop checks (R382). -/
def Walk.loopBreach (w : Walk) : Bool :=
  let on := w.loopsOn
  let outs := on.map w.outLsp
  !(decide outs.Nodup) || (on.filterMap w.fbLsp).any (fun x => decide (x ∈ outs)) ||
    on.any fun l => bits (w.get .fbSrc l) 30 2 == 0

/-- What a load leaves: the image, the report and whether it was translated. -/
structure Loaded where
  image : Image
  report : List ClampEntry
  deriving DecidableEq, Repr

/-- The mandatory sections (Table 2.4). -/
def mandatorySections : List Nat := [1, 2, 3, 4, 6, 12]

/-- The steps of Table 2.6 over a source of size bytes whose first bytes are bs, with the owner image key; the report is
kept beside a failure of step 8 (R41, R42, R489). DESIGN CHOICE (log 117). -/
def loadImage (key : List Byte) (size : Nat) (bs : List Byte) : Except (LoadError × List ClampEntry) Loaded :=
  let fail := fun c => Except.error (LoadError.mk c 0xffff none, ([] : List ClampEntry))
  if size < 32 then fail .imgIncomplete
  else if le32At bs 0 ≠ 0x4242494d ∨ crc32c (bs.take 0x1c) ≠ le32At bs 0x1c then fail .imgMagic
  else
    let major := bits (le32At bs 4) 16 16
    let part := le32At bs 8
    if ¬((major = 4 ∧ part = 0x9192) ∨ (major = 3 ∧ part = 0x4064)) then fail .imgVersion
    else
      let len := le32At bs 0xc
      if size < len ∨ len < 144 then fail .imgIncomplete
      else
        let n := le32At bs 0x10
        if n < 1 ∨ 4096 < n then fail .imgFormat
        else match parseSections bs (len - 100) n 0 32 with
          | .error e => .error (e, [])
          | .ok (secs, last) =>
            if last ≠ len - 100 then fail .imgFormat
            else if le32At bs (len - 4) ≠ 0x434f4d54 then fail .imgIncomplete
            else
              let digest := sha384 (bs.take (len - 100))
              let sigR := BitVec.ofNat 384 (beNat ((bs.drop (len - 100)).take 48))
              let sigS := BitVec.ofNat 384 (beNat ((bs.drop (len - 52)).take 48))
              if ecdsaVerify key digest sigR sigS = false then fail .imgSignature
              else match secs.findIdx? fun x => !sectionKnown major x.type && decide (0x8000 ≤ x.section16) with
                | some i => .error (⟨.imgSection, i, none⟩, [])
                | none =>
                  if mandatorySections.any fun t => secs.all fun x => x.type != t then fail .imgMissing
                  else
                    let w0 := secs.foldl (Walk.part major) { fields := [], src := [], report := [] }
                    let w := ((w0.translate major).relations).resources
                    let g : Image := { major := major, serial := le32At bs 0x14, fields := w.fields,
                                       digest := digest, bytes := bs.take len }
                    match g.geometryBreach with
                    | some e => .error (e, w.report)
                    | none =>
                      if g.engineBreach then .error (⟨.imgEngine, 0xffff, none⟩, w.report)
                      else if w.loopBreach then .error (⟨.imgLoop, 0xffff, none⟩, w.report)
                      else .ok { image := g, report := w.report }

/-- True where a new image differs from the active one only in hot fields; never for a v3 image over a v4 image (R45,
R51). DESIGN CHOICE (log 118). -/
def Image.hotOver (g active : Image) : Bool :=
  !(g.major == 3 && active.major == 4) &&
    ((g.fields ++ active.fields).all fun c => c.1.1.desc.hot || g.get c.1.1 c.1.2 == active.get c.1.1 c.1.2)

end Sys2Proof.Machine
end

