-- ==== Sys2Proof/Machine/StateBar.lean ====
section
/-! DEFINITION. State of the bar image block and of web position and fire timing (chapters "Bar Image" and "Web
Position and Fire Timing") beyond their registers. -/

namespace Sys2Proof.Machine

/-- Where a load takes its image from (Table 2.12). -/
inductive ImgSource where
  | ownerBuffer
  | storeSlot (k : Nat)
  deriving DecidableEq, Repr

/-- The bar image block (R41 to R51). -/
structure ImgState where
  /-- The active image, which drives the bar. -/
  active : Option Image
  /-- The shadow: none where it is empty. -/
  shadow : Option Image
  /-- The clamp report of the last load, at most 1,024 entries (R44). -/
  report : List ClampEntry
  /-- Source of the load in progress. -/
  source : ImgSource
  /-- Store slots with a commit record: SERIAL and digest (R50). -/
  slots : Tab Nat (Nat × BitVec 384)
  /-- The slot that holds the last committed image. -/
  lastSlot : Option Nat
  /-- Firing is blocked until a new stop activation, after a digest difference (R48). -/
  digestBlock : Bool
  /-- Hot fields of the shadow are staged beside the active values (Table 2.10 step 3). -/
  staged : Bool
  /-- A PERSIST in progress: its slot, and the SERIAL and digest of the commit record it ends with (R50). -/
  persist : Option (Nat × Nat × BitVec 384)
  deriving DecidableEq, Repr

/-- The bar image block after a cold reset. -/
def ImgState.reset : ImgState :=
  { active := none, shadow := none, report := [], source := .ownerBuffer, slots := [], lastSlot := none,
    digestBlock := false, staged := false, persist := none }

/-- One encoder input beyond its registers. Instants are in ps; positions in 2^-32 count or 2^-32 line. -/
structure EncInput where
  /-- Qualified levels. -/
  a : Bool
  b : Bool
  z : Bool
  /-- WIRE per pair (R55). -/
  wireA : Bool
  wireB : Bool
  wireZ : Bool
  /-- Instants of the glitches of the last 1 ms (Table 3.2). -/
  glitches : List Nat
  /-- Timestamps of the reported counts since the speed was last invalid, newest first (R59). -/
  stamps : List Nat
  /-- Timestamp of the last count of any kind. -/
  lastStamp : Option Nat
  /-- Speed validity of this input (R60, R61). -/
  valid : Bool
  /-- A latch of the same direction precedes (R58). -/
  zComparable : Bool
  /-- Count origin P0 of this input in 2^-32 count (R64, R81). -/
  origin : Int
  /-- Q_r of the other input at this input's last qualified count (Table 3.2). -/
  silentRef : Int
  deriving DecidableEq, Repr

/-- An encoder input after a cold reset. -/
def EncInput.reset : EncInput :=
  { a := false, b := false, z := false, wireA := false, wireB := false, wireZ := false, glitches := [], stamps := [],
    lastStamp := none, valid := false, zComparable := false, origin := 0, silentRef := 0 }

/-- What position and prediction are computed from: the last reported count, its timestamp, the speed as counts over a
time, the direction, the origin and CPL (R63, R73, R84). -/
structure PosBase where
  tE : Nat
  qr : Int
  /-- Speed: num counts in den ps. -/
  num : Nat
  den : Nat
  reverse : Bool
  origin : Int
  cpl : Nat
  deriving DecidableEq, Repr

/-- A pass of scanning mode (R70): its window, direction and pass number (R99). -/
structure Pass where
  lo : Int
  hi : Int
  reverse : Bool
  number : Nat
  deriving DecidableEq, Repr

/-- A committed fire. -/
structure Fire where
  index : Nat
  /-- Fire instant t_f in ps. -/
  tF : Nat
  /-- Qualification instant in direct mode (R77). -/
  tQ : Option Nat
  line : Int
  reverse : Bool
  pass : Nat
  deriving DecidableEq, Repr

/-- The blocks that can request a pin of the bar (STOP_REQ_N, SPEED_REQ_N). -/
inductive PinUser where
  | pos
  | link
  | pwr
  | ptn
  | sys
  | ctl
  deriving DecidableEq, Repr

/-- What the web position is computed from, from an instant on: a moving base, dead-reckoned or not, or a fixed position in
2^-32 line. -/
structure PosSnap where
  time : Nat
  base : Option PosBase
  free : Bool
  fixed : Int
  deriving DecidableEq, Repr

/-- Web position and fire timing (R53 to R87). DEDUCED (log 21). -/
structure PosState where
  /-- What the position was computed from, newest first, while a camera line is open (R218). -/
  track : List PosSnap
  enc : Tab Nat EncInput
  /-- The position held while no input is in service, in 2^-32 line (R84). -/
  frozen : Option Int
  /-- Dead reckoning in progress. -/
  dr : Option PosBase
  /-- Inputs returned to service during dead reckoning, in order (R84). -/
  held : List Nat
  /-- m of the compare value C = P0 + m CPL (R65). -/
  cmpLine : Int
  /-- An alignment has been made (R81). -/
  aligned : Bool
  /-- The cross-check difference is above its tolerance. -/
  xcOver : Bool
  /-- The last committed fires, newest first. -/
  fires : List Fire
  /-- The fire index has ended (R27). -/
  ended : Bool
  curPass : Option Pass
  armedPass : Option Pass
  /-- Ports whose delay is being measured by CAL (R79). -/
  calWait : List Nat
  /-- Levels A, B and Z of EOUT0 to EOUT3 (R85). -/
  eout : Tab Nat (Bool × Bool × Bool)
  /-- The blocks that request STOP_REQ_N and SPEED_REQ_N. -/
  stopReq : List PinUser
  speedReq : List PinUser
  deriving DecidableEq, Repr

/-- Web position after a cold reset. DESIGN CHOICE (log 3). -/
def PosState.reset : PosState :=
  { track := [], enc := [], frozen := none, dr := none, held := [], cmpLine := 0, aligned := false, xcOver := false, fires := [],
    ended := false, curPass := none, armedPass := none, calWait := [], eout := [], stopReq := [], speedReq := [] }

end Sys2Proof.Machine
end

