-- ==== Sys2Proof/Machine/StateSyn.lean ====
section
/-! DEFINITION. State of drop synthesis beyond its registers: per-nozzle tables, update sets, batches and pending health
entries (chapter "Drop Synthesis in the Embouchure Engines"). -/

namespace Sys2Proof.Machine

/-- What a staged entry of an update set names (R163). -/
inductive SynTarget where
  /-- The table entry of a nozzle. -/
  | nozzle (m : Nat)
  /-- A word of the synthesis page, from HPT offset 0x420 on. -/
  | page (k : Nat)
  deriving DecidableEq, Repr

/-- A health mask in force over a range of window columns (R140, R141). -/
structure HealthMask where
  colLo : Nat
  colHi : Nat
  clr : Nat
  set : Nat
  deriving DecidableEq, Repr

/-- Apply a mask to the sibling health of a column: a bit both set and cleared is cleared (R141). -/
def HealthMask.apply (h : HealthMask) (c : Nat) (m : Nat) : Nat :=
  if h.colLo ≤ c ∧ c ≤ h.colHi then (List.range 4).foldl (fun n b =>
    setBits n b 1 (if bitOf h.clr b then 0 else if bitOf h.set b then 1 else bits n b 1)) m
  else m

/-- A pending health entry (R141 to R145). -/
structure PendHealth where
  fluid : Nat
  mask : HealthMask
  /-- L_h; in scanning mode the entry applies to passes above a pass number instead. -/
  line : Int
  fireA : Nat
  passAfter : Nat
  /-- Ports that have folded it. -/
  folded : List Nat
  deriving DecidableEq, Repr

/-- What a batch takes for one nozzle: its level and share, whether it is out (R142), and whether it lies in the print
window (R147). -/
structure NozIn where
  level : Nat
  share : Nat
  out : Bool
  inWindow : Bool
  deriving DecidableEq, Repr

/-- A batch in progress (R136, R137). -/
structure BatchRun where
  fire : Nat
  reverse : Bool
  sync : Bool
  /-- PERIOD of Table 7.5. -/
  period : Nat
  /-- The row lines taken. -/
  lines : List Int
  /-- Nozzles 0 to 16,383. -/
  cells : List NozIn
  /-- Slots of the regions that the rows' bands lay in: per row, band and slot (R282). -/
  slots : List (List (Nat × Nat)) := []
  /-- Every row line came from blank fill or from blocks of MIRROR = 1 contexts (R325). -/
  mirrored : Bool
  /-- The batch was discarded by a fault and restarts (R171). -/
  restart : Bool
  deriving DecidableEq, Repr

/-- A complete batch: the 16,384 full descriptors, its energy (R167) and its CRC (R325). -/
structure BatchDone where
  fire : Nat
  reverse : Bool
  sync : Bool
  period : Nat
  desc : List Nat
  lines : List Int
  deriving DecidableEq, Repr

/-- Synthesis state of one head port. -/
structure PortSyn where
  /-- Table entries by nozzle, HMASK left out; an unlisted entry is 0. -/
  table : Tab Nat Nat
  /-- HMASK of every entry as last set by an activation, and the health masks folded since, in order (R140, R145). -/
  hmask : Nat
  folds : List HealthMask
  /-- How many of them were folded before the activation or restore in force. -/
  since : Nat
  /-- The open or armed update set (R163). -/
  staged : List (SynTarget × Nat)
  /-- Drop codes of the last three batches, newest first (R149). -/
  hist : List (List Nat)
  /-- Batches in the pipeline, oldest first. -/
  runs : List BatchRun
  /-- Complete batches neither sent nor skipped. -/
  done : List BatchDone
  /-- Forecast values of complete batches by fire, newest first (R167). -/
  energy : List (Nat × Nat)
  /-- Level inputs of the last 16 batches by fire (R326). -/
  levels : List (Nat × List Nat)
  /-- Fire of the last batch started since the last enable, re-bind or join. -/
  lastStarted : Option Nat
  /-- Drops and energy per slot and fluid of each batch, for the accounts (R282). -/
  due : List (Nat × List (Nat × Nat × Nat × Nat))
  /-- Comparable flags of the last batches: fire and whether row lines were mirrored or blank (R325). -/
  mirrored : List (Nat × Bool)
  /-- Own batch CRCs by fire (R325). -/
  crcs : List (Nat × Nat)
  deriving DecidableEq, Repr

/-- A port after a cold reset (R173): every entry reads 0, HMASK included. -/
def PortSyn.reset : PortSyn :=
  { table := [], hmask := 0, folds := [], since := 0, staged := [], hist := [], runs := [], done := [], energy := [], levels := [],
    lastStarted := none, due := [], mirrored := [], crcs := [] }

/-- Drop synthesis. -/
structure SynState where
  port : Tab Nat PortSyn
  /-- Pending health entries in order of acceptance (R145). -/
  pend : List PendHealth
  /-- Instant of the last E_FC_LATE (R169). -/
  lastLate : Option Nat
  deriving DecidableEq, Repr

/-- Drop synthesis after a cold reset. -/
def SynState.reset : SynState := { port := [], pend := [], lastLate := none }

end Sys2Proof.Machine
end

