-- ==== Sys2Proof/Machine/StateQl.lean ====
section
/-! DEFINITION. State of the print-quality loop and of the cascade beyond their registers (chapter "Closing the
Print-Quality Loop"). -/

namespace Sys2Proof.Machine

/-- The hold-off of a nozzle (R254): L_u of the fire F_u at which its AMP took effect, F_u, and the first pass armed after
it, once F_u has been committed. -/
structure HoldOff where
  line : Int
  fire : Nat
  pass : Option Nat
  deriving DecidableEq, Repr

/-- Loop state of one nozzle (R241, R244, R245, R254). -/
structure LoopCell where
  sum : Int
  count : Nat
  /-- Successive candidate estimates, and successive CLASS 2 sensing entries. -/
  out : Nat
  sense : Nat
  hold : Option HoldOff
  /-- The mean that awaits a set (R251). -/
  mean : Option Int
  /-- AMP stands at the limit (R250). -/
  saturated : Bool
  deriving DecidableEq, Repr

/-- Loop state that starts empty. -/
def LoopCell.empty : LoopCell :=
  { sum := 0, count := 0, out := 0, sense := 0, hold := none, mean := none, saturated := false }

/-- A decision whose health command awaits acceptance (R245, R246). DEDUCED (log 39). -/
structure Decision where
  fluid : Nat
  column : Nat
  clr : Nat
  /-- The confirmed nozzles: port and nozzle. -/
  nozzles : List (Nat × Nat)
  frame : Nat
  bySense : Bool
  since : Nat
  /-- It has been presented and refused. -/
  presented : Bool
  late : Bool
  deriving DecidableEq, Repr

/-- A record, or a DEVREC of another bar, that waits for the loop (R232, R242, R261). -/
structure LoopRecord where
  /-- The other bar and the head that its DEVREC names, none for a pipeline of this controller. -/
  bar : Option (Nat × Nat)
  pipe : Nat
  frame : Nat
  /-- Y_FIRST, and the pass of the frame in scanning mode. -/
  yFirst : Int
  pass : Nat
  /-- Port, nozzle and DEV. -/
  entries : List (Nat × Nat × Int)
  deriving DecidableEq, Repr

/-- What a SHAPE message says of one fluid of a bar (Table 9.3). -/
structure RemoteFluid where
  k : Nat
  width : Nat
  split : List Nat
  /-- Port, sibling and START_COL/4. -/
  ports : List (Nat × Nat × Int)
  deriving DecidableEq, Repr

/-- A remote bar on the cascade. -/
structure RemoteBar where
  serial : Nat
  /-- The cascade port on which its SHAPE messages arrive. -/
  side : Nat
  fluids : Tab Nat RemoteFluid
  /-- Health commands it reported: fluid, mask, L_h, and the first and last line of the lost range. -/
  health : List (Nat × HealthMask × Int × Int × Int)
  /-- Fluid, phase, band, first line, lines and cause. -/
  spoils : List (Nat × Nat × Nat × Int × Nat × Nat)
  deriving DecidableEq, Repr

/-- A bar nothing is known of. -/
def RemoteBar.empty : RemoteBar := { serial := 0, side := 0, fluids := [], health := [], spoils := [] }

/-- A run of columns with no healthy sibling (R248). -/
structure DeadRun where
  fluid : Nat
  lo : Nat
  hi : Nat
  /-- First line it is dead for in web mode, none for every line, and the first such pass in scanning mode. -/
  start : Option Int
  pass : Nat
  /-- L_h and first pass of the command that restores it. -/
  ends : Option (Int × Nat)
  /-- How far its lines have been gone through, with the pass: the next line forward, the last one in reverse. -/
  seen : Option (Nat × Int)
  deriving DecidableEq, Repr

/-- The loop and the cascade. -/
structure QlState where
  /-- Loop state by port and nozzle. -/
  cell : Tab (Nat × Nat) LoopCell
  decisions : List Decision
  /-- Records that wait to be processed. -/
  records : List LoopRecord
  /-- Armed loop sets by port: fire and nozzles. -/
  armed : Tab Nat (Nat × List Nat)
  /-- Last frame delivered, by other bar and its head (none for local) and pipeline. -/
  lastFrame : Tab (Option (Nat × Nat) × Nat) Nat
  /-- Runs of columns left with no healthy sibling. -/
  dead : List DeadRun
  /-- SEQ of the next message of each cascade link. -/
  casSeq : Tab Nat Nat
  /-- Remote bars by BAR_ID. -/
  bars : Tab Nat RemoteBar
  /-- Instants of the last E_QL_LOG_FULL and E_QL_CAS_DROP. -/
  lastFull : Option Nat
  lastDrop : Option Nat
  deriving DecidableEq, Repr

/-- The loop after a cold reset: all empty (R241). DESIGN CHOICE (log 3). -/
def QlState.reset : QlState :=
  { cell := [], decisions := [], records := [], armed := [], lastFrame := [], dead := [], casSeq := [], bars := [], lastFull := none,
    lastDrop := none }

end Sys2Proof.Machine
end

