-- ==== Sys2Proof/Machine/StateReel.lean ====
section
/-! DEFINITION. State of the compositor: regions, strips, block indexes, the ingest queue, row buffers and spoil records
(chapter "Reels, Strips and Composition"), and of the compressor units (chapter "Reel Codec"). -/

namespace Sys2Proof.Machine

/-- STATE of a block index entry (Table 4.3). -/
inductive BlockState where
  | free
  | resident
  | locked
  | missing
  | poisoned
  deriving DecidableEq, Repr

/-- The code of STATE (Table 4.3). -/
def BlockState.code : BlockState → Nat
  | .free => 0
  | .resident => 1
  | .locked => 2
  | .missing => 3
  | .poisoned => 4

/-- A sealed block: the ciphertext as received, its IV, its tag and the additional data (R279). -/
structure Sealed where
  cipher : List Byte
  iv : List Byte
  tag : BitVec 128
  aad : List Byte
  deriving DecidableEq, Repr

/-- One block index entry (Table 4.3) with the bytes it names. -/
structure BlockEntry where
  /-- FIRST_OFS, in print order. -/
  first : Nat
  /-- Line count, 1 to 256. -/
  lines : Nat
  state : BlockState
  /-- The lock line has reached it. -/
  isLocked : Bool
  /-- HEAP_OFF64. -/
  heapOff : Nat
  /-- Length in the heap in 64-byte units. -/
  heapLen : Nat
  sealedBytes : Sealed
  /-- Lines that authenticated, from the first on: those after them print blank (Table 4.4). -/
  goodLines : Nat := 256
  deriving DecidableEq, Repr

/-- The part of a reel for one fluid, phase and band. -/
structure Strip where
  /-- Entries in print order; they never overlap (R97). -/
  entries : List BlockEntry
  /-- Lines locked so far, counted in print order. -/
  lockedTo : Nat
  /-- Entries that have left the index ring: its head (R30, R96). -/
  head : Nat := 0
  deriving DecidableEq, Repr

/-- A strip with no block. -/
def Strip.empty : Strip := { entries := [], lockedTo := 0 }

/-- A region and its reel (Table 4.1, R96). -/
structure Region where
  slot : Nat
  number : Nat
  mask : Nat
  bStart : Nat
  bEnd : Nat
  l0 : Int
  l1 : Int
  /-- L1 at opening: FIRST_OFS of a reverse region counts from it. -/
  l1Open : Int
  reverse : Bool
  pass : Nat
  depth : Nat
  heapUnits : Nat
  /-- DRAM units of the reel and its tag store (R278, R279). -/
  units : Nat
  /-- The circular heap: next unit, and the allocations in order, freed ones marked (R96). -/
  heapNext : Nat
  heapUsed : List (Nat × Nat × Bool)
  closed : Bool
  strips : Tab Nat Strip
  deriving DecidableEq, Repr

/-- A block waiting for the ingest check (R95). -/
structure IngestJob where
  slot : Nat
  tag : Nat
  region : Nat
  strip : Nat
  first : Nat
  lines : Nat
  heapOff : Nat
  heapLen : Nat
  sealedBytes : Sealed
  deriving DecidableEq, Repr

/-- CAUSE of a spoil (Tables 10.5 and 12.4, R248, R330). -/
inductive SpoilCause where
  | missing
  | auth
  | poison
  | underrun
  | readCrc
  | skip
  | lostShare
  | deadColumn
  | splice
  | mismatch
  deriving DecidableEq, Repr

/-- The code of CAUSE (Table 10.5). -/
def SpoilCause.code : SpoilCause → Nat
  | .missing => 1
  | .auth => 2
  | .poison => 3
  | .underrun => 4
  | .readCrc => 5
  | .skip => 6
  | .lostShare => 7
  | .deadColumn => 8
  | .splice => 9
  | .mismatch => 10

/-- A spoil record (R107): region none for lines of no region. -/
structure SpoilRec where
  slot : Nat
  region : Nat
  strip : Nat
  fluid : Nat
  phase : Nat
  band : Nat
  first : Int
  lines : Nat
  /-- Pass of the region. -/
  pass : Nat
  cause : SpoilCause
  /-- Extended since the last flush. -/
  touched : Bool
  deriving DecidableEq, Repr

/-- What the fetch of a locked block delivers (R105, R107). -/
inductive FetchOutcome where
  /-- The bytes authenticate, and their decoded CRC agrees with the trailer. -/
  | good
  /-- The bytes fail authentication, from a line of the block on. -/
  | authFail (line : Nat)
  /-- The DRAM delivers poison. -/
  | poison
  /-- The decoded CRC differs from the trailer at block end. -/
  | crcBad
  deriving DecidableEq, Repr

/-- A block delivered to the decompressors of a head row. -/
structure Fetched where
  region : Nat
  strip : Nat
  first : Nat
  sibling : Nat
  crcBad : Bool
  deriving DecidableEq, Repr

/-- One nozzle row's reader (R103 to R109). -/
structure RowBuf where
  /-- A seek after a re-bind is in progress (R109). -/
  seeking : Bool
  /-- Pass (0 in web mode) and raster line that the engine took last, if any. -/
  taken : Option (Nat × Int)
  /-- Complete lines ahead of it, in the order of their fires (R106). -/
  lines : List (Nat × Int)
  /-- Lines taken by batches that are not complete: their places are not free (R137). -/
  held : List (Nat × Int)
  deriving DecidableEq, Repr

/-- A row reader after a cold reset. -/
def RowBuf.reset : RowBuf := { seeking := false, taken := none, lines := [], held := [] }

/-- The compositor. -/
structure CmpState where
  regions : List Region
  ingest : List IngestJob
  /-- Spoil records whose run of lines may still grow. -/
  openSpoils : List SpoilRec
  /-- Spoil records issued to inspection, in order (R107). -/
  issued : List SpoilRec
  /-- Blocks delivered to the decompressors of a head row (R105). -/
  fetched : List Fetched
  /-- Row readers by 4 n + j. -/
  rows : Tab Nat RowBuf
  /-- The lock line has been set since the cold reset. -/
  lockSet : Bool
  deriving DecidableEq, Repr

/-- The compositor after a cold reset. DESIGN CHOICE (log 3). -/
def CmpState.reset : CmpState :=
  { regions := [], ingest := [], openSpoils := [], issued := [], fetched := [], rows := [], lockSet := false }

/-- A closed block under comparison: its symbols, and whether its stored form has taken the place of the coded one
(R131, R132). -/
structure ClosedBlock where
  symbols : List Nat
  stored : Bool
  deriving DecidableEq, Repr

/-- One compressor unit (R129 to R134). -/
structure CdcUnit where
  /-- Symbols accepted for the block in progress, in order. -/
  symbols : List Nat
  /-- Closed blocks, in order; the first is under comparison. -/
  closed : List ClosedBlock
  /-- Instant of the last failed comparison (R132). -/
  lastFail : Option Nat
  deriving DecidableEq, Repr

/-- An idle compressor unit. -/
def CdcUnit.reset : CdcUnit := { symbols := [], closed := [], lastFail := none }

/-- The compressor units. -/
structure CdcState where
  units : Tab Nat CdcUnit
  deriving DecidableEq, Repr

/-- The compressor units after a cold reset. -/
def CdcState.reset : CdcState := { units := [] }

end Sys2Proof.Machine
end

