-- ==== Sys2Proof/Machine/StatePtn.lean ====
section
/-! DEFINITION. Mirror records and the state of the partner block beyond its registers (chapter "Partner Operation and
Splice"). -/

namespace Sys2Proof.Machine

/-- What a BIND record carries (Table 12.3). DEDUCED (log 55). -/
structure BindRec where
  fireEn : Bool
  /-- P0 in 2^-32 count. -/
  origin : Int
  bindFire : Nat
  bindLine : Int
  curPass : Option Pass
  armedPass : Option Pass
  passCur : Nat
  passNext : Nat
  skips : Nat
  /-- Inputs lost, bit i. -/
  lost : Nat
  lockLine : Option Int
  leadLines : Nat
  deriving DecidableEq, Repr

/-- What a CTX record carries (Table 12.3). -/
inductive CtxRec where
  /-- A context as it now stands: the registers of its page, generation, wrapped key, accounts and the counters of its upload
  and datagram IVs. -/
  | page (slot : Nat) (regs : List (Reg × BitVec 64)) (generation : Nat) (wrapped : List Byte)
      (drops energy : List (Nat × Nat)) (ivs : Nat × Nat)
  /-- The effect of a ring entry with its completion: the entry's words, status, result words and CQ position. -/
  | effect (slot : Nat) (entry : List Nat) (status : Nat) (body : List Nat) (cqPos : Nat)
  /-- An open or closed region as it stands, in a snapshot (R332): no blocks. -/
  | region (r : Region)
  deriving DecidableEq, Repr

/-- A mirror record (Table 12.3). -/
inductive MirrorRec where
  | pcap (link pairId : Nat)
  | bind (b : BindRec)
  | commit (fire : Nat) (line : Int)
  | crc (fire comparable : Nat) (crcs : List Nat)
  | lock (region strip first lines : Nat) (missing : Bool)
  | block (slot region strip first lines heapLen : Nat) (bytes : Sealed)
  | table (port : Nat) (entries : List (SynTarget × Nat)) (fire : Option Nat)
  /-- HMASK of a port's table entries, in a snapshot (R332): the mask of every entry, and the masks folded since. -/
  | masks (port base : Nat) (folds : List HealthMask)
  | health (h : PendHealth)
  | ctx (c : CtxRec)
  | loop (cells : List (Nat × Nat × LoopCell)) (armed : Tab Nat (Nat × List Nat))
  | daily (words : List Nat)
  | surrender (fire cause : Nat)
  | verdict (port fire outcome : Nat)
  | ack (mseq : Nat)
  | record (pipe : Nat) (words : List Nat)
  deriving DecidableEq, Repr

/-- TYPE of a record (Table 12.3). -/
def MirrorRec.type : MirrorRec → Nat
  | .pcap _ _ => 0x61
  | .bind _ => 0x62
  | .commit _ _ => 0x63
  | .crc _ _ _ => 0x64
  | .lock _ _ _ _ _ => 0x65
  | .block _ _ _ _ _ _ _ => 0x66
  | .table _ _ _ => 0x67
  | .masks _ _ _ => 0x67
  | .health _ => 0x68
  | .ctx _ => 0x69
  | .loop _ _ => 0x6a
  | .daily _ => 0x6b
  | .surrender _ _ => 0x6c
  | .verdict _ _ _ => 0x6d
  | .ack _ => 0x6e
  | .record _ _ => 0x6f

/-- The partner block. -/
structure PtnState where
  /-- Straps and pins: ACT_IN_N toggling is PTN_STATUS.HB_OK; a removal is asked for; REMOVE_OK_N asserted. -/
  removeReq : Bool
  removeOk : Bool
  /-- MSEQ of the next record sent, and the highest one the partner acknowledged. -/
  txSeq : Nat
  acked : Nat
  /-- Records received ahead of the next one (R321); none for one that has been applied on arrival. -/
  held : List (Nat × Option MirrorRec)
  /-- The next record sets the start of MSEQ. -/
  fresh : Bool
  /-- The partner's last daily (Table 12.5). -/
  partner : Option (List Nat)
  /-- Own last daily sent. -/
  sentDaily : Option (List Nat)
  /-- ACT is 1 from this fire on, and below the second where there is one. -/
  actFrom : Nat
  actUntil : Option Nat
  /-- F_s of a surrender whose WITHDRAW is still to be sent (R329). -/
  withdrawAt : Option Nat
  /-- A snapshot has been asked for (R316, R332). -/
  snapshotDue : Bool
  /-- CRC records not yet compared: fire, COMPARABLE and CRCs (R325). -/
  crcs : List (Nat × Nat × List Nat)
  /-- Successive comparable batches that matched, by port (R326). -/
  matched : Tab Nat Nat
  /-- Re-runs of mismatches: port, fire, the engine borrowed where there is one, and the fire index at the mismatch (R326). -/
  rerun : List (Nat × Nat × Option Nat × Nat)
  /-- Blocks of MIRROR = 1 contexts that wait for the ACK of a record (R322). -/
  blocks : List (Nat × IngestJob)
  /-- Completions held for mirrored contexts: slot, position, TAG, OPCODE, status and result words (R330). -/
  cqDue : List (Nat × Nat × Nat × Nat × Nat × List Nat)
  /-- Lines locked at the active controller whose bytes are not held: region, strip, first line and lines (R330). -/
  noBytes : List (Nat × Nat × Nat × Nat)
  /-- Takeover scheduled at F_s (R330). -/
  takeAt : Option Nat
  /-- Removal refused (R333). -/
  refused : Bool
  deriving DecidableEq, Repr

/-- The partner block after a cold reset (R335): SOLO, with ACT = 1. DESIGN CHOICE (log 3). -/
def PtnState.reset : PtnState :=
  { removeReq := false, removeOk := false, txSeq := 1, acked := 0, held := [], fresh := true, partner := none, sentDaily := none,
    actFrom := 0, actUntil := none, withdrawAt := none, snapshotDue := false, crcs := [], matched := [], rerun := [], blocks := [],
    cqDue := [], noBytes := [], takeAt := none, refused := false }

end Sys2Proof.Machine
end

