-- ==== Sys2Proof/Machine/StateSys.lean ====
section
/-! DEFINITION. State of reset, start-up and calibration beyond their registers (chapter "Reset, Start-Up and
Calibration"). -/

namespace Sys2Proof.Machine

/-- The DRAM configuration record as start-up reads it (R407, R425): the word of DMC_CFG, and the values it gives in place
of reset values. -/
structure DramConfig where
  word : BitVec 32
  pageIdle : Option Nat
  pnr : Option Nat
  ceThr : Option Nat
  trainMin : Option Nat
  deriving DecidableEq, Repr

/-- The end of a stage of start-up (Table 19.2), with what it found. DESIGN CHOICE (log 94). -/
inductive StageEnd where
  /-- The timebase PLL locked to ETHREF, or did not. -/
  | clock (locked : Bool)
  /-- Fuses are read; whether a burn that a reset cut off reads burned. -/
  | fuse (burned : Bool)
  | sram
  | boot
  | cal
  /-- The record, if there is a valid one; channels that trained; the read and write eyes of the channels. -/
  | dram (config : Option DramConfig) (trained : BitVec 16) (eyes : List (BitVec 8 × BitVec 8))
  | zero
  | image
  | restore
  /-- ACT_IN_N toggles; a mirror record has come within 100 ms. -/
  | role (toggles record : Bool)
  deriving DecidableEq, Repr

/-- The stage that ends. -/
def StageEnd.stage : StageEnd → Nat
  | .clock _ => 1
  | .fuse _ => 2
  | .sram => 3
  | .boot => 4
  | .cal => 5
  | .dram _ _ _ => 6
  | .zero => 7
  | .image => 8
  | .restore => 9
  | .role _ _ => 10

/-- One calibration item of one place (Table 19.9). -/
structure CalCell where
  /-- VALUE in use, in the unit of Table 19.3. -/
  value : Int
  /-- The value in use is interpolated. -/
  interp : Bool
  count : Nat
  fail : Nat
  /-- FAIL_CAUSE: 1 INPUT, 2 DISAGREE. -/
  cause : Nat
  lastNs : Nat
  lastFire : Nat
  deriving DecidableEq, Repr

/-- Default of an item: VDD_CORE is 750 mV (Table 20.5), the others are 0. DESIGN CHOICE (log 97). -/
def calDefault (item : Nat) : Int := if item = 9 then 750 else 0

/-- An item after a cold reset. -/
def CalCell.reset (item : Nat) : CalCell :=
  { value := calDefault item, interp := false, count := 0, fail := 0, cause := 0, lastNs := 0, lastFire := 0 }

/-- Reset, start-up and calibration. -/
structure SysState where
  /-- Start-up has begun since the cold reset. -/
  begun : Bool
  /-- PORZ_N is asserted. -/
  porz : Bool
  /-- CMOS and OD balls run in 3.3 V mode (R483). -/
  io33 : Bool
  /-- ETHREF has failed beyond holdover: only a cold reset recovers (R467). -/
  noTime : Bool
  /-- Items by number and place, and the items that CAL_CTRL.RUN has started. -/
  cal : Tab (Nat × Nat) CalCell
  running : List Nat
  /-- Stored sets by item, place and set (R469); they lie in the NVA. -/
  sets : Tab (Nat × Nat × Nat) Int
  /-- Instants at which sets were written since the cold reset (R470). -/
  setAt : Tab (Nat × Nat × Nat) Nat
  /-- Instants at which a code of an item was raised during refresh (R468): 1 INPUT, 2 DISAGREE. -/
  told : Tab (Nat × Nat) Nat
  deriving DecidableEq, Repr

/-- Reset, start-up and calibration after a cold reset. DESIGN CHOICE (log 3). -/
def SysState.reset : SysState :=
  { begun := false, porz := false, io33 := false, noTime := false, cal := [], running := [], sets := [], setAt := [],
    told := [] }

end Sys2Proof.Machine
end

