-- ==== Sys2Proof/Syntax.lean ====
section
/-! DEFINITION. The commands: one constructor for each row of the table of operations and events. -/

open Sys2Proof.Machine

namespace Sys2Proof

/-- Which words of a 64-bit quantity an access reaches (R7). -/
inductive WordPart where
  | low
  | high
  | both
  deriving DecidableEq, Repr

/-- Who accesses a register: a management core, a PCIe function (0 the owner's, f VF f), or a tenant's transport session
(R266, R429). -/
inductive Agent where
  | core (c : Fin 4)
  | function (f : Fin 64)
  | session
  deriving DecidableEq, Repr

/-- What goes beside a register write: the bits, placed as in the value, that a hardware event sets in the same clock (R11);
whether a cue sequence has its abort point still ahead (R437); whether VPP_FUSE is in range (R445); the root slot and signature
of a key (R457); the bank that a core is fetching (R434); and the entries that a doorbell exposes (R272). -/
structure WriteAside where
  edges : BitVec 64
  ahead : Bool
  vpp : Bool
  root : Fin 4
  signature : List Byte
  fetch : Option (Fin 4)
  entries : List (List Word)
  deriving DecidableEq, Repr

/-- Nothing beside a write. -/
def WriteAside.none : WriteAside :=
  { edges := 0, ahead := false, vpp := false, root := 0, signature := [], fetch := Option.none, entries := [] }

/-- A command: a register access, a ring entry, a message, a pin, or an event of the block's own. Requesters are the
cores 0 to 3 and the owner, 4 (Table 17.10). -/
inductive Instr where
  /-- REGISTER_WRITE (R5). A write of 32 bits (in [31:0]) or, wide, of 64 at a control-space offset, and what goes beside it. -/
  | registerWrite (writer : Agent) (addr : BitVec 28) (value : BitVec 64) (wide : Bool) (aside : WriteAside)
  /-- BAD_ACCESS (R6). An access of a width that the registers do not take. -/
  | badAccess (requester : Agent) (read : Bool) (addr : BitVec 28)
  /-- LOW_WORD_READ_LATCH (R7). A read of 32 bits, or, wide, of 64 at a control-space offset. -/
  | lowWordReadLatch (requester : Agent) (addr : BitVec 28) (wide : Bool)
  /-- LOAD (R41). A write of IMG_CTRL with LOAD = 1, and its SRC. -/
  | load (req : Fin 5) (src : BitVec 2)
  /-- IMG_LOAD_COMPLETE (R41). The loader has run its steps. -/
  | imgLoadComplete
  /-- ARM_HOT (R47). A write of IMG_CTRL with ARM_HOT = 1. -/
  | armHot (req : Fin 5)
  /-- ACT_STOP (R46). A write of IMG_CTRL with ACT_STOP = 1. -/
  | actStop (req : Fin 5)
  /-- DISARM (R48). A write of IMG_CTRL with DISARM = 1. -/
  | disarm (req : Fin 5)
  /-- DISCARD (R44). A write of IMG_CTRL with DISCARD = 1. -/
  | discard (req : Fin 5)
  /-- PERSIST (R50). A write of IMG_CTRL with PERSIST = 1. -/
  | persist
  /-- HOT_COMMIT_POINT (R47). Fire F - 32 of an armed hot activation comes. -/
  | hotCommitPoint
  /-- HOT_ACTIVATION_EFFECT (R47). Fire F of a hot activation comes. -/
  | hotActivationEffect
  /-- HOT_ACTIVATION_DONE (R47). Fire F + 1 of a hot activation comes. -/
  | hotActivationDone
  /-- STOP_ACTIVATION_DONE (R465). Every used port has reached LINKED or failed its bring-up after a stop activation. -/
  | stopActivationDone
  /-- ENC_EDGE_QUALIFIED (R54). New levels of A, B and Z of an input are qualified, with the timestamp of their first sample in ps. -/
  | encEdgeQualified (input : Fin 8) (a b z : Bool) (stamp : Nat)
  /-- ENC_GLITCH (R54). A level has reverted before MIN_EDGE_NS, at a time in ps. -/
  | encGlitch (input : Fin 8) (time : Nat)
  /-- ENC_WIRE_FAULT (R55). P and N of a pair (0 A, 1 B, 2 Z) have stood at one level for more than 20 ns. -/
  | encWireFault (input : Fin 8) (pair : Fin 3)
  /-- ENC_WIRE_CLEAR (R55). P and N of a pair differ again, with the level present. -/
  | encWireClear (input : Fin 8) (pair : Fin 3) (level : Bool)
  /-- WIRE_LOST_TIMEOUT (R82). WIRE has been set for 1 µs. -/
  | wireLostTimeout (input : Fin 8) (time : Nat)
  /-- DEAD_RECKONING_END (R84). DR_MAX_US of dead reckoning have passed. -/
  | deadReckoningEnd (time : Nat)
  /-- INPUT_RETURN (R82). A write of 1 to POS_ENC[i].STATUS.LOST. -/
  | inputReturn (input : Fin 8)
  /-- STANDSTILL (R60). An input has had no qualified count for 10 ms. -/
  | standstill (input : Fin 8) (time : Nat)
  /-- FIRE_COMMIT (R73). The commit instant of the next scheduled fire comes. -/
  | fireCommit
  /-- OVERSPEED_RELEASE (R68). 10 ms have passed without a deferral. -/
  | overspeedRelease (time : Nat)
  /-- FIRING_END (R69). The fire instant of the last committed fire passes. -/
  | firingEnd (time : Nat)
  /-- FIRE_EN (R69). A write of POS_CTRL with FIRE_EN = 1. -/
  | fireEn (req : Fin 5)
  /-- FIRE_DISABLE (R69). A write of POS_CTRL with FIRE_EN = 0. -/
  | fireDisable (req : Fin 5)
  /-- STOP_CLR (R491). A write of POS_CTRL with STOP_CLR = 1. -/
  | stopClr
  /-- ZERO (R64). A write of POS_CTRL with ZERO = 1. -/
  | zero (req : Fin 5)
  /-- CAL (R79). A write of POS_CTRL with CAL = 1. -/
  | cal (req : Fin 5)
  /-- CAL_DONE (R79). Every port has finished the measurement that CAL started. -/
  | calDone
  /-- PD_REFRESH_DONE (R80). A port's delay has been measured, by the refresh or at its bring-up. -/
  | pdRefreshDone (port : Fin 192)
  /-- PORT_DELAY_WRITE (R79). A write of POS_PORT_DELAY[n]. -/
  | portDelayWrite (req : Fin 5) (port : Fin 192) (pd : BitVec 16)
  /-- PASS_ARM (R70). A write of POS_CTRL with PASS_ARM = 1. -/
  | passArm (req : Fin 5)
  /-- REGION_OPEN (R90). A ring entry of a slot: its 16 words. -/
  | regionOpen (slot : Fin 4096) (w : List Word)
  /-- REGION_CLOSE (R92). A ring entry of a slot: its 16 words. -/
  | regionClose (slot : Fin 4096) (w : List Word)
  /-- BLOCK (R94). A ring entry of a slot: its 16 words, and the bytes that host memory holds at SRC (an Ethernet-bound context's lie in its staging area). -/
  | block (slot : Fin 4096) (w : List Word) (data : List Byte)
  /-- INGEST_CHECK_DONE (R95). The ingest checker has finished the block at this place of its queue. -/
  | ingestCheckDone (job : Nat)
  /-- CMP_LEAD_LINES_WRITE (R101). A write to CMP_LEAD_LINES. -/
  | cmpLeadLinesWrite (req : Fin 5) (value : Word)
  /-- BLOCK_FETCH (R105). The fetch unit reads a locked block for the head row of a sibling, with this outcome. -/
  | blockFetch (region strip first : Nat) (sibling : Fin 4) (outcome : FetchOutcome)
  /-- SEEK_DONE (R109). The seek of a nozzle row ends. -/
  | seekDone (port : Fin 192) (row : Fin 4)
  /-- COMPRESS_SYMBOLS (R130). A compressor unit accepts symbols; its user's block size is as given. -/
  | compressSymbols (unit : Fin 32) (symbols : List (Fin 16)) (size : Nat)
  /-- COMPRESS_FLUSH (R130). A user flush, with the symbols accepted in the same clock. -/
  | compressFlush (unit : Fin 32) (symbols : List (Fin 16)) (size : Nat)
  /-- SELFCHECK_DONE (R131). The comparison of the unit's oldest closed block ends. -/
  | selfcheckDone (unit : Fin 32) (agree : Bool)
  /-- BATCH_START (R137). The engine of the port starts the batch of this fire, and corrects so many single-bit errors of the table. -/
  | batchStart (port : Fin 192) (fire : BitVec 48) (corrected : Nat)
  /-- BATCH_COMPLETE (R136). The last descriptor of the port's oldest batch leaves the pipeline. -/
  | batchComplete (port : Fin 192)
  /-- FORECAST_FRAME (R168). A forecast port sends the frame of the fire 10 above POS_FIRE_INDEX. -/
  | forecastFrame (fc : Fin 8)
  /-- HEALTH_GO (R492). A write of EMB_HC_CTRL with GO = 1. -/
  | healthGo (req : Fin 5) (value : Word)
  /-- HEALTH_FOLD (R145). A port folds the oldest entry it has not folded. -/
  | healthFold (port : Fin 192)
  /-- NZT_WRITE (R162). A word written to a per-nozzle entry (its low or high word) or to a word of the synthesis page. -/
  | nztWrite (req : Fin 5) (port : Fin 192) (target : SynTarget) (high : Bool) (value : Word)
  /-- COMMIT (R164). A write of SYN_CTRL with COMMIT = 1. -/
  | commit (req : Fin 5) (port : Fin 192)
  /-- ABORT (R164). A write of SYN_CTRL with ABORT = 1. -/
  | abort (req : Fin 5) (port : Fin 192)
  /-- TABLE_READY_WRITE (R161). A write of SYN_CTRL.TABLE_READY. -/
  | tableReadyWrite (req : Fin 5) (port : Fin 192) (ready : Bool)
  /-- ENGINE_FAULT (R170). An engine faults: 0 table ECC, 1 datapath parity, 2 deadline; and the single-bit errors it corrected before. -/
  | engineFault (engine : Fin 200) (cause : Fin 3) (corrected : Nat)
  /-- RETIRE (R173). A write of EMB[e].CTRL with RETIRE = 1. -/
  | retire (req : Fin 5) (engine : Fin 200)
  /-- CUE_START (R435). The cue engine starts the next sequence that can start. -/
  | cueStart
  /-- CUE_DONE (R436). The sequence that runs in a place of CUE_SEQ completes, at its abort point where an abort was accepted. -/
  | cueDone (place : Fin 8)
  /-- CUE_ABORT (R437). A write of CUE_ABORT; ahead tells whether a running sequence has its abort point still ahead. -/
  | cueAbort (req : Fin 5) (generation : BitVec 16) (ahead : Bool)
  /-- CUE_QUERY (R436). A write of CUE_QUERY: class and index of an object. -/
  | cueQuery (cls : Byte) (index : BitVec 12)
  /-- SLATE_SEND (R181). A committed fire's slate leaves a port in the slot promised to it. -/
  | slateSend (port : Fin 192) (fire : BitVec 48)
  /-- BATCH_SEND (R188). The port sends its oldest complete batch. -/
  | batchSend (port : Fin 192)
  /-- BATCH_SKIP (R190). The batch of this fire cannot be sent in time. -/
  | batchSkip (port : Fin 192) (fire : BitVec 48)
  /-- CAP (R196). A CAP message of a head. -/
  | cap (port : Fin 192) (headId : BitVec 64) (w3 w4 w5 : Word)
  /-- HEAD_ACK (R186). An ACK message of a head: its status and the SEQ it names. -/
  | headAck (port : Fin 192) (refused : Bool) (seq : BitVec 8)
  /-- HEAD_EVENT (R204). An EVENT message: UNDERRUN, LATE, BATCH_CRC, CHECK_ERR, SLATE_MISS and DUAL_ACT. -/
  | headEvent (port : Fin 192) (counts : Vector (BitVec 16) 6)
  /-- NSENSE (R205). The entries of an NSENSE message. -/
  | nsense (port : Fin 192) (entries : List Word)
  /-- SAMPLE (R206). A SAMPLE message: one word per sample. -/
  | sample (port : Fin 192) (entries : List Word)
  /-- CREDIT (R189). A CREDIT message. -/
  | credit (port : Fin 192) (lastSeq count : BitVec 8)
  /-- ECHO_WORD (R207). An echo word and its measured round trip in ps. -/
  | echoWord (port : Fin 192) (word : Word) (roundTrip : Nat)
  /-- MSG_CRC_FAIL (R185). A message fails its CRC: its words as received, and lane and header of the blocks received in its span. -/
  | msgCrcFail (words : List Word) (headers : List (Fin 1024 × Byte))
  /-- ACK_TIMEOUT (R186). 100 µs have passed with no ACK of this message. -/
  | ackTimeout (port : Fin 192) (seq : BitVec 8)
  /-- UPSTREAM_SILENT (R203). 250 ms have passed with no upstream message. -/
  | upstreamSilent (port : Fin 192)
  /-- VERSION_RETRY (R196). 100 ms have passed with the port held in CAPS. -/
  | versionRetry (port : Fin 192)
  /-- GO (R197). A write of LINK_CTRL with GO = 1. -/
  | go (req : Fin 5) (port : Fin 192)
  /-- GO_ALL (R197). A write of HL_GLB_CTRL with GO_ALL = 1. -/
  | goAll (req : Fin 5)
  /-- LEAVE (R198). A write of LINK_CTRL with LEAVE = 1. -/
  | leave (req : Fin 5) (port : Fin 192)
  /-- RELINK (R460). A write of LINK_CTRL with RELINK = 1. -/
  | relink (req : Fin 5) (port : Fin 192)
  /-- PORT_JOIN_EFFECT (R197). F_join of a port comes. -/
  | portJoinEffect (port : Fin 192)
  /-- PORT_LEAVE_EFFECT (R198). The port's leave index has come. -/
  | portLeaveEffect (port : Fin 192)
  /-- RATE_RELEASE (R195). 10 ms have passed at or below HL_LINK_FMAX. -/
  | rateRelease (time : Nat)
  /-- INS_RUN_WRITE (R217). A write of INS[c].CTRL.RUN. -/
  | insRunWrite (pipe : Fin 24) (run : Bool)
  /-- INS_CLOSE (R226). A write of INS[c].CTRL with CLOSE = 1. -/
  | insClose (pipe : Fin 24)
  /-- INS_RELINK (R237). A write of INS[c].CTRL with RELINK = 1. -/
  | insRelink (pipe : Fin 24)
  /-- TRIGGER_SEND (R217). The position reaches this multiple of TRIG_STEP. -/
  | triggerSend (pipe : Fin 24) (multiple : Int)
  /-- CAMCAP (R213). A CAMCAP message of a camera. -/
  | camcap (pipe : Fin 24) (camId : BitVec 64) (w3 w4 : Word)
  /-- CAM_ACK (R213). An ACK message of a camera: its status and the SEQ it names. -/
  | camAck (pipe : Fin 24) (refused : Bool) (seq : BitVec 8)
  /-- RAW_PACKET (R215). A RAW10, RAW12 or RAW16 packet (0, 1, 2): its words, and the gate table entries it uses that are uncorrectable. -/
  | rawPacket (pipe : Fin 24) (fmt : Fin 3) (w1 w2 : Word) (body : List Word) (bad : List Nat)
  /-- META (R213). A META packet: its words. -/
  | camMeta (pipe : Fin 24) (w1 : Word) (body : List Word)
  /-- ECHO (R218). An ECHO message. -/
  | echo (pipe : Fin 24) (tseq : BitVec 16) (expMid : BitVec 24)
  /-- CAM_EVENT (R213). An EVENT message of a camera. -/
  | camEvent (pipe : Fin 24) (dropped overflows : BitVec 16)
  /-- LINE_CLOSE_TIMEOUT (R219). 1 ms has passed after the trigger of this line. -/
  | lineCloseTimeout (pipe : Fin 24) (tseq : BitVec 16)
  /-- RECORD_HANDOFF (R232). The pipeline hands its oldest record over. -/
  | recordHandoff (pipe : Fin 24)
  /-- STAT_RECORD_WRITE (R232). The pipeline writes its oldest record that was handed over. -/
  | statRecordWrite (pipe : Fin 24)
  /-- UPLOAD_COMPRESS (R235). The pipeline's oldest due frame reaches its compressor unit. -/
  | uploadCompress (pipe : Fin 24)
  /-- GT_DATA_ACCESS (R221). A write of GT_DATA, or a read of it (none). -/
  | gtDataAccess (req : Fin 5) (pipe : Fin 24) (value : Option Word)
  /-- CAMERA_SILENT (R237). 10 ms have passed with no message of the camera. -/
  | cameraSilent (pipe : Fin 24)
  /-- QL_RECORD_PROCESS (R242). The loop processes the oldest record that waits. -/
  | qlRecordProcess
  /-- QL_HEALTH_PRESENT (R246). The loop presents the health command of its oldest decision. -/
  | qlHealthPresent
  /-- QL_HEALTH_RETRY (R246). 100 µs have passed since a health command of the loop was refused. -/
  | qlHealthRetry
  /-- QL_CLEAR (R257). A write of QL_CTRL with CLEAR = 1. -/
  | qlClear
  /-- CASCAP (R258). A CASCAP message on a cascade link (4p + i). -/
  | cascap (link : Fin 8) (body : Word)
  /-- CASCADE_RETRY (R258). 100 ms have passed since bring-up of a cascade link failed. -/
  | cascadeRetry (link : Fin 8)
  /-- SHAPE (R259). A SHAPE message: W1, W2 and what it says of each fluid. -/
  | shape (link : Fin 8) (w1 serial : Word) (fluids : List (Fin 16 × RemoteFluid))
  /-- FEED (R260). A FEED message: its words, and its block with the tag. -/
  | feed (link : Fin 8) (w1 w2 w3 w4 w5 : Word) (block : List Byte)
  /-- CAS_HEALTH (R260). A HEALTH message of the cascade: W1, and W2 to W10. -/
  | casHealth (link : Fin 8) (w1 : Word) (body : Vector Word 9)
  /-- SPOILN (R260). A SPOILN message. -/
  | spoiln (link : Fin 8) (w1 w2 w3 w4 w5 : Word)
  /-- DEVREC (R261). A DEVREC message: W1 to W5 and its entries. -/
  | devrec (link : Fin 8) (w1 frame w3 w4 w5 : Word) (entries : List Word)
  /-- SQ_TAIL_DOORBELL (R272). A write of TEN[s].SQ_TAIL by a function (0 PF, f VF), or by the transport session (none). -/
  | sqTailDoorbell (slot : Fin 4096) (fn : Option (Fin 64)) (value : Word) (entries : List (List Word))
  /-- CQ_HEAD_DOORBELL (R272). A write of TEN[s].CQ_HEAD by a function (0 PF, f VF), or by the transport session (none). -/
  | cqHeadDoorbell (slot : Fin 4096) (fn : Option (Fin 64)) (value : Word)
  /-- RING_GRANT (R274). The ring arbiter grants a ring. -/
  | ringGrant (slot : Fin 4096)
  /-- NOP (R275). A NOP entry of a submission ring: its 16 words. -/
  | nop (slot : Fin 4096) (w : List Word)
  /-- UPLOAD_SUB (R235). A ring entry of a slot: its 16 words. -/
  | uploadSub (slot : Fin 4096) (w : List Word)
  /-- UPLOAD_UNSUB (R275). A ring entry of a slot: its 16 words. -/
  | uploadUnsub (slot : Fin 4096) (w : List Word)
  /-- ACCT_READ (R283). An ACCT_READ entry of a submission ring. -/
  | acctRead (slot : Fin 4096) (w : List Word)
  /-- CTX_OPEN (R268). A CTX_OPEN entry of a submission ring. -/
  | ctxOpen (slot : Fin 4096) (w : List Word)
  /-- CTX_CLOSE (R284). A CTX_CLOSE entry of a submission ring. -/
  | ctxClose (slot : Fin 4096) (w : List Word)
  /-- CTX_PARK (R269). A CTX_PARK entry of a submission ring. -/
  | ctxPark (slot : Fin 4096) (w : List Word)
  /-- CTX_ACTIVATE (R270). A CTX_ACTIVATE entry of a submission ring. -/
  | ctxActivate (slot : Fin 4096) (w : List Word)
  /-- CTX_QUOTA (R278). A CTX_QUOTA entry of a submission ring. -/
  | ctxQuota (slot : Fin 4096) (w : List Word)
  /-- CTX_ZERO_DONE (R284). Units of a slot have been zeroed. -/
  | ctxZeroDone (slot : Fin 4096)
  /-- HOST_CQ_WRITE_FAIL (R288). A write of a completion into host memory has failed. -/
  | hostCqWriteFail (slot : Fin 4096)
  /-- ETH_FRAME_RECEIVE (R291). A frame arrives on EPp, in split mode on sub-port EPp.s: its bytes from the destination address to the FCS. -/
  | ethFrameReceive (ep : Fin 20) (sub : Fin 4) (frame : List Byte)
  /-- ETH_FRAME_TRANSMIT (R307). A frame, without FCS, is sent on EPp, in split mode on sub-port EPp.s. -/
  | ethFrameTransmit (ep : Fin 20) (sub : Fin 4) (frame : List Byte)
  /-- TXTS_POP (R309). A requester reads word 3 of HST_EP[p].TXTS. -/
  | txtsPop (req : Fin 5) (ep : Fin 20)
  /-- ETH_LINK_CHANGE (R312). The links of EPp (per sub-port, or bit 0 in 100G mode) and the FEC in use become these. -/
  | ethLinkChange (ep : Fin 20) (up : BitVec 4) (fec : BitVec 2)
  /-- HELLO (R295). A HELLO datagram from an address, UDP port and VLAN on EPp. -/
  | hello (ep : Fin 20) (peer : BitVec 128) (port : BitVec 16) (vlan : BitVec 13) (data : List Byte)
  /-- ENTRIES (R294). An ENTRIES datagram: its bytes, header to tag. -/
  | entries (data : List Byte)
  /-- XPT_DOORBELL (R294). A DOORBELL datagram. -/
  | xptDoorbell (data : List Byte)
  /-- XPT_WRITE (R296). A WRITE datagram. -/
  | xptWrite (data : List Byte)
  /-- XPT_ACK (R297). An ACK datagram. -/
  | xptAck (data : List Byte)
  /-- XPT_CLOSE (R294). A CLOSE datagram. -/
  | xptClose (data : List Byte)
  /-- XPT_ACK_TIMER (R297). 20 µs have passed since an arrival on the slot's session. -/
  | xptAckTimer (slot : Fin 4096)
  /-- XPT_RESEND (R297). The resend time of the datagram with this SEQ has passed. -/
  | xptResend (slot : Fin 4096) (seq : BitVec 32)
  /-- CQE_COALESCE_TIMER (R298). COAL_US have passed since the oldest waiting completion entry of the slot. -/
  | cqeCoalesceTimer (slot : Fin 4096)
  /-- D3HOT_ENTRY (R304). A configuration write moves a function to D3hot, with this PME_En; or PME_Turn_Off arrives. -/
  | d3hotEntry (fn : Fin 64) (turnOff pmeEn : Bool)
  /-- D0_RETURN (R304). A function returns to D0. -/
  | d0Return (fn : Fin 64)
  /-- VF_FLR (R301). An FLR of VF f (1 to 63). -/
  | vfFlr (vf : Fin 64)
  /-- PF_FLR (R301). An FLR of the PF or a hot reset; or the PCIe link goes down. -/
  | pfFlr (linkDown : Bool)
  /-- MSIX_TIMER (R302). The moderation timer of a vector expires. -/
  | msixTimer (fn : Fin 64) (vec : Fin 64)
  /-- MSIX_UNMASK (R303). The mask of a vector, or the function mask, clears. -/
  | msixUnmask (fn : Fin 64) (vec : Option (Fin 64))
  /-- PME_REPEAT (R304). 100 ms have passed since the last PM_PME of a function. -/
  | pmeRepeat (fn : Fin 64)
  /-- TSU_INC_WRITE (R305). A write to TSU_INC: one of its words (in [31:0]) or both. -/
  | tsuIncWrite (req : Fin 5) (part : WordPart) (value : BitVec 64)
  /-- TSU_STEP (R306). TSU_CTRL.STEP is set. -/
  | tsuStep (req : Fin 5)
  /-- TSU_SET (R306). TSU_CTRL.SET is set. -/
  | tsuSet (req : Fin 5)
  /-- TOUT_ARM (R310). A write to TOUT[t].CTRL. -/
  | toutArm (req : Fin 5) (t : Fin 8) (value : Word)
  /-- TOUT_PULSE (R310). The time of the next pulse of TOUTt has come. -/
  | toutPulse (t : Fin 8)
  /-- PRESENT_CHANGE (R316). PRESENT_N is asserted or deasserted. -/
  | presentChange (present : Bool)
  /-- HEARTBEAT_LOST (R318). The heartbeat on ACT_IN_N has been absent for 3.1 µs while records go on. -/
  | heartbeatLost
  /-- MIRROR_SILENT (R318). No record has come for 3.1 µs while the heartbeat goes on. -/
  | mirrorSilent
  /-- SILENT_DEATH (R318). Neither a heartbeat nor a record has come for 3.1 µs. -/
  | silentDeath
  /-- DUAL_ACTIVE (R319). ACT_IN_N has toggled for 3 µs. -/
  | dualActive
  /-- PCAP (R320). A PCAP record on a link of the mirror port. -/
  | pcap (link : Fin 8) (pairId : Bool)
  /-- MIRROR_LINK_RETRY (R320). 100 ms have passed since a link of the mirror port failed. -/
  | mirrorLinkRetry (link : Fin 8)
  /-- BIND (R323). A BIND record. -/
  | bindRecord (mseq : Word) (b : BindRec)
  /-- MIRROR_COMMIT (R324). A COMMIT record. -/
  | mirrorCommit (mseq : Word) (fire : BitVec 48) (line : Int)
  /-- MIRROR_CRC (R325). A CRC record. -/
  | mirrorCrc (mseq : Word) (fire : BitVec 48) (comparable : BitVec 192) (crcs : Vector Word 192)
  /-- VERDICT_READY (R326). The oldest re-run is complete: it equals the active controller's CRC (0), this one's first CRC (1), or neither (2). -/
  | verdictReady (outcome : Fin 3)
  /-- LOCK (R102). A LOCK record. -/
  | lockRecord (mseq : Word) (region : BitVec 16) (strip first lines : Nat) (missing : Bool)
  /-- MIRROR_BLOCK (R322). A BLOCK record. -/
  | mirrorBlock (mseq : Word) (slot : Fin 4096) (region : BitVec 16) (strip first lines heapLen : Nat) (bytes : Sealed)
  /-- TABLE (R323). A TABLE record: writes at once, or an update set with its F. -/
  | tableRecord (mseq : Word) (port : Fin 192) (entries : List (SynTarget × Nat)) (fire : Option (BitVec 48))
  /-- MIRROR_HEALTH (R323). A HEALTH record. -/
  | mirrorHealth (mseq : Word) (h : PendHealth)
  /-- CTX (R322). A CTX record. -/
  | ctxRecord (mseq : Word) (c : CtxRec)
  /-- LOOP (R240). A LOOP record: port, nozzle and loop state, and the loop sets armed by port with F and nozzles. -/
  | loopRecord (mseq : Word) (cells : List (Fin 192 × Fin 16384 × LoopCell)) (armed : List (Fin 192 × Nat × List (Fin 16384)))
  /-- DAILY (R328). A DAILY record: its words 1 to 28. -/
  | daily (mseq : Word) (words : Vector Word 28)
  /-- DAILY_SEND (R328). A daily is due. -/
  | dailySend
  /-- SURRENDER (R330). A SURRENDER record. -/
  | surrenderRecord (mseq : Word) (fire : BitVec 48) (cause : Byte)
  /-- VERDICT (R326). A VERDICT record. -/
  | verdict (mseq : Word) (port : Fin 192) (fire : BitVec 48) (outcome : Fin 3)
  /-- MIRROR_ACK (R322). An ACK record. -/
  | mirrorAck (mseq acked : Word)
  /-- RECORD (R321). A RECORD message: the statistics record of a standby pipeline. -/
  | recordMsg (mseq : Word) (pipe : Fin 24) (words : List Word)
  /-- MIRROR_GAP (R321). A gap in MSEQ has not been filled within 50 µs. -/
  | mirrorGap
  /-- PTN_SURRENDER (R329). A write of PTN_CTRL with SURRENDER = 1. -/
  | ptnSurrender
  /-- TAKEOVER (R330). The commit of F_t comes. -/
  | takeover
  /-- SNAPSHOT_APPLIED (R332). The snapshot is complete: its records, and the MSEQ of the last one. -/
  | snapshotApplied (mseq : Word) (recs : List MirrorRec)
  /-- RESYNC (R316). A write of PTN_CTRL with RESYNC = 1. -/
  | resync
  /-- REMOVE_REQUEST (R333). REMOVE_REQ_N is asserted or deasserted. -/
  | removeRequest (assert : Bool)
  /-- FORCE_REMOVE (R333). A write of PTN_CTRL with FORCE_REMOVE = 1. -/
  | forceRemove
  /-- PAIR_EN_WRITE (R314). A write of PTN_CTRL with its PAIR_EN. -/
  | pairEnWrite (enable : Bool)
  /-- BUDGET_ESTIMATE (R337). A new estimate every 10 us: E in 0.01 W, the 8 sensors in 0.1 degrees C, each task's remaining run time in ps, and the raw bytes changed since the last checkpoint. -/
  | budgetEstimate (e : BitVec 16) (tj : List (BitVec 11)) (left : List Nat) (delta : Nat)
  /-- SPEED_HOLD_RELEASE (R341). SPEED_HOLD_MS without a failed urgent admission. -/
  | speedHoldRelease
  /-- POWER_OVER (R342). E has been above PWR_LIMIT_W for 100 us. -/
  | powerOver
  /-- TASK_DUE (R339). A drone task falls due; change marks a change-triggered daily, next is the instant of a subscription's next due frame. -/
  | taskDueCmd (task : Fin 8) (change : Bool) (next : Nat)
  /-- TASK_DEADLINE_MISS (R341). A task's deadline passes. -/
  | taskDeadlineMiss (task : Fin 8)
  /-- TASK_COMPLETE (R339). A task completes. -/
  | taskComplete (task : Fin 8)
  /-- CHECKPOINT_COMMIT (R345). The saved state that the checkpoint holds, before compression. -/
  | checkpointCommit (raw : List Byte)
  /-- JOURNAL_WRITE (R347). A queued journal record can be written. -/
  | journalWrite
  /-- CKPT_NOW (R343). A write of PWR_CTRL with CKPT_NOW = 1. -/
  | ckptNow
  /-- DRONE_EN_WRITE (R338). A write of PWR_CTRL.DRONE_EN. -/
  | droneEnWrite (on : Bool)
  /-- PF_GLITCH (R348). PF_N asserted for less than 1 us. -/
  | pfGlitch
  /-- BREATH_START (R348). PF_N asserted for 1 us. -/
  | breathStart
  /-- SUPPLY_TRIP (R348). A monitored rail (VDD_CORE, VDDA_SD, VDDQ_DDR, VDD_NVA) below 92 % for 1 us. -/
  | supplyTrip (rail : Fin 4)
  /-- SHED_DONE (R349). SHED is complete. -/
  | shedDone
  /-- HOLD_EXPIRE (R349). 200 us after Breath started with PF_N asserted. -/
  | holdExpire
  /-- PF_RECOVER (R353). PF_N deasserted. -/
  | pfRecover
  /-- BREATH_COMMIT (R350). The Breath image, before compression: its parts 1 and 2, and part 3. -/
  | breathCommit (parts part3 : List Byte)
  /-- PG_STABLE (R352). PG has been high without a break for 20 ms. -/
  | pgStable
  /-- LSP_FRAME (R361). A frame runs on a low-speed serial port: the command word seen on the line where this controller does not drive it, and the 40 bits that come in. -/
  | lspFrame (port : Fin 8) (line : Option Word) (response : BitVec 40)
  /-- LOOP_EVALUATE (R365). The instant of a loop's evaluation, in ps; missed where it has not started when the next one arrives. -/
  | loopEvaluate (loop : Fin 256) (missed : Bool) (time : Nat)
  /-- LOOP_SAFE_TIMEOUT (R371). A loop has been in HOLD for HOLD_MS. -/
  | loopSafeTimeout (loop : Fin 256)
  /-- LOOP_RESUME (R370). A write of CTL_LOOP CTRL with RESUME = 1. -/
  | loopResume (req : Fin 5) (loop : Fin 256)
  /-- LOOP_SP_WRITE (R372). A write of CTL_LOOP SP. -/
  | loopSpWrite (loop : Fin 256) (value : BitVec 16)
  /-- CTL_RC_DATA_ACCESS (R384). A read of a word of CTL_RC_DATA, or a write. -/
  | ctlRcDataAccess (req : Fin 5) (high : Bool) (write : Option Word)
  /-- PUSH (R374). A write of CTL_AX CTRL with PUSH = 1. -/
  | axisPush (req : Fin 5) (axis : Fin 32)
  /-- HALT (R376). A write of CTL_AX CTRL with HALT = 1. -/
  | axisHalt (axis : Fin 32)
  /-- AXIS_ABORT (R376). A write of CTL_AX CTRL with ABORT = 1. -/
  | axisAbort (axis : Fin 32)
  /-- HOME (R377). A write of CTL_AX CTRL with HOME = 1. -/
  | axisHome (req : Fin 5) (axis : Fin 32)
  /-- AXIS_PLAN_TICK (R375). 1 us of an axis, at a time in ps; seen gives the steps on the lines where this controller does not drive them. -/
  | axisPlanTick (axis : Fin 32) (seen : Int) (time : Nat)
  /-- HOME_EDGE (R377). AXHOME becomes active. -/
  | homeEdge (axis : Fin 32)
  /-- AXIS_LIMIT (R376). AXLIM becomes active. -/
  | axisLimit (axis : Fin 32)
  /-- ASB_CYCLE (R378). A 32 us cycle of an axis serial bus begins. -/
  | asbCycle (bus : Fin 4) (time : Nat)
  /-- ASB_UP_WORD (R378). The reply slot of a driver ends: its up word, or none. -/
  | asbUpWord (axis : Fin 32) (word : Option Word)
  /-- AXIS_REST_HOLD (R379). An axis has been at rest for 100 ms. -/
  | axisRestHold (axis : Fin 32)
  /-- LANE_SIGNAL_DETECT (R392). Signal without a break for 10 us on a DEEP lane. -/
  | laneSignalDetect (lane : Fin 1024)
  /-- LANE_STAGE_DONE (R392). A bring-up stage completes: the CTLE step, the 12 DFE taps, and the eye that its measuring stages found. -/
  | laneStageDone (lane : Fin 1024) (ctle : BitVec 4) (taps : List (BitVec 6)) (width height : BitVec 8)
  /-- LANE_STAGE_TIMEOUT (R392). A bring-up stage has not completed in its time. -/
  | laneStageTimeout (lane : Fin 1024)
  /-- BLOCK_LOCK_LOSS (R393). 16 of 64 successive headers are invalid. -/
  | blockLockLoss (lane : Fin 1024) (headers : Vector Byte 64)
  /-- LANE_LOS (R393). No signal for more than 4 us. -/
  | laneLos (lane : Fin 1024)
  /-- LANE_BLOCK_ERR_RETRAIN (R394). More than BLK_ERR_RETRAIN blocks discarded within 1 s. -/
  | laneBlockErrRetrain (lane : Fin 1024)
  /-- LANE_RAIL (R395). A tap (0 to 11) or the CTLE (12) at the end of its range for 1 s. -/
  | laneRail (lane : Fin 1024) (tap : Fin 13)
  /-- SLEEP_BLOCK (R396). A sleep block is received. -/
  | sleepBlock (lane : Fin 1024)
  /-- LANE_WAKE (R397). The alignment block after a wake preamble is received. -/
  | laneWake (lane : Fin 1024)
  /-- REF_BAD (R388). REFA or REFB turns bad. -/
  | refBad (refB : Bool)
  /-- REF_RETURN (R388). REFA has been good for 1 s. -/
  | refReturn
  /-- REF_HOLDOVER_END (R389). 100 us of holdover have passed. -/
  | refHoldoverEnd
  /-- TEST (R399). A write of LNE CTRL that sets or clears TEST. -/
  | laneTest (req : Fin 5) (lane : Fin 1024) (on : Bool)
  /-- REVIVE (R402). A write of LNE CTRL with REVIVE = 1. -/
  | laneRevive (lane : Fin 1024)
  /-- RETRAIN (R394). A write of LNE CTRL with RETRAIN = 1. -/
  | laneRetrain (lane : Fin 1024)
  /-- INJ_CTRL_WRITE (R400). A write of INJ_CTRL. -/
  | injCtrlWrite (req : Fin 5) (lane : Fin 1024) (value : Word)
  /-- MARGIN_SCAN_DONE (R401). The scan of a lane ends: the eye's width and height, or none where the lane left UP. -/
  | marginScanDone (lane : Fin 1024) (eye : Option (BitVec 8 × BitVec 8))
  /-- SCAN_NOW (R401). A write of LNE_GLB_CTRL with SCAN_NOW = 1. -/
  | scanNow
  /-- REFRESH_DUE (R413). A bank's refresh interval has expired; busy where requests wait for the bank. -/
  | refreshDue (sub : Fin 32) (rank : Fin 2) (bankGroup : Fin 8) (bank : Fin 4) (busy : Bool)
  /-- DRAM_TEMP_READ (R413). The devices of a channel report their temperature. -/
  | dramTempRead (channel : Fin 16) (celsius : Int)
  /-- DRAM_GRANT (R410). A subchannel can grant a burst; the requests that have arrived since its last grant. -/
  | dramGrant (sub : Fin 32) (arrivals : List DramReq)
  /-- CE_WRITEBACK (R418). A corrected burst is written back: the device, and the codewords corrected. -/
  | ceWriteback (sub : Fin 32) (rank : Fin 2) (device : Fin 5) (codewords : BitVec 2)
  /-- DRAM_FREEZE (R421). A read UE (0), a CA parity error (1) or a write CRC error after 3 retries (2), at a DRAM address. -/
  | dramFreeze (addr : BitVec 64) (cause : Fin 3) (command : Byte) (requester : Fin 9) (syndrome : List Word)
  /-- GROUP_RESET (R422). A write of DMC_GRP CTRL with RESET = 1. -/
  | groupReset (req : Fin 5) (group : Fin 4)
  /-- RETRAIN_SLICE (R424). A slice has measured a candidate setting: its read and write eye in UI/64. -/
  | retrainSlice (channel : Fin 16) (readEye writeEye : Byte)
  /-- RETRAIN_DONE (R424). Retraining of a group ends: the eyes that the settings in use measure, per channel. -/
  | retrainDone (group : Fin 4) (old : List (Byte × Byte))
  /-- DMC_PRIO_WRITE (R411). A write of DMC_PRIO. -/
  | dmcPrioWrite (requester : Fin 9) (prio : BitVec 3)
  /-- WATCHDOG_EXPIRE (R428). WDT_MS has passed since the last start of a core's watchdog. -/
  | watchdogExpire (core : Fin 4)
  /-- KICK (R428). A write of GLB_WDT[c].KICK. -/
  | kick (core : Fin 4)
  /-- LOAD_WINDOW (R430). A 1 ms window ends: each core's cycles outside WFI, and the cores that are in WFI. -/
  | loadWindow (c0 c1 c2 c3 : Fin 1600001) (wfi : BitVec 4)
  /-- NVA_OP_GO (R432). A write of NVA_OP[r].CTRL with GO = 1: its ERASE bit, and the bank that holds the address core r is fetching, if one does. -/
  | nvaOpGo (r : Fin 5) (erase : Bool) (fetch : Option (Fin 4))
  /-- NVA_LINE_WRITTEN (R433). A bank finishes writing the line in progress. -/
  | nvaLineWritten (bank : Fin 4)
  /-- NVA_ECC_ERROR (R431). A read of an NVA line by a core or an internal user (none) meets an error; corrected tells of a single one. -/
  | nvaEccError (addr : BitVec 32) (core : Option (Fin 4)) (corrected : Bool)
  /-- IRQ_MOD_TIMER (R442). TIMER has passed since the first source that became pending for a core and class. -/
  | irqModTimer (core : Fin 4) (fast : Bool)
  /-- CLAIM (R440). A read of CLAIM_N or CLAIM_F of a core, or of IRQ_KEEPER_CLAIM (4). -/
  | claim (reader : Fin 5) (core : Fin 5) (fast : Bool)
  /-- IRQ_MASK_SET (R439). A write of a word of IRQ_MASK_SET. -/
  | irqMaskSet (word : Fin 64) (value : Word)
  /-- IRQ_MASK_CLR (R439). A write of a word of IRQ_MASK_CLR. -/
  | irqMaskClr (word : Fin 64) (value : Word)
  /-- IRQ_PEND_SET (R439). A write of a word of IRQ_PEND_SET. -/
  | irqPendSet (word : Fin 64) (value : Word)
  /-- IRQ_PEND_CLR (R439). A write of a word of IRQ_PEND_CLR, and the sources whose qualifying edge falls in the same clock. -/
  | irqPendClr (word : Fin 64) (value : Word) (edges : Word)
  /-- KEY_LOCK (R457). A write of SEC_CTRL with KEY_LOCK = 1. -/
  | keyLock (req : Fin 5)
  /-- VCEIL_DOWN (R447). A write of SEC_CTRL with VCEIL_DOWN = 1; vpp tells whether VPP_FUSE is in range. -/
  | vceilDown (req : Fin 5) (vpp : Bool)
  /-- FLOOR_UP (R446). A write of SEC_CTRL with FLOOR_UP = 1. -/
  | floorUp (req : Fin 5) (vpp : Bool)
  /-- REVOKE (R446). A write of SEC_CTRL with REVOKE = 1. -/
  | revoke (req : Fin 5) (vpp : Bool)
  /-- ROOT_PROG (R446). A write of SEC_CTRL with ROOT_PROG = 1. -/
  | rootProg (req : Fin 5) (vpp : Bool)
  /-- KEY_INSTALL (R457). A write of SEC_CTRL with KEY_INSTALL = 1; for the owner image key, the root slot and the signature that come with it. -/
  | keyInstall (req : Fin 5) (root : Fin 4) (signature : List Byte)
  /-- LC_GO (R450). A write of SEC_CTRL with LC_GO = 1. -/
  | lcGo (req : Fin 5) (vpp : Bool)
  /-- FUSE_BURN_DONE (R445). The burn in progress is complete. -/
  | fuseBurnDone
  /-- DEBUG_REQUEST (R458). A request on the TAP: 0 IDCODE, 1 BYPASS, 2 another TAP instruction, 3 debug of a core, 4 a reach for the key cache or key store. -/
  | debugRequest (kind : Fin 5)
  /-- GLB_RESET_COLD (R461). A write of GLB_RESET with COLD = 1, and its KEY. -/
  | glbResetCold (req : Fin 5) (key : BitVec 16)
  /-- GLB_RESET_MGMT (R460). A write of GLB_RESET with MGMT = 1, and its KEY. -/
  | glbResetMgmt (req : Fin 5) (key : BitVec 16)
  /-- GLB_RESET_CORE (R460). A write of GLB_RESET with bits of CORE set, and its KEY. -/
  | glbResetCore (req : Fin 5) (key : BitVec 16) (cores : BitVec 4)
  /-- PORZ_ASSERT (R462). PORZ_N is asserted. -/
  | porzAssert
  /-- STARTUP_BEGIN (R462). PORZ_N is deasserted and PG has been high for 20 ms; PAIR_ID, and whether VDDIO is 2.5 V or above. -/
  | startupBegin (pairId io33 : Bool)
  /-- STARTUP_STAGE_DONE (R463). A stage of start-up ends, with what it found. -/
  | startupStageDone (done : StageEnd)
  /-- CLOCK_RETRY (R463). 10 ms after a failed lock the timebase PLL tries again. -/
  | clockRetry (locked : Bool)
  /-- ETHREF_LOST (R467). ETHREF has been absent beyond 100 us of holdover. -/
  | ethrefLost
  /-- PCIEREF_LOST (R467). PCIEREF is lost. -/
  | pcierefLost
  /-- SYSREF_LOST (R467). SYSREF has been absent beyond 100 us of holdover. -/
  | sysrefLost
  /-- CAL_CTRL_RUN (R471). A write of CAL_CTRL with RUN = 1, and its item. -/
  | calCtrlRun (item : Byte)
  /-- CAL_RUN_DONE (R468). A run of an item ends: for each place, whether its precondition held throughout, and the two measurements. -/
  | calRunDone (item : Fin 11) (results : List (Nat × Bool × Int × Int))
  /-- AON_BROWNOUT (R486). VDD_AON falls below 0.70 V; the bank whose line write it tears, if any. -/
  | aonBrownout (torn : Option (Fin 4))
  /-- ALIGNMENT_MARKER_LOST (R176). Alignment blocks missing or wrong at two successive positions. -/
  | alignmentMarkerLost (lane : Fin 1024) (first second : Option (Byte × Word × Word))
  /-- CAM_ACK_TIMEOUT (R212). 100 µs have passed with no ACK of CAMSET. -/
  | camAckTimeout (pipe : Fin 24)
  /-- CAMERA_VERSION_RETRY (R213). 100 ms have passed with the camera port held in CAPS. -/
  | cameraVersionRetry (pipe : Fin 24)
  /-- PCIE_LINK_UP (R301). The PCIe link trains up at a generation and width. -/
  | pcieLinkUp (gen : BitVec 3) (width : BitVec 5)
  /-- ASPM_L1_ENTRY (R304). The PCIe link enters L1. -/
  | aspmL1Entry
  /-- L1_EXIT_COMPLETE (R304). The PCIe link reaches L0 after an L1 exit. -/
  | l1ExitComplete
  /-- RESUME_COMPLETE (R353). The shed blocks are powered again. -/
  | resumeComplete
  /-- PG_FALL (R462). PG falls. -/
  | pgFall
  /-- REFERENCE_GOOD (R389). REFA or REFB becomes good. -/
  | referenceGood (refB : Bool)
  /-- LANE_SIGNAL_RETURN (R393). Signal is back within 4 us. -/
  | laneSignalReturn (lane : Fin 1024)
  /-- PRBS_CHECKER_LOCK (R399). 64 successive bits match the pattern. -/
  | prbsCheckerLock (lane : Fin 1024)
  /-- PRBS_CHECKER_LOCK_LOSS (R399). 64 errors in 1,024 bits: the errors counted since the lock. -/
  | prbsCheckerLockLoss (lane : Fin 1024) (errors : Nat)
  /-- ETH_LINK_RETRY (R402). 1 s has passed with the port or sub-port down. -/
  | ethLinkRetry (ep : Fin 20) (sub : Fin 4)
  deriving DecidableEq, Repr

end Sys2Proof
end

