-- ==== Sys2Proof/Decode.lean ====
section
/-! DEFINITION. The block decodes no words: its commands come from outside by name, and the table of operations gives its
rows no bits. -/

namespace Sys2Proof

/-- The command that a word spells by the table's bits: no row of the table gives any, so no word spells one.
DESIGN CHOICE (log 101). -/
def decodeTableWord (nbits w : Nat) : Option Instr :=
  let _ := nbits
  let _ := w
  none

end Sys2Proof
end

