-- ==== Sys2Proof/Machine/Ecc.lean ====
section
/-! DEFINITION. The error code of a DRAM burst: RS(40,32) over GF(2^8), its address cover and its decoder (R415, R416). -/

namespace Sys2Proof.Machine

/-! ### GF(2^8) with x^8 + x^4 + x^3 + x^2 + 1 -/

/-- x times an element. -/
def gfDouble (a : Nat) : Nat := if a < 128 then 2 * a else (2 * a) ^^^ 0x11d

/-- The product of two elements. -/
def gfMul (a b : Nat) : Nat :=
  (List.range 8).foldl (fun p i => gfDouble p ^^^ (if bitOf b (7 - i) then a else 0)) 0

/-- A power of an element. -/
def gfPow (a : Nat) : Nat → Nat
  | 0 => 1
  | n + 1 => gfMul (gfPow a n) a

/-- The inverse of an element other than 0: its 254th power. -/
def gfInv (a : Nat) : Nat :=
  let a2 := gfMul a a
  let a4 := gfMul a2 a2
  let a8 := gfMul a4 a4
  let a16 := gfMul a8 a8
  let a32 := gfMul a16 a16
  let a64 := gfMul a32 a32
  gfMul (gfMul (gfMul a2 a4) (gfMul a8 a16)) (gfMul (gfMul a32 a64) (gfMul a64 a64))

/-- The value of a polynomial, highest coefficient first. -/
def gfEval (cs : List Nat) (x : Nat) : Nat := cs.foldl (fun a c => gfMul a x ^^^ c) 0

/-- The value of a polynomial, lowest coefficient first. -/
def gfValue (cs : List Nat) (x : Nat) : Nat := gfEval cs.reverse x

/-! ### The code. Its generator has the roots x^0 to x^7. DESIGN CHOICE (log 77) -/

/-- The generator of degree 8 without its leading 1, highest coefficient first. DESIGN CHOICE (log 77). -/
def rsGenerator : List Nat :=
  ((List.range 8).foldl (fun g j =>
    let r := gfPow 2 j
    (List.range (g.length + 1)).map fun i => g.getD i 0 ^^^ (if i = 0 then 0 else gfMul r (g.getD (i - 1) 0))) [1]).drop 1

/-- The 8 check symbols of a message. -/
def rsCheck (message : List Nat) : List Nat :=
  message.foldl (fun r m =>
    let f := m ^^^ r.getD 0 0
    (List.range 8).map fun i => r.getD (i + 1) 0 ^^^ gfMul f (rsGenerator.getD i 0)) (List.replicate 8 0)

/-- The 8 syndromes of a word. -/
def rsSyndromes (w : List Nat) : List Nat := (List.range 8).map fun j => gfEval w (gfPow 2 j)

/-- The search for the error locator (Berlekamp and Massey): locator, earlier locator, its discrepancy, length and gap. -/
structure RsSearch where
  loc : List Nat
  prev : List Nat
  disc : Nat
  len : Nat
  gap : Nat

/-- One step of the search, at a syndrome. -/
def RsSearch.next (s : RsSearch) (synd : List Nat) (n : Nat) : RsSearch :=
  let d := ((List.range (s.len + 1)).map fun i => if i ≤ n then gfMul (s.loc.getD i 0) (synd.getD (n - i) 0) else 0).foldl (· ^^^ ·) 0
  if d = 0 then { s with gap := s.gap + 1 }
  else
    let f := gfMul d (gfInv s.disc)
    let shifted := List.replicate s.gap 0 ++ s.prev.map (gfMul f)
    let loc := (List.range (max s.loc.length shifted.length)).map fun i => s.loc.getD i 0 ^^^ shifted.getD i 0
    if 2 * s.len ≤ n then { loc := loc, prev := s.loc, disc := d, len := n + 1 - s.len, gap := 1 }
    else { s with loc := loc, gap := s.gap + 1 }

/-- The error locator of syndromes, lowest coefficient first, and its length. -/
def rsLocator (synd : List Nat) : List Nat × Nat :=
  let s := (List.range 8).foldl (fun (s : RsSearch) n => s.next synd n) { loc := [1], prev := [1], disc := 1, len := 0, gap := 1 }
  (s.loc, s.len)

/-- The error value at a place x^p (Forney). -/
def rsValue (synd loc : List Nat) (p : Nat) : Nat :=
  let x := gfPow 2 p
  let xi := gfInv x
  let omega := (List.range 8).map fun k =>
    ((List.range (k + 1)).map fun i => gfMul (loc.getD i 0) (synd.getD (k - i) 0)).foldl (· ^^^ ·) 0
  let slope := (List.range 4).map fun i => if i % 2 = 0 then loc.getD (i + 1) 0 else 0
  gfMul x (gfMul (gfValue omega xi) (gfInv (gfValue slope xi)))

/-- What a decoder makes of a word: the places it corrects, or uncorrectable. It corrects every error confined to 3 symbols
and nothing else (R415). -/
def rsDecode (w : List Nat) : Option (List Nat) :=
  let synd := rsSyndromes w
  if synd.all (· == 0) then some []
  else
    let loc := (rsLocator synd).1
    let len := (rsLocator synd).2
    let n := w.length
    let places := (List.range n).filter fun i => gfValue loc (gfInv (gfPow 2 (n - 1 - i))) == 0
    let fixed := (List.range n).map fun i =>
      w.getD i 0 ^^^ (if places.contains i then rsValue synd loc (n - 1 - i) else 0)
    if len ≤ 3 ∧ places.length = len ∧ (rsSyndromes fixed).all (· == 0) then some places else none

/-! ### A burst (R415, R416) -/

/-- Symbols of an address ahead of a codeword's data: rank, bank group, bank, row and column, as FRZ_ADDR packs them. The
devices do not hold them. DESIGN CHOICE (log 77). -/
def placeSymbols (rk bg ba row col : Nat) : List Nat :=
  let v := rk <<< 36 + bg <<< 33 + ba <<< 31 + row <<< 12 + col / 64 * 64
  (List.range 5).map fun i => bits v (32 - 8 * i) 8

/-- The 40 symbols of codeword h as the devices hold them: data symbol i is byte i of its 32, on device i mod 4 and beat i / 4,
and the check symbols lie on device 4; a poisoned burst has its check symbols XORed with 0xA5. DESIGN CHOICE (log 77). -/
def burstSymbols (place : List Nat) (bytes : List Byte) (poisoned : Bool) (h : Nat) : List Nat :=
  let data := (List.range 32).map fun i => (bytes.getD (32 * h + i) 0).toNat
  data ++ (rsCheck (place ++ data)).map fun c => if poisoned then c ^^^ 0xa5 else c

/-- What the decoder reports of a burst. -/
inductive EccVerdict where
  | good
  /-- Corrected: codeword and device, once for each codeword and device. -/
  | corrected (fixes : List (Nat × Nat))
  /-- With the syndromes of both codewords. -/
  | uncorrectable (synd : List Nat)
  | poison
  deriving DecidableEq, Repr

/-- Both codewords carry the poison pattern. -/
def hasPoison (place : List Nat) (word : Nat → List Nat) : Bool :=
  [0, 1].all fun h =>
    let w := word h
    (rsSyndromes (place ++ (List.range 40).map fun i => w.getD i 0 ^^^ (if 32 ≤ i then 0xa5 else 0))).all (· == 0)

/-- The device of a symbol. -/
def symbolDevice (i : Nat) : Nat := if i < 32 then i % 4 else 4

/-- The verdict on the two codewords received for a place: the pattern is recognised before anything is corrected, an error
placed in the address is uncorrectable, and the burst is uncorrectable when either codeword is. -/
def burstVerdict (place : List Nat) (word : Nat → List Nat) : EccVerdict :=
  let decoded := [0, 1].map fun h => rsDecode (place ++ word h)
  if hasPoison place word then .poison
  else if decoded.any fun r => match r with | none => true | some ps => ps.any fun p => decide (p < 5) then
    .uncorrectable ([0, 1].flatMap fun h => rsSyndromes (place ++ word h))
  else
    let fixes := [0, 1].flatMap fun h =>
      ((((decoded.getD h none).getD []).map fun p => symbolDevice (p - 5)).eraseDups).map fun v => (h, v)
    if fixes.isEmpty then .good else .corrected fixes

end Sys2Proof.Machine
end

