-- ==== Sys2Proof/Machine/Codec.lean ====
section
/-! DEFINITION. The reel codec: symbols and packing, the block layout, the LZ78 dictionary code, the format checks and the
greedy encoder (R115 to R129). -/

namespace Sys2Proof.Machine

/-- Symbols packed two to a byte, the first in [3:0] (R115). -/
def packSymbols : List Nat → List Byte
  | [] => []
  | [a] => [BitVec.ofNat 8 (a % 16)]
  | a :: b :: t => BitVec.ofNat 8 (a % 16 + 16 * (b % 16)) :: packSymbols t

/-- Byte mode: two symbols from each byte (R115). -/
def unpackSymbols (bs : List Byte) : List Nat :=
  bs.flatMap fun b => [b.toNat % 16, b.toNat / 16]

/-- The trailer of a block: CRC-32C of its packed symbols (R117). -/
def symbolCrc (syms : List Nat) : Nat := crc32c (packSymbols syms)

/-- The 12-bit codes of a coded body (R119). -/
def bodyCodes (body : List Byte) (c : Nat) : List Nat :=
  (List.range c).map fun i =>
    let t := 12 * i / 8
    let w := (body.getD t 0).toNat + 256 * (body.getD (t + 1) 0).toNat
    if i % 2 = 0 then w % 4096 else w / 16

/-- Codes packed into a body (R119). -/
def packCodes : List Nat → List Byte
  | [] => []
  | [a] => [BitVec.ofNat 8 (a % 256), BitVec.ofNat 8 (a / 256)]
  | a :: b :: t =>
    BitVec.ofNat 8 (a % 256) :: BitVec.ofNat 8 (a / 256 + 16 * (b % 16)) :: BitVec.ofNat 8 (b / 16) :: packCodes t

/-- The dictionary at the start of a block (R120). -/
def dictStart : List (List Nat) := (List.range 16).map fun e => [e]

/-- Decode codes: the dictionary, the string of the previous code, and what is left of N; the symbols in reverse
(R121, R122). An error is a REASON of Table 5.2. -/
def decodeCodes (n : Nat) : List Nat → List (List Nat) → Option (List Nat) → List Nat → Except Nat (List Nat)
  | [], _, _, out => if out.length = n then .ok out.reverse else .error 7
  | c :: cs, dict, prev, out =>
    match prev with
    | none =>
      if 15 < c then .error 5
      else
        let s := dict.getD c []
        if n < out.length + s.length then .error 6 else decodeCodes n cs dict (some s) (s.reverse ++ out)
    | some p =>
      if dict.length < c ∨ (c = dict.length ∧ 4096 ≤ dict.length) then .error 5
      else
        let s := if c = dict.length then p ++ [p.headD 0] else dict.getD c []
        if n < out.length + s.length then .error 6
        else
          let dict' := if dict.length < 4096 then dict ++ [p ++ [s.headD 0]] else dict
          decodeCodes n cs dict' (some s) (s.reverse ++ out)

/-- A decoded block: its symbols and the CRC of its trailer. -/
structure Decoded where
  symbols : List Nat
  trailer : Nat
  deriving DecidableEq, Repr

/-- Decode a block of the N its context requires; an error is the first REASON of Table 5.2 (R124). -/
def decodeBlock (bs : List Byte) (n : Nat) : Except Nat Decoded :=
  let clen := bs.length
  if clen < 9 then .error 3
  else
    let h := le32At bs 0
    if bits h 28 4 ≠ 0xb ∨ bits h 18 8 ≠ 0 then .error 1
    else if 2 ≤ bits h 26 2 then .error 2
    else if bits h 0 18 + 1 ≠ n then .error 9
    else
      let body := (bs.drop 4).take (clen - 8)
      let raw := (n + 1) / 2
      let trailer := le32At bs (clen - 4)
      let padBad := bits (body.getLastD 0).toNat 4 4 ≠ 0
      if bits h 26 2 = 1 then
        if clen ≠ raw + 8 then .error 3
        else if n % 2 = 1 ∧ padBad then .error 4
        else .ok { symbols := (unpackSymbols body).take n, trailer := trailer }
      else if body.length % 3 = 1 then .error 3
      else if raw + 8 < clen then .error 8
      else
        let c := 8 * body.length / 12
        if c % 2 = 1 ∧ padBad then .error 4
        else (decodeCodes n (bodyCodes body c) dictStart none []).map fun s => { symbols := s, trailer := trailer }

/-- The greedy parse (R123): the dictionary, the current match and its entry. -/
def greedyCodes : List Nat → List (List Nat) → List Nat → Nat → List Nat
  | [], _, _, w => [w]
  | s :: t, dict, m, w =>
    match dict.findIdx? fun e => e == m ++ [s] with
    | some c => greedyCodes t dict (m ++ [s]) c
    | none => w :: greedyCodes t (if dict.length < 4096 then dict ++ [m ++ [s]] else dict) [s] s

/-- Header word of a block. -/
def blockHeader (mode n : Nat) : Nat := 0xb <<< 28 + mode <<< 26 + (n - 1)

/-- The stored form of symbols (R118). -/
def storedBlock (syms : List Nat) : List Byte :=
  leBytes (blockHeader 1 syms.length) 4 ++ packSymbols syms ++ leBytes (symbolCrc syms) 4

/-- The coded form of symbols (R119, R129). -/
def codedBlock (syms : List Nat) : List Byte :=
  match syms with
  | [] => []
  | s :: t => leBytes (blockHeader 0 syms.length) 4 ++ packCodes (greedyCodes t dictStart [s] s) ++
      leBytes (symbolCrc syms) 4

/-- True where a compressor emits the coded form: it is strictly shorter than the stored one (R129). -/
def emitsCoded (syms : List Nat) : Bool := decide ((codedBlock syms).length < (storedBlock syms).length)

/-- The block a compressor emits for symbols (R129). -/
def compressBlock (syms : List Nat) : List Byte :=
  if emitsCoded syms then codedBlock syms else storedBlock syms

/-- Compress bytes in byte mode into blocks of at most 262,144 symbols (Table 5.4). -/
def compressBytes : Nat → List Byte → List (List Byte)
  | 0, _ => []
  | _, [] => []
  | n + 1, bs => compressBlock (unpackSymbols (bs.take 131072)) :: compressBytes n (bs.drop 131072)

end Sys2Proof.Machine
end

