-- ==== Sys2Proof/Machine/Blocks.lean ====
section
/-! DEFINITION. The block layer of every native link: blocks and their headers, alignment markers, slots, messages and the
scrambler (R175 to R179, R185, R390). -/

namespace Sys2Proof.Machine

/-- A block: its 8-bit header and its payload words 0 to 7 (R175). -/
structure LinkBlock where
  header : Nat
  words : List Nat
  deriving DecidableEq, Repr

/-! ### Headers (Table 7.1) -/

/-- HC1 and HC0 of a header's upper six bits. -/
def headerCheck (h : Nat) : Nat :=
  (bits h 7 1 ^^^ bits h 5 1 ^^^ bits h 3 1) * 2 + (bits h 6 1 ^^^ bits h 4 1 ^^^ bits h 2 1)

/-- The header of a block: an alignment block or an ordinary one, with the index of its slot word if it has one. -/
def linkHeader (align : Bool) (slot : Option Nat) : Nat :=
  let h := (if align then 2 else 1) * 64 + (match slot with | some i => 32 + 4 * (i % 8) | none => 0)
  h + headerCheck h

/-- SYNC of a header. -/
def headerSync (h : Nat) : Nat := bits h 6 2

/-- A header is valid: its SYNC is, and HC1 and HC0 match. -/
def headerValid (h : Nat) : Bool := (headerSync h == 1 || headerSync h == 2) && bits h 0 2 == headerCheck h

/-- A receiver discards the block of this header (R177). -/
def headerDiscarded (h : Nat) : Bool :=
  !headerValid h || (headerSync h == 2 && bits h 5 1 == 1 && decide (bits h 2 3 < 2))

/-- The bits of a block as sent: header bit 7 first, then the words, each from bit 31 (R175). -/
def LinkBlock.sent (b : LinkBlock) : List Bool :=
  (List.range 8).map (fun i => bitOf b.header (7 - i)) ++
    b.words.flatMap fun w => (List.range 32).map fun i => bitOf w (31 - i)

/-! ### Alignment markers (R176, Table 7.2) -/

/-- A block at a block position is an alignment block: every 1,024th from the first on. DESIGN CHOICE (log 103). -/
def alignAt (k : Nat) : Bool := k % 1024 == 0

/-- WCODE of a width. -/
def widthCode (w : Nat) : Nat := if w = 4 then 2 else if w = 2 then 1 else 0

/-- Word 0 of a marker. -/
def markWord : Nat := 0xc3a55a3c

/-- Words 0 and 1 of the alignment block at a block position on a logical lane. -/
def markerWords (lane w k next : Nat) : List Nat :=
  [markWord, lane <<< 30 + widthCode w <<< 28 + (k / 1024 % 4096) <<< 16 + min next 0xffff]

/-- A received alignment block carries the marker of a logical lane at a width. -/
def markerRight (b : LinkBlock) (lane w : Nat) : Bool :=
  headerSync b.header == 2 && !headerDiscarded b.header && b.words.getD 0 0 == markWord &&
    bits (b.words.getD 1 0) 30 2 == lane && bits (b.words.getD 1 0) 28 2 == widthCode w

/-! ### Messages (R185) -/

/-- The header word of a message. -/
def messageHeader (type seq len : Nat) : Nat := (type % 256) <<< 24 + (seq % 256) <<< 16 + len % 65536

/-- CRC-32C of words, each taken least significant byte first. -/
def wordsCrc (ws : List Nat) : Nat := crc32c (ws.flatMap fun w => leBytes w 4)

/-- The words of a message: header, body and CRC. -/
def messageWords (type seq : Nat) (body : List Nat) : List Nat :=
  let h := messageHeader type seq body.length :: body
  h ++ [wordsCrc h]

/-- What a receiver reads where a message begins. -/
inductive Received where
  | idle
  | message (type seq : Nat) (body : List Nat)
  | failed
  deriving DecidableEq, Repr

/-- Read the message at the front of a word stream, and the words after it: IDLE is complete in itself. -/
def readMessage (ws : List Nat) : Received × List Nat :=
  let h := ws.getD 0 0
  let n := bits h 0 16
  if h = 0 then (.idle, ws.drop 1)
  else if (ws.drop (n + 1)).head? = some (wordsCrc (ws.take (n + 1))) then
    (.message (bits h 24 8) (bits h 16 8) ((ws.drop 1).take n), ws.drop (n + 2))
  else (.failed, ws.drop (n + 2))

/-- Types of the messages that a head and a camera send (Tables 7.6 and 8.3); a receiver discards any other. -/
def upTypes : List Nat := [0x81, 0x82, 0x83, 0x84, 0x85, 0x86, 0xc1, 0xc2, 0xc3, 0xc4, 0xc5, 0xc6, 0xc7, 0xc8]

/-- A received message is discarded: its CRC fails, or its TYPE is not known. -/
def messageFails (ws : List Nat) : Bool :=
  match (readMessage ws).1 with
  | .idle => false
  | .message type _ _ => !upTypes.contains type
  | .failed => true

/-! ### The scrambler x^31 + x^28 + 1 (R390) -/

/-- The seed of a logical lane. -/
def scramblerSeed (lane : Nat) : Nat := (0x4c0ff1d0 ^^^ 0x01010101 * lane) % 2 ^ 31

/-- The next n output bits of a scrambler state, the first one highest; n is 28 or less. The output is the bit that enters
the register. DESIGN CHOICE (log 103). -/
def scramblerOut (s n : Nat) : Nat := (s >>> (31 - n) ^^^ s >>> (28 - n)) % 2 ^ n

/-- The state n bits on. -/
def scramblerNext (s n : Nat) : Nat := (s <<< n + scramblerOut s n) % 2 ^ 31

/-- The output for a word, and the state after it. -/
def scramblerWord (s : Nat) : Nat × Nat :=
  let s1 := scramblerNext s 16
  (scramblerOut s 16 <<< 16 + scramblerOut s1 16, scramblerNext s1 16)

/-- Words XOR the scrambler's output, and the state after them. A receiver descrambles with the same operation. -/
def scramble (s : Nat) (ws : List Nat) : List Nat × Nat :=
  ws.foldl (fun a w => let o := scramblerWord a.2; (a.1 ++ [w ^^^ o.1], o.2)) ([], s)

/-- The state n words on. -/
def scramblerRun : Nat → Nat → Nat
  | 0, s => s
  | n + 1, s => scramblerRun n (scramblerWord s).2

/-- The state before the block at a block position, from the state before an earlier one: each alignment block sets it
anew. -/
def scramblerAt (lane k0 s k : Nat) : Nat :=
  if k = k0 then s
  else if k0 / 1024 = k / 1024 ∧ !alignAt k0 then scramblerRun (8 * (k - k0)) s
  else scramblerRun (8 * (k % 1024)) (scramblerSeed lane)

/-- Scramble a block at a block position. -/
def LinkBlock.scrambled (b : LinkBlock) (lane k s : Nat) : LinkBlock × Nat :=
  let r := scramble (if alignAt k then scramblerSeed lane else s) b.words
  ({ b with words := r.1 }, r.2)

/-! ### The word stream and its slots (R178, R179) -/

/-- The next words of a stream, IDLE where nothing waits. -/
def streamTake (q : List (Nat × Bool)) (n : Nat) : List Nat × List (Nat × Bool) :=
  (((q.take n).map Prod.fst) ++ List.replicate (n - q.length) 0, q.drop n)

/-- Stream words up to the next message header word; IDLE is a message. -/
def streamNext (q : List (Nat × Bool)) : Nat := ((q.takeWhile fun x => !x.2)).length

/-- Payload words of all lanes at one word index of a block: a marker word, a slot word, or the next words of the stream,
by logical lane. -/
def blockColumn (k w i next : Nat) (slot : Option (Nat × Nat)) (q : List (Nat × Bool)) : List Nat × List (Nat × Bool) :=
  if alignAt k ∧ i < 2 then ((List.range w).map fun l => (markerWords l w k next).getD i 0, q)
  else match slot with
    | some (j, v) => if j = i then (List.replicate w v, q) else streamTake q w
    | none => streamTake q w

/-- The blocks of all lanes at a block position, with the stream after them. -/
def blocksOf (k w : Nat) (slot : Option (Nat × Nat)) (q : List (Nat × Bool)) : List LinkBlock × List (Nat × Bool) :=
  let next := streamNext q
  let r := (List.range 8).foldl (fun a i => let c := blockColumn k w i next slot a.2; (a.1 ++ [c.1], c.2)) ([], q)
  ((List.range w).map fun l => { header := linkHeader (alignAt k) (slot.map Prod.fst), words := r.1.map fun c => c.getD l 0 },
    r.2)

/-- Slot places of the block at a block position. -/
def slotPlaces (k : Nat) : List Nat := if alignAt k then [2, 3, 4, 5, 6, 7] else [0, 1, 2, 3, 4, 5, 6, 7]

/-- When the first bit of a payload word of a block leaves, in ps after its first block: ps is the time of a block of 264
bits. -/
def slotTime (ps k i : Nat) : Nat := ps * k + ps * (8 + 32 * i) / 264

/-- The slots of some blocks in order of departure. -/
def slotsFrom (k n : Nat) : List (Nat × Nat) := (List.range n).flatMap fun j => (slotPlaces (k + j)).map fun i => (k + j, i)

/-- The slot whose departure is nearest to an instant, the earlier of two. -/
def nearestSlot (ps t : Nat) : List (Nat × Nat) → Option (Nat × Nat)
  | [] => none
  | x :: r => match nearestSlot ps t r with
    | none => some x
    | some y =>
      let dist := fun (z : Nat × Nat) => max t (slotTime ps z.1 z.2) - min t (slotTime ps z.1 z.2)
      if dist x ≤ dist y then some x else some y

end Sys2Proof.Machine
end

