-- ==== Sys2Proof/Machine/Out.lean ====
section
/-! DEFINITION. What the block sends to the world outside: one ordered list of it is state. -/

namespace Sys2Proof.Machine

/-- One thing sent, in the order of sending. -/
inductive Out where
  /-- The word a read returns to a requester. -/
  | readData (req addr value : Nat)
  /-- A message to a head: port, type, SEQ and body words (Table 7.4). -/
  | head (port type seq : Nat) (body : List Nat)
  /-- A slate: port, its word and its departure in ps (R181). -/
  | slate (port word depart : Nat)
  /-- A batch: port, fire, SEQ, header words and descriptor bytes (R188). -/
  | batch (port fire seq : Nat) (header : List Nat) (body : List Byte)
  /-- A forecast frame: its port and characters (R168). -/
  | forecast (fc : Nat) (chars : List Byte)
  /-- A message to a camera: pipeline, type, SEQ and body words (Table 8.2). -/
  | camera (pipe type seq : Nat) (body : List Nat)
  /-- A trigger to a camera: pipeline, its slot word and its departure in ps (R214). -/
  | trigger (pipe word depart : Nat)
  /-- A record to the partner, with its MSEQ. -/
  | mirror (mseq : Nat) (rec : MirrorRec)
  /-- What a native link's lanes send at one block position, scrambled: link by its first lane over 4, block position and the
  blocks by logical lane. Blocks of IDLE words alone are not listed. -/
  | blocks (link pos : Nat) (lanes : List LinkBlock)
  /-- A message on a cascade link: 4 p + i for link i of port p (0 CU, 1 CD). -/
  | cascade (link type : Nat) (body : List Nat)
  /-- A write into host memory by DMA for a slot. -/
  | hostWrite (slot addr : Nat) (data : List Byte)
  /-- A transport datagram of a slot's session, on an Ethernet port: its bytes (R292). -/
  | datagram (slot ep : Nat) (data : List Byte)
  /-- An Ethernet frame on a port and, in split mode, its sub-port. -/
  | frame (ep sub : Nat) (data : List Byte)
  /-- An interrupt message of a function (0 PF, f VF) and vector. -/
  | interrupt (fn vec : Nat)
  /-- A PM_PME message of a function. -/
  | pme (fn : Nat)
  /-- PME_TO_Ack, in answer to PME_Turn_Off. -/
  | pmeToAck
  /-- A pulse on a timed output: output, time of its first edge in ps, width in ns, and active low. -/
  | pulse (tout time width : Nat) (low : Bool)
  /-- A timed output ends at once: a pulse in progress is cut short (R311). -/
  | pulseEnd (tout : Nat)
  /-- A low-speed serial frame: port and its 40 bits, command word and CRC-8 (R360). -/
  | lsp (port frame : Nat)
  /-- A step on an axis: axis and direction. -/
  | step (axis : Nat) (reverse : Bool)
  /-- A down word on an axis serial bus. -/
  | asb (bus driver word : Nat)
  /-- A block that a compressor unit releases to its user (R131). -/
  | compressed (unit : Nat) (data : List Byte)
  /-- A DRAM command: channel, command and address. -/
  | dram (channel command addr : Nat)
  /-- A core starts at the entry point of a firmware slot (0 A, 1 B), or of what lies in MC0's local SRAM (2) (R428, R455). -/
  | coreStart (core slot : Nat)
  /-- A bus error returned to a core (R431). -/
  | busError (core addr : Nat)
  /-- An answer to a debug request: the code of the state served. -/
  | debug (answer : Nat)
  deriving DecidableEq, Repr

end Sys2Proof.Machine
end

