-- ==== Sys2Proof/Machine/StateCtl.lean ====
section
/-! DEFINITION. State of the control loops and motion axes beyond their registers (chapter "Control Loops and Motion
Axes"). The integrator stands in CTL_LOOP.INT and the last output in CTL_LOOP.STATUS. -/

namespace Sys2Proof.Machine

/-- One loop. -/
structure LoopCtl where
  /-- Freshness sequence of the last accepted sample, its value and its arrival (R363). -/
  fseq : Option Nat
  sample : Int
  stamp : Option Nat
  /-- Length of the run of accepted samples of identical value. -/
  same : Nat
  /-- d, y_prev and the repetitive bins (R365). -/
  dterm : Int
  yPrev : Int
  bins : Tab Nat Int
  /-- Consecutive stale evaluations, and consecutive recovering ones (R369, R370). -/
  stale : Nat
  fresh : Nat
  /-- SAFE_OUT last written in WAIT. -/
  safeOut : Option Int
  /-- Instant of the last E_CTL_MISSED (R368). -/
  lastMissed : Option Nat
  deriving DecidableEq, Repr

/-- A loop after a cold reset: all 0 (R384). -/
def LoopCtl.reset : LoopCtl :=
  { fseq := none, sample := 0, stamp := none, same := 0, dterm := 0, yPrev := 0, bins := [], stale := 0, fresh := 0,
    safeOut := none, lastMissed := none }

/-- A low-speed serial port (R360, R361). -/
structure LspPort where
  /-- Writes that wait for a frame, oldest first: channel and value. -/
  writes : List (Nat × Int)
  /-- Channel that the last frame read. -/
  asked : Option Nat
  /-- Instants of the last poll of each channel. -/
  polled : Tab Nat Nat
  deriving DecidableEq, Repr

/-- A port after a cold reset. -/
def LspPort.reset : LspPort := { writes := [], asked := none, polled := [] }

/-- A move (R374). -/
structure Move where
  target : Int
  v : Nat
  a : Nat
  blend : Bool
  deriving DecidableEq, Repr

/-- Steps of the homing sequence (R377). -/
inductive HomePhase where
  /-- Towards AXHOME at HOME_V1. -/
  | seek
  /-- Decelerating after the first edge. -/
  | brake
  /-- Backing off. -/
  | back
  /-- Towards AXHOME at HOME_V2. -/
  | touch
  deriving DecidableEq, Repr

/-- One axis. -/
structure Axis where
  queue : List Move
  /-- Position in 10^-12 step, and velocity in 10^-6 step/s. -/
  pos : Int
  vel : Int
  /-- Square of the joint velocity of the move in progress, once its deceleration has begun (R375). -/
  joint : Option Nat
  halting : Bool
  homing : Option HomePhase
  /-- Position at which the present step of homing began. -/
  homeFrom : Int
  /-- DIR level, and the instant from which a step may follow its last change (R373). -/
  dir : Bool
  dirFrom : Nat
  /-- Instant of the last step. -/
  lastStep : Option Nat
  /-- Consecutive up words missing or failing CRC (Table 14.4). -/
  bad : Nat
  /-- The axis has been at rest for 100 ms (R379). -/
  resting : Bool
  /-- Instant at which the current setpoint was last lowered. -/
  lowered : Nat
  deriving DecidableEq, Repr

/-- An axis after a cold reset. -/
def Axis.reset : Axis :=
  { queue := [], pos := 0, vel := 0, joint := none, halting := false, homing := none, homeFrom := 0, dir := false, dirFrom := 0,
    lastStep := none, bad := 0, resting := true, lowered := 0 }

/-- Loops and axes. -/
structure CtlState where
  loop : Tab Nat LoopCtl
  lsp : Tab Nat LspPort
  /-- Last value that the active controller wrote to each LSP port and channel, as a standby reads it (R380). -/
  heard : Tab (Nat × Nat) Int
  axis : Tab Nat Axis
  /-- LSP and ASB have stopped at SAVE (R381). -/
  stopped : Bool
  deriving DecidableEq, Repr

/-- Loops and axes after a cold reset. DESIGN CHOICE (log 3). -/
def CtlState.reset : CtlState := { loop := [], lsp := [], heard := [], axis := [], stopped := false }

end Sys2Proof.Machine
end

