-- ==== Sys2Proof/Machine/StateHst.lean ====
section
/-! DEFINITION. State of the host ports and network time beyond their registers (chapter "Host Ports and Network
Time"). -/

namespace Sys2Proof.Machine

/-- One interrupt vector of a PCIe function (R302, R303). -/
structure Vec where
  /-- Pending count c. -/
  count : Nat
  /-- Instant of the first event after c = 0. -/
  since : Option Nat
  /-- Mask bit of its MSI-X table entry. -/
  masked : Bool
  /-- Its PBA bit. -/
  pba : Bool
  deriving DecidableEq, Repr

/-- A vector after a cold reset: masked, as an MSI-X table entry is. -/
def Vec.reset : Vec := { count := 0, since := none, masked := true, pba := false }

/-- A datagram sent and not acknowledged (R297). -/
structure XptSent where
  seq : Nat
  type : Nat
  payload : List Byte
  resends : Nat
  /-- Reported by SACK: it is not sent again. -/
  sacked : Bool
  deriving DecidableEq, Repr

/-- A transport session beyond its register (R292 to R298). -/
structure Sess where
  /-- Address, UDP port and VLAN the session is bound to (R295). -/
  peer : Nat
  udpPort : Nat
  vlan : Nat
  /-- Next SEQ to send and next SEQ expected. -/
  txSeq : Nat
  rxNext : Nat
  /-- Datagrams held ahead of the next expected: SEQ, type and payload (version 3). -/
  held : List (Nat × Nat × List Byte)
  unacked : List XptSent
  /-- Datagrams that wait for a free place among the unacknowledged ones: type and payload. -/
  queue : List (Nat × List Byte)
  /-- The staging area (R296). -/
  staging : Mem
  coalCount : Nat
  coalUs : Nat
  /-- Completion entries that wait for a CQE datagram: position and words. -/
  cqWait : List (Nat × List Nat)
  /-- An ACK is owed since an arrival (R297). -/
  ackDue : Bool
  deriving DecidableEq, Repr

/-- A session before it is bound. -/
def Sess.empty : Sess :=
  { peer := 0, udpPort := 0, vlan := 0, txSeq := 0, rxNext := 0, held := [], unacked := [], queue := [], staging := [],
    coalCount := 0, coalUs := 0, cqWait := [], ackDue := false }

/-- An entry of a transmit timestamp FIFO (R309): ns, 16-bit fraction, sequenceId, messageType, domainNumber. -/
structure TxStamp where
  ns : Nat
  frac : Nat
  sequenceId : Nat
  messageType : Nat
  domain : Nat
  deriving DecidableEq, Repr

/-- A timed output (R310, R311): the first pulse not yet made or missed. -/
structure Tout where
  next : Nat
  deriving DecidableEq, Repr

/-- Host ports and network time. -/
structure HstState where
  /-- Interrupt vectors by function (0 PF, f VF) and vector. -/
  vec : Tab (Nat × Nat) Vec
  /-- MSI-X function masks, D3hot states, PME_En and PM_PME in progress, by function. -/
  fnMask : Tab Nat Bool
  d3hot : Tab Nat Bool
  pmeEn : Tab Nat Bool
  pmeOn : Tab Nat Bool
  /-- The PCIe link is up. -/
  linkUp : Bool
  /-- Messages that wait for the L1 exit (R304). -/
  l1Due : List (Nat × Nat)
  sess : Tab Nat Sess
  txts : Tab Nat (List TxStamp)
  /-- Frames delivered to the management cores: port, frame, receive timestamp (ns and 16-bit fraction). -/
  mgmtRx : List (Nat × List Byte × Option (Nat × Nat))
  /-- Bits that the management path may still take, and the instant they were reckoned (R291). -/
  mgmtBits : Nat
  mgmtAt : Nat
  tout : Tab Nat Tout
  deriving DecidableEq, Repr

/-- Host ports after a cold reset (R313). DESIGN CHOICE (log 3); PRESUMED (log 32). -/
def HstState.reset : HstState :=
  { vec := [], fnMask := [], d3hot := [], pmeEn := [], pmeOn := [], linkUp := false, l1Due := [], sess := [], txts := [],
    mgmtRx := [], mgmtBits := 73728, mgmtAt := 0, tout := [] }

end Sys2Proof.Machine
end

