-- ==== Sys2Proof/Machine/StateIns.lean ====
section
/-! DEFINITION. State of in-line inspection beyond its registers: camera links, triggered lines, open frames, the gate
tables, the inspection store and upload subscriptions (chapter "In-Line Inspection"). -/

namespace Sys2Proof.Machine

/-- A RAW packet of a line after the dark and flat stage (R215, R220): channel, first camera pixel, its virtual channel
and the corrected pixels, none where a gate table entry is uncorrectable. -/
structure CamPacket where
  vc : Nat
  chan : Nat
  first : Nat
  pixels : List (Option Nat)
  deriving DecidableEq, Repr

/-- A triggered camera line that has not closed (R214, R219). -/
structure CamLine where
  tseq : Nat
  /-- Departure of its trigger in ps. -/
  depart : Nat
  /-- EXP_MID in ns, once known (R218). -/
  expMid : Option Nat
  /-- Fire index committed last before the trigger. -/
  fire : Nat
  /-- Direction, pass number and window of the pass at the trigger. -/
  reverse : Bool
  pass : Nat
  window : Option (Int × Int)
  packets : List CamPacket
  deriving DecidableEq, Repr

/-- One sample of a plane: measured density, residual, and the handle whose store copy supplies line Y_i. -/
structure Sample where
  m : Nat
  r : Int
  handle : Option Nat
  deriving DecidableEq, Repr

/-- The samples of one tenant in a region and plane (R234). -/
structure TenantAcc where
  sum : Int
  count : Nat
  /-- Samples above DEF_THR by tile row and tile column. -/
  tiles : Tab (Nat × Nat) Nat
  deriving DecidableEq, Repr

/-- What a frame accumulates for a plane (R227, R228, R230). -/
structure PlaneAcc where
  /-- Registration sums by shift. -/
  reg : Tab (Int × Int) Nat
  /-- Stitch sums by port, side (true is the upper) and shift. -/
  stitch : Tab (Nat × Bool × Int × Int) Nat
  /-- Σ m, Σ E and samples by column of the frame. -/
  cols : Tab Nat (Nat × Nat × Nat)
  /-- Σ r·g, Σ g² and samples with g > 0 by column of the frame and sibling, g scaled by 4,096 · 360,360. -/
  dev : Tab (Nat × Nat) (Int × Nat × Nat)
  /-- Samples above DEF_THR by tile row and tile column. -/
  tiles : Tab (Nat × Nat) Nat
  /-- By handle and region. -/
  tenants : Tab (Nat × Nat) TenantAcc
  deriving DecidableEq, Repr

/-- A plane with no sample. -/
def PlaneAcc.empty : PlaneAcc := { reg := [], stitch := [], cols := [], dev := [], tiles := [], tenants := [] }

/-- An open frame (R226). -/
structure Frame where
  /-- Closed lines, and how many of them are valid. -/
  lines : Nat
  valid : Nat
  yFirst : Option Int
  fFirst : Nat
  pass : Nat
  /-- Samples excluded, and those of them that are store-missing. -/
  excluded : Nat
  missed : Nat
  planes : Tab Nat PlaneAcc
  /-- Samples by line and plane, kept while a subscription is due in this frame. -/
  rows : List (List (Nat × List Sample))
  deriving DecidableEq, Repr

/-- A frame with no line. -/
def Frame.empty : Frame :=
  { lines := 0, valid := 0, yFirst := none, fFirst := 0, pass := 0, excluded := 0, missed := 0, planes := [],
    rows := [] }

/-- A statistics record (R231): its bytes, and the pass of its frame. -/
structure StatRecord where
  pass : Nat
  bytes : List Byte
  deriving DecidableEq, Repr

/-- An upload subscription (R235). -/
structure Subscription where
  handle : Nat
  decimation : Nat
  planes : Nat
  wide : Bool
  residual : Bool
  dest : Nat
  destBytes : Nat
  /-- Offset in DEST of the next upload. -/
  next : Nat
  deriving DecidableEq, Repr

/-- A due frame that waits for the pipeline's compressor unit: subscription number, frame and bytes. -/
structure UploadJob where
  sub : Nat
  frame : Nat
  bytes : List Byte
  deriving DecidableEq, Repr

/-- An upload whose blocks are in the compressor unit: how many have not left it, and the bytes of those that have (R131). -/
structure Sending where
  job : UploadJob
  left : Nat
  bytes : List Byte
  deriving DecidableEq, Repr

/-- A CAMSET that waits for its ACK (R212). -/
structure CamUnacked where
  seq : Nat
  body : List Nat
  resends : Nat
  deriving DecidableEq, Repr

/-- One inspection pipeline. -/
structure Pipe where
  /-- Step of bring-up reached (Table 7.9), SEQ of the next downstream message, CAMSET outstanding, and W3, W4 of
  CAMCAP. -/
  stage : Nat
  seq : Nat
  unacked : Option CamUnacked
  caps : Nat
  minLine : Nat
  /-- TSEQ of the next trigger, and the departure of the last one (R217). -/
  tseq : Nat
  lastTrigger : Option Nat
  lines : List CamLine
  frame : Option Frame
  /-- Integer shifts of the previous frame by plane (R227). -/
  shifts : Tab Nat (Int × Int)
  /-- Pass and Y_i of the last line placed (R223). -/
  placed : Option (Nat × Int)
  /-- RESTART of the next record (R226). -/
  restart : Bool
  /-- Gate table entries that differ from DARK = 0, FLAT = 0x4000. -/
  gate : Tab Nat (Nat × Nat)
  /-- Records not yet handed to the loop, and those handed over but not yet written to the ring (R232). -/
  toLoop : List StatRecord
  toRing : List StatRecord
  subs : Tab Nat Subscription
  uploads : List UploadJob
  sending : Option Sending
  /-- Last META body of each virtual channel, up to 64 words. -/
  metas : Tab Nat (List Nat)
  /-- Dropped lines and sensor overflows of the camera's last EVENT. -/
  camEvents : Nat × Nat
  /-- Instants of the last E_INS_RATE and E_INS_RING_FULL. -/
  lastRate : Option Nat
  lastFull : Option Nat
  deriving DecidableEq, Repr

/-- A pipeline after a cold reset (R239). -/
def Pipe.reset : Pipe :=
  { stage := 0, seq := 0, unacked := none, caps := 0, minLine := 0, tseq := 0, lastTrigger := none, lines := [],
    frame := none, shifts := [], placed := none, restart := false, gate := [], toLoop := [], toRing := [], subs := [],
    uploads := [], sending := none, metas := [], camEvents := (0, 0), lastRate := none, lastFull := none }

/-- The bytes of a store copy: none for a MISSING entry, the sealed block of a context, or a FEED block sealed under the
cascade key. -/
inductive CopyBody where
  | missing
  | block (b : Sealed)
  | feed (b : Sealed)
  deriving DecidableEq, Repr

/-- A copy in the inspection store (R222, R260). -/
structure StoreCopy where
  /-- The bar that printed it, none for this one. -/
  bar : Option Nat
  handle : Nat
  region : Nat
  fluid : Nat
  phase : Nat
  band : Nat
  /-- Lowest raster line and line count; the region's direction and pass. -/
  first : Int
  lines : Nat
  reverse : Bool
  pass : Nat
  body : CopyBody
  deriving DecidableEq, Repr

/-- Lines of a copy that did not fit (R223): bar, fluid, phase, band, first line, lines and pass. -/
structure LostCopy where
  bar : Option Nat
  fluid : Nat
  phase : Nat
  band : Nat
  first : Int
  lines : Nat
  pass : Nat
  deriving DecidableEq, Repr

/-- In-line inspection. -/
structure InsState where
  pipe : Tab Nat Pipe
  copies : List StoreCopy
  lost : List LostCopy
  /-- Instant of the last E_INS_STORE_FULL. -/
  lastStore : Option Nat
  /-- Health commands accepted since the activation, oldest first, each with the first line of its lost range (R144,
  R225, R228). -/
  health : List (PendHealth × Int)
  deriving DecidableEq, Repr

/-- Inspection after a cold reset: the store is empty. DESIGN CHOICE (log 3). -/
def InsState.reset : InsState := { pipe := [], copies := [], lost := [], lastStore := none, health := [] }

end Sys2Proof.Machine
end

