-- ==== Sys2Proof/Machine/StateLane.lean ====
section
/-! DEFINITION. State of the serial lanes beyond their registers (chapter "Serial Lanes"). -/

namespace Sys2Proof.Machine

/-- One lane. -/
structure Lane where
  /-- The lane has signal and a working setting: its port may use it. -/
  good : Bool
  /-- Bring-up failures since it began (R392). -/
  fails : Nat
  /-- CTLE start point of the next attempt (R392). -/
  start : Nat
  /-- Signal losses and block lock losses (R393). -/
  los : Nat
  blockLoss : Nat
  /-- Instant at which the pattern checker locked, while it is locked (R399). -/
  lockAt : Option Nat
  /-- Instant at which periodic injection began, while it runs (R400). -/
  injectAt : Option Nat
  deriving DecidableEq, Repr

/-- A lane after a cold reset. -/
def Lane.reset : Lane := { good := false, fails := 0, start := 0, los := 0, blockLoss := 0, lockAt := none, injectAt := none }

/-- The transmitter of a native link: the blocks of its lanes start together (R175). -/
structure Tx where
  /-- When its first block left, in ps. -/
  start : Nat
  /-- Time of a block in ps. -/
  ps : Nat
  width : Nat
  /-- Block position of the next block. -/
  block : Nat
  /-- Words that wait for the word stream (R178), each with whether it is a message header. -/
  queue : List (Nat × Bool)
  /-- Slot words that wait for their slots: block position, word index and word. -/
  slots : List (Nat × Nat × Nat)
  /-- Scrambler state by logical lane (R390). -/
  scrambler : List Nat
  /-- Errors to inject: block position, logical lane, and whether in the payload (R400). -/
  inject : List (Nat × Nat × Bool)
  deriving DecidableEq, Repr

/-- A transmitter at the bring-up rate on one lane (Table 7.9 step 2), since the cold reset. DESIGN CHOICE (log 3). -/
def Tx.reset : Tx := { start := 0, ps := 21120, width := 1, block := 0, queue := [], slots := [], scrambler := [0, 0, 0, 0], inject := [] }

/-- The serial lanes. -/
structure LaneState where
  lane : Tab Nat Lane
  /-- Transmitters of the native links by their first lane, over 4. -/
  tx : Tab Nat Tx
  /-- Links whose first exchange is done: mirror link i is i, cascade link l is 8 + l (R258, R320). -/
  capped : List Nat
  /-- Lanes that the next margin scan pass takes first (R395). -/
  ahead : List Nat
  /-- Groups powered down: 1 the head, camera and cascade lanes, 2 all lanes (R344, R349). -/
  shed : Nat
  /-- Clusters whose lanes are OFF for want of a reference (R389). -/
  noRef : List Nat
  deriving DecidableEq, Repr

/-- The serial lanes after a cold reset. DESIGN CHOICE (log 3). -/
def LaneState.reset : LaneState := { lane := [], tx := [], capped := [], ahead := [], shed := 0, noRef := [] }

end Sys2Proof.Machine
end

