-- ==== Sys2Proof/Machine/StateLink.lean ====
section
/-! DEFINITION. State of the head links beyond their registers (chapter "Head Link Protocol"). -/

namespace Sys2Proof.Machine

/-- A downstream message that waits for its ACK (R186). -/
structure Unacked where
  seq : Nat
  type : Nat
  body : List Nat
  resends : Nat
  deriving DecidableEq, Repr

/-- Why echoes are being exchanged (R79, R80, Table 7.9 step 7). -/
inductive EchoUse where
  | calibration
  | refresh
  | bringUp
  deriving DecidableEq, Repr

/-- A slate promised at the commit of a fire (R73): its slot (block position and word index), its departure in ps and its
FINE. -/
structure SlateSlot where
  fire : Nat
  slot : Nat × Nat
  depart : Nat
  fine : Nat
  deriving DecidableEq, Repr

/-- One head link. -/
structure PortLink where
  /-- SEQ of the next downstream message (R185). -/
  seq : Nat
  unacked : List Unacked
  /-- SEQ of the BATCH messages sent since the join, newest first (R189). -/
  batchSeqs : List Nat
  /-- Fires whose batches are outstanding (R189). -/
  outstanding : List Nat
  /-- Fires whose batches were sent and stand (R181, R192). -/
  sent : List Nat
  /-- F_leave of a LEAVE in force (R198). -/
  leaveFire : Option Nat
  /-- Accepted with firing disabled: F_join is the first fire after the next enable (R197). -/
  joinAtEnable : Bool
  /-- HEAD_ID last linked since the cold reset (R199). -/
  lastHead : Option Nat
  /-- This link-up follows a fault of the same head: GO at the end of bring-up (R199). -/
  rejoin : Bool
  /-- Head counters of the last EVENT (R204). -/
  events : List Nat
  /-- Echo exchange in progress: its use, and the echoes received: sequence number and round trip less ADD in ps. -/
  echo : Option (EchoUse × List (Nat × Nat))
  /-- Slates promised and not yet sent, in order (R73). -/
  slates : List SlateSlot
  /-- Fires whose batches were skipped, newest first (R190). -/
  skips : List Nat
  /-- The next batch carries SYNC = 1 (R184). -/
  sync : Bool
  /-- Left FIRING through a fault: its rows' lines are spoiled until it rejoins (R200). -/
  faulted : Bool
  /-- Instants of the last E_HL_SKIP and E_HL_NO_CREDIT (R189, R190). -/
  lastSkip : Option Nat
  lastNoCredit : Option Nat
  /-- Sensor channels of the head (Table 7.6). -/
  channels : Nat
  /-- Step of bring-up reached (Table 7.9). -/
  stage : Nat
  deriving DecidableEq, Repr

/-- A head link after a cold reset (R211). -/
def PortLink.reset : PortLink :=
  { seq := 0, unacked := [], batchSeqs := [], outstanding := [], sent := [], leaveFire := none,
    joinAtEnable := false, lastHead := none, rejoin := false, events := [0, 0, 0, 0, 0, 0], echo := none, slates := [], skips := [], sync := false,
    faulted := false, lastSkip := none, lastNoCredit := none, channels := 0, stage := 0 }

/-- The head links. -/
structure LinkState where
  port : Tab Nat PortLink
  deriving DecidableEq, Repr

/-- The head links after a cold reset. DESIGN CHOICE (log 3). -/
def LinkState.reset : LinkState := { port := [] }

end Sys2Proof.Machine
end

