-- ==== Sys2Proof/Machine/StateMgt.lean ====
section
/-! DEFINITION. State of the management cores, the non-volatile array, the cue engine and the interrupt controller beyond
their registers (chapter "Management Cores, Non-Volatile Array and Interrupts"). -/

namespace Sys2Proof.Machine

/-- Moderation of one core and class (R442). -/
structure Moderation where
  /-- Sources that became pending since the last claim. -/
  count : Nat
  /-- Instant of the first of them. -/
  since : Option Nat
  /-- The request line. -/
  line : Bool
  deriving DecidableEq, Repr

/-- Moderation with nothing pending. -/
def Moderation.idle : Moderation := { count := 0, since := none, line := false }

/-- An operation on the NVA that is not complete: of a core (0 to 3), of the owner (4), or PERSIST of the image store (5)
(R432, R433). -/
structure NvaOp where
  requester : Nat
  bank : Nat
  /-- Next line of the bank to write, and how many are left. -/
  line : Nat
  left : Nat
  erase : Bool
  /-- Address of the source of the next line, of a core's or the owner's operation. -/
  src : Nat
  /-- Bytes that PERSIST has still to write. -/
  body : List Byte
  deriving DecidableEq, Repr

/-- Classes of objects that a cue sequence holds in TRANSIT (CUE_QUERY, Table 17.10). -/
inductive ObjClass where
  | engine
  | port
  | slot
  | group
  deriving DecidableEq, Repr

/-- The code of a class in CUE_QUERY. -/
def ObjClass.code : ObjClass → Nat
  | .engine => 1
  | .port => 2
  | .slot => 3
  | .group => 4

/-- What a cue sequence does (Table 17.4). -/
inductive CueKind where
  /-- Substitution of an engine on a port: the old engine and the spare. -/
  | subst (old spare port : Nat)
  /-- Parking of a slot: requesting ring entry's tag and the park record. -/
  | park (slot tag record : Nat)
  /-- Activation of a park record into a slot. -/
  | activate (slot tag record : Nat)
  /-- Reset of a DRAM group. -/
  | groupReset (group : Nat)
  deriving DecidableEq, Repr

/-- TYPE of a sequence (Table 17.4). -/
def CueKind.type : CueKind → Nat
  | .subst _ _ _ => 1
  | .park _ _ _ => 2
  | .activate _ _ _ => 3
  | .groupReset _ => 4

/-- The objects a sequence holds in TRANSIT (Table 17.4). -/
def CueKind.objects : CueKind → List (ObjClass × Nat)
  | .subst o s p => [(.engine, o), (.engine, s), (.port, p)]
  | .park s _ _ => [(.slot, s)]
  | .activate s _ _ => [(.slot, s)]
  | .groupReset g => [(.group, g)]

/-- True where a sequence type has an abort point (Table 17.4). -/
def CueKind.abortable : CueKind → Bool
  | .activate _ _ _ => true
  | .groupReset _ => true
  | _ => false

/-- A running sequence. -/
structure CueRun where
  kind : CueKind
  generation : Nat
  /-- An abort has been accepted: it stops at its abort point (R437). -/
  abort : Bool
  deriving DecidableEq, Repr

/-- Management cores, NVA operations, the cue engine and moderation. -/
structure MgtState where
  /-- Local SRAM of the cores, by core address (Table 17.1). -/
  sram : Mem
  /-- Instant of the last start of each watchdog. -/
  kicked : Tab Nat Nat
  /-- Successive load windows above 90 % and below 70 % (R430). -/
  highWindows : Nat
  lowWindows : Nat
  /-- Which of two uploads, records and dailies is skipped next under OVERLOAD (R430). -/
  skipRecord : Tab Nat Bool
  /-- Operations in the order of their acceptance. -/
  ops : List NvaOp
  moderation : Tab Nat Moderation
  /-- Running sequences in their places 0 to 7, waiting ones in order, and the last generation issued. -/
  running : Tab Nat CueRun
  waiting : List (CueKind × Nat)
  lastGeneration : Nat
  deriving DecidableEq, Repr

/-- Management after a cold reset. DESIGN CHOICE (log 3). -/
def MgtState.reset : MgtState :=
  { sram := [], kicked := [], highWindows := 0, lowWindows := 0, skipRecord := [], ops := [],
    moderation := [], running := [], waiting := [], lastGeneration := 0 }

end Sys2Proof.Machine
end

