-- ==== Sys2Proof/Machine/StateTen.lean ====
section
/-! DEFINITION. State of the tenant contexts, rings and units beyond their registers (chapter "Tenants, Rings and
Isolation"). -/

namespace Sys2Proof.Machine

/-- A submission entry taken from a ring and not yet posted as a completion (R273). -/
structure Taken where
  tag : Nat
  opcode : Nat
  /-- The words of the entry. -/
  words : List Nat
  /-- MSEQ whose ACK the completion waits for (R322). -/
  wait : Option Nat
  /-- The completion once finished: status and words W2 to W7. -/
  done : Option (Nat × List Nat)
  deriving DecidableEq, Repr

/-- A context beyond its page of registers. DESIGN CHOICE (log 29). -/
structure Ctx where
  /-- Generation of the last context of the slot, 0 after a cold reset (R265). -/
  generation : Nat
  /-- The key wrapped under the tenant key-encryption key (R281). -/
  wrapped : List Byte
  /-- The clear key in the key cache while ACTIVE or DRAINING (R281). -/
  key : Option (List Byte)
  /-- DROPS and ENERGY (in units of the model's energy sum, R282) by fluid. -/
  drops : Tab Nat Nat
  energy : Tab Nat Nat
  /-- Entries taken, in submission order. -/
  taken : List Taken
  /-- The words of the submission ring, by ring position (R271); zeros where none has been written. -/
  sqWords : Tab Nat (List Nat)
  /-- Completion entries, by ring position, where the ring lies in the controller's DRAM. -/
  cqWords : Tab Nat (List Nat)
  /-- The next entry written carries LOST (R273). -/
  lost : Bool
  /-- A failed host write has stopped the rings (R288). -/
  stopped : Bool
  /-- Counter of the IVs of uploads (R280). -/
  ivCount : Nat
  /-- Counter of the IVs of transport datagrams (R293). -/
  ivXpt : Nat
  /-- Grants left to the ring in the round of the arbiter (R274). -/
  credit : Nat
  /-- Bytes of staging allocated to its transport session (R295). -/
  stagingUnits : Nat
  /-- Park record to be written by the sequence in progress. -/
  parkTo : Option Nat
  /-- Restart fire index that the completion ring has still to receive: host memory cannot be written yet (R285). -/
  tell : Option Nat
  deriving DecidableEq, Repr

/-- A slot that has held no context since the cold reset. -/
def Ctx.reset : Ctx :=
  { generation := 0, wrapped := [], key := none, drops := [], energy := [], taken := [], sqWords := [], cqWords := [],
    lost := false, stopped := false, ivCount := 0, ivXpt := 0, credit := 0, stagingUnits := 0, parkTo := none, tell := none }

/-- A park record (R269): the context, and the words of its page. -/
structure ParkRec where
  ctx : Ctx
  page : List (Reg × Nat)
  /-- A burst of it is poisoned (Table 16.3). -/
  lost : Bool
  deriving DecidableEq, Repr

/-- What units of the DRAM hold for a context: its rings, the reel and tag store of a region, or its staging area. -/
inductive UnitUse where
  | rings
  | region (number : Nat)
  | staging
  deriving DecidableEq, Repr

/-- Units that follow each other, tagged with the slot and generation of their context (R278): numbered from 0 in the tenant
pool, or in the owner partition for slot 0. -/
structure Span where
  first : Nat
  len : Nat
  slot : Nat
  generation : Nat
  use : UnitUse
  deriving DecidableEq, Repr

/-- Units being zeroed, tagged with slot and generation (R284). -/
structure ZeroJob where
  slot : Nat
  generation : Nat
  units : Nat
  /-- The units: first and count of each run. -/
  runs : List (Nat × Nat) := []
  /-- The zeroing of a closed context, after which its slot is freed. -/
  closesSlot : Bool
  deriving DecidableEq, Repr

/-- Contexts, parked contexts and units. -/
structure TenState where
  ctx : Tab Nat Ctx
  parks : Tab Nat ParkRec
  zeroing : List ZeroJob
  /-- The units in use, by their tags (R278). -/
  spans : List Span
  /-- LOG2 of rings 0 and 4,096, which the spec does not give. -/
  ownerLog2 : Nat
  /-- Units of the owner partition (R278, R287). -/
  ownerUnits : Nat
  deriving DecidableEq, Repr

/-- Contexts after a cold reset: slot 0 has generation 1 (R264). DESIGN CHOICE (log 3, 31). -/
def TenState.reset : TenState :=
  { ctx := [(0, { Ctx.reset with generation := 1 })], parks := [], zeroing := [], spans := [], ownerLog2 := 12, ownerUnits := 0 }

end Sys2Proof.Machine
end

