-- ==== Sys2Proof/Machine/StatePwr.lean ====
section
/-! DEFINITION. State of power, checkpoints and Breath beyond their registers (chapter "Power Budget and Breath"). -/

namespace Sys2Proof.Machine

/-- What the controller journals (R347). DESIGN CHOICE (log 71). -/
inductive JournalEvent where
  /-- A context: slot, generation, and 0 open, 1 close, 2 park, 3 activation, 4 quota change. -/
  | context (slot generation what : Nat)
  | health (h : PendHealth)
  | image (serial : Nat)
  | role (r : Nat)
  | epoch (fire : Nat)
  /-- BREATH_BEGIN with F_pf (R349). -/
  | breathBegin (fire : Nat)
  deriving DecidableEq, Repr

/-- A drone task (Table 13.2). RUNNING, WAITING, PAUSED and URGENT stand in its STATUS register. -/
structure Task where
  /-- Deadlines of the requests not complete, in order; none where it runs from the start of the pass (task 0). -/
  due : List (Option Nat)
  /-- The deadline that stands has passed and is counted (R341). -/
  missed : Bool
  /-- The urgent task has failed admission and ring 4,096 was told. -/
  told : Bool
  /-- Instant of the last completion. -/
  last : Option Nat
  deriving DecidableEq, Repr

/-- A task after a cold reset. -/
def Task.reset : Task := { due := [], missed := false, told := false, last := none }

/-- What a commit record names (Table 13.4), and the state that its slot holds (Table 13.9). DESIGN CHOICE (log 69). -/
structure Saved where
  breath : Bool
  seq : Nat
  baseSeq : Nat
  fire : Nat
  cause : Nat
  isPart : Bool
  /-- Digest of the active image (R48). -/
  digest : BitVec 384
  /-- Register words. -/
  regs : Tab (Reg × Nat) (BitVec 64)
  /-- Position, contexts, tables and pages, frames, regions. -/
  pos : PosState
  ten : TenState
  syn : SynState
  ins : InsState
  cmp : CmpState
  /-- Compressed body. -/
  body : List Byte
  deriving DecidableEq, Repr

/-- Power and Breath. -/
structure PwrState where
  /-- Journal records that wait to be written, oldest first, at most 4,096 (R347). -/
  journal : List JournalEvent
  /-- The journal ring: SEQ of the newest checkpoint at the time, and the event, oldest first, at most 16,384. -/
  ring : List (Nat × JournalEvent)
  task : Tab Nat Task
  /-- Thresholds of Table 13.3 that apply: 95 and 110 °C, and 125 °C. -/
  warm : Bool
  thermStop : Bool
  tripped : Bool
  /-- UNFIT SELF clears when the ports are linked again (R344). -/
  selfDue : Bool
  /-- CAUSE of the Breath in progress (Table 13.4), and whether a monitor trip began it (R348). -/
  cause : Nat
  trip : Bool
  /-- The checkpoint slots that hold a valid commit record (R345). -/
  slots : Tab Nat Saved
  /-- The restart has to write a checkpoint into this slot before FIRE_EN can be set (R356). -/
  rewrite : Option Nat
  deriving DecidableEq, Repr

/-- Power after a cold reset. DESIGN CHOICE (log 3). -/
def PwrState.reset : PwrState :=
  { journal := [], ring := [], task := [], warm := false, thermStop := false, tripped := false, selfDue := false, cause := 0,
    trip := false, slots := [], rewrite := none }

end Sys2Proof.Machine
end

