-- ==== Sys2Proof/Machine/StateSec.lean ====
section
/-! DEFINITION. State of the fuses, the key store and the security block beyond its registers (chapter "Security and Life
Cycle"). -/

namespace Sys2Proof.Machine

/-- A change that burns one fuse bit (Table 18.1). -/
inductive Burn where
  | floor
  /-- A root slot, with the SHA-384 that its hash bits take. -/
  | rootProg (slot : Nat) (hash : BitVec 384)
  | revoke (slot : Nat)
  /-- A life-cycle transition to a target state. -/
  | lifeCycle (target : Nat)
  | voltage
  deriving DecidableEq, Repr

/-- KIND of an event log record (R448). -/
def Burn.kind : Burn → Nat
  | .floor => 0
  | .rootProg _ _ => 1
  | .revoke _ => 2
  | .lifeCycle _ => 3
  | .voltage => 4

/-- The fuse bank (Table 18.1). -/
structure Fuses where
  floor : Nat
  /-- SHA-384 of the public key of each root slot, and its program bit. -/
  rootHash : Tab Nat (BitVec 384)
  rootProg : Nat
  revoked : Nat
  p : Bool
  f : Bool
  r : Bool
  t : Nat
  ceiling : Nat
  deriving DecidableEq, Repr

/-- A fuse bank with no bit burned. -/
def Fuses.blank : Fuses :=
  { floor := 0, rootHash := [], rootProg := 0, revoked := 0, p := false, f := false, r := false, t := 0, ceiling := 0 }

/-- Life-cycle state from the fuses (Table 18.2), by its code in SEC_STATUS. -/
def Fuses.state (x : Fuses) : Nat :=
  if x.r then 4 else if !x.p then 0 else if !x.f then 1 else if x.t % 2 = 0 then 2 else 3

/-- One record of the event log (R448). -/
structure LogRec where
  kind : Nat
  before : Nat
  after : Nat
  left : Nat
  clock : Nat
  fire : Nat
  abandoned : Bool
  deriving DecidableEq, Repr

/-- The security block. Fuses, key store, stamp and event log outlive a cold reset. DEDUCED (log 91). -/
structure SecState where
  fuses : Fuses
  /-- Key store entries by ID (Table 18.5). -/
  keys : Tab Nat (List Byte)
  /-- Life-cycle state stamped in the key store (R452). -/
  stamp : Nat
  log : List LogRec
  /-- A burn in progress (R445). -/
  burning : Option Burn
  deriving DecidableEq, Repr

/-- The security block of a controller that has never been programmed. -/
def SecState.reset : SecState := { fuses := Fuses.blank, keys := [], stamp := 0, log := [], burning := none }

end Sys2Proof.Machine
end

