-- ==== Sys2Proof/Machine/Dev.lean ====
section
/-! DEFINITION. The controller's whole state but for the queue of commands: registers, memories, what was raised and sent,
and the state of each block beyond its registers. -/

namespace Sys2Proof.Machine

/-- The controller. -/
structure Dev where
  /-- Time since the cold reset in ps. -/
  now : Nat
  /-- Register words that differ from their reset value: register and instance. -/
  regs : Tab (Reg × Nat) (BitVec 64)
  /-- Words latched by a read of a low word, by control-space offset (R7). -/
  latch : Tab Nat Nat
  /-- The codes raised (R12) and where, in order. -/
  raised : List (ECode × Nat)
  /-- What was sent to the world outside, in order. -/
  outs : List Out
  /-- DRAM outside the reels, by physical address. -/
  dram : Mem
  /-- The non-volatile array: bank b at offset 0x16e3600 b. -/
  nva : Mem
  /-- Free values drawn so far; the model's own, no state of the spec's. -/
  draw : Nat
  /-- Bar image. -/
  img : ImgState
  /-- Web position and fire timing. -/
  pos : PosState
  /-- Compositor. -/
  cmp : CmpState
  /-- Compressor units. -/
  cdc : CdcState
  /-- Contexts, rings and units. -/
  ten : TenState
  /-- Head links. -/
  lnk : LinkState
  /-- Management cores, NVA operations, cue engine, interrupt moderation. -/
  mgt : MgtState
  /-- Host ports and network time. -/
  hst : HstState
  /-- Fuses, key store and security actions. -/
  sec : SecState
  /-- Drop synthesis. -/
  syn : SynState
  /-- The print-quality loop and the cascade. -/
  ql : QlState
  /-- The partner block. -/
  ptn : PtnState
  /-- Power, checkpoints and Breath. -/
  pwr : PwrState
  /-- In-line inspection. -/
  ins : InsState
  /-- Serial lanes. -/
  lne : LaneState
  /-- The DRAM subsystem. -/
  dmc : DmcState
  /-- Control loops and motion axes. -/
  ctl : CtlState
  /-- Reset, start-up and calibration. -/
  sys : SysState
  deriving DecidableEq, Repr

/-- The controller after a cold reset. DESIGN CHOICE (log 3, 5). -/
def Dev.reset : Dev :=
  { now := 0, regs := [], latch := [], raised := [], outs := [], dram := [], nva := [], draw := 0
    , img := ImgState.reset
    , pos := PosState.reset
    , cmp := CmpState.reset
    , cdc := CdcState.reset
    , ten := TenState.reset
    , lnk := LinkState.reset
    , mgt := MgtState.reset
    , hst := HstState.reset
    , sec := SecState.reset
    , syn := SynState.reset
    , ql := QlState.reset
    , ptn := PtnState.reset
    , pwr := PwrState.reset
    , ins := InsState.reset
    , lne := LaneState.reset
    , dmc := DmcState.reset
    , ctl := CtlState.reset
    , sys := SysState.reset }

end Sys2Proof.Machine
end

