-- ==== Sys2Proof/Machine/Ops.lean ====
section
/-! DEFINITION. The shared operations over the controller: reading and writing registers and their fields, codes,
output, free values, pins, and interrupt sources. -/

namespace Sys2Proof.Machine

/-- The value of a register instance. DESIGN CHOICE (log 102). -/
def Dev.rd (d : Dev) (r : Reg) (k : Nat) : BitVec 64 := Tab.get d.regs (r, k) (r.reset k)

/-- The controller with a register instance set. DESIGN CHOICE (log 102). -/
def Dev.wr (d : Dev) (r : Reg) (k : Nat) (v : BitVec 64) : Dev := { d with regs := Tab.set d.regs (r, k) v }

/-- The value of a register instance as a number. -/
def Dev.get (d : Dev) (r : Reg) (k : Nat) : Nat := (d.rd r k).toNat

/-- Set a register instance from a number. -/
def Dev.put (d : Dev) (r : Reg) (k : Nat) (v : Nat) : Dev := d.wr r k (BitVec.ofNat 64 v)

/-- A field of a register: lsb and width. -/
def Dev.fld (d : Dev) (r : Reg) (k lsb w : Nat) : Nat := bits (d.get r k) lsb w

/-- Set a field of a register. DESIGN CHOICE (log 102). -/
def Dev.setFld (d : Dev) (r : Reg) (k lsb w v : Nat) : Dev := d.put r k (setBits (d.get r k) lsb w v)

/-- One bit of a register. -/
def Dev.bit (d : Dev) (r : Reg) (k i : Nat) : Bool := d.fld r k i 1 == 1

/-- Set one bit of a register. -/
def Dev.setBit (d : Dev) (r : Reg) (k i : Nat) (b : Bool) : Dev := d.setFld r k i 1 (if b then 1 else 0)

/-- A signed 64-bit register. -/
def Dev.getInt (d : Dev) (r : Reg) (k : Nat) : Int := (d.rd r k).toInt

/-- Set a signed 64-bit register. -/
def Dev.putInt (d : Dev) (r : Reg) (k : Nat) (v : Int) : Dev := d.wr r k (BitVec.ofInt 64 v)

/-- Add to a 32-bit counter that saturates. DEDUCED (log 17). -/
def Dev.add32 (d : Dev) (r : Reg) (k n : Nat) : Dev := d.put r k (satAdd 32 (d.get r k) n)

/-- Count one in a 32-bit counter that saturates. DEDUCED (log 17). -/
def Dev.count (d : Dev) (r : Reg) (k : Nat) : Dev := d.add32 r k 1

/-- Raise a code at a place: an instance number, 0 where the code has none. -/
def Dev.raise (d : Dev) (e : ECode) (place : Nat) : Dev := { d with raised := d.raised ++ [(e, place)] }

/-- Refuse a requester's write: the code goes to its GLB_LAST_ERR (R41, Table 17.10). DEDUCED (log 16). -/
def Dev.refuse (d : Dev) (req : Nat) (e : ECode) : Dev := (d.put .glbLastErr req e.code.toNat).raise e req

/-- Send something to the world outside. -/
def Dev.send (d : Dev) (o : Out) : Dev := { d with outs := d.outs ++ [o] }

/-- The next free value, below 2^w. DESIGN CHOICE (log 6). -/
def Dev.free (d : Dev) (w : Nat) : Nat := (Config.freeValue d.draw).toNat % 2 ^ w

/-- One of several free values of one command. DESIGN CHOICE (log 6). -/
def Dev.freeAt (d : Dev) (i w : Nat) : Nat := (Config.freeValue (d.draw + i)).toNat % 2 ^ w

/-- Go past a free value. DESIGN CHOICE (log 6). -/
def Dev.drawn (d : Dev) : Dev := { d with draw := d.draw + 1 }

/-- Move time forward to an instant in ps; time never goes back. DESIGN CHOICE (log 8). -/
def Dev.at (d : Dev) (t : Nat) : Dev := { d with now := max d.now t }

/-- An event to journal takes its place in the queue of 4,096 records (R347). -/
def Dev.journal (d : Dev) (e : JournalEvent) : Dev :=
  if 4096 ≤ d.pwr.journal.length then d else { d with pwr := { d.pwr with journal := d.pwr.journal ++ [e] } }

/-- Apply a function to the controller for each number of a list, in order. -/
def Dev.each (d : Dev) (ns : List Nat) (f : Dev → Nat → Dev) : Dev := ns.foldl f d

/-- The value in force of an image field (its default with no image active). -/
def Dev.cfg (d : Dev) (f : Field) (inst : Nat) : Nat := (d.img.active.getD Image.empty).get f inst

/-- The value in force of a signed 32-bit image field. -/
def Dev.cfgInt (d : Dev) (f : Field) (inst : Nat) : Int := signedOf 32 (d.cfg f inst)

/-- The active image, or the image of defaults. -/
def Dev.image (d : Dev) : Image := d.img.active.getD Image.empty

/-! ### Interrupt sources (R438 to R442) -/

/-- The interrupt source of an event register (Table 17.6). -/
def eventSource (r : Reg) (k : Nat) : Option Nat :=
  match r with
  | .linkEvent => some k
  | .synEvent => some k
  | .insEvent => some (192 + k)
  | .lneEvent => some (256 + k)
  | .posEvent => some 1536
  | .pwrEvent => some 1538
  | .ptnEvent => some 1539
  | .ctlEvent => some 1540
  | .embGlbEvent => some 1541
  | .cdcEvent => some 1542
  | .cmpEvent => some 1543
  | .qlEvent => some 1544
  | .tenEvent => some 1545
  | .dmcEvent => some 1546
  | .lneGlbEvent => some 1547
  | .hlGlbEvent => some 1548
  | .cueEvent => some 1549
  | .nvaEvent => some 1550
  | _ => none

/-- The level of an event register's source: a head port has two event registers. -/
def Dev.eventLevel (d : Dev) (r : Reg) (k : Nat) : Bool :=
  if r = .linkEvent ∨ r = .synEvent then d.get .linkEvent k != 0 || d.get .synEvent k != 0 else d.get r k != 0

/-- The pending bit of a source. -/
def Dev.irqPending (d : Dev) (src : Nat) : Bool := d.bit .irqPendSet (src / 32) (src % 32)

/-- The mask bit of a source: true is masked. -/
def Dev.irqMasked (d : Dev) (src : Nat) : Bool := d.bit .irqMaskSet (src / 32) (src % 32)

/-- KIND, INDEX, CLASS, PRIO and SENSE of a source (Table 17.8). -/
def Dev.irqKind (d : Dev) (src : Nat) : Nat := d.fld .irqSrcCfg src 8 2
def Dev.irqIndex (d : Dev) (src : Nat) : Nat := d.fld .irqSrcCfg src 0 8
def Dev.irqFast (d : Dev) (src : Nat) : Bool := d.bit .irqSrcCfg src 12
def Dev.irqPrio (d : Dev) (src : Nat) : Nat := d.fld .irqSrcCfg src 13 3
def Dev.irqSense (d : Dev) (src : Nat) : Nat := d.fld .irqSrcCfg src 10 2

/-- Key of the moderation of a core and class. -/
def modKey (core : Nat) (fast : Bool) : Nat := 2 * core + (if fast then 1 else 0)

/-- COUNT and TIMER (in µs) of a core and class (R442). -/
def Dev.modCount (d : Dev) (core : Nat) (fast : Bool) : Nat :=
  max 1 (d.fld (if fast then .irqModF else .irqModN) core 0 8)
def Dev.modTimer (d : Dev) (core : Nat) (fast : Bool) : Nat := d.fld (if fast then .irqModF else .irqModN) core 8 24

/-- A core is in WFI (GLB_MGMT_STATUS). -/
def Dev.inWfi (d : Dev) (core : Nat) : Bool := d.bit .glbMgmtStatus 0 (24 + core)

/-- A source routed to a core has become pending: its request line asserts when COUNT are reached, or at once in WFI
(R442). -/
def Dev.moderate (d : Dev) (core : Nat) (fast : Bool) : Dev :=
  let m := Tab.get d.mgt.moderation (modKey core fast) Moderation.idle
  let m' : Moderation := { count := m.count + 1, since := some (m.since.getD d.now),
                           line := m.line || d.inWfi core || decide (d.modCount core fast ≤ m.count + 1) }
  { d with mgt := { d.mgt with moderation := Tab.set d.mgt.moderation (modKey core fast) m' } }

/-- A vector of a PCIe function. -/
def Dev.vec (d : Dev) (fn v : Nat) : Vec := Tab.get d.hst.vec (fn, v) Vec.reset

/-- Set a vector. -/
def Dev.setVec (d : Dev) (fn v : Nat) (x : Vec) : Dev :=
  { d with hst := { d.hst with vec := Tab.set d.hst.vec (fn, v) x } }

/-- COUNT of a vector, 0 acting as 1, and its TIMER in µs (R302). -/
def Dev.vecCount (d : Dev) (fn v : Nat) : Nat :=
  max 1 (d.fld (if fn = 0 then .pfVec else .vfVec) (if fn = 0 then v else fn) 0 8)
def Dev.vecTimer (d : Dev) (fn v : Nat) : Nat :=
  d.fld (if fn = 0 then .pfVec else .vfVec) (if fn = 0 then v else fn) 8 24

/-- Send the message of a vector: c becomes 0 and the PBA bit clears (R302). -/
def Dev.sendVec (d : Dev) (fn v : Nat) : Dev :=
  (d.setVec fn v { d.vec fn v with count := 0, since := none, pba := false }).send (.interrupt fn v)

/-- The link is in L1 (HST_PCIE_STATUS). -/
def Dev.inL1 (d : Dev) : Bool := d.bit .pcieStatus 0 16

/-- A function is in D3hot. -/
def Dev.inD3 (d : Dev) (fn : Nat) : Bool := Tab.get d.hst.d3hot fn false

/-- A due message of a vector: the PBA bit where it is masked, in D3hot (with PM_PME for the first one where PME_En is 1)
or while the link is down; an L1 exit first where the link is in L1 (R303, R304). -/
def Dev.vecDue (d : Dev) (fn v : Nat) : Dev :=
  let x := d.vec fn v
  if x.masked || Tab.get d.hst.fnMask fn false || !d.hst.linkUp then d.setVec fn v { x with pba := true }
  else if d.inD3 fn then
    let d1 := d.setVec fn v { x with pba := true }
    if Tab.get d.hst.pmeEn fn false && !Tab.get d.hst.pmeOn fn false then
      { (d1.send (.pme fn)) with hst := { d1.hst with pmeOn := Tab.set d1.hst.pmeOn fn true } }
    else d1
  else if d.inL1 then
    if (fn, v) ∈ d.hst.l1Due then d else { d with hst := { d.hst with l1Due := d.hst.l1Due ++ [(fn, v)] } }
  else d.sendVec fn v

/-- An event for a vector (R302). -/
def Dev.vecEvent (d : Dev) (fn v : Nat) : Dev :=
  let x := d.vec fn v
  let d1 := d.setVec fn v { x with count := x.count + 1, since := some (x.since.getD d.now) }
  if d1.vecCount fn v ≤ x.count + 1 then d1.vecDue fn v else d1

/-- A source has become pending and is unmasked: its target is told (R438, R442). The keeper's sources are not
moderated. -/
def Dev.irqNotify (d : Dev) (src : Nat) : Dev :=
  if d.irqMasked src then d
  else if d.irqKind src = 0 then d.moderate (d.irqIndex src % 4) (d.irqFast src)
  else if d.irqKind src = 2 then d.vecEvent 0 (d.irqIndex src % 64)
  else d

/-- Set the pending bit of a source. -/
def Dev.irqPend (d : Dev) (src : Nat) (b : Bool) : Dev :=
  let was := d.irqPending src
  let d1 := d.setBit .irqPendSet (src / 32) (src % 32) b
  if b && !was then d1.irqNotify src else d1

/-- The level of a source changes: pending follows a level source, a qualifying edge sets pending (R438, R439).
DEDUCED (log 18). -/
def Dev.irqLevel (d : Dev) (src : Nat) (lvl : Bool) : Dev :=
  let was := d.bit .irqLevel (src / 32) (src % 32)
  let d1 := d.setBit .irqLevel (src / 32) (src % 32) lvl
  let sense := d.irqSense src
  if sense = 0 then d1.irqPend src lvl
  else if (lvl && !was && sense != 2) || (!lvl && was && sense != 1) then d1.irqPend src true
  else d1

/-- A source asserted for an instant. DEDUCED (log 18). -/
def Dev.irqPulse (d : Dev) (src : Nat) : Dev := (d.irqLevel src true).irqLevel src false

/-- Bring the source of an event register to its level. -/
def Dev.refreshEvent (d : Dev) (r : Reg) (k : Nat) : Dev :=
  match eventSource r k with
  | none => d
  | some src => d.irqLevel src (d.eventLevel r k)

/-- Set an event bit; its interrupt source is asserted (IRQ_SOURCE_ASSERT, R438). DEDUCED (log 18). -/
def Dev.event (d : Dev) (r : Reg) (k i : Nat) : Dev := (d.setBit r k i true).refreshEvent r k

/-! ### Pins that several blocks request (R68) -/

/-- A block requests STOP_REQ_N. -/
def Dev.stopReq (d : Dev) (u : PinUser) : Dev :=
  if u ∈ d.pos.stopReq then d else { d with pos := { d.pos with stopReq := d.pos.stopReq ++ [u] } }

/-- A block releases STOP_REQ_N. -/
def Dev.stopFree (d : Dev) (u : PinUser) : Dev :=
  { d with pos := { d.pos with stopReq := d.pos.stopReq.filter fun x => x != u } }

/-- A block requests SPEED_REQ_N. -/
def Dev.speedReq (d : Dev) (u : PinUser) : Dev :=
  if u ∈ d.pos.speedReq then d else { d with pos := { d.pos with speedReq := d.pos.speedReq ++ [u] } }

/-- A block releases SPEED_REQ_N. -/
def Dev.speedFree (d : Dev) (u : PinUser) : Dev :=
  { d with pos := { d.pos with speedReq := d.pos.speedReq.filter fun x => x != u } }

end Sys2Proof.Machine
end

