-- ==== Sys2Proof/Machine/CueOps.lean ====
section
/-! DEFINITION. Cue sequences: what waits, what is in TRANSIT (R435 to R437). -/

namespace Sys2Proof.Machine

/-- The generation of the sequence that holds an object in TRANSIT, if one does. -/
def Dev.transitOf (d : Dev) (o : ObjClass × Nat) : Option Nat :=
  (d.mgt.running.find? fun r => r.2.kind.objects.contains o).map fun r => r.2.generation

/-- An object is in TRANSIT. -/
def Dev.inTransit (d : Dev) (c : ObjClass) (i : Nat) : Bool := (d.transitOf (c, i)).isSome

/-- A sequence can start: its objects are not in TRANSIT. -/
def Dev.cueStartable (d : Dev) (k : CueKind) : Bool := k.objects.all fun o => (d.transitOf o).isNone

/-- Set or clear TEN[s].STATE.TRANSIT for the slots of a sequence (R436). -/
def Dev.cueMark (d : Dev) (k : CueKind) (b : Bool) : Dev :=
  k.objects.foldl (fun d o => match o.1 with
    | .slot => d.setBit .tenState o.2 28 b
    | _ => d) d

/-- Bring CUE_SEQ[k] to the running sequences in their places, then the waiting ones (Table 17.10). -/
def Dev.cueRefresh (d : Dev) : Dev :=
  let free := (List.range 8).filter fun k => (Tab.find d.mgt.running k).isNone
  let d1 := d.each (List.range 8) fun d k =>
    match Tab.find d.mgt.running k with
    | some r => d.put .cueSeq k (2 ^ 31 + (if r.abort then 2 ^ 29 else 0) + r.kind.type <<< 16 + r.generation)
    | none => d.put .cueSeq k 0
  (List.range (min free.length d.mgt.waiting.length)).foldl (fun d i =>
    match d.mgt.waiting[i]? with
    | some (k, g) => d.put .cueSeq (free.getD i 0) (2 ^ 30 + k.type <<< 16 + g)
    | none => d) d1

/-- A sequence is asked for: it takes the next generation and waits (R435). -/
def Dev.cueRequest (d : Dev) (k : CueKind) : Dev :=
  let g := (d.mgt.lastGeneration + 1) % 65536
  { d with mgt := { d.mgt with waiting := d.mgt.waiting ++ [(k, g)], lastGeneration := g } }.cueRefresh

end Sys2Proof.Machine
end

