-- ==== Sys2Proof/Machine/MirrorOps.lean ====
section
/-! DEFINITION. Roles of the pair and the sending of mirror records (R314, R321, R322). -/

namespace Sys2Proof.Machine

/-- ROLE (Table 12.1): 0 SOLO, 1 ACTIVE, 2 SYNC, 3 STANDBY, 4 LEAVING, 5 OFF. -/
def Dev.role (d : Dev) : Nat := d.fld .ptnStatus 0 29 3

/-- A controller in SYNC or STANDBY. -/
def Dev.isStandby (d : Dev) : Bool := d.role == 2 || d.role == 3

/-- The partner's role by its last daily (Table 12.5). -/
def Dev.partnerRole (d : Dev) : Option Nat := d.ptn.partner.map fun w => bits (w.getD 0 0) 29 3

/-- The partner is FIT by its last daily. -/
def Dev.partnerFit (d : Dev) : Bool :=
  d.bit .ptnStatus 0 26 && (d.ptn.partner.map fun w => bits (w.getD 0 0) 28 1 == 1).getD false

/-- Some link of the mirror port is live (R320). -/
def Dev.mirrorLive (d : Dev) : Bool := d.fld .ptnStatus 0 16 8 != 0

/-- Completions and blocks wait for the partner's ACK (R322). -/
def Dev.mirroring (d : Dev) : Bool :=
  d.role == 1 && d.mirrorLive && (d.partnerRole == some 2 || d.partnerRole == some 3)

/-- A compressor unit is out of service (R132). -/
def Dev.unitFault (d : Dev) (u : Nat) : Bool := d.bit .cdcUnitStatus u 31

/-- A unit in service for mirror records (0: units 24 to 27), or for checkpoints and the Breath image (1: units 28 to 31, and
24 to 27 with none of them left) (Table 5.4). DESIGN CHOICE (log 108): the lowest. -/
def Dev.groupUnit (d : Dev) (g : Nat) : Option Nat :=
  (if g = 0 then [24, 25, 26, 27] else [28, 29, 30, 31, 24, 25, 26, 27]).find? fun u => !d.unitFault u

/-- The block that a mirror record takes in its unit, flushed per record; reel blocks are mirrored as they were received
(R133). The bytes of a record are not given, so whether the block is stored is a free value. DESIGN CHOICE (log 108). -/
def Dev.mirrorBlock (d : Dev) (r : MirrorRec) : Dev :=
  match r, d.groupUnit 0 with
  | .block _ _ _ _ _ _ _, _ => d
  | _, none => d
  | _, some u =>
    let d1 := d.count .cdcUnitBlocks u
    (if d1.free 1 = 1 then d1.count .cdcUnitStored u else d1).drawn

/-- Send a record to the partner; each takes the next MSEQ (R321). With no live link, or no timebase (R467), nothing can
leave. DEDUCED (log 52). -/
def Dev.mirrorSend (d : Dev) (r : MirrorRec) : Dev :=
  if d.mirrorLive && !d.sys.noTime then
    (({ d with ptn := { d.ptn with txSeq := (d.ptn.txSeq + 1) % 2 ^ 32 } }).mirrorBlock r).send (.mirror d.ptn.txSeq r)
  else d

/-- What an ACTIVE controller mirrors (R322). -/
def Dev.mirror (d : Dev) (r : MirrorRec) : Dev := if d.role = 1 then d.mirrorSend r else d

/-- ACT of the slate of a fire (R181, R314, R329, R330). -/
def Dev.actAt (d : Dev) (fire : Nat) : Bool :=
  decide (d.ptn.actFrom ≤ fire) && (d.ptn.actUntil.map fun u => decide (fire < u)).getD true

/-- Bring FIT to the role and the causes (R327). -/
def Dev.noteFit (d : Dev) : Dev := d.setBit .ptnStatus 0 28 (d.role == 3 && d.fld .ptnStatus 0 0 16 == 0)

/-- Set or clear an UNFIT cause (Table 12.6). -/
def Dev.setUnfit (d : Dev) (cause : Nat) (b : Bool) : Dev := (d.setBit .ptnStatus 0 cause b).noteFit

/-- MSEQ a is at or before MSEQ b. -/
def mseqDone (a b : Nat) : Bool := !newer32 a b

end Sys2Proof.Machine
end

