-- ==== Sys2Proof/Machine/RingOps.lean ====
section
/-! DEFINITION. Rings, completions, events, units and transport sessions: the operations that the commands of the chapters
"Tenants, Rings and Isolation" and "Host Ports and Network Time" share. -/

namespace Sys2Proof.Machine

/-! ### Contexts -/

/-- The context of a slot. -/
def Dev.ctx (d : Dev) (s : Nat) : Ctx := Tab.get d.ten.ctx s Ctx.reset

/-- Set the context of a slot. -/
def Dev.setCtx (d : Dev) (s : Nat) (c : Ctx) : Dev := { d with ten := { d.ten with ctx := Tab.set d.ten.ctx s c } }

/-- STATE of a slot (Table 10.1): 0 FREE, 1 ACTIVE, 2 DRAINING, 3 ZEROING, 4 RETIRED. -/
def Dev.slotState (d : Dev) (s : Nat) : Nat := d.fld .tenState s 29 3

/-- The handle of the last context of a slot (R265), also while its HANDLE register reads 0. -/
def Dev.ctxHandle (d : Dev) (s : Nat) : Nat := (d.ctx s).generation <<< 12 + s

/-- BIND and VF of a slot (Table 10.10). -/
def Dev.slotBind (d : Dev) (s : Nat) : Nat := d.fld .tenState s 24 2
def Dev.slotVf (d : Dev) (s : Nat) : Nat := d.fld .tenState s 18 6

/-- The slot an ACTIVE handle names, if it names one (R265). -/
def Dev.handleSlot (d : Dev) (h : Nat) : Option Nat :=
  let s := bits h 0 12
  if d.slotState s = 1 ∧ d.get .tenHandle s = h then some s else none

/-- Depths of the rings of a slot (R271). DESIGN CHOICE (log 31). -/
def Dev.sqDepth (d : Dev) (s : Nat) : Nat := 2 ^ (if s = 0 then d.ten.ownerLog2 else d.fld .tenState s 6 5)
def Dev.cqDepth (d : Dev) (s : Nat) : Nat := 2 ^ (if s = 0 then d.ten.ownerLog2 else d.fld .tenState s 11 5)

/-- Entries from a head up to a tail of a ring (R30). -/
def ringCount (depth tail head : Nat) : Nat :=
  (bits tail 16 1 * depth + bits tail 0 16 + 2 * depth - (bits head 16 1 * depth + bits head 0 16)) % (2 * depth)

/-- A ring index moved on by n entries: the wrap bit toggles past the last entry (R30). -/
def ringAdvance (depth idx n : Nat) : Nat :=
  let p := bits idx 0 16 + n
  if depth ≤ p then (p - depth) % 65536 + 65536 * (1 - bits idx 16 1) else p + 65536 * bits idx 16 1

/-- The function that performs the DMA of a slot: the PF for slot 0. -/
def Dev.slotFn (d : Dev) (s : Nat) : Nat := if s = 0 then 0 else d.slotVf s

/-- A slot whose DMA goes over PCIe: slot 0 and VF bindings. -/
def Dev.onPcie (d : Dev) (s : Nat) : Bool := s == 0 || d.slotBind s == 1

/-- Host memory can be written for a slot now (R301, R304). -/
def Dev.dmaOk (d : Dev) (s : Nat) : Bool := d.onPcie s && d.hst.linkUp && !d.inD3 (d.slotFn s)

/-- CQ_HOST of a slot. -/
def Dev.cqHost (d : Dev) (s : Nat) : Bool := d.bit .tenState s 26

/-- Completions of a slot can be written now. -/
def Dev.cqReady (d : Dev) (s : Nat) : Bool :=
  d.bit .tenState s 1 && !(d.ctx s).stopped && (!d.cqHost s || d.dmaOk s)

/-! ### The transport -/

/-- The session of a slot. -/
def Dev.sess (d : Dev) (s : Nat) : Sess := Tab.get d.hst.sess s Sess.empty

/-- Set the session of a slot. -/
def Dev.setSess (d : Dev) (s : Nat) (x : Sess) : Dev := { d with hst := { d.hst with sess := Tab.set d.hst.sess s x } }

/-- A session is bound (XPT_SESSION). -/
def Dev.sessBound (d : Dev) (s : Nat) : Bool := d.bit .xptSession s 31

/-- Transport version and port of a session (XPT_SESSION). -/
def Dev.sessVersion (d : Dev) (s : Nat) : Nat := d.fld .xptSession s 28 3
def Dev.sessPort (d : Dev) (s : Nat) : Nat := d.fld .xptSession s 16 5

/-- SEQ arithmetic of a transport version: 32 bits in version 3, 16 in version 2. -/
def seqMod (version : Nat) : Nat := if version = 3 then 2 ^ 32 else 2 ^ 16

/-- SACK of a session (Table 11.3). -/
def Sess.sack (x : Sess) (version : Nat) : Nat :=
  if version = 3 then
    ((List.range 32).filter fun i => x.held.any fun h => h.1 == (x.rxNext + 1 + i) % 2 ^ 32).foldl
      (fun a i => a + 2 ^ i) 0
  else 0

/-- Put one datagram on a port: header, payload and tag (R292, R293). The IV counter moves on. Nothing leaves on a port whose
link is down (Table 11.8). -/
def Dev.xptEmitAt (d : Dev) (s port v rxNext sack type seq : Nat) (payload : List Byte) : Dev :=
  let c := d.ctx s
  let handle := d.ctxHandle s
  let iv : List Byte := 0x81 :: leBytes handle 4 ++ leBytes c.ivXpt 7
  let head := leBytes (v <<< 28 + type <<< 24 + payload.length) 4 ++ leBytes handle 4 ++ leBytes seq 4 ++
    leBytes rxNext 4 ++ leBytes sack 4 ++ iv
  let tag := (aesGcmSeal (c.key.getD []) iv (head ++ payload) []).2
  let d1 := d.setCtx s { c with ivXpt := (c.ivXpt + 1) % 2 ^ 56 }
  if d.fld .epStatus port 28 4 = 0 then d1 else d1.send (.datagram s port (head ++ payload ++ leBytes tag.toNat 16))

/-- Put one datagram of a session on its port; the ACK it carries answers what arrived (R295, R297). DEDUCED (log 113).
-/
def Dev.xptEmit (d : Dev) (s type seq : Nat) (payload : List Byte) : Dev :=
  let x := d.sess s
  let v := d.sessVersion s
  (d.setSess s { x with ackDue := false }).xptEmitAt s (d.sessPort s) v x.rxNext (x.sack v) type seq payload

/-- Send a datagram that takes a SEQ; with 64 unacknowledged ones it waits (R297). -/
def Dev.xptSend (d : Dev) (s type : Nat) (payload : List Byte) : Dev :=
  if !d.sessBound s then d
  else
    let x := d.sess s
    if 64 ≤ x.unacked.length then d.setSess s { x with queue := x.queue ++ [(type, payload)] }
    else
      let d1 := d.setSess s { x with txSeq := (x.txSeq + 1) % seqMod (d.sessVersion s), unacked := x.unacked ++
        [{ seq := x.txSeq, type := type, payload := payload, resends := 0, sacked := false }] }
      d1.xptEmit s type x.txSeq payload

/-- Send the completion entries that wait for a CQE datagram (R298). -/
def Dev.xptFlushCqe (d : Dev) (s : Nat) : Dev :=
  let x := d.sess s
  match x.cqWait with
  | [] => d
  | (pos, _) :: _ =>
    if d.sessBound s then
      (d.setSess s { x with cqWait := [] }).xptSend s 6
        (leBytes pos 4 ++ x.cqWait.flatMap fun e => e.2.flatMap fun w => leBytes w 4)
    else d

/-- A completion entry for an Ethernet-bound context (R298). -/
def Dev.xptCqe (d : Dev) (s pos : Nat) (words : List Nat) : Dev :=
  let x := d.sess s
  let d1 := d.setSess s { x with cqWait := x.cqWait ++ [(pos, words)] }
  if x.coalCount ≤ x.cqWait.length + 1 then d1.xptFlushCqe s else d1

/-! ### Completions and events (R273, Table 10.4) -/

/-- Write one completion entry at CQ_TAIL. -/
def Dev.writeCqe (d : Dev) (s w0 w1 : Nat) (body : List Nat) : Dev :=
  let c := d.ctx s
  let tail := d.get .tenCqTail s
  let phase := 1 - bits tail 16 1
  let words := (w0 + (if c.lost then 2 ^ 23 else 0) + phase <<< 21) :: w1 :: (List.range 6).map fun i => body.getD i 0
  let d1 := (d.setCtx s { c with lost := false }).put .tenCqTail s (ringAdvance (d.cqDepth s) tail 1)
  let d2 := if d.cqHost s then
      d1.send (.hostWrite s (d.get .tenCqHostBase s + 32 * bits tail 0 16) (words.flatMap fun w => leBytes w 4))
    else
      let c1 := d1.ctx s
      d1.setCtx s { c1 with cqWords := Tab.set c1.cqWords (bits tail 0 16) words }
  if s = 0 then d2.vecEvent 0 0
  else if d.slotBind s = 1 then d2.vecEvent (d.slotVf s) 0
  else if d.slotBind s = 2 then d2.xptCqe s tail words
  else d2

/-- The last status code posted (TEN LAST_ERR). -/
def Dev.noteStatus (d : Dev) (s status : Nat) : Dev := if status = 0 then d else d.put .tenLastErr s status

/-- Post the finished completions at the front of a slot's taken entries, in submission order. -/
def Dev.postDone : Nat → Dev → Nat → Dev
  | 0, d, _ => d
  | n + 1, d, s =>
    match (d.ctx s).taken with
    | [] => d
    | t :: ts =>
      match t.done with
      | none => d
      | some (status, body) =>
        if t.wait = none && d.cqReady s && decide (ringCount (d.cqDepth s) (d.get .tenCqTail s) (d.get .tenCqHead s) < d.cqDepth s) then
          let d1 := (d.setCtx s { d.ctx s with taken := ts }).noteStatus s status
          Dev.postDone n (d1.writeCqe s (0x01000000 + t.tag) (status <<< 16 + t.opcode <<< 8) body) s
        else d

/-- Mark the first unfinished entry of a tag and opcode as finished; one that was not taken is added. -/
def finishTaken (tag opcode : Nat) (wait : Option Nat) (r : Nat × List Nat) : List Taken → List Taken
  | [] => [{ tag := tag, opcode := opcode, words := [], wait := wait, done := some r }]
  | t :: ts =>
    if t.tag = tag ∧ t.opcode = opcode ∧ t.done = none then { t with wait := wait, done := some r } :: ts
    else t :: finishTaken tag opcode wait r ts

/-- Place of the first unfinished entry of a tag and opcode, and its words. -/
def takenPlace (tag opcode : Nat) : List Taken → Nat × List Nat
  | [] => (0, [])
  | t :: ts =>
    if t.tag = tag ∧ t.opcode = opcode ∧ t.done = none then (0, t.words)
    else let r := takenPlace tag opcode ts; (r.1 + 1, r.2)

/-- Complete a submission entry: its completion is posted once those before it are (R273), and, where the partner mirrors
this controller, once the partner has acknowledged the CTX record of its effect (R322). -/
def Dev.complete (d : Dev) (s tag opcode status : Nat) (body : List Nat) : Dev :=
  let place := takenPlace tag opcode (d.ctx s).taken
  let pos := ringAdvance (d.cqDepth s) (d.get .tenCqTail s) place.1
  let wait := if d.mirroring then some d.ptn.txSeq else none
  let d1 := d.mirror (.ctx (.effect s place.2 status body pos))
  let c := d1.ctx s
  let ts := finishTaken tag opcode wait (status, body) c.taken
  Dev.postDone ts.length (d1.setCtx s { c with taken := ts }) s

/-- The registers of a context's page that a CTX record carries. -/
def ctxPageRegs : List Reg :=
  [.tenState, .tenHandle, .tenSqTail, .tenSqHead, .tenCqHead, .tenCqTail, .tenCqHostBase, .tenDramQuota, .tenDramUsed,
   .tenRegions, .tenShare]

/-- Mirror a context as it now stands (R322). -/
def Dev.mirrorCtx (d : Dev) (s : Nat) : Dev :=
  let c := d.ctx s
  d.mirror (.ctx (.page s (ctxPageRegs.map fun r => (r, d.rd r s)) c.generation c.wrapped c.drops c.energy (c.ivCount, c.ivXpt)))

/-- The partner has acknowledged every record up to an MSEQ: completions that waited for them may be posted (R322).
DEDUCED (log 74). -/
def Dev.releaseWaits (d : Dev) (ok : Nat → Bool) : Dev :=
  let slots := (d.ten.ctx.filter fun t => t.2.taken.any fun x => x.wait.isSome).map fun t => t.1
  d.each slots fun d s =>
    let c := d.ctx s
    let ts := c.taken.map fun t => match t.wait with
      | some m => if ok m then { t with wait := none } else t
      | none => t
    Dev.postDone ts.length (d.setCtx s { c with taken := ts }) s

/-- Entries of a completion ring that are free and not reserved (R273). -/
def Dev.cqFree (d : Dev) (s : Nat) : Nat :=
  d.cqDepth s - ringCount (d.cqDepth s) (d.get .tenCqTail s) (d.get .tenCqHead s) - (d.ctx s).taken.length

/-- Post the entries of one event whole, MORE on all but the last, or drop it whole (R273). -/
def Dev.postEvent (d : Dev) (s kind : Nat) (es : List (Nat × List Nat)) : Dev :=
  if d.slotState s = 1 ∨ d.slotState s = 2 then
    if d.cqReady s ∧ es.length ≤ d.cqFree s then
      (List.range es.length).foldl (fun d i =>
        let e := es.getD i (0, [])
        d.writeCqe s (kind <<< 24 + (if i + 1 < es.length then 2 ^ 22 else 0)) e.1 e.2) d
    else (d.count .tenEvDrop s).setCtx s { (d.ctx s) with lost := true }
  else d

/-- Post a context event (KIND 0x14): code, handle and fire index (Table 10.5). -/
def Dev.ctxEvent (d : Dev) (s : Nat) (e : ECode) (low handle fire : Nat) : Dev :=
  (d.postEvent s 0x14 [(e.code.toNat <<< 16 + low, [handle, fire % 2 ^ 32, fire >>> 32])]).noteStatus s e.code.toNat

/-- A restored ring that could not be written receives its E_CTX_RESTORED once it can (R285). DESIGN CHOICE (log 112). -/
def Dev.tellDue (d : Dev) (s : Nat) : Dev :=
  match (d.ctx s).tell with
  | none => d
  | some fire =>
    if d.cqReady s then
      (d.setCtx s { d.ctx s with tell := none }).ctxEvent s .ctxRestored 0 (d.get .tenHandle s) fire
    else d

/-! ### Units (R278, R284) -/

/-- Units of 64 KiB that hold a number of bytes. -/
def unitsOf (bytes : Nat) : Nat := ceilDiv bytes 65536

/-- Units of slot 0, or of the other slots, that are being zeroed. -/
def Dev.zeroingUnits (d : Dev) (owner : Bool) : Nat :=
  ((d.ten.zeroing.filter fun j => (j.slot == 0) == owner).map fun j => j.units).sum

/-- Free zeroed units that a slot can take: the pool, or for slot 0 the owner partition (R278, R284, R287). -/
def Dev.freeUnits (d : Dev) (s : Nat) : Nat :=
  if s = 0 then d.ten.ownerUnits - d.get .tenDramUsed 0 - d.zeroingUnits true else d.get .tenPoolFree 0

/-- Runs of units of the owner partition, or of the pool, that are tagged or being zeroed, by their first unit. -/
def Dev.unitRuns (d : Dev) (owner : Bool) : List (Nat × Nat) :=
  (((d.ten.spans.filter fun x => (x.slot == 0) == owner).map fun x => (x.first, x.len)) ++
    (d.ten.zeroing.filter fun j => (j.slot == 0) == owner).flatMap fun j => j.runs).mergeSort fun a b => decide (a.1 ≤ b.1)

/-- The lowest n units from one on that lie in none of some runs, as runs. -/
def lowestRuns : List (Nat × Nat) → Nat → Nat → List (Nat × Nat)
  | [], k, n => if n = 0 then [] else [(k, n)]
  | r :: rs, k, n =>
    if n = 0 then []
    else if k < r.1 then
      let m := min n (r.1 - k)
      (k, m) :: lowestRuns rs (max k (r.1 + r.2)) (n - m)
    else lowestRuns rs (max k (r.1 + r.2)) n

/-- Tag the lowest free units with a context (R278). DESIGN CHOICE (log 112). -/
def Dev.tagUnits (d : Dev) (s n : Nat) (use : UnitUse) : Dev :=
  let new := (lowestRuns (d.unitRuns (s == 0)) 0 n).map fun r =>
    ({ first := r.1, len := r.2, slot := s, generation := (d.ctx s).generation, use := use } : Span)
  { d with ten := { d.ten with spans := d.ten.spans ++ new } }

/-- Take units for a slot. -/
def Dev.takeUnits (d : Dev) (s n : Nat) (use : UnitUse) : Dev :=
  let d1 := (d.put .tenDramUsed s (d.get .tenDramUsed s + n)).tagUnits s n use
  if s = 0 then d1 else d1.put .tenPoolFree 0 (d.get .tenPoolFree 0 - n)

/-- Units of a slot that are given up are zeroed before they return to the pool (R284). They leave the usage of the context
whose tag they carry: the one in the slot, or a parked one (R269). -/
def Dev.dropUnits (d : Dev) (s n : Nat) (use : UnitUse) : Dev :=
  let mine := fun (x : Span) => x.slot == s && x.use == use
  let gone := d.ten.spans.filter mine
  let g := ((gone.head?).map fun x => x.generation).getD (d.ctx s).generation
  let unpark := fun (r : ParkRec) =>
    if Tab.get r.page .tenHandle 0 = g <<< 12 + s then
      { r with page := Tab.set r.page .tenDramUsed (Tab.get r.page .tenDramUsed 0 - n) }
    else r
  let parks := d.ten.parks.map fun p => (p.1, unpark p.2)
  let parked := d.ten.parks.any fun p => Tab.get p.2.page .tenHandle 0 == g <<< 12 + s
  let d1 := if parked then { d with ten := { d.ten with parks := parks } }
    else d.put .tenDramUsed s (d.get .tenDramUsed s - n)
  let job : ZeroJob := { slot := s, generation := g, units := n, runs := gone.map fun x => (x.first, x.len),
                         closesSlot := false }
  { d1 with ten := { d1.ten with spans := d1.ten.spans.filter fun x => !mine x, zeroing := d1.ten.zeroing ++ [job] } }

/-- The units of an area of a context carry the tag of the context that its slot holds (R286). -/
def Dev.tagOk (d : Dev) (s : Nat) (use : UnitUse) : Bool :=
  (d.ten.spans.filter fun x => x.use == use).all fun x => x.slot == s && x.generation == (d.ctx s).generation

/-- An isolation check fails: the access is refused (R286). DEDUCED (log 12). -/
def Dev.accessErr (d : Dev) (place : Nat) : Dev :=
  ((d.count .tenAccessErr 0).event .tenEvent 0 3).raise .tenAccess place

/-- A doorbell write is invalid (R272). -/
def Dev.doorbellErr (d : Dev) (s : Nat) : Dev :=
  ((d.count .tenDbErr s).event .tenEvent 0 0).raise .ringDoorbell s

/-- A write of SQ_TAIL (R272). -/
def Dev.sqDoorbell (d : Dev) (s v : Nat) : Dev :=
  let n := d.sqDepth s
  if n ≤ bits v 0 16 ∨ n < ringCount n v (d.get .tenSqHead s) then d.doorbellErr s
  else d.put .tenSqTail s (bits v 0 17)

/-- A write of CQ_HEAD (R272): freed entries take finished completions. -/
def Dev.cqDoorbell (d : Dev) (s v : Nat) : Dev :=
  let n := d.cqDepth s
  let tail := d.get .tenCqTail s
  if n ≤ bits v 0 16 ∨ ringCount n tail (d.get .tenCqHead s) < ringCount n tail v then d.doorbellErr s
  else
    let d1 := d.put .tenCqHead s (bits v 0 17)
    Dev.postDone (d1.ctx s).taken.length d1 s

/-- Stop the rings of a slot: SQ_EN and CQ_EN clear (R297, R301). -/
def Dev.stopRings (d : Dev) (s : Nat) : Dev := (d.setBit .tenState s 0 false).setBit .tenState s 1 false

end Sys2Proof.Machine
end

