-- ==== Sys2Proof/Machine/LaneOps.lean ====
section
/-! DEFINITION. Serial lanes as their ports use them: groups, states, training, sleep and the down mark (R385 to R405). -/

namespace Sys2Proof.Machine

/-- The port of a lane (Table 15.1); a cascade link is numbered 4 p + i with p = 0 for CU. -/
inductive LaneGroup where
  | head (n : Nat)
  | camera (c : Nat)
  | ethernet (p : Nat)
  | pcie
  | mirror (i : Nat)
  | cascade (l : Nat)
  deriving DecidableEq, Repr

/-- The group of a lane (Table 15.1). -/
def laneGroup (l : Nat) : LaneGroup :=
  if l < 768 then .head (l / 4) else if l < 864 then .camera ((l - 768) / 4) else if l < 944 then .ethernet ((l - 864) / 4)
  else if l < 960 then .pcie else if l < 992 then .mirror ((l - 960) / 4) else .cascade ((l - 992) / 4)

/-- First lane and number of lanes of a port. -/
def LaneGroup.span : LaneGroup → Nat × Nat
  | .head n => (4 * n, 4)
  | .camera c => (768 + 4 * c, 4)
  | .ethernet p => (864 + 4 * p, 4)
  | .pcie => (944, 16)
  | .mirror i => (960 + 4 * i, 4)
  | .cascade l => (992 + 4 * l, 4)

/-- Lanes of a port, ascending. -/
def LaneGroup.lanes (g : LaneGroup) : List Nat := (List.range g.span.2).map fun i => g.span.1 + i

/-- Native lanes are those of the head, camera, mirror and cascade groups (R385). -/
def LaneGroup.native : LaneGroup → Bool
  | .ethernet _ => false
  | .pcie => false
  | _ => true

/-- Clusters on REFA or REFB (Table 15.1). -/
def refClusters : List Nat := List.range 54 ++ [60, 61, 62, 63]

/-- Lanes of a cluster. -/
def clusterLanes (c : Nat) : List Nat := (List.range 16).map fun i => 16 * c + i

/-- A lane's state beyond its registers. -/
def Dev.lane (d : Dev) (l : Nat) : Lane := Tab.get d.lne.lane l Lane.reset

/-- Set it. -/
def Dev.setLane (d : Dev) (l : Nat) (x : Lane) : Dev := { d with lne := { d.lne with lane := Tab.set d.lne.lane l x } }

/-- STATE of a lane (Table 15.7): 0 OFF, 1 DEEP, 2 DETECT, 3 CDR, 4 CTLE, 5 BLOCK, 6 DFE, 7 QUALIFY, 8 ALIGN, 9 UP,
10 TEST. -/
def Dev.laneSt (d : Dev) (l : Nat) : Nat := d.fld .lneStatus l 28 4

/-- A lane is marked down (R402). -/
def Dev.laneMarked (d : Dev) (l : Nat) : Bool := d.bit .lneStatus l 25

/-- LANE_EN of a lane (Table 15.5). -/
def Dev.laneEnabled (d : Dev) (l : Nat) : Bool := d.cfg .laneEn l == 1

/-- Set STATE: a lane that is neither UP nor in TEST has no sleeping receiver. -/
def Dev.setLaneSt (d : Dev) (l st : Nat) : Dev :=
  let d1 := d.setFld .lneStatus l 28 4 st
  if st = 9 ∨ st = 10 then d1 else d1.setBit .lneStatus l 26 false

/-- A lane becomes good or ceases to be; GOOD of a head port shows it (Table 7.15). -/
def Dev.setGood (d : Dev) (l : Nat) (b : Bool) : Dev :=
  let d1 := d.setLane l { d.lane l with good := b }
  if l < 768 then d1.setBit .linkStatus (l / 4) (16 + l % 4) b else d1

/-- Good lanes of a port, ascending. -/
def Dev.goodOf (d : Dev) (g : LaneGroup) : List Nat := g.lanes.filter fun l => (d.lane l).good

/-- LNE_GLB_DOWN counts the marked lanes. -/
def Dev.noteDown (d : Dev) : Dev := d.put .lneGlbDown 0 ((List.range 1024).filter d.laneMarked).length

/-- The down mark of a lane goes (R402). -/
def Dev.unmark (d : Dev) (l : Nat) : Dev :=
  if d.laneMarked l then
    let d1 := d.setBit .lneStatus l 25 false
    d1.put .lneGlbDown 0 (d1.get .lneGlbDown 0 - 1)
  else d

/-- A lane's group is powered and its cluster has a reference. -/
def Dev.lanePowered (d : Dev) (l : Nat) : Bool :=
  let kept := match laneGroup l with
    | .ethernet _ => true
    | .pcie => true
    | .mirror _ => true
    | _ => false
  (d.lne.shed == 0 || (d.lne.shed == 1 && kept)) && !d.lne.noRef.contains (l / 16)

/-- A lane rests: DEEP where it is enabled and powered, OFF otherwise (R398); a lane in TEST stays there.
DEDUCED (log 73). -/
def Dev.laneDeep (d : Dev) (l : Nat) : Dev :=
  if d.laneSt l = 10 then d
  else ((d.setLaneSt l (if d.laneEnabled l && d.lanePowered l then 1 else 0)).setBit .lneStatus l 0 false)

/-- The lanes of a port rest and wait for signal (Table 15.2 step 1). -/
def Dev.lanesRest (d : Dev) (g : LaneGroup) : Dev := d.each g.lanes fun d l => ((d.laneDeep l).setGood l false)

/-- A port passes through DOWN: its lanes rest and their down marks go (R402). -/
def Dev.lanesDown (d : Dev) (g : LaneGroup) : Dev := (d.lanesRest g).each g.lanes Dev.unmark

/-- The lanes of a port go OFF (R389, R398). -/
def Dev.lanesOff (d : Dev) (g : LaneGroup) : Dev :=
  d.each g.lanes fun d l => ((((d.setLaneSt l 0).setBit .lneStatus l 0 false).setGood l false).unmark l)

/-- Lanes go through bring-up from stage 2 at a rate in kbit/s (R392). DEDUCED (log 73). -/
def Dev.trainLanes (d : Dev) (ls : List Nat) (kbps : Nat) : Dev :=
  d.each (ls.filter fun l => d.laneSt l != 10) fun d l =>
    ((d.setLane l { d.lane l with fails := 0, start := 0 }).setLaneSt l 2).setBit .lneStatus l 0 false |>.put .lneRateKbps l kbps

/-- Lanes are retrained: RETRAINS and EVENT.RETRAIN. -/
def Dev.noteRetrain (d : Dev) (ls : List Nat) : Dev :=
  d.each ls fun d l => (d.count .lneRetrains l).event .lneEvent l 1

/-- Rate of bring-up, 12.5 Gbit/s, and of a head or camera version, in kbit/s (Table 15.1). -/
def bringUpRate : Nat := 12500000
def fullRate : Nat := 32000000

/-- Lanes of a link: mirror link i is i, cascade link l is 8 + l. -/
def linkGroup (k : Nat) : LaneGroup := if k < 8 then .mirror k else .cascade (k - 8)

/-- The first exchange on a mirror or cascade link is done: its lanes go through bring-up at 32 Gbit/s and W = 4. -/
def Dev.capLink (d : Dev) (k : Nat) : Dev :=
  ({ d with lne := { d.lne with capped := d.lne.capped ++ [k] } }).trainLanes (d.goodOf (linkGroup k)) fullRate

/-- A link's first exchange has to be made again. -/
def Dev.uncap (d : Dev) (k : Nat) : Dev := { d with lne := { d.lne with capped := d.lne.capped.filter fun x => x != k } }

/-- Every lane of a list is UP. -/
def Dev.lanesUp (d : Dev) (ls : List Nat) : Bool := !ls.isEmpty && ls.all fun l => d.laneSt l == 9

end Sys2Proof.Machine
end

