-- ==== Sys2Proof/Machine/Transmit.lean ====
section
/-! DEFINITION. Transmitters of the native links: the word stream, slots and the blocks that carry them (R175 to R179). -/

namespace Sys2Proof.Machine

/-- The transmitter of a link, by its first lane over 4. -/
def Dev.tx (d : Dev) (q : Nat) : Tx := Tab.get d.lne.tx q Tx.reset

/-- Set it. -/
def Dev.setTx (d : Dev) (q : Nat) (x : Tx) : Dev := { d with lne := { d.lne with tx := Tab.set d.lne.tx q x } }

/-- A link starts to send at a width and rate in bit/s, nothing waiting. DESIGN CHOICE (log 103). -/
def Dev.txStart (d : Dev) (q w rate : Nat) : Dev :=
  d.setTx q { Tx.reset with start := d.now, width := w, ps := 264 * 10 ^ 12 / rate }

/-- The transmitter stands at a later block position, having sent IDLE words. -/
def Tx.skipTo (x : Tx) (k : Nat) : Tx :=
  { x with block := k, scrambler := (List.range 4).map fun l => scramblerAt l x.block (x.scrambler.getD l 0) k }

/-- A block with the errors injected into it: both HC bits of its header, or a payload bit, its last (R400).
DEDUCED (log 76). -/
def injected (b : LinkBlock) (kinds : List Bool) : LinkBlock :=
  kinds.foldl (fun b k => if k then { b with words := b.words.dropLast ++ [(b.words.getLast?.getD 0) ^^^ 1] }
    else { b with header := b.header ^^^ 3 }) b

/-- The blocks of one block position leave, with the slot word due in them, if any. -/
def Dev.txBlock (d : Dev) (q : Nat) : Dev :=
  let x := d.tx q
  let slot := (x.slots.find? fun s => s.1 == x.block).map Prod.snd
  let r := blocksOf x.block x.width slot x.queue
  let s := (List.range x.width).map fun l => (r.1.getD l ⟨0, []⟩).scrambled l x.block (x.scrambler.getD l 0)
  let kinds := fun l => (x.inject.filter fun j => j.1 == x.block && j.2.1 == l).map fun j => j.2.2
  let sent := (List.range x.width).map fun l => injected ((s.map Prod.fst).getD l ⟨0, []⟩) (kinds l)
  (d.send (.blocks q x.block sent)).setTx q
    { x with block := x.block + 1, queue := r.2, slots := x.slots.filter fun s => decide (x.block < s.1),
             inject := x.inject.filter fun j => decide (x.block < j.1),
             scrambler := (List.range 4).map fun l => ((s[l]?).map Prod.snd).getD (x.scrambler.getD l 0) }

/-- The next block position that carries more than IDLE words. -/
def Tx.nextBusy (x : Tx) : Option Nat := if x.queue.isEmpty then leastOf (x.slots.map Prod.fst ++ x.inject.map Prod.fst)
  else some x.block

/-- Blocks that carry more than IDLE words leave, up to a block position. -/
def Dev.txBusy (q k : Nat) : Nat → Dev → Dev
  | 0, d => d
  | n + 1, d =>
    match (d.tx q).nextBusy with
    | none => d
    | some b => if k ≤ b then d else Dev.txBusy q k n ((d.setTx q ((d.tx q).skipTo b)).txBlock q)

/-- Every block before a block position has left. -/
def Dev.txTo (d : Dev) (q k : Nat) : Dev :=
  let x := d.tx q
  let d1 := Dev.txBusy q k (x.queue.length + x.slots.length + x.inject.length + 1) d
  if (d1.tx q).block < k then d1.setTx q ((d1.tx q).skipTo k) else d1

/-- The first block position that has not left at an instant. -/
def Tx.posAt (x : Tx) (t : Nat) : Nat := ceilDiv (t - x.start) x.ps

/-- Words of a message join the stream behind what waits (R178, R185); a slot promised in a block holds that block back. -/
def Dev.txMessage (d : Dev) (q bound : Nat) (ws : List Nat) : Dev :=
  let x := d.tx q
  let d1 := d.txTo q (min bound (x.posAt d.now))
  let y := d1.tx q
  d1.setTx q { y with queue := y.queue ++ (List.range ws.length).map fun i => (ws.getD i 0, i == 0) }

/-- An error goes into the next block of a logical lane (R400). -/
def Dev.txInject (d : Dev) (q lane : Nat) (payload : Bool) : Dev :=
  let d1 := d.txTo q ((d.tx q).posAt d.now)
  let x := d1.tx q
  d1.setTx q { x with inject := x.inject ++ [(x.block, lane, payload)] }

/-- A slot word takes its slot. -/
def Dev.txSlot (d : Dev) (q : Nat) (s : Nat × Nat) (v : Nat) : Dev :=
  let x := d.tx q
  d.setTx q { x with slots := x.slots ++ [(s.1, s.2, v)] }

/-- Departure of a slot's word in ps (R179). -/
def Tx.slotAt (x : Tx) (s : Nat × Nat) : Nat := x.start + slotTime x.ps s.1 s.2

/-- The slots of a link still open now, from about an instant on: their blocks have not begun, and carry no other slot word.
DESIGN CHOICE (log 103). -/
def Tx.slotsAbout (x : Tx) (used : List Nat) (now t : Nat) : List (Nat × Nat) :=
  let k := (t - x.start) / x.ps
  (slotsFrom (k - 2) (6 + used.length)).filter fun s => decide (max x.block (x.posAt now) ≤ s.1) && !used.contains s.1

/-- The first open slot at or after an instant. -/
def Tx.slotFrom (x : Tx) (used : List Nat) (now t : Nat) : Nat × Nat :=
  (((x.slotsAbout used now (max now t)).find? fun s => decide (t ≤ x.slotAt s))).getD (x.posAt (max now t) + 1, 2)

/-- The open slot at or after an instant whose departure is nearest to another, the earlier of two (R76). -/
def Tx.slotNear (x : Tx) (used : List Nat) (now lo t : Nat) : Nat × Nat :=
  let low := max now lo
  let c := (x.slotsAbout used now (max low t)).filter fun s => decide (lo ≤ x.slotAt s)
  (nearestSlot x.ps (t - x.start) c).getD (x.slotFrom used now lo)

end Sys2Proof.Machine
end

