-- ==== Sys2Proof/Machine/CasOps.lean ====
section
/-! DEFINITION. The loop log and the sending of cascade messages (R256, R258, R259), which many blocks use. -/

namespace Sys2Proof.Machine

/-- Once per second at most: an instant of the last time, and now. -/
def dueAgain (now : Nat) (last : Option Nat) : Bool := (last.map fun t => decide (t + 1000000000000 ≤ now)).getD true

/-! ### The loop log (R256) -/

/-- The loop runs: EN is 1 and the controller drives the bar (R240). -/
def Dev.loopRuns (d : Dev) : Bool := d.bit .qlCtrl 0 0 && d.role ≤ 1

/-- Write bytes into the DRAM outside the reels. -/
def Dev.dramWrite (d : Dev) (a : Nat) (bs : List Byte) : Dev := { d with dram := Mem.writeBytes d.dram a bs }

/-- One entry of the loop log (Table 9.2), or a drop where the log is full (R256). DEDUCED (log 122). -/
def Dev.qlLog (d : Dev) (kind port fluid nozzle frame fire : Nat) : Dev :=
  let depth := 2 ^ d.fld .qlLogCtrl 0 0 5
  let head := d.get .qlLogHead 0
  if depth ≤ ringCount depth head (d.get .qlLogTail 0) then
    let d1 := (d.count .qlLogDrop 0).event .qlEvent 0 3
    if dueAgain d.now d.ql.lastFull then { d1 with ql := { d1.ql with lastFull := some d.now } }.raise .qlLogFull 0 else d1
  else
    let w0 := kind <<< 28 + (port % 256) <<< 20 + (fluid % 16) <<< 16 + nozzle % 16384
    (d.dramWrite (d.get .qlLogBase 0 + 16 * bits head 0 16) (leBytes w0 4 ++ leBytes frame 4 ++ leBytes (fire % 2 ^ 48) 8)).put
      .qlLogHead 0 (ringAdvance depth head 1)

/-! ### Cascade messages (R258, R259) -/

/-- Live links of a cascade port, ascending (QL_STATUS.CAS_LINKS). -/
def Dev.casLive (d : Dev) (p : Nat) : List Nat := (List.range 4).filter fun i => d.bit .qlStatus 0 (16 + 4 * p + i)

/-- A cascade message is dropped (R259). DEDUCED (log 51). -/
def Dev.casDrop (d : Dev) : Dev :=
  let d1 := ((d.count .qlCasDrop 0).event .qlEvent 0 5).qlLog 0xa 0xff 0 0 0 0
  if dueAgain d.now d.ql.lastDrop then { d1 with ql := { d1.ql with lastDrop := some d.now } }.raise .qlCasDrop 0 else d1

/-- Send a message on a cascade link, whole, in the framing of the head links (R185, R258). -/
def Dev.casEmit (d : Dev) (l type : Nat) (body : List Nat) : Dev :=
  let seq := Tab.get d.ql.casSeq l 0
  let d1 : Dev := { d with ql := { d.ql with casSeq := Tab.set d.ql.casSeq l ((seq + 1) % 256) } }
  (d1.send (.cascade l type body)).txMessage (248 + l) ((d1.tx (248 + l)).posAt d1.now) (messageWords type seq body)

/-- Put a message on a cascade port; its link follows destination and head port (R258). -/
def Dev.casPut (d : Dev) (p dest port type : Nat) (body : List Nat) : Dev :=
  let ls := d.casLive p
  d.casEmit (4 * p + ls.getD ((dest * 16 + port) % ls.length) 0) type body

/-- W1 of a message: origin, destination and hops (Table 9.3). -/
def casHead (origin dest hops : Nat) : Nat := origin <<< 24 + dest <<< 16 + hops <<< 8

/-- Send a message of this bar: to every bar on both ports, or to one bar on the side where it lies. With no live link to go
out on it is dropped; a bar with neither cascade port enabled makes none. DEDUCED (log 35). -/
def Dev.casSend (d : Dev) (dest port type : Nat) (body : List Nat) : Dev :=
  let w1 := casHead (d.cfg .barId 0) dest (d.cfg .casHops 0)
  let sides := (List.range 2).filter fun p => !(d.casLive p).isEmpty
  if d.cfg .casEn 0 = 0 ∧ d.cfg .casEn 1 = 0 then d
  else if dest = 255 then
    if sides.isEmpty then d.casDrop else d.each sides fun d p => d.casPut p dest port type (w1 :: body)
  else
    let side := (Tab.find d.ql.bars dest).map fun b => b.side
    match side with
    | some p => if (d.casLive p).isEmpty then d.casDrop else d.casPut p dest port type (w1 :: body)
    | none => d.casDrop

/-- A fluid is fed over the cascade (CAS_FEED). -/
def Dev.casFeeds (d : Dev) (f : Nat) : Bool := bitOf (d.cfg .casFeed 0) f

/-- The two words of a signed line. -/
def lineWords (l : Int) : List Nat := [unsignedOf 64 l % 2 ^ 32, unsignedOf 64 l / 2 ^ 32]

end Sys2Proof.Machine
end

