-- ==== Sys2Proof/Machine/ReelOps.lean ====
section
/-! DEFINITION. Regions, strips, the lock line, spoil records and the reading of row lines: the operations of the chapter
"Reels, Strips and Composition" (R88 to R114). -/

namespace Sys2Proof.Machine

/-! ### Geometry of reels (R88, R91, R93, R96, R279) -/

/-- Phase columns of a fluid's window (R21). -/
def Image.phaseCols (g : Image) (f : Nat) : Nat := g.get .fluidColumns f / 4

/-- Bands of a fluid's window, none for a fluid that is absent. -/
def Image.bandsOf (g : Image) (f : Nat) : Nat :=
  if g.get .fluidPresent f = 0 then 0 else ceilDiv (g.phaseCols f) (g.get .bandW 0)

/-- Symbols a line of a strip has: the last band holds fewer (R93). -/
def Image.bandSyms (g : Image) (f b : Nat) : Nat := min (g.get .bandW 0) (g.phaseCols f - b * g.get .bandW 0)

/-- Fluids of a mask, ascending. -/
def maskFluids (mask : Nat) : List Nat := (List.range 16).filter fun f => bitOf mask f

/-- NB of a region. -/
def Region.nb (r : Region) : Nat := r.bEnd - r.bStart

/-- Strips of a region (R93). -/
def Region.stripCount (r : Region) : Nat := 4 * (maskFluids r.mask).length * r.nb

/-- Fluid, phase and band of a strip (R93). -/
def Region.stripParts (r : Region) (s : Nat) : Nat × Nat × Nat :=
  ((maskFluids r.mask).getD (s / r.nb / 4) 0, s / r.nb % 4, r.bStart + s % r.nb)

/-- The strip of a fluid, phase and band (R93). -/
def Region.stripOf (r : Region) (f p b : Nat) : Nat :=
  (4 * ((maskFluids r.mask).filter fun x => x < f).length + p) * r.nb + (b - r.bStart)

/-- The region covers a fluid and band. -/
def Region.covers (r : Region) (f b : Nat) : Bool := bitOf r.mask f && decide (r.bStart ≤ b) && decide (b < r.bEnd)

/-- Lines at opening, and lines now. -/
def Region.lenOpen (r : Region) : Nat := (r.l1Open - r.l0).toNat
def Region.len (r : Region) : Nat := (r.l1 - r.l0).toNat

/-- The offsets in print order that a region still covers: a reverse region that closed has lost its first ones (R92). -/
def Region.firstOfs (r : Region) : Nat := if r.reverse then (r.l1Open - r.l1).toNat else 0
def Region.endOfs (r : Region) : Nat := if r.reverse then r.lenOpen else r.len

/-- The raster line at an offset in print order (Table 4.3). -/
def Region.lineAt (r : Region) (ofs : Nat) : Int := if r.reverse then r.l1Open - 1 - ofs else r.l0 + ofs

/-- The offset in print order of a raster line. -/
def Region.ofsOf (r : Region) (l : Int) : Int := if r.reverse then r.l1Open - 1 - l else l - r.l0

/-- The lowest raster line of a run of offsets. -/
def Region.lowLine (r : Region) (ofs n : Nat) : Int := if r.reverse then r.lineAt (ofs + n - 1) else r.lineAt ofs

/-- Units of a reel and of its tag store (R278, R279). -/
def reelUnits (strips depth heapUnits64k : Nat) : Nat :=
  unitsOf (64 * ceilDiv (64 + 16 * strips * (1 + depth)) 64 + 65536 * heapUnits64k) + unitsOf (32 * strips * depth)

/-- The strip of a region, empty until a block or the lock line reaches it. -/
def Region.strip (r : Region) (s : Nat) : Strip := Tab.get r.strips s Strip.empty

/-- The region with a number, if there is one. -/
def Dev.region? (d : Dev) (num : Nat) : Option Region := d.cmp.regions.find? fun r => r.number == num

/-- Replace a region. -/
def Dev.setRegion (d : Dev) (r : Region) : Dev :=
  { d with cmp := { d.cmp with regions := d.cmp.regions.map fun x => if x.number = r.number then r else x } }

/-- Open regions, bar-wide. -/
def Dev.openRegions (d : Dev) : Nat := (d.cmp.regions.filter fun r => !r.closed).length

/-- Scanning mode is active (R70). -/
def Dev.scanning (d : Dev) : Bool := d.cfg .posMode 0 == 1

/-- The lock line. -/
def Dev.lockLine (d : Dev) : Int := d.getInt .cmpLockLine 0

/-- LEAD in lines: 0 selects 2,000 mm at the active pitch, to the nearest line (R98, Table 4.8). DEDUCED (log 27). -/
def Dev.leadLines (d : Dev) : Nat :=
  if d.get .cmpLeadLines 0 = 0 then (2000000000 * d.cfg .lpi 0 + 12700000) / 25400000 else d.get .cmpLeadLines 0

/-! ### Spoil records (R107, R276) -/

/-- The body of a spoil event (Table 10.5). -/
def SpoilRec.words (r : SpoilRec) : Nat × List Nat :=
  (r.cause.code <<< 28 + r.fluid <<< 24 + r.phase <<< 22 + r.band <<< 10,
   [r.region, 0, unsignedOf 64 r.first % 2 ^ 32, unsignedOf 64 r.first / 2 ^ 32, r.lines, 0])

/-- Issue a spoil record: to inspection, to the owning tenant's completion ring, and, for a fluid fed over the cascade,
to the camera bars (R107, R260). DEDUCED (log 35). -/
def Dev.issueSpoil (d : Dev) (r : SpoilRec) : Dev :=
  let d1 := (d.count .cmpSpoilCount 0).postEvent r.slot 0x10 [r.words]
  let d2 := { d1 with cmp := { d1.cmp with issued := d1.cmp.issued ++ [r] } }
  if d2.casFeeds r.fluid then
    d2.casSend 255 0 0x55 ([r.phase <<< 30 + r.band <<< 18 + r.fluid <<< 14 + r.cause.code] ++ lineWords r.first ++ [r.lines])
  else d2

/-- The same strip and cause. -/
def SpoilRec.same (a b : SpoilRec) : Bool :=
  a.slot == b.slot && a.region == b.region && a.strip == b.strip && a.cause == b.cause

/-- Merge lines into a record whose lines they touch or overlap. -/
def SpoilRec.merge (a b : SpoilRec) : Option SpoilRec :=
  let lo := min a.first b.first
  let hi := max (a.first + a.lines) (b.first + b.lines)
  if a.same b ∧ hi - lo ≤ (a.lines : Int) + b.lines then
    some { a with first := lo, lines := (hi - lo).toNat, touched := true }
  else none

/-- Add lines to the list of open records: adjacent lines are merged into one record (R107). -/
def addSpoil (r : SpoilRec) : List SpoilRec → List SpoilRec
  | [] => [r]
  | a :: t => match a.merge r with
    | some m => m :: t
    | none => a :: addSpoil r t

/-- Lines of a strip are spoiled. -/
def Dev.spoil (d : Dev) (r : Region) (s ofs n : Nat) (cause : SpoilCause) : Dev :=
  if n = 0 then d
  else
    let p := r.stripParts s
    let x : SpoilRec := { slot := r.slot, region := r.number, strip := s, fluid := p.1, phase := p.2.1, band := p.2.2,
                          first := r.lowLine ofs n, lines := n, pass := r.pass, cause := cause, touched := true }
    { d with cmp := { d.cmp with openSpoils := addSpoil x d.cmp.openSpoils } }

/-- Issue every open record. -/
def Dev.issueSpoils (d : Dev) : Dev :=
  d.cmp.openSpoils.foldl Dev.issueSpoil { d with cmp := { d.cmp with openSpoils := [] } }

/-- Issue the records that no lines have been added to since the last time. -/
def Dev.flushSpoils (d : Dev) : Dev :=
  let done := d.cmp.openSpoils.filter fun r => !r.touched
  let kept := (d.cmp.openSpoils.filter fun r => r.touched).map fun r => { r with touched := false }
  done.foldl Dev.issueSpoil { d with cmp := { d.cmp with openSpoils := kept } }

/-! ### Storage of blocks (R96, R100) -/

/-- Units of 64 bytes between the oldest used place of a heap and its next place. -/
def Region.heapSpan (r : Region) : Nat := (r.heapUsed.map fun u => u.2.1).sum

/-- Take a place in the circular heap. -/
def Region.heapTake (r : Region) (n : Nat) : Option (Nat × Region) :=
  if r.heapUnits * 1024 < r.heapSpan + n then none
  else some (r.heapNext, { r with heapNext := (r.heapNext + n) % (r.heapUnits * 1024),
                                  heapUsed := r.heapUsed ++ [(r.heapNext, n, false)] })

/-- Return a place of the heap: space comes back in the order it was taken. -/
def Region.heapFree (r : Region) (off : Nat) : Region :=
  { r with heapUsed := (r.heapUsed.map fun u => if u.1 = off then (u.1, u.2.1, true) else u).dropWhile fun u => u.2.2 }

/-- Blocks submitted and not yet RESIDENT: in the ingest check, or waiting for the partner (R95, R322). -/
def Dev.waitingJobs (d : Dev) : List IngestJob := d.cmp.ingest ++ d.ptn.blocks.map fun b => b.2

/-- A region whose storage is no longer needed: closed, its lines all locked, and no block left (R92). -/
def Dev.regionDone (d : Dev) (r : Region) : Bool :=
  r.closed && r.strips.all (fun s => s.2.entries.all fun e => e.state == .missing || e.state == .free) &&
    (r.len == 0 || (if d.scanning then decide (r.pass < d.get .cmpPassNext 0)
                    else d.cmp.lockSet && decide (r.l1 ≤ d.lockLine + 1))) &&
    d.waitingJobs.all fun j => j.region != r.number

/-- Regions that are done leave the map; their units are zeroed (R92, R284). -/
def Dev.sweepRegions (d : Dev) : Dev :=
  let gone := d.cmp.regions.filter d.regionDone
  let d1 := { d with cmp := { d.cmp with regions := d.cmp.regions.filter fun r => !d.regionDone r } }
  gone.foldl (fun d r => d.dropUnits r.slot r.units (.region r.number)) d1

/-- A context has a block that is locked and not retired. -/
def Dev.hasLocked (d : Dev) (s : Nat) : Bool :=
  d.cmp.regions.any fun r => r.slot == s && r.strips.any fun t => t.2.entries.any fun e =>
    e.isLocked && (e.state == .locked || e.state == .poisoned)

/-- A draining context whose last locked block has retired: its key is erased, its slot goes to ZEROING (R284). -/
def Dev.drainDone (d : Dev) (s : Nat) : Dev :=
  if d.slotState s = 2 ∧ d.hasLocked s = false then
    let c := d.ctx s
    let left := d.get .tenDramUsed s
    let d1 := (d.setCtx s { c with key := none, sqWords := [], cqWords := [], stagingUnits := 0 }).setFld
      .tenState s 29 3 3
    let d2 := { d1 with cmp := { d1.cmp with regions := d1.cmp.regions.filter fun r => r.slot != s } }
    let d3 := (d2.put .tenDramUsed s 0).put .xptSession s 0
    let mine := d3.ten.spans.filter fun x => x.slot == s
    let job : ZeroJob := { slot := s, generation := c.generation, units := left,
                           runs := mine.map fun x => (x.first, x.len), closesSlot := true }
    ({ d3 with ten := { d3.ten with zeroing := d3.ten.zeroing ++ [job],
                                    spans := d3.ten.spans.filter fun x => x.slot != s } }).mirrorCtx s
  else d

/-- What follows when blocks or regions have gone. -/
def Dev.afterRetire (d : Dev) : Dev :=
  let slots := ((d.cmp.regions.map fun r => r.slot) ++
    ((List.range 4096).filter fun s => d.slotState s == 2)).eraseDups
  (d.sweepRegions).each slots Dev.drainDone

/-! ### Locking (R98 to R102) -/

/-- MISSING entries for a run of lines, up to 256 lines each (R97). -/
def missingRun : Nat → Nat → Nat → List BlockEntry
  | 0, _, _ => []
  | n + 1, a, k =>
    if k = 0 then []
    else { first := a, lines := min k 256, state := .missing, isLocked := true, heapOff := 0, heapLen := 0,
           sealedBytes := { cipher := [], iv := [], tag := 0, aad := [] } } :: missingRun n (a + 256) (k - 256)

/-- The entries that cover lines a to b that have no block. -/
def gapRun (a b : Nat) : List BlockEntry := missingRun (b - a) a (b - a)

/-- An entry as the lock line reaches its first line (R98, R100). -/
def BlockEntry.lock (e : BlockEntry) : BlockEntry :=
  if e.isLocked then e
  else match e.state with
    | .resident => { e with state := .locked, isLocked := true }
    | _ => { e with isLocked := true }

/-- Lock a strip's entries whose first line is before upTo, and cover the lines before upTo that have no block; the
cursor is the first line not yet decided. -/
def lockWalk (upTo : Nat) : List BlockEntry → Nat → List BlockEntry
  | [], cur => gapRun cur upTo
  | e :: es, cur =>
    if e.first < upTo then gapRun cur e.first ++ e.lock :: lockWalk upTo es (max cur (e.first + e.lines))
    else gapRun cur upTo ++ e :: es

/-- Join MISSING entries that follow each other while they stay within 256 lines. -/
def joinMissing (es : List BlockEntry) : List BlockEntry :=
  (es.foldl (fun acc e =>
    match acc with
    | a :: t =>
      if a.state = .missing ∧ e.state = .missing ∧ a.first + a.lines = e.first ∧ a.lines + e.lines ≤ 256 then
        { a with lines := a.lines + e.lines } :: t
      else e :: acc
    | [] => [e]) []).reverse

/-- MISSING entries as an index of some entries holds them: those for which it has no room are left out, and their lines read
blank as lines with no entry do. DESIGN CHOICE (log 107). -/
def trimMissing (depth : Nat) (es : List BlockEntry) : List BlockEntry :=
  let used := (es.filter fun e => e.state != .missing && e.state != .free).length
  (es.foldl (fun (a : List BlockEntry × Nat) e =>
    if e.state = .missing then (if a.2 = 0 then a else (e :: a.1, a.2 - 1)) else (e :: a.1, a.2)) ([], depth - used)).1.reverse

/-- Runs of lines before upTo with no block, from the cursor on. -/
def gapList (upTo : Nat) : List BlockEntry → Nat → List (Nat × Nat)
  | [], cur => if cur < upTo then [(cur, upTo - cur)] else []
  | e :: es, cur =>
    if e.first < upTo then
      (if cur < e.first then [(cur, e.first - cur)] else []) ++ gapList upTo es (max cur (e.first + e.lines))
    else if cur < upTo then [(cur, upTo - cur)] else []

/-- Lines of a strip decided once the lock line has reached upTo lines: a block locks whole. -/
def decidedTo (upTo cur : Nat) (es : List BlockEntry) : Nat :=
  es.foldl (fun c e => if e.first < upTo then max c (e.first + e.lines) else c) (max cur upTo)

/-- Lock one strip up to a number of lines: what has no block is MISSING, what is poisoned prints blank. -/
def Dev.lockStrip (d : Dev) (num s upTo : Nat) : Dev :=
  match d.region? num with
  | none => d
  | some r =>
    let t := r.strip s
    let cur := max t.lockedTo r.firstOfs
    if upTo ≤ cur then d
    else
      let gaps := gapList upTo t.entries cur
      let bad := t.entries.filter fun e => decide (e.first < upTo) && !e.isLocked && e.state == .poisoned
      let t' : Strip := { entries := trimMissing r.depth (joinMissing (lockWalk upTo t.entries cur)),
                          lockedTo := decidedTo upTo cur t.entries, head := t.head }
      let news := t'.entries.filter fun e => e.isLocked &&
        !(t.entries.any fun o => o.isLocked && o.first == e.first && o.lines == e.lines)
      let d1 := (news.foldl (fun d e => d.mirror (.lock num s e.first e.lines (e.state == .missing))) d).setRegion
        { r with strips := Tab.set r.strips s t' }
      let d2 := gaps.foldl (fun d g =>
        (((d.add32 .cmpMissingLines 0 g.2).event .cmpEvent 0 0).raise .blockMissing r.slot).spoil r s g.1 g.2 .missing) d1
      bad.foldl (fun d e => d.spoil r s e.first e.lines .poison) d2

/-- Strips of a region that hold lines: bands inside the fluid's window (R91). -/
def Dev.liveStrips (d : Dev) (r : Region) : List Nat :=
  (List.range r.stripCount).filter fun s => (r.stripParts s).2.2 < d.image.bandsOf (r.stripParts s).1

/-- Lock every strip of a region up to a number of lines. -/
def Dev.lockRegion (d : Dev) (r : Region) (upTo : Nat) : Dev :=
  d.each (d.liveStrips r) fun d s => d.lockStrip r.number s (min upTo r.endOfs)

/-- The lock line moves forward, never backward, to a line; blocks and lines it reaches lock in every region (R98). A
standby takes its lock outcomes from the mirror stream instead (R102). -/
def Dev.lockTo (d : Dev) (line : Int) : Dev :=
  if d.isStandby ∨ d.scanning ∨ (d.cmp.lockSet ∧ line ≤ d.lockLine) then d
  else
    let d1 := (d.putInt .cmpLockLine 0 line)
    let d2 := { d1 with cmp := { d1.cmp with lockSet := true } }
    let d3 := d2.cmp.regions.foldl (fun d r => if r.l0 ≤ line then d.lockRegion r (line - r.l0 + 1).toNat else d) d2
    d3.afterRetire

/-- Web mode: the lock line is the position line plus LEAD (R98). -/
def Dev.lockAhead (d : Dev) (posLine : Int) : Dev := d.lockTo (posLine + d.leadLines)

/-- Every block of every region of a pass locks; a region of the other direction locks wholly as MISSING (R99). -/
def Dev.lockPass (d : Dev) (pass : Nat) (reverse : Bool) : Dev :=
  if d.isStandby then d else (d.cmp.regions.foldl (fun d r =>
    if r.pass ≠ pass then d
    else if r.reverse = reverse then d.lockRegion r r.endOfs
    else
      let bare := { r with strips := r.strips.map fun t => (t.1, Strip.empty), heapUsed := [] }
      (d.setRegion bare).lockRegion bare bare.endOfs) d).afterRetire

/-! ### Blocks in a strip -/

/-- Put an entry in its place in print order; one of the same first line is replaced. -/
def insertEntry (e : BlockEntry) : List BlockEntry → List BlockEntry
  | [] => [e]
  | a :: t => if e.first = a.first then e :: t else if e.first < a.first then e :: a :: t else a :: insertEntry e t

/-- Change one entry of a strip. -/
def Region.updEntry (r : Region) (s first : Nat) (f : BlockEntry → BlockEntry) : Region :=
  let t := r.strip s
  { r with strips := Tab.set r.strips s { t with entries := t.entries.map fun e => if e.first = first then f e else e } }

/-- The entry that holds an offset. -/
def Strip.entryAt (t : Strip) (ofs : Nat) : Option BlockEntry :=
  t.entries.find? fun e => decide (e.first ≤ ofs) && decide (ofs < e.first + e.lines)

/-- A block becomes FREE and returns its heap space (R100). -/
def Dev.freeBlock (d : Dev) (num s first : Nat) : Dev :=
  match d.region? num with
  | none => d
  | some r =>
    match (r.strip s).entries.find? fun e => e.first == first with
    | none => d
    | some e =>
      let t := (r.updEntry s first fun e => { e with state := .free }).strip s
      let r1 := { r with strips := Tab.set r.strips s { t with
        entries := t.entries.dropWhile fun e => e.state == .free,
        head := t.head + (t.entries.takeWhile fun e => e.state == .free).length } }
      let d1 := d.setRegion (if e.state = .missing then r1 else r1.heapFree e.heapOff)
      { d1 with cmp := { d1.cmp with fetched := d1.cmp.fetched.filter fun x =>
          !(x.region == num && x.strip == s && x.first == first) } }

/-! ### Row lines (R103 to R108) -/

/-- The region that covers a fluid, band and line, in scanning mode of a pass. -/
def Dev.placeLookup (d : Dev) (f b : Nat) (l : Int) (pass : Nat) : Option Region :=
  d.cmp.regions.find? fun r => r.covers f b && decide (r.l0 ≤ l ∧ l < r.l1) && (!d.scanning || r.pass == pass)

/-- First phase column of the window of a port's rows (R104). -/
def Image.startPhase (g : Image) (n : Nat) : Int := g.getInt .headStartCol n / 4

/-- Bands that the row window of a port overlaps inside its fluid's print window (R104). -/
def Image.rowBands (g : Image) (n : Nat) : List Nat :=
  let f := g.get .headFluid n
  let bw : Int := g.get .bandW 0
  (List.range (g.bandsOf f)).filter fun b =>
    decide (bw * b < g.startPhase n + 4096 ∧ g.startPhase n < bw * (b + 1))

/-- D of a nozzle row in whole lines, and its fraction f in 1/4,096 line (R24). -/
def Image.rowD (g : Image) (n j : Nat) : Nat := g.dQ12 (g.get .headFluid n) (g.get .headSibling n) j / 4096
def Image.rowF (g : Image) (n j : Nat) : Nat := g.dQ12 (g.get .headFluid n) (g.get .headSibling n) j % 4096

/-- The decoded symbols of a block: its plaintext under the context's key, decoded for its symbol count. -/
def Dev.blockSymbols (d : Dev) (r : Region) (s : Nat) (e : BlockEntry) : List Nat :=
  let p := r.stripParts s
  match aesGcmOpen ((d.ctx r.slot).key.getD []) e.sealedBytes.iv e.sealedBytes.aad e.sealedBytes.cipher
      e.sealedBytes.tag with
  | none => []
  | some plain =>
    match decodeBlock plain (e.lines * d.image.bandSyms p.1 p.2.2) with
    | .ok x => x.symbols
    | .error _ => []

/-- One band of a row line: the levels of the band's columns, blank where no block gives them. -/
def Dev.bandLevels (d : Dev) (f p b : Nat) (l : Int) (pass : Nat) : List Nat :=
  let w := d.image.bandSyms f b
  let blank := List.replicate w 0
  match d.placeLookup f b l pass with
  | none => blank
  | some r =>
    let s := r.stripOf f p b
    let ofs := (r.ofsOf l).toNat
    match (r.strip s).entryAt ofs with
    | none => blank
    | some e =>
      if e.state = .locked && decide (ofs - e.first < e.goodLines) then ((d.blockSymbols r s e).drop ((ofs - e.first) * w)).take w else blank

/-- The 4,096 levels of a row at a raster line, in row index order (R104). -/
def Dev.rowLevels (d : Dev) (n j : Nat) (l : Int) (pass : Nat) : List Nat :=
  let g := d.image
  let f := g.get .headFluid n
  let bw := g.get .bandW 0
  let bands := (g.rowBands n).map fun b => (b, d.bandLevels f j b l pass)
  (List.range 4096).map fun (i : Nat) =>
    let c : Int := g.startPhase n + (i : Nat)
    if c < 0 ∨ (g.phaseCols f : Int) ≤ c then 0
    else (Tab.get bands (c.toNat / bw) []).getD (c.toNat % bw) 0

/-- A row's line is complete: every locked block it needs has been fetched for its head row (R105, R106). -/
def Dev.rowComplete (d : Dev) (n j : Nat) (l : Int) (pass : Nat) : Bool :=
  let g := d.image
  let f := g.get .headFluid n
  (g.rowBands n).all fun b =>
    match d.placeLookup f b l pass with
    | none => true
    | some r =>
      let s := r.stripOf f j b
      match (r.strip s).entryAt (r.ofsOf l).toNat with
      | none => true
      | some e =>
        if e.state = .locked && decide ((r.ofsOf l).toNat - e.first < e.goodLines) then
          d.cmp.fetched.any fun x => x.region == r.number && x.strip == s && x.first == e.first &&
            x.sibling == g.get .headSibling n
        else true

/-- Strips, with their regions and offsets, that a row reads at a line. -/
def Dev.rowStrips (d : Dev) (n j : Nat) (l : Int) (pass : Nat) : List (Region × Nat × Nat) :=
  let g := d.image
  let f := g.get .headFluid n
  (g.rowBands n).filterMap fun b =>
    (d.placeLookup f b l pass).map fun r => (r, r.stripOf f j b, (r.ofsOf l).toNat)

/-- The reader of a nozzle row. -/
def Dev.rowBuf (d : Dev) (n j : Nat) : RowBuf := Tab.get d.cmp.rows (4 * n + j) RowBuf.reset

/-- Set the reader of a nozzle row. -/
def Dev.setRowBuf (d : Dev) (n j : Nat) (x : RowBuf) : Dev :=
  { d with cmp := { d.cmp with rows := Tab.set d.cmp.rows (4 * n + j) x } }

/-- A row has passed the last line of a block: it took it, or it is in no firing head and the web has passed it. -/
def Dev.rowPast (d : Dev) (posLine : Int) (r : Region) (last : Int) (n j : Nat) : Bool :=
  let took := match (d.rowBuf n j).taken with
    | none => false
    | some (p, l) =>
      let past := if r.reverse then decide (l ≤ last) else decide (last ≤ l)
      if d.scanning then decide (r.pass < p) || (r.pass == p && past) else past
  took || (d.fld .linkStatus n 29 3 != 5 &&
    (if d.scanning then decide (r.pass < d.get .cmpPassCur 0) else decide (last + d.image.rowD n j < posLine)))

/-- Free the locked blocks and MISSING entries whose last line every row that reads them has passed (R100). -/
def Dev.retireBlocks (d : Dev) (posLine : Int) : Dev :=
  let g := d.image
  let dead := d.cmp.regions.flatMap fun r => r.strips.flatMap fun t =>
    let p := r.stripParts t.1
    let rows := g.usedPorts.filter fun n => g.get .headFluid n == p.1 && (g.rowBands n).contains p.2.2
    (t.2.entries.filter fun e =>
      e.isLocked && (e.state == .locked || e.state == .poisoned || e.state == .missing) &&
        rows.all fun n => d.rowPast posLine r (r.lineAt (e.first + e.lines - 1)) n p.2.1).map fun e =>
          (r.number, t.1, e.first)
  if dead.isEmpty then d else (dead.foldl (fun d x => d.freeBlock x.1 x.2.1 x.2.2) d).afterRetire

end Sys2Proof.Machine
end

