-- ==== Sys2Proof/Machine/SynOps.lean ====
section
/-! DEFINITION. Drop synthesis: where a fire prints, the sibling split, crosstalk, descriptors, energy and the health of
columns (R66, R72, R103, R135 to R160, R167). -/

namespace Sys2Proof.Machine

/-- Synthesis state of a port. -/
def Dev.syn' (d : Dev) (n : Nat) : PortSyn := Tab.get d.syn.port n PortSyn.reset

/-- Set the synthesis state of a port. -/
def Dev.setSyn (d : Dev) (n : Nat) (x : PortSyn) : Dev := { d with syn := { d.syn with port := Tab.set d.syn.port n x } }

/-- STATE of a port's link (Table 7.15): 0 DOWN, 1 TRAINING, 2 CAPS, 3 LINKED, 4 JOINING, 5 FIRING. -/
def Dev.linkState (d : Dev) (n : Nat) : Nat := d.fld .linkStatus n 29 3

/-- The port is in FIRING. -/
def Dev.portFiring (d : Dev) (n : Nat) : Bool := d.linkState n == 5

/-- POS_STATUS.FIRING. -/
def Dev.firing (d : Dev) : Bool := d.bit .posStatus 0 0

/-- FIRE_EN. -/
def Dev.fireEn (d : Dev) : Bool := d.bit .posCtrl 0 0

/-- POS_FIRE_INDEX. DEDUCED (log 19). -/
def Dev.fireIndex (d : Dev) : Nat := d.get .posFireIndex 0

/-- The engine that serves a port, if there is one. -/
def Dev.engineOf (d : Dev) (n : Nat) : Option Nat :=
  let e := d.fld .synStatus n 24 8
  if e < 200 then some e else none

/-! ### Where a fire prints (R66, R71, R72, R103) -/

/-- The position line of a fire, its direction and its pass. -/
structure FirePlace where
  line : Int
  reverse : Bool
  pass : Nat
  deriving DecidableEq, Repr

/-- Lines of a pass. -/
def Pass.len (p : Pass) : Nat := (p.hi - p.lo).toNat

/-- The place of the k-th fire of a pass. -/
def Pass.place (p : Pass) (k : Nat) : FirePlace :=
  { line := if p.reverse then p.hi - 1 - k else p.lo + k, reverse := p.reverse, pass := p.number }

/-- Where a fire prints: by the binding in web mode, by the current or the armed pass in scanning mode. -/
def Dev.firePlace (d : Dev) (f : Nat) : Option FirePlace :=
  let b := d.get .posBindFire 0
  if !d.scanning then some { line := d.getInt .posBindLine 0 + ((f : Int) - b), reverse := false, pass := 0 }
  else match d.pos.curPass with
    | none => none
    | some p =>
      if f < b then none
      else
        let done := if p.reverse then (p.hi - 1 - d.getInt .posBindLine 0).toNat else (d.getInt .posBindLine 0 - p.lo).toNat
        let k := f - b + done
        if k < p.len then some (p.place k)
        else match d.pos.armedPass with
          | none => none
          | some q => if k - p.len < q.len then some (q.place (k - p.len)) else none

/-- The raster line that a row reads at a place (R103, R72). -/
def Dev.rowLineAt (d : Dev) (n j : Nat) (p : FirePlace) : Int :=
  let x := p.line - d.image.rowD n j
  if p.reverse ∧ d.image.rowF n j ≠ 0 then x - 1 else x

/-- The raster line that a row reads for a fire. -/
def Dev.rowLine (d : Dev) (n j f : Nat) : Option Int := (d.firePlace f).map fun p => d.rowLineAt n j p

/-- The lines that a row takes at the eight fires from one on, in order, each with its pass. -/
def Dev.rowKeys (d : Dev) (n j f : Nat) : List (Nat × Int) :=
  (List.range 8).filterMap fun k => (d.firePlace (f + k)).map fun p => (p.pass, d.rowLineAt n j p)

/-- The decompressor of a row runs ahead of the line that the engine takes for a fire: at most 8 lines, 9 with those not
released, in order, up to one that is not complete (R106, R137). LINE is the next line to decode. DESIGN CHOICE (log 107).
-/
def Dev.fillRow (d : Dev) (n j f : Nat) : Dev :=
  let x := d.rowBuf n j
  let keys := d.rowKeys n j f
  let ready := if x.seeking then [] else keys.takeWhile fun k => x.lines.contains k || d.rowComplete n j k.2 k.1
  let lines := ready.take (min 8 (9 - x.held.length))
  let d1 := (d.setRowBuf n j { x with lines := lines }).setFld .rpStatus (4 * n + j) 8 4 lines.length
  match keys[lines.length]? with
  | some k => d1.putInt .rpLine (4 * n + j) k.2
  | none => match lines.getLast? with
    | some k => d1.putInt .rpLine (4 * n + j) (k.2 + (if ((d.firePlace f).map fun p => p.reverse).getD false then -1 else 1))
    | none => d1

/-- The fire whose lines a port's rows take next. -/
def Dev.nextTake (d : Dev) (n : Nat) : Nat :=
  max (d.fireIndex + 1) (((d.syn' n).lastStarted.map fun f => f + 1).getD 0)

/-- The place of a line taken for a batch is free again once the batch is complete (R137); with none named, every place. -/
def Dev.releaseRow (d : Dev) (n j : Nat) (line : Option Int) : Dev :=
  let x := d.rowBuf n j
  let held := match line with
    | none => []
    | some l => x.held.eraseIdx (x.held.findIdx fun k => k.2 == l)
  if x.held.isEmpty then d else d.setRowBuf n j { x with held := held }

/-- Every row of the heads in firing decodes as far ahead as it may. -/
def Dev.fillRows (d : Dev) : Dev :=
  d.each ((List.range 192).filter fun n => decide (4 ≤ d.linkState n)) fun d n =>
    d.each (List.range 4) fun d j => d.fillRow n j (d.nextTake n)

/-- The lines of a port's rows at a fire are spoiled. -/
def Dev.spoilPort (d : Dev) (n f : Nat) (cause : SpoilCause) : Dev :=
  match d.firePlace f with
  | none => d
  | some p => d.each (List.range 4) fun d j =>
    (d.rowStrips n j (d.rowLineAt n j p) p.pass).foldl (fun d x => d.spoil x.1 x.2.1 x.2.2 1 cause) d

/-! ### Health of columns (R138 to R145) -/

/-- HMASK of a column at a port: the mask the activation set, with every folded entry applied. -/
def PortSyn.hmaskAt (x : PortSyn) (c : Nat) : Nat := x.folds.foldl (fun m h => h.apply c m) x.hmask

/-- The window columns that a port serves. -/
def Image.portCols (g : Image) (n : Nat) : Int × Int := (g.getInt .headStartCol n, g.getInt .headStartCol n + 16383)

/-- A range of columns overlaps the columns of a port. -/
def Image.portOverlaps (g : Image) (n : Nat) (h : HealthMask) : Bool :=
  decide ((h.colLo : Int) ≤ (g.portCols n).2) && decide ((g.portCols n).1 ≤ (h.colHi : Int))

/-- Ports in the range of a health entry. -/
def Dev.healthPorts (d : Dev) (f : Nat) (h : HealthMask) : List Nat :=
  d.image.usedPorts.filter fun n => d.cfg .headFluid n == f && d.image.portOverlaps n h

/-- Entries pending at a port that are visible at a fire (R141). -/
def Dev.visiblePend (d : Dev) (n f : Nat) : List PendHealth :=
  d.syn.pend.filter fun e => e.fluid == d.cfg .headFluid n && !(e.folded.contains n) && decide (e.fireA + 16 ≤ f)

/-- A pending entry reaches a line: L_h at or below it, or, in scanning mode, a pass armed after it (R141, R143). -/
def Dev.pendReaches (d : Dev) (e : PendHealth) (l : Int) (pass : Nat) : Bool :=
  if d.scanning then decide (e.passAfter ≤ pass) else decide (e.line ≤ l)

/-- The effective mask of a column for a line (R141). -/
def Dev.effMask (d : Dev) (n f c : Nat) (l : Int) (pass : Nat) : Nat :=
  (d.visiblePend n f).foldl (fun m e => if d.pendReaches e l pass then e.mask.apply c m else m) ((d.syn' n).hmaskAt c)

/-- A nozzle is out at a fire: a visible entry clears its own sibling bit, or its column no longer counts it (R142,
R152). -/
def Dev.nozzleOut (d : Dev) (n f c m : Nat) : Bool :=
  let r := d.cfg .headSibling n
  (d.visiblePend n f).any (fun e => decide (e.mask.colLo ≤ c) && decide (c ≤ e.mask.colHi) && bitOf e.mask.clr r) ||
    !bitOf m r

/-! ### The sibling split (R138) -/

/-- SPLIT_A and SPLIT_B of a level in a split table (Table 6.10). -/
def splitA (w v : Nat) : Nat := bits w (8 * v) 4
def splitB (w v : Nat) : Nat := bits w (8 * v + 4) 4

/-- The share of sibling r at a column and line for a level, under an effective mask. -/
def splitShare (w k v c : Nat) (l : Int) (msk r : Nat) : Nat :=
  let h := (List.range k).filter fun s => bitOf msk s
  let m := h.length
  if v = 0 ∨ m = 0 ∨ !bitOf msk r then 0
  else if m = 1 then v
  else
    let x0 := (unsignedOf 32 l * 0x9E3779B1 % 2 ^ 32) ^^^ (c * 0x85EBCA77 % 2 ^ 32)
    let x := x0 ^^^ (x0 >>> 15)
    let q := x % m
    if r = h.getD q 0 then splitA w v else if r = h.getD ((q + 1) % m) 0 then splitB w v else 0

/-- What a batch takes for one row: its cells from the row's levels at a line. -/
def Dev.rowCells (d : Dev) (n j f : Nat) (l : Int) (pass : Nat) (levels : List Nat) : List NozIn :=
  let g := d.image
  let fl := g.get .headFluid n
  let w := g.get .split fl
  let k := g.get .fluidK fl
  let r := g.get .headSibling n
  (List.range 4096).map fun i =>
    let c : Int := g.getInt .headStartCol n + 4 * (i : Nat) + (j : Nat)
    if c < 0 ∨ (g.get .fluidColumns fl : Int) ≤ c then { level := 0, share := 0, out := true, inWindow := false }
    else
      let m := d.effMask n f c.toNat l pass
      let v := levels.getD i 0
      let out := d.nozzleOut n f c.toNat m
      { level := v, share := if out then 0 else splitShare w k v c.toNat l m r, out := out, inWindow := true }

/-! ### Crosstalk and descriptors (R146 to R158) -/

/-- Drop code of a share through a level map: a share of 0 gives 0 (R146). -/
def Dev.dropCode (d : Dev) (n map share : Nat) : Nat :=
  if share = 0 then 0 else d.fld .lmap (16 * n + map) (4 * share) 4

/-- Row and index step of neighbour q (R148). -/
def Dev.nbrStep (d : Dev) (n q : Nat) : Int × Int :=
  let b := d.fld .nbr n (8 * q) 8
  (signedOf 3 (bits b 5 3), signedOf 5 (bits b 0 5))

/-- W[q][a], ACT[c] and THR[t] (R150, R151). -/
def Dev.xtWeight (d : Dev) (n q a : Nat) : Int := signedOf 8 (d.fld .xtW (7 * n + q) (8 * a) 8)
def Dev.xtActivity (d : Dev) (n c : Nat) : Nat := if c = 0 then 0 else d.fld .xtAct (4 * n + c / 4) (8 * (c % 4)) 8
def Dev.xtThreshold (d : Dev) (n t : Nat) : Int :=
  signedOf 16 (d.fld .xtThr (8 * n + (t - 1) / 2) (16 * ((t - 1) % 2)) 16)

/-- The code of a nozzle of a batch, 0 for one outside the head. -/
def codeAt (codes : List Nat) (j i : Int) : Nat :=
  if j < 0 ∨ 3 < j ∨ i < 0 ∨ 4095 < i then 0 else codes.getD (4096 * j.toNat + i.toNat) 0

/-- X of a nozzle (R150): ages 0 to 3. -/
def Dev.xtSum (d : Dev) (n m : Nat) (ages : List (List Nat)) : Int :=
  ((List.range 7).map fun q =>
    let s := d.nbrStep n q
    ((List.range 4).map fun a =>
      d.xtWeight n q a * d.xtActivity n (codeAt (ages.getD a []) ((m / 4096 : Nat) + s.1) ((m % 4096 : Nat) + s.2))).sum).sum

/-- The cancel select for X (R151). -/
def Dev.cancelSelect (d : Dev) (n : Nat) (x : Int) : Nat :=
  ((List.range 15).filter fun t => decide (d.xtThreshold n (t + 1) ≤ x >>> 5)).foldl (fun _ t => t + 1) 0

/-- An entry of the per-nozzle table as read: HMASK over what NZT wrote (Table 6.3). -/
def Dev.tableEntry (d : Dev) (n m : Nat) : Nat :=
  let c : Int := d.image.getInt .headStartCol n + 4 * (m % 4096 : Nat) + (m / 4096 : Nat)
  let x := d.syn' n
  let h := if c < 0 then x.hmask else x.hmaskAt c.toNat
  setBits (Tab.get x.table m 0) 60 4 h

/-- The check nibble (R157). -/
def checkNibble (desc m f : Nat) : Nat :=
  ((List.range 7).foldl (fun a i => a ^^^ bits desc (4 * i + 4) 4) 0) ^^^ (m % 16) ^^^ (f % 16)

/-- A full descriptor (Table 6.2). -/
def Dev.descriptor (d : Dev) (n f m : Nat) (cell : NozIn) (codes : List Nat) (hist : List (List Nat)) : Nat :=
  if !cell.inWindow then checkNibble 0 m f
  else
    let e := d.tableEntry n m
    let code := codes.getD m 0
    let x := d.xtSum n m (codes :: hist)
    let da := (x * signedOf 8 (bits e 28 8)) >>> 12
    let cancel := if cell.out then 0 else d.cancelSelect n x
    let amp := clampInt (signedOf 8 (bits e 42 8) + da) (-128) 127
    let top := code <<< 28 + bits e 50 6 <<< 22 + unsignedOf 8 amp <<< 14 + bits e 36 6 <<< 8 + cancel <<< 4
    top + checkNibble top m f

/-- Drop codes of a batch. -/
def Dev.batchCodes (d : Dev) (n : Nat) (cells : List NozIn) : List Nat :=
  (List.range 16384).map fun m =>
    let cell := cells.getD m { level := 0, share := 0, out := true, inWindow := false }
    d.dropCode n (bits (Tab.get (d.syn' n).table m 0) 56 4) cell.share

/-- The 16,384 full descriptors of a batch, nozzle by nozzle. -/
def Dev.batchDesc (d : Dev) (n f : Nat) (cells : List NozIn) : List Nat :=
  let codes := d.batchCodes n cells
  (List.range 16384).map fun m =>
    d.descriptor n f m (cells.getD m { level := 0, share := 0, out := true, inWindow := false }) codes (d.syn' n).hist

/-- ROWDLY of a row in a direction (R153). -/
def Image.rowDly (g : Image) (n j : Nat) (reverse : Bool) : Nat :=
  let f := g.rowF n j
  let x : Int := if reverse then (if f = 0 then 0 else 4096 - (f : Int)) + g.getInt .bidirQ12 0 else f
  (clampInt (divRoundUp x 32) 0 127).toNat

/-- ROWDLY and ROWDLY_REV words (Table 6.14). -/
def Image.rowDlyWord (g : Image) (n : Nat) (reverse : Bool) : Nat :=
  (List.range 4).foldl (fun a j => a + g.rowDly n j reverse <<< (7 * j)) 0

/-- A nozzle lies in its fluid's print window (R14, R147). -/
def Image.inWindow (g : Image) (n m : Nat) : Bool :=
  let c : Int := g.getInt .headStartCol n + 4 * (m % 4096 : Nat) + (m / 4096 : Nat)
  decide (0 ≤ c) && decide (c < g.get .fluidColumns (g.get .headFluid n))

/-- A compact descriptor of a nozzle (R158); one outside the print window has every field 0 (R147). -/
def Dev.compactDesc (d : Dev) (n m desc : Nat) (reverse : Bool) : Nat :=
  if !d.image.inWindow n m then 0 else
  let row := if d.fld .linkStatus n 27 2 = 1 then
      d.fld (if reverse then .rowdlyRev else .rowdly) n (7 * (m / 4096)) 7 else 0
  bits desc 28 4 * 16 + min 15 ((row + bits desc 22 6 + 4) / 8)

/-- The port sends compact descriptors (LINK_STATUS.FMT). -/
def Dev.isCompact (d : Dev) (n : Nat) : Bool := d.bit .linkStatus n 23

/-- Energy of a nozzle in nJ (R167): the values of the descriptor as sent. -/
def Dev.nozzleEnergy (d : Dev) (n desc : Nat) : Nat :=
  let code := bits desc 28 4
  let cancel := if d.isCompact n then 0 else bits desc 4 4
  let amp : Int := if d.isCompact n then 0 else signedOf 8 (bits desc 14 8)
  let ew := if code = 0 then 0 else d.fld .energy (16 * n + code) 0 12
  let ec := if cancel = 0 then 0 else d.fld .energy (16 * n + cancel) 16 12
  ((((ew + ec : Nat) : Int) * (4096 + 8 * amp)) >>> 12).toNat

/-- Energy of a batch in nJ. -/
def Dev.batchEnergy (d : Dev) (n : Nat) (desc : List Nat) : Nat := (desc.map fun x => d.nozzleEnergy n x).sum

/-- The batch CRC: CRC-32C of the full descriptors, least significant byte first (R325). -/
def batchCrc (desc : List Nat) : Nat := crc32c (desc.flatMap fun x => leBytes x 4)

/-! ### Tables, pages and engines -/

/-- HPT offset of a port's synthesis page. -/
def pageAddr (n k : Nat) : Nat := Block.hpt.base + 0x1000 * n + 0x420 + 4 * k

/-- The register of a word of a port's synthesis page, its instance and whether the word is its high half. -/
def pageReg (n k : Nat) : Option (Reg × Nat × Bool) := if n < 192 ∧ k < 72 then Reg.find (pageAddr n k) else none

/-- Set a word of a port's synthesis page (R162). DEDUCED (log 109). -/
def Dev.setPage (d : Dev) (n k v : Nat) : Dev :=
  match pageReg n k with
  | none => d
  | some (r, i, high) =>
    let x := setBits (d.get r i) (if high then 32 else 0) 32 v
    d.wr r i (BitVec.ofNat 64 x &&& r.desc.rw)

/-- A word of a port's synthesis page. -/
def Dev.pageWord (d : Dev) (n k : Nat) : Nat :=
  match pageReg n k with
  | none => 0
  | some (r, i, high) => d.fld r i (if high then 32 else 0) 32

/-- The page of a port at its Reset values (R160). -/
def Dev.resetPage (d : Dev) (n : Nat) : Dev :=
  d.each (List.range 72) fun d k =>
    match pageReg n k with
    | none => d
    | some (r, i, _) => d.wr r i (r.reset i)

/-- The live value of a target of an update set. -/
def Dev.liveValue (d : Dev) (n : Nat) (t : SynTarget) : Nat :=
  match t with
  | .nozzle m => Tab.get (d.syn' n).table m 0
  | .page k => d.pageWord n k

/-- Store a value in a table or page: HMASK and reserved bits are left out (R140, Table 6.3). -/
def Dev.storeValue (d : Dev) (n : Nat) (t : SynTarget) (v : Nat) : Dev :=
  match t with
  | .nozzle m =>
    let x := d.syn' n
    d.setSyn n { x with table := Tab.set x.table m (bits v 28 32 <<< 28) }
  | .page k => d.setPage n k v

/-- Bring STAGED to the number of staged entries. -/
def Dev.noteStaged (d : Dev) (n : Nat) : Dev := d.setFld .synStatus n 0 13 (d.syn' n).staged.length

/-- Discard a port's update set. DEDUCED (log 38). -/
def Dev.dropSet (d : Dev) (n : Nat) : Dev :=
  let d1 := d.setSyn n { d.syn' n with staged := [] }
  ((d1.setBit .synStatus n 14 false).setBit .synStatus n 13 false).noteStaged n

/-- Engines of the spare pool, ascending. -/
def Dev.spares (d : Dev) : List Nat := (List.range 200).filter fun e => d.bit .embStatus e 30

/-- Bring EMB_GLB_CAP to the spare pool. -/
def Dev.noteSpares (d : Dev) : Dev := d.setFld .embGlbCap 0 16 8 d.spares.length

/-- An engine serves a port. -/
def Dev.assignEngine (d : Dev) (e n : Nat) : Dev :=
  let d1 := ((d.setBit .embStatus e 30 false).setBit .embStatus e 29 true).setFld .embStatus e 0 8 n
  (d1.setFld .synStatus n 24 8 e).noteSpares

/-- A port has no engine. -/
def Dev.noEngine (d : Dev) (n : Nat) : Dev := d.setFld .synStatus n 24 8 0xff

/-- An engine goes out of service with a CAUSE (Table 6.11). -/
def Dev.engineOut (d : Dev) (e cause : Nat) : Dev :=
  let d1 := ((d.setBit .embStatus e 31 true).setBit .embStatus e 30 false).setBit .embStatus e 29 false
  (((d1.setBit .embStatus e 28 false).setFld .embStatus e 8 4 cause).setFld .embStatus e 0 8 0xff).noteSpares

/-- The port may be written at once: its head is not in firing (R162). -/
def Dev.writesAtOnce (d : Dev) (n : Nat) : Bool := !d.firing || !d.portFiring n

/-- The crosstalk history of every port reads as code 0 (R149). -/
def Dev.clearHistory (d : Dev) : Dev :=
  { d with syn := { d.syn with port := d.syn.port.map fun t => (t.1, { t.2 with hist := [] }) } }

/-- Bring BUSY of the engine of a port to its batches (Table 6.11). -/
def Dev.noteBusy (d : Dev) (n : Nat) : Dev :=
  match d.engineOf n with
  | none => d
  | some e => d.setBit .embStatus e 28 ((d.syn' n).runs.any fun r => !r.restart)

/-- Batches of a port computed for an older binding are void; its update set stays armed (R165). -/
def Dev.clearPort (d : Dev) (n : Nat) : Dev :=
  let d1 := (d.setSyn n { d.syn' n with runs := [], done := [], lastStarted := none }).noteBusy n
  d1.each (List.range 4) fun d j => d.releaseRow n j none

/-- Batches computed for an older binding are void on every port. -/
def Dev.clearBatches (d : Dev) : Dev := d.each (d.syn.port.map fun t => t.1) Dev.clearPort

/-! ### Folding and accepting health entries (R144, R145) -/

/-- A port folds a health mask: it becomes part of HMASK. -/
def Dev.foldMask (d : Dev) (n : Nat) (h : HealthMask) : Dev :=
  let x := d.syn' n
  d.setSyn n { x with folds := x.folds ++ [h] }

/-- Number of pending entries, in EMB_HC_STATUS. -/
def Dev.notePend (d : Dev) : Dev := d.setFld .embHcStatus 0 16 16 d.syn.pend.length

/-- Entries that every port in their range has folded are freed (R145). -/
def Dev.freePend (d : Dev) : Dev :=
  { d with syn := { d.syn with pend := d.syn.pend.filter fun e =>
      !((d.healthPorts e.fluid e.mask).all fun n => e.folded.contains n) } }.notePend

/-- Every pending entry folds at once on every port, in order of acceptance (R145); a dead column is then dead for every
line. DEDUCED (log 34). -/
def Dev.foldAll (d : Dev) : Dev :=
  let d1 := d.syn.pend.foldl (fun d e => d.each ((d.healthPorts e.fluid e.mask).filter fun n => !e.folded.contains n)
    fun d n => d.foldMask n e.mask) d
  let dead : List DeadRun := (d1.ql.dead.filter fun x => x.ends.isNone).map fun x =>
    { x with start := none, pass := 0, seen := none }
  { d1 with syn := { d1.syn with pend := [] }, ql := { d1.ql with dead := dead } }.notePend

/-- Entries of a port that it has not folded, oldest first. -/
def Dev.unfolded (d : Dev) (n : Nat) : List PendHealth :=
  d.syn.pend.filter fun e => (d.healthPorts e.fluid e.mask).contains n && !e.folded.contains n

/-- All nozzle rows of a port have taken a line, or stand in a pass that the entry reaches (R145). -/
def Dev.rowsTook (d : Dev) (n : Nat) (e : PendHealth) : Bool :=
  if d.scanning then
    (d.pos.curPass.map fun p => decide (e.passAfter ≤ p.number)).getD false
  else (List.range 4).all fun j => ((d.rowBuf n j).taken.map fun t => decide (e.line ≤ t.2)).getD false

end Sys2Proof.Machine
end

