-- ==== Sys2Proof/Machine/InsFrame.lean ====
section
/-! DEFINITION. Inspection: the store, the expected raster, what a frame accumulates, and the record, summaries and uploads
of a closed frame (R222 to R236). -/

namespace Sys2Proof.Machine

/-- A pipeline. -/
def Dev.pipe (d : Dev) (c : Nat) : Pipe := Tab.get d.ins.pipe c Pipe.reset

/-- Set a pipeline. -/
def Dev.setPipe (d : Dev) (c : Nat) (x : Pipe) : Dev := { d with ins := { d.ins with pipe := Tab.set d.ins.pipe c x } }

/-- STATE of a camera port (Table 8.10): 0 DOWN, 1 TRAINING, 2 CAPS, 3 LINKED. -/
def Dev.camState (d : Dev) (c : Nat) : Nat := d.fld .insStatus c 29 3

/-- RUN of a pipeline. -/
def Dev.pipeRuns (d : Dev) (c : Nat) : Bool := d.bit .insCtrl c 0

/-! ### Planes (R220, R238, R260) -/

/-- The other bar that prints the fluid of a plane, if it is remote. -/
def Dev.planeBar (d : Dev) (c q : Nat) : Option Nat :=
  let b := d.cfg .planeBar (4 * c + q)
  if b = 255 ∨ b = d.cfg .barId 0 then none else some b

/-- What SHAPE says of a fluid of another bar. -/
def Dev.remoteFluid (d : Dev) (b f : Nat) : RemoteFluid :=
  Tab.get (Tab.get d.ql.bars b RemoteBar.empty).fluids f { k := 0, width := 0, split := [], ports := [] }

/-- A plane is enabled: it names a fluid, which, printed here, is present (R238). -/
def Dev.planeOn (d : Dev) (c q : Nat) : Bool :=
  let f := d.cfg .planeFluid (4 * c + q)
  decide (f < 16) && ((d.planeBar c q).isSome || d.cfg .fluidPresent f != 0)

/-- Enabled planes of a pipeline, ascending. -/
def Dev.planes (d : Dev) (c : Nat) : List Nat := (List.range 4).filter fun q => d.planeOn c q

/-- k, window width and SPLIT of a fluid, here or on another bar. -/
def Dev.barK (d : Dev) (bar : Option Nat) (f : Nat) : Nat :=
  match bar with
  | none => d.cfg .fluidK f
  | some b => (d.remoteFluid b f).k
def Dev.barWidth (d : Dev) (bar : Option Nat) (f : Nat) : Nat :=
  match bar with
  | none => d.cfg .fluidColumns f
  | some b => (d.remoteFluid b f).width
def Dev.barSplit (d : Dev) (bar : Option Nat) (f : Nat) : Nat :=
  match bar with
  | none => d.cfg .split f
  | some b => (d.remoteFluid b f).split.foldr (fun w a => w + a <<< 32) 0

/-- Ports of a fluid, here or on another bar: port, sibling and start column. -/
def Dev.barPorts (d : Dev) (bar : Option Nat) (f : Nat) : List (Nat × Nat × Int) :=
  match bar with
  | none => (d.image.usedPorts.filter fun n => d.cfg .headFluid n == f).map fun n =>
      (n, d.cfg .headSibling n, d.cfgInt .headStartCol n)
  | some b => (d.remoteFluid b f).ports.map fun p => (p.1, p.2.1, 4 * p.2.2)

/-- Pipelines that the image enables. -/
def Dev.pipesOn (d : Dev) : List Nat := (List.range 24).filter fun c => d.cfg .pipeEn c != 0

/-- Enabled pipelines with a plane on a fluid of a bar. -/
def Dev.pipesOf (d : Dev) (bar : Option Nat) (f : Nat) : List Nat :=
  d.pipesOn.filter fun c => (d.planes c).any fun q => d.cfg .planeFluid (4 * c + q) == f && d.planeBar c q == bar

/-! ### The inspection store (R222, R223) -/

/-- Bytes that a copy takes, in whole 64-byte units (R112). -/
def StoreCopy.size (x : StoreCopy) : Nat :=
  match x.body with
  | .missing => 0
  | .block b => 64 * ceilDiv b.cipher.length 64
  | .feed b => 64 * ceilDiv b.cipher.length 64

/-- Bring INS_STORE_USED to the copies held, in MB. -/
def Dev.noteStore (d : Dev) : Dev := d.put .insStoreUsed 0 (ceilDiv ((d.ins.copies.map StoreCopy.size).sum) 1000000)

/-- A pipeline has placed a line beyond the last line of a copy. -/
def StoreCopy.passed (x : StoreCopy) (scanning : Bool) (p : Option (Nat × Int)) : Bool :=
  match p with
  | none => false
  | some (pass, y) =>
    let beyond := if x.reverse then decide (y < x.first) else decide (x.first + x.lines ≤ y)
    if scanning && x.bar.isNone then decide (x.pass < pass) || (x.pass == pass && beyond) else beyond

/-- Copies and lost lines that every pipeline of their fluid has passed are retired (R223). -/
def Dev.retireCopies (d : Dev) : Dev :=
  let gone := fun (x : StoreCopy) => (d.pipesOf x.bar x.fluid).all fun c => x.passed d.scanning (d.pipe c).placed
  let asCopy := fun (x : LostCopy) =>
    ({ bar := x.bar, handle := 0, region := 0, fluid := x.fluid, phase := x.phase, band := x.band, first := x.first,
       lines := x.lines, reverse := false, pass := x.pass, body := .missing } : StoreCopy)
  { d with ins := { d.ins with copies := d.ins.copies.filter fun x => !gone x,
                               lost := d.ins.lost.filter fun x => !gone (asCopy x) } }.noteStore

/-- Put a copy into the store, or drop it where it does not fit (R223). -/
def Dev.addCopy (d : Dev) (x : StoreCopy) : Dev :=
  let used := (d.ins.copies.map StoreCopy.size).sum
  if 1000000 * d.get .insStoreSize 0 < used + x.size then
    let l : LostCopy := { bar := x.bar, fluid := x.fluid, phase := x.phase, band := x.band, first := x.first,
                          lines := x.lines, pass := x.pass }
    let d1 := { d with ins := { d.ins with lost := d.ins.lost ++ [l] } }.count .insStoreDrop 0
    let d2 := d1.each (d1.pipesOf x.bar x.fluid) fun d c => d.event .insEvent c 3
    if dueAgain d2.now d2.ins.lastStore then
      { d2 with ins := { d2.ins with lastStore := some d2.now } }.raise .insStoreFull 0
    else d2
  else { d with ins := { d.ins with copies := d.ins.copies ++ [x] } }.noteStore

/-- The tap row of a fluid: the sibling of its most downstream head row (R222). -/
def Dev.tapSibling (d : Dev) (f : Nat) : Nat :=
  ((d.image.usedPorts.filter fun n => d.cfg .headFluid n == f).map fun n => d.cfg .headSibling n).foldl
    (fun a r => if d.cfg .distNm (4 * f + a) < d.cfg .distNm (4 * f + r) then r else a)
    (((d.image.usedPorts.find? fun n => d.cfg .headFluid n == f).map fun n => d.cfg .headSibling n).getD 0)

/-- The words of a FEED message before its block (Table 9.3). -/
def feedHead (x : StoreCopy) : List Nat :=
  [x.phase <<< 30 + x.band <<< 18 + x.fluid <<< 14 + (x.lines - 1)] ++ lineWords x.first ++ [x.handle]

/-- A copy goes to the camera bars too, its block under the cascade key (R260). -/
def Dev.sendFeed (d : Dev) (x : StoreCopy) : Dev :=
  if !d.casFeeds x.fluid then d
  else
    let head := feedHead x
    match x.body with
    | .block b =>
      let aad := head.flatMap fun w => leBytes w 4
      let plain := (aesGcmOpen ((d.ctx (bits x.handle 0 12)).key.getD []) b.iv b.aad b.cipher b.tag).getD []
      let t := aesGcmSeal (Tab.get d.sec.keys 3 []) (Config.cascadeIv aad) aad plain
      let bytes := t.1 ++ leBytes t.2.toNat 16
      d.casSend 255 0 0x53 (head ++ leWords (bytes ++ List.replicate (4 * ceilDiv bytes.length 4 - bytes.length) 0))
    | _ => d.casSend 255 0 0x53 head

/-- A block, or a MISSING entry, read for the tap row of a fluid that an enabled plane names is copied (R222). -/
def Dev.storeCopy (d : Dev) (r : Region) (strip : Nat) (e : BlockEntry) (sibling : Nat) : Dev :=
  let p := r.stripParts strip
  if sibling ≠ d.tapSibling p.1 then d
  else
    let x : StoreCopy :=
      { bar := none, handle := d.ctxHandle r.slot, region := r.number, fluid := p.1, phase := p.2.1, band := p.2.2,
        first := r.lowLine e.first e.lines, lines := e.lines, reverse := r.reverse, pass := r.pass,
        body := if e.state = .missing then .missing else .block e.sealedBytes }
    let held := d.ins.copies.any fun y => y.bar.isNone && y.handle == x.handle && y.region == x.region &&
      y.fluid == x.fluid && y.phase == x.phase && y.band == x.band && y.first == x.first && y.pass == x.pass
    if held then d
    else
      let d1 := if (d.pipesOf none p.1).isEmpty then d else d.addCopy x
      d1.sendFeed x

/-! ### The expected raster (R224) -/

/-- The decoded symbols of a copy: none where its bytes cannot be opened. -/
def Dev.copySymbols (d : Dev) (x : StoreCopy) : Option (List Nat) :=
  let bw := d.cfg .bandW 0
  let w := min bw (d.barWidth x.bar x.fluid / 4 - x.band * bw)
  let opened := fun (key : List Byte) (b : Sealed) =>
    match aesGcmOpen key b.iv b.aad b.cipher b.tag with
    | none => none
    | some plain => match decodeBlock plain (x.lines * w) with
      | .ok y => some y.symbols
      | .error _ => none
  match x.body with
  | .missing => some []
  | .block b =>
    let s := bits x.handle 0 12
    if d.ctxHandle s = x.handle then (d.ctx s).key.bind fun key => opened key b else none
  | .feed b => opened (Tab.get d.sec.keys 3 []) b

/-- What is known of a column of a fluid at a raster line: the level, whether the line is store-missing, and the handle and
region of the copy that supplies it. -/
structure Expect where
  level : Nat
  miss : Bool
  owner : Option (Nat × Nat)
  deriving DecidableEq, Repr

/-- The expected level of a column at a line (R224, R225). -/
def Dev.expectAt (d : Dev) (bar : Option Nat) (f : Nat) (c l : Int) (pass : Nat) : Expect :=
  let bw := d.cfg .bandW 0
  let w := d.barWidth bar f
  if c < 0 ∨ (w : Int) ≤ c then { level := 0, miss := false, owner := none }
  else
    let p := c.toNat % 4
    let b := c.toNat / 4 / bw
    let inPass := fun (x : Nat) => !d.scanning || bar.isSome || x == pass
    let gone := d.ins.lost.any fun x => x.bar == bar && x.fluid == f && x.phase == p && x.band == b &&
      decide (x.first ≤ l ∧ l < x.first + x.lines) && inPass x.pass
    if gone then { level := 0, miss := true, owner := none }
    else match d.ins.copies.find? fun x => x.bar == bar && x.fluid == f && x.phase == p && x.band == b &&
        decide (x.first ≤ l ∧ l < x.first + x.lines) && inPass x.pass with
      | none => { level := 0, miss := false, owner := none }
      | some x =>
        let owner := if bar.isSome then none else some (x.handle, x.region)
        match d.copySymbols x with
        | none => { level := 0, miss := true, owner := owner }
        | some syms =>
          let ofs := if x.reverse then (x.first + x.lines - 1 - l).toNat else (l - x.first).toNat
          let sw := min bw (w / 4 - b * bw)
          { level := syms.getD (ofs * sw + c.toNat / 4 % bw) 0, miss := false, owner := owner }

/-- LDEN[f][v]. -/
def Dev.density (d : Dev) (f v : Nat) : Nat := bits (d.cfg .lden f) (16 * v) 16

/-- The expected density e(c, L). -/
def Dev.expected (d : Dev) (bar : Option Nat) (f : Nat) (c l : Int) (pass : Nat) : Nat :=
  d.density f (d.expectAt bar f c l pass).level

/-- E for a line at Y with fraction a (R224). -/
def mixLines (e0 e1 a : Nat) : Nat := (e0 * (4096 - a) + e1 * a + 2048) >>> 12

/-- E(c, Y). -/
def Dev.expectMix (d : Dev) (bar : Option Nat) (f : Nat) (c yi : Int) (a pass : Nat) : Nat :=
  mixLines (d.expected bar f c yi pass) (d.expected bar f c (yi + 1) pass) a

/-- A spoil record covers a column at a line (R225). -/
def Dev.spoiledAt (d : Dev) (bar : Option Nat) (f : Nat) (c l : Int) (pass : Nat) : Bool :=
  let p := (c % 4).toNat
  let b := (c / 4 / d.cfg .bandW 0).toNat
  if c < 0 ∨ (d.barWidth bar f : Int) ≤ c then false
  else match bar with
  | none => (d.cmp.issued ++ d.cmp.openSpoils).any fun r => r.fluid == f && r.phase == p && r.band == b &&
      decide (r.first ≤ l ∧ l < r.first + r.lines) && (!d.scanning || r.pass == pass)
  | some x => (Tab.get d.ql.bars x RemoteBar.empty).spoils.any fun r => r.1 == f && r.2.1 == p && r.2.2.1 == b &&
      decide (r.2.2.2.1 ≤ l ∧ l < r.2.2.2.1 + r.2.2.2.2.1)

/-- A lost range contains a line and covers a column (R225). -/
def Dev.lostAt (d : Dev) (bar : Option Nat) (f : Nat) (c l : Int) : Bool :=
  match bar with
  | none => d.ins.health.any fun e => e.1.fluid == f && decide ((e.1.mask.colLo : Int) ≤ c ∧ c ≤ e.1.mask.colHi) &&
      decide (e.2 ≤ l ∧ l < e.1.line)
  | some x => (Tab.get d.ql.bars x RemoteBar.empty).health.any fun e => e.1 == f &&
      decide ((e.2.1.colLo : Int) ≤ c ∧ c ≤ e.2.1.colHi) && decide (e.2.2.2.1 ≤ l ∧ l ≤ e.2.2.2.2)

/-- The effective mask M of a column for a line (R141, R228). -/
def Dev.maskAt (d : Dev) (bar : Option Nat) (f : Nat) (c l : Int) (pass : Nat) : Nat :=
  match bar with
  | none =>
    let base := ((d.image.usedPorts.find? fun n => d.cfg .headFluid n == f &&
      decide ((d.image.portCols n).1 ≤ c ∧ c ≤ (d.image.portCols n).2)).map fun n =>
        let x := d.syn' n
        (x.folds.take x.since).foldl (fun m h => h.apply c.toNat m) x.hmask).getD 0
    (d.ins.health.filter fun e => e.1.fluid == f && d.pendReaches e.1 l pass).foldl
      (fun m e => e.1.mask.apply c.toNat m) base
  | some x =>
    ((Tab.get d.ql.bars x RemoteBar.empty).health.filter fun e => e.1 == f && decide (e.2.2.1 ≤ l)).foldl
      (fun m e => e.2.1.apply c.toNat m) (2 ^ d.barK bar f - 1)

/-- 360,360 times w of a sibling at a column and line (R228): 360,360 is a multiple of every level. -/
def Dev.shareWeight (d : Dev) (bar : Option Nat) (f : Nat) (c l : Int) (pass v sib : Nat) : Nat :=
  if v = 0 then 0
  else splitShare (d.barSplit bar f) (d.barK bar f) v c.toNat l (d.maskAt bar f c l pass) sib * 360360 / v

/-! ### What a line adds to a frame (R225, R227, R228, R230) -/

/-- Where a valid line lies: Y_i, the fraction a and the pass. -/
structure LinePlace where
  yi : Int
  a : Nat
  pass : Nat
  deriving DecidableEq, Repr

/-- Shifts of a search window, in rising dy, then dx. -/
def searchWindow (cx cy : Int) (rx ry : Nat) : List (Int × Int) :=
  (List.range (2 * ry + 1)).flatMap fun j => (List.range (2 * rx + 1)).map fun i => (cx - rx + (i : Nat), cy - ry + (j : Nat))

/-- Add one sample's |m − E| to the sums of a search window. -/
def Dev.addSearch (d : Dev) (bar : Option Nat) (f : Nat) (c : Int) (y : LinePlace) (m : Nat) (win : List (Int × Int))
    {κ : Type} [DecidableEq κ] (key : Int × Int → κ) (t : Tab κ Nat) : Tab κ Nat :=
  win.foldl (fun t s =>
    let e := d.expectMix bar f (c - s.1) (y.yi - s.2) y.a y.pass
    Tab.upd t (key s) 0 (· + ((m : Int) - (e : Nat)).natAbs)) t

/-- Head starts of a fluid that lie well inside a frame's columns (R230): port and start, 16 at most. -/
def Dev.stitchPorts (d : Dev) (c q : Nat) : List (Nat × Int) :=
  let first := d.cfgInt .cFirst c
  let ncol : Int := d.cfg .ncol c
  (((d.barPorts (d.planeBar c q) (d.cfg .planeFluid (4 * c + q))).filter fun p =>
    decide (first + 256 ≤ p.2.2 ∧ p.2.2 ≤ first + ncol - 256)).map fun p => (p.1, p.2.2)).take 16

/-- What one plane of one line adds: the plane's sums, samples excluded and store-missing, and the samples in order. -/
structure PlaneStep where
  acc : PlaneAcc
  excluded : Nat
  missed : Nat
  row : List Sample

/-- Σ r·g and Σ g² of the siblings of a column (R228). -/
def Dev.addDev (d : Dev) (bar : Option Nat) (f i : Nat) (c : Int) (y : LinePlace) (v0 v1 : Nat) (r : Int)
    (t : Tab (Nat × Nat) (Int × Nat × Nat)) : Tab (Nat × Nat) (Int × Nat × Nat) :=
  (List.range (d.barK bar f)).foldl (fun t s =>
    let w0 := d.shareWeight bar f c y.yi y.pass v0 s
    let w1 := d.shareWeight bar f c (y.yi + 1) y.pass v1 s
    let g := (4096 - y.a) * d.density f v0 * w0 + y.a * d.density f v1 * w1
    if g = 0 then t
    else Tab.upd t (i, s) (0, 0, 0) fun o => (o.1 + r * (g : Nat), o.2.1 + g * g, o.2.2 + 1)) t

/-- A tenant whose copy is used has an entry, of no sample to begin with (R234). -/
def touchTenant (t : Tab (Nat × Nat) TenantAcc) (o : Option (Nat × Nat)) : Tab (Nat × Nat) TenantAcc :=
  match o with
  | none => t
  | some k => Tab.upd t k { sum := 0, count := 0, tiles := [] } id

/-- One sample of a plane (R225, R227, R228, R230): column i of the frame's line number ln. DEDUCED (log 45). -/
def Dev.takeSample (d : Dev) (c q ln : Nat) (y : LinePlace) (was : PlaneStep) (i : Nat) (sample : Option Nat) : PlaneStep :=
  let bar := d.planeBar c q
  let f := d.cfg .planeFluid (4 * c + q)
  let col := d.cfgInt .cFirst c + (i : Nat)
  let x0 := d.expectAt bar f col y.yi y.pass
  let x1 := d.expectAt bar f col (y.yi + 1) y.pass
  let owner := x0.owner.map fun o => o.1
  let x := { was with acc := { was.acc with tenants := touchTenant (touchTenant was.acc.tenants x0.owner) x1.owner } }
  match sample with
  | none => { x with excluded := x.excluded + 1, row := x.row ++ [{ m := 0, r := 0, handle := owner }] }
  | some m =>
    let s := Tab.get (d.pipe c).shifts q (0, 0)
    let e := d.expectMix bar f (col - s.1) (y.yi - s.2) y.a y.pass
    let r : Int := (m : Int) - (e : Nat)
    let row := x.row ++ [{ m := m, r := r, handle := owner }]
    let miss := x0.miss || x1.miss
    if miss || d.spoiledAt bar f col y.yi y.pass || d.spoiledAt bar f col (y.yi + 1) y.pass then
      { x with excluded := x.excluded + 1, missed := x.missed + (if miss then 1 else 0), row := row }
    else
      let a := x.acc
      let big := decide (d.cfg .defThr c < r.natAbs)
      let tile := (ln / 64, i / 64)
      let bump := fun (t : Tab (Nat × Nat) Nat) => if big then Tab.upd t tile 0 (· + 1) else t
      let dec := d.cfg .regDec c
      let onGrid := ln % dec == 0 && i % dec == 0
      let win := searchWindow s.1 s.2 (d.cfg .regX c) (d.cfg .regY c)
      let reg := if onGrid then d.addSearch bar f col y m win id a.reg else a.reg
      let stitch := if onGrid then (d.stitchPorts c q).foldl (fun t p =>
          if p.2 ≤ col ∧ col < p.2 + 256 then d.addSearch bar f col y m win (fun k => (p.1, true, k.1, k.2)) t
          else if p.2 - 256 ≤ col ∧ col < p.2 then d.addSearch bar f col y m win (fun k => (p.1, false, k.1, k.2)) t
          else t) a.stitch
        else a.stitch
      let mix := mixLines (d.density f x0.level) (d.density f x1.level) y.a
      let cols := Tab.upd a.cols i (0, 0, 0) fun o => (o.1 + m, o.2.1 + mix, o.2.2 + 1)
      let tenants := match x0.owner with
        | none => a.tenants
        | some o => Tab.upd a.tenants o { sum := 0, count := 0, tiles := [] } fun t =>
            { sum := t.sum + r, count := t.count + 1, tiles := bump t.tiles }
      let dev := if d.lostAt bar f col y.yi || d.lostAt bar f col (y.yi + 1) then a.dev
        else d.addDev bar f i col y x0.level x1.level r a.dev
      { x with acc := { reg := reg, stitch := stitch, cols := cols, dev := dev, tiles := bump a.tiles, tenants := tenants },
               row := row }

/-- The next frame number (R226). -/
def Dev.nextFrame (d : Dev) (c : Nat) : Nat := (d.get .insFrameNo c + 1) % 2 ^ 32

/-- Subscriptions that are due in a frame, in order of their numbers (R235). -/
def Dev.dueSubs (d : Dev) (c frame : Nat) : List (Nat × Subscription) :=
  (List.range 16).filterMap fun k =>
    match Tab.find (d.pipe c).subs k with
    | some s => if frame % s.decimation = 0 then some (k, s) else none
    | none => none

/-- One line is added to the open frame: the samples of its planes by plane, or none where the line is invalid; Y_FIRST is
Y_i of the first line, valid or not. DEDUCED (log 45). -/
def Dev.frameLine (d : Dev) (c : Nat) (fire pass : Nat) (yi : Int) (place : Option LinePlace) (ms : Nat → List (Option Nat)) : Dev :=
  let p := d.pipe c
  let f0 := p.frame.getD Frame.empty
  let f1 := if f0.lines = 0 then { f0 with fFirst := fire, pass := pass, yFirst := some yi } else f0
  let f2 := { f1 with lines := f1.lines + 1 }
  let ncol := d.cfg .ncol c
  let f3 := match place with
    | none => { f2 with excluded := f2.excluded + ncol * (d.planes c).length }
    | some y =>
      let steps : List (Nat × PlaneStep) := (d.planes c).map fun q =>
        let x0 : PlaneStep := { acc := Tab.get f2.planes q PlaneAcc.empty, excluded := 0, missed := 0, row := [] }
        (q, (List.range ncol).foldl (fun x i => d.takeSample c q f1.lines y x i ((ms q).getD i none)) x0)
      let rows := if (d.dueSubs c (d.nextFrame c)).isEmpty then f2.rows
        else f2.rows ++ [(steps.filter fun s => (d.planeBar c s.1).isNone).map fun s => (s.1, s.2.row)]
      { f2 with valid := f2.valid + 1, excluded := f2.excluded + (steps.map fun s => s.2.excluded).sum,
                missed := f2.missed + (steps.map fun s => s.2.missed).sum,
                planes := steps.map fun s => (s.1, s.2.acc), rows := rows }
  let d1 := (d.setPipe c { p with frame := some f3 }).add32 .insStoreMiss c (f3.missed - f0.missed)
  let d2 := if f0.missed < f3.missed then d1.event .insEvent c 3 else d1
  (d2.setBit .insStatus c 24 true).setFld .insStatus c 0 15 f3.lines

/-! ### Registration of a closed frame (R227) -/

/-- The shift with the least sum; one of several equal ones is left to a free value. -/
def leastShift (sum : Int × Int → Nat) (win : List (Int × Int)) (pick : Nat) (dflt : Int × Int) : Int × Int :=
  let best := (leastOf (win.map sum)).getD 0
  let ties := win.filter fun s => sum s == best
  ties.getD (pick % ties.length) dflt

/-- The refinement of one axis in 1/16: the vertex of the parabola through three sums. -/
def parabola (lo mid hi : Nat) : Int :=
  let den : Int := (lo : Int) - 2 * mid + hi
  if den ≤ 0 then 0 else divRoundAway (8 * ((lo : Int) - hi)) den.toNat

/-- Integer shift and its refinement in 1/16 for the sums of a window; the window's centre where no sample entered.
DEDUCED (log 46). -/
def findShift (empty : Bool) (sum : Int × Int → Nat) (cx cy : Int) (rx ry pick : Nat) : (Int × Int) × (Int × Int) :=
  if empty then ((cx, cy), (16 * cx, 16 * cy))
  else
    let s := leastShift sum (searchWindow cx cy rx ry) pick (cx, cy)
    let fx := if (s.1 - cx).natAbs < rx then parabola (sum (s.1 - 1, s.2)) (sum s) (sum (s.1 + 1, s.2)) else 0
    let fy := if (s.2 - cy).natAbs < ry then parabola (sum (s.1, s.2 - 1)) (sum s) (sum (s.1, s.2 + 1)) else 0
    (s, (16 * s.1 + fx, 16 * s.2 + fy))

/-- The shift of a plane. -/
def Dev.planeShift (d : Dev) (c q : Nat) (a : PlaneAcc) : (Int × Int) × (Int × Int) :=
  let s := Tab.get (d.pipe c).shifts q (0, 0)
  findShift a.reg.isEmpty (fun k => Tab.get a.reg k 0) s.1 s.2 (d.cfg .regX c) (d.cfg .regY c) (d.freeAt q 32)

/-- The stitch errors of a plane (R230): port and error in 1/16 column. -/
def Dev.planeStitches (d : Dev) (c q : Nat) (a : PlaneAcc) : List (Nat × Int) :=
  let s := Tab.get (d.pipe c).shifts q (0, 0)
  let side := fun (n : Nat) (up : Bool) =>
    let mine := a.stitch.filter fun t => t.1.1 == n && t.1.2.1 == up
    (findShift mine.isEmpty (fun k => Tab.get a.stitch (n, up, k.1, k.2) 0) s.1 s.2 (d.cfg .regX c) (d.cfg .regY c)
      (d.freeAt (4 + 8 * n + 2 * q + if up then 1 else 0) 32)).2.1
  (d.stitchPorts c q).map fun p => (p.1, side p.1 true - side p.1 false)

/-! ### The record (R228 to R231) -/

/-- DEV of a column and sibling in Q1.14: 0x8000 with too few samples (R228). -/
def Dev.devWord (d : Dev) (c : Nat) (a : PlaneAcc) (i s : Nat) : Nat :=
  let x := Tab.get a.dev (i, s) (0, 0, 0)
  if x.2.2 < d.cfg .minSamples c then 0x8000
  else unsignedOf 16 (clampInt (divRoundAway (x.1 * (4096 * 360360 * 16384)) x.2.1) (-32767) 32767)

/-- The nozzle of a column and sibling of a plane: port and nozzle, if a head serves it (R229). -/
def Dev.devNozzle (d : Dev) (c q i s : Nat) : Option (Nat × Nat) :=
  let col := d.cfgInt .cFirst c + (i : Nat)
  ((d.barPorts (d.planeBar c q) (d.cfg .planeFluid (4 * c + q))).find? fun p =>
    p.2.1 == s && decide (p.2.2 ≤ col ∧ col < p.2.2 + 16384)).map fun p =>
      let x := (col - p.2.2).toNat
      (p.1, 4096 * (x % 4) + x / 4)

/-- K of a plane: its fluid's k. -/
def Dev.planeK (d : Dev) (c q : Nat) : Nat := d.barK (d.planeBar c q) (d.cfg .planeFluid (4 * c + q))

/-- Bytes filled with zeros to a multiple of 64. -/
def pad64 (bs : List Byte) : List Byte := bs ++ List.replicate (64 * ceilDiv bs.length 64 - bs.length) 0

/-- Bits packed into bytes, bit 0 of byte 0 first. -/
def packBits (bs : List Bool) : List Byte :=
  (List.range (ceilDiv bs.length 8)).map fun k =>
    BitVec.ofNat 8 ((List.range 8).foldl (fun a i => a + if bs.getD (8 * k + i) false then 2 ^ i else 0) 0)

/-- Mean of a sum over samples, to the nearest integer. DEDUCED (log 46). -/
def meanOf (sum n : Nat) : Nat := if n = 0 then 0 else (2 * sum + n) / (2 * n)

/-- The columns section of a plane (Table 8.5). -/
def Dev.columnBytes (d : Dev) (c : Nat) (a : PlaneAcc) : List Byte :=
  (List.range (d.cfg .ncol c)).flatMap fun i =>
    let x := Tab.get a.cols i (0, 0, 0)
    leBytes (meanOf x.1 x.2.2 + meanOf x.2.1 x.2.2 <<< 16 + x.2.2 <<< 32) 8

/-- The deviations section of a plane. -/
def Dev.devBytes (d : Dev) (c q : Nat) (a : PlaneAcc) : List Byte :=
  (List.range (d.cfg .ncol c)).flatMap fun i => (List.range (d.planeK c q)).flatMap fun s => leBytes (d.devWord c a i s) 2

/-- The defect map of a plane: a bit per tile, row-major. -/
def Dev.defectBits (d : Dev) (c : Nat) (a : PlaneAcc) : List Bool :=
  (List.range (d.cfg .frameLines c / 64)).flatMap fun y => (List.range (d.cfg .ncol c / 64)).map fun x =>
    decide (d.cfg .defCount c ≤ Tab.get a.tiles (y, x) 0)

/-- The nozzle-out candidates of a plane (R229): port, nozzle, DEV and samples. -/
def Dev.candidates (d : Dev) (c q : Nat) (a : PlaneAcc) : List (Nat × Nat × Nat × Nat) :=
  (List.range (d.cfg .ncol c)).flatMap fun i => (List.range (d.planeK c q)).filterMap fun s =>
    let w := d.devWord c a i s
    if w = 0x8000 ∨ d.cfgInt .outThr c < signedOf 16 w then none
    else (d.devNozzle c q i s).map fun n => (n.1, n.2, w, (Tab.get a.dev (i, s) (0, 0, 0)).2.2)

/-- The record of a closed frame (Tables 8.4 and 8.5). -/
def Dev.recordBytes (d : Dev) (c : Nat) (f : Frame) (early : Bool) : List Byte :=
  let qs := d.planes c
  let acc := fun q => Tab.get f.planes q PlaneAcc.empty
  let shift := fun q => d.planeShift c q (acc q)
  let limit := qs.any fun q => decide (d.cfg .regX c < (shift q).1.1.natAbs) || decide (d.cfg .regY c < (shift q).1.2.natAbs)
  let stitches := qs.flatMap fun q => (d.planeStitches c q (acc q)).map fun s => (s.1, q, s.2)
  let cands := qs.flatMap fun q => (d.candidates c q (acc q)).map fun x => (q, x)
  let body := pad64 (qs.flatMap fun q => d.columnBytes c (acc q)) ++ pad64 (qs.flatMap fun q => d.devBytes c q (acc q)) ++
    pad64 (packBits (qs.flatMap fun q => d.defectBits c (acc q))) ++
    pad64 (stitches.flatMap fun s => leBytes (s.1 <<< 24 + s.2.1 <<< 22 + unsignedOf 16 s.2.2) 4) ++
    pad64 ((cands.take 1024).flatMap fun x =>
      leBytes (x.2.1 <<< 24 + x.1 <<< 22 + x.2.2.1) 4 ++ leBytes (x.2.2.2.1 <<< 16 + x.2.2.2.2 % 65536) 4)
  let flags := (if early then 1 else 0) + (if (d.pipe c).restart then 2 else 0) + (if f.missed = 0 then 0 else 4) +
    (if limit then 8 else 0) + (if 1024 < cands.length then 16 else 0)
  let head := [1 <<< 24 + c <<< 16 + (qs.foldl (fun a q => a + 2 ^ q) 0) <<< 12 + flags, d.nextFrame c] ++
    lineWords (f.yFirst.getD 0) ++ [f.fFirst % 2 ^ 32, f.fFirst >>> 32 % 65536, f.valid <<< 16 + f.lines, 128 + body.length] ++
    ((List.range 4).map fun q =>
      if qs.contains q then unsignedOf 16 (shift q).2.1 <<< 16 + unsignedOf 16 (shift q).2.2 else 0) ++
    [stitches.length <<< 16 + min 1024 cands.length, f.excluded, 0, 0]
  let all := (head.flatMap fun w => leBytes w 4) ++ body
  all ++ pad64 (leBytes (crc32c all) 4)

/-- The estimates that a record's deviation section carries (R242): bar (none for this one), port, nozzle and DEV. -/
def Dev.recordEstimates (d : Dev) (c : Nat) (bytes : List Byte) : List (Option Nat × Nat × Nat × Int) :=
  let mask := bits (le32At bytes 0) 12 4
  let qs := (List.range 4).filter fun q => bitOf mask q
  let ncol := d.cfg .ncol c
  let start := 64 + 64 * ceilDiv (8 * qs.length * ncol) 64
  (qs.foldl (fun (acc : Nat × List (Option Nat × Nat × Nat × Int)) q =>
    let k := d.planeK c q
    let es := (List.range ncol).flatMap fun i => (List.range k).filterMap fun s =>
      let w := leNat ((bytes.drop (acc.1 + 2 * (i * k + s))).take 2)
      if w = 0x8000 then none
      else (d.devNozzle c q i s).map fun n => (d.planeBar c q, n.1, n.2, signedOf 16 w)
    (acc.1 + 2 * ncol * k, acc.2 ++ es)) (start, [])).2

/-! ### Summaries and uploads of a closed frame (R234 to R236) -/

/-- The summary entries of a tenant (Table 10.5): word 1 and the body; the mean of no sample is a free value. -/
def Dev.summaryEntries (d : Dev) (c : Nat) (f : Frame) (handle : Nat) : List (Nat × List Nat) :=
  (d.planes c).flatMap fun q =>
    ((Tab.get f.planes q PlaneAcc.empty).tenants.zipIdx.filter fun t => t.1.1.1 == handle).map fun t =>
      let x := t.1.2
      let tiles := (x.tiles.filter fun y => decide (d.cfg .defCount c ≤ y.2)).length
      let mean := if x.count = 0 then d.freeAt (2048 + 4 * t.2 + q) 32 else unsignedOf 32 (divRoundAway (16 * x.sum) x.count)
      (c <<< 24 + q <<< 22 + t.1.1.2, [d.nextFrame c, tiles, mean, x.count])

/-- Post the inspection summaries of a frame to the tenants that own its store copies (R234). -/
def Dev.postSummaries (d : Dev) (c : Nat) (f : Frame) : Dev :=
  let handles := (f.planes.flatMap fun p => p.2.tenants.map fun t => t.1.1).eraseDups
  handles.foldl (fun d h =>
    let s := bits h 0 12
    if d.ctxHandle s = h then d.postEvent s 0x11 (d.summaryEntries c f h) else d) d

/-- A 16-bit sample of an upload; a residual that does not fit is left to a free value. -/
def sample16 (residual : Bool) (pick : Nat) (x : Sample) : Nat :=
  if !residual then x.m
  else if -32768 ≤ x.r ∧ x.r ≤ 32767 then unsignedOf 16 x.r else pick % 65536

/-- Free values of a closing frame ahead of those of its samples. -/
def Frame.draws (f : Frame) : Nat := 2048 + 4 * (f.planes.map fun p => p.2.tenants.length).sum

/-- The bytes of an upload to subscription k (R235, R236): line by line, plane by plane, column by column; the owner's ends
with the META of each virtual channel. -/
def Dev.uploadBytes (d : Dev) (c : Nat) (f : Frame) (k : Nat) (s : Subscription) : List Byte :=
  let owner := bits s.handle 0 12 == 0
  let samples := f.rows.flatMap fun line => (line.filter fun p => bitOf s.planes p.1).flatMap fun p => p.2
  let vals := (List.range samples.length).map fun i =>
    let x := samples.getD i { m := 0, r := 0, handle := none }
    if owner ∨ x.handle = some s.handle then sample16 s.residual (d.freeAt (f.draws + 16 * i + k) 64) x else 0
  let body := vals.flatMap fun v => if s.wide then leBytes v 2 else leBytes (v / 256) 1
  if owner then body ++ (List.range 4).flatMap fun v => (Tab.get (d.pipe c).metas v []).flatMap fun w => leBytes w 4 else body

/-- A frame closes (R226): it takes the next number; its record, summaries and due uploads are made. DEDUCED (log 47).
-/
def Dev.frameClose (d : Dev) (c : Nat) (early : Bool) : Dev :=
  let p := d.pipe c
  match p.frame with
  | none => d
  | some f =>
    let rec' : StatRecord := { pass := f.pass, bytes := d.recordBytes c f early }
    let shifts := (d.planes c).map fun q => (q, (d.planeShift c q (Tab.get f.planes q PlaneAcc.empty)).1)
    let jobs := (d.dueSubs c (d.nextFrame c)).map fun s =>
      ({ sub := s.1, frame := d.nextFrame c, bytes := d.uploadBytes c f s.1 s.2 } : UploadJob)
    let used := f.draws + 16 * (f.rows.map fun line => (line.map fun r => r.2.length).sum).sum
    let d1 := (d.postSummaries c f).setPipe c
      { p with frame := none, shifts := shifts, restart := false, toLoop := p.toLoop ++ [rec'],
               uploads := p.uploads ++ jobs }
    let d2 := { d1 with draw := d1.draw + used }
    (((d2.put .insFrameNo c (d.nextFrame c)).setBit .insStatus c 24 false).setFld .insStatus c 0 15 0).event .insEvent c 0

/-- Every open frame closes early (R226). -/
def Dev.closeFrames (d : Dev) : Dev := d.each (List.range 24) fun d c => d.frameClose c true

end Sys2Proof.Machine
end

