-- ==== Sys2Proof/Machine/LinkOps.lean ====
section
/-! DEFINITION. Head links: messages, slates, credits, bring-up, joining and leaving (R174 to R211). -/

namespace Sys2Proof.Machine

/-! ### Messages and credits (R185, R186, R189, R192) -/

/-- A port's link. -/
def Dev.port (d : Dev) (n : Nat) : PortLink := Tab.get d.lnk.port n PortLink.reset

/-- Set a port's link. -/
def Dev.setPort (d : Dev) (n : Nat) (x : PortLink) : Dev := { d with lnk := { port := Tab.set d.lnk.port n x } }

/-- Ports in a list of link states. -/
def Dev.portsIn (d : Dev) (states : List Nat) : List Nat := (List.range 192).filter fun n => d.linkState n ∈ states

/-- The messages that a head acknowledges (Table 7.4). -/
def ackedTypes : List Nat := [0x03, 0x04, 0x05, 0x06, 0x07, 0x08, 0x09]

/-- The first block position that a promised slate holds back. -/
def Dev.slateBound (d : Dev) (n : Nat) : Nat :=
  (leastOf ((d.port n).slates.map fun s => s.slot.1)).getD ((d.tx n).posAt d.now)

/-- The words of a message join a head port's stream. -/
def Dev.headWords (d : Dev) (n type seq : Nat) (body : List Nat) : Dev :=
  d.txMessage n (d.slateBound n) (messageWords type seq body)

/-- Send a message to a head: it takes the next SEQ and, where the head acknowledges it, is kept until then. -/
def Dev.headSend (d : Dev) (n type : Nat) (body : List Nat) : Dev :=
  let x := d.port n
  let kept := if type ∈ ackedTypes then x.unacked ++ [{ seq := x.seq, type := type, body := body, resends := 0 }]
    else x.unacked
  ((d.setPort n { x with seq := (x.seq + 1) % 256, unacked := kept }).send (.head n type x.seq body)).headWords n type x.seq body

/-- The two words of a fire index in a message (Table 7.4). -/
def fireWords (f : Nat) : List Nat := [f % 2 ^ 32, f / 2 ^ 32 % 65536]

/-- CREDITS and OUTSTANDING (Table 7.15). -/
def Dev.credits (d : Dev) (n : Nat) : Nat := d.fld .linkStatus n 8 8
def Dev.setCredits (d : Dev) (n v : Nat) : Dev := d.setFld .linkStatus n 8 8 (min v 255)
def Dev.noteOutstanding (d : Dev) (n : Nat) : Dev := d.setFld .linkStatus n 0 5 (d.port n).outstanding.length

/-- Credits of the outstanding batches that a test names come back (R189). -/
def Dev.returnCredits (d : Dev) (n : Nat) (p : Nat → Bool) : Dev :=
  let x := d.port n
  let back := (x.outstanding.filter p).length
  ((d.setPort n { x with outstanding := x.outstanding.filter fun f => !p f }).setCredits n (d.credits n + back)).noteOutstanding n

/-- WITHDRAW on a port (R192): batches at or above a fire index no longer stand. -/
def Dev.withdrawPort (d : Dev) (n f : Nat) : Dev :=
  let d1 := (d.headSend n 0x02 (fireWords f)).returnCredits n fun g => decide (f ≤ g)
  let x := d1.port n
  d1.setPort n { x with sent := x.sent.filter fun g => decide (g < f) }

/-- WITHDRAW on every link that holds batches, and what was computed for the fires is void (R67, R192). The next batch
carries SYNC = 1 (R184). -/
def Dev.withdrawAll (d : Dev) (f : Nat) : Dev :=
  let d1 := d.each (d.portsIn [4, 5]) fun d n =>
    let d2 := d.withdrawPort n f
    d2.setPort n { d2.port n with sync := true }
  d1.clearBatches.clearHistory

/-! ### Slates (R180, R181) -/

/-- CRC-8 of a slate's or an echo word's upper three bytes (Table 7.3). -/
def slateCrc (w : Nat) : Nat := crcMsb 8 0x07 0 (beBytes (w / 256) 3)

/-- A slate word (Table 7.3). -/
def slateWord (act blank : Bool) (lo fine : Nat) (echo : Bool) : Nat :=
  let w := (if act then 2 ^ 31 else 0) + (if blank then 2 ^ 30 else 0) + (lo % 64) <<< 24 + (fine % 4096) <<< 12 +
    (if echo then 2 ^ 11 else 0)
  w + slateCrc w

/-- FINE of a slate (R74): O[n] for C3 with a valid PD and FINE_EN = 1, else 0. -/
def Dev.fineOf (d : Dev) (n tF depart : Nat) : Nat :=
  if d.fld .linkStatus n 27 2 ≠ 3 ∨ !d.bit .posPortDelay n 31 ∨ d.cfg .fineEn 0 = 0 then 0
  else (clampInt (divRoundUp ((tF : Int) - depart - 50 * (d.fld .posPortDelay n 0 16 : Nat)) 250) 0 4095).toNat

/-- Block positions of a port whose slot is taken. -/
def Dev.slotsUsed (d : Dev) (n : Nat) : List Nat :=
  ((d.port n).slates.map fun s => s.slot.1) ++ (d.tx n).slots.map Prod.fst

/-- The slot of a slate for a fire instant: C3 takes the first at or after t_f − SLATE_LEAD_NS; C1 and C2 the one whose
departure brings the head nearest to t_f; after a late commit among the slots still open (R73, R76). -/
def Dev.slateSlot (d : Dev) (n tF : Nat) (late : Bool) : Nat × Nat :=
  let x := d.tx n
  let lo := if late then d.now else tF - d.cfg .slateLeadNs 0 * 1000
  if d.fld .linkStatus n 27 2 = 3 then x.slotFrom (d.slotsUsed n) d.now lo
  else x.slotNear (d.slotsUsed n) d.now lo (tF - 50 * d.fld .posPortDelay n 0 16)

/-- Allocate the slate of a committed fire on a port: its slot, and FINE by the PD in force at the commit (R73, R80). -/
def Dev.allocSlate (d : Dev) (n f tF : Nat) (late : Bool) : Dev :=
  let s := d.slateSlot n tF late
  let t := (d.tx n).slotAt s
  let x := d.port n
  d.setPort n { x with slates := x.slates ++ [{ fire := f, slot := s, depart := t, fine := d.fineOf n tF t }] }

/-- Allocate the slates of a committed fire: on every port whose STATE is LINKED, JOINING or FIRING (R73, R181). -/
def Dev.allocSlates (d : Dev) (f tF : Nat) (late : Bool) : Dev :=
  d.each (d.portsIn [3, 4, 5]) fun d n => d.allocSlate n f tF late

/-! ### Versions, rates and formats (R193 to R196) -/

/-- Lane rate of a version in bit/s (Table 7.7). -/
def laneRate (ver : Nat) : Nat := if ver = 1 then 12500000000 else if ver = 2 then 25000000000 else if ver = 3 then 32000000000 else 0

/-- MAX_FIRE_HZ of a version, width and format (R193). -/
def maxFireHz (ver w : Nat) (compact : Bool) : Nat :=
  let b := 32 * ((if compact then 4101 else 16389) + w)
  min 200000 (95 * w * laneRate ver * 256 / (100 * 264 * b))

/-- The format a port chooses: true is compact (R194). -/
def Dev.chooseFmt (d : Dev) (n ver w : Nat) : Bool :=
  !((ver == 2 || ver == 3) && d.cfg .hlFmt n == 0 && decide (d.cfg .hlFmaxHz 0 ≤ maxFireHz ver w false))

/-- Bring HL_LINK_FMAX to the ports in FIRING (R195); 0 with none. -/
def Dev.noteFmax (d : Dev) : Dev :=
  d.setFld .hlGlbStatus 0 0 18 ((leastOf ((d.portsIn [5]).map fun n => d.get .maxFireHz n)).getD 0)

/-- The fire rate stands above HL_LINK_FMAX (R195). -/
def Dev.rateAbove (d : Dev) : Bool :=
  let p := d.get .posFirePeriod 0
  !(d.portsIn [5]).isEmpty && p != 0 && decide (d.fld .hlGlbStatus 0 0 18 * p < 20000000000)

/-- RATE_SHORT, its events and SPEED_REQ_N when the fire rate rises above HL_LINK_FMAX (R195). -/
def Dev.checkRate (d : Dev) : Dev :=
  if d.rateAbove ∧ !d.bit .hlGlbStatus 0 31 then
    let short := (d.portsIn [5]).filter fun n => decide (d.get .maxFireHz n * d.get .posFirePeriod 0 < 20000000000)
    let d1 := d.each short fun d n => d.event .linkEvent n 6
    (((d1.setBit .hlGlbStatus 0 31 true).event .hlGlbEvent 0 1).raise .hlRate 0).speedReq .link
  else d

/-! ### States of a port -/

/-- Set STATE of a port; the row readers of a firing head are ACTIVE (Table 4.9). -/
def Dev.setLink (d : Dev) (n st : Nat) : Dev :=
  let d1 := (d.setFld .linkStatus n 29 3 st).each (List.range 4) fun d j => d.setBit .rpStatus (4 * n + j) 31 (st == 5)
  d1.noteFmax

/-- A port leaves FIRING by a fault: it is masked at once (R200). -/
def Dev.maskFault (d : Dev) (n : Nat) : Dev :=
  if d.portFiring n then
    let x := d.port n
    (d.setPort n { x with faulted := true, rejoin := true, outstanding := [], sent := [], leaveFire := none }).clearPort n
  else if d.linkState n = 4 then
    (d.setPort n { d.port n with rejoin := true, outstanding := [], sent := [], leaveFire := none }).clearPort n
  else d

/-- The lanes of a port that goes to DOWN or to step 1 of bring-up wait for signal again. -/
def Dev.lanesFor (d : Dev) (g : LaneGroup) (st : Nat) : Dev :=
  if st = 0 then d.lanesDown g else if st = 1 then d.lanesRest g else d

/-- A port's link goes to another state with nothing left of the exchange before (Table 7.9). DEDUCED (log 74). -/
def Dev.linkRestart (d : Dev) (n st : Nat) : Dev :=
  let d1 := (d.maskFault n).lanesFor (.head n) st
  let d2 := d1.setPort n { d1.port n with unacked := [], outstanding := [], sent := [], echo := none, stage := 0,
                                          joinAtEnable := false, leaveFire := none, slates := [] }
  let d3 := (d2.setLink n st).setFld .linkStatus n 24 5 0
  (((d3.setCredits n 0).noteOutstanding n).setBit .linkStatus n 22 false).put .maxFireHz n 0

/-- Link lost: LINK_DOWN where the port stood at LINKED or above. -/
def Dev.linkDownEvent (d : Dev) (n : Nat) : Dev :=
  if 3 ≤ d.linkState n then (d.event .linkEvent n 1).event .hlGlbEvent 0 0 else d

/-- Restart bring-up from step 1 of Table 7.9 (R186, R203): the port is relinked. -/
def Dev.relink (d : Dev) (n : Nat) : Dev := ((d.linkDownEvent n).count .hptRelinks n).linkRestart n 1

/-- A link at LINKED or above is lost to a fault: the port joins again by itself once it re-links to the same head
(R199). -/
def Dev.noteRejoin (d : Dev) (n : Nat) : Dev :=
  if 3 ≤ d.linkState n then d.setPort n { d.port n with rejoin := true } else d

/-- A fault relinks the port (R186, R203). -/
def Dev.relinkFault (d : Dev) (n : Nat) : Dev := (d.noteRejoin n).relink n

/-- A port with no usable lane (R201). -/
def Dev.linkDown (d : Dev) (n : Nat) : Dev := ((d.noteRejoin n).linkDownEvent n).linkRestart n 0

/-- A lane of the port has signal (Table 7.9 step 1). -/
def Dev.linkTraining (d : Dev) (n : Nat) : Dev := if d.linkState n = 0 then d.setLink n 1 else d

/-- The lowest detected lane is trained at 12.5 Gbit/s (Table 7.9 step 2). -/
def Dev.linkCaps (d : Dev) (n : Nat) : Dev :=
  if d.linkState n = 1 then
    let d1 := (((d.setLink n 2).setFld .linkStatus n 24 3 1).setBit .linkStatus n 22 true).txStart n 1 (laneRate 1)
    d1.setPort n { d1.port n with stage := 2, seq := 0 }
  else d

/-- CAPSET (Table 7.4): version, width, VCEIL, port and upstream idle time. -/
def Dev.sendCapset (d : Dev) (n : Nat) : Dev :=
  d.headSend n 0x03 [d.fld .linkStatus n 27 2 <<< 28 + d.fld .linkStatus n 24 3 <<< 24 + d.fld .secStatus 0 1 4 <<< 20 + n,
    d.cfg .hlUpIdleUs 0 % 1024]

/-- Good physical lanes of a port. -/
def Dev.goodLanes (d : Dev) (n : Nat) : Nat :=
  ((List.range 4).filter fun i => d.bit .linkStatus n (16 + i)).length

/-- A version allows a width (Table 7.7). -/
def verAllows (ver w : Nat) : Bool := if ver = 1 then w == 1 || w == 2 else w == 1 || w == 2 || w == 4

/-- The largest width that MAX_W, HL_WIDTH, the version and the good lanes allow (R196). -/
def Dev.chooseWidth (d : Dev) (n ver maxW : Nat) : Nat :=
  let m := if maxW = 1 ∨ maxW = 2 ∨ maxW = 4 then maxW else 1
  let ok := fun w => verAllows ver w && decide (w ≤ m) && decide (w ≤ d.cfg .hlWidth n) && decide (w ≤ d.goodLanes n)
  if ok 4 then 4 else if ok 2 then 2 else 1

/-- The highest version that the head and the port share (R196). -/
def Dev.chooseVer (d : Dev) (n versions : Nat) : Option Nat :=
  let common := versions &&& d.cfg .hlVersions n
  if bitOf common 2 then some 3 else if bitOf common 1 then some 2 else if bitOf common 0 then some 1 else none

/-- Step 4 of Table 7.9: version, width and format are chosen from the head's CAP and CAPSET is sent; with no common
version the port stays in CAPS (R196). -/
def Dev.linkChoose (d : Dev) (n : Nat) : Dev :=
  let cap := d.get .headCap n
  match d.chooseVer n (bits cap 0 3) with
  | none => (d.setPort n { d.port n with stage := 3 }).raise .hlVersion n
  | some ver =>
    let w := d.chooseWidth n ver (bits cap 4 4)
    let d1 := ((d.setFld .linkStatus n 27 2 ver).setFld .linkStatus n 24 3 w).setBit .linkStatus n 23 (d.chooseFmt n ver w)
    (d1.setPort n { d1.port n with stage := 4 }).sendCapset n

/-- The lanes a port uses: the lowest good ones, as many as its width (R174, R201). -/
def Dev.linkLanes (d : Dev) (n : Nat) : List Nat := (d.goodOf (.head n)).take (d.fld .linkStatus n 24 3)

/-- Step 5 of Table 7.9: the lanes in use go through bring-up at the version's rate. -/
def Dev.linkRetrain (d : Dev) (n : Nat) : Dev :=
  (d.setPort n { d.port n with stage := 5 }).trainLanes (d.linkLanes n) (laneRate (d.fld .linkStatus n 27 2) / 1000)

/-- Step 6 of Table 7.9: the lanes are retrained at the version's rate and width. -/
def Dev.linkRetrained (d : Dev) (n : Nat) : Dev :=
  if (d.port n).stage = 5 then
    let ver := d.fld .linkStatus n 27 2
    let d1 := ((d.setPort n { d.port n with stage := 6 }).txStart n (d.fld .linkStatus n 24 3) (laneRate ver)).sendCapset n
    if ver = 1 then d1 else d1.headSend n 0x04 [d1.get .rowdly n, d1.get .rowdlyRev n]
  else d

/-! ### Timing echoes (R79, R80, R207) -/

/-- An echo slate takes the next free slot (R180). -/
def Dev.sendEcho (d : Dev) (n k : Nat) : Dev :=
  let x := d.tx n
  let s := x.slotFrom (d.slotsUsed n) d.now d.now
  let w := slateWord false false k 0 true
  (d.txSlot n s w).send (.slate n w (x.slotAt s))

/-- Begin the exchange of 64 timing echoes with a head: UPHOLD, then the echo slates. DEDUCED (log 41). -/
def Dev.startEcho (d : Dev) (n : Nat) (u : EchoUse) : Dev :=
  let d1 := (d.setPort n { d.port n with echo := some (u, []) }).headSend n 0x07 [1]
  d1.each (List.range 64) fun d k => d.sendEcho n k

/-- PD lies outside the range of R75. PD in 50 ps units. -/
def Dev.pdOutside (d : Dev) (pd : Nat) : Bool :=
  let lead := d.cfg .slateLeadNs 0
  decide (pd * 50 + 1023000 < lead * 1000) || decide ((lead - 4) * 1000 < pd * 50)

/-- Store a port delay: VALID, RANGE by R75 and PD. -/
def Dev.storePd (d : Dev) (n pd : Nat) : Dev :=
  let out := d.pdOutside (pd % 65536)
  let d1 := d.put .posPortDelay n (2 ^ 31 + (if out then 2 ^ 30 else 0) + pd % 65536)
  if out then d1.raise .posPdRange n else d1

/-- RANGE of a port delay that is valid follows a SLATE_LEAD_NS that has changed (R75). DEDUCED (log 104). -/
def Dev.checkPd (d : Dev) (n : Nat) : Dev :=
  let out := d.pdOutside (d.fld .posPortDelay n 0 16)
  if !d.bit .posPortDelay n 31 ∨ out = d.bit .posPortDelay n 30 then d
  else
    let d1 := d.setBit .posPortDelay n 30 out
    if out then d1.raise .posPdRange n else d1

/-- A port is fit to fire by its port delay (R75). -/
def Dev.pdFit (d : Dev) (n : Nat) : Bool := d.bit .posPortDelay n 31 && !d.bit .posPortDelay n 30

/-- PD from round trips in ps (R79): (mean − T_turn) / 2 + T_fire, to 50 ps. -/
def Dev.pdOf (d : Dev) (n : Nat) (rtts : List Int) : Nat :=
  let turn : Int := 50 * d.fld .headTiming n 16 16
  let fire : Int := 50 * d.fld .headTiming n 0 16
  let num : Int := rtts.sum - turn * rtts.length + 2 * fire * rtts.length
  min 65535 (divRoundUp num (100 * rtts.length)).toNat

/-- A port that may not fire any more by its delay is masked. -/
def Dev.maskUnfit (d : Dev) (n : Nat) : Dev :=
  if (d.portFiring n ∨ d.linkState n = 4) ∧ !d.pdFit n then
    let d1 := (d.maskFault n).setLink n 3
    ((d1.setPort n { d1.port n with rejoin := false }).setCredits n 0).noteOutstanding n
  else d

/-- The echoes of a port are done: HOLD = 0; PD becomes valid, or stays invalid where more than 8 were lost; a refresh
that differs by more than 2 ns is not applied (R79, R80, R207). DEDUCED (log 41). -/
def Dev.echoDone (d : Dev) (n : Nat) : Dev :=
  match (d.port n).echo with
  | none => d
  | some (u, got) =>
    let d1 := (d.setPort n { d.port n with echo := none }).headSend n 0x07 [0]
    if got.length < 56 then ((d1.setBit .posPortDelay n 31 false).raise .hlEcho n).maskUnfit n
    else
      let pd := d1.pdOf n (got.map fun e => (e.2 : Int))
      let old := d1.fld .posPortDelay n 0 16
      match u with
      | .refresh =>
        if d1.bit .posPortDelay n 31 && decide (40 < (max pd old) - (min pd old)) then d1.raise .calDisagree n
        else (d1.storePd n pd).maskUnfit n
      | _ => (d1.storePd n pd).maskUnfit n

/-- The measurement of bring-up is still to come or in progress (Table 7.9 step 7, R80). -/
def Dev.unmeasured (d : Dev) (n : Nat) : Bool :=
  match (d.port n).echo with
  | some (.bringUp, _) => true
  | _ => false

/-! ### Joining (R197, R199) -/

/-- Why a GO is refused (R197): its GO_FAIL. -/
def Dev.goFail (d : Dev) (n : Nat) : Option Nat :=
  if d.linkState n ≠ 3 then some 1
  else if !d.bit .synCtrl n 0 then some 2
  else if !d.pdFit n || d.unmeasured n then some 3
  else if d.cfg .headUsed n = 0 then some 4
  else if (d.engineOf n).isNone then some 5
  else none

/-- BUF_FULL or BUF_COMPACT of the head for the format in use (Table 7.6). -/
def Dev.headBuffers (d : Dev) (n : Nat) : Nat := if d.isCompact n then d.fld .headCap n 16 8 else d.fld .headCap n 24 8

/-- Send JOIN with F_join: the port is JOINING. -/
def Dev.sendJoin (d : Dev) (n f : Nat) : Dev :=
  let d1 := (d.put .joinFire n f).setLink n 4
  let d2 := d1.headSend n 0x05 (fireWords f)
  let d3 := d2.setPort n { d2.port n with batchSeqs := [], outstanding := [], sent := [],
                                          joinAtEnable := false, sync := true, leaveFire := none }
  ((d3.setCredits n (d3.headBuffers n)).noteOutstanding n).clearPort n

/-- A join request (R197): refused with E_HL_NOT_READY, or accepted at the fire index as it stands. DEDUCED (log 42). -/
def Dev.go (d : Dev) (n : Nat) : Dev :=
  match d.goFail n with
  | some c => (d.setFld .linkStatus n 5 3 c).raise .hlNotReady n
  | none =>
    let d1 := d.setFld .linkStatus n 5 3 0
    if d1.fireEn then d1.sendJoin n (d1.fireIndex + 16)
    else d1.setPort n { d1.port n with joinAtEnable := true }

/-- Firing starts: the first batches of heads in firing carry SYNC, and heads whose GO waits join at the next fire where
TABLE_READY still reads 1 (R161, R184, R197). -/
def Dev.joinWaiting (d : Dev) : Dev :=
  let d1 := d.each (d.portsIn [4, 5]) fun d n => d.setPort n { d.port n with sync := true }
  let waits := (List.range 192).filter fun n => (d1.port n).joinAtEnable && d1.linkState n == 3
  d1.each waits fun d n => if d.bit .synCtrl n 0 then d.sendJoin n (d.fireIndex + 1) else
    d.setPort n { d.port n with joinAtEnable := false }

/-- Bring-up of a port is complete (step 7): a port that re-linked to the same head after a fault joins by itself
(R199). -/
def Dev.autoRejoin (d : Dev) (n : Nat) : Dev :=
  if (d.port n).rejoin && d.cfg .hlAutoRejoin 0 == 1 then (d.setPort n { d.port n with rejoin := false }).go n
  else d.setPort n { d.port n with rejoin := false }

/-- The head's HEAD_ID against the last one linked on the port (R199). DEDUCED (log 121). -/
def Dev.headCheck (d : Dev) (n : Nat) : Dev :=
  let id := d.get .headId n
  if (d.port n).lastHead = some id then d
  else ((d.setBit .synCtrl n 0 false).event .linkEvent n 5).setPort n
    { d.port n with lastHead := some id, rejoin := false, events := [0, 0, 0, 0, 0, 0] }

/-- STATE becomes LINKED (Table 7.9 step 6): configuration follows, then the measurement of PD on C2 and C3. -/
def Dev.linkUp (d : Dev) (n : Nat) : Dev :=
  let ver := d.fld .linkStatus n 27 2
  let w := d.fld .linkStatus n 24 3
  let d1 := ((d.setLink n 3).event .linkEvent n 2).put .maxFireHz n (maxFireHz ver w (d.isCompact n))
  let d2 := (d1.setPort n { d1.port n with stage := 7 }).headCheck n
  let deep := (d2.goodOf (.head n)).drop 1
  let d3 := (d2.each deep Dev.laneDeep).headSend n 0x08 [d2.cfg .hlSenseNz 0]
  if ver = 1 then d3.autoRejoin n else d3.startEcho n .bringUp

/-- The port relinks from step 5 at the largest width that the good lanes allow, or goes to DOWN with none (R201, R394). A
width that falls sets LINK_EVENT.DEGRADED. -/
def Dev.relinkWide (d : Dev) (n : Nat) : Dev :=
  if d.linkState n < 3 ∧ !(d.linkState n == 2 && decide (5 ≤ (d.port n).stage)) then d
  else if d.goodLanes n = 0 then d.linkDown n
  else
    let ver := d.fld .linkStatus n 27 2
    let was := d.fld .linkStatus n 24 3
    let w := d.chooseWidth n ver (d.fld .headCap n 4 4)
    let d1 := ((d.linkDownEvent n).count .hptRelinks n).maskFault n
    let d2 := d1.setPort n { d1.port n with unacked := [], outstanding := [], sent := [], echo := none, rejoin := true, slates := [],
                                            joinAtEnable := false }
    let d3 := ((d2.setLink n 2).setFld .linkStatus n 24 3 w).setBit .linkStatus n 23 (d2.chooseFmt n ver w)
    let d4 := (d3.setCredits n 0).noteOutstanding n
    let d5 := if w < was then d4.event .linkEvent n 4 else d4
    (d5.noteRetrain (d5.linkLanes n)).linkRetrain n

end Sys2Proof.Machine
end

