-- ==== Sys2Proof/Machine/PosOps.lean ====
section
/-! DEFINITION. Web position and fire timing: encoders, speed, interpolation, the comparator, sources, passes, fires and
stops (R53 to R87, R98 to R100). -/

namespace Sys2Proof.Machine

/-! ### Encoder inputs (R57 to R63) -/

/-- An encoder input. -/
def Dev.enc (d : Dev) (i : Nat) : EncInput := Tab.get d.pos.enc i EncInput.reset

/-- Set an encoder input. -/
def Dev.setEnc (d : Dev) (i : Nat) (x : EncInput) : Dev := { d with pos := { d.pos with enc := Tab.set d.pos.enc i x } }

/-- Q_r of an input. -/
def Dev.encCount (d : Dev) (i : Nat) : Int := d.getInt .posEncCount i

/-- DIR of an input: true is reverse. -/
def Dev.encReverse (d : Dev) (i : Nat) : Bool := d.bit .posEncStatus i 27

/-- CPL of an input in 2^-32 count. -/
def Dev.cplOf (d : Dev) (i : Nat) : Nat := d.cfg .cpl i

/-- The inputs that the image names: primary, then secondary (R86). -/
def Dev.encUsed (d : Dev) : List Nat :=
  let p := d.cfg .posPrimary 0
  let s := d.cfg .posSecondary 0
  if s < 8 ∧ s ≠ p then [p, s] else [p]

/-- An input is in service: named by the image and not lost (R82). -/
def Dev.inService (d : Dev) (i : Nat) : Bool := d.encUsed.contains i && !d.bit .posEncStatus i 31

/-- The other named input, if there is one. -/
def Dev.otherEnc (d : Dev) (i : Nat) : Option Nat := d.encUsed.find? fun j => j != i

/-- The active source. -/
def Dev.actSrc (d : Dev) : Nat := d.fld .posStatus 0 4 3

/-- The active source is in service and dead reckoning does not run. -/
def Dev.sourceLive (d : Dev) : Bool := d.inService d.actSrc && d.pos.dr.isNone

/-- Counts and the time across them that give the speed of an input: the last 2^SPEED_AVG periods, or fewer (R59). -/
def Dev.encSpeed (d : Dev) (i : Nat) : Option (Nat × Nat) :=
  let st := (d.enc i).stamps
  let n := min (2 ^ d.cfg .speedAvg 0) (st.length - 1)
  if (d.enc i).valid ∧ 1 ≤ n then some (n, st.getD 0 0 - st.getD n 0) else none

/-- What the position of an input is computed from. -/
def Dev.encBase (d : Dev) (i : Nat) : Option PosBase :=
  (d.encSpeed i).map fun v =>
    { tE := (d.enc i).stamps.getD 0 0, qr := d.encCount i, num := v.1, den := v.2, reverse := d.encReverse i,
      origin := (d.enc i).origin, cpl := d.cplOf i }

/-- Counts moved since t_e in 2^-32 count, to 1/4,096 count. -/
def PosBase.moved (b : PosBase) (t : Nat) : Int :=
  if b.den = 0 then 0 else (((t - b.tE) * b.num * 4096 / b.den : Nat) : Int) * 2 ^ 20

/-- P at an instant without the clamp of R63. -/
def PosBase.free (b : PosBase) (t : Nat) : Int :=
  if b.reverse then b.qr * 2 ^ 32 - b.moved t else b.qr * 2 ^ 32 + b.moved t

/-- P at an instant, clamped so that it never passes a count that has not arrived (R63). -/
def PosBase.clamped (b : PosBase) (t : Nat) : Int :=
  if b.reverse then max (b.free t) (b.qr * 2 ^ 32 - 2 ^ 32 + 2 ^ 20) else min (b.free t) (b.qr * 2 ^ 32 + 2 ^ 32 - 2 ^ 20)

/-- Lines in 2^-32 line from counts in 2^-32 count. -/
def linesOf (cpl : Nat) (p : Int) : Int := if cpl = 0 then 0 else p * 2 ^ 32 / cpl

/-- Counts in 2^-32 count from lines in 2^-32 line. -/
def countsOf (cpl : Nat) (l : Int) : Int := l * cpl / 2 ^ 32

/-- Position of an input in 2^-32 line at an instant. -/
def Dev.encPos (d : Dev) (i t : Nat) : Int :=
  match d.encBase i with
  | some b => linesOf b.cpl (b.clamped t - b.origin)
  | none => linesOf (d.cplOf i) (d.encCount i * 2 ^ 32 - (d.enc i).origin)

/-- Position of an input in 2^-32 line by its reported count alone (R81). -/
def Dev.encPosRaw (d : Dev) (i : Nat) : Int := linesOf (d.cplOf i) (d.encCount i * 2 ^ 32 - (d.enc i).origin)

/-- The web position in 2^-32 line at an instant (R64, R84). -/
def Dev.linePos (d : Dev) (t : Nat) : Int :=
  match d.pos.dr with
  | some b => linesOf b.cpl (b.free t - b.origin)
  | none => match d.pos.frozen with
    | some p => p
    | none => d.encPos d.actSrc t

/-- What the web position is computed from now. -/
def Dev.snap (d : Dev) : PosSnap :=
  match d.pos.dr with
  | some b => { time := d.now, base := some b, free := true, fixed := 0 }
  | none => { time := d.now, base := if d.pos.frozen.isSome then none else d.encBase d.actSrc, free := false,
              fixed := d.linePos d.now }

/-- The position that a snapshot gives at an instant. -/
def PosSnap.at (x : PosSnap) (t : Nat) : Int :=
  match x.base with
  | some b => linesOf b.cpl ((if x.free then b.free t else b.clamped t) - b.origin)
  | none => x.fixed

/-- The web position in 2^-32 line at an instant, as it was computed then (R63, R218). DEDUCED (log 44). -/
def Dev.linePosAt (d : Dev) (t : Nat) : Int :=
  match d.pos.track.find? fun x => decide (x.time ≤ t) with
  | some x => x.at t
  | none => d.linePos t

/-- Departure of the oldest trigger whose line is open. -/
def Dev.oldestLine (d : Dev) : Option Nat :=
  leastOf (d.ins.pipe.flatMap fun p => p.2.lines.map fun l => l.depart)

/-- The course of the position is kept while a camera line is open. -/
def Dev.noteTrack (d : Dev) : Dev :=
  let kept := match d.oldestLine with
    | none => []
    | some t => d.pos.track.takeWhile (fun x => decide (t < x.time)) ++ (d.pos.track.find? fun x => decide (x.time ≤ t)).toList
  { d with pos := { d.pos with track := d.snap :: kept } }

/-- The predicted instant in ps at which the position reaches a point in 2^-32 line. -/
def PosBase.reach (b : PosBase) (p : Int) : Nat :=
  let target := b.origin + countsOf b.cpl p
  let gap := if b.reverse then b.qr * 2 ^ 32 - target else target - b.qr * 2 ^ 32
  if b.num = 0 then b.tE else ((b.tE : Int) + gap * b.den / (b.num * 2 ^ 32)).toNat

/-- The position line now. -/
def Dev.posLineNow (d : Dev) : Int := d.linePos d.now / 2 ^ 32

/-- SPEED_VALID. -/
def Dev.speedValid (d : Dev) : Bool := d.bit .posStatus 0 2

/-- What speed and prediction are computed from now. -/
def Dev.base (d : Dev) : Option PosBase :=
  match d.pos.dr with
  | some b => some b
  | none => if d.sourceLive then d.encBase d.actSrc else none

/-- Signed speed in 1/1,024 line per second of counts over ps (R59), truncated. -/
def speedWord (b : PosBase) : Int :=
  if b.den = 0 ∨ b.cpl = 0 then 0
  else
    let v : Nat := b.num * 1024 * 10 ^ 12 * 2 ^ 32 / (b.den * b.cpl)
    if b.reverse then -(v : Int) else v

/-- Bring POS_SPEED, SPEED_VALID and DIR to the active source (R59 to R62, R84). Open frames close when SPEED_VALID
falls (R226). DEDUCED (log 20, 26). -/
def Dev.noteSpeed (d0 : Dev) : Dev :=
  let d := d0.noteTrack
  match d.base with
  | some b => ((d.put .posSpeed 0 (unsignedOf 32 (speedWord b))).setBit .posStatus 0 2 true).setBit .posStatus 0 3 b.reverse
  | none =>
    let d1 := if d.speedValid then d.closeFrames else d
    ((d1.put .posSpeed 0 0).setBit .posStatus 0 2 false).setBit .posStatus 0 3 (d.encReverse d.actSrc)

/-- Align an input's origin so that it reads a position in 2^-32 line at an instant (R81). DEDUCED (log 24). -/
def Dev.alignTo (d : Dev) (i t : Nat) (p : Int) : Dev :=
  let here := match d.encBase i with
    | some b => b.clamped t
    | none => d.encCount i * 2 ^ 32
  d.setEnc i { d.enc i with origin := here - countsOf (d.cplOf i) p }

/-- Each named input starts anew to watch the other one for XC_SILENT lines (Table 3.2). -/
def Dev.resetSilent (d : Dev) : Dev :=
  d.each d.encUsed fun d i => match d.otherEnc i with
    | some j => d.setEnc i { d.enc i with silentRef := d.encCount j }
    | none => d

/-- Align the inactive input, where it is in service (R81). -/
def Dev.alignOther (d : Dev) : Dev :=
  match d.otherEnc d.actSrc with
  | some j => if d.inService j then
      let d1 := d.alignTo j d.now (d.linePos d.now)
      { d1 with pos := { d1.pos with aligned := true } }
    else d
  | none => d

/-- The active source changes (Table 3.6). -/
def Dev.setSource (d : Dev) (i : Nat) : Dev :=
  let d1 := d.each (List.range 8) fun d j => d.setBit .posEncStatus j 29 (j == i)
  (d1.setFld .posStatus 0 4 3 i).noteSpeed

/-! ### Encoder repeat outputs (R85) -/

/-- The levels of EOUT follow the selected input; held while it is lost or dead reckoning runs. -/
def Dev.repeatOut (d : Dev) : Dev :=
  (List.range 4).foldl (fun d e =>
    let s := d.cfg .eoutSrc e
    let i := if s = 8 then d.actSrc else s
    if s = 15 then { d with pos := { d.pos with eout := Tab.set d.pos.eout e (false, false, false) } }
    else if d.bit .posEncStatus i 31 || d.pos.dr.isSome then d
    else
      let x := d.enc i
      { d with pos := { d.pos with eout := Tab.set d.pos.eout e (x.a, x.b, x.z) } }) d

/-! ### Binding, withdrawal and mirroring (R66, R67) -/

/-- The state that a BIND record carries (Table 12.3). -/
def Dev.bindRec (d : Dev) : BindRec :=
  { fireEn := d.fireEn, origin := (d.enc d.actSrc).origin, bindFire := d.get .posBindFire 0,
    bindLine := d.getInt .posBindLine 0, curPass := d.pos.curPass, armedPass := d.pos.armedPass,
    passCur := d.get .cmpPassCur 0, passNext := d.get .cmpPassNext 0, skips := d.get .posSkipCount 0,
    lost := (List.range 8).foldl (fun a i => a + if d.bit .posEncStatus i 31 then 2 ^ i else 0) 0,
    lockLine := if d.cmp.lockSet then some d.lockLine else none, leadLines := d.get .cmpLeadLines 0 }

/-- Mirror the binding. -/
def Dev.mirrorBind (d : Dev) : Dev := d.mirror (.bind d.bindRec)

/-- Record a binding of a fire to a line (R66). -/
def Dev.setBind (d : Dev) (f : Nat) (l : Int) : Dev := (d.put .posBindFire 0 (f % 2 ^ 48)).putInt .posBindLine 0 l

/-- Every row reader seeks to its new line, unless it is still in its buffer (R109). -/
def Dev.seekRows (d : Dev) : Dev :=
  d.each d.image.usedPorts fun d n => d.each (List.range 4) fun d j =>
    let x := d.rowBuf n j
    let keys := d.rowKeys n j (d.fireIndex + 1)
    let kept := x.lines.filter fun k => keys.contains k
    let seek := kept.isEmpty || kept.head? != keys.head?
    let y : RowBuf := { seeking := seek, taken := none, lines := if seek then [] else kept, held := [] }
    ((d.setRowBuf n j y).setBit .rpStatus (4 * n + j) 30 seek).fillRow n j (d.fireIndex + 1)

/-- A re-bind: the next fire index is bound to a line; batches for the old binding are withdrawn and open frames close
(R66, R67, R226). -/
def Dev.rebind (d : Dev) (l : Int) : Dev :=
  ((((d.setBind (d.fireIndex + 1) l).withdrawAll (d.fireIndex + 1)).seekRows).closeFrames).mirrorBind

/-! ### Stops (R68, R69, R491) -/

/-- FIRING returns to 0 once the last committed fire has passed (R69). -/
def Dev.noteFiring (d : Dev) : Dev :=
  let last := match d.pos.fires with
    | [] => 0
    | f :: _ => f.tF
  if d.fireEn then d else if last ≤ d.now then ((d.setBit .posStatus 0 0 false).issueSpoils).foldAll else d

/-- Inputs returned during dead reckoning take over when firing has stopped (R84). -/
def Dev.takeHeld (d : Dev) : Dev :=
  match d.pos.held with
  | [] => d
  | i :: _ =>
    let p := d.linePos d.now
    let d1 := (d.alignTo i d.now p)
    let d2 := { d1 with pos := { d1.pos with frozen := none, held := [] } }
    (d2.setSource i).alignOther

/-- Firing stops with a cause (R69, R491): 0 by the user, 1 to 4 of this chapter, 15 by another block. Cause 4, the end of
the fire index, stays until a cold reset (R27). Pending health entries fold, the crosstalk history reads as 0 and batches are
withdrawn (R145, R149, R192). DEDUCED (log 34). -/
def Dev.stopFiring (d : Dev) (cause : Nat) : Dev :=
  let was := d.fireEn
  let d1 := ((d.setBit .posCtrl 0 0 false).setFld .posStatus 0 12 4 (if d.pos.ended then 4 else cause))
  let d2 := if 1 ≤ cause ∧ cause ≤ 4 then d1.stopReq .pos else d1
  if was then (((d2.withdrawAll (d2.fireIndex + 1)).foldAll).noteFiring).mirrorBind else d2

/-- Another block stops firing. -/
def Dev.stopByOther (d : Dev) : Dev := if d.fireEn then d.stopFiring 15 else d

/-! ### Losing and regaining inputs (R82 to R84) -/

/-- Dead reckoning begins, or, with no valid speed, firing stops (R84). -/
def Dev.deadReckon (d : Dev) : Dev :=
  match d.pos.dr with
  | some _ => d
  | none =>
    match (if d.speedValid then d.encBase d.actSrc else none) with
    | some b =>
      let d1 := { d with pos := { d.pos with dr := some b, held := [] } }
      (((d1.setBit .posStatus 0 8 true).event .posEvent 0 5).stopReq .pos).noteSpeed
    | none =>
      let p := d.linePos d.now
      let d1 := { d with pos := { d.pos with frozen := some p } }
      (if d1.fireEn then d1.stopFiring 3 else d1).noteSpeed

/-- An input is lost (R82): the source switches, or dead reckoning begins. -/
def Dev.loseInput (d : Dev) (i : Nat) : Dev :=
  if d.bit .posEncStatus i 31 then d
  else
    let p := d.linePos d.now
    let was := d.encUsed.contains i
    let active := i == d.actSrc && d.pos.dr.isNone && d.pos.frozen.isNone
    let d0 := if was then d.setFld .posXcDiff 0 0 32 0 else d
    let d1 := ((d0.setBit .posEncStatus i 31 true).event .posEvent 0 3)
    let d2 := { d1 with pos := { d1.pos with held := d1.pos.held.filter fun j => j != i } }
    if !was then d2
    else if !active then d2.mirrorBind
    else match d2.otherEnc i with
      | some j =>
        if d2.inService j then
          (((d2.alignTo j d2.now p).setSource j).event .posEvent 0 4).mirrorBind
        else (d2.deadReckon).mirrorBind
      | none => (d2.deadReckon).mirrorBind

/-- The speed of an input is invalid, as after standstill (R60). -/
def Dev.forgetSpeed (d : Dev) (i : Nat) : Dev := d.setEnc i { d.enc i with stamps := [], valid := false }

/-- Dead reckoning ends (R84): firing stops with STOP_CAUSE 2, and the speed is invalid. DESIGN CHOICE (log 120). -/
def Dev.deadReckonEnd (d : Dev) : Dev :=
  match d.pos.dr with
  | none => d
  | some _ =>
    let p := d.linePos d.now
    let d1 := { d with pos := { d.pos with dr := none, frozen := some p } }
    let d2 := ((d1.setBit .posStatus 0 8 false).event .posEvent 0 6).raise .posDeadreckEnd 0
    (((d2.stopFiring 2).each d2.encUsed Dev.forgetSpeed).noteSpeed).takeHeld

/-- Writing 1 to LOST returns an input to service, aligned to the position in force (R82, R84). -/
def Dev.returnInput (d : Dev) (i : Nat) : Dev :=
  if !d.bit .posEncStatus i 31 then d
  else
    let d1 := d.setBit .posEncStatus i 31 false
    let d2 := (d1.setEnc i { d1.enc i with glitches := [], stamps := [], valid := false }).resetSilent
    if !d2.encUsed.contains i then d2
    else if d2.pos.dr.isSome then { d2 with pos := { d2.pos with held := d2.pos.held ++ [i] } }
    else if d2.pos.frozen.isSome then
      let d3 := d2.alignTo i d2.now (d2.linePos d2.now)
      (({ d3 with pos := { d3.pos with frozen := none } }.setSource i).alignOther).mirrorBind
    else if i = d2.actSrc then d2.noteSpeed
    else (d2.alignOther).mirrorBind

/-! ### The cross-check (R81) -/

/-- The difference of the two inputs in 1/4,096 line, secondary minus primary, saturating. DESIGN CHOICE (log 120). -/
def Dev.crossCheck (d : Dev) : Dev :=
  match d.encUsed with
  | [p, s] =>
    if d.pos.aligned ∧ d.inService p ∧ d.inService s then
      let x := clampInt ((d.encPosRaw s - d.encPosRaw p) / 2 ^ 20) (-(2 ^ 31)) (2 ^ 31 - 1)
      let d1 := d.put .posXcDiff 0 (unsignedOf 32 x)
      let exceeds := decide (d.cfg .xcTolQ12 0 < x.natAbs)
      let d2 := { d1 with pos := { d1.pos with xcOver := exceeds } }
      if exceeds && !d.pos.xcOver then (d2.event .posEvent 0 2).raise .posXcheck 0 else d2
    else d
  | _ => d

/-- A reported count of an input: the other one is lost when it has stayed silent for XC_SILENT lines (Table 3.2). -/
def Dev.checkSilent (d : Dev) (i : Nat) : Dev :=
  match d.otherEnc i with
  | none => d
  | some j =>
    let d1 := d.setEnc i { d.enc i with silentRef := d.encCount j }
    if d1.inService i && d1.inService j &&
        decide (d.cfg .xcSilent 0 * d.cplOf i ≤ (d1.encCount i - (d1.enc j).silentRef).natAbs * 2 ^ 32) then d1.loseInput j
    else d1

/-! ### Passes (R70, R71, R99) -/

/-- PASS of POS_STATUS (Table 3.5). DEDUCED (log 26). -/
def Dev.notePass (d : Dev) : Dev :=
  let started := decide (d.get .posBindFire 0 ≤ d.fireIndex)
  d.setFld .posStatus 0 10 2 (match d.pos.curPass with
    | none => 0
    | some _ => if !started then 1 else if d.pos.armedPass.isSome then 3 else 2)

/-- The first line of a pass. -/
def Pass.first (p : Pass) : Int := if p.reverse then p.hi - 1 else p.lo

/-- A pass becomes current: in scanning mode its first fire is bound to its first line (R66, R71).
DEDUCED (log 26); DESIGN CHOICE (log 120). -/
def Dev.startPass (d : Dev) (p : Pass) : Dev :=
  let d1 := ({ d with pos := { d.pos with curPass := some p, armedPass := none } }).put .cmpPassCur 0 p.number
  if !d.scanning then d1.notePass
  else
    let d2 := ({ d1 with pos := { d1.pos with cmpLine := p.first } }).setBind (d1.fireIndex + 1) p.first
    d2.notePass

/-- The current pass ends; the armed one becomes current (R71). DEDUCED (log 26). -/
def Dev.endPass (d : Dev) (aborted : Bool) : Dev :=
  let d1 := ((d.event .posEvent 0 7).setBit .posStatus 0 9 aborted).closeFrames
  match d1.pos.armedPass with
  | some q => d1.startPass q
  | none => ({ d1 with pos := { d1.pos with curPass := none } }).notePass

/-! ### Skipped lines (R67, R71) -/

/-- Position lines a to b − 1 are skipped: what each row would have printed there is spoiled. -/
def Dev.spoilSkipped (d : Dev) (a b : Int) (pass : Nat) : Dev :=
  let g := d.image
  d.cmp.regions.foldl (fun d r =>
    if d.scanning ∧ r.pass ≠ pass then d
    else d.each (d.liveStrips r) fun d s =>
      let p := r.stripParts s
      let ds := ((g.usedPorts.filter fun n => g.get .headFluid n == p.1 && (g.rowBands n).contains p.2.2).map fun n =>
        g.rowD n p.2.1).eraseDups
      ds.foldl (fun d (x : Nat) =>
        let lo := max r.l0 (a - (x : Int))
        let hi := min r.l1 (b - (x : Int))
        if lo < hi then d.spoil r s ((if r.reverse then r.ofsOf (hi - 1) else r.ofsOf lo)).toNat (hi - lo).toNat .skip
        else d) d) d

/-- Count lines as skipped. -/
def Dev.countSkips (d : Dev) (n : Nat) : Dev :=
  ((d.add32 .posSkipCount 0 n).event .posEvent 0 1).raise .posSkipped 0

/-- The pass is aborted by a reversal inside its window (R71). -/
def Dev.abortPass (d : Dev) : Dev :=
  match d.pos.curPass with
  | none => d
  | some p =>
    let m := d.pos.cmpLine
    let left := if p.reverse then (m - p.lo + 1).toNat else (p.hi - m).toNat
    let d1 := d.countSkips left
    let d2 := if p.reverse then d1.spoilSkipped p.lo (m + 1) p.number else d1.spoilSkipped m p.hi p.number
    ((d2.endPass true).withdrawAll (d2.fireIndex + 1)).mirrorBind

/-- Comparison resumes: compare values that the position has passed are skipped, and the next fire is bound to the first
line not yet passed (R67). -/
def Dev.skipPassed (d : Dev) : Dev :=
  if !d.fireEn then d
  else
    let m := d.pos.cmpLine
    let here := d.linePos d.now
    if !d.scanning then
      let next := here / 2 ^ 32 + 1
      if !d.bit .posStatus 0 3 && decide (m * 2 ^ 32 ≤ here) then
        let d1 := (d.countSkips (next - m).toNat).spoilSkipped m next 0
        ({ d1 with pos := { d1.pos with cmpLine := next } }).rebind next
      else d
    else match d.pos.curPass with
      | none => d
      | some p =>
        if p.reverse != d.bit .posStatus 0 3 then d
        else if p.reverse then
          let next := max (p.lo - 1) (-((-here) / 2 ^ 32) - 1)
          if here ≤ m * 2 ^ 32 ∧ next < m then
            let d1 := (d.countSkips (m - next).toNat).spoilSkipped (next + 1) (m + 1) p.number
            let d2 := { d1 with pos := { d1.pos with cmpLine := next } }
            if next < p.lo then (d2.endPass false).withdrawAll (d2.fireIndex + 1) else d2.rebind next
          else d
        else
          let next := min p.hi (here / 2 ^ 32 + 1)
          if m * 2 ^ 32 ≤ here ∧ m < next then
            let d1 := (d.countSkips (next - m).toNat).spoilSkipped m next p.number
            let d2 := { d1 with pos := { d1.pos with cmpLine := next } }
            if p.hi ≤ next then (d2.endPass false).withdrawAll (d2.fireIndex + 1) else d2.rebind next
          else d

/-! ### Fires (R65, R68, R73, R77) -/

/-- C for a line number in the counts of a base, in 2^-32 count (R65). -/
def PosBase.cmp (b : PosBase) (m : Int) : Int := b.origin + m * b.cpl

/-- Predicted fire instant of the comparator in ps, to 50 ps (R73). -/
def PosBase.fireAt (b : PosBase) (m : Int) : Nat :=
  let gap := if b.reverse then b.qr * 2 ^ 32 - b.cmp m else b.cmp m - b.qr * 2 ^ 32
  if b.num = 0 then b.tE
  else (((b.tE : Int) + gap * b.den / (b.num * 2 ^ 32)) / 50 * 50).toNat

/-- A fire can be made at the comparator now: enabled, speed valid, in the right direction and inside the window (R62,
R65, R71). DESIGN CHOICE (log 120). -/
def Dev.canFire (d : Dev) : Option PosBase :=
  if !d.fireEn ∨ d.pos.ended ∨ d.fld .pwrStatus 0 29 3 ≠ 0 then none
  else match d.base with
    | none => none
    | some b =>
      if !d.scanning then (if b.reverse then none else some b)
      else match d.pos.curPass with
        | none => none
        | some p => if p.reverse = b.reverse ∧ p.lo ≤ d.pos.cmpLine ∧ d.pos.cmpLine < p.hi then some b else none

/-- Instant of the commit of a fire instant: SLATE_LEAD_NS and 96 ns before it (R73). DEDUCED (log 20, 36). -/
def Dev.commitOf (d : Dev) (tF : Nat) : Nat := tF - (d.cfg .slateLeadNs 0 + 96) * 1000

/-- Lag in 1/4,096 line of a time in ps at a speed (R68). -/
def PosBase.lagQ12 (b : PosBase) (ps : Nat) : Nat := if b.den = 0 ∨ b.cpl = 0 then 0 else ps * b.num * 2 ^ 44 / (b.den * b.cpl)

/-- A deferral (R68). -/
def Dev.noteDeferral (d : Dev) : Dev :=
  let d1 := d.count .posDeferCount 0
  if d.bit .posStatus 0 7 then d1
  else (((d1.setBit .posStatus 0 7 true).event .posEvent 0 0).raise .posOverspeed 0).speedReq .pos

/-! ### What a commit sends and checks for the partner (R324 to R326, R329) -/

/-- A batch of a port is comparable at this controller. -/
def Dev.comparable (d : Dev) (n f : Nat) : Bool :=
  let x := d.syn' n
  d.portFiring n && decide (d.get .joinFire n + 4 ≤ f) &&
    (List.range 4).all fun k => (Tab.find x.mirrored (f - k)).getD false

/-- The CRC record of a fire, sent by the active controller (Table 12.3). -/
def Dev.crcRecord (d : Dev) (f : Nat) : MirrorRec :=
  .crc f (((List.range 192).filter fun n => d.comparable n f).foldl (fun a n => a + 2 ^ n) 0)
    ((List.range 192).map fun n => (Tab.find (d.syn' n).crcs f).getD 0)

/-- A re-run for which no spare engine has come free within 16 fire cycles leaves the standby unfit (Table 12.4). -/
def Dev.rerunTimeout (d : Dev) (f : Nat) : Dev :=
  let old := fun (x : Nat × Nat × Option Nat × Nat) => x.2.2.1.isNone && decide (x.2.2.2 + 16 ≤ f)
  if d.ptn.rerun.any old then
    { d with ptn := { d.ptn with rerun := d.ptn.rerun.filter fun x => !old x } }.setUnfit 3 true
  else d

/-- A surrender whose F_s has been committed: WITHDRAW from F_s on; a controller in LEAVING then stops its links and goes
OFF (R329, R333). -/
def Dev.surrenderAt (d : Dev) (f : Nat) : Dev :=
  if d.ptn.withdrawAt = some f then
    let d1 := { d with ptn := { d.ptn with withdrawAt := none } }.withdrawAll f
    if d1.role = 4 then
      let d2 := d1.each (List.range 192) fun d n => if d.linkState n = 0 then d else d.linkRestart n 0
      ({ d2 with ptn := { d2.ptn with removeOk := true } }).setFld .ptnStatus 0 29 3 5
    else d1
  else d

/-- A fire is committed (R73): its index is assigned and the comparator advances by CPL.
DEDUCED (log 19); DESIGN CHOICE (log 120). -/
def Dev.commitFire (d : Dev) (tF : Nat) (tQ : Option Nat) (reverse : Bool) : Dev :=
  let f := d.fireIndex + 1
  let late := tQ.isSome || decide (d.commitOf tF < d.now)
  let m := d.pos.cmpLine
  let last := d.pos.fires.head?
  let fire : Fire := { index := f, tF := tF, tQ := tQ, line := m, reverse := reverse,
                       pass := if d.scanning then (d.pos.curPass.map fun p => p.number).getD 0 else 0 }
  let d1 := ((d.put .posFireIndex 0 f).setBit .posStatus 0 0 true).allocSlates f tF late
  let d2 := match last with
    | some x => d1.put .posFirePeriod 0 ((tF - x.tF) / 50 % 2 ^ 32)
    | none => d1
  let d3 := { d2 with pos := { d2.pos with fires := (fire :: d2.pos.fires).take 64,
                                           cmpLine := if reverse then m - 1 else m + 1 } }
  let dj := if f % 2 ^ 20 = 0 then d3.journal (.epoch f) else d3
  let d4 := (((((dj.mirror (.commit f m)).mirror (dj.crcRecord f)).rerunTimeout f).checkRate).surrenderAt f)
  let d5 := d4.each ((List.range 192).filter fun n => (d4.port n).faulted) fun d n => d.spoilPort n f .underrun
  let d6 := d5.flushSpoils
  let d7 := match d6.pos.curPass with
    | some p => if d6.scanning ∧ (if p.reverse then m = p.lo else m = p.hi - 1) then (d6.endPass false).mirrorBind
        else d6.notePass
    | none => d6
  if f = 2 ^ 48 - 1 then
    ({ d7 with pos := { d7.pos with ended := true } }.raise .fireIndexEnd 0).stopFiring 4
  else d7

/-- A fire is due at an instant: deferred where it comes too soon, not made at all where its lag would be too large
(R68). DESIGN CHOICE (log 120). -/
def Dev.makeFire (d : Dev) (b : PosBase) (tF : Nat) (tQ : Option Nat) : Dev :=
  match d.pos.fires.head? with
  | some x =>
    if tF < x.tF + 5000000 then
      if d.cfg .ovsLagQ12 0 < b.lagQ12 (x.tF + 5000000 - tF) then d.stopFiring 1
      else (d.noteDeferral).commitFire (x.tF + 5000000) tQ b.reverse
    else d.commitFire tF tQ b.reverse
  | none => d.commitFire tF tQ b.reverse

/-- The instant of a fire after any deferral (R68). -/
def Dev.dueAt (d : Dev) (tF : Nat) : Nat :=
  match d.pos.fires.head? with
  | some x => max tF (x.tF + 5000000)
  | none => tF

/-- The scheduled fire at the comparator, if one can be made. -/
def Dev.scheduledFire (d : Dev) : Dev :=
  match d.canFire with
  | none => d
  | some b =>
    let tF := b.fireAt d.pos.cmpLine
    (d.at (d.commitOf (d.dueAt tF))).makeFire b tF none

/-- Fires whose commit instant a new count has put into the past are committed at once (R73). -/
def Dev.lateCommits : Nat → Dev → Dev
  | 0, d => d
  | n + 1, d =>
    match d.canFire with
    | none => d
    | some b =>
      let tF := b.fireAt d.pos.cmpLine
      if d.commitOf (d.dueAt tF) ≤ d.now then Dev.lateCommits n (d.makeFire b tF none) else d

/-- Direct mode (R77): the count that brings Q_r to or past C makes the fire due now. The heads fire 32 ns plus PD_MAX
after it. -/
def Dev.directFires : Nat → Dev → Dev
  | 0, d => d
  | n + 1, d =>
    match d.canFire with
    | none => d
    | some b =>
      let c := b.cmp d.pos.cmpLine
      let reached := if b.reverse then decide (b.qr * 2 ^ 32 ≤ c) else decide (c ≤ b.qr * 2 ^ 32)
      if reached then
        let pdMax := ((d.portsIn [5]).filter fun p => d.fld .linkStatus p 27 2 == 3).foldl
          (fun a p => max a (d.fld .posPortDelay p 0 16)) 0
        Dev.directFires n (d.makeFire b (d.now + 32000 + 50 * pdMax) (some d.now))
      else d

/-- Direct mode is in force: dead reckoning schedules its fires (R77). -/
def Dev.directMode (d : Dev) : Bool := d.cfg .fireMode 0 == 1 && d.pos.dr.isNone

/-- The position stands at another line: the lock line, and blocks that retire (R98, R100). -/
def Dev.lineMoved (d : Dev) : Dev :=
  let line := d.posLineNow
  if d.img.active.isSome then (d.lockAhead line).retireBlocks line else d

/-- What follows a change of position: the lock line, blocks that retire, fires that have become due. -/
def Dev.positionMoved (d : Dev) : Dev :=
  let d0 := d.lineMoved
  let d1 := if d.firing then d0 else d0.flushSpoils
  if d1.directMode then Dev.directFires 32 d1 else Dev.lateCommits 32 d1

end Sys2Proof.Machine
end

