-- ==== Sys2Proof/Machine/BlockOps.lean ====
section
/-! DEFINITION. The end of the ingest check of a block, and the wait for the partner (R94, R95, R322). -/

namespace Sys2Proof.Machine

/-- A block lies wholly beyond the lock line (R94). -/
def Dev.beyondLock (d : Dev) (r : Region) (strip first : Nat) : Bool :=
  decide ((r.strip strip).lockedTo ≤ first) && !(!d.scanning && d.cmp.lockSet && decide (r.lineAt first ≤ d.lockLine))

/-- A job ends in a refusal: its heap space comes back and its entry completes with the code, W2 holding the REASON of a
format refusal. -/
def Dev.ingestFail (d : Dev) (j : IngestJob) (e : ECode) (body : List Nat) : Dev :=
  let d1 := match d.region? j.region with
    | some r => d.setRegion (r.heapFree j.heapOff)
    | none => d
  ((d1.complete j.slot j.tag 0x20 e.code.toNat body).raise e j.slot).afterRetire

/-- A job that has passed: its block is RESIDENT, and a block it replaces gives its heap space back; one that the lock line
has reached meanwhile is late (R94, R95, R277). -/
def Dev.ingestStore (d : Dev) (j : IngestJob) : Dev :=
  match d.region? j.region with
  | none => d.ingestFail j .regionOwner []
  | some r =>
    if !d.beyondLock r j.strip j.first then d.ingestFail j .blockLate []
    else if r.endOfs < j.first + j.lines ∨ j.first < r.firstOfs then d.ingestFail j .regionBounds []
    else
      let t := r.strip j.strip
      let r1 := match t.entries.find? fun e => e.first == j.first with
        | some e => r.heapFree e.heapOff
        | none => r
      let e : BlockEntry := { first := j.first, lines := j.lines, state := .resident, isLocked := false,
                              heapOff := j.heapOff, heapLen := j.heapLen, sealedBytes := j.sealedBytes }
      let d1 := d.setRegion { r1 with strips := Tab.set r1.strips j.strip { t with entries := insertEntry e t.entries } }
      d1.complete j.slot j.tag 0x20 0 []

/-- A block of a MIRROR = 1 context goes to the partner and waits for its ACK (R322). -/
def Dev.ingestMirror (d : Dev) (j : IngestJob) : Dev :=
  let d1 := { d with ptn := { d.ptn with blocks := d.ptn.blocks ++ [(d.ptn.txSeq, j)] } }
  d1.mirror (.block j.slot j.region j.strip j.first j.lines j.heapLen j.sealedBytes)

/-- The partner has acknowledged records that a test names: blocks and completions that waited go on (R322). -/
def Dev.partnerAcked (d : Dev) (ok : Nat → Bool) : Dev :=
  let ready := d.ptn.blocks.filter fun b => ok b.1
  let d1 := { d with ptn := { d.ptn with blocks := d.ptn.blocks.filter fun b => !ok b.1 } }
  (ready.foldl (fun d b => d.ingestStore b.2) d1).releaseWaits ok

end Sys2Proof.Machine
end

