-- ==== Sys2Proof/Machine/CtlOps.lean ====
section
/-! DEFINITION. Control loops and axes: the law, the low-speed serial ports, the planner and the serial buses of the axes
(R360 to R384). -/

namespace Sys2Proof.Machine

/-! ### Loops -/

/-- A loop. -/
def Dev.ctl' (d : Dev) (l : Nat) : LoopCtl := Tab.get d.ctl.loop l LoopCtl.reset
def Dev.setCtl (d : Dev) (l : Nat) (x : LoopCtl) : Dev := { d with ctl := { d.ctl with loop := Tab.set d.ctl.loop l x } }

/-- STATE of a loop (Table 14.7): 0 WAIT, 1 RUN, 2 STALE, 3 HOLD, 4 SAFE. -/
def Dev.loopSt (d : Dev) (l : Nat) : Nat := d.fld .ctlLoopStatus l 29 3

/-- Set STATE; INT_FROZEN follows it (Table 14.2). -/
def Dev.setLoopSt (d : Dev) (l st : Nat) : Dev :=
  (d.setFld .ctlLoopStatus l 29 3 st).setBit .ctlLoopStatus l 24 (decide (2 ≤ st))

/-- A loop is enabled. -/
def Dev.loopOn (d : Dev) (l : Nat) : Bool := d.cfg .loopEn l == 1

/-- Enabled loops. -/
def Dev.loopsOn (d : Dev) : List Nat := (List.range 256).filter d.loopOn

/-- A part of a field of a loop. -/
def Dev.cfgBits (d : Dev) (f : Field) (inst lsb w : Nat) : Nat := bits (d.cfg f inst) lsb w
def Dev.cfgSigned (d : Dev) (f : Field) (inst lsb w : Nat) : Int := signedOf w (d.cfgBits f inst lsb w)

/-- FB_SRC of a loop: head (1) or LSP (2), port and channel; OUT_DST. -/
def Dev.fbSource (d : Dev) (l : Nat) : Nat × Nat × Nat := (d.cfgBits .fbSrc l 30 2, d.cfgBits .fbSrc l 16 8, d.cfgBits .fbSrc l 0 8)
def Dev.outPort (d : Dev) (l : Nat) : Nat × Nat := (d.cfgBits .outDst l 16 3, d.cfgBits .outDst l 0 7)

/-- UMIN, UMAX, SAFE_OUT and SAFE_MODE. -/
def Dev.umin (d : Dev) (l : Nat) : Int := d.cfgSigned .ulim l 0 16
def Dev.umax (d : Dev) (l : Nat) : Int := d.cfgSigned .ulim l 16 16
def Dev.safeOut (d : Dev) (l : Nat) : Int := d.cfgSigned .loopSafe l 0 16
def Dev.capping (d : Dev) (l : Nat) : Bool := d.cfgBits .loopSafe l 31 1 == 1

/-- PERIOD_US in ps. -/
def Dev.loopPeriod (d : Dev) (l : Nat) : Nat := d.cfg .periodUs l * 1000000

/-- This controller drives LSP, ASB and the axes (R380). -/
def Dev.drives (d : Dev) : Bool := d.role == 0 || d.role == 1

/-- The 40 bits of an outbound frame: the command word and its CRC-8 (R360). -/
def lspBits (w : Nat) : Nat := w <<< 8 + crcMsb 8 0x07 0 (beBytes w 4)

/-- A low-speed serial port. -/
def Dev.lspPort (d : Dev) (p : Nat) : LspPort := Tab.get d.ctl.lsp p LspPort.reset
def Dev.setLsp (d : Dev) (p : Nat) (x : LspPort) : Dev := { d with ctl := { d.ctl with lsp := Tab.set d.ctl.lsp p x } }

/-- Write an output: it stands in STATUS.OUT and goes out in the port's next frame (R361). -/
def Dev.loopOut (d : Dev) (l : Nat) (u : Int) : Dev :=
  let d1 := d.setFld .ctlLoopStatus l 0 16 (unsignedOf 16 u)
  let o := d.outPort l
  if d1.drives then
    let x := d1.lspPort o.1
    d1.setLsp o.1 { x with writes := (x.writes.filter fun w => w.1 != o.2) ++ [(o.2, u)] }
  else d1

/-- The feedback is frozen: a run of FROZEN_M samples of identical value, where NOISE_FLOOR declares it (R369). -/
def Dev.fbFrozen (d : Dev) (l : Nat) : Bool := d.cfg .noiseFloor l != 0 && decide (d.cfg .frozenM l ≤ (d.ctl' l).same)

/-- The newest sample is stale at an instant (R369). -/
def Dev.fbStale (d : Dev) (l t : Nat) : Bool :=
  match (d.ctl' l).stamp with
  | none => true
  | some a => decide (a + 2 * d.loopPeriod l < t)

/-- An Int of 48 bits, or a free value where the spec states no result. DEDUCED (log 81). -/
def Dev.fit48 (d : Dev) (x : Int) : Int :=
  if -(2 ^ 47) ≤ x ∧ x < 2 ^ 47 then x else signedOf 48 (d.free 48)

/-- φ of the repetitive term in 1/65,536 unit: none while it is off or its source stands still (R366, R367). -/
def Dev.rcPhase (d : Dev) (l : Nat) : Option Int :=
  let src := d.cfgBits .rcCfg l 28 4
  let period : Int := d.cfgBits .rcPeriod l 32 32 * 65536 + d.cfgBits .rcPeriod l 0 16
  if src < 8 then
    let moving := match (d.enc src).lastStamp with
      | some t => decide (d.now ≤ t + 10000000000)
      | none => false
    if moving then some (((d.encCount src - signedOf 32 (d.get .posEncZlatch src)) * 65536) % period) else none
  else if src = 8 then (if d.speedValid then some ((d.linePos d.now / 65536) % period) else none)
  else none

/-- Bin of the phase. -/
def Dev.rcBin (d : Dev) (l : Nat) : Option Nat :=
  let period : Int := d.cfgBits .rcPeriod l 32 32 * 65536 + d.cfgBits .rcPeriod l 0 16
  (d.rcPhase l).map fun p => (p * 256 / period).toNat

/-- ff (R365): FF_SRC 0 is the setpoint, 1 the forecast of a port in FIRING; the spec states no ff_in for another.
DEDUCED (log 81). -/
def Dev.feedForward (d : Dev) (l : Nat) (sp : Int) : Int :=
  let src := d.cfgBits .ff l 62 2
  let n := d.cfgBits .ff l 48 8
  let x : Int := if src = 0 then sp
    else if src = 1 then
      (if d.portFiring n then ((((d.syn' n).energy.head?).map fun e => e.2).getD 0 : Nat) else 0)
    else signedOf 16 (d.drawn.free 16)
  (d.cfgSigned .ff l 0 32 * x + 0x8000) / 65536 + d.cfgSigned .ff l 32 16

/-- A bin of the repetitive table. -/
def LoopCtl.bin (x : LoopCtl) (b : Nat) : Int := Tab.get x.bins b 0

/-- What one evaluation computes (R365). -/
structure LawResult where
  u : Int
  i : Int
  dterm : Int
  e : Int
  deriving DecidableEq, Repr

/-- p, d, rc and ff of an evaluation; in STALE d is not updated (Table 14.2). -/
def Dev.lawTerms (d : Dev) (l : Nat) (frozen : Bool) : Int × Int × Int × Int × Int :=
  let x := d.ctl' l
  let sp := signedOf 16 (d.fld .ctlLoopSp l 0 16)
  let e := sp - x.sample
  let p := d.cfgInt .kp l * e
  let dt := if frozen then x.dterm
    else d.fit48 (x.dterm + (d.cfgInt .kd l * (x.yPrev - x.sample) - x.dterm) / 2 ^ d.cfg .dshift l)
  let rc := match d.rcBin l with
    | some b => x.bin ((b + d.cfgBits .rcCfg l 16 8) % 256)
    | none => 0
  (e, p, dt, rc, d.feedForward l sp)

/-- The control law (R365). -/
def Dev.law (d : Dev) (l : Nat) (frozen : Bool) : LawResult :=
  let (e, p, dt, rc, ff) := d.lawTerms l frozen
  let lo := d.umin l
  let hi := d.umax l
  let i := d.getInt .ctlLoopInt l
  let ke := d.cfgInt .ki l * e
  let it := if frozen then i else i + ke
  let v := (p + it + dt + rc + 0x8000) / 65536 + ff
  let wind := !frozen && ((decide (hi < v) && decide (0 < ke)) || (decide (v < lo) && decide (ke < 0)))
  let it2 := if wind then i else it
  let v2 := if wind then (p + i + dt + rc + 0x8000) / 65536 + ff else v
  { u := clampInt v2 lo hi, i := clampInt it2 (lo * 65536) (hi * 65536), dterm := dt, e := e }

/-- The repetitive table learns (R367). -/
def Dev.rcLearn (d : Dev) (l b : Nat) (e : Int) : Dev :=
  let x := d.ctl' l
  let c1 := x.bin b + d.cfgInt .rcGain l * e
  let forget := d.cfgBits .rcCfg l 8 4
  let c2 := if forget = 0 then c1 else c1 - c1 / 2 ^ forget
  let lim : Int := (d.cfg .rcLim l : Int) * 65536
  d.setCtl l { x with bins := Tab.set x.bins b (clampInt c2 (-lim) lim) }

/-- i of a standby, set so that its output equals the last value the active controller wrote (R380). -/
def Dev.shadowInt (d : Dev) (l : Nat) (frozen : Bool) (r : LawResult) : Int :=
  match Tab.find d.ctl.heard (d.outPort l) with
  | none => r.i
  | some u =>
    let (_, p, dt, rc, ff) := d.lawTerms l frozen
    clampInt ((u - ff) * 65536 - p - dt - rc) (d.umin l * 65536) (d.umax l * 65536)

/-- An evaluation by the law, with the integrator frozen in STALE (R365, R367, R380). -/
def Dev.evaluate (d : Dev) (l : Nat) (frozen : Bool) : Dev :=
  let r := d.law l frozen
  let i := if d.drives then r.i else d.shadowInt l frozen r
  let u := if d.drives then r.u else (Tab.find d.ctl.heard (d.outPort l)).getD r.u
  let d1 := d.drawn.drawn.setCtl l { d.ctl' l with dterm := r.dterm, yPrev := (d.ctl' l).sample }
  let d2 := (d1.putInt .ctlLoopInt l i).loopOut l (clampInt u (d.umin l) (d.umax l))
  let d3 := d2.setBit .ctlLoopStatus l 25 (d.rcBin l).isSome
  match d.rcBin l with
  | some b => if frozen then d3 else d3.rcLearn l b r.e
  | none => d3

/-- HOLD is entered (R370). -/
def Dev.enterHold (d : Dev) (l : Nat) (stale frozen : Bool) : Dev :=
  let d1 := (d.setLoopSt l 3).setCtl l { d.ctl' l with fresh := 0 }
  let d2 := if stale then ((d1.setBit .ctlLoopStatus l 28 true).count .ctlLoopStale l).raise .ctlFbStale l else d1
  let d3 := if frozen then ((d2.setBit .ctlLoopStatus l 27 true).count .ctlLoopFrozen l).raise .ctlFbFrozen l else d2
  d3.event .ctlEvent 0 1

/-- An evaluation in RUN (R369): stale feedback moves the loop to STALE, a frozen run to HOLD. -/
def Dev.evalRun (d : Dev) (l : Nat) (stale frozen : Bool) : Dev :=
  if frozen then d.enterHold l stale true
  else if !stale then d.evaluate l false
  else if d.cfg .staleN l ≤ 1 then d.enterHold l true false
  else ((d.setLoopSt l 2).setCtl l { d.ctl' l with stale := 1, fresh := 0 }).evaluate l true

/-- An evaluation in STALE (R369, R370). -/
def Dev.evalStale (d : Dev) (l : Nat) (stale frozen : Bool) : Dev :=
  let x := d.ctl' l
  if stale then
    if d.cfg .staleN l ≤ x.stale + 1 then d.enterHold l true frozen
    else (d.setCtl l { x with stale := x.stale + 1, fresh := 0 }).evaluate l true
  else if frozen then (d.setCtl l { x with stale := 0, fresh := 0 }).evaluate l true
  else if d.cfg .recoverN l ≤ x.fresh + 1 then ((d.setLoopSt l 1).setCtl l { x with stale := 0, fresh := 0 }).evaluate l false
  else (d.setCtl l { x with stale := 0, fresh := x.fresh + 1 }).evaluate l true

/-- An evaluation in HOLD (R369, R370). -/
def Dev.evalHold (d : Dev) (l : Nat) (stale frozen : Bool) : Dev :=
  let x := d.ctl' l
  if stale ∨ frozen then d.setCtl l { x with fresh := 0 }
  else if d.cfg .recoverN l ≤ x.fresh + 1 then ((d.setLoopSt l 1).setCtl l { x with stale := 0, fresh := 0 }).evaluate l false
  else d.setCtl l { x with fresh := x.fresh + 1 }

/-- One evaluation at an instant (Table 14.2). DEDUCED (log 82). -/
def Dev.evalLoop (d : Dev) (l t : Nat) : Dev :=
  let stale := d.fbStale l t
  let frozen := d.fbFrozen l
  let st := d.loopSt l
  if st = 1 then d.evalRun l stale frozen
  else if st = 2 then d.evalStale l stale frozen
  else if st = 3 then d.evalHold l stale frozen
  else if st = 4 then d.loopOut l (d.safeOut l)
  else if (d.ctl' l).safeOut = some (d.safeOut l) then d
  else (d.setCtl l { d.ctl' l with safeOut := some (d.safeOut l) }).loopOut l (d.safeOut l)

/-- A missed evaluation (R368): E_CTL_MISSED at most once per second. -/
def Dev.missLoop (d : Dev) (l : Nat) : Dev :=
  let d1 := ((d.setBit .ctlLoopStatus l 26 true).count .ctlLoopMissed l).event .ctlEvent 0 0
  if dueAgain d1.now (d1.ctl' l).lastMissed then
    (d1.setCtl l { d1.ctl' l with lastMissed := some d1.now }).raise .ctlMissed l
  else d1

/-- A sample arrives for a loop (R363): accepted by its freshness sequence, or discarded; WAIT ends at the first one. -/
def Dev.loopSample (d : Dev) (l fseq : Nat) (v : Int) : Dev :=
  let x := d.ctl' l
  let ok := match x.fseq with
    | none => true
    | some f => decide (1 ≤ (fseq + 256 - f) % 256 ∧ (fseq + 256 - f) % 256 ≤ 127)
  if ok then
    let same := if x.stamp.isSome ∧ x.sample = v then x.same + 1 else 1
    let d1 := d.setCtl l { x with fseq := some fseq, sample := v, stamp := some d.now, same := same }
    let d2 := d1.put .ctlLoopFb l (fseq <<< 16 + unsignedOf 16 v)
    if d2.loopSt l = 0 then d2.setLoopSt l 1 else d2
  else d.count .ctlLoopSeqDiscard l

/-- A sample of a channel of a head (1) or of a low-speed serial port (2) reaches the loops it feeds. -/
def Dev.sampleFor (d : Dev) (kind port chan fseq : Nat) (v : Int) : Dev :=
  d.each (d.loopsOn.filter fun l => d.fbSource l == (kind, port, chan)) fun d l => d.loopSample l fseq v

/-- After a link-up the first sample of a head's channels is accepted with any FSEQ (R363), and SAMPLE_CFG asks for each
channel with the period of the fastest loop that uses it (R362). -/
def Dev.sampleCfg (d : Dev) (n : Nat) : Dev :=
  let ls := d.loopsOn.filter fun l => (d.fbSource l).1 == 1 && (d.fbSource l).2.1 == n
  if ls.isEmpty then d
  else
    let d1 := d.each ls fun d l => d.setCtl l { d.ctl' l with fseq := none }
    let chans := (ls.map fun l => (d.fbSource l).2.2).eraseDups
    let body := chans.map fun c =>
      let ps := (ls.filter fun l => (d.fbSource l).2.2 == c).map fun l => d.cfg .periodUs l
      c <<< 24 + (leastOf ps).getD 0
    d1.headSend n 0x09 body

/-- The loops of an image that has just become active: every one starts in WAIT with its SP field. DEDUCED (log 82). -/
def Dev.startLoops (d : Dev) : Dev :=
  let d1 := { d with ctl := { d.ctl with loop := [], lsp := [], heard := [] } }
  let rate := d1.loopsOn.foldl (fun (a : Nat × Nat) l =>
    (a.1 * d1.cfg .periodUs l + 1000000 * a.2, a.2 * d1.cfg .periodUs l)) (0, 1)
  (d1.each (List.range 256) fun d l =>
    (((d.put .ctlLoopStatus l 0).putInt .ctlLoopInt l 0).put .ctlLoopSp l (d.cfgBits .loopSp l 0 16)).put .ctlLoopFb l 0).put
      .ctlLoad 0 (min (2 ^ 23 - 1) (rate.1 / rate.2))

/-- A loop with SAFE_MODE 1 in WAIT or SAFE keeps a port out of FIRING (R371). -/
def Dev.loopMasks (d : Dev) (n : Nat) : Option Nat :=
  d.loopsOn.find? fun l => d.capping l && (d.loopSt l == 0 || d.loopSt l == 4) && bitOf (d.cfg .headMask l) n

/-! ### Axes -/

/-- An axis. -/
def Dev.axis (d : Dev) (a : Nat) : Axis := Tab.get d.ctl.axis a Axis.reset

/-- Set an axis; MOVING, HOMING, QUEUED, POS and VEL show it (Tables 14.9 and 14.10). -/
def Dev.setAxis (d : Dev) (a : Nat) (x : Axis) : Dev :=
  let d1 := { d with ctl := { d.ctl with axis := Tab.set d.ctl.axis a x } }
  let d2 := (d1.setBit .ctlAxStatus a 30 (x.vel != 0)).setBit .ctlAxStatus a 29 x.homing.isSome
  let d3 := d2.setFld .ctlAxStatus a 17 7 x.queue.length
  (d3.put .ctlAxPos a (unsignedOf 32 (x.pos / 1000000000000))).put .ctlAxVel a (unsignedOf 32 (x.vel / 1000000))

/-- POS_LOST. -/
def Dev.posLost (d : Dev) (a : Nat) : Bool := d.bit .ctlAxStatus a 31

/-- The axis stops at once: the queue is emptied and POS_LOST is set (R376). -/
def Dev.axisStop (d : Dev) (a : Nat) : Dev :=
  let x := d.axis a
  let y : Axis := { x with queue := [], vel := 0, pos := x.pos / 1000000000000 * 1000000000000, joint := none, halting := false,
                           homing := none, resting := false }
  (d.setAxis a y).setBit .ctlAxStatus a 31 true

/-- A fault of Table 14.4 stops the axis. -/
def Dev.axisFault (d : Dev) (a : Nat) : Dev :=
  (((d.axisStop a).setBit .ctlAxStatus a 28 true).event .ctlEvent 0 3).raise .axFault a

/-- Homing fails (R377). DEDUCED (log 83). -/
def Dev.homeFail (d : Dev) (a : Nat) : Dev :=
  (((d.axisStop a).setBit .ctlAxStatus a 28 true).event .ctlEvent 0 4).raise .axHome a

/-- Square of the velocity at the end of the first of some moves (R375), in steps²/s²: 0 at the last one, and at a joint
that does not blend or turns; otherwise what both moves allow and what the rest of the queue can stop from. -/
def jointSq (from_ : Int) : List Move → Nat
  | [] => 0
  | [_] => 0
  | m :: n :: rest =>
    let way := m.target - from_
    let next := n.target - m.target
    if m.blend && decide (0 < way * next) then
      min (min (m.v * m.v) (n.v * n.v)) (jointSq m.target (n :: rest) + 2 * n.a * next.natAbs)
    else 0

/-- What the axis is doing: the point it heads for in 10^-12 step (none where only an edge ends it), its velocity limit in
10^-6 step/s, its acceleration in steps/s², the square of the velocity at the end in steps²/s², and its direction. -/
structure Leg where
  dest : Option Int
  limit : Nat
  acc : Nat
  endSq : Nat
  reverse : Bool
  deriving DecidableEq, Repr

/-- Direction of homing. -/
def Dev.homeDir (d : Dev) (a : Nat) : Bool := d.cfgBits .homeCfg a 31 1 == 1

/-- The step rate that an axis never exceeds (R373), in steps/s. -/
def Dev.axisRate (d : Dev) (a : Nat) : Nat := min (d.cfg .vmax a) (1000000000 / (2 * d.cfg .stepNs a))

/-- The present leg of an axis. -/
def Dev.leg (d : Dev) (a : Nat) (x : Axis) : Option Leg :=
  let amax := d.cfg .amax a
  let v1 := min (d.axisRate a) (d.cfgBits .homeV a 16 16 * 32) * 1000000
  let v2 := min (d.axisRate a) (d.cfgBits .homeV a 0 16 * 32) * 1000000
  let dir := d.homeDir a
  match x.homing with
  | some .seek => some { dest := none, limit := v1, acc := amax, endSq := 0, reverse := dir }
  | some .brake => some { dest := none, limit := 0, acc := amax, endSq := 0, reverse := dir }
  | some .back =>
    let goal := x.homeFrom + (if dir then 1 else -1) * (d.cfg .homeBackoff a : Int) * 1000000000000
    some { dest := some goal, limit := v1, acc := amax, endSq := 0, reverse := !dir }
  | some .touch => some { dest := none, limit := v2, acc := amax, endSq := 0, reverse := dir }
  | none =>
    match x.queue with
    | [] => none
    | m :: rest =>
      let goal := m.target * 1000000000000
      let e := (x.joint).getD (jointSq (x.pos / 1000000000000) (m :: rest))
      some { dest := some goal, limit := if x.halting then 0 else m.v * 1000000, acc := m.a, endSq := e,
             reverse := decide (goal < x.pos) }

/-- Speed after 1 µs of a leg (R375): it accelerates to the limit, and decelerates where the way left is just enough.
DEDUCED (log 83). -/
def nextSpeed (g : Leg) (v left : Nat) : Nat × Bool :=
  let brakes := g.dest.isSome && decide (2 * g.acc * left + g.endSq * 1000000000000 ≤ v * v)
  if brakes then (max (v - g.acc) (min v g.acc), true)
  else if g.limit < v then (max g.limit (v - g.acc), false)
  else (min g.limit (v + g.acc), false)

/-- Issue the steps between two positions. -/
def Dev.issueSteps (d : Dev) (a : Nat) (p0 p1 : Int) : Dev :=
  let n := (p1 / 1000000000000 - p0 / 1000000000000)
  (List.range n.natAbs).foldl (fun d _ => d.send (.step a (decide (n < 0)))) d

/-- The leg has ended: the next move, or the next step of homing. -/
def Axis.legDone (x : Axis) (keep : Bool) : Axis :=
  match x.homing with
  | some .back => { x with homing := some .touch, homeFrom := x.pos, vel := 0 }
  | _ => { x with queue := x.queue.drop 1, joint := none, vel := if keep then x.vel else 0 }

/-- The planner's 1 µs of an axis that moves in a leg (R373, R375, R376). DEDUCED (log 83). -/
def Dev.planLeg (d : Dev) (a : Nat) (x : Axis) (g : Leg) : Dev :=
  if x.vel = 0 ∧ x.dir ≠ g.reverse then
    d.setAxis a { x with dir := g.reverse, dirFrom := d.now + d.cfg .dirSetupNs a * 1000 }
  else if d.now < x.dirFrom then d
  else
    let left := match g.dest with
      | some t => (t - x.pos).natAbs
      | none => 0
    let (v, brakes) := nextSpeed g x.vel.natAbs left
    let sgn : Int := if x.dir then -1 else 1
    let arrives := g.dest.isSome && decide (left ≤ v)
    let p1 := if arrives then g.dest.getD x.pos else x.pos + sgn * v
    let moved := decide (p1 / 1000000000000 ≠ x.pos / 1000000000000)
    let y : Axis := { x with
      pos := p1, vel := sgn * v, joint := if brakes && x.homing.isNone then some g.endSq else x.joint,
      lastStep := if moved then some d.now else x.lastStep, resting := false }
    let z := if arrives then y.legDone (g.endSq != 0) else y
    (d.issueSteps a x.pos p1).setAxis a z

/-- Travel of the present step of homing in whole steps. -/
def Axis.travel (x : Axis) : Nat := ((x.pos - x.homeFrom) / 1000000000000).natAbs

/-- A HALT or the braking of homing has brought the axis to rest. -/
def Dev.atRest (d : Dev) (a : Nat) : Dev :=
  let x := d.axis a
  let p := x.pos / 1000000000000 * 1000000000000
  if x.vel ≠ 0 then d
  else if x.halting then d.setAxis a { x with queue := [], halting := false, homing := none, joint := none, pos := p }
  else match x.homing with
    | some .brake => d.setAxis a { x with homing := some .back, homeFrom := p, pos := p }
    | _ => d

/-- 1 µs of an axis (R375, R377). DEDUCED (log 83). -/
def Dev.planAxis (d : Dev) (a : Nat) : Dev :=
  let x := d.axis a
  match d.leg a x with
  | none => d
  | some g =>
    let g1 := if x.halting then { g with limit := 0 } else g
    let d1 := (d.planLeg a x g1).atRest a
    let y := d1.axis a
    let seeks := y.homing == some .seek || y.homing == some .touch
    if seeks ∧ d.cfg .homeMax a < y.travel then d1.homeFail a else d1

/-- I of an axis (R379): by load while it moves, I_HOLD after 100 ms at rest. DEDUCED (log 124). -/
def Dev.axisCurrent (d : Dev) (a : Nat) : Nat :=
  let c := d.cfg .axCurrent a
  if (d.axis a).resting then bits c 24 8
  else
    let load := d.fld .ctlAxLoad a 0 10
    min (bits c 8 8) (bits c 16 8 + ((load - d.cfg .loadKnee a) * bits c 0 8) / 256)

/-- The current setpoint that the next down word carries: raised at once, lowered by 1 unit per ms (R379). -/
def Dev.nextCurrent (d : Dev) (a : Nat) : Dev :=
  let cur := d.fld .ctlAxStatus a 8 8
  let want := d.axisCurrent a
  let x := d.axis a
  if cur ≤ want then (d.setFld .ctlAxStatus a 8 8 want).setAxis a { x with lowered := d.now }
  else
    let n := min (cur - want) ((d.now - x.lowered) / 1000000000)
    if n = 0 then d else (d.setFld .ctlAxStatus a 8 8 (cur - n)).setAxis a { x with lowered := d.now }

/-- A down word (R378): address, current setpoint, ENABLE and CRC-8. -/
def downWord (addr current : Nat) (enable : Bool) : Nat :=
  let w := addr <<< 29 + current <<< 21 + (if enable then 2 ^ 20 else 0)
  w + slateCrc w

/-- ENABLE (R379). -/
def Dev.axisEnabled (d : Dev) (a : Nat) : Bool := d.cfg .axEn a == 1

/-- Serve the drivers of a bus (R378). -/
def Dev.serveBus (d : Dev) (b : Nat) (enable : Bool) : Dev :=
  d.each ((List.range 8).filter fun i => d.axisEnabled (8 * b + i)) fun d i =>
    let d1 := d.nextCurrent (8 * b + i)
    d1.send (.asb b i (downWord i (d1.fld .ctlAxStatus (8 * b + i) 8 8) enable))

/-- At Breath SHED every axis stops as for ABORT (R381). -/
def Dev.shedAxes (d : Dev) : Dev := d.each (List.range 32) fun d a => d.axisStop a

/-- At SAVE, SAFE_OUT is written once for every loop, every driver gets ENABLE = 0, and LSP and ASB stop (R381). -/
def Dev.saveLoops (d : Dev) : Dev :=
  let d1 := d.each d.loopsOn fun d l =>
    let o := d.outPort l
    let d1 := d.loopOut l (d.safeOut l)
    if d1.drives then d1.send (.lsp o.1 (lspBits (2 ^ 31 + o.2 <<< 24 + unsignedOf 16 (d.safeOut l) <<< 8))) else d1
  let d2 := d1.each (List.range 4) fun d b => if d.drives then d.serveBus b false else d
  { d2 with ctl := { d2.ctl with stopped := true, lsp := [] } }

/-- After RESUME, loops count staleness from the first evaluation (R381). DEDUCED (log 82). -/
def Dev.resumeLoops (d : Dev) : Dev :=
  d.each d.loopsOn fun d l => d.setCtl l { d.ctl' l with stale := 0, fresh := 0 }

/-- At a takeover, an axis that stepped within the last 10 ms stops with POS_LOST; queues start empty (R380). -/
def Dev.takeAxes (d : Dev) : Dev :=
  d.each (List.range 32) fun d a =>
    match (d.axis a).lastStep with
    | some t => if d.now ≤ t + 10000000000 then d.axisStop a else d.setAxis a { d.axis a with queue := [] }
    | none => d

end Sys2Proof.Machine
end

