-- ==== Sys2Proof/Machine/HealthOps.lean ====
section
/-! DEFINITION. Health commands, the loop log and cascade messages (R141 to R145, R248, R249, R256, R259, R260, R492). -/

namespace Sys2Proof.Machine

/-! ### Spoils of columns (R248) -/

/-- Raster lines a to b − 1 of the strips that hold a run of columns of a fluid are spoiled; in scanning mode those of one
pass, where it is named. -/
def Dev.spoilColumns (d : Dev) (f lo hi : Nat) (a b : Int) (pass : Option Nat) (cause : SpoilCause) : Dev :=
  let bw := d.cfg .bandW 0
  (d.cmp.regions.filter fun r => (pass.map fun p => p == r.pass).getD true).foldl (fun d r =>
    d.each ((d.liveStrips r).filter fun s =>
      let p := r.stripParts s
      p.1 == f && decide (lo / 4 / bw ≤ p.2.2) && decide (p.2.2 ≤ hi / 4 / bw) &&
        (List.range (min 4 (hi + 1 - lo))).any fun k => (lo + k) % 4 == p.2.1) fun d s =>
      let x := max r.l0 a
      let y := min r.l1 b
      if x < y then d.spoil r s ((if r.reverse then r.ofsOf (y - 1) else r.ofsOf x)).toNat (y - x).toNat cause else d) d

/-- Ports of a fluid. -/
def Dev.fluidPorts (d : Dev) (f : Nat) : List Nat := d.image.usedPorts.filter fun n => d.cfg .headFluid n == f

/-- D of every nozzle row of a fluid, for siblings and phases that a test names. -/
def Dev.rowDs (d : Dev) (f : Nat) (p : Nat → Nat → Bool) : List Nat :=
  (d.fluidPorts f).flatMap fun n => ((List.range 4).filter fun j => p (d.cfg .headSibling n) j).map fun j => d.image.rowD n j

/-- The lines of a dead run that become due as a fire is committed, first and past the last, and the run after it: none
where a command has restored it by then. In web mode from L_h on, in scanning mode every line that its rows reach in a pass.
DEDUCED (log 110). -/
def Dev.deadLines (d : Dev) (x : DeadRun) (p : FirePlace) : Int × Int × Option DeadRun :=
  let ds := d.rowDs x.fluid fun _ _ => true
  let near : Int := (leastOf ds).getD 0
  let far : Int := (ds.foldl max 0 : Nat)
  let at_ := (x.seen.filter fun s => s.1 == p.pass).map Prod.snd
  if !d.scanning then
    let top := p.line - near + 1
    let lo := max (at_.getD (p.line - far)) (x.start.getD (p.line - far))
    let hi := (x.ends.map fun u => min u.1 top).getD top
    (lo, hi, if (x.ends.map fun u => decide (u.1 ≤ top)).getD false then none else some { x with seen := some (p.pass, top) })
  else if (x.ends.map fun u => decide (u.2 ≤ p.pass)).getD false then (0, 0, none)
  else if p.pass < x.pass then (0, 0, some x)
  else if p.reverse then
    let low := p.line - far - 1
    (low, at_.getD (p.line - near + 1), some { x with seen := some (p.pass, low) })
  else
    let top := p.line - near + 1
    (at_.getD (p.line - far), top, some { x with seen := some (p.pass, top) })

/-- F_u of hold-offs has been committed: passes armed from now on are past them (R254). -/
def Dev.settleHolds (d : Dev) : Dev :=
  let settle := fun (h : HoldOff) =>
    if h.pass.isNone ∧ h.fire ≤ d.fireIndex then { h with pass := some (d.get .cmpPassNext 0) } else h
  { d with ql := { d.ql with cell := d.ql.cell.map fun t => (t.1, { t.2 with hold := t.2.hold.map settle }) } }

/-- Dead columns: the lines that a committed fire makes due are spoiled while the loop runs with SPOIL_DEAD = 1 (R248).
DEDUCED (log 35, 110). -/
def Dev.spoilDead (d : Dev) (p : FirePlace) : Dev :=
  let pass := if d.scanning then some p.pass else none
  let d1 := if d.loopRuns && d.bit .qlCtrl 0 4 then
      d.ql.dead.foldl (fun e x =>
        let t := d.deadLines x p
        if t.1 < t.2.1 then e.spoilColumns x.fluid x.lo x.hi t.1 t.2.1 pass .deadColumn else e) d
    else d
  { d1 with ql := { d1.ql with dead := d.ql.dead.filterMap fun x => (d.deadLines x p).2.2 } }

/-! ### Checking and accepting a health command (R141 to R145, R492) -/

/-- L_min: the raster line that the fluid's most upstream nozzle row takes at a fire (R143). -/
def Dev.upstreamLine (d : Dev) (f fire : Nat) : Int :=
  ((d.firePlace fire).map fun p => p.line).getD 0 - ((leastOf (d.rowDs f fun _ _ => true)).getD 0 : Nat)

/-- Phases that a run of columns has. -/
def runPhases (lo hi : Nat) : List Nat := ((List.range (min 4 (hi + 1 - lo))).map fun k => (lo + k) % 4)

/-- The lowest raster line that any cleared nozzle row takes at a fire (R144). -/
def Dev.clearedLow (d : Dev) (f : Nat) (h : HealthMask) (fire : Nat) : Option Int :=
  let ds := d.rowDs f fun s j => bitOf h.clr s && (runPhases h.colLo h.colHi).contains j
  match ds with
  | [] => none
  | _ => (d.firePlace fire).map fun p => p.line - ((ds.foldl max 0 : Nat) : Int)

/-- Sibling health of a column once every pending entry has applied; none where no head serves it. -/
def Dev.finalMask (d : Dev) (f c : Nat) : Option Nat :=
  ((d.fluidPorts f).find? fun n => decide (d.image.getInt .headStartCol n ≤ c) &&
      decide ((c : Int) ≤ (d.image.portCols n).2)).map fun n =>
    (d.unfolded n).foldl (fun m e => e.mask.apply c m) ((d.syn' n).hmaskAt c)

/-- First columns of the runs of a range over which no mask of the fluid changes. -/
def Dev.maskBreaks (d : Dev) (f lo hi : Nat) : List Nat :=
  let ms := ((d.fluidPorts f).flatMap fun n => (d.syn' n).folds) ++ (d.syn.pend.map fun e => e.mask)
  let starts := (d.fluidPorts f).flatMap fun n => [(d.image.portCols n).1.toNat, ((d.image.portCols n).2 + 1).toNat]
  (lo :: (((ms.flatMap fun h => [h.colLo, h.colHi + 1]) ++ starts).filter fun c => decide (lo < c) && decide (c ≤ hi))).eraseDups.mergeSort

/-- Runs of columns: each start with the column before the next start. -/
def runsOf (hi : Nat) : List Nat → List (Nat × Nat)
  | [] => []
  | [a] => [(a, hi)]
  | a :: b :: t => (a, b - 1) :: runsOf hi (b :: t)

/-- Runs of columns of a range with no healthy sibling. -/
def Dev.deadRuns (d : Dev) (f lo hi : Nat) : List (Nat × Nat) :=
  (runsOf hi (d.maskBreaks f lo hi)).filter fun r => d.finalMask f r.1 == some 0

/-- Why a health command is refused (R492), in the order of its checks. -/
def Dev.healthRefusal (d : Dev) (f : Nat) (h : HealthMask) (line : Option Int) : Option ECode :=
  let k := d.cfg .fluidK f
  if d.img.active.isNone || d.cfg .fluidPresent f == 0 || decide (h.colHi < h.colLo) ||
      decide (d.cfg .fluidColumns f ≤ h.colHi) || decide (2 ^ k ≤ h.set) || decide (2 ^ k ≤ h.clr) then some .embHealthRange
  else if d.firing && !d.scanning && (line.map fun l => decide (l < d.upstreamLine f (d.fireIndex + 16))) == some true then
    some .embHealthPast
  else if decide (256 ≤ d.syn.pend.length) ||
      (d.healthPorts f h).any fun n => decide (64 ≤ (d.unfolded n).length) then some .embHealthFull
  else none

/-- A nozzle lies in the columns of a command and its sibling bit is set by it. -/
def Dev.isRestored (d : Dev) (f : Nat) (h : HealthMask) (n m : Nat) : Bool :=
  let g := d.image
  let c : Int := g.getInt .headStartCol n + 4 * (m % 4096 : Nat) + (m / 4096 : Nat)
  g.get .headFluid n == f && decide ((h.colLo : Int) ≤ c) && decide (c ≤ h.colHi) &&
    bitOf h.set (g.get .headSibling n)

/-- The loop clears the sums and counts of the nozzles that a command restores; a hold-off stands (R249). DEDUCED (log 110).
-/
def Dev.loopForget (d : Dev) (f : Nat) (h : HealthMask) : Dev :=
  let keep := fun (t : (Nat × Nat) × LoopCell) =>
    if d.isRestored f h t.1.1 t.1.2 then (t.1, { LoopCell.empty with saturated := t.2.saturated, hold := t.2.hold }) else t
  { d with ql := { d.ql with cell := d.ql.cell.map keep } }

/-- Dead runs that a command touches are judged anew: what it restores is dead up to its L_h, or the passes armed before it;
while nothing fires it is dead no more (R145, R248). -/
def Dev.noteRestored (d : Dev) (f : Nat) (h : HealthMask) (line : Int) : Dev :=
  let judge := fun (x : DeadRun) =>
    if x.fluid ≠ f ∨ x.hi < h.colLo ∨ h.colHi < x.lo ∨ x.ends.isSome then [x]
    else
      let lo := max x.lo h.colLo
      let hi := min x.hi h.colHi
      let still := d.deadRuns f lo hi
      let back := (runsOf hi (lo :: ((still.flatMap fun r => [r.1, r.2 + 1]).filter fun c => decide (lo < c) && decide (c ≤ hi)))).filter
        fun r => !still.contains r
      (if x.lo < lo then [{ x with hi := lo - 1 }] else []) ++ (still.map fun r => { x with lo := r.1, hi := r.2 }) ++
        (if d.firing then back.map fun r => { x with lo := r.1, hi := r.2, ends := some (line, d.get .cmpPassNext 0) } else []) ++
        (if hi < x.hi then [{ x with lo := hi + 1 }] else [])
  { d with ql := { d.ql with dead := d.ql.dead.flatMap judge } }

/-- Columns that a command leaves dead that were not dead before. -/
def Dev.newDead (d : Dev) (f : Nat) (h : HealthMask) : List (Nat × Nat) :=
  (d.deadRuns f h.colLo h.colHi).filter fun r =>
    !(d.ql.dead.any fun x => x.fluid == f && x.ends.isNone && decide (x.lo ≤ r.1) && decide (r.2 ≤ x.hi))

/-- They are dead from L_h on, or from the passes armed after the command; while nothing fires from the next enable (R145,
R248). -/
def Dev.addDead (d : Dev) (f : Nat) (h : HealthMask) (line : Int) : Dev :=
  let run := fun (r : Nat × Nat) => ({ fluid := f, lo := r.1, hi := r.2, start := if d.firing then some line else none,
                                       pass := if d.firing then d.get .cmpPassNext 0 else 0, ends := none, seen := none } : DeadRun)
  { d with ql := { d.ql with dead := d.ql.dead ++ (d.newDead f h).map run } }

/-- Columns that a command leaves with no healthy sibling (R144, R248). -/
def Dev.noteDead (d : Dev) (f : Nat) (h : HealthMask) (line : Int) : Dev :=
  if (d.deadRuns f h.colLo h.colHi).isEmpty then d
  else
    let d1 := d.raise .embColumnDead f
    let d2 := if d1.loopRuns then (d1.newDead f h).foldl (fun d _ => d.qlLog 0x8 0xff f 0 0 d.fireIndex) d1 else d1
    d2.addDead f h line

/-- EMB_HC_RESULT: F_e, L_h and the lost range (R144). -/
def Dev.healthResult (d : Dev) (fe : Nat) (lh low : Int) : Dev :=
  let d1 := (d.put .embHcResult 0 (fe % 2 ^ 48)).putInt .embHcResult 1 lh
  (d1.putInt .embHcResult 2 low).putInt .embHcResult 3 (lh - 1)

/-- The lost range of an accepted command: logged, and spoiled where SPOIL_LOST is 1 (R248). -/
def Dev.noteLost (d : Dev) (f : Nat) (h : HealthMask) (low lh : Int) : Dev :=
  if low < lh ∧ d.loopRuns then
    let x := d.qlLog 0x9 0xff f 0 0 d.fireIndex
    if x.bit .qlCtrl 0 3 then x.spoilColumns f h.colLo h.colHi low lh none .lostShare else x
  else d

/-- Accept a health command (R141, R144, R145): pending from F_a + 16, or folded at once while nothing fires. -/
def Dev.healthAccept (d : Dev) (f : Nat) (h : HealthMask) (line : Option Int) : Dev :=
  let fa := d.fireIndex
  let fe := fa + 16
  let web := d.firing && !d.scanning
  let lh := match line with
    | some l => l
    | none => if web then d.upstreamLine f fe else 0
  let low := if web then ((d.clearedLow f h fe).map fun l => min l lh).getD lh else lh
  let e : PendHealth := { fluid := f, mask := h, line := lh, fireA := fa, passAfter := d.get .cmpPassNext 0, folded := [] }
  let d0 := ((d.healthResult fe lh low).mirror (.health e)).journal (.health e)
  let d2 := ({ d0 with syn := { d0.syn with pend := d0.syn.pend ++ [e] },
                       ins := { d0.ins with health := d0.ins.health ++ [(e, low)] } }).notePend
  let d3 := if d2.firing then d2 else d2.foldAll
  let d4 := ((d3.loopForget f h).noteRestored f h lh).noteDead f h lh
  let d5 := d4.noteLost f h low lh
  if d5.casFeeds f then
    d5.casSend 255 0 0x54 ([h.set <<< 20 + h.clr <<< 16 + f, h.colLo, h.colHi] ++ lineWords lh ++ lineWords low ++
      lineWords (lh - 1))
  else d5

/-- A command that the controller makes itself: a head's sibling bit is cleared over its columns, EARLIEST (Table 6.6,
R330). -/
def Dev.clearHead (d : Dev) (n : Nat) : Dev :=
  let g := d.image
  let f := g.get .headFluid n
  let cols := g.portCols n
  let h : HealthMask := { colLo := (max 0 cols.1).toNat, colHi := min cols.2.toNat (g.get .fluidColumns f - 1),
                          clr := 2 ^ g.get .headSibling n, set := 0 }
  match d.healthRefusal f h none with
  | some e => d.raise e n
  | none => d.healthAccept f h none

end Sys2Proof.Machine
end

