-- ==== Sys2Proof/Machine/QlOps.lean ====
section
/-! DEFINITION. The print-quality loop: estimates, decisions, density sets and hold-offs (R240 to R257). -/

namespace Sys2Proof.Machine

/-- Loop state of a nozzle. -/
def Dev.cell (d : Dev) (n m : Nat) : LoopCell := Tab.get d.ql.cell (n, m) LoopCell.empty

/-- Set the loop state of a nozzle. -/
def Dev.setCell (d : Dev) (n m : Nat) (x : LoopCell) : Dev := { d with ql := { d.ql with cell := Tab.set d.ql.cell (n, m) x } }

/-- The window column of a nozzle (R14). -/
def Dev.nozzleCol (d : Dev) (n m : Nat) : Int :=
  d.image.getInt .headStartCol n + 4 * (m % 4096 : Nat) + (m / 4096 : Nat)

/-- RUNNING, RETRY and ARMED of QL_STATUS (Table 9.7). -/
def Dev.noteLoop (d : Dev) : Dev :=
  let d1 := d.setBit .qlStatus 0 31 d.loopRuns
  (d1.setFld .qlStatus 0 8 8 (min 255 (d.ql.decisions.filter fun x => x.presented).length)).setFld .qlStatus 0 0 8
    d.ql.armed.length

/-- LOOP records of the nozzles whose loop state changes otherwise than by a record: the standby's state follows (R240).
DEDUCED (log 111). -/
def Dev.mirrorCells (d : Dev) (ks : List (Nat × Nat)) : Dev :=
  if ks.isEmpty then d else d.mirror (.loop (ks.map fun k => (k.1, k.2, d.cell k.1 k.2)) d.ql.armed)

/-- The nozzles of a column of a fluid. -/
def Dev.columnNozzles (d : Dev) (f : Nat) (c : Int) : List (Nat × Nat) :=
  (d.fluidPorts f).filterMap fun n =>
    let x := c - d.image.getInt .headStartCol n
    if 0 ≤ x ∧ x < 16384 then some (n, 4096 * (x.toNat % 4) + x.toNat / 4) else none

/-! ### Sets (R250 to R254) -/

/-- ΔAMP of a mean (R250). -/
def deltaAmp (avg kd : Int) : Int := -((avg * kd * 1000 + 2 ^ 21) >>> 22)

/-- The new AMP of a nozzle for a mean, clamped to ±QL_AMP_LIM, and whether the clamp changed it; with ΔAMP = 0 the trim stays
as it is. -/
def Dev.newAmp (d : Dev) (n m : Nat) (avg : Int) : Int × Bool :=
  let old := signedOf 8 (bits (Tab.get (d.syn' n).table m 0) 42 8)
  let lim : Int := d.cfg .qlAmpLim 0
  let step := deltaAmp avg (d.cfg .qlKd 0)
  let x := if step = 0 then old else clampInt (old + step) (-lim) lim
  (x, x != old + step)

/-- Due nozzles of a port: nozzle, new AMP, |ΔAMP|, and whether the clamp changed it. -/
def Dev.dueAmps (d : Dev) (n : Nat) : List (Nat × Int × Nat × Bool) :=
  d.ql.cell.filterMap fun t =>
    if t.1.1 ≠ n then none
    else t.2.mean.map fun avg =>
      let a := d.newAmp n t.1.2 avg
      (t.1.2, a.1, (deltaAmp avg (d.cfg .qlKd 0)).natAbs, a.2)

/-- The order in which nozzles enter a set: the largest |ΔAMP| first, ties to the lower nozzle (R251). -/
def amps4096 (l : List (Nat × Int × Nat × Bool)) : List (Nat × Int × Nat × Bool) :=
  (l.mergeSort fun (a b : Nat × Int × Nat × Bool) => decide (b.2.2.1 < a.2.2.1) || (a.2.2.1 == b.2.2.1 && decide (a.1 ≤ b.1))).take 4096

/-- A nozzle saturates: flagged, counted and logged once (R250). -/
def Dev.noteSaturated (d : Dev) (n m : Nat) (sat : Bool) : Dev :=
  let x := d.cell n m
  if sat && !x.saturated then
    ((d.setCell n m { x with saturated := true }).count .qlSat 0).qlLog 0x7 n (d.cfg .headFluid n) m 0 d.fireIndex
  else if !sat && x.saturated then d.setCell n m { x with saturated := false }
  else d

/-- Move the due nozzles of a port into its update set and arm it, or defer them (R251, R252); nothing on a frozen port
(R257). -/
def Dev.loopSet (d : Dev) (n : Nat) : Dev :=
  if d.bit .qlFreeze (n / 32) (n % 32) then d else
  let due := d.dueAmps n
  let same := due.filter fun x => x.2.1 == signedOf 8 (bits (Tab.get (d.syn' n).table x.1 0) 42 8)
  let d0 := same.foldl (fun (d : Dev) (x : Nat × Int × Nat × Bool) =>
    let e := d.noteSaturated n x.1 x.2.2.2
    e.setCell n x.1 { e.cell n x.1 with mean := none }) d
  let take := amps4096 (due.filter fun x => !(same.any fun y => y.1 == x.1))
  if take.isEmpty then d0
  else if d0.fld .synStatus n 0 13 ≠ 0 ∨ d0.bit .synStatus n 14 then d0.count .qlDefer 0
  else
    let f := d0.fireIndex + d0.cfg .qlCommitLead 0
    let staged := take.map fun x =>
      (SynTarget.nozzle x.1, setBits (Tab.get (d0.syn' n).table x.1 0) 42 8 (unsignedOf 8 x.2.1))
    let d1 := ((d0.setSyn n { d0.syn' n with staged := staged }).noteStaged n).put .updFire n (f % 2 ^ 48)
    let d2 := (d1.setBit .synStatus n 14 true).mirror (.table n staged (some f))
    let d3 := take.foldl (fun (d : Dev) (x : Nat × Int × Nat × Bool) =>
      let e := d.noteSaturated n x.1 x.2.2.2
      e.setCell n x.1 { e.cell n x.1 with mean := none, sum := 0, count := 0 }) d2
    let ms : List Nat := take.map fun x => x.1
    let d4 := { d3 with ql := { d3.ql with armed := Tab.set d3.ql.armed n (f, ms) } }
    (((d4.count .qlSets 0).event .qlEvent 0 1).qlLog 0x5 n (d.cfg .headFluid n) take.length 0 f).noteLoop

/-- The loop's set of a port took effect at a fire: its nozzles start anew and are held off (R254, R255). -/
def Dev.loopSetApplied (d : Dev) (n f : Nat) : Dev :=
  match Tab.find d.ql.armed n with
  | none => d
  | some (_, ms) =>
    let dMin := (leastOf ((List.range 4).map fun j => d.image.rowD n j)).getD 0
    let lu := ((d.firePlace f).map fun p => p.line).getD 0 - (dMin : Nat)
    let d1 := d.each ms fun d m => d.setCell n m
      { d.cell n m with sum := 0, count := 0, mean := none, hold := some { line := lu, fire := f, pass := none } }
    ({ d1 with ql := { d1.ql with armed := Tab.erase d1.ql.armed n } }.noteLoop).mirrorCells (ms.map fun m => (n, m))

/-- The loop's set of a port is discarded: logged, its nozzles restart averaging with no hold-off (R252). -/
def Dev.loopSetGone (d : Dev) (n : Nat) : Dev :=
  match Tab.find d.ql.armed n with
  | none => d
  | some (f, ms) =>
    let d1 := d.each ms fun d m => d.setCell n m { d.cell n m with sum := 0, count := 0, mean := none, hold := none }
    let d2 := { d1 with ql := { d1.ql with armed := Tab.erase d1.ql.armed n } }
    ((d2.qlLog 0x6 n (d.cfg .headFluid n) ms.length 0 f).noteLoop).mirrorCells (ms.map fun m => (n, m))

/-! ### Estimates (R242 to R245) -/

/-- A nozzle is held off from a record (R254). -/
def Dev.heldOff (d : Dev) (x : LoopCell) (r : LoopRecord) : Bool :=
  match x.hold with
  | none => false
  | some h => if d.scanning then (h.pass.map fun p => decide (r.pass < p)).getD true else decide (r.yFirst < h.line)

/-- The estimates that a record supplies (R242). -/
def Dev.estimates (d : Dev) (r : LoopRecord) : List (Nat × Nat × Int) := r.entries.filter fun e => d.portFiring e.1

/-- One estimate of a nozzle: the run of candidate estimates, and the sum unless a sibling is a candidate or the nozzle is
held off. -/
def Dev.takeEstimate (d : Dev) (cand accumulate : Bool) (n m : Nat) (v : Int) : Dev :=
  let x := d.cell n m
  let x1 := { x with out := if cand then x.out + 1 else 0 }
  if !accumulate then d.setCell n m x1
  else
    let sum := x1.sum + v
    let cnt := x1.count + 1
    if d.cfg .qlAvgN 0 ≤ cnt then
      let avg := Int.tdiv sum cnt
      let keep := decide (d.cfg .qlDeadband 0 < avg.natAbs)
      d.setCell n m { x1 with sum := 0, count := 0, mean := if keep then some avg else none }
    else d.setCell n m { x1 with sum := sum, count := cnt }

/-- Confirmed nozzles, one decision for each column (R245, R246): logged, and queued for a health command where AUTO_OUT
is 1. -/
def Dev.decide' (d : Dev) (ns : List (Nat × Nat)) (frame : Nat) (sense : Bool) : Dev :=
  let cols := (ns.map fun p => (d.cfg .headFluid p.1, d.nozzleCol p.1 p.2)).eraseDups
  cols.foldl (fun d k =>
    let mine := ns.filter fun p => d.cfg .headFluid p.1 == k.1 && d.nozzleCol p.1 p.2 == k.2
    let x : Decision :=
      { fluid := k.1, column := k.2.toNat, clr := mine.foldl (fun a p => a ||| 2 ^ d.cfg .headSibling p.1) 0, nozzles := mine,
        frame := frame, bySense := sense, since := d.now, presented := false, late := false }
    let d1 := (d.count .qlOuts 0).event .qlEvent 0 0
    let d2 := mine.foldl (fun d p => d.qlLog (if sense then 2 else 1) p.1 k.1 p.2 frame d.fireIndex) d1
    if d2.bit .qlCtrl 0 1 then { d2 with ql := { d2.ql with decisions := d2.ql.decisions ++ [x] } } else d2) d

/-- The loop processes a record (R242 to R251). DEDUCED (log 122). -/
def Dev.loopRecord (d : Dev) (r : LoopRecord) : Dev :=
  let key := (r.bar, r.pipe)
  let old := (Tab.find d.ql.lastFrame key).map fun l => newer32 r.frame l
  if !d.loopRuns || old == some false then d
  else
    let d0 := { d with ql := { d.ql with lastFrame := Tab.set d.ql.lastFrame key r.frame } }
    let es := d0.estimates r
    let thr := d0.cfgInt .outThr r.pipe
    let cands := es.filter fun e => decide (e.2.2 ≤ thr)
    let candCols := (cands.map fun e => (d0.cfg .headFluid e.1, d0.nozzleCol e.1 e.2.1)).eraseDups
    let d1 := es.foldl (fun d e =>
      let cand := decide (e.2.2 ≤ thr)
      let sib := candCols.contains (d.cfg .headFluid e.1, d.nozzleCol e.1 e.2.1)
      d.takeEstimate cand ((cand || !sib) && !d0.heldOff (d0.cell e.1 e.2.1) r) e.1 e.2.1 e.2.2) d0
    let outs := (cands.filter fun e => (d1.cell e.1 e.2.1).out == 3).map fun e => (e.1, e.2.1)
    let d2 := d1.decide' outs r.frame false
    let d3 := d2.each ((d2.ql.cell.filter fun t => t.2.mean.isSome).map fun t => t.1.1).eraseDups.mergeSort Dev.loopSet
    let changed := d3.ql.cell.filterMap fun t => if t.2 = d.cell t.1.1 t.1.2 then none else some t.1
    (d3.mirrorCells changed).noteLoop

/-- One nozzle-sense entry (R205, R245): successive CLASS 2 entries are counted up to 2, and stand at 3 once they have
confirmed the nozzle out. -/
def Dev.senseEntry (d : Dev) (n m cls : Nat) : Dev :=
  let x := d.cell n m
  if cls = 2 then
    let done := decide (x.sense = 3) || d.bit .qlCtrl 0 2 && decide (1 ≤ x.sense)
    d.setCell n m { x with sense := if done then 3 else min 2 (x.sense + 1) }
  else if cls = 3 then d
  else d.setCell n m { x with sense := 0 }

/-- The nozzle-sense entries of a message, in order: the second successive CLASS 2 confirms a nozzle out where SENSE_OUT
is 1. DEDUCED (log 122). -/
def Dev.senseEntries (d : Dev) (n : Nat) : List Nat → Dev × List (Nat × Nat)
  | [] => (d, [])
  | w :: t =>
    let m := bits w 18 14
    let d1 := d.senseEntry n m (bits w 16 2)
    let r := Dev.senseEntries d1 n t
    if (d1.cell n m).sense = 3 ∧ (d.cell n m).sense ≠ 3 then (r.1, (n, m) :: r.2) else r

/-! ### Presenting a decision (R246, R247) -/

/-- The columns and siblings of a decision's command: its one column, CLR alone (R246). -/
def Decision.mask (x : Decision) : HealthMask := { colLo := x.column, colHi := x.column, clr := x.clr, set := 0 }

/-- A decision whose command is accepted: logged; the column's siblings start anew (R247). DEDUCED (log 39). -/
def Dev.decisionDone (d : Dev) (x : Decision) : Dev :=
  let fa := d.fireIndex
  let h := x.mask
  let d1 := d.healthAccept x.fluid h none
  let d2 := x.nozzles.foldl (fun d p => d.qlLog 0x3 p.1 x.fluid p.2 x.frame fa) d1
  let d3 := (d2.columnNozzles x.fluid x.column).foldl (fun d p => d.setCell p.1 p.2
    { d.cell p.1 p.2 with sum := 0, count := 0, mean := none }) d2
  let d4 := x.nozzles.foldl (fun d p => d.setCell p.1 p.2 { d.cell p.1 p.2 with out := 0, sense := 0 }) d3
  d4.mirrorCells (d4.columnNozzles x.fluid x.column)

/-- Present a decision's health command; refused with E_EMB_HEALTH_FULL it waits, and after 1.9 ms it is late (R246).
DEDUCED (log 39, 122). -/
def Dev.present (d : Dev) (x : Decision) : Dev :=
  let h := x.mask
  let rest := d.ql.decisions.filter fun y => y != x
  let gone := { d with ql := { d.ql with decisions := rest } }
  match d.healthRefusal x.fluid h none with
  | none => (gone.decisionDone x).noteLoop
  | some .embHealthFull =>
    let late := !x.late && decide (x.since + 1900000000 ≤ d.now)
    let y := { x with presented := true, late := x.late || late }
    let d1 := { d with ql := { d.ql with decisions := rest ++ [y] } }
    let d2 := if late then
        let p := x.nozzles.headD (0xff, 0)
        ((d1.raise .qlReassignLate x.fluid).event .qlEvent 0 2).qlLog 0x4 p.1 x.fluid p.2 x.frame d.fireIndex
      else d1
    d2.noteLoop
  | some _ => gone.noteLoop

/-- Discard all sums, counts and hold-offs (R257). -/
def Dev.loopClear (d : Dev) : Dev :=
  { d with ql := { d.ql with cell := d.ql.cell.map fun t => (t.1, { LoopCell.empty with saturated := t.2.saturated }) } }

/-- The loop state of a port is cleared (R252). -/
def Dev.loopClearPort (d : Dev) (n : Nat) : Dev :=
  { d with ql := { d.ql with cell := d.ql.cell.filter fun t => t.1.1 != n } }

/-! ### SHAPE (R260) -/

/-- The words of one fluid in a SHAPE message (Table 9.3). -/
def shapeWords (f : Nat) (x : RemoteFluid) : List Nat :=
  (x.k <<< 28 + f <<< 24 + x.width) :: x.split ++ x.ports.map fun p => p.1 <<< 24 + p.2.1 <<< 22 + unsignedOf 22 p.2.2

/-- What this bar says of a fluid. -/
def Dev.ownShape (d : Dev) (f : Nat) : RemoteFluid :=
  { k := d.cfg .fluidK f, width := d.cfg .fluidColumns f, split := wordsOf (d.cfg .split f) 4,
    ports := (d.fluidPorts f).map fun n => (n, d.cfg .headSibling n, d.cfgInt .headStartCol n / 4) }

/-- The SHAPE message after its first word. -/
def Dev.shapeBody (d : Dev) : List Nat :=
  d.get .imgActiveSerial 0 :: ((List.range 16).filter fun f => d.casFeeds f && d.cfg .fluidPresent f != 0).flatMap fun f =>
    shapeWords f (d.ownShape f)

/-- Send SHAPE to every bar (R260). -/
def Dev.sendShape (d : Dev) : Dev := d.casSend 255 0 0x52 d.shapeBody

end Sys2Proof.Machine
end

