-- ==== Sys2Proof/Machine/EntryOps.lean ====
section
/-! DEFINITION. What every submission entry goes through: reserved bits, opcodes, owner-only rings (R271 to R275). -/

namespace Sys2Proof.Machine

/-- A word of a submission entry. -/
def entWord (w : List Word) (i : Nat) : Nat := (w.getD i 0).toNat

/-- A 64-bit operand of a submission entry. -/
def entPair (w : List Word) (i : Nat) : Nat := entWord w i + entWord w (i + 1) <<< 32

/-- TAG of an entry (Table 10.2). -/
def entTag (w : List Word) : Nat := bits (entWord w 0) 0 16

/-- OPCODE of an entry (Table 10.2). -/
def entOpcode (w : List Word) : Nat := bits (entWord w 0) 24 8

/-- Bits that the words W1 to W15 of an opcode may carry (Table 10.3); none for an unknown opcode. -/
def entMasks (opcode : Nat) : Option (List Nat) :=
  let all := 0xffffffff
  match opcode with
  | 0x01 => some []
  | 0x10 => some [0x1ffff, 0x0fff0fff, all, all, all, all, all, 0xffff, 0x1ffff, all]
  | 0x11 => some [0xffff, all, all]
  | 0x20 => some [0xffffff00, 0x3ffff, all, 0x3ffff, all, all, all, all, all, all, all, all, all]
  | 0x30 => some [0x3f1f, 0x1fff, all, all, all]
  | 0x31 => some [0xf1f]
  | 0x40 => some [0xf]
  | 0x80 => some [0xff031fff, all, 0xffffff, 0x1f1f, 0, all, all, all, all, all, all, all, all, all, all]
  | 0x81 => some [all]
  | 0x82 => some [all]
  | 0x83 => some [0xffff, 0x1fff]
  | 0x84 => some [all, all, 0x1ffffff]
  | _ => none

/-- Owner-only opcodes (Table 10.3). -/
def ownerOnly (opcode : Nat) : Bool := decide (0x80 ≤ opcode)

/-- An entry that is completed with a code and no other action (R275): the code, if there is one. -/
def entryFault (slot : Nat) (w : List Word) : Option ECode :=
  match entMasks (entOpcode w) with
  | none => some .ringOpcode
  | some ms =>
    if ownerOnly (entOpcode w) && slot != 0 then some .ringOpcode
    else if bits (entWord w 0) 16 8 ≠ 0 then some .ringEntry
    else if (List.range 15).any fun i => (entWord w (i + 1)) &&& (0xffffffff ^^^ ms.getD i 0) != 0 then some .ringEntry
    else none

/-- SQ_HEAD moves on by n entries that were taken. -/
def Dev.sqTake (d : Dev) (s n : Nat) : Dev := d.put .tenSqHead s (ringAdvance (d.sqDepth s) (d.get .tenSqHead s) n)

/-- Exposed entries of a submission ring. -/
def Dev.sqExposed (d : Dev) (s : Nat) : Nat := ringCount (d.sqDepth s) (d.get .tenSqTail s) (d.get .tenSqHead s)

/-- An entry of a tag and opcode is taken and not finished. -/
def Dev.isTaken (d : Dev) (s tag opcode : Nat) : Bool :=
  (d.ctx s).taken.any fun t => t.tag == tag && t.opcode == opcode && t.done.isNone

/-- An entry is taken: it waits for its completion. -/
def Dev.takeEntry (d : Dev) (s : Nat) (w : List Word) : Dev :=
  let c := d.ctx s
  let t : Taken := { tag := entTag w, opcode := entOpcode w, words := w.map BitVec.toNat, wait := none, done := none }
  d.setCtx s { c with taken := c.taken ++ [t] }

/-- A sequence runs on a slot, or waits to. -/
def Dev.slotHeld (d : Dev) (s : Nat) : Bool :=
  d.inTransit .slot s || d.mgt.waiting.any fun r => r.1.objects.contains (.slot, s)

/-- Entries of a completion ring that are free beyond those reserved (R273). -/
def Dev.cqRoom (d : Dev) (s : Nat) : Nat :=
  d.cqDepth s - min (d.cqDepth s) (ringCount (d.cqDepth s) (d.get .tenCqTail s) (d.get .tenCqHead s) + (d.ctx s).taken.length)

/-- Entries of a ring can be taken: its context is ACTIVE, SQ_EN is 1, no failure and no sequence holds it, and its
completion ring has room (R266, R273, R288). -/
def Dev.mayTake (d : Dev) (s : Nat) : Bool :=
  d.slotState s == 1 && d.bit .tenState s 0 && !(d.ctx s).stopped && !d.slotHeld s && d.cqRoom s != 0

/-- A ring from which the arbiter can grant entries. -/
def Dev.ringReady (d : Dev) (s : Nat) : Bool := d.mayTake s && d.sqExposed s != 0

/-- An entry needs host DMA that does not run now: a BLOCK fetches its bytes, and a completion ring in host memory is
written (R301, R304). DEDUCED (log 113). -/
def Dev.dmaHeld (d : Dev) (s : Nat) (w : List Word) : Bool :=
  ((entOpcode w == 0x20 && d.onPcie s) || d.cqHost s) && !d.dmaOk s

/-- An entry can run: it has been taken, or can be taken now, and the DMA it needs runs. -/
def Dev.canEnter (d : Dev) (s : Nat) (w : List Word) : Bool :=
  !d.dmaHeld s w && (d.isTaken s (entTag w) (entOpcode w) || d.mayTake s)

/-- An entry whose grant has not been given beforehand is granted alone. DESIGN CHOICE (log 29). -/
def Dev.ensureTaken (d : Dev) (s : Nat) (w : List Word) : Dev :=
  if d.isTaken s (entTag w) (entOpcode w) then d
  else
    let d1 := d.takeEntry s w
    if d.sqExposed s = 0 then d1 else d1.sqTake s 1

/-- Complete an entry with a code. DEDUCED (log 30). -/
def Dev.entryErr (d : Dev) (s : Nat) (w : List Word) (e : ECode) : Dev :=
  (d.complete s (entTag w) (entOpcode w) e.code.toNat []).raise e s

/-- Complete an entry without error, with its result words W2 to W7. -/
def Dev.entryOk (d : Dev) (s : Nat) (w : List Word) (body : List Nat) : Dev :=
  d.complete s (entTag w) (entOpcode w) 0 body

/-- One submission entry of an ACTIVE context: faults first, then its own effect. Words of another opcode are not this
command; an entry that cannot be taken waits (R273, R288). DESIGN CHOICE (log 29). -/
def Dev.entry (d : Dev) (s opcode : Nat) (w : List Word) (f : Dev → Dev) : Dev :=
  if d.slotState s ≠ 1 ∨ entOpcode w ≠ opcode ∨ !d.canEnter s w then d
  else
    let d1 := d.ensureTaken s w
    match entryFault s w with
    | some e => d1.entryErr s w e
    | none => f d1

/-- The subscription that an UPLOAD_SUB entry asks for (Table 10.3). DEDUCED (log 49). -/
def subscriptionOf (handle : Nat) (w : List Word) : Subscription :=
  { handle := handle, decimation := bits (entWord w 2) 0 13, planes := bits (entWord w 1) 8 4, wide := bitOf (entWord w 1) 12,
    residual := bitOf (entWord w 1) 13, dest := entPair w 3, destBytes := entWord w 5, next := 0 }

end Sys2Proof.Machine
end

