-- ==== Sys2Proof/Machine/RegionOps.lean ====
section
/-! DEFINITION. Opening and closing regions (R89 to R92, R278). -/

namespace Sys2Proof.Machine

/-- A signed 64-bit operand of an entry. -/
def entInt (w : List Word) (i : Nat) : Int := signedOf 64 (entPair w i)

/-- The region that an entry asks for (Table 4.1, Table 10.3), with no number yet. -/
def regionOf (slot : Nat) (w : List Word) : Region :=
  let mask := bits (entWord w 1) 0 16
  let b0 := bits (entWord w 2) 0 12
  let b1 := bits (entWord w 2) 16 12
  let depth := bits (entWord w 9) 0 17
  let strips := 4 * (maskFluids mask).length * (b1 - b0)
  { slot := slot, number := 0, mask := mask, bStart := b0, bEnd := b1, l0 := entInt w 3, l1 := entInt w 5,
    l1Open := entInt w 5, reverse := bitOf (entWord w 1) 16, pass := entPair w 7 % 2 ^ 48, depth := depth,
    heapUnits := entWord w 10, units := reelUnits strips depth (entWord w 10), heapNext := 0, heapUsed := [],
    closed := false, strips := [] }

/-- The bounds check of R90 (Table 4.1). -/
def Dev.regionBoundsOk (d : Dev) (r : Region) : Bool :=
  let fs := maskFluids r.mask
  decide (r.mask ≠ 0) && fs.all (fun f => d.cfg .fluidPresent f != 0) && decide (r.bStart < r.bEnd) &&
    fs.any (fun f => decide (r.bEnd ≤ d.image.bandsOf f)) && decide (r.l0 < r.l1) && decide (r.l1 - r.l0 ≤ 2 ^ 32) &&
    (d.scanning || !r.reverse) && decide (16 ≤ r.depth) && decide (r.depth ≤ 65536) && decide (1 ≤ r.heapUnits) &&
    decide (r.heapUnits ≤ 65536)

/-- Two regions overlap: fluids, bands and lines intersect, and in scanning mode the pass is the same (R89). -/
def Region.overlaps (scanning : Bool) (a b : Region) : Bool :=
  (a.mask &&& b.mask) != 0 && decide (a.bStart < b.bEnd) && decide (b.bStart < a.bEnd) && decide (a.l0 < b.l1) &&
    decide (b.l0 < a.l1) && (!scanning || a.pass == b.pass)

/-- The first line to print lies at or behind the lock line, or the pass has been armed (R90). -/
def Dev.regionLate (d : Dev) (r : Region) : Bool :=
  if d.scanning then decide (r.pass < d.get .cmpPassNext 0) else d.cmp.lockSet && decide (r.l0 ≤ d.lockLine)

/-- Open regions in the registers of the bar and of a slot. -/
def Dev.countRegions (d : Dev) (s : Nat) : Dev :=
  (d.put .cmpRegions 0 d.openRegions).setFld .tenRegions s 0 16
    (d.cmp.regions.filter fun r => !r.closed && r.slot == s).length

/-- The lowest region number that is free. -/
def Dev.freeRegion (d : Dev) : Option Nat :=
  (List.range 65536).find? fun n => d.cmp.regions.all fun r => r.number != n

/-- Why a region is refused, in the order of R278 and R90; none where it opens. -/
def Dev.regionRefusal (d : Dev) (r : Region) : Option ECode :=
  let s := r.slot
  if 65536 ≤ d.openRegions then some .regionFull
  else if d.fld .tenRegions s 16 16 ≤ d.fld .tenRegions s 0 16 then some .quotaRegions
  else if d.get .tenDramQuota s < d.get .tenDramUsed s + r.units then some .quotaDram
  else if !d.regionBoundsOk r then some .regionBounds
  else if d.cmp.regions.any fun x => x.overlaps d.scanning r then some .regionOverlap
  else if d.regionLate r then some .regionLate
  else if d.freeUnits s < r.units then some .reelFull
  else none

/-- REGION_OPEN (R90, R278). -/
def Dev.regionOpen (d : Dev) (s : Nat) (w : List Word) : Dev :=
  let r := regionOf s w
  match d.regionRefusal r with
  | some e => d.entryErr s w e
  | none =>
    match d.freeRegion with
    | none => d.entryErr s w .regionFull
    | some n =>
      let d1 := d.takeUnits s r.units (.region n)
      let d2 := { d1 with cmp := { d1.cmp with regions := d1.cmp.regions ++ [{ r with number := n }] } }
      (d2.countRegions s).entryOk s w [n]

/-- End of the last line of any block of a region that is locked or missing (R92). -/
def Region.lockedEnd (r : Region) : Int :=
  (r.strips.flatMap fun t => (t.2.entries.filter fun e => e.isLocked).map fun e =>
    r.lowLine e.first e.lines + e.lines).foldl max r.l0

/-- Close a region (R92): its new L1, and no block left that lies wholly beyond it. -/
def Dev.closeRegion (d : Dev) (r : Region) (req : Int) : Dev :=
  let l1 := min r.l1 (max req r.lockedEnd)
  let gone := r.strips.flatMap fun t => t.2.entries.filter fun e => !e.isLocked && decide (l1 ≤ r.lowLine e.first e.lines)
  let stays := fun (e : BlockEntry) => e.isLocked || decide (r.lowLine e.first e.lines < l1)
  let strips := r.strips.map fun t => (t.1, { t.2 with entries := t.2.entries.filter stays })
  let r1 := gone.foldl (fun r e => r.heapFree e.heapOff) { r with l1 := l1, closed := true, strips := strips }
  (((d.setRegion r1).countRegions r.slot).sweepRegions)

/-- Close a region as its context closes: every block that has not locked is refused (R284). -/
def Dev.endRegion (d : Dev) (r : Region) : Dev :=
  let open' := fun (e : BlockEntry) => !e.isLocked
  let gone := r.strips.flatMap fun t => t.2.entries.filter open'
  let r1 := gone.foldl (fun r e => r.heapFree e.heapOff)
    { r with strips := r.strips.map fun t => (t.1, { t.2 with entries := t.2.entries.filter fun e => !open' e }) }
  (d.setRegion r1).closeRegion r1 r.l0

/-- REGION_CLOSE (R92, R275): the owner may name any open region. -/
def Dev.regionClose (d : Dev) (s : Nat) (w : List Word) : Dev :=
  match d.region? (bits (entWord w 1) 0 16) with
  | none => d.entryErr s w .regionOwner
  | some r =>
    if r.closed || (s != 0 && r.slot != s) then d.entryErr s w .regionOwner
    else
      let l1 := unsignedOf 64 (min r.l1 (max (entInt w 2) r.lockedEnd))
      (d.closeRegion r (entInt w 2)).entryOk s w [l1 % 2 ^ 32, l1 / 2 ^ 32]

end Sys2Proof.Machine
end

