-- ==== Sys2Proof/Machine/TenOps.lean ====
section
/-! DEFINITION. Opening, closing, parking and freeing contexts (R264 to R284). -/

namespace Sys2Proof.Machine

/-- Bring TEN_GLB_COUNT and TEN_GLB_PARKED to the slots and park records (Table 10.11). -/
def Dev.noteContexts (d : Dev) : Dev :=
  let n := fun (st : Nat) => ((List.range 4096).filter fun s => d.slotState s == st).length
  (d.put .tenGlbCount 0 (n 4 <<< 20 + n 1)).put .tenGlbParked 0 d.ten.parks.length

/-- A context has changed: it is journaled (R347) and mirrored (R322). What: 0 open, 1 close, 2 park, 3 activation, 4 quota
change. -/
def Dev.contextChanged (d : Dev) (s what : Nat) : Dev :=
  ((d.noteContexts).journal (.context s (d.ctx s).generation what)).mirrorCtx s

/-- The upload subscriptions of a handle end (R235, R284). -/
def Dev.endSubs (d : Dev) (h : Nat) : Dev :=
  d.each (List.range 24) fun d c =>
    let p := d.pipe c
    let gone := (p.subs.filter fun x => x.2.handle == h).map fun x => x.1
    if gone.isEmpty then d
    else d.setPipe c { p with subs := p.subs.filter fun x => x.2.handle != h,
                              uploads := (p.uploads.filter fun j => !gone.contains j.sub),
                              sending := p.sending.filter fun x => !gone.contains x.job.sub }

/-- A handle has an upload subscription. -/
def Dev.hasSubs (d : Dev) (h : Nat) : Bool :=
  (List.range 24).any fun c => (d.pipe c).subs.any fun x => x.2.handle == h

/-- The blocks of a slot that wait are refused: their heap space comes back (R284). -/
def Dev.dropJobs (d : Dev) (s : Nat) : Dev :=
  let mine := d.waitingJobs.filter fun j => j.slot == s
  let d1 := mine.foldl (fun d j => match d.region? j.region with
    | some r => d.setRegion (r.heapFree j.heapOff)
    | none => d) d
  { d1 with cmp := { d1.cmp with ingest := d1.cmp.ingest.filter fun j => j.slot != s },
            ptn := { d1.ptn with blocks := d1.ptn.blocks.filter fun b => b.2.slot != s } }

/-- A context closes (R284): DRAINING, its taken entries completed with E_CTX_CLOSED, its blocks that have not locked refused,
its regions closed and its subscriptions ended. -/
def Dev.closeContext (d : Dev) (s : Nat) : Dev :=
  let h := d.ctxHandle s
  let d1 := ((d.setFld .tenState s 29 3 2).put .tenHandle s 0).dropJobs s
  let c := d1.ctx s
  let ts := c.taken.map fun t => match t.done with
    | none => { t with done := some (ECode.ctxClosed.code.toNat, []) }
    | some _ => t
  let d2 := Dev.postDone ts.length (d1.setCtx s { c with taken := ts }) s
  let d3 := (d2.cmp.regions.filter fun r => r.slot == s && !r.closed).foldl (fun d r => d.endRegion r) d2
  (((d3.endSubs h).ctxEvent s .ctxClosed 0 h d3.fireIndex).drainDone s)

/-- The slots that can be opened: FREE, and not held by a sequence. -/
def Dev.slotFree (d : Dev) (s : Nat) : Bool := d.slotState s == 0 && !d.slotHeld s

/-- The slot that an entry names, or the lowest free one (R268, R270): or why there is none. -/
def Dev.pickSlot (d : Dev) (any : Bool) (named : Nat) : Nat ⊕ ECode :=
  match (List.range 4096).find? d.slotFree with
  | none => .inr .ctxFull
  | some low =>
    if any then .inl low
    else if d.slotHeld named then .inr .transit
    else if d.slotState named = 0 then .inl named
    else .inr .ctxSlotBusy

/-- A VF, or no VF, is bound to a context (R267). -/
def Dev.vfBound (d : Dev) (vf : Nat) : Bool :=
  (List.range 4096).any fun s => d.slotState s != 0 && d.slotState s != 4 && d.slotBind s == 1 && d.slotVf s == vf

/-- Units of the rings of a context: none for a completion ring in host memory (R271, R278). -/
def ringUnits (sqLog2 cqLog2 : Nat) (cqHost : Bool) : Nat :=
  unitsOf (64 * 2 ^ sqLog2) + if cqHost then 0 else unitsOf (32 * 2 ^ cqLog2)

/-- The registers of a slot's page (Tables 10.10 and 10.11). -/
def pageRegs : List Reg :=
  [.tenState, .tenHandle, .tenSqTail, .tenSqHead, .tenCqHead, .tenCqTail, .tenCqHostBase, .tenDramQuota, .tenDramUsed,
   .tenRegions, .tenShare, .tenDbErr, .tenEvDrop, .tenCqErr, .tenLastErr]

/-- A page with nothing in it. -/
def Dev.clearPage (d : Dev) (s : Nat) : Dev := pageRegs.foldl (fun d r => d.put r s 0) d

/-- A slot that has held its context for the last time is RETIRED (R265), another FREE: it keeps its generation. -/
def Dev.freeSlot (d : Dev) (s : Nat) : Dev :=
  let g := (d.ctx s).generation
  let d1 := (d.clearPage s).setCtx s { Ctx.reset with generation := g }
  d1.setFld .tenState s 29 3 (if 0xfffff ≤ g then 4 else 0)

/-- The controller's tenant key-encryption key unwraps a key (R281). -/
def Dev.unwrapKey (d : Dev) (wrapped : List Byte) : Option (List Byte) :=
  (Tab.find d.sec.keys 2).bind fun kek => keyUnwrap kek wrapped

/-! ### The ends of the PARK and ACTIVATE sequences (R269, R270) -/

/-- The lowest park record that is neither in use nor taken by a sequence. DEDUCED (log 28). -/
def Dev.freePark (d : Dev) : Option Nat :=
  (List.range (d.cfg .parkSlots 0)).find? fun k =>
    (Tab.find d.ten.parks k).isNone && !(d.ten.ctx.any fun c => c.2.parkTo == some k)

/-- PARK is done (R269): the context lies in its record, its slot is free, and its number is posted. DEDUCED (log 58).
-/
def Dev.parkDone (d : Dev) (s tag k : Nat) : Dev :=
  let c := d.ctx s
  let r : ParkRec := { ctx := { c with key := none, parkTo := none, taken := [] }, page := pageRegs.map fun x => (x, d.get x s),
                       lost := false }
  let d1 := { d with ten := { d.ten with parks := Tab.set d.ten.parks k r } }
  (((d1.freeSlot s).put .xptSession s 0).contextChanged s 2).complete 0 tag 0x82 0 [k]

/-- The units of a parked context, and the regions that it had closed, carry the tag of the slot that it comes back into
(R278). -/
def Dev.moveSpans (d : Dev) (h s : Nat) : Dev :=
  let g := (d.ctx s).generation
  let moved := d.ten.spans.map fun x =>
    if x.slot = bits h 0 12 ∧ x.generation = bits h 12 20 then { x with slot := s, generation := g } else x
  let its := fun (r : Region) => d.ten.spans.any fun x =>
    x.slot == bits h 0 12 && x.generation == bits h 12 20 && x.use == .region r.number
  let regions := d.cmp.regions.map fun r => if its r then { r with slot := s } else r
  { d with ten := { d.ten with spans := moved }, cmp := { d.cmp with regions := regions } }

/-- ACTIVATE is done (R270): the record is restored into the slot with a new generation; a VF that has been bound
meanwhile is not restored. DEDUCED (log 58). -/
def Dev.activateDone (d : Dev) (s tag k : Nat) : Dev :=
  match Tab.find d.ten.parks k with
  | none => d.complete 0 tag 0x83 ECode.parkUnknown.code.toNat []
  | some r =>
    let g := (d.ctx s).generation + 1
    let d0 := { d with ten := { d.ten with parks := Tab.erase d.ten.parks k } }
    let d1 := (r.page.filter fun x => pageRegs.contains x.1).foldl (fun d x => d.put x.1 s x.2) (d0.setFld .tenState s 29 3 0)
    let taken := d1.slotBind s == 1 && d0.vfBound (d1.slotVf s)
    let d2 := if taken then (d1.setFld .tenState s 24 2 0).setFld .tenState s 18 6 0 else d1
    let d3 := d2.setCtx s { r.ctx with generation := g, key := d.unwrapKey r.ctx.wrapped }
    let d4 := ((d3.setFld .tenState s 29 3 1).setBit .tenState s 28 false).put .tenHandle s (d3.ctxHandle s)
    let d5 := d4.moveSpans (Tab.get r.page .tenHandle 0) s
    (d5.contextChanged s 3).complete 0 tag 0x83 0 [d4.ctxHandle s]

end Sys2Proof.Machine
end

