-- ==== Sys2Proof/Machine/PtnOps.lean ====
section
/-! DEFINITION. The partner block: fitness, dailies, surrender, takeover, and the application of mirror records (R314 to
R333). -/

namespace Sys2Proof.Machine

/-! ### Roles and fitness (R314, R316, R327) -/

/-- Take a role (Table 12.1): UNFIT.SYNC follows it, and so do the loop and what waits for the partner.
DEDUCED (log 122). -/
def Dev.setRole (d : Dev) (r : Nat) : Dev :=
  let d0 := if d.role = r then d else d.journal (.role r)
  let left : Dev := if r ≤ 1 then d0 else { d0 with ql := { d0.ql with decisions := [] } }
  let d1 := ((left.setFld .ptnStatus 0 29 3 r).setBit .ptnStatus 0 0 (r == 2)).noteFit.noteLoop
  if d1.mirroring then d1 else d1.partnerAcked fun _ => true

/-- PAIR_ID. -/
def Dev.pairId (d : Dev) : Nat := d.fld .ptnStatus 0 27 1

/-! ### Dailies (R328) -/

/-- Blocks of MIRROR = 1 contexts, locked or resident, that a standby does not hold (Table 12.5 word 28). -/
def Dev.reelLag (d : Dev) : Nat :=
  (d.ptn.noBytes.filter fun x => (d.region? x.1).any fun r => d.bit .tenState r.slot 27).length

/-- The daily (Table 12.5): words 1 to 28. -/
def Dev.dailyWords (d : Dev) : List Nat :=
  let firing := (d.portsIn [5]).foldl (fun a n => a + 2 ^ n) 0
  let lost := (List.range 8).foldl (fun a i => a + if d.bit .posEncStatus i 31 then 2 ^ i else 0) 0
  let serv := (List.range 8).foldl (fun a i => a + if d.inService i then 2 ^ i else 0) 0
  let online := ((List.range 4).filter fun g => d.bit .dmcGrpStatus g 31).length
  let tj := (List.range 8).foldl (fun a k => max a (d.fld .pwrTj k 0 16)) 0
  let armed := if d.fld .imgStatus 0 0 3 = 3 then d.get .imgActFire 0 else 0
  [d.role <<< 29 + d.fld .ptnStatus 0 28 1 <<< 28 + d.pairId <<< 27 + d.fld .ptnStatus 0 0 16] ++ wordsOf d.fireIndex 2 ++
    wordsOf firing 6 ++ [d.spares.length <<< 24 + online <<< 16 + tj, serv <<< 8 + lost, d.get .imgActiveSerial 0] ++
    ((List.range 12).map fun i => d.get .imgDigest i) ++ wordsOf armed 2 ++ [d.get .ptnMseq 0, d.reelLag]

/-- Send the daily; the own daily is what the partner's is compared with. -/
def Dev.sendDaily (d : Dev) : Dev :=
  ({ d with ptn := { d.ptn with sentDaily := some d.dailyWords } }).mirrorSend (.daily d.dailyWords)

/-- IMG_DIGEST and the armed hot F of two dailies differ (R328). -/
def dailiesDiffer (a b : List Nat) : Bool := (a.drop 12).take 14 != (b.drop 12).take 14

/-- Compare the partner's daily with this controller's. -/
def Dev.compareDailies (d : Dev) : Dev :=
  match d.ptn.partner with
  | none => d
  | some p =>
    if dailiesDiffer p d.dailyWords then
      let d1 := (d.event .ptnEvent 0 3).raise .ptnDigest 0
      if d1.isStandby then d1.setUnfit 2 true else d1
    else d.setUnfit 2 false

/-! ### Surrender (R329, R333) -/

/-- This controller is ACTIVE and its partner FIT: it can surrender (R329). -/
def Dev.canSurrender (d : Dev) : Bool := d.role == 1 && d.partnerFit

/-- Surrender with a cause of Table 12.7: F_s lies 3 fires ahead, 1 at the start of Breath. DEDUCED (log 54). -/
def Dev.surrender (d : Dev) (cause : Nat) : Dev :=
  let fs := d.fireIndex + if cause = 5 then 1 else 3
  let d1 := (d.mirrorSend (.surrender fs cause)).setFld .ptnSurrender 0 24 8 cause
  let d2 := { d1 with ptn := { d1.ptn with actUntil := some fs, withdrawAt := some fs } }
  if cause = 7 then d2.setRole 4 else (d2.setUnfit 4 true).setRole 3

/-- Links stop (R314 OFF): every port goes to DOWN, and REMOVE_OK_N is asserted. -/
def Dev.goOff (d : Dev) : Dev :=
  let d1 := d.each (List.range 192) fun d n => if d.linkState n = 0 then d else d.linkRestart n 0
  ({ d1 with ptn := { d1.ptn with removeOk := true, actUntil := some 0 } }).setRole 5

/-! ### Takeover (R330) -/

/-- Lines locked at the old active controller that this one has no bytes for print blank, spoiled SPLICE. -/
def Dev.spoilSplice (d : Dev) : Dev :=
  let d1 := d.ptn.noBytes.foldl (fun d x =>
    match d.region? x.1 with
    | some r => d.spoil r x.2.1 x.2.2.1 x.2.2.2 .splice
    | none => d) d
  { d1 with ptn := { d1.ptn with noBytes := [] } }

/-- Restore the mirrored contexts: rings stopped, held completions written at their positions, and the context event
E_CTX_SPLICED with F_t posted. -/
def Dev.restoreContexts (d : Dev) (ft : Nat) : Dev :=
  let slots := (List.range 4096).filter fun s => d.slotState s == 1 && s != 0
  let d1 := d.ptn.cqDue.foldl (fun d x =>
    let s := x.1
    let c := d.ctx s
    let pos := x.2.1
    let phase := 1 - bits pos 16 1
    let words := (0x01000000 + x.2.2.1 + phase <<< 21) :: (x.2.2.2.2.1 <<< 16 + x.2.2.2.1 <<< 8) ::
      (List.range 6).map fun i => x.2.2.2.2.2.getD i 0
    let d1 := d.put .tenCqTail s (ringAdvance (d.cqDepth s) pos 1)
    if d.cqHost s then
      d1.send (.hostWrite s (d.get .tenCqHostBase s + 32 * bits pos 0 16) (words.flatMap fun w => leBytes w 4))
    else d1.setCtx s { c with cqWords := Tab.set c.cqWords (bits pos 0 16) words }) d
  let d2 := { d1 with ptn := { d1.ptn with cqDue := [] } }
  d2.each slots fun d s => (d.ctxEvent s .ctxSpliced 0 (d.get .tenHandle s) ft).stopRings s

/-- The standby becomes the active controller from F_t on (R330). Without FIT firing stops instead (Table 12.2). -/
def Dev.takeover (d : Dev) (ft : Nat) : Dev :=
  let d0 := { d with ptn := { d.ptn with actFrom := ft, actUntil := none, withdrawAt := none, takeAt := none } }
  let d1 := ((d0.setRole 1).put .ptnTakeFire 0 (ft % 2 ^ 48)).count .ptnSplices 0
  let d2 := d1.each (d1.portsIn [5]) fun d n => d.setPort n { d.port n with sync := true }
  let absent := d2.image.usedPorts.filter fun n => d2.linkState n ≠ 5
  let d3 := d2.each absent Dev.clearHead
  ((((d3.spoilSplice).restoreContexts ft).takeAxes).event .ptnEvent 0 0).raise .ptnSplice 0

/-- Silent death is declared (R318): a FIT standby takes over at its next commit that is 200 ns away or more; another
stops firing. -/
def Dev.silentDeath (d : Dev) : Dev :=
  if !d.isStandby ∨ d.role = 2 then d
  else if d.bit .ptnStatus 0 28 then { d with ptn := { d.ptn with takeAt := some 0 } }
  else
    let d1 := { d with ptn := { d.ptn with actFrom := 0, actUntil := none } }
    (((d1.setRole 1).stopByOther).stopReq .ptn).raise .ptnNoStandby 0

/-! ### Batch comparison (R325, R326) -/

/-- A matching comparison: after 65,536 in succession on every port the cause MISMATCH clears (Table 12.6). -/
def Dev.noteMatch (d : Dev) (n : Nat) : Dev :=
  let d1 := { d with ptn := { d.ptn with matched := Tab.upd d.ptn.matched n 0 (· + 1) } }
  if d1.bit .ptnStatus 0 3 && (d1.portsIn [5]).all fun p => decide (65536 ≤ Tab.get d1.ptn.matched p 0) then
    d1.setUnfit 3 false
  else d1

/-- A mismatch on a port at a fire (R326): the lowest spare engine is borrowed for the re-run; with none free the re-run
waits for one. -/
def Dev.mismatch (d : Dev) (n f : Nat) : Dev :=
  let d1 := ({ d with ptn := { d.ptn with matched := [] } }).count .ptnMismatch 0
  let d2 := (d1.event .ptnEvent 0 2).raise .ptnMismatch n
  let d3 := match d2.spares with
    | [] => d2
    | e :: _ => (d2.setBit .embStatus e 30 false).noteSpares
  { d3 with ptn := { d3.ptn with rerun := d3.ptn.rerun ++ [(n, f, d2.spares.head?, d.fireIndex)] } }

/-- Compare a fire's CRCs, port by port, once both sides have them (R325). -/
def Dev.comparePort (d : Dev) (n f theirs : Nat) (flagged : Bool) : Dev :=
  match Tab.find (d.syn' n).crcs f with
  | none => d
  | some mine =>
    if flagged && d.comparable n f then
      let d1 := d.count .ptnCmpCount 0
      if mine = theirs then d1.noteMatch n else d1.mismatch n f
    else d.count .ptnNocmp 0

/-- A batch of a port is complete: it is compared where the active controller's CRC has come before it (R325). -/
def Dev.compareLate (d : Dev) (n f : Nat) : Dev :=
  if d.isStandby then
    match d.ptn.crcs.find? fun x => x.1 == f with
    | some x => d.comparePort n f (x.2.2.getD n 0) (bitOf x.2.1 n)
    | none => d
  else d

/-! ### Applying records at the standby (R323) -/

/-- The comparator stands at the line that the binding gives the next fire. -/
def Dev.noteCmp (d : Dev) : Dev :=
  match d.firePlace (d.fireIndex + 1) with
  | some p => { d with pos := { d.pos with cmpLine := p.line } }
  | none => d

/-- What is computed for the fires of another binding is void: re-bind at the standby (R66, R67, R192, R226). -/
def Dev.rebound (d : Dev) : Dev := (((d.withdrawAll (d.fireIndex + 1)).seekRows).closeFrames).noteCmp

/-- FIRE_EN follows the active controller's: heads that wait for the next enable join, and the first batches carry SYNC
(R184, R197, R323, R491). -/
def Dev.mirrorEnable (d : Dev) (on : Bool) : Dev :=
  if on then
    let d1 := (d.setBit .posCtrl 0 0 true).setBit .posStatus 0 0 true
    if d.fireEn then d1
    else ((((d1.setFld .posStatus 0 12 4 0).stopFree .pos).clearBatches.clearHistory).seekRows.noteCmp).joinWaiting
  else
    let d1 := (d.setBit .posCtrl 0 0 false).noteFiring
    if d.fireEn then (d1.withdrawAll (d1.fireIndex + 1)).foldAll else d1

/-- A BIND record (R66, R323, Table 12.3): the standby takes the binding, the passes and FIRE_EN, but for the end of the
fire index (R27). DEDUCED (log 105). -/
def Dev.applyBind (d : Dev) (b : BindRec) : Dev :=
  let same := ((d.firePlace b.bindFire).map fun p => p.line) == some b.bindLine
  let d1 := (d.setBind b.bindFire b.bindLine).put .posSkipCount 0 b.skips
  let d2 := ((d1.put .cmpPassCur 0 b.passCur).put .cmpPassNext 0 b.passNext).put .cmpLeadLines 0 b.leadLines
  let d3 := d2.setEnc d2.actSrc { d2.enc d2.actSrc with origin := b.origin }
  let d4 := { d3 with pos := { d3.pos with curPass := b.curPass, armedPass := b.armedPass } }
  let d5 := match b.lockLine with
    | some l =>
      let x := d4.putInt .cmpLockLine 0 l
      { x with cmp := { x.cmp with lockSet := true } }
    | none => d4
  let d6 := if same || !d.fireEn then d5.noteCmp else d5.rebound
  (d6.mirrorEnable (b.fireEn && !d.pos.ended)).notePass

/-- A COMMIT record: where this controller bound another line to the fire it takes the active controller's binding
(R324). -/
def Dev.applyCommit (d : Dev) (f : Nat) (l : Int) : Dev :=
  let mine := match d.pos.fires.find? fun x => x.index == f with
    | some x => some x.line
    | none => (d.firePlace f).map fun p => p.line
  if mine = some l then d.settleHolds else ((d.count .ptnBindDiff 0).setBind f l).rebound

/-- A LOCK record: the strip's entry takes the active controller's outcome (R102). -/
def Dev.applyLock (d : Dev) (region strip first lines : Nat) (missing : Bool) : Dev :=
  match d.region? region with
  | none => d
  | some r =>
    let t := r.strip strip
    let hit := t.entries.find? fun e => e.first == first && e.lines == lines && e.state == .resident
    let gap : BlockEntry := { first := first, lines := lines, state := .missing, isLocked := true, heapOff := 0, heapLen := 0,
                              sealedBytes := { cipher := [], iv := [], tag := 0, aad := [] } }
    let strip' := fun (e : BlockEntry) =>
      { t with entries := insertEntry e t.entries, lockedTo := max t.lockedTo (first + lines) }
    let put := fun (e : BlockEntry) => d.setRegion { r with strips := Tab.set r.strips strip (strip' e) }
    match missing, hit with
    | false, some e => put e.lock
    | false, none =>
      let d1 := put gap
      let d2 := { d1 with ptn := { d1.ptn with noBytes := d1.ptn.noBytes ++ [(region, strip, first, lines)] } }
      d2.put .ptnReelLag 0 d2.reelLag
    | true, _ => put gap

/-- A BLOCK record: the tenant's block as received; a block locked before its bytes came is now held (R322, R332). -/
def Dev.applyBlock (d : Dev) (region strip first lines heapLen : Nat) (bytes : Sealed) : Dev :=
  match d.region? region with
  | none => d
  | some r =>
    let t := r.strip strip
    let late := d.ptn.noBytes.contains (region, strip, first, lines)
    match r.heapTake heapLen with
    | none => d
    | some (off, r1) =>
      let e : BlockEntry := { first := first, lines := lines, state := if late then .locked else .resident,
                              isLocked := late, heapOff := off, heapLen := heapLen, sealedBytes := bytes }
      let d1 := d.setRegion { r1 with strips := Tab.set r1.strips strip { t with entries := insertEntry e t.entries } }
      let left := d1.ptn.noBytes.filter fun x => x != (region, strip, first, lines)
      let d2 := { d1 with ptn := { d1.ptn with noBytes := left } }
      d2.put .ptnReelLag 0 d2.reelLag

/-- A TABLE record: writes that act at once, or an update set with its F; with neither, a set that was discarded (R323).
DEDUCED (log 38). -/
def Dev.applyTable (d : Dev) (n : Nat) (es : List (SynTarget × Nat)) (fire : Option Nat) : Dev :=
  match fire with
  | none => if es.isEmpty then d.dropSet n else es.foldl (fun d e => d.storeValue n e.1 e.2) d
  | some f =>
    (((d.setSyn n { d.syn' n with staged := es }).noteStaged n).put .updFire n f).setBit .synStatus n 14 true

/-- The HMASK of a port's table in a snapshot (R332). -/
def Dev.applyMasks (d : Dev) (n base : Nat) (folds : List HealthMask) : Dev :=
  d.setSyn n { d.syn' n with hmask := base, folds := folds, since := folds.length }

/-- A HEALTH record: the accepted command with its F_a (R139, R323). -/
def Dev.applyHealth (d : Dev) (e : PendHealth) : Dev :=
  let low := ((d.clearedLow e.fluid e.mask (e.fireA + 16)).map fun l => min l e.line).getD e.line
  let d1 := { d with syn := { d.syn with pend := d.syn.pend ++ [{ e with folded := [] }] },
                     ins := { d.ins with health := d.ins.health ++ [({ e with folded := [] }, low)] } }.notePend
  let d2 := if d1.firing then d1 else d1.foldAll
  (((d2.loopForget e.fluid e.mask).noteRestored e.fluid e.mask e.line).addDead e.fluid e.mask e.line).noteLoop

/-- A CRC record (R325): compared on every port whose batch is complete, and kept for the others. -/
def Dev.applyCrc (d : Dev) (f comparable : Nat) (crcs : List Nat) : Dev :=
  let d1 := { d with ptn := { d.ptn with crcs := ((f, comparable, crcs) :: d.ptn.crcs).take 32 } }
  d1.each (List.range 192) fun d n => d.comparePort n f (crcs.getD n 0) (bitOf comparable n)

/-- A context page as it stands at the active controller. A context that has closed closes its regions here too; units
that it no longer uses are zeroed. DEDUCED (log 56). -/
def Dev.applyPage (d : Dev) (s : Nat) (regs : List (Reg × BitVec 64)) (generation : Nat) (wrapped : List Byte)
    (drops energy : List (Nat × Nat)) (ivs : Nat × Nat) : Dev :=
  let was := d.get .tenDramUsed s
  let lived := d.slotState s == 1
  let d1 := (regs.filter fun x => pageRegs.contains x.1).foldl (fun d x => d.wr x.1 s x.2) d
  let now := d1.get .tenDramUsed s
  let live := d1.slotState s == 1 || d1.slotState s == 2
  let key := if live then d1.unwrapKey wrapped else none
  let d2 := d1.setCtx s { d1.ctx s with generation := generation, wrapped := wrapped, key := key, drops := drops, energy := energy,
                                         ivCount := ivs.1, ivXpt := ivs.2 }
  let d3 := if s = 0 then d2
    else if now < was then (d2.put .tenDramUsed s was).dropUnits s (was - now) (if live then .staging else .rings)
    else (d2.put .tenDramUsed s was).takeUnits s (now - was) (if lived then .staging else .rings)
  let d4 := if lived && d3.slotState s == 2 then
      (d3.cmp.regions.filter fun r => r.slot == s && !r.closed).foldl (fun d r => d.endRegion r) (d3.dropJobs s)
    else d3
  if live then d4.noteContexts
  else
    let keep := d4.cmp.regions.filter fun r => r.slot != s
    ({ d4 with cmp := { d4.cmp with regions := keep } }.countRegions s).noteContexts

/-- A region opens at the standby as the active controller opened it. -/
def Dev.applyRegion (d : Dev) (r : Region) : Dev :=
  if (d.region? r.number).isSome then d
  else { d with cmp := { d.cmp with regions := d.cmp.regions ++ [r] } }.countRegions r.slot

/-- The effect of a ring entry, with its completion at its position (R322, R330). DEDUCED (log 56). -/
def Dev.applyEffect (d : Dev) (s : Nat) (entry : List Nat) (status : Nat) (body : List Nat) (pos : Nat) : Dev :=
  let w : List Word := entry.map (BitVec.ofNat 32)
  let d1 :=
    if status ≠ 0 then d
    else if entOpcode w = 0x10 then
      let r := regionOf s w
      (d.takeUnits s r.units (.region (body.getD 0 0))).applyRegion { r with number := body.getD 0 0 }
    else if entOpcode w = 0x11 then
      match d.region? (bits (entWord w 1) 0 16) with
      | some r => d.closeRegion r (entInt w 2)
      | none => d
    else if entOpcode w = 0x30 then
      let p := d.pipe (bits (entWord w 1) 0 5)
      d.setPipe (bits (entWord w 1) 0 5)
        { p with subs := Tab.set p.subs (body.getD 0 0) (subscriptionOf (d.get .tenHandle s) w) }
    else if entOpcode w = 0x31 then
      let p := d.pipe (bits (entWord w 1) 0 5)
      d.setPipe (bits (entWord w 1) 0 5) { p with subs := Tab.erase p.subs (bits (entWord w 1) 8 4) }
    else d
  let mine := d1.ptn.cqDue.filter fun x => x.1 == s
  let rest := if d1.cqDepth s ≤ mine.length then d1.ptn.cqDue.erase (mine.headD (0, 0, 0, 0, 0, [])) else d1.ptn.cqDue
  { d1 with ptn := { d1.ptn with cqDue := rest ++ [(s, pos, entTag w, entOpcode w, status, body)] } }

/-- Loop state of nozzles (R240). -/
def Dev.applyLoop (d : Dev) (cells : List (Nat × Nat × LoopCell)) (armed : Tab Nat (Nat × List Nat)) : Dev :=
  let d1 := cells.foldl (fun d c => d.setCell c.1 c.2.1 c.2.2) d
  { d1 with ql := { d1.ql with armed := armed } }.noteLoop

end Sys2Proof.Machine
end

