-- ==== Sys2Proof/Machine/EngineOps.lean ====
section
/-! DEFINITION. Engine faults, spares and substitution (R170, R171). -/

namespace Sys2Proof.Machine

/-- The batch in progress on a port is discarded; it restarts from row index 0 (R171). -/
def Dev.discardRun (d : Dev) (n : Nat) : Dev :=
  let x := d.syn' n
  d.setSyn n { x with runs := x.runs.map fun r => { r with restart := true } }

/-- Substitution is asked for: the lowest-numbered spare leaves the pool and a cue sequence waits (R171). -/
def Dev.substitute (d : Dev) (e n spare : Nat) : Dev :=
  (((d.setBit .embStatus spare 30 false).noteSpares).discardRun n).cueRequest (.subst e spare n)

/-- A port whose engine fails with no spare left: surrender, or the port is masked and its head's bit cleared (Table
6.6). -/
def Dev.noSpare (d : Dev) (n : Nat) : Dev :=
  let d1 := (d.event .embGlbEvent 0 2).raise .embNoSpare n
  if d1.canSurrender then d1.surrender 2
  else
    let d2 := (d1.noEngine n).maskFault n
    (if d2.linkState n = 4 ∨ d2.linkState n = 5 then d2.setLink n 3 else d2).clearHead n

/-- An engine is found faulty with a CAUSE (R170, Table 12.4): a spare takes its port, or the port has none left. -/
def Dev.engineFail (d : Dev) (e cause : Nat) : Dev :=
  if d.bit .embStatus e 31 then d
  else
    let assigned := d.bit .embStatus e 29
    let n := d.fld .embStatus e 0 8
    let d1 := ((d.engineOut e cause).event .embGlbEvent 0 0).raise .embFault e
    if !assigned then d1
    else match d1.spares with
      | spare :: _ => d1.substitute e n spare
      | [] => (d1.discardRun n).noSpare n

end Sys2Proof.Machine
end

