-- ==== Sys2Proof/Machine/ImgOps.lean ====
section
/-! DEFINITION. The bar image in force: loading, the shape, engines, tables, pools and stores at an activation (R31, R41, R46,
R160, R172, R223, R233, R278, R465). -/

namespace Sys2Proof.Machine

/-- STATE of IMG_STATUS (Table 2.13): 0 EMPTY, 1 LOADING, 2 READY, 3 ARMED, 4 ACTIVATING. -/
def Dev.imgState (d : Dev) : Nat := d.fld .imgStatus 0 0 3

/-- Set STATE. -/
def Dev.setImgState (d : Dev) (v : Nat) : Dev := d.setFld .imgStatus 0 0 3 v

/-! ### Sizes of DRAM (R406 to R408, R278) -/

/-- Capacity of one populated group (Table 16.1). -/
def Dev.groupBytes (d : Dev) : Nat :=
  let den := d.fld .dmcCfg 0 10 2
  if d.bit .dmcCfg 0 31 && den != 0 then 2 ^ 35 * 2 ^ (den - 1) * d.fld .dmcCfg 0 12 2 else 0

/-- Populated groups. -/
def Dev.groups (d : Dev) : List Nat := (List.range 4).filter fun g => d.bit .dmcCfg 0 (16 + g)

/-- Bytes of DRAM. -/
def Dev.dramBytes (d : Dev) : Nat := d.groupBytes * d.groups.length

/-- Units of 64 KiB that hold an area of some MiB. DEDUCED (log 60). -/
def mibUnits (mib : Nat) : Nat := 16 * mib

/-- Units outside the owner partition and the pool: the training areas, the inspection store, the loop state and the
park area. DEDUCED (log 60). -/
def Dev.reservedUnits (d : Dev) : Nat :=
  mibUnits (2 * d.groups.length) + unitsOf (1000000 * d.get .insStoreSize 0) + unitsOf (8 * 192 * 16384) +
    unitsOf (1024 * d.cfg .parkSlots 0)

/-- Bytes of the owner partition: before any activation, those of its default within the DRAM there is.
DEDUCED (log 60). -/
def Dev.ownerBytes (d : Dev) : Nat :=
  if d.img.active.isSome then 65536 * d.ten.ownerUnits else min d.dramBytes (2 ^ 20 * Field.dflt .ownerDramMb 0)

/-- Units that tenants hold: their slots', those being zeroed, and those of parked contexts. -/
def Dev.tenantUnits (d : Dev) : Nat :=
  ((List.range 4095).map fun s => d.get .tenDramUsed (s + 1)).sum + d.zeroingUnits false +
    (d.ten.parks.map fun p => Tab.get p.2.page .tenDramUsed 0).sum

/-- The owner partition and the tenant pool at an activation (R278, R287). -/
def Dev.setPools (d : Dev) : Dev :=
  let left := d.dramBytes / 65536 - d.reservedUnits
  let mb := d.cfg .ownerDramMb 0
  let owner := if mb = 0 then left else min left (mibUnits mb)
  let pool := left - owner
  (({ d with ten := { d.ten with ownerUnits := owner } }).put .tenPoolUnits 0 pool).put .tenPoolFree 0 (pool - d.tenantUnits)

/-! ### Loading (R41, R50, R489) -/

/-- NVA address of a bar image store slot (Table 17.3). -/
def storeSlotAddr (k : Nat) : Nat := k * 0x16e3600 + 0x800000

/-- The bytes and the size of the source of a load (R489). -/
def Dev.loadSource (d : Dev) : Nat × List Byte :=
  let take := fun (m : Mem) (a size : Nat) =>
    (size, m.readBytes a (min size (max 32 (le32At (m.readBytes a 32) 0xc))))
  match d.img.source with
  | .ownerBuffer =>
    let a := d.get .imgSrcAddr 0
    take d.dram a (min 0x800000 (d.ownerBytes - a))
  | .storeSlot k => if 2 ≤ k then (0, []) else take d.nva (storeSlotAddr k) 0x800000

/-- The clamp report of a load (R44). -/
def Dev.setReport (d : Dev) (r : List ClampEntry) : Dev :=
  let d1 := ({ d with img := { d.img with report := r.take 1024 } }).put .imgClampCount 0 r.length
  (d1.setBit .imgStatus 0 5 (!r.isEmpty)).setBit .imgStatus 0 6 (decide (1024 < r.length))

/-- The shadow is emptied. -/
def Dev.dropShadow (d : Dev) : Dev :=
  (({ d with img := { d.img with shadow := none } }).setBit .imgStatus 0 7 false).setBit .imgStatus 0 4 false

/-- The end of a load (R41, Table 2.6). DESIGN CHOICE (log 117). -/
def Dev.loadDone (d : Dev) : Dev :=
  let src := d.loadSource
  match loadImage (Tab.get d.sec.keys 1 []) src.1 src.2 with
  | .error (e, r) =>
    let loc := match e.loc with
      | some (f, c) => 2 ^ 31 + f <<< 24 + c
      | none => 0
    ((((d.dropShadow.setReport r).setImgState 0).put .imgError 0 (e.sectionIndex <<< 16 + e.code.code.toNat)).put .imgErrorLoc 0
      loc).raise e.code e.sectionIndex
  | .ok g =>
    let d1 := ({ d with img := { d.img with shadow := some g.image } }.setReport g.report).setImgState 2
    let hot := (d1.img.active.map fun a => g.image.hotOver a).getD false
    let d2 := (d1.setBit .imgStatus 0 7 hot).setBit .imgStatus 0 4 (g.image.major == 3)
    ((d2.put .imgError 0 0xffff0000).setBit .imgErrorLoc 0 31 false).irqPulse 1537

/-! ### The parts of a stop activation (R46, R465) -/

/-- The shape registers (R31). DESIGN CHOICE (log 116). -/
def Dev.setShape (d : Dev) : Dev :=
  let g := d.image
  let bw := g.get .bandW 0
  let k := (g.fluids.map fun f => g.get .fluidK f).foldl max 0
  let d1 := d.put .glbBarShape 0 (2 ^ 31 + (if bw = 256 then 1 else if bw = 512 then 2 else 3) <<< 24 + g.usedPorts.length <<< 16 +
    k <<< 8 + g.fluids.length)
  (d1.put .glbBarPitch 0 (g.get .lpi 0)).each (List.range 16) fun d f =>
    d.put .glbFluid f (if g.get .fluidPresent f = 0 then 0 else 2 ^ 31 + g.get .fluidK f <<< 24 + g.get .fluidColumns f)

/-- IMG_DIGEST: the digest's bytes, the first one in [7:0] of the first word (Table 2.14). -/
def Dev.setDigest (d : Dev) : Dev :=
  let ws := leWords (beBytes d.image.digest.toNat 48)
  d.each (List.range 12) fun d i => d.put .imgDigest i (ws.getD i 0)

/-- Every head port is masked (R465 step 1): no fault, so nothing is spoiled. -/
def Dev.maskAll (d : Dev) : Dev :=
  d.each (d.portsIn [4, 5]) fun d n =>
    let d1 := d.setPort n { d.port n with outstanding := [], sent := [], leaveFire := none, joinAtEnable := false }
    (((d1.setLink n 3).clearPort n).setCredits n 0).noteOutstanding n

/-- Engines are assigned as ENGINES states (R135, R172). -/
def Dev.assignEngines (d : Dev) : Dev :=
  let g := d.image
  let d1 := d.each (List.range 200) fun d e =>
    if d.bit .embStatus e 31 then d
    else d.put .embStatus e ((if g.get .engineSpare e = 0 then 0 else 2 ^ 30) + 0xff)
  let d2 := (d1.each (List.range 192) Dev.noEngine).noteSpares
  d2.each g.usedPorts fun d n =>
    let e := g.get .engine n
    if !d.bit .embStatus e 31 then d.assignEngine e n
    else match d.spares with
      | [] => d.raise .embNoSpare n
      | x :: _ => d.assignEngine x n

/-- The table and the page of a port are kept (R160). DEDUCED (log 63). -/
def keepsTable (old : Option Image) (g : Image) (n : Nat) : Bool :=
  match old with
  | none => false
  | some o =>
    o.get .headUsed n != 0 && [Field.headFluid, .headSibling, .headStartCol].all (fun f => o.get f n == g.get f n) &&
      o.get .fluidK (o.get .headFluid n) == g.get .fluidK (g.get .headFluid n)

/-- Tables, pages and update sets at a stop activation (R160). DEDUCED (log 63). -/
def Dev.resetTables (d : Dev) (old : Option Image) : Dev :=
  let g := d.image
  d.each (List.range 192) fun d n =>
    let keep := g.get .headUsed n == 0 || keepsTable old g n
    let armed := d.bit .synStatus n 14
    let open' := !(d.syn' n).staged.isEmpty
    let d1 := if armed || (!keep && open') then ((d.loopSetGone n).dropSet n).raise .nztAborted n else d
    if keep then d1
    else
      let k := g.get .fluidK (g.get .headFluid n)
      let d2 := d1.setSyn n { d1.syn' n with table := [], hmask := 2 ^ k - 1, folds := [], since := 0 }
      ((d2.resetPage n).setBit .synCtrl n 0 false).loopClearPort n

/-- ROWDLY of one row from a fraction in 1/4,096 line (R153). -/
def rowDelay (x : Int) : Nat := (clampInt ((2 * x + 32) / 64) 0 127).toNat

/-- D, BANDS and ROWDLY of the rows of the used ports (R24, R153, Table 4.9). -/
def Dev.setRows (d : Dev) : Dev :=
  let g := d.image
  d.each g.usedPorts fun d n =>
    let fs := (List.range 4).map fun j => (g.rowF n j : Int)
    let back := fun (f : Int) => (if f = 0 then 0 else 4096 - f) + g.getInt .bidirQ12 0
    let pack := fun (xs : List Nat) => (List.range 4).foldl (fun a j => a + (xs.getD j 0) <<< (7 * j)) 0
    let d1 := (d.put .rowdly n (pack (fs.map rowDelay))).put .rowdlyRev n (pack (fs.map fun f => rowDelay (back f)))
    d1.each (List.range 4) fun d j =>
      (d.put .rpD (4 * n + j) (g.rowD n j)).setFld .rpStatus (4 * n + j) 16 5 (g.rowBands n).length

/-- Lines from the tap row of a fluid to a camera, rounded up. -/
def Dev.tapSpan (d : Dev) (c : Nat) (bar : Option Nat) (f : Nat) : Nat :=
  let cam := (d.cfg .camDistNm c * d.cfg .lpi 0 * 4096 + 12700000) / 25400000
  let tap := if bar.isNone then d.image.dQ12 f (d.tapSibling f) 0 else 0
  ceilDiv (cam - tap) 4096

/-- INS_STORE_SIZE (R223): a frame spans FRAME_LINES times TRIG_STEP raster lines. DEDUCED (log 60). -/
def Dev.storeMb (d : Dev) : Nat :=
  let mb := d.cfg .storeMb 0
  if mb ≠ 0 then mb
  else
    let planes := (List.range 24).flatMap fun c => if d.cfg .pipeEn c = 0 then [] else
      (d.planes c).map fun q => (c, d.planeBar c q, d.cfg .planeFluid (4 * c + q))
    let fluids := (planes.map fun p => p.2).eraseDups
    let bytes := fluids.map fun x =>
      let cs := (planes.filter fun p => p.2 == x).map fun p => p.1
      let span := (cs.map fun c => d.tapSpan c x.1 x.2).foldl max 0
      let frames := 2 * (cs.map fun c => ceilDiv (d.cfg .frameLines c * d.cfg .trigStep c) 65536).foldl max 0
      ceilDiv (d.barWidth x.1 x.2 * 1004 * (span + frames + 512)) 2000
    ceilDiv bytes.sum 1000000

/-- REC_SLOT of a pipeline (R233); a plane whose SHAPE is not known counts k = 4. DEDUCED (log 51). -/
def Dev.recSlot (d : Dev) (c : Nat) : Nat :=
  let qs := d.planes c
  let ncol := d.cfg .ncol c
  let k := (qs.map fun q => if d.planeK c q = 0 then 4 else d.planeK c q).sum
  let c64 := fun x => 64 * ceilDiv x 64
  4096 * ceilDiv (128 + c64 (8 * qs.length * ncol) + c64 (2 * ncol * k) + c64 (qs.length * ncol / 2) + c64 (64 * qs.length) + 8192) 4096

/-- The inspection store and the record slots at an activation. -/
def Dev.setInspection (d : Dev) : Dev :=
  let ports : Tab Nat PortSyn := d.syn.port.map fun t => (t.1, { t.2 with since := t.2.folds.length })
  let d0 : Dev := { d with ins := { d.ins with copies := [], lost := [], health := [] }, syn := { d.syn with port := ports } }
  let d1 := d0.put .insStoreSize 0 d.storeMb
  (d1.each (List.range 24) fun d c => d.put .insRecSlot c (d.recSlot c)).noteStore

/-- Position held at the value of input i. -/
def Dev.freezeAt (d : Dev) (i : Nat) : Dev :=
  let fr : Int := d.encPos i d.now
  let p3 : PosState := { d.pos with frozen := some fr }
  { d with pos := p3 }

/-- No dead reckoning, no frozen position, no alignment. -/
def Dev.freshPos (d : Dev) : Dev :=
  let p1 : PosState := { d.pos with frozen := none, dr := none, held := [], aligned := false, xcOver := false }
  let d1 : Dev := { d with pos := p1 }
  (d1.setBit .posStatus 0 8 false).put .posXcDiff 0 0

/-- The source that is active after an activation: the primary input, or the other where only that one is in service. -/
def Dev.setPosition (d : Dev) : Dev :=
  match d.encUsed.find? d.inService with
  | some i => (d.freshPos.resetSilent.setSource i).repeatOut
  | none => ((d.freshPos.resetSilent.freezeAt (d.cfg .posPrimary 0)).setSource (d.cfg .posPrimary 0)).repeatOut

/-- Bring-up of the used ports: from the choice of version and width where there is a link (R465 step 5). -/
def Dev.bringUp (d : Dev) : Dev :=
  d.each d.image.usedPorts fun d n =>
    if 3 ≤ d.linkState n ∨ (d.linkState n = 2 ∧ 3 ≤ (d.port n).stage) then (d.linkRestart n 2).linkChoose n else d

/-- Everything that runs under the image in effect ends. -/
def Dev.endImage (d : Dev) : Dev := ((d.closeFrames).maskAll).each (List.range 192) Dev.clearPort

/-- The image in effect becomes g. -/
def Dev.takeImage (d : Dev) (g : Image) : Dev :=
  let im : ImgState := { d.img with active := some g, shadow := none, digestBlock := false, staged := false }
  let d1 : Dev := { d with img := im }
  (((d1.setImgState 4).setBit .imgStatus 0 3 true).setBit .imgStatus 0 7 false).put .imgActiveSerial 0 g.serial

/-- LANE_EN (R398, Table 15.5): a lane that is not enabled goes OFF, one that is enabled and OFF rests. -/
def Dev.setLanes (d : Dev) : Dev :=
  d.each (List.range 1024) fun d l =>
    if !d.laneEnabled l then
      (if d.laneSt l = 0 ∨ d.laneSt l = 10 then d else ((d.setLaneSt l 0).setGood l false).unmark l)
    else if d.laneSt l = 0 then d.laneDeep l
    else d

/-- What every block takes from the image in effect. -/
def Dev.takeFields (d : Dev) (old : Option Image) : Dev :=
  ((((((d.setShape).setDigest).assignEngines).resetTables old).setRows).setInspection).setLanes

/-- The daily record after an activation. -/
def Dev.showDaily (d : Dev) : Dev := if d.role = 1 then d.sendDaily else d.compareDailies

/-- A stop activation (R46, R465). DEDUCED (log 104). -/
def Dev.activateStop (d : Dev) (g : Image) : Dev :=
  let old : Option Image := d.img.active
  let d1 : Dev := ((d.endImage).takeImage g).takeFields old
  let d2 : Dev := ((((d1.setPools).setPosition).lineMoved.seekRows).startLoops).bringUp
  (((d2.each (List.range 192) Dev.checkPd).journal (.image g.serial)).sendShape).showDaily

/-! ### Hot activation (R47, Table 2.10) -/

/-- F of IMG_ACT_FIRE. -/
def Dev.actFire (d : Dev) : Nat := d.get .imgActFire 0 % 2 ^ 48

/-- A pipeline's fields differ between two images. -/
def pipeDiffers (a b : Image) (c : Nat) : Bool :=
  (a.fields ++ b.fields).any fun x =>
    let per := x.1.1.desc.count / 24
    let mine := if x.1.1 = .lden then (List.range 4).any fun q => b.get .planeFluid (4 * c + q) == x.1.2
      else x.1.1.desc.sec == 10 && per != 0 && x.1.2 / per == c
    mine && a.get x.1.1 x.1.2 != b.get x.1.1 x.1.2

/-- The hot fields take effect; open frames of pipelines whose fields change close first (R226). DEDUCED (log 64). -/
def Dev.activateHot (d : Dev) (g : Image) : Dev :=
  let d1 := d.each ((List.range 24).filter fun c => pipeDiffers d.image g c) fun d c => d.frameClose c true
  let im : ImgState := { d1.img with active := some g, shadow := none, staged := false }
  let d2 : Dev := { d1 with img := im }
  (d2.each ((List.range 256).filter fun l => d.image.get .loopSp l != g.get .loopSp l) fun d l =>
    d.put .ctlLoopSp l (d.cfgBits .loopSp l 0 16)).put .imgActiveSerial 0 g.serial

end Sys2Proof.Machine
end

