-- ==== Sys2Proof/Machine/State.lean ====
section
/-! DEFINITION. The machine: the controller and the queue of waiting commands; why a step can stop; the state after
reset. -/

namespace Sys2Proof.Machine

/-- The machine's state. -/
structure State where
  /-- The controller. -/
  dev : Dev
  /-- Commands that wait, first in, first out. -/
  pending : List Instr
  deriving DecidableEq, Repr

/-- Why the machine stops. No command of this hardware stops it: the spec gives every command an effect. -/
inductive Fault where
  deriving DecidableEq, Repr

/-- Why a command has no meaning. -/
inductive Refusal where
  /-- Raised by the dispatch for a command not modelled yet (safe). -/
  | notModelled (mnemonic : String)
  deriving DecidableEq, Repr

/-- A command's effect on the controller, as an outcome: the queue is as before. -/
def State.run (s : State) (f : Dev → Dev) : Host.Outcome State Fault Refusal := .next { s with dev := f s.dev }

/-- The machine after a cold reset: no command waits. -/
def State.reset : State := { dev := Dev.reset, pending := [] }

end Sys2Proof.Machine
end

