-- ==== Sys2Proof/Machine/HostPorts.lean ====
section
/-! DEFINITION. The commands of the chapter "Host Ports and Network Time": frames, transport datagrams, PCIe, interrupt
vectors, the local clock and the timed outputs (R290 to R313). -/

namespace Sys2Proof.Machine

/-! ### The transport (R292 to R298) -/

/-- A datagram that passed the checks of R293. -/
structure Datagram where
  slot : Nat
  version : Nat
  type : Nat
  seq : Nat
  ack : Nat
  sack : Nat
  payload : List Byte
  deriving DecidableEq, Repr

/-- Check a datagram: length, handle of an ACTIVE, Ethernet-bound context, IV byte 0 and tag (R292, R293). -/
def Dev.xptCheck (d : Dev) (data : List Byte) : Option Datagram :=
  let w0 := le32At data 0
  let len := bits w0 0 16
  if data.length ≠ 48 + len ∨ data.getD 20 0 ≠ 0x7f then none
  else match d.handleSlot (le32At data 4) with
    | none => none
    | some s =>
      if d.slotBind s ≠ 2 then none
      else match (d.ctx s).key with
        | none => none
        | some key =>
          match aesGcmOpen key ((data.drop 20).take 12) (data.take (32 + len)) []
              (BitVec.ofNat 128 (leNat (data.drop (32 + len)))) with
          | none => none
          | some _ => some { slot := s, version := bits w0 28 4, type := bits w0 24 4, seq := le32At data 8,
                             ack := le32At data 12, sack := le32At data 16, payload := (data.drop 32).take len }

/-- A datagram is discarded with no reply (R293). -/
def Dev.xptDrop (d : Dev) : Dev := d.count .xptAuthDrop 0

/-- A SEQ inside the receive window: up to 32 ahead under version 3, the next one under version 2 (R297). -/
def xptInWindow (version rxNext seq : Nat) : Bool :=
  if version = 3 then decide ((seq + 2 ^ 32 - rxNext % 2 ^ 32) % 2 ^ 32 ≤ 32) else seq == rxNext

/-- Send waiting datagrams while fewer than 64 are unacknowledged. -/
def Dev.xptRefill : Nat → Dev → Nat → Dev
  | 0, d, _ => d
  | n + 1, d, s =>
    let x := d.sess s
    match x.queue with
    | [] => d
    | (type, payload) :: q =>
      if 64 ≤ x.unacked.length then d
      else Dev.xptRefill n ((d.setSess s { x with queue := q }).xptSend s type payload) s

/-- Take the ACK and SACK that a datagram carries (Table 11.3, R297). -/
def Dev.xptTakeAck (d : Dev) (g : Datagram) : Dev :=
  let x := d.sess g.slot
  let m := seqMod g.version
  let half := m / 2
  let left := x.unacked.filter fun u => decide ((u.seq + m - g.ack % m) % m < half)
  let marked := left.map fun u =>
    let i := (u.seq + 2 * m - g.ack % m - 1) % m
    if g.version = 3 && decide (i < 32) && bitOf g.sack i then { u with sacked := true } else u
  Dev.xptRefill x.queue.length (d.setSess g.slot { x with unacked := marked }) g.slot

/-- The session of a slot ends: its staging area is given up (Table 11.4). -/
def Dev.xptEnd (d : Dev) (s : Nat) : Dev :=
  let c := d.ctx s
  let d1 := ((d.setCtx s { c with stagingUnits := 0 }).setSess s Sess.empty).put .xptSession s 0
  if c.stagingUnits = 0 then d1 else d1.dropUnits s c.stagingUnits .staging

/-- Submission entries arrive from the transport at ring positions (Table 11.4). -/
def Dev.xptPutEntries (d : Dev) (s pos : Nat) (data : List Byte) : Dev :=
  let c := d.ctx s
  let n := data.length / 64
  let words := (List.range n).foldl (fun t i =>
    Tab.set t ((bits pos 0 16 + i) % d.sqDepth s) (leWords ((data.drop (64 * i)).take 64))) c.sqWords
  d.setCtx s { c with sqWords := words }

/-- Write into the staging area; an access outside it is refused (R286, R296). -/
def Dev.xptStage (d : Dev) (s off : Nat) (data : List Byte) : Dev :=
  if 2 ^ 20 * d.fld .xptSession s 0 16 < off + data.length then d.accessErr s
  else
    let x := d.sess s
    d.setSess s { x with staging := Mem.writeBytes x.staging off data }

/-- Deliver one datagram to its context (Table 11.4); a doorbell is a write of the slot's page (R266). -/
def Dev.xptDeliver (d : Dev) (s type : Nat) (p : List Byte) : Dev :=
  if type = 3 then d.xptPutEntries s (le32At p 0) (p.drop 4)
  else if type = 4 ∧ d.inTransit .slot s then d.raise .transit s
  else if type = 4 then (d.sqDoorbell s (le32At p 0)).cqDoorbell s (le32At p 4)
  else if type = 5 then d.xptStage s (leNat (p.take 8)) (p.drop 8)
  else if type = 9 then d.xptEnd s
  else d

/-- Deliver, in SEQ order, what was held (R294, R297). -/
def Dev.xptDrain : Nat → Dev → Nat → Dev
  | 0, d, _ => d
  | n + 1, d, s =>
    let x := d.sess s
    match x.held.find? fun h => h.1 == x.rxNext with
    | none => d
    | some (seq, type, p) =>
      let d1 := d.setSess s { x with rxNext := (seq + 1) % 2 ^ 32, held := x.held.filter fun h => h.1 != seq }
      Dev.xptDrain n (d1.xptDeliver s type p) s

/-- A datagram of a session arrives that takes a SEQ: it is delivered, held or discarded (R293, R294, R297). -/
def Dev.xptOrder (d : Dev) (g : Datagram) : Dev :=
  let x0 := d.sess g.slot
  if !xptInWindow g.version x0.rxNext g.seq then d.xptDrop
  else
    let d1 := d.xptTakeAck g
    let x := d1.sess g.slot
    if g.seq = x.rxNext then
      let d2 := d1.setSess g.slot { x with rxNext := (g.seq + 1) % seqMod g.version, ackDue := true }
      Dev.xptDrain x.held.length (d2.xptDeliver g.slot g.type g.payload) g.slot
    else
      let held := if x.held.any fun h => h.1 == g.seq then x.held else x.held ++ [(g.seq, g.type, g.payload)]
      d1.setSess g.slot { x with held := held, ackDue := true }

/-- A datagram of one type, other than HELLO, arrives; bytes of another type are not this command. DEDUCED (log 98). -/
def Dev.xptArrive (d : Dev) (type : Nat) (data : List Byte) : Dev :=
  match d.xptCheck data with
  | none => d.xptDrop
  | some g =>
    if g.type ≠ type then d
    else if !d.sessBound g.slot || g.version != d.sessVersion g.slot then d.xptDrop
    else if type = 8 then d.xptTakeAck g
    else d.xptOrder g

/-- Version of a session: the lower of the tenant's and XPT_VER_MAX, never below 2; 3 is the highest there is (R295). -/
def Dev.xptVersion (d : Dev) (w0 : Nat) : Nat := max 2 (min 3 (min (bits w0 0 4) (d.get .xptVerMax 0)))

/-- A staging area of a number of MiB can be granted: the quota and the pool hold it (R295). -/
def Dev.xptGrants (d : Dev) (s mb : Nat) : Bool :=
  decide (1 ≤ mb) && decide (mb ≤ 4096) &&
    decide (d.get .tenDramUsed s - (d.ctx s).stagingUnits + 16 * mb ≤ d.get .tenDramQuota s) &&
    decide (16 * mb ≤ d.get .tenPoolFree 0)

/-- Bind a session anew (R295). The rings are enabled: no other datagram reaches SQ_EN and CQ_EN. DEDUCED (log 98). -/
def Dev.xptBind (d : Dev) (s ep peer port vlan v mb : Nat) (p : List Byte) : Dev :=
  let c := d.ctx s
  let d1 := if c.stagingUnits = 0 then d else d.dropUnits s c.stagingUnits .staging
  let d2 := (d1.takeUnits s (16 * mb) .staging).setCtx s { c with stagingUnits := 16 * mb }
  let x : Sess := { Sess.empty with
    peer := peer, udpPort := port, vlan := vlan, rxNext := (le32At p 4 + 1) % seqMod v,
    coalCount := bits (le32At p 12) 0 8, coalUs := bits (le32At p 12) 8 24, cqWait := (d.sess s).cqWait }
  let d3 := (d2.setSess s x).put .xptSession s (2 ^ 31 + v <<< 28 + ep <<< 16 + mb)
  let d4 := (d3.setBit .tenState s 0 true).setBit .tenState s 1 true
  d4.xptSend s 2 (leBytes v 4 ++ leBytes 0 4 ++ leBytes mb 4)

/-- A HELLO arrives: a session is bound or replaced, or refused with W2 = 0 (R295). DEDUCED (log 98, 113). -/
def Dev.xptHello (d : Dev) (ep peer port vlan : Nat) (data : List Byte) : Dev :=
  match d.xptCheck data with
  | none => d.xptDrop
  | some g =>
    if g.type ≠ 1 then d
    else
      let s := g.slot
      let v := d.xptVersion (le32At g.payload 0)
      let mb := le32At g.payload 8
      if d.inTransit .slot s then d.raise .transit s
      else if d.xptGrants s mb then
        let d1 := d.xptBind s ep peer port vlan v mb g.payload
        let d2 := if max 1 (d1.sess s).coalCount ≤ (d1.sess s).cqWait.length then d1.xptFlushCqe s else d1
        Dev.postDone (d2.ctx s).taken.length d2 s
      else
        (d.raise .quotaDram s).xptEmitAt s ep v ((le32At g.payload 4 + 1) % seqMod v) 0 2 0
          (leBytes v 4 ++ leBytes 0 4 ++ leBytes 0 4)

/-- HELLO (R295). -/
def execHello (ep : Fin 20) (peer : BitVec 128) (port : BitVec 16) (vlan : BitVec 13) (data : List Byte) (s : State) :
    Host.Outcome State Fault Refusal :=
  s.run fun d => d.xptHello ep.val peer.toNat port.toNat vlan.toNat data

/-- ENTRIES (R294). -/
def execEntries (data : List Byte) (s : State) : Host.Outcome State Fault Refusal := s.run fun d => d.xptArrive 3 data

/-- XPT_DOORBELL (R272, R294). -/
def execXptDoorbell (data : List Byte) (s : State) : Host.Outcome State Fault Refusal :=
  s.run fun d => d.xptArrive 4 data

/-- XPT_WRITE (R296). -/
def execXptWrite (data : List Byte) (s : State) : Host.Outcome State Fault Refusal := s.run fun d => d.xptArrive 5 data

/-- XPT_ACK (R297). -/
def execXptAck (data : List Byte) (s : State) : Host.Outcome State Fault Refusal := s.run fun d => d.xptArrive 8 data

/-- XPT_CLOSE (Table 11.4). -/
def execXptClose (data : List Byte) (s : State) : Host.Outcome State Fault Refusal := s.run fun d => d.xptArrive 9 data

/-- XPT_ACK_TIMER (R297): an ACK goes out unless another datagram has gone since. ACK takes no SEQ: the SEQ field of its
header is a free value. -/
def execXptAckTimer (slot : Fin 4096) (s : State) : Host.Outcome State Fault Refusal :=
  s.run fun d =>
    if d.sessBound slot.val && (d.sess slot.val).ackDue then
      d.drawn.xptEmit slot.val 8 (d.free (if d.sessVersion slot.val = 3 then 32 else 16)) []
    else d

/-- The session of a slot is lost (R297). -/
def Dev.xptLost (d : Dev) (s : Nat) : Dev :=
  let x := d.sess s
  let d1 := (d.setSess s { x with unacked := [], queue := [], held := [] }).setBit .xptSession s 31 false
  ((d1.stopRings s).ctxEvent 0 .xptSessionLost 0 (d.ctxHandle s) 0).raise .xptSessionLost s

/-- XPT_RESEND (R297): the datagram goes out again; after 8 resends the session is lost. -/
def execXptResend (slot : Fin 4096) (seq : BitVec 32) (s : State) : Host.Outcome State Fault Refusal :=
  s.run fun d =>
    let x := d.sess slot.val
    match x.unacked.find? fun u => u.seq == seq.toNat && !u.sacked with
    | none => d
    | some u =>
      if 8 ≤ u.resends then d.xptLost slot.val
      else
        let us := x.unacked.map fun w => if w.seq = u.seq then { w with resends := w.resends + 1 } else w
        ((d.setSess slot.val { x with unacked := us }).count .xptResends slot.val).xptEmit slot.val u.type u.seq
          u.payload

/-- CQE_COALESCE_TIMER (R298). -/
def execCqeCoalesceTimer (slot : Fin 4096) (s : State) : Host.Outcome State Fault Refusal :=
  s.run fun d => d.xptFlushCqe slot.val

/-! ### Frames (R290, R291, R307 to R309) -/

/-- The frame check sequence: the CRC-32 of IEEE 802.3 (PRESUMED). PRESUMED (log 33). -/
def fcsOf (bs : List Byte) : Nat := crcReflected 0xedb88320 0xffffffff bs ^^^ 0xffffffff

/-- A frame taken apart. -/
structure FrameInfo where
  dst : Nat
  /-- [12] tagged, [11:0] VID. -/
  vlan : Nat
  etherType : Nat
  /-- Two or more tags. -/
  extraTag : Bool
  body : List Byte
  deriving DecidableEq, Repr

/-- Take a frame, without its FCS, apart: at most one IEEE 802.1Q tag. -/
def frameInfo (f : List Byte) : FrameInfo :=
  let e := beNat ((f.drop 12).take 2)
  if e = 0x8100 then
    let e2 := beNat ((f.drop 16).take 2)
    { dst := beNat (f.take 6), vlan := 0x1000 + beNat ((f.drop 14).take 2) % 4096, etherType := e2,
      extraTag := e2 == 0x8100, body := f.drop 18 }
  else { dst := beNat (f.take 6), vlan := 0, etherType := e, extraTag := false, body := f.drop 14 }

/-- A UDP datagram: addresses (the destination with its family), ports and payload. -/
structure UdpInfo where
  v6 : Bool
  src : Nat
  dst : Nat
  sport : Nat
  dport : Nat
  payload : List Byte
  deriving DecidableEq, Repr

/-- What an IP packet is. -/
inductive IpKind where
  /-- Discarded and counted in IP_DROP (R291). -/
  | drop
  /-- No UDP. -/
  | other
  | udp (u : UdpInfo)
  deriving DecidableEq, Repr

/-- Sum of 16-bit big-endian words; an odd last byte is padded with zero. -/
def wordSum : List Byte → Nat
  | [] => 0
  | [a] => 256 * a.toNat
  | a :: b :: t => 256 * a.toNat + b.toNat + wordSum t

/-- A one's complement sum over 16-bit words comes out all ones. -/
def onesOk (n : Nat) : Bool := n != 0 && n % 65535 == 0

/-- A UDP segment between two addresses given as bytes. -/
def udpOf (v6 : Bool) (src dst seg : List Byte) : IpKind :=
  let len := beNat ((seg.drop 4).take 2)
  let ck := beNat ((seg.drop 6).take 2)
  let body := seg.take len
  let ok := if ck = 0 then !v6 else onesOk (wordSum src + wordSum dst + 17 + len + wordSum body)
  if seg.length < 8 ∨ len < 8 ∨ seg.length < len then .other
  else if !ok then .drop
  else .udp { v6 := v6, src := beNat src, dst := beNat dst, sport := beNat (seg.take 2),
              dport := beNat ((seg.drop 2).take 2), payload := body.drop 8 }

/-- Next-header values that are IPv6 extension headers (PRESUMED: the IANA list). PRESUMED (log 33). -/
def ipv6Ext : List Nat := [0, 43, 44, 50, 51, 60, 135, 139, 140, 253, 254]

/-- Take an IPv4 packet apart: fragments and headers with options are discarded (R291). -/
def ipv4Of (b : List Byte) : IpKind :=
  let vihl := (b.getD 0 0).toNat
  let total := beNat ((b.drop 2).take 2)
  let frag := beNat ((b.drop 6).take 2)
  if b.length < 20 ∨ vihl / 16 ≠ 4 ∨ vihl % 16 < 5 then .other
  else if vihl % 16 ≠ 5 ∨ frag % 16384 ≠ 0 then .drop
  else if (b.getD 9 0).toNat ≠ 17 then .other
  else udpOf false ((b.drop 12).take 4) ((b.drop 16).take 4) ((b.take total).drop 20)

/-- Take an IPv6 packet apart: packets with extension headers are discarded (R291). -/
def ipv6Of (b : List Byte) : IpKind :=
  let len := beNat ((b.drop 4).take 2)
  let nh := (b.getD 6 0).toNat
  if b.length < 40 ∨ (b.getD 0 0).toNat / 16 ≠ 6 then .other
  else if nh ∈ ipv6Ext then .drop
  else if nh ≠ 17 then .other
  else udpOf true ((b.drop 8).take 16) ((b.drop 24).take 16) ((b.drop 40).take len)

/-- The IP packet in a frame, if it holds one. -/
def frameIp (i : FrameInfo) : IpKind :=
  if i.etherType = 0x0800 then ipv4Of i.body else if i.etherType = 0x86dd then ipv6Of i.body else .other

/-- An address is one of a port's (R291): IPv4 addresses of one word, IPv6 addresses of four, the first word highest. -/
def Dev.epHasAddr (d : Dev) (p : Nat) (v6 : Bool) (a : Nat) : Bool :=
  if v6 then (List.range 4).any fun i =>
      a != 0 && a == (List.range 4).foldl (fun n j => n * 2 ^ 32 + d.get .epIpv6 (16 * p + 4 * i + j)) 0
  else (List.range 4).any fun i => a != 0 && a == d.get .epIpv4 (4 * p + i)

/-- The local clock in 2^-16 ns. -/
def Dev.clock16 (d : Dev) : Nat := d.get .tsuTime 0 * 2 ^ 16 + d.get .tsuFrac 0 / 2 ^ 16

/-- A timestamp moved by ps: ns modulo 2^64 and 16 bits of fraction (R307, R308). -/
def stampOf (clock16 : Nat) (ps : Int) : Nat × Nat :=
  let t : Int := (clock16 : Int) + (ps * 65536) / 1000
  let n := (t % (2 ^ 80 : Nat)).toNat
  (n / 65536, n % 65536)

/-- Receive timestamp of a port (R308). -/
def Dev.rxStamp (d : Dev) (p : Nat) : Nat × Nat :=
  stampOf d.clock16 (if d.bit .epCtrl p 5 then signedOf 32 (d.get .epMacCorrPs p) else -(d.get .epRxDlyPs p : Int))

/-- Transmit timestamp of a port (R308). -/
def Dev.txStamp (d : Dev) (p : Nat) : Nat × Nat :=
  stampOf d.clock16 (if d.bit .epCtrl p 5 then signedOf 32 (d.get .epMacCorrPs p) else (d.get .epTxDlyPs p : Int))

/-- The PTP message of a frame, if it is one to be time-stamped: an event message over Ethernet or UDP port 319. -/
def ptpEvent (i : FrameInfo) : Option (List Byte) :=
  let m : Option (List Byte) :=
    if i.etherType = 0x88f7 then some i.body
    else match frameIp i with
      | .udp u => if u.dport = 319 then some u.payload else none
      | _ => none
  match m with
  | none => none
  | some b => if b.isEmpty ∨ 3 < (b.getD 0 0).toNat % 16 then none else some b

/-- A frame is PTP (Table 11.2, order 1). -/
def isPtp (i : FrameInfo) : Bool :=
  i.etherType == 0x88f7 ||
    match frameIp i with
    | .udp u => u.dport == 319 || u.dport == 320
    | _ => false

/-- A frame goes to the management cores. -/
def Dev.mgmtTake (d : Dev) (p : Nat) (f : List Byte) (stamp : Option (Nat × Nat)) : Dev :=
  { d with hst := { d.hst with mgmtRx := d.hst.mgmtRx ++ [(p, f, stamp)] } }

/-- Bits the management path may take now: it fills at 1 Gbit/s up to one frame of 9,216 bytes (R291). -/
def Dev.mgmtRoom (d : Dev) : Nat := min 73728 (d.hst.mgmtBits + (d.now - d.hst.mgmtAt) / 1000)

/-- A frame goes to the management cores within 1 Gbit/s in total; the excess is discarded (Table 11.2, order 3). -/
def Dev.mgmtOffer (d : Dev) (p : Nat) (f : List Byte) : Dev :=
  let room := d.mgmtRoom
  if 8 * f.length ≤ room then
    { d with hst := { d.hst with mgmtBits := room - 8 * f.length, mgmtAt := d.now } }.mgmtTake p f none
  else d.count .epMgmtDrop p

/-- A good frame is classified in the order of Table 11.2. -/
def Dev.classify (d : Dev) (p : Nat) (f : List Byte) (i : FrameInfo) : Dev :=
  match frameIp i with
  | .drop => d.count .epIpDrop p
  | k =>
    let xpt : Option UdpInfo := match k with
      | .udp u => if d.epHasAddr p u.v6 u.dst && u.dport == d.get .xptUdpPort 0 then some u else none
      | _ => none
    if isPtp i then d.mgmtTake p f (if (ptpEvent i).isSome then some (d.rxStamp p) else none)
    else match xpt with
      | some u =>
        if bits (le32At u.payload 0) 24 4 = 1 then d.xptHello p u.src u.sport i.vlan u.payload
        else d.xptArrive (bits (le32At u.payload 0) 24 4) u.payload
      | none => if i.dst = d.get .epMac p ∨ i.dst / 2 ^ 40 % 2 = 1 then d.mgmtOffer p f else d

/-- A port, in split mode one of its sub-ports, is enabled (R290, Table 11.9). -/
def Dev.portOn (d : Dev) (p sub : Nat) : Bool :=
  d.bit .epCtrl p 0 && (if d.bit .epCtrl p 1 then d.bit .epCtrl p (8 + sub) else sub == 0)

/-- A PAUSE or PFC frame: EtherType 0x8808 with opcode 0x0001 or 0x0101 (PRESUMED: IEEE 802.3). PRESUMED (log 33). -/
def isPause (i : FrameInfo) : Bool :=
  i.etherType == 0x8808 && (beNat (i.body.take 2) == 0x0001 || beNat (i.body.take 2) == 0x0101)

/-- A frame arrives on an enabled port: FCS, length, tags and PAUSE are checked first (R290, R291). DEDUCED (log 113).
-/
def Dev.frameIn (d : Dev) (p sub : Nat) (frame : List Byte) : Dev :=
  let n := frame.length - 4
  let f := frame.take n
  let i := frameInfo f
  if !d.portOn p sub ∨ frame.length < 18 ∨ leNat (frame.drop n) ≠ fcsOf f then d
  else if i.extraTag ∨ 9216 < i.body.length then d
  else if isPause i then d.count .epPauseRx p
  else d.classify p f i

/-- ETH_FRAME_RECEIVE (R291). -/
def execEthFrameReceive (ep : Fin 20) (sub : Fin 4) (frame : List Byte) (s : State) : Host.Outcome State Fault Refusal :=
  s.run fun d => d.frameIn ep.val sub.val frame

/-- A transmit timestamp enters the FIFO of a port, or is dropped (R309). -/
def Dev.pushStamp (d : Dev) (p : Nat) (b : List Byte) : Dev :=
  let q := Tab.get d.hst.txts p []
  if 64 ≤ q.length then (d.count .epTsDrop p).raise .tsuFifo p
  else
    let t := d.txStamp p
    let e : TxStamp := { ns := t.1, frac := t.2, sequenceId := beNat ((b.drop 30).take 2),
                         messageType := (b.getD 0 0).toNat % 16, domain := (b.getD 4 0).toNat }
    { d with hst := { d.hst with txts := Tab.set d.hst.txts p (q ++ [e]) } }

/-- ETH_FRAME_TRANSMIT (R307, R309): the frame leaves with its FCS where the link is up; an event message is time-stamped. -/
def execEthFrameTransmit (ep : Fin 20) (sub : Fin 4) (frame : List Byte) (s : State) : Host.Outcome State Fault Refusal :=
  s.run fun d =>
    if d.portOn ep.val sub.val && d.bit .epStatus ep.val (28 + sub.val) then
      let d1 := d.send (.frame ep.val sub.val (frame ++ leBytes (fcsOf frame) 4))
      match ptpEvent (frameInfo frame) with
      | some b => d1.pushStamp ep.val b
      | none => d1
    else d

/-- Word i of HST_EP[p].TXTS: the entry at the head of the FIFO, 0 where it is empty (Table 11.11). -/
def Dev.txtsWord (d : Dev) (p i : Nat) : Nat :=
  match Tab.get d.hst.txts p [] with
  | [] => 0
  | e :: _ =>
    if i = 0 then e.ns % 2 ^ 32
    else if i = 1 then e.ns / 2 ^ 32
    else if i = 2 then e.frac + e.sequenceId <<< 16
    else e.messageType <<< 8 + e.domain

/-- TXTS_POP (R309): a read of word 3 takes the entry out of the FIFO. -/
def execTxtsPop (req : Fin 5) (ep : Fin 20) (s : State) : Host.Outcome State Fault Refusal :=
  s.run fun d =>
    let d1 := d.send (.readData req.val (0x7000ac + 0x400 * ep.val) (d.txtsWord ep.val 3))
    { d1 with hst := { d1.hst with txts := Tab.set d1.hst.txts ep.val (Tab.get d1.hst.txts ep.val []).tail } }

/-- Slots of contexts whose session is bound to a port. -/
def Dev.epSlots (d : Dev) (p : Nat) : List Nat :=
  (List.range 4096).filter fun s => d.sessBound s && d.sessPort s == p

/-- The link of an Ethernet port or its sub-ports changes: one that goes down raises E_EP_LINK; sessions stall (Table
11.8). -/
def Dev.ethLink (d : Dev) (ep up fec : Nat) : Dev :=
  let was := d.fld .epStatus ep 28 4
  let d1 := d.put .epStatus ep (up <<< 28 + fec <<< 26)
  let d2 := if was &&& (15 - up) ≠ 0 then
      (d1.each (d1.epSlots ep) fun d k => d.ctxEvent k .epLink 0 (d.ctxHandle k) 0).raise .epLink ep
    else d1
  if was = up then d2 else d2.irqPulse (1560 + ep)

/-- ETH_LINK_CHANGE (Table 11.8, Table 11.11). -/
def execEthLinkChange (ep : Fin 20) (up : BitVec 4) (fec : BitVec 2) (s : State) : Host.Outcome State Fault Refusal :=
  s.run fun d => d.ethLink ep.val up.toNat fec.toNat

/-! ### PCIe and interrupt messages (R299 to R304) -/

/-- Vectors of a function that have been used or set. -/
def Dev.vecsOf (d : Dev) (fn : Nat) : List Nat := (List.range 64).filter fun v => (Tab.find d.hst.vec (fn, v)).isSome

/-- Send at once every message of a function with c > 0; a masked one sets its PBA bit (R303, R304). -/
def Dev.flushVecs (d : Dev) (fn : Nat) : Dev :=
  d.each (d.vecsOf fn) fun d v =>
    let x := d.vec fn v
    if x.count = 0 then d
    else if x.masked || Tab.get d.hst.fnMask fn false then d.setVec fn v { x with pba := true }
    else d.sendVec fn v

/-- Send the messages of a function whose PBA bit is set and whose mask is clear (R303, R304). -/
def Dev.sendPba (d : Dev) (fn : Nat) : Dev :=
  d.each (d.vecsOf fn) fun d v =>
    let x := d.vec fn v
    if !x.pba || x.masked || Tab.get d.hst.fnMask fn false || d.inD3 fn || !d.hst.linkUp then d else d.sendVec fn v

/-- Put a function into D3hot, or take it out. -/
def Dev.setD3 (d : Dev) (fn : Nat) (b : Bool) : Dev :=
  let d1 := { d with hst := { d.hst with d3hot := Tab.set d.hst.d3hot fn b, pmeOn := Tab.set d.hst.pmeOn fn false } }
  if fn = 0 then d1.setBit .pcieStatus 0 17 b else d1

/-- D3HOT_ENTRY (R304). PME_Turn_Off reaches every function. -/
def execD3hotEntry (fn : Fin 64) (turnOff pmeEn : Bool) (s : State) : Host.Outcome State Fault Refusal :=
  s.run fun d =>
    if turnOff then (d.each (List.range 64) fun d f => (d.flushVecs f).setD3 f true).send .pmeToAck
    else
      let d1 := (d.flushVecs fn.val).setD3 fn.val true
      { d1 with hst := { d1.hst with pmeEn := Tab.set d1.hst.pmeEn fn.val pmeEn } }

/-- Slots whose DMA a function performs. -/
def Dev.fnSlots (d : Dev) (fn : Nat) : List Nat :=
  (List.range 4096).filter fun s => (s == 0 && fn == 0) || (s != 0 && d.slotBind s == 1 && d.slotVf s == fn)

/-- Completions that waited for a function's DMA are posted. -/
def Dev.resumeDma (d : Dev) (fn : Nat) : Dev :=
  d.each (d.fnSlots fn) fun d k =>
    let d1 := d.tellDue k
    Dev.postDone (d1.ctx k).taken.length d1 k

/-- D0_RETURN (R304): pending messages are sent at once. -/
def execD0Return (fn : Fin 64) (s : State) : Host.Outcome State Fault Refusal :=
  s.run fun d => ((d.setD3 fn.val false).sendPba fn.val).resumeDma fn.val

/-- Stop the rings of a PCIe-bound context and tell the owner (R301). -/
def Dev.flrSlot (d : Dev) (k : Nat) : Dev :=
  ((d.stopRings k).ctxEvent 0 .pcieFlr 0 (d.ctxHandle k) 0).raise .pcieFlr k

/-- VF_FLR (R301). -/
def execVfFlr (vf : Fin 64) (s : State) : Host.Outcome State Fault Refusal :=
  s.run fun d => if vf.val = 0 then d else d.each (d.fnSlots vf.val) Dev.flrSlot

/-- The configuration state of every function is reset, and DMA stops for every PCIe-bound context; with the link down
where it goes (R301). -/
def Dev.pciReset (d : Dev) (linkDown : Bool) : Dev :=
  let h : HstState := { d.hst with vec := [], fnMask := [], d3hot := [], pmeEn := [], pmeOn := [], l1Due := [],
                                   linkUp := d.hst.linkUp && !linkDown }
  let d0 : Dev := { d with hst := h }
  let d1 := if linkDown then (d0.put .pcieStatus 0 0).irqPulse 1580 else d0.setBit .pcieStatus 0 17 false
  d1.each ((List.range 4096).filter fun k => k != 0 && d1.slotBind k == 1) Dev.flrSlot

/-- PF_FLR (R301): configuration state of every function is reset and DMA stops for every PCIe-bound context. -/
def execPfFlr (linkDown : Bool) (s : State) : Host.Outcome State Fault Refusal := s.run fun d => d.pciReset linkDown

/-- MSIX_TIMER (R302, R304). -/
def execMsixTimer (fn : Fin 64) (vec : Fin 64) (s : State) : Host.Outcome State Fault Refusal :=
  s.run fun d =>
    if (d.vec fn.val vec.val).count ≠ 0 ∧ d.vecTimer fn.val vec.val ≠ 0 then d.vecDue fn.val vec.val else d

/-- MSIX_UNMASK (R303): the mask of a vector, or the function mask, clears; what became due is sent. -/
def execMsixUnmask (fn : Fin 64) (vec : Option (Fin 64)) (s : State) : Host.Outcome State Fault Refusal :=
  s.run fun d =>
    let d1 := match vec with
      | some v => d.setVec fn.val v.val { d.vec fn.val v.val with masked := false }
      | none => { d with hst := { d.hst with fnMask := Tab.set d.hst.fnMask fn.val false } }
    d1.sendPba fn.val

/-- PME_REPEAT (R304): PM_PME again while any PBA bit is set in D3hot. -/
def execPmeRepeat (fn : Fin 64) (s : State) : Host.Outcome State Fault Refusal :=
  s.run fun d =>
    if d.inD3 fn.val && Tab.get d.hst.pmeEn fn.val false && (d.vecsOf fn.val).any fun v => (d.vec fn.val v).pba then
      d.send (.pme fn.val)
    else d

/-- PCIE_LINK_UP (R299, R301). -/
def execPcieLinkUp (gen : BitVec 3) (width : BitVec 5) (s : State) : Host.Outcome State Fault Refusal :=
  s.run fun d =>
    let d0 := { d with hst := { d.hst with linkUp := true } }
    let d1 := ((d0.setFld .pcieStatus 0 0 3 gen.toNat).setFld .pcieStatus 0 8 5 width.toNat).setBit .pcieStatus 0 16 false
    let d2 := (((d1.setBit .lneGlbStatus 0 0 true).setBit .cluStatus 59 31 true).irqPulse 1580)
    (d2.each (List.range 64) Dev.sendPba).each (List.range 64) Dev.resumeDma

/-- ASPM_L1_ENTRY (Table 11.5). -/
def execAspmL1Entry (s : State) : Host.Outcome State Fault Refusal :=
  s.run fun d => if d.hst.linkUp then d.setBit .pcieStatus 0 16 true else d

/-- L1_EXIT_COMPLETE (R304): the messages that forced the exit are sent. -/
def execL1ExitComplete (s : State) : Host.Outcome State Fault Refusal :=
  s.run fun d =>
    let due := d.hst.l1Due
    let d1 := { d.setBit .pcieStatus 0 16 false with hst := { d.hst with l1Due := [] } }
    due.foldl (fun d fv => if (d.vec fv.1 fv.2).count = 0 then d else d.vecDue fv.1 fv.2) d1

/-! ### The local clock and the timed outputs (R305, R306, R310, R311) -/

/-- TSU_INC held in its range (R305). -/
def clampTsuInc (v : Nat) : Nat := if v < 0x100000000 then 0x100000000 else if 0x233333333 < v then 0x233333333 else v

/-- TSU_INC_WRITE (R305). -/
def execTsuIncWrite (req : Fin 5) (part : WordPart) (value : BitVec 64) (s : State) :
    Host.Outcome State Fault Refusal :=
  s.run fun d =>
    let old := d.get .tsuInc 0
    let v := (match part with
      | .low => setBits old 0 32 value.toNat
      | .high => setBits old 32 32 value.toNat
      | .both => value.toNat) % 2 ^ 36
    let c := clampTsuInc v
    let d1 := d.put .tsuInc 0 c
    if c = v then d1 else d1.refuse req.val .tsuRange

/-- PERIOD of a timed output in 2^-32 ns. -/
def Dev.toutPeriod32 (d : Dev) (t : Nat) : Nat := d.get .toutPeriod t * 2 ^ 32 + d.get .toutPeriodFrac t

/-- T_n of a timed output in 2^-32 ns (R310). -/
def Dev.toutTime (d : Dev) (t n : Nat) : Nat := d.get .toutStart t * 2 ^ 32 + n * d.toutPeriod32 t

/-- The local clock in 2^-32 ns. -/
def Dev.clock32 (d : Dev) : Nat := d.get .tsuTime 0 * 2 ^ 32 + d.get .tsuFrac 0

/-- Set the local clock from 2^-32 ns. -/
def Dev.setClock32 (d : Dev) (c : Nat) : Dev :=
  (d.put .tsuTime 0 (c / 2 ^ 32 % 2 ^ 64)).put .tsuFrac 0 (c % 2 ^ 32)

/-- n of the next pulse of a timed output. -/
def Dev.toutNext (d : Dev) (t : Nat) : Nat := (Tab.get d.hst.tout t { next := 0 }).next

/-- Set n of the next pulse of a timed output. -/
def Dev.setTout (d : Dev) (t n : Nat) : Dev := { d with hst := { d.hst with tout := Tab.set d.hst.tout t { next := n } } }

/-- Pulses of a timed output that the clock has passed are not made (R311). DEDUCED (log 113). -/
def Dev.toutPass (d : Dev) (t : Nat) : Dev :=
  let n := d.toutNext t
  let p := d.toutPeriod32 t
  let c := d.clock32
  if !d.bit .toutCtrl t 1 ∨ c < d.toutTime t n then d
  else if p = 0 then (d.count .toutMissed t).setBit .toutCtrl t 1 false
  else
    let k := (c - d.toutTime t n) / p + 1
    (d.add32 .toutMissed t k).setTout t (n + k)

/-- TSU_STEP (R306, R311). -/
def execTsuStep (req : Fin 5) (s : State) : Host.Outcome State Fault Refusal :=
  s.run fun d =>
    let _ := req
    let t := (d.get .tsuTime 0 + d.get .tsuStep 0) % 2 ^ 64
    (d.put .tsuTime 0 t).each (List.range 8) Dev.toutPass

/-- TSU_SET (R306, R311): the whole clock is written; TSU_SET holds no fraction. -/
def execTsuSet (req : Fin 5) (s : State) : Host.Outcome State Fault Refusal :=
  s.run fun d =>
    let _ := req
    ((d.put .tsuTime 0 (d.get .tsuSet 0)).put .tsuFrac 0 0).each (List.range 8) Dev.toutPass

/-- TOUT_ARM (R310, R311): a write of TOUT[t].CTRL. -/
def execToutArm (req : Fin 5) (t : Fin 8) (value : Word) (s : State) : Host.Outcome State Fault Refusal :=
  s.run fun d =>
    let k := t.val
    let pol := bits value.toNat 2 1
    if value.toNat % 2 = 0 then
      let d1 := d.put .toutCtrl k (4 * pol)
      if d.bit .toutCtrl k 1 then d1.send (.pulseEnd k) else d1
    else if d.get .toutStart k * 2 ^ 32 < d.clock32 + 1000 * 2 ^ 32 then d.refuse req.val .tsuPast
    else if d.toutPeriod32 k ≠ 0 ∧ d.toutPeriod32 k ≤ d.get .toutWidth k * 2 ^ 32 then d.refuse req.val .tsuRange
    else (d.put .toutCtrl k (3 + 4 * pol)).setTout k 0

/-- TOUT_PULSE (R310): the pulse, its edge on the nearest point of the 200 ps grid. -/
def execToutPulse (t : Fin 8) (s : State) : Host.Outcome State Fault Refusal :=
  s.run fun d =>
    let k := t.val
    if d.bit .toutCtrl k 1 then
      let n := d.toutNext k
      let edge := 200 * ((2 * (d.toutTime k n * 5) + 2 ^ 32) / 2 ^ 33)
      let d1 := (d.send (.pulse k edge (d.get .toutWidth k) (d.bit .toutCtrl k 2))).irqPulse (1552 + k)
      if d.toutPeriod32 k = 0 then d1.setBit .toutCtrl k 1 false else d1.setTout k (n + 1)
    else d

/-- One tick of the 625 MHz timebase (R305). DESIGN CHOICE (log 2). -/
def Dev.tick (d : Dev) : Dev := ({ d with now := d.now + 1600 }).setClock32 (d.clock32 + d.get .tsuInc 0)

end Sys2Proof.Machine
end

