-- ==== Sys2Proof/Machine/InsOps.lean ====
section
/-! DEFINITION. Camera links, triggers and camera lines (R212 to R221). -/

namespace Sys2Proof.Machine

/-! ### The camera link (R212, R213) -/

/-- Set STATE of a camera port. -/
def Dev.setCam (d : Dev) (c st : Nat) : Dev := d.setFld .insStatus c 29 3 st

/-- Bring-up of a camera port starts from a state with nothing left of the exchange before; its frame closes PARTIAL and
its open lines are lost (R237). DEDUCED (log 74). -/
def Dev.camRestart (d : Dev) (c st : Nat) : Dev :=
  let d1 := (d.frameClose c true).lanesFor (.camera c) st
  let p := d1.pipe c
  ((d1.setPipe c { p with stage := 0, unacked := none, lines := [], lastTrigger := none }).setCam c st).setFld .insStatus c 25 3 0

/-- The camera port fails and relinks (Table 8.7). -/
def Dev.camFail (d : Dev) (c : Nat) : Dev := ((d.camRestart c 1).event .insEvent c 5).raise .insCamDown c

/-- A camera port has no usable lane. -/
def Dev.camDown (d : Dev) (c : Nat) : Dev :=
  let d1 := if d.camState c = 3 then (d.event .insEvent c 5).raise .insCamDown c else d
  d1.camRestart c 0

/-- A lane of the port has signal. -/
def Dev.camTraining (d : Dev) (c : Nat) : Dev := if d.camState c = 0 then d.setCam c 1 else d

/-- Lane rate of a camera version in bit/s (Table 8.1). -/
def camRate (ver : Nat) : Nat := if ver = 2 then 32000000000 else 12500000000

/-- The lowest detected lane is trained at 12.5 Gbit/s: the camera sends CAMCAP. -/
def Dev.camCaps (d : Dev) (c : Nat) : Dev :=
  if d.camState c = 1 then
    (((d.setCam c 2).setFld .insStatus c 25 3 1).txStart (192 + c) 1 (camRate 1)).setPipe c { d.pipe c with stage := 2, seq := 0 }
  else d

/-- Bits of a RAW format (R215). -/
def rawBits (fmt : Nat) : Nat := if fmt = 1 then 10 else if fmt = 2 then 12 else 16

/-- VER of a camera port: 1 or 2. -/
def Dev.camVer (d : Dev) (c : Nat) : Nat := if d.bit .insStatus c 28 then 2 else 1

/-- Channels and virtual channels in use: what the image asks for, the version allows and the camera declares. -/
def Dev.camChannels (d : Dev) (c : Nat) : Nat :=
  min (min (d.cfg .channels c) (if d.camVer c = 1 then 3 else 4)) (max 1 (bits (d.pipe c).caps 16 4))
def Dev.camVcs (d : Dev) (c : Nat) : List Nat :=
  (List.range (min (if d.camVer c = 1 then 2 else 4) (max 1 (bits (d.pipe c).caps 20 4)))).filter fun v =>
    bits (d.cfg .tile (4 * c + v)) 16 16 != 0

/-- The RAW format granted: v1 has no RAW16 and takes RAW12 for it (Table 8.1). DESIGN CHOICE (log 106). -/
def Dev.camFmt (d : Dev) (c : Nat) : Nat := if d.camVer c = 1 then min 2 (d.cfg .rawFmt c) else d.cfg .rawFmt c

/-- MIN_LINE_NS that CAMSET grants: the camera's minimum, or the time of one full line at the port's capacity (R213). -/
def Dev.grantLine (d : Dev) (c ver w : Nat) : Nat :=
  let px := bits (d.pipe c).caps 0 16 + 1
  let lineBits := px * d.camChannels c * rawBits (d.camFmt c)
  max (d.pipe c).minLine (ceilDiv (lineBits * 264 * 100 * 1000000000) (95 * w * camRate ver * 256))

/-- The words of a message join a camera port's stream (R212). -/
def Dev.camWords (d : Dev) (c seq : Nat) (body : List Nat) : Dev :=
  d.txMessage (192 + c) ((d.tx (192 + c)).posAt d.now) (messageWords 0x41 seq body)

/-- Send CAMSET (Table 8.2). -/
def Dev.sendCamset (d : Dev) (c : Nat) : Dev :=
  let p := d.pipe c
  let ver := d.camVer c
  let w := d.fld .insStatus c 25 3
  let mask := (d.camVcs c).foldl (fun a v => a + 2 ^ v) 0
  let body := [ver <<< 28 + w <<< 24 + d.camFmt c <<< 22 + (d.camChannels c - 1) <<< 20 + mask <<< 16,
    d.get .insMinLineNs c]
  let d1 := d.setPipe c { p with seq := (p.seq + 1) % 256, unacked := some { seq := p.seq, body := body, resends := 0 } }
  (d1.send (.camera c 0x41 p.seq body)).camWords c p.seq body

/-- Good lanes of a camera port. -/
def Dev.camLanes (d : Dev) (c : Nat) : Nat := (d.goodOf (.camera c)).length

/-- The lanes a camera port uses. -/
def Dev.camUsed (d : Dev) (c : Nat) : List Nat := (d.goodOf (.camera c)).take (d.fld .insStatus c 25 3)

/-- The lanes in use go through bring-up at the version's rate. -/
def Dev.camRetrain (d : Dev) (c : Nat) : Dev :=
  (d.setPipe c { d.pipe c with unacked := none, stage := 5 }).trainLanes (d.camUsed c) (camRate (d.camVer c) / 1000)

/-- Version and width are chosen from CAMCAP and CAMSET is sent; with no common version the port stays in CAPS (R213). -/
def Dev.camChoose (d : Dev) (c : Nat) : Dev :=
  let caps := (d.pipe c).caps
  let common := bits caps 28 2 &&& d.cfg .camVer c
  if common = 0 then (d.setPipe c { d.pipe c with stage := 3 }).raise .insVersion c
  else
    let ver := if bitOf common 1 then 2 else 1
    let ok := fun w => decide (w ≤ bits caps 24 4) && decide (w ≤ d.cfg .camWidth c) && decide (w ≤ max 1 (d.camLanes c))
    let w := if ok 4 then 4 else if ok 2 then 2 else 1
    let d1 := (d.setBit .insStatus c 28 (ver == 2)).setFld .insStatus c 25 3 w
    let d2 := d1.put .insMinLineNs c (d1.grantLine c ver w % 2 ^ 24)
    (d2.setPipe c { d2.pipe c with stage := 4 }).sendCamset c

/-- The lanes are retrained at the version's rate and width: CAMSET again. -/
def Dev.camRetrained (d : Dev) (c : Nat) : Dev :=
  if (d.pipe c).stage = 5 then
    ((d.setPipe c { d.pipe c with stage := 6 }).txStart (192 + c) (d.fld .insStatus c 25 3) (camRate (d.camVer c))).sendCamset c
  else d

/-- A lane of a camera port leaves UP or is marked down: the port relinks with what remains (R213, R394). -/
def Dev.camDegrade (d : Dev) (c : Nat) : Dev :=
  if d.camLanes c = 0 then d.camDown c else if d.camState c = 3 then d.camFail c else d.camRestart c 1

/-! ### Triggers (R214, R217) -/

/-- A trigger slot word: TSEQ and its CRC-8 (R214). -/
def triggerWord (tseq : Nat) : Nat :=
  let w := (tseq % 65536) <<< 16
  w + slateCrc w

/-- A trigger leaves in a slot: its line opens, and a frame with it (R214, R226). -/
def Dev.sendTrigger (d0 : Dev) (c : Nat) (slot : Nat × Nat) : Dev :=
  let depart := (d0.tx (192 + c)).slotAt slot
  let d := (d0.at depart).noteTrack
  let p := d.pipe c
  let pass := d.pos.curPass
  let line : CamLine :=
    { tseq := p.tseq, depart := depart, expMid := if d.camVer c = 2 then none else some (d.cfg .expMidNs c),
      fire := d.fireIndex, reverse := d.scanning && (pass.map fun q => q.reverse).getD false,
      pass := if d.scanning then (pass.map fun q => q.number).getD 0 else 0,
      window := if d.scanning then some ((pass.map fun q => (q.lo, q.hi)).getD (0, 0)) else none, packets := [] }
  let d1 := d.setPipe c { p with tseq := (p.tseq + 1) % 65536, lastTrigger := some depart, lines := p.lines ++ [line],
                                 frame := some (p.frame.getD Frame.empty) }
  let w := triggerWord p.tseq
  ((((d1.setBit .insStatus c 24 true).send (.trigger c w depart)).txSlot (192 + c) slot w).txTo (192 + c) (slot.1 + 1)).noteTrack

/-- EVENT.RATE, and E_INS_RATE at most once per second (R217, Table 8.7). -/
def Dev.insRate (d : Dev) (c : Nat) : Dev :=
  let d1 := d.event .insEvent c 2
  if dueAgain d.now (d.pipe c).lastRate then (d1.setPipe c { d1.pipe c with lastRate := some d.now }).raise .insRate c else d1

/-- A position is skipped (R217). -/
def Dev.skipTrigger (d : Dev) (c : Nat) : Dev := (d.count .insTrigSkip c).insRate c

/-- The first slot of a camera port at or after an instant. -/
def Dev.triggerSlot (d : Dev) (c t : Nat) : Nat × Nat :=
  let x := d.tx (192 + c)
  x.slotFrom (x.slots.map Prod.fst) d.now t

/-- The position reaches a multiple of TRIG_STEP: the trigger leaves in the first slot from then on, or later for
MIN_LINE_NS, or not at all (R217). DESIGN CHOICE (log 106). -/
def Dev.triggerAt (d : Dev) (c : Nat) (k : Int) : Dev :=
  match d.base with
  | none => d
  | some b =>
    if !d.pipeRuns c ∨ d.camState c ≠ 3 ∨ !d.speedValid then d
    else
      let step : Int := d.cfg .trigStep c
      let next := b.reach (((if b.reverse then k - 1 else k + 1) * step) * 65536)
      let slot := d.triggerSlot c (b.reach (k * step * 65536))
      let floor := match (d.pipe c).lastTrigger with
        | none => 0
        | some t => t + 1000 * d.get .insMinLineNs c
      let late := d.triggerSlot c floor
      if floor ≤ (d.tx (192 + c)).slotAt slot then d.sendTrigger c slot
      else if next ≤ (d.tx (192 + c)).slotAt late then d.skipTrigger c
      else ((d.count .insTrigDefer c).insRate c).sendTrigger c late

/-! ### Packets and the gate (R215, R216, R220) -/

/-- Pixel i of a packet's body words (R215), widened to 16 bits. -/
def rawPixel (b : Nat) (ws : List Word) (i : Nat) : Nat :=
  let v := (List.range b).foldl (fun a k =>
    let s := b * i + k
    a + if bitOf (ws.getD (s / 32) 0).toNat (s % 32) then 2 ^ k else 0) 0
  v <<< (16 - b)

/-- Dark and flat (Table 8.3). -/
def darkFlat (p16 dark flat : Nat) : Nat := (clampInt ((((p16 : Int) - dark) * flat + 8192) >>> 14) 0 65535).toNat

/-- The gate table entry of a camera pixel and channel: DARK and FLAT (R221). -/
def Dev.gateEntry (d : Dev) (c k : Nat) : Nat × Nat := Tab.get (d.pipe c).gate k (0, 0x4000)

/-- A tile: first camera pixel and span, clamped to the camera's pixels (R216, R238). -/
def Dev.tileOf (d : Dev) (c v : Nat) : Nat × Nat :=
  let t := d.cfg .tile (4 * c + v)
  (bits t 0 16, min (bits t 16 16) (bits (d.pipe c).caps 0 16 + 1 - bits t 0 16))

/-- An invalid line or a discarded packet is counted (R216, R219). -/
def Dev.badLine (d : Dev) (c : Nat) : Dev := ((d.count .insLineIncomplete c).event .insEvent c 1).raise .insLine c

/-- The corrected pixels of a packet; entries named as uncorrectable give invalid ones (R221). DEDUCED (log 48). -/
def Dev.correct (d : Dev) (c first chan : Nat) (px : List Nat) (bad : List Nat) : List (Option Nat) :=
  (List.range px.length).map fun i =>
    let k := 4 * (first + i) + chan
    if bad.contains k then none else some (darkFlat (px.getD i 0) (d.gateEntry c k).1 (d.gateEntry c k).2)

/-- One camera line of a channel: the tile of the lowest virtual channel supplies a pixel (R216). -/
def Dev.mergedPixel (d : Dev) (c : Nat) (ps : List CamPacket) (chan p : Nat) : Option Nat :=
  match (d.camVcs c).find? fun v => decide ((d.tileOf c v).1 ≤ p) && decide (p < (d.tileOf c v).1 + (d.tileOf c v).2) with
  | none => none
  | some v =>
    match ps.find? fun x => x.vc == v && x.chan == chan with
    | none => none
    | some x => if x.first ≤ p then (x.pixels.getD (p - x.first) none) else none

/-- Resample (Table 8.3): the sample of a column and channel. -/
def Dev.resample (d : Dev) (c : Nat) (ps : List CamPacket) (chan i : Nat) : Option Nat :=
  let x : Int := d.cfgInt .x0Q16 c + (i : Int) * d.cfg .xstepQ16 c
  if x < 0 then none
  else
    let k := x.toNat / 65536
    let phi := x.toNat % 65536
    match d.mergedPixel c ps chan k, d.mergedPixel c ps chan (k + 1) with
    | some a, some b => some ((a * (65536 - phi) + b * phi + 32768) >>> 16)
    | _, _ => none

/-- Colour transform (Table 8.3): the measured density of a plane. -/
def Dev.colour (d : Dev) (c q : Nat) (s : List (Option Nat)) : Option Nat :=
  let w := d.cfg .cmatrix (4 * c + q)
  if s.any fun x => x.isNone then none
  else
    let sum : Int := ((List.range s.length).map fun ch => signedOf 16 (bits w (16 * ch) 16) * ((s.getD ch none).getD 0 : Nat)).sum
    some (clampInt (signedOf 16 (bits w 64 16) + ((sum + 2048) >>> 12)) 0 65535).toNat

/-- The measured densities of a plane of a line, column by column. -/
def Dev.planeSamples (d : Dev) (c : Nat) (ps : List CamPacket) (q : Nat) : List (Option Nat) :=
  (List.range (d.cfg .ncol c)).map fun i =>
    d.colour c q ((List.range (d.camChannels c)).map fun ch => d.resample c ps ch i)

/-! ### Closing a line (R218, R219, R226) -/

/-- d_cam in 1/4,096 line (R218). DEDUCED (log 44). -/
def Dev.camDist (d : Dev) (c : Nat) : Nat := (d.cfg .camDistNm c * d.cfg .lpi 0 * 4096 + 12700000) / 25400000

/-- A line has every configured packet and, under v2, its ECHO (R219). -/
def Dev.lineComplete (d : Dev) (c : Nat) (l : CamLine) : Bool :=
  l.expMid.isSome && (d.camVcs c).all fun v => (List.range (d.camChannels c)).all fun ch =>
    l.packets.any fun x => x.vc == v && x.chan == ch

/-- The raster line that a camera line shows, in 1/4,096 line (R218); without its ECHO the midpoint is a free value.
DESIGN CHOICE (log 106). -/
def Dev.lineY (d : Dev) (c : Nat) (l : CamLine) : Int :=
  let p := d.linePosAt (l.depart + 1000 * l.expMid.getD (d.free 24)) / 2 ^ 20
  if l.reverse then p + d.camDist c else p - d.camDist c

/-- A line closes: placed, gated, compared with the expected raster and added to its frame. DEDUCED (log 47). -/
def Dev.lineClose (d : Dev) (c : Nat) (l : CamLine) : Dev :=
  let p := d.pipe c
  let d1 := d.setPipe c { p with lines := p.lines.filter fun x => x.tseq != l.tseq }
  let y := d.lineY c l
  let yi := y / 4096
  let inWindow := match l.window with
    | none => true
    | some w => decide (w.1 ≤ yi ∧ yi < w.2)
  let whole := d1.lineComplete c l
  let ok := whole && inWindow
  let place := if ok then some ({ yi := yi, a := (y % 4096).toNat, pass := l.pass } : LinePlace) else none
  let dl := if !whole then d1.badLine c else if !inWindow then d1.count .insLineIncomplete c else d1
  let d2 := dl.drawn.frameLine c l.fire l.pass yi place (d1.planeSamples c l.packets)
  let d3 := if ok then (d2.setPipe c { d2.pipe c with placed := some (l.pass, yi) }).retireCopies else d2
  if d3.cfg .frameLines c ≤ ((d3.pipe c).frame.map fun f => f.lines).getD 0 then
    let d4 := d3.frameClose c false
    let q := d4.pipe c
    if q.lines.isEmpty then d4
    else (d4.setPipe c { q with frame := some Frame.empty }).setBit .insStatus c 24 true
  else d3

/-- The line that a packet of a TSEQ closes: the one four triggers before it (R219). -/
def Dev.linesBefore (d : Dev) (c tseq : Nat) : List CamLine :=
  (d.pipe c).lines.filter fun l => (l.tseq + 4) % 65536 == tseq % 65536

/-- Change an open line. -/
def Dev.setLine (d : Dev) (c tseq : Nat) (f : CamLine → CamLine) : Dev :=
  let p := d.pipe c
  d.setPipe c { p with lines := p.lines.map fun l => if l.tseq = tseq then f l else l }

/-- A RAW packet arrives (R215, R216, R219). DEDUCED (log 47). -/
def Dev.rawPacket (d : Dev) (c fmt vc chan tseq npix x0 : Nat) (body : List Word) (bad : List Nat) : Dev :=
  let d0 := (d.linesBefore c tseq).foldl (fun d l => d.lineClose c l) d
  if d0.camState c ≠ 3 then d0
  else if !((d0.pipe c).lines.any fun l => l.tseq == tseq) then d0.badLine c
  else
    let t := d0.tileOf c vc
    if npix = 0 ∨ 16384 < npix ∨ (d0.camVer c = 1 ∧ fmt = 3) ∨ !((d0.camVcs c).contains vc) ∨ d0.camChannels c ≤ chan ∨ t.2 < x0 + npix then d0.badLine c
    else
      let px := (List.range npix).map fun i => rawPixel (rawBits fmt) body i
      let x : CamPacket := { vc := vc, chan := chan, first := t.1 + x0, pixels := d0.correct c (t.1 + x0) chan px bad }
      let used := (List.range npix).any fun i => bad.contains (4 * (t.1 + x0 + i) + chan)
      let d1 := d0.setLine c tseq fun l =>
        { l with packets := (l.packets.filter fun y => !(y.vc == vc && y.chan == chan)) ++ [x] }
      if used then d1.raise .insTable c else d1

end Sys2Proof.Machine
end

