-- ==== Sys2Proof/Machine/Link.lean ====
section
/-! DEFINITION. The commands of the chapter "Head Link Protocol" (R174 to R211). -/

namespace Sys2Proof.Machine

/-! ### Slates and batches (R181, R188 to R190) -/

/-- A slate for a fire is blank (R181). -/
def Dev.slateBlank (d : Dev) (n f : Nat) : Bool :=
  !d.portFiring n || decide (f < d.get .joinFire n) || !((d.port n).sent.contains f)

/-- A nozzle-fire with BLANK = 0 counts in the accounts (R282). DEDUCED (log 37). -/
def Dev.account (d : Dev) (n f : Nat) : Dev :=
  let x := d.syn' n
  let d1 := (Tab.get x.due f []).foldl (fun d t =>
    let c := d.ctx t.1
    d.setCtx t.1 { c with drops := Tab.upd c.drops t.2.1 0 (fun v => (v + t.2.2.1) % 2 ^ 96),
                          energy := Tab.upd c.energy t.2.1 0 (· + t.2.2.2) }) d
  d1.setSyn n { d1.syn' n with due := Tab.erase (d1.syn' n).due f }

/-- The slate leaves in the slot promised to it: BLANK is settled as the header of its block is built (R179, R181). -/
def Dev.slateLeave (d : Dev) (n : Nat) (x : SlateSlot) : Dev :=
  let blank := d.slateBlank n x.fire
  let w := slateWord (d.actAt x.fire) blank x.fire x.fine false
  let d1 := (if blank then d else d.account n x.fire).send (.slate n w x.depart)
  let p := d1.port n
  let d2 := d1.setPort n { p with slates := p.slates.filter fun y => y.fire != x.fire,
                                  sent := p.sent.filter fun g => decide (x.fire < g) }
  (d2.txSlot n x.slot w).txTo n (x.slot.1 + 1)

/-- SLATE_SEND (R181, R74, R189): the slate of a fire leaves on a port where the commit allocated one. DEDUCED (log 37). -/
def execSlateSend (port : Fin 192) (fire : BitVec 48) (s : State) : Host.Outcome State Fault Refusal :=
  s.run fun d =>
    let n := port.val
    match (d.port n).slates.find? fun x => x.fire == fire.toNat with
    | none => d
    | some x => ((d.at x.depart).slateLeave n x).returnCredits n fun g => decide (g + 2 ≤ x.fire)

/-- The instant at which the fire of an index is predicted to be committed, if there is a prediction (R73, R190).
DEDUCED (log 36). -/
def Dev.predictedCommit (d : Dev) (f : Nat) : Option Nat :=
  match d.canFire with
  | none => none
  | some b =>
    let k : Int := f - (d.fireIndex + 1 : Nat)
    some (d.commitOf (b.fireAt (if b.reverse then d.pos.cmpLine - k else d.pos.cmpLine + k)))

/-- Time in ps that a batch takes at the port's payload rate (R190, R193). -/
def Dev.batchTime (d : Dev) (n : Nat) : Nat :=
  let rate := d.fld .linkStatus n 24 3 * laneRate (d.fld .linkStatus n 27 2)
  if rate = 0 then 0 else (if d.isCompact n then 4101 else 16389) * 32 * 264 * 10 ^ 12 / (rate * 256)

/-- Time in ps that the words waiting on a port take at its payload rate. -/
def Dev.queueTime (d : Dev) (n : Nat) : Nat :=
  let rate := d.fld .linkStatus n 24 3 * laneRate (d.fld .linkStatus n 27 2)
  if rate = 0 then 0 else (d.tx n).queue.length * 32 * 264 * 10 ^ 12 / (rate * 256)

/-- A batch can still be sent before its commit, behind the words that wait (R190). -/
def Dev.batchInTime (d : Dev) (n f : Nat) : Bool :=
  decide (d.fireIndex < f) &&
    ((d.predictedCommit f).map fun t => decide (d.now + d.queueTime n + d.batchTime n < t)).getD true

/-- Body bytes of a batch in the port's format (Table 7.5). -/
def Dev.batchBody (d : Dev) (n : Nat) (b : BatchDone) : List Byte :=
  if d.isCompact n then
    (List.range 16384).map fun m => BitVec.ofNat 8 (d.compactDesc n m (b.desc.getD m 0) b.reverse)
  else b.desc.flatMap fun x => leBytes x 4

/-- The header words of a batch (Table 7.5). -/
def Dev.batchHeader (d : Dev) (n : Nat) (b : BatchDone) : List Nat :=
  [b.fire % 2 ^ 32, (if d.isCompact n then 1 else 0) <<< 28 + (if b.reverse then 2 ^ 27 else 0) +
    (if b.sync then 2 ^ 26 else 0) + b.fire / 2 ^ 32 % 65536, b.period]

/-- BATCH_SEND (R188, R189, R190). DEDUCED (log 36). -/
def execBatchSend (port : Fin 192) (s : State) : Host.Outcome State Fault Refusal :=
  s.run fun d =>
    let n := port.val
    let y := d.syn' n
    match y.done with
    | [] => d
    | b :: rest =>
      if d.linkState n < 4 ∨ b.fire < d.get .joinFire n ∨ d.credits n = 0 ∨ !d.batchInTime n b.fire then d
      else
        let x := d.port n
        let d1 := (d.setSyn n { y with done := rest }).setPort n
          { x with seq := (x.seq + 1) % 256, batchSeqs := (x.seq :: x.batchSeqs).take 64,
                   outstanding := x.outstanding ++ [b.fire], sent := x.sent ++ [b.fire] }
        let head := d.batchHeader n b
        let body := d.batchBody n b
        (((d1.setCredits n (d1.credits n - 1)).noteOutstanding n).send (.batch n b.fire x.seq head body)).headWords n 0x01 x.seq
          (head ++ leWords body)

/-- The code of a skip, at most once per second (R189, R190). -/
def Dev.skipCode (d : Dev) (n : Nat) (noCredit : Bool) : Dev :=
  let x := d.port n
  if noCredit then
    let d1 := d.count .hptNoCredit n
    if dueAgain d.now x.lastNoCredit then (d1.setPort n { x with lastNoCredit := some d.now }).raise .hlNoCredit n else d1
  else if dueAgain d.now x.lastSkip then (d.setPort n { x with lastSkip := some d.now }).raise .hlSkip n
  else d

/-- BATCH_SKIP (R190). DEDUCED (log 36). -/
def execBatchSkip (port : Fin 192) (fire : BitVec 48) (s : State) : Host.Outcome State Fault Refusal :=
  s.run fun d =>
    let n := port.val
    let f := fire.toNat
    let y := d.syn' n
    let done := y.done.any fun b => b.fire == f
    let sent := (d.port n).sent.contains f || (d.port n).outstanding.contains f
    if d.linkState n < 4 ∨ f < d.get .joinFire n ∨ sent ∨ d.batchInTime n f ∨ (d.port n).skips.contains f then d
    else
      let noCredit := done && d.credits n == 0
      let x := d.port n
      let d1 := (d.setSyn n { y with done := y.done.filter fun b => b.fire != f }).setPort n
        { x with skips := (f :: x.skips).take 16 }
      ((d1.count .hptSkipped n).skipCode n noCredit).spoilPort n f .underrun

/-- CREDIT (R189): a credit count is only ever lowered. -/
def execCredit (port : Fin 192) (lastSeq count : BitVec 8) (s : State) : Host.Outcome State Fault Refusal :=
  s.run fun d =>
    let n := port.val
    let x := d.port n
    let after := (x.batchSeqs.takeWhile fun q => q != lastSeq.toNat).length
    d.setCredits n (min (d.credits n) (count.toNat - after))

/-! ### Messages of the head (R185 to R187, R204, R205, R207) -/

/-- CAP (R196). -/
def execCap (port : Fin 192) (headId : BitVec 64) (w3 w4 w5 : Word) (s : State) : Host.Outcome State Fault Refusal :=
  s.run fun d =>
    let n := port.val
    if d.linkState n ≠ 2 then d
    else
      let d1 := ((d.wr .headId n headId).put .headCap n w3.toNat).put .headTiming n w4.toNat
      (d1.setPort n { d1.port n with channels := w5.toNat % 256 }).linkChoose n

/-- An accepted message moves bring-up on (Table 7.9 steps 4 and 6). -/
def Dev.ackStage (d : Dev) (n type : Nat) : Dev :=
  let x := d.port n
  if x.stage = 4 ∧ type = 3 then d.linkRetrain n
  else if x.stage = 6 ∧ !(x.unacked.any fun u => u.type == 3 || u.type == 4) then (d.linkUp n).sampleCfg n
  else d

/-- HEAD_ACK (R186, R187). -/
def execHeadAck (port : Fin 192) (refused : Bool) (seq : BitVec 8) (s : State) : Host.Outcome State Fault Refusal :=
  s.run fun d =>
    let n := port.val
    let x := d.port n
    match x.unacked.find? fun u => u.seq == seq.toNat with
    | none => d
    | some u =>
      if refused then d.relinkFault n
      else (d.setPort n { x with unacked := x.unacked.filter fun v => v.seq != u.seq }).ackStage n u.type

/-- The registers that an EVENT's counters add to, in order. -/
def eventRegs : List Reg := [.hUnderrun, .hLate, .hBatchCrc, .hCheckErr, .hSlateMiss, .hDualAct]

/-- HEAD_EVENT (R204, R209). DEDUCED (log 121). -/
def execHeadEvent (port : Fin 192) (counts : Vector (BitVec 16) 6) (s : State) : Host.Outcome State Fault Refusal :=
  s.run fun d =>
    let n := port.val
    let x := d.port n
    let new := counts.toList.map BitVec.toNat
    let diff := fun i => (new.getD i 0 + 65536 - x.events.getD i 0) % 65536
    let d1 := (List.range 6).foldl (fun d i => d.add32 (eventRegs.getD i .hUnderrun) n (diff i)) d
    let d2 := d1.setPort n { x with events := new }
    if (List.range 6).any fun i => diff i != 0 then (d2.event .linkEvent n 0).raise .hlHead n else d2

/-- NSENSE (R205, R245): the loop takes the entries. -/
def execNsense (port : Fin 192) (entries : List Word) (s : State) : Host.Outcome State Fault Refusal :=
  s.run fun d =>
    if !d.loopRuns then d
    else
      let r := d.senseEntries port.val (entries.map BitVec.toNat)
      (((r.1.decide' r.2 0 true).noteLoop).mirrorCells (entries.map fun w => (port.val, bits w.toNat 18 14)).eraseDups)

/-- ECHO_WORD (R207): the round trip less ADD joins the measurement in progress. DEDUCED (log 41). -/
def execEchoWord (port : Fin 192) (word : Word) (roundTrip : Nat) (s : State) : Host.Outcome State Fault Refusal :=
  s.run fun d =>
    let n := port.val
    let w := word.toNat
    match (d.port n).echo with
    | none => d
    | some (u, got) =>
      let q := bits w 26 6
      if slateCrc w ≠ w % 256 ∨ 5000000 < roundTrip ∨ got.any (fun e => e.1 == q) then d
      else d.setPort n { d.port n with echo := some (u, got ++ [(q, roundTrip - 50 * bits w 10 16)]) }

/-- Blocks received with these headers are judged (R177, Table 15.8): a head port counts those it discards, and a lane
its invalid headers. DEDUCED (log 43, 121). -/
def Dev.judgeHeaders (d : Dev) (hs : List (Nat × Nat)) : Dev :=
  hs.foldl (fun d x =>
    let d1 := if headerValid x.2 then d else d.count .lneBlockErr x.1
    match laneGroup x.1 with
    | .head n => if headerDiscarded x.2 then d1.count .hptBlockErr n else d1
    | _ => d1) d

/-- MSG_CRC_FAIL (R177, R185): the message is gone, with the blocks discarded in its span; a message that passes and
lost no block is no failure. DEDUCED (log 43, 121). -/
def execMsgCrcFail (words : List Word) (headers : List (Fin 1024 × Byte)) (s : State) : Host.Outcome State Fault Refusal :=
  s.run fun d =>
    let hs := headers.map fun x => (x.1.val, x.2.toNat)
    if messageFails (words.map BitVec.toNat) || hs.any fun x => headerDiscarded x.2 then d.judgeHeaders hs else d

/-- ACK_TIMEOUT (R186): resent up to 3 times, then the port relinks. DESIGN CHOICE (log 8). -/
def execAckTimeout (port : Fin 192) (seq : BitVec 8) (s : State) : Host.Outcome State Fault Refusal :=
  s.run fun d =>
    let n := port.val
    let x := d.port n
    match x.unacked.find? fun u => u.seq == seq.toNat with
    | none => d
    | some u =>
      if 3 ≤ u.resends then (d.relinkFault n).raise .hlDown n
      else
        let again := x.unacked.map fun v => if v.seq = u.seq then { v with resends := v.resends + 1 } else v
        ((d.setPort n { x with unacked := again }).send (.head n u.type u.seq u.body)).headWords n u.type u.seq u.body

/-- UPSTREAM_SILENT (R203). -/
def execUpstreamSilent (port : Fin 192) (s : State) : Host.Outcome State Fault Refusal :=
  s.run fun d => if d.linkState port.val < 2 then d else (d.relinkFault port.val).raise .hlDown port.val

/-- VERSION_RETRY (R196). -/
def execVersionRetry (port : Fin 192) (s : State) : Host.Outcome State Fault Refusal :=
  s.run fun d =>
    if d.linkState port.val = 2 ∧ (d.port port.val).stage = 3 then d.linkChoose port.val else d

/-! ### Joining and leaving (R195, R197, R198) -/

/-- GO (R197). -/
def execGo (req : Fin 5) (port : Fin 192) (s : State) : Host.Outcome State Fault Refusal :=
  s.run fun d =>
    if d.inTransit .port port.val then d.refuse req.val .transit
    else if (d.goFail port.val).isSome then (d.go port.val).put .glbLastErr req.val ECode.hlNotReady.code.toNat
    else d.go port.val

/-- GO_ALL (R197). DEDUCED (log 125). -/
def execGoAll (req : Fin 5) (s : State) : Host.Outcome State Fault Refusal :=
  s.run fun d =>
    let bad := (List.range 192).any fun n => (d.goFail n).isSome
    let d1 := d.each (List.range 192) Dev.go
    if bad then d1.put .glbLastErr req.val ECode.hlNotReady.code.toNat else d1

/-- LEAVE goes out on a port (R198). -/
def Dev.leavePort (d : Dev) (n : Nat) : Dev :=
  if d.linkState n < 4 then d
  else
    let f := d.fireIndex + 16
    let d1 := d.headSend n 0x06 (fireWords f)
    d1.setPort n { d1.port n with leaveFire := some f }

/-- LEAVE (R198). -/
def execLeave (req : Fin 5) (port : Fin 192) (s : State) : Host.Outcome State Fault Refusal :=
  s.run fun d => if d.inTransit .port port.val then d.refuse req.val .transit else d.leavePort port.val

/-- RELINK (Table 7.14, R460). -/
def execRelink (req : Fin 5) (port : Fin 192) (s : State) : Host.Outcome State Fault Refusal :=
  s.run fun d => if d.inTransit .port port.val then d.refuse req.val .transit else d.relink port.val

/-- PORT_LEAVE_EFFECT (R198): the port is masked, with no spoil. -/
def execPortLeaveEffect (port : Fin 192) (s : State) : Host.Outcome State Fault Refusal :=
  s.run fun d =>
    let n := port.val
    match (d.port n).leaveFire with
    | none => d
    | some f =>
      if d.fireIndex + 1 < f then d
      else
        let x := d.port n
        let d1 := d.setPort n { x with leaveFire := none, sent := [], outstanding := [] }
        (((d1.setLink n 3).clearPort n).setCredits n 0).noteOutstanding n

/-- The fire rate stands above HL_LINK_FMAX now: a rate that no fire has kept up since counts for less (R195). -/
def Dev.rateStill (d : Dev) : Bool :=
  let since := (d.pos.fires.head?.map fun x => (d.now - x.tF) / 50).getD 0
  d.rateAbove && decide (d.fld .hlGlbStatus 0 0 18 * since < 20000000000)

/-- RATE_RELEASE (R195). -/
def execRateRelease (time : Nat) (s : State) : Host.Outcome State Fault Refusal :=
  s.run fun d0 =>
    let d := d0.at time
    if d.rateStill then d else (d.setBit .hlGlbStatus 0 31 false).speedFree .link

end Sys2Proof.Machine
end

