-- ==== Sys2Proof/Machine/Partner.lean ====
section
/-! DEFINITION. The commands of the chapter "Partner Operation and Splice" (R314 to R335). -/

namespace Sys2Proof.Machine

/-! ### Heartbeat and presence (R316 to R319) -/

/-- PRESENT_CHANGE (R316, Table 12.2). -/
def execPresentChange (present : Bool) (s : State) : Host.Outcome State Fault Refusal :=
  s.run fun d =>
    let d1 := d.setBit .ptnStatus 0 26 present
    if present ∧ d.role = 0 ∧ d.bit .ptnCtrl 0 0 then d1.setRole 1
    else if !present ∧ d.role = 1 then d1.setRole 0
    else d1

/-- HEARTBEAT_LOST (R318): the heartbeat alone has stopped. -/
def execHeartbeatLost (s : State) : Host.Outcome State Fault Refusal :=
  s.run fun d =>
    let d1 := d.setBit .ptnStatus 0 25 false
    if d.isStandby ∧ d.ptn.takeAt = none then ((d1.setBit .ptnStatus 0 24 true).event .ptnEvent 0 4).raise .ptnHb 0 else d1

/-- MIRROR_SILENT (R318): with HB_FAULT set it is silent death. -/
def execMirrorSilent (s : State) : Host.Outcome State Fault Refusal :=
  s.run fun d =>
    if d.isStandby then if d.bit .ptnStatus 0 24 then d.silentDeath else d.setUnfit 1 true
    else d

/-- SILENT_DEATH (R318, R330). -/
def execSilentDeath (s : State) : Host.Outcome State Fault Refusal :=
  s.run fun d => (d.setBit .ptnStatus 0 25 false).silentDeath

/-- DUAL_ACTIVE (R319). DEDUCED (log 54). -/
def execDualActive (s : State) : Host.Outcome State Fault Refusal :=
  s.run fun d =>
    let d1 := d.setBit .ptnStatus 0 25 true
    if d.role ≠ 1 then d1
    else
      let d2 := (d1.event .ptnEvent 0 5).raise .ptnDual 0
      if d2.pairId = 0 then d2
      else ({ d2 with ptn := { d2.ptn with actUntil := some (d2.fireIndex + 1) } }.setUnfit 5 true).setRole 3

/-! ### The mirror port (R320, R321) -/

/-- PCAP of this controller on a link: it takes no MSEQ. -/
def Dev.sendPcap (d : Dev) (l : Nat) : Dev := d.send (.mirror 0 (.pcap l d.pairId))

/-- PCAP (R320): the first exchange on a link is done; its four lanes are brought up at 32 Gbit/s. -/
def execPcap (link : Fin 8) (pairId : Bool) (s : State) : Host.Outcome State Fault Refusal :=
  s.run fun d =>
    let _ := pairId
    if link.val ∈ d.lne.capped then d
    else (d.capLink link.val).sendPcap link.val

/-- MIRROR_LINK_RETRY (R320): bring-up of a link that failed starts again. -/
def execMirrorLinkRetry (link : Fin 8) (s : State) : Host.Outcome State Fault Refusal :=
  s.run fun d => if d.bit .ptnStatus 0 (16 + link.val) then d else (d.uncap link.val).lanesDown (.mirror link.val)

/-! ### Snapshots and dailies (R328, R332) -/

/-- A block of a reel as a BLOCK record carries it. -/
def blockRecord (r : Region) (strip : Nat) (e : BlockEntry) : MirrorRec :=
  .block r.slot r.number strip e.first e.lines e.heapLen e.sealedBytes

/-- A record with a key, placed after those of no larger key. -/
def placeRec (x : Int × MirrorRec) : List (Int × MirrorRec) → List (Int × MirrorRec)
  | [] => [x]
  | y :: t => if x.1 < y.1 then x :: y :: t else y :: placeRec x t

/-- Blocks of MIRROR = 1 contexts that are resident or locked, in lock order (R332). -/
def Dev.reelRecords (d : Dev) : List MirrorRec :=
  let all := (d.cmp.regions.filter fun r => d.bit .tenState r.slot 27).flatMap fun r => r.strips.flatMap fun t =>
    (t.2.entries.filter fun e => e.state == .resident || e.state == .locked).map fun e =>
      (r.lowLine e.first e.lines, blockRecord r t.1 e)
  (all.foldr placeRec []).map fun x => x.2

/-- The snapshot (R332): tables and pages, contexts with their regions, pending health entries, armed update sets, loop
state and the binding. -/
def Dev.snapshot (d : Dev) : List MirrorRec :=
  let ports := d.image.usedPorts
  let tables := ports.map fun n =>
    .table n ((d.syn' n).table.map (fun t => (SynTarget.nozzle t.1, t.2)) ++
      (List.range 72).map fun k => (SynTarget.page k, d.pageWord n k)) none
  let masks := ports.map fun n => MirrorRec.masks n (d.syn' n).hmask (d.syn' n).folds
  let slots := (List.range 4096).filter fun s => d.slotState s != 0
  let ctxs := slots.map fun s =>
    let c := d.ctx s
    MirrorRec.ctx (.page s (ctxPageRegs.map fun r => (r, d.rd r s)) c.generation c.wrapped c.drops c.energy (c.ivCount, c.ivXpt))
  let regions := d.cmp.regions.map fun r => MirrorRec.ctx (.region { r with strips := [], heapUsed := [], heapNext := 0 })
  let pend := d.syn.pend.map MirrorRec.health
  let sets := (ports.filter fun n => d.bit .synStatus n 14).map fun n =>
    MirrorRec.table n (d.syn' n).staged (some (d.get .updFire n))
  tables ++ masks ++ ctxs ++ regions ++ pend ++ sets ++
    [.loop (d.ql.cell.map fun t => (t.1.1, t.1.2, t.2)) d.ql.armed, .bind d.bindRec]

/-- Stream the snapshot and then the reel blocks to a partner in SYNC. -/
def Dev.streamSnapshot (d : Dev) : Dev := (d.snapshot ++ d.reelRecords).foldl Dev.mirrorSend d

/-- The digest of the partner's daily, and its heartbeat where it says it is ACTIVE. -/
def Dev.noteDaily (d : Dev) (words : List Nat) : Dev :=
  let d1 := (d.each (List.range 12) fun d i => d.put .ptnPartnerDigest i (words.getD (12 + i) 0)).compareDailies
  if d1.partnerRole = some 1 ∧ d1.bit .ptnStatus 0 24 = false then d1.setBit .ptnStatus 0 25 true else d1

/-- A surrender with nothing firing takes effect at once: no fire reaches F_s. -/
def Dev.surrenderNow (d : Dev) (cause : Nat) : Dev :=
  let d1 := d.surrender cause
  match d1.ptn.withdrawAt with
  | some f => if d1.fireEn then d1 else d1.surrenderAt f
  | none => d1

/-- A removal that was refused goes on once the partner is FIT (R333). -/
def Dev.retryRemoval (d : Dev) : Dev :=
  if d.ptn.refused ∧ d.canSurrender then { d with ptn := { d.ptn with refused := false } }.surrenderNow 7 else d

/-- A daily of the partner (R328). A partner newly in SYNC is sent a snapshot (R332). -/
def Dev.applyDaily (d : Dev) (words : List Nat) : Dev :=
  let was := d.partnerRole
  let d1 := { d with ptn := { d.ptn with partner := some words } }.noteDaily words
  let d2 := if d1.role = 1 ∧ d1.partnerRole = some 2 ∧ was ≠ some 2 then d1.streamSnapshot else d1
  (if d2.mirroring then d2 else d2.partnerAcked fun _ => true).retryRemoval

/-! ### Verdicts (R326, Table 12.4) -/

/-- A VERDICT at the active controller: with the standby's first CRC confirmed its own engine is at fault. -/
def Dev.applyVerdict (d : Dev) (n f outcome : Nat) : Dev :=
  if outcome ≠ 1 then d
  else
    let d1 := (d.event .ptnEvent 0 2).raise .ptnMismatch n
    let d2 := if d1.fireIndex < f then d1.withdrawPort n f
      else d1.each ((List.range (d1.fireIndex + 1 - f)).map fun i => f + i) fun d g => d.spoilPort n g .mismatch
    match d2.engineOf n with
    | some e => d2.engineFail e 5
    | none => d2

/-- A re-run that waits for a spare engine takes the lowest one free (R326). -/
def Dev.rerunNext (d : Dev) : Dev :=
  match d.spares.head?, d.ptn.rerun.find? fun x => x.2.2.1.isNone with
  | some e, some x =>
    let list := d.ptn.rerun.map fun y => if y = x then (x.1, x.2.1, some e, x.2.2.2) else y
    { (d.setBit .embStatus e 30 false).noteSpares with ptn := { d.ptn with rerun := list } }
  | _, _ => d

/-- VERDICT_READY (R326): the oldest re-run equals the active controller's CRC (0), this one's first CRC (1), or neither
(2). -/
def execVerdictReady (outcome : Fin 3) (s : State) : Host.Outcome State Fault Refusal :=
  s.run fun d =>
    match d.ptn.rerun.find? fun x => x.2.2.1.isSome with
    | none => d
    | some x =>
      let d1 := { d with ptn := { d.ptn with rerun := d.ptn.rerun.erase x } }
      let d2 := match x.2.2.1 with
        | some e => if d1.bit .embStatus e 31 then d1 else (d1.setBit .embStatus e 30 true).noteSpares
        | none => d1
      let d3 := ((d2.rerunNext).raise .ptnMismatch x.1).mirrorSend (.verdict x.1 x.2.1 outcome.val)
      if outcome.val = 0 then
        match d3.engineOf x.1 with
        | some e => d3.engineFail e 5
        | none => d3
      else if outcome.val = 2 then d3.setUnfit 3 true
      else d3

/-! ### Taking records (R321 to R324) -/

/-- A SURRENDER record: a FIT standby takes over at F_s (R329, R330). -/
def Dev.applySurrender (d : Dev) (fs cause : Nat) : Dev :=
  let d1 := d.setFld .ptnSurrender 0 16 8 cause
  if d1.bit .ptnStatus 0 28 then { d1 with ptn := { d1.ptn with takeAt := some fs } } else d1

/-- The statistics record of a pipeline of the partner goes to the loop (R321). -/
def Dev.applyRecord (d : Dev) (pipe : Nat) (words : List Nat) : Dev :=
  let bytes := words.flatMap fun w => leBytes w 4
  let es := (d.recordEstimates pipe bytes).filter fun e => e.1 == none
  let r : LoopRecord :=
    { bar := some (255, 255), pipe := pipe, frame := le32At bytes 4, yFirst := signedOf 64 (le32At bytes 8 + le32At bytes 12 <<< 32),
      pass := d.get .cmpPassCur 0, entries := es.map fun e => e.2 }
  if d.isStandby then d else { d with ql := { d.ql with records := d.ql.records ++ [r] } }

/-- An ACK: what waited for it goes on (R322). -/
def Dev.applyAck (d : Dev) (m : Nat) : Dev :=
  ({ d with ptn := { d.ptn with acked := m } }).partnerAcked fun x => mseqDone x m

/-- Apply one record (Table 12.3). -/
def Dev.applyRec (d : Dev) (r : MirrorRec) : Dev :=
  match r with
  | .pcap _ _ => d
  | .bind b => d.applyBind b
  | .commit f l => d.applyCommit f l
  | .crc f c xs => d.applyCrc f c xs
  | .lock region strip first lines missing => d.applyLock region strip first lines missing
  | .block _ region strip first lines len bytes => d.applyBlock region strip first lines len bytes
  | .table n es f => d.applyTable n es f
  | .masks n base folds => d.applyMasks n base folds
  | .health h => d.applyHealth h
  | .ctx (.page slot regs g w dr en ivs) => d.applyPage slot regs g w dr en ivs
  | .ctx (.effect slot entry status body pos) => d.applyEffect slot entry status body pos
  | .ctx (.region x) => d.applyRegion x
  | .loop cells armed => d.applyLoop cells armed
  | .daily ws => d.applyDaily ws
  | .surrender f c => d.applySurrender f c
  | .verdict n f o => d.applyVerdict n f o
  | .ack m => d.applyAck m
  | .record c ws => d.applyRecord c ws

/-- The records that only a standby applies (direction "to standby" of Table 12.3). -/
def MirrorRec.toStandby : MirrorRec → Bool
  | .pcap _ _ | .daily _ | .ack _ | .verdict _ _ _ | .record _ _ => false
  | _ => true

/-- Apply one record, where the role takes records of its direction. -/
def Dev.takeRec (d : Dev) (r : MirrorRec) : Dev := if r.toStandby && !d.isStandby then d else d.applyRec r

/-- PTN_MSEQ: the highest MSEQ applied. -/
def Dev.mseq (d : Dev) : Nat := d.get .ptnMseq 0

/-- Records held that are next in order are applied (R321). DEDUCED (log 53). -/
def Dev.drainHeld : Nat → Dev → Dev
  | 0, d => d
  | n + 1, d =>
    let next := (d.mseq + 1) % 2 ^ 32
    match d.ptn.held.find? fun x => x.1 == next with
    | none => d
    | some x =>
      let d1 := { d with ptn := { d.ptn with held := d.ptn.held.erase x } }.put .ptnMseq 0 next
      Dev.drainHeld n (match x.2 with
        | some r => d1.takeRec r
        | none => d1)

/-- Acknowledge the highest MSEQ applied. -/
def Dev.sendAck (d : Dev) : Dev := d.mirrorSend (.ack d.mseq)

/-- A record arrives (R321, R332): applied in MSEQ order, held where it comes early, dropped where it came before. In
SYNC all but dailies and ACKs wait for the snapshot. DEDUCED (log 52). -/
def Dev.mirrorTake (d : Dev) (mseq : Nat) (r : MirrorRec) : Dev :=
  let isAck := match r with
    | .ack _ => true
    | _ => false
  let atOnce := isAck || r.type == 0x6b
  let hold := fun (d : Dev) (x : Option MirrorRec) => { d with ptn := { d.ptn with held := d.ptn.held ++ [(mseq, x)] } }
  if d.role = 2 then if atOnce then hold (d.takeRec r) none else hold d (some r)
  else if d.ptn.fresh ∨ mseq = (d.mseq + 1) % 2 ^ 32 then
    let d1 := ({ d with ptn := { d.ptn with fresh := false } }.put .ptnMseq 0 mseq).takeRec r
    let d2 := Dev.drainHeld d1.ptn.held.length d1
    if isAck then d2 else d2.sendAck
  else if newer32 mseq d.mseq then hold d (some r)
  else d

/-- BIND (R323). -/
def execBindRecord (mseq : Word) (b : BindRec) (s : State) : Host.Outcome State Fault Refusal :=
  s.run fun d => d.mirrorTake mseq.toNat (.bind b)

/-- MIRROR_COMMIT (R324). -/
def execMirrorCommit (mseq : Word) (fire : BitVec 48) (line : Int) (s : State) : Host.Outcome State Fault Refusal :=
  s.run fun d => d.mirrorTake mseq.toNat (.commit fire.toNat line)

/-- MIRROR_CRC (R325, R326). -/
def execMirrorCrc (mseq : Word) (fire : BitVec 48) (comparable : BitVec 192) (crcs : Vector Word 192) (s : State) :
    Host.Outcome State Fault Refusal :=
  s.run fun d => d.mirrorTake mseq.toNat (.crc fire.toNat comparable.toNat (crcs.toList.map BitVec.toNat))

/-- LOCK (R102). -/
def execLockRecord (mseq : Word) (region : BitVec 16) (strip first lines : Nat) (missing : Bool) (s : State) :
    Host.Outcome State Fault Refusal :=
  s.run fun d => d.mirrorTake mseq.toNat (.lock region.toNat strip first lines missing)

/-- BLOCK (R322). -/
def execMirrorBlock (mseq : Word) (slot : Fin 4096) (region : BitVec 16) (strip first lines heapLen : Nat) (bytes : Sealed)
    (s : State) : Host.Outcome State Fault Refusal :=
  s.run fun d => d.mirrorTake mseq.toNat (.block slot.val region.toNat strip first lines heapLen bytes)

/-- TABLE (R323). -/
def execTableRecord (mseq : Word) (port : Fin 192) (entries : List (SynTarget × Nat)) (fire : Option (BitVec 48)) (s : State) :
    Host.Outcome State Fault Refusal :=
  s.run fun d => d.mirrorTake mseq.toNat (.table port.val entries (fire.map BitVec.toNat))

/-- HEALTH (R323). DEDUCED (log 123). -/
def execMirrorHealth (mseq : Word) (h : PendHealth) (s : State) : Host.Outcome State Fault Refusal :=
  s.run fun d => d.mirrorTake mseq.toNat (.health h)

/-- CTX (R322). -/
def execCtxRecord (mseq : Word) (c : CtxRec) (s : State) : Host.Outcome State Fault Refusal :=
  s.run fun d => d.mirrorTake mseq.toNat (.ctx c)

/-- LOOP (R240). -/
def execLoopRecord (mseq : Word) (cells : List (Fin 192 × Fin 16384 × LoopCell))
    (armed : List (Fin 192 × Nat × List (Fin 16384))) (s : State) : Host.Outcome State Fault Refusal :=
  s.run fun d => d.mirrorTake mseq.toNat (.loop (cells.map fun c => (c.1.val, c.2.1.val, c.2.2))
    (armed.map fun a => (a.1.val, a.2.1, a.2.2.map Fin.val)))

/-- DAILY (R328): words 1 to 28. -/
def execDaily (mseq : Word) (words : Vector Word 28) (s : State) : Host.Outcome State Fault Refusal :=
  s.run fun d => d.mirrorTake mseq.toNat (.daily (words.toList.map BitVec.toNat))

/-- DAILY_SEND (R328). -/
def execDailySend (s : State) : Host.Outcome State Fault Refusal := s.run fun d => d.sendDaily

/-- SURRENDER (R330). -/
def execSurrenderRecord (mseq : Word) (fire : BitVec 48) (cause : Byte) (s : State) : Host.Outcome State Fault Refusal :=
  s.run fun d => d.mirrorTake mseq.toNat (.surrender fire.toNat cause.toNat)

/-- VERDICT (R326). DEDUCED (log 123). -/
def execVerdict (mseq : Word) (port : Fin 192) (fire : BitVec 48) (outcome : Fin 3) (s : State) :
    Host.Outcome State Fault Refusal :=
  s.run fun d => d.mirrorTake mseq.toNat (.verdict port.val fire.toNat outcome.val)

/-- ACK (R322). -/
def execMirrorAck (mseq acked : Word) (s : State) : Host.Outcome State Fault Refusal :=
  s.run fun d => d.mirrorTake mseq.toNat (.ack acked.toNat)

/-- RECORD (R321). -/
def execRecordMsg (mseq : Word) (pipe : Fin 24) (words : List Word) (s : State) : Host.Outcome State Fault Refusal :=
  s.run fun d => d.mirrorTake mseq.toNat (.record pipe.val (words.map BitVec.toNat))

/-! ### Gaps and snapshots (R321, R332) -/

/-- A standby returns to SYNC and asks for a snapshot again (R316). -/
def Dev.resync (d : Dev) : Dev := { d with ptn := { d.ptn with snapshotDue := true } }.setRole 2

/-- MIRROR_GAP (R321): at the active controller what came after the gap is taken as it stands. -/
def execMirrorGap (s : State) : Host.Outcome State Fault Refusal :=
  s.run fun d =>
    if d.isStandby then (((d.event .ptnEvent 0 1).raise .ptnMirror 0).setUnfit 1 true).resync
    else { d with ptn := { d.ptn with fresh := true } }

/-- SNAPSHOT_APPLIED (R332): the snapshot's records with the MSEQ of its last one; records after it that have come are
applied. DEDUCED (log 53). -/
def execSnapshotApplied (mseq : Word) (recs : List MirrorRec) (s : State) : Host.Outcome State Fault Refusal :=
  s.run fun d =>
    if d.role ≠ 2 then d
    else
      let d1 := recs.foldl Dev.takeRec d
      let held := d1.ptn.held.filter fun x => newer32 x.1 mseq.toNat
      let d2 := { d1 with ptn := { d1.ptn with held := held, fresh := false, snapshotDue := false, matched := [] } }
      let d3 := d2.put .ptnMseq 0 mseq.toNat
      let d4 := d3.each d3.image.usedPorts fun d n => d.setBit .synCtrl n 0 true
      let d5 := ((d4.each (List.range 192) Dev.go).setUnfit 1 false).setRole 3
      (Dev.drainHeld d5.ptn.held.length d5).sendAck

/-- RESYNC (R316). -/
def execResync (s : State) : Host.Outcome State Fault Refusal := s.run fun d => if d.isStandby then d.resync else d

/-! ### Surrender, takeover and removal (R329, R330, R333) -/

/-- PTN_SURRENDER (R329). -/
def execPtnSurrender (s : State) : Host.Outcome State Fault Refusal :=
  s.run fun d => if d.canSurrender then d.surrenderNow 6 else d

/-- TAKEOVER (R330): at F_t. DEDUCED (log 55). -/
def execTakeover (s : State) : Host.Outcome State Fault Refusal :=
  s.run fun d =>
    match d.ptn.takeAt with
    | none => d
    | some fs => d.takeover (max fs (d.fireIndex + 1))

/-- REMOVE_REQUEST (R333): REMOVE_REQ_N is asserted, or deasserted. DEDUCED (log 54). -/
def execRemoveRequest (assert : Bool) (s : State) : Host.Outcome State Fault Refusal :=
  s.run fun d =>
    let d1 := { d with ptn := { d.ptn with removeReq := assert, refused := d.ptn.refused && assert } }
    if !assert ∨ 4 ≤ d1.role then d1
    else if d1.isStandby then (d1.each (List.range 192) Dev.leavePort).goOff
    else if d1.canSurrender then d1.surrenderNow 7
    else ({ d1 with ptn := { d1.ptn with refused := true } }.event .ptnEvent 0 6).raise .ptnRemoveRefused 0

/-- FORCE_REMOVE (R333). -/
def execForceRemove (s : State) : Host.Outcome State Fault Refusal :=
  s.run fun d =>
    if d.ptn.refused then
      let d1 := if d.fireEn then d.stopFiring 0 else d
      { d1 with ptn := { d1.ptn with refused := false } }.goOff
    else d

/-- PAIR_EN_WRITE (R314, Table 12.11). DEDUCED (log 54). -/
def execPairEnWrite (enable : Bool) (s : State) : Host.Outcome State Fault Refusal :=
  s.run fun d =>
    let d1 := d.setBit .ptnCtrl 0 0 enable
    if !enable then
      if d1.role = 5 then d1
      else { d1 with ptn := { d1.ptn with actFrom := 0, actUntil := none, withdrawAt := none, takeAt := none } }.setRole 0
    else if d1.role = 0 ∧ d1.bit .ptnStatus 0 26 then d1.setRole 1
    else d1

end Sys2Proof.Machine
end

