-- ==== Sys2Proof/Machine/QualityLoop.lean ====
section
/-! DEFINITION. The commands of the chapter "Closing the Print-Quality Loop" (R240 to R263). -/

namespace Sys2Proof.Machine

/-- QL_RECORD_PROCESS (R242): the oldest record that waits. -/
def execQlRecordProcess (s : State) : Host.Outcome State Fault Refusal :=
  s.run fun d =>
    match d.ql.records with
    | [] => d
    | r :: rest => { d with ql := { d.ql with records := rest } }.loopRecord r

/-- QL_HEALTH_PRESENT (R240, R246): while the loop runs, the oldest decision not yet presented. DEDUCED (log 40). -/
def execQlHealthPresent (s : State) : Host.Outcome State Fault Refusal :=
  s.run fun d =>
    match if d.loopRuns then d.ql.decisions.find? fun x => !x.presented else none with
    | none => d
    | some x => d.present x

/-- QL_HEALTH_RETRY (R240, R246): while the loop runs, the oldest decision that was refused. DEDUCED (log 40). -/
def execQlHealthRetry (s : State) : Host.Outcome State Fault Refusal :=
  s.run fun d =>
    match if d.loopRuns then d.ql.decisions.find? fun x => x.presented else none with
    | none => d
    | some x => d.present x

/-- QL_CLEAR (R257). -/
def execQlClear (s : State) : Host.Outcome State Fault Refusal := s.run fun d => d.loopClear.mirrorCells (d.ql.cell.map fun t => t.1)

/-! ### The cascade (R258 to R261) -/

/-- CASCAP of this bar on a link (Table 9.3). -/
def Dev.sendCascap (d : Dev) (l : Nat) : Dev := d.casEmit l 0x51 [(l % 4) <<< 8 + d.cfg .barId 0]

/-- A cascade port is enabled. -/
def Dev.casEnabled (d : Dev) (l : Nat) : Bool := d.cfg .casEn (l / 4) != 0

/-- CASCAP (R258): the first exchange on a link is done; its four lanes are brought up at 32 Gbit/s. DEDUCED (log 51).
-/
def execCascap (link : Fin 8) (body : Word) (s : State) : Host.Outcome State Fault Refusal :=
  s.run fun d =>
    let l := link.val
    if !d.casEnabled l ∨ (8 + l) ∈ d.lne.capped ∨ bits body.toNat 8 8 ≠ l % 4 then d
    else (d.capLink (8 + l)).sendCascap l

/-- CASCADE_RETRY (R258): bring-up of a link has failed and starts again. -/
def execCascadeRetry (link : Fin 8) (s : State) : Host.Outcome State Fault Refusal :=
  s.run fun d =>
    let l := link.val
    if !d.casEnabled l ∨ d.bit .qlStatus 0 (16 + l) then d
    else (((d.event .qlEvent 0 4).raise .qlCasDown l).uncap (8 + l)).lanesDown (.cascade l)

/-- Forward a message on the other cascade port, its hop count less 1, or drop it (R259). -/
def Dev.casForward (d : Dev) (l type w1 port : Nat) (body : List Nat) : Dev :=
  let p := 1 - l / 4
  let hops := bits w1 8 8
  if hops = 0 ∨ (d.casLive p).isEmpty then d.casDrop
  else d.casPut p (bits w1 16 8) port type (casHead (bits w1 24 8) (bits w1 16 8) (hops - 1) :: body)

/-- What every message but CASCAP goes through (R259): consumed, forwarded, or both. -/
def Dev.casTake (d : Dev) (l type w1 port : Nat) (body : List Nat) (f : Dev → Dev) : Dev :=
  let dest := bits w1 16 8
  if dest = 255 then (f (d.count .qlCasRx 0)).casForward l type w1 port body
  else if dest = d.cfg .barId 0 then f (d.count .qlCasRx 0)
  else d.casForward l type w1 port body

/-- Change what is known of a remote bar. -/
def Dev.updBar (d : Dev) (b : Nat) (f : RemoteBar → RemoteBar) : Dev :=
  { d with ql := { d.ql with bars := Tab.upd d.ql.bars b RemoteBar.empty f } }

/-- SHAPE (R259, R260): the bar's fluids replace what was known, and the side on which it lies is learnt.
DEDUCED (log 51). -/
def execShape (link : Fin 8) (w1 serial : Word) (fluids : List (Fin 16 × RemoteFluid)) (s : State) :
    Host.Outcome State Fault Refusal :=
  s.run fun d =>
    let fs := fluids.map fun x => (x.1.val, x.2)
    d.casTake link.val 0x52 w1.toNat 0 (serial.toNat :: fs.flatMap fun x => shapeWords x.1 x.2) fun d =>
      d.updBar (bits w1.toNat 24 8) fun b => { b with serial := serial.toNat, side := link.val / 4, fluids := fs }

/-- A 64-bit signed line of two words. -/
def wordLine (lo hi : Nat) : Int := signedOf 64 (lo + hi <<< 32)

/-- FEED (R260): a remote copy for the inspection store; no bytes for a MISSING entry. DESIGN CHOICE (log 50). -/
def execFeed (link : Fin 8) (w1 w2 w3 w4 w5 : Word) (block : List Byte) (s : State) : Host.Outcome State Fault Refusal :=
  s.run fun d =>
    let head := [w2.toNat, w3.toNat, w4.toNat, w5.toNat]
    let aad := head.flatMap fun w => leBytes w 4
    let n := block.length - 16
    let x : StoreCopy :=
      { bar := some (bits w1.toNat 24 8), handle := w5.toNat, region := 0, fluid := bits w2.toNat 14 4,
        phase := bits w2.toNat 30 2, band := bits w2.toNat 18 12, first := wordLine w3.toNat w4.toNat,
        lines := bits w2.toNat 0 8 + 1, reverse := false, pass := 0,
        body := if block.isEmpty then .missing else
          .feed { cipher := block.take n, iv := Config.cascadeIv aad, tag := BitVec.ofNat 128 (leNat (block.drop n)), aad := aad } }
    let words := head ++ leWords (block ++ List.replicate (4 * ceilDiv block.length 4 - block.length) 0)
    d.casTake link.val 0x53 w1.toNat 0 words fun d => if (d.pipesOf x.bar x.fluid).isEmpty then d else d.addCopy x

/-- CAS_HEALTH (R260): a health command accepted at another bar, with its lost range. -/
def execCasHealth (link : Fin 8) (w1 : Word) (body : Vector Word 9) (s : State) : Host.Outcome State Fault Refusal :=
  s.run fun d =>
    let ws := body.toList.map BitVec.toNat
    let w := fun i => ws.getD i 0
    let h : HealthMask := { colLo := bits (w 1) 0 22, colHi := bits (w 2) 0 22, clr := bits (w 0) 16 4, set := bits (w 0) 20 4 }
    let x := (bits (w 0) 0 4, h, wordLine (w 3) (w 4), wordLine (w 5) (w 6), wordLine (w 7) (w 8))
    d.casTake link.val 0x54 w1.toNat 0 ws fun d => d.updBar (bits w1.toNat 24 8) fun b => { b with health := b.health ++ [x] }

/-- SPOILN (R260): a spoil record of another bar. -/
def execSpoiln (link : Fin 8) (w1 w2 w3 w4 w5 : Word) (s : State) : Host.Outcome State Fault Refusal :=
  s.run fun d =>
    let n := w2.toNat
    let x := (bits n 14 4, bits n 30 2, bits n 18 12, wordLine w3.toNat w4.toNat, w5.toNat, bits n 0 4)
    d.casTake link.val 0x55 w1.toNat 0 [n, w3.toNat, w4.toNat, w5.toNat] fun d =>
      d.updBar (bits w1.toNat 24 8) fun b => { b with spoils := b.spoils ++ [x] }

/-- DEVREC (R261): estimates of another bar's pipeline for a head of this one. DEDUCED (log 51, 122). -/
def execDevrec (link : Fin 8) (w1 frame w3 w4 w5 : Word) (entries : List Word) (s : State) : Host.Outcome State Fault Refusal :=
  s.run fun d =>
    let port := bits w3.toNat 24 8
    let r : LoopRecord :=
      { bar := some (bits w1.toNat 24 8, port), pipe := bits w3.toNat 16 8, frame := frame.toNat,
        yFirst := wordLine w4.toNat w5.toNat, pass := d.get .cmpPassCur 0,
        entries := entries.map fun e => (port, bits e.toNat 18 14, signedOf 16 (bits e.toNat 0 16)) }
    d.casTake link.val 0x56 w1.toNat port ([frame.toNat, w3.toNat, w4.toNat, w5.toNat] ++ entries.map BitVec.toNat) fun d =>
      d.loopRecord r

end Sys2Proof.Machine
end

