-- ==== Sys2Proof/Machine/LaneLink.lean ====
section
/-! DEFINITION. What a lane does to its port: lanes that come up, leave UP, or have no working setting (R392 to R403). -/

namespace Sys2Proof.Machine

/-! ### Mirror and cascade links -/

/-- Link k of the mirror port (0 to 7) or of the cascade ports (8 + l) is live. -/
def Dev.linkIsLive (d : Dev) (k : Nat) : Bool :=
  if k < 8 then d.bit .ptnStatus 0 (16 + k) else d.bit .qlStatus 0 (16 + (k - 8))

/-- The link goes into service (R258, R260, R320): the first mirror link starts MSEQ anew; SHAPE follows a cascade link. -/
def Dev.linkLive (d : Dev) (k : Nat) : Dev :=
  if d.linkIsLive k then d
  else if k < 8 then
    let first := !d.mirrorLive
    let d1 := d.setBit .ptnStatus 0 (16 + k) true
    if first then { d1 with ptn := { d1.ptn with fresh := true } } else d1
  else ((d.setBit .qlStatus 0 (16 + (k - 8)) true).txStart (240 + k) 4 (laneRate 3)).sendShape

/-- With no mirror link live nothing is known of the partner, and nothing waits for it (R322). -/
def Dev.noMirror (d : Dev) : Dev :=
  if d.mirrorLive then d
  else ({ d with ptn := { d.ptn with partner := none } }).partnerAcked fun _ => true

/-- The link goes out of service; traffic moves to the links that remain (Table 15.4). DEDUCED (log 74). -/
def Dev.linkDead (d : Dev) (k : Nat) : Dev :=
  if !d.linkIsLive k then d
  else if k < 8 then (((d.setBit .ptnStatus 0 (16 + k) false).event .ptnEvent 0 1).raise .ptnMirror k).noMirror
  else ((d.setBit .qlStatus 0 (16 + (k - 8)) false).event .qlEvent 0 4).raise .qlCasDown (k - 8)

/-- The link starts bring-up again from its first exchange. -/
def Dev.linkAnew (d : Dev) (k : Nat) : Dev := ((d.linkDead k).uncap k).lanesRest (linkGroup k)

/-! ### Ports of lanes -/

/-- The port stands above bring-up: LINKED, JOINING or FIRING, or its link live (R394, R399). -/
def Dev.groupUp (d : Dev) : LaneGroup → Bool
  | .head n => decide (3 ≤ d.linkState n)
  | .camera c => d.camState c == 3
  | .ethernet p => d.fld .epStatus p 28 4 != 0
  | .pcie => d.hst.linkUp
  | .mirror i => d.linkIsLive i
  | .cascade l => d.linkIsLive (8 + l)

/-- The port goes to DOWN. -/
def Dev.groupDown (d : Dev) : LaneGroup → Dev
  | .head n => if d.linkState n = 0 then d.lanesDown (.head n) else d.linkDown n
  | .camera c => if d.camState c = 0 then d.lanesDown (.camera c) else d.camDown c
  | .ethernet p => d.ethLink p 0 (d.fld .epStatus p 26 2)
  | .pcie => d
  | .mirror i => (d.linkAnew i).lanesDown (.mirror i)
  | .cascade l => (d.linkAnew (8 + l)).lanesDown (.cascade l)

/-- The port runs bring-up again from step 1. -/
def Dev.groupAnew (d : Dev) : LaneGroup → Dev
  | .head n => if d.linkState n = 0 then d else if d.linkState n < 3 then d.linkRestart n 1 else d.relink n
  | .camera c => if d.camState c = 0 then d else if d.camState c = 3 then d.camFail c else d.camRestart c 1
  | .ethernet _ => d
  | .pcie => d
  | .mirror i => d.linkAnew i
  | .cascade l => d.linkAnew (8 + l)

/-- Sub-ports of an Ethernet port that a lane carries: all in 100G mode, one in split mode (R290). -/
def Dev.epDownMask (d : Dev) (p l : Nat) : Nat :=
  if d.bit .epCtrl p 1 then 15 - 2 ^ ((l - 864) % 4) else 0

/-- The Ethernet port or sub-port of a lane goes down (Table 15.4). -/
def Dev.epLaneDown (d : Dev) (p l : Nat) : Dev :=
  d.ethLink p (d.fld .epStatus p 28 4 &&& d.epDownMask p l) (d.fld .epStatus p 26 2)

/-- Ports that a controller's daily reports in FIRING (Table 12.5 words 4 to 9). -/
def firingOf (daily : List Nat) : Nat :=
  (((daily.drop 3).take 6).map fun w => ((List.range 32).filter fun i => bitOf w i).length).sum

/-- A lane loss leaves fewer ports in FIRING than the FIT standby reports: surrender (Table 12.7 cause 3). -/
def Dev.laneSurrender (d : Dev) : Dev :=
  match d.ptn.partner with
  | some p => if d.canSurrender ∧ (d.portsIn [5]).length < firingOf p then d.surrender 3 else d
  | none => d

/-! ### A lane comes up -/

/-- Lanes of a port that train together with a lane: at step 2 of bring-up one lane alone, the lowest with signal, or the
one that has already begun; at step 5 all the lanes in use (Table 7.9). -/
def Dev.firstTrainer (d : Dev) (g : LaneGroup) : List Nat :=
  match g.lanes.find? fun l => decide (3 ≤ d.laneSt l ∧ d.laneSt l ≤ 9) with
  | some l => [l]
  | none => (g.lanes.find? fun l => d.laneSt l == 2).toList

/-- Lanes in training. -/
def Dev.trainers (d : Dev) (l : Nat) : List Nat :=
  match laneGroup l with
  | .head n => if d.linkState n = 1 then d.firstTrainer (.head n) else if (d.port n).stage = 5 then d.linkLanes n else []
  | .camera c => if d.camState c = 1 then d.firstTrainer (.camera c) else if (d.pipe c).stage = 5 then d.camUsed c else []
  | .ethernet _ => [l]
  | .pcie => [l]
  | .mirror i => if d.lne.capped.contains i then d.goodOf (.mirror i) else d.firstTrainer (.mirror i)
  | .cascade c => if d.lne.capped.contains (8 + c) then d.goodOf (.cascade c) else d.firstTrainer (.cascade c)

/-- A link of four lanes: before its first exchange the message goes out; after it, the link is live when all are UP. -/
def Dev.linkLanesUp (d : Dev) (k : Nat) (hello : Dev) : Dev :=
  if d.lne.capped.contains k then
    if d.lanesUp (linkGroup k).lanes then d.linkLive k else d
  else hello

/-- The lanes in training of a port are UP. -/
def Dev.groupTrained (d : Dev) (g : LaneGroup) : Dev :=
  match g with
  | .head n => if d.linkState n = 1 then d.linkCaps n else d.linkRetrained n
  | .camera c => if d.camState c = 1 then d.camCaps c else d.camRetrained c
  | .ethernet _ => d
  | .pcie => d
  | .mirror i => d.linkLanesUp i (d.sendPcap i)
  | .cascade l => d.linkLanesUp (8 + l) ((d.txStart (248 + l) 1 (laneRate 1)).sendCascap l)

/-- Signal on a DEEP lane (Table 15.2 step 1): a lane marked down stays DEEP; one of a port that is up waits for the next
relink. -/
def Dev.laneSignal (d : Dev) (l : Nat) : Dev :=
  if d.laneSt l ≠ 1 ∨ d.laneMarked l then d
  else
    let g := laneGroup l
    let d1 := d.setGood l true
    if d1.groupUp g && g.native then d1
    else
      let d2 := ((d1.setLane l { d1.lane l with fails := 0, start := 0 }).setLaneSt l 2).put .lneRateKbps l bringUpRate
      match g with
      | .head n => d2.linkTraining n
      | .camera c => d2.camTraining c
      | _ => d2

/-! ### A lane that leaves UP, and one with no working setting -/

/-- A lane has left UP, or must be retrained: its port relinks and every lane of it is retrained (R394). -/
def Dev.laneFail (d : Dev) (l : Nat) : Dev :=
  match laneGroup l with
  | .head n => if 3 ≤ d.linkState n then (d.relinkWide n).laneSurrender else if d.linkState n = 2 ∧ 5 ≤ (d.port n).stage then d
    else d.linkRestart n 1
  | .camera c => d.camDegrade c
  | .ethernet p => (d.laneDeep l).epLaneDown p l
  | .pcie => d.laneDeep l
  | .mirror i => ((d.linkDead i).noteRetrain (LaneGroup.mirror i).lanes).trainLanes (d.goodOf (.mirror i)) fullRate
  | .cascade c => ((d.linkDead (8 + c)).noteRetrain (LaneGroup.cascade c).lanes).trainLanes (d.goodOf (.cascade c)) fullRate

/-- The port of a lane that was just marked down (Table 15.4). -/
def Dev.portLoses (d : Dev) (l : Nat) : Dev :=
  match laneGroup l with
  | .head n =>
    let d1 := d.raise .hlLane n
    let d2 := if d1.goodLanes n = 0 then (if d1.linkState n = 0 then d1 else d1.linkDown n) else d1.relinkWide n
    d2.laneSurrender
  | .camera c =>
    let d1 := if d.camState c = 3 then d else (d.event .insEvent c 5).raise .insCamDown c
    if d1.camState c = 1 ∧ d1.camLanes c ≠ 0 then d1 else d1.camDegrade c
  | .ethernet p => d.epLaneDown p l
  | .pcie => d
  | .mirror i => if d.linkIsLive i then d.linkDead i else (d.event .ptnEvent 0 1).raise .ptnMirror i
  | .cascade c => if d.linkIsLive (8 + c) then d.linkDead (8 + c) else (d.event .qlEvent 0 4).raise .qlCasDown c

/-- Mark a lane down (R402). -/
def Dev.markDown (d : Dev) (l : Nat) : Dev :=
  let d1 := ((d.setLaneSt l 1).setBit .lneStatus l 25 true).setGood l false
  let d2 := ((d1.event .lneEvent l 0).raise .lneTrain l).event .lneGlbEvent 0 1
  (d2.put .lneGlbDown 0 (d2.get .lneGlbDown 0 + 1)).portLoses l

/-- A bring-up stage fails (R392): stage 2 again with the next CTLE start point, and the third time the lane is marked
down. -/
def Dev.stageFail (d : Dev) (l : Nat) : Dev :=
  let x := d.lane l
  if 2 ≤ x.fails then (d.setLane l { x with fails := 0 }).markDown l
  else ((d.setLane l { x with fails := x.fails + 1, start := (x.start + 1) % 16 }).setLaneSt l 2).setBit .lneStatus l 0 false

/-- An eye of width w and height h against MARGIN_WARN or MARGIN_FAIL (R401): below it in either dimension. -/
def Dev.eyeBelow (d : Dev) (f : Field) (w h : Nat) : Bool :=
  decide (w < bits (d.cfg f 0) 8 8) || decide (h < bits (d.cfg f 0) 0 8)

/-- Show an eye in STATUS. -/
def Dev.setEye (d : Dev) (l w h : Nat) : Dev := (d.setFld .lneStatus l 16 8 w).setFld .lneStatus l 8 8 h

/-- A stage is complete (Table 15.2). -/
def Dev.stageDone (d : Dev) (l ctle : Nat) (taps : List Nat) (w h : Nat) : Dev :=
  let st := d.laneSt l
  if st = 2 then (d.setLaneSt l 3).setBit .lneStatus l 0 true
  else if st = 3 then (d.setLaneSt l 4).put .lneCtle l ctle
  else if st = 4 then d.setLaneSt l 5
  else if st = 5 then (d.setLaneSt l 6).each (List.range 12) fun d i => d.put .lneDfe (12 * l + i) (taps.getD i 0)
  else if st = 6 then
    let d1 := d.setEye l w h
    if d1.eyeBelow .marginFail w h then d1.stageFail l else d1.setLaneSt l 7
  else if st = 7 then
    let d1 := d.setLaneSt l 8
    let ts := d1.trainers l
    if ts.all fun k => d1.laneSt k == 8 || d1.laneSt k == 9 then
      (d1.each ts fun d k => d.setLaneSt k 9).groupTrained (laneGroup l)
    else d1
  else d

end Sys2Proof.Machine
end

