-- ==== Sys2Proof/Machine/NvaOps.lean ====
section
/-! DEFINITION. Operations on the non-volatile array, and the restart of a management core (R428, R431 to R434). -/

namespace Sys2Proof.Machine

/-- Bytes of an NVA bank (R431). -/
def nvaBank : Nat := 0x16e3600

/-- The ranges of a bank that a requester may not write (Table 17.3): first byte, and first byte behind. The event log is
the cores' alone; requester 4 is the owner. -/
def nvaClosed (req bank : Nat) : List (Nat × Nat) :=
  match bank with
  | 0 => [(0x800000, 0x1100000)]
  | 1 => [(0x800000, if req = 4 then 0x1400000 else 0x1000000)]
  | 2 => [(0, 0x1200000)]
  | _ => [(0, 0x1300000)]

/-- An operation over n lines from a byte of a bank is within what its requester may write (R432). DEDUCED (log 87). -/
def nvaAllowed (req bank first n : Nat) : Bool :=
  decide (1 ≤ n) && decide (n ≤ 1048576) && decide (first + 64 * n ≤ nvaBank) &&
    (nvaClosed req bank).all fun r => decide (first + 64 * n ≤ r.1) || decide (r.2 ≤ first)

/-- First core address of the local SRAM and of the owner partition (Table 17.1). -/
def sramBase : Nat := 0x08000000
def ownerBase : Nat := 0x8000000000

/-- A source range lies in local SRAM or in the owner partition in DRAM (R432, Table 17.1). -/
def Dev.sourceOk (d : Dev) (a n : Nat) : Bool :=
  (decide (sramBase ≤ a) && decide (a + n ≤ sramBase + 4 * 0x40000)) ||
    (decide (ownerBase ≤ a) && decide (a + n ≤ ownerBase + d.ownerBytes))

/-- Bytes at a core address. -/
def Dev.coreBytes (d : Dev) (a n : Nat) : List Byte :=
  if ownerBase ≤ a then Mem.readBytes d.dram (a - ownerBase) n else Mem.readBytes d.mgt.sram a n

/-- The banks that have a line to write show in NVA_STATUS. -/
def Dev.nvaNote (d : Dev) : Dev :=
  d.each (List.range 4) fun d b => d.setBit .nvaStatus 0 b (d.mgt.ops.any fun o => o.bank == b)

/-- Set the operations that are not complete. -/
def Dev.setOps (d : Dev) (ops : List NvaOp) : Dev := { d with mgt := { d.mgt with ops := ops } }.nvaNote

/-- The operation that a bank serves: a PERSIST of the image store before those of the cores and the owner, these in the
order of their acceptance (R433). -/
def Dev.nvaServed (d : Dev) (bank : Nat) : Option NvaOp :=
  match d.mgt.ops.find? fun o => o.bank == bank && o.requester == 5 with
  | some o => some o
  | none => d.mgt.ops.find? fun o => o.bank == bank

/-- The bytes of an operation's next line. -/
def Dev.nvaBytes (d : Dev) (o : NvaOp) : List Byte :=
  if o.requester = 5 then o.body.take 64
  else if o.erase then List.replicate 64 0
  else d.coreBytes o.src 64

/-- Write the next line of an operation (R433). -/
def Dev.nvaLine (d : Dev) (o : NvaOp) : Dev :=
  let d1 := { d with nva := d.nva.writeBytes (o.bank * nvaBank + 64 * o.line) (d.nvaBytes o) }
  if o.requester = 5 then d1 else d1.put .nvaOpDone o.requester (d.get .nvaOpDone o.requester + 1)

/-- An operation ends with a code (Table 17.10). -/
def Dev.nvaEnd (d : Dev) (r : Nat) (e : Option ECode) : Dev := d.put .nvaOpStatus r (ECode.codeOf e).toNat

/-- The commit record of a PERSIST is written: its slot holds the last committed image (R50). -/
def Dev.persistCommit (d : Dev) : Dev :=
  match d.img.persist with
  | none => d
  | some (k, c) => { d with img := { d.img with slots := Tab.set d.img.slots k c, lastSlot := some k, persist := none } }

/-- A bank finishes a line of the operation that it serves (R433). The last line of a PERSIST is its commit record (R50). -/
def Dev.nvaStep (d : Dev) (bank : Nat) : Dev :=
  match d.nvaServed bank with
  | none => d
  | some o =>
    let rest := d.mgt.ops.filter fun x => x.requester != o.requester
    let o1 : NvaOp := { o with line := o.line + 1, left := o.left - 1, src := o.src + 64, body := o.body.drop 64 }
    let next := d.mgt.ops.map fun x => if x.requester == o.requester then o1 else x
    if o.requester = 5 then
      if o.left ≤ 1 then (d.setOps rest).persistCommit else (d.nvaLine o).setOps next
    else if o.left ≤ 1 then (((d.nvaLine o).setOps rest).nvaEnd o.requester none).event .nvaEvent 0 0
    else (d.nvaLine o).setOps next

/-- The operation of a requester is abandoned (R434): a line that its bank is writing is finished. DEDUCED (log 87). -/
def Dev.nvaAbandon (d : Dev) (r : Nat) : Dev :=
  match d.mgt.ops.find? fun o => o.requester == r with
  | none => d
  | some o =>
    let writing := d.nvaServed o.bank == some o
    let d1 := if writing then d.nvaLine o else d
    let d2 := d1.setOps (d.mgt.ops.filter fun x => x.requester != r)
    if writing ∧ o.left ≤ 1 then (d2.nvaEnd r none).event .nvaEvent 0 0
    else ((d2.nvaEnd r (some .nvaAborted)).event .nvaEvent 0 1).raise .nvaAborted r

/-- A core alone is reset (R428): its SRAM is zeroed, its NVA operation abandoned, and it starts again.
DESIGN CHOICE (log 85). -/
def Dev.coreReset (d : Dev) (c : Nat) : Dev :=
  let m := Mem.zero d.mgt.sram (sramBase + 0x40000 * c) 0x40000
  let d1 := (d.nvaAbandon c).setBit .glbMgmtStatus 0 (24 + c) false
  let mg : MgtState := { d1.mgt with sram := m, kicked := Tab.set d1.mgt.kicked c d1.now }
  { d1 with mgt := mg }.send (.coreStart c (d1.fld .secStatus 0 26 1))

end Sys2Proof.Machine
end

