-- ==== Sys2Proof/Machine/Synth.lean ====
section
/-! DEFINITION. The commands of the chapter "Drop Synthesis in the Embouchure Engines" (R135 to R173). -/

namespace Sys2Proof.Machine

/-! ### Batches (R136, R137, R106) -/

/-- PERIOD of a batch: the line period from POS_SPEED in ns, rounded, saturating (Table 7.5). -/
def Dev.batchPeriod (d : Dev) : Nat :=
  let v := (signedOf 32 (d.get .posSpeed 0)).natAbs
  if v = 0 then 0xffffff else min 0xffffff ((2 * 1024000000000 + v) / (2 * v))

/-- A row takes a block's last line and its decoded CRC differs: the block is POISONED for the rows still to read it, and
spoiled whole (Table 4.4). -/
def Dev.readCrcCheck (d : Dev) (n j : Nat) (r : Region) (s ofs : Nat) : Dev :=
  match (r.strip s).entryAt ofs with
  | none => d
  | some e =>
    let bad := d.cmp.fetched.any fun x => x.region == r.number && x.strip == s && x.first == e.first &&
      x.sibling == d.cfg .headSibling n && x.crcBad
    if e.state = .locked && bad && ofs + 1 == e.first + e.lines then
      let d1 := d.setRegion (r.updEntry s e.first fun e => { e with state := .poisoned })
      (((d1.count .rpReadCrc (4 * n + j)).event .cmpEvent 0 3).raise .reelReadCrc (4 * n + j)).spoil r s e.first e.lines
        .readCrc
    else d

/-- A row's line comes only from blank fill or from blocks of MIRROR = 1 contexts (R325). -/
def Dev.rowMirrored (d : Dev) (n j : Nat) (l : Int) (pass : Nat) : Bool :=
  (d.rowStrips n j l pass).all fun x =>
    match (x.1.strip x.2.1).entryAt x.2.2 with
    | none => true
    | some e => e.state != .locked || d.bit .tenState x.1.slot 27

/-- A row takes its line for a fire, or underruns (R106, R108): its levels, and the controller after it. -/
def Dev.takeRow (d0 : Dev) (n j f : Nat) (p : FirePlace) : Dev × List Nat :=
  let d := d0.fillRow n j f
  let l := d.rowLineAt n j p
  let x := d.rowBuf n j
  let full := x.lines.contains (p.pass, l)
  let levels := if full then d.rowLevels n j l p.pass else List.replicate 4096 0
  let strips := d.rowStrips n j l p.pass
  let y : RowBuf := { x with taken := some (p.pass, l), lines := x.lines.filter fun k => k != (p.pass, l),
                             held := if full then x.held ++ [(p.pass, l)] else x.held }
  let d1 := (d.setRowBuf n j y).fillRow n j (f + 1)
  if full then (strips.foldl (fun d y => d.readCrcCheck n j y.1 y.2.1 y.2.2) d1, levels)
  else
    let d2 := ((d1.count .rpUnderrun (4 * n + j)).event .cmpEvent 0 1).raise .rpUnderrun (4 * n + j)
    (strips.foldl (fun d y => d.spoil y.1 y.2.1 y.2.2 1 .underrun) d2, levels)

/-- The batch before a fire has issued, or there is none to wait for: it was skipped, its fire has gone by or the head does
not fire it, or nothing prints there (R137). DEDUCED (log 109). -/
def Dev.batchBefore (d : Dev) (n f : Nat) : Bool :=
  ((d.syn' n).lastStarted == some (f - 1)) || (d.port n).skips.contains (f - 1) || decide (f ≤ d.fireIndex + 1) ||
    decide (f ≤ d.get .joinFire n) || (d.firePlace (f - 1)).isNone

/-- A batch of a fire may start on a port: firing, a healthy engine with room in its pipeline, and F inside the lead
(R137, R188, R197). -/
def Dev.batchMayStart (d : Dev) (n f : Nat) : Bool :=
  let x := d.syn' n
  let joined := (d.linkState n == 4 || d.linkState n == 5) && decide (d.get .joinFire n ≤ f)
  let engine := (d.engineOf n).map fun e => !d.bit .embStatus e 31
  let left := ((d.port n).leaveFire.map fun g => decide (f < g)).getD true
  d.fireEn && joined && left && engine == some true && decide (x.runs.length < 2) && (x.runs.all fun r => !r.restart) &&
    decide (d.fireIndex < f) && decide (f ≤ d.fireIndex + d.cfg .hlLead 0) && !(d.port n).skips.contains f &&
    (x.lastStarted.map fun g => decide (g < f)).getD true && d.batchBefore n f

/-- The first fire of a pass carries SYNC (R184). -/
def Dev.passFirst (d : Dev) (p : FirePlace) : Bool :=
  d.scanning && (match d.pos.curPass, d.pos.armedPass with
    | some q, _ => (q.number == p.pass && q.first == p.line) || (d.pos.armedPass.map fun a =>
        a.number == p.pass && a.first == p.line).getD false
    | none, _ => false)

/-- The context charged for a nozzle row's columns: for each band of the row its slot, none where no region covers it
(R282). -/
def Dev.bandSlots (d : Dev) (n : Nat) (l : Int) (pass : Nat) : List (Nat × Nat) :=
  (d.image.rowBands n).filterMap fun b =>
    (d.placeLookup (d.cfg .headFluid n) b l pass).map fun r => (b, r.slot)

/-- The engine starts a batch: the four rows take their lines, and the shares are formed (R137, R138). -/
def Dev.batchStart (d : Dev) (n f : Nat) : Dev :=
  match d.firePlace f with
  | none => d
  | some p =>
    if !d.batchMayStart n f then d
    else
      let step := fun (acc : Dev × List NozIn) (j : Nat) =>
        let t := acc.1.takeRow n j f p
        (t.1, acc.2 ++ d.rowCells n j f (d.rowLineAt n j p) p.pass t.2)
      let t := (List.range 4).foldl step (d, [])
      let mir := (List.range 4).all fun j => d.rowMirrored n j (d.rowLineAt n j p) p.pass
      let run : BatchRun :=
        { fire := f, reverse := p.reverse, sync := (d.port n).sync || d.passFirst p, period := d.batchPeriod,
          lines := (List.range 4).map fun j => d.rowLineAt n j p, cells := t.2, mirrored := mir, restart := false,
          slots := (List.range 4).map fun j => d.bandSlots n (d.rowLineAt n j p) p.pass }
      let d1 := t.1
      let x := d1.syn' n
      let d2 := d1.setSyn n { x with runs := x.runs ++ [run], lastStarted := some f,
                                     levels := ((f, t.2.map fun c => c.level) :: x.levels).take 16 }
      let d3 := (d2.setPort n { d2.port n with sync := false }).noteBusy n
      d3.retireBlocks d3.posLineNow

/-- Single-bit errors of table entries are corrected and counted by the engine (R170). -/
def Dev.tableCorrected (d : Dev) (e k : Nat) : Dev := d.add32 .embTableCe e k

/-- BATCH_START (R137), with the single-bit errors that the engine corrects as it reads the table (R170). -/
def execBatchStart (port : Fin 192) (fire : BitVec 48) (corrected : Nat) (s : State) : Host.Outcome State Fault Refusal :=
  s.run fun d =>
    let d1 := match d.engineOf port.val with
      | none => d
      | some e => if d.batchMayStart port.val fire.toNat then d.tableCorrected e corrected else d
    d1.batchStart port.val fire.toNat

/-- Drops and energy of a batch by slot (R282): a cancel pulse that no region covers is the owner's. DEDUCED (log 37).
-/
def Dev.batchAccount (d : Dev) (n : Nat) (bands : List (List (Nat × Nat))) (desc : List Nat) : List (Nat × Nat × Nat × Nat) :=
  let fl := d.cfg .headFluid n
  let bw := d.cfg .bandW 0
  let charge := fun (acc : List (Nat × Nat × Nat)) (j : Nat) =>
    let slots := bands.getD j []
    (List.range 4096).foldl (fun acc i =>
      let x := desc.getD (4096 * j + i) 0
      let c : Int := d.image.startPhase n + (i : Nat)
      let code := bits x 28 4
      if c < 0 ∨ (d.image.phaseCols fl : Int) ≤ c ∨ (code = 0 ∧ bits x 4 4 = 0) then acc
      else
        let s := Tab.get slots (c.toNat / bw) 0
        let e := d.nozzleEnergy n x
        let o := Tab.get acc s (0, 0)
        Tab.set acc s (o.1 + (if code = 0 then 0 else 1), o.2 + e)) acc
  ((List.range 4).foldl charge []).map fun t => (t.1, fl, t.2.1, t.2.2)

/-- An armed update set merges into the first batch at or after its F (R165). -/
def Dev.applySet (d : Dev) (n f : Nat) : Dev :=
  if d.bit .synStatus n 14 ∧ d.get .updFire n ≤ f then
    let staged := (d.syn' n).staged
    let d1 := staged.foldl (fun d e => d.storeValue n e.1 e.2) d
    ((d1.dropSet n).event .synEvent n 0).loopSetApplied n f
  else d

/-- The last descriptor of a port's oldest batch leaves the pipeline (R136, R149, R165, R167). -/
def Dev.batchComplete (d : Dev) (n : Nat) : Dev :=
  match (d.syn' n).runs with
  | [] => d
  | run :: rest =>
    if run.restart then d
    else
      let d1 := d.applySet n run.fire
      let desc := d1.batchDesc n run.fire run.cells
      let nj := d1.batchEnergy n desc
      let x := d1.syn' n
      let done : BatchDone := { fire := run.fire, reverse := run.reverse, sync := run.sync, period := run.period,
                                desc := desc, lines := run.lines }
      let y : PortSyn :=
        { x with runs := rest, done := if (d1.port n).skips.contains run.fire then x.done else x.done ++ [done],
                 hist := (d1.batchCodes n run.cells :: x.hist).take 3,
                 energy := ((run.fire, min 65535 (nj / 1000)) :: x.energy).take 32,
                 due := ((run.fire, d1.batchAccount n run.slots desc) :: x.due).take 32,
                 mirrored := ((run.fire, run.mirrored) :: x.mirrored).take 32,
                 crcs := ((run.fire, batchCrc desc) :: x.crcs).take 32 }
      let free := (d1.setSyn n y).each (List.range 4) fun d j =>
        (d.releaseRow n j (run.lines[j]?)).fillRow n j (d.nextTake n)
      let d2 := (free.noteBusy n).compareLate n run.fire
      match d2.engineOf n with
      | none => d2
      | some e => d2.count .embBatches e

/-- BATCH_COMPLETE (R136). -/
def execBatchComplete (port : Fin 192) (s : State) : Host.Outcome State Fault Refusal :=
  s.run fun d => d.batchComplete port.val

/-! ### The energy forecast (R168, R169) -/

/-- A port fires a fire: it is in FIRING or joins by then, and does not leave before (R168). DEDUCED (log 109). -/
def Dev.firesAt (d : Dev) (n f : Nat) : Bool :=
  (d.portFiring n || d.linkState n == 4 && decide (d.get .joinFire n ≤ f)) &&
    ((d.port n).leaveFire.map fun g => decide (f < g)).getD true

/-- The value of a port in the frame of a fire: 0 for one unused or masked, the latest complete batch's where the fire's
is not complete (then true). -/
def Dev.forecastValue (d : Dev) (n f : Nat) : Nat × Bool :=
  if d.cfg .headUsed n = 0 ∨ !d.firesAt n f then (0, false)
  else
    let x := d.syn' n
    match Tab.find x.energy f with
    | some v => (v, false)
    | none => ((x.energy.head?.map fun t => t.2).getD 0, true)

/-- The characters of a frame after K28.5 (Table 6.5). -/
def frameChars (est masked : Bool) (f : Nat) (vs : List Nat) : List Byte :=
  let body := leBytes ((if est then 1 else 0) + (if masked then 2 else 0)) 1 ++ leBytes f 6 ++ vs.flatMap fun v => leBytes v 2
  body ++ beBytes (crcMsb 16 0x1021 0xffff body) 2

/-- FORECAST_FRAME (R168). -/
def execForecastFrame (fc : Fin 8) (s : State) : Host.Outcome State Fault Refusal :=
  s.run fun d =>
    if !d.fireEn ∨ d.cfg .fcEn fc.val = 0 then d
    else
      let f := d.fireIndex + 10
      let ports := (List.range 24).map fun h => 24 * fc.val + h
      let vs := ports.map fun n => d.forecastValue n f
      let late := ports.filter fun n => (d.forecastValue n f).2
      let masked := ports.any fun n => d.cfg .headUsed n != 0 && !d.firesAt n f
      let d1 := d.each late fun d n => (d.count .fcEst n).event .synEvent n 1
      let d2 := ports.foldl (fun d n => d.put .fcLast n (d.forecastValue n f).1) d1
      let d3 := if late.isEmpty then d2
        else
          let x := d2.event .embGlbEvent 0 3
          if dueAgain x.now x.syn.lastLate then
            { x with syn := { x.syn with lastLate := some x.now } }.raise .fcLate fc.val
          else x
      d3.send (.forecast fc.val (0xbc :: frameChars (!late.isEmpty) masked f (vs.map fun v => v.1)))

/-! ### Health commands (R141 to R145, R492) -/

/-- The command that the EMB_HC registers hold. -/
def Dev.hcMask (d : Dev) : HealthMask :=
  { colLo := d.get .embHcColLo 0, colHi := d.get .embHcColHi 0, clr := d.fld .embHcCtrl 0 16 4, set := d.fld .embHcCtrl 0 20 4 }

/-- HEALTH_GO (R492). -/
def execHealthGo (req : Fin 5) (value : Word) (s : State) : Host.Outcome State Fault Refusal :=
  s.run fun d =>
    if d.isStandby then d.refuse req.val .ptnStandby
    else
      let d1 := d.wr .embHcCtrl 0 (value.setWidth 64 &&& Reg.embHcCtrl.desc.rw)
      let f := d1.fld .embHcCtrl 0 0 4
      let line := if d1.bit .embHcCtrl 0 30 then none else some (d1.getInt .embHcLine 0)
      let d2 := match d1.healthRefusal f d1.hcMask line with
        | some e => (d1.setFld .embHcStatus 0 0 16 e.code.toNat).refuse req.val e
        | none => (d1.setFld .embHcStatus 0 0 16 0).healthAccept f d1.hcMask line
      d2.event .embGlbEvent 0 4

/-- HEALTH_FOLD (R145). -/
def execHealthFold (port : Fin 192) (s : State) : Host.Outcome State Fault Refusal :=
  s.run fun d =>
    match d.unfolded port.val with
    | [] => d
    | e :: _ =>
      if d.rowsTook port.val e then
        let mark := fun (x : PendHealth) => if x = e then { x with folded := x.folded ++ [port.val] } else x
        let d1 := d.foldMask port.val e.mask
        { d1 with syn := { d1.syn with pend := d1.syn.pend.map mark } }.freePend
      else d

/-! ### Tables, pages and update sets (R159 to R166) -/

/-- A target lies in the table or the page. -/
def SynTarget.valid : SynTarget → Bool
  | .nozzle m => decide (m < 16384)
  | .page k => decide (k < 72)

/-- A value with one word replaced. -/
def mergeWord (t : SynTarget) (high : Bool) (old v : Nat) : Nat :=
  match t with
  | .nozzle _ => bits (setBits old (if high then 32 else 0) 32 v) 28 32 <<< 28
  | .page _ => v

/-- Stage a write in a port's update set (R163). -/
def Dev.stageWrite (d : Dev) (req n : Nat) (t : SynTarget) (high : Bool) (v : Nat) : Dev :=
  let x := d.syn' n
  match Tab.find x.staged t with
  | some old => (d.setSyn n { x with staged := x.staged.map fun e =>
      if e.1 = t then (t, mergeWord t high old v) else e }).noteStaged n
  | none =>
    if 4096 ≤ x.staged.length then (d.setBit .synStatus n 13 true).refuse req .nztStageFull
    else (d.setSyn n { x with staged := x.staged ++ [(t, mergeWord t high (d.liveValue n t) v)] }).noteStaged n

/-- NZT_WRITE (R162). -/
def execNztWrite (req : Fin 5) (port : Fin 192) (target : SynTarget) (high : Bool) (value : Word) (s : State) :
    Host.Outcome State Fault Refusal :=
  s.run fun d =>
    let n := port.val
    if !target.valid then d
    else if d.isStandby then d.refuse req.val .ptnStandby
    else if d.inTransit .port n then d.refuse req.val .transit
    else if d.bit .synStatus n 14 then d.refuse req.val .nztBusy
    else if d.writesAtOnce n then
      let v := mergeWord target high (d.liveValue n target) value.toNat
      (d.storeValue n target v).mirror (.table n [(target, v)] none)
    else d.stageWrite req.val n target high value.toNat

/-- COMMIT (R164). -/
def execCommit (req : Fin 5) (port : Fin 192) (s : State) : Host.Outcome State Fault Refusal :=
  s.run fun d =>
    let n := port.val
    if d.isStandby then d.refuse req.val .ptnStandby
    else if d.inTransit .port n then d.refuse req.val .transit
    else if d.bit .synStatus n 14 then d.refuse req.val .nztBusy
    else if d.get .updFire n < d.fireIndex + 16 then d.refuse req.val .nztFirePast
    else (d.setBit .synStatus n 14 true).mirror (.table n (d.syn' n).staged (some (d.get .updFire n)))

/-- The batch that applies a port's armed set has started (R164). -/
def Dev.setStarted (d : Dev) (n : Nat) : Bool :=
  d.bit .synStatus n 14 && (d.syn' n).runs.any fun r => decide (d.get .updFire n ≤ r.fire)

/-- ABORT (R164). -/
def execAbort (req : Fin 5) (port : Fin 192) (s : State) : Host.Outcome State Fault Refusal :=
  s.run fun d =>
    let n := port.val
    if d.inTransit .port n then d.refuse req.val .transit
    else if d.setStarted n then d
    else ((d.loopSetGone n).dropSet n).mirror (.table n [] none)

/-- TABLE_READY_WRITE (R161). -/
def execTableReadyWrite (req : Fin 5) (port : Fin 192) (ready : Bool) (s : State) :
    Host.Outcome State Fault Refusal :=
  s.run fun d =>
    if d.inTransit .port port.val then d.refuse req.val .transit else d.setBit .synCtrl port.val 0 ready

/-! ### Faults and spares (R170, R171) -/

/-- ENGINE_FAULT (R170), with the single-bit errors corrected before it. -/
def execEngineFault (engine : Fin 200) (cause : Fin 3) (corrected : Nat) (s : State) : Host.Outcome State Fault Refusal :=
  s.run fun d => (d.tableCorrected engine.val corrected).engineFail engine.val (cause.val + 1)

/-- RETIRE (R173). -/
def execRetire (req : Fin 5) (engine : Fin 200) (s : State) : Host.Outcome State Fault Refusal :=
  s.run fun d =>
    let e := engine.val
    if d.inTransit .engine e then d.refuse req.val .transit
    else if d.bit .embStatus e 31 then d
    else match d.spares with
      | [] => d.refuse req.val .embNoSpare
      | spare :: _ =>
        let assigned := d.bit .embStatus e 29
        let n := d.fld .embStatus e 0 8
        let d1 := d.engineOut e 4
        if assigned then d1.substitute e n spare else d1

end Sys2Proof.Machine
end

