-- ==== Sys2Proof/Machine/PwrOps.lean ====
section
/-! DEFINITION. The power budget, drone tasks, checkpoints and the steps of Breath (R336 to R359). -/

namespace Sys2Proof.Machine

/-! ### Drone tasks (R338 to R341, Table 13.2) -/

/-- State of Breath (Table 13.12): 0 RUN, 1 SHED, 2 HOLD, 3 RESUME, 4 SAVE, 5 DONE. -/
def Dev.breath (d : Dev) : Nat := d.fld .pwrStatus 0 29 3

/-- A drone task. -/
def Dev.task (d : Dev) (t : Nat) : Task := Tab.get d.pwr.task t Task.reset
def Dev.setTask (d : Dev) (t : Nat) (x : Task) : Dev := { d with pwr := { d.pwr with task := Tab.set d.pwr.task t x } }

/-- STATUS of a task: 31 URGENT, 30 RUNNING, 29 WAITING, 28 PAUSED. -/
def Dev.taskBit (d : Dev) (t i : Nat) : Bool := d.bit .pwrTaskStatus t i

/-- A task stands in one of RUNNING, WAITING and PAUSED, or in none (i = 0). -/
def Dev.taskStand (d : Dev) (t i : Nat) : Dev :=
  [28, 29, 30].foldl (fun d k => d.setBit .pwrTaskStatus t k (k == i)) d

/-- A task waits, runs or is paused. -/
def Dev.taskActive (d : Dev) (t : Nat) : Bool := d.fld .pwrTaskStatus t 28 3 != 0

/-- TASK_DEADLINE in force in ms: task 0's is its period where the image gives none (R358). -/
def Dev.taskLimit (d : Dev) (t : Nat) : Nat := d.cfg .taskDeadline t

/-- The deadline of a request that falls due now (Table 13.2): task 0's runs from the start of the pass, task 5's is the
next due frame, a change-triggered daily's 10 µs. -/
def Dev.taskDeadlineAt (d : Dev) (t : Nat) (change : Bool) (next : Nat) : Option Nat :=
  if t = 0 then none
  else if t = 5 then some next
  else if t = 6 then some (d.now + 1000000000)
  else if t = 7 then some (d.now + if change then 10000000 else 100000000000)
  else some (d.now + d.taskLimit t * 1000000000)

/-- A task falls due (TASK_DUE): it waits. Tasks 0 to 4 hold one request at a time. -/
def Dev.taskDue (d : Dev) (t : Nat) (deadline : Option Nat) : Dev :=
  let x := d.task t
  if d.taskActive t then
    if t ≤ 4 then d else d.setTask t { x with due := x.due ++ [deadline] }
  else (d.setTask t { x with due := [deadline], missed := false, told := false }).taskStand t 29

/-- P_t in 0.01 W (Table 13.2): task 5 takes 1.0 W per unit it keeps busy, at most four. -/
def Dev.taskPower (d : Dev) (t : Nat) : Nat :=
  match t with
  | 0 => 300
  | 1 => 150
  | 2 => 200
  | 3 => 400
  | 4 => 100
  | 5 => 100 * max 1 (min 4 (d.task 5).due.length)
  | 6 => 100
  | _ => 50

/-- The deadline of a task's first request. -/
def Dev.taskEnd (d : Dev) (t : Nat) : Option Nat := ((d.task t).due.head?).join

/-- PWR_LIMIT_W in 0.01 W. -/
def Dev.pwrLimit (d : Dev) : Nat := 100 * d.cfg .pwrLimitW 0

/-- Power of the urgent tasks that run. -/
def Dev.urgentDraw (d : Dev) : Nat :=
  (((List.range 8).filter fun t => d.taskBit t 31 && d.taskBit t 30).map d.taskPower).sum

/-- A task begins to run, or runs on: the deadline of task 0 is measured from the start of the pass; the calibration
refresh measures every linked C2 or C3 port that is not being measured (R80). -/
def Dev.taskStart (d : Dev) (t : Nat) : Dev :=
  let fresh := d.taskBit t 29
  let d1 := (d.taskStand t 30).setTask t { d.task t with told := false }
  if !fresh then d1
  else if t = 0 then
    let d2 := d1.setTask 0 { d1.task 0 with due := [some (d1.now + d1.taskLimit 0 * 1000000000)] }
    { d2 with dmc := { d2.dmc with passStart := d2.now } }.put .dmcScrubAddr 0 0
  else if t = 4 then
    let ports := (d1.portsIn [3, 5]).filter fun n => decide (2 ≤ d1.fld .linkStatus n 27 2) && (d1.port n).echo.isNone
    d1.each ports fun d n => d.startEcho n .refresh
  else d1

/-- An urgent task fails admission (R341): ring 4,096 is told once until the task is admitted. DEDUCED (log 66). -/
def Dev.urgentFail (d : Dev) (t : Nat) : Dev :=
  let d1 := ((d.speedReq .pwr).setBit .pwrStatus 0 28 true).event .pwrEvent 0 0
  let x := d1.task t
  if x.told then d1 else ((d1.setTask t { x with told := true }).raise .pwrSpeed t).ctxEvent 0 .pwrSpeed t 0 d1.fireIndex

/-- Slack of a waiting or paused task in ps, and what follows from it (R340): STATUS shows it in ms; at 0 the task is
urgent. -/
def Dev.taskSlack (d : Dev) (t left : Nat) : Dev :=
  match d.taskEnd t with
  | none => d.setFld .pwrTaskStatus t 0 28 (2 ^ 28 - 1)
  | some e =>
    let slack : Int := (e : Int) - d.now - left
    let d1 := d.setFld .pwrTaskStatus t 0 28 (min (2 ^ 28 - 1) (slack.toNat / 1000000000))
    if slack ≤ 0 then d1.setBit .pwrTaskStatus t 31 true else d1

/-- Place a task among tasks in order of deadline, ties by number (R339). -/
def placeTask (x : Nat × Nat) : List (Nat × Nat) → List (Nat × Nat)
  | [] => [x]
  | y :: ys => if x.1 < y.1 ∨ (x.1 = y.1 ∧ x.2 < y.2) then x :: y :: ys else y :: placeTask x ys

/-- Tasks that wait or are paused, in the order of admission. DEDUCED (log 66). -/
def Dev.taskQueue (d : Dev) : List Nat :=
  let ts := (List.range 8).filter fun t => d.taskBit t 29 || d.taskBit t 28
  ((ts.map fun t => ((d.taskEnd t).getD (2 ^ 80), t)).foldr placeTask []).map fun x => x.2

/-- Admission of one task (R339, R340); under OVERLOAD tasks 2 and 4 only where urgent (R430). DEDUCED (log 66). -/
def Dev.admitTask (d : Dev) (e t : Nat) : Dev :=
  let p := d.taskPower t
  if d.taskBit t 31 then
    if e + p ≤ d.pwrLimit ∧ d.urgentDraw + p ≤ 800 then d.taskStart t else d.urgentFail t
  else if d.bit .glbMgmtStatus 0 31 ∧ (t = 2 ∨ t = 4) then d
  else if d.bit .pwrCtrl 0 0 ∧ e + p + 800 ≤ d.pwrLimit then d.taskStart t else d

/-- A running task that is not urgent pauses where its condition fails; every one pauses while the die is hot (R339,
R340, R344). -/
def Dev.pauseTask (d : Dev) (e t : Nat) : Dev :=
  if !d.taskBit t 30 then d
  else if d.bit .pwrStatus 0 26 then d.taskStand t 28
  else if d.taskBit t 31 then d
  else if d.bit .pwrCtrl 0 0 ∧ e + d.taskPower t + 800 ≤ d.pwrLimit then d
  else d.taskStand t 28

/-- Admission, pausing and urgency at an estimate e in 0.01 W; left gives each task's remaining run time in ps. -/
def Dev.schedule (d : Dev) (e : Nat) (left : List Nat) : Dev :=
  let d1 := d.each d.taskQueue fun d t => d.taskSlack t (left.getD t 0)
  let d2 := d1.each (List.range 8) fun d t => d.pauseTask e t
  let d3 := if d2.bit .pwrStatus 0 26 then d2 else d2.each d2.taskQueue fun d t => d.admitTask e t
  d3.put .pwrReserveUsed 0 d3.urgentDraw

/-- PWR_DELTA_BYTES and the urgency of the checkpoint (R343). -/
def Dev.noteDelta (d : Dev) (bytes : Nat) : Dev :=
  let d1 := d.put .pwrDeltaBytes 0 (min bytes (2 ^ 32 - 1))
  if d.cfg .deltaUrgentKib 0 * 1024 < bytes then
    (d1.taskDue 1 (d1.taskDeadlineAt 1 false 0)).setBit .pwrTaskStatus 1 31 true
  else d1

/-- A task completes one request (R359): RUNS, LAST_MS; the next request waits. -/
def Dev.taskDone (d : Dev) (t : Nat) : Dev :=
  let x := d.task t
  let d1 := (d.count .pwrTaskRuns t).setTask t { due := x.due.drop 1, missed := false, told := false, last := some d.now }
  let d2 := (d1.put .pwrTaskStatus t 0).put .pwrTaskLastMs t 0
  let d3 := if (x.due.drop 1).isEmpty then d2 else d2.taskStand t 29
  if t = 2 then d3.event .lneGlbEvent 0 0
  else if t = 4 then d3.setBit .calEvent 0 2 true
  else if t = 0 then d3.put .dmcScrubPass 0 ((d3.now - d3.dmc.passStart) / 1000000000000)
  else d3

/-- Retraining falls due when Tj has moved by RETRAIN_DT_C since a group's last training (R424, Table 13.2). -/
def Dev.retrainByTemp (d : Dev) (tj : Nat) : Dev :=
  let moved := (List.range 4).any fun g => d.bit .dmcGrpStatus g 31 &&
    match Tab.find d.dmc.trainTj g with
    | some t => decide (10 * d.cfg .retrainDtC 0 ≤ max t tj - min t tj)
    | none => false
  if moved then d.taskDue 3 (d.taskDeadlineAt 3 false 0) else d

/-! ### Saving (R345, R346, R350, Table 13.4) -/

/-- First address of a checkpoint slot in the NVA: bank 2 + k. -/
def ckptAddr (k : Nat) : Nat := (2 + k) * 0x16e3600

/-- Bytes of a checkpoint slot. -/
def ckptSize : Nat := 18 * 1048576

/-- The slot with the higher SEQ. -/
def newestOf (slots : Tab Nat Saved) : Option Nat :=
  match Tab.find slots 0, Tab.find slots 1 with
  | some a, some b => some (if a.seq < b.seq then 1 else 0)
  | some _, none => some 0
  | none, some _ => some 1
  | none, none => none

/-- The slot of the newest valid commit record. DEDUCED (log 96). -/
def Dev.newestSlot (d : Dev) : Option Nat := newestOf d.pwr.slots

/-- The commit record in the NVA of a slot is valid: MAGIC, RCRC and BODY_CRC (R346, Table 13.4). -/
def Dev.recordValid (d : Dev) (k : Nat) : Bool :=
  let r := Mem.readBytes d.nva (ckptAddr k + ckptSize - 64) 64
  let len := le32At r 12
  (le32At r 0 == 0x434b5054 || le32At r 0 == 0x42525448) && le32At r 60 == crc32c (r.take 60) &&
    decide (len ≤ ckptSize - 64) && le32At r 16 == crc32c (Mem.readBytes d.nva (ckptAddr k) len)

/-- The slot that the next save goes into. -/
def Dev.saveSlot (d : Dev) : Nat := if d.newestSlot = some 0 then 1 else 0

/-- SEQ of the newest checkpoint or Breath image; 0 where there is none. DESIGN CHOICE (log 70). -/
def Dev.newestSeq (d : Dev) : Nat :=
  match d.newestSlot with
  | some k => ((Tab.find d.pwr.slots k).map fun s => s.seq).getD 0
  | none => 0

/-- The commit record of a save (Table 13.4). -/
def Saved.record (s : Saved) : List Byte :=
  let words := [if s.breath then 0x42525448 else 0x434b5054, s.seq, s.baseSeq, s.body.length, crc32c s.body] ++
    wordsOf (s.fire % 2 ^ 48) 2 ++ [s.cause <<< 8 + if s.isPart then 1 else 0] ++ List.replicate 7 0
  let bytes := words.flatMap fun w => leBytes w 4
  bytes ++ leBytes (crc32c bytes) 4

/-- What a save holds of the state as it stands (Table 13.9). DESIGN CHOICE (log 69, 70). -/
def Dev.saveOf (d : Dev) (breath isPart : Bool) (cause : Nat) (body : List Byte) : Saved :=
  { breath := breath, seq := d.newestSeq + 1, baseSeq := if breath then d.newestSeq else 0, fire := d.fireIndex,
    cause := cause, isPart := isPart, digest := d.image.digest, regs := d.regs, pos := d.pos, ten := d.ten, syn := d.syn,
    ins := d.ins, cmp := d.cmp, body := body }

/-- A body and then its commit record are written into a slot (R345). DESIGN CHOICE (log 69). -/
def Dev.writeSave (d : Dev) (k : Nat) (s : Saved) : Dev :=
  let m := (d.nva.writeBytes (ckptAddr k) s.body).writeBytes (ckptAddr k + ckptSize - 64) s.record
  let d1 := { d with nva := m, pwr := { d.pwr with slots := Tab.set d.pwr.slots k s } }
  ((d1.put .pwrCkptSeq 0 s.seq).put .pwrCkptFire 0 (s.fire % 2 ^ 48)).put .pwrDeltaBytes 0 0

/-- A stream for the NVA as its compressor unit emits it, in blocks of up to 262,144 symbols (Table 5.4). -/
def nvaBlocks (raw : List Byte) : List (List Byte) := compressBytes (raw.length + 1) raw

/-- A block was emitted in stored form (R118). -/
def storedForm (b : List Byte) : Bool := bits ((b.getD 3 0).toNat) 2 2 == 1

/-- The blocks of a checkpoint or a Breath image leave their unit (R131, R133). DESIGN CHOICE (log 108). -/
def Dev.countBlocks (d : Dev) (bs : List (List Byte)) : Dev :=
  match d.groupUnit 1 with
  | none => d
  | some u => (d.add32 .cdcUnitBlocks u bs.length).add32 .cdcUnitStored u (bs.filter storedForm).length

/-- A checkpoint of raw saved state, compressed by units 28 to 31 (R133, R345): abandoned where it does not fit, and not
written with no unit in service. DESIGN CHOICE (log 69, 108). -/
def Dev.checkpoint (d0 : Dev) (raw : List Byte) : Dev :=
  let blocks := nvaBlocks raw
  let body := blocks.flatten
  let d := d0.countBlocks blocks
  if (d.groupUnit 1).isNone then d
  else if ckptSize - 64 < body.length then d.raise .pwrCkpt 0
  else d.writeSave ((d.pwr.rewrite).getD d.saveSlot) (d.saveOf false false 0 body)

/-- Write the oldest queued journal record into the ring of 16,384 (R347). DESIGN CHOICE (log 71). -/
def Dev.journalWrite (d : Dev) : Dev :=
  match d.pwr.journal with
  | [] => d
  | e :: rest =>
    let ring := d.pwr.ring ++ [(d.newestSeq, e)]
    { d with pwr := { d.pwr with journal := rest, ring := ring.drop (ring.length - 16384) } }

/-! ### Breath (R348 to R353) -/

/-- Every head, camera and cascade port goes DOWN and its lanes OFF. -/
def Dev.shedLanes (d : Dev) : Dev :=
  let d1 := { d with lne := { d.lne with shed := max 1 d.lne.shed } }
  let d2 := d1.each (List.range 192) fun d n => d.groupDown (.head n)
  let d3 := d2.each (List.range 24) fun d c => d.groupDown (.camera c)
  d3.each (List.range 8) fun d l => d.groupDown (.cascade l)

/-- The shed lanes are powered again: each enabled lane waits for signal, and bring-up starts from step 1 (R344, R353). -/
def Dev.restoreLanes (d : Dev) : Dev :=
  let d1 := { d with lne := { d.lne with shed := 0 } }
  let d2 := d1.each (List.range 192) fun d n => d.lanesRest (.head n)
  let d3 := d2.each (List.range 24) fun d c => d.lanesRest (.camera c)
  d3.each (List.range 8) fun d l => d.lanesRest (.cascade l)

/-- An armed update set whose F has not started is discarded (R166). -/
def Dev.dropArmed (d : Dev) (n : Nat) : Dev :=
  if d.bit .synStatus n 14 ∧ !((d.syn' n).runs.any fun r => decide (d.get .updFire n ≤ r.fire)) then (d.loopSetGone n).dropSet n
  else d

/-- An armed hot activation whose F has not been reached is discarded (R48). -/
def Dev.dropHot (d : Dev) : Dev :=
  if (d.fld .imgStatus 0 0 3 = 3 ∨ d.fld .imgStatus 0 0 3 = 4) ∧ d.fireIndex < d.actFire then
    { d with img := { d.img with staged := false } }.setImgState 2
  else d

/-- Drone tasks stop (Table 13.5): what ran waits again. -/
def Dev.stopTasks (d : Dev) : Dev :=
  d.each (List.range 8) fun d t => if d.taskBit t 30 || d.taskBit t 28 then d.taskStand t 29 else d

/-- Batches in progress are discarded. -/
def Dev.dropRuns (d : Dev) : Dev :=
  d.each (d.syn.port.map fun t => t.1) fun d n => d.setSyn n { d.syn' n with runs := [] }

/-- BREATH. DEDUCED (log 72). -/
def Dev.setBreath (d : Dev) (v : Nat) : Dev := d.setFld .pwrStatus 0 29 3 v

/-- Core and owner operations on the NVA are abandoned (R434). -/
def Dev.nvaShed (d : Dev) : Dev := d.each (List.range 5) Dev.nvaAbandon

/-- Breath starts (Table 13.5 SHED). -/
def Dev.shed (d : Dev) (cause : Nat) (trip : Bool) : Dev :=
  let d0 := if d.canSurrender then d.surrender 5 else d
  let d1 := { d0 with pwr := { d0.pwr with cause := cause, trip := trip } }.setBreath 1
  let d2 := ((d1.stopTasks).each (List.range 192) Dev.dropArmed).dropHot
  ((((d2.dropRuns).closeFrames).shedLanes).shedAxes).nvaShed

/-- All lanes are powered down (Table 13.5 SAVE). -/
def Dev.allLanesOff (d : Dev) : Dev :=
  let d1 := { d with lne := { d.lne with shed := 2 } }
  let d2 := d1.each (List.range 20) fun d p => (d.groupDown (.ethernet p)).lanesOff (.ethernet p)
  let d3 := d2.each (List.range 8) fun d i => d.groupDown (.mirror i)
  ({ d3 with hst := { d3.hst with linkUp := false } }.put .pcieStatus 0 0).lanesOff .pcie

/-- SAVE is entered (Table 13.5). -/
def Dev.save (d : Dev) : Dev :=
  let d1 := (d.setBreath 4).stopByOther
  (((d1.foldAll).journal (.breathBegin d1.fireIndex)).allLanesOff).saveLoops

/-- The Breath image is compressed and written, its commit record last (R350, R351): the raw parts 1 and 2, and the raw
part 3, which is left out above 16 MiB raw and abandoned where the image passes 6 MB. With nothing changed nothing is written
(Table 13.8). -/
def Dev.breathCommit (d : Dev) (parts part3 : List Byte) : Dev :=
  let full := nvaBlocks (parts ++ part3)
  let isPart := decide (16 * 1048576 < parts.length + part3.length) || decide (6000000 < full.flatten.length)
  let blocks := if isPart then nvaBlocks parts else full
  let d1 := if parts.isEmpty ∧ part3.isEmpty ∨ (d.groupUnit 1).isNone then d
    else (d.countBlocks blocks).writeSave d.saveSlot (d.saveOf true isPart d.pwr.cause blocks.flatten)
  let d2 := Nat.repeat Dev.journalWrite d1.pwr.journal.length d1
  let d3 := { d2 with pos := { d2.pos with eout := [], speedReq := [], stopReq := [.pwr] } }
  ({ d3 with ptn := { d3.ptn with actUntil := some 0 } }.setBreath 5).setBit .pwrStatus 0 27 true

/-- RESUME (R353): the shed blocks are powered again and every head and camera port relinks. -/
def Dev.resume (d : Dev) : Dev :=
  let d1 := (((d.setBreath 3).put .pwrLastBreath 0 (0x4 <<< 28 + d.pwr.cause)).raise .pwrPfRecover 0).event .pwrEvent 0 5
  d1.restoreLanes

/-- RUN again (R353): a controller that surrendered asks for a new snapshot; a solo one resumes comparison. -/
def Dev.resumed (d : Dev) : Dev :=
  let d1 := (d.setBreath 0).resumeLoops
  if d1.isStandby then (d1.setUnfit 4 false).resync else d1.skipPassed

/-! ### Thermal limits (R344, Table 13.3) -/

/-- A threshold in 0.1 °C with its clearing 5 °C below. DEDUCED (log 67). -/
def thermal (on : Bool) (tj limit : Nat) : Bool := decide (limit ≤ tj) || (on && decide (limit - 50 ≤ tj))

/-- 95 °C and 100 °C. DEDUCED (log 67). -/
def Dev.thermalWarm (d : Dev) (tj : Nat) : Dev :=
  let w := thermal d.pwr.warm tj 950
  let d1 := if w && !d.pwr.warm then d.event .pwrEvent 0 4 else d
  let d2 := { d1 with pwr := { d1.pwr with warm := w } }
  let was := d2.bit .pwrStatus 0 26
  let h := thermal was tj 1000
  let d3 := d2.setBit .pwrStatus 0 26 h
  if h && !was then
    let d4 := (d3.event .pwrEvent 0 3).raise .pwrHot 0
    if d4.isStandby then d4.setUnfit 7 true else d4
  else if was && !h then d3.setUnfit 7 false
  else d3

/-- 110 °C: firing stops, an ACTIVE controller with a FIT partner surrenders first, and the lanes are powered down.
DEDUCED (log 67). -/
def Dev.thermalStop (d : Dev) : Dev :=
  let d0 := if d.canSurrender then { (d.surrender 4) with pwr := { d.pwr with selfDue := true } } else d
  let d1 := d0.stopByOther
  let d2 := match d1.ptn.withdrawAt with
    | some f => d1.surrenderAt f
    | none => d1
  let d3 := ((d2.stopReq .pwr).setBit .pwrStatus 0 27 true).raise .pwrThermalStop 0
  { d3 with pwr := { d3.pwr with thermStop := true } }.shedLanes

/-- Tj has fallen below 105 °C: STOP_REQ_N is released and the ports relink. -/
def Dev.thermalGo (d : Dev) : Dev :=
  let d1 := (d.stopFree .pwr).setBit .pwrStatus 0 27 false
  { d1 with pwr := { d1.pwr with thermStop := false } }.restoreLanes

/-- A controller that surrendered for thermal cause: SELF clears when its used ports are linked again, and with THERMAL
clear as well it asks for a new snapshot (R344). DEDUCED (log 67). -/
def Dev.thermalBack (d : Dev) : Dev :=
  if !d.pwr.selfDue ∨ d.pwr.thermStop then d
  else
    let up := d.image.usedPorts.all fun n => decide (3 ≤ d.linkState n)
    let d1 := if up then d.setUnfit 4 false else d
    if up ∧ !d1.bit .ptnStatus 0 7 then
      let d2 := { d1 with pwr := { d1.pwr with selfDue := false } }
      if d2.isStandby then d2.resync else d2
    else d1

/-- Thermal actions at an estimate (Table 13.3); while Breath runs it continues (Table 13.8). -/
def Dev.thermalAct (d : Dev) (tj : Nat) : Dev :=
  let d1 := d.thermalWarm tj
  if d1.breath ≠ 0 then d1
  else
    let d2 := if thermal d1.pwr.thermStop tj 1100 then (if d1.pwr.thermStop then d1 else d1.thermalStop)
      else if d1.pwr.thermStop then d1.thermalGo else d1
    let hot := thermal d2.pwr.tripped tj 1250
    let was := d2.pwr.tripped
    let due := d2.isStandby && d2.bit .pwrStatus 0 26 && !d2.bit .ptnStatus 0 7
    let d3 := { (if due then d2.setUnfit 7 true else d2) with pwr := { d2.pwr with tripped := hot } }
    if hot && !was then ((d3.event .pwrEvent 0 7).raise .pwrTrip 0).shed 3 true else d3.thermalBack

end Sys2Proof.Machine
end

