-- ==== Sys2Proof/Machine/DmcOps.lean ====
section
/-! DEFINITION. The DRAM: its address map, arbitration, refresh, errors and what follows from them (R406 to R425). -/

namespace Sys2Proof.Machine

/-! ### Addresses (R408) -/

/-- Where a byte lies. -/
structure DramPlace where
  ch : Nat
  sub : Nat
  rk : Nat
  bg : Nat
  ba : Nat
  row : Nat
  col : Nat
  deriving DecidableEq, Repr

/-- Banks of a bank group and ranks in the configuration. -/
def Dev.nbank (d : Dev) : Nat := if d.fld .dmcCfg 0 10 2 = 1 then 2 else 4
def Dev.nrank (d : Dev) : Nat := max 1 (d.fld .dmcCfg 0 12 2)

/-- Rows of a bank. -/
def Dev.nrow (d : Dev) : Nat := d.groupBytes / (8 * 4096 * 8 * d.nbank * d.nrank)

/-- The map of an address (R408). -/
def Dev.dramPlace (d : Dev) (addr : Nat) : DramPlace :=
  let c := max 1 d.groupBytes
  let g := addr / c
  let o := addr % c
  let u := o / 256
  let sc := (u ^^^ u / 8 ^^^ u / 64 ^^^ u / 512) % 8
  let v := u / 8 * 256 + o % 256
  let x := v / 4096
  let row := x / 8 / d.nbank / d.nrank
  { ch := 4 * g + sc / 2, sub := sc % 2, rk := x / 8 / d.nbank % d.nrank, bg := (x % 8) ^^^ (row % 8), ba := x / 8 % d.nbank,
    row := row, col := v % 4096 }

/-- A channel's group is offline. -/
def Dev.chOffline (d : Dev) (ch : Nat) : Bool := d.bit .dmcStatus ch 30

/-! ### Faults of the DRAM (R421, R422, Table 16.3) -/

/-- A group is in service. -/
def Dev.groupOnline (d : Dev) (g : Nat) : Bool := d.bit .dmcGrpStatus g 31

/-- An address that a requester may reach: in the populated groups, outside the training area, the top 2 MiB of each (R408).
-/
def Dev.dramReachable (d : Dev) (a : Nat) : Bool :=
  decide (a < d.dramBytes) && decide (a % max 1 d.groupBytes + 2 ^ 21 < d.groupBytes)

/-- The scrubber's next address: it skips the training areas and the groups that are offline (R419). -/
def Dev.scrubNext (d : Dev) (a : Nat) : Nat :=
  let c := max 1 d.groupBytes
  if d.dramReachable a && d.groupOnline (a / c) then a
  else (((d.groups.filter fun g => decide (a / c < g) && d.groupOnline g).head?).map (c * ·)).getD 0

/-- A group goes offline: its channels stop taking requests. DEDUCED (log 79). -/
def Dev.groupOffline (d : Dev) (g : Nat) : Dev :=
  (d.each (List.range 4) fun d i => d.setBit .dmcStatus (4 * g + i) 30 true).setBit .dmcGrpStatus g 31 false

/-- What follows in the pair or solo (Table 16.4 step 5, Table 12.7 cause 1). DEDUCED (log 79). -/
def Dev.dramGone (d : Dev) : Dev :=
  if d.isStandby then d.setUnfit 4 true
  else if d.canSurrender then d.surrender 1
  else ({ d with dmc := { d.dmc with lost := true } }.stopByOther).stopReq .sys

/-- A channel freezes with a cause (R421): 1 read UE, 2 CA parity, 3 write CRC, 4 training; its queues are held. -/
def Dev.freezeChannel (d : Dev) (ch cause : Nat) : Dev :=
  let d1 := (d.setBit .dmcStatus ch 31 true).setFld .dmcStatus ch 24 3 cause
  let d2 := d1.groupOffline (ch / 4)
  let d3 := if cause = 4 then (d2.event .dmcEvent 0 4).raise .dmcTrainFail ch else (d2.event .dmcEvent 0 0).raise .dmcFreeze ch
  d3.dramGone

/-- A bank of a subchannel (2 ch + sub). -/
def Dev.bankAt (d : Dev) (p : DramPlace) : Bank := Tab.get d.dmc.bank (2 * p.ch + p.sub, p.rk, p.bg, p.ba) Bank.reset
def Dev.setBank (d : Dev) (p : DramPlace) (b : Bank) : Dev :=
  { d with dmc := { d.dmc with bank := Tab.set d.dmc.bank (2 * p.ch + p.sub, p.rk, p.bg, p.ba) b } }

/-- The row that stands open: one is closed once it has idled PAGE_IDLE_NS (R409). -/
def Dev.openRow (d : Dev) (b : Bank) : Option Nat :=
  if b.used + d.get .dmcPageIdleNs 0 * 1000 < d.now then none else b.row

/-- Capture a failing request in the FRZ registers (Table 16.9). -/
def Dev.capture (d : Dev) (addr command q : Nat) (synd : List Nat) : Dev :=
  let p := d.dramPlace addr
  let d1 := (d.put .dmcFrzCmd p.ch (command <<< 24 + q <<< 16 + p.sub)).put .dmcFrzLinear p.ch addr
  let d2 := d1.put .dmcFrzAddr p.ch (p.rk <<< 60 + p.bg <<< 57 + p.ba <<< 55 + p.row <<< 36 + p.col <<< 24)
  let d3 := d2.each (List.range 4) fun d i => d.put .dmcFrzSynd (4 * p.ch + i) (synd.getD i 0)
  d3.each (List.range 128) fun d k =>
    let b : Bank := Tab.get d.dmc.bank (2 * p.ch + k / 64, k / 32 % 2, k / 4 % 8, k % 4) Bank.reset
    let lacks := d.nrank ≤ k / 32 % 2 ∨ d.nbank ≤ k % 4
    d.put .dmcFrzBanks (128 * p.ch + k) (match (if lacks then none else d.openRow b) with
      | some r => 2 ^ 31 + r
      | none => 0)

/-- A burst is poisoned. -/
def Dev.isPoisoned (d : Dev) (addr : Nat) : Bool := d.dmc.poisoned.contains (addr / 64 * 64)
def Dev.setPoison (d : Dev) (addr : Nat) (b : Bool) : Dev :=
  let a := addr / 64 * 64
  let rest := d.dmc.poisoned.filter fun x => x != a
  { d with dmc := { d.dmc with poisoned := if b then a :: rest else rest } }

/-- A block's burst is lost (Table 16.3): its entry is POISONED, and a re-send is asked for, or its lines print blank. -/
def Dev.poisonBlock (d : Dev) (region strip first : Nat) : Dev :=
  match d.region? region with
  | none => d
  | some r =>
    match (r.strip strip).entries.find? fun e => e.first == first && (e.state == .resident || e.state == .locked) with
    | none => d
    | some e =>
      let d1 := d.setRegion (r.updEntry strip first fun e => { e with state := .poisoned })
      if e.isLocked then d1.spoil r strip first e.lines .poison
      else d1.postEvent r.slot 0x13 [(r.number, [strip, first, e.lines - 1])]

/-- A copy of the inspection store is dropped: its lines are store-missing (R223). -/
def Dev.dropCopy (d : Dev) (place : Nat) : Dev :=
  match d.ins.copies[place]? with
  | none => d
  | some x =>
    let l : LostCopy := { bar := x.bar, fluid := x.fluid, phase := x.phase, band := x.band, first := x.first,
                          lines := x.lines, pass := x.pass }
    { d with ins := { d.ins with copies := d.ins.copies.eraseIdx place, lost := d.ins.lost ++ [l] } }.noteStore

/-- A requester receives poison (R416, R417): a block is POISONED, a copy of the inspection store is dropped, a host is
told, a core takes a bus error, and control state is lost. DESIGN CHOICE (log 77). -/
def Dev.poisonTo (d : Dev) (ch : Nat) (r : DramReq) : Dev :=
  let d1 := d.count .dmcPoisonReads ch
  if r.q.val = 5 then (d1.raise .dmcPoison ch).ctxEvent 0 .dmcPoison 0 0 d1.fireIndex
  else if r.q.val = 6 then
    match r.core with
    | some c => d1.send (.busError c.val r.addr)
    | none => d1
  else match r.holds with
  | .reel region strip first => if r.q.val = 0 ∨ r.q.val = 3 then d1.poisonBlock region strip first else d1
  | .storeCopy place => if r.q.val = 2 then d1.dropCopy place else d1
  | .control => if r.q.val ≤ 3 then ((d1.event .dmcEvent 0 5).raise .dmcCtlLost ch).dramGone else d1
  | _ => d1

/-- An uncorrectable burst found by the scrubber (R419, Table 16.3). -/
def Dev.scrubUe (d : Dev) (ch addr : Nat) (holds : UnitClass) : Dev :=
  let d1 := (d.setPoison addr true).count .dmcScrubUe ch
  let found := fun (d : Dev) => (d.event .dmcEvent 0 1).raise .dmcScrubUe ch
  match holds with
  | .reel region strip first => (found d1).poisonBlock region strip first
  | .storeCopy place => (found d1).dropCopy place
  | .owner => ((d1.event .dmcEvent 0 6).raise .dmcOwnerPoison ch).ctxEvent 0 .dmcOwnerPoison 0 (addr % 2 ^ 32) (addr / 2 ^ 32)
  | .freeUnit again =>
    if again then (found d1).put .tenPoolFree 0 (d1.get .tenPoolFree 0 - 1) else (found d1).setPoison addr false
  | .loopState port nozzles =>
    let cells := d1.ql.cell.filter fun c => !(c.1.1 == port && nozzles.contains c.1.2)
    found { d1 with ql := { d1.ql with cell := cells } }
  | .park k =>
    match Tab.find d1.ten.parks k with
    | none => found d1
    | some r => found { d1 with ten := { d1.ten with parks := Tab.set d1.ten.parks k { r with lost := true } } }
  | .control => ((d1.event .dmcEvent 0 5).raise .dmcCtlLost ch).dramGone

/-! ### Arbitration (R409 to R412) -/

/-- Of two requests, the one that is granted first (R410). -/
def Dev.betterReq (d : Dev) (a b : DramReq) : Bool :=
  let pa := d.fld .dmcPrio a.q.val 0 3
  let pb := d.fld .dmcPrio b.q.val 0 3
  decide (pb < pa) || (pa == pb && (decide (a.since < b.since) || (a.since == b.since && decide (a.q.val ≤ b.q.val))))

/-- The request granted first. -/
def Dev.pickReq (d : Dev) : List DramReq → Option DramReq
  | [] => none
  | r :: rest =>
    match d.pickReq rest with
    | none => some r
    | some s => some (if d.betterReq r s then r else s)

/-- Queues of a subchannel. -/
def Dev.dramReads (d : Dev) (k : Nat) : List DramReq := Tab.get d.dmc.reads k []
def Dev.dramWrites (d : Dev) (k : Nat) : List DramReq := Tab.get d.dmc.writes k []

/-- Set them; WQ and RQ show both subchannels (Table 16.7). DEDUCED (log 80). -/
def Dev.setQueues (d : Dev) (k : Nat) (rs ws : List DramReq) : Dev :=
  let d1 := { d with dmc := { d.dmc with reads := Tab.set d.dmc.reads k rs, writes := Tab.set d.dmc.writes k ws } }
  let other := k ^^^ 1
  let d2 := d1.setFld .dmcStatus (k / 2) 8 8 (min 255 (min 64 ws.length + min 64 (d1.dramWrites other).length))
  d2.setFld .dmcStatus (k / 2) 0 8 (min 255 (rs.length + (d2.dramReads other).length))

/-- An access to a row of a bank: the predictor, the commands and the neighbour record (R409, R414). DEDUCED (log 78).
-/
def Dev.accessRow (d : Dev) (p : DramPlace) (write : Bool) (bursts : Nat) (more : Bool) : Dev :=
  let b := d.bankAt p
  let hit := d.openRow b == some p.row
  let closes := (d.openRow b).isSome && !hit
  let count := if hit then min 3 (b.count + 1) else if closes then b.count - 1 else b.count
  let draws := !hit && d.free 16 % 2 ^ (d.fld .dmcPnrCfg 0 0 5) == 0
  let keep := more || decide (2 ≤ count)
  let b1 : Bank := { b with row := if keep then some p.row else none, used := d.now, count := count,
                            record := if draws then some p.row else b.record }
  let d1 := if closes then d.send (.dram p.ch 3 (b.row.getD 0)) else d
  let d2 := if hit then d1 else (d1.send (.dram p.ch 0 p.row)).drawn
  let d3 := d2.each (List.range bursts) fun d i => d.send (.dram p.ch (if write then 2 else 1) (p.col / 64 * 64 + 64 * i))
  d3.setBank p b1

/-- Bursts of one grant: within one 256-byte unit (R410). -/
def grantBursts (addr n : Nat) : Nat := min n (4 - addr / 64 % 4)

/-- Bursts that n bytes from an address touch. -/
def burstsOf (addr n : Nat) : Nat := (addr + max 1 n - 1) / 64 - addr / 64 + 1

/-- What a write stores in one burst (R412, R416): a partial write to a poisoned burst leaves it poisoned. -/
def Dev.writeBurst (d : Dev) (ch addr : Nat) (bytes : List Byte) (i : Nat) : Dev :=
  let a := addr / 64 * 64 + 64 * i
  let lo := max addr a
  let part := (bytes.drop (lo - addr)).take (a + 64 - lo)
  if d.isPoisoned a ∧ part.length < 64 then d.raise .dmcPoison ch
  else { (d.setPoison a false) with dram := d.dram.writeBytes lo part }

/-- The symbols that the devices answer with for one burst of a read (R415, R416). -/
def Dev.burstRead (d : Dev) (r : DramReq) (i h : Nat) : List Nat :=
  let a := (r.other.getD r.addr) / 64 * 64 + 64 * i
  let p := d.dramPlace a
  let held := burstSymbols (placeSymbols p.rk p.bg p.ba p.row p.col) (d.dram.readBytes a 64) (d.isPoisoned a) h
  let es := r.errors.filter fun e => e.1.val == i && e.2.1.val == h
  (List.range 40).map fun s => held.getD s 0 ^^^ ((es.filter fun e => e.2.2.1.val == s).map fun e => e.2.2.2.toNat).foldl (· ^^^ ·) 0

/-- The verdict on one burst of a read (R415, R416): a poisoned burst never freezes a channel. -/
def Dev.readVerdict (d : Dev) (r : DramReq) (i : Nat) : EccVerdict :=
  let a := r.addr / 64 * 64 + 64 * i
  let p := d.dramPlace a
  if d.isPoisoned ((r.other.getD r.addr) / 64 * 64 + 64 * i) then .poison
  else if r.errors.isEmpty ∧ r.other = none then .good
  else burstVerdict (placeSymbols p.rk p.bg p.ba p.row p.col) (d.burstRead r i)

/-- Four words of the syndromes of a burst (Table 16.9). -/
def syndWords (synd : List Nat) : List Nat :=
  (List.range 4).map fun w => ((List.range 4).map fun b => synd.getD (4 * w + b) 0 <<< (8 * b)).sum

/-- What waits at a channel whose group has gone offline completes with poison (R421). -/
def Dev.drainChannel (d : Dev) (ch : Nat) : Dev :=
  d.each [2 * ch, 2 * ch + 1] fun d k =>
    if (d.dramReads k).isEmpty ∧ (d.dramWrites k).isEmpty then d
    else (d.dramReads k).foldl (fun d r => d.poisonTo ch r) (d.setQueues k [] [])

/-- A channel freezes and its group goes offline (R421). -/
def Dev.freeze (d : Dev) (ch cause : Nat) : Dev :=
  (d.freezeChannel ch cause).each ((List.range 4).map fun i => 4 * (ch / 4) + i) fun d c =>
    if c = ch then d else d.drainChannel c

/-- What follows from one burst of a read (R415 to R421): the others of its grant complete with poison once it has frozen its
channel. -/
def Dev.readBurst (d : Dev) (p : DramPlace) (r : DramReq) (i : Nat) : Dev :=
  let a := r.addr / 64 * 64 + 64 * i
  if d.chOffline p.ch then d.poisonTo p.ch r
  else match d.readVerdict r i with
  | .good => d
  | .corrected fixes => { d with dmc := { d.dmc with fixes := d.dmc.fixes ++ fixes.map fun f => { addr := a, device := f.2 } } }
  | .poison => d.poisonTo p.ch r
  | .uncorrectable synd =>
    if r.q.val = 8 then d.scrubUe p.ch a r.holds
    else (((d.count .dmcUeCount p.ch).capture a 1 r.q.val (syndWords synd)).freeze p.ch 1).poisonTo p.ch r

/-- A granted write (R410, R412). -/
def Dev.grantWrite (d : Dev) (p : DramPlace) (r : DramReq) (bytes : List Byte) (more : Bool) : Dev :=
  let n := grantBursts r.addr (burstsOf r.addr bytes.length)
  (d.accessRow p true n more).each (List.range n) fun d i => d.writeBurst p.ch r.addr bytes i

/-- A granted read (R412, R416, R419 to R421). -/
def Dev.grantRead (d : Dev) (p : DramPlace) (r : DramReq) (queued more : Bool) : Dev :=
  let n := grantBursts r.addr (r.more.val + 1)
  let d1 := if queued then d else d.accessRow p false n more
  let d2 := if r.q.val = 8 then d1.put .dmcScrubAddr 0 (d1.scrubNext (r.addr / 64 * 64 + 64 * n)) else d1
  if queued then d2 else d2.each (List.range n) fun d i => d.readBurst p r i

/-- Issue REFsb to a bank, with the neighbour refresh of its recorded row (R413, R414). -/
def Dev.refreshBank (d : Dev) (p : DramPlace) : Dev :=
  let b := d.bankAt p
  let d1 := (d.send (.dram p.ch 4 p.ba)).setBank p { b with row := none, record := none, postponed := 0 }
  match b.record with
  | none => d1
  | some r =>
    let reach := if d.bit .dmcPnrCfg 0 8 then [1, 2] else [1]
    let rows := (reach.filterMap fun k => if k ≤ r then some (r - k) else none) ++
      (reach.map fun k => r + k).filter fun x => decide (x < d.nrow)
    (d1.each rows fun d x => (d.send (.dram p.ch 0 x)).send (.dram p.ch 3 x)).add32 .dmcPnrCount p.ch rows.length

/-- A bank of a subchannel that has postponed four refreshes. -/
def Dev.refreshFirst (d : Dev) (k : Nat) : Option DramPlace :=
  (d.dmc.bank.find? fun b => b.1.1 == k && decide (4 ≤ b.2.postponed)).map fun b =>
    { ch := k / 2, sub := k % 2, rk := b.1.2.1, bg := b.1.2.2.1, ba := b.1.2.2.2, row := 0, col := 0 }

/-- Another queued request reaches the same row. -/
def Dev.moreFor (d : Dev) (p : DramPlace) (rs : List DramReq) : Bool :=
  rs.any fun r => let x := d.dramPlace r.addr; x.rk == p.rk && x.bg == p.bg && x.ba == p.ba

/-- Drain state of the write queue: from 48 bursts down to 16 (R412). -/
def Dev.drains (d : Dev) (k : Nat) : Bool :=
  let n := (d.dramWrites k).length
  decide (48 ≤ n) || (Tab.get d.dmc.draining k false && decide (16 < n))

/-- Grant one burst of a subchannel (R410 to R412). DEDUCED (log 80). -/
def Dev.dramGrant (d : Dev) (k : Nat) : Dev :=
  let drains := d.drains k
  let d0 := { d with dmc := { d.dmc with draining := Tab.set d.dmc.draining k drains } }
  let rs := d0.dramReads k
  let ws := d0.dramWrites k
  match d0.refreshFirst k with
  | some p => d0.refreshBank p
  | none =>
    match (if drains then none else d0.pickReq rs), d0.pickReq (ws.take 64) with
    | some r, _ =>
      let left := rs.erase r
      let queued := ws.any fun w => w.addr / 64 == r.addr / 64
      let p := d0.dramPlace r.addr
      (d0.setQueues k left ws).grantRead p r queued (d0.moreFor p left)
    | none, some w =>
      let left := ws.erase w
      let p := d0.dramPlace w.addr
      (d0.setQueues k rs left).grantWrite p w (w.data.getD []) (d0.moreFor p left)
    | none, none => d0

/-- Requests that arrive at a subchannel, those that may reach their address: at a group that is offline they complete
with poison (R408, R421). DESIGN CHOICE (log 77). -/
def Dev.dramArrive (d : Dev) (k : Nat) (all : List DramReq) : Dev :=
  let rs := all.filter fun r => d.dramReachable r.addr
  if d.chOffline (k / 2) then
    (rs.filter fun r => r.data.isNone).foldl (fun d r => d.poisonTo (k / 2) r) d
  else d.setQueues k (d.dramReads k ++ rs.filter fun r => r.data.isNone) (d.dramWrites k ++ rs.filter fun r => r.data.isSome)

/-! ### Group reset and retraining (R422, R424) -/

/-- A group's memory is zeroed; its poison goes with it. -/
def Dev.zeroGroup (d : Dev) (g : Nat) : Dev :=
  let c : Nat := d.groupBytes
  let lo : Nat := g * c
  let left : List Nat := d.dmc.poisoned.filter fun a => !(decide (lo ≤ a) && decide (a < lo + c))
  let m : Mem := d.dram.zero lo c
  let dm : DmcState := { d.dmc with poisoned := left, trainTj := Tab.set d.dmc.trainTj g (d.fld .pwrStatus 0 0 11) }
  { d with dram := m, dmc := dm }

/-- A channel is released from its freeze. -/
def Dev.thaw (d : Dev) (ch : Nat) : Dev :=
  let d0 := ((d.setBit .dmcStatus ch 31 false).setBit .dmcStatus ch 30 false).setFld .dmcStatus ch 24 3 0
  (d0.setQueues (2 * ch) [] []).setQueues (2 * ch + 1) [] []

/-- A standby whose groups are all online returns through SYNC (R422). -/
def Dev.dramFit (d : Dev) : Dev :=
  if d.isStandby ∧ d.bit .ptnStatus 0 4 ∧ d.groups.all (fun x => d.bit .dmcGrpStatus x 31) then (d.setUnfit 4 false).resync
  else d

/-- A group is back in service after its reset: trained, zeroed and online. -/
def Dev.groupBack (d : Dev) (g : Nat) : Dev :=
  (((d.zeroGroup g).each (List.range 4) fun d i => d.thaw (4 * g + i)).put .dmcGrpStatus g (2 ^ 31)).dramFit

end Sys2Proof.Machine
end

