-- ==== Sys2Proof/Machine/Dram.lean ====
section
/-! DEFINITION. The commands of the chapter "DRAM Subsystem" (R406 to R425). -/

namespace Sys2Proof.Machine

/-- REFRESH_DUE (R413, R414): postponed while requests wait for the bank, up to four times. -/
def execRefreshDue (sub : Fin 32) (rank : Fin 2) (bankGroup : Fin 8) (bank : Fin 4) (busy : Bool) (s : State) :
    Host.Outcome State Fault Refusal :=
  s.run fun d =>
    let p : DramPlace := { ch := sub.val / 2, sub := sub.val % 2, rk := rank.val, bg := bankGroup.val, ba := bank.val, row := 0,
                           col := 0 }
    let b := d.bankAt p
    if busy ∧ b.postponed < 4 then d.setBank p { b with postponed := b.postponed + 1 } else d.refreshBank p

/-- DRAM_TEMP_READ (R413). -/
def execDramTempRead (channel : Fin 16) (celsius : Int) (s : State) : Host.Outcome State Fault Refusal :=
  s.run fun d => { d with dmc := { d.dmc with temp := Tab.set d.dmc.temp channel.val celsius } }

/-- DRAM_GRANT (R410 to R412): a frozen channel holds its queues. DESIGN CHOICE (log 77). -/
def execDramGrant (sub : Fin 32) (arrivals : List DramReq) (s : State) : Host.Outcome State Fault Refusal :=
  s.run fun d =>
    let k := sub.val
    let d1 := d.dramArrive k arrivals
    if d1.chOffline (k / 2) then d1 else d1.dramGrant k

/-- The corrections of a device in the last 24 h. -/
def Dev.recent (d : Dev) (ch k : Nat) : List Nat :=
  (Tab.get d.dmc.corrections (ch, k) []).filter fun t => decide (d.now < t + 86400000000000000)

/-- CE_WRITEBACK (R418). DEDUCED (log 78). -/
def execCeWriteback (sub : Fin 32) (rank : Fin 2) (device : Fin 5) (codewords : BitVec 2) (s : State) :
    Host.Outcome State Fault Refusal :=
  s.run fun d =>
    let ch := sub.val / 2
    let k := 10 * (sub.val % 2) + 5 * rank.val + device.val
    let n := max 1 codewords.toNat
    let here := fun (f : EccFix) => let p := d.dramPlace f.addr
      f.device == device.val && p.ch == ch && p.sub == sub.val % 2 && p.rk == rank.val
    let d0 := match d.dmc.fixes.find? here with
      | some f => { d with dmc := { d.dmc with fixes := d.dmc.fixes.filter fun x => !(x.addr == f.addr && here x) } }.accessRow (d.dramPlace f.addr) true 1 false
      | none => d
    let xs := List.replicate n d0.now ++ d0.recent ch k
    let d1 := { d0 with dmc := { d0.dmc with corrections := Tab.set d0.dmc.corrections (ch, k) xs } }
    let d2 := (d1.add32 .dmcCeCount ch n).put .dmcCeDev (20 * ch + k) (min (2 ^ 32 - 1) xs.length)
    let told := (Tab.find d.dmc.told (ch, k)).any fun t => decide (d.now < t + 86400000000000000)
    if d2.fld .dmcCeThr 0 0 24 < xs.length ∧ !told then
      (({ d2 with dmc := { d2.dmc with told := Tab.set d2.dmc.told (ch, k) d2.now } }).event .dmcEvent 0 2).raise .dmcCeDevice ch
    else d2

/-- DRAM_FREEZE (R421). -/
def execDramFreeze (addr : BitVec 64) (cause : Fin 3) (command : Byte) (requester : Fin 9) (syndrome : List Word)
    (s : State) : Host.Outcome State Fault Refusal :=
  s.run fun d =>
    let ch := (d.dramPlace addr.toNat).ch
    if d.chOffline ch then d
    else
      let d1 := if cause.val = 0 then d.count .dmcUeCount ch else d
      (d1.capture addr.toNat command.toNat requester.val (syndrome.map BitVec.toNat)).freeze ch (cause.val + 1)

/-- GROUP_RESET (R422, R425, R435): a cue sequence resets a group that is frozen or offline. -/
def execGroupReset (req : Fin 5) (group : Fin 4) (s : State) : Host.Outcome State Fault Refusal :=
  s.run fun d =>
    let g := group.val
    if d.inTransit .group g then d.refuse req.val .transit
    else if !d.chOffline (4 * g) then d.refuse req.val .dmcBusy
    else d.cueRequest (.groupReset g)

/-- RETRAIN_SLICE (R424): the candidate with the wider of the narrower eyes stands. -/
def execRetrainSlice (channel : Fin 16) (readEye writeEye : Byte) (s : State) : Host.Outcome State Fault Refusal :=
  s.run fun d =>
    let ch := channel.val
    let new := (readEye.toNat, writeEye.toNat)
    let d1 := d.setBit .dmcStatus ch 28 true
    let best := match Tab.find d1.dmc.best ch with
      | some b => if min b.1 b.2 < min new.1 new.2 then new else b
      | none => new
    { d1 with dmc := { d1.dmc with best := Tab.set d1.dmc.best ch best } }

/-- The outcome of retraining on one channel (Table 16.5). -/
def Dev.retrained (d : Dev) (ch : Nat) (old : Nat × Nat) : Dev :=
  let least := d.fld .dmcTrainMin 0 0 6
  let good := fun (e : Nat × Nat) => decide (least ≤ e.1) && decide (least ≤ e.2)
  let d1 := d.setBit .dmcStatus ch 28 false
  let d2 := { d1 with dmc := { d1.dmc with best := Tab.erase d1.dmc.best ch } }
  match (Tab.find d.dmc.best ch).filter good with
  | some e => ((d2.count .dmcRetrains ch).put .dmcMargin ch (e.1 <<< 8 + e.2)).setBit .dmcStatus ch 29 false
  | none =>
    let d3 := d2.put .dmcMargin ch (old.1 <<< 8 + old.2)
    if good old then ((d3.setBit .dmcStatus ch 29 true).event .dmcEvent 0 3).raise .dmcTrainKept ch else d3.freeze ch 4

/-- RETRAIN_DONE (R424, Table 16.5). DEDUCED (log 79). -/
def execRetrainDone (group : Fin 4) (old : List (Byte × Byte)) (s : State) : Host.Outcome State Fault Refusal :=
  s.run fun d =>
    let g := group.val
    let d1 := { d with dmc := { d.dmc with trainTj := Tab.set d.dmc.trainTj g (d.fld .pwrStatus 0 0 11) } }
    d1.each (List.range 4) fun d i =>
      let o := (old.map fun x => (x.1.toNat, x.2.toNat)).getD i (0, 0)
      if d.chOffline (4 * g + i) then d.setBit .dmcStatus (4 * g + i) 28 false else d.retrained (4 * g + i) o

/-- DMC_PRIO_WRITE (R411): FETCH and SUBST are fixed. -/
def execDmcPrioWrite (requester : Fin 9) (prio : BitVec 3) (s : State) : Host.Outcome State Fault Refusal :=
  s.run fun d => if requester.val < 2 then d else d.put .dmcPrio requester.val prio.toNat

end Sys2Proof.Machine
end

