-- ==== Sys2Proof/Machine/CodecOps.lean ====
section
/-! DEFINITION. The compressor units, their self-check and their groups (R129 to R134). -/

namespace Sys2Proof.Machine

/-- A compressor unit. -/
def Dev.unit (d : Dev) (u : Nat) : CdcUnit := Tab.get d.cdc.units u CdcUnit.reset

/-- Set a compressor unit, and BUSY and NSYM of its status (Table 5.6). -/
def Dev.setUnit (d : Dev) (u : Nat) (x : CdcUnit) : Dev :=
  let d1 := { d with cdc := { d.cdc with units := Tab.set d.cdc.units u x } }
  (d1.setFld .cdcUnitStatus u 0 18 x.symbols.length).setBit .cdcUnitStatus u 30 (!x.symbols.isEmpty || !x.closed.isEmpty)

/-- Close the block in progress; with no symbol pending there is none (R130). -/
def CdcUnit.close (x : CdcUnit) : CdcUnit :=
  if x.symbols.isEmpty then x
  else { x with symbols := [], closed := x.closed ++ [{ symbols := x.symbols, stored := !emitsCoded x.symbols }] }

/-- Accept symbols, closing a block each time N reaches the block size (R130). -/
def CdcUnit.accept (size : Nat) (x : CdcUnit) : List Nat → CdcUnit
  | [] => x
  | a :: t =>
    let y := { x with symbols := x.symbols ++ [a] }
    CdcUnit.accept size (if size ≤ y.symbols.length then y.close else y) t

/-- The block size that a user set, at most 262,144 symbols (R130). -/
def unitSize (n : Nat) : Nat := max 1 (min n 262144)

/-- The bytes of a closed block in the form under comparison. -/
def ClosedBlock.bytes (b : ClosedBlock) : List Byte := if b.stored then storedBlock b.symbols else codedBlock b.symbols

/-- A unit with no block in progress, none under comparison and in service. -/
def Dev.unitIdle (d : Dev) (u : Nat) : Bool :=
  !d.unitFault u && (d.unit u).symbols.isEmpty && (d.unit u).closed.isEmpty

/-- The unit that takes a user's block: the named one, or, where it is out of service, the lowest unit of its group that is
not (Tables 5.3 and 5.4). DESIGN CHOICE (log 108): which of several. -/
def Dev.unitFor (d : Dev) (u : Nat) : Option Nat :=
  if !d.unitFault u then some u else if u < 24 then none else d.groupUnit (if u < 28 then 0 else 1)

/-- A unit fails: its blocks are discarded, it is out of service (Table 5.3). With units 24 to 27 all out of service the
controller is unfit as a standby (Table 5.4, Table 12.6). DEDUCED (log 99). -/
def Dev.unitFails (d : Dev) (u : Nat) : Dev :=
  let d1 := (((d.setUnit u { CdcUnit.reset with lastFail := some d.now }).setBit .cdcUnitStatus u 31 true).event
    .cdcEvent 0 1).raise .cdcUnitFault u
  if 24 ≤ u ∧ u < 28 ∧ [24, 25, 26, 27].all (fun v => d1.unitFault v) then d1.setUnfit 6 true else d1

/-- The comparison of the oldest closed block of a unit fails (Table 5.3). -/
def Dev.selfcheckFail (d : Dev) (u : Nat) (b : ClosedBlock) (rest : List ClosedBlock) : Dev :=
  let x := d.unit u
  let d1 := (d.count .cdcUnitSelfchk u).event .cdcEvent 0 0
  let again : Bool := match x.lastFail with
    | none => false
    | some t => decide (d.now < t + 1000000000000)
  if b.stored ∨ again then d1.unitFails u
  else (d1.setUnit u { x with closed := { b with stored := true } :: rest, lastFail := some d.now }).raise .cdcSelfcheck u

/-- A block leaves its unit (R131). -/
def Dev.releaseBlock (d : Dev) (u : Nat) (b : ClosedBlock) (rest : List ClosedBlock) : Dev :=
  let d1 := (d.setUnit u { d.unit u with closed := rest }).count .cdcUnitBlocks u
  (if b.stored then d1.count .cdcUnitStored u else d1).send (.compressed u b.bytes)

end Sys2Proof.Machine
end

