-- ==== Sys2Proof/Machine/Inspection.lean ====
section
/-! DEFINITION. The commands of the chapter "In-Line Inspection" (R212 to R239), with the upload entries of the rings. -/

namespace Sys2Proof.Machine

/-- INS_RUN_WRITE (R217, R226): ignored while PIPE_EN is 0. -/
def execInsRunWrite (pipe : Fin 24) (run : Bool) (s : State) : Host.Outcome State Fault Refusal :=
  s.run fun d =>
    let c := pipe.val
    if d.cfg .pipeEn c = 0 ∨ d.pipeRuns c = run then d
    else if run then (d.setPipe c { d.pipe c with shifts := [], lastTrigger := none, lines := [] }).setBit .insCtrl c 0 true
    else
      let d1 := (d.frameClose c true).setBit .insCtrl c 0 false
      d1.setPipe c { d1.pipe c with lines := [] }

/-- INS_CLOSE (R226). -/
def execInsClose (pipe : Fin 24) (s : State) : Host.Outcome State Fault Refusal := s.run fun d => d.frameClose pipe.val true

/-- INS_RELINK (Table 8.9). -/
def execInsRelink (pipe : Fin 24) (s : State) : Host.Outcome State Fault Refusal :=
  s.run fun d => if d.camState pipe.val = 0 then d.frameClose pipe.val true else d.camRestart pipe.val 1

/-- TRIGGER_SEND (R217). -/
def execTriggerSend (pipe : Fin 24) (multiple : Int) (s : State) : Host.Outcome State Fault Refusal :=
  s.run fun d => d.triggerAt pipe.val multiple

/-- CAMCAP (R213). -/
def execCamcap (pipe : Fin 24) (camId : BitVec 64) (w3 w4 : Word) (s : State) : Host.Outcome State Fault Refusal :=
  s.run fun d =>
    let c := pipe.val
    if d.camState c ≠ 2 then d
    else ((d.wr .insCamId c camId).setPipe c { d.pipe c with caps := w3.toNat, minLine := w4.toNat % 2 ^ 24 }).camChoose c

/-- CAM_ACK (R213, R187): a refused CAMSET relinks the port. -/
def execCamAck (pipe : Fin 24) (refused : Bool) (seq : BitVec 8) (s : State) : Host.Outcome State Fault Refusal :=
  s.run fun d =>
    let c := pipe.val
    let p := d.pipe c
    match p.unacked with
    | none => d
    | some u =>
      if u.seq ≠ seq.toNat then d
      else if refused then d.camRestart c 1
      else if p.stage = 4 then d.camRetrain c
      else if p.stage = 6 then (d.setPipe c { p with unacked := none, stage := 7 }).setCam c 3
      else d.setPipe c { p with unacked := none }

/-- RAW_PACKET (R215, R216, R219). DEDUCED (log 48). -/
def execRawPacket (pipe : Fin 24) (fmt : Fin 3) (w1 w2 : Word) (body : List Word) (bad : List Nat) (s : State) :
    Host.Outcome State Fault Refusal :=
  s.run fun d => d.rawPacket pipe.val (fmt.val + 1) (bits w1.toNat 30 2) (bits w1.toNat 28 2) (bits w1.toNat 0 16)
    (bits w2.toNat 16 16) (bits w2.toNat 0 16) body bad

/-- META (Table 8.2): the body of its virtual channel, the first 16 words of it in the registers. -/
def execCamMeta (pipe : Fin 24) (w1 : Word) (body : List Word) (s : State) : Host.Outcome State Fault Refusal :=
  s.run fun d =>
    let c := pipe.val
    let v := bits w1.toNat 30 2
    if d.camState c ≠ 3 ∨ d.camVer c = 1 then d
    else
      let ws := (body.take 64).map BitVec.toNat
      let d1 := d.setPipe c { d.pipe c with metas := Tab.set (d.pipe c).metas v ws }
      d1.each (List.range 16) fun d i => d.put .insMeta (64 * c + 16 * v + i) (ws.getD i 0)

/-- ECHO (R218). -/
def execEcho (pipe : Fin 24) (tseq : BitVec 16) (expMid : BitVec 24) (s : State) : Host.Outcome State Fault Refusal :=
  s.run fun d =>
    if d.camVer pipe.val = 2 then d.setLine pipe.val tseq.toNat fun l => { l with expMid := some expMid.toNat } else d

/-- CAM_EVENT (Table 8.2). -/
def execCamEvent (pipe : Fin 24) (dropped overflows : BitVec 16) (s : State) : Host.Outcome State Fault Refusal :=
  s.run fun d => d.setPipe pipe.val { d.pipe pipe.val with camEvents := (dropped.toNat, overflows.toNat) }

/-- LINE_CLOSE_TIMEOUT (R219). -/
def execLineCloseTimeout (pipe : Fin 24) (tseq : BitVec 16) (s : State) : Host.Outcome State Fault Refusal :=
  s.run fun d =>
    match (d.pipe pipe.val).lines.find? fun l => l.tseq == tseq.toNat with
    | none => d
    | some l => d.lineClose pipe.val l

/-- CAMERA_SILENT (Table 8.7). -/
def execCameraSilent (pipe : Fin 24) (s : State) : Host.Outcome State Fault Refusal :=
  s.run fun d => if d.pipeRuns pipe.val ∧ d.camState pipe.val = 3 then d.camFail pipe.val else d

/-- CAM_ACK_TIMEOUT (R186, R212): resent up to 3 times, then the port relinks. -/
def execCamAckTimeout (pipe : Fin 24) (s : State) : Host.Outcome State Fault Refusal :=
  s.run fun d =>
    let c := pipe.val
    match (d.pipe c).unacked with
    | none => d
    | some u =>
      if 3 ≤ u.resends then d.camFail c
      else
        let d1 := d.setPipe c { d.pipe c with unacked := some { u with resends := u.resends + 1 } }
        (d1.send (.camera c 0x41 u.seq u.body)).camWords c u.seq u.body

/-- CAMERA_VERSION_RETRY (R213). -/
def execCameraVersionRetry (pipe : Fin 24) (s : State) : Host.Outcome State Fault Refusal :=
  s.run fun d => if d.camState pipe.val = 2 ∧ (d.pipe pipe.val).stage = 3 then d.camChoose pipe.val else d

/-- GT_DATA_ACCESS (R221): a write, or a read, of the entry that GT_ADDR names. -/
def execGtDataAccess (req : Fin 5) (pipe : Fin 24) (value : Option Word) (s : State) : Host.Outcome State Fault Refusal :=
  s.run fun d =>
    let c := pipe.val
    let k := d.get .insGtAddr c
    let p := d.pipe c
    let d1 := match value with
      | none =>
        let e := Tab.get p.gate k (0, 0x4000)
        d.send (.readData req.val (Reg.insGtData.addr c) (e.2 <<< 16 + e.1))
      | some w =>
        if d.pipeRuns c then d.refuse req.val .insRunning
        else d.setPipe c { p with gate := Tab.set p.gate k (bits w.toNat 0 16, bits w.toNat 16 16) }
    d1.put .insGtAddr c ((k + 1) % 65536)

/-! ### Records (R232, R242, R261) -/

/-- The record in the form the loop reads, for the nozzles of one bar (none for this one). -/
def loopRecordOf (c : Nat) (r : StatRecord) (bar : Option Nat) (es : List (Option Nat × Nat × Nat × Int)) : LoopRecord :=
  { bar := none, pipe := c, frame := le32At r.bytes 4,
    yFirst := signedOf 64 (le32At r.bytes 8 + le32At r.bytes 12 <<< 32), pass := r.pass,
    entries := (es.filter fun e => e.1 == bar).map fun e => e.2 }

/-- One DEVREC for each remote head that received an estimate (R261). -/
def Dev.sendDevrecs (d : Dev) (c : Nat) (r : StatRecord) (es : List (Option Nat × Nat × Nat × Int)) : Dev :=
  let heads := (es.filterMap fun e => e.1.map fun b => (b, e.2.1)).eraseDups
  heads.foldl (fun d h =>
    let mine := es.filter fun e => e.1 == some h.1 && e.2.1 == h.2
    d.casSend h.1 h.2 0x56 ([le32At r.bytes 4, h.2 <<< 24 + c <<< 16 + mine.length, le32At r.bytes 8, le32At r.bytes 12] ++
      mine.map fun e => e.2.2.1 <<< 18 + unsignedOf 16 e.2.2.2)) d

/-- RECORD_HANDOFF (R232): the pipeline's oldest record goes to the loop; a standby's goes to the active controller. -/
def execRecordHandoff (pipe : Fin 24) (s : State) : Host.Outcome State Fault Refusal :=
  s.run fun d =>
    let c := pipe.val
    let p := d.pipe c
    match p.toLoop with
    | [] => d
    | r :: rest =>
      let es := d.recordEstimates c r.bytes
      let d1 := d.setPipe c { p with toLoop := rest, toRing := p.toRing ++ [r] }
      let d2 := if d1.isStandby then d1.mirrorSend (.record c (leWords r.bytes))
        else { d1 with ql := { d1.ql with records := d1.ql.records ++ [loopRecordOf c r none es] } }
      d2.sendDevrecs c r es

/-- OVERLOAD (R430). -/
def Dev.overload (d : Dev) : Bool := d.bit .glbMgmtStatus 0 31

/-- Under OVERLOAD every second taker of a kind is skipped: whether this one is, and the controller after it. -/
def Dev.everySecond (d : Dev) (k : Nat) : Bool × Dev :=
  if d.overload then
    let skip := Tab.get d.mgt.skipRecord k false
    (skip, { d with mgt := { d.mgt with skipRecord := Tab.set d.mgt.skipRecord k (!skip) } })
  else (false, d)

/-- STAT_RECORD_WRITE (R232, R430): the oldest record handed over goes into the owner's ring, or is dropped from it. -/
def execStatRecordWrite (pipe : Fin 24) (s : State) : Host.Outcome State Fault Refusal :=
  s.run fun d =>
    let c := pipe.val
    let p := d.pipe c
    match p.toRing with
    | [] => d
    | r :: rest =>
      let t := (d.setPipe c { p with toRing := rest }).everySecond c
      let d1 := t.2
      let depth := 2 ^ d1.fld .insStatRingCtrl c 0 4
      let head := d1.get .insStatRingHead c
      if t.1 then d1.count .insRecDrop c
      else if depth ≤ ringCount depth head (d1.get .insStatRingTail c) then
        let d2 := (d1.count .insRecDrop c).event .insEvent c 4
        if dueAgain d2.now p.lastFull then
          (d2.setPipe c { d2.pipe c with lastFull := some d2.now }).raise .insRingFull c
        else d2
      else (d1.dramWrite (d1.get .insStatRingBase c + bits head 0 16 * d1.get .insRecSlot c) r.bytes).put .insStatRingHead c
        (ringAdvance depth head 1)

/-! ### Uploads (R235, R236, R280) -/

/-- A due frame is not uploaded. -/
def Dev.skipUpload (d : Dev) (c : Nat) : Dev := d.count .insUploadSkip c

/-- An upload goes to its tenant: sealed under its key, at an offset of DEST, with the event that announces it.
DEDUCED (log 49). -/
def Dev.sendUpload (d : Dev) (c k frame : Nat) (x : Subscription) (data : List Byte) : Dev :=
  let slot := bits x.handle 0 12
  let ctx := d.ctx slot
  let iv : List Byte := 0x80 :: leBytes x.handle 4 ++ leBytes ctx.ivCount 7
  let t := aesGcmSeal (ctx.key.getD []) iv [] data
  let bytes := t.1 ++ leBytes t.2.toNat 16
  let off := if x.next + bytes.length ≤ x.destBytes then x.next else 0
  if x.destBytes < bytes.length ∨ (d.onPcie slot && !d.dmaOk slot) then d.skipUpload c
  else
    let p := d.pipe c
    let d1 := (d.setPipe c { p with subs := Tab.set p.subs k { x with next := off + bytes.length } }).setCtx slot
      { ctx with ivCount := (ctx.ivCount + 1) % 2 ^ 56 }
    let d2 := if d.slotBind slot = 2 then
        (List.range (ceilDiv bytes.length 1024)).foldl (fun d i =>
          d.xptSend slot 7 (leBytes x.dest 8 ++ leBytes (off + 1024 * i) 8 ++ (bytes.drop (1024 * i)).take 1024)) d1
      else d1.send (.hostWrite slot (x.dest + off) bytes)
    d2.postEvent slot 0x12 [(c <<< 24 + k, [frame, off % 2 ^ 32, off / 2 ^ 32, bytes.length, ctx.ivCount % 2 ^ 32,
      ctx.ivCount / 2 ^ 32])]

/-- The upload in unit c takes another block; with its last block released it is written (R131, R235). One whose
subscription has gone is dropped. -/
def Dev.uploadBlock (d : Dev) (c : Nat) (b : List Byte) : Dev :=
  match (d.pipe c).sending with
  | none => d
  | some x =>
    let y := { x with left := x.left - 1, bytes := x.bytes ++ b }
    if y.left ≠ 0 then d.setPipe c { d.pipe c with sending := some y }
    else
      let d1 := d.setPipe c { d.pipe c with sending := none }
      match Tab.find (d.pipe c).subs x.job.sub with
      | none => d1
      | some sub => d1.sendUpload c x.job.sub x.job.frame sub y.bytes

/-- The upload in a unit that went out of service is lost with its blocks (Table 5.3). -/
def Dev.uploadStops (d : Dev) (u : Nat) : Dev :=
  if u < 24 ∧ d.unitFault u then d.setPipe u { d.pipe u with sending := none } else d

/-- The symbols of an upload enter unit c in byte mode, up to 262,144 a block, flushed at the frame's end (R235). -/
def Dev.startUpload (d : Dev) (c : Nat) (j : UploadJob) : Dev :=
  let x := ((d.unit c).accept 262144 (unpackSymbols j.bytes)).close
  (d.setUnit c x).setPipe c { d.pipe c with sending := some { job := j, left := x.closed.length, bytes := [] } }

/-- The upload goes to a context whose host memory cannot be written now (R301, R304). -/
def Dev.uploadHeld (d : Dev) (c : Nat) (j : UploadJob) : Bool :=
  match Tab.find (d.pipe c).subs j.sub with
  | none => false
  | some x => d.onPcie (bits x.handle 0 12) && !d.dmaOk (bits x.handle 0 12)

/-- UPLOAD_COMPRESS (R235, R236): the pipeline's oldest due frame goes to unit c. It waits while the unit is at work or
out of service, or host memory cannot be written; where the next due frame of its subscription has come it is skipped.
DESIGN CHOICE (log 108). -/
def execUploadCompress (pipe : Fin 24) (s : State) : Host.Outcome State Fault Refusal :=
  s.run fun d =>
    let c := pipe.val
    let p := d.pipe c
    match p.uploads with
    | [] => d
    | j :: rest =>
      let d1 := d.setPipe c { p with uploads := rest }
      if rest.any fun y => y.sub == j.sub then d1.skipUpload c
      else if !d.unitIdle c ∨ p.sending.isSome ∨ d.uploadHeld c j then d
      else
        let t := d1.everySecond (1000 + 16 * c + j.sub)
        if t.1 then t.2.skipUpload c else t.2.startUpload c j

/-- UPLOAD_SUB (Table 10.3): the lowest free subscription of the pipeline. -/
def Dev.uploadSub (d : Dev) (slot : Nat) (w : List Word) : Dev :=
  let c := bits (entWord w 1) 0 5
  let n := bits (entWord w 2) 0 13
  let p := d.pipe c
  match (List.range 16).find? fun k => (Tab.find p.subs k).isNone with
  | none => d.entryErr slot w .ringEntry
  | some k =>
    if 24 ≤ c ∨ n = 0 ∨ 4096 < n then d.entryErr slot w .ringEntry
    else
      let x := subscriptionOf (d.get .tenHandle slot) w
      (d.setPipe c { p with subs := Tab.set p.subs k x }).entryOk slot w [k]

/-- UPLOAD_SUB (R235). DEDUCED (log 49). -/
def execUploadSub (slot : Fin 4096) (w : List Word) (s : State) : Host.Outcome State Fault Refusal :=
  s.run fun d => d.entry slot.val 0x30 w fun d => d.uploadSub slot.val w

/-- UPLOAD_UNSUB (Table 10.3): only a subscription of the same context ends. -/
def Dev.uploadUnsub (d : Dev) (slot : Nat) (w : List Word) : Dev :=
  let c := bits (entWord w 1) 0 5
  let k := bits (entWord w 1) 8 4
  let p := d.pipe c
  match Tab.find p.subs k with
  | none => d.entryErr slot w .ringEntry
  | some x =>
    if x.handle ≠ d.get .tenHandle slot then d.entryErr slot w .ringEntry
    else (d.setPipe c { p with
      subs := Tab.erase p.subs k, uploads := (p.uploads.filter fun j => j.sub != k),
      sending := p.sending.filter fun x => x.job.sub != k }).entryOk slot w []

/-- UPLOAD_UNSUB (R235). -/
def execUploadUnsub (slot : Fin 4096) (w : List Word) (s : State) : Host.Outcome State Fault Refusal :=
  s.run fun d => d.entry slot.val 0x31 w fun d => d.uploadUnsub slot.val w

end Sys2Proof.Machine
end

