-- ==== Sys2Proof/Machine/Lanes.lean ====
section
/-! DEFINITION. The commands of the chapter "Serial Lanes" (R385 to R405). -/

namespace Sys2Proof.Machine

/-! ### Bring-up and loss (R392 to R394, R402) -/

/-- LANE_SIGNAL_DETECT (R392). -/
def execLaneSignalDetect (lane : Fin 1024) (s : State) : Host.Outcome State Fault Refusal :=
  s.run fun d => d.laneSignal lane.val

/-- LANE_STAGE_DONE (R392): a lane that is not in its port's training set waits. DEDUCED (log 73). -/
def execLaneStageDone (lane : Fin 1024) (ctle : BitVec 4) (taps : List (BitVec 6)) (width height : BitVec 8) (s : State) :
    Host.Outcome State Fault Refusal :=
  s.run fun d =>
    if (d.trainers lane.val).contains lane.val then
      d.stageDone lane.val ctle.toNat (taps.map BitVec.toNat) width.toNat height.toNat
    else d

/-- LANE_STAGE_TIMEOUT (R392, R402). DESIGN CHOICE (log 8). -/
def execLaneStageTimeout (lane : Fin 1024) (s : State) : Host.Outcome State Fault Refusal :=
  s.run fun d => if 2 ≤ d.laneSt lane.val ∧ d.laneSt lane.val ≤ 8 then d.stageFail lane.val else d

/-- BLOCK_LOCK_LOSS (R393): 16 invalid headers among 64 successive ones lose block lock, and are discarded blocks.
DEDUCED (log 43). -/
def execBlockLockLoss (lane : Fin 1024) (headers : Vector Byte 64) (s : State) : Host.Outcome State Fault Refusal :=
  s.run fun d =>
    let l := lane.val
    let hs := headers.toList.map BitVec.toNat
    if d.laneSt l ≠ 9 ∨ (hs.filter fun h => !headerValid h).length < 16 then d
    else
      let d1 := (d.setLane l { d.lane l with blockLoss := (d.lane l).blockLoss + 1 }).judgeHeaders (hs.map fun h => (l, h))
      (d1.raise .lneDown l).laneFail l

/-- LANE_LOS (R393, R396): an idle that a sleep block announced is no loss. -/
def execLaneLos (lane : Fin 1024) (s : State) : Host.Outcome State Fault Refusal :=
  s.run fun d =>
    let l := lane.val
    if d.laneSt l ≠ 9 ∨ d.bit .lneStatus l 26 then d
    else (((d.setLane l { d.lane l with los := (d.lane l).los + 1 }).event .lneEvent l 2).raise .lneDown l).laneFail l

/-- Lanes in use of a native port, in order of logical lane (R174). -/
def Dev.lanesInUse (d : Dev) (g : LaneGroup) : List Nat :=
  match g with
  | .head n => d.linkLanes n
  | .camera c => d.camUsed c
  | g => g.lanes

/-- The alignment block of a lane is missing or wrong at one position (R176): what was received there is its header and its
words 0 and 1. -/
def Dev.markerMissed (d : Dev) (l : Nat) (b : Option (Byte × Word × Word)) : Bool :=
  let use := d.lanesInUse (laneGroup l)
  match b with
  | none => true
  | some x => !markerRight { header := x.1.toNat, words := [x.2.1.toNat, x.2.2.toNat] } (use.idxOf l) use.length

/-- ALIGNMENT_MARKER_LOST (R176, R393): missing or wrong at two successive positions, the lane is lost to the lane layer. -/
def execAlignmentMarkerLost (lane : Fin 1024) (first second : Option (Byte × Word × Word)) (s : State) :
    Host.Outcome State Fault Refusal :=
  s.run fun d =>
    let l := lane.val
    if d.laneSt l ≠ 9 ∨ !(laneGroup l).native ∨ !d.markerMissed l first ∨ !d.markerMissed l second then d
    else (d.raise .lneDown l).laneFail l

/-- LANE_SIGNAL_RETURN (R393). -/
def execLaneSignalReturn (lane : Fin 1024) (s : State) : Host.Outcome State Fault Refusal :=
  s.run fun d => if d.laneSt lane.val = 9 ∧ !d.bit .lneStatus lane.val 26 then d.count .lneLosCount lane.val else d

/-- A native lane in service must be retrained (R394, R403). -/
def Dev.askRetrain (d : Dev) (l : Nat) : Dev :=
  if (laneGroup l).native ∧ d.groupUp (laneGroup l) ∧ !d.laneMarked l then d.laneFail l else d

/-- LANE_BLOCK_ERR_RETRAIN (R394). DEDUCED (log 43). -/
def execLaneBlockErrRetrain (lane : Fin 1024) (s : State) : Host.Outcome State Fault Refusal :=
  s.run fun d => if d.laneSt lane.val = 9 then d.askRetrain lane.val else d

/-- RETRAIN (R394, R403): ignored on a lane of a port that is not up. -/
def execLaneRetrain (lane : Fin 1024) (s : State) : Host.Outcome State Fault Refusal :=
  s.run fun d => d.askRetrain lane.val

/-- REVIVE (R402, R403). -/
def execLaneRevive (lane : Fin 1024) (s : State) : Host.Outcome State Fault Refusal := s.run fun d => d.unmark lane.val

/-- LANE_RAIL (R395): the next margin scan pass takes the lane first. -/
def execLaneRail (lane : Fin 1024) (tap : Fin 13) (s : State) : Host.Outcome State Fault Refusal :=
  s.run fun d =>
    let l := lane.val
    let _ := tap
    if d.laneSt l ≠ 9 ∨ d.bit .lneStatus l 26 then d
    else
      let d1 := (d.event .lneEvent l 5).raise .lneRail l
      if d1.lne.ahead.contains l then d1 else { d1 with lne := { d1.lne with ahead := d1.lne.ahead ++ [l] } }

/-! ### Sleep (R396, R397) -/

/-- UP_AWAKE of a head port follows its reference lane (Table 7.15). -/
def Dev.noteAwake (d : Dev) (l : Nat) (b : Bool) : Dev :=
  match laneGroup l with
  | .head n => if (d.goodOf (.head n)).head? = some l then d.setBit .linkStatus n 22 b else d
  | _ => d

/-- SLEEP_BLOCK (R396): the receiver holds its CDR frequency, CTLE and taps. -/
def execSleepBlock (lane : Fin 1024) (s : State) : Host.Outcome State Fault Refusal :=
  s.run fun d =>
    let l := lane.val
    if d.laneSt l = 9 ∧ (laneGroup l).native then (d.setBit .lneStatus l 26 true).noteAwake l false else d

/-- LANE_WAKE (R397). -/
def execLaneWake (lane : Fin 1024) (s : State) : Host.Outcome State Fault Refusal :=
  s.run fun d =>
    let l := lane.val
    if d.laneSt l = 9 ∧ d.bit .lneStatus l 26 then ((d.setBit .lneStatus l 26 false).count .lneWakes l).noteAwake l true else d

/-! ### Reference clocks (R388, R389) -/

/-- REF_SEL of a cluster lets it use REFA (false) or REFB. -/
def Dev.refAllowed (d : Dev) (c : Nat) (refB : Bool) : Bool :=
  let sel := d.cfg .refSel c
  sel == 0 || sel == (if refB then 2 else 1)

/-- REFA_OK and REFB_OK. -/
def Dev.refOk (d : Dev) (refB : Bool) : Bool := d.bit .lneGlbStatus 0 (if refB then 2 else 3)
def Dev.setRefOk (d : Dev) (refB b : Bool) : Dev := d.setBit .lneGlbStatus 0 (if refB then 2 else 3) b

/-- The reference of a cluster and of its lanes. -/
def Dev.setRef (d : Dev) (c : Nat) (refB : Bool) : Dev :=
  (d.setBit .cluStatus c 30 refB).each (clusterLanes c) fun d l => d.setBit .lneStatus l 24 refB

/-- A cluster switches (R388, R403): lanes in bring-up start again at stage 2, with no failure counted. -/
def Dev.refSwitch (d : Dev) (c : Nat) (refB : Bool) : Dev :=
  let d1 := ((d.setRef c refB).count .cluRefSwitches c).event .lneGlbEvent 0 2
  (d1.each (clusterLanes c) fun d l =>
    let d2 := d.event .lneEvent l 6
    if 3 ≤ d2.laneSt l ∧ d2.laneSt l ≤ 8 then (d2.setLaneSt l 2).setBit .lneStatus l 0 false else d2).raise .lneRef c

/-- REF_BAD (R388, R389): clusters on the reference switch, or hold over. DEDUCED (log 75). -/
def execRefBad (refB : Bool) (s : State) : Host.Outcome State Fault Refusal :=
  s.run fun d =>
    let d1 := d.setRefOk refB false
    d1.each (refClusters.filter fun c => d1.bit .cluStatus c 31 && !d1.bit .cluStatus c 29 && d1.bit .cluStatus c 30 == refB)
      fun d c => if d.cfg .refSel c = 0 ∧ d.refOk (!refB) then d.refSwitch c (!refB) else d.setBit .cluStatus c 29 true

/-- REF_RETURN (R388): clusters with REF_SEL = 0 move back to REFA. DEDUCED (log 75). -/
def execRefReturn (s : State) : Host.Outcome State Fault Refusal :=
  s.run fun d =>
    if !d.refOk false then d
    else d.each (refClusters.filter fun c => d.cfg .refSel c == 0 && d.bit .cluStatus c 31 && d.bit .cluStatus c 30)
      fun d c => d.setRef c false

/-- REFERENCE_GOOD (R389): clusters in holdover lock to it and no lane leaves UP; lanes that went OFF go to DEEP. -/
def execReferenceGood (refB : Bool) (s : State) : Host.Outcome State Fault Refusal :=
  s.run fun d =>
    let d1 := d.setRefOk refB true
    d1.each (refClusters.filter fun c => d1.refAllowed c refB) fun d c =>
      if d.bit .cluStatus c 29 then (d.setRef c refB).setBit .cluStatus c 29 false
      else if d.bit .cluStatus c 31 then d
      else
        let d2 := (d.setRef c refB).setBit .cluStatus c 31 true
        let d3 := { d2 with lne := { d2.lne with noRef := d2.lne.noRef.filter fun x => x != c } }
        d3.each (clusterLanes c) fun d l => if d.laneSt l = 0 then d.laneDeep l else d

/-- Ports with lanes in a cluster. -/
def clusterGroups (c : Nat) : List LaneGroup := ((clusterLanes c).map laneGroup).eraseDups

/-- REF_HOLDOVER_END (R389): the lanes of the clusters in holdover go OFF and their ports DOWN. DEDUCED (log 75). -/
def execRefHoldoverEnd (s : State) : Host.Outcome State Fault Refusal :=
  s.run fun d =>
    let cs := refClusters.filter fun c => d.bit .cluStatus c 29
    if cs.isEmpty then d
    else
      let d1 := d.each cs fun d c =>
        let d2 := (d.setBit .cluStatus c 29 false).setBit .cluStatus c 31 false
        let d3 := { d2 with lne := { d2.lne with noRef := d2.lne.noRef ++ [c] } }
        ((clusterGroups c).foldl (fun d g => d.groupDown g) d3).each (clusterLanes c) fun d l => d.setLaneSt l 0
      ((d1.event .lneGlbEvent 0 3).raise .lneRefLost 0).laneSurrender

/-! ### Test patterns and injection (R399, R400) -/

/-- Why a write of TEST is refused (R399). -/
def Dev.testBusy (d : Dev) (l : Nat) : Bool :=
  match laneGroup l with
  | .ethernet p => d.bit .epCtrl p 0
  | .pcie => d.hst.linkUp
  | g => d.groupUp g && !d.laneMarked l

/-- Bits at a lane's rate since an instant. -/
def Dev.bitsSince (d : Dev) (l t : Nat) : Nat := (d.now - t) * d.get .lneRateKbps l / 1000000000

/-- PRBS_BITS as it stands (R399). -/
def Dev.prbsBits (d : Dev) (l : Nat) : Nat :=
  min (2 ^ 64 - 1) (d.get .lnePrbsBits l + (((d.lane l).lockAt.map fun t => d.bitsSince l t).getD 0))

/-- INJ_COUNT as it stands: periodic injection inverts one bit every INJ_INTERVAL (R400). -/
def Dev.injCount (d : Dev) (l : Nat) : Nat :=
  let n := match (d.lane l).injectAt with
    | some t => if d.fld .lneInjCtrl l 0 28 = 0 then 0 else d.bitsSince l t / d.fld .lneInjCtrl l 0 28
    | none => 0
  satAdd 32 (d.get .lneInjCount l) n

/-- The checker counts no further. -/
def Dev.prbsStop (d : Dev) (l : Nat) : Dev :=
  ((d.put .lnePrbsBits l (d.prbsBits l)).setLane l { d.lane l with lockAt := none }).setBit .lneStatus l 1 false

/-- Periodic injection ends. -/
def Dev.injStop (d : Dev) (l : Nat) : Dev :=
  (d.put .lneInjCount l (d.injCount l)).setLane l { d.lane l with injectAt := none }

/-- TEST (R399): into TEST, or back to DEEP with bring-up of the port run again. DEDUCED (log 14). -/
def execLaneTest (req : Fin 5) (lane : Fin 1024) (on : Bool) (s : State) : Host.Outcome State Fault Refusal :=
  s.run fun d =>
    let l := lane.val
    let g := laneGroup l
    if on then
      if d.laneSt l = 10 then d
      else if d.testBusy l then d.refuse req.val .lneBusy
      else
        let d1 := if 2 ≤ d.laneSt l then d.groupAnew g else d
        ((d1.setLaneSt l 10).setGood l false).setBit .lneCtrl l 0 true
    else if d.laneSt l ≠ 10 then d
    else
      let d1 := ((d.prbsStop l).injStop l).setFld .lneCtrl l 0 4 0
      ((d1.setLaneSt l 1).laneDeep l).groupAnew g

/-- PRBS_CHECKER_LOCK (R399). -/
def execPrbsCheckerLock (lane : Fin 1024) (s : State) : Host.Outcome State Fault Refusal :=
  s.run fun d =>
    let l := lane.val
    if d.laneSt l ≠ 10 ∨ !d.bit .lnePrbsCtrl l 31 ∨ d.bit .lneStatus l 1 then d
    else (d.setLane l { d.lane l with lockAt := some d.now }).setBit .lneStatus l 1 true

/-- PRBS_CHECKER_LOCK_LOSS (R399). -/
def execPrbsCheckerLockLoss (lane : Fin 1024) (errors : Nat) (s : State) : Host.Outcome State Fault Refusal :=
  s.run fun d =>
    let l := lane.val
    if !d.bit .lneStatus l 1 then d
    else ((d.put .lnePrbsErr l (min (2 ^ 64 - 1) (d.get .lnePrbsErr l + errors))).prbsStop l).count .lneLockLoss l

/-- The port of a lane is in FIRING (R400). -/
def Dev.laneFiring (d : Dev) (l : Nat) : Bool :=
  match laneGroup l with
  | .head n => d.portFiring n
  | _ => false

/-- INJ_CTRL_WRITE (R400, R405): modes 0 to 2 act in TEST, modes 3 and 4 on a native lane in service. DEDUCED (log 76).
-/
def execInjCtrlWrite (req : Fin 5) (lane : Fin 1024) (value : Word) (s : State) : Host.Outcome State Fault Refusal :=
  s.run fun d =>
    let l := lane.val
    let v := value.toNat
    let mode := bits v 28 3
    if d.laneSt l = 10 then
      let d1 := (d.injStop l).put .lneInjCtrl l v
      if !bitOf v 31 then d1
      else if mode = 0 then d1.count .lneInjCount l
      else if mode = 1 then d1.setLane l { d1.lane l with injectAt := some d1.now }
      else if mode = 2 then d1.add32 .lneInjCount l (bits v 0 8)
      else d1
    else if (mode = 3 ∨ mode = 4) ∧ (laneGroup l).native then
      if d.laneFiring l then d.refuse req.val .lneFiring
      else
        let d1 := d.put .lneInjCtrl l v
        let use := d1.lanesInUse (laneGroup l)
        if bitOf v 31 ∧ d1.groupUp (laneGroup l) ∧ use.contains l then
          (d1.txInject (l / 4) (use.idxOf l) (mode == 4)).count .lneInjCount l
        else d1
    else d

/-! ### Margin scans (R401) -/

/-- MARGIN_SCAN_DONE (R401): a lane that sleeps or has left UP is skipped. -/
def execMarginScanDone (lane : Fin 1024) (eye : Option (BitVec 8 × BitVec 8)) (s : State) :
    Host.Outcome State Fault Refusal :=
  s.run fun d =>
    let l := lane.val
    match eye, d.laneSt l == 9 && !d.bit .lneStatus l 26 with
    | some (w, h), true =>
      let d0 := { d with lne := { d.lne with ahead := d.lne.ahead.filter fun x => x != l } }
      let d1 := d0.setEye l w.toNat h.toNat
      let d2 := if d1.eyeBelow .marginWarn w.toNat h.toNat then (d1.event .lneEvent l 3).raise .lneMargin l else d1
      if d2.eyeBelow .marginFail w.toNat h.toNat then (d2.event .lneEvent l 4).askRetrain l else d2
    | _, _ => d.count .lneScanSkip l

/-- SCAN_NOW (R401): task 2 is due at once. -/
def execScanNow (s : State) : Host.Outcome State Fault Refusal :=
  s.run fun d => d.taskDue 2 (d.taskDeadlineAt 2 false 0)

/-! ### Ethernet lanes -/

/-- ETH_LINK_RETRY (R402, Table 15.4): the lanes of a port or sub-port that is down are tried again. -/
def execEthLinkRetry (ep : Fin 20) (sub : Fin 4) (s : State) : Host.Outcome State Fault Refusal :=
  s.run fun d =>
    let p := ep.val
    let split := d.bit .epCtrl p 1
    let up := if split then d.bit .epStatus p (28 + sub.val) else d.bit .epStatus p 28
    if up then d
    else
      let ls := if split then [864 + 4 * p + sub.val] else (LaneGroup.ethernet p).lanes
      d.each ls fun d l => ((d.unmark l).laneDeep l).setGood l false

end Sys2Proof.Machine
end

