-- ==== Sys2Proof/Machine/BarImage.lean ====
section
/-! DEFINITION. The commands of the chapter "Bar Image" (R33 to R52, R489, R490). -/

namespace Sys2Proof.Machine

/-- LOAD (R41): a load starts from the source that SRC selects. -/
def execLoad (req : Fin 5) (src : BitVec 2) (s : State) : Host.Outcome State Fault Refusal :=
  s.run fun d =>
    let st := d.imgState
    if st = 1 ∨ st = 3 ∨ st = 4 then d.refuse req.val .imgBusy
    else
      let k := src.toNat
      let d1 := (d.setFld .imgCtrl 0 8 2 k).dropShadow.setReport []
      { d1 with img := { d1.img with source := if k = 0 then .ownerBuffer else .storeSlot (k - 1) } }.setImgState 1

/-- IMG_LOAD_COMPLETE (R41 to R44, R489, R490). DEDUCED (log 61). -/
def execImgLoadComplete (s : State) : Host.Outcome State Fault Refusal :=
  s.run fun d => if d.imgState = 1 then d.loadDone else d

/-- ARM_HOT (R47). DEDUCED (log 61); DESIGN CHOICE (log 117). -/
def execArmHot (req : Fin 5) (s : State) : Host.Outcome State Fault Refusal :=
  s.run fun d =>
    let st := d.imgState
    if st = 1 ∨ st = 3 ∨ st = 4 then d.refuse req.val .imgBusy
    else if !d.bit .imgStatus 0 7 then d.refuse req.val .imgNotHot
    else if d.actFire < d.fireIndex + 32 then d.refuse req.val .imgFirePast
    else d.setImgState 3

/-- ACT_STOP (R46, R464): refused while firing; with no DRAM the activation fails.
DEDUCED (log 61); DESIGN CHOICE (log 117). -/
def execActStop (req : Fin 5) (s : State) : Host.Outcome State Fault Refusal :=
  s.run fun d =>
    let st := d.imgState
    if d.fireEn ∨ d.firing then d.refuse req.val .imgNotStopped
    else if st = 1 ∨ st = 4 then d.refuse req.val .imgBusy
    else match d.img.shadow with
      | none => d
      | some g => if d.dramBytes = 0 then d.refuse req.val .dmcConfig else d.activateStop g

/-- DISARM (R48). DESIGN CHOICE (log 117). -/
def execDisarm (req : Fin 5) (s : State) : Host.Outcome State Fault Refusal :=
  s.run fun d =>
    if d.imgState = 3 then d.setImgState 2
    else if d.imgState = 4 then d.refuse req.val .imgBusy
    else d

/-- DISCARD (R44). DESIGN CHOICE (log 117). -/
def execDiscard (req : Fin 5) (s : State) : Host.Outcome State Fault Refusal :=
  s.run fun d =>
    if d.imgState = 3 ∨ d.imgState = 4 then d.refuse req.val .imgBusy
    else ((d.dropShadow).setReport []).setImgState 0

/-- The slot that a PERSIST writes: the one that does not hold the last committed image. DESIGN CHOICE (log 62). -/
def Dev.persistSlot (d : Dev) : Nat := if d.img.lastSlot = some 0 then 1 else 0

/-- PERSIST (R50): the writing of the other slot begins, line by line, and ends with its commit record (R433).
DESIGN CHOICE (log 62). -/
def execPersist (s : State) : Host.Outcome State Fault Refusal :=
  s.run fun d =>
    match d.img.active, d.img.persist with
    | some g, none =>
      let k := d.persistSlot
      let o : NvaOp := { requester := 5, bank := k, line := 0x20000, left := (g.bytes.length + 63) / 64 + 1, erase := false,
                         src := 0, body := g.bytes }
      { d with img := { d.img with persist := some (k, g.serial, g.digest) } }.setOps (d.mgt.ops ++ [o])
    | _, _ => d

/-- HOT_COMMIT_POINT (R47, Table 2.10 steps 2 and 3). -/
def execHotCommitPoint (s : State) : Host.Outcome State Fault Refusal :=
  s.run fun d =>
    if d.imgState = 3 ∧ d.actFire ≤ d.fireIndex + 32 then { d with img := { d.img with staged := true } }.setImgState 4 else d

/-- HOT_ACTIVATION_EFFECT (R47, Table 2.10 steps 4 to 6). DEDUCED (log 64). -/
def execHotActivationEffect (s : State) : Host.Outcome State Fault Refusal :=
  s.run fun d =>
    match d.img.shadow with
    | some g => if d.imgState = 4 ∧ d.img.staged then d.activateHot g else d
    | none => d

/-- HOT_ACTIVATION_DONE (R47, Table 2.10 step 7). -/
def execHotActivationDone (s : State) : Host.Outcome State Fault Refusal :=
  s.run fun d =>
    if d.imgState = 4 ∧ d.bit .imgStatus 0 3 = false ∧ d.img.staged = false then
      let d1 := (((d.setImgState 0).setBit .imgStatus 0 7 false).setDigest).irqPulse 1537
      let d2 := (d1.journal (.image (d1.get .imgActiveSerial 0))).sendShape
      if d2.role = 1 then d2.sendDaily else d2.compareDailies
    else d

/-- STOP_ACTIVATION_DONE (R465). -/
def execStopActivationDone (s : State) : Host.Outcome State Fault Refusal :=
  s.run fun d => if d.bit .imgStatus 0 3 then (d.setImgState 0).setBit .imgStatus 0 3 false else d

end Sys2Proof.Machine
end

