-- ==== Sys2Proof/Machine/Calibration.lean ====
section
/-! DEFINITION. The commands of calibration in the chapter "Reset, Start-Up and Calibration" (R468 to R472). -/

namespace Sys2Proof.Machine

/-- The item of a place. -/
def Dev.calCell (d : Dev) (i k : Nat) : CalCell := Tab.get d.sys.cal (i, k) (CalCell.reset i)
def Dev.setCalCell (d : Dev) (i k : Nat) (c : CalCell) : Dev :=
  { d with sys := { d.sys with cal := Tab.set d.sys.cal (i, k) c } }

/-- Temperatures of the stored sets in 0.1 degree (R469). -/
def setTemps : List Nat := [150, 400, 650, 900, 1050]

/-- Tolerance of an item in its unit (Table 19.3). -/
def calTolerance (i : Nat) : Nat :=
  match i with
  | 0 => 100
  | 1 => 20
  | 2 => 50
  | 3 => 50
  | 4 => 20
  | 5 => 20
  | 6 => 20
  | 7 => 10
  | 8 => Config.zqTolerance
  | 9 => 5
  | _ => 40

/-- Tj in 0.1 degree (R337). -/
def Dev.tj (d : Dev) : Nat := d.fld .pwrStatus 0 0 11

/-- Valid sets of an item and place: temperature and value, rising. -/
def Dev.calSets (d : Dev) (i k : Nat) : List (Nat × Int) :=
  (List.range 5).filterMap fun j => (Tab.find d.sys.sets (i, k, j)).map fun v => (setTemps.getD j 0, v)

/-- The interpolated value at Tj (R469), rounded to the nearest unit. DESIGN CHOICE (log 97). -/
def Dev.calInterp (d : Dev) (i k : Nat) : Int :=
  let t := d.tj
  let sets := d.calSets i k
  let below := (sets.filter fun x => decide (x.1 ≤ t)).getLast?
  let above := (sets.filter fun x => decide (t < x.1)).head?
  match below, above with
  | some a, some b => a.2 + divRoundAway (((t : Int) - a.1) * (b.2 - a.2)) (b.1 - a.1)
  | some a, none => a.2
  | none, some b => b.2
  | none, none => calDefault i

/-- A code of an abort: during refresh at most once per item in 60 s (R468). -/
def Dev.calRaise (d : Dev) (i cause : Nat) : Dev :=
  let e := if cause = 1 then ECode.calInput else .calDisagree
  let recent := (Tab.find d.sys.told (i, cause)).any fun t => decide (d.now < t + 60000000000000)
  if d.taskBit 4 30 then
    if recent then d
    else { d with sys := { d.sys with told := Tab.set d.sys.told (i, cause) d.now } }.raise e i
  else d.raise e i

/-- A run that aborts applies nothing: the item takes the interpolated value (R468, R469). -/
def Dev.calAbort (d : Dev) (i k cause : Nat) : Dev :=
  let c := d.calCell i k
  let d1 := d.setCalCell i k { c with value := d.calInterp i k, interp := !(d.calSets i k).isEmpty,
                                      fail := satAdd 32 c.fail 1, cause := cause }
  (d1.setBit .calEvent 0 (cause - 1) true).calRaise i cause

/-- In MANUFACTURE and SERVICE a result near a set's temperature goes into that set, at most once per hour (R470). -/
def Dev.storeSet (d : Dev) (i k : Nat) (v : Int) : Dev :=
  let near := (List.range 5).filter fun j =>
    let s := setTemps.getD j 0
    decide (d.tj ≤ s + 25 ∧ s ≤ d.tj + 25) &&
      !((Tab.find d.sys.setAt (i, k, j)).any fun t => decide (d.now < t + 3600000000000000))
  if d.sec.fuses.state = 0 ∨ d.sec.fuses.state = 3 then
    d.each near fun d j => { d with sys := { d.sys with sets := Tab.set d.sys.sets (i, k, j) v,
                                                        setAt := Tab.set d.sys.setAt (i, k, j) d.now } }
  else d

/-- The mean of two measurements is applied (R468); the core voltage stays within 0.72 to 0.80 V. -/
def Dev.calApply (d : Dev) (i k : Nat) (m1 m2 : Int) : Dev :=
  let mean := divRoundAway (m1 + m2) 2
  let v := if i = 9 then clampInt mean 720 800 else mean
  let c := d.calCell i k
  (d.setCalCell i k { c with value := v, interp := false, count := satAdd 32 c.count 1, lastNs := d.get .tsuTime 0,
                             lastFire := d.get .posFireIndex 0 }).storeSet i k v

/-- The part of an item's precondition that State shows (Table 19.3): the timebase is locked; the cluster's PLL is, and none of
its ports fires unless the refresh measures a spare; the lane is in DEEP or TEST; no line of the bank is being written; the
channel is neither frozen nor retraining. The operand tells the rest. -/
def Dev.calReady (d : Dev) (i k : Nat) : Bool :=
  match i with
  | 4 => decide (1 < d.fld .glbBootStage 0 28 4)
  | 5 => d.bit .cluStatus k 31 && (d.taskBit 4 30 || (List.range 192).all fun n => n / 4 != k || !d.portFiring n)
  | 6 => d.laneSt k == 1 || d.laneSt k == 10
  | 7 => !d.mgt.ops.any fun o => o.bank == k
  | 8 => !d.bit .dmcStatus k 31 && !d.bit .dmcStatus k 28
  | _ => true

/-- The end of a run at one place (R468); a channel that the configuration does not populate is never calibrated. -/
def Dev.calPlace (d : Dev) (i : Nat) (r : Nat × Bool × Int × Int) : Dev :=
  if i = 8 ∧ !d.bit .dmcStatus r.1 27 then d
  else if !r.2.1 ∨ !d.calReady i r.1 then d.calAbort i r.1 1
  else if calTolerance i < (r.2.2.1 - r.2.2.2).natAbs then d.calAbort i r.1 2
  else d.calApply i r.1 r.2.2.1 r.2.2.2

/-- CAL_CTRL_RUN (R471): ignored while the item runs; item 10 measures the delays of the linked ports (R80).
DESIGN CHOICE (log 97). -/
def execCalCtrlRun (item : Byte) (s : State) : Host.Outcome State Fault Refusal :=
  s.run fun d =>
    let i := item.toNat
    let d1 := d.put .calCtrl 0 (i <<< 8)
    if 10 < i ∨ d.sys.running.contains i then d1
    else
      let d2 := { d1 with sys := { d1.sys with running := i :: d1.sys.running } }
      if i ≠ 10 then d2
      else
        let ports := (d2.portsIn [3, 5]).filter fun n => decide (2 ≤ d2.fld .linkStatus n 27 2) && (d2.port n).echo.isNone
        d2.each ports fun d n => d.startEcho n .refresh

/-- CAL_RUN_DONE (R468 to R470). DESIGN CHOICE (log 97). -/
def execCalRunDone (item : Fin 11) (results : List (Nat × Bool × Int × Int)) (s : State) :
    Host.Outcome State Fault Refusal :=
  s.run fun d =>
    let d1 := results.foldl (fun d r => d.calPlace item.val r) d
    { d1 with sys := { d1.sys with running := d1.sys.running.filter fun i => i != item.val } }

end Sys2Proof.Machine
end

