-- ==== Sys2Proof/Machine/Loops.lean ====
section
/-! DEFINITION. The commands of the control loops (R360 to R372), and those of the head link that reach them: SAMPLE and
PORT_JOIN_EFFECT. -/

namespace Sys2Proof.Machine

/-- SAMPLE (R206, R363). -/
def execSample (port : Fin 192) (entries : List Word) (s : State) : Host.Outcome State Fault Refusal :=
  s.run fun d =>
    entries.foldl (fun d w =>
      d.sampleFor 1 port.val (bits w.toNat 24 8) (bits w.toNat 16 8) (signedOf 16 (bits w.toNat 0 16))) d

/-- PORT_JOIN_EFFECT (R197, R371): at F_join the port enters FIRING, unless a capping loop keeps it masked. -/
def execPortJoinEffect (port : Fin 192) (s : State) : Host.Outcome State Fault Refusal :=
  s.run fun d =>
    let n := port.val
    if d.linkState n ≠ 4 ∨ d.fireIndex + 1 < d.get .joinFire n then d
    else
      let d1 := (d.setLink n 5).event .linkEvent n 3
      let d2 := d1.setPort n { d1.port n with faulted := false }
      match d2.loopMasks n with
      | some l => ((d2.maskFault n).setLink n 3).raise .ctlSafe l
      | none => d2

/-! ### Low-speed serial ports (R360, R361) -/

/-- Period of the fastest loop that polls a channel of a port, in ps. -/
def Dev.pollPeriod (d : Dev) (p c : Nat) : Option Nat :=
  leastOf ((d.loopsOn.filter fun l => d.fbSource l == (2, p, c)).map d.loopPeriod)

/-- The channel that is due for a poll: the one whose poll is longest due, then the lowest. -/
def Dev.pollDue (d : Dev) (p : Nat) : Option Nat :=
  let chans := ((d.loopsOn.filter fun l => (d.fbSource l).1 == 2 && (d.fbSource l).2.1 == p).map fun l =>
    (d.fbSource l).2.2).eraseDups
  let due := chans.filterMap fun c =>
    match d.pollPeriod p c, Tab.find (d.lspPort p).polled c with
    | some t, some at_ => if at_ + t ≤ d.now then some (at_ + t, c) else none
    | some _, none => some (0, c)
    | none, _ => none
  (due.foldl (fun (b : Option (Nat × Nat)) x => match b with
    | none => some x
    | some y => if x.1 < y.1 ∨ (x.1 = y.1 ∧ x.2 < y.2) then some x else b) none).map fun x => x.2

/-- The response to the read of the frame before (R361): a word whose CRC-8 fails is discarded and counted. -/
def Dev.lspResponse (d : Dev) (p : Nat) (r : Nat) : Dev :=
  match (d.lspPort p).asked with
  | none => d
  | some _ =>
    let w := r / 256
    if crcMsb 8 0x07 0 (beBytes w 4) = r % 256 then
      d.sampleFor 2 p (bits w 24 8) (bits w 16 8) (signedOf 16 (bits w 0 16))
    else d.count .lspCrcErr p

/-- The outbound half of a frame: writes go first, then the channel that is due. -/
def Dev.lspSend (d : Dev) (p : Nat) : Dev :=
  let x := d.lspPort p
  match x.writes with
  | (c, u) :: rest => (d.setLsp p { x with writes := rest, asked := none }).send
      (.lsp p (lspBits (2 ^ 31 + c <<< 24 + unsignedOf 16 u <<< 8)))
  | [] =>
    match d.pollDue p with
    | some c => (d.setLsp p { x with asked := some c, polled := Tab.set x.polled c d.now }).send (.lsp p (lspBits (c <<< 24)))
    | none => d.setLsp p { x with asked := none }

/-- A command word of the active controller that a standby reads (R380). -/
def Dev.lspHear (d : Dev) (p : Nat) (line : Option Nat) : Dev :=
  let x := d.lspPort p
  match line with
  | none => d.setLsp p { x with asked := none }
  | some w =>
    let c := bits w 24 7
    if bitOf w 31 then
      { (d.setLsp p { x with asked := none }) with
        ctl := { (d.setLsp p { x with asked := none }).ctl with
          heard := Tab.set d.ctl.heard (p, c) (signedOf 16 (bits w 8 16)) } }
    else d.setLsp p { x with asked := some c }

/-- LSP_FRAME (R360, R361, R380). DEDUCED (log 82). -/
def execLspFrame (port : Fin 8) (line : Option Word) (response : BitVec 40) (s : State) :
    Host.Outcome State Fault Refusal :=
  s.run fun d =>
    if d.ctl.stopped then d
    else
      let d1 := d.lspResponse port.val response.toNat
      if d1.drives then d1.lspSend port.val else d1.lspHear port.val (line.map BitVec.toNat)

/-! ### Evaluation and states (R365 to R371) -/

/-- LOOP_EVALUATE (R364, R365, R368, R369): during Breath a loop holds its output (R381). -/
def execLoopEvaluate (loop : Fin 256) (missed : Bool) (time : Nat) (s : State) : Host.Outcome State Fault Refusal :=
  s.run fun d =>
    let d1 := d.at time
    if !d1.loopOn loop.val ∨ d1.breath ≠ 0 then d1
    else if missed then d1.missLoop loop.val
    else d1.evalLoop loop.val d1.now

/-- A port that a capping loop keeps out leaves FIRING as for a fault, and its head's sibling bit is cleared (R371). -/
def Dev.capHead (d : Dev) (n : Nat) : Dev :=
  let d1 := if d.linkState n = 5 then (d.maskFault n).setLink n 3 else d
  d1.clearHead n

/-- LOOP_SAFE_TIMEOUT (R369, R371). -/
def execLoopSafeTimeout (loop : Fin 256) (s : State) : Host.Outcome State Fault Refusal :=
  s.run fun d =>
    let l := loop.val
    if d.loopSt l ≠ 3 ∨ d.breath ≠ 0 then d
    else
      let d1 := (((d.setLoopSt l 4).loopOut l (d.safeOut l)).event .ctlEvent 0 2).raise .ctlSafe l
      if d1.capping l then d1.each ((List.range 192).filter fun n => bitOf (d1.cfg .headMask l) n) Dev.capHead else d1

/-- LOOP_RESUME (R369, R370). -/
def execLoopResume (req : Fin 5) (loop : Fin 256) (s : State) : Host.Outcome State Fault Refusal :=
  s.run fun d =>
    let l := loop.val
    if d.loopSt l ≠ 4 then d
    else if d.fbStale l d.now ∨ d.fbFrozen l then d.refuse req.val .ctlFb
    else (d.setLoopSt l 0).setCtl l { d.ctl' l with safeOut := none }

/-- LOOP_SP_WRITE (R372). -/
def execLoopSpWrite (loop : Fin 256) (value : BitVec 16) (s : State) : Host.Outcome State Fault Refusal :=
  s.run fun d => d.put .ctlLoopSp loop.val value.toNat

/-- Address of a word of CTL_RC_DATA. -/
def rcDataAddr (high : Bool) : Nat := if high then 0x6c008 else 0x6c004

/-- A word of CTL_RC_DATA as it is read: a read of the low word latches the high one (R7). -/
def Dev.rcRead (d : Dev) (q : Nat) (high : Bool) (v : Nat) : Dev :=
  let a := rcDataAddr high
  if high then
    match Tab.find d.latch a with
    | some x => { (d.send (.readData q a x)) with latch := Tab.erase d.latch a }
    | none => d.send (.readData q a (v / 2 ^ 32))
  else { (d.send (.readData q a (v % 2 ^ 32))) with latch := Tab.set d.latch (rcDataAddr true) (v / 2 ^ 32) }

/-- CTL_RC_DATA_ACCESS (Table 14.10, R7): a 32-bit access to a word of the bin that CTL_RC_ADDR names; the address moves
on after the high word, which completes the quantity. DEDUCED (log 114). -/
def execCtlRcDataAccess (req : Fin 5) (high : Bool) (write : Option Word) (s : State) : Host.Outcome State Fault Refusal :=
  s.run fun d =>
    let a := d.fld .ctlRcAddr 0 0 16
    let l := a / 256
    let old := unsignedOf 64 ((d.ctl' l).bin (a % 256))
    let d1 := match write with
      | none => d.rcRead req.val high old
      | some v =>
        if d.loopOn l then d.refuse req.val .ctlRunning
        else
          let new := setBits old (if high then 32 else 0) 32 v.toNat
          d.setCtl l { d.ctl' l with bins := Tab.set (d.ctl' l).bins (a % 256) (signedOf 48 (new % 2 ^ 48)) }
    if high then d1.put .ctlRcAddr 0 ((a + 1) % 65536) else d1

end Sys2Proof.Machine
end

