-- ==== Sys2Proof/Machine/Management.lean ====
section
/-! DEFINITION. The commands of the chapter "Management Cores, Non-Volatile Array and Interrupts" (R426 to R444). -/

namespace Sys2Proof.Machine

/-! ### Cue sequences -/

/-- The waiting sequence that starts next: while a SUBST waits no other type does (R435). -/
def Dev.cueNext (d : Dev) : Option (CueKind × Nat) :=
  let substs := d.mgt.waiting.filter fun w => w.1.type == 1
  (if substs.isEmpty then d.mgt.waiting else substs).find? fun w => d.cueStartable w.1

/-- The first place of CUE_SEQ where no sequence runs. -/
def Dev.cuePlace (d : Dev) : Option Nat := (List.range 8).find? fun k => (Tab.find d.mgt.running k).isNone

/-- A discarded batch restarts from row index 0 on the port's new engine (R171). -/
def Dev.restartRuns (d : Dev) (n : Nat) : Dev :=
  let x := d.syn' n
  (d.setSyn n { x with runs := x.runs.map fun r => { r with restart := false } }).noteBusy n

/-- What a sequence does at its start: a substitution switches the port to the spare and restarts the batch (R171 steps
1 to 4); a group reset shows RESETTING. -/
def Dev.cueBegin (d : Dev) : CueKind → Dev
  | .subst _ spare n => (d.assignEngine spare n).restartRuns n
  | .groupReset g => d.setBit .dmcGrpStatus g 30 true
  | .park _ _ _ => d
  | .activate _ _ _ => d

/-- CUE_START (R435): up to eight run at once. DEDUCED (log 84). -/
def execCueStart (s : State) : Host.Outcome State Fault Refusal :=
  s.run fun d =>
    match d.cueNext, d.cuePlace with
    | some (k, g), some p =>
      let run : CueRun := { kind := k, generation := g, abort := false }
      let m : MgtState := { d.mgt with running := Tab.set d.mgt.running p run,
                                       waiting := d.mgt.waiting.filter fun w => w.2 != g }
      ((({ d with mgt := m }.cueMark k true).cueRefresh).cueBegin k)
    | _, _ => d

/-- The effects of a sequence at its end (Table 17.4). -/
def Dev.cueEffect (d : Dev) : CueKind → Dev
  | .subst _ _ _ => d.event .embGlbEvent 0 1
  | .park s tag k => d.parkDone s tag k
  | .activate s tag k => d.activateDone s tag k
  | .groupReset g => d.groupBack g

/-- An abort point restores the old state (R437): a park record stays and its slot is FREE; the group stays frozen and
offline. The status that the entry completes with is open. DEDUCED (log 84). -/
def Dev.cueOld (d : Dev) : CueKind → Dev
  | .activate _ tag _ => (d.complete 0 tag 0x83 (d.free 16) []).drawn
  | .groupReset g => (d.setBit .dmcGrpStatus g 30 false).setBit .dmcGrpStatus g 29 false
  | .subst _ _ _ => d
  | .park _ _ _ => d

/-- CUE_DONE (R436). DEDUCED (log 84). -/
def execCueDone (place : Fin 8) (s : State) : Host.Outcome State Fault Refusal :=
  s.run fun d =>
    match Tab.find d.mgt.running place.val with
    | none => d
    | some r =>
      let d1 := { d with mgt := { d.mgt with running := Tab.erase d.mgt.running place.val } }
      let d2 := (d1.cueMark r.kind false).cueRefresh
      let d3 := if r.abort then d2.cueOld r.kind else d2.cueEffect r.kind
      (d3.put .cueLastDone 0 r.generation).event .cueEvent 0 0

/-- CUE_ABORT (R437). DEDUCED (log 84). -/
def execCueAbort (req : Fin 5) (generation : BitVec 16) (ahead : Bool) (s : State) : Host.Outcome State Fault Refusal :=
  s.run fun d =>
    let g := generation.toNat
    let abortable := fun (k : CueKind) => k.abortable
    match d.mgt.waiting.find? fun w => w.2 == g && abortable w.1, d.mgt.running.find? fun r => r.2.generation == g with
    | some w, _ =>
      let d1 := { d with mgt := { d.mgt with waiting := d.mgt.waiting.filter fun x => x.2 != g } }.cueRefresh
      (match w.1 with
        | .activate _ _ _ => d1.cueOld w.1
        | _ => d1)
    | none, some r =>
      if r.2.kind.abortable ∧ ahead then
        { d with mgt := { d.mgt with running := Tab.set d.mgt.running r.1 { r.2 with abort := true } } }.cueRefresh
      else d.refuse req.val .cueNoAbort
    | none, none => d.refuse req.val .cueNoAbort

/-- The object that a class code and an index name. DEDUCED (log 125). -/
def queryObject (cls index : Nat) : Option (ObjClass × Nat) :=
  match cls with
  | 1 => some (.engine, index)
  | 2 => some (.port, index)
  | 3 => some (.slot, index)
  | 4 => some (.group, index)
  | _ => none

/-- CUE_QUERY (R436): the answer stands in CUE_QUERY_RESULT. DEDUCED (log 84, 125). -/
def execCueQuery (cls : Byte) (index : BitVec 12) (s : State) : Host.Outcome State Fault Refusal :=
  s.run fun d =>
    let o := queryObject cls.toNat index.toNat
    let r := match o.bind d.transitOf with
      | some g => 2 ^ 31 + g
      | none => 0
    (d.put .cueQuery 0 (cls.toNat <<< 16 + index.toNat)).put .cueQueryResult 0 r

/-! ### Watchdogs and load -/

/-- WDT_MS of a core in ps: 1 to 10,000 ms, the nearer bound where the register holds another number (R428).
DESIGN CHOICE (log 88). -/
def Dev.watchdogPs (d : Dev) (c : Nat) : Nat := max 1 (min 10000 (d.fld .glbWdtCfg c 0 14)) * 1000000000

/-- WATCHDOG_EXPIRE (R428): only that core is reset. DESIGN CHOICE (log 8, 88). -/
def execWatchdogExpire (core : Fin 4) (s : State) : Host.Outcome State Fault Refusal :=
  s.run fun d =>
    let c := core.val
    if !d.bit .glbWdtCfg c 31 ∨ d.now < Tab.get d.mgt.kicked c 0 + d.watchdogPs c then d
    else (((d.coreReset c).count .glbWdtResets c).irqPulse (1584 + c)).raise .mgmtWdt c

/-- KICK (R428). -/
def execKick (core : Fin 4) (s : State) : Host.Outcome State Fault Refusal :=
  s.run fun d => { d with mgt := { d.mgt with kicked := Tab.set d.mgt.kicked core.val d.now } }

/-- The request lines of cores that enter WFI with a source pending (R442). -/
def Dev.wakeLines (d : Dev) : Dev :=
  d.each (List.range 8) fun d k =>
    let m := Tab.get d.mgt.moderation k Moderation.idle
    if d.inWfi (k / 2) ∧ m.count ≠ 0 then
      { d with mgt := { d.mgt with moderation := Tab.set d.mgt.moderation k { m with line := true } } }
    else d

/-- LOAD_WINDOW (R430): OVERLOAD after 1,000 successive windows above 90 %, and until 1,000 below 70 %.
DESIGN CHOICE (log 85). -/
def execLoadWindow (c0 c1 c2 c3 : Fin 1600001) (wfi : BitVec 4) (s : State) : Host.Outcome State Fault Refusal :=
  s.run fun d =>
    let busy := c0.val + c1.val + c2.val + c3.val
    let all := 4 * 1600000
    let high := if all * 90 < busy * 100 then min 1000 (d.mgt.highWindows + 1) else 0
    let low := if busy * 100 < all * 70 then min 1000 (d.mgt.lowWindows + 1) else 0
    let d1 := { d with mgt := { d.mgt with highWindows := high, lowWindows := low } }
    let d2 := (d1.setFld .glbMgmtStatus 0 0 8 (busy * 100 / all)).setFld .glbMgmtStatus 0 24 4 wfi.toNat
    let was := d.bit .glbMgmtStatus 0 31
    let d3 := d2.wakeLines
    if !was ∧ high = 1000 then
      ((d3.setBit .glbMgmtStatus 0 31 true).irqLevel 1588 true).raise .mgmtOverload 0
    else if was ∧ low = 1000 then (d3.setBit .glbMgmtStatus 0 31 false).irqLevel 1588 false
    else d3

/-! ### The non-volatile array -/

/-- NVA_OP_GO (R432, R434). DEDUCED (log 87). -/
def execNvaOpGo (r : Fin 5) (erase : Bool) (fetch : Option (Fin 4)) (s : State) : Host.Outcome State Fault Refusal :=
  s.run fun d0 =>
    let q := r.val
    let busy := d0.bit .nvaOpStatus q 31
    let d := if busy then d0 else d0.setBit .nvaOpCtrl q 1 erase
    let a := d.get .nvaOpAddr q
    let bank := a / 2 ^ 30
    let first := bits a 6 19 * 64
    let n := d.get .nvaOpLines q
    let src := d.get .nvaOpSrc q
    if busy then d.refuse q .nvaBusy
    else if !nvaAllowed q bank first n ∨ !(erase || d.sourceOk src (64 * n)) then
      (d.nvaEnd q (some .nvaRange)).refuse q .nvaRange
    else if q < 4 ∧ fetch.map (fun b => b.val) = some bank then
      (d.nvaEnd q (some .nvaSelfBank)).refuse q .nvaSelfBank
    else
      let o : NvaOp := { requester := q, bank := bank, line := first / 64, left := n, erase := erase, src := src, body := [] }
      ((d.setOps (d.mgt.ops ++ [o])).put .nvaOpStatus q (2 ^ 31)).put .nvaOpDone q 0

/-- NVA_LINE_WRITTEN (R433). -/
def execNvaLineWritten (bank : Fin 4) (s : State) : Host.Outcome State Fault Refusal :=
  s.run fun d => d.nvaStep bank.val

/-- NVA_ECC_ERROR (R431): a corrected read is written back and counted; an uncorrectable one returns an error.
DEDUCED (log 87). -/
def execNvaEccError (addr : BitVec 32) (core : Option (Fin 4)) (corrected : Bool) (s : State) :
    Host.Outcome State Fault Refusal :=
  s.run fun d =>
    if corrected then d.count .nvaEccCe 0
    else
      let d1 := (d.event .nvaEvent 0 2).raise .nvaEcc 0
      match core with
      | some c => d1.send (.busError c.val addr.toNat)
      | none => d1

/-! ### Interrupts -/

/-- IRQ_MOD_TIMER (R442). -/
def execIrqModTimer (core : Fin 4) (fast : Bool) (s : State) : Host.Outcome State Fault Refusal :=
  s.run fun d =>
    let k := modKey core.val fast
    let m := Tab.get d.mgt.moderation k Moderation.idle
    let early := m.since.any fun t => decide (d.now < t + d.modTimer core.val fast * 1000000)
    if d.modTimer core.val fast = 0 ∨ m.count = 0 ∨ early then d
    else { d with mgt := { d.mgt with moderation := Tab.set d.mgt.moderation k { m with line := true } } }

/-- A pending, unmasked source goes to a core and class, or to the keeper (4) (R440). -/
def Dev.claimable (d : Dev) (core : Nat) (fast : Bool) (src : Nat) : Bool :=
  d.irqPending src && !d.irqMasked src &&
    if core = 4 then d.irqKind src == 1
    else d.irqKind src == 0 && d.irqIndex src % 4 == core && d.irqFast src == fast

/-- The source that a claim returns: the highest priority, then the lowest number (R440). -/
def Dev.bestSource (d : Dev) (core : Nat) (fast : Bool) : Option Nat :=
  (List.range 2048).foldl (fun best src =>
    if !d.claimable core fast src then best
    else match best with
      | none => some src
      | some b => if d.irqPrio b < d.irqPrio src then some src else some b) none

/-- What a claim register reads as. -/
def Dev.claimWord (d : Dev) : Option Nat → Nat
  | none => 2 ^ 31
  | some src => d.irqPrio src <<< 24 + src

/-- Address of a claim register. -/
def claimAddr (core : Nat) (fast : Bool) : Nat :=
  if core = 4 then Reg.addr .irqKeeperClaim 0 else Reg.addr (if fast then .irqClaimF else .irqClaimN) core

/-- CLAIM (R440, R442): the read clears pending for an edge source; moderation counts anew. DEDUCED (log 86). -/
def execClaim (reader : Fin 5) (core : Fin 5) (fast : Bool) (s : State) : Host.Outcome State Fault Refusal :=
  s.run fun d =>
    let c := core.val
    let best := d.bestSource c fast
    let d1 := d.send (.readData reader.val (claimAddr c fast) (d.claimWord best))
    let d2 := match best with
      | some src => if d1.irqSense src = 0 then d1 else d1.irqPend src false
      | none => d1
    if c = 4 then d2
    else { d2 with mgt := { d2.mgt with moderation := Tab.set d2.mgt.moderation (modKey c fast) Moderation.idle } }

/-- The sources of a word of 32 whose bits are set. -/
def wordSources (word : Nat) (value : Word) : List Nat :=
  ((List.range 32).filter fun i => value.getLsbD i).map fun i => 32 * word + i

/-- IRQ_MASK_SET (R439). -/
def execIrqMaskSet (word : Fin 64) (value : Word) (s : State) : Host.Outcome State Fault Refusal :=
  s.run fun d => d.each (wordSources word.val value) fun d src => d.setBit .irqMaskSet (src / 32) (src % 32) true

/-- IRQ_MASK_CLR (R439): a source that is pending is told to its target. DEDUCED (log 86). -/
def execIrqMaskClr (word : Fin 64) (value : Word) (s : State) : Host.Outcome State Fault Refusal :=
  s.run fun d => d.each (wordSources word.val value) fun d src =>
    let d1 := d.setBit .irqMaskSet (src / 32) (src % 32) false
    if d.irqMasked src ∧ d.irqPending src then d1.irqNotify src else d1

/-- IRQ_PEND_SET (R438, R439). -/
def execIrqPendSet (word : Fin 64) (value : Word) (s : State) : Host.Outcome State Fault Refusal :=
  s.run fun d => d.each (wordSources word.val value) fun d src => d.irqPend src true

/-- IRQ_PEND_CLR (R439): a level source that is asserted stays pending, and an edge in the same clock wins.
DEDUCED (log 86). -/
def execIrqPendClr (word : Fin 64) (value : Word) (edges : Word) (s : State) : Host.Outcome State Fault Refusal :=
  s.run fun d =>
    let kept := fun (d : Dev) (src : Nat) => d.irqSense src == 0 && d.bit .irqLevel (src / 32) (src % 32)
    let d1 := d.each (wordSources word.val value) fun d src => if kept d src then d else d.irqPend src false
    d1.each (wordSources word.val edges) fun d src => if d.irqSense src = 0 then d else d.irqPend src true

end Sys2Proof.Machine
end

