-- ==== Sys2Proof/Machine/Motion.lean ====
section
/-! DEFINITION. The commands of the motion axes (R373 to R379). -/

namespace Sys2Proof.Machine

/-- Why a push is refused (R374). -/
def Dev.pushRefusal (d : Dev) (a : Nat) : Option ECode :=
  let t := signedOf 32 (d.get .ctlAxMoveTarget a)
  let lo := d.cfgSigned .soft a 0 32
  let hi := d.cfgSigned .soft a 32 32
  if 64 ≤ (d.axis a).queue.length then some .axQueueFull
  else if d.axisRate a < d.get .ctlAxMoveV a ∨ d.cfg .amax a < d.get .ctlAxMoveA a then
    some .axRange
  else if t < lo ∨ hi < t then some .axLimit
  else if d.posLost a then some .axPosLost
  else if (d.axis a).homing.isSome then some .axBusy
  else none

/-- PUSH (R374). -/
def execAxisPush (req : Fin 5) (axis : Fin 32) (s : State) : Host.Outcome State Fault Refusal :=
  s.run fun d =>
    let a := axis.val
    match d.pushRefusal a with
    | some e => d.refuse req.val e
    | none =>
      let m : Move := { target := signedOf 32 (d.get .ctlAxMoveTarget a), v := d.get .ctlAxMoveV a, a := d.get .ctlAxMoveA a,
                        blend := d.bit .ctlAxMoveFlags a 0 }
      d.setAxis a { d.axis a with queue := (d.axis a).queue ++ [m] }

/-- HALT (R376): the axis comes to rest at the move's A, and then the queue is emptied. -/
def execAxisHalt (axis : Fin 32) (s : State) : Host.Outcome State Fault Refusal :=
  s.run fun d => (d.setAxis axis.val { d.axis axis.val with halting := true }).atRest axis.val

/-- AXIS_ABORT (R376). -/
def execAxisAbort (axis : Fin 32) (s : State) : Host.Outcome State Fault Refusal := s.run fun d => d.axisStop axis.val

/-- HOME (R377). -/
def execAxisHome (req : Fin 5) (axis : Fin 32) (s : State) : Host.Outcome State Fault Refusal :=
  s.run fun d =>
    let x := d.axis axis.val
    if !x.queue.isEmpty ∨ x.homing.isSome then d.refuse req.val .axBusy
    else d.setAxis axis.val { x with homing := some .seek, homeFrom := x.pos, halting := false }

/-- AXIS_PLAN_TICK (R375, R380, R381): a controller that does not drive the axes follows the steps it sees. -/
def execAxisPlanTick (axis : Fin 32) (seen : Int) (time : Nat) (s : State) : Host.Outcome State Fault Refusal :=
  s.run fun d =>
    let a := axis.val
    let d1 := d.at time
    if d1.drives then d1.planAxis a
    else if seen = 0 then d1
    else
      let x := d1.axis a
      d1.setAxis a { x with pos := x.pos + seen * 1000000000000, lastStep := some d1.now }

/-- HOME_EDGE (R377). -/
def execHomeEdge (axis : Fin 32) (s : State) : Host.Outcome State Fault Refusal :=
  s.run fun d =>
    let a := axis.val
    let x := d.axis a
    match x.homing with
    | some .seek => (d.setAxis a { x with homing := some .brake }).atRest a
    | some .touch =>
      let p := d.cfgSigned .homeOffset a 0 32 * 1000000000000
      (d.setAxis a { x with homing := none, vel := 0, pos := p, resting := false }).setBit .ctlAxStatus a 31 false
    | _ => d

/-- AXIS_LIMIT (R376, Table 14.4). -/
def execAxisLimit (axis : Fin 32) (s : State) : Host.Outcome State Fault Refusal := s.run fun d => d.axisFault axis.val

/-- ASB_CYCLE (R378, R380, R381). -/
def execAsbCycle (bus : Fin 4) (time : Nat) (s : State) : Host.Outcome State Fault Refusal :=
  s.run fun d =>
    let d1 := d.at time
    if d1.ctl.stopped ∨ !d1.drives then d1 else d1.serveBus bus.val true

/-- A reply missing or failing its CRC: the third in succession stops the axis (Table 14.4). -/
def Dev.badUpWord (d : Dev) (a : Nat) : Dev :=
  let x := d.axis a
  let d1 := d.setAxis a { x with bad := x.bad + 1 }
  if x.bad = 2 then d1.axisFault a else d1

/-- ASB_UP_WORD (R378, Table 14.4). DEDUCED (log 124). -/
def execAsbUpWord (axis : Fin 32) (word : Option Word) (s : State) : Host.Outcome State Fault Refusal :=
  s.run fun d =>
    let a := axis.val
    match word with
    | none => d.badUpWord a
    | some w =>
      let v := w.toNat
      if slateCrc v ≠ v % 256 ∨ bits v 29 3 ≠ a % 8 then (d.count .asbCrcErr (a / 8)).badUpWord a
      else
        let d1 := (d.setAxis a { d.axis a with bad := 0 }).put .ctlAxLoad a (bits v 19 10)
        let d2 := d1.setFld .ctlAxStatus a 24 4 (bits v 15 4)
        if bits v 15 4 = 0 then d2 else d2.axisFault a

/-- AXIS_REST_HOLD (R379). -/
def execAxisRestHold (axis : Fin 32) (s : State) : Host.Outcome State Fault Refusal :=
  s.run fun d =>
    let x := d.axis axis.val
    if x.vel = 0 then d.setAxis axis.val { x with resting := true } else d

end Sys2Proof.Machine
end

