-- ==== Sys2Proof/Machine/Position.lean ====
section
/-! DEFINITION. The commands of the chapter "Web Position and Fire Timing" (R53 to R87, R491). -/

namespace Sys2Proof.Machine

/-! ### Encoder edges (R54 to R63) -/

/-- Place of a pair of levels AB in the forward sequence 00, 10, 11, 01 (R57). -/
def quadPlace (a b : Bool) : Nat := if a then (if b then 2 else 1) else (if b then 3 else 0)

/-- A period in the units of LAST_PERIOD (Table 3.6). -/
def periodUnits (ps : Nat) : Nat := min 0x3ffffff (ps / 200)

/-- A count of an input in the direction of DIR moves Q_r, and its timestamp enters the speed (R57, R59). -/
def Dev.countSame (d : Dev) (i stamp : Nat) : Dev :=
  let x := d.enc i
  let stamps := stamp :: x.stamps
  let d1 := d.putInt .posEncCount i (if d.encReverse i then d.encCount i - 1 else d.encCount i + 1)
  d1.setEnc i { x with stamps := stamps, valid := decide (2 ≤ stamps.length) }

/-- The first count against DIR turns DIR and leaves Q_r; speed starts anew (R57, R58, R61). -/
def Dev.countTurn (d : Dev) (i : Nat) : Dev :=
  let d1 := d.setBit .posEncStatus i 27 (!d.encReverse i)
  d1.setEnc i { d1.enc i with stamps := [], valid := false, zComparable := false }

/-- The pass is aborted where the active source turns inside the window of the current pass (R71). -/
def Dev.checkReversal (d : Dev) (i : Nat) : Dev :=
  match d.pos.curPass with
  | some p =>
    let l := d.posLineNow
    if d.scanning ∧ i = d.actSrc ∧ d.inService i ∧ p.reverse ≠ d.encReverse i ∧ p.lo ≤ l ∧ l < p.hi then d.abortPass
    else d
  | none => d

/-- A qualified count of an input in a direction (R57). -/
def Dev.countEdge (d : Dev) (i stamp : Nat) (reverse : Bool) : Dev :=
  let last := (d.enc i).lastStamp
  let d1 := d.setFld .posEncStatus i 0 26 ((last.map fun t => periodUnits (stamp - t)).getD (d.fld .posEncStatus i 0 26))
  let d2 := d1.setEnc i { d1.enc i with lastStamp := some stamp }
  if reverse = d.encReverse i then ((d2.countSame i stamp).checkSilent i).crossCheck
  else ((d2.countTurn i).checkSilent i).checkReversal i

/-- A qualified rising edge of Z latches Q_r; two latches of one direction are compared (R58). -/
def Dev.latchZ (d : Dev) (i : Nat) : Dev :=
  let x := d.enc i
  let q := d.encCount i
  let gap := (q - d.getInt .posEncZlatch i).natAbs
  let z := d.cfg .zPeriod i
  let d1 := if x.zComparable ∧ z ≠ 0 ∧ gap ≠ z then d.setBit .posEncStatus i 28 true else d
  (d1.putInt .posEncZlatch i q).setEnc i { d1.enc i with zComparable := true }

/-- Dead columns are spoiled up to the line of the last fire where one has been committed since (R248). -/
def Dev.afterFires (d : Dev) (was : Nat) : Dev :=
  match d.pos.fires.head? with
  | some x => if was < d.fireIndex then (d.spoilDead { line := x.line, reverse := x.reverse, pass := x.pass }).settleHolds else d
  | none => d

/-- What follows new levels: the speed, what the comparator has been passed by, the lock line, fires and outputs. -/
def Dev.edgeDone (d : Dev) (wasValid : Bool) : Dev :=
  let d1 := d.noteSpeed
  let d2 := if !wasValid && d1.speedValid then d1.skipPassed else d1
  (d2.positionMoved).repeatOut.afterFires d.fireIndex

/-- ENC_EDGE_QUALIFIED (R54 to R63): the levels of A, B and Z with the timestamp of their first sample in ps.
DEDUCED (log 25); DESIGN CHOICE (log 120). -/
def execEncEdgeQualified (input : Fin 8) (a b z : Bool) (stamp : Nat) (s : State) : Host.Outcome State Fault Refusal :=
  s.run fun d0 =>
    let i := input.val
    let t := stamp / 200 * 200
    let d := d0.at (t + 1000 * d0.cfg .minEdgeNs i)
    let x := d.enc i
    let a' := if x.wireA then x.a else a
    let b' := if x.wireB then x.b else b
    let z' := if x.wireZ then x.z else z
    let k := (quadPlace a' b' + 4 - quadPlace x.a x.b) % 4
    let d1 := d.setEnc i { x with a := a', b := b', z := z' }
    let d2 := if k = 0 then d1
      else if k = 2 then (d1.count .posEncQuadCount i).loseInput i
      else d1.countEdge i t ((k == 3) != (d.cfg .encInvert i == 1))
    let d3 := if z' && !x.z then d2.latchZ i else d2
    d3.edgeDone d.speedValid

/-- ENC_GLITCH (R54, Table 3.2): more than 16 within 1 ms lose the input. -/
def execEncGlitch (input : Fin 8) (time : Nat) (s : State) : Host.Outcome State Fault Refusal :=
  s.run fun d0 =>
    let i := input.val
    let d := d0.at time
    let gs := time :: (d.enc i).glitches.filter fun g => decide (time < g + 1000000000)
    let d1 := (d.count .posEncGlitch i).setEnc i { d.enc i with glitches := gs }
    if 16 < gs.length then ((d1.loseInput i).edgeDone d.speedValid) else d1

/-- WIRE of one pair of an input: 0 A, 1 B, 2 Z. -/
def EncInput.setWire (x : EncInput) (pair : Nat) (w : Bool) : EncInput :=
  if pair = 0 then { x with wireA := w } else if pair = 1 then { x with wireB := w } else { x with wireZ := w }

/-- A level of one pair of an input. -/
def EncInput.setLevel (x : EncInput) (pair : Nat) (v : Bool) : EncInput :=
  if pair = 0 then { x with a := v } else if pair = 1 then { x with b := v } else { x with z := v }

/-- WIRE of STATUS follows the pairs (R55). -/
def Dev.noteWire (d : Dev) (i : Nat) : Dev :=
  let x := d.enc i
  d.setBit .posEncStatus i 30 (x.wireA || x.wireB || x.wireZ)

/-- ENC_WIRE_FAULT (R55). DESIGN CHOICE (log 120). -/
def execEncWireFault (input : Fin 8) (pair : Fin 3) (s : State) : Host.Outcome State Fault Refusal :=
  s.run fun d =>
    let i := input.val
    ((d.count .posEncWireCount i).setEnc i ((d.enc i).setWire pair.val true)).noteWire i

/-- ENC_WIRE_CLEAR (R55): the level present is the new reference. -/
def execEncWireClear (input : Fin 8) (pair : Fin 3) (level : Bool) (s : State) : Host.Outcome State Fault Refusal :=
  s.run fun d =>
    let i := input.val
    ((d.setEnc i (((d.enc i).setWire pair.val false).setLevel pair.val level)).noteWire i).repeatOut

/-- WIRE_LOST_TIMEOUT (R82). DEDUCED (log 25). -/
def execWireLostTimeout (input : Fin 8) (time : Nat) (s : State) : Host.Outcome State Fault Refusal :=
  s.run fun d0 =>
    let d := d0.at time
    if d.bit .posEncStatus input.val 30 then (d.loseInput input.val).edgeDone d.speedValid else d

/-- DEAD_RECKONING_END (R84). -/
def execDeadReckoningEnd (time : Nat) (s : State) : Host.Outcome State Fault Refusal :=
  s.run fun d => (d.at time).deadReckonEnd.repeatOut

/-- INPUT_RETURN (R82). -/
def execInputReturn (input : Fin 8) (s : State) : Host.Outcome State Fault Refusal :=
  s.run fun d => (d.returnInput input.val).repeatOut

/-- STANDSTILL (R60): an input has had no qualified count for 10 ms. DESIGN CHOICE (log 8); DEDUCED (log 25). -/
def execStandstill (input : Fin 8) (time : Nat) (s : State) : Host.Outcome State Fault Refusal :=
  s.run fun d0 =>
    let d := d0.at time
    (d.setEnc input.val { d.enc input.val with stamps := [], valid := false }).noteSpeed

/-! ### Fires (R65 to R69, R73, R491) -/

/-- FIRE_COMMIT (R73): the scheduled fire at the comparator is committed. -/
def execFireCommit (s : State) : Host.Outcome State Fault Refusal :=
  s.run fun d => if d.directMode then d else ((d.scheduledFire).lineMoved).afterFires d.fireIndex

/-- OVERSPEED_RELEASE (R68). -/
def execOverspeedRelease (time : Nat) (s : State) : Host.Outcome State Fault Refusal :=
  s.run fun d => ((d.at time).setBit .posStatus 0 7 false).speedFree .pos

/-- FIRING_END (R69). DEDUCED (log 34). -/
def execFiringEnd (time : Nat) (s : State) : Host.Outcome State Fault Refusal := s.run fun d => (d.at time).noteFiring

/-- Start-up is complete (R463), and the checkpoint that a restart owes is written (R356). -/
def Dev.mayFire (d : Dev) : Bool := d.fld .glbBootStage 0 28 4 == 15 && d.pwr.rewrite.isNone

/-- Why FIRE_EN is refused, if it is (R48, R69, R323, R454, R463, R467). DEDUCED (log 22, 93). -/
def Dev.fireRefusal (d : Dev) : Option ECode :=
  if d.sys.noTime then some .clkEthref
  else if d.isStandby then some .ptnStandby
  else if d.fld .secStatus 0 29 3 = 4 then some .secLcDenied
  else if !d.mayFire ∨ d.img.active.isNone ∨ d.bit .imgStatus 0 3 ∨ d.pos.ended then some .posNoImage
  else if d.img.digestBlock then some .imgDigest
  else if d.dmc.lost then some .dmcGroupLost
  else none

/-- The line that the first fire after enable is bound to (R65, R71). -/
def Dev.enableLine (d : Dev) : Int :=
  let p := d.linePos d.now
  let up := p / 2 ^ 32 + 1
  if !d.scanning then up
  else match d.pos.curPass with
    | none => up
    | some q => if q.reverse then min (q.hi - 1) (-((-p) / 2 ^ 32) - 1) else max q.lo up

/-- Firing starts (R65, R66, R69, R81, R197, R491). DEDUCED (log 21). -/
def Dev.fireEnable (d : Dev) : Dev :=
  let m := d.enableLine
  let d1 := (((d.setBit .posCtrl 0 0 true).setBit .posStatus 0 0 true).setFld .posStatus 0 12 4 0).stopFree .pos
  let d2 := (d1.setBit .secStatus 0 28 false).alignOther.clearBatches
  let d3 := ({ d2 with pos := { d2.pos with cmpLine := m } }.setBind (d2.fireIndex + 1) m).seekRows.notePass
  d3.joinWaiting.mirrorBind

/-- FIRE_EN (R69). DEDUCED (log 22, 42). -/
def execFireEn (req : Fin 5) (s : State) : Host.Outcome State Fault Refusal :=
  s.run fun d =>
    match d.fireRefusal with
    | some e => d.refuse req.val e
    | none => if d.fireEn then d else d.fireEnable

/-- FIRE_DISABLE (R69). -/
def execFireDisable (req : Fin 5) (s : State) : Host.Outcome State Fault Refusal :=
  s.run fun d => if d.isStandby then d.refuse req.val .ptnStandby else if d.fireEn then d.stopFiring 0 else d

/-- STOP_CLR (R491). DEDUCED (log 23). -/
def execStopClr (s : State) : Host.Outcome State Fault Refusal :=
  s.run fun d =>
    if d.pos.dr.isSome ∨ d.pos.ended then d
    else (d.setFld .posStatus 0 12 4 0).stopFree .pos

/-- ZERO (R64): the position reads 0, dead-reckoned or held as it may be. DEDUCED (log 24). -/
def execZero (req : Fin 5) (s : State) : Host.Outcome State Fault Refusal :=
  s.run fun d =>
    if d.firing then d.refuse req.val .posFiring
    else
      let d1 := d.alignTo d.actSrc d.now 0
      let dr := d1.pos.dr.map fun b => { b with origin := b.free d.now }
      let d2 := { d1 with pos := { d1.pos with frozen := d1.pos.frozen.map fun _ => 0, dr := dr } }
      d2.noteTrack.mirrorBind

/-! ### Port delays (R75, R79, R80) -/

/-- CAL (R79): every port with a linked C2 or C3 head is measured. DESIGN CHOICE (log 120). -/
def execCal (req : Fin 5) (s : State) : Host.Outcome State Fault Refusal :=
  s.run fun d =>
    if d.firing then d.refuse req.val .posFiring
    else
      let ports := (d.portsIn [3, 4, 5]).filter fun n => 2 ≤ d.fld .linkStatus n 27 2
      let d1 := { d with pos := { d.pos with calWait := ports } }.setBit .posCtrl 0 3 true
      d1.each ports fun d n => d.startEcho n .calibration

/-- CAL_DONE (R79): every port has finished. -/
def execCalDone (s : State) : Host.Outcome State Fault Refusal :=
  s.run fun d =>
    if d.bit .posCtrl 0 3 then
      let d1 := d.each d.pos.calWait Dev.echoDone
      ({ d1 with pos := { d1.pos with calWait := [] } }.setBit .posCtrl 0 3 false).event .posEvent 0 8
    else d

/-- PD_REFRESH_DONE (R80): the measurement of one port, by the refresh or at its bring-up (Table 7.9 step 7), is complete. -/
def execPdRefreshDone (port : Fin 192) (s : State) : Host.Outcome State Fault Refusal :=
  s.run fun d =>
    let n := port.val
    match (d.port n).echo with
    | some (.bringUp, _) => (d.echoDone n).autoRejoin n
    | some (.refresh, _) => d.echoDone n
    | _ => d

/-- PORT_DELAY_WRITE (R79, R80). -/
def execPortDelayWrite (req : Fin 5) (port : Fin 192) (pd : BitVec 16) (s : State) : Host.Outcome State Fault Refusal :=
  s.run fun d => if d.fireEn then d.refuse req.val .posFiring else (d.storePd port.val pd.toNat).maskUnfit port.val

/-! ### Passes (R70, R99) -/

/-- PASS_ARM (R70, R99): the staging registers become the next pass; its regions lock. DESIGN CHOICE (log 120). -/
def execPassArm (req : Fin 5) (s : State) : Host.Outcome State Fault Refusal :=
  s.run fun d =>
    if d.pos.armedPass.isSome then d.refuse req.val .posPassBusy
    else
      let k := d.get .cmpPassNext 0
      let p : Pass := { lo := d.getInt .posPassLo 0, hi := d.getInt .posPassHi 0, reverse := d.bit .posPassCtrl 0 0, number := k }
      let d1 := (d.put .cmpPassNext 0 ((k + 1) % 2 ^ 48)).lockPass k p.reverse
      let d2 := if d1.pos.curPass.isNone then d1.startPass p
        else ({ d1 with pos := { d1.pos with armedPass := some p } }).notePass
      d2.mirrorBind

end Sys2Proof.Machine
end

