-- ==== Sys2Proof/Machine/SecOps.lean ====
section
/-! DEFINITION. Fuses, the event log, life-cycle transitions and secure boot (R445 to R458). -/

namespace Sys2Proof.Machine

/-- Number of bits set below 4. -/
def ones4 (n : Nat) : Nat := ((List.range 4).filter fun i => bitOf n i).length

/-- SEC_STATUS and SEC_TALLY show the fuses (Tables 18.7 and 18.9); core debug is closed in FIELD alone (Table 18.6). -/
def Dev.secNote (d : Dev) : Dev :=
  let x := d.sec.fuses
  let d1 := ((d.setFld .secStatus 0 29 3 x.state).setFld .secStatus 0 18 6 x.floor).setFld .secStatus 0 14 4 x.rootProg
  let d2 := ((d1.setFld .secStatus 0 10 4 x.revoked).setFld .secStatus 0 5 5 x.t).setFld .secStatus 0 1 4 x.ceiling
  let tally := (63 - x.floor) <<< 26 + (4 - ones4 x.revoked) <<< 22 + (16 - x.t) <<< 16 + (8 - x.ceiling) <<< 8 +
    (4 - ones4 x.rootProg)
  (d2.setBit .secStatus 0 0 (x.state != 2)).put .secTally 0 tally

/-- Life-cycle state. -/
def Dev.lc (d : Dev) : Nat := d.sec.fuses.state

/-- Bytes of SEC_KEY_DATA and of SEC_TOKEN, word 0 first. -/
def Dev.keyData (d : Dev) : List Byte := (List.range 32).flatMap fun i => leBytes (d.get .secKeyData i) 4
def Dev.tokenData (d : Dev) : List Byte := (List.range 32).flatMap fun i => leBytes (d.get .secToken i) 4

/-- A root slot that is programmed and not revoked. -/
def Fuses.rootGood (x : Fuses) (k : Nat) : Bool := bitOf x.rootProg k && !bitOf x.revoked k

/-- A signature over a digest verifies with a root slot. -/
def Dev.rootVerifies (d : Dev) (k : Nat) (digest : BitVec 384) (signature : List Byte) : Bool :=
  d.sec.fuses.rootGood k && rootVerify (Tab.get d.sec.fuses.rootHash k 0) digest signature

/-- The token (R451): words 0 and 1 the DEVICE_ID, 2 the burned T bits, 3 the target, 4 the root slot, and the signature
in the 96 bytes behind. DESIGN CHOICE (log 90). -/
def Dev.tokenGood (d : Dev) (target : Nat) : Bool :=
  let t := d.tokenData
  le32At t 0 + le32At t 4 <<< 32 == d.get .secDeviceId 0 && le32At t 8 == d.sec.fuses.t && le32At t 12 == target &&
    decide (le32At t 16 < 4) && d.rootVerifies (le32At t 16) (sha384 (t.take 20)) ((t.drop 20).take 96)

/-- Why a transition is not permitted, if it is not (R450, Table 18.3). -/
def Dev.lcAllowed (d : Dev) (target : Nat) : Bool :=
  match d.lc, target with
  | 0, 1 => d.sec.fuses.rootProg != 0
  | 1, 2 => (Tab.find d.sec.keys 1).isSome
  | 2, 3 => d.tokenGood 3
  | 3, 2 => true
  | 1, 4 => d.tokenGood 4
  | 2, 4 => d.tokenGood 4
  | 3, 4 => d.tokenGood 4
  | _, _ => false

/-- A transition burns a T bit (Table 18.3). -/
def lcBurnsT (state target : Nat) : Bool := (state == 2 && target == 3) || (state == 3 && target == 2)

/-- The fuses after a burn (Table 18.1): one bit. -/
def Fuses.burn (x : Fuses) : Burn → Fuses
  | .floor => { x with floor := x.floor + 1 }
  | .rootProg k h => { x with rootProg := setBits x.rootProg k 1 1, rootHash := Tab.set x.rootHash k h }
  | .revoke k => { x with revoked := setBits x.revoked k 1 1 }
  | .lifeCycle target =>
    if target = 4 then { x with r := true }
    else if lcBurnsT x.state target then { x with t := x.t + 1 }
    else if target = 1 then { x with p := true }
    else { x with f := true }
  | .voltage => { x with ceiling := x.ceiling + 1 }

/-- The value of a setting and the fuses it has left, as the event log records them (R448). -/
def Fuses.reading (x : Fuses) : Burn → Nat × Nat
  | .floor => (x.floor, 63 - x.floor)
  | .rootProg _ _ => (x.rootProg, 4 - ones4 x.rootProg)
  | .revoke _ => (x.revoked, 4 - ones4 x.revoked)
  | .lifeCycle _ => (x.state, 16 - x.t)
  | .voltage => (x.ceiling, 8 - x.ceiling)

/-- The key whose hash ROOT_PROG burns: SHA-384 of the public key in SEC_KEY_DATA. DESIGN CHOICE (log 90). -/
def Dev.rootKey (d : Dev) : BitVec 384 := sha384 (d.keyData.take 96)

/-- A record of the event log (R448). -/
def Dev.logRecord (d : Dev) (b : Burn) (abandoned : Bool) : LogRec :=
  let x := d.sec.fuses
  { kind := b.kind, before := (x.reading b).1, after := ((x.burn b).reading b).1,
    left := ((x.burn b).reading b).2, clock := d.get .tsuTime 0, fire := d.get .posFireIndex 0,
    abandoned := abandoned }

/-- The result of an action stands in SEC_LAST (Table 18.9). -/
def Dev.secLast (d : Dev) (e : Option ECode) : Dev := d.put .secLast 0 (ECode.codeOf e).toNat

/-- An action is refused. -/
def Dev.secRefuse (d : Dev) (req : Nat) (e : ECode) : Dev := (d.secLast (some e)).refuse req e

/-- An action of SEC_CTRL: none while another is in progress (R459). DEDUCED (log 89). -/
def Dev.secAction (d : Dev) (req : Nat) (f : Dev → Dev) : Dev :=
  if d.sec.burning.isSome then d.refuse req .secLcDenied else f d

/-- A change that burns a fuse (R445, R448): refused without VPP_FUSE; its record is written before its bit burns. -/
def Dev.startBurn (d : Dev) (req : Nat) (vpp : Bool) (b : Burn) : Dev :=
  let d1 := d.setBit .secStatus 0 27 vpp
  if !vpp then d1.secRefuse req .secVoltage
  else { d1 with sec := { d1.sec with log := d1.sec.log ++ [d1.logRecord b false], burning := some b } }

/-- The burned bit reads burned. -/
def Dev.burned (d : Dev) (b : Burn) : Dev :=
  { d with sec := { d.sec with fuses := d.sec.fuses.burn b, burning := none } }.secNote

/-- CAPSET with the new VCEIL to every port that is LINKED, JOINING or FIRING (R447). -/
def Dev.sendCeiling (d : Dev) : Dev :=
  d.each ((List.range 192).filter fun n => decide (3 ≤ d.linkState n ∧ d.linkState n ≤ 5)) Dev.sendCapset

/-! ### Secure boot (R454, R455) -/

/-- First byte of a firmware slot in the NVA. -/
def firmwareAddr (slot : Nat) : Nat := slot * 0x16e3600

/-- A firmware slot as the boot ROM sees it: SVN and root slot, or why it is refused. Words 0 to 3 are MAGIC, SVN,
LENGTH and ROOT; the public key follows from byte 16 on and the signature from byte 112 on.
DESIGN CHOICE (log 90); DEDUCED (log 91). -/
def Dev.firmware (d : Dev) (slot : Nat) : Except ECode (Nat × Nat) :=
  let a := firmwareAddr slot
  let h := Mem.readBytes d.nva a 256
  let svn := le32At h 4
  let len := le32At h 8
  let root := le32At h 12
  let key := (h.drop 16).take 96
  let r := BitVec.ofNat 384 (beNat ((h.drop 112).take 48))
  let s := BitVec.ofNat 384 (beNat ((h.drop 160).take 48))
  if le32At h 0 ≠ 0x4657494d ∨ 63 < svn ∨ 0x800000 - 256 < len ∨ 4 ≤ root then .error .secBoot
  else if !d.sec.fuses.rootGood root ∨ sha384 key ≠ Tab.get d.sec.fuses.rootHash root 0 then .error .secBoot
  else if !ecdsaVerify key (sha384 (h.take 112 ++ Mem.readBytes d.nva (a + 256) len)) r s then .error .secBoot
  else if svn < d.sec.fuses.floor then .error .secVersion
  else .ok (svn, root)

end Sys2Proof.Machine
end

