-- ==== Sys2Proof/Machine/StartOps.lean ====
section
/-! DEFINITION. The cold reset, start-up and the restart from a checkpoint or a Breath image (R356, R357, R460 to R467). -/

namespace Sys2Proof.Machine

/-! ### Cold reset (R9, R460) -/

/-- Levels of input pins, which no reset changes: PG and PF_N, PRESENT_N and ACT_IN_N, VPP_FUSE, the reference clocks,
and the encoder inputs. DESIGN CHOICE (log 92). -/
def Dev.pinsOf (d old : Dev) : Dev :=
  let d1 := (d.setFld .pwrStatus 0 23 2 (old.fld .pwrStatus 0 23 2)).setFld .ptnStatus 0 25 2 (old.fld .ptnStatus 0 25 2)
  let d2 := (d1.setFld .secStatus 0 27 1 (old.fld .secStatus 0 27 1)).put .lneGlbStatus 0 (old.get .lneGlbStatus 0)
  let enc := old.pos.enc.map fun t => (t.1, { EncInput.reset with a := t.2.a, b := t.2.b, z := t.2.z })
  { d2 with pos := { d2.pos with enc := enc }, ptn := { d2.ptn with removeReq := old.ptn.removeReq } }

/-- What outlives a cold reset: the NVA with what lies in it, and the fuses (R460). DESIGN CHOICE (log 92). -/
def Dev.keptOf (d old : Dev) : Dev :=
  let im : ImgState := { d.img with slots := old.img.slots, lastSlot := old.img.lastSlot }
  let pw : PwrState := { d.pwr with slots := old.pwr.slots, ring := old.pwr.ring }
  let sy : SysState := { d.sys with porz := old.sys.porz, io33 := old.sys.io33, sets := old.sys.sets }
  { d with nva := old.nva, draw := old.draw, raised := old.raised, outs := old.outs, img := im, pwr := pw, sec := old.sec,
           sys := sy }

/-- A cold reset with a CAUSE of Table 19.7: start-up begins again at stage CLOCK. DESIGN CHOICE (log 92). -/
def Dev.cold (d : Dev) (cause : Nat) : Dev :=
  (((Dev.reset.keptOf d).pinsOf d).secNote).put .glbResetCause 0 cause

/-! ### Stages (R463, Table 19.2) -/

/-- STAGE of GLB_BOOT_STAGE. -/
def Dev.stage (d : Dev) : Nat := d.fld .glbBootStage 0 28 4

/-- Start-up is complete: READY. -/
def Dev.ready (d : Dev) : Bool := d.stage == 15

/-- The next stage starts. -/
def Dev.toStage (d : Dev) (k : Nat) : Dev := d.put .glbBootStage 0 (k <<< 28)

/-- Start-up stops at the stage it stands in, with a code. -/
def Dev.stageFails (d : Dev) (e : ECode) : Dev :=
  ((d.setBit .glbBootStage 0 27 true).setFld .glbBootStage 0 0 16 e.code.toNat).raise e d.stage

/-- The timebase is locked: ETHREF is good. -/
def Dev.clockLocked (d : Dev) : Dev :=
  let d1 := d.setBit .lneGlbStatus 0 1 true
  (d1.each [54, 55, 56, 57, 58] fun d c => d.setBit .cluStatus c 31 true).toStage 2

/-- A record without a matching burn is followed by one marked ABANDONED (R448). -/
def Dev.settleBurn (d : Dev) (burned : Bool) : Dev :=
  match d.sec.burning with
  | none => d
  | some b =>
    if burned then d.burned b
    else { d with sec := { d.sec with burning := none, log := d.sec.log ++ [d.logRecord b true] } }

/-- The first byte of user partition b of the NVA and the first one behind the checkpoint slot and journal (Table 17.3). -/
def userStart (bank : Nat) : Nat :=
  match bank with
  | 0 => 0x1100000
  | 1 => 0x1400000
  | 2 => 0x1200000
  | _ => 0x1300000

/-- The life-cycle erase (R452, Table 18.4): user partitions, key store, checkpoint slots and journal. -/
def Dev.lifeErase (d : Dev) : Dev :=
  let size := 0x16e3600
  let m0 := [0, 1, 2, 3].foldl (fun m b => Mem.zero m (b * size + userStart b) (size - userStart b)) d.nva
  let m1 := (Mem.zero m0 0x1000000 0x10000).zero (2 * size) 0x1200000
  let m2 := m1.zero (3 * size) 0x1300000
  { d with nva := m2, pwr := { d.pwr with slots := [], ring := [] }, sec := { d.sec with keys := [] } }

/-- Stage FUSE (R445, R449, R452): the erase where the stamp differs, then the new stamp. -/
def Dev.stageFuse (d : Dev) (burned : Bool) : Dev :=
  let d1 := (d.settleBurn burned).secNote
  let d2 := if d1.sec.stamp = d1.lc then d1 else d1.lifeErase
  { d2 with sec := { d2.sec with stamp := d2.lc } }.toStage 3

/-- The cores run the firmware of a slot. -/
def Dev.runFirmware (d : Dev) (slot svn root : Nat) : Dev :=
  let d1 := ((d.setFld .secStatus 0 26 1 slot).setFld .secStatus 0 24 2 root).put .secFwSvn 0 svn
  (d1.each (List.range 4) fun d c => d.send (.coreStart c slot)).toStage 5

/-- Stage BOOT (R454, R455): of the slots accepted the one with the higher SVN runs, slot A where they are equal. In
MANUFACTURE with no root slot programmed the boot ROM does not verify, and MC0 runs what lies in its local SRAM. -/
def Dev.stageBoot (d : Dev) : Dev :=
  if d.lc = 0 ∧ d.sec.fuses.rootProg = 0 then (d.send (.coreStart 0 2)).toStage 5
  else match d.firmware 0, d.firmware 1 with
    | .ok a, .ok b => if a.1 < b.1 then d.runFirmware 1 b.1 b.2 else d.runFirmware 0 a.1 a.2
    | .ok a, .error _ => d.runFirmware 0 a.1 a.2
    | .error _, .ok b => d.runFirmware 1 b.1 b.2
    | .error e, .error f =>
      let why := if e = .secVersion ∨ f = .secVersion then ECode.secVersion else .secBoot
      (d.stageFails why).put .glbLastErr 4 ECode.secBoot.code.toNat

/-- The bar image store is loaded into the shadow (R50): the committed slot with the higher SERIAL, then the other.
DESIGN CHOICE (log 119). -/
def Dev.loadStore (d : Dev) : Dev :=
  let from_ := fun (d : Dev) (k : Nat) => { d with img := { d.img with source := .storeSlot k } }.loadDone
  let order := match Tab.find d.img.slots 0, Tab.find d.img.slots 1 with
    | some a, some b => if a.1 < b.1 then [1, 0] else [0, 1]
    | some _, none => [0]
    | none, some _ => [1]
    | none, none => []
  order.foldl (fun d k => if d.img.shadow.isSome then d else from_ d k) d

/-- A DRAM configuration that Table 16.1 lists. -/
def DramConfig.listed (c : DramConfig) : Bool :=
  let w := c.word.toNat
  let groups := bits w 16 4
  let ranks := bits w 12 2
  let density := bits w 10 2
  [1, 3, 15].contains groups && (ranks == 1 || ranks == 2) && density != 0 &&
    [480, 520, 560, 600, 640].contains (bits w 0 10) && !(groups == 15 && ranks == 2 && density == 3)

/-- A register takes the value that a record gives. -/
def Dev.putSome (d : Dev) (r : Reg) (v : Option Nat) : Dev :=
  match v with
  | some x => d.put r 0 x
  | none => d

/-- The configuration comes into force (R407, R425). -/
def Dev.takeConfig (d : Dev) (c : DramConfig) : Dev :=
  let d1 := d.put .dmcCfg 0 (setBits c.word.toNat 31 1 1)
  let d2 := ((d1.putSome .dmcPageIdleNs c.pageIdle).putSome .dmcPnrCfg c.pnr).putSome .dmcCeThr c.ceThr
  let d3 := d2.putSome .dmcTrainMin c.trainMin
  d3.each d3.groups fun d g => d.each (List.range 4) fun d i => d.setBit .dmcStatus (4 * g + i) 27 true

/-- Training of a group at start-up (R423, R464). -/
def Dev.trainGroup (d : Dev) (trained : BitVec 16) (eyes : List (BitVec 8 × BitVec 8)) (g : Nat) : Dev :=
  let chs := (List.range 4).map fun i => 4 * g + i
  let d1 := d.each chs fun d ch =>
    let e := eyes.getD ch (0, 0)
    d.put .dmcMargin ch (e.1.toNat <<< 8 + e.2.toNat)
  if chs.all fun ch => trained.getLsbD ch then
    let dm : DmcState := { d1.dmc with trainTj := Tab.set d1.dmc.trainTj g (d1.fld .pwrStatus 0 0 11) }
    { d1 with dmc := dm }.setBit .dmcGrpStatus g 31 true
  else
    let d2 := (d1.each (chs.filter fun ch => !trained.getLsbD ch) fun d ch => d.raise .dmcTrainFail ch).event .dmcEvent 0 4
    { (d2.groupOffline g) with dmc := { d2.dmc with lost := true } }

/-- Stage IMAGE starts (R463, R464): the shadow is activated as a stop activation; with no DRAM the activation fails its
resource check. -/
def Dev.toImage (d : Dev) : Dev :=
  let d1 := d.toStage 8
  match d1.img.shadow with
  | none => d1
  | some g =>
    if d1.dramBytes = 0 then (d1.put .imgError 0 (0xffff <<< 16 + ECode.dmcConfig.code.toNat)).raise .dmcConfig 0
    else d1.activateStop g

/-- Stage DRAM (R407, R423, R464): with no configuration start-up goes to IMAGE. -/
def Dev.stageDram (d : Dev) (config : Option DramConfig) (trained : BitVec 16) (eyes : List (BitVec 8 × BitVec 8)) : Dev :=
  let d1 := d.loadStore
  match config.filter DramConfig.listed with
  | none => (d1.raise .dmcConfig 0).toImage
  | some c =>
    let d2 := d1.takeConfig c
    (d2.each d2.groups fun d g => d.trainGroup trained eyes g).toStage 7

/-- Stage ZERO (R453). -/
def Dev.stageZero (d : Dev) : Dev := { d with dram := [], dmc := { d.dmc with poisoned := [] } }.toImage

/-! ### Restart (R356, R357, R466, Table 13.9) -/

/-- A restored slot: its page, and its context without what lay in DRAM or in flight; a new generation after an
incomplete Breath (R265). DESIGN CHOICE (log 69); DEDUCED (log 96). -/
def Dev.restoreSlot (d : Dev) (s : Saved) (anew : Bool) (k : Nat) : Dev :=
  let c := Tab.get s.ten.ctx k Ctx.reset
  let d1 := pageRegs.foldl (fun d r => d.wr r k (Tab.get s.regs (r, k) (r.reset k))) d
  let g := if anew && k != 0 then c.generation + 1 else c.generation
  let c1 : Ctx := { c with generation := g, key := d.unwrapKey c.wrapped, taken := [], sqWords := [], cqWords := [],
                           credit := 0, stagingUnits := 0, parkTo := none, tell := none }
  let d2 := (((d1.setBit .tenState k 28 false).put .tenDramUsed k 0).put .xptSession k 0).setCtx k c1
  let st := d2.get .tenState k
  let d3 := if k = 0 then d2 else d2.takeUnits k (ringUnits (bits st 6 5) (bits st 11 5) (bitOf st 26)) .rings
  d3.put .tenHandle k (d3.ctxHandle k)

/-- Slots that come back: ACTIVE ones, unless they need a new generation and have none left (R29). The journal's records with
the checkpoint's SEQ take away those closed or parked since. -/
def Dev.slotsBack (_d : Dev) (s : Saved) (anew : Bool) (events : List JournalEvent) : List Nat :=
  let gone := events.filterMap fun e => match e with
    | .context k _ what => if what = 1 ∨ what = 2 then some k else none
    | _ => none
  (List.range 4096).filter fun k =>
    bits (Tab.get s.regs (Reg.tenState, k) 0).toNat 29 3 == 1 && !gone.contains k &&
      (k == 0 || !anew || decide ((Tab.get s.ten.ctx k Ctx.reset).generation < 0xfffff))

/-- The generation that the journal names for a slot is its stored one (R265). -/
def Dev.noteGeneration (d : Dev) : JournalEvent → Dev
  | .context k g _ => d.setCtx k { d.ctx k with generation := max g (d.ctx k).generation }
  | _ => d

/-- A slot that has held its last context is RETIRED (R29, R265). -/
def Dev.retireSlots (d : Dev) : Dev :=
  d.each ((d.ten.ctx.filter fun t => t.1 != 0 && decide (0xfffff ≤ t.2.generation)).map fun t => t.1) fun d k =>
    if d.slotState k = 0 then d.setFld .tenState k 29 3 4 else d

/-- Contexts, their regions with no blocks, and the units of their rings and reels (R278, R285). -/
def Dev.restoreContextsOf (d : Dev) (s : Saved) (anew : Bool) (events : List JournalEvent) : Dev :=
  let ks := d.slotsBack s anew events
  let dp := d.put .tenPoolFree 0 (d.get .tenPoolUnits 0 - d.tenantUnits)
  let stored := s.ten.ctx.filter fun t => !ks.contains t.1 && t.1 != 0
  let d0 := stored.foldl (fun d t => d.setCtx t.1 { Ctx.reset with generation := t.2.generation }) dp
  let d1 := events.foldl Dev.noteGeneration (d0.each ks fun d k => d.restoreSlot s anew k)
  let regions := (s.cmp.regions.filter fun r => ks.contains r.slot && !r.closed).map fun r =>
    { r with strips := [], heapUsed := [], heapNext := 0 }
  let d2 := { d1 with cmp := { d1.cmp with regions := regions } }
  let d3 := regions.foldl (fun d r => d.takeUnits r.slot r.units (.region r.number)) d2
  ((d3.each ks Dev.countRegions).retireSlots).noteContexts

/-- Registers of a port's synthesis page. -/
def synPage : List Reg := [.lmap, .nbr, .xtW, .xtAct, .xtThr, .energy]

/-- A port's table, page and HMASK, its HEAD_ID history and TABLE_READY (R466). DEDUCED (log 96). -/
def Dev.restorePort (d : Dev) (s : Saved) (synFrom : Saved) (n : Nat) : Dev :=
  let x := Tab.get synFrom.syn.port n PortSyn.reset
  let d1 := d.setSyn n { d.syn' n with table := x.table, hmask := x.hmask, folds := x.folds, since := x.folds.length }
  let d2 := synPage.foldl (fun d r => d.each (List.range r.desc.c2) fun d i =>
    d.wr r (r.desc.c2 * n + i) (Tab.get synFrom.regs (r, r.desc.c2 * n + i) (r.reset (r.desc.c2 * n + i)))) d1
  let saved := (Tab.get s.regs (Reg.headId, n) 0).toNat
  let history := if saved = 0 then none else some saved
  let other := (d2.port n).lastHead.isSome && (d2.port n).lastHead != history
  let d3 := d2.setPort n { d2.port n with lastHead := history }
  if other then (d3.setBit .synCtrl n 0 false).event .linkEvent n 5
  else ((d3.setBit .synCtrl n 0 true).setBit .linkEvent n 5 false).refreshEvent .linkEvent n

/-- Position count and binding, with FIRE_EN = 0. -/
def Dev.restorePosition (d : Dev) (s : Saved) : Dev :=
  let d1 := d.each (List.range 8) fun d i => d.wr .posEncCount i (Tab.get s.regs (Reg.posEncCount, i) 0)
  let d2 := d1.each (List.range 8) fun d i => d.setEnc i { d.enc i with origin := (Tab.get s.pos.enc i EncInput.reset).origin }
  let get := fun (r : Reg) => Tab.get s.regs (r, 0) (r.reset 0)
  ((d2.wr .posBindFire 0 (get .posBindFire)).wr .posBindLine 0 (get .posBindLine)).notePass

/-- Frame numbers go on, 2^16 further from a checkpoint, with RESTART in the next record (R226). -/
def Dev.restoreFrames (d : Dev) (s : Saved) (anew : Bool) : Dev :=
  d.each (List.range 24) fun d c =>
    let n := (Tab.get s.regs (Reg.insFrameNo, c) 0).toNat + if anew then 65536 else 0
    (d.put .insFrameNo c (n % 2 ^ 32)).setPipe c { d.pipe c with restart := true }

/-- The fire index goes on from F (R27): at its last value the controller makes no fire. -/
def Dev.restoreFire (d : Dev) (f : Nat) : Dev :=
  let last := 2 ^ 48 - 1
  let d1 := d.put .posFireIndex 0 (min f last)
  if last ≤ f then
    (({ d1 with pos := { d1.pos with ended := true } }.raise .fireIndexEnd 0).setFld .posStatus 0 12 4 4).stopReq .pos
  else d1

/-- Journaled health commands are folded (Table 13.9). -/
def Dev.replayHealth (d : Dev) : JournalEvent → Dev
  | .health h => d.each (d.healthPorts h.fluid h.mask) fun d n => d.foldMask n h.mask
  | _ => d

/-- E_CTX_RESTORED with the handle and the restart fire index for every restored ring, now or as soon as the ring can be
written (R285, R357). DEDUCED (log 96). -/
def Dev.tellRestored (d : Dev) (fire : Nat) : Dev :=
  d.each ((List.range 4096).filter fun k => d.slotState k == 1) fun d k =>
    (d.setCtx k { d.ctx k with tell := some fire }).tellDue k

/-- The state of Table 13.9 from a save, its tables from a second one, and the journal's events since. -/
def Dev.restoreState (d : Dev) (s synFrom : Saved) (anew : Bool) (events : List JournalEvent) (fire : Nat) : Dev :=
  let d1 := ((d.restoreFire fire).restorePosition s).restoreFrames s anew
  let d2 := d1.each d1.image.usedPorts fun d n => d.restorePort s synFrom n
  let d3 := events.foldl Dev.replayHealth d2
  (d3.restoreContextsOf s anew events).tellRestored (fire + 1)

/-- Where the committed image of the store differs from the digest that the Breath image records firing stays blocked
(R48); the code goes to GLB_LAST_ERR[4] (R41). DESIGN CHOICE (log 119). -/
def Dev.checkDigest (d : Dev) (s : Saved) : Dev :=
  let stored := (d.img.lastSlot.bind fun k => Tab.find d.img.slots k).map fun x => x.2
  if stored = some s.digest then d
  else { d with img := { d.img with digestBlock := true } }.refuse 4 .imgDigest

/-- PWR registers of the restart (R355, R359): the outcome, and the record in force. -/
def Dev.noteRestart (d : Dev) (outcome : Nat) (s : Saved) : Dev :=
  ((d.put .pwrLastBreath 0 (outcome <<< 28 + s.cause)).put .pwrCkptSeq 0 s.seq).put .pwrCkptFire 0 (s.fire % 2 ^ 48)

/-- Restart from a Breath image in slot k on its base (R356): PARTIAL takes tables and pages from the base. -/
def Dev.restoreBreath (d : Dev) (k : Nat) (s base : Saved) : Dev :=
  let d1 := d.restoreState s (if s.isPart then base else s) false [] s.fire
  let d2 := (d1.checkDigest s).noteRestart (if s.isPart then 2 else 1) s
  let d3 := if s.isPart then d2.raise .breathPartial 0 else d2
  { d3 with pwr := { d3.pwr with rewrite := some k } }

/-- Restart from a checkpoint in slot k and the journal (R357). -/
def Dev.restoreCheckpoint (d : Dev) (k : Nat) (s : Saved) : Dev :=
  let events := (d.pwr.ring.filter fun x => x.1 == s.seq).map fun x => x.2
  let begun := events.reverse.findSome? fun e => match e with
    | .breathBegin f => some f
    | _ => none
  let epoch := (d.pwr.ring.reverse.findSome? fun x => match x.2 with
    | .epoch f => some f
    | _ => none).getD (s.fire / 2 ^ 20 * 2 ^ 20)
  let fire := begun.getD (epoch + 2 ^ 20 - 1)
  let d1 := (d.restoreState s s true events fire).noteRestart 3 s
  let d2 := (d1.put .pwrLostFire 0 (match begun with
    | some f => f % 2 ^ 48
    | none => 2 ^ 63)).raise .breathIncomplete 0
  { d2 with pwr := { d2.pwr with rewrite := some (1 - k) } }

/-- Stage RESTORE (R356): the valid record with the higher SEQ. A Breath image whose base is not valid gives way to the
other record. -/
def Dev.restore (d : Dev) : Dev :=
  let slots := d.pwr.slots.filter fun t => d.recordValid t.1
  match newestOf slots with
  | none => d
  | some k =>
    match Tab.find slots k, Tab.find slots (1 - k) with
    | some s, other =>
      if !s.breath then d.restoreCheckpoint k s
      else if s.baseSeq = 0 then d.restoreBreath k s s
      else match other with
        | some b =>
          if b.seq = s.baseSeq then d.restoreBreath k s b
          else if b.breath then d else d.restoreCheckpoint (1 - k) b
        | none => d
    | none, _ => d

/-- The first role (R315): 0 SOLO, 1 ACTIVE, 2 SYNC. -/
def Dev.firstRole (d : Dev) (toggles record : Bool) : Nat :=
  if !d.bit .ptnStatus 0 26 ∨ !d.bit .ptnCtrl 0 0 then 0
  else if toggles then 2
  else if d.fld .ptnStatus 0 27 1 = 0 then 1
  else if record then 2 else 1

/-- Stage ROLE, after which start-up is complete. -/
def Dev.stageRole (d : Dev) (toggles record : Bool) : Dev :=
  let r := d.firstRole toggles record
  let d1 := d.setBit .ptnStatus 0 25 toggles
  let d2 := if r = 2 then { d1 with ptn := { d1.ptn with snapshotDue := true, actUntil := some 0 } } else d1
  let d3 := d2.setRole r
  (if r = 2 ∧ d3.dmc.lost then d3.setUnfit 4 true else d3).toStage 15

end Sys2Proof.Machine
end

