-- ==== Sys2Proof/Machine/Power.lean ====
section
/-! DEFINITION. The commands of the chapter "Power Budget and Breath" (R336 to R359); PG_STABLE and PG_FALL stand with
start-up. -/

namespace Sys2Proof.Machine

/-- BUDGET_ESTIMATE (R337, R339, R340, R343, R344). DEDUCED (log 65). -/
def execBudgetEstimate (e : BitVec 16) (tj : List (BitVec 11)) (left : List Nat) (delta : Nat) (s : State) :
    Host.Outcome State Fault Refusal :=
  s.run fun d =>
    let ts := (List.range 8).map fun i => ((tj[i]?).map BitVec.toNat).getD (d.get .pwrTj i)
    let hot := ts.foldl max 0
    let d1 := (d.put .pwrEstimate 0 e.toNat).each (List.range 8) fun d i => d.put .pwrTj i (ts.getD i 0)
    let d2 := (d1.setFld .pwrStatus 0 0 11 hot).setBit .pwrStatus 0 25 (decide (d.pwrLimit < e.toNat))
    let d3 := d2.thermalAct hot
    if d3.breath ≠ 0 then d3 else ((d3.noteDelta delta).retrainByTemp hot).schedule e.toNat left

/-- SPEED_HOLD_RELEASE (R341). -/
def execSpeedHoldRelease (s : State) : Host.Outcome State Fault Refusal :=
  s.run fun d => (d.speedFree .pwr).setBit .pwrStatus 0 28 false

/-- POWER_OVER (R342). -/
def execPowerOver (s : State) : Host.Outcome State Fault Refusal :=
  s.run fun d => (((d.event .pwrEvent 0 1).raise .pwrOver 0).speedReq .pwr).setBit .pwrStatus 0 28 true

/-- TASK_DUE (R339, R340): a change-triggered daily is urgent on arrival. -/
def execTaskDueCmd (task : Fin 8) (change : Bool) (next : Nat) (s : State) : Host.Outcome State Fault Refusal :=
  s.run fun d =>
    let d1 := d.taskDue task.val (d.taskDeadlineAt task.val change next)
    if task.val = 7 ∧ change then d1.setBit .pwrTaskStatus 7 31 true else d1

/-- TASK_DEADLINE_MISS (R341): counted once per task and deadline. -/
def execTaskDeadlineMiss (task : Fin 8) (s : State) : Host.Outcome State Fault Refusal :=
  s.run fun d =>
    let t := task.val
    let x := d.task t
    if !d.taskActive t ∨ x.missed then d
    else (((d.count .pwrTaskMisses t).setTask t { x with missed := true }).event .pwrEvent 0 2).raise .pwrDeadline t

/-- TASK_COMPLETE (R339). -/
def execTaskComplete (task : Fin 8) (s : State) : Host.Outcome State Fault Refusal :=
  s.run fun d => if d.taskBit task.val 30 then d.taskDone task.val else d

/-- CHECKPOINT_COMMIT (R345, R346, R356): the running checkpoint, or the one that a restart writes. -/
def execCheckpointCommit (raw : List Byte) (s : State) : Host.Outcome State Fault Refusal :=
  s.run fun d =>
    if d.breath ≠ 0 then d
    else if d.pwr.rewrite.isSome then { d.checkpoint raw with pwr := { (d.checkpoint raw).pwr with rewrite := none } }
    else if d.taskBit 1 30 then (d.checkpoint raw).taskDone 1
    else d

/-- JOURNAL_WRITE (R347). -/
def execJournalWrite (s : State) : Host.Outcome State Fault Refusal := s.run fun d => d.journalWrite

/-- CKPT_NOW (R343, Table 13.11): task 1 is due and urgent. -/
def execCkptNow (s : State) : Host.Outcome State Fault Refusal :=
  s.run fun d => (d.taskDue 1 (d.taskDeadlineAt 1 false 0)).setBit .pwrTaskStatus 1 31 true

/-- DRONE_EN_WRITE (Table 13.11). -/
def execDroneEnWrite (on : Bool) (s : State) : Host.Outcome State Fault Refusal :=
  s.run fun d => d.setBit .pwrCtrl 0 0 on

/-- PF_GLITCH (R348). -/
def execPfGlitch (s : State) : Host.Outcome State Fault Refusal := s.run fun d => d.count .pwrPfGlitch 0

/-- BREATH_START (R348, R349). -/
def execBreathStart (s : State) : Host.Outcome State Fault Refusal :=
  s.run fun d =>
    let d1 := d.setBit .pwrStatus 0 23 true
    if d1.breath = 0 then d1.shed 1 false else d1

/-- SUPPLY_TRIP (R348): Breath goes to SAVE as soon as SHED is complete. -/
def execSupplyTrip (rail : Fin 4) (s : State) : Host.Outcome State Fault Refusal :=
  s.run fun d =>
    let d1 := (d.event .pwrEvent 0 6).raise .pwrSupply rail.val
    if d1.breath = 0 then d1.shed 2 true
    else if d1.breath = 1 then { d1 with pwr := { d1.pwr with trip := true } }
    else if d1.breath = 2 then d1.save
    else d1

/-- SHED_DONE (R349). DEDUCED (log 72). -/
def execShedDone (s : State) : Host.Outcome State Fault Refusal :=
  s.run fun d => if d.breath ≠ 1 then d else if d.pwr.trip then d.save else d.setBreath 2

/-- HOLD_EXPIRE (R349). -/
def execHoldExpire (s : State) : Host.Outcome State Fault Refusal :=
  s.run fun d => if d.breath = 2 ∧ d.bit .pwrStatus 0 23 then d.save else d

/-- PF_RECOVER (R352, R353): no save, unless a monitor trip began Breath or SAVE has started. DEDUCED (log 68). -/
def execPfRecover (s : State) : Host.Outcome State Fault Refusal :=
  s.run fun d =>
    let d1 := d.setBit .pwrStatus 0 23 false
    if (d1.breath = 1 ∨ d1.breath = 2) ∧ !d1.pwr.trip then d1.resume else d1

/-- BREATH_COMMIT (R350, R351): after every running cue sequence has completed or stopped (R353); a PORZ_N that came in
SAVE takes effect (R462). DEDUCED (log 68). -/
def execBreathCommit (parts part3 : List Byte) (s : State) : Host.Outcome State Fault Refusal :=
  s.run fun d =>
    if d.breath ≠ 4 ∨ !d.mgt.running.isEmpty then d
    else if d.sys.porz then (d.breathCommit parts part3).cold 1
    else d.breathCommit parts part3

/-- RESUME_COMPLETE (R353): back to RUN; PF_N asserted meanwhile starts Breath again. DEDUCED (log 68). -/
def execResumeComplete (s : State) : Host.Outcome State Fault Refusal :=
  s.run fun d =>
    if d.breath ≠ 3 then d
    else
      let d1 := d.resumed
      if d1.bit .pwrStatus 0 23 then d1.shed 1 false else d1

end Sys2Proof.Machine
end

