-- ==== Sys2Proof/Machine/ReelCmds.lean ====
section
/-! DEFINITION. The commands of the chapter "Reels, Strips and Composition" (R88 to R114). -/

namespace Sys2Proof.Machine

/-- REGION_OPEN (R90). DEDUCED (log 28). -/
def execRegionOpen (slot : Fin 4096) (w : List Word) (s : State) : Host.Outcome State Fault Refusal :=
  s.run fun d => d.entry slot.val 0x10 w fun d => d.regionOpen slot.val w

/-- REGION_CLOSE (R92). DEDUCED (log 28). -/
def execRegionClose (slot : Fin 4096) (w : List Word) (s : State) : Host.Outcome State Fault Refusal :=
  s.run fun d => d.entry slot.val 0x11 w fun d => d.regionClose slot.val w

/-- Bytes of entry words. -/
def entBytes (w : List Word) (i n : Nat) : List Byte := (List.range n).flatMap fun k => leBytes (entWord w (i + k)) 4

/-- The bytes of a BLOCK: from host memory, or from the staging area of an Ethernet-bound context (R296). -/
def Dev.blockBytes (d : Dev) (s : Nat) (w : List Word) (data : List Byte) : List Byte :=
  let clen := bits (entWord w 4) 0 18
  if d.slotBind s = 2 then Mem.readBytes (d.sess s).staging (entPair w 5) clen else data.take clen

/-- SRC of an Ethernet-bound context lies outside its staging area (R296). -/
def Dev.xptSrcBad (d : Dev) (s : Nat) (w : List Word) : Bool :=
  d.slotBind s == 2 && decide (2 ^ 20 * d.fld .xptSession s 0 16 < entPair w 5 + bits (entWord w 4) 0 18)

/-- The job that a BLOCK entry becomes. -/
def Dev.blockJob (d : Dev) (s : Nat) (w : List Word) (data : List Byte) : IngestJob :=
  let clen := bits (entWord w 4) 0 18
  { slot := s, tag := entTag w, region := bits (entWord w 1) 16 16, strip := bits (entWord w 2) 0 18,
    first := entWord w 3, lines := bits (entWord w 1) 8 8 + 1, heapOff := 0, heapLen := ceilDiv clen 64,
    sealedBytes := { cipher := d.blockBytes s w data, iv := entBytes w 7 3,
                     tag := BitVec.ofNat 128 (leNat (entBytes w 10 4)),
                     aad := leBytes (d.get .tenHandle s) 4 ++ entBytes w 1 4 } }

/-- End of a strip's last block, submitted ones included. -/
def Dev.stripEnd (d : Dev) (r : Region) (strip : Nat) : Nat :=
  ((r.strip strip).lockedTo :: ((r.strip strip).entries.map fun e => e.first + e.lines) ++
    ((d.waitingJobs.filter fun j => j.region == r.number && j.strip == strip).map fun j => j.first + j.lines)).foldl max 0

/-- Index entries of a strip in use, submitted ones included. -/
def Dev.stripUse (d : Dev) (r : Region) (strip : Nat) : Nat :=
  ((r.strip strip).entries.filter fun e => e.state != .free).length +
    (d.waitingJobs.filter fun j => j.region == r.number && j.strip == strip).length

/-- A block of a region is refused before its ingest check (R91, R94, R96). -/
def Dev.blockRefusal (d : Dev) (r : Region) (j : IngestJob) : Option ECode :=
  let t := r.strip j.strip
  let hit := t.entries.find? fun e => e.first == j.first && e.lines == j.lines
  let waiting := d.waitingJobs.any fun x => x.region == r.number && x.strip == j.strip && x.first == j.first &&
    x.lines == j.lines
  if r.stripCount ≤ j.strip ∨ d.image.bandsOf (r.stripParts j.strip).1 ≤ (r.stripParts j.strip).2.2 ∨
      r.endOfs < j.first + j.lines ∨ j.first < r.firstOfs then some .regionBounds
  else if (hit.map fun e => e.isLocked && e.state != .missing) = some true then some .blockLocked
  else if !d.beyondLock r j.strip j.first then some .blockLate
  else if hit.isNone && !waiting && decide (j.first < d.stripEnd r j.strip) then some .blockOrder
  else if hit.isNone && !waiting && decide (r.depth ≤ d.stripUse r j.strip) then some .reelFull
  else none

/-- BLOCK (R94, R275, R280, R296): a block that is accepted takes its place in the heap and waits for the ingest check. -/
def Dev.blockSubmit (d : Dev) (s : Nat) (w : List Word) (data : List Byte) : Dev :=
  let j := d.blockJob s w data
  match d.region? j.region with
  | none => d.entryErr s w .regionOwner
  | some r =>
    if r.slot ≠ s ∨ r.closed then d.entryErr s w .regionOwner
    else if bitOf (entWord w 7) 7 then d.entryErr s w .reelIv
    else if d.xptSrcBad s w then d.entryErr s w .xptSrc
    else match d.blockRefusal r j with
      | some e => d.entryErr s w e
      | none =>
        match r.heapTake j.heapLen with
        | none => d.entryErr s w .reelFull
        | some (off, r1) =>
          let d1 := d.setRegion r1
          { d1 with cmp := { d1.cmp with ingest := d1.cmp.ingest ++ [{ j with heapOff := off }] } }

/-- BLOCK (R94). DESIGN CHOICE (log 29). -/
def execBlock (slot : Fin 4096) (w : List Word) (data : List Byte) (s : State) : Host.Outcome State Fault Refusal :=
  s.run fun d => d.entry slot.val 0x20 w fun d => d.blockSubmit slot.val w data

/-- The result of the ingest check of a job: its refusal, with a REASON where the format is at fault (R95, R279). -/
def Dev.ingestRefusal (d : Dev) (r : Region) (j : IngestJob) : Option (ECode × Nat) :=
  let p := r.stripParts j.strip
  match aesGcmOpen ((d.ctx j.slot).key.getD []) j.sealedBytes.iv j.sealedBytes.aad j.sealedBytes.cipher
      j.sealedBytes.tag with
  | none => some (.reelAuth, 0)
  | some plain =>
    match decodeBlock plain (j.lines * d.image.bandSyms p.1 p.2.2) with
    | .error reason => some (.reelFormat, reason)
    | .ok x => if symbolCrc x.symbols = x.trailer then none else some (.reelCrc, 0)

/-- A format refusal of the ingest check is noted (R127, Table 5.7). -/
def Dev.fmtError (d : Dev) (reason slot : Nat) : Dev :=
  (d.put .cdcFmtLast 0 (reason <<< 28 + slot)).count .cdcFmtCount 0

/-- The ingest check of one job ends (R95, R100). -/
def Dev.ingestDone (d : Dev) (i : Nat) : Dev :=
  match d.cmp.ingest[i]? with
  | none => d
  | some j =>
    let d0 := { d with cmp := { d.cmp with ingest := d.cmp.ingest.eraseIdx i } }
    match d0.region? j.region with
    | none => d0.ingestFail j .regionOwner []
    | some r =>
      match d0.ingestRefusal r j with
      | some (e, reason) =>
        let d1 := d0.count .cmpIngestFail 0
        if e = .reelFormat then (d1.fmtError reason r.slot).ingestFail j e [reason] else d1.ingestFail j e []
      | none =>
        if d0.mirroring && d0.bit .tenState j.slot 27 then d0.ingestMirror j else d0.ingestStore j

/-- INGEST_CHECK_DONE (R95). -/
def execIngestCheckDone (job : Nat) (s : State) : Host.Outcome State Fault Refusal := s.run fun d => d.ingestDone job

/-- The read check of a block finds it bad (R126): it does not decode, or its symbols do not give its trailer. -/
def Dev.decodeBad (d : Dev) (r : Region) (s : Nat) (e : BlockEntry) : Bool :=
  let p := r.stripParts s
  match aesGcmOpen ((d.ctx r.slot).key.getD []) e.sealedBytes.iv e.sealedBytes.aad e.sealedBytes.cipher e.sealedBytes.tag with
  | none => false
  | some plain => match decodeBlock plain (e.lines * d.image.bandSyms p.1 p.2.2) with
    | .error _ => true
    | .ok x => symbolCrc x.symbols != x.trailer

/-- A fetch is due (R101): the web stands at most 64 lines before the block's first line prints on some row of the head
row. -/
def Dev.fetchDue (d : Dev) (r : Region) (s first sibling : Nat) : Bool :=
  let g := d.image
  let p := r.stripParts s
  let at' := r.lineAt first
  let now := d.posLineNow
  g.usedPorts.any fun n => g.get .headFluid n == p.1 && g.get .headSibling n == sibling && (g.rowBands n).contains p.2.2 &&
    (let x : Int := at' + g.rowD n p.2.1
     if r.reverse then decide (now ≤ x + 1 + 64) else decide (x ≤ now + 64))

/-- A locked block is delivered to the decompressors of a head row, or not (R105, R107). Units without the tag of its context
give no bytes: the block fails as one that does not authenticate does (R286). DESIGN CHOICE (log 112). -/
def Dev.fetchBlock (d : Dev) (region strip first sibling : Nat) (o : FetchOutcome) : Dev :=
  match d.region? region with
  | none => d
  | some r =>
    match (r.strip strip).entries.find? fun e => e.first == first && e.isLocked &&
        (e.state == .locked || e.state == .missing) with
    | none => d
    | some e =>
      if !d.fetchDue r strip first sibling then d
      else if e.state = .missing then d.storeCopy r strip e sibling
      else
      let x : Fetched := { region := region, strip := strip, first := first, sibling := sibling,
                           crcBad := decide (o = .crcBad) || d.decodeBad r strip e }
      let lost := { e with state := BlockState.missing }
      let ok := d.tagOk r.slot (.region r.number)
      let d := if ok then d else d.accessErr r.slot
      match if ok then o else .authFail 0 with
      | .authFail (k + 1) =>
        let good := min (k + 1) e.goodLines
        let r1 := r.updEntry strip first fun e => { e with goodLines := good }
        let d1 := (d.setRegion r1).spoil r strip (first + good) (e.lines - good) .auth
        let d2 := ((d1.event .cmpEvent 0 2).raise .reelAuth r.slot).storeCopy r strip e sibling
        { d2 with cmp := { d2.cmp with fetched := d2.cmp.fetched ++ [{ x with crcBad := false }] } }
      | .authFail 0 =>
        let r1 := (r.updEntry strip first fun e => { e with state := .missing }).heapFree e.heapOff
        (((((d.setRegion r1).spoil r strip first e.lines .auth).event .cmpEvent 0 2).raise .reelAuth r.slot).storeCopy r strip lost sibling).afterRetire
      | .poison =>
        (d.setRegion (r.updEntry strip first fun e => { e with state := .poisoned })).spoil r strip first e.lines .poison
      | _ =>
        if d.cmp.fetched.any fun y => y.region == region && y.strip == strip && y.first == first && y.sibling == sibling
        then d
        else (({ d with cmp := { d.cmp with fetched := d.cmp.fetched ++ [x] } }).storeCopy r strip e sibling)

/-- BLOCK_FETCH (R105). DESIGN CHOICE (log 29). -/
def execBlockFetch (region strip first : Nat) (sibling : Fin 4) (outcome : FetchOutcome) (s : State) :
    Host.Outcome State Fault Refusal :=
  s.run fun d => (d.fetchBlock region strip first sibling.val outcome).fillRows

/-- SEEK_DONE (R109). -/
def execSeekDone (port : Fin 192) (row : Fin 4) (s : State) : Host.Outcome State Fault Refusal :=
  s.run fun d =>
    let k := 4 * port.val + row.val
    ((d.setRowBuf port.val row.val { d.rowBuf port.val row.val with seeking := false }).setBit .rpStatus k 30 false).fillRow
      port.val row.val (d.nextTake port.val)

/-- What CMP_LEAD_LINES stores: 1 to 2,047 stores 2,048 (R101). DEDUCED (log 27). -/
def storedLead (v : Nat) : Nat :=
  let n := v % 2 ^ 24
  if n ≠ 0 ∧ n < 2048 then 2048 else n

/-- CMP_LEAD_LINES_WRITE (R101): the lock line moves forward at once where the lead is longer. -/
def execCmpLeadLinesWrite (req : Fin 5) (value : Word) (s : State) : Host.Outcome State Fault Refusal :=
  s.run fun d =>
    let _ := req
    let d1 := d.put .cmpLeadLines 0 (storedLead value.toNat)
    if d1.img.active.isSome then d1.lockAhead d1.posLineNow else d1

end Sys2Proof.Machine
end

