-- ==== Sys2Proof/Machine/Security.lean ====
section
/-! DEFINITION. The commands of the chapter "Security and Life Cycle" (R445 to R459). -/

namespace Sys2Proof.Machine

/-- KEY_LOCK (R457). -/
def execKeyLock (req : Fin 5) (s : State) : Host.Outcome State Fault Refusal :=
  s.run fun d => d.secAction req.val fun d => (d.setBit .secStatus 0 28 false).secLast none

/-- VCEIL_DOWN (R445, R447). DEDUCED (log 89). -/
def execVceilDown (req : Fin 5) (vpp : Bool) (s : State) : Host.Outcome State Fault Refusal :=
  s.run fun d => d.secAction req.val fun d =>
    if 8 ≤ d.sec.fuses.ceiling then d.secRefuse req.val .secFuseCount else d.startBurn req.val vpp .voltage

/-- FLOOR_UP (R446): not past the SVN of the running firmware. -/
def execFloorUp (req : Fin 5) (vpp : Bool) (s : State) : Host.Outcome State Fault Refusal :=
  s.run fun d => d.secAction req.val fun d =>
    if 63 ≤ d.sec.fuses.floor then d.secRefuse req.val .secFuseCount
    else if d.get .secFwSvn 0 < d.sec.fuses.floor + 1 then d.secRefuse req.val .secVersion
    else d.startBurn req.val vpp .floor

/-- REVOKE (R446): a programmed slot that is not revoked must remain. -/
def execRevoke (req : Fin 5) (vpp : Bool) (s : State) : Host.Outcome State Fault Refusal :=
  s.run fun d => d.secAction req.val fun d =>
    let k := d.fld .secArg 0 0 2
    let x := d.sec.fuses
    let remains := (List.range 4).any fun j => j != k && x.rootGood j
    if bitOf x.revoked k ∨ !remains then d.secRefuse req.val .secKeyRevoked else d.startBurn req.val vpp (.revoke k)

/-- ROOT_PROG (R446): in MANUFACTURE and PROVISIONED, once per slot. -/
def execRootProg (req : Fin 5) (vpp : Bool) (s : State) : Host.Outcome State Fault Refusal :=
  s.run fun d => d.secAction req.val fun d =>
    let k := d.fld .secArg 0 0 2
    if 2 ≤ d.lc then d.secRefuse req.val .secLcDenied
    else if bitOf d.sec.fuses.rootProg k then d.secRefuse req.val .secFuseCount
    else d.startBurn req.val vpp (.rootProg k d.rootKey)

/-- The entry that KEY_INSTALL writes, if it may (Table 18.5): the owner image key needs a signature of a root slot. -/
def Dev.keyEntry (d : Dev) (id root : Nat) (signature : List Byte) : Option (List Byte) :=
  let key := d.keyData
  match id with
  | 1 => if d.rootVerifies root (sha384 (key.take 96)) signature then some (key.take 96) else none
  | 2 => some (key.take 32)
  | 3 => some (key.take 32)
  | _ => none

/-- KEY_INSTALL (R457). DESIGN CHOICE (log 90). -/
def execKeyInstall (req : Fin 5) (root : Fin 4) (signature : List Byte) (s : State) : Host.Outcome State Fault Refusal :=
  s.run fun d => d.secAction req.val fun d =>
    let id := d.fld .secArg 0 0 4
    if d.lc = 0 ∨ d.lc = 4 ∨ !d.bit .secStatus 0 28 then d.secRefuse req.val .secLcDenied
    else match d.keyEntry id root.val signature with
      | none => d.secRefuse req.val .secLcDenied
      | some k => { d with sec := { d.sec with keys := Tab.set d.sec.keys id k } }.secLast none

/-- An NVA operation or a bar image load is in progress (R450). -/
def Dev.lcBusy (d : Dev) : Bool := d.firing || !d.mgt.ops.isEmpty || d.imgState == 1

/-- LC_GO (R450 to R452). -/
def execLcGo (req : Fin 5) (vpp : Bool) (s : State) : Host.Outcome State Fault Refusal :=
  s.run fun d => d.secAction req.val fun d =>
    let target := d.fld .secArg 0 0 3
    if d.lcBusy ∨ !d.lcAllowed target then d.secRefuse req.val .secLcDenied
    else if lcBurnsT d.lc target ∧ 16 ≤ d.sec.fuses.t then d.secRefuse req.val .secLcCount
    else d.startBurn req.val vpp (.lifeCycle target)

/-- FUSE_BURN_DONE (R445, R447, R452): the setting changes; a new ceiling goes to the heads, and a transition starts a
cold-reset cycle. DEDUCED (log 89). -/
def execFuseBurnDone (s : State) : Host.Outcome State Fault Refusal :=
  s.run fun d =>
    match d.sec.burning with
    | none => d
    | some b =>
      let d1 := (d.burned b).secLast none
      match b with
      | .voltage => d1.sendCeiling
      | .lifeCycle _ => d1.cold 3
      | _ => d1

/-- DEBUG_REQUEST (R456, R458, Table 18.6): served, or answered with BYPASS. DEDUCED (log 91). -/
def execDebugRequest (kind : Fin 5) (s : State) : Host.Outcome State Fault Refusal :=
  s.run fun d =>
    if kind.val < 2 ∨ (kind.val < 4 ∧ d.lc ≠ 2) then d.send (.debug 1)
    else (d.send (.debug 0)).refuse 4 .secDebugLocked

end Sys2Proof.Machine
end

