-- ==== Sys2Proof/Machine/Startup.lean ====
section
/-! DEFINITION. The commands of reset and start-up in the chapter "Reset, Start-Up and Calibration" (R460 to R467, R486). -/

namespace Sys2Proof.Machine

/-- A write of GLB_RESET: only with its KEY (R461). DEDUCED (log 16). -/
def Dev.keyed (d : Dev) (req : Nat) (key : BitVec 16) (f : Dev → Dev) : Dev :=
  if key.toNat = 0xc01d then f d else d.refuse req .secLcDenied

/-- GLB_RESET_COLD (R461). -/
def execGlbResetCold (req : Fin 5) (key : BitVec 16) (s : State) : Host.Outcome State Fault Refusal :=
  s.run fun d => d.keyed req.val key fun d => d.cold 4

/-- GLB_RESET_MGMT (R460, Table 19.1): the owner's NVA operation goes on. -/
def execGlbResetMgmt (req : Fin 5) (key : BitVec 16) (s : State) : Host.Outcome State Fault Refusal :=
  s.run fun d => d.keyed req.val key fun d => d.each (List.range 4) Dev.coreReset

/-- GLB_RESET_CORE (R428, R460): as a watchdog resets a core. -/
def execGlbResetCore (req : Fin 5) (key : BitVec 16) (cores : BitVec 4) (s : State) : Host.Outcome State Fault Refusal :=
  s.run fun d => d.keyed req.val key fun d =>
    d.each ((List.range 4).filter fun c => cores.getLsbD c) fun d c =>
      (((d.coreReset c).count .glbWdtResets c).irqPulse (1584 + c)).raise .mgmtWdt c

/-- PORZ_ASSERT (R462): at once in RUN; SHED and HOLD go to SAVE; in SAVE it waits for DONE. DEDUCED (log 95). -/
def execPorzAssert (s : State) : Host.Outcome State Fault Refusal :=
  s.run fun d =>
    let d1 := { d with sys := { d.sys with porz := true } }
    if d1.breath = 1 ∨ d1.breath = 2 then d1.save
    else if d1.breath = 4 then d1
    else d1.cold 1

/-- STARTUP_BEGIN (R462, R479, R483): PAIR_ID is sampled and the mode of the CMOS balls follows VDDIO.
DESIGN CHOICE (log 94). -/
def execStartupBegin (pairId io33 : Bool) (s : State) : Host.Outcome State Fault Refusal :=
  s.run fun d =>
    if d.sys.begun ∨ d.breath ≠ 0 then d
    else
      let d1 := { d with sys := { d.sys with begun := true, porz := false, io33 := io33 } }
      (d1.setBit .pwrStatus 0 24 true).setBit .ptnStatus 0 27 pairId

/-- The end of the stage that start-up stands in. DEDUCED (log 91); DESIGN CHOICE (log 94). -/
def Dev.endStage (d : Dev) : StageEnd → Dev
  | .clock locked => if locked then d.clockLocked else d.stageFails .clkEthref
  | .fuse burned => d.stageFuse burned
  | .sram => d.toStage 4
  | .boot => d.stageBoot
  | .cal => (d.setBit .calEvent 0 2 true).toStage 6
  | .dram config trained eyes => d.stageDram config trained eyes
  | .zero => d.stageZero
  | .image => d.toStage 9
  | .restore => d.restore.toStage 10
  | .role toggles record => d.stageRole toggles record

/-- STARTUP_STAGE_DONE (R463): only the stage in progress can end; a stage that failed has stopped start-up.
DESIGN CHOICE (log 94). -/
def execStartupStageDone (done : StageEnd) (s : State) : Host.Outcome State Fault Refusal :=
  s.run fun d => if !d.sys.begun ∨ d.bit .glbBootStage 0 27 ∨ d.stage ≠ done.stage then d else d.endStage done

/-- CLOCK_RETRY (R463, Table 19.2). -/
def execClockRetry (locked : Bool) (s : State) : Host.Outcome State Fault Refusal :=
  s.run fun d => if d.stage = 1 ∧ d.bit .glbBootStage 0 27 ∧ locked then d.clockLocked else d

/-- ETHREF_LOST (R467): firing stops, no record goes to the partner, and the Ethernet ports go down. -/
def execEthrefLost (s : State) : Host.Outcome State Fault Refusal :=
  s.run fun d =>
    let d1 := ((d.raise .clkEthref 0).stopByOther).stopReq .sys
    let d2 := { d1 with sys := { d1.sys with noTime := true }, ptn := { d1.ptn with actUntil := some 0, withdrawAt := none } }
    let cs := [54, 55, 56, 57, 58]
    let d3 := { (d2.setBit .lneGlbStatus 0 1 false) with lne := { d2.lne with noRef := d2.lne.noRef ++ cs } }
    (d3.each cs fun d c => d.setBit .cluStatus c 31 false).each (List.range 20) fun d p =>
      (d.groupDown (.ethernet p)).lanesOff (.ethernet p)

/-- PCIEREF_LOST (R301, R467): firing is never touched. -/
def execPcierefLost (s : State) : Host.Outcome State Fault Refusal :=
  s.run fun d =>
    let d1 := (d.pciReset true).raise .clkPcieref 0
    (d1.setBit .lneGlbStatus 0 0 false).setBit .cluStatus 59 31 false

/-- SYSREF_LOST (R421, R467). -/
def execSysrefLost (s : State) : Host.Outcome State Fault Refusal :=
  s.run fun d =>
    let d1 := d.each d.groups fun d g =>
      ((d.groupOffline g).raise .dmcFreeze (4 * g)).each ((List.range 4).map fun i => 4 * g + i) fun d c => d.drainChannel c
    if d.groups.isEmpty then d1 else (d1.event .dmcEvent 0 0).dramGone

/-- A line write in progress that is torn leaves 64 open bytes (R486). DEDUCED (log 95). -/
def Dev.tear (d : Dev) (bank : Nat) : Dev :=
  match d.nvaServed bank with
  | none => d
  | some o =>
    d.each (List.range 64) fun d i =>
      { d with nva := d.nva.write (o.bank * 0x16e3600 + 64 * o.line + i) (BitVec.ofNat 8 (d.free 8)) }.drawn

/-- AON_BROWNOUT (R486): reset at once, with no Breath. DEDUCED (log 95). -/
def execAonBrownout (torn : Option (Fin 4)) (s : State) : Host.Outcome State Fault Refusal :=
  s.run fun d => (match torn with
    | some b => d.tear b.val
    | none => d).cold 1

/-- PG_STABLE (R352): a cold-reset cycle in DONE. -/
def execPgStable (s : State) : Host.Outcome State Fault Refusal :=
  s.run fun d =>
    let d1 := d.setBit .pwrStatus 0 24 true
    if d1.breath = 5 then d1.cold 2 else d1

/-- PG_FALL (R352, R462): during start-up the controller returns to reset. DEDUCED (log 95). -/
def execPgFall (s : State) : Host.Outcome State Fault Refusal :=
  s.run fun d =>
    let d1 := d.setBit .pwrStatus 0 24 false
    if d1.sys.begun ∧ !d1.ready ∧ d1.breath = 0 then d1.cold (d1.get .glbResetCause 0) else d1

end Sys2Proof.Machine
end

