-- ==== Sys2Proof/Machine/Tenancy.lean ====
section
/-! DEFINITION. The commands of the chapter "Tenants, Rings and Isolation" (R264 to R289). -/

namespace Sys2Proof.Machine

/-! ### Doorbells and grants (R272 to R275) -/

/-- A slot's page takes tenant writes from the function, or none for the transport, that it is bound to (R286). -/
def Dev.boundTo (d : Dev) (s : Nat) (fn : Option (Fin 64)) : Bool :=
  match fn with
  | none => s != 0 && d.slotBind s == 2
  | some f => if s = 0 then f.val == 0 else d.slotBind s == 1 && d.slotVf s == f.val

/-- A tenant write to a slot's page (R266, R286): refused where the writer is not bound, ignored while in TRANSIT. -/
def Dev.tenantWrite (d : Dev) (s : Nat) (fn : Option (Fin 64)) (f : Dev → Dev) : Dev :=
  if !d.boundTo s fn then d.accessErr s
  else if d.inTransit .slot s then d.raise .transit s
  else f d

/-- The tenant writes entries into its submission ring from SQ_TAIL on, through BAR2 of its function (R271, Table 11.6). -/
def Dev.ringWrite (d : Dev) (s : Nat) (entries : List (List Word)) : Dev :=
  let c := d.ctx s
  let pos := bits (d.get .tenSqTail s) 0 16
  let words := (List.range entries.length).foldl (fun t i =>
    Tab.set t ((pos + i) % d.sqDepth s) ((entries.getD i []).map BitVec.toNat)) c.sqWords
  d.setCtx s { c with sqWords := words }

/-- SQ_TAIL_DOORBELL (R272), with the entries that the function has written into the ring before it. DESIGN CHOICE (log 29).
-/
def execSqTailDoorbell (slot : Fin 4096) (fn : Option (Fin 64)) (value : Word) (entries : List (List Word)) (s : State) :
    Host.Outcome State Fault Refusal :=
  s.run fun d => d.tenantWrite slot.val fn fun d => (d.ringWrite slot.val entries).sqDoorbell slot.val value.toNat

/-- CQ_HEAD_DOORBELL (R272). -/
def execCqHeadDoorbell (slot : Fin 4096) (fn : Option (Fin 64)) (value : Word) (s : State) : Host.Outcome State Fault Refusal :=
  s.run fun d => d.tenantWrite slot.val fn fun d => d.cqDoorbell slot.val value.toNat

/-- The exposed entries of a submission ring, in order (R271). -/
def Dev.grantWords (d : Dev) (s : Nat) : List (List Word) :=
  let pos := bits (d.get .tenSqHead s) 0 16
  (List.range (d.sqExposed s)).map fun i =>
    let w := Tab.get (d.ctx s).sqWords ((pos + i) % d.sqDepth s) []
    (List.range 16).map fun k => BitVec.ofNat 32 (w.getD k 0)

/-- How many of some entries, up to a number, make a batch: with the first, as many as keep their block data within 1 MiB
(R274). -/
def batchLen : Nat → Nat → List (List Word) → Nat
  | 0, _, _ => 0
  | _, _, [] => 0
  | n + 1, used, w :: ws =>
    let bytes := used + if entOpcode w = 0x20 then bits (entWord w 4) 0 18 else 0
    if used ≠ 0 ∧ 2 ^ 20 < bytes then 0 else 1 + batchLen n (max 1 bytes) ws

/-- One entry of a grant is taken; a malformed one is completed at once (R275). -/
def Dev.grantEntry (d : Dev) (s : Nat) (w : List Word) : Dev :=
  let d1 := (d.takeEntry s w).sqTake s 1
  match entryFault s w with
  | some e => d1.entryErr s w e
  | none => d1

/-- Grants left to a ring in the arbiter's round, at most its SHARE as it stands (R274). -/
def Dev.ringCredit (d : Dev) (s : Nat) : Nat := min (d.ctx s).credit (max 1 (d.get .tenShare s))

/-- A new round of the arbiter begins where no ring that is ready has a grant left: each of them has SHARE grants. -/
def Dev.arbRound (d : Dev) : Dev :=
  let ready := (d.ten.ctx.map Prod.fst).filter fun s => s != 0 && d.ringReady s
  if ready.any fun s => d.ringCredit s != 0 then d
  else d.each ready fun d s => d.setCtx s { d.ctx s with credit := max 1 (d.get .tenShare s) }

/-- The arbiter's choice falls on a ring: ring 0 whenever it is ready; another one with a grant left in the round, which
it uses up (R274). -/
def Dev.arbiter (d : Dev) (s : Nat) : Option Dev :=
  if !d.ringReady s then none
  else if s = 0 then some d
  else if d.ringReady 0 then none
  else
    let d1 := d.arbRound
    let n := d1.ringCredit s
    if n = 0 then none else some (d1.setCtx s { d1.ctx s with credit := n - 1 })

/-- RING_GRANT (R273, R274): up to 32 entries with room for their completions, and up to 1 MiB of block data.
DESIGN CHOICE (log 29); DEDUCED (log 30). -/
def execRingGrant (slot : Fin 4096) (s : State) : Host.Outcome State Fault Refusal :=
  s.run fun d =>
    let k := slot.val
    match d.arbiter k with
    | none => d
    | some d1 =>
      let words := (d1.grantWords k).takeWhile fun w => !d1.dmaHeld k w
      let n := batchLen (min 32 (d1.cqRoom k)) 0 words
      let d2 : Dev := (words.take n).foldl (fun d w => d.grantEntry k w) d1
      if k ≠ 0 ∧ d2.slotBind k = 2 then d2.xptSend k 4 (leBytes (d2.get .tenSqHead k) 4 ++ leBytes (d2.get .tenCqTail k) 4)
      else d2

/-- NOP (R275). -/
def execNop (slot : Fin 4096) (w : List Word) (s : State) : Host.Outcome State Fault Refusal :=
  s.run fun d => d.entry slot.val 0x01 w fun d => d.entryOk slot.val w []

/-- ACCT_READ (R283). -/
def execAcctRead (slot : Fin 4096) (w : List Word) (s : State) : Host.Outcome State Fault Refusal :=
  s.run fun d => d.entry slot.val 0x40 w fun d =>
    let f := bits (entWord w 1) 0 4
    let c := d.ctx slot.val
    d.entryOk slot.val w (wordsOf (Tab.get c.drops f 0) 3 ++ wordsOf (Tab.get c.energy f 0 / 1000 % 2 ^ 64) 2)

/-! ### Contexts (R264 to R270, R278, R284) -/

/-- An entry of ring 0 that changes contexts: a standby refuses it (R323). -/
def Dev.ctxEntry (d : Dev) (s opcode : Nat) (w : List Word) (f : Dev → Dev) : Dev :=
  d.entry s opcode w fun d => if d.isStandby then d.entryErr s w .ptnStandby else f d

/-- A CTX_OPEN entry whose BIND, VF or LOG2 fields name nothing the tables list. DEDUCED (log 57). -/
def Dev.openBad (d : Dev) (w : List Word) : Bool :=
  let bind := bits (entWord w 1) 24 2
  let vf := bits (entWord w 1) 26 6
  let top := d.cfg .maxRingLog2 0
  let sq := bits (entWord w 4) 0 5
  let cq := bits (entWord w 4) 8 5
  !(bind == 1 || bind == 2) || (bind == 1 && vf == 0) || decide (sq < 4) || decide (top < sq) || decide (cq < 4) ||
    decide (top < cq)

/-- A value of an entry, or its default where it is 0. -/
def orDefault (v dflt : Nat) : Nat := if v = 0 then dflt else v

/-- The page of a context that CTX_OPEN opens (Table 10.3). DEDUCED (log 57). -/
def Dev.openPage (d : Dev) (k : Nat) (w : List Word) : Dev :=
  let w1 := entWord w 1
  let w3 := entWord w 3
  let w4 := entWord w 4
  let bind := bits w1 24 2
  let cqHost := bitOf w1 17 && bind == 1
  let st := 1 <<< 29 + bits w1 16 1 <<< 27 + (if cqHost then 1 else 0) <<< 26 + bind <<< 24 +
    (if bind = 1 then bits w1 26 6 else 0) <<< 18 + bits w4 8 5 <<< 11 + bits w4 0 5 <<< 6
  let d1 := (((d.clearPage k).put .tenState k st).put .tenHandle k (d.ctxHandle k)).put .tenDramQuota k
    (16 * orDefault (entWord w 2) (d.cfg .defDramMb 0) % 2 ^ 32)
  ((d1.put .tenRegions k (orDefault (bits w3 0 16) (d.cfg .defRegions 0) <<< 16)).put .tenShare k
    (orDefault (bits w3 16 8) (d.cfg .defShare 0))).takeUnits k (ringUnits (bits w4 0 5) (bits w4 8 5) cqHost) .rings

/-- E_CTX_FULL is counted (R268). -/
def Dev.ctxRefused (d : Dev) (s : Nat) (w : List Word) (e : ECode) : Dev :=
  (if e = .ctxFull then (d.count .tenCtxFullCount 0).event .tenEvent 0 1 else d).entryErr s w e

/-- Contexts other than slot 0 are admitted: start-up is complete (Table 19.2). DEDUCED (log 93). -/
def Dev.admits (d : Dev) : Bool := d.fld .glbBootStage 0 28 4 == 15

/-- CTX_OPEN (R268): the checks in their order, then the context. -/
def Dev.ctxOpen (d : Dev) (s : Nat) (w : List Word) : Dev :=
  let w1 := entWord w 1
  let wrapped := ((w.drop 6).take 10).flatMap fun x => leBytes x.toNat 4
  let cqHost := bitOf w1 17 && bits w1 24 2 == 1
  let need := ringUnits (bits (entWord w 4) 0 5) (bits (entWord w 4) 8 5) cqHost
  let quota := 16 * orDefault (entWord w 2) (d.cfg .defDramMb 0)
  if d.openBad w then d.entryErr s w .ringEntry
  else if !d.admits then d.ctxRefused s w .ctxFull
  else match d.pickSlot (bitOf w1 12) (bits w1 0 12) with
    | .inr e => d.ctxRefused s w e
    | .inl k =>
      if bits w1 24 2 = 1 ∧ d.vfBound (bits w1 26 6) then d.entryErr s w .ctxBind
      else match d.unwrapKey wrapped with
        | none => d.entryErr s w .ctxKey
        | some key =>
          if quota < need ∨ d.get .tenPoolFree 0 < need then d.entryErr s w .quotaDram
          else
            let g := (d.ctx k).generation + 1
            let d1 := (d.setCtx k { Ctx.reset with generation := g, wrapped := wrapped, key := some key }).openPage k w
            ((d1.setBit .secStatus 0 28 false).contextChanged k 0).entryOk s w [d1.ctxHandle k]

/-- CTX_OPEN (R268). -/
def execCtxOpen (slot : Fin 4096) (w : List Word) (s : State) : Host.Outcome State Fault Refusal :=
  s.run fun d => d.ctxEntry slot.val 0x80 w fun d => d.ctxOpen slot.val w

/-- The slot that a handle names, for a command that the owner's own context may or may not take (R264, R265, R436). -/
def Dev.handleEntry (d : Dev) (s : Nat) (w : List Word) (owner : Bool) (f : Dev → Nat → Dev) : Dev :=
  match d.handleSlot (entWord w 1) with
  | none => d.entryErr s w .ctxStale
  | some k =>
    if k = 0 ∧ owner = false then d.entryErr s w .ctxOwner
    else if d.slotHeld k then d.entryErr s w .transit
    else f d k

/-- CTX_CLOSE (R284). -/
def execCtxClose (slot : Fin 4096) (w : List Word) (s : State) : Host.Outcome State Fault Refusal :=
  s.run fun d => d.ctxEntry slot.val 0x81 w fun d => d.handleEntry slot.val w false fun d k =>
    ((d.closeContext k).contextChanged k 1).entryOk slot.val w []

/-- CTX_PARK (R269): its sequence starts; the entry completes at its end. DEDUCED (log 58). -/
def execCtxPark (slot : Fin 4096) (w : List Word) (s : State) : Host.Outcome State Fault Refusal :=
  s.run fun d => d.ctxEntry slot.val 0x82 w fun d => d.handleEntry slot.val w false fun d k =>
    if d.cmp.regions.any (fun r => r.slot == k && !r.closed) ∨ d.hasSubs (d.ctxHandle k) ∨ (d.ctx k).taken ≠ [] then
      d.entryErr slot.val w .ctxBusy
    else match d.freePark with
      | none => d.entryErr slot.val w .parkFull
      | some n => (d.setCtx k { d.ctx k with parkTo := some n }).cueRequest (.park k (entTag w) n)

/-- A sequence that activates a park record runs or waits. -/
def Dev.activating (d : Dev) (n : Nat) : Bool :=
  (d.mgt.running.any fun r => match r.2.kind with
    | .activate _ _ k => k == n
    | _ => false) ||
  d.mgt.waiting.any fun r => match r.1 with
    | .activate _ _ k => k == n
    | _ => false

/-- CTX_ACTIVATE (R270): its sequence starts; the entry completes at its end. DEDUCED (log 58). -/
def execCtxActivate (slot : Fin 4096) (w : List Word) (s : State) : Host.Outcome State Fault Refusal :=
  s.run fun d => d.ctxEntry slot.val 0x83 w fun d =>
    let n := bits (entWord w 1) 0 16
    match d.pickSlot (bitOf (entWord w 2) 12) (bits (entWord w 2) 0 12) with
    | .inr e => d.ctxRefused slot.val w e
    | .inl k =>
      match Tab.find d.ten.parks n with
      | none => d.entryErr slot.val w .parkUnknown
      | some r =>
        if !d.admits then d.ctxRefused slot.val w .ctxFull
        else if d.activating n then d.entryErr slot.val w .transit
        else if r.lost then d.entryErr slot.val w .parkLost
        else if (d.unwrapKey r.ctx.wrapped).isNone then d.entryErr slot.val w .ctxKey
        else d.cueRequest (.activate k (entTag w) n)

/-- CTX_QUOTA (R278). -/
def execCtxQuota (slot : Fin 4096) (w : List Word) (s : State) : Host.Outcome State Fault Refusal :=
  s.run fun d => d.ctxEntry slot.val 0x84 w fun d => d.handleEntry slot.val w true fun d k =>
    let w3 := entWord w 3
    if bitOf w3 24 ≠ d.bit .tenState k 27 ∧ d.fld .tenRegions k 0 16 ≠ 0 then d.entryErr slot.val w .ctxBusy
    else
      let d1 := (d.put .tenDramQuota k (16 * entWord w 2 % 2 ^ 32)).setFld .tenRegions k 16 16 (bits w3 0 16)
      let d2 := (d1.put .tenShare k (bits w3 16 8)).setBit .tenState k 27 (bitOf w3 24)
      (d2.contextChanged k 4).entryOk slot.val w []

/-- CTX_ZERO_DONE (R284): the oldest units of a slot that are being zeroed return to the pool; where they were the last ones of
a closed context its slot is freed. -/
def execCtxZeroDone (slot : Fin 4096) (s : State) : Host.Outcome State Fault Refusal :=
  s.run fun d =>
    let k := slot.val
    match d.ten.zeroing.find? fun j => j.slot == k with
    | none => d
    | some j =>
      let d1 := { d with ten := { d.ten with zeroing := d.ten.zeroing.erase j } }
      let d2 := if k = 0 then d1 else d1.put .tenPoolFree 0 (d1.get .tenPoolFree 0 + j.units)
      if j.closesSlot then
        let h := d2.ctxHandle k
        let d3 := (d2.freeSlot k).noteContexts
        ((d3.mirrorCtx k).event .tenEvent 0 2).ctxEvent 0 .ctxFreed 0 h d3.fireIndex
      else d2

/-- HOST_CQ_WRITE_FAIL (Table 10.9): the rings of the context stop until it is closed. DEDUCED (log 59). -/
def execHostCqWriteFail (slot : Fin 4096) (s : State) : Host.Outcome State Fault Refusal :=
  s.run fun d =>
    let k := slot.val
    let d1 := (d.setCtx k { d.ctx k with stopped := true }).count .tenCqErr k
    ((d1.ctxEvent 0 .tenAccess 0 (d1.ctxHandle k) d1.fireIndex).event .tenEvent 0 3).raise .tenAccess k

end Sys2Proof.Machine
end

