-- ==== Sys2Proof/Machine/Rows.lean ====
section
/-! DEFINITION. Register accesses that have rows of their own in the table: a word of a register access, on its own or as half
of a 64-bit one, does what its row does (R5 to R7). -/

namespace Sys2Proof.Machine

/-- What a row's meaning makes of the controller. -/
def Dev.viaRow (d : Dev) (o : State → Host.Outcome State Fault Refusal) : Dev :=
  match o { dev := d, pending := [] } with
  | .next s => s.dev
  | .fault _ => d
  | .refused _ => d

/-- The same where a bit of the word written is 1 (SC). -/
def Dev.viaBit (d : Dev) (v k : Nat) (o : State → Host.Outcome State Fault Refusal) : Dev :=
  if bitOf v k then d.viaRow o else d

/-- The number of the core or owner that writes; another agent reaches none of the registers that tell it. -/
def agentFin : Agent → Fin 5
  | .core c => ⟨c.val, by omega⟩
  | _ => 4

/-- An instance as an index of n. -/
def inst (n k : Nat) [NeZero n] : Fin n := Fin.ofNat n k

/-- A write to IMG_CTRL (Table 2.12). Several bits set act in ascending order. DESIGN CHOICE (log 10). -/
def Dev.imgCommands (d : Dev) (q : Fin 5) (v : Nat) : Dev :=
  let d1 := d.viaBit v 0 (execLoad q (BitVec.ofNat 2 (bits v 8 2)))
  let d2 := (d1.viaBit v 1 (execArmHot q)).viaBit v 2 (execActStop q)
  ((d2.viaBit v 3 (execDisarm q)).viaBit v 4 (execDiscard q)).viaBit v 5 execPersist

/-- A write to POS_CTRL (Table 3.4): FIRE_EN acts where it changes. DESIGN CHOICE (log 10). -/
def Dev.posCommands (d : Dev) (q : Fin 5) (v : Nat) : Dev :=
  let d1 := if bitOf v 0 = d.fireEn then d else d.viaRow (if bitOf v 0 then execFireEn q else execFireDisable q)
  let d2 := (d1.viaBit v 1 execStopClr).viaBit v 2 (execZero q)
  (d2.viaBit v 3 (execCal q)).viaBit v 4 (execPassArm q)

/-- A write to SEC_CTRL (Table 18.8). DESIGN CHOICE (log 10). -/
def Dev.secCommands (d : Dev) (q : Fin 5) (v : Nat) (x : WriteAside) : Dev :=
  let d1 := (d.viaBit v 1 (execLcGo q x.vpp)).viaBit v 2 (execKeyInstall q x.root x.signature)
  let d2 := (d1.viaBit v 3 (execRootProg q x.vpp)).viaBit v 4 (execRevoke q x.vpp)
  ((d2.viaBit v 5 (execFloorUp q x.vpp)).viaBit v 6 (execVceilDown q x.vpp)).viaBit v 7 (execKeyLock q)

/-- A write to SYN_CTRL (Table 6.12): COMMIT and ABORT together act as ABORT alone (R164). -/
def Dev.synCommands (d : Dev) (q : Fin 5) (n : Fin 192) (v : Nat) : Dev :=
  let d1 := d.viaRow (execTableReadyWrite q n (bitOf v 0))
  if bitOf v 2 then d1.viaRow (execAbort q n) else d1.viaBit v 1 (execCommit q n)

/-- A write to CTL_AX[a].CTRL (Table 14.8): ABORT comes before PUSH (R376). -/
def Dev.axisCommands (d : Dev) (q : Fin 5) (a : Fin 32) (v : Nat) : Dev :=
  ((((d.viaBit v 2 (execAxisAbort a)).viaBit v 0 (execAxisPush q a)).viaBit v 1 (execAxisHalt a))).viaBit v 3 (execAxisHome q a)

/-- A write to PTN_CTRL (Table 12.11): PAIR_EN acts where it changes. DESIGN CHOICE (log 10). -/
def Dev.ptnCommands (d : Dev) (v : Nat) : Dev :=
  let d1 := if bitOf v 0 = d.bit .ptnCtrl 0 0 then d else d.viaRow (execPairEnWrite (bitOf v 0))
  ((d1.viaBit v 1 execPtnSurrender).viaBit v 2 execResync).viaBit v 3 execForceRemove

/-- A write to GLB_RESET (Table 19.5). -/
def Dev.resetCommands (d : Dev) (q : Fin 5) (v : Nat) : Dev :=
  let key : BitVec 16 := BitVec.ofNat 16 (bits v 16 16)
  let cores : BitVec 4 := BitVec.ofNat 4 (bits v 6 4)
  if bitOf v 0 then d.viaRow (execGlbResetCold q key)
  else (d.viaBit v 1 (execGlbResetMgmt q key)).viaRow (execGlbResetCore q key cores)

/-- A write of a tenant's doorbell, by a function or a session. -/
def Dev.doorbell (d : Dev) (a : Agent) (k : Nat) (o : Option (Fin 64) → State → Host.Outcome State Fault Refusal) : Dev :=
  match a with
  | .core _ => d.accessErr k
  | .function f => d.viaRow (o (some f))
  | .session => d.viaRow (o none)

/-- A word of the synthesis page of a port, at its offset in the HPT page. -/
def pageTarget (r : Reg) (k : Nat) (high : Bool) : SynTarget :=
  .page ((r.addr k % 0x1000 - 0x420) / 4 + (if high then 1 else 0))

/-- A word written to a register whose write is a row of its own (R5, R6); v is its 32 bits. What the word does not tell
comes beside it. DESIGN CHOICE (log 10). -/
def Dev.ownWrite (d : Dev) (a : Agent) (r : Reg) (k : Nat) (high : Bool) (v : Nat) (x : WriteAside) : Dev :=
  let q := agentFin a
  let w : Word := BitVec.ofNat 32 v
  match r with
  | .glbReset => d.resetCommands q v
  | .glbWdtKick => d.viaRow (execKick (inst 4 k))
  | .posCtrl => d.posCommands q v
  | .posPortDelay => d.viaRow (execPortDelayWrite q (inst 192 k) (BitVec.ofNat 16 v))
  | .irqMaskSet => d.viaRow (execIrqMaskSet (inst 64 k) w)
  | .irqMaskClr => d.viaRow (execIrqMaskClr (inst 64 k) w)
  | .irqPendSet => d.viaRow (execIrqPendSet (inst 64 k) w)
  | .irqPendClr => d.viaRow (execIrqPendClr (inst 64 k) w (x.edges.setWidth 32))
  | .pwrCtrl => (d.viaRow (execDroneEnWrite (bitOf v 0))).viaBit v 1 execCkptNow
  | .ptnCtrl => d.ptnCommands v
  | .ctlLoopCtrl => d.viaBit v 0 (execLoopResume q (inst 256 k))
  | .ctlLoopSp => d.viaRow (execLoopSpWrite (inst 256 k) (BitVec.ofNat 16 v))
  | .ctlAxCtrl => d.axisCommands q (inst 32 k) v
  | .ctlRcData => d.viaRow (execCtlRcDataAccess q high (some w))
  | .secCtrl => d.secCommands q v x
  | .calCtrl => if bitOf v 0 then d.viaRow (execCalCtrlRun (BitVec.ofNat 8 (bits v 8 8))) else d.put .calCtrl 0 (bits v 8 8 <<< 8)
  | .tsuCtrl => (d.viaBit v 0 (execTsuStep q)).viaBit v 1 (execTsuSet q)
  | .tsuInc => d.viaRow (execTsuIncWrite q (if high then .high else .low) (w.setWidth 64))
  | .cueAbort => d.viaRow (execCueAbort q (BitVec.ofNat 16 v) x.ahead)
  | .cueQuery => d.viaRow (execCueQuery (BitVec.ofNat 8 (bits v 16 8)) (BitVec.ofNat 12 v))
  | .linkCtrl => ((d.viaBit v 0 (execGo q (inst 192 k))).viaBit v 1 (execLeave q (inst 192 k))).viaBit v 2 (execRelink q (inst 192 k))
  | .synCtrl => d.synCommands q (inst 192 k) v
  | .lmap => d.viaRow (execNztWrite q (inst 192 (k / 16)) (pageTarget r k high) false w)
  | .nbr => d.viaRow (execNztWrite q (inst 192 k) (pageTarget r k high) false w)
  | .xtW => d.viaRow (execNztWrite q (inst 192 (k / 7)) (pageTarget r k high) false w)
  | .xtAct => d.viaRow (execNztWrite q (inst 192 (k / 4)) (pageTarget r k high) false w)
  | .xtThr => d.viaRow (execNztWrite q (inst 192 (k / 8)) (pageTarget r k high) false w)
  | .energy => d.viaRow (execNztWrite q (inst 192 (k / 16)) (pageTarget r k high) false w)
  | .embHcCtrl => d.viaRow (execHealthGo q w)
  | .hlGlbCtrl => d.viaBit v 0 (execGoAll q)
  | .embCtrl => d.viaBit v 0 (execRetire q (inst 200 k))
  | .insCtrl =>
    ((d.viaRow (execInsRunWrite (inst 24 k) (bitOf v 0))).viaBit v 2 (execInsClose (inst 24 k))).viaBit v 3
      (execInsRelink (inst 24 k))
  | .insGtData => d.viaRow (execGtDataAccess q (inst 24 k) (some w))
  | .lneInjCtrl => d.viaRow (execInjCtrlWrite q (inst 1024 k) w)
  | .lneGlbCtrl => d.viaBit v 0 execScanNow
  | .dmcGrpCtrl => d.viaBit v 0 (execGroupReset q (inst 4 k))
  | .dmcPrio => d.viaRow (execDmcPrioWrite (inst 9 k) (BitVec.ofNat 3 v))
  | .cmpLeadLines => d.viaRow (execCmpLeadLinesWrite q w)
  | .toutCtrl => d.viaRow (execToutArm q (inst 8 k) w)
  | .tenSqTail => d.doorbell a k fun fn => execSqTailDoorbell (inst 4096 k) fn w x.entries
  | .tenCqHead => d.doorbell a k fun fn => execCqHeadDoorbell (inst 4096 k) fn w
  | _ => d

/-- The commands of a register that is not itself one: SC bits beside RW ones, and LOST, whose W1C returns an input.
DESIGN CHOICE (log 10). -/
def Dev.besideWrite (d : Dev) (a : Agent) (r : Reg) (k : Nat) (v : Nat) (x : WriteAside) : Dev :=
  let q := agentFin a
  match r with
  | .imgCtrl => d.imgCommands q v
  | .posEncStatus => d.viaBit v 31 (execInputReturn (inst 8 k))
  | .qlCtrl => d.viaBit v 8 execQlClear
  | .lneCtrl => (d.viaBit v 4 (execLaneRetrain (inst 1024 k))).viaBit v 5 (execLaneRevive (inst 1024 k))
  | .nvaOpCtrl => d.viaBit v 0 (execNvaOpGo (inst 5 k) (bitOf v 1) x.fetch)
  | _ => d

/-- A command that a write gives before its RW bits are stored: TEST of a lane, where it changes (R399).
DESIGN CHOICE (log 10). -/
def Dev.beforeStore (d : Dev) (a : Agent) (r : Reg) (k : Nat) (v : Nat) : Dev :=
  match r with
  | .lneCtrl =>
    if bitOf v 0 = d.bit .lneCtrl k 0 then d else d.viaRow (execLaneTest (agentFin a) (inst 1024 k) (bitOf v 0))
  | _ => d

/-- A word of the per-nozzle window (R163). -/
def Dev.nztWord (d : Dev) (a : Agent) (offset v : Nat) : Dev :=
  d.viaRow (execNztWrite (agentFin a) (inst 192 (offset / 0x20000)) (.nozzle (offset % 0x20000 / 8)) (offset % 8 == 4)
    (BitVec.ofNat 32 v))

/-- A read that has a row of its own: it changes state. -/
def readOfOwn (r : Reg) (k : Nat) (high : Bool) : Bool :=
  r == .insGtData || r == .ctlRcData || r == .irqClaimN || r == .irqClaimF || r == .irqKeeperClaim ||
    (r == .epTxts && k % 4 == 3 && !high)

/-- A word read from a register whose read is a row of its own (R6, R7). DESIGN CHOICE (log 10). -/
def Dev.ownRead (d : Dev) (a : Agent) (r : Reg) (k : Nat) (high : Bool) : Dev :=
  let q := agentFin a
  match r with
  | .insGtData => d.viaRow (execGtDataAccess q (inst 24 k) none)
  | .ctlRcData => d.viaRow (execCtlRcDataAccess q high none)
  | .irqClaimN => d.viaRow (execClaim q (inst 5 (k % 4)) false)
  | .irqClaimF => d.viaRow (execClaim q (inst 5 (k % 4)) true)
  | .irqKeeperClaim => d.viaRow (execClaim q 4 false)
  | .epTxts => d.viaRow (execTxtsPop q (inst 20 (k / 4)))
  | _ => d

end Sys2Proof.Machine
end

