-- ==== Sys2Proof/Machine/Access.lean ====
section
/-! DEFINITION. Register accesses of no row of their own: writes by access code, refused accesses, reads and their
latches (R5 to R8, R52, R286, R429, R436). -/

namespace Sys2Proof.Machine

/-! ### Who accesses -/

/-- The owner's side: its GLB_LAST_ERR (Table 17.10). -/
def agentReq : Agent → Option Nat
  | .core c => some c.val
  | .function f => if f.val = 0 then some 4 else none
  | .session => none

/-- The number under which a read returns: cores 0 to 3, 4 the owner, 4 + f VF f, 68 a session. -/
def agentNumber : Agent → Nat
  | .core c => c.val
  | .function f => 4 + f.val
  | .session => 68

/-- The function of a tenant-side writer; a core is none of them. -/
def agentFn : Agent → Option (Option (Fin 64))
  | .core _ => none
  | .function f => some (some f)
  | .session => some none

/-- A code goes to the writer: to its GLB_LAST_ERR, or, for a writer that has none, is raised alone. -/
def Dev.refuseAgent (d : Dev) (a : Agent) (e : ECode) (place : Nat) : Dev :=
  match (agentReq a) with
  | some q => d.refuse q e
  | none => d.raise e place

/-- The slot whose page holds a control-space offset. -/
def pageSlot (addr : Nat) : Option Nat :=
  if 0x800000 ≤ addr ∧ addr < 0x900000 then some ((addr - 0x800000) / 256) else none

/-- An agent reaches a control-space offset: cores and the owner all of it, a VF or a session only the page of the slot
bound to it (R286, R429). DEDUCED (log 12). -/
def Dev.reaches (d : Dev) (a : Agent) (addr : Nat) : Bool :=
  if (agentReq a).isSome then true
  else match pageSlot addr, agentFn a with
    | some s, some fn => d.boundTo s fn
    | _, _ => false

/-- A VF with no bound context: its page reads 0 and ignores writes (R300). -/
def Dev.vfUnbound (d : Dev) (a : Agent) : Bool :=
  match a with
  | .function f => f.val != 0 && (List.range 4096).all fun s => s == 0 || d.slotBind s != 1 || d.slotVf s != f.val
  | _ => false

/-- An access of a kind the registers do not take, or to an offset that nothing occupies (R6, R429). -/
def Dev.badAccess (d : Dev) : Dev := d.count .glbBadAccess 0

/-- The access is aligned: 32 bits to a multiple of 4, 64 bits to a multiple of 8 (R6). -/
def aligned (addr : Nat) (wide : Bool) : Bool := addr % (if wide then 8 else 4) == 0

/-! ### Writing -/

/-- The object of a register that can be in TRANSIT (R436). -/
def objectOf (r : Reg) (k : Nat) : Option (ObjClass × Nat) :=
  let i := k / r.desc.c2
  match r.desc.block with
  | .emb => if r.desc.c1 = 200 then some (.engine, i) else none
  | .hpt => if r.desc.c1 = 192 then some (.port, i) else none
  | .ten => if r.desc.c1 = 4096 then some (.slot, i) else none
  | .dmc => if r.desc.c1 = 16 then some (.group, i / 4)
            else if r = .dmcGrpCtrl ∨ r = .dmcGrpStatus then some (.group, i) else none
  | _ => none

/-- A write of a word to the register is a row of its own. DESIGN CHOICE (log 10). -/
def Reg.rowOfOwn (r : Reg) (v : BitVec 64) : Bool :=
  r.desc.own || r == .toutCtrl || (r == .embHcCtrl && bitOf v.toNat 31)

/-- Registers that only the tenant writes (Table 10.11). DEDUCED (log 12). -/
def Reg.tenantOnly (r : Reg) : Bool := r == .tenState || r == .tenCqHostBase

/-- The half of a 64-bit register. -/
def halfLsb (high : Bool) : Nat := if high then 32 else 0

/-- A register after a write of one half by its access codes: RW bits take the value, W1C bits written as 1 clear but for those
that an event sets in the same clock, the rest stay (R5, R8, R11). -/
def storeHalf (r : Reg) (high : Bool) (old v edges : BitVec 64) : BitVec 64 :=
  let half : BitVec 64 := 0xffffffff <<< halfLsb high
  let x := (v &&& 0xffffffff) <<< halfLsb high
  let e := (edges &&& 0xffffffff) <<< halfLsb high
  let rw := r.desc.rw &&& half
  (((old &&& ~~~rw) ||| (x &&& rw)) &&& ~~~(x &&& r.desc.w1c &&& half)) ||| (e &&& r.desc.w1c &&& half)

/-- A channel's group is retraining (R425). -/
def Dev.anyTraining (d : Dev) : Bool := (List.range 16).any fun c => d.bit .dmcStatus c 28

/-- Why a write is ignored with a code (R52, R164, R239, R263, R425). -/
def Dev.writeBusy (d : Dev) (r : Reg) (k : Nat) : Option ECode :=
  let st := d.imgState
  match r with
  | .imgCtrl => if st = 1 ∨ st = 4 then some .imgBusy else none
  | .imgSrcAddr => if st = 1 ∨ st = 4 then some .imgBusy else none
  | .imgActFire => if st = 1 ∨ st = 3 ∨ st = 4 then some .imgBusy else none
  | .updFire => if d.bit .synStatus k 14 then some .nztBusy else none
  | .insStatRingBase => if d.pipeRuns k then some .insRunning else none
  | .insStatRingCtrl => if d.pipeRuns k then some .insRunning else none
  | .qlLogBase => if d.bit .qlCtrl 0 0 then some .qlRunning else none
  | .qlLogCtrl => if d.bit .qlCtrl 0 0 then some .qlRunning else none
  | .dmcPnrCfg => if d.anyTraining then some .dmcBusy else none
  | .dmcTrainMin => if d.anyTraining then some .dmcBusy else none
  | _ => none

/-- Writes ignored without a code: CQ_HOST_BASE with CQ_EN = 1 (R289); rate, pattern and loopback outside TEST (R405,
Table 15.6). -/
def Dev.writeDropped (d : Dev) (r : Reg) (k : Nat) : Bool :=
  match r with
  | .tenCqHostBase => d.bit .tenState k 1
  | .lneRateKbps => d.laneSt k != 10
  | .lnePrbsCtrl => d.laneSt k != 10
  | .lneCtrl => d.laneSt k != 10
  | _ => false

/-- Before the rate or the pattern of a lane in TEST changes, what it has counted is added up; the checker locks anew. -/
def Dev.beforeWrite (d : Dev) (r : Reg) (k : Nat) (v : BitVec 64) : Dev :=
  if (r = .lneRateKbps ∨ r = .lnePrbsCtrl) ∧ v ≠ d.rd r k then
    let on := (d.lane k).injectAt.isSome
    let d1 := (d.prbsStop k).injStop k
    if on then d1.setLane k { d1.lane k with injectAt := some d1.now } else d1
  else d

/-- What follows a write: event sources go to their level (R438), a source made level-sensitive follows its level (R439),
RUNNING of the loop, the entries that waited for CQ_EN, and links of an Ethernet port that is disabled. -/
def Dev.afterWrite (d : Dev) (r : Reg) (k : Nat) : Dev :=
  match r with
  | .irqSrcCfg => if d.irqSense k = 0 then d.irqPend k (d.bit .irqLevel (k / 32) (k % 32)) else d
  | .qlCtrl => d.noteLoop
  | .tenState =>
    let d1 := d.tellDue k
    Dev.postDone (d1.ctx k).taken.length d1 k
  | .epCtrl =>
    let up := d.fld .epStatus k 28 4
    let keep := if !d.bit .epCtrl k 0 then 0 else if d.bit .epCtrl k 1 then up &&& d.fld .epCtrl k 8 4 else up
    if keep = up then d else d.ethLink k keep (d.fld .epStatus k 26 2)
  | _ => d.refreshEvent r k

/-- A register takes a value. DEDUCED (log 14, 15). -/
def Dev.storeReg (d : Dev) (r : Reg) (k : Nat) (v : BitVec 64) : Dev :=
  ((d.beforeWrite r k v).wr r k v).afterWrite r k

/-- MODE of an Ethernet port stays while EN is 1 (R290). DEDUCED (log 13). -/
def Dev.storeEp (d : Dev) (a : Agent) (k : Nat) (v : BitVec 64) : Dev :=
  let old := d.rd .epCtrl k
  if old &&& 1 = 1 ∧ (v ^^^ old) &&& 2 ≠ 0 then (d.refuseAgent a .epBusy k).storeReg .epCtrl k (v ^^^ 2)
  else d.storeReg .epCtrl k v

/-- The RW and W1C bits of a word written to a register (R5, R8, R11). -/
def Dev.writeBits (d : Dev) (a : Agent) (r : Reg) (k : Nat) (high : Bool) (v edges : BitVec 64) : Dev :=
  if (objectOf r k).any fun o => d.inTransit o.1 o.2 then d.refuseAgent a .transit k
  else match d.writeBusy r k with
    | some e => d.refuseAgent a e k
    | none =>
      if d.writeDropped r k then d
      else if r = .epCtrl then d.storeEp a k (storeHalf r high (d.rd r k) v edges)
      else d.storeReg r k (storeHalf r high (d.rd r k) v edges)

/-- IMG_CTRL with a command bit set, while SRC may not be written: SRC stays and the command acts. DESIGN CHOICE (log 10). -/
def Dev.commandOnly (d : Dev) (r : Reg) (k : Nat) (v : BitVec 64) : Bool :=
  r == .imgCtrl && (d.writeBusy r k).isSome && decide (v.toNat % 64 ≠ 0)

/-- A word written to a register: its row's meaning, or its bits by their access codes and the commands beside them (R5,
R6). DESIGN CHOICE (log 10). -/
def Dev.writeReg (d : Dev) (a : Agent) (r : Reg) (k : Nat) (high : Bool) (v : BitVec 64) (x : WriteAside) : Dev :=
  let n := v.toNat % 2 ^ 32
  if r.rowOfOwn v then d.ownWrite a r k high n x
  else if d.commandOnly r k v then d.besideWrite a r k n x
  else (((d.beforeStore a r k n).writeBits a r k high v x.edges).besideWrite a r k n x)

/-- The per-nozzle window: 128 KiB for each head port (Table 17.2). -/
def inNzt (addr : Nat) : Bool := decide (0x1000000 ≤ addr ∧ addr < 0x1000000 + 0x20000 * 192)

/-- One word written at a control-space offset: an agent that does not reach it is refused (R286); nothing there is a bad
access (R429); a tenant's registers take its own writes only. -/
def Dev.writeWord (d : Dev) (a : Agent) (addr : Nat) (v : BitVec 64) (x : WriteAside) : Dev :=
  if d.vfUnbound a then d
  else if !d.reaches a addr then d.accessErr ((pageSlot addr).getD 0)
  else match Reg.find addr with
    | none => if inNzt addr then d.nztWord a (addr - 0x1000000) (v.toNat % 2 ^ 32) else d.badAccess
    | some (r, k, high) =>
      if r.tenantOnly then
        match agentFn a with
        | some fn => if d.boundTo k fn then d.writeReg a r k high v x else d.accessErr k
        | none => d.accessErr k
      else d.writeReg a r k high v x

/-- What goes beside the high word of a write. -/
def asideHigh (x : WriteAside) : WriteAside := { x with edges := x.edges >>> 32 }

/-- REGISTER_WRITE (R5 to R8): 64 bits go low word first. DESIGN CHOICE (log 10). -/
def execRegisterWrite (writer : Agent) (addr : BitVec 28) (value : BitVec 64) (wide : Bool) (aside : WriteAside) (s : State) :
    Host.Outcome State Fault Refusal :=
  s.run fun d =>
    let a := addr.toNat
    if !aligned a wide then d.badAccess
    else if wide then (d.writeWord writer a value aside).writeWord writer (a + 4) (value >>> 32) (asideHigh aside)
    else d.writeWord writer a value aside

/-- BAD_ACCESS (R6): a read returns 0. -/
def execBadAccess (requester : Agent) (read : Bool) (addr : BitVec 28) (s : State) : Host.Outcome State Fault Refusal :=
  s.run fun d =>
    let d1 := d.badAccess
    if read then d1.send (.readData (agentNumber requester) addr.toNat 0) else d1

/-! ### Reading -/

/-- CAL_ITEM[i].STATUS of the place that CAL_SEL selects (Table 19.8); NOSET shows from stage CAL on. DESIGN CHOICE (log 97). -/
def Dev.calStatus (d : Dev) (i : Nat) : Nat :=
  let k := d.get .calSel 0
  let c := d.calCell i k
  let sets := (List.range 5).filter fun j => (Tab.find d.sys.sets (i, k, j)).isSome
  (if i ∈ d.sys.running then 2 ^ 31 else 0) + (if sets.isEmpty && decide (5 ≤ d.stage) then 2 ^ 30 else 0) + (if c.interp then 2 ^ 29 else 0) +
    c.cause <<< 27 + (sets.map fun j => 2 ^ (22 + j)).sum

/-- A CAL register as it stands. -/
def Dev.calReg (d : Dev) (r : Reg) (k : Nat) : Nat :=
  let p := d.get .calSel 0
  match r with
  | .calItemStatus => d.calStatus k
  | .calItemValue => unsignedOf 32 (d.calCell k p).value
  | .calItemCount => (d.calCell k p).count
  | .calItemFail => (d.calCell k p).fail
  | .calItemLastNs => (d.calCell k p).lastNs
  | .calItemLastFire => (d.calCell k p).lastFire
  | .calItemSet => unsignedOf 32 (Tab.get d.sys.sets (k / 5, p, k % 5) 0)
  | _ => 0

/-- Sums of a slot's accounts over its fluids (R283). -/
def Dev.dropSum (d : Dev) (s : Nat) : Nat := ((d.ctx s).drops.map Prod.snd).sum
def Dev.energySum (d : Dev) (s : Nat) : Nat := ((d.ctx s).energy.map fun t => t.2 / 1000).sum

/-- LAST_MS of a task (Table 13.13): 0 before its first completion. -/
def Dev.lastMs (d : Dev) (t : Nat) : Nat :=
  match (d.task t).last with
  | some x => min (2 ^ 32 - 1) ((d.now - x) / 1000000000)
  | none => 0

/-- The bits of a register whose actions are not complete (SC, Table 0.3): LOAD while LOADING, ACT_STOP while a stop activation
runs, PERSIST; GO of an NVA operation; a burn of SEC_CTRL; a run of CAL_CTRL's item; HALT and HOME of an axis; a group reset.
Every other action is complete at once. DEDUCED (log 114). -/
def Dev.actionBits (d : Dev) (r : Reg) (k : Nat) : Nat :=
  let flag := fun (b : Bool) (i : Nat) => if b then 2 ^ i else 0
  match r with
  | .imgCtrl => flag (d.imgState == 1) 0 + flag (d.imgState == 4 && !d.bit .imgStatus 0 3 && !d.img.staged) 2 + flag d.img.persist.isSome 5
  | .nvaOpCtrl => flag (d.bit .nvaOpStatus k 31) 0
  | .secCtrl =>
    match d.sec.burning with
    | some (.lifeCycle _) => 2
    | some (.rootProg _ _) => 8
    | some (.revoke _) => 16
    | some .floor => 32
    | some .voltage => 64
    | none => 0
  | .calCtrl => flag (d.sys.running.contains (d.fld .calCtrl 0 8 8)) 0
  | .ctlAxCtrl => flag (d.axis k).halting 1 + flag (d.axis k).homing.isSome 3
  | .dmcGrpCtrl => flag (d.bit .dmcGrpStatus k 30) 0
  | _ => 0

/-- CUE_QUERY_RESULT as it stands (R436). -/
def Dev.queryResult (d : Dev) : Nat :=
  match (queryObject (d.fld .cueQuery 0 16 8) (d.fld .cueQuery 0 0 12)).bind d.transitOf with
  | some g => 2 ^ 31 + g
  | none => 0

/-- Bits that show the level of an input: PG and PF_N, PRESENT_N and the heartbeat, VPP_FUSE, and the reference clocks.
DESIGN CHOICE (log 92). -/
def levelBits : Reg → Nat
  | .pwrStatus => 3 <<< 23
  | .ptnStatus => 3 <<< 25
  | .secStatus => 1 <<< 27
  | .lneGlbStatus => 15
  | _ => 0

/-- What a register holds: bits that show levels read their Reset value after a cold reset until stage CLOCK has ended (R9).
DESIGN CHOICE (log 92). -/
def Dev.shown (d : Dev) (r : Reg) (k : Nat) : Nat :=
  if d.stage = 1 then (d.get r k - (d.get r k &&& levelBits r)) else d.get r k

/-- The value of a register at this instant: most hold it; these are computed from other state. -/
def Dev.liveReg (d : Dev) (r : Reg) (k : Nat) : Nat :=
  match r with
  | .posLine => unsignedOf 64 (d.linePos d.now / 2 ^ 32)
  | .posLineFrac => ((d.linePos d.now % 2 ^ 32) / 2 ^ 20).toNat
  | .irqMaskClr => d.get .irqMaskSet k
  | .irqPendClr => d.get .irqPendSet k
  | .imgClampReport => ((d.img.report[k / 4]?.map fun e => e.words.getD (k % 4) 0)).getD 0
  | .lnePrbsBits => d.prbsBits k
  | .lneInjCount => d.injCount k
  | .dmcCeDev => (d.recent (k / 20) (k % 20)).length
  | .pwrTaskLastMs => d.lastMs k
  | .calItemStatus => d.calReg r k
  | .calItemValue => d.calReg r k
  | .calItemCount => d.calReg r k
  | .calItemFail => d.calReg r k
  | .calItemLastNs => d.calReg r k
  | .calItemLastFire => d.calReg r k
  | .calItemSet => d.calReg r k
  | .tenAcctDrops => (wordsOf (d.dropSum (k / 3)) 3).getD (k % 3) 0
  | .tenAcctEnergy => d.energySum k % 2 ^ 64
  | .epTxts => d.txtsWord (k / 4) (k % 4)
  | .cueQueryResult => d.queryResult
  | _ => if r.desc.wo then 0 else d.shown r k ||| d.actionBits r k

/-- A word of a register at this instant. -/
def Dev.liveHalf (d : Dev) (r : Reg) (k : Nat) (high : Bool) : Nat := bits (d.liveReg r k) (halfLsb high) 32

/-- Latch a word for the read that follows, by its control-space offset (R7). DEDUCED (log 11). -/
def Dev.latchWord (d : Dev) (addr v : Nat) : Dev := { d with latch := Tab.set d.latch addr v }

/-- What a read of a low word latches: the high word and an attached fraction (R7, R64, R283, R305). -/
def Dev.latchWith (d : Dev) (r : Reg) (k : Nat) : Dev :=
  let d1 := if r.desc.wide then d.latchWord (r.addr k + 4) (d.liveHalf r k true) else d
  match r with
  | .posLine => d1.latchWord (Reg.posLineFrac.addr 0) (d.liveReg .posLineFrac 0)
  | .tsuTime => d1.latchWord (Reg.tsuFrac.addr 0) (d.liveReg .tsuFrac 0)
  | .epTxts => if k % 4 = 0 then d1.latchWord (r.addr (k + 1)) (d.liveReg r (k + 1)) else d1
  | .tenAcctDrops =>
    if k % 3 = 0 then
      (d1.latchWord (r.addr (k + 1)) (d.liveReg r (k + 1))).latchWord (r.addr (k + 2)) (d.liveReg r (k + 2))
    else d1
  | _ => d1

/-- A word read from a register: a latched one once, else as it stands. -/
def Dev.readReg (d : Dev) (a : Agent) (addr : Nat) (r : Reg) (k : Nat) (high : Bool) : Dev :=
  match Tab.find d.latch addr with
  | some v => { (d.send (.readData (agentNumber a) addr v)) with latch := Tab.erase d.latch addr }
  | none =>
    let d1 := if high then d else d.latchWith r k
    d1.send (.readData (agentNumber a) addr (d.liveHalf r k high))

/-- One word read at a control-space offset. -/
def Dev.readWord (d : Dev) (a : Agent) (addr : Nat) : Dev :=
  if d.vfUnbound a then d.send (.readData (agentNumber a) addr 0)
  else if !d.reaches a addr then (d.accessErr ((pageSlot addr).getD 0)).send (.readData (agentNumber a) addr 0)
  else match Reg.find addr with
    | none =>
      if inNzt addr then
        let x := addr - 0x1000000
        d.send (.readData (agentNumber a) addr (bits (d.tableEntry (x / 0x20000) (x % 0x20000 / 8)) (8 * (x % 8)) 32))
      else d.badAccess.send (.readData (agentNumber a) addr 0)
    | some (r, k, high) => if readOfOwn r k high then d.ownRead a r k high else d.readReg a addr r k high

/-- LOW_WORD_READ_LATCH (R7): a read of a register word, and, of 64 bits, of its two words in rising order (R6).
DESIGN CHOICE (log 10); DEDUCED (log 11). -/
def execLowWordReadLatch (requester : Agent) (addr : BitVec 28) (wide : Bool) (s : State) :
    Host.Outcome State Fault Refusal :=
  s.run fun d =>
    let a := addr.toNat
    if !aligned a wide then d.badAccess.send (.readData (agentNumber requester) a 0)
    else if wide then (d.readWord requester a).readWord requester (a + 4)
    else d.readWord requester a

end Sys2Proof.Machine
end

