-- ==== Sys2Proof/Machine/CodecUnits.lean ====
section
/-! DEFINITION. The compressor units: the commands of the chapter "Reel Codec" (R129 to R134). -/

namespace Sys2Proof.Machine

/-- COMPRESS_SYMBOLS (R130): the user's block goes to another unit of the group where its own is out of service. -/
def execCompressSymbols (unit : Fin 32) (symbols : List (Fin 16)) (size : Nat) (s : State) :
    Host.Outcome State Fault Refusal :=
  s.run fun d =>
    match d.unitFor unit.val with
    | none => d
    | some u => d.setUnit u ((d.unit u).accept (unitSize size) (symbols.map Fin.val))

/-- COMPRESS_FLUSH (R130). -/
def execCompressFlush (unit : Fin 32) (symbols : List (Fin 16)) (size : Nat) (s : State) :
    Host.Outcome State Fault Refusal :=
  s.run fun d =>
    match d.unitFor unit.val with
    | none => d
    | some u => d.setUnit u ((d.unit u).accept (unitSize size) (symbols.map Fin.val)).close

/-- SELFCHECK_DONE (R131, R132): the oldest block of the unit under comparison. A block of an upload goes into the upload. -/
def execSelfcheckDone (unit : Fin 32) (agree : Bool) (s : State) : Host.Outcome State Fault Refusal :=
  s.run fun d =>
    match (d.unit unit.val).closed with
    | [] => d
    | b :: rest =>
      if agree then (d.releaseBlock unit.val b rest).uploadBlock unit.val b.bytes
      else (d.selfcheckFail unit.val b rest).uploadStops unit.val

end Sys2Proof.Machine
end

