-- ==== Sys2Proof/Machine/Dispatch.lean ====
section
/-! DEFINITION. One arm per command: a direct call of its meaning. -/

namespace Sys2Proof.Machine

/-- What a command does to everything but the queue. -/
def exec (i : Instr) (s : State) : Host.Outcome State Fault Refusal :=
  match i with
  | .registerWrite writer addr value wide aside => Sys2Proof.Machine.execRegisterWrite writer addr value wide aside s
  | .badAccess requester read addr => Sys2Proof.Machine.execBadAccess requester read addr s
  | .lowWordReadLatch requester addr wide => Sys2Proof.Machine.execLowWordReadLatch requester addr wide s
  | .load req src => Sys2Proof.Machine.execLoad req src s
  | .imgLoadComplete => Sys2Proof.Machine.execImgLoadComplete s
  | .armHot req => Sys2Proof.Machine.execArmHot req s
  | .actStop req => Sys2Proof.Machine.execActStop req s
  | .disarm req => Sys2Proof.Machine.execDisarm req s
  | .discard req => Sys2Proof.Machine.execDiscard req s
  | .persist => Sys2Proof.Machine.execPersist s
  | .hotCommitPoint => Sys2Proof.Machine.execHotCommitPoint s
  | .hotActivationEffect => Sys2Proof.Machine.execHotActivationEffect s
  | .hotActivationDone => Sys2Proof.Machine.execHotActivationDone s
  | .stopActivationDone => Sys2Proof.Machine.execStopActivationDone s
  | .encEdgeQualified input a b z stamp => Sys2Proof.Machine.execEncEdgeQualified input a b z stamp s
  | .encGlitch input time => Sys2Proof.Machine.execEncGlitch input time s
  | .encWireFault input pair => Sys2Proof.Machine.execEncWireFault input pair s
  | .encWireClear input pair level => Sys2Proof.Machine.execEncWireClear input pair level s
  | .wireLostTimeout input time => Sys2Proof.Machine.execWireLostTimeout input time s
  | .deadReckoningEnd time => Sys2Proof.Machine.execDeadReckoningEnd time s
  | .inputReturn input => Sys2Proof.Machine.execInputReturn input s
  | .standstill input time => Sys2Proof.Machine.execStandstill input time s
  | .fireCommit => Sys2Proof.Machine.execFireCommit s
  | .overspeedRelease time => Sys2Proof.Machine.execOverspeedRelease time s
  | .firingEnd time => Sys2Proof.Machine.execFiringEnd time s
  | .fireEn req => Sys2Proof.Machine.execFireEn req s
  | .fireDisable req => Sys2Proof.Machine.execFireDisable req s
  | .stopClr => Sys2Proof.Machine.execStopClr s
  | .zero req => Sys2Proof.Machine.execZero req s
  | .cal req => Sys2Proof.Machine.execCal req s
  | .calDone => Sys2Proof.Machine.execCalDone s
  | .pdRefreshDone port => Sys2Proof.Machine.execPdRefreshDone port s
  | .portDelayWrite req port pd => Sys2Proof.Machine.execPortDelayWrite req port pd s
  | .passArm req => Sys2Proof.Machine.execPassArm req s
  | .regionOpen slot w => Sys2Proof.Machine.execRegionOpen slot w s
  | .regionClose slot w => Sys2Proof.Machine.execRegionClose slot w s
  | .block slot w data => Sys2Proof.Machine.execBlock slot w data s
  | .ingestCheckDone job => Sys2Proof.Machine.execIngestCheckDone job s
  | .cmpLeadLinesWrite req value => Sys2Proof.Machine.execCmpLeadLinesWrite req value s
  | .blockFetch region strip first sibling outcome => Sys2Proof.Machine.execBlockFetch region strip first sibling outcome s
  | .seekDone port row => Sys2Proof.Machine.execSeekDone port row s
  | .compressSymbols unit symbols size => Sys2Proof.Machine.execCompressSymbols unit symbols size s
  | .compressFlush unit symbols size => Sys2Proof.Machine.execCompressFlush unit symbols size s
  | .selfcheckDone unit agree => Sys2Proof.Machine.execSelfcheckDone unit agree s
  | .batchStart port fire corrected => Sys2Proof.Machine.execBatchStart port fire corrected s
  | .batchComplete port => Sys2Proof.Machine.execBatchComplete port s
  | .forecastFrame fc => Sys2Proof.Machine.execForecastFrame fc s
  | .healthGo req value => Sys2Proof.Machine.execHealthGo req value s
  | .healthFold port => Sys2Proof.Machine.execHealthFold port s
  | .nztWrite req port target high value => Sys2Proof.Machine.execNztWrite req port target high value s
  | .commit req port => Sys2Proof.Machine.execCommit req port s
  | .abort req port => Sys2Proof.Machine.execAbort req port s
  | .tableReadyWrite req port ready => Sys2Proof.Machine.execTableReadyWrite req port ready s
  | .engineFault engine cause corrected => Sys2Proof.Machine.execEngineFault engine cause corrected s
  | .retire req engine => Sys2Proof.Machine.execRetire req engine s
  | .cueStart => Sys2Proof.Machine.execCueStart s
  | .cueDone place => Sys2Proof.Machine.execCueDone place s
  | .cueAbort req generation ahead => Sys2Proof.Machine.execCueAbort req generation ahead s
  | .cueQuery cls index => Sys2Proof.Machine.execCueQuery cls index s
  | .slateSend port fire => Sys2Proof.Machine.execSlateSend port fire s
  | .batchSend port => Sys2Proof.Machine.execBatchSend port s
  | .batchSkip port fire => Sys2Proof.Machine.execBatchSkip port fire s
  | .cap port headId w3 w4 w5 => Sys2Proof.Machine.execCap port headId w3 w4 w5 s
  | .headAck port refused seq => Sys2Proof.Machine.execHeadAck port refused seq s
  | .headEvent port counts => Sys2Proof.Machine.execHeadEvent port counts s
  | .nsense port entries => Sys2Proof.Machine.execNsense port entries s
  | .sample port entries => Sys2Proof.Machine.execSample port entries s
  | .credit port lastSeq count => Sys2Proof.Machine.execCredit port lastSeq count s
  | .echoWord port word roundTrip => Sys2Proof.Machine.execEchoWord port word roundTrip s
  | .msgCrcFail words headers => Sys2Proof.Machine.execMsgCrcFail words headers s
  | .ackTimeout port seq => Sys2Proof.Machine.execAckTimeout port seq s
  | .upstreamSilent port => Sys2Proof.Machine.execUpstreamSilent port s
  | .versionRetry port => Sys2Proof.Machine.execVersionRetry port s
  | .go req port => Sys2Proof.Machine.execGo req port s
  | .goAll req => Sys2Proof.Machine.execGoAll req s
  | .leave req port => Sys2Proof.Machine.execLeave req port s
  | .relink req port => Sys2Proof.Machine.execRelink req port s
  | .portJoinEffect port => Sys2Proof.Machine.execPortJoinEffect port s
  | .portLeaveEffect port => Sys2Proof.Machine.execPortLeaveEffect port s
  | .rateRelease time => Sys2Proof.Machine.execRateRelease time s
  | .insRunWrite pipe run => Sys2Proof.Machine.execInsRunWrite pipe run s
  | .insClose pipe => Sys2Proof.Machine.execInsClose pipe s
  | .insRelink pipe => Sys2Proof.Machine.execInsRelink pipe s
  | .triggerSend pipe multiple => Sys2Proof.Machine.execTriggerSend pipe multiple s
  | .camcap pipe camId w3 w4 => Sys2Proof.Machine.execCamcap pipe camId w3 w4 s
  | .camAck pipe refused seq => Sys2Proof.Machine.execCamAck pipe refused seq s
  | .rawPacket pipe fmt w1 w2 body bad => Sys2Proof.Machine.execRawPacket pipe fmt w1 w2 body bad s
  | .camMeta pipe w1 body => Sys2Proof.Machine.execCamMeta pipe w1 body s
  | .echo pipe tseq expMid => Sys2Proof.Machine.execEcho pipe tseq expMid s
  | .camEvent pipe dropped overflows => Sys2Proof.Machine.execCamEvent pipe dropped overflows s
  | .lineCloseTimeout pipe tseq => Sys2Proof.Machine.execLineCloseTimeout pipe tseq s
  | .recordHandoff pipe => Sys2Proof.Machine.execRecordHandoff pipe s
  | .statRecordWrite pipe => Sys2Proof.Machine.execStatRecordWrite pipe s
  | .uploadCompress pipe => Sys2Proof.Machine.execUploadCompress pipe s
  | .gtDataAccess req pipe value => Sys2Proof.Machine.execGtDataAccess req pipe value s
  | .cameraSilent pipe => Sys2Proof.Machine.execCameraSilent pipe s
  | .qlRecordProcess => Sys2Proof.Machine.execQlRecordProcess s
  | .qlHealthPresent => Sys2Proof.Machine.execQlHealthPresent s
  | .qlHealthRetry => Sys2Proof.Machine.execQlHealthRetry s
  | .qlClear => Sys2Proof.Machine.execQlClear s
  | .cascap link body => Sys2Proof.Machine.execCascap link body s
  | .cascadeRetry link => Sys2Proof.Machine.execCascadeRetry link s
  | .shape link w1 serial fluids => Sys2Proof.Machine.execShape link w1 serial fluids s
  | .feed link w1 w2 w3 w4 w5 block => Sys2Proof.Machine.execFeed link w1 w2 w3 w4 w5 block s
  | .casHealth link w1 body => Sys2Proof.Machine.execCasHealth link w1 body s
  | .spoiln link w1 w2 w3 w4 w5 => Sys2Proof.Machine.execSpoiln link w1 w2 w3 w4 w5 s
  | .devrec link w1 frame w3 w4 w5 entries => Sys2Proof.Machine.execDevrec link w1 frame w3 w4 w5 entries s
  | .sqTailDoorbell slot fn value entries => Sys2Proof.Machine.execSqTailDoorbell slot fn value entries s
  | .cqHeadDoorbell slot fn value => Sys2Proof.Machine.execCqHeadDoorbell slot fn value s
  | .ringGrant slot => Sys2Proof.Machine.execRingGrant slot s
  | .nop slot w => Sys2Proof.Machine.execNop slot w s
  | .uploadSub slot w => Sys2Proof.Machine.execUploadSub slot w s
  | .uploadUnsub slot w => Sys2Proof.Machine.execUploadUnsub slot w s
  | .acctRead slot w => Sys2Proof.Machine.execAcctRead slot w s
  | .ctxOpen slot w => Sys2Proof.Machine.execCtxOpen slot w s
  | .ctxClose slot w => Sys2Proof.Machine.execCtxClose slot w s
  | .ctxPark slot w => Sys2Proof.Machine.execCtxPark slot w s
  | .ctxActivate slot w => Sys2Proof.Machine.execCtxActivate slot w s
  | .ctxQuota slot w => Sys2Proof.Machine.execCtxQuota slot w s
  | .ctxZeroDone slot => Sys2Proof.Machine.execCtxZeroDone slot s
  | .hostCqWriteFail slot => Sys2Proof.Machine.execHostCqWriteFail slot s
  | .ethFrameReceive ep sub frame => Sys2Proof.Machine.execEthFrameReceive ep sub frame s
  | .ethFrameTransmit ep sub frame => Sys2Proof.Machine.execEthFrameTransmit ep sub frame s
  | .txtsPop req ep => Sys2Proof.Machine.execTxtsPop req ep s
  | .ethLinkChange ep up fec => Sys2Proof.Machine.execEthLinkChange ep up fec s
  | .hello ep peer port vlan data => Sys2Proof.Machine.execHello ep peer port vlan data s
  | .entries data => Sys2Proof.Machine.execEntries data s
  | .xptDoorbell data => Sys2Proof.Machine.execXptDoorbell data s
  | .xptWrite data => Sys2Proof.Machine.execXptWrite data s
  | .xptAck data => Sys2Proof.Machine.execXptAck data s
  | .xptClose data => Sys2Proof.Machine.execXptClose data s
  | .xptAckTimer slot => Sys2Proof.Machine.execXptAckTimer slot s
  | .xptResend slot seq => Sys2Proof.Machine.execXptResend slot seq s
  | .cqeCoalesceTimer slot => Sys2Proof.Machine.execCqeCoalesceTimer slot s
  | .d3hotEntry fn turnOff pmeEn => Sys2Proof.Machine.execD3hotEntry fn turnOff pmeEn s
  | .d0Return fn => Sys2Proof.Machine.execD0Return fn s
  | .vfFlr vf => Sys2Proof.Machine.execVfFlr vf s
  | .pfFlr linkDown => Sys2Proof.Machine.execPfFlr linkDown s
  | .msixTimer fn vec => Sys2Proof.Machine.execMsixTimer fn vec s
  | .msixUnmask fn vec => Sys2Proof.Machine.execMsixUnmask fn vec s
  | .pmeRepeat fn => Sys2Proof.Machine.execPmeRepeat fn s
  | .tsuIncWrite req part value => Sys2Proof.Machine.execTsuIncWrite req part value s
  | .tsuStep req => Sys2Proof.Machine.execTsuStep req s
  | .tsuSet req => Sys2Proof.Machine.execTsuSet req s
  | .toutArm req t value => Sys2Proof.Machine.execToutArm req t value s
  | .toutPulse t => Sys2Proof.Machine.execToutPulse t s
  | .presentChange present => Sys2Proof.Machine.execPresentChange present s
  | .heartbeatLost => Sys2Proof.Machine.execHeartbeatLost s
  | .mirrorSilent => Sys2Proof.Machine.execMirrorSilent s
  | .silentDeath => Sys2Proof.Machine.execSilentDeath s
  | .dualActive => Sys2Proof.Machine.execDualActive s
  | .pcap link pairId => Sys2Proof.Machine.execPcap link pairId s
  | .mirrorLinkRetry link => Sys2Proof.Machine.execMirrorLinkRetry link s
  | .bindRecord mseq b => Sys2Proof.Machine.execBindRecord mseq b s
  | .mirrorCommit mseq fire line => Sys2Proof.Machine.execMirrorCommit mseq fire line s
  | .mirrorCrc mseq fire comparable crcs => Sys2Proof.Machine.execMirrorCrc mseq fire comparable crcs s
  | .verdictReady outcome => Sys2Proof.Machine.execVerdictReady outcome s
  | .lockRecord mseq region strip first lines missing => Sys2Proof.Machine.execLockRecord mseq region strip first lines missing s
  | .mirrorBlock mseq slot region strip first lines heapLen bytes => Sys2Proof.Machine.execMirrorBlock mseq slot region strip first lines heapLen bytes s
  | .tableRecord mseq port entries fire => Sys2Proof.Machine.execTableRecord mseq port entries fire s
  | .mirrorHealth mseq h => Sys2Proof.Machine.execMirrorHealth mseq h s
  | .ctxRecord mseq c => Sys2Proof.Machine.execCtxRecord mseq c s
  | .loopRecord mseq cells armed => Sys2Proof.Machine.execLoopRecord mseq cells armed s
  | .daily mseq words => Sys2Proof.Machine.execDaily mseq words s
  | .dailySend => Sys2Proof.Machine.execDailySend s
  | .surrenderRecord mseq fire cause => Sys2Proof.Machine.execSurrenderRecord mseq fire cause s
  | .verdict mseq port fire outcome => Sys2Proof.Machine.execVerdict mseq port fire outcome s
  | .mirrorAck mseq acked => Sys2Proof.Machine.execMirrorAck mseq acked s
  | .recordMsg mseq pipe words => Sys2Proof.Machine.execRecordMsg mseq pipe words s
  | .mirrorGap => Sys2Proof.Machine.execMirrorGap s
  | .ptnSurrender => Sys2Proof.Machine.execPtnSurrender s
  | .takeover => Sys2Proof.Machine.execTakeover s
  | .snapshotApplied mseq recs => Sys2Proof.Machine.execSnapshotApplied mseq recs s
  | .resync => Sys2Proof.Machine.execResync s
  | .removeRequest assert => Sys2Proof.Machine.execRemoveRequest assert s
  | .forceRemove => Sys2Proof.Machine.execForceRemove s
  | .pairEnWrite enable => Sys2Proof.Machine.execPairEnWrite enable s
  | .budgetEstimate e tj left delta => Sys2Proof.Machine.execBudgetEstimate e tj left delta s
  | .speedHoldRelease => Sys2Proof.Machine.execSpeedHoldRelease s
  | .powerOver => Sys2Proof.Machine.execPowerOver s
  | .taskDueCmd task change next => Sys2Proof.Machine.execTaskDueCmd task change next s
  | .taskDeadlineMiss task => Sys2Proof.Machine.execTaskDeadlineMiss task s
  | .taskComplete task => Sys2Proof.Machine.execTaskComplete task s
  | .checkpointCommit raw => Sys2Proof.Machine.execCheckpointCommit raw s
  | .journalWrite => Sys2Proof.Machine.execJournalWrite s
  | .ckptNow => Sys2Proof.Machine.execCkptNow s
  | .droneEnWrite on => Sys2Proof.Machine.execDroneEnWrite on s
  | .pfGlitch => Sys2Proof.Machine.execPfGlitch s
  | .breathStart => Sys2Proof.Machine.execBreathStart s
  | .supplyTrip rail => Sys2Proof.Machine.execSupplyTrip rail s
  | .shedDone => Sys2Proof.Machine.execShedDone s
  | .holdExpire => Sys2Proof.Machine.execHoldExpire s
  | .pfRecover => Sys2Proof.Machine.execPfRecover s
  | .breathCommit parts part3 => Sys2Proof.Machine.execBreathCommit parts part3 s
  | .pgStable => Sys2Proof.Machine.execPgStable s
  | .lspFrame port line response => Sys2Proof.Machine.execLspFrame port line response s
  | .loopEvaluate loop missed time => Sys2Proof.Machine.execLoopEvaluate loop missed time s
  | .loopSafeTimeout loop => Sys2Proof.Machine.execLoopSafeTimeout loop s
  | .loopResume req loop => Sys2Proof.Machine.execLoopResume req loop s
  | .loopSpWrite loop value => Sys2Proof.Machine.execLoopSpWrite loop value s
  | .ctlRcDataAccess req high write => Sys2Proof.Machine.execCtlRcDataAccess req high write s
  | .axisPush req axis => Sys2Proof.Machine.execAxisPush req axis s
  | .axisHalt axis => Sys2Proof.Machine.execAxisHalt axis s
  | .axisAbort axis => Sys2Proof.Machine.execAxisAbort axis s
  | .axisHome req axis => Sys2Proof.Machine.execAxisHome req axis s
  | .axisPlanTick axis seen time => Sys2Proof.Machine.execAxisPlanTick axis seen time s
  | .homeEdge axis => Sys2Proof.Machine.execHomeEdge axis s
  | .axisLimit axis => Sys2Proof.Machine.execAxisLimit axis s
  | .asbCycle bus time => Sys2Proof.Machine.execAsbCycle bus time s
  | .asbUpWord axis word => Sys2Proof.Machine.execAsbUpWord axis word s
  | .axisRestHold axis => Sys2Proof.Machine.execAxisRestHold axis s
  | .laneSignalDetect lane => Sys2Proof.Machine.execLaneSignalDetect lane s
  | .laneStageDone lane ctle taps width height => Sys2Proof.Machine.execLaneStageDone lane ctle taps width height s
  | .laneStageTimeout lane => Sys2Proof.Machine.execLaneStageTimeout lane s
  | .blockLockLoss lane headers => Sys2Proof.Machine.execBlockLockLoss lane headers s
  | .laneLos lane => Sys2Proof.Machine.execLaneLos lane s
  | .laneBlockErrRetrain lane => Sys2Proof.Machine.execLaneBlockErrRetrain lane s
  | .laneRail lane tap => Sys2Proof.Machine.execLaneRail lane tap s
  | .sleepBlock lane => Sys2Proof.Machine.execSleepBlock lane s
  | .laneWake lane => Sys2Proof.Machine.execLaneWake lane s
  | .refBad refB => Sys2Proof.Machine.execRefBad refB s
  | .refReturn => Sys2Proof.Machine.execRefReturn s
  | .refHoldoverEnd => Sys2Proof.Machine.execRefHoldoverEnd s
  | .laneTest req lane on => Sys2Proof.Machine.execLaneTest req lane on s
  | .laneRevive lane => Sys2Proof.Machine.execLaneRevive lane s
  | .laneRetrain lane => Sys2Proof.Machine.execLaneRetrain lane s
  | .injCtrlWrite req lane value => Sys2Proof.Machine.execInjCtrlWrite req lane value s
  | .marginScanDone lane eye => Sys2Proof.Machine.execMarginScanDone lane eye s
  | .scanNow => Sys2Proof.Machine.execScanNow s
  | .refreshDue sub rank bankGroup bank busy => Sys2Proof.Machine.execRefreshDue sub rank bankGroup bank busy s
  | .dramTempRead channel celsius => Sys2Proof.Machine.execDramTempRead channel celsius s
  | .dramGrant sub arrivals => Sys2Proof.Machine.execDramGrant sub arrivals s
  | .ceWriteback sub rank device codewords => Sys2Proof.Machine.execCeWriteback sub rank device codewords s
  | .dramFreeze addr cause command requester syndrome => Sys2Proof.Machine.execDramFreeze addr cause command requester syndrome s
  | .groupReset req group => Sys2Proof.Machine.execGroupReset req group s
  | .retrainSlice channel readEye writeEye => Sys2Proof.Machine.execRetrainSlice channel readEye writeEye s
  | .retrainDone group old => Sys2Proof.Machine.execRetrainDone group old s
  | .dmcPrioWrite requester prio => Sys2Proof.Machine.execDmcPrioWrite requester prio s
  | .watchdogExpire core => Sys2Proof.Machine.execWatchdogExpire core s
  | .kick core => Sys2Proof.Machine.execKick core s
  | .loadWindow c0 c1 c2 c3 wfi => Sys2Proof.Machine.execLoadWindow c0 c1 c2 c3 wfi s
  | .nvaOpGo r erase fetch => Sys2Proof.Machine.execNvaOpGo r erase fetch s
  | .nvaLineWritten bank => Sys2Proof.Machine.execNvaLineWritten bank s
  | .nvaEccError addr core corrected => Sys2Proof.Machine.execNvaEccError addr core corrected s
  | .irqModTimer core fast => Sys2Proof.Machine.execIrqModTimer core fast s
  | .claim reader core fast => Sys2Proof.Machine.execClaim reader core fast s
  | .irqMaskSet word value => Sys2Proof.Machine.execIrqMaskSet word value s
  | .irqMaskClr word value => Sys2Proof.Machine.execIrqMaskClr word value s
  | .irqPendSet word value => Sys2Proof.Machine.execIrqPendSet word value s
  | .irqPendClr word value edges => Sys2Proof.Machine.execIrqPendClr word value edges s
  | .keyLock req => Sys2Proof.Machine.execKeyLock req s
  | .vceilDown req vpp => Sys2Proof.Machine.execVceilDown req vpp s
  | .floorUp req vpp => Sys2Proof.Machine.execFloorUp req vpp s
  | .revoke req vpp => Sys2Proof.Machine.execRevoke req vpp s
  | .rootProg req vpp => Sys2Proof.Machine.execRootProg req vpp s
  | .keyInstall req root signature => Sys2Proof.Machine.execKeyInstall req root signature s
  | .lcGo req vpp => Sys2Proof.Machine.execLcGo req vpp s
  | .fuseBurnDone => Sys2Proof.Machine.execFuseBurnDone s
  | .debugRequest kind => Sys2Proof.Machine.execDebugRequest kind s
  | .glbResetCold req key => Sys2Proof.Machine.execGlbResetCold req key s
  | .glbResetMgmt req key => Sys2Proof.Machine.execGlbResetMgmt req key s
  | .glbResetCore req key cores => Sys2Proof.Machine.execGlbResetCore req key cores s
  | .porzAssert => Sys2Proof.Machine.execPorzAssert s
  | .startupBegin pairId io33 => Sys2Proof.Machine.execStartupBegin pairId io33 s
  | .startupStageDone done => Sys2Proof.Machine.execStartupStageDone done s
  | .clockRetry locked => Sys2Proof.Machine.execClockRetry locked s
  | .ethrefLost => Sys2Proof.Machine.execEthrefLost s
  | .pcierefLost => Sys2Proof.Machine.execPcierefLost s
  | .sysrefLost => Sys2Proof.Machine.execSysrefLost s
  | .calCtrlRun item => Sys2Proof.Machine.execCalCtrlRun item s
  | .calRunDone item results => Sys2Proof.Machine.execCalRunDone item results s
  | .aonBrownout torn => Sys2Proof.Machine.execAonBrownout torn s
  | .alignmentMarkerLost lane first second => Sys2Proof.Machine.execAlignmentMarkerLost lane first second s
  | .camAckTimeout pipe => Sys2Proof.Machine.execCamAckTimeout pipe s
  | .cameraVersionRetry pipe => Sys2Proof.Machine.execCameraVersionRetry pipe s
  | .pcieLinkUp gen width => Sys2Proof.Machine.execPcieLinkUp gen width s
  | .aspmL1Entry => Sys2Proof.Machine.execAspmL1Entry s
  | .l1ExitComplete => Sys2Proof.Machine.execL1ExitComplete s
  | .resumeComplete => Sys2Proof.Machine.execResumeComplete s
  | .pgFall => Sys2Proof.Machine.execPgFall s
  | .referenceGood refB => Sys2Proof.Machine.execReferenceGood refB s
  | .laneSignalReturn lane => Sys2Proof.Machine.execLaneSignalReturn lane s
  | .prbsCheckerLock lane => Sys2Proof.Machine.execPrbsCheckerLock lane s
  | .prbsCheckerLockLoss lane errors => Sys2Proof.Machine.execPrbsCheckerLockLoss lane errors s
  | .ethLinkRetry ep sub => Sys2Proof.Machine.execEthLinkRetry ep sub s

end Sys2Proof.Machine
end

