-- ==== Sys2Proof/WellFormed.lean ====
section
/-! DEFINITION. Which commands are well-formed: operands of the shape the spec gives them. Every other bound is in the
type of the operand. -/

open Sys2Proof.Machine

namespace Sys2Proof

/-- A submission entry has 16 words (Table 10.2). -/
def entryShape (w : List Word) : Bool := w.length == 16

/-- A block size that a user of a compressor unit can set (R130). -/
def blockSizeOk (n : Nat) : Bool := decide (1 ≤ n ∧ n ≤ 262144)

/-- A target of an update set lies in the table or in the page (R159, R163). -/
def targetInRange : SynTarget → Bool
  | .nozzle m => decide (m < 16384)
  | .page k => decide (k < 72)

/-- A command is well-formed: a 32-bit write has a 32-bit value, ring entries have 16 words, block sizes are those of
R130, frames hold their addresses and FCS, lists that stand for a fixed number of things have that length. -/
def Instr.wellFormed (i : Instr) : Bool :=
  match i with
  | .registerWrite _ _ value wide x => (wide || decide (value.toNat < 2 ^ 32)) && x.entries.all entryShape
  | .badAccess _ _ _ => true
  | .lowWordReadLatch _ _ _ => true
  | .load _ _ => true
  | .imgLoadComplete => true
  | .armHot _ => true
  | .actStop _ => true
  | .disarm _ => true
  | .discard _ => true
  | .persist => true
  | .hotCommitPoint => true
  | .hotActivationEffect => true
  | .hotActivationDone => true
  | .stopActivationDone => true
  | .encEdgeQualified _ _ _ _ _ => true
  | .encGlitch _ _ => true
  | .encWireFault _ _ => true
  | .encWireClear _ _ _ => true
  | .wireLostTimeout _ _ => true
  | .deadReckoningEnd _ => true
  | .inputReturn _ => true
  | .standstill _ _ => true
  | .fireCommit => true
  | .overspeedRelease _ => true
  | .firingEnd _ => true
  | .fireEn _ => true
  | .fireDisable _ => true
  | .stopClr => true
  | .zero _ => true
  | .cal _ => true
  | .calDone => true
  | .pdRefreshDone _ => true
  | .portDelayWrite _ _ _ => true
  | .passArm _ => true
  | .regionOpen _ w => entryShape w
  | .regionClose _ w => entryShape w
  | .block _ w _ => entryShape w
  | .ingestCheckDone _ => true
  | .cmpLeadLinesWrite _ _ => true
  | .blockFetch _ _ _ _ _ => true
  | .seekDone _ _ => true
  | .compressSymbols _ _ size => blockSizeOk size
  | .compressFlush _ _ size => blockSizeOk size
  | .selfcheckDone _ _ => true
  | .batchStart _ _ _ => true
  | .batchComplete _ => true
  | .forecastFrame _ => true
  | .healthGo _ _ => true
  | .healthFold _ => true
  | .nztWrite _ _ target _ _ => targetInRange target
  | .commit _ _ => true
  | .abort _ _ => true
  | .tableReadyWrite _ _ _ => true
  | .engineFault _ _ _ => true
  | .retire _ _ => true
  | .cueStart => true
  | .cueDone _ => true
  | .cueAbort _ _ _ => true
  | .cueQuery _ _ => true
  | .slateSend _ _ => true
  | .batchSend _ => true
  | .batchSkip _ _ => true
  | .cap _ _ _ _ _ => true
  | .headAck _ _ _ => true
  | .headEvent _ _ => true
  | .nsense _ _ => true
  | .sample _ _ => true
  | .credit _ _ _ => true
  | .echoWord _ _ _ => true
  | .msgCrcFail _ _ => true
  | .ackTimeout _ _ => true
  | .upstreamSilent _ => true
  | .versionRetry _ => true
  | .go _ _ => true
  | .goAll _ => true
  | .leave _ _ => true
  | .relink _ _ => true
  | .portJoinEffect _ => true
  | .portLeaveEffect _ => true
  | .rateRelease _ => true
  | .insRunWrite _ _ => true
  | .insClose _ => true
  | .insRelink _ => true
  | .triggerSend _ _ => true
  | .camcap _ _ _ _ => true
  | .camAck _ _ _ => true
  | .rawPacket _ _ _ _ _ _ => true
  | .camMeta _ _ body => decide (body.length ≤ 64)
  | .echo _ _ _ => true
  | .camEvent _ _ _ => true
  | .lineCloseTimeout _ _ => true
  | .recordHandoff _ => true
  | .statRecordWrite _ => true
  | .uploadCompress _ => true
  | .gtDataAccess _ _ _ => true
  | .cameraSilent _ => true
  | .qlRecordProcess => true
  | .qlHealthPresent => true
  | .qlHealthRetry => true
  | .qlClear => true
  | .cascap _ _ => true
  | .cascadeRetry _ => true
  | .shape _ _ _ _ => true
  | .feed _ _ _ _ _ _ _ => true
  | .casHealth _ _ _ => true
  | .spoiln _ _ _ _ _ _ => true
  | .devrec _ _ _ _ _ _ _ => true
  | .sqTailDoorbell _ _ _ ws => ws.all entryShape
  | .cqHeadDoorbell _ _ _ => true
  | .ringGrant _ => true
  | .nop _ w => entryShape w
  | .uploadSub _ w => entryShape w
  | .uploadUnsub _ w => entryShape w
  | .acctRead _ w => entryShape w
  | .ctxOpen _ w => entryShape w
  | .ctxClose _ w => entryShape w
  | .ctxPark _ w => entryShape w
  | .ctxActivate _ w => entryShape w
  | .ctxQuota _ w => entryShape w
  | .ctxZeroDone _ => true
  | .hostCqWriteFail _ => true
  | .ethFrameReceive _ _ frame => decide (18 ≤ frame.length)
  | .ethFrameTransmit _ _ frame => decide (14 ≤ frame.length)
  | .txtsPop _ _ => true
  | .ethLinkChange _ _ _ => true
  | .hello _ _ _ _ _ => true
  | .entries _ => true
  | .xptDoorbell _ => true
  | .xptWrite _ => true
  | .xptAck _ => true
  | .xptClose _ => true
  | .xptAckTimer _ => true
  | .xptResend _ _ => true
  | .cqeCoalesceTimer _ => true
  | .d3hotEntry _ _ _ => true
  | .d0Return _ => true
  | .vfFlr _ => true
  | .pfFlr _ => true
  | .msixTimer _ _ => true
  | .msixUnmask _ _ => true
  | .pmeRepeat _ => true
  | .tsuIncWrite _ _ _ => true
  | .tsuStep _ => true
  | .tsuSet _ => true
  | .toutArm _ _ _ => true
  | .toutPulse _ => true
  | .presentChange _ => true
  | .heartbeatLost => true
  | .mirrorSilent => true
  | .silentDeath => true
  | .dualActive => true
  | .pcap _ _ => true
  | .mirrorLinkRetry _ => true
  | .bindRecord _ _ => true
  | .mirrorCommit _ _ _ => true
  | .mirrorCrc _ _ _ _ => true
  | .verdictReady _ => true
  | .lockRecord _ _ _ _ _ _ => true
  | .mirrorBlock _ _ _ _ _ _ _ _ => true
  | .tableRecord _ _ es _ => es.all fun e => targetInRange e.1
  | .mirrorHealth _ _ => true
  | .ctxRecord _ _ => true
  | .loopRecord _ _ _ => true
  | .daily _ _ => true
  | .dailySend => true
  | .surrenderRecord _ _ _ => true
  | .verdict _ _ _ _ => true
  | .mirrorAck _ _ => true
  | .recordMsg _ _ _ => true
  | .mirrorGap => true
  | .ptnSurrender => true
  | .takeover => true
  | .snapshotApplied _ _ => true
  | .resync => true
  | .removeRequest _ => true
  | .forceRemove => true
  | .pairEnWrite _ => true
  | .budgetEstimate _ tj left _ => tj.length == 8 && left.length == 8
  | .speedHoldRelease => true
  | .powerOver => true
  | .taskDueCmd _ _ _ => true
  | .taskDeadlineMiss _ => true
  | .taskComplete _ => true
  | .checkpointCommit _ => true
  | .journalWrite => true
  | .ckptNow => true
  | .droneEnWrite _ => true
  | .pfGlitch => true
  | .breathStart => true
  | .supplyTrip _ => true
  | .shedDone => true
  | .holdExpire => true
  | .pfRecover => true
  | .breathCommit _ _ => true
  | .pgStable => true
  | .lspFrame _ _ _ => true
  | .loopEvaluate _ _ _ => true
  | .loopSafeTimeout _ => true
  | .loopResume _ _ => true
  | .loopSpWrite _ _ => true
  | .ctlRcDataAccess _ _ _ => true
  | .axisPush _ _ => true
  | .axisHalt _ => true
  | .axisAbort _ => true
  | .axisHome _ _ => true
  | .axisPlanTick _ _ _ => true
  | .homeEdge _ => true
  | .axisLimit _ => true
  | .asbCycle _ _ => true
  | .asbUpWord _ _ => true
  | .axisRestHold _ => true
  | .laneSignalDetect _ => true
  | .laneStageDone _ _ taps _ _ => taps.length == 12
  | .laneStageTimeout _ => true
  | .blockLockLoss _ _ => true
  | .laneLos _ => true
  | .laneBlockErrRetrain _ => true
  | .laneRail _ _ => true
  | .sleepBlock _ => true
  | .laneWake _ => true
  | .refBad _ => true
  | .refReturn => true
  | .refHoldoverEnd => true
  | .laneTest _ _ _ => true
  | .laneRevive _ => true
  | .laneRetrain _ => true
  | .injCtrlWrite _ _ _ => true
  | .marginScanDone _ _ => true
  | .scanNow => true
  | .refreshDue _ _ _ _ _ => true
  | .dramTempRead _ _ => true
  | .dramGrant _ _ => true
  | .ceWriteback _ _ _ _ => true
  | .dramFreeze _ _ _ _ syndrome => syndrome.length == 4
  | .groupReset _ _ => true
  | .retrainSlice _ _ _ => true
  | .retrainDone _ old => old.length == 4
  | .dmcPrioWrite _ _ => true
  | .watchdogExpire _ => true
  | .kick _ => true
  | .loadWindow _ _ _ _ _ => true
  | .nvaOpGo _ _ _ => true
  | .nvaLineWritten _ => true
  | .nvaEccError _ _ _ => true
  | .irqModTimer _ _ => true
  | .claim _ _ _ => true
  | .irqMaskSet _ _ => true
  | .irqMaskClr _ _ => true
  | .irqPendSet _ _ => true
  | .irqPendClr _ _ _ => true
  | .keyLock _ => true
  | .vceilDown _ _ => true
  | .floorUp _ _ => true
  | .revoke _ _ => true
  | .rootProg _ _ => true
  | .keyInstall _ _ _ => true
  | .lcGo _ _ => true
  | .fuseBurnDone => true
  | .debugRequest _ => true
  | .glbResetCold _ _ => true
  | .glbResetMgmt _ _ => true
  | .glbResetCore _ _ _ => true
  | .porzAssert => true
  | .startupBegin _ _ => true
  | .startupStageDone _ => true
  | .clockRetry _ => true
  | .ethrefLost => true
  | .pcierefLost => true
  | .sysrefLost => true
  | .calCtrlRun _ => true
  | .calRunDone _ results => results.all fun r => decide (r.1 < 4096)
  | .aonBrownout _ => true
  | .alignmentMarkerLost _ _ _ => true
  | .camAckTimeout _ => true
  | .cameraVersionRetry _ => true
  | .pcieLinkUp _ _ => true
  | .aspmL1Entry => true
  | .l1ExitComplete => true
  | .resumeComplete => true
  | .pgFall => true
  | .referenceGood _ => true
  | .laneSignalReturn _ => true
  | .prbsCheckerLock _ => true
  | .prbsCheckerLockLoss _ _ => true
  | .ethLinkRetry _ _ => true

end Sys2Proof
end

