-- ==== Sys2Proof/Safety.lean ====
section
/-! DEFINITION. The terms that claims use: a step that goes on, memories in their canonical form, a queue of well-formed
commands. -/

namespace Sys2Proof.Machine

/-- The step answers a next state. -/
def goesOn (s : State) : Prop := ∃ t, step s = .next t

/-- The byte memories of the block are in their canonical form: DRAM and the NVA. -/
def memoriesWf (s : State) : Prop := Mem.wf s.dev.dram = true ∧ Mem.wf s.dev.nva = true

/-- The local SRAM of the cores and the staging area of every transport session are in their canonical form. -/
def buffersWf (s : State) : Prop :=
  Mem.wf s.dev.mgt.sram = true ∧ s.dev.hst.sess.all (fun x => Mem.wf x.2.staging) = true

/-- Every waiting command is well-formed. -/
def queueWf (s : State) : Prop := s.pending.all Sys2Proof.Instr.wellFormed = true

/-- A command leaves exactly this controller: the queue is as before. -/
def Yields (c : Sys2Proof.Instr) (s : State) (e : Dev) : Prop := exec c s = .next { s with dev := e }

/-- A command completes: it answers a next state with the queue as before, and the controller then satisfies P. -/
def Completes (c : Sys2Proof.Instr) (s : State) (P : Dev → Prop) : Prop :=
  ∃ t, exec c s = .next t ∧ t.pending = s.pending ∧ P t.dev

/-- An output is a group of blocks of a native link: it carries words of messages that are outputs of their own. -/
def Out.isBlocks : Out → Bool
  | .blocks _ _ _ => true
  | _ => false

/-- An output is a message on a cascade link. -/
def Out.isCascade : Out → Bool
  | .cascade _ _ _ => true
  | _ => false

/-- The outputs without the blocks, which leave as their time comes. -/
def messages (os : List Out) : List Out := os.filter fun o => !o.isBlocks

/-- An area of the controller's state beside its registers and its byte memories. -/
inductive Area where
  | now | latch | raised | outs | draw | img | pos | cmp | cdc | ten | lnk | mgt | hst | sec | syn | ql | ptn | pwr | ins | lne | dmc | ctl | sys
  deriving DecidableEq, Repr

/-- Two controllers agree in an area. -/
def Area.same : Area → Dev → Dev → Prop
  | .now, d, e => e.now = d.now
  | .latch, d, e => e.latch = d.latch
  | .raised, d, e => e.raised = d.raised
  | .outs, d, e => e.outs = d.outs
  | .draw, d, e => e.draw = d.draw
  | .img, d, e => e.img = d.img
  | .pos, d, e => e.pos = d.pos
  | .cmp, d, e => e.cmp = d.cmp
  | .cdc, d, e => e.cdc = d.cdc
  | .ten, d, e => e.ten = d.ten
  | .lnk, d, e => e.lnk = d.lnk
  | .mgt, d, e => e.mgt = d.mgt
  | .hst, d, e => e.hst = d.hst
  | .sec, d, e => e.sec = d.sec
  | .syn, d, e => e.syn = d.syn
  | .ql, d, e => e.ql = d.ql
  | .ptn, d, e => e.ptn = d.ptn
  | .pwr, d, e => e.pwr = d.pwr
  | .ins, d, e => e.ins = d.ins
  | .lne, d, e => e.lne = d.lne
  | .dmc, d, e => e.dmc = d.dmc
  | .ctl, d, e => e.ctl = d.ctl
  | .sys, d, e => e.sys = d.sys

/-- Every area is unchanged but those of a list. -/
def onlyAreas (ps : List Area) (d e : Dev) : Prop := ∀ p, p ∉ ps → p.same d e

/-- Every instance of every register is unchanged but those of the registers of a list. -/
def onlyRegs (rs : List Reg) (d e : Dev) : Prop := ∀ r, r ∉ rs → ∀ k, e.rd r k = d.rd r k

/-- Commands run one after another, each by exec. -/
def runAll : List Sys2Proof.Instr → State → Host.Outcome State Fault Refusal
  | [], s => .next s
  | c :: cs, s =>
    match exec c s with
    | .next t => runAll cs t
    | o => o

/-- A number of steps of the machine. -/
def runSteps : Nat → State → Host.Outcome State Fault Refusal
  | 0, s => .next s
  | n + 1, s =>
    match step s with
    | .next t => runSteps n t
    | o => o

end Sys2Proof.Machine
end

