-- ==== Sys2Proof/Footprint.lean ====
section
/-! DEFINITION. The footprint of every command: what of the controller it may change. The areas of state and the bits of
registers that are not named, and the bytes outside the ranges that are named, a command leaves as they are. The ranges are
computed from the controller before the command, with the functions that the command's meaning uses. -/

namespace Sys2Proof.Machine

/-- Bits of a register that may change: of one instance, or of all of them. -/
structure Touch where
  reg : Reg
  inst : Option Nat
  mask : BitVec 64
  deriving DecidableEq, Repr

/-- All bits of every instance; some bits of every instance; all bits of one; some bits of one. -/
def Touch.all (r : Reg) : Touch := ⟨r, none, BitVec.allOnes 64⟩
def Touch.bits (r : Reg) (m : BitVec 64) : Touch := ⟨r, none, m⟩
def Touch.one (r : Reg) (k : Nat) : Touch := ⟨r, some k, BitVec.allOnes 64⟩
def Touch.oneBits (r : Reg) (k : Nat) (m : BitVec 64) : Touch := ⟨r, some k, m⟩

/-- A bit of a register instance is among those that may change. -/
def Touch.covers (t : Touch) (r : Reg) (k i : Nat) : Bool :=
  decide (t.reg = r) && (match t.inst with
    | none => true
    | some j => decide (j = k)) && t.mask.getLsbD i

/-- Every register bit is unchanged but those of a list. -/
def onlyTouched (ts : List Touch) (d e : Dev) : Prop :=
  ∀ r k i, ts.all (fun t => !t.covers r k i) = true → (e.rd r k).getLsbD i = (d.rd r k).getLsbD i

/-- Every byte of a memory outside ranges (first address, length) reads as before. -/
def onlyStored (rs : List (Nat × Nat)) (m n : Mem) : Prop :=
  ∀ a, (∀ r ∈ rs, a < r.1 ∨ r.1 + r.2 ≤ a) → Mem.read n a = Mem.read m a

/-- What a command may change. A restart begins the controller anew from State.reset (R462), and a register write that runs
another row's command changes what that one may: such a footprint names nothing and no frame is said of it here. -/
structure Footprint where
  unframed : Bool
  areas : List Area
  touches : List Touch
  dram : List (Nat × Nat)
  nva : List (Nat × Nat)
  deriving DecidableEq, Repr

/-- A footprint that names what may change. -/
def Footprint.of (areas : List Area) (touches : List Touch) (dram nva : List (Nat × Nat)) : Footprint :=
  ⟨false, areas, touches, dram, nva⟩

/-- The footprint of a restart, or of a register write that runs another row's command. -/
def Footprint.nothing : Footprint := ⟨true, [], [], [], []⟩

/-- The number of areas named beside the codes raised, the messages sent and the count of free values. -/
def Footprint.breadth (f : Footprint) : Nat := (f.areas.filter fun a => a ∉ [Area.raised, Area.outs, Area.draw]).length

/-- The controller changed within a footprint only. -/
def Footprint.holds (f : Footprint) (d e : Dev) : Prop :=
  onlyAreas f.areas d e ∧ onlyTouched f.touches d e ∧ onlyStored f.dram d.dram e.dram ∧ onlyStored f.nva d.nva e.nva

/-- The loop log: the bytes of the 65,536 entries that a ring position can name (R256, R263). -/
def Dev.logRange (d : Dev) : Nat × Nat := (d.get .qlLogBase 0, 16 * 65536)

/-- The entry of a pipeline's statistics ring that its oldest waiting record goes to (R232). -/
def Dev.recordRange (d : Dev) (pipe : Fin 24) : Nat × Nat :=
  (d.get .insStatRingBase pipe.val + bits (d.get .insStatRingHead pipe.val) 0 16 * d.get .insRecSlot pipe.val,
   (((d.pipe pipe.val).toRing.head?.map fun r => r.bytes).getD []).length)

/-- The bytes of the writes that wait at a subchannel or arrive there (R412). -/
def Dev.writeRanges (d : Dev) (sub : Fin 32) (arrivals : List DramReq) : List (Nat × Nat) :=
  (d.dramWrites sub.val ++ arrivals).map fun r => (r.addr, (r.data.getD []).length)

/-- The group that a running sequence resets: its bytes are zeroed (R422). -/
def Dev.cueRanges (d : Dev) (place : Fin 8) : List (Nat × Nat) :=
  match (Tab.find d.mgt.running place.val).map fun r => r.kind with
  | some (CueKind.groupReset g) => [(g * d.groupBytes, d.groupBytes)]
  | _ => []

/-- The lines that the operations of some requesters on the array stand at (R433, R434). -/
def Dev.opLines (d : Dev) (p : Nat → Bool) : List (Nat × Nat) :=
  (d.mgt.ops.filter fun o => p o.requester).map fun o => (o.bank * nvaBank + 64 * o.line, 64)

/-- The line that a bank is writing (R433). -/
def Dev.lineRange (d : Dev) (bank : Fin 4) : List (Nat × Nat) :=
  match d.nvaServed bank.val with
  | some o => [(o.bank * nvaBank + 64 * o.line, 64)]
  | none => []

/-- A checkpoint's body and its commit record (R345). -/
def Dev.saveRanges (d : Dev) (raw : List Byte) : List (Nat × Nat) :=
  let k := (d.pwr.rewrite).getD d.saveSlot
  [(ckptAddr k, (nvaBlocks raw).flatten.length), (ckptAddr k + ckptSize - 64, 64)]

/-- The registers of the synthesis pages, of all ports and of one (Table 6.3). -/
def synPages : List Touch := synPage.map Touch.all
def synPageOf (n : Nat) : List Touch :=
  synPage.flatMap fun r => (List.range r.desc.c2).map fun i => Touch.one r (r.desc.c2 * n + i)

/-- The registers of the context pages, of all slots and of one (Table 10.4). -/
def tenPages : List Touch := pageRegs.map Touch.all
def tenPageOf (k : Nat) : List Touch := pageRegs.map fun r => Touch.one r k

/-- The register instance at a control-space address. -/
def addrTouch (addr : Nat) : List Touch :=
  match Reg.find addr with
  | some (r, k, _) => [Touch.one r k]
  | none => []

/-- A word written at an address runs the command of a row: its register's write is one, commands stand beside its bits, or it
lies in the per-nozzle window. -/
def writeRuns (addr : Nat) (v : BitVec 64) : Bool :=
  match Reg.find addr with
  | none => inNzt addr
  | some (r, _, _) => r.rowOfOwn v || r ∈ [Reg.imgCtrl, Reg.posEncStatus, Reg.qlCtrl, Reg.lneCtrl, Reg.nvaOpCtrl]

/-- The footprint of each command at a controller. -/
def footprint (d : Dev) : Sys2Proof.Instr → Footprint
  | .registerWrite _ addr value wide _ =>
    if writeRuns addr.toNat value || (wide && writeRuns (addr.toNat + 4) (value >>> 32)) then Footprint.nothing else
    .of [.raised, .outs, .ten, .mgt, .hst, .lne]
      (addrTouch addr.toNat ++ (if wide then addrTouch (addr.toNat + 4) else []) ++ [.all .epCtrl, .all .epStatus,
        .one .glbBadAccess 0, .all .glbLastErr, .all .irqLevel, .all .irqPendSet, .all .lneInjCount, .all .lnePrbsBits,
        .bits .lneStatus 0x2, .oneBits .qlStatus 0 0x8000ffff, .one .tenAccessErr 0, .all .tenCqTail, .all .tenEvDrop,
        .oneBits .tenEvent 0 0x8, .all .tenLastErr]) [] []
  | .badAccess _ _ _ =>
    .of [.outs]
      [.one .glbBadAccess 0] [] []
  | .lowWordReadLatch _ _ _ =>
    .of [.latch, .raised, .outs, .mgt, .hst, .ins, .ctl]
      [.one .ctlRcAddr 0, .one .glbBadAccess 0, .all .glbLastErr, .all .insGtAddr, .all .irqLevel, .all .irqPendSet,
        .one .tenAccessErr 0, .oneBits .tenEvent 0 0x8] [] []
  | .load req _ =>
    .of [.raised, .img]
      [.one .glbLastErr req.val, .one .imgClampCount 0, .oneBits .imgCtrl 0 0x300, .oneBits .imgStatus 0 0xf7] [] []
  | .imgLoadComplete =>
    .of [.raised, .outs, .img, .mgt, .hst]
      [.one .imgClampCount 0, .one .imgError 0, .one .imgErrorLoc 0, .oneBits .imgStatus 0 0xf7, .all .irqLevel,
        .all .irqPendSet] [] []
  | .armHot req =>
    .of [.raised]
      [.one .glbLastErr req.val, .oneBits .imgStatus 0 0x7] [] []
  | .actStop req =>
    .of [.raised, .outs, .draw, .img, .pos, .cmp, .ten, .lnk, .mgt, .hst, .syn, .ql, .ptn, .pwr, .ins, .lne, .ctl]
      (synPages ++ [.all .cdcUnitBlocks, .all .cdcUnitStored, .oneBits .cmpEvent 0 0x1, .one .cmpLockLine 0,
        .one .cmpMissingLines 0, .one .ctlLoad 0, .all .ctlLoopFb, .all .ctlLoopInt, .all .ctlLoopSp, .all .ctlLoopStatus,
        .oneBits .embGlbCap 0 0xff0000, .all .embStatus, .one .glbBarPitch 0, .one .glbBarShape 0, .all .glbFluid,
        .one .glbLastErr req.val, .oneBits .hlGlbStatus 0 0x3ffff, .one .imgActiveSerial 0, .all .imgDigest,
        .oneBits .imgStatus 0 0x8f, .bits .insEvent 0x1, .all .insFrameNo, .all .insRecSlot, .bits .insStatus 0x1007fff,
        .one .insStoreSize 0, .one .insStoreUsed 0, .all .irqLevel, .all .irqPendSet, .all .linkStatus,
        .one .lneGlbDown 0, .bits .lneStatus 0xf6000001, .all .maxFireHz, .bits .posEncStatus 0x20000000,
        .bits .posPortDelay 0x40000000, .one .posSpeed 0, .oneBits .posStatus 0 0x17c, .one .posXcDiff 0,
        .oneBits .ptnEvent 0 0x8, .oneBits .ptnStatus 0 0x10000004, .one .qlCasDrop 0, .oneBits .qlEvent 0 0x28,
        .one .qlLogDrop 0, .one .qlLogHead 0, .oneBits .qlStatus 0 0x8000ffff, .all .rowdly, .all .rowdlyRev, .all .rpD,
        .all .rpLine, .bits .rpStatus 0xc01f0f00, .bits .synCtrl 0x1, .bits .synStatus 0xff007fff, .all .tenCqTail,
        .all .tenDramUsed, .all .tenEvDrop, .one .tenPoolFree 0, .one .tenPoolUnits 0, .bits .tenState 0xe0000000,
        .all .xptSession])
      [d.logRange] []
  | .disarm req =>
    .of [.raised]
      [.one .glbLastErr req.val, .oneBits .imgStatus 0 0x7] [] []
  | .discard req =>
    .of [.raised, .img]
      [.one .glbLastErr req.val, .one .imgClampCount 0, .oneBits .imgStatus 0 0xf7] [] []
  | .persist =>
    .of [.img, .mgt]
      [.one .nvaStatus 0] [] []
  | .hotCommitPoint =>
    .of [.img]
      [.oneBits .imgStatus 0 0x7] [] []
  | .hotActivationEffect =>
    .of [.outs, .draw, .img, .ten, .mgt, .hst, .ins]
      [.all .ctlLoopSp, .one .imgActiveSerial 0, .bits .insEvent 0x1, .all .insFrameNo, .bits .insStatus 0x1007fff,
        .all .irqLevel, .all .irqPendSet, .all .tenCqTail, .all .tenEvDrop] [] []
  | .hotActivationDone =>
    .of [.raised, .outs, .draw, .mgt, .hst, .ql, .ptn, .pwr, .lne]
      [.all .cdcUnitBlocks, .all .cdcUnitStored, .all .imgDigest, .oneBits .imgStatus 0 0x87, .all .irqLevel,
        .all .irqPendSet, .oneBits .ptnEvent 0 0x8, .oneBits .ptnStatus 0 0x10000004, .one .qlCasDrop 0,
        .oneBits .qlEvent 0 0x28, .one .qlLogDrop 0, .one .qlLogHead 0]
      [d.logRange] []
  | .stopActivationDone =>
    .of []
      [.oneBits .imgStatus 0 0xf] [] []
  | .encEdgeQualified input _ _ _ _ =>
    .of [.now, .raised, .outs, .draw, .pos, .cmp, .ten, .lnk, .mgt, .hst, .syn, .ql, .ptn, .pwr, .ins, .lne]
      [.all .cdcUnitBlocks, .all .cdcUnitStored, .oneBits .cmpEvent 0 0x1, .one .cmpLockLine 0, .one .cmpMissingLines 0,
        .one .cmpPassCur 0, .one .cmpSpoilCount 0, .oneBits .embHcStatus 0 0xffff0000, .bits .embStatus 0x10000000,
        .oneBits .hlGlbEvent 0 0x2, .oneBits .hlGlbStatus 0 0x8003ffff, .bits .insEvent 0x1, .all .insFrameNo,
        .bits .insStatus 0x1007fff, .all .irqLevel, .all .irqPendSet, .bits .linkEvent 0x40, .all .linkStatus,
        .one .lneGlbDown 0, .bits .lneStatus 0xf6000001, .all .maxFireHz, .one .posBindFire 0, .one .posBindLine 0,
        .oneBits .posCtrl 0 0x1, .one .posDeferCount 0, .one .posEncCount input.val, .one .posEncQuadCount input.val,
        .bits .posEncStatus 0xa0000000, .oneBits .posEncStatus input.val 0x9bffffff, .one .posEncZlatch input.val,
        .oneBits .posEvent 0 0xbf, .one .posFireIndex 0, .one .posFirePeriod 0, .one .posSkipCount 0, .one .posSpeed 0,
        .oneBits .posStatus 0 0xfffd, .one .posXcDiff 0, .oneBits .ptnStatus 0 0xf0000008, .one .qlCasDrop 0,
        .oneBits .qlEvent 0 0x28, .one .qlLogDrop 0, .one .qlLogHead 0, .all .rpLine, .bits .rpStatus 0xc0000f00,
        .all .tenCqTail, .all .tenDramUsed, .all .tenEvDrop, .bits .tenState 0xe0000000, .all .xptSession]
      [d.logRange] []
  | .encGlitch input _ =>
    .of [.now, .raised, .outs, .draw, .pos, .cmp, .ten, .lnk, .mgt, .hst, .syn, .ql, .ptn, .pwr, .ins, .lne]
      [.all .cdcUnitBlocks, .all .cdcUnitStored, .oneBits .cmpEvent 0 0x1, .one .cmpLockLine 0, .one .cmpMissingLines 0,
        .one .cmpPassCur 0, .one .cmpSpoilCount 0, .oneBits .embHcStatus 0 0xffff0000, .bits .embStatus 0x10000000,
        .oneBits .hlGlbEvent 0 0x2, .oneBits .hlGlbStatus 0 0x8003ffff, .bits .insEvent 0x1, .all .insFrameNo,
        .bits .insStatus 0x1007fff, .all .irqLevel, .all .irqPendSet, .bits .linkEvent 0x40, .all .linkStatus,
        .one .lneGlbDown 0, .bits .lneStatus 0xf6000001, .all .maxFireHz, .one .posBindFire 0, .one .posBindLine 0,
        .oneBits .posCtrl 0 0x1, .one .posDeferCount 0, .one .posEncGlitch input.val, .bits .posEncStatus 0x20000000,
        .oneBits .posEncStatus input.val 0x80000000, .oneBits .posEvent 0 0xbb, .one .posFireIndex 0,
        .one .posFirePeriod 0, .one .posSkipCount 0, .one .posSpeed 0, .oneBits .posStatus 0 0xfffd,
        .oneBits .posXcDiff 0 0xffffffff, .oneBits .ptnStatus 0 0xf0000008, .one .qlCasDrop 0, .oneBits .qlEvent 0 0x28,
        .one .qlLogDrop 0, .one .qlLogHead 0, .all .rpLine, .bits .rpStatus 0xc0000f00, .all .tenCqTail,
        .all .tenDramUsed, .all .tenEvDrop, .bits .tenState 0xe0000000, .all .xptSession]
      [d.logRange] []
  | .encWireFault input _ =>
    .of [.pos]
      [.oneBits .posEncStatus input.val 0x40000000, .one .posEncWireCount input.val] [] []
  | .encWireClear input _ _ =>
    .of [.pos]
      [.oneBits .posEncStatus input.val 0x40000000] [] []
  | .wireLostTimeout input _ =>
    .of [.now, .raised, .outs, .draw, .pos, .cmp, .ten, .lnk, .mgt, .hst, .syn, .ql, .ptn, .pwr, .ins, .lne]
      [.all .cdcUnitBlocks, .all .cdcUnitStored, .oneBits .cmpEvent 0 0x1, .one .cmpLockLine 0, .one .cmpMissingLines 0,
        .one .cmpPassCur 0, .one .cmpSpoilCount 0, .oneBits .embHcStatus 0 0xffff0000, .bits .embStatus 0x10000000,
        .oneBits .hlGlbEvent 0 0x2, .oneBits .hlGlbStatus 0 0x8003ffff, .bits .insEvent 0x1, .all .insFrameNo,
        .bits .insStatus 0x1007fff, .all .irqLevel, .all .irqPendSet, .bits .linkEvent 0x40, .all .linkStatus,
        .one .lneGlbDown 0, .bits .lneStatus 0xf6000001, .all .maxFireHz, .one .posBindFire 0, .one .posBindLine 0,
        .oneBits .posCtrl 0 0x1, .one .posDeferCount 0, .bits .posEncStatus 0x20000000,
        .oneBits .posEncStatus input.val 0x80000000, .oneBits .posEvent 0 0xbb, .one .posFireIndex 0,
        .one .posFirePeriod 0, .one .posSkipCount 0, .one .posSpeed 0, .oneBits .posStatus 0 0xfffd,
        .oneBits .posXcDiff 0 0xffffffff, .oneBits .ptnStatus 0 0xf0000008, .one .qlCasDrop 0, .oneBits .qlEvent 0 0x28,
        .one .qlLogDrop 0, .one .qlLogHead 0, .all .rpLine, .bits .rpStatus 0xc0000f00, .all .tenCqTail,
        .all .tenDramUsed, .all .tenEvDrop, .bits .tenState 0xe0000000, .all .xptSession]
      [d.logRange] []
  | .deadReckoningEnd _ =>
    .of [.now, .raised, .outs, .draw, .pos, .cmp, .ten, .lnk, .mgt, .hst, .syn, .ql, .ptn, .ins, .lne]
      [.all .cdcUnitBlocks, .all .cdcUnitStored, .one .cmpSpoilCount 0, .oneBits .embHcStatus 0 0xffff0000,
        .bits .embStatus 0x10000000, .bits .insEvent 0x1, .all .insFrameNo, .bits .insStatus 0x1007fff, .all .irqLevel,
        .all .irqPendSet, .bits .linkStatus 0xff1f, .oneBits .posCtrl 0 0x1, .bits .posEncStatus 0x20000000,
        .oneBits .posEvent 0 0x40, .one .posSpeed 0, .oneBits .posStatus 0 0xf17d, .one .qlCasDrop 0,
        .oneBits .qlEvent 0 0x28, .one .qlLogDrop 0, .one .qlLogHead 0, .all .tenCqTail, .all .tenEvDrop]
      [d.logRange] []
  | .inputReturn input =>
    .of [.outs, .draw, .pos, .ten, .mgt, .hst, .ptn, .ins]
      [.all .cdcUnitBlocks, .all .cdcUnitStored, .bits .insEvent 0x1, .all .insFrameNo, .bits .insStatus 0x1007fff,
        .all .irqLevel, .all .irqPendSet, .bits .posEncStatus 0x20000000, .oneBits .posEncStatus input.val 0x80000000,
        .one .posSpeed 0, .oneBits .posStatus 0 0x7c, .all .tenCqTail, .all .tenEvDrop] [] []
  | .standstill _ _ =>
    .of [.now, .outs, .draw, .pos, .ten, .mgt, .hst, .ins]
      [.bits .insEvent 0x1, .all .insFrameNo, .bits .insStatus 0x1007fff, .all .irqLevel, .all .irqPendSet,
        .one .posSpeed 0, .oneBits .posStatus 0 0xc, .all .tenCqTail, .all .tenEvDrop] [] []
  | .fireCommit =>
    .of [.now, .raised, .outs, .draw, .pos, .cmp, .ten, .lnk, .mgt, .hst, .syn, .ql, .ptn, .pwr, .ins, .lne]
      [.all .cdcUnitBlocks, .all .cdcUnitStored, .oneBits .cmpEvent 0 0x1, .one .cmpLockLine 0, .one .cmpMissingLines 0,
        .one .cmpPassCur 0, .one .cmpSpoilCount 0, .oneBits .embHcStatus 0 0xffff0000, .bits .embStatus 0x10000000,
        .oneBits .hlGlbEvent 0 0x2, .oneBits .hlGlbStatus 0 0x8003ffff, .bits .insEvent 0x1, .all .insFrameNo,
        .bits .insStatus 0x1007fff, .all .irqLevel, .all .irqPendSet, .bits .linkEvent 0x40, .all .linkStatus,
        .one .lneGlbDown 0, .bits .lneStatus 0xf6000001, .all .maxFireHz, .one .posBindFire 0, .one .posBindLine 0,
        .oneBits .posCtrl 0 0x1, .one .posDeferCount 0, .oneBits .posEvent 0 0x81, .one .posFireIndex 0,
        .one .posFirePeriod 0, .oneBits .posStatus 0 0xfe81, .oneBits .ptnStatus 0 0xf0000008, .one .qlCasDrop 0,
        .oneBits .qlEvent 0 0x28, .one .qlLogDrop 0, .one .qlLogHead 0, .bits .rpStatus 0x80000000, .all .tenCqTail,
        .all .tenDramUsed, .all .tenEvDrop, .bits .tenState 0xe0000000, .all .xptSession]
      [d.logRange] []
  | .overspeedRelease _ =>
    .of [.now, .pos]
      [.oneBits .posStatus 0 0x80] [] []
  | .firingEnd _ =>
    .of [.now, .raised, .outs, .cmp, .ten, .mgt, .hst, .syn, .ql, .lne]
      [.one .cmpSpoilCount 0, .oneBits .embHcStatus 0 0xffff0000, .all .irqLevel, .all .irqPendSet,
        .oneBits .posStatus 0 0x1, .one .qlCasDrop 0, .oneBits .qlEvent 0 0x28, .one .qlLogDrop 0, .one .qlLogHead 0,
        .all .tenCqTail, .all .tenEvDrop]
      [d.logRange] []
  | .fireEn req =>
    .of [.raised, .outs, .draw, .pos, .cmp, .lnk, .syn, .ptn, .lne]
      [.all .cdcUnitBlocks, .all .cdcUnitStored, .bits .embStatus 0x10000000, .one .glbLastErr req.val,
        .oneBits .hlGlbStatus 0 0x3ffff, .all .joinFire, .bits .linkStatus 0xe000ff1f, .one .posBindFire 0,
        .one .posBindLine 0, .oneBits .posCtrl 0 0x1, .oneBits .posStatus 0 0xfc01, .all .rpLine,
        .bits .rpStatus 0xc0000f00, .oneBits .secStatus 0 0x10000000] [] []
  | .fireDisable req =>
    .of [.raised, .outs, .draw, .pos, .cmp, .ten, .lnk, .mgt, .hst, .syn, .ql, .ptn, .lne]
      [.all .cdcUnitBlocks, .all .cdcUnitStored, .one .cmpSpoilCount 0, .oneBits .embHcStatus 0 0xffff0000,
        .bits .embStatus 0x10000000, .one .glbLastErr req.val, .all .irqLevel, .all .irqPendSet, .bits .linkStatus 0xff1f,
        .oneBits .posCtrl 0 0x1, .oneBits .posStatus 0 0xf001, .one .qlCasDrop 0, .oneBits .qlEvent 0 0x28,
        .one .qlLogDrop 0, .one .qlLogHead 0, .all .tenCqTail, .all .tenEvDrop]
      [d.logRange] []
  | .stopClr =>
    .of [.pos]
      [.oneBits .posStatus 0 0xf000] [] []
  | .zero req =>
    .of [.raised, .outs, .draw, .pos, .ptn]
      [.all .cdcUnitBlocks, .all .cdcUnitStored, .one .glbLastErr req.val] [] []
  | .cal req =>
    .of [.raised, .outs, .pos, .lnk, .lne]
      [.one .glbLastErr req.val, .oneBits .posCtrl 0 0x8] [] []
  | .calDone =>
    .of [.raised, .outs, .pos, .cmp, .lnk, .mgt, .hst, .syn, .lne]
      [.bits .embStatus 0x10000000, .oneBits .hlGlbStatus 0 0x3ffff, .all .irqLevel, .all .irqPendSet,
        .bits .linkStatus 0xe000ff1f, .oneBits .posCtrl 0 0x8, .oneBits .posEvent 0 0x100, .all .posPortDelay,
        .bits .rpStatus 0x80000000] [] []
  | .pdRefreshDone port =>
    .of [.raised, .outs, .cmp, .lnk, .syn, .lne]
      [.bits .embStatus 0x10000000, .oneBits .hlGlbStatus 0 0x3ffff, .one .joinFire port.val,
        .oneBits .linkStatus port.val 0xe000ffff, .one .posPortDelay port.val, .bits .rpStatus 0x80000000] [] []
  | .portDelayWrite req port _ =>
    .of [.raised, .cmp, .lnk, .syn]
      [.bits .embStatus 0x10000000, .one .glbLastErr req.val, .oneBits .hlGlbStatus 0 0x3ffff,
        .oneBits .linkStatus port.val 0xe000ff1f, .one .posPortDelay port.val, .bits .rpStatus 0x80000000] [] []
  | .passArm req =>
    .of [.raised, .outs, .draw, .pos, .cmp, .ten, .mgt, .hst, .ptn]
      [.all .cdcUnitBlocks, .all .cdcUnitStored, .oneBits .cmpEvent 0 0x1, .one .cmpMissingLines 0, .one .cmpPassCur 0,
        .one .cmpPassNext 0, .one .glbLastErr req.val, .all .irqLevel, .all .irqPendSet, .one .posBindFire 0,
        .one .posBindLine 0, .oneBits .posStatus 0 0xc00, .all .tenDramUsed, .bits .tenState 0xe0000000, .all .xptSession] [] []
  | .regionOpen slot _ =>
    .of [.raised, .outs, .draw, .cmp, .ten, .hst, .ptn]
      [.all .cdcUnitBlocks, .all .cdcUnitStored, .one .cmpRegions 0, .all .tenCqTail, .one .tenDramUsed slot.val,
        .all .tenLastErr, .one .tenPoolFree 0, .oneBits .tenRegions slot.val 0xffff, .one .tenSqHead slot.val] [] []
  | .regionClose slot _ =>
    .of [.raised, .outs, .draw, .cmp, .ten, .hst, .ptn]
      [.all .cdcUnitBlocks, .all .cdcUnitStored, .one .cmpRegions 0, .all .tenCqTail, .all .tenDramUsed,
        .all .tenLastErr, .bits .tenRegions 0xffff, .one .tenSqHead slot.val] [] []
  | .block slot _ _ =>
    .of [.raised, .outs, .draw, .cmp, .ten, .hst, .ptn]
      [.all .cdcUnitBlocks, .all .cdcUnitStored, .all .tenCqTail, .all .tenLastErr, .one .tenSqHead slot.val] [] []
  | .ingestCheckDone _ =>
    .of [.raised, .outs, .draw, .cmp, .ten, .hst, .ptn]
      [.one .cdcFmtCount 0, .one .cdcFmtLast 0, .all .cdcUnitBlocks, .all .cdcUnitStored, .one .cmpIngestFail 0,
        .all .tenCqTail, .all .tenDramUsed, .all .tenLastErr, .bits .tenState 0xe0000000, .all .xptSession] [] []
  | .cmpLeadLinesWrite _ _ =>
    .of [.raised, .outs, .draw, .cmp, .ten, .mgt, .hst, .ptn]
      [.all .cdcUnitBlocks, .all .cdcUnitStored, .oneBits .cmpEvent 0 0x1, .one .cmpLeadLines 0, .one .cmpLockLine 0,
        .one .cmpMissingLines 0, .all .irqLevel, .all .irqPendSet, .all .tenDramUsed, .bits .tenState 0xe0000000,
        .all .xptSession] [] []
  | .blockFetch _ _ _ _ _ =>
    .of [.raised, .outs, .draw, .cmp, .ten, .mgt, .hst, .ql, .ptn, .ins, .lne]
      [.all .cdcUnitBlocks, .all .cdcUnitStored, .oneBits .cmpEvent 0 0x4, .bits .insEvent 0x8, .one .insStoreDrop 0,
        .one .insStoreUsed 0, .all .irqLevel, .all .irqPendSet, .one .qlCasDrop 0, .oneBits .qlEvent 0 0x28,
        .one .qlLogDrop 0, .one .qlLogHead 0, .all .rpLine, .bits .rpStatus 0xf00, .one .tenAccessErr 0,
        .all .tenDramUsed, .oneBits .tenEvent 0 0x8, .bits .tenState 0xe0000000, .all .xptSession]
      [d.logRange] []
  | .seekDone _ _ =>
    .of [.cmp]
      [.all .rpLine, .bits .rpStatus 0x40000f00] [] []
  | .compressSymbols _ _ _ =>
    .of [.cdc]
      [.bits .cdcUnitStatus 0x4003ffff] [] []
  | .compressFlush _ _ _ =>
    .of [.cdc]
      [.bits .cdcUnitStatus 0x4003ffff] [] []
  | .selfcheckDone unit _ =>
    .of [.raised, .outs, .cdc, .ten, .mgt, .hst, .ins]
      [.oneBits .cdcEvent 0 0x3, .one .cdcUnitBlocks unit.val, .one .cdcUnitSelfchk unit.val,
        .oneBits .cdcUnitStatus unit.val 0xc003ffff, .one .cdcUnitStored unit.val, .one .insUploadSkip unit.val,
        .all .irqLevel, .all .irqPendSet, .oneBits .ptnStatus 0 0x10000040, .all .tenCqTail, .all .tenEvDrop] [] []
  | .batchStart _ _ _ =>
    .of [.raised, .outs, .draw, .cmp, .ten, .lnk, .mgt, .hst, .syn, .ptn]
      [.all .cdcUnitBlocks, .all .cdcUnitStored, .oneBits .cmpEvent 0 0xa, .bits .embStatus 0x10000000,
        .all .embTableCe, .all .irqLevel, .all .irqPendSet, .all .rpLine, .all .rpReadCrc, .bits .rpStatus 0xf00,
        .all .rpUnderrun, .all .tenDramUsed, .bits .tenState 0xe0000000, .all .xptSession] [] []
  | .batchComplete port =>
    .of [.raised, .outs, .draw, .cmp, .mgt, .hst, .syn, .ql, .ptn]
      (synPages ++ [.all .cdcUnitBlocks, .all .cdcUnitStored, .all .embBatches, .oneBits .embGlbCap 0 0xff0000,
        .bits .embStatus 0x50000000, .all .irqLevel, .all .irqPendSet, .one .ptnCmpCount 0, .oneBits .ptnEvent 0 0x4,
        .one .ptnMismatch 0, .one .ptnNocmp 0, .oneBits .ptnStatus 0 0x10000008, .oneBits .qlStatus 0 0x8000ffff,
        .all .rpLine, .bits .rpStatus 0xf00, .oneBits .synEvent port.val 0x1, .oneBits .synStatus port.val 0x7fff]) [] []
  | .forecastFrame _ =>
    .of [.raised, .outs, .mgt, .hst, .syn]
      [.oneBits .embGlbEvent 0 0x8, .all .fcEst, .all .fcLast, .all .irqLevel, .all .irqPendSet, .bits .synEvent 0x2] [] []
  | .healthGo req _ =>
    .of [.raised, .outs, .draw, .cmp, .mgt, .hst, .syn, .ql, .ptn, .pwr, .ins, .lne]
      [.all .cdcUnitBlocks, .all .cdcUnitStored, .oneBits .embGlbEvent 0 0x10, .one .embHcCtrl 0, .one .embHcResult 0,
        .one .embHcResult 1, .one .embHcResult 2, .one .embHcResult 3, .oneBits .embHcStatus 0 0xffffffff,
        .one .glbLastErr req.val, .all .irqLevel, .all .irqPendSet, .one .qlCasDrop 0, .oneBits .qlEvent 0 0x28,
        .one .qlLogDrop 0, .one .qlLogHead 0]
      [d.logRange] []
  | .healthFold _ =>
    .of [.syn]
      [.oneBits .embHcStatus 0 0xffff0000] [] []
  | .nztWrite req port _ _ _ =>
    .of [.raised, .outs, .draw, .syn, .ptn]
      (synPageOf port.val ++ [.all .cdcUnitBlocks, .all .cdcUnitStored, .one .glbLastErr req.val,
        .oneBits .synStatus port.val 0x3fff]) [] []
  | .commit req port =>
    .of [.raised, .outs, .draw, .ptn]
      [.all .cdcUnitBlocks, .all .cdcUnitStored, .one .glbLastErr req.val, .oneBits .synStatus port.val 0x4000] [] []
  | .abort req port =>
    .of [.raised, .outs, .draw, .mgt, .hst, .syn, .ql, .ptn]
      [.all .cdcUnitBlocks, .all .cdcUnitStored, .one .glbLastErr req.val, .all .irqLevel, .all .irqPendSet,
        .oneBits .qlEvent 0 0x8, .one .qlLogDrop 0, .one .qlLogHead 0, .oneBits .qlStatus 0 0x8000ffff,
        .oneBits .synStatus port.val 0x7fff]
      [d.logRange] []
  | .tableReadyWrite req port _ =>
    .of [.raised]
      [.one .glbLastErr req.val, .oneBits .synCtrl port.val 0x1] [] []
  | .engineFault engine _ _ =>
    .of [.raised, .outs, .draw, .cmp, .ten, .lnk, .mgt, .hst, .syn, .ql, .ptn, .pwr, .ins, .lne]
      [.all .cdcUnitBlocks, .all .cdcUnitStored, .all .cueSeq, .oneBits .embGlbCap 0 0xff0000,
        .oneBits .embGlbEvent 0 0x5, .one .embHcResult 0, .one .embHcResult 1, .one .embHcResult 2, .one .embHcResult 3,
        .oneBits .embHcStatus 0 0xffff0000, .bits .embStatus 0x50000000, .oneBits .embStatus engine.val 0xf0000fff,
        .one .embTableCe engine.val, .oneBits .hlGlbStatus 0 0x3ffff, .all .irqLevel, .all .irqPendSet,
        .bits .linkStatus 0xe0000000, .oneBits .ptnStatus 0 0xf0000011, .oneBits .ptnSurrender 0 0xff000000,
        .one .qlCasDrop 0, .oneBits .qlEvent 0 0x28, .one .qlLogDrop 0, .one .qlLogHead 0,
        .oneBits .qlStatus 0 0x8000ffff, .bits .rpStatus 0x80000000, .bits .synStatus 0xff000000, .all .tenCqTail,
        .all .tenDramUsed, .all .tenLastErr, .bits .tenState 0xe0000000, .all .xptSession]
      [d.logRange] []
  | .retire req engine =>
    .of [.raised, .mgt, .syn]
      [.all .cueSeq, .oneBits .embGlbCap 0 0xff0000, .bits .embStatus 0x40000000,
        .oneBits .embStatus engine.val 0xf0000fff, .one .glbLastErr req.val] [] []
  | .cueStart =>
    .of [.mgt, .syn]
      [.all .cueSeq, .bits .dmcGrpStatus 0x40000000, .oneBits .embGlbCap 0 0xff0000, .bits .embStatus 0x700000ff,
        .bits .synStatus 0xff000000, .bits .tenState 0x10000000] [] []
  | .cueDone place =>
    .of [.raised, .outs, .draw, .cmp, .ten, .mgt, .hst, .ql, .ptn, .pwr, .dmc]
      (tenPages ++ [.all .cdcUnitBlocks, .all .cdcUnitStored, .oneBits .cueEvent 0 0x1, .one .cueLastDone 0,
        .all .cueSeq, .all .dmcGrpStatus, .bits .dmcStatus 0xc700ffff, .oneBits .embGlbEvent 0 0x2, .all .irqLevel,
        .all .irqPendSet, .oneBits .ptnStatus 0 0xf0000011, .oneBits .qlStatus 0 0x8000ffff, .all .tenCqTail,
        .all .tenDramUsed, .one .tenGlbCount 0, .one .tenGlbParked 0, .all .tenHandle, .all .tenLastErr,
        .bits .tenState 0xf3fc0000, .all .xptSession])
      (d.cueRanges place) []
  | .cueAbort req _ _ =>
    .of [.raised, .outs, .draw, .ten, .mgt, .hst, .ptn]
      [.all .cdcUnitBlocks, .all .cdcUnitStored, .all .cueSeq, .bits .dmcGrpStatus 0x60000000, .one .glbLastErr req.val,
        .all .tenCqTail, .all .tenLastErr] [] []
  | .cueQuery _ _ =>
    .of []
      [.one .cueQuery 0, .one .cueQueryResult 0] [] []
  | .slateSend port _ =>
    .of [.now, .outs, .ten, .lnk, .syn, .lne]
      [.oneBits .linkStatus port.val 0xff1f] [] []
  | .batchSend port =>
    .of [.outs, .lnk, .syn, .lne]
      [.oneBits .linkStatus port.val 0xff1f] [] []
  | .batchSkip port _ =>
    .of [.raised, .cmp, .lnk, .syn]
      [.one .hptNoCredit port.val, .one .hptSkipped port.val] [] []
  | .cap port _ _ _ _ =>
    .of [.raised, .outs, .lnk, .lne]
      [.one .headCap port.val, .one .headId port.val, .one .headTiming port.val,
        .oneBits .linkStatus port.val 0x1f800000] [] []
  | .headAck port _ _ =>
    .of [.raised, .outs, .cmp, .lnk, .mgt, .hst, .syn, .lne, .ctl]
      [.bits .embStatus 0x10000000, .oneBits .hlGlbEvent 0 0x1, .oneBits .hlGlbStatus 0 0x3ffff,
        .one .hptRelinks port.val, .all .irqLevel, .all .irqPendSet, .one .joinFire port.val,
        .oneBits .linkEvent port.val 0x26, .all .linkStatus, .one .lneGlbDown 0, .all .lneRateKbps,
        .bits .lneStatus 0xf6000001, .one .maxFireHz port.val, .bits .rpStatus 0x80000000, .oneBits .synCtrl port.val 0x1] [] []
  | .headEvent port _ =>
    .of [.raised, .outs, .lnk, .mgt, .hst]
      [.one .hUnderrun port.val, .all .irqLevel, .all .irqPendSet, .oneBits .linkEvent port.val 0x1] [] []
  | .nsense _ _ =>
    .of [.raised, .outs, .draw, .mgt, .hst, .ql, .ptn]
      [.all .cdcUnitBlocks, .all .cdcUnitStored, .all .irqLevel, .all .irqPendSet, .oneBits .qlEvent 0 0x9,
        .one .qlLogDrop 0, .one .qlLogHead 0, .one .qlOuts 0, .oneBits .qlStatus 0 0x8000ffff]
      [d.logRange] []
  | .sample _ _ =>
    .of [.ctl]
      [.all .ctlLoopFb, .all .ctlLoopSeqDiscard, .bits .ctlLoopStatus 0xe1000000] [] []
  | .credit port _ _ =>
    .of []
      [.oneBits .linkStatus port.val 0xff00] [] []
  | .echoWord _ _ _ =>
    .of [.lnk]
      [] [] []
  | .msgCrcFail _ _ =>
    .of []
      [.all .hptBlockErr, .all .lneBlockErr] [] []
  | .ackTimeout port _ =>
    .of [.raised, .outs, .cmp, .lnk, .mgt, .hst, .syn, .lne]
      [.bits .embStatus 0x10000000, .oneBits .hlGlbEvent 0 0x1, .oneBits .hlGlbStatus 0 0x3ffff,
        .one .hptRelinks port.val, .all .irqLevel, .all .irqPendSet, .oneBits .linkEvent port.val 0x2, .all .linkStatus,
        .one .lneGlbDown 0, .bits .lneStatus 0xf6000001, .one .maxFireHz port.val, .bits .rpStatus 0x80000000] [] []
  | .upstreamSilent port =>
    .of [.raised, .outs, .cmp, .lnk, .mgt, .hst, .syn, .lne]
      [.bits .embStatus 0x10000000, .oneBits .hlGlbEvent 0 0x1, .oneBits .hlGlbStatus 0 0x3ffff,
        .one .hptRelinks port.val, .all .irqLevel, .all .irqPendSet, .oneBits .linkEvent port.val 0x2, .all .linkStatus,
        .one .lneGlbDown 0, .bits .lneStatus 0xf6000001, .one .maxFireHz port.val, .bits .rpStatus 0x80000000] [] []
  | .versionRetry port =>
    .of [.raised, .outs, .lnk, .lne]
      [.oneBits .linkStatus port.val 0x1f800000] [] []
  | .go req port =>
    .of [.raised, .outs, .cmp, .lnk, .syn, .lne]
      [.bits .embStatus 0x10000000, .one .glbLastErr req.val, .oneBits .hlGlbStatus 0 0x3ffff, .one .joinFire port.val,
        .oneBits .linkStatus port.val 0xe000ffff, .bits .rpStatus 0x80000000] [] []
  | .goAll req =>
    .of [.raised, .outs, .cmp, .lnk, .syn, .lne]
      [.bits .embStatus 0x10000000, .one .glbLastErr req.val, .oneBits .hlGlbStatus 0 0x3ffff, .all .joinFire,
        .bits .linkStatus 0xe000ffff, .bits .rpStatus 0x80000000] [] []
  | .leave req _ =>
    .of [.raised, .outs, .lnk, .lne]
      [.one .glbLastErr req.val] [] []
  | .relink req port =>
    .of [.raised, .outs, .cmp, .lnk, .mgt, .hst, .syn, .lne]
      [.bits .embStatus 0x10000000, .one .glbLastErr req.val, .oneBits .hlGlbEvent 0 0x1,
        .oneBits .hlGlbStatus 0 0x3ffff, .one .hptRelinks port.val, .all .irqLevel, .all .irqPendSet,
        .oneBits .linkEvent port.val 0x2, .all .linkStatus, .one .lneGlbDown 0, .bits .lneStatus 0xf6000001,
        .one .maxFireHz port.val, .bits .rpStatus 0x80000000] [] []
  | .portJoinEffect port =>
    .of [.raised, .outs, .cmp, .lnk, .mgt, .hst, .syn]
      [.bits .embStatus 0x10000000, .oneBits .hlGlbStatus 0 0x3ffff, .all .irqLevel, .all .irqPendSet,
        .oneBits .linkEvent port.val 0x8, .oneBits .linkStatus port.val 0xe0000000, .bits .rpStatus 0x80000000] [] []
  | .portLeaveEffect port =>
    .of [.cmp, .lnk, .syn]
      [.bits .embStatus 0x10000000, .oneBits .hlGlbStatus 0 0x3ffff, .oneBits .linkStatus port.val 0xe000ff1f,
        .bits .rpStatus 0x80000000] [] []
  | .rateRelease _ =>
    .of [.now, .pos]
      [.oneBits .hlGlbStatus 0 0x80000000] [] []
  | .insRunWrite pipe _ =>
    .of [.outs, .draw, .ten, .mgt, .hst, .ins]
      [.oneBits .insCtrl pipe.val 0x1, .oneBits .insEvent pipe.val 0x1, .one .insFrameNo pipe.val,
        .oneBits .insStatus pipe.val 0x1007fff, .all .irqLevel, .all .irqPendSet, .all .tenCqTail, .all .tenEvDrop] [] []
  | .insClose pipe =>
    .of [.outs, .draw, .ten, .mgt, .hst, .ins]
      [.oneBits .insEvent pipe.val 0x1, .one .insFrameNo pipe.val, .oneBits .insStatus pipe.val 0x1007fff,
        .all .irqLevel, .all .irqPendSet, .all .tenCqTail, .all .tenEvDrop] [] []
  | .insRelink pipe =>
    .of [.outs, .draw, .ten, .mgt, .hst, .ins, .lne]
      [.oneBits .insEvent pipe.val 0x1, .one .insFrameNo pipe.val, .oneBits .insStatus pipe.val 0xef007fff,
        .all .irqLevel, .all .irqPendSet, .all .linkStatus, .one .lneGlbDown 0, .bits .lneStatus 0xf6000001,
        .all .tenCqTail, .all .tenEvDrop] [] []
  | .triggerSend pipe _ =>
    .of [.now, .raised, .outs, .pos, .mgt, .hst, .ins, .lne]
      [.oneBits .insEvent pipe.val 0x4, .oneBits .insStatus pipe.val 0x1000000, .one .insTrigDefer pipe.val,
        .one .insTrigSkip pipe.val, .all .irqLevel, .all .irqPendSet] [] []
  | .camcap pipe _ _ _ =>
    .of [.raised, .outs, .ins, .lne]
      [.one .insCamId pipe.val, .one .insMinLineNs pipe.val, .oneBits .insStatus pipe.val 0x1e000000] [] []
  | .camAck pipe _ _ =>
    .of [.outs, .draw, .ten, .mgt, .hst, .ins, .lne]
      [.oneBits .insEvent pipe.val 0x1, .one .insFrameNo pipe.val, .oneBits .insStatus pipe.val 0xef007fff,
        .all .irqLevel, .all .irqPendSet, .all .linkStatus, .one .lneGlbDown 0, .all .lneRateKbps,
        .bits .lneStatus 0xf6000001, .all .tenCqTail, .all .tenEvDrop] [] []
  | .rawPacket pipe _ _ _ _ _ =>
    .of [.raised, .outs, .draw, .ten, .mgt, .hst, .ins]
      [.oneBits .insEvent pipe.val 0xb, .one .insFrameNo pipe.val, .one .insLineIncomplete pipe.val,
        .oneBits .insStatus pipe.val 0x1007fff, .one .insStoreMiss pipe.val, .one .insStoreUsed 0, .all .irqLevel,
        .all .irqPendSet, .all .tenCqTail, .all .tenEvDrop] [] []
  | .camMeta _ _ _ =>
    .of [.ins]
      [.all .insMeta] [] []
  | .echo _ _ _ =>
    .of [.ins]
      [] [] []
  | .camEvent _ _ _ =>
    .of [.ins]
      [] [] []
  | .lineCloseTimeout pipe _ =>
    .of [.raised, .outs, .draw, .ten, .mgt, .hst, .ins]
      [.oneBits .insEvent pipe.val 0xb, .one .insFrameNo pipe.val, .one .insLineIncomplete pipe.val,
        .oneBits .insStatus pipe.val 0x1007fff, .one .insStoreMiss pipe.val, .one .insStoreUsed 0, .all .irqLevel,
        .all .irqPendSet, .all .tenCqTail, .all .tenEvDrop] [] []
  | .recordHandoff _ =>
    .of [.raised, .outs, .draw, .mgt, .hst, .ql, .ptn, .ins, .lne]
      [.all .cdcUnitBlocks, .all .cdcUnitStored, .all .irqLevel, .all .irqPendSet, .one .qlCasDrop 0,
        .oneBits .qlEvent 0 0x28, .one .qlLogDrop 0, .one .qlLogHead 0]
      [d.logRange] []
  | .statRecordWrite pipe =>
    .of [.raised, .outs, .mgt, .hst, .ins]
      [.oneBits .insEvent pipe.val 0x10, .one .insRecDrop pipe.val, .one .insStatRingHead pipe.val, .all .irqLevel,
        .all .irqPendSet]
      [d.recordRange pipe] []
  | .uploadCompress pipe =>
    .of [.cdc, .mgt, .ins]
      [.oneBits .cdcUnitStatus pipe.val 0x4003ffff, .one .insUploadSkip pipe.val] [] []
  | .gtDataAccess req pipe _ =>
    .of [.raised, .outs, .ins]
      [.one .glbLastErr req.val, .one .insGtAddr pipe.val] [] []
  | .cameraSilent pipe =>
    .of [.raised, .outs, .draw, .ten, .mgt, .hst, .ins, .lne]
      [.oneBits .insEvent pipe.val 0x21, .one .insFrameNo pipe.val, .oneBits .insStatus pipe.val 0xef007fff,
        .all .irqLevel, .all .irqPendSet, .all .linkStatus, .one .lneGlbDown 0, .bits .lneStatus 0xf6000001,
        .all .tenCqTail, .all .tenEvDrop] [] []
  | .qlRecordProcess =>
    .of [.raised, .outs, .draw, .mgt, .hst, .syn, .ql, .ptn]
      [.all .cdcUnitBlocks, .all .cdcUnitStored, .all .irqLevel, .all .irqPendSet, .one .qlDefer 0,
        .oneBits .qlEvent 0 0xb, .one .qlLogDrop 0, .one .qlLogHead 0, .one .qlOuts 0, .one .qlSat 0, .one .qlSets 0,
        .oneBits .qlStatus 0 0x8000ffff, .bits .synStatus 0x5fff, .all .updFire]
      [d.logRange] []
  | .qlHealthPresent =>
    .of [.raised, .outs, .draw, .cmp, .mgt, .hst, .syn, .ql, .ptn, .pwr, .ins, .lne]
      [.all .cdcUnitBlocks, .all .cdcUnitStored, .one .embHcResult 0, .one .embHcResult 1, .one .embHcResult 2,
        .one .embHcResult 3, .oneBits .embHcStatus 0 0xffff0000, .all .irqLevel, .all .irqPendSet, .one .qlCasDrop 0,
        .oneBits .qlEvent 0 0x2c, .one .qlLogDrop 0, .one .qlLogHead 0, .oneBits .qlStatus 0 0x8000ffff]
      [d.logRange] []
  | .qlHealthRetry =>
    .of [.raised, .outs, .draw, .cmp, .mgt, .hst, .syn, .ql, .ptn, .pwr, .ins, .lne]
      [.all .cdcUnitBlocks, .all .cdcUnitStored, .one .embHcResult 0, .one .embHcResult 1, .one .embHcResult 2,
        .one .embHcResult 3, .oneBits .embHcStatus 0 0xffff0000, .all .irqLevel, .all .irqPendSet, .one .qlCasDrop 0,
        .oneBits .qlEvent 0 0x2c, .one .qlLogDrop 0, .one .qlLogHead 0, .oneBits .qlStatus 0 0x8000ffff]
      [d.logRange] []
  | .qlClear =>
    .of [.outs, .draw, .ql, .ptn]
      [.all .cdcUnitBlocks, .all .cdcUnitStored] [] []
  | .cascap _ _ =>
    .of [.outs, .ql, .lne]
      [.all .lneRateKbps, .bits .lneStatus 0xf4000001] [] []
  | .cascadeRetry _ =>
    .of [.raised, .outs, .mgt, .hst, .lne]
      [.all .irqLevel, .all .irqPendSet, .all .linkStatus, .one .lneGlbDown 0, .bits .lneStatus 0xf6000001,
        .oneBits .qlEvent 0 0x10] [] []
  | .shape _ _ _ _ =>
    .of [.raised, .outs, .mgt, .hst, .ql, .lne]
      [.all .irqLevel, .all .irqPendSet, .one .qlCasDrop 0, .one .qlCasRx 0, .oneBits .qlEvent 0 0x28,
        .one .qlLogDrop 0, .one .qlLogHead 0]
      [d.logRange] []
  | .feed _ _ _ _ _ _ _ =>
    .of [.raised, .outs, .mgt, .hst, .ql, .ins, .lne]
      [.bits .insEvent 0x8, .one .insStoreDrop 0, .one .insStoreUsed 0, .all .irqLevel, .all .irqPendSet,
        .one .qlCasDrop 0, .one .qlCasRx 0, .oneBits .qlEvent 0 0x28, .one .qlLogDrop 0, .one .qlLogHead 0]
      [d.logRange] []
  | .casHealth _ _ _ =>
    .of [.raised, .outs, .mgt, .hst, .ql, .lne]
      [.all .irqLevel, .all .irqPendSet, .one .qlCasDrop 0, .one .qlCasRx 0, .oneBits .qlEvent 0 0x28,
        .one .qlLogDrop 0, .one .qlLogHead 0]
      [d.logRange] []
  | .spoiln _ _ _ _ _ _ =>
    .of [.raised, .outs, .mgt, .hst, .ql, .lne]
      [.all .irqLevel, .all .irqPendSet, .one .qlCasDrop 0, .one .qlCasRx 0, .oneBits .qlEvent 0 0x28,
        .one .qlLogDrop 0, .one .qlLogHead 0]
      [d.logRange] []
  | .devrec _ _ _ _ _ _ _ =>
    .of [.raised, .outs, .draw, .mgt, .hst, .syn, .ql, .ptn, .lne]
      [.all .cdcUnitBlocks, .all .cdcUnitStored, .all .irqLevel, .all .irqPendSet, .one .qlCasDrop 0, .one .qlCasRx 0,
        .one .qlDefer 0, .oneBits .qlEvent 0 0x2b, .one .qlLogDrop 0, .one .qlLogHead 0, .one .qlOuts 0, .one .qlSat 0,
        .one .qlSets 0, .oneBits .qlStatus 0 0x8000ffff, .bits .synStatus 0x5fff, .all .updFire]
      [d.logRange] []
  | .sqTailDoorbell slot _ _ _ =>
    .of [.raised, .outs, .ten, .mgt, .hst]
      [.all .irqLevel, .all .irqPendSet, .one .tenAccessErr 0, .one .tenDbErr slot.val, .oneBits .tenEvent 0 0x9,
        .one .tenSqTail slot.val] [] []
  | .cqHeadDoorbell slot _ _ =>
    .of [.raised, .outs, .ten, .mgt, .hst]
      [.all .irqLevel, .all .irqPendSet, .one .tenAccessErr 0, .one .tenCqHead slot.val, .all .tenCqTail,
        .one .tenDbErr slot.val, .oneBits .tenEvent 0 0x9, .all .tenLastErr] [] []
  | .ringGrant slot =>
    .of [.raised, .outs, .draw, .ten, .hst, .ptn]
      [.all .cdcUnitBlocks, .all .cdcUnitStored, .all .tenCqTail, .all .tenLastErr, .one .tenSqHead slot.val] [] []
  | .nop slot _ =>
    .of [.raised, .outs, .draw, .ten, .hst, .ptn]
      [.all .cdcUnitBlocks, .all .cdcUnitStored, .all .tenCqTail, .all .tenLastErr, .one .tenSqHead slot.val] [] []
  | .uploadSub slot _ =>
    .of [.raised, .outs, .draw, .ten, .hst, .ptn, .ins]
      [.all .cdcUnitBlocks, .all .cdcUnitStored, .all .tenCqTail, .all .tenLastErr, .one .tenSqHead slot.val] [] []
  | .uploadUnsub slot _ =>
    .of [.raised, .outs, .draw, .ten, .hst, .ptn, .ins]
      [.all .cdcUnitBlocks, .all .cdcUnitStored, .all .tenCqTail, .all .tenLastErr, .one .tenSqHead slot.val] [] []
  | .acctRead slot _ =>
    .of [.raised, .outs, .draw, .ten, .hst, .ptn]
      [.all .cdcUnitBlocks, .all .cdcUnitStored, .all .tenCqTail, .all .tenLastErr, .one .tenSqHead slot.val] [] []
  | .ctxOpen slot _ =>
    .of [.raised, .outs, .draw, .ten, .mgt, .hst, .ptn, .pwr]
      (tenPages ++ [.all .cdcUnitBlocks, .all .cdcUnitStored, .all .irqLevel, .all .irqPendSet,
        .oneBits .secStatus 0 0x10000000, .all .tenCqTail, .one .tenCtxFullCount 0, .all .tenDramQuota, .all .tenDramUsed,
        .oneBits .tenEvent 0 0x2, .one .tenGlbCount 0, .one .tenGlbParked 0, .all .tenHandle, .all .tenLastErr,
        .one .tenPoolFree 0, .all .tenRegions, .all .tenShare, .one .tenSqHead slot.val, .all .tenState]) [] []
  | .ctxClose slot _ =>
    .of [.raised, .outs, .draw, .cmp, .ten, .hst, .ptn, .pwr, .ins]
      [.all .cdcUnitBlocks, .all .cdcUnitStored, .one .cmpRegions 0, .all .tenCqTail, .all .tenDramUsed,
        .all .tenEvDrop, .one .tenGlbCount 0, .one .tenGlbParked 0, .all .tenHandle, .all .tenLastErr,
        .bits .tenRegions 0xffff, .one .tenSqHead slot.val, .bits .tenState 0xe0000000, .all .xptSession] [] []
  | .ctxPark slot _ =>
    .of [.raised, .outs, .draw, .ten, .mgt, .hst, .ptn]
      [.all .cdcUnitBlocks, .all .cdcUnitStored, .all .cueSeq, .all .tenCqTail, .all .tenLastErr,
        .one .tenSqHead slot.val] [] []
  | .ctxActivate slot _ =>
    .of [.raised, .outs, .draw, .ten, .mgt, .hst, .ptn]
      [.all .cdcUnitBlocks, .all .cdcUnitStored, .all .cueSeq, .all .irqLevel, .all .irqPendSet, .all .tenCqTail,
        .one .tenCtxFullCount 0, .oneBits .tenEvent 0 0x2, .all .tenLastErr, .one .tenSqHead slot.val] [] []
  | .ctxQuota slot _ =>
    .of [.raised, .outs, .draw, .ten, .hst, .ptn, .pwr]
      [.all .cdcUnitBlocks, .all .cdcUnitStored, .all .tenCqTail, .all .tenDramQuota, .one .tenGlbCount 0,
        .one .tenGlbParked 0, .all .tenLastErr, .bits .tenRegions 0xffff0000, .all .tenShare, .one .tenSqHead slot.val,
        .bits .tenState 0x8000000] [] []
  | .ctxZeroDone slot =>
    .of [.outs, .draw, .ten, .mgt, .hst, .ptn]
      (tenPageOf slot.val ++ [.all .cdcUnitBlocks, .all .cdcUnitStored, .all .irqLevel, .all .irqPendSet,
        .one .tenCqTail 0, .one .tenEvDrop 0, .oneBits .tenEvent 0 0x4, .one .tenGlbCount 0, .one .tenGlbParked 0,
        .one .tenLastErr 0, .one .tenPoolFree 0, .oneBits .tenState slot.val 0xe0000000]) [] []
  | .hostCqWriteFail slot =>
    .of [.raised, .outs, .ten, .mgt, .hst]
      [.all .irqLevel, .all .irqPendSet, .one .tenCqErr slot.val, .one .tenCqTail 0, .one .tenEvDrop 0,
        .oneBits .tenEvent 0 0x8, .one .tenLastErr 0] [] []
  | .ethFrameReceive ep _ _ =>
    .of [.raised, .outs, .ten, .mgt, .hst]
      [.one .epIpDrop ep.val, .one .epMgmtDrop ep.val, .one .epPauseRx ep.val, .all .irqLevel, .all .irqPendSet,
        .one .tenAccessErr 0, .all .tenCqHead, .all .tenCqTail, .all .tenDbErr, .all .tenDramUsed,
        .oneBits .tenEvent 0 0x9, .all .tenLastErr, .one .tenPoolFree 0, .all .tenSqTail, .bits .tenState 0x3,
        .one .xptAuthDrop 0, .all .xptSession] [] []
  | .ethFrameTransmit ep _ _ =>
    .of [.raised, .outs, .hst]
      [.one .epTsDrop ep.val] [] []
  | .txtsPop _ _ =>
    .of [.outs, .hst]
      [] [] []
  | .ethLinkChange ep _ _ =>
    .of [.raised, .outs, .ten, .mgt, .hst]
      [.one .epStatus ep.val, .all .irqLevel, .all .irqPendSet, .all .tenCqTail, .all .tenEvDrop, .all .tenLastErr] [] []
  | .hello _ _ _ _ _ =>
    .of [.raised, .outs, .ten, .hst]
      [.all .tenCqTail, .all .tenDramUsed, .all .tenLastErr, .one .tenPoolFree 0, .bits .tenState 0x3,
        .one .xptAuthDrop 0, .all .xptSession] [] []
  | .entries _ =>
    .of [.raised, .outs, .ten, .mgt, .hst]
      [.all .irqLevel, .all .irqPendSet, .one .tenAccessErr 0, .all .tenCqHead, .all .tenCqTail, .all .tenDbErr,
        .all .tenDramUsed, .oneBits .tenEvent 0 0x9, .all .tenLastErr, .all .tenSqTail, .one .xptAuthDrop 0,
        .all .xptSession] [] []
  | .xptDoorbell _ =>
    .of [.raised, .outs, .ten, .mgt, .hst]
      [.all .irqLevel, .all .irqPendSet, .one .tenAccessErr 0, .all .tenCqHead, .all .tenCqTail, .all .tenDbErr,
        .all .tenDramUsed, .oneBits .tenEvent 0 0x9, .all .tenLastErr, .all .tenSqTail, .one .xptAuthDrop 0,
        .all .xptSession] [] []
  | .xptWrite _ =>
    .of [.raised, .outs, .ten, .mgt, .hst]
      [.all .irqLevel, .all .irqPendSet, .one .tenAccessErr 0, .all .tenCqHead, .all .tenCqTail, .all .tenDbErr,
        .all .tenDramUsed, .oneBits .tenEvent 0 0x9, .all .tenLastErr, .all .tenSqTail, .one .xptAuthDrop 0,
        .all .xptSession] [] []
  | .xptAck _ =>
    .of [.raised, .outs, .ten, .mgt, .hst]
      [.all .irqLevel, .all .irqPendSet, .one .tenAccessErr 0, .all .tenCqHead, .all .tenCqTail, .all .tenDbErr,
        .all .tenDramUsed, .oneBits .tenEvent 0 0x9, .all .tenLastErr, .all .tenSqTail, .one .xptAuthDrop 0,
        .all .xptSession] [] []
  | .xptClose _ =>
    .of [.raised, .outs, .ten, .mgt, .hst]
      [.all .irqLevel, .all .irqPendSet, .one .tenAccessErr 0, .all .tenCqHead, .all .tenCqTail, .all .tenDbErr,
        .all .tenDramUsed, .oneBits .tenEvent 0 0x9, .all .tenLastErr, .all .tenSqTail, .one .xptAuthDrop 0,
        .all .xptSession] [] []
  | .xptAckTimer _ =>
    .of [.outs, .draw, .ten, .hst]
      [] [] []
  | .xptResend slot _ =>
    .of [.raised, .outs, .ten, .hst]
      [.one .tenCqTail 0, .one .tenEvDrop 0, .one .tenLastErr 0, .oneBits .tenState slot.val 0x3,
        .one .xptResends slot.val, .oneBits .xptSession slot.val 0x80000000] [] []
  | .cqeCoalesceTimer _ =>
    .of [.outs, .ten, .hst]
      [] [] []
  | .d3hotEntry _ _ _ =>
    .of [.outs, .hst]
      [.oneBits .pcieStatus 0 0x20000] [] []
  | .d0Return _ =>
    .of [.outs, .ten, .hst]
      [.oneBits .pcieStatus 0 0x20000, .all .tenCqTail, .all .tenEvDrop, .all .tenLastErr] [] []
  | .vfFlr _ =>
    .of [.raised, .outs, .ten, .hst]
      [.one .tenCqTail 0, .one .tenEvDrop 0, .one .tenLastErr 0, .bits .tenState 0x3] [] []
  | .pfFlr _ =>
    .of [.raised, .outs, .ten, .mgt, .hst]
      [.all .irqLevel, .all .irqPendSet, .one .pcieStatus 0, .one .tenCqTail 0, .one .tenEvDrop 0, .one .tenLastErr 0,
        .bits .tenState 0x3] [] []
  | .msixTimer _ _ =>
    .of [.outs, .hst]
      [] [] []
  | .msixUnmask _ _ =>
    .of [.outs, .hst]
      [] [] []
  | .pmeRepeat _ =>
    .of [.outs]
      [] [] []
  | .tsuIncWrite req _ _ =>
    .of [.raised]
      [.one .glbLastErr req.val, .one .tsuInc 0] [] []
  | .tsuStep _ =>
    .of [.hst]
      [.bits .toutCtrl 0x2, .all .toutMissed, .one .tsuTime 0] [] []
  | .tsuSet _ =>
    .of [.hst]
      [.bits .toutCtrl 0x2, .all .toutMissed, .one .tsuFrac 0, .one .tsuTime 0] [] []
  | .toutArm req t _ =>
    .of [.raised, .outs, .hst]
      [.one .glbLastErr req.val, .one .toutCtrl t.val] [] []
  | .toutPulse t =>
    .of [.outs, .mgt, .hst]
      [.all .irqLevel, .all .irqPendSet, .oneBits .toutCtrl t.val 0x2] [] []
  | .presentChange _ =>
    .of [.raised, .outs, .draw, .cmp, .ten, .hst, .ql, .ptn, .pwr]
      [.all .cdcUnitBlocks, .all .cdcUnitStored, .oneBits .ptnStatus 0 0xf4000001, .oneBits .qlStatus 0 0x8000ffff,
        .all .tenCqTail, .all .tenDramUsed, .all .tenLastErr, .bits .tenState 0xe0000000, .all .xptSession] [] []
  | .heartbeatLost =>
    .of [.raised, .outs, .mgt, .hst]
      [.all .irqLevel, .all .irqPendSet, .oneBits .ptnEvent 0 0x10, .oneBits .ptnStatus 0 0x3000000] [] []
  | .mirrorSilent =>
    .of [.raised, .outs, .draw, .pos, .cmp, .ten, .lnk, .mgt, .hst, .syn, .ql, .ptn, .pwr, .lne]
      [.all .cdcUnitBlocks, .all .cdcUnitStored, .one .cmpSpoilCount 0, .oneBits .embHcStatus 0 0xffff0000,
        .bits .embStatus 0x10000000, .all .irqLevel, .all .irqPendSet, .bits .linkStatus 0xff1f, .oneBits .posCtrl 0 0x1,
        .oneBits .posStatus 0 0xf001, .oneBits .ptnStatus 0 0xf0000003, .one .qlCasDrop 0, .oneBits .qlEvent 0 0x28,
        .one .qlLogDrop 0, .one .qlLogHead 0, .oneBits .qlStatus 0 0x8000ffff, .all .tenCqTail, .all .tenDramUsed,
        .all .tenEvDrop, .all .tenLastErr, .bits .tenState 0xe0000000, .all .xptSession]
      [d.logRange] []
  | .silentDeath =>
    .of [.raised, .outs, .draw, .pos, .cmp, .ten, .lnk, .mgt, .hst, .syn, .ql, .ptn, .pwr, .lne]
      [.all .cdcUnitBlocks, .all .cdcUnitStored, .one .cmpSpoilCount 0, .oneBits .embHcStatus 0 0xffff0000,
        .bits .embStatus 0x10000000, .all .irqLevel, .all .irqPendSet, .bits .linkStatus 0xff1f, .oneBits .posCtrl 0 0x1,
        .oneBits .posStatus 0 0xf001, .oneBits .ptnStatus 0 0xf2000001, .one .qlCasDrop 0, .oneBits .qlEvent 0 0x28,
        .one .qlLogDrop 0, .one .qlLogHead 0, .oneBits .qlStatus 0 0x8000ffff, .all .tenCqTail, .all .tenDramUsed,
        .all .tenEvDrop, .all .tenLastErr, .bits .tenState 0xe0000000, .all .xptSession]
      [d.logRange] []
  | .dualActive =>
    .of [.raised, .outs, .draw, .cmp, .ten, .mgt, .hst, .ql, .ptn, .pwr]
      [.all .cdcUnitBlocks, .all .cdcUnitStored, .all .irqLevel, .all .irqPendSet, .oneBits .ptnEvent 0 0x20,
        .oneBits .ptnStatus 0 0xf2000021, .oneBits .qlStatus 0 0x8000ffff, .all .tenCqTail, .all .tenDramUsed,
        .all .tenLastErr, .bits .tenState 0xe0000000, .all .xptSession] [] []
  | .pcap _ _ =>
    .of [.outs, .lne]
      [.all .lneRateKbps, .bits .lneStatus 0xf4000001] [] []
  | .mirrorLinkRetry _ =>
    .of [.lne]
      [.all .linkStatus, .one .lneGlbDown 0, .bits .lneStatus 0xf6000001] [] []
  | .bindRecord _ _ =>
    .of [.raised, .outs, .draw, .pos, .cmp, .ten, .lnk, .mgt, .hst, .syn, .ql, .ptn, .pwr, .ins, .lne]
      (synPages ++ tenPages ++ [.all .cdcUnitBlocks, .all .cdcUnitStored, .one .cmpLeadLines 0, .one .cmpLockLine 0,
        .one .cmpPassCur 0, .one .cmpPassNext 0, .one .cmpRegions 0, .one .cmpSpoilCount 0, .all .cueSeq,
        .oneBits .embGlbCap 0 0xff0000, .oneBits .embGlbEvent 0 0x5, .one .embHcResult 0, .one .embHcResult 1,
        .one .embHcResult 2, .one .embHcResult 3, .oneBits .embHcStatus 0 0xffff0000, .bits .embStatus 0xf0000fff,
        .oneBits .hlGlbStatus 0 0x3ffff, .bits .insEvent 0x1, .all .insFrameNo, .bits .insStatus 0x1007fff,
        .all .irqLevel, .all .irqPendSet, .all .joinFire, .all .linkStatus, .one .lneGlbDown 0,
        .bits .lneStatus 0xf6000001, .all .maxFireHz, .one .posBindFire 0, .one .posBindLine 0, .oneBits .posCtrl 0 0x1,
        .one .posSkipCount 0, .oneBits .posStatus 0 0xfc01, .one .ptnBindDiff 0, .one .ptnCmpCount 0,
        .oneBits .ptnEvent 0 0xc, .one .ptnMismatch 0, .one .ptnMseq 0, .one .ptnNocmp 0, .all .ptnPartnerDigest,
        .one .ptnReelLag 0, .oneBits .ptnStatus 0 0xf200001d, .oneBits .ptnSurrender 0 0xffff0000, .one .qlCasDrop 0,
        .oneBits .qlEvent 0 0x28, .one .qlLogDrop 0, .one .qlLogHead 0, .oneBits .qlStatus 0 0x8000ffff, .all .rpLine,
        .bits .rpStatus 0xc0000f00, .bits .synStatus 0xff007fff, .all .tenCqTail, .all .tenDramUsed, .all .tenEvDrop,
        .one .tenGlbCount 0, .one .tenGlbParked 0, .all .tenLastErr, .one .tenPoolFree 0, .bits .tenRegions 0xffff,
        .bits .tenState 0xe0000000, .all .updFire, .all .xptSession])
      [d.logRange] []
  | .mirrorCommit _ _ _ =>
    .of [.raised, .outs, .draw, .pos, .cmp, .ten, .lnk, .mgt, .hst, .syn, .ql, .ptn, .pwr, .ins, .lne]
      (synPages ++ tenPages ++ [.all .cdcUnitBlocks, .all .cdcUnitStored, .one .cmpLeadLines 0, .one .cmpLockLine 0,
        .one .cmpPassCur 0, .one .cmpPassNext 0, .one .cmpRegions 0, .one .cmpSpoilCount 0, .all .cueSeq,
        .oneBits .embGlbCap 0 0xff0000, .oneBits .embGlbEvent 0 0x5, .one .embHcResult 0, .one .embHcResult 1,
        .one .embHcResult 2, .one .embHcResult 3, .oneBits .embHcStatus 0 0xffff0000, .bits .embStatus 0xf0000fff,
        .oneBits .hlGlbStatus 0 0x3ffff, .bits .insEvent 0x1, .all .insFrameNo, .bits .insStatus 0x1007fff,
        .all .irqLevel, .all .irqPendSet, .all .joinFire, .all .linkStatus, .one .lneGlbDown 0,
        .bits .lneStatus 0xf6000001, .all .maxFireHz, .one .posBindFire 0, .one .posBindLine 0, .oneBits .posCtrl 0 0x1,
        .one .posSkipCount 0, .oneBits .posStatus 0 0xfc01, .one .ptnBindDiff 0, .one .ptnCmpCount 0,
        .oneBits .ptnEvent 0 0xc, .one .ptnMismatch 0, .one .ptnMseq 0, .one .ptnNocmp 0, .all .ptnPartnerDigest,
        .one .ptnReelLag 0, .oneBits .ptnStatus 0 0xf200001d, .oneBits .ptnSurrender 0 0xffff0000, .one .qlCasDrop 0,
        .oneBits .qlEvent 0 0x28, .one .qlLogDrop 0, .one .qlLogHead 0, .oneBits .qlStatus 0 0x8000ffff, .all .rpLine,
        .bits .rpStatus 0xc0000f00, .bits .synStatus 0xff007fff, .all .tenCqTail, .all .tenDramUsed, .all .tenEvDrop,
        .one .tenGlbCount 0, .one .tenGlbParked 0, .all .tenLastErr, .one .tenPoolFree 0, .bits .tenRegions 0xffff,
        .bits .tenState 0xe0000000, .all .updFire, .all .xptSession])
      [d.logRange] []
  | .mirrorCrc _ _ _ _ =>
    .of [.raised, .outs, .draw, .pos, .cmp, .ten, .lnk, .mgt, .hst, .syn, .ql, .ptn, .pwr, .ins, .lne]
      (synPages ++ tenPages ++ [.all .cdcUnitBlocks, .all .cdcUnitStored, .one .cmpLeadLines 0, .one .cmpLockLine 0,
        .one .cmpPassCur 0, .one .cmpPassNext 0, .one .cmpRegions 0, .one .cmpSpoilCount 0, .all .cueSeq,
        .oneBits .embGlbCap 0 0xff0000, .oneBits .embGlbEvent 0 0x5, .one .embHcResult 0, .one .embHcResult 1,
        .one .embHcResult 2, .one .embHcResult 3, .oneBits .embHcStatus 0 0xffff0000, .bits .embStatus 0xf0000fff,
        .oneBits .hlGlbStatus 0 0x3ffff, .bits .insEvent 0x1, .all .insFrameNo, .bits .insStatus 0x1007fff,
        .all .irqLevel, .all .irqPendSet, .all .joinFire, .all .linkStatus, .one .lneGlbDown 0,
        .bits .lneStatus 0xf6000001, .all .maxFireHz, .one .posBindFire 0, .one .posBindLine 0, .oneBits .posCtrl 0 0x1,
        .one .posSkipCount 0, .oneBits .posStatus 0 0xfc01, .one .ptnBindDiff 0, .one .ptnCmpCount 0,
        .oneBits .ptnEvent 0 0xc, .one .ptnMismatch 0, .one .ptnMseq 0, .one .ptnNocmp 0, .all .ptnPartnerDigest,
        .one .ptnReelLag 0, .oneBits .ptnStatus 0 0xf200001d, .oneBits .ptnSurrender 0 0xffff0000, .one .qlCasDrop 0,
        .oneBits .qlEvent 0 0x28, .one .qlLogDrop 0, .one .qlLogHead 0, .oneBits .qlStatus 0 0x8000ffff, .all .rpLine,
        .bits .rpStatus 0xc0000f00, .bits .synStatus 0xff007fff, .all .tenCqTail, .all .tenDramUsed, .all .tenEvDrop,
        .one .tenGlbCount 0, .one .tenGlbParked 0, .all .tenLastErr, .one .tenPoolFree 0, .bits .tenRegions 0xffff,
        .bits .tenState 0xe0000000, .all .updFire, .all .xptSession])
      [d.logRange] []
  | .verdictReady _ =>
    .of [.raised, .outs, .draw, .cmp, .ten, .lnk, .mgt, .hst, .syn, .ql, .ptn, .pwr, .ins, .lne]
      [.all .cdcUnitBlocks, .all .cdcUnitStored, .all .cueSeq, .oneBits .embGlbCap 0 0xff0000,
        .oneBits .embGlbEvent 0 0x5, .one .embHcResult 0, .one .embHcResult 1, .one .embHcResult 2, .one .embHcResult 3,
        .oneBits .embHcStatus 0 0xffff0000, .bits .embStatus 0xf0000fff, .oneBits .hlGlbStatus 0 0x3ffff, .all .irqLevel,
        .all .irqPendSet, .bits .linkStatus 0xe0000000, .oneBits .ptnStatus 0 0xf0000019,
        .oneBits .ptnSurrender 0 0xff000000, .one .qlCasDrop 0, .oneBits .qlEvent 0 0x28, .one .qlLogDrop 0,
        .one .qlLogHead 0, .oneBits .qlStatus 0 0x8000ffff, .bits .rpStatus 0x80000000, .bits .synStatus 0xff000000,
        .all .tenCqTail, .all .tenDramUsed, .all .tenLastErr, .bits .tenState 0xe0000000, .all .xptSession]
      [d.logRange] []
  | .lockRecord _ _ _ _ _ _ =>
    .of [.raised, .outs, .draw, .pos, .cmp, .ten, .lnk, .mgt, .hst, .syn, .ql, .ptn, .pwr, .ins, .lne]
      (synPages ++ tenPages ++ [.all .cdcUnitBlocks, .all .cdcUnitStored, .one .cmpLeadLines 0, .one .cmpLockLine 0,
        .one .cmpPassCur 0, .one .cmpPassNext 0, .one .cmpRegions 0, .one .cmpSpoilCount 0, .all .cueSeq,
        .oneBits .embGlbCap 0 0xff0000, .oneBits .embGlbEvent 0 0x5, .one .embHcResult 0, .one .embHcResult 1,
        .one .embHcResult 2, .one .embHcResult 3, .oneBits .embHcStatus 0 0xffff0000, .bits .embStatus 0xf0000fff,
        .oneBits .hlGlbStatus 0 0x3ffff, .bits .insEvent 0x1, .all .insFrameNo, .bits .insStatus 0x1007fff,
        .all .irqLevel, .all .irqPendSet, .all .joinFire, .all .linkStatus, .one .lneGlbDown 0,
        .bits .lneStatus 0xf6000001, .all .maxFireHz, .one .posBindFire 0, .one .posBindLine 0, .oneBits .posCtrl 0 0x1,
        .one .posSkipCount 0, .oneBits .posStatus 0 0xfc01, .one .ptnBindDiff 0, .one .ptnCmpCount 0,
        .oneBits .ptnEvent 0 0xc, .one .ptnMismatch 0, .one .ptnMseq 0, .one .ptnNocmp 0, .all .ptnPartnerDigest,
        .one .ptnReelLag 0, .oneBits .ptnStatus 0 0xf200001d, .oneBits .ptnSurrender 0 0xffff0000, .one .qlCasDrop 0,
        .oneBits .qlEvent 0 0x28, .one .qlLogDrop 0, .one .qlLogHead 0, .oneBits .qlStatus 0 0x8000ffff, .all .rpLine,
        .bits .rpStatus 0xc0000f00, .bits .synStatus 0xff007fff, .all .tenCqTail, .all .tenDramUsed, .all .tenEvDrop,
        .one .tenGlbCount 0, .one .tenGlbParked 0, .all .tenLastErr, .one .tenPoolFree 0, .bits .tenRegions 0xffff,
        .bits .tenState 0xe0000000, .all .updFire, .all .xptSession])
      [d.logRange] []
  | .mirrorBlock _ _ _ _ _ _ _ _ =>
    .of [.raised, .outs, .draw, .pos, .cmp, .ten, .lnk, .mgt, .hst, .syn, .ql, .ptn, .pwr, .ins, .lne]
      (synPages ++ tenPages ++ [.all .cdcUnitBlocks, .all .cdcUnitStored, .one .cmpLeadLines 0, .one .cmpLockLine 0,
        .one .cmpPassCur 0, .one .cmpPassNext 0, .one .cmpRegions 0, .one .cmpSpoilCount 0, .all .cueSeq,
        .oneBits .embGlbCap 0 0xff0000, .oneBits .embGlbEvent 0 0x5, .one .embHcResult 0, .one .embHcResult 1,
        .one .embHcResult 2, .one .embHcResult 3, .oneBits .embHcStatus 0 0xffff0000, .bits .embStatus 0xf0000fff,
        .oneBits .hlGlbStatus 0 0x3ffff, .bits .insEvent 0x1, .all .insFrameNo, .bits .insStatus 0x1007fff,
        .all .irqLevel, .all .irqPendSet, .all .joinFire, .all .linkStatus, .one .lneGlbDown 0,
        .bits .lneStatus 0xf6000001, .all .maxFireHz, .one .posBindFire 0, .one .posBindLine 0, .oneBits .posCtrl 0 0x1,
        .one .posSkipCount 0, .oneBits .posStatus 0 0xfc01, .one .ptnBindDiff 0, .one .ptnCmpCount 0,
        .oneBits .ptnEvent 0 0xc, .one .ptnMismatch 0, .one .ptnMseq 0, .one .ptnNocmp 0, .all .ptnPartnerDigest,
        .one .ptnReelLag 0, .oneBits .ptnStatus 0 0xf200001d, .oneBits .ptnSurrender 0 0xffff0000, .one .qlCasDrop 0,
        .oneBits .qlEvent 0 0x28, .one .qlLogDrop 0, .one .qlLogHead 0, .oneBits .qlStatus 0 0x8000ffff, .all .rpLine,
        .bits .rpStatus 0xc0000f00, .bits .synStatus 0xff007fff, .all .tenCqTail, .all .tenDramUsed, .all .tenEvDrop,
        .one .tenGlbCount 0, .one .tenGlbParked 0, .all .tenLastErr, .one .tenPoolFree 0, .bits .tenRegions 0xffff,
        .bits .tenState 0xe0000000, .all .updFire, .all .xptSession])
      [d.logRange] []
  | .tableRecord _ _ _ _ =>
    .of [.raised, .outs, .draw, .pos, .cmp, .ten, .lnk, .mgt, .hst, .syn, .ql, .ptn, .pwr, .ins, .lne]
      (synPages ++ tenPages ++ [.all .cdcUnitBlocks, .all .cdcUnitStored, .one .cmpLeadLines 0, .one .cmpLockLine 0,
        .one .cmpPassCur 0, .one .cmpPassNext 0, .one .cmpRegions 0, .one .cmpSpoilCount 0, .all .cueSeq,
        .oneBits .embGlbCap 0 0xff0000, .oneBits .embGlbEvent 0 0x5, .one .embHcResult 0, .one .embHcResult 1,
        .one .embHcResult 2, .one .embHcResult 3, .oneBits .embHcStatus 0 0xffff0000, .bits .embStatus 0xf0000fff,
        .oneBits .hlGlbStatus 0 0x3ffff, .bits .insEvent 0x1, .all .insFrameNo, .bits .insStatus 0x1007fff,
        .all .irqLevel, .all .irqPendSet, .all .joinFire, .all .linkStatus, .one .lneGlbDown 0,
        .bits .lneStatus 0xf6000001, .all .maxFireHz, .one .posBindFire 0, .one .posBindLine 0, .oneBits .posCtrl 0 0x1,
        .one .posSkipCount 0, .oneBits .posStatus 0 0xfc01, .one .ptnBindDiff 0, .one .ptnCmpCount 0,
        .oneBits .ptnEvent 0 0xc, .one .ptnMismatch 0, .one .ptnMseq 0, .one .ptnNocmp 0, .all .ptnPartnerDigest,
        .one .ptnReelLag 0, .oneBits .ptnStatus 0 0xf200001d, .oneBits .ptnSurrender 0 0xffff0000, .one .qlCasDrop 0,
        .oneBits .qlEvent 0 0x28, .one .qlLogDrop 0, .one .qlLogHead 0, .oneBits .qlStatus 0 0x8000ffff, .all .rpLine,
        .bits .rpStatus 0xc0000f00, .bits .synStatus 0xff007fff, .all .tenCqTail, .all .tenDramUsed, .all .tenEvDrop,
        .one .tenGlbCount 0, .one .tenGlbParked 0, .all .tenLastErr, .one .tenPoolFree 0, .bits .tenRegions 0xffff,
        .bits .tenState 0xe0000000, .all .updFire, .all .xptSession])
      [d.logRange] []
  | .mirrorHealth _ _ =>
    .of [.raised, .outs, .draw, .pos, .cmp, .ten, .lnk, .mgt, .hst, .syn, .ql, .ptn, .pwr, .ins, .lne]
      (synPages ++ tenPages ++ [.all .cdcUnitBlocks, .all .cdcUnitStored, .one .cmpLeadLines 0, .one .cmpLockLine 0,
        .one .cmpPassCur 0, .one .cmpPassNext 0, .one .cmpRegions 0, .one .cmpSpoilCount 0, .all .cueSeq,
        .oneBits .embGlbCap 0 0xff0000, .oneBits .embGlbEvent 0 0x5, .one .embHcResult 0, .one .embHcResult 1,
        .one .embHcResult 2, .one .embHcResult 3, .oneBits .embHcStatus 0 0xffff0000, .bits .embStatus 0xf0000fff,
        .oneBits .hlGlbStatus 0 0x3ffff, .bits .insEvent 0x1, .all .insFrameNo, .bits .insStatus 0x1007fff,
        .all .irqLevel, .all .irqPendSet, .all .joinFire, .all .linkStatus, .one .lneGlbDown 0,
        .bits .lneStatus 0xf6000001, .all .maxFireHz, .one .posBindFire 0, .one .posBindLine 0, .oneBits .posCtrl 0 0x1,
        .one .posSkipCount 0, .oneBits .posStatus 0 0xfc01, .one .ptnBindDiff 0, .one .ptnCmpCount 0,
        .oneBits .ptnEvent 0 0xc, .one .ptnMismatch 0, .one .ptnMseq 0, .one .ptnNocmp 0, .all .ptnPartnerDigest,
        .one .ptnReelLag 0, .oneBits .ptnStatus 0 0xf200001d, .oneBits .ptnSurrender 0 0xffff0000, .one .qlCasDrop 0,
        .oneBits .qlEvent 0 0x28, .one .qlLogDrop 0, .one .qlLogHead 0, .oneBits .qlStatus 0 0x8000ffff, .all .rpLine,
        .bits .rpStatus 0xc0000f00, .bits .synStatus 0xff007fff, .all .tenCqTail, .all .tenDramUsed, .all .tenEvDrop,
        .one .tenGlbCount 0, .one .tenGlbParked 0, .all .tenLastErr, .one .tenPoolFree 0, .bits .tenRegions 0xffff,
        .bits .tenState 0xe0000000, .all .updFire, .all .xptSession])
      [d.logRange] []
  | .ctxRecord _ _ =>
    .of [.raised, .outs, .draw, .pos, .cmp, .ten, .lnk, .mgt, .hst, .syn, .ql, .ptn, .pwr, .ins, .lne]
      (synPages ++ tenPages ++ [.all .cdcUnitBlocks, .all .cdcUnitStored, .one .cmpLeadLines 0, .one .cmpLockLine 0,
        .one .cmpPassCur 0, .one .cmpPassNext 0, .one .cmpRegions 0, .one .cmpSpoilCount 0, .all .cueSeq,
        .oneBits .embGlbCap 0 0xff0000, .oneBits .embGlbEvent 0 0x5, .one .embHcResult 0, .one .embHcResult 1,
        .one .embHcResult 2, .one .embHcResult 3, .oneBits .embHcStatus 0 0xffff0000, .bits .embStatus 0xf0000fff,
        .oneBits .hlGlbStatus 0 0x3ffff, .bits .insEvent 0x1, .all .insFrameNo, .bits .insStatus 0x1007fff,
        .all .irqLevel, .all .irqPendSet, .all .joinFire, .all .linkStatus, .one .lneGlbDown 0,
        .bits .lneStatus 0xf6000001, .all .maxFireHz, .one .posBindFire 0, .one .posBindLine 0, .oneBits .posCtrl 0 0x1,
        .one .posSkipCount 0, .oneBits .posStatus 0 0xfc01, .one .ptnBindDiff 0, .one .ptnCmpCount 0,
        .oneBits .ptnEvent 0 0xc, .one .ptnMismatch 0, .one .ptnMseq 0, .one .ptnNocmp 0, .all .ptnPartnerDigest,
        .one .ptnReelLag 0, .oneBits .ptnStatus 0 0xf200001d, .oneBits .ptnSurrender 0 0xffff0000, .one .qlCasDrop 0,
        .oneBits .qlEvent 0 0x28, .one .qlLogDrop 0, .one .qlLogHead 0, .oneBits .qlStatus 0 0x8000ffff, .all .rpLine,
        .bits .rpStatus 0xc0000f00, .bits .synStatus 0xff007fff, .all .tenCqTail, .all .tenDramUsed, .all .tenEvDrop,
        .one .tenGlbCount 0, .one .tenGlbParked 0, .all .tenLastErr, .one .tenPoolFree 0, .bits .tenRegions 0xffff,
        .bits .tenState 0xe0000000, .all .updFire, .all .xptSession])
      [d.logRange] []
  | .loopRecord _ _ _ =>
    .of [.raised, .outs, .draw, .pos, .cmp, .ten, .lnk, .mgt, .hst, .syn, .ql, .ptn, .pwr, .ins, .lne]
      (synPages ++ tenPages ++ [.all .cdcUnitBlocks, .all .cdcUnitStored, .one .cmpLeadLines 0, .one .cmpLockLine 0,
        .one .cmpPassCur 0, .one .cmpPassNext 0, .one .cmpRegions 0, .one .cmpSpoilCount 0, .all .cueSeq,
        .oneBits .embGlbCap 0 0xff0000, .oneBits .embGlbEvent 0 0x5, .one .embHcResult 0, .one .embHcResult 1,
        .one .embHcResult 2, .one .embHcResult 3, .oneBits .embHcStatus 0 0xffff0000, .bits .embStatus 0xf0000fff,
        .oneBits .hlGlbStatus 0 0x3ffff, .bits .insEvent 0x1, .all .insFrameNo, .bits .insStatus 0x1007fff,
        .all .irqLevel, .all .irqPendSet, .all .joinFire, .all .linkStatus, .one .lneGlbDown 0,
        .bits .lneStatus 0xf6000001, .all .maxFireHz, .one .posBindFire 0, .one .posBindLine 0, .oneBits .posCtrl 0 0x1,
        .one .posSkipCount 0, .oneBits .posStatus 0 0xfc01, .one .ptnBindDiff 0, .one .ptnCmpCount 0,
        .oneBits .ptnEvent 0 0xc, .one .ptnMismatch 0, .one .ptnMseq 0, .one .ptnNocmp 0, .all .ptnPartnerDigest,
        .one .ptnReelLag 0, .oneBits .ptnStatus 0 0xf200001d, .oneBits .ptnSurrender 0 0xffff0000, .one .qlCasDrop 0,
        .oneBits .qlEvent 0 0x28, .one .qlLogDrop 0, .one .qlLogHead 0, .oneBits .qlStatus 0 0x8000ffff, .all .rpLine,
        .bits .rpStatus 0xc0000f00, .bits .synStatus 0xff007fff, .all .tenCqTail, .all .tenDramUsed, .all .tenEvDrop,
        .one .tenGlbCount 0, .one .tenGlbParked 0, .all .tenLastErr, .one .tenPoolFree 0, .bits .tenRegions 0xffff,
        .bits .tenState 0xe0000000, .all .updFire, .all .xptSession])
      [d.logRange] []
  | .daily _ _ =>
    .of [.raised, .outs, .draw, .pos, .cmp, .ten, .lnk, .mgt, .hst, .syn, .ql, .ptn, .pwr, .ins, .lne]
      (synPages ++ tenPages ++ [.all .cdcUnitBlocks, .all .cdcUnitStored, .one .cmpLeadLines 0, .one .cmpLockLine 0,
        .one .cmpPassCur 0, .one .cmpPassNext 0, .one .cmpRegions 0, .one .cmpSpoilCount 0, .all .cueSeq,
        .oneBits .embGlbCap 0 0xff0000, .oneBits .embGlbEvent 0 0x5, .one .embHcResult 0, .one .embHcResult 1,
        .one .embHcResult 2, .one .embHcResult 3, .oneBits .embHcStatus 0 0xffff0000, .bits .embStatus 0xf0000fff,
        .oneBits .hlGlbStatus 0 0x3ffff, .bits .insEvent 0x1, .all .insFrameNo, .bits .insStatus 0x1007fff,
        .all .irqLevel, .all .irqPendSet, .all .joinFire, .all .linkStatus, .one .lneGlbDown 0,
        .bits .lneStatus 0xf6000001, .all .maxFireHz, .one .posBindFire 0, .one .posBindLine 0, .oneBits .posCtrl 0 0x1,
        .one .posSkipCount 0, .oneBits .posStatus 0 0xfc01, .one .ptnBindDiff 0, .one .ptnCmpCount 0,
        .oneBits .ptnEvent 0 0xc, .one .ptnMismatch 0, .one .ptnMseq 0, .one .ptnNocmp 0, .all .ptnPartnerDigest,
        .one .ptnReelLag 0, .oneBits .ptnStatus 0 0xf200001d, .oneBits .ptnSurrender 0 0xffff0000, .one .qlCasDrop 0,
        .oneBits .qlEvent 0 0x28, .one .qlLogDrop 0, .one .qlLogHead 0, .oneBits .qlStatus 0 0x8000ffff, .all .rpLine,
        .bits .rpStatus 0xc0000f00, .bits .synStatus 0xff007fff, .all .tenCqTail, .all .tenDramUsed, .all .tenEvDrop,
        .one .tenGlbCount 0, .one .tenGlbParked 0, .all .tenLastErr, .one .tenPoolFree 0, .bits .tenRegions 0xffff,
        .bits .tenState 0xe0000000, .all .updFire, .all .xptSession])
      [d.logRange] []
  | .dailySend =>
    .of [.outs, .draw, .ptn]
      [.all .cdcUnitBlocks, .all .cdcUnitStored] [] []
  | .surrenderRecord _ _ _ =>
    .of [.raised, .outs, .draw, .pos, .cmp, .ten, .lnk, .mgt, .hst, .syn, .ql, .ptn, .pwr, .ins, .lne]
      (synPages ++ tenPages ++ [.all .cdcUnitBlocks, .all .cdcUnitStored, .one .cmpLeadLines 0, .one .cmpLockLine 0,
        .one .cmpPassCur 0, .one .cmpPassNext 0, .one .cmpRegions 0, .one .cmpSpoilCount 0, .all .cueSeq,
        .oneBits .embGlbCap 0 0xff0000, .oneBits .embGlbEvent 0 0x5, .one .embHcResult 0, .one .embHcResult 1,
        .one .embHcResult 2, .one .embHcResult 3, .oneBits .embHcStatus 0 0xffff0000, .bits .embStatus 0xf0000fff,
        .oneBits .hlGlbStatus 0 0x3ffff, .bits .insEvent 0x1, .all .insFrameNo, .bits .insStatus 0x1007fff,
        .all .irqLevel, .all .irqPendSet, .all .joinFire, .all .linkStatus, .one .lneGlbDown 0,
        .bits .lneStatus 0xf6000001, .all .maxFireHz, .one .posBindFire 0, .one .posBindLine 0, .oneBits .posCtrl 0 0x1,
        .one .posSkipCount 0, .oneBits .posStatus 0 0xfc01, .one .ptnBindDiff 0, .one .ptnCmpCount 0,
        .oneBits .ptnEvent 0 0xc, .one .ptnMismatch 0, .one .ptnMseq 0, .one .ptnNocmp 0, .all .ptnPartnerDigest,
        .one .ptnReelLag 0, .oneBits .ptnStatus 0 0xf200001d, .oneBits .ptnSurrender 0 0xffff0000, .one .qlCasDrop 0,
        .oneBits .qlEvent 0 0x28, .one .qlLogDrop 0, .one .qlLogHead 0, .oneBits .qlStatus 0 0x8000ffff, .all .rpLine,
        .bits .rpStatus 0xc0000f00, .bits .synStatus 0xff007fff, .all .tenCqTail, .all .tenDramUsed, .all .tenEvDrop,
        .one .tenGlbCount 0, .one .tenGlbParked 0, .all .tenLastErr, .one .tenPoolFree 0, .bits .tenRegions 0xffff,
        .bits .tenState 0xe0000000, .all .updFire, .all .xptSession])
      [d.logRange] []
  | .verdict _ _ _ _ =>
    .of [.raised, .outs, .draw, .pos, .cmp, .ten, .lnk, .mgt, .hst, .syn, .ql, .ptn, .pwr, .ins, .lne]
      (synPages ++ tenPages ++ [.all .cdcUnitBlocks, .all .cdcUnitStored, .one .cmpLeadLines 0, .one .cmpLockLine 0,
        .one .cmpPassCur 0, .one .cmpPassNext 0, .one .cmpRegions 0, .one .cmpSpoilCount 0, .all .cueSeq,
        .oneBits .embGlbCap 0 0xff0000, .oneBits .embGlbEvent 0 0x5, .one .embHcResult 0, .one .embHcResult 1,
        .one .embHcResult 2, .one .embHcResult 3, .oneBits .embHcStatus 0 0xffff0000, .bits .embStatus 0xf0000fff,
        .oneBits .hlGlbStatus 0 0x3ffff, .bits .insEvent 0x1, .all .insFrameNo, .bits .insStatus 0x1007fff,
        .all .irqLevel, .all .irqPendSet, .all .joinFire, .all .linkStatus, .one .lneGlbDown 0,
        .bits .lneStatus 0xf6000001, .all .maxFireHz, .one .posBindFire 0, .one .posBindLine 0, .oneBits .posCtrl 0 0x1,
        .one .posSkipCount 0, .oneBits .posStatus 0 0xfc01, .one .ptnBindDiff 0, .one .ptnCmpCount 0,
        .oneBits .ptnEvent 0 0xc, .one .ptnMismatch 0, .one .ptnMseq 0, .one .ptnNocmp 0, .all .ptnPartnerDigest,
        .one .ptnReelLag 0, .oneBits .ptnStatus 0 0xf200001d, .oneBits .ptnSurrender 0 0xffff0000, .one .qlCasDrop 0,
        .oneBits .qlEvent 0 0x28, .one .qlLogDrop 0, .one .qlLogHead 0, .oneBits .qlStatus 0 0x8000ffff, .all .rpLine,
        .bits .rpStatus 0xc0000f00, .bits .synStatus 0xff007fff, .all .tenCqTail, .all .tenDramUsed, .all .tenEvDrop,
        .one .tenGlbCount 0, .one .tenGlbParked 0, .all .tenLastErr, .one .tenPoolFree 0, .bits .tenRegions 0xffff,
        .bits .tenState 0xe0000000, .all .updFire, .all .xptSession])
      [d.logRange] []
  | .mirrorAck _ _ =>
    .of [.raised, .outs, .draw, .pos, .cmp, .ten, .lnk, .mgt, .hst, .syn, .ql, .ptn, .pwr, .ins, .lne]
      (synPages ++ tenPages ++ [.all .cdcUnitBlocks, .all .cdcUnitStored, .one .cmpLeadLines 0, .one .cmpLockLine 0,
        .one .cmpPassCur 0, .one .cmpPassNext 0, .one .cmpRegions 0, .one .cmpSpoilCount 0, .all .cueSeq,
        .oneBits .embGlbCap 0 0xff0000, .oneBits .embGlbEvent 0 0x5, .one .embHcResult 0, .one .embHcResult 1,
        .one .embHcResult 2, .one .embHcResult 3, .oneBits .embHcStatus 0 0xffff0000, .bits .embStatus 0xf0000fff,
        .oneBits .hlGlbStatus 0 0x3ffff, .bits .insEvent 0x1, .all .insFrameNo, .bits .insStatus 0x1007fff,
        .all .irqLevel, .all .irqPendSet, .all .joinFire, .all .linkStatus, .one .lneGlbDown 0,
        .bits .lneStatus 0xf6000001, .all .maxFireHz, .one .posBindFire 0, .one .posBindLine 0, .oneBits .posCtrl 0 0x1,
        .one .posSkipCount 0, .oneBits .posStatus 0 0xfc01, .one .ptnBindDiff 0, .one .ptnCmpCount 0,
        .oneBits .ptnEvent 0 0xc, .one .ptnMismatch 0, .one .ptnMseq 0, .one .ptnNocmp 0, .all .ptnPartnerDigest,
        .one .ptnReelLag 0, .oneBits .ptnStatus 0 0xf200001d, .oneBits .ptnSurrender 0 0xffff0000, .one .qlCasDrop 0,
        .oneBits .qlEvent 0 0x28, .one .qlLogDrop 0, .one .qlLogHead 0, .oneBits .qlStatus 0 0x8000ffff, .all .rpLine,
        .bits .rpStatus 0xc0000f00, .bits .synStatus 0xff007fff, .all .tenCqTail, .all .tenDramUsed, .all .tenEvDrop,
        .one .tenGlbCount 0, .one .tenGlbParked 0, .all .tenLastErr, .one .tenPoolFree 0, .bits .tenRegions 0xffff,
        .bits .tenState 0xe0000000, .all .updFire, .all .xptSession])
      [d.logRange] []
  | .recordMsg _ _ _ =>
    .of [.raised, .outs, .draw, .pos, .cmp, .ten, .lnk, .mgt, .hst, .syn, .ql, .ptn, .pwr, .ins, .lne]
      (synPages ++ tenPages ++ [.all .cdcUnitBlocks, .all .cdcUnitStored, .one .cmpLeadLines 0, .one .cmpLockLine 0,
        .one .cmpPassCur 0, .one .cmpPassNext 0, .one .cmpRegions 0, .one .cmpSpoilCount 0, .all .cueSeq,
        .oneBits .embGlbCap 0 0xff0000, .oneBits .embGlbEvent 0 0x5, .one .embHcResult 0, .one .embHcResult 1,
        .one .embHcResult 2, .one .embHcResult 3, .oneBits .embHcStatus 0 0xffff0000, .bits .embStatus 0xf0000fff,
        .oneBits .hlGlbStatus 0 0x3ffff, .bits .insEvent 0x1, .all .insFrameNo, .bits .insStatus 0x1007fff,
        .all .irqLevel, .all .irqPendSet, .all .joinFire, .all .linkStatus, .one .lneGlbDown 0,
        .bits .lneStatus 0xf6000001, .all .maxFireHz, .one .posBindFire 0, .one .posBindLine 0, .oneBits .posCtrl 0 0x1,
        .one .posSkipCount 0, .oneBits .posStatus 0 0xfc01, .one .ptnBindDiff 0, .one .ptnCmpCount 0,
        .oneBits .ptnEvent 0 0xc, .one .ptnMismatch 0, .one .ptnMseq 0, .one .ptnNocmp 0, .all .ptnPartnerDigest,
        .one .ptnReelLag 0, .oneBits .ptnStatus 0 0xf200001d, .oneBits .ptnSurrender 0 0xffff0000, .one .qlCasDrop 0,
        .oneBits .qlEvent 0 0x28, .one .qlLogDrop 0, .one .qlLogHead 0, .oneBits .qlStatus 0 0x8000ffff, .all .rpLine,
        .bits .rpStatus 0xc0000f00, .bits .synStatus 0xff007fff, .all .tenCqTail, .all .tenDramUsed, .all .tenEvDrop,
        .one .tenGlbCount 0, .one .tenGlbParked 0, .all .tenLastErr, .one .tenPoolFree 0, .bits .tenRegions 0xffff,
        .bits .tenState 0xe0000000, .all .updFire, .all .xptSession])
      [d.logRange] []
  | .mirrorGap =>
    .of [.raised, .outs, .draw, .cmp, .ten, .mgt, .hst, .ql, .ptn, .pwr]
      [.all .cdcUnitBlocks, .all .cdcUnitStored, .all .irqLevel, .all .irqPendSet, .oneBits .ptnEvent 0 0x2,
        .oneBits .ptnStatus 0 0xf0000003, .oneBits .qlStatus 0 0x8000ffff, .all .tenCqTail, .all .tenDramUsed,
        .all .tenLastErr, .bits .tenState 0xe0000000, .all .xptSession] [] []
  | .ptnSurrender =>
    .of [.raised, .outs, .draw, .cmp, .ten, .lnk, .hst, .syn, .ql, .ptn, .pwr, .lne]
      [.all .cdcUnitBlocks, .all .cdcUnitStored, .bits .embStatus 0x10000000, .oneBits .hlGlbStatus 0 0x3ffff,
        .all .linkStatus, .one .lneGlbDown 0, .bits .lneStatus 0xf6000001, .all .maxFireHz,
        .oneBits .ptnStatus 0 0xf0000011, .oneBits .ptnSurrender 0 0xff000000, .oneBits .qlStatus 0 0x8000ffff,
        .bits .rpStatus 0x80000000, .all .tenCqTail, .all .tenDramUsed, .all .tenLastErr, .bits .tenState 0xe0000000,
        .all .xptSession] [] []
  | .takeover =>
    .of [.raised, .outs, .draw, .cmp, .ten, .lnk, .mgt, .hst, .syn, .ql, .ptn, .pwr, .ins, .lne, .ctl]
      [.all .cdcUnitBlocks, .all .cdcUnitStored, .all .ctlAxPos, .bits .ctlAxStatus 0xe0fe0000, .all .ctlAxVel,
        .one .embHcResult 0, .one .embHcResult 1, .one .embHcResult 2, .one .embHcResult 3,
        .oneBits .embHcStatus 0 0xffff0000, .all .irqLevel, .all .irqPendSet, .oneBits .ptnEvent 0 0x1,
        .one .ptnSplices 0, .oneBits .ptnStatus 0 0xf0000001, .one .ptnTakeFire 0, .one .qlCasDrop 0,
        .oneBits .qlEvent 0 0x28, .one .qlLogDrop 0, .one .qlLogHead 0, .oneBits .qlStatus 0 0x8000ffff, .all .tenCqTail,
        .all .tenDramUsed, .all .tenEvDrop, .all .tenLastErr, .bits .tenState 0xe0000003, .all .xptSession]
      [d.logRange] []
  | .snapshotApplied _ _ =>
    .of [.raised, .outs, .draw, .pos, .cmp, .ten, .lnk, .mgt, .hst, .syn, .ql, .ptn, .pwr, .ins, .lne]
      (synPages ++ tenPages ++ [.all .cdcUnitBlocks, .all .cdcUnitStored, .one .cmpLeadLines 0, .one .cmpLockLine 0,
        .one .cmpPassCur 0, .one .cmpPassNext 0, .one .cmpRegions 0, .one .cmpSpoilCount 0, .all .cueSeq,
        .oneBits .embGlbCap 0 0xff0000, .oneBits .embGlbEvent 0 0x5, .one .embHcResult 0, .one .embHcResult 1,
        .one .embHcResult 2, .one .embHcResult 3, .oneBits .embHcStatus 0 0xffff0000, .bits .embStatus 0xf0000fff,
        .oneBits .hlGlbStatus 0 0x3ffff, .bits .insEvent 0x1, .all .insFrameNo, .bits .insStatus 0x1007fff,
        .all .irqLevel, .all .irqPendSet, .all .joinFire, .all .linkStatus, .one .lneGlbDown 0,
        .bits .lneStatus 0xf6000001, .all .maxFireHz, .one .posBindFire 0, .one .posBindLine 0, .oneBits .posCtrl 0 0x1,
        .one .posSkipCount 0, .oneBits .posStatus 0 0xfc01, .one .ptnBindDiff 0, .one .ptnCmpCount 0,
        .oneBits .ptnEvent 0 0xc, .one .ptnMismatch 0, .one .ptnMseq 0, .one .ptnNocmp 0, .all .ptnPartnerDigest,
        .one .ptnReelLag 0, .oneBits .ptnStatus 0 0xf200001f, .oneBits .ptnSurrender 0 0xffff0000, .one .qlCasDrop 0,
        .oneBits .qlEvent 0 0x28, .one .qlLogDrop 0, .one .qlLogHead 0, .oneBits .qlStatus 0 0x8000ffff, .all .rpLine,
        .bits .rpStatus 0xc0000f00, .bits .synCtrl 0x1, .bits .synStatus 0xff007fff, .all .tenCqTail, .all .tenDramUsed,
        .all .tenEvDrop, .one .tenGlbCount 0, .one .tenGlbParked 0, .all .tenLastErr, .one .tenPoolFree 0,
        .bits .tenRegions 0xffff, .bits .tenState 0xe0000000, .all .updFire, .all .xptSession])
      [d.logRange] []
  | .resync =>
    .of [.raised, .outs, .draw, .cmp, .ten, .hst, .ql, .ptn, .pwr]
      [.all .cdcUnitBlocks, .all .cdcUnitStored, .oneBits .ptnStatus 0 0xf0000001, .oneBits .qlStatus 0 0x8000ffff,
        .all .tenCqTail, .all .tenDramUsed, .all .tenLastErr, .bits .tenState 0xe0000000, .all .xptSession] [] []
  | .removeRequest _ =>
    .of [.raised, .outs, .draw, .cmp, .ten, .lnk, .mgt, .hst, .syn, .ql, .ptn, .pwr, .lne]
      [.all .cdcUnitBlocks, .all .cdcUnitStored, .bits .embStatus 0x10000000, .oneBits .hlGlbStatus 0 0x3ffff,
        .all .irqLevel, .all .irqPendSet, .all .linkStatus, .one .lneGlbDown 0, .bits .lneStatus 0xf6000001,
        .all .maxFireHz, .oneBits .ptnEvent 0 0x40, .oneBits .ptnStatus 0 0xf0000011, .oneBits .ptnSurrender 0 0xff000000,
        .oneBits .qlStatus 0 0x8000ffff, .bits .rpStatus 0x80000000, .all .tenCqTail, .all .tenDramUsed, .all .tenLastErr,
        .bits .tenState 0xe0000000, .all .xptSession] [] []
  | .forceRemove =>
    .of [.raised, .outs, .draw, .pos, .cmp, .ten, .lnk, .mgt, .hst, .syn, .ql, .ptn, .pwr, .lne]
      [.all .cdcUnitBlocks, .all .cdcUnitStored, .one .cmpSpoilCount 0, .oneBits .embHcStatus 0 0xffff0000,
        .bits .embStatus 0x10000000, .oneBits .hlGlbStatus 0 0x3ffff, .all .irqLevel, .all .irqPendSet, .all .linkStatus,
        .one .lneGlbDown 0, .bits .lneStatus 0xf6000001, .all .maxFireHz, .oneBits .posCtrl 0 0x1,
        .oneBits .posStatus 0 0xf001, .oneBits .ptnStatus 0 0xf0000001, .one .qlCasDrop 0, .oneBits .qlEvent 0 0x28,
        .one .qlLogDrop 0, .one .qlLogHead 0, .oneBits .qlStatus 0 0x8000ffff, .bits .rpStatus 0x80000000,
        .all .tenCqTail, .all .tenDramUsed, .all .tenEvDrop, .all .tenLastErr, .bits .tenState 0xe0000000,
        .all .xptSession]
      [d.logRange] []
  | .pairEnWrite _ =>
    .of [.raised, .outs, .draw, .cmp, .ten, .hst, .ql, .ptn, .pwr]
      [.all .cdcUnitBlocks, .all .cdcUnitStored, .oneBits .ptnCtrl 0 0x1, .oneBits .ptnStatus 0 0xf0000001,
        .oneBits .qlStatus 0 0x8000ffff, .all .tenCqTail, .all .tenDramUsed, .all .tenLastErr, .bits .tenState 0xe0000000,
        .all .xptSession] [] []
  | .budgetEstimate _ _ _ _ =>
    .of [.raised, .outs, .draw, .img, .pos, .cmp, .ten, .lnk, .mgt, .hst, .syn, .ql, .ptn, .pwr, .ins, .lne, .dmc, .ctl]
      [.all .cdcUnitBlocks, .all .cdcUnitStored, .one .cmpSpoilCount 0, .all .ctlAxPos, .bits .ctlAxStatus 0xe0fe0000,
        .all .ctlAxVel, .one .dmcScrubAddr 0, .oneBits .embHcStatus 0 0xffff0000, .bits .embStatus 0x10000000,
        .all .epStatus, .oneBits .hlGlbEvent 0 0x1, .oneBits .hlGlbStatus 0 0x3ffff, .oneBits .imgStatus 0 0x7,
        .bits .insEvent 0x21, .all .insFrameNo, .bits .insStatus 0xef007fff, .all .irqLevel, .all .irqPendSet,
        .bits .linkEvent 0x2, .all .linkStatus, .one .lneGlbDown 0, .bits .lneStatus 0xf6000001, .all .maxFireHz,
        .oneBits .nvaEvent 0 0x3, .all .nvaOpDone, .all .nvaOpStatus, .one .nvaStatus 0, .oneBits .posCtrl 0 0x1,
        .oneBits .posStatus 0 0xf001, .oneBits .ptnEvent 0 0x2, .one .ptnStatus 0, .oneBits .ptnSurrender 0 0xff000000,
        .one .pwrDeltaBytes 0, .one .pwrEstimate 0, .oneBits .pwrEvent 0 0x99, .one .pwrReserveUsed 0,
        .oneBits .pwrStatus 0 0xfe0007ff, .all .pwrTaskStatus, .all .pwrTj, .one .qlCasDrop 0, .oneBits .qlEvent 0 0x38,
        .one .qlLogDrop 0, .one .qlLogHead 0, .one .qlStatus 0, .bits .rpStatus 0x80000000, .bits .synStatus 0x7fff,
        .all .tenCqTail, .all .tenDramUsed, .all .tenEvDrop, .all .tenLastErr, .bits .tenState 0xe0000000,
        .all .xptSession]
      [d.logRange] (d.opLines fun _ => true)
  | .speedHoldRelease =>
    .of [.pos]
      [.oneBits .pwrStatus 0 0x10000000] [] []
  | .powerOver =>
    .of [.raised, .outs, .pos, .mgt, .hst]
      [.all .irqLevel, .all .irqPendSet, .oneBits .pwrEvent 0 0x2, .oneBits .pwrStatus 0 0x10000000] [] []
  | .taskDueCmd task _ _ =>
    .of [.pwr]
      [.oneBits .pwrTaskStatus 7 0x80000000, .one .pwrTaskStatus task.val] [] []
  | .taskDeadlineMiss task =>
    .of [.raised, .outs, .mgt, .hst, .pwr]
      [.all .irqLevel, .all .irqPendSet, .oneBits .pwrEvent 0 0x4, .one .pwrTaskMisses task.val] [] []
  | .taskComplete task =>
    .of [.outs, .mgt, .hst, .pwr]
      [.oneBits .calEvent 0 0x4, .one .dmcScrubPass 0, .all .irqLevel, .all .irqPendSet, .oneBits .lneGlbEvent 0 0x1,
        .one .pwrTaskLastMs task.val, .one .pwrTaskRuns task.val, .one .pwrTaskStatus task.val] [] []
  | .checkpointCommit raw =>
    .of [.raised, .outs, .mgt, .hst, .pwr]
      [.all .cdcUnitBlocks, .all .cdcUnitStored, .all .irqLevel, .all .irqPendSet, .one .pwrCkptFire 0,
        .one .pwrCkptSeq 0, .one .pwrDeltaBytes 0, .one .pwrTaskLastMs 1, .one .pwrTaskRuns 1, .one .pwrTaskStatus 1]
      [] (d.saveRanges raw)
  | .journalWrite =>
    .of [.pwr]
      [] [] []
  | .ckptNow =>
    .of [.pwr]
      [.one .pwrTaskStatus 1] [] []
  | .droneEnWrite _ =>
    .of []
      [.oneBits .pwrCtrl 0 0x1] [] []
  | .pfGlitch =>
    .of []
      [.one .pwrPfGlitch 0] [] []
  | .breathStart =>
    .of [.raised, .outs, .draw, .img, .cmp, .ten, .lnk, .mgt, .hst, .syn, .ql, .ptn, .pwr, .ins, .lne, .ctl]
      [.all .cdcUnitBlocks, .all .cdcUnitStored, .all .ctlAxPos, .bits .ctlAxStatus 0xe0fe0000, .all .ctlAxVel,
        .bits .embStatus 0x10000000, .all .epStatus, .oneBits .hlGlbEvent 0 0x1, .oneBits .hlGlbStatus 0 0x3ffff,
        .oneBits .imgStatus 0 0x7, .bits .insEvent 0x21, .all .insFrameNo, .bits .insStatus 0xef007fff, .all .irqLevel,
        .all .irqPendSet, .bits .linkEvent 0x2, .all .linkStatus, .one .lneGlbDown 0, .bits .lneStatus 0xf6000001,
        .all .maxFireHz, .oneBits .nvaEvent 0 0x3, .all .nvaOpDone, .all .nvaOpStatus, .one .nvaStatus 0,
        .oneBits .ptnEvent 0 0x2, .one .ptnStatus 0, .oneBits .ptnSurrender 0 0xff000000,
        .oneBits .pwrStatus 0 0xe0800000, .all .pwrTaskStatus, .oneBits .qlEvent 0 0x18, .one .qlLogDrop 0,
        .one .qlLogHead 0, .one .qlStatus 0, .bits .rpStatus 0x80000000, .bits .synStatus 0x7fff, .all .tenCqTail,
        .all .tenDramUsed, .all .tenEvDrop, .all .tenLastErr, .bits .tenState 0xe0000000, .all .xptSession]
      [d.logRange] (d.opLines fun _ => true)
  | .supplyTrip _ =>
    .of [.raised, .outs, .draw, .img, .pos, .cmp, .ten, .lnk, .mgt, .hst, .syn, .ql, .ptn, .pwr, .ins, .lne, .ctl]
      [.all .cdcUnitBlocks, .all .cdcUnitStored, .one .cmpSpoilCount 0, .all .ctlAxPos, .bits .ctlAxStatus 0xe0feff00,
        .all .ctlAxVel, .bits .ctlLoopStatus 0xffff, .oneBits .embHcStatus 0 0xffff0000, .bits .embStatus 0x10000000,
        .all .epStatus, .oneBits .hlGlbEvent 0 0x1, .oneBits .hlGlbStatus 0 0x3ffff, .oneBits .imgStatus 0 0x7,
        .bits .insEvent 0x21, .all .insFrameNo, .bits .insStatus 0xef007fff, .all .irqLevel, .all .irqPendSet,
        .bits .linkEvent 0x2, .all .linkStatus, .one .lneGlbDown 0, .bits .lneStatus 0xf6000001, .all .maxFireHz,
        .oneBits .nvaEvent 0 0x3, .all .nvaOpDone, .all .nvaOpStatus, .one .nvaStatus 0, .one .pcieStatus 0,
        .oneBits .posCtrl 0 0x1, .oneBits .posStatus 0 0xf001, .oneBits .ptnEvent 0 0x2, .one .ptnStatus 0,
        .oneBits .ptnSurrender 0 0xff000000, .oneBits .pwrEvent 0 0x40, .oneBits .pwrStatus 0 0xe0000000,
        .all .pwrTaskStatus, .one .qlCasDrop 0, .oneBits .qlEvent 0 0x38, .one .qlLogDrop 0, .one .qlLogHead 0,
        .one .qlStatus 0, .bits .rpStatus 0x80000000, .bits .synStatus 0x7fff, .all .tenCqTail, .all .tenDramUsed,
        .all .tenEvDrop, .all .tenLastErr, .bits .tenState 0xe0000000, .all .xptSession]
      [d.logRange] (d.opLines fun _ => true)
  | .shedDone =>
    .of [.raised, .outs, .draw, .pos, .cmp, .ten, .lnk, .mgt, .hst, .syn, .ql, .ptn, .pwr, .ins, .lne, .ctl]
      [.all .cdcUnitBlocks, .all .cdcUnitStored, .one .cmpSpoilCount 0, .all .ctlAxPos, .bits .ctlAxStatus 0x60feff00,
        .all .ctlAxVel, .bits .ctlLoopStatus 0xffff, .oneBits .embHcStatus 0 0xffff0000, .bits .embStatus 0x10000000,
        .all .epStatus, .oneBits .hlGlbEvent 0 0x1, .oneBits .hlGlbStatus 0 0x3ffff, .bits .insEvent 0x21,
        .all .insFrameNo, .bits .insStatus 0xef007fff, .all .irqLevel, .all .irqPendSet, .bits .linkEvent 0x2,
        .all .linkStatus, .one .lneGlbDown 0, .bits .lneStatus 0xf6000001, .all .maxFireHz, .one .pcieStatus 0,
        .oneBits .posCtrl 0 0x1, .oneBits .posStatus 0 0xf001, .oneBits .ptnEvent 0 0x2, .one .ptnStatus 0,
        .oneBits .pwrStatus 0 0xe0000000, .one .qlCasDrop 0, .oneBits .qlEvent 0 0x38, .one .qlLogDrop 0,
        .one .qlLogHead 0, .one .qlStatus 0, .bits .rpStatus 0x80000000, .all .tenCqTail, .all .tenDramUsed,
        .all .tenEvDrop, .all .tenLastErr, .bits .tenState 0xe0000000, .all .xptSession]
      [d.logRange] []
  | .holdExpire =>
    .of [.raised, .outs, .draw, .pos, .cmp, .ten, .lnk, .mgt, .hst, .syn, .ql, .ptn, .pwr, .ins, .lne, .ctl]
      [.all .cdcUnitBlocks, .all .cdcUnitStored, .one .cmpSpoilCount 0, .all .ctlAxPos, .bits .ctlAxStatus 0x60feff00,
        .all .ctlAxVel, .bits .ctlLoopStatus 0xffff, .oneBits .embHcStatus 0 0xffff0000, .bits .embStatus 0x10000000,
        .all .epStatus, .oneBits .hlGlbEvent 0 0x1, .oneBits .hlGlbStatus 0 0x3ffff, .bits .insEvent 0x21,
        .all .insFrameNo, .bits .insStatus 0xef007fff, .all .irqLevel, .all .irqPendSet, .bits .linkEvent 0x2,
        .all .linkStatus, .one .lneGlbDown 0, .bits .lneStatus 0xf6000001, .all .maxFireHz, .one .pcieStatus 0,
        .oneBits .posCtrl 0 0x1, .oneBits .posStatus 0 0xf001, .oneBits .ptnEvent 0 0x2, .one .ptnStatus 0,
        .oneBits .pwrStatus 0 0xe0000000, .one .qlCasDrop 0, .oneBits .qlEvent 0 0x38, .one .qlLogDrop 0,
        .one .qlLogHead 0, .one .qlStatus 0, .bits .rpStatus 0x80000000, .all .tenCqTail, .all .tenDramUsed,
        .all .tenEvDrop, .all .tenLastErr, .bits .tenState 0xe0000000, .all .xptSession]
      [d.logRange] []
  | .pfRecover =>
    .of [.raised, .outs, .mgt, .hst, .lne]
      [.all .irqLevel, .all .irqPendSet, .all .linkStatus, .bits .lneStatus 0xf4000001, .oneBits .pwrEvent 0 0x20,
        .one .pwrLastBreath 0, .oneBits .pwrStatus 0 0xe0800000] [] []
  | .breathCommit _ _ => Footprint.nothing
  | .pgStable => Footprint.nothing
  | .lspFrame port _ _ =>
    .of [.outs, .ctl]
      [.all .ctlLoopFb, .all .ctlLoopSeqDiscard, .bits .ctlLoopStatus 0xe1000000, .one .lspCrcErr port.val] [] []
  | .loopEvaluate loop _ _ =>
    .of [.now, .raised, .outs, .draw, .mgt, .hst, .ctl]
      [.oneBits .ctlEvent 0 0x3, .one .ctlLoopFrozen loop.val, .one .ctlLoopInt loop.val, .one .ctlLoopMissed loop.val,
        .one .ctlLoopStale loop.val, .oneBits .ctlLoopStatus loop.val 0xff00ffff, .all .irqLevel, .all .irqPendSet] [] []
  | .loopSafeTimeout loop =>
    .of [.raised, .outs, .draw, .cmp, .lnk, .mgt, .hst, .syn, .ql, .ptn, .pwr, .ins, .lne, .ctl]
      [.all .cdcUnitBlocks, .all .cdcUnitStored, .oneBits .ctlEvent 0 0x4, .oneBits .ctlLoopStatus loop.val 0xe100ffff,
        .one .embHcResult 0, .one .embHcResult 1, .one .embHcResult 2, .one .embHcResult 3,
        .oneBits .embHcStatus 0 0xffff0000, .bits .embStatus 0x10000000, .oneBits .hlGlbStatus 0 0x3ffff, .all .irqLevel,
        .all .irqPendSet, .bits .linkStatus 0xe0000000, .one .qlCasDrop 0, .oneBits .qlEvent 0 0x28, .one .qlLogDrop 0,
        .one .qlLogHead 0, .bits .rpStatus 0x80000000]
      [d.logRange] []
  | .loopResume req loop =>
    .of [.raised, .ctl]
      [.oneBits .ctlLoopStatus loop.val 0xe1000000, .one .glbLastErr req.val] [] []
  | .loopSpWrite loop _ =>
    .of []
      [.one .ctlLoopSp loop.val] [] []
  | .ctlRcDataAccess req _ _ =>
    .of [.latch, .raised, .outs, .ctl]
      [.one .ctlRcAddr 0, .one .glbLastErr req.val] [] []
  | .axisPush req axis =>
    .of [.raised, .ctl]
      [.one .ctlAxPos axis.val, .oneBits .ctlAxStatus axis.val 0x60fe0000, .one .ctlAxVel axis.val,
        .one .glbLastErr req.val] [] []
  | .axisHalt axis =>
    .of [.ctl]
      [.one .ctlAxPos axis.val, .oneBits .ctlAxStatus axis.val 0x60fe0000, .one .ctlAxVel axis.val] [] []
  | .axisAbort axis =>
    .of [.ctl]
      [.one .ctlAxPos axis.val, .oneBits .ctlAxStatus axis.val 0xe0fe0000, .one .ctlAxVel axis.val] [] []
  | .axisHome req axis =>
    .of [.raised, .ctl]
      [.one .ctlAxPos axis.val, .oneBits .ctlAxStatus axis.val 0x60fe0000, .one .ctlAxVel axis.val,
        .one .glbLastErr req.val] [] []
  | .axisPlanTick axis _ _ =>
    .of [.now, .raised, .outs, .mgt, .hst, .ctl]
      [.one .ctlAxPos axis.val, .oneBits .ctlAxStatus axis.val 0xf0fe0000, .one .ctlAxVel axis.val,
        .oneBits .ctlEvent 0 0x10, .all .irqLevel, .all .irqPendSet] [] []
  | .homeEdge axis =>
    .of [.ctl]
      [.one .ctlAxPos axis.val, .oneBits .ctlAxStatus axis.val 0xe0fe0000, .one .ctlAxVel axis.val] [] []
  | .axisLimit axis =>
    .of [.raised, .outs, .mgt, .hst, .ctl]
      [.one .ctlAxPos axis.val, .oneBits .ctlAxStatus axis.val 0xf0fe0000, .one .ctlAxVel axis.val,
        .oneBits .ctlEvent 0 0x8, .all .irqLevel, .all .irqPendSet] [] []
  | .asbCycle _ _ =>
    .of [.now, .outs, .ctl]
      [.all .ctlAxPos, .bits .ctlAxStatus 0x60feff00, .all .ctlAxVel] [] []
  | .asbUpWord axis _ =>
    .of [.raised, .outs, .mgt, .hst, .ctl]
      [.all .asbCrcErr, .one .ctlAxLoad axis.val, .one .ctlAxPos axis.val, .oneBits .ctlAxStatus axis.val 0xfffe0000,
        .one .ctlAxVel axis.val, .oneBits .ctlEvent 0 0x8, .all .irqLevel, .all .irqPendSet] [] []
  | .axisRestHold axis =>
    .of [.ctl]
      [.one .ctlAxPos axis.val, .oneBits .ctlAxStatus axis.val 0x60fe0000, .one .ctlAxVel axis.val] [] []
  | .laneSignalDetect lane =>
    .of [.lne]
      [.oneBits .hlGlbStatus 0 0x3ffff, .bits .insStatus 0xe0000000, .all .linkStatus, .one .lneRateKbps lane.val,
        .oneBits .lneStatus lane.val 0xf4000000, .bits .rpStatus 0x80000000] [] []
  | .laneStageDone lane _ _ _ _ =>
    .of [.raised, .outs, .draw, .cmp, .ten, .lnk, .mgt, .hst, .syn, .ql, .ptn, .pwr, .ins, .lne]
      [.all .cdcUnitBlocks, .all .cdcUnitStored, .bits .embStatus 0x10000000, .all .epStatus,
        .oneBits .hlGlbEvent 0 0x1, .oneBits .hlGlbStatus 0 0x3ffff, .all .hptRelinks, .bits .insEvent 0x21,
        .all .insFrameNo, .bits .insStatus 0xef007fff, .all .irqLevel, .all .irqPendSet, .bits .linkEvent 0x12,
        .all .linkStatus, .one .lneCtle lane.val, .all .lneDfe, .bits .lneEvent 0x2, .oneBits .lneEvent lane.val 0x1,
        .one .lneGlbDown 0, .oneBits .lneGlbEvent 0 0x2, .all .lneRateKbps, .all .lneRetrains,
        .bits .lneStatus 0xf6000001, .oneBits .lneStatus lane.val 0xf6ffff01, .all .maxFireHz, .oneBits .ptnEvent 0 0x2,
        .one .ptnStatus 0, .oneBits .ptnSurrender 0 0xff000000, .one .qlCasDrop 0, .oneBits .qlEvent 0 0x38,
        .one .qlLogDrop 0, .one .qlLogHead 0, .one .qlStatus 0, .bits .rpStatus 0x80000000, .all .tenCqTail,
        .all .tenDramUsed, .all .tenEvDrop, .all .tenLastErr, .bits .tenState 0xe0000000, .all .xptSession]
      [d.logRange] []
  | .laneStageTimeout lane =>
    .of [.raised, .outs, .draw, .cmp, .ten, .lnk, .mgt, .hst, .syn, .ql, .ptn, .pwr, .ins, .lne]
      [.all .cdcUnitBlocks, .all .cdcUnitStored, .bits .embStatus 0x10000000, .all .epStatus,
        .oneBits .hlGlbEvent 0 0x1, .oneBits .hlGlbStatus 0 0x3ffff, .all .hptRelinks, .bits .insEvent 0x21,
        .all .insFrameNo, .bits .insStatus 0xef007fff, .all .irqLevel, .all .irqPendSet, .bits .linkEvent 0x12,
        .all .linkStatus, .bits .lneEvent 0x2, .oneBits .lneEvent lane.val 0x1, .one .lneGlbDown 0,
        .oneBits .lneGlbEvent 0 0x2, .all .lneRateKbps, .all .lneRetrains, .bits .lneStatus 0xf6000001, .all .maxFireHz,
        .oneBits .ptnEvent 0 0x2, .one .ptnStatus 0, .oneBits .ptnSurrender 0 0xff000000, .oneBits .qlEvent 0 0x10,
        .one .qlStatus 0, .bits .rpStatus 0x80000000, .all .tenCqTail, .all .tenDramUsed, .all .tenEvDrop,
        .all .tenLastErr, .bits .tenState 0xe0000000, .all .xptSession] [] []
  | .blockLockLoss _ _ =>
    .of [.raised, .outs, .draw, .cmp, .ten, .lnk, .mgt, .hst, .syn, .ql, .ptn, .pwr, .ins, .lne]
      [.all .cdcUnitBlocks, .all .cdcUnitStored, .bits .embStatus 0x10000000, .all .epStatus,
        .oneBits .hlGlbEvent 0 0x1, .oneBits .hlGlbStatus 0 0x3ffff, .all .hptBlockErr, .all .hptRelinks,
        .bits .insEvent 0x21, .all .insFrameNo, .bits .insStatus 0xef007fff, .all .irqLevel, .all .irqPendSet,
        .bits .linkEvent 0x12, .all .linkStatus, .all .lneBlockErr, .bits .lneEvent 0x2, .one .lneGlbDown 0,
        .all .lneRateKbps, .all .lneRetrains, .bits .lneStatus 0xf6000001, .all .maxFireHz, .oneBits .ptnEvent 0 0x2,
        .one .ptnStatus 0, .oneBits .ptnSurrender 0 0xff000000, .oneBits .qlEvent 0 0x10, .one .qlStatus 0,
        .bits .rpStatus 0x80000000, .all .tenCqTail, .all .tenDramUsed, .all .tenEvDrop, .all .tenLastErr,
        .bits .tenState 0xe0000000, .all .xptSession] [] []
  | .laneLos lane =>
    .of [.raised, .outs, .draw, .cmp, .ten, .lnk, .mgt, .hst, .syn, .ql, .ptn, .pwr, .ins, .lne]
      [.all .cdcUnitBlocks, .all .cdcUnitStored, .bits .embStatus 0x10000000, .all .epStatus,
        .oneBits .hlGlbEvent 0 0x1, .oneBits .hlGlbStatus 0 0x3ffff, .all .hptRelinks, .bits .insEvent 0x21,
        .all .insFrameNo, .bits .insStatus 0xef007fff, .all .irqLevel, .all .irqPendSet, .bits .linkEvent 0x12,
        .all .linkStatus, .bits .lneEvent 0x2, .oneBits .lneEvent lane.val 0x4, .one .lneGlbDown 0, .all .lneRateKbps,
        .all .lneRetrains, .bits .lneStatus 0xf6000001, .all .maxFireHz, .oneBits .ptnEvent 0 0x2, .one .ptnStatus 0,
        .oneBits .ptnSurrender 0 0xff000000, .oneBits .qlEvent 0 0x10, .one .qlStatus 0, .bits .rpStatus 0x80000000,
        .all .tenCqTail, .all .tenDramUsed, .all .tenEvDrop, .all .tenLastErr, .bits .tenState 0xe0000000,
        .all .xptSession] [] []
  | .laneBlockErrRetrain _ =>
    .of [.raised, .outs, .draw, .cmp, .ten, .lnk, .mgt, .hst, .syn, .ql, .ptn, .pwr, .ins, .lne]
      [.all .cdcUnitBlocks, .all .cdcUnitStored, .bits .embStatus 0x10000000, .all .epStatus,
        .oneBits .hlGlbEvent 0 0x1, .oneBits .hlGlbStatus 0 0x3ffff, .all .hptRelinks, .bits .insEvent 0x21,
        .all .insFrameNo, .bits .insStatus 0xef007fff, .all .irqLevel, .all .irqPendSet, .bits .linkEvent 0x12,
        .all .linkStatus, .bits .lneEvent 0x2, .one .lneGlbDown 0, .all .lneRateKbps, .all .lneRetrains,
        .bits .lneStatus 0xf6000001, .all .maxFireHz, .oneBits .ptnEvent 0 0x2, .one .ptnStatus 0,
        .oneBits .ptnSurrender 0 0xff000000, .oneBits .qlEvent 0 0x10, .one .qlStatus 0, .bits .rpStatus 0x80000000,
        .all .tenCqTail, .all .tenDramUsed, .all .tenEvDrop, .all .tenLastErr, .bits .tenState 0xe0000000,
        .all .xptSession] [] []
  | .laneRail lane _ =>
    .of [.raised, .outs, .mgt, .hst, .lne]
      [.all .irqLevel, .all .irqPendSet, .oneBits .lneEvent lane.val 0x20] [] []
  | .sleepBlock lane =>
    .of []
      [.bits .linkStatus 0x400000, .oneBits .lneStatus lane.val 0x4000000] [] []
  | .laneWake lane =>
    .of []
      [.bits .linkStatus 0x400000, .oneBits .lneStatus lane.val 0x4000000, .one .lneWakes lane.val] [] []
  | .refBad _ =>
    .of [.raised, .outs, .mgt, .hst]
      [.all .cluRefSwitches, .bits .cluStatus 0x60000000, .all .irqLevel, .all .irqPendSet, .bits .lneEvent 0x40,
        .oneBits .lneGlbEvent 0 0x4, .one .lneGlbStatus 0, .bits .lneStatus 0xf5000001] [] []
  | .refReturn =>
    .of []
      [.bits .cluStatus 0x40000000, .bits .lneStatus 0x1000000] [] []
  | .refHoldoverEnd =>
    .of [.raised, .outs, .draw, .cmp, .ten, .lnk, .mgt, .hst, .syn, .ql, .ptn, .pwr, .ins, .lne]
      [.all .cdcUnitBlocks, .all .cdcUnitStored, .bits .cluStatus 0xa0000000, .bits .embStatus 0x10000000,
        .all .epStatus, .oneBits .hlGlbEvent 0 0x1, .oneBits .hlGlbStatus 0 0x3ffff, .bits .insEvent 0x21,
        .all .insFrameNo, .bits .insStatus 0xef007fff, .all .irqLevel, .all .irqPendSet, .bits .linkEvent 0x2,
        .all .linkStatus, .one .lneGlbDown 0, .oneBits .lneGlbEvent 0 0x8, .bits .lneStatus 0xf6000001, .all .maxFireHz,
        .oneBits .ptnEvent 0 0x2, .one .ptnStatus 0, .oneBits .ptnSurrender 0 0xff000000, .oneBits .qlEvent 0 0x10,
        .one .qlStatus 0, .bits .rpStatus 0x80000000, .all .tenCqTail, .all .tenDramUsed, .all .tenEvDrop,
        .all .tenLastErr, .bits .tenState 0xe0000000, .all .xptSession] [] []
  | .laneTest req lane _ =>
    .of [.raised, .outs, .draw, .cmp, .ten, .lnk, .mgt, .hst, .syn, .ptn, .ins, .lne]
      [.all .cdcUnitBlocks, .all .cdcUnitStored, .bits .embStatus 0x10000000, .one .glbLastErr req.val,
        .oneBits .hlGlbEvent 0 0x1, .oneBits .hlGlbStatus 0 0x3ffff, .all .hptRelinks, .bits .insEvent 0x21,
        .all .insFrameNo, .bits .insStatus 0xef007fff, .all .irqLevel, .all .irqPendSet, .bits .linkEvent 0x2,
        .all .linkStatus, .oneBits .lneCtrl lane.val 0xf, .one .lneGlbDown 0, .one .lneInjCount lane.val,
        .one .lnePrbsBits lane.val, .bits .lneStatus 0xf6000001, .oneBits .lneStatus lane.val 0xf4000003, .all .maxFireHz,
        .oneBits .ptnEvent 0 0x2, .one .ptnStatus 0, .oneBits .qlEvent 0 0x10, .one .qlStatus 0,
        .bits .rpStatus 0x80000000, .all .tenCqTail, .all .tenDramUsed, .all .tenEvDrop, .all .tenLastErr,
        .bits .tenState 0xe0000000, .all .xptSession] [] []
  | .laneRevive lane =>
    .of []
      [.one .lneGlbDown 0, .oneBits .lneStatus lane.val 0x2000000] [] []
  | .laneRetrain _ =>
    .of [.raised, .outs, .draw, .cmp, .ten, .lnk, .mgt, .hst, .syn, .ql, .ptn, .pwr, .ins, .lne]
      [.all .cdcUnitBlocks, .all .cdcUnitStored, .bits .embStatus 0x10000000, .all .epStatus,
        .oneBits .hlGlbEvent 0 0x1, .oneBits .hlGlbStatus 0 0x3ffff, .all .hptRelinks, .bits .insEvent 0x21,
        .all .insFrameNo, .bits .insStatus 0xef007fff, .all .irqLevel, .all .irqPendSet, .bits .linkEvent 0x12,
        .all .linkStatus, .bits .lneEvent 0x2, .one .lneGlbDown 0, .all .lneRateKbps, .all .lneRetrains,
        .bits .lneStatus 0xf6000001, .all .maxFireHz, .oneBits .ptnEvent 0 0x2, .one .ptnStatus 0,
        .oneBits .ptnSurrender 0 0xff000000, .oneBits .qlEvent 0 0x10, .one .qlStatus 0, .bits .rpStatus 0x80000000,
        .all .tenCqTail, .all .tenDramUsed, .all .tenEvDrop, .all .tenLastErr, .bits .tenState 0xe0000000,
        .all .xptSession] [] []
  | .injCtrlWrite req lane _ =>
    .of [.raised, .outs, .lne]
      [.one .glbLastErr req.val, .one .lneInjCount lane.val, .one .lneInjCtrl lane.val] [] []
  | .marginScanDone lane _ =>
    .of [.raised, .outs, .draw, .cmp, .ten, .lnk, .mgt, .hst, .syn, .ql, .ptn, .pwr, .ins, .lne]
      [.all .cdcUnitBlocks, .all .cdcUnitStored, .bits .embStatus 0x10000000, .all .epStatus,
        .oneBits .hlGlbEvent 0 0x1, .oneBits .hlGlbStatus 0 0x3ffff, .all .hptRelinks, .bits .insEvent 0x21,
        .all .insFrameNo, .bits .insStatus 0xef007fff, .all .irqLevel, .all .irqPendSet, .bits .linkEvent 0x12,
        .all .linkStatus, .bits .lneEvent 0x2, .oneBits .lneEvent lane.val 0x18, .one .lneGlbDown 0, .all .lneRateKbps,
        .all .lneRetrains, .one .lneScanSkip lane.val, .bits .lneStatus 0xf6000001,
        .oneBits .lneStatus lane.val 0xf4ffff01, .all .maxFireHz, .oneBits .ptnEvent 0 0x2, .one .ptnStatus 0,
        .oneBits .ptnSurrender 0 0xff000000, .oneBits .qlEvent 0 0x10, .one .qlStatus 0, .bits .rpStatus 0x80000000,
        .all .tenCqTail, .all .tenDramUsed, .all .tenEvDrop, .all .tenLastErr, .bits .tenState 0xe0000000,
        .all .xptSession] [] []
  | .scanNow =>
    .of [.pwr]
      [.one .pwrTaskStatus 2] [] []
  | .refreshDue _ _ _ _ _ =>
    .of [.outs, .dmc]
      [.all .dmcPnrCount] [] []
  | .dramTempRead _ _ =>
    .of [.dmc]
      [] [] []
  | .dramGrant sub arrivals =>
    .of [.raised, .outs, .draw, .pos, .cmp, .ten, .lnk, .mgt, .hst, .syn, .ql, .ptn, .pwr, .ins, .lne, .dmc]
      [.all .cdcUnitBlocks, .all .cdcUnitStored, .one .cmpSpoilCount 0, .oneBits .dmcEvent 0 0x73, .all .dmcFrzAddr,
        .all .dmcFrzBanks, .all .dmcFrzCmd, .all .dmcFrzLinear, .all .dmcFrzSynd, .bits .dmcGrpStatus 0x80000000,
        .all .dmcPnrCount, .all .dmcPoisonReads, .one .dmcScrubAddr 0, .all .dmcScrubUe, .bits .dmcStatus 0xc700ffff,
        .all .dmcUeCount, .oneBits .embHcStatus 0 0xffff0000, .bits .embStatus 0x10000000, .one .insStoreUsed 0,
        .all .irqLevel, .all .irqPendSet, .bits .linkStatus 0xff1f, .oneBits .posCtrl 0 0x1, .oneBits .posStatus 0 0xf001,
        .oneBits .ptnStatus 0 0xf0000011, .oneBits .ptnSurrender 0 0xff000000, .one .qlCasDrop 0,
        .oneBits .qlEvent 0 0x28, .one .qlLogDrop 0, .one .qlLogHead 0, .oneBits .qlStatus 0 0x8000ffff, .all .tenCqTail,
        .all .tenDramUsed, .all .tenEvDrop, .all .tenLastErr, .one .tenPoolFree 0, .bits .tenState 0xe0000000,
        .all .xptSession]
      (d.writeRanges sub arrivals) []
  | .ceWriteback _ _ _ _ =>
    .of [.raised, .outs, .draw, .mgt, .hst, .dmc]
      [.all .dmcCeCount, .all .dmcCeDev, .oneBits .dmcEvent 0 0x4, .all .irqLevel, .all .irqPendSet] [] []
  | .dramFreeze _ _ _ _ _ =>
    .of [.raised, .outs, .draw, .pos, .cmp, .ten, .lnk, .mgt, .hst, .syn, .ql, .ptn, .pwr, .ins, .lne, .dmc]
      [.all .cdcUnitBlocks, .all .cdcUnitStored, .one .cmpSpoilCount 0, .oneBits .dmcEvent 0 0x31, .all .dmcFrzAddr,
        .all .dmcFrzBanks, .all .dmcFrzCmd, .all .dmcFrzLinear, .all .dmcFrzSynd, .bits .dmcGrpStatus 0x80000000,
        .all .dmcPoisonReads, .bits .dmcStatus 0xc700ffff, .all .dmcUeCount, .oneBits .embHcStatus 0 0xffff0000,
        .bits .embStatus 0x10000000, .one .insStoreUsed 0, .all .irqLevel, .all .irqPendSet, .bits .linkStatus 0xff1f,
        .oneBits .posCtrl 0 0x1, .oneBits .posStatus 0 0xf001, .oneBits .ptnStatus 0 0xf0000011,
        .oneBits .ptnSurrender 0 0xff000000, .one .qlCasDrop 0, .oneBits .qlEvent 0 0x28, .one .qlLogDrop 0,
        .one .qlLogHead 0, .oneBits .qlStatus 0 0x8000ffff, .all .tenCqTail, .all .tenDramUsed, .all .tenEvDrop,
        .all .tenLastErr, .bits .tenState 0xe0000000, .all .xptSession]
      [d.logRange] []
  | .groupReset req _ =>
    .of [.raised, .mgt]
      [.all .cueSeq, .one .glbLastErr req.val] [] []
  | .retrainSlice channel _ _ =>
    .of [.dmc]
      [.oneBits .dmcStatus channel.val 0x10000000] [] []
  | .retrainDone _ _ =>
    .of [.raised, .outs, .draw, .pos, .cmp, .ten, .lnk, .mgt, .hst, .syn, .ql, .ptn, .pwr, .ins, .lne, .dmc]
      [.all .cdcUnitBlocks, .all .cdcUnitStored, .one .cmpSpoilCount 0, .oneBits .dmcEvent 0 0x39,
        .bits .dmcGrpStatus 0x80000000, .all .dmcMargin, .all .dmcPoisonReads, .all .dmcRetrains,
        .bits .dmcStatus 0xf700ffff, .oneBits .embHcStatus 0 0xffff0000, .bits .embStatus 0x10000000,
        .one .insStoreUsed 0, .all .irqLevel, .all .irqPendSet, .bits .linkStatus 0xff1f, .oneBits .posCtrl 0 0x1,
        .oneBits .posStatus 0 0xf001, .oneBits .ptnStatus 0 0xf0000011, .oneBits .ptnSurrender 0 0xff000000,
        .one .qlCasDrop 0, .oneBits .qlEvent 0 0x28, .one .qlLogDrop 0, .one .qlLogHead 0,
        .oneBits .qlStatus 0 0x8000ffff, .all .tenCqTail, .all .tenDramUsed, .all .tenEvDrop, .all .tenLastErr,
        .bits .tenState 0xe0000000, .all .xptSession]
      [d.logRange] []
  | .dmcPrioWrite requester _ =>
    .of []
      [.one .dmcPrio requester.val] [] []
  | .watchdogExpire core =>
    .of [.raised, .outs, .mgt, .hst]
      [.one .glbMgmtStatus 0, .one .glbWdtResets core.val, .all .irqLevel, .all .irqPendSet, .oneBits .nvaEvent 0 0x3,
        .all .nvaOpDone, .one .nvaOpStatus core.val, .one .nvaStatus 0]
      [] (d.opLines fun r => r == core.val)
  | .kick _ =>
    .of [.mgt]
      [] [] []
  | .loadWindow _ _ _ _ _ =>
    .of [.raised, .outs, .mgt, .hst]
      [.oneBits .glbMgmtStatus 0 0x8f0000ff, .all .irqLevel, .all .irqPendSet] [] []
  | .nvaOpGo r _ _ =>
    .of [.raised, .mgt]
      [.one .glbLastErr r.val, .oneBits .nvaOpCtrl r.val 0x2, .one .nvaOpDone r.val, .one .nvaOpStatus r.val,
        .one .nvaStatus 0] [] []
  | .nvaLineWritten bank =>
    .of [.outs, .img, .mgt, .hst]
      [.all .irqLevel, .all .irqPendSet, .oneBits .nvaEvent 0 0x1, .all .nvaOpDone, .all .nvaOpStatus,
        .one .nvaStatus 0]
      [] (d.lineRange bank)
  | .nvaEccError _ _ _ =>
    .of [.raised, .outs, .mgt, .hst]
      [.all .irqLevel, .all .irqPendSet, .one .nvaEccCe 0, .oneBits .nvaEvent 0 0x4] [] []
  | .irqModTimer _ _ =>
    .of [.mgt]
      [] [] []
  | .claim _ _ _ =>
    .of [.outs, .mgt, .hst]
      [.all .irqPendSet] [] []
  | .irqMaskSet _ _ =>
    .of []
      [.all .irqMaskSet] [] []
  | .irqMaskClr _ _ =>
    .of [.outs, .mgt, .hst]
      [.all .irqMaskSet] [] []
  | .irqPendSet _ _ =>
    .of [.outs, .mgt, .hst]
      [.all .irqPendSet] [] []
  | .irqPendClr _ _ _ =>
    .of [.outs, .mgt, .hst]
      [.all .irqPendSet] [] []
  | .keyLock req =>
    .of [.raised]
      [.one .glbLastErr req.val, .one .secLast 0, .oneBits .secStatus 0 0x10000000] [] []
  | .vceilDown req _ =>
    .of [.raised, .sec]
      [.one .glbLastErr req.val, .one .secLast 0, .oneBits .secStatus 0 0x8000000] [] []
  | .floorUp req _ =>
    .of [.raised, .sec]
      [.one .glbLastErr req.val, .one .secLast 0, .oneBits .secStatus 0 0x8000000] [] []
  | .revoke req _ =>
    .of [.raised, .sec]
      [.one .glbLastErr req.val, .one .secLast 0, .oneBits .secStatus 0 0x8000000] [] []
  | .rootProg req _ =>
    .of [.raised, .sec]
      [.one .glbLastErr req.val, .one .secLast 0, .oneBits .secStatus 0 0x8000000] [] []
  | .keyInstall req _ _ =>
    .of [.raised, .sec]
      [.one .glbLastErr req.val, .one .secLast 0] [] []
  | .lcGo req _ =>
    .of [.raised, .sec]
      [.one .glbLastErr req.val, .one .secLast 0, .oneBits .secStatus 0 0x8000000] [] []
  | .fuseBurnDone => Footprint.nothing
  | .debugRequest _ =>
    .of [.raised, .outs]
      [.one .glbLastErr 4] [] []
  | .glbResetCold _ _ => Footprint.nothing
  | .glbResetMgmt req _ =>
    .of [.raised, .outs, .mgt, .hst]
      [.one .glbLastErr req.val, .one .glbMgmtStatus 0, .all .irqLevel, .all .irqPendSet, .oneBits .nvaEvent 0 0x3,
        .all .nvaOpDone, .all .nvaOpStatus, .one .nvaStatus 0]
      [] (d.opLines fun r => decide (r < 4))
  | .glbResetCore req _ cores =>
    .of [.raised, .outs, .mgt, .hst]
      [.one .glbLastErr req.val, .one .glbMgmtStatus 0, .all .glbWdtResets, .all .irqLevel, .all .irqPendSet,
        .oneBits .nvaEvent 0 0x3, .all .nvaOpDone, .all .nvaOpStatus, .one .nvaStatus 0]
      [] (d.opLines fun r => bitOf cores.toNat r)
  | .porzAssert => Footprint.nothing
  | .startupBegin _ _ =>
    .of [.sys]
      [.oneBits .ptnStatus 0 0x8000000, .oneBits .pwrStatus 0 0x1000000] [] []
  | .startupStageDone _ => Footprint.nothing
  | .clockRetry _ =>
    .of []
      [.bits .cluStatus 0x80000000, .one .glbBootStage 0, .oneBits .lneGlbStatus 0 0x2] [] []
  | .ethrefLost =>
    .of [.raised, .outs, .draw, .pos, .cmp, .ten, .lnk, .mgt, .hst, .syn, .ql, .ptn, .ins, .lne, .sys]
      [.all .cdcUnitBlocks, .all .cdcUnitStored, .bits .cluStatus 0x80000000, .one .cmpSpoilCount 0,
        .oneBits .embHcStatus 0 0xffff0000, .bits .embStatus 0x10000000, .all .epStatus, .oneBits .hlGlbEvent 0 0x1,
        .oneBits .hlGlbStatus 0 0x3ffff, .bits .insEvent 0x21, .all .insFrameNo, .bits .insStatus 0xef007fff,
        .all .irqLevel, .all .irqPendSet, .bits .linkEvent 0x2, .all .linkStatus, .one .lneGlbDown 0,
        .oneBits .lneGlbStatus 0 0x2, .bits .lneStatus 0xf6000001, .all .maxFireHz, .oneBits .posCtrl 0 0x1,
        .oneBits .posStatus 0 0xf001, .oneBits .ptnEvent 0 0x2, .one .ptnStatus 0, .one .qlCasDrop 0,
        .oneBits .qlEvent 0 0x38, .one .qlLogDrop 0, .one .qlLogHead 0, .one .qlStatus 0, .bits .rpStatus 0x80000000,
        .all .tenCqTail, .all .tenDramUsed, .all .tenEvDrop, .all .tenLastErr, .bits .tenState 0xe0000000,
        .all .xptSession]
      [d.logRange] []
  | .pcierefLost =>
    .of [.raised, .outs, .ten, .mgt, .hst]
      [.oneBits .cluStatus 59 0x80000000, .all .irqLevel, .all .irqPendSet, .oneBits .lneGlbStatus 0 0x1,
        .one .pcieStatus 0, .one .tenCqTail 0, .one .tenEvDrop 0, .one .tenLastErr 0, .bits .tenState 0x3] [] []
  | .sysrefLost =>
    .of [.raised, .outs, .draw, .pos, .cmp, .ten, .lnk, .mgt, .hst, .syn, .ql, .ptn, .pwr, .ins, .lne, .dmc]
      [.all .cdcUnitBlocks, .all .cdcUnitStored, .one .cmpSpoilCount 0, .oneBits .dmcEvent 0 0x21,
        .bits .dmcGrpStatus 0x80000000, .all .dmcPoisonReads, .bits .dmcStatus 0x4000ffff,
        .oneBits .embHcStatus 0 0xffff0000, .bits .embStatus 0x10000000, .one .insStoreUsed 0, .all .irqLevel,
        .all .irqPendSet, .bits .linkStatus 0xff1f, .oneBits .posCtrl 0 0x1, .oneBits .posStatus 0 0xf001,
        .oneBits .ptnStatus 0 0xf0000011, .oneBits .ptnSurrender 0 0xff000000, .one .qlCasDrop 0,
        .oneBits .qlEvent 0 0x28, .one .qlLogDrop 0, .one .qlLogHead 0, .oneBits .qlStatus 0 0x8000ffff, .all .tenCqTail,
        .all .tenDramUsed, .all .tenEvDrop, .all .tenLastErr, .bits .tenState 0xe0000000, .all .xptSession]
      [d.logRange] []
  | .calCtrlRun _ =>
    .of [.outs, .lnk, .lne, .sys]
      [.one .calCtrl 0] [] []
  | .calRunDone _ _ =>
    .of [.raised, .sys]
      [.one .calEvent 0] [] []
  | .aonBrownout _ => Footprint.nothing
  | .alignmentMarkerLost _ _ _ =>
    .of [.raised, .outs, .draw, .cmp, .ten, .lnk, .mgt, .hst, .syn, .ql, .ptn, .pwr, .ins, .lne]
      [.all .cdcUnitBlocks, .all .cdcUnitStored, .bits .embStatus 0x10000000, .all .epStatus,
        .oneBits .hlGlbEvent 0 0x1, .oneBits .hlGlbStatus 0 0x3ffff, .all .hptRelinks, .bits .insEvent 0x21,
        .all .insFrameNo, .bits .insStatus 0xef007fff, .all .irqLevel, .all .irqPendSet, .bits .linkEvent 0x12,
        .all .linkStatus, .bits .lneEvent 0x2, .one .lneGlbDown 0, .all .lneRateKbps, .all .lneRetrains,
        .bits .lneStatus 0xf6000001, .all .maxFireHz, .oneBits .ptnEvent 0 0x2, .one .ptnStatus 0,
        .oneBits .ptnSurrender 0 0xff000000, .oneBits .qlEvent 0 0x10, .one .qlStatus 0, .bits .rpStatus 0x80000000,
        .all .tenCqTail, .all .tenDramUsed, .all .tenEvDrop, .all .tenLastErr, .bits .tenState 0xe0000000,
        .all .xptSession] [] []
  | .camAckTimeout pipe =>
    .of [.raised, .outs, .draw, .ten, .mgt, .hst, .ins, .lne]
      [.oneBits .insEvent pipe.val 0x21, .one .insFrameNo pipe.val, .oneBits .insStatus pipe.val 0xef007fff,
        .all .irqLevel, .all .irqPendSet, .all .linkStatus, .one .lneGlbDown 0, .bits .lneStatus 0xf6000001,
        .all .tenCqTail, .all .tenEvDrop] [] []
  | .cameraVersionRetry pipe =>
    .of [.raised, .outs, .ins, .lne]
      [.one .insMinLineNs pipe.val, .oneBits .insStatus pipe.val 0x1e000000] [] []
  | .pcieLinkUp _ _ =>
    .of [.outs, .ten, .mgt, .hst]
      [.oneBits .cluStatus 59 0x80000000, .all .irqLevel, .all .irqPendSet, .oneBits .lneGlbStatus 0 0x1,
        .oneBits .pcieStatus 0 0x11f07, .all .tenCqTail, .all .tenEvDrop, .all .tenLastErr] [] []
  | .aspmL1Entry =>
    .of []
      [.oneBits .pcieStatus 0 0x10000] [] []
  | .l1ExitComplete =>
    .of [.outs, .hst]
      [.oneBits .pcieStatus 0 0x10000] [] []
  | .resumeComplete =>
    .of [.raised, .outs, .draw, .img, .pos, .cmp, .ten, .lnk, .mgt, .hst, .syn, .ql, .ptn, .pwr, .ins, .lne, .ctl]
      [.all .cdcUnitBlocks, .all .cdcUnitStored, .one .cmpPassCur 0, .all .ctlAxPos, .bits .ctlAxStatus 0xe0fe0000,
        .all .ctlAxVel, .bits .embStatus 0x10000000, .all .epStatus, .oneBits .hlGlbEvent 0 0x1,
        .oneBits .hlGlbStatus 0 0x3ffff, .oneBits .imgStatus 0 0x7, .bits .insEvent 0x21, .all .insFrameNo,
        .bits .insStatus 0xef007fff, .all .irqLevel, .all .irqPendSet, .bits .linkEvent 0x2, .all .linkStatus,
        .one .lneGlbDown 0, .bits .lneStatus 0xf6000001, .all .maxFireHz, .oneBits .nvaEvent 0 0x3, .all .nvaOpDone,
        .all .nvaOpStatus, .one .nvaStatus 0, .one .posBindFire 0, .one .posBindLine 0, .oneBits .posEvent 0 0x82,
        .one .posSkipCount 0, .oneBits .posStatus 0 0xe00, .oneBits .ptnEvent 0 0x2, .one .ptnStatus 0,
        .oneBits .ptnSurrender 0 0xff000000, .oneBits .pwrStatus 0 0xe0000000, .all .pwrTaskStatus,
        .oneBits .qlEvent 0 0x18, .one .qlLogDrop 0, .one .qlLogHead 0, .one .qlStatus 0, .all .rpLine,
        .bits .rpStatus 0xc0000f00, .bits .synStatus 0x7fff, .all .tenCqTail, .all .tenDramUsed, .all .tenEvDrop,
        .all .tenLastErr, .bits .tenState 0xe0000000, .all .xptSession]
      [d.logRange] (d.opLines fun _ => true)
  | .pgFall => Footprint.nothing
  | .referenceGood _ =>
    .of [.lne]
      [.bits .cluStatus 0xe0000000, .one .lneGlbStatus 0, .bits .lneStatus 0xf5000001] [] []
  | .laneSignalReturn lane =>
    .of []
      [.one .lneLosCount lane.val] [] []
  | .prbsCheckerLock lane =>
    .of [.lne]
      [.oneBits .lneStatus lane.val 0x2] [] []
  | .prbsCheckerLockLoss lane _ =>
    .of [.lne]
      [.one .lneLockLoss lane.val, .one .lnePrbsBits lane.val, .one .lnePrbsErr lane.val,
        .oneBits .lneStatus lane.val 0x2] [] []
  | .ethLinkRetry _ _ =>
    .of [.lne]
      [.all .linkStatus, .one .lneGlbDown 0, .bits .lneStatus 0xf6000001] [] []

end Sys2Proof.Machine
end

