-- ==== Sys2Proof/Machine/Package.lean ====
section
/-! DEFINITION. The package's balls and the states of the outputs (chapter "Package, Pins and Electrical Data", R474 to R478
and R484). -/

namespace Sys2Proof.Machine

/-! ### Ball names (R474) -/

/-- The letters of row names. -/
def rowLetters : List String := ["A", "B", "C", "D", "E", "F", "G", "H", "J", "K", "L", "M", "N", "P", "T", "U", "V", "W", "Y"]

/-- The name of a row by its index, 0 to 85. -/
def rowName (r : Nat) : String :=
  (if r < 19 then "" else rowLetters.getD (r / 19 - 1) "") ++ rowLetters.getD (r % 19) ""

/-- The name of a ball: its row, then its column. -/
def ballName (b : Nat × Nat) : String := rowName b.1 ++ toString b.2

/-! ### Regions (R475, Table 20.2) -/

/-- Regions of the array. -/
inductive BallRegion where
  | west
  | east
  | north
  | low
  | power
  | south
  deriving DecidableEq, Repr

/-- The region of a ball by its row index and column. -/
def ballRegion (r c : Nat) : BallRegion :=
  if c ≤ 24 then .west else if 63 ≤ c then .east
  else if r ≤ 29 then .north else if r ≤ 37 then .low else if r ≤ 55 then .power else .south

/-! ### What a ball carries -/

/-- What a ball carries: one of a lane's four (0 TXP, 1 TXN, 2 RXP, 3 RXN), signal k of a DRAM channel, low-speed signal k, a
rail in the order of Table 20.5, or VSS. -/
inductive BallUse where
  | lane (l pin : Nat)
  | dram (ch k : Nat)
  | low (k : Nat)
  | rail (i : Nat)
  | vss
  deriving DecidableEq, Repr

/-- The ball of a lane's pin (R476): row index and column. -/
def laneBall (l pin : Nat) : Nat × Nat :=
  let m := l % 512
  (2 * (m / 12) + pin / 2, (if l / 512 = 0 then 1 else 63) + 2 * (m % 12) + pin % 2)

/-- The ball of signal k of a DRAM channel (R477). -/
def dramBall (ch k : Nat) : Nat × Nat :=
  let p := ch % 8 * 139 + k
  ((if ch < 8 then 0 else 56) + p / 38, 25 + p % 38)

/-- The ball of a low-speed signal (R478). -/
def lowBall (k : Nat) : Nat × Nat := (30 + k / 38, 25 + k % 38)

/-- Balls of each rail (Table 20.5): VDD_CORE, VDD_SRAM, VDDA_SD, VDDH_SD, VDDQ_DDR, VDD_NVA, VDD_AON, VDDIO, VPP_FUSE. -/
def railBalls : List Nat := [160, 24, 64, 40, 32, 4, 2, 8, 1]

/-- The rail that takes the n-th of the positions that rails share. -/
def railAt (n : Nat) : List Nat → Nat → BallUse
  | [], _ => .vss
  | x :: rest, i => if n < x then .rail i else railAt (n - x) rest (i + 1)

/-- What a ball carries (R475 to R478). -/
def ballUse (r c : Nat) : BallUse :=
  match ballRegion r c with
  | .west =>
    let m := 12 * (r / 2) + (c - 1) / 2
    if m < 512 then .lane m (2 * (r % 2) + (c - 1) % 2) else .vss
  | .east =>
    let m := 12 * (r / 2) + (c - 63) / 2
    if m < 512 then .lane (512 + m) (2 * (r % 2) + (c - 63) % 2) else .vss
  | .north => let p := 38 * r + (c - 25); if p < 1112 then .dram (p / 139) (p % 139) else .vss
  | .south => let p := 38 * (r - 56) + (c - 25); if p < 1112 then .dram (8 + p / 139) (p % 139) else .vss
  | .low => .low (38 * (r - 30) + (c - 25))
  | .power => if (r + c) % 2 = 1 then .vss else railAt ((38 * (r - 38) + (c - 25)) / 2) railBalls 0

/-- A signal of a DRAM channel by its number (R477): RESET_N, or one of a subchannel. -/
inductive DramSignal where
  | reset
  | dq (sub i : Nat)
  | cb (sub i : Nat)
  | dqs (sub i : Nat) (complement : Bool)
  | ca (sub i : Nat)
  | cs (sub i : Nat)
  | ck (sub : Nat) (complement : Bool)
  | alert (sub : Nat)
  deriving DecidableEq, Repr

/-- The signal of a number, 0 to 138. -/
def dramSignal (k : Nat) : DramSignal :=
  if k = 0 then .reset
  else
    let s := (k - 1) / 69
    let j := (k - 1) % 69
    if j < 32 then .dq s j else if j < 40 then .cb s (j - 32) else if j < 50 then .dqs s ((j - 40) / 2) ((j - 40) % 2 == 1)
    else if j < 64 then .ca s (j - 50) else if j < 66 then .cs s (j - 64) else if j < 68 then .ck s (j == 67) else .alert s

/-! ### Output states (R484, Table 20.7) -/

/-- Groups of outputs: LSP, ASB, STEP, DIR and TOUT; EOUT and FC; ACT_OUT_N; and the three open-drain lines. -/
inductive OutPin where
  | motion
  | repeats
  | actOut
  | speedReq
  | stopReq
  | removeOk
  deriving DecidableEq, Repr

/-- The state of an output. -/
inductive Drive where
  | highZ
  | driven
  | high
  /-- The 1 MHz square wave of R317. -/
  | heartbeat
  | released
  | asserted
  deriving DecidableEq, Repr

/-- An open-drain line: asserted or released. -/
def openDrain (b : Bool) : Drive := if b then .asserted else .released

/-- An open-drain line as its owning chapter states (R68, R333). -/
def Dev.requestLine (d : Dev) : OutPin → Drive
  | .speedReq => openDrain (!d.pos.speedReq.isEmpty)
  | .stopReq => openDrain (!d.pos.stopReq.isEmpty)
  | _ => openDrain d.ptn.removeOk

/-- The state of an output (R484, Table 20.7), of a controller with power. -/
def Dev.outputState (d : Dev) (o : OutPin) : Drive :=
  let saving := d.breath == 4 || d.breath == 5
  let starting := d.sys.porz || !d.sys.begun || decide (d.stage < 10)
  if saving then
    match o with
    | .motion => .highZ
    | .repeats => .highZ
    | .actOut => .high
    | .stopReq => .asserted
    | _ => .released
  else if starting then
    match o with
    | .motion => .highZ
    | .repeats => .highZ
    | .actOut => .high
    | _ => .released
  else match o with
    | .motion => if d.drives then .driven else .highZ
    | .repeats => .driven
    | .actOut => if d.role = 1 then .heartbeat else .high
    | p => d.requestLine p

end Sys2Proof.Machine
end

