-- ==== Sys2Proof/Machine/Reel.lean ====
section
/-! DEFINITION. The bytes of a reel and of its tag store as they lie in the DRAM (R96, R97, R279): a view of a region, which no
command or window reads (R286). -/

namespace Sys2Proof.Machine

/-- The four words of a block index entry (Table 4.3). -/
def BlockEntry.words (e : BlockEntry) : List Nat :=
  if e.state = .missing then [e.first, 3 <<< 12 + (e.lines - 1), 0, 0]
  else [e.first, e.state.code <<< 12 + (e.lines - 1), e.heapOff, e.sealedBytes.cipher.length]

/-- The entry at a place of a strip's index ring (R30, R97). -/
def Strip.atPlace (t : Strip) (depth p : Nat) : Option BlockEntry :=
  t.entries[(p + depth - t.head % depth) % depth]?

/-- The 16 bytes at a place of a strip's index: zeros, which read FREE, where it holds no entry. -/
def Region.indexBytes (r : Region) (s p : Nat) : List Byte :=
  match (r.strip s).atPlace r.depth p with
  | none => List.replicate 16 0
  | some e => e.words.flatMap fun w => leBytes w 4

/-- The 32 bytes of the tag store for a place of a strip's index: IV, then tag (R279). DESIGN CHOICE (log 112). -/
def Region.tagBytes (r : Region) (s p : Nat) : List Byte :=
  match (r.strip s).atPlace r.depth p with
  | none => List.replicate 32 0
  | some e => (e.sealedBytes.iv.take 12 ++ leBytes e.sealedBytes.tag.toNat 16 ++ List.replicate 32 0).take 32

/-- Bytes of the reel header and the strip descriptors (Table 4.2). -/
def Region.headBytes (r : Region) : Nat := 64 + 16 * r.stripCount

/-- Offset of the heap in the reel (Table 4.2). -/
def Region.heapBase (r : Region) : Nat := 64 * ceilDiv (64 + 16 * r.stripCount * (1 + r.depth)) 64

/-- A byte of the heap: the ciphertext of the block that lies there (R279), zero where none does. -/
def Region.heapByte (r : Region) (off : Nat) : Byte :=
  let all := r.strips.flatMap fun t => t.2.entries
  let size := r.heapUnits * 65536
  let inside := fun (e : BlockEntry) => (off + size - 64 * e.heapOff) % size
  match all.find? fun e => e.state != .missing && decide (inside e < e.sealedBytes.cipher.length) with
  | none => 0
  | some e => e.sealedBytes.cipher.getD (inside e) 0

/-- A byte of a reel at an offset from its base (Table 4.2): none in the header and the strip descriptors, whose fields the
spec lists without their places. -/
def Region.reelByte (r : Region) (off : Nat) : Option Byte :=
  if off < r.headBytes then none
  else if off < 64 + 16 * r.stripCount * (1 + r.depth) then
    let i := off - r.headBytes
    some ((r.indexBytes (i / 16 / r.depth) (i / 16 % r.depth)).getD (i % 16) 0)
  else if off < r.heapBase then some 0
  else if off < r.heapBase + r.heapUnits * 65536 then some (r.heapByte (off - r.heapBase))
  else none

end Sys2Proof.Machine
end

