-- ==== Sys2Proof/Certificates/Slice0/Obligations.lean ====
section
/-! DEFINITION. The statements for the provers: general ones, then what each command does, family by family, then what
each command leaves alone. -/

open Sys2Proof Sys2Proof.Machine


/-- A step with a command at the front of the queue is exec of it with the queue's rest. Rests on R1, R2. -/
def Obligations.StepRunsFrontCommand : Prop :=
  (∀ (c : Instr) (d : Dev) (q : List Instr),
    step { dev := d, pending := c :: q } = exec c { dev := d, pending := q })

/-- With no command waiting, a step is one tick of 1.6 ns: time and the timebase advance, nothing else does. Rests on
  R305. -/
def Obligations.IdleStepIsOneTick : Prop :=
  (∀ (d : Dev),
    ∃ t, step { dev := d, pending := [] } = .next t ∧ t.pending = [] ∧ t.dev.now = d.now + 1600 ∧
    t.dev.clock32 = (d.clock32 + d.get .tsuInc 0) % 2 ^ 96 ∧ t.dev.dram = d.dram ∧ t.dev.nva = d.nva ∧
    t.dev.raised = d.raised ∧ t.dev.outs = d.outs ∧ onlyAreas [.now] d t.dev ∧ onlyRegs [.tsuTime, .tsuFrac] d t.dev)

/-- Every command answers a next state from every state and leaves the queue as it was: none faults, none is refused.
  Rests on R1, R12. -/
def Obligations.EveryCommandCompletes : Prop :=
  (∀ (c : Instr) (s : State),
    ∃ t, exec c s = .next t ∧ t.pending = s.pending)

/-- n steps with n commands in front run those commands in order, first in, first out, and leave the rest waiting. Rests
  on R1, R2. -/
def Obligations.QueueServedInOrder : Prop :=
  (∀ (cs q : List Instr) (d : Dev),
    runSteps cs.length { dev := d, pending := cs ++ q } = runAll cs { dev := d, pending := q })

/-- Every step keeps DRAM and the non-volatile array in their canonical form. Rests on R255, R256, R433. -/
def Obligations.StepKeepsMemoriesCanonical : Prop :=
  (∀ (s : State), (memoriesWf s) →
    ∀ t, step s = .next t → memoriesWf t)

/-- Every step keeps the cores' local SRAM and every session's staging area in their canonical form. Rests on R295, R296,
  R428. -/
def Obligations.StepKeepsBuffersCanonical : Prop :=
  (∀ (s : State), (buffersWf s) →
    ∀ t, step s = .next t → buffersWf t)

/-- Every step keeps the waiting commands well-formed. Rests on R1, R12. -/
def Obligations.StepKeepsQueueWellFormed : Prop :=
  (∀ (s : State), (queueWf s) →
    ∀ t, step s = .next t → queueWf t)

/-- The state after a cold reset: memories canonical, nothing waiting, fire index 0, no image, firing disabled, spec's
  reset values. Rests on R9, R27, R41, R69, R266. -/
def Obligations.ResetStateIsCanonical : Prop :=
  (
    memoriesWf State.reset ∧ buffersWf State.reset ∧ queueWf State.reset ∧ State.reset.pending = [] ∧ State.reset.dev.fireIndex = 0 ∧
    State.reset.dev.img.active = none ∧ State.reset.dev.img.shadow = none ∧ State.reset.dev.imgState = 0 ∧
    State.reset.dev.get .imgError 0 = 0xffff0000 ∧ State.reset.dev.fireEn = false ∧ State.reset.dev.firing = false ∧
    State.reset.dev.raised = [] ∧ State.reset.dev.now = 0 ∧
    (∀ (r : Reg) (k : Nat), State.reset.dev.rd r k = r.reset k))

/-- A register instance reads what was last put into it, every other instance keeps its value, and a field write keeps the
  other bits. Rests on R5, R6. -/
def Obligations.RegisterCellReadAfterWrite : Prop :=
  (∀ (d : Dev) (r q : Reg) (k j : Nat) (v : BitVec 64),
    (d.wr r k v).rd r k = v ∧ ((q, j) ≠ (r, k) → (d.wr r k v).rd q j = d.rd q j)) ∧
  (∀ (d : Dev) (r : Reg) (k l w x l' w' : Nat), (l + w ≤ 64) →
    (d.setFld r k l w x).fld r k l w = x % 2 ^ w ∧
    (l' + w' ≤ l ∨ l + w ≤ l' → (d.setFld r k l w x).fld r k l' w' = d.fld r k l' w'))

/-- Frame numbers compare modulo 2^32 with a window of 2^31; exactly 2^31 ahead counts as older. States R28. -/
def Obligations.FrameNumberIsNewer : Prop :=
  (∀ (a b : BitVec 32),
    (newer32 a.toNat b.toNat = true ↔ a - b ≠ 0 ∧ (a - b).toNat < 0x80000000) ∧
    newer32 (b + 0x80000000).toNat b.toNat = false)

/-- A ring is empty when both indices are equal with their wrap bits, full when positions are equal and wrap bits differ.
  States R30. -/
def Obligations.RingIndexEmptyAndFull : Prop :=
  (∀ (n tail head : Nat), (n ≤ 16) → (tail < 2 ^ 17) → (head < 2 ^ 17) → (bits tail 0 16 < 2 ^ n) → (bits head 0 16 <
    2 ^ n) →
    (ringCount (2 ^ n) tail head = 0 ↔ tail = head) ∧
    (ringCount (2 ^ n) tail head = 2 ^ n ↔ bits tail 0 16 = bits head 0 16 ∧ bits tail 16 1 ≠ bits head 16 1) ∧
    ringAdvance (2 ^ n) tail 1 = (if bits tail 0 16 + 1 < 2 ^ n then tail + 1 else 65536 * (1 - bits tail 16 1)))

/-- A register write stores RW bits, clears W1C bits but those set in the same clock, runs the rows it names; bad accesses
  are counted. Rests on R5, R6, R8, R11, R429. -/
def Obligations.RegisterWritesByAccessCode : Prop :=
  (∀ (s : State) (w : Agent) (addr : BitVec 28) (v : BitVec 64) (wide : Bool) (x : WriteAside), (aligned addr.toNat
    wide = false) →
    Yields (.registerWrite w addr v wide x) s (s.dev.count .glbBadAccess 0)) ∧
  (∀ (s : State) (w : Agent) (addr : BitVec 28) (v : BitVec 64) (x : WriteAside), (aligned addr.toNat false = true) →
    ((agentReq w).isSome = true) → (Reg.find addr.toNat = none) → (inNzt addr.toNat = false) →
    Yields (.registerWrite w addr v false x) s (s.dev.count .glbBadAccess 0)) ∧
  (∀ (s : State) (w : Agent) (addr : BitVec 28) (v : BitVec 64) (x : WriteAside) (r : Reg) (k : Nat) (high : Bool),
    (aligned addr.toNat false = true) → ((agentReq w).isSome = true) → (Reg.find addr.toNat = some (r, k, high)) →
    (writeRuns addr.toNat v = false) → (r.tenantOnly = false) → ((objectOf r k).any (fun o => s.dev.inTransit o.1 o.2)
    = false) → (s.dev.writeBusy r k = none) → (s.dev.writeDropped r k = false) → (r ≠ .epCtrl) →
    Completes (.registerWrite w addr v false x) s fun e => e.rd r k = storeHalf r high (s.dev.rd r k) v x.edges) ∧
  (∀ (s : State) (w : Agent) (addr : BitVec 28) (v : BitVec 64) (x : WriteAside) (r : Reg) (k : Nat) (high : Bool),
    (aligned addr.toNat false = true) → ((agentReq w).isSome = true) → (Reg.find addr.toNat = some (r, k, high)) →
    (r.tenantOnly = false) → (r.rowOfOwn v = true) →
    Yields (.registerWrite w addr v false x) s (s.dev.ownWrite w r k high (v.toNat % 2 ^ 32) x)) ∧
  (∀ (s : State) (w : Agent) (addr : BitVec 28) (v : BitVec 64) (x : WriteAside) (r : Reg) (k : Nat) (high : Bool),
    (aligned addr.toNat false = true) → ((agentReq w).isSome = true) → (Reg.find addr.toNat = some (r, k, high)) →
    (r.tenantOnly = false) → (r.rowOfOwn v = false) → (r ∈ [Reg.posEncStatus, Reg.qlCtrl, Reg.nvaOpCtrl]) →
    Yields (.registerWrite w addr v false x) s ((s.dev.storeReg r k (storeHalf r high (s.dev.rd r k) v x.edges)).besideWrite w r k (v.toNat % 2 ^ 32) x)) ∧
  (∀ (s : State) (w : Agent) (addr : BitVec 28) (v : BitVec 64) (x : WriteAside) (t : State), (aligned addr.toNat true
    = true) → (exec (.registerWrite w addr v false x) s = .next t) →
    exec (.registerWrite w addr v true x) s = exec (.registerWrite w (addr + 4) (v >>> 32) false (asideHigh x)) t) ∧
  (∀ (r : Reg) (high : Bool) (old v edges : BitVec 64),
    storeHalf r high old v edges &&& ~~~(r.desc.rw ||| r.desc.w1c) = old &&& ~~~(r.desc.rw ||| r.desc.w1c)) ∧
  (∀ (r : Reg) (old v edges : BitVec 64) (i : Nat), (i < 32) → (edges.getLsbD i = true) → (r.desc.w1c.getLsbD i =
    true) →
    (storeHalf r false old v edges).getLsbD i = true) ∧
  (∀ (s : State) (q : Agent) (read : Bool) (addr : BitVec 28),
    Completes (.badAccess q read addr) s fun e =>
    e.get .glbBadAccess 0 = min (s.dev.get .glbBadAccess 0 + 1) (2 ^ 32 - 1) ∧
    e.outs = s.dev.outs ++ (if read then [.readData (agentNumber q) addr.toNat 0] else []))

/-- A read of a low word latches the high word; a high-word read without one returns the live value. States R7. -/
def Obligations.LowWordReadLatchesHighWord : Prop :=
  (∀ (s : State) (q : Agent) (addr : BitVec 28) (r : Reg) (k : Nat), (aligned addr.toNat false = true) → ((agentReq
    q).isSome = true) → (Reg.find addr.toNat = some (r, k, false)) → (readOfOwn r k false = false) → (Tab.find
    s.dev.latch addr.toNat = none) → (r.desc.wide = true) →
    Completes (.lowWordReadLatch q addr false) s fun e =>
    e.outs = s.dev.outs ++ [.readData (agentNumber q) addr.toNat (bits (s.dev.liveReg r k) 0 32)] ∧
    Tab.find e.latch (addr.toNat + 4) = some (bits (s.dev.liveReg r k) 32 32)) ∧
  (∀ (s : State) (q : Agent) (addr : BitVec 28) (r : Reg) (k v : Nat) (high : Bool), (aligned addr.toNat false = true)
    → ((agentReq q).isSome = true) → (Reg.find addr.toNat = some (r, k, high)) → (readOfOwn r k high = false) →
    (Tab.find s.dev.latch addr.toNat = some v) →
    Completes (.lowWordReadLatch q addr false) s fun e =>
    e.outs = s.dev.outs ++ [.readData (agentNumber q) addr.toNat v] ∧ Tab.find e.latch addr.toNat = none) ∧
  (∀ (s : State) (q : Agent) (addr : BitVec 28) (r : Reg) (k : Nat), (aligned addr.toNat false = true) → ((agentReq
    q).isSome = true) → (Reg.find addr.toNat = some (r, k, true)) → (readOfOwn r k true = false) → (Tab.find
    s.dev.latch addr.toNat = none) →
    Completes (.lowWordReadLatch q addr false) s fun e =>
    e.outs = s.dev.outs ++ [.readData (agentNumber q) addr.toNat (bits (s.dev.liveReg r k) 32 32)]) ∧
  (∀ (s : State) (q : Agent) (addr : BitVec 28) (t : State), (aligned addr.toNat true = true) → (exec
    (.lowWordReadLatch q addr false) s = .next t) →
    exec (.lowWordReadLatch q addr true) s = exec (.lowWordReadLatch q (addr + 4) false) t) ∧
  (∀ (s : State) (q : Agent) (addr : BitVec 28) (r : Reg) (k : Nat) (high : Bool), (aligned addr.toNat false = true) →
    ((agentReq q).isSome = true) → (Reg.find addr.toNat = some (r, k, high)) → (readOfOwn r k high = true) →
    Yields (.lowWordReadLatch q addr false) s (s.dev.ownRead q r k high))

/-- The image commands move STATE as the bar image chapter says, and answer E_IMG_BUSY where a load or an activation is in
  progress. Rests on R41, R44, R46, R47, R48, R465. -/
def Obligations.ImageCommandsBetweenStates : Prop :=
  (∀ (s : State) (req : Fin 5) (src : BitVec 2), (s.dev.imgState = 1 ∨ s.dev.imgState = 3 ∨ s.dev.imgState = 4) →
    Yields (.load req src) s (s.dev.refuse req.val .imgBusy)) ∧
  (∀ (s : State) (req : Fin 5) (src : BitVec 2), (s.dev.imgState ≠ 1) → (s.dev.imgState ≠ 3) → (s.dev.imgState ≠ 4) →
    Completes (.load req src) s fun e =>
    e.imgState = 1 ∧ e.img.shadow = none ∧ e.img.active = s.dev.img.active ∧ e.fld .imgCtrl 0 8 2 = src.toNat ∧
    e.img.source = (if src = 0 then .ownerBuffer else .storeSlot (src.toNat - 1)) ∧ e.img.report = []) ∧
  (∀ (s : State), (s.dev.imgState = 1) →
    Completes .imgLoadComplete s fun e =>
    match loadImage (Tab.get s.dev.sec.keys 1 []) s.dev.loadSource.1 s.dev.loadSource.2 with
    | .ok g => e.imgState = 2 ∧ e.img.shadow = some g.image ∧ e.img.report = g.report.take 1024 ∧ e.get .imgError 0 = 0xffff0000
    | .error (er, r) => e.imgState = 0 ∧ e.img.shadow = none ∧ e.img.report = r.take 1024 ∧
      e.get .imgError 0 = (er.sectionIndex <<< 16 + er.code.code.toNat) % 2 ^ 64) ∧
  (∀ (s : State) (req : Fin 5), (s.dev.imgState ≠ 1) → (s.dev.imgState ≠ 3) → (s.dev.imgState ≠ 4) → (s.dev.bit
    .imgStatus 0 7 = true) → (s.dev.fireIndex + 32 ≤ s.dev.actFire) →
    Yields (.armHot req) s (s.dev.setFld .imgStatus 0 0 3 3)) ∧
  (∀ (s : State) (req : Fin 5), (s.dev.imgState ≠ 1) → (s.dev.imgState ≠ 3) → (s.dev.imgState ≠ 4) → (s.dev.bit
    .imgStatus 0 7 = true) → (s.dev.actFire < s.dev.fireIndex + 32) →
    Yields (.armHot req) s (s.dev.refuse req.val .imgFirePast)) ∧
  (∀ (s : State) (req : Fin 5), (s.dev.imgState = 3) →
    Yields (.disarm req) s (s.dev.setFld .imgStatus 0 0 3 2)) ∧
  (∀ (s : State) (req : Fin 5), (s.dev.imgState ≠ 3) → (s.dev.imgState ≠ 4) →
    Completes (.discard req) s fun e =>
    e.imgState = 0 ∧ e.img.shadow = none ∧ e.img.active = s.dev.img.active ∧ e.img.report = [] ∧ e.get .imgClampCount 0 = 0) ∧
  (∀ (s : State), (s.dev.imgState = 3) → (s.dev.actFire ≤ s.dev.fireIndex + 32) →
    Completes .hotCommitPoint s fun e => e.imgState = 4 ∧ e.img.staged = true ∧ e.img.shadow = s.dev.img.shadow) ∧
  (∀ (s : State), (s.dev.bit .imgStatus 0 3 = true) →
    Completes .stopActivationDone s fun e => e.imgState = 0 ∧ e.bit .imgStatus 0 3 = false ∧ e.img = s.dev.img)

/-- An activation makes the shadow the active image; a stop activation is refused while firing; PERSIST copies to the
  other slot, then commits it. Rests on R46, R47, R50, R433, R464, R465. -/
def Obligations.ImageTakesEffect : Prop :=
  (∀ (s : State) (req : Fin 5), (s.dev.fireEn = true ∨ s.dev.firing = true) →
    Yields (.actStop req) s (s.dev.refuse req.val .imgNotStopped)) ∧
  (∀ (s : State) (req : Fin 5) (g : Image), (s.dev.fireEn = false) → (s.dev.firing = false) → (s.dev.imgState ≠ 1) →
    (s.dev.imgState ≠ 4) → (s.dev.img.shadow = some g) → (s.dev.dramBytes ≠ 0) →
    Completes (.actStop req) s fun e =>
    e.img.active = some g ∧ e.img.shadow = none ∧ e.img.digestBlock = false ∧ e.img.staged = false ∧
    e.get .imgActiveSerial 0 = g.serial % 2 ^ 64 ∧ e.get .glbBarPitch 0 = g.get .lpi 0 % 2 ^ 64) ∧
  (∀ (s : State) (g : Image), (s.dev.img.shadow = some g) → (s.dev.imgState = 4) → (s.dev.img.staged = true) →
    Completes .hotActivationEffect s fun e =>
    e.img.active = some g ∧ e.img.shadow = none ∧ e.img.staged = false ∧ e.get .imgActiveSerial 0 = g.serial % 2 ^ 64) ∧
  (∀ (s : State), (s.dev.imgState = 4) → (s.dev.bit .imgStatus 0 3 = false) → (s.dev.img.staged = false) →
    Completes .hotActivationDone s fun e => e.imgState = 0 ∧ e.bit .imgStatus 0 7 = false ∧ e.img = s.dev.img) ∧
  (∀ (s : State) (g : Image), (s.dev.img.active = some g) → (s.dev.img.persist = none) →
    Completes .persist s fun e =>
    e.img.persist = some (s.dev.persistSlot, g.serial, g.digest) ∧ e.img.slots = s.dev.img.slots ∧
    e.img.lastSlot = s.dev.img.lastSlot ∧ e.nva = s.dev.nva ∧
    e.mgt.ops = s.dev.mgt.ops ++
      [{ requester := 5, bank := s.dev.persistSlot, line := 0x20000, left := (g.bytes.length + 63) / 64 + 1, erase := false, src := 0, body := g.bytes }]) ∧
  (∀ (s : State) (bank : Fin 4) (o : NvaOp), (s.dev.nvaServed bank.val = some o) → (o.requester = 5) → (1 < o.left) →
    Completes (.nvaLineWritten bank) s fun e =>
    (∀ i, i < 64 → i < o.body.length → Mem.read e.nva (o.bank * nvaBank + 64 * o.line + i) = o.body.getD i 0) ∧
    (∀ a, a < o.bank * nvaBank + 64 * o.line ∨ o.bank * nvaBank + 64 * o.line + 64 ≤ a →
      Mem.read e.nva a = Mem.read s.dev.nva a) ∧ e.img = s.dev.img) ∧
  (∀ (s : State) (bank : Fin 4) (o : NvaOp) (k serial : Nat) (digest : BitVec 384), (s.dev.nvaServed bank.val = some
    o) → (o.requester = 5) → (o.left ≤ 1) → (s.dev.img.persist = some (k, serial, digest)) →
    Completes (.nvaLineWritten bank) s fun e =>
    Tab.find e.img.slots k = some (serial, digest) ∧ e.img.lastSlot = some k ∧ e.img.persist = none ∧ e.nva = s.dev.nva)

/-- Qualified edges move the counts, DIR and the Z latch; glitches and wire faults are counted; lost inputs and their
  return show in LOST. Rests on R54, R55, R57, R58, R60, R82, R84. -/
def Obligations.EncoderInputsCountAndLatch : Prop :=
  (∀ (s : State) (i : Fin 8) (a b z : Bool) (stamp : Nat),
    Completes (.encEdgeQualified i a b z stamp) s fun e =>
    (e.enc i.val).a = (if (s.dev.enc i.val).wireA then (s.dev.enc i.val).a else a) ∧
    (e.enc i.val).b = (if (s.dev.enc i.val).wireB then (s.dev.enc i.val).b else b) ∧
    (e.enc i.val).z = (if (s.dev.enc i.val).wireZ then (s.dev.enc i.val).z else z)) ∧
  (∀ (s : State) (i : Fin 8) (a b z : Bool) (stamp : Nat), ((s.dev.enc i.val).wireA = false) → ((s.dev.enc
    i.val).wireB = false) → (s.dev.cfg .encInvert i.val ≠ 1) → ((quadPlace a b + 4 - quadPlace (s.dev.enc i.val).a
    (s.dev.enc i.val).b) % 4 = 1) →
    Completes (.encEdgeQualified i a b z stamp) s fun e =>
    e.rd .posEncCount i.val = (if s.dev.encReverse i.val then s.dev.rd .posEncCount i.val else s.dev.rd .posEncCount i.val + 1) ∧
    e.encReverse i.val = false) ∧
  (∀ (s : State) (i : Fin 8) (a b z : Bool) (stamp : Nat), ((s.dev.enc i.val).wireA = false) → ((s.dev.enc
    i.val).wireB = false) → (s.dev.cfg .encInvert i.val ≠ 1) → ((quadPlace a b + 4 - quadPlace (s.dev.enc i.val).a
    (s.dev.enc i.val).b) % 4 = 3) →
    Completes (.encEdgeQualified i a b z stamp) s fun e =>
    e.rd .posEncCount i.val = (if s.dev.encReverse i.val then s.dev.rd .posEncCount i.val - 1 else s.dev.rd .posEncCount i.val) ∧
    e.encReverse i.val = true) ∧
  (∀ (s : State) (i : Fin 8) (a b z : Bool) (stamp : Nat), ((s.dev.enc i.val).wireA = false) → ((s.dev.enc
    i.val).wireB = false) → ((quadPlace a b + 4 - quadPlace (s.dev.enc i.val).a (s.dev.enc i.val).b) % 4 = 2) →
    Completes (.encEdgeQualified i a b z stamp) s fun e =>
    e.get .posEncQuadCount i.val = min (s.dev.get .posEncQuadCount i.val + 1) (2 ^ 32 - 1) ∧ e.bit .posEncStatus i.val 31 = true ∧
    e.rd .posEncCount i.val = s.dev.rd .posEncCount i.val) ∧
  (∀ (s : State) (i : Fin 8) (a b : Bool) (stamp : Nat), ((s.dev.enc i.val).wireZ = false) → ((s.dev.enc i.val).z =
    false) → (a = (s.dev.enc i.val).a) → (b = (s.dev.enc i.val).b) →
    Completes (.encEdgeQualified i a b true stamp) s fun e => e.rd .posEncZlatch i.val = s.dev.rd .posEncCount i.val) ∧
  (∀ (s : State) (i : Fin 8) (time : Nat),
    Completes (.encGlitch i time) s fun e =>
    e.get .posEncGlitch i.val = min (s.dev.get .posEncGlitch i.val + 1) (2 ^ 32 - 1) ∧
    (16 ≤ ((s.dev.enc i.val).glitches.filter fun g => decide (time < g + 1000000000)).length → e.bit .posEncStatus i.val 31 = true)) ∧
  (∀ (s : State) (i : Fin 8) (pair : Fin 3),
    Completes (.encWireFault i pair) s fun e =>
    e.get .posEncWireCount i.val = min (s.dev.get .posEncWireCount i.val + 1) (2 ^ 32 - 1) ∧
    e.enc i.val = (s.dev.enc i.val).setWire pair.val true ∧ e.bit .posEncStatus i.val 30 = true) ∧
  (∀ (s : State) (i : Fin 8) (pair : Fin 3) (level : Bool),
    Completes (.encWireClear i pair level) s fun e =>
    e.enc i.val = ((s.dev.enc i.val).setWire pair.val false).setLevel pair.val level ∧
    e.bit .posEncStatus i.val 30 = ((e.enc i.val).wireA || (e.enc i.val).wireB || (e.enc i.val).wireZ)) ∧
  (∀ (s : State) (i : Fin 8) (time : Nat), (s.dev.bit .posEncStatus i.val 30 = true) →
    Completes (.wireLostTimeout i time) s fun e => e.bit .posEncStatus i.val 31 = true) ∧
  (∀ (s : State) (i : Fin 8),
    Completes (.inputReturn i) s fun e => e.bit .posEncStatus i.val 31 = false) ∧
  (∀ (s : State) (i : Fin 8) (time : Nat),
    Completes (.standstill i time) s fun e => (e.enc i.val).stamps = [] ∧ (e.enc i.val).valid = false)

/-- FIRE_EN binds the next fire index to the first line ahead, each commit takes the next index and line, and stops show
  their cause. Rests on R65, R66, R68, R69, R73, R84, R491. -/
def Obligations.FiresAreCommittedAndStopped : Prop :=
  (∀ (s : State) (req : Fin 5) (er : ECode), (s.dev.fireRefusal = some er) →
    Yields (.fireEn req) s (s.dev.refuse req.val er)) ∧
  (∀ (s : State) (req : Fin 5), (s.dev.fireRefusal = none) → (s.dev.fireEn = false) →
    Completes (.fireEn req) s fun e =>
    e.fireEn = true ∧ e.firing = true ∧ e.fireIndex = s.dev.fireIndex ∧ e.pos.cmpLine = s.dev.enableLine ∧
    e.get .posBindFire 0 = (s.dev.fireIndex + 1) % 2 ^ 48 ∧ e.getInt .posBindLine 0 = (BitVec.ofInt 64 s.dev.enableLine).toInt ∧
    e.fld .posStatus 0 12 4 = 0 ∧ e.bit .secStatus 0 28 = false ∧ PinUser.pos ∉ e.pos.stopReq) ∧
  (∀ (s : State) (b : PosBase), (s.dev.directMode = false) → (s.dev.scanning = false) → (s.dev.canFire = some b) →
    (s.dev.dueAt (b.fireAt s.dev.pos.cmpLine) = b.fireAt s.dev.pos.cmpLine) →
    Completes .fireCommit s fun e =>
    e.get .posFireIndex 0 = (s.dev.fireIndex + 1) % 2 ^ 64 ∧ e.pos.cmpLine = s.dev.pos.cmpLine + (if b.reverse then -1 else 1) ∧
    e.pos.fires.head? = some { index := s.dev.fireIndex + 1, tF := b.fireAt s.dev.pos.cmpLine, tQ := none,
                               line := s.dev.pos.cmpLine, reverse := b.reverse, pass := 0 } ∧
    e.get .posDeferCount 0 = s.dev.get .posDeferCount 0) ∧
  (∀ (s : State) (b : PosBase) (x : Fire), (s.dev.directMode = false) → (s.dev.scanning = false) → (s.dev.canFire =
    some b) → (s.dev.pos.fires.head? = some x) → (b.fireAt s.dev.pos.cmpLine < x.tF + 5000000) → (b.lagQ12 (x.tF +
    5000000 - b.fireAt s.dev.pos.cmpLine) ≤ s.dev.cfg .ovsLagQ12 0) →
    Completes .fireCommit s fun e =>
    e.get .posFireIndex 0 = (s.dev.fireIndex + 1) % 2 ^ 64 ∧ e.bit .posStatus 0 7 = true ∧
    e.get .posDeferCount 0 = min (s.dev.get .posDeferCount 0 + 1) (2 ^ 32 - 1) ∧
    e.pos.fires.head? = some { index := s.dev.fireIndex + 1, tF := x.tF + 5000000, tQ := none,
                               line := s.dev.pos.cmpLine, reverse := b.reverse, pass := 0 }) ∧
  (∀ (s : State) (req : Fin 5), (s.dev.isStandby = false) → (s.dev.fireEn = true) →
    Completes (.fireDisable req) s fun e => e.fireEn = false ∧ e.fld .posStatus 0 12 4 = (if s.dev.pos.ended then 4 else 0) ∧ e.fireIndex = s.dev.fireIndex) ∧
  (∀ (s : State) (time : Nat) (b : PosBase), (s.dev.pos.dr = some b) →
    Completes (.deadReckoningEnd time) s fun e =>
    e.pos.dr = none ∧ e.fireEn = false ∧ e.fld .posStatus 0 12 4 = (if s.dev.pos.ended then 4 else 2) ∧ e.bit .posStatus 0 8 = false) ∧
  (∀ (s : State), (s.dev.pos.dr = none) → (s.dev.pos.ended = false) →
    Completes .stopClr s fun e => e.fld .posStatus 0 12 4 = 0 ∧ PinUser.pos ∉ e.pos.stopReq ∧ e.fireEn = s.dev.fireEn) ∧
  (∀ (s : State) (time : Nat), (s.dev.fireEn = false) → (((s.dev.pos.fires.head?.map fun f => f.tF).getD 0) ≤ time) →
    Completes (.firingEnd time) s fun e => e.firing = false) ∧
  (∀ (s : State) (time : Nat),
    Completes (.overspeedRelease time) s fun e => e.bit .posStatus 0 7 = false ∧ PinUser.pos ∉ e.pos.speedReq)

/-- ZERO makes the position read 0; port delays are measured and written while firing is disabled; an armed pass is taken
  from staging. Rests on R64, R70, R79, R80, R99. -/
def Obligations.PositionZeroDelaysAndPasses : Prop :=
  (∀ (s : State) (req : Fin 5), (s.dev.firing = false) →
    Completes (.zero req) s fun e => e.linePos s.dev.now = 0) ∧
  (∀ (s : State) (req : Fin 5), (s.dev.firing = false) →
    Completes (.cal req) s fun e =>
    e.bit .posCtrl 0 3 = true ∧
    e.pos.calWait = (s.dev.portsIn [3, 4, 5]).filter fun n => decide (2 ≤ s.dev.fld .linkStatus n 27 2)) ∧
  (∀ (s : State), (s.dev.bit .posCtrl 0 3 = true) →
    Completes .calDone s fun e => e.bit .posCtrl 0 3 = false ∧ e.pos.calWait = [] ∧ e.bit .posEvent 0 8 = true) ∧
  (∀ (s : State) (port : Fin 192) (got : List (Nat × Nat)), ((s.dev.port port.val).echo = some (EchoUse.refresh, got))
    →
    Completes (.pdRefreshDone port) s fun e => (e.port port.val).echo = none) ∧
  (∀ (s : State) (req : Fin 5) (port : Fin 192) (pd : BitVec 16), (s.dev.fireEn = false) →
    Completes (.portDelayWrite req port pd) s fun e =>
    e.fld .posPortDelay port.val 0 16 = pd.toNat ∧ e.bit .posPortDelay port.val 31 = true) ∧
  (∀ (s : State) (req : Fin 5) (port : Fin 192) (pd : BitVec 16), (s.dev.fireEn = true) →
    Yields (.portDelayWrite req port pd) s (s.dev.refuse req.val .posFiring)) ∧
  (∀ (s : State) (req : Fin 5), (s.dev.pos.armedPass = none) →
    Completes (.passArm req) s fun e =>
    let p : Pass := { lo := s.dev.getInt .posPassLo 0, hi := s.dev.getInt .posPassHi 0, reverse := s.dev.bit .posPassCtrl 0 0,
                      number := s.dev.get .cmpPassNext 0 }
    (if s.dev.pos.curPass.isNone then e.pos.curPass = some p ∧ e.pos.armedPass = none
     else e.pos.curPass = s.dev.pos.curPass ∧ e.pos.armedPass = some p) ∧
    e.get .cmpPassNext 0 = (s.dev.get .cmpPassNext 0 + 1) % 2 ^ 48) ∧
  (∀ (s : State) (req : Fin 5), (s.dev.pos.armedPass.isSome = true) →
    Yields (.passArm req) s (s.dev.refuse req.val .posPassBusy))

/-- A region that no check refuses opens under a free number; closing sets its last line; an accepted block waits for its
  ingest check. Rests on R89, R90, R91, R92, R94, R96, R273, R275, R278, R304. -/
def Obligations.RegionsOpenCloseAndTakeBlocks : Prop :=
  (∀ (s : State) (slot : Fin 4096) (w : List Word) (n : Nat), (s.dev.slotState slot.val = 1) → (s.dev.canEnter
    slot.val w = true) → (entOpcode w = 0x10) → (entryFault slot.val w = none) → (s.dev.regionRefusal (regionOf
    slot.val w) = none) → (s.dev.freeRegion = some n) →
    Completes (.regionOpen slot w) s fun e =>
    e.cmp.regions = s.dev.cmp.regions ++ [{ regionOf slot.val w with number := n }] ∧
    e.get .cmpRegions 0 = e.openRegions % 2 ^ 64) ∧
  (∀ (s : State) (slot : Fin 4096) (w : List Word) (er : ECode), (s.dev.slotState slot.val = 1) → (s.dev.canEnter
    slot.val w = true) → (entOpcode w = 0x10) → (entryFault slot.val w = none) → (s.dev.regionRefusal (regionOf
    slot.val w) = some er) →
    Yields (.regionOpen slot w) s ((s.dev.ensureTaken slot.val w).entryErr slot.val w er)) ∧
  (∀ (s : State) (slot : Fin 4096) (w : List Word) (r : Region), (s.dev.slotState slot.val = 1) → (s.dev.canEnter
    slot.val w = true) → (entOpcode w = 0x11) → (entryFault slot.val w = none) → (s.dev.region? (bits (entWord w 1) 0
    16) = some r) → (r.closed = false) → (slot.val = 0 ∨ r.slot = slot.val) →
    Completes (.regionClose slot w) s fun e =>
    match e.region? r.number with
    | some q => q.closed = true ∧ q.l1 = min r.l1 (max (entInt w 2) r.lockedEnd)
    | none => ∀ q, q ∈ e.cmp.regions → q.number ≠ r.number) ∧
  (∀ (s : State) (slot : Fin 4096) (w : List Word), (s.dev.slotState slot.val = 1) → (s.dev.canEnter slot.val w =
    true) → (entOpcode w = 0x11) → (entryFault slot.val w = none) → (s.dev.region? (bits (entWord w 1) 0 16) = none) →
    Yields (.regionClose slot w) s ((s.dev.ensureTaken slot.val w).entryErr slot.val w .regionOwner)) ∧
  (∀ (s : State) (slot : Fin 4096) (w : List Word) (data : List Byte) (r q : Region) (off : Nat), (s.dev.slotState
    slot.val = 1) → (s.dev.canEnter slot.val w = true) → (entOpcode w = 0x20) → (entryFault slot.val w = none) →
    (s.dev.region? (bits (entWord w 1) 16 16) = some r) → (r.slot = slot.val) → (r.closed = false) → (bitOf (entWord w
    7) 7 = false) → (s.dev.xptSrcBad slot.val w = false) → (s.dev.blockRefusal r (s.dev.blockJob slot.val w data) =
    none) → (r.heapTake (ceilDiv (bits (entWord w 4) 0 18) 64) = some (off, q)) →
    Completes (.block slot w data) s fun e =>
    e.cmp.ingest = s.dev.cmp.ingest ++
      [{ s.dev.blockJob slot.val w data with heapOff := off }] ∧
    e.cmp.regions.length = s.dev.cmp.regions.length) ∧
  (∀ (s : State) (slot : Fin 4096) (w : List Word) (data : List Byte) (r : Region), (s.dev.slotState slot.val = 1) →
    (s.dev.canEnter slot.val w = true) → (entOpcode w = 0x20) → (entryFault slot.val w = none) → (s.dev.region? (bits
    (entWord w 1) 16 16) = some r) → (r.slot ≠ slot.val ∨ r.closed = true) →
    Yields (.block slot w data) s ((s.dev.ensureTaken slot.val w).entryErr slot.val w .regionOwner))

/-- The ingest check stores a good block as RESIDENT and counts a bad one; a fetch delivers a locked block or marks it
  lost. Rests on R95, R101, R105, R107, R109, R126, R286. -/
def Obligations.BlocksAreCheckedFetchedAndSought : Prop :=
  (∀ (s : State) (job : Nat) (j : IngestJob), (s.dev.cmp.ingest[job]? = some j) →
    Completes (.ingestCheckDone job) s fun e => e.cmp.ingest = s.dev.cmp.ingest.eraseIdx job) ∧
  (∀ (s : State) (job : Nat) (j : IngestJob) (r : Region), (s.dev.cmp.ingest[job]? = some j) → (s.dev.region? j.region
    = some r) → ((s.dev.mirroring && s.dev.bit .tenState j.slot 27) = false) → (s.dev.beyondLock r j.strip j.first =
    true) → (j.first + j.lines ≤ r.endOfs) → (r.firstOfs ≤ j.first) →
    Completes (.ingestCheckDone job) s fun e =>
    (s.dev.ingestRefusal r j = none → ∃ q x, e.region? j.region = some q ∧ x ∈ (q.strip j.strip).entries ∧ x.first = j.first ∧
      x.lines = j.lines ∧ x.state = .resident ∧ x.isLocked = false ∧ x.sealedBytes = j.sealedBytes) ∧
    (s.dev.ingestRefusal r j ≠ none → e.get .cmpIngestFail 0 = min (s.dev.get .cmpIngestFail 0 + 1) (2 ^ 32 - 1))) ∧
  (∀ (s : State) (region strip first : Nat) (sib : Fin 4) (r : Region) (b : BlockEntry), (s.dev.region? region = some
    r) → (((r.strip strip).entries.find? fun x => x.first == first && x.isLocked && (x.state == .locked || x.state ==
    .missing)) = some b) → (b.state = .locked) → (s.dev.fetchDue r strip first sib.val = true) → (s.dev.tagOk r.slot
    (.region r.number) = true) → ((s.dev.cmp.fetched.any fun y => y.region == region && y.strip == strip && y.first ==
    first && y.sibling == sib.val) = false) →
    Completes (.blockFetch region strip first sib .good) s (fun e =>
      e.cmp.fetched = s.dev.cmp.fetched ++
        [{ region := region, strip := strip, first := first, sibling := sib.val, crcBad := s.dev.decodeBad r strip b }]) ∧
    Completes (.blockFetch region strip first sib .crcBad) s (fun e =>
      e.cmp.fetched = s.dev.cmp.fetched ++
        [{ region := region, strip := strip, first := first, sibling := sib.val, crcBad := true }]) ∧
    Completes (.blockFetch region strip first sib (.authFail 0)) s (fun e => e.bit .cmpEvent 0 2 = true) ∧
    Completes (.blockFetch region strip first sib .poison) s (fun e => e.cmp.fetched = s.dev.cmp.fetched)) ∧
  (∀ (s : State) (port : Fin 192) (row : Fin 4),
    Completes (.seekDone port row) s fun e =>
    (e.rowBuf port.val row.val).seeking = false ∧ e.bit .rpStatus (4 * port.val + row.val) 30 = false) ∧
  (∀ (s : State) (req : Fin 5) (value : Word),
    Completes (.cmpLeadLinesWrite req value) s fun e =>
    e.get .cmpLeadLines 0 =
      (if value.toNat % 2 ^ 24 ≠ 0 ∧ value.toNat % 2 ^ 24 < 2048 then 2048 else value.toNat % 2 ^ 24))

/-- A compressor unit in service takes symbols, closes blocks and sends a block only after its self-check agrees. Rests on
  R129, R130, R131, R132, R133. -/
def Obligations.CompressorUnitsEmitCheckedBlocks : Prop :=
  (∀ (s : State) (u : Fin 32) (symbols : List (Fin 16)) (size v : Nat), (s.dev.unitFor u.val = some v) →
    s.dev.unitFault v = false ∧ (s.dev.unitFault u.val = false → v = u.val) ∧
    Completes (.compressSymbols u symbols size) s (fun e =>
      e.unit v = (s.dev.unit v).accept (unitSize size) (symbols.map Fin.val)) ∧
    Completes (.compressFlush u symbols size) s (fun e =>
      e.unit v = ((s.dev.unit v).accept (unitSize size) (symbols.map Fin.val)).close ∧ (e.unit v).symbols = [])) ∧
  (∀ (s : State) (u : Fin 32) (symbols : List (Fin 16)) (size : Nat), (s.dev.unitFor u.val = none) →
    Yields (.compressSymbols u symbols size) s s.dev ∧ Yields (.compressFlush u symbols size) s s.dev) ∧
  (∀ (s : State) (u : Fin 32) (b : ClosedBlock) (rest : List ClosedBlock), ((s.dev.unit u.val).closed = b :: rest) →
    Completes (.selfcheckDone u true) s (fun e =>
      Out.compressed u.val b.bytes ∈ e.outs ∧
      ((s.dev.pipe u.val).sending = none → e.outs = s.dev.outs ++ [.compressed u.val b.bytes]) ∧ (e.unit u.val).closed = rest ∧
      e.get .cdcUnitBlocks u.val = min (s.dev.get .cdcUnitBlocks u.val + 1) (2 ^ 32 - 1)) ∧
    Completes (.selfcheckDone u false) s (fun e =>
      e.get .cdcUnitSelfchk u.val = min (s.dev.get .cdcUnitSelfchk u.val + 1) (2 ^ 32 - 1) ∧
      (b.stored = true → e.unitFault u.val = true) ∧
      (b.stored = false → (s.dev.unit u.val).lastFail = none → (e.unit u.val).closed = { b with stored := true } :: rest)))

/-- A stored block of 1 to 262,144 symbols decodes to exactly those symbols, with the CRC of its trailer. Rests on R115,
  R117, R118, R124. -/
def Obligations.StoredBlockDecodesToItsSymbols : Prop :=
  (∀ (syms : List Nat), (1 ≤ syms.length) → (syms.length ≤ 262144) → (syms.all (fun x => x < 16) = true) →
    decodeBlock (storedBlock syms) syms.length = .ok { symbols := syms, trailer := symbolCrc syms })

/-- Every block that a compressor emits decodes to exactly the symbols it was given, and is never longer than the stored
  form. Rests on R119, R120, R121, R122, R123, R129. -/
def Obligations.CompressedBlockDecodesToItsSymbols : Prop :=
  (∀ (syms : List Nat), (1 ≤ syms.length) → (syms.length ≤ 262144) → (syms.all (fun x => x < 16) = true) →
    decodeBlock (compressBlock syms) syms.length = .ok { symbols := syms, trailer := symbolCrc syms } ∧
    (compressBlock syms).length ≤ (storedBlock syms).length)

/-- The shares of the siblings of a column add up to its level while any sibling is healthy, and an unhealthy sibling's
  share is 0. Rests on R138. -/
def Obligations.SharesOfALevelAddUp : Prop :=
  (∀ (w k v c msk : Nat) (l : Int), (v < 16) → (splitA w v + splitB w v = v) →
    (((List.range k).map fun r => splitShare w k v c l msk r).sum = if (List.range k).any (fun r => bitOf msk r) then v else 0) ∧
    (∀ r, bitOf msk r = false → splitShare w k v c l msk r = 0) ∧ (∀ r, splitShare w k 0 c l msk r = 0))

/-- A batch that may start joins its port's pipeline, the oldest one leaves it complete, and a forecast frame is sent
  while firing. Rests on R136, R137, R145, R168, R169. -/
def Obligations.BatchesStartCompleteAndForecast : Prop :=
  (∀ (s : State) (port : Fin 192) (fire : BitVec 48) (corrected : Nat) (p : FirePlace), (s.dev.firePlace fire.toNat =
    some p) → (s.dev.batchMayStart port.val fire.toNat = true) →
    Completes (.batchStart port fire corrected) s fun e =>
    (∀ x, s.dev.engineOf port.val = some x → e.get .embTableCe x = min (s.dev.get .embTableCe x + corrected) (2 ^ 32 - 1)) ∧
    (e.syn' port.val).lastStarted = some fire.toNat ∧
    ((e.syn' port.val).runs.map fun r => (r.fire, r.restart)) =
      ((s.dev.syn' port.val).runs.map fun r => (r.fire, r.restart)) ++ [(fire.toNat, false)]) ∧
  (∀ (s : State) (port : Fin 192) (fire : BitVec 48) (corrected : Nat), (s.dev.batchMayStart port.val fire.toNat =
    false) →
    Yields (.batchStart port fire corrected) s s.dev) ∧
  (∀ (s : State) (port : Fin 192) (r : BatchRun) (rest : List BatchRun), ((s.dev.syn' port.val).runs = r :: rest) →
    (r.restart = false) → (s.dev.isStandby = false) →
    Completes (.batchComplete port) s fun e =>
    (e.syn' port.val).runs = rest ∧
    ((e.syn' port.val).done.map fun b => b.fire) = ((s.dev.syn' port.val).done.map fun b => b.fire) ++
      (if (s.dev.port port.val).skips.contains r.fire then [] else [r.fire]) ∧
    ((e.syn' port.val).crcs.map fun x => x.1).head? = some r.fire) ∧
  (∀ (s : State) (fc : Fin 8), (s.dev.fireEn = true) → (s.dev.cfg .fcEn fc.val ≠ 0) →
    Completes (.forecastFrame fc) s fun e =>
    ∃ body, e.outs.getLast? = some (.forecast fc.val body) ∧ body.length = 58) ∧
  (∀ (s : State) (fc : Fin 8), (s.dev.fireEn = false) →
    Yields (.forecastFrame fc) s s.dev) ∧
  (∀ (s : State) (port : Fin 192) (h : PendHealth) (rest : List PendHealth), (s.dev.unfolded port.val = h :: rest) →
    (s.dev.rowsTook port.val h = true) →
    Completes (.healthFold port) s fun e => (e.syn' port.val).folds = (s.dev.syn' port.val).folds ++ [h.mask])

/-- A health command in range is accepted and becomes pending or folds at once; a refused one gives its code, and both set
  HC_DONE. Rests on R141, R144, R145, R492. -/
def Obligations.HealthCommandsAreAnswered : Prop :=
  (∀ (s : State) (req : Fin 5) (value : Word), (s.dev.isStandby = true) →
    Yields (.healthGo req value) s (s.dev.refuse req.val .ptnStandby)) ∧
  (∀ (s : State) (req : Fin 5) (value : Word) (d : Dev) (line : Option Int), (s.dev.isStandby = false) → (d = s.dev.wr
    .embHcCtrl 0 (value.setWidth 64 &&& Reg.embHcCtrl.desc.rw)) → (line = (if d.bit .embHcCtrl 0 30 then none else
    some (d.getInt .embHcLine 0))) → (d.healthRefusal (d.fld .embHcCtrl 0 0 4) d.hcMask line = none) →
    Completes (.healthGo req value) s fun e =>
    e.fld .embHcStatus 0 0 16 = 0 ∧ e.bit .embGlbEvent 0 4 = true ∧
    e.get .embHcResult 0 = (s.dev.fireIndex + 16) % 2 ^ 48 ∧
    (if s.dev.firing then ((e.syn.pend.map fun h => (h.fluid, h.mask, h.fireA)) =
       (s.dev.syn.pend.map fun h => (h.fluid, h.mask, h.fireA)) ++ [(d.fld .embHcCtrl 0 0 4, d.hcMask, s.dev.fireIndex)])
     else e.syn.pend = [])) ∧
  (∀ (s : State) (req : Fin 5) (value : Word) (d : Dev) (line : Option Int) (er : ECode), (s.dev.isStandby = false) →
    (d = s.dev.wr .embHcCtrl 0 (value.setWidth 64 &&& Reg.embHcCtrl.desc.rw)) → (line = (if d.bit .embHcCtrl 0 30 then
    none else some (d.getInt .embHcLine 0))) → (d.healthRefusal (d.fld .embHcCtrl 0 0 4) d.hcMask line = some er) →
    Completes (.healthGo req value) s fun e =>
    e.fld .embHcStatus 0 0 16 = er.code.toNat % 65536 ∧ e.bit .embGlbEvent 0 4 = true ∧
    e.get .glbLastErr req.val = er.code.toNat ∧ e.syn = s.dev.syn)

/-- A table write takes effect at once on a port outside firing, is staged on one that fires; COMMIT arms and ABORT drops
  the set. Rests on R161, R162, R163, R164. -/
def Obligations.TablesAndUpdateSets : Prop :=
  (∀ (s : State) (req : Fin 5) (port : Fin 192) (m : Nat) (high : Bool) (value : Word), (m < 16384) → (s.dev.isStandby
    = false) → (s.dev.inTransit .port port.val = false) → (s.dev.bit .synStatus port.val 14 = false) →
    (s.dev.writesAtOnce port.val = true) →
    Completes (.nztWrite req port (.nozzle m) high value) s fun e =>
    Tab.get (e.syn' port.val).table m 0 =
      bits (setBits (Tab.get (s.dev.syn' port.val).table m 0) (if high then 32 else 0) 32 value.toNat) 28 32 <<< 28 ∧
    (e.syn' port.val).staged = (s.dev.syn' port.val).staged) ∧
  (∀ (s : State) (req : Fin 5) (port : Fin 192) (k : Nat) (high hi : Bool) (value : Word) (r : Reg) (i : Nat), (k <
    72) → (s.dev.isStandby = false) → (s.dev.inTransit .port port.val = false) → (s.dev.bit .synStatus port.val 14 =
    false) → (s.dev.writesAtOnce port.val = true) → (Reg.find (pageAddr port.val k) = some (r, i, hi)) →
    Completes (.nztWrite req port (.page k) high value) s fun e =>
    e.rd r i = BitVec.ofNat 64 (setBits (s.dev.get r i) (if hi then 32 else 0) 32 value.toNat) &&& r.desc.rw) ∧
  (∀ (s : State) (req : Fin 5) (port : Fin 192) (t : SynTarget) (high : Bool) (value : Word), (t.valid = true) →
    (s.dev.isStandby = false) → (s.dev.inTransit .port port.val = false) → (s.dev.bit .synStatus port.val 14 = false)
    → (s.dev.writesAtOnce port.val = false) → (Tab.find (s.dev.syn' port.val).staged t = none) → ((s.dev.syn'
    port.val).staged.length < 4096) →
    Completes (.nztWrite req port t high value) s fun e =>
    (e.syn' port.val).staged = (s.dev.syn' port.val).staged ++ [(t, mergeWord t high (s.dev.liveValue port.val t) value.toNat)] ∧
    (e.syn' port.val).table = (s.dev.syn' port.val).table ∧
    e.fld .synStatus port.val 0 13 = ((s.dev.syn' port.val).staged.length + 1) % 8192) ∧
  (∀ (s : State) (req : Fin 5) (port : Fin 192), (s.dev.isStandby = false) → (s.dev.inTransit .port port.val = false)
    → (s.dev.bit .synStatus port.val 14 = false) → (s.dev.fireIndex + 16 ≤ s.dev.get .updFire port.val) →
    Completes (.commit req port) s fun e => e.bit .synStatus port.val 14 = true ∧ e.syn = s.dev.syn) ∧
  (∀ (s : State) (req : Fin 5) (port : Fin 192), (s.dev.isStandby = false) → (s.dev.inTransit .port port.val = false)
    → (s.dev.bit .synStatus port.val 14 = false) → (s.dev.get .updFire port.val < s.dev.fireIndex + 16) →
    Yields (.commit req port) s (s.dev.refuse req.val .nztFirePast)) ∧
  (∀ (s : State) (req : Fin 5) (port : Fin 192), (s.dev.inTransit .port port.val = false) → (s.dev.setStarted port.val
    = false) →
    Completes (.abort req port) s fun e =>
    (e.syn' port.val).staged = [] ∧ e.bit .synStatus port.val 14 = false ∧ (e.syn' port.val).table = (s.dev.syn' port.val).table) ∧
  (∀ (s : State) (req : Fin 5) (port : Fin 192) (ready : Bool), (s.dev.inTransit .port port.val = false) →
    Yields (.tableReadyWrite req port ready) s (s.dev.setBit .synCtrl port.val 0 ready))

/-- A failed or retired engine goes out with its CAUSE, a served port gets the lowest spare by a cue sequence, and
  sequences run, end and abort. Rests on R170, R171, R173, R435, R436, R437. -/
def Obligations.EnginesFailRetireAndCueSequencesRun : Prop :=
  (∀ (s : State) (en : Fin 200) (cause : Fin 3) (corrected : Nat), (s.dev.bit .embStatus en.val 31 = false) →
    Completes (.engineFault en cause corrected) s fun e =>
    e.get .embTableCe en.val = min (s.dev.get .embTableCe en.val + corrected) (2 ^ 32 - 1) ∧
    e.bit .embStatus en.val 31 = true ∧ e.fld .embStatus en.val 8 4 = cause.val + 1) ∧
  (∀ (s : State) (en : Fin 200) (cause : Fin 3) (corrected spare : Nat) (rest : List Nat), (s.dev.bit .embStatus
    en.val 31 = false) → (s.dev.bit .embStatus en.val 30 = false) → (s.dev.bit .embStatus en.val 29 = true) →
    (s.dev.spares = spare :: rest) →
    Completes (.engineFault en cause corrected) s (fun e =>
      e.bit .embStatus spare 30 = false ∧
      e.mgt.waiting = s.dev.mgt.waiting ++
        [(.subst en.val spare (s.dev.fld .embStatus en.val 0 8), (s.dev.mgt.lastGeneration + 1) % 65536)]) ∧
    (s.dev.inTransit .engine en.val = false → ∀ (req : Fin 5), Completes (.retire req en) s (fun e =>
      e.bit .embStatus en.val 31 = true ∧ e.fld .embStatus en.val 8 4 = 4 ∧
      e.mgt.waiting = s.dev.mgt.waiting ++
        [(.subst en.val spare (s.dev.fld .embStatus en.val 0 8), (s.dev.mgt.lastGeneration + 1) % 65536)]))) ∧
  (∀ (s : State) (req : Fin 5) (en : Fin 200), (s.dev.inTransit .engine en.val = false) → (s.dev.bit .embStatus en.val
    31 = false) → (s.dev.spares = []) →
    Yields (.retire req en) s (s.dev.refuse req.val .embNoSpare)) ∧
  (∀ (s : State) (k : CueKind) (g p : Nat), (s.dev.cueNext = some (k, g)) → (s.dev.cuePlace = some p) →
    Completes .cueStart s fun e =>
    Tab.find e.mgt.running p = some { kind := k, generation := g, abort := false } ∧
    e.mgt.waiting = s.dev.mgt.waiting.filter fun w => w.2 != g) ∧
  (∀ (s : State), (s.dev.cueNext = none) →
    Yields .cueStart s s.dev) ∧
  (∀ (s : State) (place : Fin 8) (r : CueRun), (Tab.find s.dev.mgt.running place.val = some r) →
    Completes (.cueDone place) s fun e =>
    Tab.find e.mgt.running place.val = none ∧ e.get .cueLastDone 0 = r.generation % 2 ^ 64 ∧ e.bit .cueEvent 0 0 = true) ∧
  (∀ (s : State) (req : Fin 5) (gen : BitVec 16) (ahead : Bool) (w : CueKind × Nat), (s.dev.mgt.waiting.find? (fun w
    => w.2 == gen.toNat && w.1.abortable) = some w) →
    Completes (.cueAbort req gen ahead) s fun e => e.mgt.waiting = s.dev.mgt.waiting.filter fun x => x.2 != gen.toNat) ∧
  (∀ (s : State) (req : Fin 5) (gen : BitVec 16) (ahead : Bool), (s.dev.mgt.waiting.find? (fun w => w.2 == gen.toNat
    && w.1.abortable) = none) → (s.dev.mgt.running.find? (fun r => r.2.generation == gen.toNat) = none) →
    Yields (.cueAbort req gen ahead) s (s.dev.refuse req.val .cueNoAbort)) ∧
  (∀ (s : State) (cls : Byte) (index : BitVec 12),
    Completes (.cueQuery cls index) s fun e =>
    e.get .cueQueryResult 0 =
      (match (queryObject cls.toNat index.toNat).bind s.dev.transitOf with | some g => (2 ^ 31 + g) % 2 ^ 64 | none => 0))

/-- A slate goes out with the lines of its fire, a batch takes a credit and stays outstanding, and a skipped fire is
  counted. Rests on R180, R181, R188, R189, R190, R192. -/
def Obligations.SlatesBatchesAndCredits : Prop :=
  (∀ (s : State) (port : Fin 192) (fire : BitVec 48) (x : SlateSlot), ((s.dev.port port.val).slates.find? (fun x =>
    x.fire == fire.toNat) = some x) →
    Completes (.slateSend port fire) s fun e =>
    messages e.outs = messages s.dev.outs ++ [.slate port.val (slateWord (s.dev.actAt fire.toNat)
      (s.dev.slateBlank port.val fire.toNat) fire.toNat x.fine false) x.depart] ∧
    fire.toNat ∉ (e.port port.val).sent ∧
    (e.port port.val).slates = (s.dev.port port.val).slates.filter fun y => y.fire != fire.toNat) ∧
  (∀ (s : State) (port : Fin 192) (b : BatchDone) (rest : List BatchDone), ((s.dev.syn' port.val).done = b :: rest) →
    (4 ≤ s.dev.linkState port.val) → (s.dev.get .joinFire port.val ≤ b.fire) → (s.dev.credits port.val ≠ 0) →
    (s.dev.batchInTime port.val b.fire = true) →
    Completes (.batchSend port) s fun e =>
    (e.syn' port.val).done = rest ∧ e.credits port.val = s.dev.credits port.val - 1 ∧
    (e.port port.val).outstanding = (s.dev.port port.val).outstanding ++ [b.fire] ∧
    (e.port port.val).seq = ((s.dev.port port.val).seq + 1) % 256 ∧
    messages e.outs = messages s.dev.outs ++ [.batch port.val b.fire (s.dev.port port.val).seq (s.dev.batchHeader port.val b) (s.dev.batchBody port.val b)]) ∧
  (∀ (s : State) (port : Fin 192) (fire : BitVec 48), (4 ≤ s.dev.linkState port.val) → (s.dev.get .joinFire port.val ≤
    fire.toNat) → (((s.dev.port port.val).sent.contains fire.toNat || (s.dev.port port.val).outstanding.contains
    fire.toNat) = false) → (s.dev.batchInTime port.val fire.toNat = false) → ((s.dev.port port.val).skips.contains
    fire.toNat = false) →
    Completes (.batchSkip port fire) s fun e =>
    e.get .hptSkipped port.val = min (s.dev.get .hptSkipped port.val + 1) (2 ^ 32 - 1) ∧
    e.get .hptNoCredit port.val = (if ((s.dev.syn' port.val).done.any fun b => b.fire == fire.toNat) && s.dev.credits port.val == 0
      then min (s.dev.get .hptNoCredit port.val + 1) (2 ^ 32 - 1) else s.dev.get .hptNoCredit port.val) ∧
    ((e.syn' port.val).done.any fun b => b.fire == fire.toNat) = false) ∧
  (∀ (s : State) (port : Fin 192) (lastSeq count : BitVec 8),
    Completes (.credit port lastSeq count) s fun e => e.credits port.val ≤ s.dev.credits port.val)

/-- CAP, ACK, EVENT, echoes and lost messages of a head act on its port as the link chapter says, and a silent head is
  relinked. Rests on R175, R176, R177, R185, R186, R187, R196, R203, R204, R207, R390. -/
def Obligations.HeadMessagesAreTaken : Prop :=
  (∀ (s : State) (port : Fin 192) (headId : BitVec 64) (w3 w4 w5 : Word), (s.dev.linkState port.val = 2) →
    Completes (.cap port headId w3 w4 w5) s fun e =>
    e.rd .headId port.val = headId ∧ e.get .headCap port.val = w3.toNat ∧ e.get .headTiming port.val = w4.toNat ∧
    (e.port port.val).channels = w5.toNat % 256) ∧
  (∀ (s : State) (port : Fin 192) (headId : BitVec 64) (w3 w4 w5 : Word), (s.dev.linkState port.val ≠ 2) →
    Yields (.cap port headId w3 w4 w5) s s.dev) ∧
  (∀ (s : State) (port : Fin 192) (seq : BitVec 8) (u : Unacked), ((s.dev.port port.val).unacked.find? (fun u => u.seq
    == seq.toNat) = some u) → ((s.dev.port port.val).stage ≠ 4) → ((s.dev.port port.val).stage ≠ 6) →
    Completes (.headAck port false seq) s (fun e =>
      (e.port port.val).unacked = (s.dev.port port.val).unacked.filter fun v => v.seq != u.seq) ∧
    Completes (.headAck port true seq) s (fun e => e.linkState port.val = 1) ∧
    (3 ≤ u.resends → Completes (.ackTimeout port seq) s (fun e => e.linkState port.val = 1)) ∧
    (u.resends < 3 → Completes (.ackTimeout port seq) s (fun e =>
      messages e.outs = messages s.dev.outs ++ [.head port.val u.type u.seq u.body]))) ∧
  (∀ (s : State) (port : Fin 192), (2 ≤ s.dev.linkState port.val) →
    Completes (.upstreamSilent port) s fun e =>
    e.linkState port.val = 1 ∧ e.get .hptRelinks port.val = min (s.dev.get .hptRelinks port.val + 1) (2 ^ 32 - 1)) ∧
  (∀ (s : State) (port : Fin 192) (counts : Vector (BitVec 16) 6),
    Completes (.headEvent port counts) s fun e =>
    (∀ i, i < 6 → e.get (eventRegs.getD i .hUnderrun) port.val =
      min (s.dev.get (eventRegs.getD i .hUnderrun) port.val +
        ((counts.toList.map BitVec.toNat).getD i 0 + 65536 - (s.dev.port port.val).events.getD i 0) % 65536) (2 ^ 32 - 1)) ∧
    (e.port port.val).events = counts.toList.map BitVec.toNat) ∧
  (∀ (s : State) (port : Fin 192) (word : Word) (roundTrip : Nat) (use : EchoUse) (got : List (Nat × Nat)),
    ((s.dev.port port.val).echo = some (use, got)) →
    (slateCrc word.toNat = word.toNat % 256 → roundTrip ≤ 5000000 → (got.any fun x => x.1 == bits word.toNat 26 6) = false →
      Completes (.echoWord port word roundTrip) s fun e => (e.port port.val).echo =
        some (use, got ++ [(bits word.toNat 26 6, roundTrip - 50 * bits word.toNat 10 16)])) ∧
    (slateCrc word.toNat ≠ word.toNat % 256 ∨ 5000000 < roundTrip ∨ (got.any fun x => x.1 == bits word.toNat 26 6) = true →
      Yields (.echoWord port word roundTrip) s s.dev)) ∧
  (∀ (s : State) (words : List Word) (lane : Fin 1024) (header : Byte) (n : Nat), (laneGroup lane.val = .head n) →
    (headerDiscarded header.toNat = true) →
    Completes (.msgCrcFail words [(lane, header)]) s fun e =>
    e.get .hptBlockErr n = min (s.dev.get .hptBlockErr n + 1) (2 ^ 32 - 1) ∧
    e.get .lneBlockErr lane.val = (if headerValid header.toNat then s.dev.get .lneBlockErr lane.val
      else min (s.dev.get .lneBlockErr lane.val + 1) (2 ^ 32 - 1))) ∧
  (∀ (s : State) (words : List Word), (messageFails (words.map BitVec.toNat) = false) →
    Yields (.msgCrcFail words []) s s.dev) ∧
  (∀ (type seq : Nat) (body rest : List Nat), (0 < type) → (type < 256) → (seq < 256) → (body.length < 65536) →
    readMessage (messageWords type seq body ++ rest) = (.message type seq body, rest)) ∧
  (∀ (state : Nat) (ws : List Nat),
    (scramble state (scramble state ws).1).1 = ws) ∧
  (∀ (align : Bool) (slot : Option (Fin 8)) (i : Fin 8),
    headerValid (linkHeader align (slot.map Fin.val)) = true ∧
    headerValid (linkHeader align (slot.map Fin.val) ^^^ 2 ^ i.val) = false) ∧
  (∀ (k w lane : Nat) (q : List (Nat × Bool)) (b : LinkBlock), (alignAt k = true) → (w ∈ [1, 2, 4]) → ((blocksOf k w
    none q).1[lane]? = some b) →
    markerRight b lane w = true) ∧
  (∀ (s : State) (port : Fin 192), (s.dev.linkState port.val = 2) → ((s.dev.port port.val).stage = 3) →
    Yields (.versionRetry port) s (s.dev.linkChoose port.val)) ∧
  (∀ (s : State) (port : Fin 192) (ver : Nat), (s.dev.linkState port.val = 2) → ((s.dev.port port.val).stage = 3) →
    (s.dev.chooseVer port.val (bits (s.dev.get .headCap port.val) 0 3) = some ver) →
    Completes (.versionRetry port) s fun e => e.fld .linkStatus port.val 27 2 = ver ∧ (e.port port.val).stage = 4)

/-- GO joins a ready port at the fire 16 ahead or at the next enable, LEAVE takes it out at its fire, and refused requests
  say why. Rests on R195, R197, R198, R200, R205, R379. -/
def Obligations.PortsJoinAndLeaveFiring : Prop :=
  (∀ (s : State) (req : Fin 5) (port : Fin 192), (s.dev.inTransit .port port.val = false) → (s.dev.goFail port.val =
    none) → (s.dev.fireEn = true) →
    Completes (.go req port) s fun e =>
    e.linkState port.val = 4 ∧ e.get .joinFire port.val = (s.dev.fireIndex + 16) % 2 ^ 64 ∧ e.fld .linkStatus port.val 5 3 = 0 ∧
    (e.port port.val).sync = true) ∧
  (∀ (s : State) (req : Fin 5) (port : Fin 192), (s.dev.inTransit .port port.val = false) → (s.dev.goFail port.val =
    none) → (s.dev.fireEn = false) →
    Completes (.go req port) s fun e => (e.port port.val).joinAtEnable = true ∧ e.linkState port.val = 3) ∧
  (∀ (s : State) (req : Fin 5) (port : Fin 192) (c : Nat), (s.dev.inTransit .port port.val = false) → (s.dev.goFail
    port.val = some c) →
    Completes (.go req port) s fun e =>
    e.fld .linkStatus port.val 5 3 = c % 8 ∧ e.get .glbLastErr req.val = ECode.hlNotReady.code.toNat ∧
    e.linkState port.val = s.dev.linkState port.val) ∧
  (∀ (s : State) (req : Fin 5) (port : Fin 192) (c : Nat), (s.dev.goFail port.val = some c) →
    Completes (.goAll req) s fun e =>
    e.fld .linkStatus port.val 5 3 = c % 8 ∧ e.get .glbLastErr req.val = ECode.hlNotReady.code.toNat) ∧
  (∀ (s : State) (req : Fin 5) (port : Fin 192), (s.dev.goFail port.val = none) →
    Completes (.goAll req) s fun e =>
    e.fld .linkStatus port.val 5 3 = 0 ∧
    (if s.dev.fireEn then e.linkState port.val = 4 ∧ e.get .joinFire port.val = (s.dev.fireIndex + 16) % 2 ^ 64 ∧
        (e.port port.val).sync = true
     else (e.port port.val).joinAtEnable = true ∧ e.linkState port.val = 3)) ∧
  (∀ (s : State) (req : Fin 5) (port : Fin 192), (s.dev.inTransit .port port.val = false) → (4 ≤ s.dev.linkState
    port.val) →
    Completes (.leave req port) s fun e => (e.port port.val).leaveFire = some (s.dev.fireIndex + 16)) ∧
  (∀ (s : State) (req : Fin 5) (port : Fin 192), (s.dev.inTransit .port port.val = false) →
    Completes (.relink req port) s fun e =>
    e.linkState port.val = 1 ∧ e.get .hptRelinks port.val = min (s.dev.get .hptRelinks port.val + 1) (2 ^ 32 - 1)) ∧
  (∀ (s : State) (port : Fin 192) (f : Nat), ((s.dev.port port.val).leaveFire = some f) → (f ≤ s.dev.fireIndex + 1) →
    Completes (.portLeaveEffect port) s fun e =>
    e.linkState port.val = 3 ∧ e.credits port.val = 0 ∧ (e.port port.val).leaveFire = none ∧ (e.port port.val).outstanding = []) ∧
  (∀ (s : State) (time : Nat), ((s.dev.at time).rateStill = false) →
    Completes (.rateRelease time) s fun e => e.bit .hlGlbStatus 0 31 = false ∧ PinUser.link ∉ e.pos.speedReq) ∧
  (∀ (s : State) (port : Fin 192) (entries : List Word), (s.dev.loopRuns = false) →
    Yields (.nsense port entries) s s.dev) ∧
  (∀ (s : State) (port : Fin 192) (w : Word), (s.dev.loopRuns = true) → (s.dev.bit .qlCtrl 0 2 = false) → (bits
    w.toNat 16 2 ≠ 3) →
    Completes (.nsense port [w]) s fun e =>
    (e.cell port.val (bits w.toNat 18 14)).sense =
      (if bits w.toNat 16 2 = 2 then
        if (s.dev.cell port.val (bits w.toNat 18 14)).sense = 3 then 3
        else min 2 ((s.dev.cell port.val (bits w.toNat 18 14)).sense + 1) else 0)) ∧
  (∀ (s : State) (port : Fin 192) (w : Word) (l : Nat), (l < 256) → (s.dev.loopOn l = true) → (s.dev.fbSource l = (1,
    port.val, bits w.toNat 24 8)) → ((s.dev.ctl' l).fseq = none) →
    Completes (.sample port [w]) s fun e =>
    (e.ctl' l).fseq = some (bits w.toNat 16 8) ∧ (e.ctl' l).sample = signedOf 16 (bits w.toNat 0 16) ∧
    e.get .ctlLoopFb l = bits w.toNat 16 8 <<< 16 + bits w.toNat 0 16 ∧ (s.dev.loopSt l = 0 → e.loopSt l = 1)) ∧
  (∀ (s : State) (port : Fin 192), (s.dev.linkState port.val = 4) → (s.dev.get .joinFire port.val ≤ s.dev.fireIndex +
    1) → (s.dev.loopMasks port.val = none) →
    Completes (.portJoinEffect port) s fun e =>
    e.linkState port.val = 5 ∧ e.bit .linkEvent port.val 3 = true ∧ (e.port port.val).faulted = false)

/-- RUN starts and stops a pipeline, CLOSE ends its frame, camera messages bring its port up, and triggers open lines.
  Rests on R212, R213, R214, R217, R226. -/
def Obligations.CameraLinksRunAndTrigger : Prop :=
  (∀ (s : State) (c : Fin 24) (run : Bool), (s.dev.cfg .pipeEn c.val ≠ 0) →
    Completes (.insRunWrite c run) s fun e => e.pipeRuns c.val = run) ∧
  (∀ (s : State) (c : Fin 24) (f : Frame), ((s.dev.pipe c.val).frame = some f) →
    Completes (.insClose c) s fun e =>
    (e.pipe c.val).frame = none ∧ e.get .insFrameNo c.val = (s.dev.get .insFrameNo c.val + 1) % 2 ^ 32 ∧
    (e.pipe c.val).toLoop.length = (s.dev.pipe c.val).toLoop.length + 1 ∧ e.bit .insEvent c.val 0 = true) ∧
  (∀ (s : State) (c : Fin 24), ((s.dev.pipe c.val).frame = none) →
    Yields (.insClose c) s s.dev) ∧
  (∀ (s : State) (c : Fin 24), (s.dev.camState c.val ≠ 0) →
    Completes (.insRelink c) s fun e => e.camState c.val = 1 ∧ (e.pipe c.val).unacked = none ∧ (e.pipe c.val).lines = []) ∧
  (∀ (s : State) (c : Fin 24) (k : Int) (b : PosBase) (depart : Nat), (s.dev.base = some b) → (s.dev.pipeRuns c.val =
    true) → (s.dev.camState c.val = 3) → (s.dev.speedValid = true) → (depart = (s.dev.tx (192 + c.val)).slotAt
    (s.dev.triggerSlot c.val (b.reach (k * s.dev.cfg .trigStep c.val * 65536)))) → ((((s.dev.pipe
    c.val).lastTrigger.map fun t => t + 1000 * s.dev.get .insMinLineNs c.val).getD 0) ≤ depart) →
    Completes (.triggerSend c k) s fun e =>
    messages e.outs = messages s.dev.outs ++ [.trigger c.val (triggerWord (s.dev.pipe c.val).tseq) depart] ∧
    (e.pipe c.val).tseq = ((s.dev.pipe c.val).tseq + 1) % 65536 ∧ (e.pipe c.val).lastTrigger = some depart ∧
    ((e.pipe c.val).lines.map fun l => l.tseq) = ((s.dev.pipe c.val).lines.map fun l => l.tseq) ++ [(s.dev.pipe c.val).tseq]) ∧
  (∀ (s : State) (c : Fin 24) (camId : BitVec 64) (w3 w4 : Word), (s.dev.camState c.val = 2) →
    Completes (.camcap c camId w3 w4) s fun e =>
    e.rd .insCamId c.val = camId ∧ (e.pipe c.val).caps = w3.toNat ∧ (e.pipe c.val).minLine = w4.toNat % 2 ^ 24) ∧
  (∀ (s : State) (c : Fin 24) (seq : BitVec 8) (u : CamUnacked), ((s.dev.pipe c.val).unacked = some u) → (u.seq =
    seq.toNat) → ((s.dev.pipe c.val).stage = 6) →
    Completes (.camAck c false seq) s (fun e => e.camState c.val = 3 ∧ (e.pipe c.val).unacked = none) ∧
    Completes (.camAck c true seq) s (fun e => e.camState c.val = 1)) ∧
  (∀ (s : State) (c : Fin 24) (u : CamUnacked), ((s.dev.pipe c.val).unacked = some u) →
    Completes (.camAckTimeout c) s fun e =>
    if 3 ≤ u.resends then e.camState c.val = 1 ∧ e.bit .insEvent c.val 5 = true
    else messages e.outs = messages s.dev.outs ++ [.camera c.val 0x41 u.seq u.body] ∧ (e.pipe c.val).unacked = some { u with resends := u.resends + 1 }) ∧
  (∀ (s : State) (c : Fin 24), (s.dev.pipeRuns c.val = true) → (s.dev.camState c.val = 3) →
    Completes (.cameraSilent c) s fun e => e.camState c.val = 1 ∧ e.bit .insEvent c.val 5 = true) ∧
  (∀ (s : State) (c : Fin 24), (s.dev.camState c.val = 2) → ((s.dev.pipe c.val).stage = 3) → (bits (s.dev.pipe
    c.val).caps 28 2 &&& s.dev.cfg .camVer c.val ≠ 0) →
    Completes (.cameraVersionRetry c) s fun e =>
    (e.pipe c.val).stage = 4 ∧ (e.pipe c.val).unacked.isSome = true ∧
    e.camVer c.val = (if bitOf (bits (s.dev.pipe c.val).caps 28 2 &&& s.dev.cfg .camVer c.val) 1 then 2 else 1))

/-- Packets join their line, META, ECHO and EVENT are kept, timed-out lines close, and records go to the loop and to the
  owner's ring. Rests on R215, R216, R218, R219, R221, R231, R232, R235, R430. -/
def Obligations.CameraLinesAndRecords : Prop :=
  (∀ (s : State) (c : Fin 24) (fmt : Fin 3) (w1 w2 : Word) (body : List Word) (bad : List Nat), (s.dev.linesBefore
    c.val (bits w1.toNat 0 16) = []) → (s.dev.camState c.val = 3) → (((s.dev.pipe c.val).lines.any fun l => l.tseq ==
    bits w1.toNat 0 16) = true) → (s.dev.camVer c.val = 2 ∨ fmt.val ≠ 2) → (1 ≤ bits w2.toNat 16 16) → (bits w2.toNat
    16 16 ≤ 16384) → ((s.dev.camVcs c.val).contains (bits w1.toNat 30 2) = true) → (bits w1.toNat 28 2 <
    s.dev.camChannels c.val) → (bits w2.toNat 0 16 + bits w2.toNat 16 16 ≤ (s.dev.tileOf c.val (bits w1.toNat 30
    2)).2) →
    Completes (.rawPacket c fmt w1 w2 body bad) s fun e =>
    ((e.pipe c.val).lines.map fun l => l.tseq) = ((s.dev.pipe c.val).lines.map fun l => l.tseq) ∧
    ((e.pipe c.val).lines.all fun l => l.tseq != bits w1.toNat 0 16 ||
      ((l.packets.filter fun x => x.vc == bits w1.toNat 30 2 && x.chan == bits w1.toNat 28 2).map fun x => (x.first, x.pixels.length)) ==
        [((s.dev.tileOf c.val (bits w1.toNat 30 2)).1 + bits w2.toNat 0 16, bits w2.toNat 16 16)]) = true) ∧
  (∀ (s : State) (c : Fin 24) (fmt : Fin 3) (w1 w2 : Word) (body : List Word) (bad : List Nat), (s.dev.linesBefore
    c.val (bits w1.toNat 0 16) = []) → (s.dev.camState c.val = 3) → (((s.dev.pipe c.val).lines.any fun l => l.tseq ==
    bits w1.toNat 0 16) = false) →
    Completes (.rawPacket c fmt w1 w2 body bad) s fun e =>
    e.get .insLineIncomplete c.val = min (s.dev.get .insLineIncomplete c.val + 1) (2 ^ 32 - 1) ∧ e.bit .insEvent c.val 1 = true) ∧
  (∀ (s : State) (c : Fin 24) (w1 : Word) (body : List Word), (s.dev.camState c.val = 3) → (s.dev.camVer c.val = 2) →
    Completes (.camMeta c w1 body) s fun e =>
    Tab.find (e.pipe c.val).metas (bits w1.toNat 30 2) = some ((body.take 64).map BitVec.toNat) ∧
    ∀ i, i < 16 → e.get .insMeta (64 * c.val + 16 * bits w1.toNat 30 2 + i) = ((body.take 64).map BitVec.toNat).getD i 0) ∧
  (∀ (s : State) (c : Fin 24) (tseq : BitVec 16) (expMid : BitVec 24), (s.dev.camVer c.val = 2) →
    Completes (.echo c tseq expMid) s fun e =>
    ((e.pipe c.val).lines.all fun l => l.tseq != tseq.toNat || l.expMid == some expMid.toNat) = true) ∧
  (∀ (s : State) (c : Fin 24) (dropped overflows : BitVec 16),
    Completes (.camEvent c dropped overflows) s fun e => (e.pipe c.val).camEvents = (dropped.toNat, overflows.toNat)) ∧
  (∀ (s : State) (c : Fin 24) (tseq : BitVec 16) (l : CamLine), ((s.dev.pipe c.val).lines.find? (fun l => l.tseq ==
    tseq.toNat) = some l) →
    Completes (.lineCloseTimeout c tseq) s fun e => (e.pipe c.val).lines = (s.dev.pipe c.val).lines.filter fun x => x.tseq != tseq.toNat) ∧
  (∀ (s : State) (req : Fin 5) (c : Fin 24) (w : Word),
    Completes (.gtDataAccess req c (some w)) s (fun e =>
      e.get .insGtAddr c.val = (s.dev.get .insGtAddr c.val + 1) % 65536 ∧
      (if s.dev.pipeRuns c.val then e.get .glbLastErr req.val = ECode.insRunning.code.toNat ∧ e.ins = s.dev.ins
       else Tab.find (e.pipe c.val).gate (s.dev.get .insGtAddr c.val) = some (bits w.toNat 0 16, bits w.toNat 16 16))) ∧
    Completes (.gtDataAccess req c none) s (fun e =>
      e.get .insGtAddr c.val = (s.dev.get .insGtAddr c.val + 1) % 65536 ∧ e.ins = s.dev.ins ∧
      e.outs.length = s.dev.outs.length + 1)) ∧
  (∀ (s : State) (c : Fin 24) (r : StatRecord) (rest : List StatRecord), ((s.dev.pipe c.val).toLoop = r :: rest) →
    (s.dev.isStandby = false) →
    Completes (.recordHandoff c) s fun e =>
    (e.pipe c.val).toLoop = rest ∧ (e.pipe c.val).toRing = (s.dev.pipe c.val).toRing ++ [r] ∧
    e.ql.records = s.dev.ql.records ++ [loopRecordOf c.val r none (s.dev.recordEstimates c.val r.bytes)]) ∧
  (∀ (s : State) (c : Fin 24) (r : StatRecord) (rest : List StatRecord), ((s.dev.pipe c.val).toRing = r :: rest) →
    (s.dev.overload = false) → (ringCount (2 ^ s.dev.fld .insStatRingCtrl c.val 0 4) (s.dev.get .insStatRingHead
    c.val) (s.dev.get .insStatRingTail c.val) < 2 ^ s.dev.fld .insStatRingCtrl c.val 0 4) →
    Completes (.statRecordWrite c) s fun e =>
    let a := s.dev.get .insStatRingBase c.val + bits (s.dev.get .insStatRingHead c.val) 0 16 * s.dev.get .insRecSlot c.val
    (e.pipe c.val).toRing = rest ∧ (∀ i, i < r.bytes.length → Mem.read e.dram (a + i) = r.bytes.getD i 0) ∧
    (∀ x, x < a ∨ a + r.bytes.length ≤ x → Mem.read e.dram x = Mem.read s.dev.dram x) ∧
    e.get .insStatRingHead c.val =
      ringAdvance (2 ^ s.dev.fld .insStatRingCtrl c.val 0 4) (s.dev.get .insStatRingHead c.val) 1 % 2 ^ 64) ∧
  (∀ (s : State) (c : Fin 24) (r : StatRecord) (rest : List StatRecord), ((s.dev.pipe c.val).toRing = r :: rest) →
    (s.dev.overload = false) → (2 ^ s.dev.fld .insStatRingCtrl c.val 0 4 ≤ ringCount (2 ^ s.dev.fld .insStatRingCtrl
    c.val 0 4) (s.dev.get .insStatRingHead c.val) (s.dev.get .insStatRingTail c.val)) →
    Completes (.statRecordWrite c) s fun e =>
    (e.pipe c.val).toRing = rest ∧ e.get .insRecDrop c.val = min (s.dev.get .insRecDrop c.val + 1) (2 ^ 32 - 1) ∧
    e.dram = s.dev.dram ∧ e.get .insStatRingHead c.val = s.dev.get .insStatRingHead c.val) ∧
  (∀ (s : State) (c : Fin 24) (j : UploadJob) (rest : List UploadJob), ((s.dev.pipe c.val).uploads = j :: rest) →
    if rest.any (fun y => y.sub == j.sub) then Completes (.uploadCompress c) s (fun e =>
      (e.pipe c.val).uploads = rest ∧ e.get .insUploadSkip c.val = min (s.dev.get .insUploadSkip c.val + 1) (2 ^ 32 - 1))
    else if s.dev.unitIdle c.val = false ∨ (s.dev.pipe c.val).sending.isSome = true ∨ s.dev.uploadHeld c.val j = true then
      Yields (.uploadCompress c) s s.dev
    else s.dev.overload = false → Completes (.uploadCompress c) s (fun e =>
      (e.pipe c.val).uploads = rest ∧ ((e.pipe c.val).sending.map fun x => x.job) = some j))

/-- UPLOAD_SUB takes the lowest free subscription of its pipeline and completes with its number; UPLOAD_UNSUB ends one of
  its own. Rests on R235, R275. -/
def Obligations.UploadSubscriptionsBeginAndEnd : Prop :=
  (∀ (s : State) (slot : Fin 4096) (w : List Word) (k : Nat), (s.dev.slotState slot.val = 1) → (s.dev.canEnter
    slot.val w = true) → (entOpcode w = 0x30) → (entryFault slot.val w = none) → (bits (entWord w 1) 0 5 < 24) → (1 ≤
    bits (entWord w 2) 0 13) → (bits (entWord w 2) 0 13 ≤ 4096) → ((List.range 16).find? (fun k => (Tab.find
    (s.dev.pipe (bits (entWord w 1) 0 5)).subs k).isNone) = some k) →
    Completes (.uploadSub slot w) s fun e =>
    Tab.find (e.pipe (bits (entWord w 1) 0 5)).subs k = some (subscriptionOf (s.dev.get .tenHandle slot.val) w)) ∧
  (∀ (s : State) (slot : Fin 4096) (w : List Word) (x : Subscription), (s.dev.slotState slot.val = 1) →
    (s.dev.canEnter slot.val w = true) → (entOpcode w = 0x31) → (entryFault slot.val w = none) → (Tab.find (s.dev.pipe
    (bits (entWord w 1) 0 5)).subs (bits (entWord w 1) 8 4) = some x) →
    Completes (.uploadUnsub slot w) s fun e =>
    Tab.find (e.pipe (bits (entWord w 1) 0 5)).subs (bits (entWord w 1) 8 4) =
      (if x.handle = s.dev.get .tenHandle slot.val then none else some x))

/-- The loop takes records into its sums and runs, presents its decisions, and QL_CLEAR empties sums and hold-offs. Rests
  on R242, R243, R244, R245, R246, R247, R254, R257. -/
def Obligations.LoopTakesRecordsAndDecides : Prop :=
  (∀ (s : State) (r : LoopRecord) (rest : List LoopRecord) (n m : Nat) (v : Int), (s.dev.ql.records = r :: rest) →
    (s.dev.loopRuns = true) → ((Tab.find s.dev.ql.lastFrame (r.bar, r.pipe)).map (fun l => newer32 r.frame l) ≠ some
    false) → (r.entries = [(n, m, v)]) → (s.dev.portFiring n = true) → (s.dev.heldOff (s.dev.cell n m) r = false) →
    ((s.dev.cell n m).out < 2) → ((s.dev.cell n m).count + 1 < s.dev.cfg .qlAvgN 0) → (s.dev.ql.cell.all (fun t =>
    t.2.mean.isNone) = true) →
    Completes .qlRecordProcess s fun e =>
    e.ql.records = rest ∧ Tab.get e.ql.lastFrame (r.bar, r.pipe) 0 = r.frame ∧
    e.cell n m = { s.dev.cell n m with
      sum := (s.dev.cell n m).sum + v, count := (s.dev.cell n m).count + 1,
      out := if v ≤ s.dev.cfgInt .outThr r.pipe then (s.dev.cell n m).out + 1 else 0 }) ∧
  (∀ (s : State) (r : LoopRecord) (rest : List LoopRecord), (s.dev.ql.records = r :: rest) → (s.dev.loopRuns = false)
    →
    Yields .qlRecordProcess s { s.dev with ql := { s.dev.ql with records := rest } }) ∧
  (∀ (s : State), (s.dev.ql.records = []) →
    Yields .qlRecordProcess s s.dev) ∧
  (∀ (s : State) (x : Decision), (s.dev.ql.decisions.find? (fun x => !x.presented) = some x) → (s.dev.healthRefusal
    x.fluid x.mask none = none) → (s.dev.loopRuns = true) →
    Completes .qlHealthPresent s fun e => x ∉ e.ql.decisions) ∧
  (∀ (s : State) (x : Decision), (s.dev.ql.decisions.find? (fun x => !x.presented) = some x) → (s.dev.healthRefusal
    x.fluid x.mask none = some .embHealthFull) → (s.dev.loopRuns = true) →
    Completes .qlHealthPresent s fun e =>
    e.ql.decisions = s.dev.ql.decisions.filter (fun y => y != x) ++
      [{ x with presented := true, late := x.late || decide (x.since + 1900000000 ≤ s.dev.now) }]) ∧
  (∀ (s : State) (x : Decision), (s.dev.ql.decisions.find? (fun x => x.presented) = some x) → (s.dev.healthRefusal
    x.fluid x.mask none = none) → (s.dev.loopRuns = true) →
    Completes .qlHealthRetry s fun e => x ∉ e.ql.decisions) ∧
  (∀ (s : State), (s.dev.loopRuns = false) →
    Yields .qlHealthPresent s s.dev ∧ Yields .qlHealthRetry s s.dev) ∧
  (∀ (s : State),
    Completes .qlClear s fun e =>
    ∀ n m, e.cell n m = { LoopCell.empty with saturated := (s.dev.cell n m).saturated })

/-- Cascade links come up after CASCAP, and each cascade message is consumed, sent on with one hop fewer, or dropped and
  counted. Rests on R258, R259, R260, R261. -/
def Obligations.CascadeMessagesAreConsumedForwardedOrDropped : Prop :=
  (∀ (s : State) (link : Fin 8) (body : Word), (s.dev.casEnabled link.val = true) → (8 + link.val ∉ s.dev.lne.capped)
    → (bits body.toNat 8 8 = link.val % 4) →
    Completes (.cascap link body) s fun e =>
    8 + link.val ∈ e.lne.capped ∧
    Out.cascade link.val 0x51 [(link.val % 4) <<< 8 + s.dev.cfg .barId 0] ∈ e.outs) ∧
  (∀ (s : State) (link : Fin 8), (s.dev.casEnabled link.val = true) → (s.dev.bit .qlStatus 0 (16 + link.val) = false)
    →
    Completes (.cascadeRetry link) s fun e =>
    (ECode.qlCasDown, link.val) ∈ e.raised ∧ e.bit .qlEvent 0 4 = true ∧ 8 + link.val ∉ e.lne.capped) ∧
  (∀ (s : State) (link : Fin 8) (w1 serial : Word) (fluids : List (Fin 16 × RemoteFluid)), (bits w1.toNat 16 8 =
    s.dev.cfg .barId 0) → (s.dev.cfg .barId 0 ≠ 255) →
    Completes (.shape link w1 serial fluids) s fun e =>
    e.get .qlCasRx 0 = min (s.dev.get .qlCasRx 0 + 1) (2 ^ 32 - 1) ∧
    (Tab.get e.ql.bars (bits w1.toNat 24 8) RemoteBar.empty).serial = serial.toNat ∧
    (Tab.get e.ql.bars (bits w1.toNat 24 8) RemoteBar.empty).side = link.val / 4 ∧
    (Tab.get e.ql.bars (bits w1.toNat 24 8) RemoteBar.empty).fluids = fluids.map (fun x => (x.1.val, x.2)) ∧
    e.outs = s.dev.outs) ∧
  (∀ (s : State) (link : Fin 8) (w1 w2 w3 w4 w5 : Word), (bits w1.toNat 16 8 = s.dev.cfg .barId 0) → (s.dev.cfg .barId
    0 ≠ 255) → ((s.dev.pipesOf (some (bits w1.toNat 24 8)) (bits w2.toNat 14 4)).isEmpty = false) →
    ((s.dev.ins.copies.map StoreCopy.size).sum ≤ 1000000 * s.dev.get .insStoreSize 0) →
    Completes (.feed link w1 w2 w3 w4 w5 []) s fun e =>
    e.get .qlCasRx 0 = min (s.dev.get .qlCasRx 0 + 1) (2 ^ 32 - 1) ∧
    ∃ x, e.ins.copies = s.dev.ins.copies ++ [x] ∧ x.bar = some (bits w1.toNat 24 8) ∧ x.fluid = bits w2.toNat 14 4 ∧
      x.band = bits w2.toNat 18 12 ∧ x.lines = bits w2.toNat 0 8 + 1 ∧ x.first = wordLine w3.toNat w4.toNat ∧ x.handle = w5.toNat) ∧
  (∀ (s : State) (link : Fin 8) (w1 : Word) (body : Vector Word 9), (bits w1.toNat 16 8 = s.dev.cfg .barId 0) →
    (s.dev.cfg .barId 0 ≠ 255) →
    Completes (.casHealth link w1 body) s fun e =>
    e.get .qlCasRx 0 = min (s.dev.get .qlCasRx 0 + 1) (2 ^ 32 - 1) ∧
    (Tab.get e.ql.bars (bits w1.toNat 24 8) RemoteBar.empty).health =
      (Tab.get s.dev.ql.bars (bits w1.toNat 24 8) RemoteBar.empty).health ++
      [(bits (body[0].toNat) 0 4,
        { colLo := bits (body[1].toNat) 0 22, colHi := bits (body[2].toNat) 0 22, clr := bits (body[0].toNat) 16 4,
          set := bits (body[0].toNat) 20 4 },
        wordLine (body[3].toNat) (body[4].toNat), wordLine (body[5].toNat) (body[6].toNat),
        wordLine (body[7].toNat) (body[8].toNat))]) ∧
  (∀ (s : State) (link : Fin 8) (w1 w2 w3 w4 w5 : Word), (bits w1.toNat 16 8 = s.dev.cfg .barId 0) → (s.dev.cfg .barId
    0 ≠ 255) →
    Completes (.spoiln link w1 w2 w3 w4 w5) s fun e =>
    e.get .qlCasRx 0 = min (s.dev.get .qlCasRx 0 + 1) (2 ^ 32 - 1) ∧
    (Tab.get e.ql.bars (bits w1.toNat 24 8) RemoteBar.empty).spoils =
      (Tab.get s.dev.ql.bars (bits w1.toNat 24 8) RemoteBar.empty).spoils ++
      [(bits w2.toNat 14 4, bits w2.toNat 30 2, bits w2.toNat 18 12, wordLine w3.toNat w4.toNat, w5.toNat, bits w2.toNat 0 4)]) ∧
  (∀ (s : State) (link : Fin 8) (w1 frame w3 w4 w5 e0 : Word), (bits w1.toNat 16 8 = s.dev.cfg .barId 0) → (s.dev.cfg
    .barId 0 ≠ 255) →
    Completes (.devrec link w1 frame w3 w4 w5 [e0]) s fun e =>
    e = (s.dev.count .qlCasRx 0).loopRecord
      { bar := some (bits w1.toNat 24 8, bits w3.toNat 24 8), pipe := bits w3.toNat 16 8, frame := frame.toNat,
        yFirst := wordLine w4.toNat w5.toNat, pass := s.dev.get .cmpPassCur 0,
        entries := [(bits w3.toNat 24 8, bits e0.toNat 18 14, signedOf 16 (bits e0.toNat 0 16))] } ∧
    (s.dev.loopRuns = false → e = s.dev.count .qlCasRx 0)) ∧
  (∀ (s : State) (link : Fin 8) (w1 w2 w3 w4 w5 : Word), (bits w1.toNat 16 8 ≠ s.dev.cfg .barId 0) → (bits w1.toNat 16
    8 ≠ 255) → (bits w1.toNat 8 8 ≠ 0) → (s.dev.bit .qlStatus 0 (16 + 4 * (1 - link.val / 4)) = true) → (s.dev.bit
    .qlStatus 0 (17 + 4 * (1 - link.val / 4)) = false) → (s.dev.bit .qlStatus 0 (18 + 4 * (1 - link.val / 4)) = false)
    → (s.dev.bit .qlStatus 0 (19 + 4 * (1 - link.val / 4)) = false) →
    Yields (.spoiln link w1 w2 w3 w4 w5) s (s.dev.casEmit (4 * (1 - link.val / 4)) 0x55
      [casHead (bits w1.toNat 24 8) (bits w1.toNat 16 8) (bits w1.toNat 8 8 - 1), w2.toNat, w3.toNat, w4.toNat, w5.toNat])) ∧
  (∀ (s : State) (link : Fin 8) (w1 w2 w3 w4 w5 : Word), (bits w1.toNat 16 8 ≠ s.dev.cfg .barId 0) → (bits w1.toNat 16
    8 ≠ 255) → (bits w1.toNat 8 8 = 0) →
    Completes (.spoiln link w1 w2 w3 w4 w5) s fun e =>
    e.get .qlCasDrop 0 = min (s.dev.get .qlCasDrop 0 + 1) (2 ^ 32 - 1) ∧
    e.outs.filter Out.isCascade = s.dev.outs.filter Out.isCascade ∧ e.ql.bars = s.dev.ql.bars)

/-- Doorbells move ring indices, a grant takes an entry, NOP and ACCT_READ complete, and a malformed entry completes with
  its code. Rests on R266, R272, R273, R274, R275, R283, R286, R288. -/
def Obligations.RingsAreServed : Prop :=
  (∀ (s : State) (slot : Fin 4096) (fn : Option (Fin 64)) (value : Word) (entries : List (List Word)), (s.dev.boundTo
    slot.val fn = true) → (s.dev.inTransit .slot slot.val = false) → (bits value.toNat 0 16 < s.dev.sqDepth slot.val)
    → (ringCount (s.dev.sqDepth slot.val) value.toNat (s.dev.get .tenSqHead slot.val) ≤ s.dev.sqDepth slot.val) →
    Yields (.sqTailDoorbell slot fn value entries) s ((s.dev.ringWrite slot.val entries).put .tenSqTail slot.val (bits value.toNat 0 17))) ∧
  (∀ (s : State) (slot : Fin 4096) (fn : Option (Fin 64)) (value : Word) (w : List Word), (s.dev.boundTo slot.val fn =
    true) → (s.dev.inTransit .slot slot.val = false) →
    Completes (.sqTailDoorbell slot fn value [w]) s fun e =>
    Tab.get (e.ctx slot.val).sqWords (bits (s.dev.get .tenSqTail slot.val) 0 16 % s.dev.sqDepth slot.val) [] = w.map BitVec.toNat) ∧
  (∀ (s : State) (slot : Fin 4096) (fn : Option (Fin 64)) (value : Word) (entries : List (List Word)), (s.dev.boundTo
    slot.val fn = true) → (s.dev.inTransit .slot slot.val = false) → (s.dev.sqDepth slot.val ≤ bits value.toNat 0 16 ∨
    s.dev.sqDepth slot.val < ringCount (s.dev.sqDepth slot.val) value.toNat (s.dev.get .tenSqHead slot.val)) →
    Completes (.sqTailDoorbell slot fn value entries) s fun e =>
    e.get .tenSqTail slot.val = s.dev.get .tenSqTail slot.val ∧ (ECode.ringDoorbell, slot.val) ∈ e.raised ∧
    e.get .tenDbErr slot.val = min (s.dev.get .tenDbErr slot.val + 1) (2 ^ 32 - 1)) ∧
  (∀ (s : State) (slot : Fin 4096) (fn : Option (Fin 64)) (value : Word) (entries : List (List Word)), (s.dev.boundTo
    slot.val fn = false) →
    Yields (.sqTailDoorbell slot fn value entries) s (s.dev.accessErr slot.val) ∧
    Yields (.cqHeadDoorbell slot fn value) s (s.dev.accessErr slot.val)) ∧
  (∀ (s : State) (slot : Fin 4096) (fn : Option (Fin 64)) (value : Word), (s.dev.boundTo slot.val fn = true) →
    (s.dev.inTransit .slot slot.val = false) → (bits value.toNat 0 16 < s.dev.cqDepth slot.val) → (ringCount
    (s.dev.cqDepth slot.val) (s.dev.get .tenCqTail slot.val) value.toNat ≤ ringCount (s.dev.cqDepth slot.val)
    (s.dev.get .tenCqTail slot.val) (s.dev.get .tenCqHead slot.val)) →
    Completes (.cqHeadDoorbell slot fn value) s fun e =>
    e.get .tenCqHead slot.val = bits value.toNat 0 17 ∧
    ((s.dev.ctx slot.val).taken = [] → e = s.dev.put .tenCqHead slot.val (bits value.toNat 0 17))) ∧
  (∀ (s : State) (w : List Word), (s.dev.ringReady 0 = true) → (s.dev.grantWords 0 = [w]) → (s.dev.dmaHeld 0 w =
    false) → (entryFault 0 w = none) →
    Yields (.ringGrant 0) s ((s.dev.takeEntry 0 w).sqTake 0 1)) ∧
  (∀ (s : State) (w : List Word) (er : ECode), (s.dev.ringReady 0 = true) → (s.dev.grantWords 0 = [w]) →
    (s.dev.dmaHeld 0 w = false) → (entryFault 0 w = some er) →
    Yields (.ringGrant 0) s (((s.dev.takeEntry 0 w).sqTake 0 1).entryErr 0 w er)) ∧
  (∀ (s : State) (slot : Fin 4096), (s.dev.ringReady slot.val = false) →
    Yields (.ringGrant slot) s s.dev) ∧
  (∀ (s : State) (slot : Fin 4096), (slot.val ≠ 0) → (s.dev.ringReady 0 = true) →
    Yields (.ringGrant slot) s s.dev) ∧
  (∀ (s : State) (slot : Fin 4096) (w : List Word), (s.dev.slotState slot.val = 1) → (s.dev.canEnter slot.val w =
    true) → (entOpcode w = 0x01) → (entryFault slot.val w = none) → ((s.dev.ctx slot.val).taken = []) →
    (s.dev.mirroring = false) → (s.dev.cqReady slot.val = true) → (ringCount (s.dev.cqDepth slot.val) (s.dev.get
    .tenCqTail slot.val) (s.dev.get .tenCqHead slot.val) < s.dev.cqDepth slot.val) →
    Completes (.nop slot w) s fun e =>
    e.get .tenCqTail slot.val = ringAdvance (s.dev.cqDepth slot.val) (s.dev.get .tenCqTail slot.val) 1 ∧
    (e.ctx slot.val).taken = []) ∧
  (∀ (s : State) (slot : Fin 4096) (w : List Word), (s.dev.slotState slot.val = 1) → (s.dev.canEnter slot.val w =
    true) → (entOpcode w = 0x40) → (entryFault slot.val w = none) →
    Yields (.acctRead slot w) s ((s.dev.ensureTaken slot.val w).entryOk slot.val w
      (wordsOf (Tab.get (s.dev.ctx slot.val).drops (bits (entWord w 1) 0 4) 0) 3 ++
       wordsOf (Tab.get (s.dev.ctx slot.val).energy (bits (entWord w 1) 0 4) 0 / 1000 % 2 ^ 64) 2))) ∧
  (∀ (s : State) (slot : Fin 4096) (w : List Word) (er : ECode), (s.dev.slotState slot.val = 1) → (s.dev.canEnter
    slot.val w = true) → (entryFault slot.val w = some er) →
    (entOpcode w = 0x01 → Yields (.nop slot w) s ((s.dev.ensureTaken slot.val w).entryErr slot.val w er)) ∧
    (entOpcode w = 0x40 → Yields (.acctRead slot w) s ((s.dev.ensureTaken slot.val w).entryErr slot.val w er)) ∧
    (entOpcode w = 0x80 → Yields (.ctxOpen slot w) s ((s.dev.ensureTaken slot.val w).entryErr slot.val w er)) ∧
    (entOpcode w = 0x81 → Yields (.ctxClose slot w) s ((s.dev.ensureTaken slot.val w).entryErr slot.val w er))) ∧
  (∀ (s : State) (slot : Fin 4096),
    Completes (.hostCqWriteFail slot) s fun e =>
    (e.ctx slot.val).stopped = true ∧ (ECode.tenAccess, slot.val) ∈ e.raised ∧
    e.get .tenCqErr slot.val = min (s.dev.get .tenCqErr slot.val + 1) (2 ^ 32 - 1))

/-- Contexts open under a new handle, close, park, activate and change quota, and their units return zeroed to the pool.
  Rests on R264, R265, R268, R269, R270, R278, R284, R323. -/
def Obligations.ContextsOpenCloseParkAndFree : Prop :=
  (∀ (s : State) (w : List Word) (k : Nat), (s.dev.slotState 0 = 1) → (s.dev.canEnter 0 w = true) → (entOpcode w =
    0x80) → (entryFault 0 w = none) → (s.dev.isStandby = false) → (s.dev.admits = true) → (s.dev.openBad w = false) →
    (s.dev.pickSlot (bitOf (entWord w 1) 12) (bits (entWord w 1) 0 12) = .inl k) → (bits (entWord w 1) 24 2 = 1 →
    s.dev.vfBound (bits (entWord w 1) 26 6) = false) → (ringUnits (bits (entWord w 4) 0 5) (bits (entWord w 4) 8 5)
    (bitOf (entWord w 1) 17 && bits (entWord w 1) 24 2 == 1) ≤ 16 * orDefault (entWord w 2) (s.dev.cfg .defDramMb 0))
    → (ringUnits (bits (entWord w 4) 0 5) (bits (entWord w 4) 8 5) (bitOf (entWord w 1) 17 && bits (entWord w 1) 24 2
    == 1) ≤ s.dev.get .tenPoolFree 0) →
    Completes (.ctxOpen 0 w) s fun e =>
    match s.dev.unwrapKey (((w.drop 6).take 10).flatMap fun x => leBytes x.toNat 4) with
    | none => e = (s.dev.ensureTaken 0 w).entryErr 0 w .ctxKey
    | some key =>
      e.slotState k = 1 ∧ (e.ctx k).generation = (s.dev.ctx k).generation + 1 ∧ (e.ctx k).key = some key ∧
      e.get .tenHandle k = (((s.dev.ctx k).generation + 1) <<< 12 + k) % 2 ^ 64 ∧
      e.get .tenDramQuota k = 16 * orDefault (entWord w 2) (s.dev.cfg .defDramMb 0) % 2 ^ 32 ∧
      e.get .tenPoolFree 0 = s.dev.get .tenPoolFree 0 -
        ringUnits (bits (entWord w 4) 0 5) (bits (entWord w 4) 8 5) (bitOf (entWord w 1) 17 && bits (entWord w 1) 24 2 == 1)) ∧
  (∀ (s : State) (w : List Word), (s.dev.slotState 0 = 1) → (s.dev.canEnter 0 w = true) → (entOpcode w = 0x80) →
    (entryFault 0 w = none) → (s.dev.isStandby = false) → (s.dev.openBad w = false) → (s.dev.admits = false) →
    Yields (.ctxOpen 0 w) s ((s.dev.ensureTaken 0 w).ctxRefused 0 w .ctxFull)) ∧
  (∀ (s : State) (w : List Word) (k : Nat), (s.dev.slotState 0 = 1) → (s.dev.canEnter 0 w = true) → (entOpcode w =
    0x81) → (entryFault 0 w = none) → (s.dev.isStandby = false) → (s.dev.handleSlot (entWord w 1) = some k) → (k ≠ 0)
    → (s.dev.slotHeld k = false) →
    Completes (.ctxClose 0 w) s fun e => (e.slotState k = 2 ∨ e.slotState k = 3) ∧ e.get .tenHandle k = 0) ∧
  (∀ (s : State) (w : List Word) (k n : Nat), (s.dev.slotState 0 = 1) → (s.dev.canEnter 0 w = true) → (entOpcode w =
    0x82) → (entryFault 0 w = none) → (s.dev.isStandby = false) → (s.dev.handleSlot (entWord w 1) = some k) → (k ≠ 0)
    → (s.dev.slotHeld k = false) → (s.dev.cmp.regions.any (fun r => r.slot == k && !r.closed) = false) →
    (s.dev.hasSubs (s.dev.ctxHandle k) = false) → ((s.dev.ctx k).taken = []) → (s.dev.freePark = some n) →
    Completes (.ctxPark 0 w) s fun e =>
    (e.ctx k).parkTo = some n ∧ e.mgt.lastGeneration = (s.dev.mgt.lastGeneration + 1) % 65536 ∧
    e.mgt.waiting = s.dev.mgt.waiting ++ [(.park k (entTag w) n, (s.dev.mgt.lastGeneration + 1) % 65536)]) ∧
  (∀ (s : State) (w : List Word) (k : Nat) (r : ParkRec), (s.dev.slotState 0 = 1) → (s.dev.canEnter 0 w = true) →
    (entOpcode w = 0x83) → (entryFault 0 w = none) → (s.dev.isStandby = false) → (s.dev.admits = true) →
    (s.dev.pickSlot (bitOf (entWord w 2) 12) (bits (entWord w 2) 0 12) = .inl k) → (Tab.find s.dev.ten.parks (bits
    (entWord w 1) 0 16) = some r) → (s.dev.activating (bits (entWord w 1) 0 16) = false) → (r.lost = false) →
    Completes (.ctxActivate 0 w) s fun e =>
    if (s.dev.unwrapKey r.ctx.wrapped).isNone then e = (s.dev.ensureTaken 0 w).entryErr 0 w .ctxKey
    else e.mgt.waiting = s.dev.mgt.waiting ++
      [(.activate k (entTag w) (bits (entWord w 1) 0 16), (s.dev.mgt.lastGeneration + 1) % 65536)]) ∧
  (∀ (s : State) (w : List Word), (s.dev.slotState 0 = 1) → (s.dev.canEnter 0 w = true) → (entOpcode w = 0x83) →
    (entryFault 0 w = none) → (s.dev.isStandby = false) → (s.dev.pickSlot (bitOf (entWord w 2) 12) (bits (entWord w 2)
    0 12) = .inr .ctxSlotBusy) →
    Yields (.ctxActivate 0 w) s ((s.dev.ensureTaken 0 w).entryErr 0 w .ctxSlotBusy)) ∧
  (∀ (s : State) (w : List Word) (k : Nat), (s.dev.slotState 0 = 1) → (s.dev.canEnter 0 w = true) → (entOpcode w =
    0x84) → (entryFault 0 w = none) → (s.dev.isStandby = false) → (s.dev.handleSlot (entWord w 1) = some k) →
    (s.dev.slotHeld k = false) → (bitOf (entWord w 3) 24 = s.dev.bit .tenState k 27 ∨ s.dev.fld .tenRegions k 0 16 =
    0) →
    Completes (.ctxQuota 0 w) s fun e =>
    e.get .tenDramQuota k = 16 * entWord w 2 % 2 ^ 32 ∧ e.fld .tenRegions k 16 16 = bits (entWord w 3) 0 16 ∧
    e.get .tenShare k = bits (entWord w 3) 16 8 ∧ e.bit .tenState k 27 = bitOf (entWord w 3) 24) ∧
  (∀ (s : State) (slot : Fin 4096) (j : ZeroJob), (s.dev.ten.zeroing.find? (fun j => j.slot == slot.val) = some j) →
    (slot.val ≠ 0) →
    Completes (.ctxZeroDone slot) s fun e =>
    e.ten.zeroing = s.dev.ten.zeroing.erase j ∧ e.get .tenPoolFree 0 = (s.dev.get .tenPoolFree 0 + j.units) % 2 ^ 64 ∧
    (j.closesSlot = true → e.get .tenHandle slot.val = 0 ∧
      e.slotState slot.val = if 0xfffff ≤ (s.dev.ctx slot.val).generation then 4 else 0)) ∧
  (∀ (s : State) (w : List Word), (s.dev.slotState 0 = 1) → (s.dev.canEnter 0 w = true) → (entryFault 0 w = none) →
    (s.dev.isStandby = true) →
    (entOpcode w = 0x80 → Yields (.ctxOpen 0 w) s ((s.dev.ensureTaken 0 w).entryErr 0 w .ptnStandby)) ∧
    (entOpcode w = 0x81 → Yields (.ctxClose 0 w) s ((s.dev.ensureTaken 0 w).entryErr 0 w .ptnStandby)) ∧
    (entOpcode w = 0x82 → Yields (.ctxPark 0 w) s ((s.dev.ensureTaken 0 w).entryErr 0 w .ptnStandby)) ∧
    (entOpcode w = 0x83 → Yields (.ctxActivate 0 w) s ((s.dev.ensureTaken 0 w).entryErr 0 w .ptnStandby)) ∧
    (entOpcode w = 0x84 → Yields (.ctxQuota 0 w) s ((s.dev.ensureTaken 0 w).entryErr 0 w .ptnStandby)))

/-- A datagram that passes the checks of R293 acts on its session in SEQ order, any other is dropped and counted, and the
  timers send. Rests on R292, R293, R294, R295, R296, R297, R298. -/
def Obligations.TransportSessionsRunByTheirDatagrams : Prop :=
  (∀ (s : State) (data : List Byte),
    Completes (.entries data) s (fun e => match s.dev.xptCheck data with
      | none => e = s.dev.count .xptAuthDrop 0
      | some g => g.type = 3 → s.dev.sessBound g.slot = true → g.version = s.dev.sessVersion g.slot →
          s.dev.sess g.slot = { Sess.empty with rxNext := g.seq } →
          (e.sess g.slot).rxNext = (g.seq + 1) % seqMod g.version ∧ (e.sess g.slot).ackDue = true ∧
          (e.ctx g.slot).sqWords = ((s.dev.xptPutEntries g.slot (le32At g.payload 0) (g.payload.drop 4)).ctx g.slot).sqWords) ∧
    Completes (.xptWrite data) s (fun e => match s.dev.xptCheck data with
      | none => e = s.dev.count .xptAuthDrop 0
      | some g => g.type = 5 → s.dev.sessBound g.slot = true → g.version = s.dev.sessVersion g.slot →
          s.dev.sess g.slot = { Sess.empty with rxNext := g.seq } →
          leNat (g.payload.take 8) + (g.payload.drop 8).length ≤ 2 ^ 20 * s.dev.fld .xptSession g.slot 0 16 →
          (e.sess g.slot).rxNext = (g.seq + 1) % seqMod g.version ∧
          ∀ i, i < (g.payload.drop 8).length →
            Mem.read (e.sess g.slot).staging (leNat (g.payload.take 8) + i) = (g.payload.drop 8).getD i 0) ∧
    Completes (.xptClose data) s (fun e => match s.dev.xptCheck data with
      | none => e = s.dev.count .xptAuthDrop 0
      | some g => g.type = 9 → s.dev.sessBound g.slot = true → g.version = s.dev.sessVersion g.slot →
          s.dev.sess g.slot = { Sess.empty with rxNext := g.seq } →
          e.get .xptSession g.slot = 0 ∧ (e.ctx g.slot).stagingUnits = 0 ∧ (e.sess g.slot).unacked = []) ∧
    Completes (.xptAck data) s (fun e => match s.dev.xptCheck data with
      | none => e = s.dev.count .xptAuthDrop 0
      | some g => g.type = 8 → s.dev.sessBound g.slot = true → g.version = s.dev.sessVersion g.slot →
          (s.dev.sess g.slot).queue = [] → g.version = 2 →
          (e.sess g.slot).unacked = (s.dev.sess g.slot).unacked.filter
            fun u => decide ((u.seq + 2 ^ 16 - g.ack % 2 ^ 16) % 2 ^ 16 < 2 ^ 15)) ∧
    Completes (.xptDoorbell data) s (fun e => match s.dev.xptCheck data with
      | none => e = s.dev.count .xptAuthDrop 0
      | some g => g.type = 4 → s.dev.sessBound g.slot = true → g.version = s.dev.sessVersion g.slot →
          s.dev.sess g.slot = { Sess.empty with rxNext := g.seq } → (s.dev.ctx g.slot).taken = [] →
          s.dev.inTransit .slot g.slot = false →
          bits (le32At g.payload 0) 0 16 < s.dev.sqDepth g.slot →
          ringCount (s.dev.sqDepth g.slot) (le32At g.payload 0) (s.dev.get .tenSqHead g.slot) ≤ s.dev.sqDepth g.slot →
          e.get .tenSqTail g.slot = bits (le32At g.payload 0) 0 17)) ∧
  (∀ (s : State) (ep : Fin 20) (peer : BitVec 128) (port : BitVec 16) (vlan : BitVec 13) (data : List Byte),
    Completes (.hello ep peer port vlan data) s fun e => match s.dev.xptCheck data with
    | none => e = s.dev.count .xptAuthDrop 0
    | some g => g.type = 1 → s.dev.inTransit .slot g.slot = false →
        if s.dev.xptGrants g.slot (le32At g.payload 8) then
          e.sessBound g.slot = true ∧ e.sessVersion g.slot = s.dev.xptVersion (le32At g.payload 0) ∧
          e.sessPort g.slot = ep.val ∧ e.bit .tenState g.slot 0 = true ∧ e.bit .tenState g.slot 1 = true
        else e.get .xptSession g.slot = s.dev.get .xptSession g.slot ∧ (ECode.quotaDram, g.slot) ∈ e.raised) ∧
  (∀ (s : State) (slot : Fin 4096), (s.dev.sessBound slot.val = true) → ((s.dev.sess slot.val).ackDue = true) →
    Completes (.xptAckTimer slot) s fun e =>
    (e.sess slot.val).ackDue = false ∧ (e.sess slot.val).txSeq = (s.dev.sess slot.val).txSeq ∧ e.draw = s.dev.draw + 1 ∧
    if s.dev.fld .epStatus (s.dev.sessPort slot.val) 28 4 = 0 then e.outs = s.dev.outs
    else ∃ bs, e.outs = s.dev.outs ++ [.datagram slot.val (s.dev.sessPort slot.val) bs]) ∧
  (∀ (s : State) (slot : Fin 4096), (s.dev.sessBound slot.val = false ∨ (s.dev.sess slot.val).ackDue = false) →
    Yields (.xptAckTimer slot) s s.dev) ∧
  (∀ (s : State) (slot : Fin 4096) (seq : BitVec 32) (u : XptSent), ((s.dev.sess slot.val).unacked.find? (fun u =>
    u.seq == seq.toNat && !u.sacked) = some u) → (u.resends < 8) →
    Completes (.xptResend slot seq) s fun e =>
    (e.sess slot.val).unacked = (s.dev.sess slot.val).unacked.map (fun w => if w.seq = u.seq then { w with resends := w.resends + 1 } else w) ∧
    e.get .xptResends slot.val = min (s.dev.get .xptResends slot.val + 1) (2 ^ 32 - 1) ∧
    if s.dev.fld .epStatus (s.dev.sessPort slot.val) 28 4 = 0 then e.outs = s.dev.outs
    else ∃ bs, e.outs = s.dev.outs ++ [.datagram slot.val (s.dev.sessPort slot.val) bs]) ∧
  (∀ (s : State) (slot : Fin 4096) (seq : BitVec 32) (u : XptSent), ((s.dev.sess slot.val).unacked.find? (fun u =>
    u.seq == seq.toNat && !u.sacked) = some u) → (8 ≤ u.resends) →
    Completes (.xptResend slot seq) s fun e =>
    e.sessBound slot.val = false ∧ e.bit .tenState slot.val 0 = false ∧ e.bit .tenState slot.val 1 = false ∧
    (ECode.xptSessionLost, slot.val) ∈ e.raised) ∧
  (∀ (s : State) (slot : Fin 4096), (s.dev.sessBound slot.val = true) → ((s.dev.sess slot.val).cqWait ≠ []) →
    ((s.dev.sess slot.val).unacked.length < 64) →
    Completes (.cqeCoalesceTimer slot) s fun e =>
    (e.sess slot.val).cqWait = [] ∧ (e.sess slot.val).unacked.length = (s.dev.sess slot.val).unacked.length + 1 ∧
    if s.dev.fld .epStatus (s.dev.sessPort slot.val) 28 4 = 0 then e.outs = s.dev.outs
    else ∃ bs, e.outs = s.dev.outs ++ [.datagram slot.val (s.dev.sessPort slot.val) bs])

/-- Good frames are counted or passed on in the order of the table, sent frames leave with their FCS, and the clock and
  pulses follow it. Rests on R290, R291, R305, R306, R307, R309, R310, R311. -/
def Obligations.FramesAndLocalClock : Prop :=
  (∀ (s : State) (ep : Fin 20) (sub : Fin 4) (frame : List Byte), (s.dev.portOn ep.val sub.val = false ∨ frame.length
    < 18 ∨ leNat (frame.drop (frame.length - 4)) ≠ fcsOf (frame.take (frame.length - 4))) →
    Yields (.ethFrameReceive ep sub frame) s s.dev) ∧
  (∀ (s : State) (ep : Fin 20) (sub : Fin 4) (f : List Byte), (s.dev.portOn ep.val sub.val = true) → (14 ≤ f.length) →
    ((frameInfo f).extraTag = false) → ((frameInfo f).body.length ≤ 9216) → (isPause (frameInfo f) = true) →
    Yields (.ethFrameReceive ep sub (f ++ leBytes (fcsOf f) 4)) s (s.dev.count .epPauseRx ep.val)) ∧
  (∀ (s : State) (ep : Fin 20) (sub : Fin 4) (f : List Byte), (s.dev.portOn ep.val sub.val = true) → (14 ≤ f.length) →
    ((frameInfo f).extraTag = false) → ((frameInfo f).body.length ≤ 9216) → ((frameInfo f).etherType = 0x0801) →
    ((frameInfo f).dst = s.dev.get .epMac ep.val) → (8 * f.length ≤ s.dev.mgmtRoom) →
    Completes (.ethFrameReceive ep sub (f ++ leBytes (fcsOf f) 4)) s fun e =>
    e.hst.mgmtRx = s.dev.hst.mgmtRx ++ [(ep.val, f, none)] ∧ e.hst.mgmtBits = s.dev.mgmtRoom - 8 * f.length ∧ e.regs = s.dev.regs) ∧
  (∀ (s : State) (ep : Fin 20) (sub : Fin 4) (frame : List Byte), (s.dev.portOn ep.val sub.val = false ∨ s.dev.bit
    .epStatus ep.val (28 + sub.val) = false) →
    Yields (.ethFrameTransmit ep sub frame) s s.dev) ∧
  (∀ (s : State) (ep : Fin 20) (sub : Fin 4) (frame : List Byte), (s.dev.portOn ep.val sub.val = true) → (s.dev.bit
    .epStatus ep.val (28 + sub.val) = true) →
    Completes (.ethFrameTransmit ep sub frame) s fun e =>
    e.outs = s.dev.outs ++ [.frame ep.val sub.val (frame ++ leBytes (fcsOf frame) 4)] ∧
    ((ptpEvent (frameInfo frame)).isSome → (Tab.get s.dev.hst.txts ep.val []).length < 64 →
      (Tab.get e.hst.txts ep.val []).length = (Tab.get s.dev.hst.txts ep.val []).length + 1) ∧
    ((ptpEvent (frameInfo frame)).isNone → e.hst = s.dev.hst)) ∧
  (∀ (s : State) (req : Fin 5) (ep : Fin 20) (x : TxStamp) (rest : List TxStamp), (Tab.get s.dev.hst.txts ep.val [] =
    x :: rest) →
    Completes (.txtsPop req ep) s fun e =>
    Tab.get e.hst.txts ep.val [] = rest ∧
    e.outs = s.dev.outs ++ [.readData req.val (0x7000ac + 0x400 * ep.val) (x.messageType <<< 8 + x.domain)]) ∧
  (∀ (s : State) (ep : Fin 20) (up : BitVec 4) (fec : BitVec 2),
    Completes (.ethLinkChange ep up fec) s fun e =>
    e.get .epStatus ep.val = up.toNat <<< 28 + fec.toNat <<< 26 ∧
    (s.dev.fld .epStatus ep.val 28 4 &&& (15 - up.toNat) ≠ 0 → (ECode.epLink, ep.val) ∈ e.raised)) ∧
  (∀ (s : State) (req : Fin 5) (value : BitVec 64), (0x100000000 ≤ value.toNat) → (value.toNat ≤ 0x233333333) →
    Yields (.tsuIncWrite req .both value) s (s.dev.put .tsuInc 0 value.toNat)) ∧
  (∀ (s : State) (req : Fin 5) (value : BitVec 64), (value.toNat < 0x100000000) →
    Completes (.tsuIncWrite req .both value) s fun e =>
    e.get .tsuInc 0 = 0x100000000 ∧ e.get .glbLastErr req.val = ECode.tsuRange.code.toNat) ∧
  (∀ (s : State) (req : Fin 5),
    Completes (.tsuStep req) s (fun e => e.get .tsuTime 0 = (s.dev.get .tsuTime 0 + s.dev.get .tsuStep 0) % 2 ^ 64 ∧
      e.get .tsuFrac 0 = s.dev.get .tsuFrac 0) ∧
    Completes (.tsuSet req) s (fun e => e.get .tsuTime 0 = s.dev.get .tsuSet 0 ∧ e.get .tsuFrac 0 = 0)) ∧
  (∀ (s : State) (req : Fin 5) (t : Fin 8) (value : Word), (value.toNat % 2 = 1) → (s.dev.clock32 + 1000 * 2 ^ 32 ≤
    s.dev.get .toutStart t.val * 2 ^ 32) → (s.dev.toutPeriod32 t.val = 0 ∨ s.dev.get .toutWidth t.val * 2 ^ 32 <
    s.dev.toutPeriod32 t.val) →
    Completes (.toutArm req t value) s fun e =>
    e.get .toutCtrl t.val = 3 + 4 * bits value.toNat 2 1 ∧ e.toutNext t.val = 0 ∧ e.outs = s.dev.outs) ∧
  (∀ (s : State) (req : Fin 5) (t : Fin 8) (value : Word), (value.toNat % 2 = 1) → (s.dev.get .toutStart t.val * 2 ^
    32 < s.dev.clock32 + 1000 * 2 ^ 32) →
    Yields (.toutArm req t value) s (s.dev.refuse req.val .tsuPast)) ∧
  (∀ (s : State) (req : Fin 5) (t : Fin 8) (value : Word), (value.toNat % 2 = 0) →
    Completes (.toutArm req t value) s fun e => e.get .toutCtrl t.val = 4 * bits value.toNat 2 1) ∧
  (∀ (s : State) (t : Fin 8), (s.dev.bit .toutCtrl t.val 1 = true) →
    Completes (.toutPulse t) s fun e =>
    (∃ at' rest, e.outs = s.dev.outs ++ .pulse t.val at' (s.dev.get .toutWidth t.val) (s.dev.bit .toutCtrl t.val 2) :: rest ∧
      at' % 200 = 0 ∧ 1000 * s.dev.toutTime t.val (s.dev.toutNext t.val) ≤ (at' + 100) * 2 ^ 32 ∧
      at' * 2 ^ 32 ≤ 1000 * s.dev.toutTime t.val (s.dev.toutNext t.val) + 100 * 2 ^ 32) ∧
    (if s.dev.toutPeriod32 t.val = 0 then e.bit .toutCtrl t.val 1 = false else e.toutNext t.val = s.dev.toutNext t.val + 1))

/-- PCIe power states, function resets, link changes and vector timers move messages and rings as R301 to R304 say. Rests
  on R299, R301, R302, R303, R304. -/
def Obligations.PcieFunctionsAndVectors : Prop :=
  (∀ (s : State) (fn vec : Fin 64), ((s.dev.vec fn.val vec.val).count ≠ 0) → (s.dev.vecTimer fn.val vec.val ≠ 0) →
    ((s.dev.vec fn.val vec.val).masked = false) → (Tab.get s.dev.hst.fnMask fn.val false = false) → (s.dev.hst.linkUp
    = true) → (s.dev.inD3 fn.val = false) → (s.dev.inL1 = false) →
    Completes (.msixTimer fn vec) s fun e =>
    (e.vec fn.val vec.val).count = 0 ∧ e.outs = s.dev.outs ++ [.interrupt fn.val vec.val] ∧ e.regs = s.dev.regs) ∧
  (∀ (s : State) (fn vec : Fin 64), ((s.dev.vec fn.val vec.val).count ≠ 0) → (s.dev.vecTimer fn.val vec.val ≠ 0) →
    ((s.dev.vec fn.val vec.val).masked = true) →
    Yields (.msixTimer fn vec) s (s.dev.setVec fn.val vec.val { s.dev.vec fn.val vec.val with pba := true })) ∧
  (∀ (s : State) (fn vec : Fin 64), ((s.dev.vec fn.val vec.val).pba = true) → (Tab.get s.dev.hst.fnMask fn.val false =
    false) → (s.dev.hst.linkUp = true) → (s.dev.inD3 fn.val = false) →
    Completes (.msixUnmask fn (some vec)) s fun e =>
    (e.vec fn.val vec.val).masked = false ∧ (e.vec fn.val vec.val).pba = false ∧ .interrupt fn.val vec.val ∈ e.outs) ∧
  (∀ (s : State) (fn vec : Fin 64), (s.dev.inD3 fn.val = true) → (Tab.get s.dev.hst.pmeEn fn.val false = true) →
    ((s.dev.vec fn.val vec.val).pba = true) →
    Yields (.pmeRepeat fn) s (s.dev.send (.pme fn.val))) ∧
  (∀ (s : State) (fn : Fin 64) (pmeEn : Bool),
    Completes (.d3hotEntry fn false pmeEn) s (fun e =>
      e.inD3 fn.val = true ∧ Tab.get e.hst.pmeEn fn.val false = pmeEn ∧ ∀ f, f ≠ fn.val → e.inD3 f = s.dev.inD3 f) ∧
    Completes (.d0Return fn) s (fun e => e.inD3 fn.val = false)) ∧
  (∀ (s : State) (fn : Fin 64) (pmeEn : Bool),
    Completes (.d3hotEntry fn true pmeEn) s fun e => (∀ f, f < 64 → e.inD3 f = true) ∧ .pmeToAck ∈ e.outs) ∧
  (∀ (s : State) (vf : Fin 64) (k : Nat), (vf.val ≠ 0) → (k ∈ s.dev.fnSlots vf.val) →
    Completes (.vfFlr vf) s fun e =>
    e.bit .tenState k 0 = false ∧ e.bit .tenState k 1 = false ∧ (ECode.pcieFlr, k) ∈ e.raised) ∧
  (∀ (s : State) (linkDown : Bool) (k : Nat), (0 < k) → (k < 4096) → (s.dev.slotBind k = 1) →
    Completes (.pfFlr linkDown) s fun e =>
    e.bit .tenState k 0 = false ∧ e.bit .tenState k 1 = false ∧ (ECode.pcieFlr, k) ∈ e.raised ∧
    e.hst.linkUp = (s.dev.hst.linkUp && !linkDown) ∧ (linkDown = true → e.get .pcieStatus 0 = 0)) ∧
  (∀ (s : State) (gen : BitVec 3) (width : BitVec 5),
    Completes (.pcieLinkUp gen width) s fun e =>
    e.hst.linkUp = true ∧ e.fld .pcieStatus 0 0 3 = gen.toNat ∧ e.fld .pcieStatus 0 8 5 = width.toNat ∧ e.bit .pcieStatus 0 16 = false) ∧
  (∀ (s : State), (s.dev.hst.linkUp = true) →
    Yields .aspmL1Entry s (s.dev.setBit .pcieStatus 0 16 true)) ∧
  (∀ (s : State),
    Completes .l1ExitComplete s fun e => e.bit .pcieStatus 0 16 = false ∧ e.hst.l1Due = [])

/-- The pair's roles follow presence, heartbeat, surrender, takeover and removal as the partner chapter's tables say.
  Rests on R314, R316, R318, R319, R320, R326, R328, R329, R330, R333. -/
def Obligations.PairRolesFollowHeartbeatAndRequests : Prop :=
  (∀ (s : State), (s.dev.role = 0) → (s.dev.bit .ptnCtrl 0 0 = true) →
    Completes (.presentChange true) s fun e => e.role = 1 ∧ e.bit .ptnStatus 0 26 = true) ∧
  (∀ (s : State), (s.dev.isStandby = true) → (s.dev.ptn.takeAt = none) →
    Completes .heartbeatLost s (fun e => e.bit .ptnStatus 0 25 = false ∧ e.bit .ptnStatus 0 24 = true ∧
      e.bit .ptnEvent 0 4 = true ∧ (ECode.ptnHb, 0) ∈ e.raised ∧ e.role = s.dev.role)) ∧
  (∀ (s : State), (s.dev.isStandby = false) →
    Yields .heartbeatLost s (s.dev.setBit .ptnStatus 0 25 false) ∧ Yields .mirrorSilent s s.dev ∧ Yields .resync s s.dev ∧
    Yields .mirrorGap s { s.dev with ptn := { s.dev.ptn with fresh := true } }) ∧
  (∀ (s : State), (s.dev.isStandby = true) → (s.dev.bit .ptnStatus 0 24 = false) →
    Completes .mirrorSilent s fun e => e.bit .ptnStatus 0 1 = true ∧ e.bit .ptnStatus 0 28 = false ∧ e.role = s.dev.role) ∧
  (∀ (s : State), (s.dev.role = 3) → (s.dev.bit .ptnStatus 0 24 = true) → (s.dev.bit .ptnStatus 0 28 = true) →
    Yields .mirrorSilent s { s.dev with ptn := { s.dev.ptn with takeAt := some 0 } }) ∧
  (∀ (s : State), (s.dev.isStandby = true) →
    Completes .resync s (fun e => e.role = 2 ∧ e.ptn.snapshotDue = true ∧ e.bit .ptnStatus 0 28 = false) ∧
    Completes .mirrorGap s (fun e => e.role = 2 ∧ e.ptn.snapshotDue = true ∧ (ECode.ptnMirror, 0) ∈ e.raised)) ∧
  (∀ (s : State), (s.dev.role = 3) → (s.dev.bit .ptnStatus 0 28 = true) →
    Completes .silentDeath s fun e => e.ptn.takeAt = some 0 ∧ e.role = 3 ∧ e.bit .ptnStatus 0 25 = false) ∧
  (∀ (s : State), (s.dev.role = 3) → (s.dev.bit .ptnStatus 0 28 = false) →
    Completes .silentDeath s fun e =>
    e.role = 1 ∧ PinUser.ptn ∈ e.pos.stopReq ∧ (ECode.ptnNoStandby, 0) ∈ e.raised) ∧
  (∀ (s : State), (s.dev.role = 1) →
    Completes .dualActive s fun e =>
    (ECode.ptnDual, 0) ∈ e.raised ∧ e.bit .ptnEvent 0 5 = true ∧ e.role = (if s.dev.pairId = 0 then 1 else 3) ∧
    (s.dev.pairId ≠ 0 → e.ptn.actUntil = some (s.dev.fireIndex + 1) ∧ e.bit .ptnStatus 0 5 = true)) ∧
  (∀ (s : State) (link : Fin 8) (pairId : Bool), (link.val ∉ s.dev.lne.capped) →
    Completes (.pcap link pairId) s fun e => link.val ∈ e.lne.capped ∧ Out.mirror 0 (.pcap link.val s.dev.pairId) ∈ e.outs) ∧
  (∀ (s : State) (link : Fin 8), (s.dev.bit .ptnStatus 0 (16 + link.val) = false) →
    Completes (.mirrorLinkRetry link) s fun e => link.val ∉ e.lne.capped ∧ e.bit .ptnStatus 0 (16 + link.val) = false) ∧
  (∀ (s : State), (s.dev.mirrorLive = true) → (s.dev.sys.noTime = false) →
    Completes .dailySend s fun e =>
    e.ptn.sentDaily = some s.dev.dailyWords ∧ e.outs = s.dev.outs ++ [.mirror s.dev.ptn.txSeq (.daily s.dev.dailyWords)] ∧
    e.ptn.txSeq = (s.dev.ptn.txSeq + 1) % 2 ^ 32) ∧
  (∀ (s : State) (outcome : Fin 3) (x : Nat × Nat × Option Nat × Nat), (s.dev.ptn.rerun.find? (fun x =>
    x.2.2.1.isSome) = some x) →
    Completes (.verdictReady outcome) s fun e =>
    (ECode.ptnMismatch, x.1) ∈ e.raised ∧
    (outcome.val ≠ 0 → e.ptn.rerun.length + 1 = s.dev.ptn.rerun.length) ∧ (outcome.val = 2 → e.bit .ptnStatus 0 3 = true)) ∧
  (∀ (s : State), (s.dev.canSurrender = true) → (s.dev.fireEn = true) →
    Completes .ptnSurrender s fun e =>
    e.role = 3 ∧ e.fld .ptnSurrender 0 24 8 = 6 ∧ e.ptn.actUntil = some (s.dev.fireIndex + 3) ∧ e.bit .ptnStatus 0 4 = true) ∧
  (∀ (s : State), (s.dev.canSurrender = false) →
    Yields .ptnSurrender s s.dev) ∧
  (∀ (s : State) (fs : Nat), (s.dev.ptn.takeAt = some fs) → (max fs (s.dev.fireIndex + 1) < 2 ^ 48) →
    Completes .takeover s fun e =>
    e.role = 1 ∧ e.get .ptnTakeFire 0 = max fs (s.dev.fireIndex + 1) ∧ e.ptn.takeAt = none ∧
    e.get .ptnSplices 0 = min (s.dev.get .ptnSplices 0 + 1) (2 ^ 32 - 1) ∧ (ECode.ptnSplice, 0) ∈ e.raised ∧
    e.ptn.actFrom = max fs (s.dev.fireIndex + 1)) ∧
  (∀ (s : State), (s.dev.ptn.takeAt = none) →
    Yields .takeover s s.dev) ∧
  (∀ (s : State), (s.dev.isStandby = true) →
    Completes (.removeRequest true) s fun e => e.role = 5 ∧ e.ptn.removeOk = true ∧ e.ptn.removeReq = true) ∧
  (∀ (s : State), (s.dev.role = 1) → (s.dev.partnerFit = false) →
    Completes (.removeRequest true) s fun e =>
    e.ptn.refused = true ∧ (ECode.ptnRemoveRefused, 0) ∈ e.raised ∧ e.role = 1 ∧ e.bit .ptnEvent 0 6 = true) ∧
  (∀ (s : State), (s.dev.ptn.refused = true) →
    Completes .forceRemove s fun e => e.role = 5 ∧ e.ptn.removeOk = true ∧ e.ptn.refused = false) ∧
  (∀ (s : State), (s.dev.ptn.refused = false) →
    Yields .forceRemove s s.dev) ∧
  (∀ (s : State), (s.dev.role ≠ 5) →
    Completes (.pairEnWrite false) s fun e => e.role = 0 ∧ e.bit .ptnCtrl 0 0 = false ∧ e.ptn.takeAt = none) ∧
  (∀ (s : State), (s.dev.role = 0) → (s.dev.bit .ptnStatus 0 26 = true) →
    Completes (.pairEnWrite true) s fun e => e.role = 1 ∧ e.bit .ptnCtrl 0 0 = true) ∧
  (∀ (s : State) (mseq : Word), (s.dev.role = 2) → (s.dev.ptn.held = []) →
    Completes (.snapshotApplied mseq []) s fun e =>
    e.role = 3 ∧ e.get .ptnMseq 0 = mseq.toNat ∧ e.ptn.snapshotDue = false ∧ e.bit .ptnStatus 0 1 = false)

/-- A mirror record that is next in order is applied and acknowledged, one ahead is held, one from before is dropped.
  Rests on R102, R240, R321, R322, R323, R324, R325, R326, R328, R330. -/
def Obligations.MirrorRecordsAreAppliedInOrder : Prop :=
  (∀ (s : State) (mseq : Word) (b : BindRec), (s.dev.role = 3) → (s.dev.ptn.held = []) → (mseq.toNat = (s.dev.mseq +
    1) % 2 ^ 32) →
    Completes (.bindRecord mseq b) s fun e =>
    e.get .ptnMseq 0 = mseq.toNat ∧ e.bit .posCtrl 0 0 = (b.fireEn && !s.dev.pos.ended) ∧ e.get .posSkipCount 0 = b.skips % 2 ^ 64 ∧
    e.get .cmpLeadLines 0 = b.leadLines % 2 ^ 64) ∧
  (∀ (s : State) (mseq : Word) (fire : BitVec 48) (line : Int) (x : Fire), (s.dev.role = 3) → (s.dev.ptn.held = []) →
    (mseq.toNat = (s.dev.mseq + 1) % 2 ^ 32) → (s.dev.pos.fires.find? (fun x => x.index == fire.toNat) = some x) →
    Completes (.mirrorCommit mseq fire line) s fun e =>
    e.get .ptnMseq 0 = mseq.toNat ∧
    (if x.line = line then e.get .ptnBindDiff 0 = s.dev.get .ptnBindDiff 0 ∧ e.pos = s.dev.pos
     else e.get .ptnBindDiff 0 = min (s.dev.get .ptnBindDiff 0 + 1) (2 ^ 32 - 1))) ∧
  (∀ (s : State) (mseq : Word) (fire : BitVec 48) (comparable : BitVec 192) (crcs : Vector Word 192) (n mine : Nat),
    (s.dev.role = 3) → (s.dev.ptn.held = []) → (mseq.toNat = (s.dev.mseq + 1) % 2 ^ 32) → (n < 192) → (Tab.find
    (s.dev.syn' n).crcs fire.toNat = some mine) → ((List.range 192).all (fun m => m == n || (Tab.find (s.dev.syn'
    m).crcs fire.toNat).isNone) = true) → (bitOf comparable.toNat n = true) → (s.dev.comparable n fire.toNat = true) →
    Completes (.mirrorCrc mseq fire comparable crcs) s fun e =>
    e.get .ptnCmpCount 0 = min (s.dev.get .ptnCmpCount 0 + 1) (2 ^ 32 - 1) ∧
    (if mine = (crcs.toList.map BitVec.toNat).getD n 0 then e.get .ptnMismatch 0 = s.dev.get .ptnMismatch 0
     else e.get .ptnMismatch 0 = min (s.dev.get .ptnMismatch 0 + 1) (2 ^ 32 - 1) ∧ (ECode.ptnMismatch, n) ∈ e.raised)) ∧
  (∀ (s : State) (mseq : Word) (region : BitVec 16) (strip first lines : Nat) (missing : Bool) (r : Region),
    (s.dev.role = 3) → (s.dev.ptn.held = []) → (mseq.toNat = (s.dev.mseq + 1) % 2 ^ 32) → (s.dev.region? region.toNat
    = some r) →
    Completes (.lockRecord mseq region strip first lines missing) s fun e =>
    e.get .ptnMseq 0 = mseq.toNat ∧
    (e.region? region.toNat).map (fun q => (q.strip strip).lockedTo) = some (max (r.strip strip).lockedTo (first + lines))) ∧
  (∀ (s : State) (mseq : Word) (slot : Fin 4096) (region : BitVec 16) (strip first lines heapLen off : Nat) (bytes :
    Sealed) (r q : Region), (s.dev.role = 3) → (s.dev.ptn.held = []) → (mseq.toNat = (s.dev.mseq + 1) % 2 ^ 32) →
    (s.dev.region? region.toNat = some r) → (r.heapTake heapLen = some (off, q)) →
    Completes (.mirrorBlock mseq slot region strip first lines heapLen bytes) s fun e =>
    (region.toNat, strip, first, lines) ∉ e.ptn.noBytes ∧ e.get .ptnReelLag 0 = e.reelLag % 2 ^ 64) ∧
  (∀ (s : State) (mseq : Word) (port : Fin 192) (entries : List (SynTarget × Nat)) (fire : BitVec 48), (s.dev.role =
    3) → (s.dev.ptn.held = []) → (mseq.toNat = (s.dev.mseq + 1) % 2 ^ 32) →
    Completes (.tableRecord mseq port entries (some fire)) s fun e =>
    (e.syn' port.val).staged = entries ∧ e.get .updFire port.val = fire.toNat ∧ e.bit .synStatus port.val 14 = true) ∧
  (∀ (s : State) (mseq : Word) (h : PendHealth), (s.dev.role = 3) → (s.dev.ptn.held = []) → (mseq.toNat = (s.dev.mseq
    + 1) % 2 ^ 32) → (s.dev.firing = true) →
    Completes (.mirrorHealth mseq h) s fun e => e.syn.pend = s.dev.syn.pend ++ [{ h with folded := [] }]) ∧
  (∀ (s : State) (mseq : Word) (r : Region), (s.dev.role = 3) → (s.dev.ptn.held = []) → (mseq.toNat = (s.dev.mseq + 1)
    % 2 ^ 32) → (s.dev.region? r.number = none) →
    Completes (.ctxRecord mseq (.region r)) s fun e => e.cmp.regions = s.dev.cmp.regions ++ [r]) ∧
  (∀ (s : State) (mseq : Word) (slot status pos : Nat) (entry body : List Nat), (s.dev.role = 3) → (s.dev.ptn.held =
    []) → (mseq.toNat = (s.dev.mseq + 1) % 2 ^ 32) → (status ≠ 0) → (s.dev.ptn.cqDue = []) →
    Completes (.ctxRecord mseq (.effect slot entry status body pos)) s fun e =>
    e.ptn.cqDue = [(slot, pos, entTag (entry.map (BitVec.ofNat 32)), entOpcode (entry.map (BitVec.ofNat 32)), status, body)] ∧
    e.cmp = s.dev.cmp) ∧
  (∀ (s : State) (mseq : Word) (port : Fin 192) (m : Fin 16384) (x : LoopCell) (armed : List (Fin 192 × Nat × List
    (Fin 16384))), (s.dev.role = 3) → (s.dev.ptn.held = []) → (mseq.toNat = (s.dev.mseq + 1) % 2 ^ 32) →
    Completes (.loopRecord mseq [(port, m, x)] armed) s fun e =>
    e.cell port.val m.val = x ∧ e.ql.armed = armed.map (fun a => (a.1.val, a.2.1, a.2.2.map Fin.val)) ∧ ∀ n k, (n, k) ≠ (port.val, m.val) → e.cell n k = s.dev.cell n k) ∧
  (∀ (s : State) (mseq : Word) (words : Vector Word 28), (s.dev.role = 3) → (s.dev.ptn.held = []) → (mseq.toNat =
    (s.dev.mseq + 1) % 2 ^ 32) →
    Completes (.daily mseq words) s fun e =>
    e.ptn.partner = some (words.toList.map BitVec.toNat) ∧ e.get .ptnMseq 0 = mseq.toNat ∧
    ∀ i, i < 12 → e.get .ptnPartnerDigest i = (words.toList.map BitVec.toNat).getD (12 + i) 0) ∧
  (∀ (s : State) (mseq : Word) (fire : BitVec 48) (cause : Byte), (s.dev.role = 3) → (s.dev.ptn.held = []) →
    (mseq.toNat = (s.dev.mseq + 1) % 2 ^ 32) →
    Completes (.surrenderRecord mseq fire cause) s fun e =>
    e.fld .ptnSurrender 0 16 8 = cause.toNat ∧
    e.ptn.takeAt = if s.dev.bit .ptnStatus 0 28 then some fire.toNat else s.dev.ptn.takeAt) ∧
  (∀ (s : State) (mseq : Word) (port : Fin 192) (fire : BitVec 48), (s.dev.role ≠ 2) → (s.dev.ptn.held = []) →
    (mseq.toNat = (s.dev.mseq + 1) % 2 ^ 32) →
    Completes (.verdict mseq port fire 1) s fun e =>
    e.get .ptnMseq 0 = mseq.toNat ∧ (ECode.ptnMismatch, port.val) ∈ e.raised ∧ e.bit .ptnEvent 0 2 = true) ∧
  (∀ (s : State) (mseq acked : Word), (s.dev.role ≠ 2) → (s.dev.ptn.held = []) → (mseq.toNat = (s.dev.mseq + 1) % 2 ^
    32) →
    Completes (.mirrorAck mseq acked) s fun e => e.ptn.acked = acked.toNat ∧ e.get .ptnMseq 0 = mseq.toNat) ∧
  (∀ (s : State) (mseq : Word) (pipe : Fin 24) (words : List Word), (s.dev.role = 1) → (s.dev.ptn.held = []) →
    (mseq.toNat = (s.dev.mseq + 1) % 2 ^ 32) →
    Completes (.recordMsg mseq pipe words) s fun e =>
    e.ql.records.length = s.dev.ql.records.length + 1 ∧ (e.ql.records.getLast?.map fun r => (r.bar, r.pipe)) = some (some (255, 255), pipe.val)) ∧
  (∀ (s : State) (mseq : Word) (fire : BitVec 48) (cause : Byte), (s.dev.role ≠ 2) → (s.dev.ptn.fresh = false) →
    (mseq.toNat ≠ (s.dev.mseq + 1) % 2 ^ 32) →
    Yields (.surrenderRecord mseq fire cause) s (if newer32 mseq.toNat s.dev.mseq then
      { s.dev with ptn := { s.dev.ptn with held := s.dev.ptn.held ++ [(mseq.toNat, some (.surrender fire.toNat cause.toNat))] } }
    else s.dev))

/-- An estimate sets the power registers and admits what fits, tasks wait, complete and are counted, and a checkpoint lies
  in its slot. Rests on R337, R338, R339, R340, R341, R342, R343, R345, R346, R347, R359. -/
def Obligations.BudgetTasksAndCheckpoints : Prop :=
  (∀ (s : State) (e : BitVec 16) (tj : List (BitVec 11)) (left : List Nat) (delta : Nat), (s.dev.breath = 0) →
    ((List.range 8).all (fun t => !s.dev.taskActive t) = true) → ((List.range 8).all (fun i => decide (((tj[i]?).map
    BitVec.toNat).getD (s.dev.get .pwrTj i) < 900)) = true) → ((s.dev.pwr.warm || s.dev.bit .pwrStatus 0 26 ||
    s.dev.pwr.thermStop || s.dev.pwr.tripped || s.dev.pwr.selfDue) = false) → (delta ≤ s.dev.cfg .deltaUrgentKib 0 *
    1024) → ((List.range 4).all (fun g => !s.dev.bit .dmcGrpStatus g 31) = true) →
    Completes (.budgetEstimate e tj left delta) s fun d =>
    d.get .pwrEstimate 0 = e.toNat ∧ d.bit .pwrStatus 0 25 = decide (s.dev.pwrLimit < e.toNat) ∧
    (∀ i, i < 8 → d.get .pwrTj i = ((tj[i]?).map BitVec.toNat).getD (s.dev.get .pwrTj i)) ∧
    d.get .pwrDeltaBytes 0 = min delta (2 ^ 32 - 1) ∧ d.get .pwrReserveUsed 0 = 0) ∧
  (∀ (s : State) (e : BitVec 16) (left : List Nat), (s.dev.breath = 0) → ((List.range 8).all (fun t => t == 6 ||
    !s.dev.taskActive t) = true) → (s.dev.fld .pwrTaskStatus 6 28 4 = 2) → (s.dev.taskEnd 6 = none) → ((List.range
    8).all (fun i => decide (s.dev.get .pwrTj i < 900)) = true) → ((s.dev.pwr.warm || s.dev.bit .pwrStatus 0 26 ||
    s.dev.pwr.thermStop || s.dev.pwr.tripped || s.dev.pwr.selfDue) = false) → ((List.range 4).all (fun g => !s.dev.bit
    .dmcGrpStatus g 31) = true) →
    Completes (.budgetEstimate e [] left 0) s fun d =>
    d.taskBit 6 30 = (s.dev.bit .pwrCtrl 0 0 && decide (e.toNat + 100 + 800 ≤ s.dev.pwrLimit))) ∧
  (∀ (s : State),
    Completes .speedHoldRelease s (fun e => PinUser.pwr ∉ e.pos.speedReq ∧ e.bit .pwrStatus 0 28 = false) ∧
    Completes .powerOver s (fun e => PinUser.pwr ∈ e.pos.speedReq ∧ e.bit .pwrStatus 0 28 = true ∧
      e.bit .pwrEvent 0 1 = true ∧ (ECode.pwrOver, 0) ∈ e.raised) ∧
    Completes .pfGlitch s (fun e => e.get .pwrPfGlitch 0 = min (s.dev.get .pwrPfGlitch 0 + 1) (2 ^ 32 - 1)) ∧
    Completes .ckptNow s (fun e => e.taskBit 1 31 = true ∧ e.taskActive 1 = true)) ∧
  (∀ (s : State) (on : Bool),
    Completes (.droneEnWrite on) s fun e => e.bit .pwrCtrl 0 0 = on ∧ ∀ i, i ≠ 0 → i < 64 → e.bit .pwrCtrl 0 i = s.dev.bit .pwrCtrl 0 i) ∧
  (∀ (s : State) (task : Fin 8) (change : Bool) (next : Nat), (s.dev.taskActive task.val = false) →
    Completes (.taskDueCmd task change next) s fun e =>
    e.taskBit task.val 29 = true ∧ (e.task task.val).due = [s.dev.taskDeadlineAt task.val change next] ∧
    (task.val = 7 → change = true → e.taskBit 7 31 = true)) ∧
  (∀ (s : State) (task : Fin 8) (change : Bool) (next : Nat), (s.dev.taskActive task.val = true) → (task.val ≤ 4) →
    Yields (.taskDueCmd task change next) s s.dev) ∧
  (∀ (s : State) (task : Fin 8), (s.dev.taskActive task.val = true) → ((s.dev.task task.val).missed = false) →
    Completes (.taskDeadlineMiss task) s fun e =>
    (e.task task.val).missed = true ∧ (ECode.pwrDeadline, task.val) ∈ e.raised ∧ e.bit .pwrEvent 0 2 = true ∧
    e.get .pwrTaskMisses task.val = min (s.dev.get .pwrTaskMisses task.val + 1) (2 ^ 32 - 1)) ∧
  (∀ (s : State) (task : Fin 8), (s.dev.taskActive task.val = false ∨ (s.dev.task task.val).missed = true) →
    Yields (.taskDeadlineMiss task) s s.dev) ∧
  (∀ (s : State) (task : Fin 8), (s.dev.taskBit task.val 30 = true) →
    Completes (.taskComplete task) s fun e =>
    e.get .pwrTaskRuns task.val = min (s.dev.get .pwrTaskRuns task.val + 1) (2 ^ 32 - 1) ∧ e.taskBit task.val 30 = false ∧
    (e.task task.val).due = (s.dev.task task.val).due.drop 1 ∧ (e.task task.val).last = some s.dev.now ∧
    e.taskBit task.val 29 = !((s.dev.task task.val).due.drop 1).isEmpty) ∧
  (∀ (s : State) (raw : List Byte) (u : Nat), (s.dev.breath = 0) → (s.dev.pwr.rewrite = none) → (s.dev.taskBit 1 30 =
    true) → (s.dev.groupUnit 1 = some u) → ((nvaBlocks raw).flatten.length ≤ ckptSize - 64) →
    Completes (.checkpointCommit raw) s fun e =>
    (∀ i, i < (nvaBlocks raw).flatten.length → Mem.read e.nva (ckptAddr s.dev.saveSlot + i) = (nvaBlocks raw).flatten.getD i 0) ∧
    (∀ a, a < ckptAddr s.dev.saveSlot ∨ ckptAddr s.dev.saveSlot + ckptSize ≤ a → Mem.read e.nva a = Mem.read s.dev.nva a) ∧
    (∃ x, Tab.find e.pwr.slots s.dev.saveSlot = some x ∧ x.body = (nvaBlocks raw).flatten ∧ x.seq = s.dev.newestSeq + 1 ∧
      x.fire = s.dev.fireIndex ∧ x.breath = false ∧
      Mem.readBytes e.nva (ckptAddr s.dev.saveSlot + ckptSize - 64) 64 = x.record) ∧
    e.get .cdcUnitBlocks u = min (s.dev.get .cdcUnitBlocks u + (nvaBlocks raw).length) (2 ^ 32 - 1) ∧
    e.get .pwrCkptSeq 0 = (s.dev.newestSeq + 1) % 2 ^ 64 ∧ e.taskBit 1 30 = false ∧ e.dram = s.dev.dram) ∧
  (∀ (s : State) (raw : List Byte), (s.dev.breath ≠ 0 ∨ (s.dev.pwr.rewrite = none ∧ s.dev.taskBit 1 30 = false)) →
    Yields (.checkpointCommit raw) s s.dev) ∧
  (∀ (s : State) (raw : List Byte), (s.dev.breath = 0) → (s.dev.pwr.rewrite = none) → (s.dev.taskBit 1 30 = true) →
    (s.dev.groupUnit 1 = none) →
    Completes (.checkpointCommit raw) s fun e =>
    e.nva = s.dev.nva ∧ e.pwr.slots = s.dev.pwr.slots ∧ e.taskBit 1 30 = false) ∧
  (∀ (s : State) (x : JournalEvent) (rest : List JournalEvent), (s.dev.pwr.journal = x :: rest) →
    Completes .journalWrite s fun e =>
    e.pwr.journal = rest ∧ e.pwr.ring.getLast? = some (s.dev.newestSeq, x) ∧
    e.pwr.ring.length = min 16384 (s.dev.pwr.ring.length + 1))

/-- Power-fail takes the controller through SHED, HOLD, SAVE and DONE, and a recovery before SAVE takes it back to RUN.
  Rests on R348, R349, R350, R351, R352, R353. -/
def Obligations.BreathShedsHoldsSavesAndResumes : Prop :=
  (∀ (s : State), (s.dev.breath = 0) →
    Completes .breathStart s (fun e => e.breath = 1 ∧ e.bit .pwrStatus 0 23 = true ∧ e.pwr.cause = 1 ∧ e.pwr.trip = false)) ∧
  (∀ (s : State), (s.dev.breath ≠ 0) →
    Yields .breathStart s (s.dev.setBit .pwrStatus 0 23 true)) ∧
  (∀ (s : State) (rail : Fin 4), (s.dev.breath = 0) →
    Completes (.supplyTrip rail) s fun e =>
    e.breath = 1 ∧ e.pwr.cause = 2 ∧ e.pwr.trip = true ∧ (ECode.pwrSupply, rail.val) ∈ e.raised ∧ e.bit .pwrEvent 0 6 = true) ∧
  (∀ (s : State) (rail : Fin 4), (s.dev.breath = 1) →
    Completes (.supplyTrip rail) s fun e => e.breath = 1 ∧ e.pwr.trip = true ∧ (ECode.pwrSupply, rail.val) ∈ e.raised) ∧
  (∀ (s : State), (s.dev.breath = 1) → (s.dev.pwr.trip = false) →
    Yields .shedDone s (s.dev.setBreath 2)) ∧
  (∀ (s : State), (s.dev.breath = 1) → (s.dev.pwr.trip = true) →
    Completes .shedDone s fun e => e.breath = 4) ∧
  (∀ (s : State), (s.dev.breath = 2) → (s.dev.bit .pwrStatus 0 23 = true) →
    Completes .holdExpire s fun e => e.breath = 4 ∧ e.hst.linkUp = false) ∧
  (∀ (s : State), (s.dev.breath ≠ 2 ∨ s.dev.bit .pwrStatus 0 23 = false) →
    Yields .holdExpire s s.dev) ∧
  (∀ (s : State), (s.dev.breath = 1 ∨ s.dev.breath = 2) → (s.dev.pwr.trip = false) →
    Completes .pfRecover s fun e =>
    e.breath = 3 ∧ e.bit .pwrStatus 0 23 = false ∧ e.get .pwrLastBreath 0 = (0x4 <<< 28 + s.dev.pwr.cause) % 2 ^ 64 ∧
    (ECode.pwrPfRecover, 0) ∈ e.raised) ∧
  (∀ (s : State), ((s.dev.breath ≠ 1 ∧ s.dev.breath ≠ 2) ∨ s.dev.pwr.trip = true) →
    Yields .pfRecover s (s.dev.setBit .pwrStatus 0 23 false)) ∧
  (∀ (s : State) (parts part3 : List Byte), (s.dev.breath = 4) → (s.dev.mgt.running = []) → (s.dev.sys.porz = false) →
    (parts ≠ [] ∨ part3 ≠ []) → (parts.length + part3.length ≤ 16 * 1048576) → ((nvaBlocks (parts ++
    part3)).flatten.length ≤ 6000000) → (s.dev.groupUnit 1 ≠ none) →
    Completes (.breathCommit parts part3) s fun e =>
    e.breath = 5 ∧ e.pos.stopReq = [.pwr] ∧ e.pos.eout = [] ∧ e.pos.speedReq = [] ∧ e.ptn.actUntil = some 0 ∧
    (∃ x, Tab.find e.pwr.slots s.dev.saveSlot = some x ∧ x.body = (nvaBlocks (parts ++ part3)).flatten ∧ x.breath = true ∧
      x.isPart = false ∧ x.cause = s.dev.pwr.cause ∧ x.seq = s.dev.newestSeq + 1) ∧
    (∀ i, i < (nvaBlocks (parts ++ part3)).flatten.length →
      Mem.read e.nva (ckptAddr s.dev.saveSlot + i) = (nvaBlocks (parts ++ part3)).flatten.getD i 0) ∧
    e.pwr.journal = []) ∧
  (∀ (s : State), (s.dev.breath = 4) → (s.dev.mgt.running = []) → (s.dev.sys.porz = false) →
    Completes (.breathCommit [] []) s fun e =>
    e.breath = 5 ∧ e.pos.stopReq = [.pwr] ∧ e.nva = s.dev.nva ∧ e.pwr.slots = s.dev.pwr.slots ∧ e.pwr.journal = []) ∧
  (∀ (s : State) (parts part3 : List Byte), (s.dev.breath ≠ 4 ∨ s.dev.mgt.running ≠ []) →
    Yields (.breathCommit parts part3) s s.dev) ∧
  (∀ (s : State), (s.dev.breath = 3) →
    Completes .resumeComplete s fun e => e.breath = if s.dev.bit .pwrStatus 0 23 then 1 else 0) ∧
  (∀ (s : State), (s.dev.breath ≠ 3) →
    Yields .resumeComplete s s.dev)

/-- The control law stays within its limits, an evaluation stores its output and integrator, and a loop goes to SAFE and
  back as stated. Rests on R360, R361, R363, R365, R367, R368, R369, R370, R371, R372. -/
def Obligations.LoopsEvaluateHoldAndResume : Prop :=
  (∀ (d : Dev) (l : Nat) (frozen : Bool), (d.umin l ≤ d.umax l) →
    d.umin l ≤ (d.law l frozen).u ∧ (d.law l frozen).u ≤ d.umax l ∧
    d.umin l * 65536 ≤ (d.law l frozen).i ∧ (d.law l frozen).i ≤ d.umax l * 65536) ∧
  (∀ (s : State) (loop : Fin 256) (time : Nat), (s.dev.loopOn loop.val = true) → (s.dev.breath = 0) → (s.dev.loopSt
    loop.val = 1) → (s.dev.drives = true) → ((s.dev.at time).fbStale loop.val (s.dev.at time).now = false) →
    (s.dev.fbFrozen loop.val = false) → ((s.dev.at time).rcBin loop.val = none) → (s.dev.umin loop.val ≤ s.dev.umax
    loop.val) →
    Completes (.loopEvaluate loop false time) s fun e =>
    e.getInt .ctlLoopInt loop.val = ((s.dev.at time).law loop.val false).i ∧
    e.fld .ctlLoopStatus loop.val 0 16 = unsignedOf 16 ((s.dev.at time).law loop.val false).u ∧
    (e.ctl' loop.val).dterm = ((s.dev.at time).law loop.val false).dterm ∧
    (e.ctl' loop.val).yPrev = (s.dev.ctl' loop.val).sample ∧ e.loopSt loop.val = 1) ∧
  (∀ (s : State) (loop : Fin 256) (time : Nat), (s.dev.loopOn loop.val = true) → (s.dev.breath = 0) →
    Completes (.loopEvaluate loop true time) s fun e =>
    e.bit .ctlLoopStatus loop.val 26 = true ∧ e.bit .ctlEvent 0 0 = true ∧
    e.get .ctlLoopMissed loop.val = min (s.dev.get .ctlLoopMissed loop.val + 1) (2 ^ 32 - 1)) ∧
  (∀ (s : State) (loop : Fin 256) (missed : Bool) (time : Nat), (s.dev.loopOn loop.val = false ∨ s.dev.breath ≠ 0) →
    Yields (.loopEvaluate loop missed time) s (s.dev.at time)) ∧
  (∀ (s : State) (loop : Fin 256), (s.dev.loopSt loop.val = 3) → (s.dev.breath = 0) →
    Completes (.loopSafeTimeout loop) s fun e =>
    e.loopSt loop.val = 4 ∧ e.fld .ctlLoopStatus loop.val 0 16 = unsignedOf 16 (s.dev.safeOut loop.val) ∧
    e.bit .ctlEvent 0 2 = true ∧ (ECode.ctlSafe, loop.val) ∈ e.raised) ∧
  (∀ (s : State) (req : Fin 5) (loop : Fin 256), (s.dev.loopSt loop.val = 4) →
    Completes (.loopResume req loop) s fun e =>
    if s.dev.fbStale loop.val s.dev.now ∨ s.dev.fbFrozen loop.val then e = s.dev.refuse req.val .ctlFb
    else e.loopSt loop.val = 0 ∧ (e.ctl' loop.val).safeOut = none) ∧
  (∀ (s : State) (req : Fin 5) (loop : Fin 256), (s.dev.loopSt loop.val ≠ 4) → (s.dev.loopSt loop.val ≠ 3) →
    Yields (.loopResume req loop) s s.dev ∧ Yields (.loopSafeTimeout loop) s s.dev) ∧
  (∀ (s : State) (loop : Fin 256) (value : BitVec 16),
    Yields (.loopSpWrite loop value) s (s.dev.put .ctlLoopSp loop.val value.toNat)) ∧
  (∀ (s : State) (req : Fin 5),
    Completes (.ctlRcDataAccess req false none) s fun e =>
    e.outs = s.dev.outs ++ [.readData req.val 0x6c004
      (unsignedOf 64 ((s.dev.ctl' (s.dev.fld .ctlRcAddr 0 0 16 / 256)).bin (s.dev.fld .ctlRcAddr 0 0 16 % 256)) % 2 ^ 32)] ∧
    Tab.find e.latch 0x6c008 =
      some (unsignedOf 64 ((s.dev.ctl' (s.dev.fld .ctlRcAddr 0 0 16 / 256)).bin (s.dev.fld .ctlRcAddr 0 0 16 % 256)) / 2 ^ 32) ∧
    e.get .ctlRcAddr 0 = s.dev.get .ctlRcAddr 0 ∧ e.ctl = s.dev.ctl) ∧
  (∀ (s : State) (req : Fin 5),
    Completes (.ctlRcDataAccess req true none) s fun e =>
    e.outs = s.dev.outs ++ [.readData req.val 0x6c008 (match Tab.find s.dev.latch 0x6c008 with
      | some x => x
      | none => unsignedOf 64 ((s.dev.ctl' (s.dev.fld .ctlRcAddr 0 0 16 / 256)).bin (s.dev.fld .ctlRcAddr 0 0 16 % 256)) / 2 ^ 32)] ∧
    Tab.find e.latch 0x6c008 = none ∧
    e.get .ctlRcAddr 0 = (s.dev.fld .ctlRcAddr 0 0 16 + 1) % 65536 ∧ e.ctl = s.dev.ctl) ∧
  (∀ (s : State) (req : Fin 5) (high : Bool) (v : Word) (l b : Nat), (l = s.dev.fld .ctlRcAddr 0 0 16 / 256) → (b =
    s.dev.fld .ctlRcAddr 0 0 16 % 256) →
    Completes (.ctlRcDataAccess req high (some v)) s fun e =>
    e.fld .ctlRcAddr 0 0 16 = (s.dev.fld .ctlRcAddr 0 0 16 + if high then 1 else 0) % 65536 ∧
    if s.dev.loopOn l then
      e.ctl = s.dev.ctl ∧ e.get .glbLastErr req.val = ECode.ctlRunning.code.toNat
    else (e.ctl' l).bin b =
      signedOf 48 (setBits (unsignedOf 64 ((s.dev.ctl' l).bin b)) (if high then 32 else 0) 32 v.toNat % 2 ^ 48)) ∧
  (∀ (s : State) (port : Fin 8) (line : Option Word) (response : BitVec 40) (c : Nat) (u : Int) (rest : List (Nat ×
    Int)), (s.dev.ctl.stopped = false) → (s.dev.drives = true) → ((s.dev.lspPort port.val).asked = none) →
    ((s.dev.lspPort port.val).writes = (c, u) :: rest) →
    Completes (.lspFrame port line response) s fun e =>
    e.outs = s.dev.outs ++ [.lsp port.val (lspBits (2 ^ 31 + c <<< 24 + unsignedOf 16 u <<< 8))] ∧
    (e.lspPort port.val).writes = rest ∧ (e.lspPort port.val).asked = none) ∧
  (∀ (s : State) (port : Fin 8) (line : Option Word) (response : BitVec 40) (c : Nat), (s.dev.ctl.stopped = false) →
    ((s.dev.lspPort port.val).asked = some c) → (crcMsb 8 0x07 0 (beBytes (response.toNat / 256) 4) ≠ response.toNat %
    256) →
    Completes (.lspFrame port line response) s fun e =>
    e.get .lspCrcErr port.val = min (s.dev.get .lspCrcErr port.val + 1) (2 ^ 32 - 1)) ∧
  (∀ (s : State) (port : Fin 8) (line : Option Word) (response : BitVec 40), (s.dev.ctl.stopped = true) →
    Yields (.lspFrame port line response) s s.dev)

/-- Moves are queued or refused, an axis starts with its acceleration, homing ends at the edge, and a stop empties the
  queue. Rests on R373, R374, R375, R376, R377, R378, R379, R380. -/
def Obligations.AxesMoveHomeAndStop : Prop :=
  (∀ (s : State) (req : Fin 5) (axis : Fin 32),
    Completes (.axisPush req axis) s fun e =>
    match s.dev.pushRefusal axis.val with
    | some er => e = s.dev.refuse req.val er
    | none => (e.axis axis.val).queue = (s.dev.axis axis.val).queue ++
        [{ target := signedOf 32 (s.dev.get .ctlAxMoveTarget axis.val), v := s.dev.get .ctlAxMoveV axis.val,
           a := s.dev.get .ctlAxMoveA axis.val, blend := s.dev.bit .ctlAxMoveFlags axis.val 0 }] ∧
      (e.axis axis.val).pos = (s.dev.axis axis.val).pos ∧ e.outs = s.dev.outs) ∧
  (∀ (s : State) (axis : Fin 32),
    Completes (.axisHalt axis) s (fun e =>
      if (s.dev.axis axis.val).vel = 0 then (e.axis axis.val).queue = [] ∧ (e.axis axis.val).homing = none
      else (e.axis axis.val).halting = true ∧ (e.axis axis.val).queue = (s.dev.axis axis.val).queue) ∧
    Completes (.axisAbort axis) s (fun e =>
      (e.axis axis.val).queue = [] ∧ (e.axis axis.val).vel = 0 ∧ (e.axis axis.val).homing = none ∧ e.posLost axis.val = true) ∧
    Completes (.axisLimit axis) s (fun e =>
      (e.axis axis.val).queue = [] ∧ e.posLost axis.val = true ∧ e.bit .ctlAxStatus axis.val 28 = true ∧
      (ECode.axFault, axis.val) ∈ e.raised ∧ e.bit .ctlEvent 0 3 = true)) ∧
  (∀ (s : State) (req : Fin 5) (axis : Fin 32),
    Completes (.axisHome req axis) s fun e =>
    if !(s.dev.axis axis.val).queue.isEmpty ∨ (s.dev.axis axis.val).homing.isSome then e = s.dev.refuse req.val .axBusy
    else (e.axis axis.val).homing = some .seek ∧ e.bit .ctlAxStatus axis.val 29 = true) ∧
  (∀ (s : State) (axis : Fin 32) (seen : Int) (time : Nat) (m : Move), (s.dev.drives = true) → ((s.dev.axis
    axis.val).homing = none) → ((s.dev.axis axis.val).halting = false) → ((s.dev.axis axis.val).joint = none) →
    ((s.dev.axis axis.val).queue = [m]) → ((s.dev.axis axis.val).vel = 0) → ((s.dev.axis axis.val).dir = false) →
    ((s.dev.axis axis.val).dirFrom ≤ s.dev.now) → (0 < m.a) → (m.a ≤ m.v * 1000000) → ((s.dev.axis axis.val).pos + m.a
    < m.target * 1000000000000) →
    Completes (.axisPlanTick axis seen time) s fun e =>
    (e.axis axis.val).pos = (s.dev.axis axis.val).pos + m.a ∧ (e.axis axis.val).vel = m.a ∧
    (e.axis axis.val).queue = [m]) ∧
  (∀ (s : State) (axis : Fin 32) (seen : Int) (time : Nat), (s.dev.drives = false) → (seen ≠ 0) →
    Completes (.axisPlanTick axis seen time) s fun e =>
    (e.axis axis.val).pos = (s.dev.axis axis.val).pos + seen * 1000000000000 ∧
    (e.axis axis.val).lastStep = some (max s.dev.now time) ∧ e.outs = s.dev.outs) ∧
  (∀ (s : State) (axis : Fin 32), ((s.dev.axis axis.val).homing = some .touch) →
    Completes (.homeEdge axis) s fun e =>
    (e.axis axis.val).homing = none ∧ (e.axis axis.val).vel = 0 ∧ e.posLost axis.val = false ∧
    (e.axis axis.val).pos = s.dev.cfgSigned .homeOffset axis.val 0 32 * 1000000000000) ∧
  (∀ (s : State) (axis : Fin 32), ((s.dev.axis axis.val).homing = some .seek) → ((s.dev.axis axis.val).vel ≠ 0) →
    Completes (.homeEdge axis) s fun e => (e.axis axis.val).homing = some .brake) ∧
  (∀ (s : State) (bus : Fin 4) (time : Nat) (i : Nat), (s.dev.ctl.stopped = false) → (s.dev.drives = true) → (i < 8) →
    (s.dev.axisEnabled (8 * bus.val + i) = true) →
    Completes (.asbCycle bus time) s fun e => ∃ w, Out.asb bus.val i w ∈ e.outs) ∧
  (∀ (s : State) (bus : Fin 4) (time : Nat), (s.dev.ctl.stopped = true ∨ s.dev.drives = false) →
    Yields (.asbCycle bus time) s (s.dev.at time)) ∧
  (∀ (s : State) (axis : Fin 32) (w : Word), (slateCrc w.toNat = w.toNat % 256) → (bits w.toNat 29 3 = axis.val % 8) →
    (bits w.toNat 15 4 = 0) →
    Completes (.asbUpWord axis (some w)) s fun e =>
    e.get .ctlAxLoad axis.val = bits w.toNat 19 10 ∧ (e.axis axis.val).bad = 0 ∧ e.raised = s.dev.raised) ∧
  (∀ (s : State) (axis : Fin 32),
    Completes (.asbUpWord axis none) s fun e =>
    if (s.dev.axis axis.val).bad = 2 then (ECode.axFault, axis.val) ∈ e.raised ∧ e.posLost axis.val = true
    else (e.axis axis.val).bad = (s.dev.axis axis.val).bad + 1 ∧ e.raised = s.dev.raised) ∧
  (∀ (s : State) (axis : Fin 32),
    Completes (.axisRestHold axis) s fun e =>
    (e.axis axis.val).resting = (decide ((s.dev.axis axis.val).vel = 0) || (s.dev.axis axis.val).resting) ∧
    (e.axis axis.val).vel = (s.dev.axis axis.val).vel)

/-- A lane goes through the stages of bring-up one by one, starts again at a failure, and its losses and sleeps are told
  as stated. Rests on R392, R393, R394, R395, R396, R397, R401, R402, R403. -/
def Obligations.LanesComeUpAndAreMarked : Prop :=
  (∀ (s : State) (lane : Fin 1024), (s.dev.laneSt lane.val = 1) → (s.dev.laneMarked lane.val = false) → ((laneGroup
    lane.val).native = false ∨ s.dev.groupUp (laneGroup lane.val) = false) →
    Completes (.laneSignalDetect lane) s fun e =>
    e.laneSt lane.val = 2 ∧ (e.lane lane.val).good = true ∧ (e.lane lane.val).fails = 0 ∧ e.get .lneRateKbps lane.val = 12500000) ∧
  (∀ (s : State) (lane : Fin 1024), (s.dev.laneSt lane.val ≠ 1 ∨ s.dev.laneMarked lane.val = true) →
    Yields (.laneSignalDetect lane) s s.dev) ∧
  (∀ (s : State) (lane : Fin 1024) (ctle : BitVec 4) (taps : List (BitVec 6)) (width height : BitVec 8), (lane.val ∈
    s.dev.trainers lane.val) →
    (s.dev.laneSt lane.val = 2 → Completes (.laneStageDone lane ctle taps width height) s fun e =>
      e.laneSt lane.val = 3 ∧ e.bit .lneStatus lane.val 0 = true) ∧
    (s.dev.laneSt lane.val = 3 → Completes (.laneStageDone lane ctle taps width height) s fun e =>
      e.laneSt lane.val = 4 ∧ e.get .lneCtle lane.val = ctle.toNat) ∧
    (s.dev.laneSt lane.val = 4 → Completes (.laneStageDone lane ctle taps width height) s fun e => e.laneSt lane.val = 5) ∧
    (s.dev.laneSt lane.val = 5 → Completes (.laneStageDone lane ctle taps width height) s fun e =>
      e.laneSt lane.val = 6 ∧ ∀ i, i < 12 → e.get .lneDfe (12 * lane.val + i) = (taps.map BitVec.toNat).getD i 0) ∧
    (s.dev.laneSt lane.val = 6 → s.dev.eyeBelow .marginFail width.toNat height.toNat = false →
      Completes (.laneStageDone lane ctle taps width height) s fun e =>
        e.laneSt lane.val = 7 ∧ e.fld .lneStatus lane.val 16 8 = width.toNat ∧ e.fld .lneStatus lane.val 8 8 = height.toNat) ∧
    (s.dev.laneSt lane.val = 7 → 864 ≤ lane.val → lane.val < 960 →
      Completes (.laneStageDone lane ctle taps width height) s fun e => e.laneSt lane.val = 9) ∧
    (s.dev.laneSt lane.val = 7 → (∃ k ∈ s.dev.trainers lane.val, k ≠ lane.val ∧ s.dev.laneSt k ≠ 8 ∧ s.dev.laneSt k ≠ 9) →
      (s.dev.setLaneSt lane.val 8).trainers lane.val = s.dev.trainers lane.val →
      Completes (.laneStageDone lane ctle taps width height) s fun e => e.laneSt lane.val = 8)) ∧
  (∀ (s : State) (lane : Fin 1024) (ctle : BitVec 4) (taps : List (BitVec 6)) (width height : BitVec 8), (lane.val ∉
    s.dev.trainers lane.val) →
    Yields (.laneStageDone lane ctle taps width height) s s.dev) ∧
  (∀ (s : State) (lane : Fin 1024), (2 ≤ s.dev.laneSt lane.val) → (s.dev.laneSt lane.val ≤ 8) →
    Completes (.laneStageTimeout lane) s fun e =>
    if (s.dev.lane lane.val).fails < 2 then
      e.laneSt lane.val = 2 ∧ (e.lane lane.val).fails = (s.dev.lane lane.val).fails + 1 ∧
      (e.lane lane.val).start = ((s.dev.lane lane.val).start + 1) % 16
    else (ECode.lneTrain, lane.val) ∈ e.raised ∧ (e.lane lane.val).fails = 0) ∧
  (∀ (s : State) (lane : Fin 1024), (s.dev.laneSt lane.val = 9) →
    (∀ headers : Vector Byte 64, 16 ≤ (headers.toList.filter fun h => !headerValid h.toNat).length →
      Completes (.blockLockLoss lane headers) s (fun e => (ECode.lneDown, lane.val) ∈ e.raised ∧
      e.get .lneBlockErr lane.val =
        min (s.dev.get .lneBlockErr lane.val + (headers.toList.filter fun h => !headerValid h.toNat).length) (2 ^ 32 - 1))) ∧
    (∀ headers : Vector Byte 64, (headers.toList.filter fun h => !headerValid h.toNat).length < 16 →
      Yields (.blockLockLoss lane headers) s s.dev) ∧
    (s.dev.bit .lneStatus lane.val 26 = false → Completes (.laneLos lane) s (fun e =>
      (ECode.lneDown, lane.val) ∈ e.raised ∧ e.bit .lneEvent lane.val 2 = true)) ∧
    (s.dev.bit .lneStatus lane.val 26 = true → Yields (.laneLos lane) s s.dev) ∧
    ((laneGroup lane.val).native = true → Completes (.alignmentMarkerLost lane none none) s (fun e =>
      (ECode.lneDown, lane.val) ∈ e.raised)) ∧
    (∀ first second, s.dev.markerMissed lane.val first = false ∨ s.dev.markerMissed lane.val second = false →
      Yields (.alignmentMarkerLost lane first second) s s.dev) ∧
    (s.dev.bit .lneStatus lane.val 26 = false → Completes (.laneSignalReturn lane) s (fun e =>
      e.get .lneLosCount lane.val = min (s.dev.get .lneLosCount lane.val + 1) (2 ^ 32 - 1))) ∧
    (s.dev.bit .lneStatus lane.val 26 = false → ∀ tap, Completes (.laneRail lane tap) s (fun e =>
      (ECode.lneRail, lane.val) ∈ e.raised ∧ e.bit .lneEvent lane.val 5 = true ∧ lane.val ∈ e.lne.ahead))) ∧
  (∀ (s : State) (lane : Fin 1024) (tap : Fin 13) (headers : Vector Byte 64) (first second : Option (Byte × Word ×
    Word)), (s.dev.laneSt lane.val ≠ 9) →
    Yields (.blockLockLoss lane headers) s s.dev ∧ Yields (.laneLos lane) s s.dev ∧
    Yields (.alignmentMarkerLost lane first second) s s.dev ∧
    Yields (.laneSignalReturn lane) s s.dev ∧ Yields (.laneRail lane tap) s s.dev ∧ Yields (.laneBlockErrRetrain lane) s s.dev ∧
    Yields (.sleepBlock lane) s s.dev ∧ Yields (.laneWake lane) s s.dev) ∧
  (∀ (s : State) (lane : Fin 1024) (i : Nat), (laneGroup lane.val = .mirror i) → (s.dev.linkIsLive i = true) →
    (s.dev.laneMarked lane.val = false) → (s.dev.laneSt lane.val = 9) → ((s.dev.lane lane.val).good = true) →
    Completes (.laneBlockErrRetrain lane) s (fun e => e.linkIsLive i = false ∧ e.laneSt lane.val = 2 ∧
      e.get .lneRetrains lane.val = min (s.dev.get .lneRetrains lane.val + 1) (2 ^ 32 - 1)) ∧
    Completes (.laneRetrain lane) s (fun e => e.linkIsLive i = false ∧ e.laneSt lane.val = 2 ∧
      e.get .lneRetrains lane.val = min (s.dev.get .lneRetrains lane.val + 1) (2 ^ 32 - 1))) ∧
  (∀ (s : State) (lane : Fin 1024), (s.dev.groupUp (laneGroup lane.val) = false) →
    Yields (.laneRetrain lane) s s.dev) ∧
  (∀ (s : State) (lane : Fin 1024), (s.dev.laneSt lane.val = 9) → ((laneGroup lane.val).native = true) →
    Completes (.sleepBlock lane) s (fun e => e.bit .lneStatus lane.val 26 = true ∧ e.laneSt lane.val = 9) ∧
    (s.dev.bit .lneStatus lane.val 26 = true → Completes (.laneWake lane) s (fun e =>
      e.bit .lneStatus lane.val 26 = false ∧ e.get .lneWakes lane.val = min (s.dev.get .lneWakes lane.val + 1) (2 ^ 32 - 1)))) ∧
  (∀ (s : State) (lane : Fin 1024),
    Completes (.laneRevive lane) s fun e =>
    e.laneMarked lane.val = false ∧
    e.get .lneGlbDown 0 = s.dev.get .lneGlbDown 0 - (if s.dev.laneMarked lane.val then 1 else 0)) ∧
  (∀ (s : State) (lane : Fin 1024) (w h : BitVec 8), (s.dev.laneSt lane.val = 9) → (s.dev.bit .lneStatus lane.val 26 =
    false) → (s.dev.eyeBelow .marginFail w.toNat h.toNat = false) →
    Completes (.marginScanDone lane (some (w, h))) s fun e =>
    e.fld .lneStatus lane.val 16 8 = w.toNat ∧ e.fld .lneStatus lane.val 8 8 = h.toNat ∧ lane.val ∉ e.lne.ahead ∧
    (s.dev.eyeBelow .marginWarn w.toNat h.toNat = true → (ECode.lneMargin, lane.val) ∈ e.raised ∧ e.bit .lneEvent lane.val 3 = true)) ∧
  (∀ (s : State) (lane : Fin 1024) (eye : Option (BitVec 8 × BitVec 8)), (eye = none ∨ s.dev.laneSt lane.val ≠ 9 ∨
    s.dev.bit .lneStatus lane.val 26 = true) →
    Completes (.marginScanDone lane eye) s fun e =>
    e.get .lneScanSkip lane.val = min (s.dev.get .lneScanSkip lane.val + 1) (2 ^ 32 - 1) ∧ e.lne = s.dev.lne) ∧
  (∀ (s : State), (s.dev.taskActive 2 = false) →
    Completes .scanNow s fun e => e.taskBit 2 29 = true ∧ (e.task 2).due = [some (s.dev.now + s.dev.taskLimit 2 * 1000000000)]) ∧
  (∀ (s : State) (ep : Fin 20) (sub : Fin 4), (s.dev.bit .epCtrl ep.val 1 = false) → (s.dev.bit .epStatus ep.val 28 =
    false) →
    Completes (.ethLinkRetry ep sub) s fun e =>
    ∀ l ∈ (LaneGroup.ethernet ep.val).lanes, e.laneMarked l = false ∧ (e.lane l).good = false ∧
      (s.dev.laneSt l ≠ 10 → e.laneSt l = if s.dev.laneEnabled l && s.dev.lanePowered l then 1 else 0)) ∧
  (∀ (s : State) (ep : Fin 20) (sub : Fin 4), (s.dev.bit .epCtrl ep.val 1 = false) → (s.dev.bit .epStatus ep.val 28 =
    true) →
    Yields (.ethLinkRetry ep sub) s s.dev)

/-- Clusters switch references or hold over, and TEST, the pattern checker and injection act only in the states the rules
  give. Rests on R388, R389, R399, R400, R405. -/
def Obligations.ReferencesTestsAndInjection : Prop :=
  (∀ (s : State) (refB : Bool) (c : Nat), (c ∈ refClusters) → (s.dev.bit .cluStatus c 31 = true) → (s.dev.bit
    .cluStatus c 29 = false) → (s.dev.bit .cluStatus c 30 = refB) →
    Completes (.refBad refB) s fun e =>
    e.refOk refB = false ∧
    if s.dev.cfg .refSel c = 0 ∧ s.dev.refOk (!refB) then e.bit .cluStatus c 30 = !refB ∧ (ECode.lneRef, c) ∈ e.raised ∧
      e.get .cluRefSwitches c = min (s.dev.get .cluRefSwitches c + 1) (2 ^ 32 - 1)
    else e.bit .cluStatus c 29 = true ∧ e.bit .cluStatus c 30 = refB) ∧
  (∀ (s : State) (c : Nat), (s.dev.refOk false = true) → (c ∈ refClusters) → (s.dev.cfg .refSel c = 0) → (s.dev.bit
    .cluStatus c 31 = true) → (s.dev.bit .cluStatus c 30 = true) →
    Completes .refReturn s fun e => e.bit .cluStatus c 30 = false ∧ e.get .cluRefSwitches c = s.dev.get .cluRefSwitches c) ∧
  (∀ (s : State), (s.dev.refOk false = false) →
    Yields .refReturn s s.dev) ∧
  (∀ (s : State) (refB : Bool) (c : Nat), (c ∈ refClusters) → (s.dev.refAllowed c refB = true) → (s.dev.bit .cluStatus
    c 29 = true) →
    Completes (.referenceGood refB) s fun e =>
    e.refOk refB = true ∧ e.bit .cluStatus c 29 = false ∧ e.bit .cluStatus c 30 = refB ∧
    ∀ l, e.laneSt l = 9 ↔ s.dev.laneSt l = 9) ∧
  (∀ (s : State) (c : Nat), (c ∈ refClusters) → (s.dev.bit .cluStatus c 29 = true) →
    Completes .refHoldoverEnd s fun e =>
    e.bit .cluStatus c 29 = false ∧ e.bit .cluStatus c 31 = false ∧ c ∈ e.lne.noRef ∧ (ECode.lneRefLost, 0) ∈ e.raised ∧
    ∀ l ∈ clusterLanes c, e.laneSt l = 0) ∧
  (∀ (s : State), ((refClusters.filter fun c => s.dev.bit .cluStatus c 29) = []) →
    Yields .refHoldoverEnd s s.dev) ∧
  (∀ (s : State) (req : Fin 5) (lane : Fin 1024), (s.dev.laneSt lane.val ≠ 10) →
    (s.dev.testBusy lane.val = false → Completes (.laneTest req lane true) s fun e =>
      e.laneSt lane.val = 10 ∧ e.bit .lneCtrl lane.val 0 = true ∧ (e.lane lane.val).good = false) ∧
    (s.dev.testBusy lane.val = true → Yields (.laneTest req lane true) s (s.dev.refuse req.val .lneBusy)) ∧
    Yields (.laneTest req lane false) s s.dev) ∧
  (∀ (s : State) (req : Fin 5) (lane : Fin 1024), (s.dev.laneSt lane.val = 10) →
    Completes (.laneTest req lane false) s (fun e => e.laneSt lane.val ≠ 10 ∧ e.fld .lneCtrl lane.val 0 4 = 0) ∧
    Yields (.laneTest req lane true) s s.dev) ∧
  (∀ (s : State) (lane : Fin 1024),
    Completes (.prbsCheckerLock lane) s fun e =>
    if s.dev.laneSt lane.val = 10 ∧ s.dev.bit .lnePrbsCtrl lane.val 31 = true ∧ s.dev.bit .lneStatus lane.val 1 = false then
      e.bit .lneStatus lane.val 1 = true ∧ (e.lane lane.val).lockAt = some s.dev.now
    else e = s.dev) ∧
  (∀ (s : State) (lane : Fin 1024) (errors : Nat), (s.dev.bit .lneStatus lane.val 1 = true) →
    Completes (.prbsCheckerLockLoss lane errors) s fun e =>
    e.bit .lneStatus lane.val 1 = false ∧ (e.lane lane.val).lockAt = none ∧
    e.get .lnePrbsErr lane.val = min (2 ^ 64 - 1) (s.dev.get .lnePrbsErr lane.val + errors) ∧
    e.get .lneLockLoss lane.val = min (s.dev.get .lneLockLoss lane.val + 1) (2 ^ 32 - 1)) ∧
  (∀ (s : State) (req : Fin 5) (lane : Fin 1024) (value : Word), (s.dev.laneSt lane.val = 10) → (bits value.toNat 28 3
    = 0) → (bitOf value.toNat 31 = true) → ((s.dev.lane lane.val).injectAt = none) →
    Completes (.injCtrlWrite req lane value) s fun e =>
    e.get .lneInjCtrl lane.val = value.toNat ∧
    e.get .lneInjCount lane.val = min (s.dev.get .lneInjCount lane.val + 1) (2 ^ 32 - 1)) ∧
  (∀ (s : State) (req : Fin 5) (lane : Fin 1024) (value : Word), (s.dev.laneSt lane.val ≠ 10) → (bits value.toNat 28 3
    = 3 ∨ bits value.toNat 28 3 = 4) → (bitOf value.toNat 31 = true) → ((laneGroup lane.val).native = true) →
    (s.dev.laneFiring lane.val = false) → (s.dev.groupUp (laneGroup lane.val) = true) → ((s.dev.lanesInUse (laneGroup
    lane.val)).contains lane.val = true) →
    Completes (.injCtrlWrite req lane value) s fun e =>
    e.get .lneInjCtrl lane.val = value.toNat ∧
    e.get .lneInjCount lane.val = min (s.dev.get .lneInjCount lane.val + 1) (2 ^ 32 - 1) ∧
    (e.tx (lane.val / 4)).inject.getLast? = some ((e.tx (lane.val / 4)).block,
      (s.dev.lanesInUse (laneGroup lane.val)).idxOf lane.val, bits value.toNat 28 3 == 4)) ∧
  (∀ (s : State) (req : Fin 5) (lane : Fin 1024) (value : Word), (s.dev.laneSt lane.val ≠ 10) → (bits value.toNat 28 3
    = 3 ∨ bits value.toNat 28 3 = 4) → ((laneGroup lane.val).native = true) → (s.dev.laneFiring lane.val = true) →
    Yields (.injCtrlWrite req lane value) s (s.dev.refuse req.val .lneFiring))

/-- A granted write changes exactly its bytes, refreshes run or wait, corrections count, and a freeze takes its group
  offline. Rests on R410, R411, R412, R413, R414, R416, R418, R421, R422, R424, R435. -/
def Obligations.DramServesRefreshesAndFreezes : Prop :=
  (∀ (s : State) (sub : Fin 32) (w : DramReq) (bytes : List Byte), (s.dev.chOffline (sub.val / 2) = false) →
    (s.dev.refreshFirst sub.val = none) → (s.dev.dramReads sub.val = []) → (s.dev.dramWrites sub.val = [w]) → (w.data
    = some bytes) → (w.addr % 256 + bytes.length ≤ 256) → ((List.range 256).all (fun i => !s.dev.isPoisoned (w.addr /
    256 * 256 + i)) = true) →
    Completes (.dramGrant sub []) s fun e =>
    e.dramWrites sub.val = [] ∧ e.dramReads sub.val = [] ∧
    (∀ i, i < bytes.length → Mem.read e.dram (w.addr + i) = bytes.getD i 0) ∧
    (∀ a, a < w.addr ∨ w.addr + bytes.length ≤ a → Mem.read e.dram a = Mem.read s.dev.dram a)) ∧
  (∀ (s : State) (sub : Fin 32) (r : DramReq) (synd : List Nat), (s.dev.chOffline (sub.val / 2) = false) →
    (s.dev.chOffline (s.dev.dramPlace r.addr).ch = false) → (s.dev.refreshFirst sub.val = none) → (s.dev.dramReads
    sub.val = [r]) → (s.dev.dramWrites sub.val = []) → (r.more = 0) → (s.dev.readVerdict r 0 = .uncorrectable synd) →
    (r.q.val ≠ 8) →
    Completes (.dramGrant sub []) s fun e =>
    e.bit .dmcStatus (s.dev.dramPlace r.addr).ch 31 = true ∧ e.fld .dmcStatus (s.dev.dramPlace r.addr).ch 24 3 = 1 ∧
    (ECode.dmcFreeze, (s.dev.dramPlace r.addr).ch) ∈ e.raised ∧
    e.get .dmcUeCount (s.dev.dramPlace r.addr).ch = min (s.dev.get .dmcUeCount (s.dev.dramPlace r.addr).ch + 1) (2 ^ 32 - 1)) ∧
  (∀ (s : State) (sub : Fin 32) (r : DramReq) (fixes : List (Nat × Nat)), (s.dev.chOffline (sub.val / 2) = false) →
    (s.dev.chOffline (s.dev.dramPlace r.addr).ch = false) → (s.dev.refreshFirst sub.val = none) → (s.dev.dramReads
    sub.val = [r]) → (s.dev.dramWrites sub.val = []) → (r.more = 0) → (s.dev.readVerdict r 0 = .corrected fixes) →
    Completes (.dramGrant sub []) s fun e =>
    e.dmc.fixes = s.dev.dmc.fixes ++ fixes.map (fun f => ⟨r.addr / 64 * 64, f.2⟩) ∧ e.dram = s.dev.dram ∧
    e.raised = s.dev.raised) ∧
  (∀ (s : State) (sub : Fin 32), (s.dev.chOffline (sub.val / 2) = true) →
    Yields (.dramGrant sub []) s s.dev) ∧
  (∀ (s : State) (sub : Fin 32) (rank : Fin 2) (bankGroup : Fin 8) (bank : Fin 4) (busy : Bool) (b : Bank), (Tab.get
    s.dev.dmc.bank (sub.val, rank.val, bankGroup.val, bank.val) Bank.reset = b) →
    Completes (.refreshDue sub rank bankGroup bank busy) s fun e =>
    if busy ∧ b.postponed < 4 then
      Tab.get e.dmc.bank (sub.val, rank.val, bankGroup.val, bank.val) Bank.reset = { b with postponed := b.postponed + 1 } ∧
      e.outs = s.dev.outs
    else
      Tab.get e.dmc.bank (sub.val, rank.val, bankGroup.val, bank.val) Bank.reset =
        { b with row := none, record := none, postponed := 0 } ∧
      Out.dram (sub.val / 2) 4 bank.val ∈ e.outs) ∧
  (∀ (s : State) (channel : Fin 16) (celsius : Int),
    Completes (.dramTempRead channel celsius) s fun e =>
    Tab.get e.dmc.temp channel.val 0 = celsius ∧ ∀ k, k ≠ channel.val → Tab.get e.dmc.temp k 0 = Tab.get s.dev.dmc.temp k 0) ∧
  (∀ (s : State) (sub : Fin 32) (rank : Fin 2) (device : Fin 5) (codewords : BitVec 2),
    Completes (.ceWriteback sub rank device codewords) s fun e =>
    e.get .dmcCeCount (sub.val / 2) = min (s.dev.get .dmcCeCount (sub.val / 2) + max 1 codewords.toNat) (2 ^ 32 - 1)) ∧
  (∀ (s : State) (addr : BitVec 64) (cause : Fin 3) (command : Byte) (requester : Fin 9) (syndrome : List Word),
    (s.dev.chOffline (s.dev.dramPlace addr.toNat).ch = false) →
    Completes (.dramFreeze addr cause command requester syndrome) s fun e =>
    e.bit .dmcStatus (s.dev.dramPlace addr.toNat).ch 31 = true ∧
    e.fld .dmcStatus (s.dev.dramPlace addr.toNat).ch 24 3 = cause.val + 1 ∧
    (∀ i, i < 4 → e.chOffline (4 * ((s.dev.dramPlace addr.toNat).ch / 4) + i) = true) ∧
    e.bit .dmcGrpStatus ((s.dev.dramPlace addr.toNat).ch / 4) 31 = false ∧
    e.get .dmcFrzLinear (s.dev.dramPlace addr.toNat).ch = addr.toNat ∧
    (ECode.dmcFreeze, (s.dev.dramPlace addr.toNat).ch) ∈ e.raised) ∧
  (∀ (s : State) (addr : BitVec 64) (cause : Fin 3) (command : Byte) (requester : Fin 9) (syndrome : List Word),
    (s.dev.chOffline (s.dev.dramPlace addr.toNat).ch = true) →
    Yields (.dramFreeze addr cause command requester syndrome) s s.dev) ∧
  (∀ (s : State) (req : Fin 5) (group : Fin 4),
    Completes (.groupReset req group) s fun e =>
    if s.dev.inTransit .group group.val then e = s.dev.refuse req.val .transit
    else if s.dev.chOffline (4 * group.val) = false then e = s.dev.refuse req.val .dmcBusy
    else e.mgt.waiting = s.dev.mgt.waiting ++ [(.groupReset group.val, (s.dev.mgt.lastGeneration + 1) % 65536)]) ∧
  (∀ (s : State) (channel : Fin 16) (readEye writeEye : Byte),
    Completes (.retrainSlice channel readEye writeEye) s fun e =>
    e.bit .dmcStatus channel.val 28 = true ∧
    Tab.find e.dmc.best channel.val = some (match Tab.find s.dev.dmc.best channel.val with
      | some b => if min b.1 b.2 < min readEye.toNat writeEye.toNat then (readEye.toNat, writeEye.toNat) else b
      | none => (readEye.toNat, writeEye.toNat))) ∧
  (∀ (s : State) (group : Fin 4) (old : List (Byte × Byte)) (x : Nat × Nat), (s.dev.chOffline (4 * group.val) = false)
    → (Tab.find s.dev.dmc.best (4 * group.val) = some x) → (s.dev.fld .dmcTrainMin 0 0 6 ≤ x.1) → (s.dev.fld
    .dmcTrainMin 0 0 6 ≤ x.2) →
    Completes (.retrainDone group old) s fun e =>
    e.get .dmcRetrains (4 * group.val) = min (s.dev.get .dmcRetrains (4 * group.val) + 1) (2 ^ 32 - 1) ∧
    e.get .dmcMargin (4 * group.val) = (x.1 <<< 8 + x.2) % 2 ^ 64 ∧ Tab.find e.dmc.best (4 * group.val) = none ∧
    e.bit .dmcStatus (4 * group.val) 28 = false) ∧
  (∀ (s : State) (requester : Fin 9) (prio : BitVec 3),
    Completes (.dmcPrioWrite requester prio) s fun e =>
    e.get .dmcPrio requester.val = if requester.val < 2 then s.dev.get .dmcPrio requester.val else prio.toNat)

/-- Watchdogs, load windows, NVA operations, claims and masks change what the management chapter says, and a line write
  only its 64 bytes. Rests on R428, R430, R431, R432, R433, R434, R438, R439, R440, R442. -/
def Obligations.CoresInterruptsAndNva : Prop :=
  (∀ (s : State) (core : Fin 4), (s.dev.bit .glbWdtCfg core.val 31 = true) → (Tab.get s.dev.mgt.kicked core.val 0 +
    s.dev.watchdogPs core.val ≤ s.dev.now) →
    Completes (.watchdogExpire core) s fun e =>
    (∀ a, sramBase + 0x40000 * core.val ≤ a → a < sramBase + 0x40000 * (core.val + 1) → Mem.read e.mgt.sram a = 0) ∧
    (∀ a, a < sramBase + 0x40000 * core.val ∨ sramBase + 0x40000 * (core.val + 1) ≤ a → Mem.read e.mgt.sram a = Mem.read s.dev.mgt.sram a) ∧
    e.get .glbWdtResets core.val = min (s.dev.get .glbWdtResets core.val + 1) (2 ^ 32 - 1) ∧ (ECode.mgmtWdt, core.val) ∈ e.raised) ∧
  (∀ (s : State) (core : Fin 4), (s.dev.bit .glbWdtCfg core.val 31 = false ∨ s.dev.now < Tab.get s.dev.mgt.kicked
    core.val 0 + s.dev.watchdogPs core.val) →
    Yields (.watchdogExpire core) s s.dev) ∧
  (∀ (s : State) (core : Fin 4),
    Yields (.kick core) s { s.dev with mgt := { s.dev.mgt with kicked := Tab.set s.dev.mgt.kicked core.val s.dev.now } }) ∧
  (∀ (s : State) (c0 c1 c2 c3 : Fin 1600001) (wfi : BitVec 4),
    Completes (.loadWindow c0 c1 c2 c3 wfi) s fun e =>
    e.fld .glbMgmtStatus 0 0 8 = (c0.val + c1.val + c2.val + c3.val) * 100 / 6400000 ∧
    e.fld .glbMgmtStatus 0 24 4 = wfi.toNat ∧
    e.mgt.highWindows = (if 6400000 * 90 < (c0.val + c1.val + c2.val + c3.val) * 100 then min 1000 (s.dev.mgt.highWindows + 1) else 0) ∧
    (s.dev.bit .glbMgmtStatus 0 31 = false → e.mgt.highWindows = 1000 →
      e.bit .glbMgmtStatus 0 31 = true ∧ (ECode.mgmtOverload, 0) ∈ e.raised)) ∧
  (∀ (s : State) (r : Fin 5) (erase : Bool) (fetch : Option (Fin 4)), (s.dev.bit .nvaOpStatus r.val 31 = false) →
    (nvaAllowed r.val (s.dev.get .nvaOpAddr r.val / 2 ^ 30) (bits (s.dev.get .nvaOpAddr r.val) 6 19 * 64) (s.dev.get
    .nvaOpLines r.val) = true) → ((erase || s.dev.sourceOk (s.dev.get .nvaOpSrc r.val) (64 * s.dev.get .nvaOpLines
    r.val)) = true) → (r.val = 4 ∨ fetch.map (fun b => b.val) ≠ some (s.dev.get .nvaOpAddr r.val / 2 ^ 30)) →
    Completes (.nvaOpGo r erase fetch) s fun e =>
    e.mgt.ops = s.dev.mgt.ops ++ [{ requester := r.val, bank := s.dev.get .nvaOpAddr r.val / 2 ^ 30, line := bits (s.dev.get .nvaOpAddr r.val) 6 19,
                                    left := s.dev.get .nvaOpLines r.val, erase := erase, src := s.dev.get .nvaOpSrc r.val, body := [] }] ∧
    e.get .nvaOpStatus r.val = 2 ^ 31 ∧ e.get .nvaOpDone r.val = 0) ∧
  (∀ (s : State) (r : Fin 5) (erase : Bool) (fetch : Option (Fin 4)), (s.dev.bit .nvaOpStatus r.val 31 = true) →
    Yields (.nvaOpGo r erase fetch) s (s.dev.refuse r.val .nvaBusy)) ∧
  (∀ (s : State) (bank : Fin 4) (o : NvaOp), (s.dev.nvaServed bank.val = some o) → (o.requester ≠ 5) →
    Completes (.nvaLineWritten bank) s fun e =>
    (∀ i, i < 64 → Mem.read e.nva (o.bank * nvaBank + 64 * o.line + i) = (s.dev.nvaBytes o).getD i 0) ∧
    (∀ a, a < o.bank * nvaBank + 64 * o.line ∨ o.bank * nvaBank + 64 * o.line + 64 ≤ a → Mem.read e.nva a = Mem.read s.dev.nva a) ∧
    e.get .nvaOpDone o.requester = (s.dev.get .nvaOpDone o.requester + 1) % 2 ^ 64 ∧
    (o.left ≤ 1 → e.bit .nvaOpStatus o.requester 31 = false ∧ e.bit .nvaEvent 0 0 = true)) ∧
  (∀ (s : State) (bank : Fin 4), (s.dev.nvaServed bank.val = none) →
    Yields (.nvaLineWritten bank) s s.dev) ∧
  (∀ (s : State) (addr : BitVec 32) (c : Fin 4),
    Yields (.nvaEccError addr (some c) true) s (s.dev.count .nvaEccCe 0) ∧
    Completes (.nvaEccError addr (some c) false) s fun e =>
      (ECode.nvaEcc, 0) ∈ e.raised ∧ e.bit .nvaEvent 0 2 = true ∧ Out.busError c.val addr.toNat ∈ e.outs) ∧
  (∀ (s : State) (core : Fin 4) (fast : Bool),
    Completes (.irqModTimer core fast) s fun e =>
    if s.dev.modTimer core.val fast = 0 ∨ (Tab.get s.dev.mgt.moderation (modKey core.val fast) Moderation.idle).count = 0 ∨
        (Tab.get s.dev.mgt.moderation (modKey core.val fast) Moderation.idle).since.any
          (fun t => decide (s.dev.now < t + s.dev.modTimer core.val fast * 1000000)) then e = s.dev
    else (Tab.get e.mgt.moderation (modKey core.val fast) Moderation.idle).line = true) ∧
  (∀ (s : State) (reader core : Fin 5) (fast : Bool),
    Completes (.claim reader core fast) s fun e =>
    e.outs = s.dev.outs ++ [.readData reader.val (claimAddr core.val fast) (s.dev.claimWord (s.dev.bestSource core.val fast))] ∧
    (core.val ≠ 4 → Tab.get e.mgt.moderation (modKey core.val fast) Moderation.idle = Moderation.idle) ∧
    ∀ src, s.dev.bestSource core.val fast = some src → s.dev.irqSense src ≠ 0 → e.irqPending src = false) ∧
  (∀ (s : State) (word : Fin 64) (value edges : Word) (i : Nat), (i < 32) →
    Completes (.irqMaskSet word value) s (fun e =>
      e.bit .irqMaskSet word.val i = (s.dev.bit .irqMaskSet word.val i || value.getLsbD i)) ∧
    Completes (.irqMaskClr word value) s (fun e =>
      e.bit .irqMaskSet word.val i = (s.dev.bit .irqMaskSet word.val i && !value.getLsbD i)) ∧
    Completes (.irqPendSet word value) s (fun e =>
      e.bit .irqPendSet word.val i = (s.dev.bit .irqPendSet word.val i || value.getLsbD i)) ∧
    Completes (.irqPendClr word value edges) s (fun e =>
      e.bit .irqPendSet word.val i = ((s.dev.bit .irqPendSet word.val i &&
        !(value.getLsbD i && !(s.dev.irqSense (32 * word.val + i) == 0 && s.dev.bit .irqLevel word.val i))) ||
        (edges.getLsbD i && s.dev.irqSense (32 * word.val + i) != 0))))

/-- A fuse action burns one bit after its checks, writes its record first, and is refused while another is in progress.
  Rests on R445, R446, R447, R448, R450, R451, R452, R456, R457, R458, R459. -/
def Obligations.FuseBurnsFollowTheirRules : Prop :=
  (∀ (s : State) (req : Fin 5) (root : Fin 4) (signature : List Byte) (vpp : Bool) (b : Burn), (s.dev.sec.burning =
    some b) →
    Yields (.keyLock req) s (s.dev.refuse req.val .secLcDenied) ∧ Yields (.vceilDown req vpp) s (s.dev.refuse req.val .secLcDenied) ∧
    Yields (.floorUp req vpp) s (s.dev.refuse req.val .secLcDenied) ∧ Yields (.revoke req vpp) s (s.dev.refuse req.val .secLcDenied) ∧
    Yields (.rootProg req vpp) s (s.dev.refuse req.val .secLcDenied) ∧
    Yields (.keyInstall req root signature) s (s.dev.refuse req.val .secLcDenied) ∧
    Yields (.lcGo req vpp) s (s.dev.refuse req.val .secLcDenied)) ∧
  (∀ (s : State) (req : Fin 5), (s.dev.sec.burning = none) →
    Completes (.keyLock req) s (fun e => e.bit .secStatus 0 28 = false ∧ e.get .secLast 0 = (ECode.codeOf none).toNat) ∧
    (s.dev.sec.fuses.ceiling < 8 →
      Completes (.vceilDown req true) s (fun e => e.sec.burning = some .voltage ∧ e.sec.fuses = s.dev.sec.fuses ∧
        e.sec.log.length = s.dev.sec.log.length + 1) ∧
      Completes (.vceilDown req false) s (fun e => e.sec = s.dev.sec ∧ e.get .glbLastErr req.val = ECode.secVoltage.code.toNat)) ∧
    (8 ≤ s.dev.sec.fuses.ceiling → ∀ vpp, Yields (.vceilDown req vpp) s (s.dev.secRefuse req.val .secFuseCount)) ∧
    (s.dev.sec.fuses.floor < 63 → s.dev.sec.fuses.floor + 1 ≤ s.dev.get .secFwSvn 0 →
      Completes (.floorUp req true) s (fun e => e.sec.burning = some .floor ∧ e.sec.log.length = s.dev.sec.log.length + 1)) ∧
    (s.dev.sec.fuses.floor < 63 → s.dev.get .secFwSvn 0 < s.dev.sec.fuses.floor + 1 →
      ∀ vpp, Yields (.floorUp req vpp) s (s.dev.secRefuse req.val .secVersion))) ∧
  (∀ (s : State) (req : Fin 5) (k j : Nat), (s.dev.sec.burning = none) → (s.dev.fld .secArg 0 0 2 = k) → (bitOf
    s.dev.sec.fuses.revoked k = false) → (j < 4) → (j ≠ k) → (s.dev.sec.fuses.rootGood j = true) →
    Completes (.revoke req true) s fun e => e.sec.burning = some (.revoke k) ∧ e.sec.log.length = s.dev.sec.log.length + 1) ∧
  (∀ (s : State) (req : Fin 5) (vpp : Bool), (s.dev.sec.burning = none) → (bitOf s.dev.sec.fuses.revoked (s.dev.fld
    .secArg 0 0 2) = true ∨ (List.range 4).all (fun j => j == s.dev.fld .secArg 0 0 2 || !s.dev.sec.fuses.rootGood j)
    = true) →
    Yields (.revoke req vpp) s (s.dev.secRefuse req.val .secKeyRevoked)) ∧
  (∀ (s : State) (req : Fin 5), (s.dev.sec.burning = none) → (s.dev.lc < 2) → (bitOf s.dev.sec.fuses.rootProg
    (s.dev.fld .secArg 0 0 2) = false) →
    Completes (.rootProg req true) s fun e =>
    e.sec.burning = some (.rootProg (s.dev.fld .secArg 0 0 2) s.dev.rootKey) ∧ e.sec.log.length = s.dev.sec.log.length + 1) ∧
  (∀ (s : State) (req : Fin 5) (vpp : Bool), (s.dev.sec.burning = none) → (2 ≤ s.dev.lc) →
    Yields (.rootProg req vpp) s (s.dev.secRefuse req.val .secLcDenied)) ∧
  (∀ (s : State) (req : Fin 5) (root : Fin 4) (signature : List Byte), (s.dev.sec.burning = none) → (s.dev.lc ≠ 0) →
    (s.dev.lc ≠ 4) → (s.dev.bit .secStatus 0 28 = true) →
    Completes (.keyInstall req root signature) s fun e =>
    match s.dev.keyEntry (s.dev.fld .secArg 0 0 4) root.val signature with
    | none => e = s.dev.secRefuse req.val .secLcDenied
    | some key => Tab.find e.sec.keys (s.dev.fld .secArg 0 0 4) = some key ∧ e.sec.fuses = s.dev.sec.fuses) ∧
  (∀ (s : State) (req : Fin 5) (vpp : Bool), (s.dev.sec.burning = none) → (s.dev.lcBusy = true ∨ s.dev.lcAllowed
    (s.dev.fld .secArg 0 0 3) = false) →
    Yields (.lcGo req vpp) s (s.dev.secRefuse req.val .secLcDenied)) ∧
  (∀ (s : State) (req : Fin 5), (s.dev.sec.burning = none) → (s.dev.lcBusy = false) → (s.dev.lcAllowed (s.dev.fld
    .secArg 0 0 3) = true) → (s.dev.sec.fuses.t < 16) →
    Completes (.lcGo req true) s fun e =>
    e.sec.burning = some (.lifeCycle (s.dev.fld .secArg 0 0 3)) ∧ e.sec.log.length = s.dev.sec.log.length + 1) ∧
  (∀ (s : State) (b : Burn), (s.dev.sec.burning = some b) →
    Completes .fuseBurnDone s fun e => e.sec.fuses = s.dev.sec.fuses.burn b ∧ e.sec.burning = none ∧ e.sec.log = s.dev.sec.log) ∧
  (∀ (s : State), (s.dev.sec.burning = none) →
    Yields .fuseBurnDone s s.dev) ∧
  (∀ (s : State) (kind : Fin 5),
    Completes (.debugRequest kind) s fun e =>
    if kind.val < 2 ∨ (kind.val < 4 ∧ s.dev.lc ≠ 2) then e = s.dev.send (.debug 1)
    else e.outs = s.dev.outs ++ [.debug 0] ∧ e.get .glbLastErr 4 = ECode.secDebugLocked.code.toNat)

/-- A cold reset restarts at stage CLOCK with the NVA and fuses kept, each stage leads to the next, and lost references
  act as stated. Rests on R301, R352, R428, R449, R452, R460, R461, R462, R463, R467, R486. -/
def Obligations.ResetsAndStartUpStages : Prop :=
  (∀ (s : State) (req : Fin 5) (key : BitVec 16) (cores : BitVec 4), (key.toNat ≠ 0xc01d) →
    Yields (.glbResetCold req key) s (s.dev.refuse req.val .secLcDenied) ∧
    Yields (.glbResetMgmt req key) s (s.dev.refuse req.val .secLcDenied) ∧
    Yields (.glbResetCore req key cores) s (s.dev.refuse req.val .secLcDenied)) ∧
  (∀ (s : State) (req : Fin 5),
    Completes (.glbResetCold req 0xc01d) s fun e =>
    e.get .glbResetCause 0 = 4 ∧ e.stage = 1 ∧ e.sys.begun = false ∧ e.nva = s.dev.nva ∧ e.sec = s.dev.sec ∧
    e.get .posFireIndex 0 = 0 ∧ e.role = 0 ∧ e.img.active = none ∧ e.fireEn = false ∧ e.img.slots = s.dev.img.slots) ∧
  (∀ (s : State) (req : Fin 5),
    Completes (.glbResetMgmt req 0xc01d) s fun e =>
    ∀ a, sramBase ≤ a → a < sramBase + 4 * 0x40000 → Mem.read e.mgt.sram a = 0) ∧
  (∀ (s : State) (req : Fin 5) (cores : BitVec 4) (c : Fin 4), (cores.getLsbD c.val = true) →
    Completes (.glbResetCore req 0xc01d cores) s fun e =>
    e.get .glbWdtResets c.val = min (s.dev.get .glbWdtResets c.val + 1) (2 ^ 32 - 1) ∧ (ECode.mgmtWdt, c.val) ∈ e.raised ∧
    ∀ a, sramBase + 0x40000 * c.val ≤ a → a < sramBase + 0x40000 * (c.val + 1) → Mem.read e.mgt.sram a = 0) ∧
  (∀ (s : State), (s.dev.breath = 0 ∨ s.dev.breath = 5 ∨ s.dev.breath = 3) →
    Completes .porzAssert s fun e => e.get .glbResetCause 0 = 1 ∧ e.stage = 1 ∧ e.sys.porz = true ∧ e.nva = s.dev.nva) ∧
  (∀ (s : State), (s.dev.breath = 1 ∨ s.dev.breath = 2) →
    Completes .porzAssert s fun e => e.breath = 4 ∧ e.sys.porz = true) ∧
  (∀ (s : State) (pairId io33 : Bool),
    Completes (.startupBegin pairId io33) s fun e =>
    if s.dev.sys.begun ∨ s.dev.breath ≠ 0 then e = s.dev
    else e.sys.begun = true ∧ e.sys.io33 = io33 ∧ e.bit .ptnStatus 0 27 = pairId ∧ e.bit .pwrStatus 0 24 = true) ∧
  (∀ (s : State) (x : StageEnd), (s.dev.sys.begun = false ∨ s.dev.bit .glbBootStage 0 27 = true ∨ s.dev.stage ≠
    x.stage) →
    Yields (.startupStageDone x) s s.dev) ∧
  (∀ (s : State), (s.dev.sys.begun = true) → (s.dev.bit .glbBootStage 0 27 = false) →
    (s.dev.stage = 1 → Completes (.startupStageDone (.clock true)) s (fun e => e.stage = 2 ∧ e.bit .lneGlbStatus 0 1 = true) ∧
      Completes (.startupStageDone (.clock false)) s (fun e => e.stage = 1 ∧ e.bit .glbBootStage 0 27 = true ∧
        (ECode.clkEthref, 1) ∈ e.raised)) ∧
    (s.dev.stage = 2 → ∀ burned, Completes (.startupStageDone (.fuse burned)) s (fun e =>
      e.stage = 3 ∧ e.sec.stamp = e.lc ∧ e.sec.burning = none)) ∧
    (s.dev.stage = 3 → Yields (.startupStageDone .sram) s (s.dev.toStage 4)) ∧
    (s.dev.stage = 5 → Completes (.startupStageDone .cal) s (fun e => e.stage = 6 ∧ e.bit .calEvent 0 2 = true)) ∧
    (s.dev.stage = 7 → s.dev.img.shadow = none → Completes (.startupStageDone .zero) s (fun e =>
      e.stage = 8 ∧ (∀ a, Mem.read e.dram a = 0) ∧ e.dmc.poisoned = [])) ∧
    (s.dev.stage = 8 → Yields (.startupStageDone .image) s (s.dev.toStage 9)) ∧
    (s.dev.stage = 9 → newestOf (s.dev.pwr.slots.filter fun t => s.dev.recordValid t.1) = none → Yields (.startupStageDone .restore) s (s.dev.toStage 10)) ∧
    (s.dev.stage = 10 → ∀ toggles record, Completes (.startupStageDone (.role toggles record)) s (fun e =>
      e.stage = 15 ∧ e.role = s.dev.firstRole toggles record))) ∧
  (∀ (s : State) (locked : Bool),
    Completes (.clockRetry locked) s fun e =>
    if s.dev.stage = 1 ∧ s.dev.bit .glbBootStage 0 27 = true ∧ locked = true then e.stage = 2 ∧ e.bit .glbBootStage 0 27 = false
    else e = s.dev) ∧
  (∀ (s : State),
    Completes .ethrefLost s (fun e =>
      (ECode.clkEthref, 0) ∈ e.raised ∧ e.sys.noTime = true ∧ PinUser.sys ∈ e.pos.stopReq ∧ e.bit .lneGlbStatus 0 1 = false) ∧
    Completes .pcierefLost s (fun e =>
      (ECode.clkPcieref, 0) ∈ e.raised ∧ e.hst.linkUp = false ∧ e.bit .lneGlbStatus 0 0 = false ∧ e.pos = s.dev.pos)) ∧
  (∀ (s : State) (g : Nat), (g ∈ s.dev.groups) →
    Completes .sysrefLost s fun e =>
    (∀ i, i < 4 → e.chOffline (4 * g + i) = true) ∧ (ECode.dmcFreeze, 4 * g) ∈ e.raised ∧ e.bit .dmcEvent 0 0 = true) ∧
  (∀ (s : State) (b : Fin 4) (o : NvaOp), (s.dev.nvaServed b.val = some o) →
    Completes (.aonBrownout (some b)) s fun e =>
    e.stage = 1 ∧ e.get .glbResetCause 0 = 1 ∧
    ∀ a, a < o.bank * nvaBank + 64 * o.line ∨ o.bank * nvaBank + 64 * o.line + 64 ≤ a → Mem.read e.nva a = Mem.read s.dev.nva a) ∧
  (∀ (s : State),
    Completes (.aonBrownout none) s (fun e => e.stage = 1 ∧ e.get .glbResetCause 0 = 1 ∧ e.nva = s.dev.nva) ∧
    Completes .pgStable s (fun e => if s.dev.breath = 5 then e.get .glbResetCause 0 = 2 ∧ e.stage = 1
      else e = s.dev.setBit .pwrStatus 0 24 true) ∧
    Completes .pgFall s (fun e => if s.dev.sys.begun ∧ s.dev.stage ≠ 15 ∧ s.dev.breath = 0 then
        e.stage = 1 ∧ e.sys.begun = false ∧ e.get .glbResetCause 0 = s.dev.get .glbResetCause 0
      else e = s.dev.setBit .pwrStatus 0 24 false))

/-- A calibration run applies the mean of two measurements that agree, and otherwise aborts with its cause and applies
  nothing. Rests on R468, R469, R470, R471. -/
def Obligations.CalibrationRunsApplyOrAbort : Prop :=
  (∀ (s : State) (item : Byte), (item.toNat < 10) → (item.toNat ∉ s.dev.sys.running) →
    Completes (.calCtrlRun item) s fun e => e.sys.running = item.toNat :: s.dev.sys.running ∧ e.get .calCtrl 0 = item.toNat <<< 8) ∧
  (∀ (s : State) (item : Byte), (item.toNat = 10) → (item.toNat ∉ s.dev.sys.running) →
    Completes (.calCtrlRun item) s fun e => e.sys.running = item.toNat :: s.dev.sys.running ∧ e.get .calCtrl 0 = item.toNat <<< 8) ∧
  (∀ (s : State) (item : Byte), (10 < item.toNat ∨ item.toNat ∈ s.dev.sys.running) →
    Yields (.calCtrlRun item) s (s.dev.put .calCtrl 0 (item.toNat <<< 8))) ∧
  (∀ (s : State) (item : Fin 11) (k : Nat) (m1 m2 : Int), ((m1 - m2).natAbs ≤ calTolerance item.val) →
    (s.dev.sec.fuses.state ≠ 0) → (s.dev.sec.fuses.state ≠ 3) → (s.dev.calReady item.val k = true) → (item.val ≠ 8 ∨
    s.dev.bit .dmcStatus k 27 = true) →
    Completes (.calRunDone item [(k, true, m1, m2)]) s fun e =>
    (e.calCell item.val k).value = (if item.val = 9 then clampInt (divRoundAway (m1 + m2) 2) 720 800 else divRoundAway (m1 + m2) 2) ∧
    (e.calCell item.val k).interp = false ∧ (e.calCell item.val k).count = satAdd 32 (s.dev.calCell item.val k).count 1 ∧
    (e.calCell item.val k).fail = (s.dev.calCell item.val k).fail ∧ item.val ∉ e.sys.running ∧ e.sys.sets = s.dev.sys.sets) ∧
  (∀ (s : State) (item : Fin 11) (k : Nat) (ok : Bool) (m1 m2 : Int), (ok = false ∨ s.dev.calReady item.val k = false
    ∨ calTolerance item.val < (m1 - m2).natAbs) → (item.val ≠ 8 ∨ s.dev.bit .dmcStatus k 27 = true) →
    Completes (.calRunDone item [(k, ok, m1, m2)]) s fun e =>
    (e.calCell item.val k).value = s.dev.calInterp item.val k ∧
    (e.calCell item.val k).cause = (if ok = false ∨ s.dev.calReady item.val k = false then 1 else 2) ∧
    (e.calCell item.val k).fail = satAdd 32 (s.dev.calCell item.val k).fail 1 ∧
    (e.calCell item.val k).count = (s.dev.calCell item.val k).count ∧
    e.bit .calEvent 0 (if ok = false ∨ s.dev.calReady item.val k = false then 0 else 1) = true) ∧
  (∀ (s : State) (item : Fin 11) (k : Nat) (ok : Bool) (m1 m2 : Int), (item.val = 8) → (s.dev.bit .dmcStatus k 27 =
    false) →
    Yields (.calRunDone item [(k, ok, m1, m2)]) s
      { s.dev with sys := { s.dev.sys with running := s.dev.sys.running.filter fun i => i != item.val } })

/-- A command that changes only registers changes no register bit but those its footprint names. Rests on R5, R8, R12. -/
def Obligations.FrameOfRegisterOnlyCommands : Prop :=
  (∀ (s : State) (c : Instr), ((footprint s.dev c).unframed = false) → ((footprint s.dev c).breadth = 0) →
    ∀ t, exec c s = .next t → t.pending = s.pending ∧ (footprint s.dev c).holds s.dev t.dev)

/-- A command that changes one area of state beside registers changes nothing outside its footprint. Rests on R5, R8, R12. -/
def Obligations.FrameOfOneAreaCommands : Prop :=
  (∀ (s : State) (c : Instr), ((footprint s.dev c).unframed = false) → ((footprint s.dev c).breadth = 1) →
    ∀ t, exec c s = .next t → t.pending = s.pending ∧ (footprint s.dev c).holds s.dev t.dev)

/-- A command that changes two areas of state beside registers changes nothing outside its footprint. Rests on R5, R8,
  R12, R433, R434. -/
def Obligations.FrameOfTwoAreaCommands : Prop :=
  (∀ (s : State) (c : Instr), ((footprint s.dev c).unframed = false) → ((footprint s.dev c).breadth = 2) →
    ∀ t, exec c s = .next t → t.pending = s.pending ∧ (footprint s.dev c).holds s.dev t.dev)

/-- A command that changes three areas of state beside registers changes nothing outside its footprint. Rests on R5, R8,
  R12, R256, R345. -/
def Obligations.FrameOfThreeAreaCommands : Prop :=
  (∀ (s : State) (c : Instr), ((footprint s.dev c).unframed = false) → ((footprint s.dev c).breadth = 3) →
    ∀ t, exec c s = .next t → t.pending = s.pending ∧ (footprint s.dev c).holds s.dev t.dev)

/-- A command that changes four to seven areas of state changes nothing outside its footprint. Rests on R5, R8, R12, R256,
  R422. -/
def Obligations.FrameOfSevenAreaCommands : Prop :=
  (∀ (s : State) (c : Instr), ((footprint s.dev c).unframed = false) → (4 ≤ (footprint s.dev c).breadth) → ((footprint
    s.dev c).breadth ≤ 7) →
    ∀ t, exec c s = .next t → t.pending = s.pending ∧ (footprint s.dev c).holds s.dev t.dev)

/-- A command that changes eight areas of state or more changes nothing outside its footprint. Rests on R5, R8, R12, R256,
  R433. -/
def Obligations.FrameOfBroadCommands : Prop :=
  (∀ (s : State) (c : Instr), ((footprint s.dev c).unframed = false) → (8 ≤ (footprint s.dev c).breadth) →
    ∀ t, exec c s = .next t → t.pending = s.pending ∧ (footprint s.dev c).holds s.dev t.dev)
end

