-- ==== Sys2Proof/Laws/Bits.lean ====
section
/-! SUPPORT. Laws of bit fields: a field reads as it was set, the others stay. -/

namespace Sys2Proof.Machine

/-- A field set, as one number. -/
theorem setBits_eq (n l w v : Nat) :
    setBits n l w v = 2 ^ l * (2 ^ w * (n >>> (l + w)) + v % 2 ^ w) + n % 2 ^ l := by
  simp only [setBits, Nat.shiftLeft_eq, Nat.pow_add]
  ring

/-- Each bit after a field is set. -/
theorem testBit_setBits (n l w v i : Nat) :
    (setBits n l w v).testBit i = if l ≤ i ∧ i < l + w then v.testBit (i - l) else n.testBit i := by
  rw [setBits_eq, Nat.testBit_two_pow_mul_add _ (Nat.mod_lt _ (Nat.two_pow_pos l))]
  by_cases h1 : i < l
  · have h : ¬(l ≤ i ∧ i < l + w) := by omega
    rw [if_pos h1, if_neg h, Nat.testBit_mod_two_pow]
    simp [h1]
  · rw [if_neg h1, Nat.testBit_two_pow_mul_add _ (Nat.mod_lt _ (Nat.two_pow_pos w))]
    by_cases h2 : i - l < w
    · have h : l ≤ i ∧ i < l + w := by omega
      rw [if_pos h2, if_pos h, Nat.testBit_mod_two_pow]
      simp [h2]
    · have h : ¬(l ≤ i ∧ i < l + w) := by omega
      rw [if_neg h2, if_neg h, Nat.testBit_shiftRight]
      congr 1
      omega

/-- Each bit of a field. -/
theorem testBit_bits (n l w i : Nat) : (bits n l w).testBit i = (decide (i < w) && n.testBit (l + i)) := by
  simp [bits, Nat.testBit_mod_two_pow, Nat.testBit_shiftRight]

/-- A field reads as it was set. -/
@[simp] theorem bits_setBits_same (n l w v : Nat) : bits (setBits n l w v) l w = v % 2 ^ w := by
  apply Nat.eq_of_testBit_eq
  intro i
  rw [testBit_bits, testBit_setBits, Nat.testBit_mod_two_pow]
  by_cases h : i < w <;> simp [h]

/-- A field that lies outside the one set stays. -/
theorem bits_setBits_other (n l w v l' w' : Nat) (h : l' + w' ≤ l ∨ l + w ≤ l') :
    bits (setBits n l w v) l' w' = bits n l' w' := by
  apply Nat.eq_of_testBit_eq
  intro i
  rw [testBit_bits, testBit_bits, testBit_setBits]
  by_cases hi : i < w'
  · have : ¬(l ≤ l' + i ∧ l' + i < l + w) := by omega
    simp [this]
  · simp [hi]

/-- Setting a field inside the lowest m bits keeps the number below 2^m. -/
theorem setBits_lt {n l w v m : Nat} (hn : n < 2 ^ m) (hw : l + w ≤ m) : setBits n l w v < 2 ^ m := by
  apply Nat.lt_pow_two_of_testBit
  intro i hi
  rw [testBit_setBits]
  have : ¬(l ≤ i ∧ i < l + w) := by omega
  simp only [this, if_false]
  exact Nat.testBit_lt_two_pow (lt_of_lt_of_le hn (Nat.pow_le_pow_right (by norm_num) hi))

/-- A field is below 2^w. -/
theorem bits_lt (n l w : Nat) : bits n l w < 2 ^ w := Nat.mod_lt _ (Nat.two_pow_pos w)

end Sys2Proof.Machine
end

