-- ==== Sys2Proof/Laws/Table.lean ====
section
/-! SUPPORT. Laws of tables and byte memories: what is read after a write, and that writing keeps the canonical form. -/

namespace Sys2Proof.Machine

section Tables

variable {κ α : Type} [DecidableEq κ]

/-- An erased key is not listed. -/
@[simp] theorem Tab.find_erase_same (t : Tab κ α) (k : κ) : Tab.find (Tab.erase t k) k = none := by
  induction t with
  | nil => rfl
  | cons e t ih =>
    obtain ⟨j, v⟩ := e
    by_cases h : j = k <;> simp [Tab.erase, Tab.find, h, ih]

/-- Erasing one key leaves the others. -/
theorem Tab.find_erase_ne (t : Tab κ α) {k j : κ} (h : j ≠ k) : Tab.find (Tab.erase t k) j = Tab.find t j := by
  induction t with
  | nil => rfl
  | cons e t ih =>
    obtain ⟨i, v⟩ := e
    by_cases hi : i = k
    · subst hi; simp [Tab.erase, Tab.find, ih, Ne.symm h]
    · simp only [Tab.erase, if_neg hi, Tab.find, ih]

/-- A key reads as it was set. -/
@[simp] theorem Tab.get_set_same (t : Tab κ α) (k : κ) (v d : α) : Tab.get (Tab.set t k v) k d = v := by
  simp [Tab.get, Tab.set, Tab.find]

/-- A set key is listed with its value. -/
@[simp] theorem Tab.find_set_same (t : Tab κ α) (k : κ) (v : α) : Tab.find (Tab.set t k v) k = some v := by
  simp [Tab.set, Tab.find]

/-- Setting one key leaves the others. -/
theorem Tab.find_set_ne (t : Tab κ α) {k j : κ} (v : α) (h : j ≠ k) : Tab.find (Tab.set t k v) j = Tab.find t j := by
  simp [Tab.set, Tab.find, Ne.symm h, Tab.find_erase_ne t h]

/-- Setting one key leaves what the others read. -/
theorem Tab.get_set_ne (t : Tab κ α) {k j : κ} (v d : α) (h : j ≠ k) : Tab.get (Tab.set t k v) j d = Tab.get t j d := by
  simp [Tab.get, Tab.find_set_ne t v h]

end Tables

/-! ### Byte memories -/

/-- A form with a higher lower bound has a lower one as well. -/
theorem Mem.wfFrom_mono {m : Mem} {a b : Nat} (h : a ≤ b) (hm : Mem.wfFrom b m = true) : Mem.wfFrom a m = true := by
  cases m with
  | nil => rfl
  | cons c t =>
    obtain ⟨j, v⟩ := c
    simp only [Mem.wfFrom, Bool.and_eq_true, decide_eq_true_eq] at hm ⊢
    exact ⟨⟨by omega, hm.1.2⟩, hm.2⟩

/-- An address below all those listed reads as an unlisted one. -/
theorem Mem.read_below {m : Mem} {lo a : Nat} (hm : Mem.wfFrom lo m = true) (h : a < lo) : Mem.read m a = Mem.unlisted := by
  induction m generalizing lo with
  | nil => rfl
  | cons c t ih =>
    obtain ⟨j, v⟩ := c
    simp only [Mem.wfFrom, Bool.and_eq_true, decide_eq_true_eq] at hm
    have hj : j ≠ a := by omega
    simp only [Mem.read, if_neg hj]
    exact ih hm.2 (by omega)

/-- Inserting a byte that an unlisted address does not read as keeps the form. -/
theorem Mem.insert_wfFrom {m : Mem} {lo a : Nat} {b : Byte} (hm : Mem.wfFrom lo m = true) (ha : lo ≤ a)
    (hb : b ≠ Mem.unlisted) : Mem.wfFrom lo (Mem.insert m a b) = true := by
  induction m generalizing lo with
  | nil => simp [Mem.insert, Mem.wfFrom, ha, hb]
  | cons c t ih =>
    obtain ⟨j, v⟩ := c
    have h := hm
    simp only [Mem.wfFrom, Bool.and_eq_true, decide_eq_true_eq] at h
    unfold Mem.insert
    split
    · simp only [Mem.wfFrom, Bool.and_eq_true, decide_eq_true_eq, bne_iff_ne]
      exact ⟨⟨ha, hb⟩, ⟨by omega, by simpa using h.1.2⟩, h.2⟩
    · split
      · rename_i _ he
        subst he
        simp only [Mem.wfFrom, Bool.and_eq_true, decide_eq_true_eq, bne_iff_ne]
        exact ⟨⟨ha, hb⟩, h.2⟩
      · simp only [Mem.wfFrom, Bool.and_eq_true, decide_eq_true_eq]
        exact ⟨h.1, ih h.2 (by omega)⟩

/-- Dropping an address keeps the form. -/
theorem Mem.drop_wfFrom {m : Mem} {lo : Nat} (a : Nat) (hm : Mem.wfFrom lo m = true) :
    Mem.wfFrom lo (Mem.drop m a) = true := by
  induction m generalizing lo with
  | nil => rfl
  | cons c t ih =>
    obtain ⟨j, v⟩ := c
    have h := hm
    simp only [Mem.wfFrom, Bool.and_eq_true, decide_eq_true_eq] at h
    unfold Mem.drop
    split
    · exact Mem.wfFrom_mono (by omega) (ih h.2)
    · simp only [Mem.wfFrom, Bool.and_eq_true, decide_eq_true_eq]
      exact ⟨h.1, ih h.2⟩

/-- Writing a byte keeps the canonical form. -/
theorem Mem.write_wf {m : Mem} (a : Nat) (b : Byte) (hm : Mem.wf m = true) : Mem.wf (Mem.write m a b) = true := by
  unfold Mem.write
  split
  · exact Mem.drop_wfFrom a hm
  · rename_i hb; exact Mem.insert_wfFrom hm (Nat.zero_le a) hb

/-- Writing bytes keeps the canonical form. -/
theorem Mem.writeBytes_wf {m : Mem} (a : Nat) (bs : List Byte) (hm : Mem.wf m = true) :
    Mem.wf (Mem.writeBytes m a bs) = true := by
  induction bs generalizing m a with
  | nil => exact hm
  | cons b bs ih => exact ih (a + 1) (Mem.write_wf a b hm)

/-- Filtering entries keeps the form. -/
theorem Mem.filter_wfFrom {m : Mem} {lo : Nat} (p : Host.Cell → Bool) (hm : Mem.wfFrom lo m = true) :
    Mem.wfFrom lo (m.filter p) = true := by
  induction m generalizing lo with
  | nil => rfl
  | cons c t ih =>
    obtain ⟨j, v⟩ := c
    have h := hm
    simp only [Mem.wfFrom, Bool.and_eq_true, decide_eq_true_eq] at h
    by_cases hp : p (j, v) = true
    · rw [List.filter_cons_of_pos hp]
      simp only [Mem.wfFrom, Bool.and_eq_true, decide_eq_true_eq]
      exact ⟨h.1, ih h.2⟩
    · rw [List.filter_cons_of_neg hp]
      exact Mem.wfFrom_mono (by omega) (ih h.2)

/-- Writing zeros over a range keeps the canonical form. -/
theorem Mem.zero_wf {m : Mem} (a n : Nat) (hm : Mem.wf m = true) : Mem.wf (Mem.zero m a n) = true :=
  Mem.filter_wfFrom _ hm

/-- An inserted byte is read back. -/
theorem Mem.read_insert_same (m : Mem) (a : Nat) (b : Byte) : Mem.read (Mem.insert m a b) a = b := by
  induction m with
  | nil => simp [Mem.insert, Mem.read]
  | cons c t ih =>
    obtain ⟨j, v⟩ := c
    unfold Mem.insert
    split
    · simp [Mem.read]
    · split
      · simp [Mem.read]
      · rename_i h1 h2
        have hj : j ≠ a := fun e => h2 e.symm
        simp only [Mem.read, if_neg hj]
        exact ih

/-- Inserting a byte leaves every other address as it reads. -/
theorem Mem.read_insert_ne {m : Mem} (a : Nat) (b : Byte) {x : Nat} (hx : x ≠ a) :
    Mem.read (Mem.insert m a b) x = Mem.read m x := by
  induction m with
  | nil => simp [Mem.insert, Mem.read, Ne.symm hx]
  | cons c t ih =>
    obtain ⟨j, v⟩ := c
    unfold Mem.insert
    split
    · simp [Mem.read, Ne.symm hx]
    · split
      · rename_i h1 h2; subst h2; simp [Mem.read, Ne.symm hx]
      · by_cases hj : j = x <;> simp [Mem.read, hj, ih]

/-- A dropped address reads as an unlisted one. -/
theorem Mem.read_drop_same (m : Mem) (a : Nat) : Mem.read (Mem.drop m a) a = Mem.unlisted := by
  induction m with
  | nil => rfl
  | cons c t ih =>
    obtain ⟨j, v⟩ := c
    unfold Mem.drop
    split
    · exact ih
    · rename_i hj; simp only [Mem.read, if_neg hj]; exact ih

/-- Dropping an address leaves every other one as it reads. -/
theorem Mem.read_drop_ne {m : Mem} (a : Nat) {x : Nat} (hx : x ≠ a) : Mem.read (Mem.drop m a) x = Mem.read m x := by
  induction m with
  | nil => rfl
  | cons c t ih =>
    obtain ⟨j, v⟩ := c
    unfold Mem.drop
    split
    · rename_i hj; subst hj; simp [Mem.read, Ne.symm hx, ih]
    · by_cases hj : j = x <;> simp [Mem.read, hj, ih]

/-- A written byte is read back. -/
@[simp] theorem Mem.read_write_same (m : Mem) (a : Nat) (b : Byte) : Mem.read (Mem.write m a b) a = b := by
  unfold Mem.write
  split
  · rename_i hb; rw [hb]; exact Mem.read_drop_same m a
  · exact Mem.read_insert_same m a b

/-- Writing a byte leaves every other address as it reads. -/
theorem Mem.read_write_ne {m : Mem} (a : Nat) (b : Byte) {x : Nat} (hx : x ≠ a) :
    Mem.read (Mem.write m a b) x = Mem.read m x := by
  unfold Mem.write
  split
  · exact Mem.read_drop_ne a hx
  · exact Mem.read_insert_ne a b hx

/-- Writing bytes leaves every address outside them as it reads. -/
theorem Mem.read_writeBytes_outside {m : Mem} (a : Nat) (bs : List Byte) {x : Nat} (hx : x < a ∨ a + bs.length ≤ x) :
    Mem.read (Mem.writeBytes m a bs) x = Mem.read m x := by
  induction bs generalizing m a with
  | nil => rfl
  | cons b bs ih =>
    simp only [List.length_cons] at hx
    rw [Mem.writeBytes, ih (a + 1) (by omega), Mem.read_write_ne a b (by omega)]

/-- Written bytes are read back. -/
theorem Mem.read_writeBytes_inside (m : Mem) (a : Nat) (bs : List Byte) {i : Nat} (hi : i < bs.length) :
    Mem.read (Mem.writeBytes m a bs) (a + i) = bs.getD i 0 := by
  induction bs generalizing m a i with
  | nil => simp at hi
  | cons b bs ih =>
    cases i with
    | zero => rw [Mem.writeBytes, Mem.read_writeBytes_outside (a + 1) bs (by omega)]; simp
    | succ i =>
      have h := ih (m.write a b) (a + 1) (i := i) (by simpa using hi)
      rw [Mem.writeBytes, show a + (i + 1) = a + 1 + i by omega, h]
      simp

/-- Zeroing a range leaves every address outside it as it reads. -/
theorem Mem.read_zero_outside (m : Mem) (a n : Nat) {x : Nat} (hx : x < a ∨ a + n ≤ x) :
    Mem.read (Mem.zero m a n) x = Mem.read m x := by
  induction m with
  | nil => rfl
  | cons c t ih =>
    obtain ⟨j, v⟩ := c
    unfold Mem.zero at ih ⊢
    by_cases hj : j < a ∨ a + n ≤ j
    · rw [List.filter_cons_of_pos (by simpa using hj)]
      simp only [Mem.read, ih]
    · rw [List.filter_cons_of_neg (by simpa using hj), ih]
      have : j ≠ x := by omega
      simp [Mem.read, this]

/-- A zeroed address reads as 0. -/
theorem Mem.read_zero_inside (m : Mem) (a n : Nat) {x : Nat} (hx : a ≤ x ∧ x < a + n) :
    Mem.read (Mem.zero m a n) x = Mem.unlisted := by
  induction m with
  | nil => rfl
  | cons c t ih =>
    obtain ⟨j, v⟩ := c
    unfold Mem.zero at ih ⊢
    by_cases hj : j < a ∨ a + n ≤ j
    · rw [List.filter_cons_of_pos (by simpa using hj)]
      have : j ≠ x := by omega
      simp only [Mem.read, if_neg this, ih]
    · rw [List.filter_cons_of_neg (by simpa using hj), ih]

end Sys2Proof.Machine
end

