-- ==== Sys2Proof/Laws/State.lean ====
section
/-! SUPPORT. Laws of the controller's updates: one lemma for each field under each shared update, and what registers read
after them. -/

namespace Sys2Proof.Machine

variable (d : Dev)

/-! ### After a register set (Dev.wr) -/

@[simp] theorem Dev.wr_now (r : Reg) (k : Nat) (v : BitVec 64) : (d.wr r k v).now = d.now := rfl
@[simp] theorem Dev.wr_latch (r : Reg) (k : Nat) (v : BitVec 64) : (d.wr r k v).latch = d.latch := rfl
@[simp] theorem Dev.wr_raised (r : Reg) (k : Nat) (v : BitVec 64) : (d.wr r k v).raised = d.raised := rfl
@[simp] theorem Dev.wr_outs (r : Reg) (k : Nat) (v : BitVec 64) : (d.wr r k v).outs = d.outs := rfl
@[simp] theorem Dev.wr_dram (r : Reg) (k : Nat) (v : BitVec 64) : (d.wr r k v).dram = d.dram := rfl
@[simp] theorem Dev.wr_nva (r : Reg) (k : Nat) (v : BitVec 64) : (d.wr r k v).nva = d.nva := rfl
@[simp] theorem Dev.wr_draw (r : Reg) (k : Nat) (v : BitVec 64) : (d.wr r k v).draw = d.draw := rfl
@[simp] theorem Dev.wr_img (r : Reg) (k : Nat) (v : BitVec 64) : (d.wr r k v).img = d.img := rfl
@[simp] theorem Dev.wr_pos (r : Reg) (k : Nat) (v : BitVec 64) : (d.wr r k v).pos = d.pos := rfl
@[simp] theorem Dev.wr_cmp (r : Reg) (k : Nat) (v : BitVec 64) : (d.wr r k v).cmp = d.cmp := rfl
@[simp] theorem Dev.wr_cdc (r : Reg) (k : Nat) (v : BitVec 64) : (d.wr r k v).cdc = d.cdc := rfl
@[simp] theorem Dev.wr_ten (r : Reg) (k : Nat) (v : BitVec 64) : (d.wr r k v).ten = d.ten := rfl
@[simp] theorem Dev.wr_lnk (r : Reg) (k : Nat) (v : BitVec 64) : (d.wr r k v).lnk = d.lnk := rfl
@[simp] theorem Dev.wr_mgt (r : Reg) (k : Nat) (v : BitVec 64) : (d.wr r k v).mgt = d.mgt := rfl
@[simp] theorem Dev.wr_hst (r : Reg) (k : Nat) (v : BitVec 64) : (d.wr r k v).hst = d.hst := rfl
@[simp] theorem Dev.wr_sec (r : Reg) (k : Nat) (v : BitVec 64) : (d.wr r k v).sec = d.sec := rfl
@[simp] theorem Dev.wr_syn (r : Reg) (k : Nat) (v : BitVec 64) : (d.wr r k v).syn = d.syn := rfl
@[simp] theorem Dev.wr_ql (r : Reg) (k : Nat) (v : BitVec 64) : (d.wr r k v).ql = d.ql := rfl
@[simp] theorem Dev.wr_ptn (r : Reg) (k : Nat) (v : BitVec 64) : (d.wr r k v).ptn = d.ptn := rfl
@[simp] theorem Dev.wr_pwr (r : Reg) (k : Nat) (v : BitVec 64) : (d.wr r k v).pwr = d.pwr := rfl
@[simp] theorem Dev.wr_ins (r : Reg) (k : Nat) (v : BitVec 64) : (d.wr r k v).ins = d.ins := rfl
@[simp] theorem Dev.wr_lne (r : Reg) (k : Nat) (v : BitVec 64) : (d.wr r k v).lne = d.lne := rfl
@[simp] theorem Dev.wr_dmc (r : Reg) (k : Nat) (v : BitVec 64) : (d.wr r k v).dmc = d.dmc := rfl
@[simp] theorem Dev.wr_ctl (r : Reg) (k : Nat) (v : BitVec 64) : (d.wr r k v).ctl = d.ctl := rfl
@[simp] theorem Dev.wr_sys (r : Reg) (k : Nat) (v : BitVec 64) : (d.wr r k v).sys = d.sys := rfl

/-! ### After a register set from a number (Dev.put) -/

@[simp] theorem Dev.put_now (r : Reg) (k v : Nat) : (d.put r k v).now = d.now := rfl
@[simp] theorem Dev.put_latch (r : Reg) (k v : Nat) : (d.put r k v).latch = d.latch := rfl
@[simp] theorem Dev.put_raised (r : Reg) (k v : Nat) : (d.put r k v).raised = d.raised := rfl
@[simp] theorem Dev.put_outs (r : Reg) (k v : Nat) : (d.put r k v).outs = d.outs := rfl
@[simp] theorem Dev.put_dram (r : Reg) (k v : Nat) : (d.put r k v).dram = d.dram := rfl
@[simp] theorem Dev.put_nva (r : Reg) (k v : Nat) : (d.put r k v).nva = d.nva := rfl
@[simp] theorem Dev.put_draw (r : Reg) (k v : Nat) : (d.put r k v).draw = d.draw := rfl
@[simp] theorem Dev.put_img (r : Reg) (k v : Nat) : (d.put r k v).img = d.img := rfl
@[simp] theorem Dev.put_pos (r : Reg) (k v : Nat) : (d.put r k v).pos = d.pos := rfl
@[simp] theorem Dev.put_cmp (r : Reg) (k v : Nat) : (d.put r k v).cmp = d.cmp := rfl
@[simp] theorem Dev.put_cdc (r : Reg) (k v : Nat) : (d.put r k v).cdc = d.cdc := rfl
@[simp] theorem Dev.put_ten (r : Reg) (k v : Nat) : (d.put r k v).ten = d.ten := rfl
@[simp] theorem Dev.put_lnk (r : Reg) (k v : Nat) : (d.put r k v).lnk = d.lnk := rfl
@[simp] theorem Dev.put_mgt (r : Reg) (k v : Nat) : (d.put r k v).mgt = d.mgt := rfl
@[simp] theorem Dev.put_hst (r : Reg) (k v : Nat) : (d.put r k v).hst = d.hst := rfl
@[simp] theorem Dev.put_sec (r : Reg) (k v : Nat) : (d.put r k v).sec = d.sec := rfl
@[simp] theorem Dev.put_syn (r : Reg) (k v : Nat) : (d.put r k v).syn = d.syn := rfl
@[simp] theorem Dev.put_ql (r : Reg) (k v : Nat) : (d.put r k v).ql = d.ql := rfl
@[simp] theorem Dev.put_ptn (r : Reg) (k v : Nat) : (d.put r k v).ptn = d.ptn := rfl
@[simp] theorem Dev.put_pwr (r : Reg) (k v : Nat) : (d.put r k v).pwr = d.pwr := rfl
@[simp] theorem Dev.put_ins (r : Reg) (k v : Nat) : (d.put r k v).ins = d.ins := rfl
@[simp] theorem Dev.put_lne (r : Reg) (k v : Nat) : (d.put r k v).lne = d.lne := rfl
@[simp] theorem Dev.put_dmc (r : Reg) (k v : Nat) : (d.put r k v).dmc = d.dmc := rfl
@[simp] theorem Dev.put_ctl (r : Reg) (k v : Nat) : (d.put r k v).ctl = d.ctl := rfl
@[simp] theorem Dev.put_sys (r : Reg) (k v : Nat) : (d.put r k v).sys = d.sys := rfl

/-! ### After a signed register set (Dev.putInt) -/

@[simp] theorem Dev.putInt_now (r : Reg) (k : Nat) (v : Int) : (d.putInt r k v).now = d.now := rfl
@[simp] theorem Dev.putInt_latch (r : Reg) (k : Nat) (v : Int) : (d.putInt r k v).latch = d.latch := rfl
@[simp] theorem Dev.putInt_raised (r : Reg) (k : Nat) (v : Int) : (d.putInt r k v).raised = d.raised := rfl
@[simp] theorem Dev.putInt_outs (r : Reg) (k : Nat) (v : Int) : (d.putInt r k v).outs = d.outs := rfl
@[simp] theorem Dev.putInt_dram (r : Reg) (k : Nat) (v : Int) : (d.putInt r k v).dram = d.dram := rfl
@[simp] theorem Dev.putInt_nva (r : Reg) (k : Nat) (v : Int) : (d.putInt r k v).nva = d.nva := rfl
@[simp] theorem Dev.putInt_draw (r : Reg) (k : Nat) (v : Int) : (d.putInt r k v).draw = d.draw := rfl
@[simp] theorem Dev.putInt_img (r : Reg) (k : Nat) (v : Int) : (d.putInt r k v).img = d.img := rfl
@[simp] theorem Dev.putInt_pos (r : Reg) (k : Nat) (v : Int) : (d.putInt r k v).pos = d.pos := rfl
@[simp] theorem Dev.putInt_cmp (r : Reg) (k : Nat) (v : Int) : (d.putInt r k v).cmp = d.cmp := rfl
@[simp] theorem Dev.putInt_cdc (r : Reg) (k : Nat) (v : Int) : (d.putInt r k v).cdc = d.cdc := rfl
@[simp] theorem Dev.putInt_ten (r : Reg) (k : Nat) (v : Int) : (d.putInt r k v).ten = d.ten := rfl
@[simp] theorem Dev.putInt_lnk (r : Reg) (k : Nat) (v : Int) : (d.putInt r k v).lnk = d.lnk := rfl
@[simp] theorem Dev.putInt_mgt (r : Reg) (k : Nat) (v : Int) : (d.putInt r k v).mgt = d.mgt := rfl
@[simp] theorem Dev.putInt_hst (r : Reg) (k : Nat) (v : Int) : (d.putInt r k v).hst = d.hst := rfl
@[simp] theorem Dev.putInt_sec (r : Reg) (k : Nat) (v : Int) : (d.putInt r k v).sec = d.sec := rfl
@[simp] theorem Dev.putInt_syn (r : Reg) (k : Nat) (v : Int) : (d.putInt r k v).syn = d.syn := rfl
@[simp] theorem Dev.putInt_ql (r : Reg) (k : Nat) (v : Int) : (d.putInt r k v).ql = d.ql := rfl
@[simp] theorem Dev.putInt_ptn (r : Reg) (k : Nat) (v : Int) : (d.putInt r k v).ptn = d.ptn := rfl
@[simp] theorem Dev.putInt_pwr (r : Reg) (k : Nat) (v : Int) : (d.putInt r k v).pwr = d.pwr := rfl
@[simp] theorem Dev.putInt_ins (r : Reg) (k : Nat) (v : Int) : (d.putInt r k v).ins = d.ins := rfl
@[simp] theorem Dev.putInt_lne (r : Reg) (k : Nat) (v : Int) : (d.putInt r k v).lne = d.lne := rfl
@[simp] theorem Dev.putInt_dmc (r : Reg) (k : Nat) (v : Int) : (d.putInt r k v).dmc = d.dmc := rfl
@[simp] theorem Dev.putInt_ctl (r : Reg) (k : Nat) (v : Int) : (d.putInt r k v).ctl = d.ctl := rfl
@[simp] theorem Dev.putInt_sys (r : Reg) (k : Nat) (v : Int) : (d.putInt r k v).sys = d.sys := rfl

/-! ### After a field set (Dev.setFld) -/

@[simp] theorem Dev.setFld_now (r : Reg) (k l w v : Nat) : (d.setFld r k l w v).now = d.now := rfl
@[simp] theorem Dev.setFld_latch (r : Reg) (k l w v : Nat) : (d.setFld r k l w v).latch = d.latch := rfl
@[simp] theorem Dev.setFld_raised (r : Reg) (k l w v : Nat) : (d.setFld r k l w v).raised = d.raised := rfl
@[simp] theorem Dev.setFld_outs (r : Reg) (k l w v : Nat) : (d.setFld r k l w v).outs = d.outs := rfl
@[simp] theorem Dev.setFld_dram (r : Reg) (k l w v : Nat) : (d.setFld r k l w v).dram = d.dram := rfl
@[simp] theorem Dev.setFld_nva (r : Reg) (k l w v : Nat) : (d.setFld r k l w v).nva = d.nva := rfl
@[simp] theorem Dev.setFld_draw (r : Reg) (k l w v : Nat) : (d.setFld r k l w v).draw = d.draw := rfl
@[simp] theorem Dev.setFld_img (r : Reg) (k l w v : Nat) : (d.setFld r k l w v).img = d.img := rfl
@[simp] theorem Dev.setFld_pos (r : Reg) (k l w v : Nat) : (d.setFld r k l w v).pos = d.pos := rfl
@[simp] theorem Dev.setFld_cmp (r : Reg) (k l w v : Nat) : (d.setFld r k l w v).cmp = d.cmp := rfl
@[simp] theorem Dev.setFld_cdc (r : Reg) (k l w v : Nat) : (d.setFld r k l w v).cdc = d.cdc := rfl
@[simp] theorem Dev.setFld_ten (r : Reg) (k l w v : Nat) : (d.setFld r k l w v).ten = d.ten := rfl
@[simp] theorem Dev.setFld_lnk (r : Reg) (k l w v : Nat) : (d.setFld r k l w v).lnk = d.lnk := rfl
@[simp] theorem Dev.setFld_mgt (r : Reg) (k l w v : Nat) : (d.setFld r k l w v).mgt = d.mgt := rfl
@[simp] theorem Dev.setFld_hst (r : Reg) (k l w v : Nat) : (d.setFld r k l w v).hst = d.hst := rfl
@[simp] theorem Dev.setFld_sec (r : Reg) (k l w v : Nat) : (d.setFld r k l w v).sec = d.sec := rfl
@[simp] theorem Dev.setFld_syn (r : Reg) (k l w v : Nat) : (d.setFld r k l w v).syn = d.syn := rfl
@[simp] theorem Dev.setFld_ql (r : Reg) (k l w v : Nat) : (d.setFld r k l w v).ql = d.ql := rfl
@[simp] theorem Dev.setFld_ptn (r : Reg) (k l w v : Nat) : (d.setFld r k l w v).ptn = d.ptn := rfl
@[simp] theorem Dev.setFld_pwr (r : Reg) (k l w v : Nat) : (d.setFld r k l w v).pwr = d.pwr := rfl
@[simp] theorem Dev.setFld_ins (r : Reg) (k l w v : Nat) : (d.setFld r k l w v).ins = d.ins := rfl
@[simp] theorem Dev.setFld_lne (r : Reg) (k l w v : Nat) : (d.setFld r k l w v).lne = d.lne := rfl
@[simp] theorem Dev.setFld_dmc (r : Reg) (k l w v : Nat) : (d.setFld r k l w v).dmc = d.dmc := rfl
@[simp] theorem Dev.setFld_ctl (r : Reg) (k l w v : Nat) : (d.setFld r k l w v).ctl = d.ctl := rfl
@[simp] theorem Dev.setFld_sys (r : Reg) (k l w v : Nat) : (d.setFld r k l w v).sys = d.sys := rfl

/-! ### After a bit set (Dev.setBit) -/

@[simp] theorem Dev.setBit_now (r : Reg) (k i : Nat) (b : Bool) : (d.setBit r k i b).now = d.now := rfl
@[simp] theorem Dev.setBit_latch (r : Reg) (k i : Nat) (b : Bool) : (d.setBit r k i b).latch = d.latch := rfl
@[simp] theorem Dev.setBit_raised (r : Reg) (k i : Nat) (b : Bool) : (d.setBit r k i b).raised = d.raised := rfl
@[simp] theorem Dev.setBit_outs (r : Reg) (k i : Nat) (b : Bool) : (d.setBit r k i b).outs = d.outs := rfl
@[simp] theorem Dev.setBit_dram (r : Reg) (k i : Nat) (b : Bool) : (d.setBit r k i b).dram = d.dram := rfl
@[simp] theorem Dev.setBit_nva (r : Reg) (k i : Nat) (b : Bool) : (d.setBit r k i b).nva = d.nva := rfl
@[simp] theorem Dev.setBit_draw (r : Reg) (k i : Nat) (b : Bool) : (d.setBit r k i b).draw = d.draw := rfl
@[simp] theorem Dev.setBit_img (r : Reg) (k i : Nat) (b : Bool) : (d.setBit r k i b).img = d.img := rfl
@[simp] theorem Dev.setBit_pos (r : Reg) (k i : Nat) (b : Bool) : (d.setBit r k i b).pos = d.pos := rfl
@[simp] theorem Dev.setBit_cmp (r : Reg) (k i : Nat) (b : Bool) : (d.setBit r k i b).cmp = d.cmp := rfl
@[simp] theorem Dev.setBit_cdc (r : Reg) (k i : Nat) (b : Bool) : (d.setBit r k i b).cdc = d.cdc := rfl
@[simp] theorem Dev.setBit_ten (r : Reg) (k i : Nat) (b : Bool) : (d.setBit r k i b).ten = d.ten := rfl
@[simp] theorem Dev.setBit_lnk (r : Reg) (k i : Nat) (b : Bool) : (d.setBit r k i b).lnk = d.lnk := rfl
@[simp] theorem Dev.setBit_mgt (r : Reg) (k i : Nat) (b : Bool) : (d.setBit r k i b).mgt = d.mgt := rfl
@[simp] theorem Dev.setBit_hst (r : Reg) (k i : Nat) (b : Bool) : (d.setBit r k i b).hst = d.hst := rfl
@[simp] theorem Dev.setBit_sec (r : Reg) (k i : Nat) (b : Bool) : (d.setBit r k i b).sec = d.sec := rfl
@[simp] theorem Dev.setBit_syn (r : Reg) (k i : Nat) (b : Bool) : (d.setBit r k i b).syn = d.syn := rfl
@[simp] theorem Dev.setBit_ql (r : Reg) (k i : Nat) (b : Bool) : (d.setBit r k i b).ql = d.ql := rfl
@[simp] theorem Dev.setBit_ptn (r : Reg) (k i : Nat) (b : Bool) : (d.setBit r k i b).ptn = d.ptn := rfl
@[simp] theorem Dev.setBit_pwr (r : Reg) (k i : Nat) (b : Bool) : (d.setBit r k i b).pwr = d.pwr := rfl
@[simp] theorem Dev.setBit_ins (r : Reg) (k i : Nat) (b : Bool) : (d.setBit r k i b).ins = d.ins := rfl
@[simp] theorem Dev.setBit_lne (r : Reg) (k i : Nat) (b : Bool) : (d.setBit r k i b).lne = d.lne := rfl
@[simp] theorem Dev.setBit_dmc (r : Reg) (k i : Nat) (b : Bool) : (d.setBit r k i b).dmc = d.dmc := rfl
@[simp] theorem Dev.setBit_ctl (r : Reg) (k i : Nat) (b : Bool) : (d.setBit r k i b).ctl = d.ctl := rfl
@[simp] theorem Dev.setBit_sys (r : Reg) (k i : Nat) (b : Bool) : (d.setBit r k i b).sys = d.sys := rfl

/-! ### After a counter moved (Dev.add32) -/

@[simp] theorem Dev.add32_now (r : Reg) (k n : Nat) : (d.add32 r k n).now = d.now := rfl
@[simp] theorem Dev.add32_latch (r : Reg) (k n : Nat) : (d.add32 r k n).latch = d.latch := rfl
@[simp] theorem Dev.add32_raised (r : Reg) (k n : Nat) : (d.add32 r k n).raised = d.raised := rfl
@[simp] theorem Dev.add32_outs (r : Reg) (k n : Nat) : (d.add32 r k n).outs = d.outs := rfl
@[simp] theorem Dev.add32_dram (r : Reg) (k n : Nat) : (d.add32 r k n).dram = d.dram := rfl
@[simp] theorem Dev.add32_nva (r : Reg) (k n : Nat) : (d.add32 r k n).nva = d.nva := rfl
@[simp] theorem Dev.add32_draw (r : Reg) (k n : Nat) : (d.add32 r k n).draw = d.draw := rfl
@[simp] theorem Dev.add32_img (r : Reg) (k n : Nat) : (d.add32 r k n).img = d.img := rfl
@[simp] theorem Dev.add32_pos (r : Reg) (k n : Nat) : (d.add32 r k n).pos = d.pos := rfl
@[simp] theorem Dev.add32_cmp (r : Reg) (k n : Nat) : (d.add32 r k n).cmp = d.cmp := rfl
@[simp] theorem Dev.add32_cdc (r : Reg) (k n : Nat) : (d.add32 r k n).cdc = d.cdc := rfl
@[simp] theorem Dev.add32_ten (r : Reg) (k n : Nat) : (d.add32 r k n).ten = d.ten := rfl
@[simp] theorem Dev.add32_lnk (r : Reg) (k n : Nat) : (d.add32 r k n).lnk = d.lnk := rfl
@[simp] theorem Dev.add32_mgt (r : Reg) (k n : Nat) : (d.add32 r k n).mgt = d.mgt := rfl
@[simp] theorem Dev.add32_hst (r : Reg) (k n : Nat) : (d.add32 r k n).hst = d.hst := rfl
@[simp] theorem Dev.add32_sec (r : Reg) (k n : Nat) : (d.add32 r k n).sec = d.sec := rfl
@[simp] theorem Dev.add32_syn (r : Reg) (k n : Nat) : (d.add32 r k n).syn = d.syn := rfl
@[simp] theorem Dev.add32_ql (r : Reg) (k n : Nat) : (d.add32 r k n).ql = d.ql := rfl
@[simp] theorem Dev.add32_ptn (r : Reg) (k n : Nat) : (d.add32 r k n).ptn = d.ptn := rfl
@[simp] theorem Dev.add32_pwr (r : Reg) (k n : Nat) : (d.add32 r k n).pwr = d.pwr := rfl
@[simp] theorem Dev.add32_ins (r : Reg) (k n : Nat) : (d.add32 r k n).ins = d.ins := rfl
@[simp] theorem Dev.add32_lne (r : Reg) (k n : Nat) : (d.add32 r k n).lne = d.lne := rfl
@[simp] theorem Dev.add32_dmc (r : Reg) (k n : Nat) : (d.add32 r k n).dmc = d.dmc := rfl
@[simp] theorem Dev.add32_ctl (r : Reg) (k n : Nat) : (d.add32 r k n).ctl = d.ctl := rfl
@[simp] theorem Dev.add32_sys (r : Reg) (k n : Nat) : (d.add32 r k n).sys = d.sys := rfl

/-! ### After a counter moved by one (Dev.count) -/

@[simp] theorem Dev.count_now (r : Reg) (k : Nat) : (d.count r k).now = d.now := rfl
@[simp] theorem Dev.count_latch (r : Reg) (k : Nat) : (d.count r k).latch = d.latch := rfl
@[simp] theorem Dev.count_raised (r : Reg) (k : Nat) : (d.count r k).raised = d.raised := rfl
@[simp] theorem Dev.count_outs (r : Reg) (k : Nat) : (d.count r k).outs = d.outs := rfl
@[simp] theorem Dev.count_dram (r : Reg) (k : Nat) : (d.count r k).dram = d.dram := rfl
@[simp] theorem Dev.count_nva (r : Reg) (k : Nat) : (d.count r k).nva = d.nva := rfl
@[simp] theorem Dev.count_draw (r : Reg) (k : Nat) : (d.count r k).draw = d.draw := rfl
@[simp] theorem Dev.count_img (r : Reg) (k : Nat) : (d.count r k).img = d.img := rfl
@[simp] theorem Dev.count_pos (r : Reg) (k : Nat) : (d.count r k).pos = d.pos := rfl
@[simp] theorem Dev.count_cmp (r : Reg) (k : Nat) : (d.count r k).cmp = d.cmp := rfl
@[simp] theorem Dev.count_cdc (r : Reg) (k : Nat) : (d.count r k).cdc = d.cdc := rfl
@[simp] theorem Dev.count_ten (r : Reg) (k : Nat) : (d.count r k).ten = d.ten := rfl
@[simp] theorem Dev.count_lnk (r : Reg) (k : Nat) : (d.count r k).lnk = d.lnk := rfl
@[simp] theorem Dev.count_mgt (r : Reg) (k : Nat) : (d.count r k).mgt = d.mgt := rfl
@[simp] theorem Dev.count_hst (r : Reg) (k : Nat) : (d.count r k).hst = d.hst := rfl
@[simp] theorem Dev.count_sec (r : Reg) (k : Nat) : (d.count r k).sec = d.sec := rfl
@[simp] theorem Dev.count_syn (r : Reg) (k : Nat) : (d.count r k).syn = d.syn := rfl
@[simp] theorem Dev.count_ql (r : Reg) (k : Nat) : (d.count r k).ql = d.ql := rfl
@[simp] theorem Dev.count_ptn (r : Reg) (k : Nat) : (d.count r k).ptn = d.ptn := rfl
@[simp] theorem Dev.count_pwr (r : Reg) (k : Nat) : (d.count r k).pwr = d.pwr := rfl
@[simp] theorem Dev.count_ins (r : Reg) (k : Nat) : (d.count r k).ins = d.ins := rfl
@[simp] theorem Dev.count_lne (r : Reg) (k : Nat) : (d.count r k).lne = d.lne := rfl
@[simp] theorem Dev.count_dmc (r : Reg) (k : Nat) : (d.count r k).dmc = d.dmc := rfl
@[simp] theorem Dev.count_ctl (r : Reg) (k : Nat) : (d.count r k).ctl = d.ctl := rfl
@[simp] theorem Dev.count_sys (r : Reg) (k : Nat) : (d.count r k).sys = d.sys := rfl

/-! ### After a code raised (Dev.raise) -/

@[simp] theorem Dev.raise_now (e : ECode) (p : Nat) : (d.raise e p).now = d.now := rfl
@[simp] theorem Dev.raise_regs (e : ECode) (p : Nat) : (d.raise e p).regs = d.regs := rfl
@[simp] theorem Dev.raise_latch (e : ECode) (p : Nat) : (d.raise e p).latch = d.latch := rfl
@[simp] theorem Dev.raise_outs (e : ECode) (p : Nat) : (d.raise e p).outs = d.outs := rfl
@[simp] theorem Dev.raise_dram (e : ECode) (p : Nat) : (d.raise e p).dram = d.dram := rfl
@[simp] theorem Dev.raise_nva (e : ECode) (p : Nat) : (d.raise e p).nva = d.nva := rfl
@[simp] theorem Dev.raise_draw (e : ECode) (p : Nat) : (d.raise e p).draw = d.draw := rfl
@[simp] theorem Dev.raise_img (e : ECode) (p : Nat) : (d.raise e p).img = d.img := rfl
@[simp] theorem Dev.raise_pos (e : ECode) (p : Nat) : (d.raise e p).pos = d.pos := rfl
@[simp] theorem Dev.raise_cmp (e : ECode) (p : Nat) : (d.raise e p).cmp = d.cmp := rfl
@[simp] theorem Dev.raise_cdc (e : ECode) (p : Nat) : (d.raise e p).cdc = d.cdc := rfl
@[simp] theorem Dev.raise_ten (e : ECode) (p : Nat) : (d.raise e p).ten = d.ten := rfl
@[simp] theorem Dev.raise_lnk (e : ECode) (p : Nat) : (d.raise e p).lnk = d.lnk := rfl
@[simp] theorem Dev.raise_mgt (e : ECode) (p : Nat) : (d.raise e p).mgt = d.mgt := rfl
@[simp] theorem Dev.raise_hst (e : ECode) (p : Nat) : (d.raise e p).hst = d.hst := rfl
@[simp] theorem Dev.raise_sec (e : ECode) (p : Nat) : (d.raise e p).sec = d.sec := rfl
@[simp] theorem Dev.raise_syn (e : ECode) (p : Nat) : (d.raise e p).syn = d.syn := rfl
@[simp] theorem Dev.raise_ql (e : ECode) (p : Nat) : (d.raise e p).ql = d.ql := rfl
@[simp] theorem Dev.raise_ptn (e : ECode) (p : Nat) : (d.raise e p).ptn = d.ptn := rfl
@[simp] theorem Dev.raise_pwr (e : ECode) (p : Nat) : (d.raise e p).pwr = d.pwr := rfl
@[simp] theorem Dev.raise_ins (e : ECode) (p : Nat) : (d.raise e p).ins = d.ins := rfl
@[simp] theorem Dev.raise_lne (e : ECode) (p : Nat) : (d.raise e p).lne = d.lne := rfl
@[simp] theorem Dev.raise_dmc (e : ECode) (p : Nat) : (d.raise e p).dmc = d.dmc := rfl
@[simp] theorem Dev.raise_ctl (e : ECode) (p : Nat) : (d.raise e p).ctl = d.ctl := rfl
@[simp] theorem Dev.raise_sys (e : ECode) (p : Nat) : (d.raise e p).sys = d.sys := rfl

/-! ### After a write refused (Dev.refuse) -/

@[simp] theorem Dev.refuse_now (q : Nat) (e : ECode) : (d.refuse q e).now = d.now := rfl
@[simp] theorem Dev.refuse_latch (q : Nat) (e : ECode) : (d.refuse q e).latch = d.latch := rfl
@[simp] theorem Dev.refuse_outs (q : Nat) (e : ECode) : (d.refuse q e).outs = d.outs := rfl
@[simp] theorem Dev.refuse_dram (q : Nat) (e : ECode) : (d.refuse q e).dram = d.dram := rfl
@[simp] theorem Dev.refuse_nva (q : Nat) (e : ECode) : (d.refuse q e).nva = d.nva := rfl
@[simp] theorem Dev.refuse_draw (q : Nat) (e : ECode) : (d.refuse q e).draw = d.draw := rfl
@[simp] theorem Dev.refuse_img (q : Nat) (e : ECode) : (d.refuse q e).img = d.img := rfl
@[simp] theorem Dev.refuse_pos (q : Nat) (e : ECode) : (d.refuse q e).pos = d.pos := rfl
@[simp] theorem Dev.refuse_cmp (q : Nat) (e : ECode) : (d.refuse q e).cmp = d.cmp := rfl
@[simp] theorem Dev.refuse_cdc (q : Nat) (e : ECode) : (d.refuse q e).cdc = d.cdc := rfl
@[simp] theorem Dev.refuse_ten (q : Nat) (e : ECode) : (d.refuse q e).ten = d.ten := rfl
@[simp] theorem Dev.refuse_lnk (q : Nat) (e : ECode) : (d.refuse q e).lnk = d.lnk := rfl
@[simp] theorem Dev.refuse_mgt (q : Nat) (e : ECode) : (d.refuse q e).mgt = d.mgt := rfl
@[simp] theorem Dev.refuse_hst (q : Nat) (e : ECode) : (d.refuse q e).hst = d.hst := rfl
@[simp] theorem Dev.refuse_sec (q : Nat) (e : ECode) : (d.refuse q e).sec = d.sec := rfl
@[simp] theorem Dev.refuse_syn (q : Nat) (e : ECode) : (d.refuse q e).syn = d.syn := rfl
@[simp] theorem Dev.refuse_ql (q : Nat) (e : ECode) : (d.refuse q e).ql = d.ql := rfl
@[simp] theorem Dev.refuse_ptn (q : Nat) (e : ECode) : (d.refuse q e).ptn = d.ptn := rfl
@[simp] theorem Dev.refuse_pwr (q : Nat) (e : ECode) : (d.refuse q e).pwr = d.pwr := rfl
@[simp] theorem Dev.refuse_ins (q : Nat) (e : ECode) : (d.refuse q e).ins = d.ins := rfl
@[simp] theorem Dev.refuse_lne (q : Nat) (e : ECode) : (d.refuse q e).lne = d.lne := rfl
@[simp] theorem Dev.refuse_dmc (q : Nat) (e : ECode) : (d.refuse q e).dmc = d.dmc := rfl
@[simp] theorem Dev.refuse_ctl (q : Nat) (e : ECode) : (d.refuse q e).ctl = d.ctl := rfl
@[simp] theorem Dev.refuse_sys (q : Nat) (e : ECode) : (d.refuse q e).sys = d.sys := rfl

/-! ### After something sent (Dev.send) -/

@[simp] theorem Dev.send_now (o : Out) : (d.send o).now = d.now := rfl
@[simp] theorem Dev.send_regs (o : Out) : (d.send o).regs = d.regs := rfl
@[simp] theorem Dev.send_latch (o : Out) : (d.send o).latch = d.latch := rfl
@[simp] theorem Dev.send_raised (o : Out) : (d.send o).raised = d.raised := rfl
@[simp] theorem Dev.send_dram (o : Out) : (d.send o).dram = d.dram := rfl
@[simp] theorem Dev.send_nva (o : Out) : (d.send o).nva = d.nva := rfl
@[simp] theorem Dev.send_draw (o : Out) : (d.send o).draw = d.draw := rfl
@[simp] theorem Dev.send_img (o : Out) : (d.send o).img = d.img := rfl
@[simp] theorem Dev.send_pos (o : Out) : (d.send o).pos = d.pos := rfl
@[simp] theorem Dev.send_cmp (o : Out) : (d.send o).cmp = d.cmp := rfl
@[simp] theorem Dev.send_cdc (o : Out) : (d.send o).cdc = d.cdc := rfl
@[simp] theorem Dev.send_ten (o : Out) : (d.send o).ten = d.ten := rfl
@[simp] theorem Dev.send_lnk (o : Out) : (d.send o).lnk = d.lnk := rfl
@[simp] theorem Dev.send_mgt (o : Out) : (d.send o).mgt = d.mgt := rfl
@[simp] theorem Dev.send_hst (o : Out) : (d.send o).hst = d.hst := rfl
@[simp] theorem Dev.send_sec (o : Out) : (d.send o).sec = d.sec := rfl
@[simp] theorem Dev.send_syn (o : Out) : (d.send o).syn = d.syn := rfl
@[simp] theorem Dev.send_ql (o : Out) : (d.send o).ql = d.ql := rfl
@[simp] theorem Dev.send_ptn (o : Out) : (d.send o).ptn = d.ptn := rfl
@[simp] theorem Dev.send_pwr (o : Out) : (d.send o).pwr = d.pwr := rfl
@[simp] theorem Dev.send_ins (o : Out) : (d.send o).ins = d.ins := rfl
@[simp] theorem Dev.send_lne (o : Out) : (d.send o).lne = d.lne := rfl
@[simp] theorem Dev.send_dmc (o : Out) : (d.send o).dmc = d.dmc := rfl
@[simp] theorem Dev.send_ctl (o : Out) : (d.send o).ctl = d.ctl := rfl
@[simp] theorem Dev.send_sys (o : Out) : (d.send o).sys = d.sys := rfl

/-! ### After a free value drawn (Dev.drawn) -/

@[simp] theorem Dev.drawn_now  : (d.drawn ).now = d.now := rfl
@[simp] theorem Dev.drawn_regs  : (d.drawn ).regs = d.regs := rfl
@[simp] theorem Dev.drawn_latch  : (d.drawn ).latch = d.latch := rfl
@[simp] theorem Dev.drawn_raised  : (d.drawn ).raised = d.raised := rfl
@[simp] theorem Dev.drawn_outs  : (d.drawn ).outs = d.outs := rfl
@[simp] theorem Dev.drawn_dram  : (d.drawn ).dram = d.dram := rfl
@[simp] theorem Dev.drawn_nva  : (d.drawn ).nva = d.nva := rfl
@[simp] theorem Dev.drawn_img  : (d.drawn ).img = d.img := rfl
@[simp] theorem Dev.drawn_pos  : (d.drawn ).pos = d.pos := rfl
@[simp] theorem Dev.drawn_cmp  : (d.drawn ).cmp = d.cmp := rfl
@[simp] theorem Dev.drawn_cdc  : (d.drawn ).cdc = d.cdc := rfl
@[simp] theorem Dev.drawn_ten  : (d.drawn ).ten = d.ten := rfl
@[simp] theorem Dev.drawn_lnk  : (d.drawn ).lnk = d.lnk := rfl
@[simp] theorem Dev.drawn_mgt  : (d.drawn ).mgt = d.mgt := rfl
@[simp] theorem Dev.drawn_hst  : (d.drawn ).hst = d.hst := rfl
@[simp] theorem Dev.drawn_sec  : (d.drawn ).sec = d.sec := rfl
@[simp] theorem Dev.drawn_syn  : (d.drawn ).syn = d.syn := rfl
@[simp] theorem Dev.drawn_ql  : (d.drawn ).ql = d.ql := rfl
@[simp] theorem Dev.drawn_ptn  : (d.drawn ).ptn = d.ptn := rfl
@[simp] theorem Dev.drawn_pwr  : (d.drawn ).pwr = d.pwr := rfl
@[simp] theorem Dev.drawn_ins  : (d.drawn ).ins = d.ins := rfl
@[simp] theorem Dev.drawn_lne  : (d.drawn ).lne = d.lne := rfl
@[simp] theorem Dev.drawn_dmc  : (d.drawn ).dmc = d.dmc := rfl
@[simp] theorem Dev.drawn_ctl  : (d.drawn ).ctl = d.ctl := rfl
@[simp] theorem Dev.drawn_sys  : (d.drawn ).sys = d.sys := rfl

/-! ### After time moved (Dev.at) -/

@[simp] theorem Dev.at_regs (t : Nat) : (d.at t).regs = d.regs := rfl
@[simp] theorem Dev.at_latch (t : Nat) : (d.at t).latch = d.latch := rfl
@[simp] theorem Dev.at_raised (t : Nat) : (d.at t).raised = d.raised := rfl
@[simp] theorem Dev.at_outs (t : Nat) : (d.at t).outs = d.outs := rfl
@[simp] theorem Dev.at_dram (t : Nat) : (d.at t).dram = d.dram := rfl
@[simp] theorem Dev.at_nva (t : Nat) : (d.at t).nva = d.nva := rfl
@[simp] theorem Dev.at_draw (t : Nat) : (d.at t).draw = d.draw := rfl
@[simp] theorem Dev.at_img (t : Nat) : (d.at t).img = d.img := rfl
@[simp] theorem Dev.at_pos (t : Nat) : (d.at t).pos = d.pos := rfl
@[simp] theorem Dev.at_cmp (t : Nat) : (d.at t).cmp = d.cmp := rfl
@[simp] theorem Dev.at_cdc (t : Nat) : (d.at t).cdc = d.cdc := rfl
@[simp] theorem Dev.at_ten (t : Nat) : (d.at t).ten = d.ten := rfl
@[simp] theorem Dev.at_lnk (t : Nat) : (d.at t).lnk = d.lnk := rfl
@[simp] theorem Dev.at_mgt (t : Nat) : (d.at t).mgt = d.mgt := rfl
@[simp] theorem Dev.at_hst (t : Nat) : (d.at t).hst = d.hst := rfl
@[simp] theorem Dev.at_sec (t : Nat) : (d.at t).sec = d.sec := rfl
@[simp] theorem Dev.at_syn (t : Nat) : (d.at t).syn = d.syn := rfl
@[simp] theorem Dev.at_ql (t : Nat) : (d.at t).ql = d.ql := rfl
@[simp] theorem Dev.at_ptn (t : Nat) : (d.at t).ptn = d.ptn := rfl
@[simp] theorem Dev.at_pwr (t : Nat) : (d.at t).pwr = d.pwr := rfl
@[simp] theorem Dev.at_ins (t : Nat) : (d.at t).ins = d.ins := rfl
@[simp] theorem Dev.at_lne (t : Nat) : (d.at t).lne = d.lne := rfl
@[simp] theorem Dev.at_dmc (t : Nat) : (d.at t).dmc = d.dmc := rfl
@[simp] theorem Dev.at_ctl (t : Nat) : (d.at t).ctl = d.ctl := rfl
@[simp] theorem Dev.at_sys (t : Nat) : (d.at t).sys = d.sys := rfl

/-! ### Registers -/

/-- A register reads as it was set. -/
@[simp] theorem Dev.rd_wr_same (r : Reg) (k : Nat) (v : BitVec 64) : (d.wr r k v).rd r k = v := by
  simp [Dev.rd, Dev.wr]

/-- Setting a register leaves the others. -/
theorem Dev.rd_wr_ne {r q : Reg} {k j : Nat} (v : BitVec 64) (h : (q, j) ≠ (r, k)) : (d.wr r k v).rd q j = d.rd q j := by
  simp [Dev.rd, Dev.wr, Tab.get_set_ne _ _ _ h]

/-- Setting a register leaves every register of another name. -/
theorem Dev.rd_wr_reg {r q : Reg} (k j : Nat) (v : BitVec 64) (h : q ≠ r) : (d.wr r k v).rd q j = d.rd q j :=
  d.rd_wr_ne v (fun e => h (congrArg Prod.fst e))

/-- A register set from a number reads as that number, in 64 bits. -/
@[simp] theorem Dev.get_put_same (r : Reg) (k v : Nat) : (d.put r k v).get r k = v % 2 ^ 64 := by
  simp [Dev.get, Dev.put]

/-- Setting a register leaves what every register of another name reads. -/
theorem Dev.get_put_reg {r q : Reg} (k j v : Nat) (h : q ≠ r) : (d.put r k v).get q j = d.get q j := by
  simp [Dev.get, Dev.put, d.rd_wr_reg k j _ h]

/-- Setting one register of a name leaves those of other numbers. -/
theorem Dev.get_put_num (r : Reg) {k j : Nat} (v : Nat) (h : j ≠ k) : (d.put r k v).get r j = d.get r j := by
  simp [Dev.get, Dev.put, Dev.rd_wr_ne d _ (fun e => h (congrArg Prod.snd e))]

/-- A register reads below 2^64. -/
theorem Dev.get_lt (r : Reg) (k : Nat) : d.get r k < 2 ^ 64 := (d.rd r k).isLt

/-- A field reads as it was set. -/
theorem Dev.fld_setFld_same (r : Reg) (k l w v : Nat) (h : l + w ≤ 64) : (d.setFld r k l w v).fld r k l w = v % 2 ^ w := by
  rw [Dev.fld, Dev.setFld, Dev.get_put_same, Nat.mod_eq_of_lt (setBits_lt (d.get_lt r k) h), bits_setBits_same]

/-- Setting a field leaves the fields outside it. -/
theorem Dev.fld_setFld_other (r : Reg) (k l w v l' w' : Nat) (h : l + w ≤ 64) (hd : l' + w' ≤ l ∨ l + w ≤ l') :
    (d.setFld r k l w v).fld r k l' w' = d.fld r k l' w' := by
  rw [Dev.fld, Dev.setFld, Dev.get_put_same, Nat.mod_eq_of_lt (setBits_lt (d.get_lt r k) h), bits_setBits_other _ _ _ _ _ _ hd,
    Dev.fld]

/-- Setting a field leaves the fields of registers of another name. -/
theorem Dev.fld_setFld_reg {r q : Reg} (k j l w v l' w' : Nat) (h : q ≠ r) :
    (d.setFld r k l w v).fld q j l' w' = d.fld q j l' w' := by
  simp [Dev.fld, Dev.setFld, d.get_put_reg k j _ h]

/-- A bit reads as it was set. -/
theorem Dev.bit_setBit_same (r : Reg) (k i : Nat) (b : Bool) (h : i < 64) : (d.setBit r k i b).bit r k i = b := by
  rw [Dev.bit, Dev.setBit, Dev.fld_setFld_same _ _ _ _ _ _ (by omega)]
  cases b <;> rfl

/-- Setting a bit leaves the fields outside it. -/
theorem Dev.fld_setBit_other (r : Reg) (k i : Nat) (b : Bool) (l' w' : Nat) (h : i < 64)
    (hd : l' + w' ≤ i ∨ i + 1 ≤ l') : (d.setBit r k i b).fld r k l' w' = d.fld r k l' w' :=
  Dev.fld_setFld_other d r k i 1 _ l' w' (by omega) hd

/-- A counter that counts one. -/
@[simp] theorem Dev.get_count_same (r : Reg) (k : Nat) : (d.count r k).get r k = satAdd 32 (d.get r k) 1 := by
  have h : satAdd 32 (d.get r k) 1 < 2 ^ 64 := by unfold satAdd; omega
  simpa [Dev.count, Dev.add32] using h

/-- Raised codes, what was sent and free values leave the registers. -/
@[simp] theorem Dev.rd_raise (e : ECode) (p : Nat) (r : Reg) (k : Nat) : (d.raise e p).rd r k = d.rd r k := rfl
@[simp] theorem Dev.rd_send (o : Out) (r : Reg) (k : Nat) : (d.send o).rd r k = d.rd r k := rfl
@[simp] theorem Dev.rd_drawn (r : Reg) (k : Nat) : d.drawn.rd r k = d.rd r k := rfl
@[simp] theorem Dev.rd_at (t : Nat) (r : Reg) (k : Nat) : (d.at t).rd r k = d.rd r k := rfl
@[simp] theorem Dev.get_raise (e : ECode) (p : Nat) (r : Reg) (k : Nat) : (d.raise e p).get r k = d.get r k := rfl
@[simp] theorem Dev.get_send (o : Out) (r : Reg) (k : Nat) : (d.send o).get r k = d.get r k := rfl
@[simp] theorem Dev.get_drawn (r : Reg) (k : Nat) : d.drawn.get r k = d.get r k := rfl
@[simp] theorem Dev.get_at (t : Nat) (r : Reg) (k : Nat) : (d.at t).get r k = d.get r k := rfl

/-- A refused write leaves its code in the requester's GLB_LAST_ERR (R41). -/
@[simp] theorem Dev.get_refuse (q : Nat) (e : ECode) : (d.refuse q e).get .glbLastErr q = e.code.toNat := by
  have h : e.code.toNat < 2 ^ 64 := lt_of_lt_of_le e.code.isLt (by norm_num)
  simpa [Dev.refuse] using h

end Sys2Proof.Machine
end

