-- ==== Sys2Proof/Laws/Frame.lean ====
section
/-! SUPPORT. Laws of footprints: nothing changed is within any footprint, changes one after another are within the joined
footprints, and what each way of setting a register may change. -/

namespace Sys2Proof.Machine

/-! ### Running a command -/

/-- What every meaning's run does: it always answers a next state, the queue is as before. -/
@[simp] theorem State.run_eq (s : State) (f : Dev → Dev) : s.run f = .next { s with dev := f s.dev } := rfl

/-! ### Areas -/

theorem onlyAreas_refl (ps : List Area) (d : Dev) : onlyAreas ps d d := by
  intro p _; cases p <;> rfl

theorem onlyAreas_mono {ps qs : List Area} {d e : Dev} (h : onlyAreas ps d e) (hs : ps ⊆ qs) : onlyAreas qs d e :=
  fun p hp => h p fun hq => hp (hs hq)

theorem Area.same_trans {p : Area} {d e f : Dev} (h : p.same d e) (g : p.same e f) : p.same d f := by
  cases p <;> exact Eq.trans g h

theorem onlyAreas_trans {ps : List Area} {d e f : Dev} (h : onlyAreas ps d e) (g : onlyAreas ps e f) : onlyAreas ps d f :=
  fun p hp => Area.same_trans (h p hp) (g p hp)

/-- Setting a register changes no area. -/
theorem onlyAreas_wr (ps : List Area) (d : Dev) (r : Reg) (k : Nat) (v : BitVec 64) : onlyAreas ps d (d.wr r k v) := by
  intro p _; cases p <;> rfl

/-- Raising a code changes the codes raised alone. -/
theorem onlyAreas_raise {ps : List Area} (d : Dev) (c : ECode) (k : Nat) (h : Area.raised ∈ ps) : onlyAreas ps d (d.raise c k) := by
  intro p hp; cases p <;> first | rfl | exact absurd h hp

/-- Sending a message changes the messages sent alone. -/
theorem onlyAreas_send {ps : List Area} (d : Dev) (o : Out) (h : Area.outs ∈ ps) : onlyAreas ps d (d.send o) := by
  intro p hp; cases p <;> first | rfl | exact absurd h hp

/-! ### Registers -/

theorem onlyTouched_refl (ts : List Touch) (d : Dev) : onlyTouched ts d d := fun _ _ _ _ => rfl

theorem onlyTouched_trans {ts : List Touch} {d e f : Dev} (h : onlyTouched ts d e) (g : onlyTouched ts e f) :
    onlyTouched ts d f := fun r k i hi => (g r k i hi).trans (h r k i hi)

/-- A footprint that covers more bits holds as well. -/
theorem onlyTouched_mono {ts us : List Touch} {d e : Dev} (h : onlyTouched ts d e)
    (hs : ∀ r k i, us.all (fun t => !t.covers r k i) = true → ts.all (fun t => !t.covers r k i) = true) :
    onlyTouched us d e := fun r k i hi => h r k i (hs r k i hi)

/-- Registers that are the same are so bit by bit. -/
theorem onlyTouched_of_regs {ts : List Touch} {d e : Dev} (h : e.regs = d.regs) : onlyTouched ts d e := by
  intro r k i _; simp only [Dev.rd, h]

/-- Setting a register touches that instance. -/
theorem onlyTouched_wr {ts : List Touch} (d : Dev) (r : Reg) (k : Nat) (v : BitVec 64)
    (h : ∀ i, i < 64 → ts.any (fun t => t.covers r k i) = true) : onlyTouched ts d (d.wr r k v) := by
  intro q j i hi
  by_cases hq : (q, j) = (r, k)
  · obtain ⟨rfl, rfl⟩ := Prod.mk.inj hq
    by_cases h64 : i < 64
    · have := h i h64
      rw [List.any_eq_true] at this
      obtain ⟨t, ht, hc⟩ := this
      rw [List.all_eq_true] at hi
      exact absurd hc (by simpa using hi t ht)
    · rw [BitVec.getLsbD_of_ge _ _ (by omega), BitVec.getLsbD_of_ge _ _ (by omega)]
  · rw [Dev.rd_wr_ne d v hq]

/-- Setting a field touches the bits of the field. -/
theorem onlyTouched_setFld {ts : List Touch} (d : Dev) (r : Reg) (k l w v : Nat)
    (h : ∀ i, l ≤ i → i < l + w → i < 64 → ts.any (fun t => t.covers r k i) = true) : onlyTouched ts d (d.setFld r k l w v) := by
  intro q j i hi
  by_cases hq : (q, j) = (r, k)
  · obtain ⟨rfl, rfl⟩ := Prod.mk.inj hq
    by_cases hin : l ≤ i ∧ i < l + w ∧ i < 64
    · have := h i hin.1 hin.2.1 hin.2.2
      rw [List.any_eq_true] at this
      obtain ⟨t, ht, hc⟩ := this
      rw [List.all_eq_true] at hi
      exact absurd hc (by simpa using hi t ht)
    · by_cases h64 : i < 64
      · simp only [Dev.setFld, Dev.put, Dev.rd_wr_same, Dev.get]
        rw [BitVec.getLsbD_ofNat]
        simp only [h64, decide_true, Bool.true_and, testBit_setBits]
        have hn : ¬ (l ≤ i ∧ i < l + w) := fun hh => hin ⟨hh.1, hh.2, h64⟩
        simp [hn, BitVec.getLsbD]
      · rw [BitVec.getLsbD_of_ge _ _ (by omega), BitVec.getLsbD_of_ge _ _ (by omega)]
  · simp only [Dev.setFld, Dev.put, Dev.rd_wr_ne d _ hq]

/-! ### Memories -/

theorem onlyStored_refl (rs : List (Nat × Nat)) (m : Mem) : onlyStored rs m m := fun _ _ => rfl

theorem onlyStored_trans {rs : List (Nat × Nat)} {m n o : Mem} (h : onlyStored rs m n) (g : onlyStored rs n o) :
    onlyStored rs m o := fun a ha => (g a ha).trans (h a ha)

/-- Writing bytes within a range of a list stores within the list. -/
theorem onlyStored_writeBytes {rs : List (Nat × Nat)} (m : Mem) (a : Nat) (bs : List Byte) {r : Nat × Nat} (hr : r ∈ rs)
    (h : r.1 ≤ a ∧ a + bs.length ≤ r.1 + r.2) : onlyStored rs m (m.writeBytes a bs) := by
  intro x hx
  exact Mem.read_writeBytes_outside a bs (by have := hx r hr; omega)

/-- Zeroing within a range of a list stores within the list. -/
theorem onlyStored_zero {rs : List (Nat × Nat)} (m : Mem) (a n : Nat) {r : Nat × Nat} (hr : r ∈ rs)
    (h : r.1 ≤ a ∧ a + n ≤ r.1 + r.2) : onlyStored rs m (m.zero a n) := by
  intro x hx
  exact Mem.read_zero_outside m a n (by have := hx r hr; omega)

end Sys2Proof.Machine
end

