-- ==== Sys2Proof/Tests/Slice0.lean ====
section
/-! SUPPORT. Tests: well-formedness refuses, single steps on small states, and a witness for the hypotheses of each clause
of the statements. -/

set_option Elab.async false
set_option linter.unusedVariables false

namespace Sys2Proof.Machine

/-- A state with a controller and no command waiting. -/
def st (d : Dev) : State := { dev := d, pending := [] }

/-- A controller whose web moves at one count, one line, per microsecond; firing enabled or not, line 10 next. -/
def devMoving (fire : Bool) : Dev :=
  let g : Image := { Image.empty with fields := [((.cpl, 0), 4294967296)] }
  let x : EncInput := { EncInput.reset with stamps := [2000000, 1000000], valid := true }
  let d := { Dev.reset with img := { ImgState.reset with active := some g },
                            pos := { PosState.reset with enc := [(0, x)], cmpLine := 10 } }
  d.setBit .posCtrl 0 0 fire

/-- The same, with a fire at an instant before. -/
def devFired (t : Nat) : Dev :=
  let d := devMoving true
  { d with pos := { d.pos with fires := [{ index := 0, tF := t, tQ := none, line := 0, reverse := false, pass := 0 }], cmpLine := 4 } }

/-- The operation of a PERSIST with a line and the commit record to write. -/
def persistOp : NvaOp :=
  { requester := 5, bank := 1, line := 0x20000, left := 2, erase := false, src := 0, body := List.replicate 32 7 }

/-- Words of a REGION_OPEN for fluid 0, band 0, lines 5,000 to 5,100, 16 blocks, one heap unit. -/
def openWords : List Word := [0x10000000, 1, 0x10000, 5000, 0, 5100, 0, 0, 0, 16, 1]

/-- An image with fluid 0 of 4,096 columns. -/
def imgFluid : Image := { Image.empty with fields := [((.fluidPresent, 0), 1), ((.fluidColumns, 0), 4096)] }

/-- A controller with that image and slot 1 ACTIVE with room for a region. -/
def devActive : Dev :=
  let d := { Dev.reset with img := { ImgState.reset with active := some imgFluid } }
  ((((((d.setFld .tenState 1 29 3 1).setBit .tenState 1 0 true).setFld .tenState 1 6 5 5).put .tenDramQuota 1 1000).setFld .tenRegions 1 16 16 9).put .tenPoolFree 0
    1000).put .tenPoolUnits 0 1000

/-- The same with the region open. -/
def devRegion : Dev :=
  { devActive with cmp := { devActive.cmp with regions := [{ regionOf 1 openWords with number := 0 }] } }

/-- A job of the ingest check, and a controller that has it. -/
def jobOne : IngestJob :=
  { slot := 1, tag := 0, region := 0, strip := 0, first := 0, lines := 16, heapOff := 0, heapLen := 1,
    sealedBytes := { cipher := [], iv := [], tag := 0, aad := [] } }
def devJob : Dev := { devRegion with cmp := { devRegion.cmp with ingest := [jobOne] } }

/-- A region with one locked block. -/
def entLocked : BlockEntry :=
  { first := 0, lines := 16, state := .locked, isLocked := true, heapOff := 0, heapLen := 1,
    sealedBytes := { cipher := [], iv := [], tag := 0, aad := [] } }
def regLocked : Region :=
  { regionOf 1 openWords with number := 0, l0 := 0, l1 := 100, strips := [(0, { entries := [entLocked], lockedTo := 16 })] }
def devLocked : Dev :=
  { devActive with img := { ImgState.reset with active := some { imgFluid with fields := ((.headUsed, 0), 1) :: imgFluid.fields } },
                   cmp := { devActive.cmp with regions := [regLocked] } }

/-- A controller that fires: head port 0 used and FIRING, engine 0 assigned to it. -/
def devFiring : Dev :=
  let g : Image := { Image.empty with fields := [((.headUsed, 0), 1), ((.hlLead, 0), 16)] }
  let d := { Dev.reset with img := { ImgState.reset with active := some g } }
  let d1 := ((d.setBit .posCtrl 0 0 true).setBit .posStatus 0 0 true).setFld .linkStatus 0 29 3 5
  ((d1.setFld .synStatus 0 24 8 0).setBit .embStatus 0 29 true).setBind 1 1

/-- A promised slate. -/
def slateOne : SlateSlot := { fire := 5, slot := (0, 2), depart := 0, fine := 0 }

/-- A batch in a pipeline. -/
def runOne : BatchRun :=
  { fire := 9, reverse := false, sync := false, period := 0, lines := [], cells := [], mirrored := false, restart := false }

/-- A controller with a health entry pending, and all rows of port 0 past its line. -/
def pendOne : PendHealth :=
  { fluid := 0, mask := { colLo := 0, colHi := 3, clr := 1, set := 0 }, line := 5, fireA := 0, passAfter := 0, folded := [] }
def devPend : Dev :=
  let g : Image := { imgFluid with fields := ((.headUsed, 0), 1) :: imgFluid.fields }
  let d := { Dev.reset with img := { ImgState.reset with active := some g }, syn := { SynState.reset with pend := [pendOne] } }
  (List.range 4).foldl (fun d j => d.setRowBuf 0 j { RowBuf.reset with taken := some (0, 7) }) d

/-- A standby. -/
def devStandby : Dev := Dev.reset.setFld .ptnStatus 0 29 3 3

/-- A complete batch. -/
def doneOne : BatchDone := { fire := 9, reverse := false, sync := false, period := 0, desc := [], lines := [] }

/-- A controller with firing enabled and port 0 ready to join. -/
def devReady : Dev :=
  (((devFiring.setFld .linkStatus 0 29 3 3).setBit .synCtrl 0 0 true).put .posPortDelay 0 (2 ^ 31 + 100))

/-- A controller whose pipeline 0 is enabled and runs, its camera linked. -/
def devCam : Dev :=
  let g : Image := { Image.empty with fields := [((.pipeEn, 0), 1), ((.tile, 0), 0x100000), ((.channels, 0), 1)] }
  let d := { Dev.reset with img := { ImgState.reset with active := some g } }
  ((d.setBit .insCtrl 0 0 true).setFld .insStatus 0 29 3 3).setPipe 0 { Pipe.reset with caps := 0xff }

/-- The same with a line open. -/
def lineOne : CamLine :=
  { tseq := 3, depart := 0, expMid := none, fire := 0, reverse := false, pass := 0, window := none, packets := [] }
def devLine : Dev := devCam.setPipe 0 { devCam.pipe 0 with lines := [lineOne] }


/-- A decision of the loop. -/
def decOne : Decision :=
  { fluid := 0, column := 5, clr := 1, nozzles := [(0, 5)], frame := 7, bySense := false, since := 0, presented := false,
    late := false }

/-- A controller with both cascade ports enabled and pipeline 0 on fluid 1 of bar 2. -/
def devCas : Dev :=
  let g : Image := { Image.empty with fields := [((.casEn, 0), 1), ((.casEn, 1), 1), ((.pipeEn, 0), 1), ((.tile, 0), 0x100000),
                                                 ((.channels, 0), 1), ((.planeFluid, 0), 1), ((.planeBar, 0), 2)] }
  { Dev.reset with img := { ImgState.reset with active := some g } }

/-- Words of a NOP and of a CTX_OPEN of any slot bound over Ethernet, both rings of 16 entries. -/
def nopWords : List Word := [0x01000000]
def ctxWords : List Word := [0x80000000, 0x02001000, 4, 0x10008, 0x0404]

/-- A controller ready for contexts, its own ring enabled. -/
def devOwner : Dev :=
  let g : Image := { Image.empty with fields := [((.maxRingLog2, 0), 16), ((.parkSlots, 0), 8)] }
  let d := { Dev.reset with img := { ImgState.reset with active := some g } }
  ((((d.setFld .glbBootStage 0 28 4 15).setFld .tenState 0 29 3 1).setBit .tenState 0 0 true).setBit .tenState 0 1 true).put
    .tenPoolFree 0 1000

/-- The same with a NOP in its ring. -/
def devGrant : Dev :=
  let d := devOwner.put .tenSqTail 0 1
  d.setCtx 0 { d.ctx 0 with sqWords := [(0, [0x01000000])] }

/-- The same with slot 1 ACTIVE under its first handle. -/
def devOpen : Dev :=
  let d := (devOwner.setFld .tenState 1 29 3 1).put .tenHandle 1 0x1001
  d.setCtx 1 { Ctx.reset with generation := 1 }

/-- A controller whose PCIe link is up and whose PF vectors have timers. -/
def devPcie : Dev :=
  let d := { Dev.reset with hst := { HstState.reset with linkUp := true } }
  d.setFld .pfVec 3 8 24 7

/-- The ACTIVE controller of a pair with PAIR_ID 1 whose partner is present, FIT and STANDBY over one live link. -/
def devPairA : Dev :=
  let d := (((Dev.reset.setFld .ptnStatus 0 29 3 1).setBit .ptnStatus 0 26 true).setBit .ptnStatus 0 27 true).setFld .ptnStatus 0 16 8 1
  { d with ptn := { d.ptn with partner := some [0x70000000] } }

/-- A standby of the controller that fires. -/
def devStandbyFiring : Dev := devFiring.setFld .ptnStatus 0 29 3 3

/-- A controller with loop 0 enabled, in RUN, its sample fresh. -/
def devLoop : Dev :=
  let g : Image := { Image.empty with fields := [((.loopEn, 0), 1), ((.periodUs, 0), 100), ((.ulim, 0), 0x00640000),
                                                 ((.rcCfg, 0), 0xf0000000), ((.kp, 0), 65536)] }
  let d := { Dev.reset with img := { ImgState.reset with active := some g } }
  (d.setLoopSt 0 1).setCtl 0 { LoopCtl.reset with fseq := some 1, sample := 7, stamp := some 0, same := 1 }

/-- A move of 100 steps, and a controller with axis 0 enabled that has it. -/
def moveOne : Move := { target := 100, v := 1000, a := 5000, blend := false }
def devAxis : Dev :=
  let g : Image := { Image.empty with fields := [((.axEn, 0), 1)] }
  { Dev.reset with img := { ImgState.reset with active := some g } }.setAxis 0 { Axis.reset with queue := [moveOne] }

/-! ### Well-formedness: for each check a command that it refuses -/

/-- A write of 32 bits carries no more than 32 bits. -/
theorem test_wf_write_too_wide :
    Instr.wellFormed (.registerWrite (.core 0) 0 0x100000000 false .none) = false := by decide +kernel

/-- A 64-bit write does. -/
theorem test_wf_write_wide : Instr.wellFormed (.registerWrite (.core 0) 0 0x100000000 true .none) = true := by decide +kernel

/-- A ring entry has 16 words, in each command that carries one. -/
theorem test_wf_entry_short :
    [Instr.regionOpen 1 [], .regionClose 1 [], .block 1 [] [], .nop 1 [], .uploadSub 1 [], .uploadUnsub 1 [], .acctRead 1 [],
      .ctxOpen 0 [], .ctxClose 0 [], .ctxPark 0 [], .ctxActivate 0 [], .ctxQuota 0 []].all
      (fun c => !c.wellFormed) = true := by decide +kernel

/-- So has each entry written with a doorbell. -/
theorem test_wf_grant_short : Instr.wellFormed (.sqTailDoorbell 1 none 2 [List.replicate 16 0, [0]]) = false := by decide +kernel

/-- A block has 1 to 262,144 symbols (R130). -/
theorem test_wf_block_size :
    [Instr.compressSymbols 0 [] 0, .compressSymbols 0 [] 262145, .compressFlush 0 [] 0].all (fun c => !c.wellFormed) = true ∧
      Instr.wellFormed (.compressSymbols 0 [] 262144) = true := by decide +kernel

/-- A table has 16,384 nozzles and a page 72 words. -/
theorem test_wf_target :
    [Instr.nztWrite 0 0 (.nozzle 16384) false 0, .nztWrite 0 0 (.page 72) false 0, .tableRecord 0 0 [(.page 72, 0)] none].all
      (fun c => !c.wellFormed) = true := by decide +kernel

/-- A camera's metadata message has at most 64 words. -/
theorem test_wf_meta : Instr.wellFormed (.camMeta 0 0 (List.replicate 65 0)) = false := by decide +kernel

/-- A received frame holds its addresses, type and FCS; a sent one its addresses and type. -/
theorem test_wf_frames :
    Instr.wellFormed (.ethFrameReceive 0 0 (List.replicate 17 0)) = false ∧
      Instr.wellFormed (.ethFrameTransmit 0 0 (List.replicate 13 0)) = false := by decide +kernel

/-- An estimate has 8 temperatures and 8 remaining times. -/
theorem test_wf_estimate :
    Instr.wellFormed (.budgetEstimate 0 (List.replicate 8 0) [] 0) = false ∧
      Instr.wellFormed (.budgetEstimate 0 [] (List.replicate 8 0) 0) = false := by decide +kernel

/-- A lane has 12 taps, a frozen burst 4 words of syndrome, a group 4 margins, an item fewer than 4,096 places. -/
theorem test_wf_lengths :
    [Instr.laneStageDone 0 0 [] 0 0, .dramFreeze 0 0 0 0 [], .retrainDone 0 [], .calRunDone 0 [(4096, true, 0, 0)]].all
      (fun c => !c.wellFormed) = true := by decide +kernel

/-! ### The worked examples of the manual -/

/-- The code numbers of R443: E_CTX_FULL is 0x0B05, E_NVA_SELF_BANK is 0x0104. -/
theorem test_code_numbers : ECode.ctxFull.code = 0x0B05 ∧ ECode.nvaSelfBank.code = 0x0104 := by decide +kernel

/-- The slate of HP16's fire 1,003,850 (chapter "Head Link"). -/
theorem test_slate_word : slateWord true false 0x0A 0x5D9 false = 0x8A5D9090 := by decide +kernel

/-- The 64 symbols of Table 5.5 are emitted in the stored form. -/
theorem test_stored_block :
    compressBlock ((List.range 32).flatMap fun b => [b % 16, b / 16]) =
      [0x3F, 0, 0, 0xB4] ++ (List.range 32).map (BitVec.ofNat 8) ++ [0x4E, 0x79, 0xDD, 0x46] := by decide +kernel

/-- A line of 461 level-0 symbols takes 53 bytes (R122). -/
theorem test_run_of_a_level : (compressBlock (List.replicate 461 0)).length = 53 := by decide +kernel

/-- The shares of level 9 at column 2,879 and line 1,000,000: 3, 0 and 6 (chapter "Drop Synthesis"). -/
theorem test_sibling_split : ((List.range 3).map fun r => splitShare (0x36 <<< 72) 3 9 2879 1000000 7 r) = [3, 0, 6] := by
  decide +kernel

/-- The port of that example: HP16 with the entry of nozzle 13,288, its weights, activity, thresholds and energies. -/
def devNozzle : Dev :=
  let g : Image := { Image.empty with fields := [((.headStartCol, 16), 2 ^ 32 - 1124)] }
  let d := { Dev.reset with img := { ImgState.reset with active := some g } }
  let x := { PortSyn.reset with table := [(13288, 2 <<< 56 + 5 <<< 50 + 12 <<< 42 + 62 <<< 36 + 32 <<< 28)], hmask := 7 }
  let d1 := (((d.setSyn 16 x).put .xtW 113 0x0CF8).put .xtW 114 0x0CF8).put .xtAct 65 40
  (((d1.put .xtThr 128 0x00300010).put .lmap 258 0x4000000).put .energy 260 180).put .energy 257 0x140000

/-- Codes of a batch: 4 at the nozzles of a list. -/
def codesAt (l : List Nat) : List Nat := (List.range 16384).map fun m => if m ∈ l then 4 else 0

/-- Its window column, its drop code and its energy. -/
theorem test_nozzle :
    devNozzle.nozzleCol 16 13288 = 2879 ∧ devNozzle.dropCode 16 2 6 = 4 ∧ devNozzle.nozzleEnergy 16 0x41447E1F = 206 := by
  decide +kernel

/-- Its descriptor (Table 6.8). -/
theorem test_descriptor :
    devNozzle.descriptor 16 1003850 13288 { level := 9, share := 6, out := false, inWindow := true }
      (codesAt [13287, 13288]) [codesAt [13287, 13289]] = 0x41447E1F := by decide +kernel

/-- ΔAMP of a mean of −492 at QL_KD 128 is 15 (R250). -/
theorem test_delta_amp : deltaAmp (-492) 128 = 15 := by decide +kernel

/-- The camera 1,500 mm from the origin stands at 290,267,717 / 4,096 lines (R39). -/
theorem test_camera_distance :
    { Dev.reset with img := { ImgState.reset with active := some { Image.empty with fields := [((.camDistNm, 0), 1500000000)] } } }.camDist
      0 = 290267717 := by decide +kernel

/-- Row 3 of head row 2 at 80 mm: 3,850 lines and 1,613 / 4,096 (chapter "The Bar Image"). -/
theorem test_row_distance :
    { Image.empty with fields := [((.headUsed, 0), 1), ((.headUsed, 16), 1), ((.headSibling, 16), 2), ((.distNm, 2), 80000000)] }.dQ12
      0 2 3 = 3850 * 4096 + 1613 := by decide +kernel

/-- The clamp report entry of LPI = 5,000 (R44). -/
theorem test_clamp_entry :
    ({ section16 := 6, reason := 2, fid := 2, word := 0, inst := 0, requested := 5000, applied := 4800 } : ClampEntry).words =
      [0x00062002, 0, 0x1388, 0x12C0] := by decide +kernel

/-- A region of 1,952 strips of depth 64 with 1 GiB of heap takes 16,476 units, two rings of 1,024 entries take 2. -/
theorem test_units : reelUnits 1952 64 16384 = 16476 ∧ ringUnits 10 10 false = 2 := by decide +kernel

/-- The spoil entry of block 1 of strip 190 (chapter "Tenants, Rings and Isolation"). -/
theorem test_spoil_entry :
    ({ slot := 17, region := 5, strip := 190, fluid := 0, phase := 3, band := 7, first := 1000256, lines := 256, pass := 0,
       cause := .missing, touched := false } : SpoilRec).words = (0x10C01C00, [5, 0, 0xF4340, 0, 256, 0]) := by decide +kernel

/-- One evaluation of loop 200 of the circuit of head row 2: v = 554, i = 32,833,540 (chapter "Loops and Motion"). -/
theorem test_control_law :
    let g : Image := { Image.empty with fields :=
      [((.kp, 200), 0xFFFE0000), ((.ki, 200), 0xFFFFF333), ((.ulim, 200), 0x0FFF0000), ((.rcCfg, 200), 0x40040000),
       ((.rcPeriod, 200), 2048 * 2 ^ 32)] }
    let e : EncInput := { EncInput.reset with lastStamp := some 0 }
    let d := { Dev.reset with img := { ImgState.reset with active := some g }, pos := { PosState.reset with enc := [(4, e)] } }
    let d1 := ((d.put .ctlLoopSp 200 64336).putInt .ctlLoopInt 200 32768000).putInt .posEncCount 4 1300
    let d2 := d1.setCtl 200 { LoopCtl.reset with sample := -1180, yPrev := -1180, bins := [(166, 819200)] }
    (d2.law 200 false).u = 554 ∧ (d2.law 200 false).i = 32833540 := by decide +kernel

/-- Between 240 units at 65 °C and 310 at 90 °C, 72.0 °C gives 260 (R469). -/
theorem test_interpolation :
    { (Dev.reset.put .pwrStatus 0 720) with sys := { SysState.reset with sets := [((0, 0, 2), 240), ((0, 0, 3), 310)] } }.calInterp
      0 0 = 260 := by decide +kernel

/-- The header word of a JOIN, TYPE 0x05, with SEQ 7 and its two words (R185). -/
theorem test_message_header : messageHeader 0x05 7 2 = 0x05070002 := by decide +kernel

/-- The balls of L64 and of L1023, and the ball of PF_N, low-speed signal 276 (chapter "Package, Pins and Electrical Data"). -/
theorem test_balls :
    ((List.range 4).map fun p => ballName (laneBall 64 p)) = ["L9", "L10", "M9", "M10"] ∧
      ((List.range 4).map fun p => ballName (laneBall 1023 p)) = ["DJ77", "DJ78", "DK77", "DK78"] ∧
      ballName (lowBall 276) = "AY35" := by decide +kernel

/-- And back from the ball. -/
theorem test_ball_use : ballUse 10 9 = .lane 64 0 ∧ ballUse 37 35 = .low 276 := by decide +kernel

/-- A codeword of 32 data symbols with some of its 40 symbols changed. -/
def codeword (errors : List (Nat × Nat)) : List Nat :=
  let m := (List.range 32).map fun i => (7 * i + 3) % 256
  (m ++ rsCheck m).mapIdx fun i c => c ^^^ (Tab.find errors i).getD 0

/-- Errors in three symbols are placed; errors in four are not corrected (R415). -/
theorem test_code_corrects_three :
    rsDecode (codeword []) = some [] ∧ rsDecode (codeword [(0, 1), (17, 0x80), (39, 0xff)]) = some [0, 17, 39] := by decide +kernel
theorem test_code_detects_four : rsDecode (codeword [(0, 1), (5, 9), (17, 0x80), (39, 0xff)]) = none := by decide +kernel

/-! ### Commands, one at a time -/

/-- The controller that a command leaves, State.reset's where it stops. -/
def after (c : Instr) (d : Dev) : Dev :=
  match exec c (st d) with
  | .next t => t.dev
  | _ => Dev.reset

/-- TSU_INC of a clock 2.5 ppm slow is written as it stands; one too large is held at the bound and refused (R305). -/
theorem test_tsu_inc :
    (after (.tsuIncWrite 4 .both 0x19999DCB5) Dev.reset).get .tsuInc 0 = 6871964853 ∧
      (after (.tsuIncWrite 4 .both 0x300000000) Dev.reset).get .tsuInc 0 = 0x233333333 := by decide +kernel

/-- FIRE_EN without an image is refused to its requester: E_POS_NO_IMAGE is 0x0302. -/
theorem test_fire_en_refused :
    (after (.fireEn 4) Dev.reset).get .glbLastErr 4 = 0x0302 ∧ (after (.fireEn 4) Dev.reset).fireEn = false := by decide +kernel

/-- A context that closes and opens again has the next generation in its handle: slot 17, generation 3 is 0x0000_3011. -/
theorem test_handle : (Dev.reset.setCtx 17 { Ctx.reset with generation := 3 }).ctxHandle 17 = 0x3011 := by decide +kernel

/-- A write to a register that is read-only is ignored; one to a read-write register is stored. -/
theorem test_register_write :
    (after (.registerWrite (.core 0) (BitVec.ofNat 28 (Reg.addr .qlLogBase 0)) 0x1000 false .none) Dev.reset).get .qlLogBase 0 = 0x1000 ∧
      (after (.registerWrite (.core 0) (BitVec.ofNat 28 (Reg.addr .posFireIndex 0)) 7 false .none) Dev.reset).get .posFireIndex 0 = 0 := by
  decide +kernel

/-- A cascade message that meets a full loop log is counted as a drop of the log (R256). -/
theorem test_log_full :
    ((Dev.reset.put .qlLogHead 0 0x10000).qlLog 0xa 0 0 0 0 0).get .qlLogDrop 0 = 1 := by decide +kernel

/-- The first word of a log entry: kind, port, fluid and nozzle (Table 9.2). -/
theorem test_log_word :
    Mem.readBytes ((Dev.reset.put .qlLogCtrl 0 4).qlLog 0x1 16 2 13288 0 0).dram 0 4 = leBytes 0x110233E8 4 := by decide +kernel

/-- No row of the table of operations gives bits, so no word spells a command. -/
theorem test_no_word : decodeTableWord 32 0 = none := by decide +kernel

/-- A step on an empty queue advances the time by one tick of 1.6 ns. -/
theorem test_idle_step : (match step State.reset with
    | .next t => t.dev.now
    | _ => 0) = 1600 := by decide +kernel

/-! ### Witnesses of the statements -/

theorem wit_StepKeepsMemoriesCanonical_1 :
    let s := st Dev.reset
    (memoriesWf s) := by
  exact ⟨by decide, by decide⟩

theorem wit_StepKeepsBuffersCanonical_1 :
    let s := st Dev.reset
    (buffersWf s) := by
  exact ⟨by decide, by decide⟩

theorem wit_StepKeepsQueueWellFormed_1 :
    let s := st Dev.reset
    (queueWf s) := by
  rfl

theorem wit_RegisterCellReadAfterWrite_2 :
    let l := 0
    let w := 3
    (l + w ≤ 64) := by
  decide +kernel

theorem wit_RingIndexEmptyAndFull_1 :
    let n := 8
    let tail := 65536
    let head := 0
    (n ≤ 16) ∧ (tail < 2 ^ 17) ∧ (head < 2 ^ 17) ∧ (bits tail 0 16 < 2 ^ n) ∧ (bits head 0 16 < 2 ^ n) := by
  decide +kernel

theorem wit_RegisterWritesByAccessCode_1 :
    let s := st Dev.reset
    let addr : BitVec 28 := 2
    let wide := false
    let x : WriteAside := .none
    (aligned addr.toNat wide = false) := by
  decide +kernel

theorem wit_RegisterWritesByAccessCode_2 :
    let s := st Dev.reset
    let addr : BitVec 28 := 0x7000000
    let w : Agent := .core 0
    let x : WriteAside := .none
    (aligned addr.toNat false = true) ∧ ((agentReq w).isSome = true) ∧ (Reg.find addr.toNat = none) ∧ (inNzt
      addr.toNat = false) := by
  decide +kernel

theorem wit_RegisterWritesByAccessCode_3 :
    let s := st Dev.reset
    let w : Agent := .core 0
    let addr : BitVec 28 := BitVec.ofNat 28 (Reg.imgActFire.addr 0)
    let r := Reg.imgActFire
    let k := 0
    let high := false
    let x : WriteAside := .none
    let v : BitVec 64 := 1
    (aligned addr.toNat false = true) ∧ ((agentReq w).isSome = true) ∧ (Reg.find addr.toNat = some (r, k, high)) ∧
      (writeRuns addr.toNat v = false) ∧ (r.tenantOnly = false) ∧ ((objectOf r k).any (fun o => s.dev.inTransit o.1
      o.2) = false) ∧ (s.dev.writeBusy r k = none) ∧ (s.dev.writeDropped r k = false) ∧ (r ≠ .epCtrl) := by
  decide +kernel

theorem wit_RegisterWritesByAccessCode_4 :
    let s := st Dev.reset
    let w : Agent := .core 0
    let addr : BitVec 28 := BitVec.ofNat 28 (Reg.glbWdtKick.addr 0)
    let v : BitVec 64 := 1
    let r := Reg.glbWdtKick
    let k := 0
    let high := false
    let x : WriteAside := .none
    (aligned addr.toNat false = true) ∧ ((agentReq w).isSome = true) ∧ (Reg.find addr.toNat = some (r, k, high)) ∧
      (r.tenantOnly = false) ∧ (r.rowOfOwn v = true) := by
  decide +kernel

theorem wit_RegisterWritesByAccessCode_5 :
    let s := st Dev.reset
    let w : Agent := .core 0
    let addr : BitVec 28 := BitVec.ofNat 28 (Reg.qlCtrl.addr 0)
    let v : BitVec 64 := 0x101
    let r := Reg.qlCtrl
    let k := 0
    let high := false
    let x : WriteAside := .none
    (aligned addr.toNat false = true) ∧ ((agentReq w).isSome = true) ∧ (Reg.find addr.toNat = some (r, k, high)) ∧
      (r.tenantOnly = false) ∧ (r.rowOfOwn v = false) ∧ (r ∈ [Reg.posEncStatus, Reg.qlCtrl, Reg.nvaOpCtrl]) := by
  decide +kernel

theorem wit_RegisterWritesByAccessCode_6 :
    let s := st Dev.reset
    let w : Agent := .core 0
    let addr : BitVec 28 := 0x7000000
    let v : BitVec 64 := 0
    let t := st (s.dev.count .glbBadAccess 0)
    let x : WriteAside := .none
    (aligned addr.toNat true = true) ∧ (exec (.registerWrite w addr v false x) s = .next t) := by
  exact ⟨by decide, rfl⟩

theorem wit_RegisterWritesByAccessCode_8 :
    let r := Reg.tenEvent
    let i := 0
    let edges : BitVec 64 := 1
    (i < 32) ∧ (edges.getLsbD i = true) ∧ (r.desc.w1c.getLsbD i = true) := by
  decide +kernel

theorem wit_LowWordReadLatchesHighWord_1 :
    let s := st Dev.reset
    let q : Agent := .core 0
    let addr : BitVec 28 := BitVec.ofNat 28 (Reg.posLine.addr 0)
    let r := Reg.posLine
    let k := 0
    (aligned addr.toNat false = true) ∧ ((agentReq q).isSome = true) ∧ (Reg.find addr.toNat = some (r, k, false)) ∧
      (readOfOwn r k false = false) ∧ (Tab.find s.dev.latch addr.toNat = none) ∧ (r.desc.wide = true) := by
  decide +kernel

theorem wit_LowWordReadLatchesHighWord_2 :
    let s := st ({ Dev.reset with latch := [(Reg.posLine.addr 0 + 4, 7)] })
    let q : Agent := .core 0
    let addr : BitVec 28 := BitVec.ofNat 28 (Reg.posLine.addr 0 + 4)
    let r := Reg.posLine
    let k := 0
    let v := 7
    let high := true
    (aligned addr.toNat false = true) ∧ ((agentReq q).isSome = true) ∧ (Reg.find addr.toNat = some (r, k, high)) ∧
      (readOfOwn r k high = false) ∧ (Tab.find s.dev.latch addr.toNat = some v) := by
  decide +kernel

theorem wit_LowWordReadLatchesHighWord_3 :
    let s := st Dev.reset
    let q : Agent := .core 0
    let addr : BitVec 28 := BitVec.ofNat 28 (Reg.posLine.addr 0 + 4)
    let r := Reg.posLine
    let k := 0
    (aligned addr.toNat false = true) ∧ ((agentReq q).isSome = true) ∧ (Reg.find addr.toNat = some (r, k, true)) ∧
      (readOfOwn r k true = false) ∧ (Tab.find s.dev.latch addr.toNat = none) := by
  decide +kernel

theorem wit_LowWordReadLatchesHighWord_4 :
    let s := st Dev.reset
    let q : Agent := .core 0
    let addr : BitVec 28 := 0x7000000
    let t := st (s.dev.badAccess.send (.readData 0 0x7000000 0))
    (aligned addr.toNat true = true) ∧ (exec (.lowWordReadLatch q addr false) s = .next t) := by
  exact ⟨by decide, by rfl⟩

theorem wit_LowWordReadLatchesHighWord_5 :
    let s := st Dev.reset
    let q : Agent := .core 0
    let addr : BitVec 28 := BitVec.ofNat 28 (Reg.irqClaimN.addr 0)
    let r := Reg.irqClaimN
    let k := 0
    let high := false
    (aligned addr.toNat false = true) ∧ ((agentReq q).isSome = true) ∧ (Reg.find addr.toNat = some (r, k, high)) ∧
      (readOfOwn r k high = true) := by
  decide +kernel

theorem wit_ImageCommandsBetweenStates_1 :
    let s := st (Dev.reset.setImgState 3)
    (s.dev.imgState = 1 ∨ s.dev.imgState = 3 ∨ s.dev.imgState = 4) := by
  decide +kernel

theorem wit_ImageCommandsBetweenStates_2 :
    let s := st Dev.reset
    (s.dev.imgState ≠ 1) ∧ (s.dev.imgState ≠ 3) ∧ (s.dev.imgState ≠ 4) := by
  decide +kernel

theorem wit_ImageCommandsBetweenStates_3 :
    let s := st (Dev.reset.setImgState 1)
    (s.dev.imgState = 1) := by
  decide +kernel

theorem wit_ImageCommandsBetweenStates_4 :
    let s := st (((Dev.reset.setImgState 2).setBit .imgStatus 0 7 true).put .imgActFire 0 32)
    (s.dev.imgState ≠ 1) ∧ (s.dev.imgState ≠ 3) ∧ (s.dev.imgState ≠ 4) ∧ (s.dev.bit .imgStatus 0 7 = true) ∧
      (s.dev.fireIndex + 32 ≤ s.dev.actFire) := by
  decide +kernel

theorem wit_ImageCommandsBetweenStates_5 :
    let s := st (((Dev.reset.setImgState 2).setBit .imgStatus 0 7 true).put .imgActFire 0 31)
    (s.dev.imgState ≠ 1) ∧ (s.dev.imgState ≠ 3) ∧ (s.dev.imgState ≠ 4) ∧ (s.dev.bit .imgStatus 0 7 = true) ∧
      (s.dev.actFire < s.dev.fireIndex + 32) := by
  decide +kernel

theorem wit_ImageCommandsBetweenStates_6 :
    let s := st (Dev.reset.setImgState 3)
    (s.dev.imgState = 3) := by
  decide +kernel

theorem wit_ImageCommandsBetweenStates_7 :
    let s := st Dev.reset
    (s.dev.imgState ≠ 3) ∧ (s.dev.imgState ≠ 4) := by
  decide +kernel

theorem wit_ImageCommandsBetweenStates_8 :
    let s := st (Dev.reset.setImgState 3)
    (s.dev.imgState = 3) ∧ (s.dev.actFire ≤ s.dev.fireIndex + 32) := by
  decide +kernel

theorem wit_ImageCommandsBetweenStates_9 :
    let s := st (Dev.reset.setBit .imgStatus 0 3 true)
    (s.dev.bit .imgStatus 0 3 = true) := by
  decide +kernel

theorem wit_ImageTakesEffect_1 :
    let s := st (Dev.reset.setBit .posCtrl 0 0 true)
    (s.dev.fireEn = true ∨ s.dev.firing = true) := by
  decide +kernel

theorem wit_ImageTakesEffect_2 :
    let s := st ({ (Dev.reset.setImgState 2).put .dmcCfg 0 0x80011400 with img := { ImgState.reset with shadow := some Image.empty } })
    let g := Image.empty
    (s.dev.fireEn = false) ∧ (s.dev.firing = false) ∧ (s.dev.imgState ≠ 1) ∧ (s.dev.imgState ≠ 4) ∧ (s.dev.img.shadow
      = some g) ∧ (s.dev.dramBytes ≠ 0) := by
  decide +kernel

theorem wit_ImageTakesEffect_3 :
    let s := st ({ Dev.reset.setImgState 4 with img := { ImgState.reset with shadow := some Image.empty, staged := true } })
    let g := Image.empty
    (s.dev.img.shadow = some g) ∧ (s.dev.imgState = 4) ∧ (s.dev.img.staged = true) := by
  decide +kernel

theorem wit_ImageTakesEffect_4 :
    let s := st (Dev.reset.setImgState 4)
    (s.dev.imgState = 4) ∧ (s.dev.bit .imgStatus 0 3 = false) ∧ (s.dev.img.staged = false) := by
  decide +kernel

theorem wit_ImageTakesEffect_5 :
    let s := st ({ Dev.reset with img := { ImgState.reset with active := some Image.empty } })
    let g := Image.empty
    (s.dev.img.active = some g) ∧ (s.dev.img.persist = none) := by
  decide +kernel

theorem wit_ImageTakesEffect_6 :
    let s := st ({ Dev.reset with mgt := { Dev.reset.mgt with ops := [persistOp] } })
    let bank : Fin 4 := 1
    let o := persistOp
    (s.dev.nvaServed bank.val = some o) ∧ (o.requester = 5) ∧ (1 < o.left) := by
  decide +kernel

theorem wit_ImageTakesEffect_7 :
    let s := st ({ Dev.reset with mgt := { Dev.reset.mgt with ops := [{ persistOp with left := 1, body := [] }] }, img := { ImgState.reset with persist := some (1, 7, 9) } })
    let bank : Fin 4 := 1
    let o := { persistOp with left := 1, body := [] }
    let k := 1
    let serial := 7
    let digest : BitVec 384 := 9
    (s.dev.nvaServed bank.val = some o) ∧ (o.requester = 5) ∧ (o.left ≤ 1) ∧ (s.dev.img.persist = some (k, serial,
      digest)) := by
  decide +kernel

theorem wit_EncoderInputsCountAndLatch_2 :
    let s := st Dev.reset
    let i : Fin 8 := 0
    let a := true
    let b := false
    ((s.dev.enc i.val).wireA = false) ∧ ((s.dev.enc i.val).wireB = false) ∧ (s.dev.cfg .encInvert i.val ≠ 1) ∧
      ((quadPlace a b + 4 - quadPlace (s.dev.enc i.val).a (s.dev.enc i.val).b) % 4 = 1) := by
  decide +kernel

theorem wit_EncoderInputsCountAndLatch_3 :
    let s := st Dev.reset
    let i : Fin 8 := 0
    let a := false
    let b := true
    ((s.dev.enc i.val).wireA = false) ∧ ((s.dev.enc i.val).wireB = false) ∧ (s.dev.cfg .encInvert i.val ≠ 1) ∧
      ((quadPlace a b + 4 - quadPlace (s.dev.enc i.val).a (s.dev.enc i.val).b) % 4 = 3) := by
  decide +kernel

theorem wit_EncoderInputsCountAndLatch_4 :
    let s := st Dev.reset
    let i : Fin 8 := 0
    let a := true
    let b := true
    ((s.dev.enc i.val).wireA = false) ∧ ((s.dev.enc i.val).wireB = false) ∧ ((quadPlace a b + 4 - quadPlace (s.dev.enc
      i.val).a (s.dev.enc i.val).b) % 4 = 2) := by
  decide +kernel

theorem wit_EncoderInputsCountAndLatch_5 :
    let s := st Dev.reset
    let i : Fin 8 := 0
    let a := false
    let b := false
    ((s.dev.enc i.val).wireZ = false) ∧ ((s.dev.enc i.val).z = false) ∧ (a = (s.dev.enc i.val).a) ∧ (b = (s.dev.enc
      i.val).b) := by
  decide +kernel

theorem wit_EncoderInputsCountAndLatch_9 :
    let s := st (Dev.reset.setBit .posEncStatus 0 30 true)
    let i : Fin 8 := 0
    (s.dev.bit .posEncStatus i.val 30 = true) := by
  decide +kernel

theorem wit_FiresAreCommittedAndStopped_1 :
    let s := st Dev.reset
    let er := ECode.posNoImage
    (s.dev.fireRefusal = some er) := by
  decide +kernel

theorem wit_FiresAreCommittedAndStopped_2 :
    let s := st ({ Dev.reset.setFld .glbBootStage 0 28 4 15 with img := { ImgState.reset with active := some Image.empty } })
    (s.dev.fireRefusal = none) ∧ (s.dev.fireEn = false) := by
  decide +kernel

theorem wit_FiresAreCommittedAndStopped_3 :
    let s := st (devMoving true)
    let b : PosBase := { tE := 2000000, qr := 0, num := 1, den := 1000000, reverse := false, origin := 0, cpl := 4294967296 }
    (s.dev.directMode = false) ∧ (s.dev.scanning = false) ∧ (s.dev.canFire = some b) ∧ (s.dev.dueAt (b.fireAt
      s.dev.pos.cmpLine) = b.fireAt s.dev.pos.cmpLine) := by
  decide +kernel

theorem wit_FiresAreCommittedAndStopped_4 :
    let s := st (devFired 1100000)
    let b : PosBase := { tE := 2000000, qr := 0, num := 1, den := 1000000, reverse := false, origin := 0, cpl := 4294967296 }
    let x : Fire := { index := 0, tF := 1100000, tQ := none, line := 0, reverse := false, pass := 0 }
    (s.dev.directMode = false) ∧ (s.dev.scanning = false) ∧ (s.dev.canFire = some b) ∧ (s.dev.pos.fires.head? = some
      x) ∧ (b.fireAt s.dev.pos.cmpLine < x.tF + 5000000) ∧ (b.lagQ12 (x.tF + 5000000 - b.fireAt s.dev.pos.cmpLine) ≤
      s.dev.cfg .ovsLagQ12 0) := by
  decide +kernel

theorem wit_FiresAreCommittedAndStopped_5 :
    let s := st (Dev.reset.setBit .posCtrl 0 0 true)
    (s.dev.isStandby = false) ∧ (s.dev.fireEn = true) := by
  decide +kernel

theorem wit_FiresAreCommittedAndStopped_6 :
    let s := st ({ Dev.reset with pos := { PosState.reset with dr := some { tE := 0, qr := 0, num := 1, den := 1, reverse := false, origin := 0, cpl := 1 } } })
    let b : PosBase := { tE := 0, qr := 0, num := 1, den := 1, reverse := false, origin := 0, cpl := 1 }
    (s.dev.pos.dr = some b) := by
  decide +kernel

theorem wit_FiresAreCommittedAndStopped_7 :
    let s := st (Dev.reset.setFld .posStatus 0 12 4 2)
    (s.dev.pos.dr = none) ∧ (s.dev.pos.ended = false) := by
  decide +kernel

theorem wit_FiresAreCommittedAndStopped_8 :
    let s := st (Dev.reset.setBit .posStatus 0 0 true)
    let time := 5
    (s.dev.fireEn = false) ∧ (((s.dev.pos.fires.head?.map fun f => f.tF).getD 0) ≤ time) := by
  decide +kernel

theorem wit_PositionZeroDelaysAndPasses_1 :
    let s := st Dev.reset
    (s.dev.firing = false) := by
  decide +kernel

theorem wit_PositionZeroDelaysAndPasses_2 :
    let s := st Dev.reset
    (s.dev.firing = false) := by
  decide +kernel

theorem wit_PositionZeroDelaysAndPasses_3 :
    let s := st (Dev.reset.setBit .posCtrl 0 3 true)
    (s.dev.bit .posCtrl 0 3 = true) := by
  decide +kernel

theorem wit_PositionZeroDelaysAndPasses_4 :
    let s := st (Dev.reset.setPort 0 { Dev.reset.port 0 with echo := some (EchoUse.refresh, []) })
    let port : Fin 192 := 0
    let got : List (Nat × Nat) := []
    ((s.dev.port port.val).echo = some (EchoUse.refresh, got)) := by
  decide +kernel

theorem wit_PositionZeroDelaysAndPasses_5 :
    let s := st Dev.reset
    (s.dev.fireEn = false) := by
  decide +kernel

theorem wit_PositionZeroDelaysAndPasses_6 :
    let s := st (Dev.reset.setBit .posCtrl 0 0 true)
    (s.dev.fireEn = true) := by
  decide +kernel

theorem wit_PositionZeroDelaysAndPasses_7 :
    let s := st Dev.reset
    (s.dev.pos.armedPass = none) := by
  decide +kernel

theorem wit_PositionZeroDelaysAndPasses_8 :
    let s := st ({ Dev.reset with pos := { PosState.reset with armedPass := some { lo := 0, hi := 1, reverse := false, number := 0 } } })
    (s.dev.pos.armedPass.isSome = true) := by
  decide +kernel

theorem wit_RegionsOpenCloseAndTakeBlocks_1 :
    let s := st devActive
    let slot : Fin 4096 := 1
    let w := openWords
    let n := 0
    (s.dev.slotState slot.val = 1) ∧ (s.dev.canEnter slot.val w = true) ∧ (entOpcode w = 0x10) ∧ (entryFault slot.val
      w = none) ∧ (s.dev.regionRefusal (regionOf slot.val w) = none) ∧ (s.dev.freeRegion = some n) := by
  decide +kernel

theorem wit_RegionsOpenCloseAndTakeBlocks_2 :
    let s := st (devActive.put .tenDramQuota 1 0)
    let slot : Fin 4096 := 1
    let w := openWords
    let er := ECode.quotaDram
    (s.dev.slotState slot.val = 1) ∧ (s.dev.canEnter slot.val w = true) ∧ (entOpcode w = 0x10) ∧ (entryFault slot.val
      w = none) ∧ (s.dev.regionRefusal (regionOf slot.val w) = some er) := by
  decide +kernel

theorem wit_RegionsOpenCloseAndTakeBlocks_3 :
    let s := st devRegion
    let slot : Fin 4096 := 1
    let w : List Word := [0x11000000, 0]
    let r := { regionOf 1 openWords with number := 0 }
    (s.dev.slotState slot.val = 1) ∧ (s.dev.canEnter slot.val w = true) ∧ (entOpcode w = 0x11) ∧ (entryFault slot.val
      w = none) ∧ (s.dev.region? (bits (entWord w 1) 0 16) = some r) ∧ (r.closed = false) ∧ (slot.val = 0 ∨ r.slot =
      slot.val) := by
  decide +kernel

theorem wit_RegionsOpenCloseAndTakeBlocks_4 :
    let s := st devActive
    let slot : Fin 4096 := 1
    let w : List Word := [0x11000000, 0]
    (s.dev.slotState slot.val = 1) ∧ (s.dev.canEnter slot.val w = true) ∧ (entOpcode w = 0x11) ∧ (entryFault slot.val
      w = none) ∧ (s.dev.region? (bits (entWord w 1) 0 16) = none) := by
  decide +kernel

theorem wit_RegionsOpenCloseAndTakeBlocks_5 :
    let s := st devRegion
    let slot : Fin 4096 := 1
    let w : List Word := [0x20000000, 0xf00, 0, 0, 64]
    let data : List Byte := []
    let r := { regionOf 1 openWords with number := 0 }
    let q := { regionOf 1 openWords with number := 0, heapNext := 1, heapUsed := [(0, 1, false)] }
    let off := 0
    (s.dev.slotState slot.val = 1) ∧ (s.dev.canEnter slot.val w = true) ∧ (entOpcode w = 0x20) ∧ (entryFault slot.val
      w = none) ∧ (s.dev.region? (bits (entWord w 1) 16 16) = some r) ∧ (r.slot = slot.val) ∧ (r.closed = false) ∧
      (bitOf (entWord w 7) 7 = false) ∧ (s.dev.xptSrcBad slot.val w = false) ∧ (s.dev.blockRefusal r (s.dev.blockJob
      slot.val w data) = none) ∧ (r.heapTake (ceilDiv (bits (entWord w 4) 0 18) 64) = some (off, q)) := by
  decide +kernel

theorem wit_RegionsOpenCloseAndTakeBlocks_6 :
    let s := st ((devRegion.setFld .tenState 2 29 3 1).setBit .tenState 2 0 true)
    let slot : Fin 4096 := 2
    let w : List Word := [0x20000000, 0xf00, 0, 0, 64]
    let r := { regionOf 1 openWords with number := 0 }
    (s.dev.slotState slot.val = 1) ∧ (s.dev.canEnter slot.val w = true) ∧ (entOpcode w = 0x20) ∧ (entryFault slot.val
      w = none) ∧ (s.dev.region? (bits (entWord w 1) 16 16) = some r) ∧ (r.slot ≠ slot.val ∨ r.closed = true) := by
  decide +kernel

theorem wit_BlocksAreCheckedFetchedAndSought_1 :
    let s := st devJob
    let job := 0
    let j : IngestJob := jobOne
    (s.dev.cmp.ingest[job]? = some j) := by
  decide +kernel

theorem wit_BlocksAreCheckedFetchedAndSought_2 :
    let s := st devJob
    let job := 0
    let j : IngestJob := jobOne
    let r := { regionOf 1 openWords with number := 0 }
    (s.dev.cmp.ingest[job]? = some j) ∧ (s.dev.region? j.region = some r) ∧ ((s.dev.mirroring && s.dev.bit .tenState
      j.slot 27) = false) ∧ (s.dev.beyondLock r j.strip j.first = true) ∧ (j.first + j.lines ≤ r.endOfs) ∧ (r.firstOfs
      ≤ j.first) := by
  decide +kernel

theorem wit_BlocksAreCheckedFetchedAndSought_3 :
    let s := st devLocked
    let region := 0
    let strip := 0
    let first := 0
    let sib : Fin 4 := 0
    let r := regLocked
    let b := entLocked
    (s.dev.region? region = some r) ∧ (((r.strip strip).entries.find? fun x => x.first == first && x.isLocked &&
      (x.state == .locked || x.state == .missing)) = some b) ∧ (b.state = .locked) ∧ (s.dev.fetchDue r strip first
      sib.val = true) ∧ (s.dev.tagOk r.slot (.region r.number) = true) ∧ ((s.dev.cmp.fetched.any fun y => y.region ==
      region && y.strip == strip && y.first == first && y.sibling == sib.val) = false) := by
  decide +kernel

theorem wit_CompressorUnitsEmitCheckedBlocks_1 :
    let s := st (Dev.reset.setBit .cdcUnitStatus 28 31 true)
    let u : Fin 32 := 28
    let v := 29
    (s.dev.unitFor u.val = some v) := by
  decide +kernel

theorem wit_CompressorUnitsEmitCheckedBlocks_2 :
    let s := st (Dev.reset.setBit .cdcUnitStatus 3 31 true)
    let u : Fin 32 := 3
    (s.dev.unitFor u.val = none) := by
  decide +kernel

theorem wit_CompressorUnitsEmitCheckedBlocks_3 :
    let s := st (Dev.reset.setUnit 3 { CdcUnit.reset with closed := [{ symbols := [1], stored := true }] })
    let u : Fin 32 := 3
    let b : ClosedBlock := { symbols := [1], stored := true }
    let rest : List ClosedBlock := []
    ((s.dev.unit u.val).closed = b :: rest) := by
  decide +kernel

theorem wit_StoredBlockDecodesToItsSymbols_1 :
    let syms := [1, 2, 15]
    (1 ≤ syms.length) ∧ (syms.length ≤ 262144) ∧ (syms.all (fun x => x < 16) = true) := by
  decide +kernel

theorem wit_CompressedBlockDecodesToItsSymbols_1 :
    let syms := [7, 7, 7, 7, 7, 7, 7, 7, 7, 7, 7, 7, 7, 7, 7]
    (1 ≤ syms.length) ∧ (syms.length ≤ 262144) ∧ (syms.all (fun x => x < 16) = true) := by
  decide +kernel

theorem wit_SharesOfALevelAddUp_1 :
    let w := 0
    let v := 0
    let k := 3
    (v < 16) ∧ (splitA w v + splitB w v = v) := by
  decide +kernel

theorem wit_BatchesStartCompleteAndForecast_1 :
    let s := st devFiring
    let port : Fin 192 := 0
    let fire : BitVec 48 := 1
    let p : FirePlace := { line := 1, reverse := false, pass := 0 }
    (s.dev.firePlace fire.toNat = some p) ∧ (s.dev.batchMayStart port.val fire.toNat = true) := by
  decide +kernel

theorem wit_BatchesStartCompleteAndForecast_2 :
    let s := st Dev.reset
    let port : Fin 192 := 0
    let fire : BitVec 48 := 1
    (s.dev.batchMayStart port.val fire.toNat = false) := by
  decide +kernel

theorem wit_BatchesStartCompleteAndForecast_3 :
    let s := st (Dev.reset.setSyn 0 { PortSyn.reset with runs := [runOne] })
    let port : Fin 192 := 0
    let r : BatchRun := runOne
    let rest : List BatchRun := []
    ((s.dev.syn' port.val).runs = r :: rest) ∧ (r.restart = false) ∧ (s.dev.isStandby = false) := by
  decide +kernel

theorem wit_BatchesStartCompleteAndForecast_4 :
    let s := st ({ Dev.reset.setBit .posCtrl 0 0 true with img := { ImgState.reset with active := some { Image.empty with fields := [((.fcEn, 0), 1)] } } })
    let fc : Fin 8 := 0
    (s.dev.fireEn = true) ∧ (s.dev.cfg .fcEn fc.val ≠ 0) := by
  decide +kernel

theorem wit_BatchesStartCompleteAndForecast_5 :
    let s := st Dev.reset
    (s.dev.fireEn = false) := by
  decide +kernel

theorem wit_BatchesStartCompleteAndForecast_6 :
    let s := st devPend
    let port : Fin 192 := 0
    let h : PendHealth := pendOne
    let rest : List PendHealth := []
    (s.dev.unfolded port.val = h :: rest) ∧ (s.dev.rowsTook port.val h = true) := by
  decide +kernel

theorem wit_HealthCommandsAreAnswered_1 :
    let s := st devStandby
    (s.dev.isStandby = true) := by
  decide +kernel

theorem wit_HealthCommandsAreAnswered_2 :
    let s := st devActive
    let value : Word := 0x40000000
    let d : Dev := s.dev.wr .embHcCtrl 0 (value.setWidth 64 &&& Reg.embHcCtrl.desc.rw)
    let line : Option Int := none
    (s.dev.isStandby = false) ∧ (d = s.dev.wr .embHcCtrl 0 (value.setWidth 64 &&& Reg.embHcCtrl.desc.rw)) ∧ (line =
      (if d.bit .embHcCtrl 0 30 then none else some (d.getInt .embHcLine 0))) ∧ (d.healthRefusal (d.fld .embHcCtrl 0 0
      4) d.hcMask line = none) := by
  decide +kernel

theorem wit_HealthCommandsAreAnswered_3 :
    let s := st Dev.reset
    let value : Word := 0x40000000
    let d : Dev := s.dev.wr .embHcCtrl 0 (value.setWidth 64 &&& Reg.embHcCtrl.desc.rw)
    let line : Option Int := none
    let er := ECode.embHealthRange
    (s.dev.isStandby = false) ∧ (d = s.dev.wr .embHcCtrl 0 (value.setWidth 64 &&& Reg.embHcCtrl.desc.rw)) ∧ (line =
      (if d.bit .embHcCtrl 0 30 then none else some (d.getInt .embHcLine 0))) ∧ (d.healthRefusal (d.fld .embHcCtrl 0 0
      4) d.hcMask line = some er) := by
  decide +kernel

theorem wit_TablesAndUpdateSets_1 :
    let s := st Dev.reset
    let m := 5
    let port : Fin 192 := 0
    (m < 16384) ∧ (s.dev.isStandby = false) ∧ (s.dev.inTransit .port port.val = false) ∧ (s.dev.bit .synStatus
      port.val 14 = false) ∧ (s.dev.writesAtOnce port.val = true) := by
  decide +kernel

theorem wit_TablesAndUpdateSets_2 :
    let s := st Dev.reset
    let port : Fin 192 := 0
    let k := 0
    let r := (((Reg.find (pageAddr 0 0)).map fun x => x.1).getD .glbId)
    let i := 0
    let hi := false
    (k < 72) ∧ (s.dev.isStandby = false) ∧ (s.dev.inTransit .port port.val = false) ∧ (s.dev.bit .synStatus port.val
      14 = false) ∧ (s.dev.writesAtOnce port.val = true) ∧ (Reg.find (pageAddr port.val k) = some (r, i, hi)) := by
  decide +kernel

theorem wit_TablesAndUpdateSets_3 :
    let s := st devFiring
    let port : Fin 192 := 0
    let t : SynTarget := .nozzle 3
    (t.valid = true) ∧ (s.dev.isStandby = false) ∧ (s.dev.inTransit .port port.val = false) ∧ (s.dev.bit .synStatus
      port.val 14 = false) ∧ (s.dev.writesAtOnce port.val = false) ∧ (Tab.find (s.dev.syn' port.val).staged t = none)
      ∧ ((s.dev.syn' port.val).staged.length < 4096) := by
  decide +kernel

theorem wit_TablesAndUpdateSets_4 :
    let s := st (Dev.reset.put .updFire 0 16)
    let port : Fin 192 := 0
    (s.dev.isStandby = false) ∧ (s.dev.inTransit .port port.val = false) ∧ (s.dev.bit .synStatus port.val 14 = false)
      ∧ (s.dev.fireIndex + 16 ≤ s.dev.get .updFire port.val) := by
  decide +kernel

theorem wit_TablesAndUpdateSets_5 :
    let s := st (Dev.reset.put .updFire 0 15)
    let port : Fin 192 := 0
    (s.dev.isStandby = false) ∧ (s.dev.inTransit .port port.val = false) ∧ (s.dev.bit .synStatus port.val 14 = false)
      ∧ (s.dev.get .updFire port.val < s.dev.fireIndex + 16) := by
  decide +kernel

theorem wit_TablesAndUpdateSets_6 :
    let s := st Dev.reset
    let port : Fin 192 := 0
    (s.dev.inTransit .port port.val = false) ∧ (s.dev.setStarted port.val = false) := by
  decide +kernel

theorem wit_TablesAndUpdateSets_7 :
    let s := st Dev.reset
    let port : Fin 192 := 0
    (s.dev.inTransit .port port.val = false) := by
  decide +kernel

theorem wit_EnginesFailRetireAndCueSequencesRun_1 :
    let s := st Dev.reset
    let en : Fin 200 := 0
    (s.dev.bit .embStatus en.val 31 = false) := by
  decide +kernel

theorem wit_EnginesFailRetireAndCueSequencesRun_2 :
    let s := st (Dev.reset.setBit .embStatus 0 29 true)
    let en : Fin 200 := 0
    let spare := 192
    let rest : List Nat := [193, 194, 195, 196, 197, 198, 199]
    (s.dev.bit .embStatus en.val 31 = false) ∧ (s.dev.bit .embStatus en.val 30 = false) ∧ (s.dev.bit .embStatus en.val
      29 = true) ∧ (s.dev.spares = spare :: rest) := by
  decide +kernel

theorem wit_EnginesFailRetireAndCueSequencesRun_3 :
    let s := st (Dev.reset.each [192, 193, 194, 195, 196, 197, 198, 199] fun d x => d.setBit .embStatus x 30 false)
    let en : Fin 200 := 0
    (s.dev.inTransit .engine en.val = false) ∧ (s.dev.bit .embStatus en.val 31 = false) ∧ (s.dev.spares = []) := by
  decide +kernel

theorem wit_EnginesFailRetireAndCueSequencesRun_4 :
    let s := st (Dev.reset.cueRequest (.groupReset 1))
    let k : CueKind := .groupReset 1
    let g := 1
    let p := 0
    (s.dev.cueNext = some (k, g)) ∧ (s.dev.cuePlace = some p) := by
  decide +kernel

theorem wit_EnginesFailRetireAndCueSequencesRun_5 :
    let s := st Dev.reset
    (s.dev.cueNext = none) := by
  decide +kernel

theorem wit_EnginesFailRetireAndCueSequencesRun_6 :
    let s := st ({ Dev.reset with mgt := { MgtState.reset with running := [(0, { kind := .groupReset 1, generation := 4, abort := false })] } })
    let place : Fin 8 := 0
    let r : CueRun := { kind := .groupReset 1, generation := 4, abort := false }
    (Tab.find s.dev.mgt.running place.val = some r) := by
  decide +kernel

theorem wit_EnginesFailRetireAndCueSequencesRun_7 :
    let s := st (Dev.reset.cueRequest (.groupReset 1))
    let gen : BitVec 16 := 1
    let w : CueKind × Nat := (.groupReset 1, 1)
    (s.dev.mgt.waiting.find? (fun w => w.2 == gen.toNat && w.1.abortable) = some w) := by
  decide +kernel

theorem wit_EnginesFailRetireAndCueSequencesRun_8 :
    let s := st Dev.reset
    let gen : BitVec 16 := 0
    (s.dev.mgt.waiting.find? (fun w => w.2 == gen.toNat && w.1.abortable) = none) ∧ (s.dev.mgt.running.find? (fun r =>
      r.2.generation == gen.toNat) = none) := by
  decide +kernel

theorem wit_SlatesBatchesAndCredits_1 :
    let s := st (devFiring.setPort 0 { PortLink.reset with slates := [slateOne] })
    let port : Fin 192 := 0
    let fire : BitVec 48 := 5
    let x : SlateSlot := slateOne
    ((s.dev.port port.val).slates.find? (fun x => x.fire == fire.toNat) = some x) := by
  decide +kernel

theorem wit_SlatesBatchesAndCredits_2 :
    let s := st ((devFiring.setCredits 0 3).setSyn 0 { PortSyn.reset with done := [doneOne] })
    let port : Fin 192 := 0
    let b : BatchDone := doneOne
    let rest : List BatchDone := []
    ((s.dev.syn' port.val).done = b :: rest) ∧ (4 ≤ s.dev.linkState port.val) ∧ (s.dev.get .joinFire port.val ≤
      b.fire) ∧ (s.dev.credits port.val ≠ 0) ∧ (s.dev.batchInTime port.val b.fire = true) := by
  decide +kernel

theorem wit_SlatesBatchesAndCredits_3 :
    let s := st (devFiring.put .posFireIndex 0 9)
    let port : Fin 192 := 0
    let fire : BitVec 48 := 9
    (4 ≤ s.dev.linkState port.val) ∧ (s.dev.get .joinFire port.val ≤ fire.toNat) ∧ (((s.dev.port
      port.val).sent.contains fire.toNat || (s.dev.port port.val).outstanding.contains fire.toNat) = false) ∧
      (s.dev.batchInTime port.val fire.toNat = false) ∧ ((s.dev.port port.val).skips.contains fire.toNat = false) := by
  decide +kernel

theorem wit_HeadMessagesAreTaken_1 :
    let s := st (Dev.reset.setFld .linkStatus 0 29 3 2)
    let port : Fin 192 := 0
    (s.dev.linkState port.val = 2) := by
  decide +kernel

theorem wit_HeadMessagesAreTaken_2 :
    let s := st Dev.reset
    let port : Fin 192 := 0
    (s.dev.linkState port.val ≠ 2) := by
  decide +kernel

theorem wit_HeadMessagesAreTaken_3 :
    let s := st (Dev.reset.setPort 0 { PortLink.reset with unacked := [{ seq := 3, type := 6, body := [], resends := 0 }] })
    let port : Fin 192 := 0
    let seq : BitVec 8 := 3
    let u : Unacked := { seq := 3, type := 6, body := [], resends := 0 }
    ((s.dev.port port.val).unacked.find? (fun u => u.seq == seq.toNat) = some u) ∧ ((s.dev.port port.val).stage ≠ 4) ∧
      ((s.dev.port port.val).stage ≠ 6) := by
  decide +kernel

theorem wit_HeadMessagesAreTaken_4 :
    let s := st devFiring
    let port : Fin 192 := 0
    (2 ≤ s.dev.linkState port.val) := by
  decide +kernel

theorem wit_HeadMessagesAreTaken_6 :
    let s := st (Dev.reset.setPort 0 { PortLink.reset with echo := some (EchoUse.refresh, []) })
    let port : Fin 192 := 0
    let word : Word := 0
    let use : EchoUse := .refresh
    let got : List (Nat × Nat) := []
    ((s.dev.port port.val).echo = some (use, got)) := by
  decide +kernel

theorem wit_HeadMessagesAreTaken_7 :
    let s := st Dev.reset
    let lane : Fin 1024 := 4
    let header : Byte := 0
    let n := 1
    (laneGroup lane.val = .head n) ∧ (headerDiscarded header.toNat = true) := by
  decide +kernel

theorem wit_HeadMessagesAreTaken_8 :
    let s := st Dev.reset
    let words : List Word := (messageWords 0x81 7 [5, 0]).map (BitVec.ofNat 32)
    (messageFails (words.map BitVec.toNat) = false) := by
  decide +kernel

theorem wit_HeadMessagesAreTaken_9 :
    let type := 2
    let seq := 7
    let body := [5, 0]
    let rest := [9]
    (0 < type) ∧ (type < 256) ∧ (seq < 256) ∧ (body.length < 65536) := by
  decide +kernel

theorem wit_HeadMessagesAreTaken_12 :
    let k := 1024
    let w := 2
    let lane := 1
    let q : List (Nat × Bool) := []
    let b : LinkBlock := ((blocksOf 1024 2 none []).1).getD 1 { header := 0, words := [] }
    (alignAt k = true) ∧ (w ∈ [1, 2, 4]) ∧ ((blocksOf k w none q).1[lane]? = some b) := by
  decide +kernel

theorem wit_HeadMessagesAreTaken_13 :
    let s := st ((Dev.reset.setFld .linkStatus 0 29 3 2).setPort 0 { PortLink.reset with stage := 3 })
    let port : Fin 192 := 0
    (s.dev.linkState port.val = 2) ∧ ((s.dev.port port.val).stage = 3) := by
  decide +kernel

theorem wit_HeadMessagesAreTaken_14 :
    let s := st (({ Dev.reset with img := { ImgState.reset with active := some { Image.empty with fields := [((.hlVersions, 0), 7)] } } }.setFld .linkStatus 0 29 3 2).setPort 0 { PortLink.reset with stage := 3 } |>.put .headCap 0 7)
    let port : Fin 192 := 0
    let ver := 3
    (s.dev.linkState port.val = 2) ∧ ((s.dev.port port.val).stage = 3) ∧ (s.dev.chooseVer port.val (bits (s.dev.get
      .headCap port.val) 0 3) = some ver) := by
  decide +kernel

theorem wit_PortsJoinAndLeaveFiring_1 :
    let s := st devReady
    let port : Fin 192 := 0
    (s.dev.inTransit .port port.val = false) ∧ (s.dev.goFail port.val = none) ∧ (s.dev.fireEn = true) := by
  decide +kernel

theorem wit_PortsJoinAndLeaveFiring_2 :
    let s := st (devReady.setBit .posCtrl 0 0 false)
    let port : Fin 192 := 0
    (s.dev.inTransit .port port.val = false) ∧ (s.dev.goFail port.val = none) ∧ (s.dev.fireEn = false) := by
  decide +kernel

theorem wit_PortsJoinAndLeaveFiring_3 :
    let s := st Dev.reset
    let port : Fin 192 := 0
    let c := 1
    (s.dev.inTransit .port port.val = false) ∧ (s.dev.goFail port.val = some c) := by
  decide +kernel

theorem wit_PortsJoinAndLeaveFiring_4 :
    let s := st Dev.reset
    let port : Fin 192 := 0
    let c := 1
    (s.dev.goFail port.val = some c) := by
  decide +kernel

theorem wit_PortsJoinAndLeaveFiring_5 :
    let s := st devReady
    let port : Fin 192 := 0
    (s.dev.goFail port.val = none) := by
  decide +kernel

theorem wit_PortsJoinAndLeaveFiring_6 :
    let s := st devFiring
    let port : Fin 192 := 0
    (s.dev.inTransit .port port.val = false) ∧ (4 ≤ s.dev.linkState port.val) := by
  decide +kernel

theorem wit_PortsJoinAndLeaveFiring_7 :
    let s := st Dev.reset
    let port : Fin 192 := 0
    (s.dev.inTransit .port port.val = false) := by
  decide +kernel

theorem wit_PortsJoinAndLeaveFiring_8 :
    let s := st (devFiring.setPort 0 { PortLink.reset with leaveFire := some 1 })
    let port : Fin 192 := 0
    let f := 1
    ((s.dev.port port.val).leaveFire = some f) ∧ (f ≤ s.dev.fireIndex + 1) := by
  decide +kernel

theorem wit_PortsJoinAndLeaveFiring_9 :
    let s := st Dev.reset
    let time := 0
    ((s.dev.at time).rateStill = false) := by
  decide +kernel

theorem wit_PortsJoinAndLeaveFiring_10 :
    let s := st Dev.reset
    (s.dev.loopRuns = false) := by
  decide +kernel

theorem wit_PortsJoinAndLeaveFiring_11 :
    let s := st (Dev.reset.setBit .qlCtrl 0 0 true)
    let port : Fin 192 := 0
    let w : Word := 0x20000
    (s.dev.loopRuns = true) ∧ (s.dev.bit .qlCtrl 0 2 = false) ∧ (bits w.toNat 16 2 ≠ 3) := by
  decide +kernel

theorem wit_PortsJoinAndLeaveFiring_12 :
    let s := st ({ Dev.reset with img := { ImgState.reset with active := some { Image.empty with fields := [((.loopEn, 0), 1), ((.fbSrc, 0), 0x40000003)] } } })
    let port : Fin 192 := 0
    let w : Word := 0x03010005
    let l := 0
    (l < 256) ∧ (s.dev.loopOn l = true) ∧ (s.dev.fbSource l = (1, port.val, bits w.toNat 24 8)) ∧ ((s.dev.ctl' l).fseq
      = none) := by
  decide +kernel

theorem wit_PortsJoinAndLeaveFiring_13 :
    let s := st (Dev.reset.setFld .linkStatus 0 29 3 4)
    let port : Fin 192 := 0
    (s.dev.linkState port.val = 4) ∧ (s.dev.get .joinFire port.val ≤ s.dev.fireIndex + 1) ∧ (s.dev.loopMasks port.val
      = none) := by
  decide +kernel

theorem wit_CameraLinksRunAndTrigger_1 :
    let s := st devCam
    let c : Fin 24 := 0
    let run := false
    (s.dev.cfg .pipeEn c.val ≠ 0) := by
  decide +kernel

theorem wit_CameraLinksRunAndTrigger_2 :
    let s := st (devCam.setPipe 0 { devCam.pipe 0 with frame := some Frame.empty })
    let c : Fin 24 := 0
    let f : Frame := Frame.empty
    ((s.dev.pipe c.val).frame = some f) := by
  decide +kernel

theorem wit_CameraLinksRunAndTrigger_3 :
    let s := st Dev.reset
    let c : Fin 24 := 0
    ((s.dev.pipe c.val).frame = none) := by
  decide +kernel

theorem wit_CameraLinksRunAndTrigger_4 :
    let s := st devCam
    let c : Fin 24 := 0
    (s.dev.camState c.val ≠ 0) := by
  decide +kernel

theorem wit_CameraLinksRunAndTrigger_5 :
    let s := st (((devMoving false).setBit .posStatus 0 2 true).setBit .insCtrl 0 0 true |>.setFld .insStatus 0 29 3 3)
    let c : Fin 24 := 0
    let k : Int := 0
    let b : PosBase := { tE := 2000000, qr := 0, num := 1, den := 1000000, reverse := false, origin := 0, cpl := 4294967296 }
    let depart : Nat := (s.dev.tx (192 + c.val)).slotAt (s.dev.triggerSlot c.val (b.reach (k * s.dev.cfg .trigStep c.val * 65536)))
    (s.dev.base = some b) ∧ (s.dev.pipeRuns c.val = true) ∧ (s.dev.camState c.val = 3) ∧ (s.dev.speedValid = true) ∧
      (depart = (s.dev.tx (192 + c.val)).slotAt (s.dev.triggerSlot c.val (b.reach (k * s.dev.cfg .trigStep c.val *
      65536)))) ∧ ((((s.dev.pipe c.val).lastTrigger.map fun t => t + 1000 * s.dev.get .insMinLineNs c.val).getD 0) ≤
      depart) := by
  decide +kernel

theorem wit_CameraLinksRunAndTrigger_6 :
    let s := st (Dev.reset.setFld .insStatus 0 29 3 2)
    let c : Fin 24 := 0
    (s.dev.camState c.val = 2) := by
  decide +kernel

theorem wit_CameraLinksRunAndTrigger_7 :
    let s := st (Dev.reset.setPipe 0 { Pipe.reset with stage := 6, unacked := some { seq := 2, body := [], resends := 0 } })
    let c : Fin 24 := 0
    let seq : BitVec 8 := 2
    let u : CamUnacked := { seq := 2, body := [], resends := 0 }
    ((s.dev.pipe c.val).unacked = some u) ∧ (u.seq = seq.toNat) ∧ ((s.dev.pipe c.val).stage = 6) := by
  decide +kernel

theorem wit_CameraLinksRunAndTrigger_8 :
    let s := st (Dev.reset.setPipe 0 { Pipe.reset with stage := 6, unacked := some { seq := 2, body := [], resends := 0 } })
    let c : Fin 24 := 0
    let u : CamUnacked := { seq := 2, body := [], resends := 0 }
    ((s.dev.pipe c.val).unacked = some u) := by
  decide +kernel

theorem wit_CameraLinksRunAndTrigger_9 :
    let s := st devCam
    let c : Fin 24 := 0
    (s.dev.pipeRuns c.val = true) ∧ (s.dev.camState c.val = 3) := by
  decide +kernel

theorem wit_CameraLinksRunAndTrigger_10 :
    let s := st (({ Dev.reset with img := { ImgState.reset with active := some { Image.empty with fields := [((.camVer, 0), 3)] } } }.setFld .insStatus 0 29 3 2).setPipe 0 { Pipe.reset with stage := 3, caps := 0x30000000 })
    let c : Fin 24 := 0
    (s.dev.camState c.val = 2) ∧ ((s.dev.pipe c.val).stage = 3) ∧ (bits (s.dev.pipe c.val).caps 28 2 &&& s.dev.cfg
      .camVer c.val ≠ 0) := by
  decide +kernel

theorem wit_CameraLinesAndRecords_1 :
    let s := st devLine
    let c : Fin 24 := 0
    let w1 : Word := 3
    let w2 : Word := 0x40000
    let fmt : Fin 3 := 0
    (s.dev.linesBefore c.val (bits w1.toNat 0 16) = []) ∧ (s.dev.camState c.val = 3) ∧ (((s.dev.pipe c.val).lines.any
      fun l => l.tseq == bits w1.toNat 0 16) = true) ∧ (s.dev.camVer c.val = 2 ∨ fmt.val ≠ 2) ∧ (1 ≤ bits w2.toNat 16
      16) ∧ (bits w2.toNat 16 16 ≤ 16384) ∧ ((s.dev.camVcs c.val).contains (bits w1.toNat 30 2) = true) ∧ (bits
      w1.toNat 28 2 < s.dev.camChannels c.val) ∧ (bits w2.toNat 0 16 + bits w2.toNat 16 16 ≤ (s.dev.tileOf c.val (bits
      w1.toNat 30 2)).2) := by
  decide +kernel

theorem wit_CameraLinesAndRecords_2 :
    let s := st devCam
    let c : Fin 24 := 0
    let w1 : Word := 3
    let w2 : Word := 0x40000
    (s.dev.linesBefore c.val (bits w1.toNat 0 16) = []) ∧ (s.dev.camState c.val = 3) ∧ (((s.dev.pipe c.val).lines.any
      fun l => l.tseq == bits w1.toNat 0 16) = false) := by
  decide +kernel

theorem wit_CameraLinesAndRecords_3 :
    let s := st (devCam.setBit .insStatus 0 28 true)
    let c : Fin 24 := 0
    let w1 : Word := 0
    (s.dev.camState c.val = 3) ∧ (s.dev.camVer c.val = 2) := by
  decide +kernel

theorem wit_CameraLinesAndRecords_4 :
    let s := st (devLine.setBit .insStatus 0 28 true)
    let c : Fin 24 := 0
    let tseq : BitVec 16 := 3
    (s.dev.camVer c.val = 2) := by
  decide +kernel

theorem wit_CameraLinesAndRecords_6 :
    let s := st devLine
    let c : Fin 24 := 0
    let tseq : BitVec 16 := 3
    let l : CamLine := lineOne
    ((s.dev.pipe c.val).lines.find? (fun l => l.tseq == tseq.toNat) = some l) := by
  decide +kernel

theorem wit_CameraLinesAndRecords_8 :
    let s := st (Dev.reset.setPipe 0 { Pipe.reset with toLoop := [{ pass := 0, bytes := [] }] })
    let c : Fin 24 := 0
    let r : StatRecord := { pass := 0, bytes := [] }
    let rest : List StatRecord := []
    ((s.dev.pipe c.val).toLoop = r :: rest) ∧ (s.dev.isStandby = false) := by
  decide +kernel

theorem wit_CameraLinesAndRecords_9 :
    let s := st (Dev.reset.setPipe 0 { Pipe.reset with toRing := [{ pass := 0, bytes := [1, 2] }] })
    let c : Fin 24 := 0
    let r : StatRecord := { pass := 0, bytes := [1, 2] }
    let rest : List StatRecord := []
    ((s.dev.pipe c.val).toRing = r :: rest) ∧ (s.dev.overload = false) ∧ (ringCount (2 ^ s.dev.fld .insStatRingCtrl
      c.val 0 4) (s.dev.get .insStatRingHead c.val) (s.dev.get .insStatRingTail c.val) < 2 ^ s.dev.fld
      .insStatRingCtrl c.val 0 4) := by
  decide +kernel

theorem wit_CameraLinesAndRecords_10 :
    let s := st ((Dev.reset.setPipe 0 { Pipe.reset with toRing := [{ pass := 0, bytes := [1, 2] }] }).put .insStatRingHead 0 0x10000)
    let c : Fin 24 := 0
    let r : StatRecord := { pass := 0, bytes := [1, 2] }
    let rest : List StatRecord := []
    ((s.dev.pipe c.val).toRing = r :: rest) ∧ (s.dev.overload = false) ∧ (2 ^ s.dev.fld .insStatRingCtrl c.val 0 4 ≤
      ringCount (2 ^ s.dev.fld .insStatRingCtrl c.val 0 4) (s.dev.get .insStatRingHead c.val) (s.dev.get
      .insStatRingTail c.val)) := by
  decide +kernel

theorem wit_CameraLinesAndRecords_11 :
    let s := st (Dev.reset.setPipe 0 { Pipe.reset with uploads := [{ sub := 0, frame := 1, bytes := [] }] })
    let c : Fin 24 := 0
    let j : UploadJob := { sub := 0, frame := 1, bytes := [] }
    let rest : List UploadJob := []
    ((s.dev.pipe c.val).uploads = j :: rest) := by
  decide +kernel

theorem wit_UploadSubscriptionsBeginAndEnd_1 :
    let s := st devActive
    let slot : Fin 4096 := 1
    let w : List Word := [0x30000000, 0, 1]
    let k := 0
    (s.dev.slotState slot.val = 1) ∧ (s.dev.canEnter slot.val w = true) ∧ (entOpcode w = 0x30) ∧ (entryFault slot.val
      w = none) ∧ (bits (entWord w 1) 0 5 < 24) ∧ (1 ≤ bits (entWord w 2) 0 13) ∧ (bits (entWord w 2) 0 13 ≤ 4096) ∧
      ((List.range 16).find? (fun k => (Tab.find (s.dev.pipe (bits (entWord w 1) 0 5)).subs k).isNone) = some k) := by
  decide +kernel

theorem wit_UploadSubscriptionsBeginAndEnd_2 :
    let s := st (devActive.setPipe 0 { Pipe.reset with subs := [(0, subscriptionOf 0 [0x30000000, 0, 1])] })
    let slot : Fin 4096 := 1
    let w : List Word := [0x31000000, 0]
    let x : Subscription := subscriptionOf 0 [0x30000000, 0, 1]
    (s.dev.slotState slot.val = 1) ∧ (s.dev.canEnter slot.val w = true) ∧ (entOpcode w = 0x31) ∧ (entryFault slot.val
      w = none) ∧ (Tab.find (s.dev.pipe (bits (entWord w 1) 0 5)).subs (bits (entWord w 1) 8 4) = some x) := by
  decide +kernel

theorem wit_LoopTakesRecordsAndDecides_1 :
    let r : LoopRecord := { bar := none, pipe := 0, frame := 7, yFirst := 0, pass := 0, entries := [(0, 5, -20)] }
    let rest : List LoopRecord := []
    let s := st { (devFiring.setBit .qlCtrl 0 0 true) with ql := { QlState.reset with records := [r] }, img := { devFiring.img with active := some { Image.empty with fields := [((.qlAvgN, 0), 8), ((.outThr, 0), 65526)] } } }
    let n := 0
    let m := 5
    let v : Int := -20
    (s.dev.ql.records = r :: rest) ∧ (s.dev.loopRuns = true) ∧ ((Tab.find s.dev.ql.lastFrame (r.bar, r.pipe)).map (fun
      l => newer32 r.frame l) ≠ some false) ∧ (r.entries = [(n, m, v)]) ∧ (s.dev.portFiring n = true) ∧ (s.dev.heldOff
      (s.dev.cell n m) r = false) ∧ ((s.dev.cell n m).out < 2) ∧ ((s.dev.cell n m).count + 1 < s.dev.cfg .qlAvgN 0) ∧
      (s.dev.ql.cell.all (fun t => t.2.mean.isNone) = true) := by
  decide +kernel

theorem wit_LoopTakesRecordsAndDecides_2 :
    let r : LoopRecord := { bar := none, pipe := 0, frame := 7, yFirst := 0, pass := 0, entries := [] }
    let rest : List LoopRecord := []
    let s := st { Dev.reset with ql := { QlState.reset with records := [r] } }
    (s.dev.ql.records = r :: rest) ∧ (s.dev.loopRuns = false) := by
  decide +kernel

theorem wit_LoopTakesRecordsAndDecides_3 :
    let s := st Dev.reset
    (s.dev.ql.records = []) := by
  decide +kernel

theorem wit_LoopTakesRecordsAndDecides_4 :
    let x := decOne
    let s := st { (Dev.reset.setBit .qlCtrl 0 0 true) with img := { ImgState.reset with active := some { Image.empty with fields := [((.fluidPresent, 0), 1), ((.fluidColumns, 0), 4096), ((.fluidK, 0), 2)] } }, ql := { QlState.reset with decisions := [decOne] } }
    (s.dev.ql.decisions.find? (fun x => !x.presented) = some x) ∧ (s.dev.healthRefusal x.fluid x.mask none = none) ∧
      (s.dev.loopRuns = true) := by
  decide +kernel

theorem wit_LoopTakesRecordsAndDecides_5 :
    let x := decOne
    let s := st { (Dev.reset.setBit .qlCtrl 0 0 true) with img := { ImgState.reset with active := some { Image.empty with fields := [((.fluidPresent, 0), 1), ((.fluidColumns, 0), 4096), ((.fluidK, 0), 2)] } }, ql := { QlState.reset with decisions := [decOne] }, syn := { SynState.reset with pend := List.replicate 256 pendOne } }
    (s.dev.ql.decisions.find? (fun x => !x.presented) = some x) ∧ (s.dev.healthRefusal x.fluid x.mask none = some
      .embHealthFull) ∧ (s.dev.loopRuns = true) := by
  decide +kernel

theorem wit_LoopTakesRecordsAndDecides_6 :
    let x : Decision := { decOne with presented := true }
    let s := st { (Dev.reset.setBit .qlCtrl 0 0 true) with img := { ImgState.reset with active := some { Image.empty with fields := [((.fluidPresent, 0), 1), ((.fluidColumns, 0), 4096), ((.fluidK, 0), 2)] } }, ql := { QlState.reset with decisions := [x] } }
    (s.dev.ql.decisions.find? (fun x => x.presented) = some x) ∧ (s.dev.healthRefusal x.fluid x.mask none = none) ∧
      (s.dev.loopRuns = true) := by
  decide +kernel

theorem wit_LoopTakesRecordsAndDecides_7 :
    let s := st { Dev.reset with ql := { QlState.reset with decisions := [decOne] } }
    (s.dev.loopRuns = false) := by
  decide +kernel

theorem wit_CascadeMessagesAreConsumedForwardedOrDropped_1 :
    let s := st devCas
    let link : Fin 8 := 5
    let body : Word := 0x100
    (s.dev.casEnabled link.val = true) ∧ (8 + link.val ∉ s.dev.lne.capped) ∧ (bits body.toNat 8 8 = link.val % 4) := by
  decide +kernel

theorem wit_CascadeMessagesAreConsumedForwardedOrDropped_2 :
    let s := st devCas
    let link : Fin 8 := 5
    (s.dev.casEnabled link.val = true) ∧ (s.dev.bit .qlStatus 0 (16 + link.val) = false) := by
  decide +kernel

theorem wit_CascadeMessagesAreConsumedForwardedOrDropped_3 :
    let s := st devCas
    let link : Fin 8 := 5
    let w1 : Word := 0x02000000
    (bits w1.toNat 16 8 = s.dev.cfg .barId 0) ∧ (s.dev.cfg .barId 0 ≠ 255) := by
  decide +kernel

theorem wit_CascadeMessagesAreConsumedForwardedOrDropped_4 :
    let s := st (devCas.put .insStoreSize 0 4096)
    let link : Fin 8 := 5
    let w1 : Word := 0x02000000
    let w2 : Word := 0x4000
    (bits w1.toNat 16 8 = s.dev.cfg .barId 0) ∧ (s.dev.cfg .barId 0 ≠ 255) ∧ ((s.dev.pipesOf (some (bits w1.toNat 24
      8)) (bits w2.toNat 14 4)).isEmpty = false) ∧ ((s.dev.ins.copies.map StoreCopy.size).sum ≤ 1000000 * s.dev.get
      .insStoreSize 0) := by
  decide +kernel

theorem wit_CascadeMessagesAreConsumedForwardedOrDropped_5 :
    let s := st devCas
    let link : Fin 8 := 5
    let w1 : Word := 0x02000000
    let body : Vector Word 9 := Vector.replicate 9 1
    (bits w1.toNat 16 8 = s.dev.cfg .barId 0) ∧ (s.dev.cfg .barId 0 ≠ 255) := by
  decide +kernel

theorem wit_CascadeMessagesAreConsumedForwardedOrDropped_6 :
    let s := st devCas
    let link : Fin 8 := 5
    let w1 : Word := 0x02000000
    (bits w1.toNat 16 8 = s.dev.cfg .barId 0) ∧ (s.dev.cfg .barId 0 ≠ 255) := by
  decide +kernel

theorem wit_CascadeMessagesAreConsumedForwardedOrDropped_7 :
    let s := st devCas
    let link : Fin 8 := 5
    let w1 : Word := 0x02000000
    (bits w1.toNat 16 8 = s.dev.cfg .barId 0) ∧ (s.dev.cfg .barId 0 ≠ 255) := by
  decide +kernel

theorem wit_CascadeMessagesAreConsumedForwardedOrDropped_8 :
    let s := st (devCas.setBit .qlStatus 0 16 true)
    let link : Fin 8 := 5
    let w1 : Word := 0x02070300
    (bits w1.toNat 16 8 ≠ s.dev.cfg .barId 0) ∧ (bits w1.toNat 16 8 ≠ 255) ∧ (bits w1.toNat 8 8 ≠ 0) ∧ (s.dev.bit
      .qlStatus 0 (16 + 4 * (1 - link.val / 4)) = true) ∧ (s.dev.bit .qlStatus 0 (17 + 4 * (1 - link.val / 4)) =
      false) ∧ (s.dev.bit .qlStatus 0 (18 + 4 * (1 - link.val / 4)) = false) ∧ (s.dev.bit .qlStatus 0 (19 + 4 * (1 -
      link.val / 4)) = false) := by
  decide +kernel

theorem wit_CascadeMessagesAreConsumedForwardedOrDropped_9 :
    let s := st devCas
    let link : Fin 8 := 5
    let w1 : Word := 0x02070000
    (bits w1.toNat 16 8 ≠ s.dev.cfg .barId 0) ∧ (bits w1.toNat 16 8 ≠ 255) ∧ (bits w1.toNat 8 8 = 0) := by
  decide +kernel

theorem wit_RingsAreServed_1 :
    let s := st devOwner
    let slot : Fin 4096 := 0
    let fn : Option (Fin 64) := some 0
    let value : Word := 3
    let entries := [nopWords]
    (s.dev.boundTo slot.val fn = true) ∧ (s.dev.inTransit .slot slot.val = false) ∧ (bits value.toNat 0 16 <
      s.dev.sqDepth slot.val) ∧ (ringCount (s.dev.sqDepth slot.val) value.toNat (s.dev.get .tenSqHead slot.val) ≤
      s.dev.sqDepth slot.val) := by
  decide +kernel

theorem wit_RingsAreServed_2 :
    let s := st devOwner
    let slot : Fin 4096 := 0
    let fn : Option (Fin 64) := some 0
    let value : Word := 3
    let w := nopWords
    (s.dev.boundTo slot.val fn = true) ∧ (s.dev.inTransit .slot slot.val = false) := by
  decide +kernel

theorem wit_RingsAreServed_3 :
    let s := st devOwner
    let slot : Fin 4096 := 0
    let fn : Option (Fin 64) := some 0
    let value : Word := 4096
    let entries : List (List Word) := []
    (s.dev.boundTo slot.val fn = true) ∧ (s.dev.inTransit .slot slot.val = false) ∧ (s.dev.sqDepth slot.val ≤ bits
      value.toNat 0 16 ∨ s.dev.sqDepth slot.val < ringCount (s.dev.sqDepth slot.val) value.toNat (s.dev.get .tenSqHead
      slot.val)) := by
  decide +kernel

theorem wit_RingsAreServed_4 :
    let s := st devOwner
    let slot : Fin 4096 := 0
    let fn : Option (Fin 64) := none
    let value : Word := 4096
    let entries : List (List Word) := []
    (s.dev.boundTo slot.val fn = false) := by
  decide +kernel

theorem wit_RingsAreServed_5 :
    let s := st (devOwner.put .tenCqTail 0 3)
    let slot : Fin 4096 := 0
    let fn : Option (Fin 64) := some 0
    let value : Word := 2
    (s.dev.boundTo slot.val fn = true) ∧ (s.dev.inTransit .slot slot.val = false) ∧ (bits value.toNat 0 16 <
      s.dev.cqDepth slot.val) ∧ (ringCount (s.dev.cqDepth slot.val) (s.dev.get .tenCqTail slot.val) value.toNat ≤
      ringCount (s.dev.cqDepth slot.val) (s.dev.get .tenCqTail slot.val) (s.dev.get .tenCqHead slot.val)) := by
  decide +kernel

theorem wit_RingsAreServed_6 :
    let s := st devGrant
    let w : List Word := 0x01000000 :: List.replicate 15 0
    (s.dev.ringReady 0 = true) ∧ (s.dev.grantWords 0 = [w]) ∧ (s.dev.dmaHeld 0 w = false) ∧ (entryFault 0 w = none) := by
  decide +kernel

theorem wit_RingsAreServed_7 :
    let s := st (devOwner.put .tenSqTail 0 1)
    let w : List Word := List.replicate 16 0
    let er := ECode.ringOpcode
    (s.dev.ringReady 0 = true) ∧ (s.dev.grantWords 0 = [w]) ∧ (s.dev.dmaHeld 0 w = false) ∧ (entryFault 0 w = some er) := by
  decide +kernel

theorem wit_RingsAreServed_8 :
    let s := st Dev.reset
    let slot : Fin 4096 := 0
    (s.dev.ringReady slot.val = false) := by
  decide +kernel

theorem wit_RingsAreServed_9 :
    let s := st devGrant
    let slot : Fin 4096 := 1
    (slot.val ≠ 0) ∧ (s.dev.ringReady 0 = true) := by
  decide +kernel

theorem wit_RingsAreServed_10 :
    let s := st devOwner
    let slot : Fin 4096 := 0
    let w := nopWords
    (s.dev.slotState slot.val = 1) ∧ (s.dev.canEnter slot.val w = true) ∧ (entOpcode w = 0x01) ∧ (entryFault slot.val
      w = none) ∧ ((s.dev.ctx slot.val).taken = []) ∧ (s.dev.mirroring = false) ∧ (s.dev.cqReady slot.val = true) ∧
      (ringCount (s.dev.cqDepth slot.val) (s.dev.get .tenCqTail slot.val) (s.dev.get .tenCqHead slot.val) <
      s.dev.cqDepth slot.val) := by
  decide +kernel

theorem wit_RingsAreServed_11 :
    let s := st devOwner
    let slot : Fin 4096 := 0
    let w : List Word := [0x40000000, 3]
    (s.dev.slotState slot.val = 1) ∧ (s.dev.canEnter slot.val w = true) ∧ (entOpcode w = 0x40) ∧ (entryFault slot.val
      w = none) := by
  decide +kernel

theorem wit_RingsAreServed_12 :
    let s := st devOwner
    let slot : Fin 4096 := 0
    let w : List Word := [0x80010000]
    let er := ECode.ringEntry
    (s.dev.slotState slot.val = 1) ∧ (s.dev.canEnter slot.val w = true) ∧ (entryFault slot.val w = some er) := by
  decide +kernel

theorem wit_ContextsOpenCloseParkAndFree_1 :
    let s := st devOwner
    let w := ctxWords
    let k := 1
    (s.dev.slotState 0 = 1) ∧ (s.dev.canEnter 0 w = true) ∧ (entOpcode w = 0x80) ∧ (entryFault 0 w = none) ∧
      (s.dev.isStandby = false) ∧ (s.dev.admits = true) ∧ (s.dev.openBad w = false) ∧ (s.dev.pickSlot (bitOf (entWord
      w 1) 12) (bits (entWord w 1) 0 12) = .inl k) ∧ (bits (entWord w 1) 24 2 = 1 → s.dev.vfBound (bits (entWord w 1)
      26 6) = false) ∧ (ringUnits (bits (entWord w 4) 0 5) (bits (entWord w 4) 8 5) (bitOf (entWord w 1) 17 && bits
      (entWord w 1) 24 2 == 1) ≤ 16 * orDefault (entWord w 2) (s.dev.cfg .defDramMb 0)) ∧ (ringUnits (bits (entWord w
      4) 0 5) (bits (entWord w 4) 8 5) (bitOf (entWord w 1) 17 && bits (entWord w 1) 24 2 == 1) ≤ s.dev.get
      .tenPoolFree 0) := by
  decide +kernel

theorem wit_ContextsOpenCloseParkAndFree_2 :
    let s := st (devOwner.setFld .glbBootStage 0 28 4 3)
    let w := ctxWords
    (s.dev.slotState 0 = 1) ∧ (s.dev.canEnter 0 w = true) ∧ (entOpcode w = 0x80) ∧ (entryFault 0 w = none) ∧
      (s.dev.isStandby = false) ∧ (s.dev.openBad w = false) ∧ (s.dev.admits = false) := by
  decide +kernel

theorem wit_ContextsOpenCloseParkAndFree_3 :
    let s := st devOpen
    let w : List Word := [0x81000000, 0x1001]
    let k := 1
    (s.dev.slotState 0 = 1) ∧ (s.dev.canEnter 0 w = true) ∧ (entOpcode w = 0x81) ∧ (entryFault 0 w = none) ∧
      (s.dev.isStandby = false) ∧ (s.dev.handleSlot (entWord w 1) = some k) ∧ (k ≠ 0) ∧ (s.dev.slotHeld k = false) := by
  decide +kernel

theorem wit_ContextsOpenCloseParkAndFree_4 :
    let s := st devOpen
    let w : List Word := [0x82000000, 0x1001]
    let k := 1
    let n := 0
    (s.dev.slotState 0 = 1) ∧ (s.dev.canEnter 0 w = true) ∧ (entOpcode w = 0x82) ∧ (entryFault 0 w = none) ∧
      (s.dev.isStandby = false) ∧ (s.dev.handleSlot (entWord w 1) = some k) ∧ (k ≠ 0) ∧ (s.dev.slotHeld k = false) ∧
      (s.dev.cmp.regions.any (fun r => r.slot == k && !r.closed) = false) ∧ (s.dev.hasSubs (s.dev.ctxHandle k) =
      false) ∧ ((s.dev.ctx k).taken = []) ∧ (s.dev.freePark = some n) := by
  decide +kernel

theorem wit_ContextsOpenCloseParkAndFree_5 :
    let s := st { devOwner with ten := { devOwner.ten with parks := [(4, { ctx := Ctx.reset, page := [], lost := false })] } }
    let w : List Word := [0x83000000, 4, 0x1000]
    let k := 1
    let r : ParkRec := { ctx := Ctx.reset, page := [], lost := false }
    (s.dev.slotState 0 = 1) ∧ (s.dev.canEnter 0 w = true) ∧ (entOpcode w = 0x83) ∧ (entryFault 0 w = none) ∧
      (s.dev.isStandby = false) ∧ (s.dev.admits = true) ∧ (s.dev.pickSlot (bitOf (entWord w 2) 12) (bits (entWord w 2)
      0 12) = .inl k) ∧ (Tab.find s.dev.ten.parks (bits (entWord w 1) 0 16) = some r) ∧ (s.dev.activating (bits
      (entWord w 1) 0 16) = false) ∧ (r.lost = false) := by
  decide +kernel

theorem wit_ContextsOpenCloseParkAndFree_6 :
    let s := st devOwner
    let w : List Word := [0x83000000, 4, 0]
    (s.dev.slotState 0 = 1) ∧ (s.dev.canEnter 0 w = true) ∧ (entOpcode w = 0x83) ∧ (entryFault 0 w = none) ∧
      (s.dev.isStandby = false) ∧ (s.dev.pickSlot (bitOf (entWord w 2) 12) (bits (entWord w 2) 0 12) = .inr
      .ctxSlotBusy) := by
  decide +kernel

theorem wit_ContextsOpenCloseParkAndFree_7 :
    let s := st devOpen
    let w : List Word := [0x84000000, 0x1001, 8, 0x20010]
    let k := 1
    (s.dev.slotState 0 = 1) ∧ (s.dev.canEnter 0 w = true) ∧ (entOpcode w = 0x84) ∧ (entryFault 0 w = none) ∧
      (s.dev.isStandby = false) ∧ (s.dev.handleSlot (entWord w 1) = some k) ∧ (s.dev.slotHeld k = false) ∧ (bitOf
      (entWord w 3) 24 = s.dev.bit .tenState k 27 ∨ s.dev.fld .tenRegions k 0 16 = 0) := by
  decide +kernel

theorem wit_ContextsOpenCloseParkAndFree_8 :
    let s := st { devOpen with ten := { devOpen.ten with zeroing := [{ slot := 1, generation := 1, units := 5, closesSlot := true }] } }
    let slot : Fin 4096 := 1
    let j : ZeroJob := { slot := 1, generation := 1, units := 5, closesSlot := true }
    (s.dev.ten.zeroing.find? (fun j => j.slot == slot.val) = some j) ∧ (slot.val ≠ 0) := by
  decide +kernel

theorem wit_ContextsOpenCloseParkAndFree_9 :
    let s := st (devOwner.setFld .ptnStatus 0 29 3 3)
    let w := ctxWords
    (s.dev.slotState 0 = 1) ∧ (s.dev.canEnter 0 w = true) ∧ (entryFault 0 w = none) ∧ (s.dev.isStandby = true) := by
  decide +kernel

theorem wit_TransportSessionsRunByTheirDatagrams_3 :
    let s := st ((devOpen.setBit .xptSession 1 31 true).setSess 1 { Sess.empty with ackDue := true })
    let slot : Fin 4096 := 1
    (s.dev.sessBound slot.val = true) ∧ ((s.dev.sess slot.val).ackDue = true) := by
  decide +kernel

theorem wit_TransportSessionsRunByTheirDatagrams_4 :
    let s := st devOpen
    let slot : Fin 4096 := 1
    (s.dev.sessBound slot.val = false ∨ (s.dev.sess slot.val).ackDue = false) := by
  decide +kernel

theorem wit_TransportSessionsRunByTheirDatagrams_5 :
    let u : XptSent := { seq := 3, type := 6, payload := [], resends := 2, sacked := false }
    let s := st ((devOpen.setBit .xptSession 1 31 true).setSess 1 { Sess.empty with unacked := [u] })
    let slot : Fin 4096 := 1
    let seq : BitVec 32 := 3
    ((s.dev.sess slot.val).unacked.find? (fun u => u.seq == seq.toNat && !u.sacked) = some u) ∧ (u.resends < 8) := by
  decide +kernel

theorem wit_TransportSessionsRunByTheirDatagrams_6 :
    let u : XptSent := { seq := 3, type := 6, payload := [], resends := 8, sacked := false }
    let s := st ((devOpen.setBit .xptSession 1 31 true).setSess 1 { Sess.empty with unacked := [u] })
    let slot : Fin 4096 := 1
    let seq : BitVec 32 := 3
    ((s.dev.sess slot.val).unacked.find? (fun u => u.seq == seq.toNat && !u.sacked) = some u) ∧ (8 ≤ u.resends) := by
  decide +kernel

theorem wit_TransportSessionsRunByTheirDatagrams_7 :
    let s := st ((devOpen.setBit .xptSession 1 31 true).setSess 1 { Sess.empty with cqWait := [(0, [1])] })
    let slot : Fin 4096 := 1
    (s.dev.sessBound slot.val = true) ∧ ((s.dev.sess slot.val).cqWait ≠ []) ∧ ((s.dev.sess slot.val).unacked.length <
      64) := by
  decide +kernel

theorem wit_FramesAndLocalClock_1 :
    let s := st Dev.reset
    let ep : Fin 20 := 0
    let sub : Fin 4 := 0
    let frame : List Byte := []
    (s.dev.portOn ep.val sub.val = false ∨ frame.length < 18 ∨ leNat (frame.drop (frame.length - 4)) ≠ fcsOf
      (frame.take (frame.length - 4))) := by
  decide +kernel

theorem wit_FramesAndLocalClock_2 :
    let s := st (Dev.reset.setBit .epCtrl 0 0 true)
    let ep : Fin 20 := 0
    let sub : Fin 4 := 0
    let f : List Byte := List.replicate 12 0 ++ [0x88, 0x08, 0x00, 0x01]
    (s.dev.portOn ep.val sub.val = true) ∧ (14 ≤ f.length) ∧ ((frameInfo f).extraTag = false) ∧ ((frameInfo
      f).body.length ≤ 9216) ∧ (isPause (frameInfo f) = true) := by
  decide +kernel

theorem wit_FramesAndLocalClock_3 :
    let s := st (Dev.reset.setBit .epCtrl 0 0 true)
    let ep : Fin 20 := 0
    let sub : Fin 4 := 0
    let f : List Byte := List.replicate 12 0 ++ [0x08, 0x01]
    (s.dev.portOn ep.val sub.val = true) ∧ (14 ≤ f.length) ∧ ((frameInfo f).extraTag = false) ∧ ((frameInfo
      f).body.length ≤ 9216) ∧ ((frameInfo f).etherType = 0x0801) ∧ ((frameInfo f).dst = s.dev.get .epMac ep.val) ∧ (8
      * f.length ≤ s.dev.mgmtRoom) := by
  decide +kernel

theorem wit_FramesAndLocalClock_4 :
    let s := st (Dev.reset.setBit .epCtrl 0 0 true)
    let ep : Fin 20 := 0
    let sub : Fin 4 := 0
    (s.dev.portOn ep.val sub.val = false ∨ s.dev.bit .epStatus ep.val (28 + sub.val) = false) := by
  decide +kernel

theorem wit_FramesAndLocalClock_5 :
    let s := st (((Dev.reset.setBit .epCtrl 0 0 true).setBit .epCtrl 0 1 true).setBit .epCtrl 0 10 true |>.setBit .epStatus 0 30 true)
    let ep : Fin 20 := 0
    let sub : Fin 4 := 2
    (s.dev.portOn ep.val sub.val = true) ∧ (s.dev.bit .epStatus ep.val (28 + sub.val) = true) := by
  decide +kernel

theorem wit_FramesAndLocalClock_6 :
    let x : TxStamp := { ns := 0, frac := 0, sequenceId := 1, messageType := 0, domain := 0 }
    let s := st { Dev.reset with hst := { HstState.reset with txts := [(0, [x])] } }
    let ep : Fin 20 := 0
    let rest : List TxStamp := []
    (Tab.get s.dev.hst.txts ep.val [] = x :: rest) := by
  decide +kernel

theorem wit_FramesAndLocalClock_8 :
    let s := st Dev.reset
    let value : BitVec 64 := 0x199999999
    (0x100000000 ≤ value.toNat) ∧ (value.toNat ≤ 0x233333333) := by
  decide +kernel

theorem wit_FramesAndLocalClock_9 :
    let s := st Dev.reset
    let value : BitVec 64 := 7
    (value.toNat < 0x100000000) := by
  decide +kernel

theorem wit_FramesAndLocalClock_11 :
    let s := st (Dev.reset.put .toutStart 0 5000)
    let t : Fin 8 := 0
    let value : Word := 1
    (value.toNat % 2 = 1) ∧ (s.dev.clock32 + 1000 * 2 ^ 32 ≤ s.dev.get .toutStart t.val * 2 ^ 32) ∧
      (s.dev.toutPeriod32 t.val = 0 ∨ s.dev.get .toutWidth t.val * 2 ^ 32 < s.dev.toutPeriod32 t.val) := by
  decide +kernel

theorem wit_FramesAndLocalClock_12 :
    let s := st Dev.reset
    let t : Fin 8 := 0
    let value : Word := 1
    (value.toNat % 2 = 1) ∧ (s.dev.get .toutStart t.val * 2 ^ 32 < s.dev.clock32 + 1000 * 2 ^ 32) := by
  decide +kernel

theorem wit_FramesAndLocalClock_13 :
    let s := st Dev.reset
    let t : Fin 8 := 0
    let value : Word := 0
    (value.toNat % 2 = 0) := by
  decide +kernel

theorem wit_FramesAndLocalClock_14 :
    let s := st (Dev.reset.put .toutCtrl 0 3)
    let t : Fin 8 := 0
    (s.dev.bit .toutCtrl t.val 1 = true) := by
  decide +kernel

theorem wit_PcieFunctionsAndVectors_1 :
    let s := st { devPcie with hst := { devPcie.hst with vec := [((0, 3), { Vec.reset with count := 2, masked := false })] } }
    let fn : Fin 64 := 0
    let vec : Fin 64 := 3
    ((s.dev.vec fn.val vec.val).count ≠ 0) ∧ (s.dev.vecTimer fn.val vec.val ≠ 0) ∧ ((s.dev.vec fn.val vec.val).masked
      = false) ∧ (Tab.get s.dev.hst.fnMask fn.val false = false) ∧ (s.dev.hst.linkUp = true) ∧ (s.dev.inD3 fn.val =
      false) ∧ (s.dev.inL1 = false) := by
  decide +kernel

theorem wit_PcieFunctionsAndVectors_2 :
    let s := st { devPcie with hst := { devPcie.hst with vec := [((0, 3), { Vec.reset with count := 2 })] } }
    let fn : Fin 64 := 0
    let vec : Fin 64 := 3
    ((s.dev.vec fn.val vec.val).count ≠ 0) ∧ (s.dev.vecTimer fn.val vec.val ≠ 0) ∧ ((s.dev.vec fn.val vec.val).masked
      = true) := by
  decide +kernel

theorem wit_PcieFunctionsAndVectors_3 :
    let s := st { devPcie with hst := { devPcie.hst with vec := [((0, 3), { Vec.reset with count := 2, pba := true })] } }
    let fn : Fin 64 := 0
    let vec : Fin 64 := 3
    ((s.dev.vec fn.val vec.val).pba = true) ∧ (Tab.get s.dev.hst.fnMask fn.val false = false) ∧ (s.dev.hst.linkUp =
      true) ∧ (s.dev.inD3 fn.val = false) := by
  decide +kernel

theorem wit_PcieFunctionsAndVectors_4 :
    let s := st { devPcie with hst := { devPcie.hst with vec := [((0, 3), { Vec.reset with pba := true })], d3hot := [(0, true)], pmeEn := [(0, true)] } }
    let fn : Fin 64 := 0
    let vec : Fin 64 := 3
    (s.dev.inD3 fn.val = true) ∧ (Tab.get s.dev.hst.pmeEn fn.val false = true) ∧ ((s.dev.vec fn.val vec.val).pba =
      true) := by
  decide +kernel

theorem wit_PcieFunctionsAndVectors_7 :
    let s := st ((devOpen.setFld .tenState 1 24 2 1).setFld .tenState 1 18 6 5)
    let vf : Fin 64 := 5
    let k := 1
    (vf.val ≠ 0) ∧ (k ∈ s.dev.fnSlots vf.val) := by
  decide +kernel

theorem wit_PcieFunctionsAndVectors_8 :
    let s := st ((devOpen.setFld .tenState 1 24 2 1).setFld .tenState 1 18 6 5)
    let k := 1
    let linkDown := true
    (0 < k) ∧ (k < 4096) ∧ (s.dev.slotBind k = 1) := by
  decide +kernel

theorem wit_PcieFunctionsAndVectors_10 :
    let s := st devPcie
    (s.dev.hst.linkUp = true) := by
  decide +kernel

theorem wit_PairRolesFollowHeartbeatAndRequests_1 :
    let s := st (Dev.reset.setBit .ptnCtrl 0 0 true)
    (s.dev.role = 0) ∧ (s.dev.bit .ptnCtrl 0 0 = true) := by
  decide +kernel

theorem wit_PairRolesFollowHeartbeatAndRequests_2 :
    let s := st devStandby
    (s.dev.isStandby = true) ∧ (s.dev.ptn.takeAt = none) := by
  decide +kernel

theorem wit_PairRolesFollowHeartbeatAndRequests_3 :
    let s := st Dev.reset
    (s.dev.isStandby = false) := by
  decide +kernel

theorem wit_PairRolesFollowHeartbeatAndRequests_4 :
    let s := st devStandby
    (s.dev.isStandby = true) ∧ (s.dev.bit .ptnStatus 0 24 = false) := by
  decide +kernel

theorem wit_PairRolesFollowHeartbeatAndRequests_5 :
    let s := st ((devStandby.setBit .ptnStatus 0 24 true).setBit .ptnStatus 0 28 true)
    (s.dev.role = 3) ∧ (s.dev.bit .ptnStatus 0 24 = true) ∧ (s.dev.bit .ptnStatus 0 28 = true) := by
  decide +kernel

theorem wit_PairRolesFollowHeartbeatAndRequests_6 :
    let s := st devStandby
    (s.dev.isStandby = true) := by
  decide +kernel

theorem wit_PairRolesFollowHeartbeatAndRequests_7 :
    let s := st (devStandby.setBit .ptnStatus 0 28 true)
    (s.dev.role = 3) ∧ (s.dev.bit .ptnStatus 0 28 = true) := by
  decide +kernel

theorem wit_PairRolesFollowHeartbeatAndRequests_8 :
    let s := st devStandby
    (s.dev.role = 3) ∧ (s.dev.bit .ptnStatus 0 28 = false) := by
  decide +kernel

theorem wit_PairRolesFollowHeartbeatAndRequests_9 :
    let s := st devPairA
    (s.dev.role = 1) := by
  decide +kernel

theorem wit_PairRolesFollowHeartbeatAndRequests_10 :
    let s := st Dev.reset
    let link : Fin 8 := 3
    (link.val ∉ s.dev.lne.capped) := by
  decide +kernel

theorem wit_PairRolesFollowHeartbeatAndRequests_11 :
    let s := st Dev.reset
    let link : Fin 8 := 3
    (s.dev.bit .ptnStatus 0 (16 + link.val) = false) := by
  decide +kernel

theorem wit_PairRolesFollowHeartbeatAndRequests_12 :
    let s := st devPairA
    (s.dev.mirrorLive = true) ∧ (s.dev.sys.noTime = false) := by
  decide +kernel

theorem wit_PairRolesFollowHeartbeatAndRequests_13 :
    let x : Nat × Nat × Option Nat × Nat := (0, 9, some 2, 9)
    let s := st { devStandby with ptn := { devStandby.ptn with rerun := [x] } }
    (s.dev.ptn.rerun.find? (fun x => x.2.2.1.isSome) = some x) := by
  decide +kernel

theorem wit_PairRolesFollowHeartbeatAndRequests_14 :
    let s := st (devPairA.setBit .posCtrl 0 0 true)
    (s.dev.canSurrender = true) ∧ (s.dev.fireEn = true) := by
  decide +kernel

theorem wit_PairRolesFollowHeartbeatAndRequests_15 :
    let s := st Dev.reset
    (s.dev.canSurrender = false) := by
  decide +kernel

theorem wit_PairRolesFollowHeartbeatAndRequests_16 :
    let fs := 7
    let s := st { devStandby with ptn := { devStandby.ptn with takeAt := some fs } }
    (s.dev.ptn.takeAt = some fs) ∧ (max fs (s.dev.fireIndex + 1) < 2 ^ 48) := by
  decide +kernel

theorem wit_PairRolesFollowHeartbeatAndRequests_17 :
    let s := st Dev.reset
    (s.dev.ptn.takeAt = none) := by
  decide +kernel

theorem wit_PairRolesFollowHeartbeatAndRequests_18 :
    let s := st devStandby
    (s.dev.isStandby = true) := by
  decide +kernel

theorem wit_PairRolesFollowHeartbeatAndRequests_19 :
    let s := st (Dev.reset.setFld .ptnStatus 0 29 3 1)
    (s.dev.role = 1) ∧ (s.dev.partnerFit = false) := by
  decide +kernel

theorem wit_PairRolesFollowHeartbeatAndRequests_20 :
    let s := st { devPairA with ptn := { devPairA.ptn with refused := true } }
    (s.dev.ptn.refused = true) := by
  decide +kernel

theorem wit_PairRolesFollowHeartbeatAndRequests_21 :
    let s := st Dev.reset
    (s.dev.ptn.refused = false) := by
  decide +kernel

theorem wit_PairRolesFollowHeartbeatAndRequests_22 :
    let s := st devStandby
    (s.dev.role ≠ 5) := by
  decide +kernel

theorem wit_PairRolesFollowHeartbeatAndRequests_23 :
    let s := st (Dev.reset.setBit .ptnStatus 0 26 true)
    (s.dev.role = 0) ∧ (s.dev.bit .ptnStatus 0 26 = true) := by
  decide +kernel

theorem wit_PairRolesFollowHeartbeatAndRequests_24 :
    let s := st (Dev.reset.setFld .ptnStatus 0 29 3 2)
    (s.dev.role = 2) ∧ (s.dev.ptn.held = []) := by
  decide +kernel

theorem wit_MirrorRecordsAreAppliedInOrder_1 :
    let s := st devStandby
    let mseq : Word := 1
    (s.dev.role = 3) ∧ (s.dev.ptn.held = []) ∧ (mseq.toNat = (s.dev.mseq + 1) % 2 ^ 32) := by
  decide +kernel

theorem wit_MirrorRecordsAreAppliedInOrder_2 :
    let x : Fire := { index := 5, tF := 0, tQ := none, line := 7, reverse := false, pass := 0 }
    let s := st { devStandby with pos := { devStandby.pos with fires := [x] } }
    let mseq : Word := 1
    let fire : BitVec 48 := 5
    let line : Int := 8
    (s.dev.role = 3) ∧ (s.dev.ptn.held = []) ∧ (mseq.toNat = (s.dev.mseq + 1) % 2 ^ 32) ∧ (s.dev.pos.fires.find? (fun
      x => x.index == fire.toNat) = some x) := by
  decide +kernel

theorem wit_MirrorRecordsAreAppliedInOrder_3 :
    let s := st (devStandbyFiring.setSyn 0 { PortSyn.reset with crcs := [(9, 77)], mirrored := [(9, true), (8, true), (7, true), (6, true)] })
    let mseq : Word := 1
    let fire : BitVec 48 := 9
    let comparable : BitVec 192 := 1
    let crcs : Vector Word 192 := Vector.replicate 192 77
    let n := 0
    let mine := 77
    (s.dev.role = 3) ∧ (s.dev.ptn.held = []) ∧ (mseq.toNat = (s.dev.mseq + 1) % 2 ^ 32) ∧ (n < 192) ∧ (Tab.find
      (s.dev.syn' n).crcs fire.toNat = some mine) ∧ ((List.range 192).all (fun m => m == n || (Tab.find (s.dev.syn'
      m).crcs fire.toNat).isNone) = true) ∧ (bitOf comparable.toNat n = true) ∧ (s.dev.comparable n fire.toNat = true) := by
  decide +kernel

theorem wit_MirrorRecordsAreAppliedInOrder_4 :
    let r := regLocked
    let s := st { devStandby with cmp := { devStandby.cmp with regions := [r] } }
    let mseq : Word := 1
    let region : BitVec 16 := 0
    (s.dev.role = 3) ∧ (s.dev.ptn.held = []) ∧ (mseq.toNat = (s.dev.mseq + 1) % 2 ^ 32) ∧ (s.dev.region? region.toNat
      = some r) := by
  decide +kernel

theorem wit_MirrorRecordsAreAppliedInOrder_5 :
    let r : Region := { regionOf 1 openWords with number := 0 }
    let q : Region := { regionOf 1 openWords with number := 0, heapNext := 1, heapUsed := [(0, 1, false)] }
    let s := st { devStandby with cmp := { devStandby.cmp with regions := [r] } }
    let mseq : Word := 1
    let region : BitVec 16 := 0
    let heapLen := 1
    let off := 0
    (s.dev.role = 3) ∧ (s.dev.ptn.held = []) ∧ (mseq.toNat = (s.dev.mseq + 1) % 2 ^ 32) ∧ (s.dev.region? region.toNat
      = some r) ∧ (r.heapTake heapLen = some (off, q)) := by
  decide +kernel

theorem wit_MirrorRecordsAreAppliedInOrder_6 :
    let s := st devStandby
    let mseq : Word := 1
    (s.dev.role = 3) ∧ (s.dev.ptn.held = []) ∧ (mseq.toNat = (s.dev.mseq + 1) % 2 ^ 32) := by
  decide +kernel

theorem wit_MirrorRecordsAreAppliedInOrder_7 :
    let s := st (devStandby.setBit .posStatus 0 0 true)
    let mseq : Word := 1
    (s.dev.role = 3) ∧ (s.dev.ptn.held = []) ∧ (mseq.toNat = (s.dev.mseq + 1) % 2 ^ 32) ∧ (s.dev.firing = true) := by
  decide +kernel

theorem wit_MirrorRecordsAreAppliedInOrder_8 :
    let s := st devStandby
    let mseq : Word := 1
    let r := regLocked
    (s.dev.role = 3) ∧ (s.dev.ptn.held = []) ∧ (mseq.toNat = (s.dev.mseq + 1) % 2 ^ 32) ∧ (s.dev.region? r.number =
      none) := by
  decide +kernel

theorem wit_MirrorRecordsAreAppliedInOrder_9 :
    let s := st devStandby
    let mseq : Word := 1
    let status := 5
    (s.dev.role = 3) ∧ (s.dev.ptn.held = []) ∧ (mseq.toNat = (s.dev.mseq + 1) % 2 ^ 32) ∧ (status ≠ 0) ∧
      (s.dev.ptn.cqDue = []) := by
  decide +kernel

theorem wit_MirrorRecordsAreAppliedInOrder_10 :
    let s := st devStandby
    let mseq : Word := 1
    (s.dev.role = 3) ∧ (s.dev.ptn.held = []) ∧ (mseq.toNat = (s.dev.mseq + 1) % 2 ^ 32) := by
  decide +kernel

theorem wit_MirrorRecordsAreAppliedInOrder_11 :
    let s := st devStandby
    let mseq : Word := 1
    (s.dev.role = 3) ∧ (s.dev.ptn.held = []) ∧ (mseq.toNat = (s.dev.mseq + 1) % 2 ^ 32) := by
  decide +kernel

theorem wit_MirrorRecordsAreAppliedInOrder_12 :
    let s := st devStandby
    let mseq : Word := 1
    (s.dev.role = 3) ∧ (s.dev.ptn.held = []) ∧ (mseq.toNat = (s.dev.mseq + 1) % 2 ^ 32) := by
  decide +kernel

theorem wit_MirrorRecordsAreAppliedInOrder_13 :
    let s := st devPairA
    let mseq : Word := 1
    (s.dev.role ≠ 2) ∧ (s.dev.ptn.held = []) ∧ (mseq.toNat = (s.dev.mseq + 1) % 2 ^ 32) := by
  decide +kernel

theorem wit_MirrorRecordsAreAppliedInOrder_14 :
    let s := st devPairA
    let mseq : Word := 1
    (s.dev.role ≠ 2) ∧ (s.dev.ptn.held = []) ∧ (mseq.toNat = (s.dev.mseq + 1) % 2 ^ 32) := by
  decide +kernel

theorem wit_MirrorRecordsAreAppliedInOrder_15 :
    let s := st devPairA
    let mseq : Word := 1
    let words : List Word := []
    (s.dev.role = 1) ∧ (s.dev.ptn.held = []) ∧ (mseq.toNat = (s.dev.mseq + 1) % 2 ^ 32) := by
  decide +kernel

theorem wit_MirrorRecordsAreAppliedInOrder_16 :
    let s := st { devPairA with ptn := { devPairA.ptn with fresh := false } }
    let mseq : Word := 9
    (s.dev.role ≠ 2) ∧ (s.dev.ptn.fresh = false) ∧ (mseq.toNat ≠ (s.dev.mseq + 1) % 2 ^ 32) := by
  decide +kernel

theorem wit_BudgetTasksAndCheckpoints_1 :
    let s := st Dev.reset
    let tj : List (BitVec 11) := [300]
    let delta := 0
    (s.dev.breath = 0) ∧ ((List.range 8).all (fun t => !s.dev.taskActive t) = true) ∧ ((List.range 8).all (fun i =>
      decide (((tj[i]?).map BitVec.toNat).getD (s.dev.get .pwrTj i) < 900)) = true) ∧ ((s.dev.pwr.warm || s.dev.bit
      .pwrStatus 0 26 || s.dev.pwr.thermStop || s.dev.pwr.tripped || s.dev.pwr.selfDue) = false) ∧ (delta ≤ s.dev.cfg
      .deltaUrgentKib 0 * 1024) ∧ ((List.range 4).all (fun g => !s.dev.bit .dmcGrpStatus g 31) = true) := by
  decide +kernel

theorem wit_BudgetTasksAndCheckpoints_2 :
    let s := st ((Dev.reset.put .pwrTaskStatus 6 0x20000000).setBit .pwrCtrl 0 0 true)
    (s.dev.breath = 0) ∧ ((List.range 8).all (fun t => t == 6 || !s.dev.taskActive t) = true) ∧ (s.dev.fld
      .pwrTaskStatus 6 28 4 = 2) ∧ (s.dev.taskEnd 6 = none) ∧ ((List.range 8).all (fun i => decide (s.dev.get .pwrTj i
      < 900)) = true) ∧ ((s.dev.pwr.warm || s.dev.bit .pwrStatus 0 26 || s.dev.pwr.thermStop || s.dev.pwr.tripped ||
      s.dev.pwr.selfDue) = false) ∧ ((List.range 4).all (fun g => !s.dev.bit .dmcGrpStatus g 31) = true) := by
  decide +kernel

theorem wit_BudgetTasksAndCheckpoints_5 :
    let s := st Dev.reset
    let task : Fin 8 := 7
    (s.dev.taskActive task.val = false) := by
  decide +kernel

theorem wit_BudgetTasksAndCheckpoints_6 :
    let s := st (Dev.reset.put .pwrTaskStatus 3 0x20000000)
    let task : Fin 8 := 3
    (s.dev.taskActive task.val = true) ∧ (task.val ≤ 4) := by
  decide +kernel

theorem wit_BudgetTasksAndCheckpoints_7 :
    let s := st (Dev.reset.put .pwrTaskStatus 3 0x20000000)
    let task : Fin 8 := 3
    (s.dev.taskActive task.val = true) ∧ ((s.dev.task task.val).missed = false) := by
  decide +kernel

theorem wit_BudgetTasksAndCheckpoints_8 :
    let s := st Dev.reset
    let task : Fin 8 := 3
    (s.dev.taskActive task.val = false ∨ (s.dev.task task.val).missed = true) := by
  decide +kernel

theorem wit_BudgetTasksAndCheckpoints_9 :
    let s := st (Dev.reset.put .pwrTaskStatus 3 0x40000000)
    let task : Fin 8 := 3
    (s.dev.taskBit task.val 30 = true) := by
  decide +kernel

theorem wit_BudgetTasksAndCheckpoints_10 :
    let s := st (Dev.reset.put .pwrTaskStatus 1 0x40000000)
    let raw : List Byte := []
    let u := 28
    (s.dev.breath = 0) ∧ (s.dev.pwr.rewrite = none) ∧ (s.dev.taskBit 1 30 = true) ∧ (s.dev.groupUnit 1 = some u) ∧
      ((nvaBlocks raw).flatten.length ≤ ckptSize - 64) := by
  decide +kernel

theorem wit_BudgetTasksAndCheckpoints_11 :
    let s := st Dev.reset
    (s.dev.breath ≠ 0 ∨ (s.dev.pwr.rewrite = none ∧ s.dev.taskBit 1 30 = false)) := by
  decide +kernel

theorem wit_BudgetTasksAndCheckpoints_12 :
    let s := st ((List.range 8).foldl (fun d i => d.setBit .cdcUnitStatus (24 + i) 31 true) (Dev.reset.put .pwrTaskStatus 1 0x40000000))
    (s.dev.breath = 0) ∧ (s.dev.pwr.rewrite = none) ∧ (s.dev.taskBit 1 30 = true) ∧ (s.dev.groupUnit 1 = none) := by
  decide +kernel

theorem wit_BudgetTasksAndCheckpoints_13 :
    let x : JournalEvent := .role 1
    let s := st { Dev.reset with pwr := { PwrState.reset with journal := [x] } }
    let rest : List JournalEvent := []
    (s.dev.pwr.journal = x :: rest) := by
  decide +kernel

theorem wit_BreathShedsHoldsSavesAndResumes_1 :
    let s := st Dev.reset
    (s.dev.breath = 0) := by
  decide +kernel

theorem wit_BreathShedsHoldsSavesAndResumes_2 :
    let s := st (Dev.reset.setBreath 2)
    (s.dev.breath ≠ 0) := by
  decide +kernel

theorem wit_BreathShedsHoldsSavesAndResumes_3 :
    let s := st Dev.reset
    (s.dev.breath = 0) := by
  decide +kernel

theorem wit_BreathShedsHoldsSavesAndResumes_4 :
    let s := st (Dev.reset.setBreath 1)
    (s.dev.breath = 1) := by
  decide +kernel

theorem wit_BreathShedsHoldsSavesAndResumes_5 :
    let s := st (Dev.reset.setBreath 1)
    (s.dev.breath = 1) ∧ (s.dev.pwr.trip = false) := by
  decide +kernel

theorem wit_BreathShedsHoldsSavesAndResumes_6 :
    let s := st { Dev.reset.setBreath 1 with pwr := { PwrState.reset with trip := true } }
    (s.dev.breath = 1) ∧ (s.dev.pwr.trip = true) := by
  decide +kernel

theorem wit_BreathShedsHoldsSavesAndResumes_7 :
    let s := st ((Dev.reset.setBreath 2).setBit .pwrStatus 0 23 true)
    (s.dev.breath = 2) ∧ (s.dev.bit .pwrStatus 0 23 = true) := by
  decide +kernel

theorem wit_BreathShedsHoldsSavesAndResumes_8 :
    let s := st Dev.reset
    (s.dev.breath ≠ 2 ∨ s.dev.bit .pwrStatus 0 23 = false) := by
  decide +kernel

theorem wit_BreathShedsHoldsSavesAndResumes_9 :
    let s := st (Dev.reset.setBreath 2)
    (s.dev.breath = 1 ∨ s.dev.breath = 2) ∧ (s.dev.pwr.trip = false) := by
  decide +kernel

theorem wit_BreathShedsHoldsSavesAndResumes_10 :
    let s := st (Dev.reset.setBreath 4)
    ((s.dev.breath ≠ 1 ∧ s.dev.breath ≠ 2) ∨ s.dev.pwr.trip = true) := by
  decide +kernel

theorem wit_BreathShedsHoldsSavesAndResumes_11 :
    let s := st (Dev.reset.setBreath 4)
    let parts : List Byte := [1]
    let part3 : List Byte := []
    (s.dev.breath = 4) ∧ (s.dev.mgt.running = []) ∧ (s.dev.sys.porz = false) ∧ (parts ≠ [] ∨ part3 ≠ []) ∧
      (parts.length + part3.length ≤ 16 * 1048576) ∧ ((nvaBlocks (parts ++ part3)).flatten.length ≤ 6000000) ∧
      (s.dev.groupUnit 1 ≠ none) := by
  decide +kernel

theorem wit_BreathShedsHoldsSavesAndResumes_12 :
    let s := st (Dev.reset.setBreath 4)
    (s.dev.breath = 4) ∧ (s.dev.mgt.running = []) ∧ (s.dev.sys.porz = false) := by
  decide +kernel

theorem wit_BreathShedsHoldsSavesAndResumes_13 :
    let s := st Dev.reset
    (s.dev.breath ≠ 4 ∨ s.dev.mgt.running ≠ []) := by
  decide +kernel

theorem wit_BreathShedsHoldsSavesAndResumes_14 :
    let s := st (Dev.reset.setBreath 3)
    (s.dev.breath = 3) := by
  decide +kernel

theorem wit_BreathShedsHoldsSavesAndResumes_15 :
    let s := st Dev.reset
    (s.dev.breath ≠ 3) := by
  decide +kernel

theorem wit_LoopsEvaluateHoldAndResume_1 :
    let d : Dev := Dev.reset
    let l := 0
    (d.umin l ≤ d.umax l) := by
  decide +kernel

theorem wit_LoopsEvaluateHoldAndResume_2 :
    let s := st devLoop
    let loop : Fin 256 := 0
    let time := 0
    (s.dev.loopOn loop.val = true) ∧ (s.dev.breath = 0) ∧ (s.dev.loopSt loop.val = 1) ∧ (s.dev.drives = true) ∧
      ((s.dev.at time).fbStale loop.val (s.dev.at time).now = false) ∧ (s.dev.fbFrozen loop.val = false) ∧ ((s.dev.at
      time).rcBin loop.val = none) ∧ (s.dev.umin loop.val ≤ s.dev.umax loop.val) := by
  decide +kernel

theorem wit_LoopsEvaluateHoldAndResume_3 :
    let s := st devLoop
    let loop : Fin 256 := 0
    (s.dev.loopOn loop.val = true) ∧ (s.dev.breath = 0) := by
  decide +kernel

theorem wit_LoopsEvaluateHoldAndResume_4 :
    let s := st Dev.reset
    let loop : Fin 256 := 0
    (s.dev.loopOn loop.val = false ∨ s.dev.breath ≠ 0) := by
  decide +kernel

theorem wit_LoopsEvaluateHoldAndResume_5 :
    let s := st (devLoop.setLoopSt 0 3)
    let loop : Fin 256 := 0
    (s.dev.loopSt loop.val = 3) ∧ (s.dev.breath = 0) := by
  decide +kernel

theorem wit_LoopsEvaluateHoldAndResume_6 :
    let s := st (devLoop.setLoopSt 0 4)
    let loop : Fin 256 := 0
    (s.dev.loopSt loop.val = 4) := by
  decide +kernel

theorem wit_LoopsEvaluateHoldAndResume_7 :
    let s := st devLoop
    let loop : Fin 256 := 0
    (s.dev.loopSt loop.val ≠ 4) ∧ (s.dev.loopSt loop.val ≠ 3) := by
  decide +kernel

theorem wit_LoopsEvaluateHoldAndResume_11 :
    let s := st Dev.reset
    let l := 0
    let b := 0
    (l = s.dev.fld .ctlRcAddr 0 0 16 / 256) ∧ (b = s.dev.fld .ctlRcAddr 0 0 16 % 256) := by
  decide +kernel

theorem wit_LoopsEvaluateHoldAndResume_12 :
    let s := st (Dev.reset.setLsp 0 { LspPort.reset with writes := [(3, -5)] })
    let port : Fin 8 := 0
    let c := 3
    let u : Int := -5
    let rest : List (Nat × Int) := []
    (s.dev.ctl.stopped = false) ∧ (s.dev.drives = true) ∧ ((s.dev.lspPort port.val).asked = none) ∧ ((s.dev.lspPort
      port.val).writes = (c, u) :: rest) := by
  decide +kernel

theorem wit_LoopsEvaluateHoldAndResume_13 :
    let s := st (Dev.reset.setLsp 0 { LspPort.reset with asked := some 3 })
    let port : Fin 8 := 0
    let c := 3
    let response : BitVec 40 := 1
    (s.dev.ctl.stopped = false) ∧ ((s.dev.lspPort port.val).asked = some c) ∧ (crcMsb 8 0x07 0 (beBytes
      (response.toNat / 256) 4) ≠ response.toNat % 256) := by
  decide +kernel

theorem wit_LoopsEvaluateHoldAndResume_14 :
    let s := st { Dev.reset with ctl := { CtlState.reset with stopped := true } }
    let port : Fin 8 := 0
    (s.dev.ctl.stopped = true) := by
  decide +kernel

theorem wit_AxesMoveHomeAndStop_4 :
    let s := st devAxis
    let axis : Fin 32 := 0
    let time := 0
    let m := moveOne
    (s.dev.drives = true) ∧ ((s.dev.axis axis.val).homing = none) ∧ ((s.dev.axis axis.val).halting = false) ∧
      ((s.dev.axis axis.val).joint = none) ∧ ((s.dev.axis axis.val).queue = [m]) ∧ ((s.dev.axis axis.val).vel = 0) ∧
      ((s.dev.axis axis.val).dir = false) ∧ ((s.dev.axis axis.val).dirFrom ≤ s.dev.now) ∧ (0 < m.a) ∧ (m.a ≤ m.v *
      1000000) ∧ ((s.dev.axis axis.val).pos + m.a < m.target * 1000000000000) := by
  decide +kernel

theorem wit_AxesMoveHomeAndStop_5 :
    let s := st devStandby
    let axis : Fin 32 := 0
    let seen : Int := 2
    (s.dev.drives = false) ∧ (seen ≠ 0) := by
  decide +kernel

theorem wit_AxesMoveHomeAndStop_6 :
    let s := st (Dev.reset.setAxis 0 { Axis.reset with homing := some .touch })
    let axis : Fin 32 := 0
    ((s.dev.axis axis.val).homing = some .touch) := by
  decide +kernel

theorem wit_AxesMoveHomeAndStop_7 :
    let s := st (Dev.reset.setAxis 0 { Axis.reset with homing := some .seek, vel := 5 })
    let axis : Fin 32 := 0
    ((s.dev.axis axis.val).homing = some .seek) ∧ ((s.dev.axis axis.val).vel ≠ 0) := by
  decide +kernel

theorem wit_AxesMoveHomeAndStop_8 :
    let s := st devAxis
    let bus : Fin 4 := 0
    let i := 0
    (s.dev.ctl.stopped = false) ∧ (s.dev.drives = true) ∧ (i < 8) ∧ (s.dev.axisEnabled (8 * bus.val + i) = true) := by
  decide +kernel

theorem wit_AxesMoveHomeAndStop_9 :
    let s := st devStandby
    let bus : Fin 4 := 0
    (s.dev.ctl.stopped = true ∨ s.dev.drives = false) := by
  decide +kernel

theorem wit_AxesMoveHomeAndStop_10 :
    let s := st Dev.reset
    let axis : Fin 32 := 0
    let w : Word := 0
    (slateCrc w.toNat = w.toNat % 256) ∧ (bits w.toNat 29 3 = axis.val % 8) ∧ (bits w.toNat 15 4 = 0) := by
  decide +kernel

theorem wit_LanesComeUpAndAreMarked_1 :
    let s := st (Dev.reset.setFld .lneStatus 1000 28 4 1)
    let lane : Fin 1024 := 1000
    (s.dev.laneSt lane.val = 1) ∧ (s.dev.laneMarked lane.val = false) ∧ ((laneGroup lane.val).native = false ∨
      s.dev.groupUp (laneGroup lane.val) = false) := by
  decide +kernel

theorem wit_LanesComeUpAndAreMarked_2 :
    let s := st (Dev.reset.setFld .lneStatus 1000 28 4 0)
    let lane : Fin 1024 := 1000
    (s.dev.laneSt lane.val ≠ 1 ∨ s.dev.laneMarked lane.val = true) := by
  decide +kernel

theorem wit_LanesComeUpAndAreMarked_3 :
    let s := st (Dev.reset.setFld .lneStatus 864 28 4 7)
    let lane : Fin 1024 := 864
    (lane.val ∈ s.dev.trainers lane.val) := by
  decide +kernel

theorem wit_LanesComeUpAndAreMarked_4 :
    let s := st Dev.reset
    let lane : Fin 1024 := 0
    (lane.val ∉ s.dev.trainers lane.val) := by
  decide +kernel

theorem wit_LanesComeUpAndAreMarked_5 :
    let s := st (Dev.reset.setFld .lneStatus 0 28 4 3)
    let lane : Fin 1024 := 0
    (2 ≤ s.dev.laneSt lane.val) ∧ (s.dev.laneSt lane.val ≤ 8) := by
  decide +kernel

theorem wit_LanesComeUpAndAreMarked_6 :
    let s := st (Dev.reset.setFld .lneStatus 1000 28 4 9)
    let lane : Fin 1024 := 1000
    (s.dev.laneSt lane.val = 9) := by
  decide +kernel

theorem wit_LanesComeUpAndAreMarked_7 :
    let s := st Dev.reset
    let lane : Fin 1024 := 1000
    (s.dev.laneSt lane.val ≠ 9) := by
  decide +kernel

theorem wit_LanesComeUpAndAreMarked_8 :
    let s := st (((devPairA.setFld .lneStatus 960 28 4 9).setLane 960 { Lane.reset with good := true }))
    let lane : Fin 1024 := 960
    let i := 0
    (laneGroup lane.val = .mirror i) ∧ (s.dev.linkIsLive i = true) ∧ (s.dev.laneMarked lane.val = false) ∧
      (s.dev.laneSt lane.val = 9) ∧ ((s.dev.lane lane.val).good = true) := by
  decide +kernel

theorem wit_LanesComeUpAndAreMarked_9 :
    let s := st Dev.reset
    let lane : Fin 1024 := 1000
    (s.dev.groupUp (laneGroup lane.val) = false) := by
  decide +kernel

theorem wit_LanesComeUpAndAreMarked_10 :
    let s := st ((Dev.reset.setFld .lneStatus 1000 28 4 9).setBit .lneStatus 1000 26 true)
    let lane : Fin 1024 := 1000
    (s.dev.laneSt lane.val = 9) ∧ ((laneGroup lane.val).native = true) := by
  decide +kernel

theorem wit_LanesComeUpAndAreMarked_12 :
    let s := st (Dev.reset.setFld .lneStatus 1000 28 4 9)
    let lane : Fin 1024 := 1000
    let w : BitVec 8 := 0xff
    let h : BitVec 8 := 0xff
    (s.dev.laneSt lane.val = 9) ∧ (s.dev.bit .lneStatus lane.val 26 = false) ∧ (s.dev.eyeBelow .marginFail w.toNat
      h.toNat = false) := by
  decide +kernel

theorem wit_LanesComeUpAndAreMarked_13 :
    let s := st Dev.reset
    let lane : Fin 1024 := 1000
    let eye : Option (BitVec 8 × BitVec 8) := none
    (eye = none ∨ s.dev.laneSt lane.val ≠ 9 ∨ s.dev.bit .lneStatus lane.val 26 = true) := by
  decide +kernel

theorem wit_LanesComeUpAndAreMarked_14 :
    let s := st Dev.reset
    (s.dev.taskActive 2 = false) := by
  decide +kernel

theorem wit_LanesComeUpAndAreMarked_15 :
    let s := st Dev.reset
    let ep : Fin 20 := 0
    (s.dev.bit .epCtrl ep.val 1 = false) ∧ (s.dev.bit .epStatus ep.val 28 = false) := by
  decide +kernel

theorem wit_LanesComeUpAndAreMarked_16 :
    let s := st (Dev.reset.setBit .epStatus 0 28 true)
    let ep : Fin 20 := 0
    (s.dev.bit .epCtrl ep.val 1 = false) ∧ (s.dev.bit .epStatus ep.val 28 = true) := by
  decide +kernel

theorem wit_ReferencesTestsAndInjection_1 :
    let s := st (Dev.reset.setBit .cluStatus 3 31 true)
    let refB := false
    let c := 3
    (c ∈ refClusters) ∧ (s.dev.bit .cluStatus c 31 = true) ∧ (s.dev.bit .cluStatus c 29 = false) ∧ (s.dev.bit
      .cluStatus c 30 = refB) := by
  decide +kernel

theorem wit_ReferencesTestsAndInjection_2 :
    let s := st (((Dev.reset.setBit .cluStatus 3 31 true).setBit .cluStatus 3 30 true).setBit .lneGlbStatus 0 3 true)
    let c := 3
    (s.dev.refOk false = true) ∧ (c ∈ refClusters) ∧ (s.dev.cfg .refSel c = 0) ∧ (s.dev.bit .cluStatus c 31 = true) ∧
      (s.dev.bit .cluStatus c 30 = true) := by
  decide +kernel

theorem wit_ReferencesTestsAndInjection_3 :
    let s := st (Dev.reset.setBit .lneGlbStatus 0 3 false)
    (s.dev.refOk false = false) := by
  decide +kernel

theorem wit_ReferencesTestsAndInjection_4 :
    let s := st (Dev.reset.setBit .cluStatus 3 29 true)
    let refB := false
    let c := 3
    (c ∈ refClusters) ∧ (s.dev.refAllowed c refB = true) ∧ (s.dev.bit .cluStatus c 29 = true) := by
  decide +kernel

theorem wit_ReferencesTestsAndInjection_5 :
    let s := st (Dev.reset.setBit .cluStatus 3 29 true)
    let c := 3
    (c ∈ refClusters) ∧ (s.dev.bit .cluStatus c 29 = true) := by
  decide +kernel

theorem wit_ReferencesTestsAndInjection_6 :
    let s := st Dev.reset
    ((refClusters.filter fun c => s.dev.bit .cluStatus c 29) = []) := by
  decide +kernel

theorem wit_ReferencesTestsAndInjection_7 :
    let s := st Dev.reset
    let lane : Fin 1024 := 5
    (s.dev.laneSt lane.val ≠ 10) := by
  decide +kernel

theorem wit_ReferencesTestsAndInjection_8 :
    let s := st (Dev.reset.setFld .lneStatus 5 28 4 10)
    let lane : Fin 1024 := 5
    (s.dev.laneSt lane.val = 10) := by
  decide +kernel

theorem wit_ReferencesTestsAndInjection_10 :
    let s := st (Dev.reset.setBit .lneStatus 5 1 true)
    let lane : Fin 1024 := 5
    (s.dev.bit .lneStatus lane.val 1 = true) := by
  decide +kernel

theorem wit_ReferencesTestsAndInjection_11 :
    let s := st (Dev.reset.setFld .lneStatus 5 28 4 10)
    let lane : Fin 1024 := 5
    let value : Word := 0x80000000
    (s.dev.laneSt lane.val = 10) ∧ (bits value.toNat 28 3 = 0) ∧ (bitOf value.toNat 31 = true) ∧ ((s.dev.lane
      lane.val).injectAt = none) := by
  decide +kernel

theorem wit_ReferencesTestsAndInjection_12 :
    let s := st devPairA
    let lane : Fin 1024 := 961
    let value : Word := 0xb0000000
    (s.dev.laneSt lane.val ≠ 10) ∧ (bits value.toNat 28 3 = 3 ∨ bits value.toNat 28 3 = 4) ∧ (bitOf value.toNat 31 =
      true) ∧ ((laneGroup lane.val).native = true) ∧ (s.dev.laneFiring lane.val = false) ∧ (s.dev.groupUp (laneGroup
      lane.val) = true) ∧ ((s.dev.lanesInUse (laneGroup lane.val)).contains lane.val = true) := by
  decide +kernel

theorem wit_ReferencesTestsAndInjection_13 :
    let s := st devFiring
    let lane : Fin 1024 := 1
    let value : Word := 0xb0000000
    (s.dev.laneSt lane.val ≠ 10) ∧ (bits value.toNat 28 3 = 3 ∨ bits value.toNat 28 3 = 4) ∧ ((laneGroup
      lane.val).native = true) ∧ (s.dev.laneFiring lane.val = true) := by
  decide +kernel

theorem wit_DramServesRefreshesAndFreezes_1 :
    let w : DramReq := { q := 4, core := none, since := 0, addr := 64, data := some [1, 2], more := 0, other := none, errors := [], holds := .owner }
    let bytes : List Byte := [1, 2]
    let s := st { Dev.reset with dmc := { DmcState.reset with writes := [(0, [w])] } }
    let sub : Fin 32 := 0
    (s.dev.chOffline (sub.val / 2) = false) ∧ (s.dev.refreshFirst sub.val = none) ∧ (s.dev.dramReads sub.val = []) ∧
      (s.dev.dramWrites sub.val = [w]) ∧ (w.data = some bytes) ∧ (w.addr % 256 + bytes.length ≤ 256) ∧ ((List.range
      256).all (fun i => !s.dev.isPoisoned (w.addr / 256 * 256 + i)) = true) := by
  decide +kernel

theorem wit_DramServesRefreshesAndFreezes_2 :
    let r : DramReq := { q := 4, core := none, since := 0, addr := 64, data := none, more := 0, other := none, errors := [(0, 0, 1, 5), (0, 0, 9, 1), (0, 0, 17, 2), (0, 0, 30, 128)], holds := .owner }
    let s := st { Dev.reset with dmc := { DmcState.reset with reads := [(0, [r])] } }
    let sub : Fin 32 := 0
    let synd : List Nat := match s.dev.readVerdict r 0 with | .uncorrectable x => x | _ => []
    (s.dev.chOffline (sub.val / 2) = false) ∧ (s.dev.chOffline (s.dev.dramPlace r.addr).ch = false) ∧
      (s.dev.refreshFirst sub.val = none) ∧ (s.dev.dramReads sub.val = [r]) ∧ (s.dev.dramWrites sub.val = []) ∧
      (r.more = 0) ∧ (s.dev.readVerdict r 0 = .uncorrectable synd) ∧ (r.q.val ≠ 8) := by
  decide +kernel

theorem wit_DramServesRefreshesAndFreezes_3 :
    let r : DramReq := { q := 4, core := none, since := 0, addr := 64, data := none, more := 0, other := none, errors := [(0, 1, 33, 5)], holds := .owner }
    let s := st { Dev.reset with dmc := { DmcState.reset with reads := [(0, [r])] } }
    let sub : Fin 32 := 0
    let fixes : List (Nat × Nat) := [(1, 4)]
    (s.dev.chOffline (sub.val / 2) = false) ∧ (s.dev.chOffline (s.dev.dramPlace r.addr).ch = false) ∧
      (s.dev.refreshFirst sub.val = none) ∧ (s.dev.dramReads sub.val = [r]) ∧ (s.dev.dramWrites sub.val = []) ∧
      (r.more = 0) ∧ (s.dev.readVerdict r 0 = .corrected fixes) := by
  decide +kernel

theorem wit_DramServesRefreshesAndFreezes_4 :
    let s := st (Dev.reset.setBit .dmcStatus 0 30 true)
    let sub : Fin 32 := 0
    (s.dev.chOffline (sub.val / 2) = true) := by
  decide +kernel

theorem wit_DramServesRefreshesAndFreezes_5 :
    let s := st Dev.reset
    let sub : Fin 32 := 0
    let rank : Fin 2 := 0
    let bankGroup : Fin 8 := 0
    let bank : Fin 4 := 0
    let b := Bank.reset
    (Tab.get s.dev.dmc.bank (sub.val, rank.val, bankGroup.val, bank.val) Bank.reset = b) := by
  decide +kernel

theorem wit_DramServesRefreshesAndFreezes_8 :
    let s := st Dev.reset
    let addr : BitVec 64 := 64
    (s.dev.chOffline (s.dev.dramPlace addr.toNat).ch = false) := by
  decide +kernel

theorem wit_DramServesRefreshesAndFreezes_9 :
    let s := st (Dev.reset.setBit .dmcStatus 0 30 true)
    let addr : BitVec 64 := 0
    (s.dev.chOffline (s.dev.dramPlace addr.toNat).ch = true) := by
  decide +kernel

theorem wit_DramServesRefreshesAndFreezes_12 :
    let s := st { Dev.reset with dmc := { DmcState.reset with best := [(0, (60, 60))] } }
    let group : Fin 4 := 0
    let x := (60, 60)
    (s.dev.chOffline (4 * group.val) = false) ∧ (Tab.find s.dev.dmc.best (4 * group.val) = some x) ∧ (s.dev.fld
      .dmcTrainMin 0 0 6 ≤ x.1) ∧ (s.dev.fld .dmcTrainMin 0 0 6 ≤ x.2) := by
  decide +kernel

theorem wit_CoresInterruptsAndNva_1 :
    let s := st { Dev.reset.setBit .glbWdtCfg 2 31 true with now := 20000000000000 }
    let core : Fin 4 := 2
    (s.dev.bit .glbWdtCfg core.val 31 = true) ∧ (Tab.get s.dev.mgt.kicked core.val 0 + s.dev.watchdogPs core.val ≤
      s.dev.now) := by
  decide +kernel

theorem wit_CoresInterruptsAndNva_2 :
    let s := st (Dev.reset.setBit .glbWdtCfg 2 31 false)
    let core : Fin 4 := 2
    (s.dev.bit .glbWdtCfg core.val 31 = false ∨ s.dev.now < Tab.get s.dev.mgt.kicked core.val 0 + s.dev.watchdogPs
      core.val) := by
  decide +kernel

theorem wit_CoresInterruptsAndNva_5 :
    let s := st (Dev.reset.put .nvaOpLines 4 1)
    let r : Fin 5 := 4
    let erase := true
    let fetch : Option (Fin 4) := none
    (s.dev.bit .nvaOpStatus r.val 31 = false) ∧ (nvaAllowed r.val (s.dev.get .nvaOpAddr r.val / 2 ^ 30) (bits
      (s.dev.get .nvaOpAddr r.val) 6 19 * 64) (s.dev.get .nvaOpLines r.val) = true) ∧ ((erase || s.dev.sourceOk
      (s.dev.get .nvaOpSrc r.val) (64 * s.dev.get .nvaOpLines r.val)) = true) ∧ (r.val = 4 ∨ fetch.map (fun b =>
      b.val) ≠ some (s.dev.get .nvaOpAddr r.val / 2 ^ 30)) := by
  decide +kernel

theorem wit_CoresInterruptsAndNva_6 :
    let s := st (Dev.reset.setBit .nvaOpStatus 4 31 true)
    let r : Fin 5 := 4
    (s.dev.bit .nvaOpStatus r.val 31 = true) := by
  decide +kernel

theorem wit_CoresInterruptsAndNva_7 :
    let o : NvaOp := { requester := 4, bank := 0, line := 0, left := 1, erase := true, src := 0, body := [] }
    let s := st { Dev.reset with mgt := { MgtState.reset with ops := [o] } }
    let bank : Fin 4 := 0
    (s.dev.nvaServed bank.val = some o) ∧ (o.requester ≠ 5) := by
  decide +kernel

theorem wit_CoresInterruptsAndNva_8 :
    let s := st Dev.reset
    let bank : Fin 4 := 0
    (s.dev.nvaServed bank.val = none) := by
  decide +kernel

theorem wit_CoresInterruptsAndNva_12 :
    let i := 3
    (i < 32) := by
  decide +kernel

theorem wit_FuseBurnsFollowTheirRules_1 :
    let b := Burn.floor
    let s := st { Dev.reset with sec := { SecState.reset with burning := some b } }
    (s.dev.sec.burning = some b) := by
  decide +kernel

theorem wit_FuseBurnsFollowTheirRules_2 :
    let s := st Dev.reset
    (s.dev.sec.burning = none) := by
  decide +kernel

theorem wit_FuseBurnsFollowTheirRules_3 :
    let s := st { Dev.reset with sec := { SecState.reset with fuses := { Fuses.blank with rootProg := 3 } } }
    let k := 0
    let j := 1
    (s.dev.sec.burning = none) ∧ (s.dev.fld .secArg 0 0 2 = k) ∧ (bitOf s.dev.sec.fuses.revoked k = false) ∧ (j < 4) ∧
      (j ≠ k) ∧ (s.dev.sec.fuses.rootGood j = true) := by
  decide +kernel

theorem wit_FuseBurnsFollowTheirRules_4 :
    let s := st Dev.reset
    (s.dev.sec.burning = none) ∧ (bitOf s.dev.sec.fuses.revoked (s.dev.fld .secArg 0 0 2) = true ∨ (List.range 4).all
      (fun j => j == s.dev.fld .secArg 0 0 2 || !s.dev.sec.fuses.rootGood j) = true) := by
  decide +kernel

theorem wit_FuseBurnsFollowTheirRules_5 :
    let s := st Dev.reset
    (s.dev.sec.burning = none) ∧ (s.dev.lc < 2) ∧ (bitOf s.dev.sec.fuses.rootProg (s.dev.fld .secArg 0 0 2) = false) := by
  decide +kernel

theorem wit_FuseBurnsFollowTheirRules_6 :
    let s := st { Dev.reset with sec := { SecState.reset with fuses := { Fuses.blank with p := true, f := true } } }
    (s.dev.sec.burning = none) ∧ (2 ≤ s.dev.lc) := by
  decide +kernel

theorem wit_FuseBurnsFollowTheirRules_7 :
    let s := st ({ Dev.reset with sec := { SecState.reset with fuses := { Fuses.blank with p := true } } }.setBit .secStatus 0 28 true)
    (s.dev.sec.burning = none) ∧ (s.dev.lc ≠ 0) ∧ (s.dev.lc ≠ 4) ∧ (s.dev.bit .secStatus 0 28 = true) := by
  decide +kernel

theorem wit_FuseBurnsFollowTheirRules_8 :
    let s := st Dev.reset
    (s.dev.sec.burning = none) ∧ (s.dev.lcBusy = true ∨ s.dev.lcAllowed (s.dev.fld .secArg 0 0 3) = false) := by
  decide +kernel

theorem wit_FuseBurnsFollowTheirRules_9 :
    let s := st ({ Dev.reset with sec := { SecState.reset with fuses := { Fuses.blank with rootProg := 1 } } }.put .secArg 0 1)
    (s.dev.sec.burning = none) ∧ (s.dev.lcBusy = false) ∧ (s.dev.lcAllowed (s.dev.fld .secArg 0 0 3) = true) ∧
      (s.dev.sec.fuses.t < 16) := by
  decide +kernel

theorem wit_FuseBurnsFollowTheirRules_10 :
    let b := Burn.voltage
    let s := st { Dev.reset with sec := { SecState.reset with burning := some b } }
    (s.dev.sec.burning = some b) := by
  decide +kernel

theorem wit_FuseBurnsFollowTheirRules_11 :
    let s := st Dev.reset
    (s.dev.sec.burning = none) := by
  decide +kernel

theorem wit_ResetsAndStartUpStages_1 :
    let s := st Dev.reset
    let key : BitVec 16 := 0
    (key.toNat ≠ 0xc01d) := by
  decide +kernel

theorem wit_ResetsAndStartUpStages_4 :
    let s := st Dev.reset
    let cores : BitVec 4 := 4
    let c : Fin 4 := 2
    (cores.getLsbD c.val = true) := by
  decide +kernel

theorem wit_ResetsAndStartUpStages_5 :
    let s := st Dev.reset
    (s.dev.breath = 0 ∨ s.dev.breath = 5 ∨ s.dev.breath = 3) := by
  decide +kernel

theorem wit_ResetsAndStartUpStages_6 :
    let s := st (Dev.reset.setBreath 2)
    (s.dev.breath = 1 ∨ s.dev.breath = 2) := by
  decide +kernel

theorem wit_ResetsAndStartUpStages_8 :
    let s := st Dev.reset
    let x : StageEnd := .sram
    (s.dev.sys.begun = false ∨ s.dev.bit .glbBootStage 0 27 = true ∨ s.dev.stage ≠ x.stage) := by
  decide +kernel

theorem wit_ResetsAndStartUpStages_9 :
    let s := st { Dev.reset with sys := { SysState.reset with begun := true } }
    (s.dev.sys.begun = true) ∧ (s.dev.bit .glbBootStage 0 27 = false) := by
  decide +kernel

theorem wit_ResetsAndStartUpStages_12 :
    let s := st (Dev.reset.put .dmcCfg 0 0x80010000)
    let g := 0
    (g ∈ s.dev.groups) := by
  decide +kernel

theorem wit_ResetsAndStartUpStages_13 :
    let o : NvaOp := { requester := 4, bank := 0, line := 0, left := 1, erase := true, src := 0, body := [] }
    let s := st { Dev.reset with mgt := { MgtState.reset with ops := [o] } }
    let b : Fin 4 := 0
    (s.dev.nvaServed b.val = some o) := by
  decide +kernel

theorem wit_CalibrationRunsApplyOrAbort_1 :
    let s := st Dev.reset
    let item : Byte := 3
    (item.toNat < 10) ∧ (item.toNat ∉ s.dev.sys.running) := by
  decide +kernel

theorem wit_CalibrationRunsApplyOrAbort_2 :
    let s := st Dev.reset
    let item : Byte := 10
    (item.toNat = 10) ∧ (item.toNat ∉ s.dev.sys.running) := by
  decide +kernel

theorem wit_CalibrationRunsApplyOrAbort_3 :
    let s := st Dev.reset
    let item : Byte := 11
    (10 < item.toNat ∨ item.toNat ∈ s.dev.sys.running) := by
  decide +kernel

theorem wit_CalibrationRunsApplyOrAbort_4 :
    let s := st { Dev.reset with sec := { SecState.reset with fuses := { Fuses.blank with p := true } } }
    let item : Fin 11 := 0
    let k := 0
    let m1 : Int := 5
    let m2 : Int := 8
    ((m1 - m2).natAbs ≤ calTolerance item.val) ∧ (s.dev.sec.fuses.state ≠ 0) ∧ (s.dev.sec.fuses.state ≠ 3) ∧
      (s.dev.calReady item.val k = true) ∧ (item.val ≠ 8 ∨ s.dev.bit .dmcStatus k 27 = true) := by
  decide +kernel

theorem wit_CalibrationRunsApplyOrAbort_5 :
    let s := st Dev.reset
    let item : Fin 11 := 0
    let k := 0
    let ok := true
    let m1 : Int := 5
    let m2 : Int := 800
    (ok = false ∨ s.dev.calReady item.val k = false ∨ calTolerance item.val < (m1 - m2).natAbs) ∧ (item.val ≠ 8 ∨
      s.dev.bit .dmcStatus k 27 = true) := by
  decide +kernel

theorem wit_CalibrationRunsApplyOrAbort_6 :
    let s := st Dev.reset
    let item : Fin 11 := 8
    let k := 3
    (item.val = 8) ∧ (s.dev.bit .dmcStatus k 27 = false) := by
  decide +kernel

theorem wit_FrameOfRegisterOnlyCommands_1 :
    let s := st Dev.reset
    let c : Instr := .credit 0 0 5
    ((footprint s.dev c).unframed = false) ∧ ((footprint s.dev c).breadth = 0) := by
  decide +kernel

theorem wit_FrameOfOneAreaCommands_1 :
    let s := st Dev.reset
    let c : Instr := .kick 0
    ((footprint s.dev c).unframed = false) ∧ ((footprint s.dev c).breadth = 1) := by
  decide +kernel

theorem wit_FrameOfTwoAreaCommands_1 :
    let s := st Dev.reset
    let c : Instr := .zero 4
    ((footprint s.dev c).unframed = false) ∧ ((footprint s.dev c).breadth = 2) := by
  decide +kernel

theorem wit_FrameOfThreeAreaCommands_1 :
    let s := st Dev.reset
    let c : Instr := .checkpointCommit []
    ((footprint s.dev c).unframed = false) ∧ ((footprint s.dev c).breadth = 3) := by
  decide +kernel

theorem wit_FrameOfSevenAreaCommands_1 :
    let s := st Dev.reset
    let c : Instr := .passArm 0
    ((footprint s.dev c).unframed = false) ∧ (4 ≤ (footprint s.dev c).breadth) ∧ ((footprint s.dev c).breadth ≤ 7) := by
  decide +kernel

theorem wit_FrameOfBroadCommands_1 :
    let s := st Dev.reset
    let c : Instr := .dramGrant 0 []
    ((footprint s.dev c).unframed = false) ∧ (8 ≤ (footprint s.dev c).breadth) := by
  decide +kernel

end Sys2Proof.Machine
end

section
open Sys2Proof
namespace Sys2Proof.Machine

/-! ### The queue (log entry 1) -/

/-- A run makes of a controller the same whatever waits. -/
theorem run_agree (f : Dev → Dev) (d : Dev) (p q : List Instr) :
    ∃ e, State.run ⟨d, p⟩ f = .next ⟨e, p⟩ ∧ State.run ⟨d, q⟩ f = .next ⟨e, q⟩ := ⟨f d, rfl, rfl⟩

/-- Every command's meaning is a run: it answers a next state, leaves the queue alone, and makes of the controller the same
whatever waits. -/
theorem exec_agree (c : Instr) (d : Dev) (p q : List Instr) :
    ∃ e, exec c ⟨d, p⟩ = .next ⟨e, p⟩ ∧ exec c ⟨d, q⟩ = .next ⟨e, q⟩ := by
  cases c with
  | claim r k f =>
    change ∃ e, execClaim r k f ⟨d, p⟩ = .next ⟨e, p⟩ ∧ execClaim r k f ⟨d, q⟩ = .next ⟨e, q⟩
    unfold execClaim
    exact run_agree _ d p q
  | _ => exact ⟨_, rfl, rfl⟩

/-- Every command answers a next state with the queue as it was. -/
theorem exec_next (c : Instr) (s : State) : ∃ t, exec c s = .next t ∧ t.pending = s.pending := by
  obtain ⟨e, he, -⟩ := exec_agree c s.dev s.pending s.pending
  exact ⟨_, he, rfl⟩

/-- A command that answers a next state leaves the queue as it was. -/
theorem exec_pending {c : Instr} {s t : State} (h : exec c s = .next t) : t.pending = s.pending := by
  obtain ⟨u, hu, hp⟩ := exec_next c s
  obtain rfl : u = t := Host.Outcome.next.inj (hu.symm.trans h)
  exact hp

/-- Settles O3: every command's meaning is a run of the controller, which keeps the queue. -/
theorem everyCommandCompletes : Obligations.EveryCommandCompletes := exec_next

/-- Settles O1: both sides are the arm of `step` for a queue that is not empty. -/
theorem stepRunsFrontCommand : Obligations.StepRunsFrontCommand := fun _ _ _ => rfl

theorem runSteps_succ_of_step {n : Nat} {s t : State} (h : step s = .next t) : runSteps (n + 1) s = runSteps n t := by
  rw [runSteps, h]

theorem runAll_cons_of_exec {c : Instr} {cs : List Instr} {s t : State} (h : exec c s = .next t) :
    runAll (c :: cs) s = runAll cs t := by
  rw [runAll, h]

/-- Settles O4, by induction on the commands in front. -/
theorem queueServedInOrder : Obligations.QueueServedInOrder := by
  intro cs q
  induction cs with
  | nil => exact fun _ => rfl
  | cons c cs ih =>
    intro d
    obtain ⟨e, hp, hq⟩ := exec_agree c d (cs ++ q) q
    have hstep : step { dev := d, pending := c :: cs ++ q } = .next { dev := e, pending := cs ++ q } := hp
    calc runSteps (c :: cs).length { dev := d, pending := c :: cs ++ q }
        = runSteps cs.length { dev := e, pending := cs ++ q } := runSteps_succ_of_step hstep
      _ = runAll cs { dev := e, pending := q } := ih e
      _ = runAll (c :: cs) { dev := d, pending := q } := (runAll_cons_of_exec hq).symm

/-- Settles O7: a step takes the front command off and no command adds one. -/
theorem stepKeepsQueueWellFormed : Obligations.StepKeepsQueueWellFormed := by
  rintro ⟨d, pending⟩ hs t ht
  cases pending with
  | nil => cases ht; exact hs
  | cons c q =>
    have hq : t.pending = q := exec_pending (s := ⟨d, q⟩) ht
    simp only [queueWf, List.all_cons, Bool.and_eq_true] at hs
    simpa only [queueWf, hq] using hs.2

/-! ### The state after a cold reset -/

/-- With no register word listed each cell holds its Reset value (R9). -/
theorem Dev.rd_reset (r : Reg) (k : Nat) : Dev.reset.rd r k = r.reset k := rfl

/-- Settles O8: the memories are empty lists and no register word is listed. -/
theorem resetStateIsCanonical : Obligations.ResetStateIsCanonical := by
  refine ⟨⟨rfl, rfl⟩, ⟨rfl, rfl⟩, rfl, rfl, ?fireIndex, rfl, rfl, ?imgState, ?imgError, ?fireEn, ?firing, rfl, rfl, Dev.rd_reset⟩
  case fireIndex => decide
  case imgState => decide
  case imgError => decide
  case fireEn => decide
  case firing => decide

/-! ### Register cells -/

/-- Settles O9, by the laws of `Dev.wr` and `Dev.setFld`. -/
theorem registerCellReadAfterWrite : Obligations.RegisterCellReadAfterWrite :=
  ⟨fun d r _ k _ v => ⟨d.rd_wr_same r k v, d.rd_wr_ne v⟩,
    fun d r k l w x l' w' h => ⟨d.fld_setFld_same r k l w x h, d.fld_setFld_other r k l w x l' w' h⟩⟩

end Sys2Proof.Machine
end

section
open Sys2Proof
namespace Sys2Proof.Machine

/-! ### Two footprints that leave something out

HEAD_EVENT counts in six registers, by the place of the count that grew, and its footprint names one of them. DRAM_GRANT may
lose control state and stop firing, which issues the open spoil records; one that no cascade link takes leaves an entry in
the loop log, which the footprint of DRAM_GRANT does not name. -/

/-- HEAD_EVENT of port 0 with one late slate more than before. -/
def lateSlate : Instr := .headEvent 0 ⟨#[0, 1, 0, 0, 0, 0], rfl⟩

/-- From reset it counts in H_LATE of the port. -/
theorem lateSlate_counts_late : Completes lateSlate State.reset fun e => e.get .hLate 0 = 1 := by
  refine ⟨_, rfl, rfl, ?_⟩
  decide +kernel

theorem lateSlate_footprint_leaves_out_hLate :
    (footprint Dev.reset lateSlate).touches.all (fun t => !t.covers .hLate 0 0) = true := by decide +kernel

/-- Refutes O58: HEAD_EVENT with a late slate counts in H_LATE, and its footprint names H_UNDERRUN only. -/
theorem not_frameOfThreeAreaCommands : ¬ Obligations.FrameOfThreeAreaCommands := by
  unfold Obligations.FrameOfThreeAreaCommands
  intro h
  obtain ⟨t, ht, -, hlate⟩ := lateSlate_counts_late
  obtain ⟨-, -, htouched, -, -⟩ := h State.reset lateSlate (by decide) (by decide) t ht
  have hbit := htouched .hLate 0 0 lateSlate_footprint_leaves_out_hLate
  have hone : (t.dev.rd .hLate 0).getLsbD 0 = true := by
    rw [show t.dev.rd .hLate 0 = 1 from BitVec.eq_of_toNat_eq hlate]
    rfl
  exact absurd (hone.symm.trans hbit) (by decide)

/-- A read of control state by the first requester, at address 0. -/
def controlRead : DramReq :=
  { q := 0, core := none, since := 0, addr := 0, data := none, more := 0, other := none, errors := [], holds := .control }

/-- A line of fluid 0 that is spoiled and not yet issued. -/
def openSpoil : SpoilRec :=
  { slot := 0, region := 0, strip := 0, fluid := 0, phase := 0, band := 0, first := 0, lines := 1, pass := 0, cause := .skip,
    touched := false }

/-- Firing is enabled, a spoil record is open, the active image feeds fluid 0 to the cascade with no link live, and the first
DRAM group holds one rank of the least density and is offline. -/
def firingOverLostGroup : State :=
  let d := ((Dev.reset.put .dmcCfg 0 (1 <<< 31 + 1 <<< 16 + 1 <<< 12 + 1 <<< 10)).setBit .dmcStatus 0 30 true).setBit .posCtrl 0 0 true
  { dev := { d with
      img := { d.img with active := some { Image.empty with fields := [((.casEn, 0), 1), ((.casFeed, 0), 1)] } }
      cmp := { d.cmp with openSpoils := [openSpoil] } }
    pending := [] }

/-- The lost read stops firing, and the message that the cascade drops is entered in the loop log, at address 0. -/
theorem controlRead_logs_drop :
    Completes (.dramGrant 0 [controlRead]) firingOverLostGroup fun e => Mem.read e.dram 3 = 0xaf := by
  refine ⟨_, rfl, rfl, ?_⟩
  decide +kernel

theorem controlRead_footprint_dram :
    (footprint firingOverLostGroup.dev (.dramGrant 0 [controlRead])).dram = [(0, 0)] := by decide +kernel

/-- Refutes O60: DRAM_GRANT writes a loop log entry of sixteen bytes, and its footprint names only the bytes of the writes that
wait, of which there are none. -/
theorem not_frameOfBroadCommands : ¬ Obligations.FrameOfBroadCommands := by
  unfold Obligations.FrameOfBroadCommands
  intro h
  obtain ⟨t, ht, -, hlog⟩ := controlRead_logs_drop
  obtain ⟨-, -, -, hdram, -⟩ :=
    h firingOverLostGroup (.dramGrant 0 [controlRead]) (by decide +kernel) (by decide +kernel) t ht
  have hsame := hdram 3 (by rw [controlRead_footprint_dram]; decide)
  exact absurd (hlog.symm.trans hsame) (by decide)

end Sys2Proof.Machine
end

section
open Sys2Proof
namespace Sys2Proof.Machine

/-! ### Where the register words lie (R429) -/

/-- Every register has at least one cell in its inner array. -/
theorem Reg.c2_pos (r : Reg) : 0 < r.desc.c2 := by cases r <;> decide

/-- A word that hits a cell is its low word, or its high word 4 bytes on. -/
theorem Reg.addr_of_hit {r : Reg} {a k : Nat} {high : Bool} (h : r.hit a = some (k, high)) :
    a = r.addr k + if high then 4 else 0 := by
  simp only [Reg.hit] at h
  split at h
  · exact absurd h (by simp)
  next hbase =>
    generalize hi : (if r.desc.s1 = 0 then 0 else min ((a - (r.desc.block.base + r.desc.off)) / r.desc.s1) (r.desc.c1 - 1)) = i1 at h
    have h1 : r.desc.s1 * i1 ≤ a - (r.desc.block.base + r.desc.off) := by
      subst hi
      split
      · simp
      · exact (Nat.mul_le_mul_left _ (min_le_left _ _)).trans (Nat.mul_div_le _ _)
    generalize hj : (if r.desc.s2 = 0 then 0 else
      min ((a - (r.desc.block.base + r.desc.off) - r.desc.s1 * i1) / r.desc.s2) (r.desc.c2 - 1)) = i2 at h
    have h2 : r.desc.s2 * i2 ≤ a - (r.desc.block.base + r.desc.off) - r.desc.s1 * i1 := by
      subst hj
      split
      · simp
      · exact (Nat.mul_le_mul_left _ (min_le_left _ _)).trans (Nat.mul_div_le _ _)
    have hlt : i2 < r.desc.c2 := by
      have := r.c2_pos
      subst hj
      split <;> omega
    have hdiv : (i1 * r.desc.c2 + i2) / r.desc.c2 = i1 := by
      rw [Nat.add_comm, Nat.add_mul_div_right _ _ r.c2_pos, Nat.div_eq_of_lt hlt, Nat.zero_add]
    have hmod : (i1 * r.desc.c2 + i2) % r.desc.c2 = i2 := by
      rw [Nat.add_comm, Nat.add_mul_mod_self_right, Nat.mod_eq_of_lt hlt]
    have haddr : r.addr (i1 * r.desc.c2 + i2) = r.desc.block.base + r.desc.off + r.desc.s1 * i1 + r.desc.s2 * i2 := by
      rw [Reg.addr, hdiv, hmod]
    split at h
    · obtain ⟨rfl, rfl⟩ := Prod.mk.inj (Option.some.inj h)
      rw [haddr]
      simp only [Bool.false_eq_true, if_false]
      omega
    · split at h
      · obtain ⟨rfl, rfl⟩ := Prod.mk.inj (Option.some.inj h)
        rw [haddr]
        simp only [if_true]
        omega
      · exact absurd h (by simp)

/-- The word found at an offset is the low word of the cell, or its high word 4 bytes on. -/
theorem Reg.addr_of_find {r : Reg} {a k : Nat} {high : Bool} (h : Reg.find a = some (r, k, high)) :
    a = r.addr k + if high then 4 else 0 := by
  obtain ⟨q, -, hq⟩ := List.exists_of_findSome?_eq_some h
  obtain ⟨⟨j, b⟩, hhit, heq⟩ := Option.map_eq_some_iff.mp hq
  cases heq
  exact Reg.addr_of_hit hhit

/-! ### Accesses of cores and the owner (R286, R429) -/

/-- Cores and the owner are not functions without a context. -/
theorem Dev.vfUnbound_of_req {d : Dev} {a : Agent} (h : (agentReq a).isSome = true) : d.vfUnbound a = false := by
  cases a with
  | core c => rfl
  | session => rfl
  | function f =>
    have hf : f.val = 0 := by
      by_contra hne
      simp [agentReq, hne] at h
    simp [Dev.vfUnbound, hf]

/-- A core or the owner writes a word of a register that no tenant has to itself. -/
theorem Dev.writeWord_of_find {d : Dev} {a : Agent} {addr : Nat} {r : Reg} {k : Nat} {high : Bool}
    (ha : (agentReq a).isSome = true) (hf : Reg.find addr = some (r, k, high)) (ht : r.tenantOnly = false)
    (v : BitVec 64) (x : WriteAside) : d.writeWord a addr v x = d.writeReg a r k high v x := by
  simp [Dev.writeWord, d.vfUnbound_of_req ha, Dev.reaches, ha, hf, ht]

/-- A core or the owner writes where nothing is. -/
theorem Dev.writeWord_of_not_find {d : Dev} {a : Agent} {addr : Nat} (ha : (agentReq a).isSome = true)
    (hf : Reg.find addr = none) (hn : inNzt addr = false) (v : BitVec 64) (x : WriteAside) :
    d.writeWord a addr v x = d.badAccess := by
  simp [Dev.writeWord, d.vfUnbound_of_req ha, Dev.reaches, ha, hf, hn]

/-- A core or the owner reads a word of a register. -/
theorem Dev.readWord_of_find {d : Dev} {a : Agent} {addr : Nat} {r : Reg} {k : Nat} {high : Bool}
    (ha : (agentReq a).isSome = true) (hf : Reg.find addr = some (r, k, high)) :
    d.readWord a addr = if readOfOwn r k high then d.ownRead a r k high else d.readReg a addr r k high := by
  simp [Dev.readWord, d.vfUnbound_of_req ha, Dev.reaches, ha, hf]

/-- The two words of an aligned 64-bit access are aligned, and the second lies 4 bytes on. -/
theorem words_of_aligned {addr : BitVec 28} (h : aligned addr.toNat true = true) :
    aligned addr.toNat false = true ∧ (addr + 4).toNat = addr.toNat + 4 ∧ aligned (addr + 4).toNat false = true := by
  have hlt := addr.isLt
  simp only [aligned, if_true, beq_iff_eq] at h
  have hadd : (addr + 4).toNat = addr.toNat + 4 := by
    rw [BitVec.toNat_add]
    change (addr.toNat + 4) % 2 ^ 28 = addr.toNat + 4
    omega
  refine ⟨?_, hadd, ?_⟩
  · simp only [aligned, Bool.false_eq_true, if_false, beq_iff_eq]
    omega
  · simp only [aligned, Bool.false_eq_true, if_false, beq_iff_eq, hadd]
    omega

/-- An aligned 32-bit write is the write of its word. -/
theorem exec_write_word {addr : BitVec 28} (h : aligned addr.toNat false = true) (s : State) (a : Agent) (v : BitVec 64)
    (x : WriteAside) : exec (.registerWrite a addr v false x) s = .next { s with dev := s.dev.writeWord a addr.toNat v x } := by
  simp [exec, execRegisterWrite, h]

/-- An aligned 64-bit write is the writes of its two words. -/
theorem exec_write_wide {addr : BitVec 28} (h : aligned addr.toNat true = true) (s : State) (a : Agent) (v : BitVec 64)
    (x : WriteAside) : exec (.registerWrite a addr v true x) s = .next { s with
      dev := (s.dev.writeWord a addr.toNat v x).writeWord a (addr.toNat + 4) (v >>> 32) (asideHigh x) } := by
  simp [exec, execRegisterWrite, h]

/-- An aligned 32-bit read is the read of its word. -/
theorem exec_read_word {addr : BitVec 28} (h : aligned addr.toNat false = true) (s : State) (a : Agent) :
    exec (.lowWordReadLatch a addr false) s = .next { s with dev := s.dev.readWord a addr.toNat } := by
  simp [exec, execLowWordReadLatch, h]

/-- An aligned 64-bit read is the reads of its two words. -/
theorem exec_read_wide {addr : BitVec 28} (h : aligned addr.toNat true = true) (s : State) (a : Agent) :
    exec (.lowWordReadLatch a addr true) s = .next { s with
      dev := (s.dev.readWord a addr.toNat).readWord a (addr.toNat + 4) } := by
  simp [exec, execLowWordReadLatch, h]

/-! ### What follows the store of a register leaves it as stored -/

/-- A code told to a vector or a core changes no register. -/
theorem Dev.vecDue_regs (d : Dev) (fn v : Nat) : (d.vecDue fn v).regs = d.regs := by
  simp only [Dev.vecDue, Dev.sendVec]
  split_ifs <;> rfl

theorem Dev.vecEvent_regs (d : Dev) (fn v : Nat) : (d.vecEvent fn v).regs = d.regs := by
  simp only [Dev.vecEvent]
  split
  · rw [Dev.vecDue_regs]
    rfl
  · rfl

theorem Dev.irqNotify_regs (d : Dev) (src : Nat) : (d.irqNotify src).regs = d.regs := by
  simp only [Dev.irqNotify]
  split_ifs
  · rfl
  · rfl
  · exact d.vecEvent_regs _ _
  · rfl

/-- Setting a bit leaves every register of another name. -/
theorem Dev.rd_setBit_reg (d : Dev) {r q : Reg} (k j i : Nat) (b : Bool) (h : q ≠ r) : (d.setBit r k i b).rd q j = d.rd q j :=
  d.rd_wr_reg k j _ h

/-- A pending bit is all that a source made pending changes of the registers. -/
theorem Dev.rd_irqPend (d : Dev) {r : Reg} (h : r ≠ .irqPendSet) (src : Nat) (b : Bool) (k : Nat) :
    (d.irqPend src b).rd r k = d.rd r k := by
  simp only [Dev.irqPend]
  split
  · rw [Dev.rd, Dev.irqNotify_regs]
    exact d.rd_setBit_reg _ _ _ _ h
  · exact d.rd_setBit_reg _ _ _ _ h

/-- A level bit and a pending bit are all that a source's level changes of the registers. -/
theorem Dev.rd_irqLevel (d : Dev) {r : Reg} (hl : r ≠ .irqLevel) (hp : r ≠ .irqPendSet) (src : Nat) (b : Bool) (k : Nat) :
    (d.irqLevel src b).rd r k = d.rd r k := by
  simp only [Dev.irqLevel]
  split_ifs <;> simp only [Dev.rd_irqPend _ hp, Dev.rd_setBit_reg _ _ _ _ _ hl]

/-- Bringing an event register's source to its level leaves that register. -/
theorem Dev.rd_refreshEvent_self (d : Dev) (r : Reg) (k : Nat) : (d.refreshEvent r k).rd r k = d.rd r k := by
  simp only [Dev.refreshEvent]
  split
  · rfl
  next src hsrc =>
    have hl : r ≠ .irqLevel := by rintro rfl; exact absurd hsrc (by simp [eventSource])
    have hp : r ≠ .irqPendSet := by rintro rfl; exact absurd hsrc (by simp [eventSource])
    exact d.rd_irqLevel hl hp _ _ _

/-- What follows the store of a register leaves it, but for those that the loop, a context or an Ethernet port brings to its
state. -/
theorem Dev.rd_afterWrite_self (d : Dev) {r : Reg} (hq : r ≠ .qlCtrl) (ht : r ≠ .tenState) (he : r ≠ .epCtrl) (k : Nat) :
    (d.afterWrite r k).rd r k = d.rd r k := by
  unfold Dev.afterWrite
  split
  · split
    · exact d.rd_irqPend (by decide) _ _ _
    · rfl
  · exact absurd rfl hq
  · exact absurd rfl ht
  · exact absurd rfl he
  · exact d.rd_refreshEvent_self _ _

/-- A register stored reads as stored. -/
theorem Dev.rd_storeReg_self (d : Dev) {r : Reg} (hq : r ≠ .qlCtrl) (ht : r ≠ .tenState) (he : r ≠ .epCtrl) (k : Nat)
    (v : BitVec 64) : (d.storeReg r k v).rd r k = v := by
  rw [Dev.storeReg, Dev.rd_afterWrite_self _ hq ht he, Dev.rd_wr_same]

/-! ### Writes of registers without a row of their own -/

/-- Bits written to a register that is not in transit, busy or closed to writes are stored by their access codes. -/
theorem Dev.writeBits_of_open {d : Dev} {r : Reg} {k : Nat} (ho : ((objectOf r k).any fun o => d.inTransit o.1 o.2) = false)
    (hb : d.writeBusy r k = none) (hd : d.writeDropped r k = false) (he : r ≠ .epCtrl) (a : Agent) (high : Bool)
    (v edges : BitVec 64) : d.writeBits a r k high v edges = d.storeReg r k (storeHalf r high (d.rd r k) v edges) := by
  simp [Dev.writeBits, ho, hb, hd, he]

/-- TEST of a lane is the one command that acts before the bits are stored. -/
theorem Dev.beforeStore_of_ne {r : Reg} (h : r ≠ .lneCtrl) (d : Dev) (a : Agent) (k n : Nat) : d.beforeStore a r k n = d := by
  unfold Dev.beforeStore
  split
  · exact absurd rfl h
  · rfl

/-- SRC of IMG_CTRL is the one field that a command is given without. -/
theorem Dev.commandOnly_of_ne {r : Reg} (h : r ≠ .imgCtrl) (d : Dev) (k : Nat) (v : BitVec 64) : d.commandOnly r k v = false := by
  simp [Dev.commandOnly, h]

/-- Commands stand beside the bits of five registers. -/
theorem Dev.besideWrite_of_not_mem {r : Reg}
    (h : r ∉ [Reg.imgCtrl, Reg.posEncStatus, Reg.qlCtrl, Reg.lneCtrl, Reg.nvaOpCtrl]) (d : Dev) (a : Agent) (k n : Nat)
    (x : WriteAside) : d.besideWrite a r k n x = d := by
  unfold Dev.besideWrite
  split
  case h_6 => rfl
  all_goals exact absurd (by decide) h

/-- A register beside which no command stands only stores its bits. -/
theorem Dev.writeReg_of_no_command {d : Dev} {r : Reg} {v : BitVec 64} (hown : r.rowOfOwn v = false)
    (hcmd : r ∉ [Reg.imgCtrl, Reg.posEncStatus, Reg.qlCtrl, Reg.lneCtrl, Reg.nvaOpCtrl]) (a : Agent) (k : Nat) (high : Bool)
    (x : WriteAside) : d.writeReg a r k high v x = d.writeBits a r k high v x.edges := by
  have himg : r ≠ .imgCtrl := by rintro rfl; exact hcmd (by decide)
  have hlne : r ≠ .lneCtrl := by rintro rfl; exact hcmd (by decide)
  simp [Dev.writeReg, hown, Dev.commandOnly_of_ne himg, Dev.beforeStore_of_ne hlne, Dev.besideWrite_of_not_mem hcmd]

/-- The encoder status, the loop's control and the control of an NVA operation are open to every write. -/
theorem Dev.writeBits_of_beside {d : Dev} {r : Reg} (hr : r ∈ [Reg.posEncStatus, Reg.qlCtrl, Reg.nvaOpCtrl]) (a : Agent)
    (k : Nat) (high : Bool) (v edges : BitVec 64) :
    d.writeBits a r k high v edges = d.storeReg r k (storeHalf r high (d.rd r k) v edges) := by
  simp only [List.mem_cons, List.not_mem_nil, or_false] at hr
  obtain rfl | rfl | rfl := hr
  · exact Dev.writeBits_of_open rfl rfl rfl (by decide) a high v edges
  · exact Dev.writeBits_of_open rfl rfl rfl (by decide) a high v edges
  · exact Dev.writeBits_of_open rfl rfl rfl (by decide) a high v edges

/-- Where commands stand beside the bits of such a register, the bits are stored and then the commands act. -/
theorem Dev.writeReg_of_beside {d : Dev} {r : Reg} {v : BitVec 64} (hown : r.rowOfOwn v = false)
    (hr : r ∈ [Reg.posEncStatus, Reg.qlCtrl, Reg.nvaOpCtrl]) (a : Agent) (k : Nat) (high : Bool) (x : WriteAside) :
    d.writeReg a r k high v x =
      (d.storeReg r k (storeHalf r high (d.rd r k) v x.edges)).besideWrite a r k (v.toNat % 2 ^ 32) x := by
  have himg : r ≠ .imgCtrl := by rintro rfl; exact absurd hr (by decide)
  have hlne : r ≠ .lneCtrl := by rintro rfl; exact absurd hr (by decide)
  simp [Dev.writeReg, hown, Dev.commandOnly_of_ne himg, Dev.beforeStore_of_ne hlne, Dev.writeBits_of_beside hr]

/-- A write that runs no row's command finds no register beside which one stands. -/
theorem not_mem_of_not_writeRuns {addr : Nat} {v : BitVec 64} {r : Reg} {k : Nat} {high : Bool} (h : writeRuns addr v = false)
    (hf : Reg.find addr = some (r, k, high)) :
    r.rowOfOwn v = false ∧ r ∉ [Reg.imgCtrl, Reg.posEncStatus, Reg.qlCtrl, Reg.lneCtrl, Reg.nvaOpCtrl] := by
  simpa only [writeRuns, hf, Bool.or_eq_false_iff, decide_eq_false_iff_not] using h

/-! ### Bits by their access codes (R5, R8, R11) -/

/-- A bit that is neither RW nor W1C stays. -/
theorem storeHalf_other_bits (r : Reg) (high : Bool) (old v edges : BitVec 64) :
    storeHalf r high old v edges &&& ~~~(r.desc.rw ||| r.desc.w1c) = old &&& ~~~(r.desc.rw ||| r.desc.w1c) := by
  apply BitVec.eq_of_getLsbD_eq
  intro i hi
  cases hrw : r.desc.rw[i] <;> cases hw1c : r.desc.w1c[i] <;> simp [storeHalf, hi, hrw, hw1c]

/-- A W1C bit of the low word that an event sets in the same clock is 1 after the write. -/
theorem storeHalf_edge {r : Reg} {edges : BitVec 64} {i : Nat} (hi : i < 32) (he : edges.getLsbD i = true)
    (hw : r.desc.w1c.getLsbD i = true) (old v : BitVec 64) : (storeHalf r false old v edges).getLsbD i = true := by
  have h64 : i < 64 := by omega
  have hlow : (4294967295#64).getLsbD i = true := by
    rw [show 4294967295#64 = BitVec.ofNat 64 (2 ^ 32 - 1) from rfl, BitVec.getLsbD_ofNat, Nat.testBit_two_pow_sub_one]
    simp [hi, h64]
  simp [storeHalf, halfLsb, he, hw, hlow]

/-! ### Reads (R7) -/

/-- A latched word reads as it was latched. -/
@[simp] theorem Dev.latchWord_latch_same (d : Dev) (a v : Nat) : Tab.find (d.latchWord a v).latch a = some v :=
  Tab.find_set_same d.latch a v

/-- Latching a word leaves the others. -/
theorem Dev.latchWord_latch_ne (d : Dev) {a b : Nat} (v : Nat) (h : b ≠ a) :
    Tab.find (d.latchWord a v).latch b = Tab.find d.latch b := Tab.find_set_ne d.latch v h

/-- Latching sends nothing. -/
theorem Dev.latchWith_outs (d : Dev) (r : Reg) (k : Nat) : (d.latchWith r k).outs = d.outs := by
  have hword : ∀ (e : Dev) a v, (e.latchWord a v).outs = e.outs := fun _ _ _ => rfl
  unfold Dev.latchWith
  dsimp only
  split <;> split_ifs <;> simp only [hword]

/-- The low word of a 64-bit register latches its high word. -/
theorem Dev.latchWith_high (d : Dev) {r : Reg} (hwide : r.desc.wide = true) (k : Nat) :
    Tab.find (d.latchWith r k).latch (r.addr k + 4) = some (d.liveHalf r k true) := by
  unfold Dev.latchWith
  simp only [hwide, if_true]
  split
  · rw [Dev.latchWord_latch_ne]
    · exact d.latchWord_latch_same _ _
    · simp [Reg.addr, Reg.desc]
  · rw [Dev.latchWord_latch_ne]
    · exact d.latchWord_latch_same _ _
    · simp [Reg.addr, Reg.desc]
  · exact absurd hwide (by decide)
  · exact absurd hwide (by decide)
  · exact d.latchWord_latch_same _ _

/-- Settles O12: a word goes to the row that its register names, or is stored by its access codes. -/
theorem registerWritesByAccessCode : Obligations.RegisterWritesByAccessCode := by
  unfold Obligations.RegisterWritesByAccessCode
  refine ⟨?misaligned, ?unoccupied, ?stored, ?ownRow, ?beside, ?wide, storeHalf_other_bits, ?edge, ?badAccess⟩
  case misaligned =>
    intro s w addr v wide x h
    simp [Yields, exec, execRegisterWrite, h, Dev.badAccess]
  case unoccupied =>
    intro s w addr v x ha hw hf hn
    rw [Yields, exec_write_word ha, Dev.writeWord_of_not_find hw hf hn, Dev.badAccess]
  case stored =>
    intro s w addr v x r k high ha hw hf hrun ht ho hb hd he
    obtain ⟨hown, hcmd⟩ := not_mem_of_not_writeRuns hrun hf
    have hql : r ≠ .qlCtrl := by rintro rfl; exact hcmd (by decide)
    have hten : r ≠ .tenState := by rintro rfl; exact absurd ht (by decide)
    refine ⟨_, exec_write_word ha s w v x, rfl, ?_⟩
    change (s.dev.writeWord w addr.toNat v x).rd r k = _
    rw [Dev.writeWord_of_find hw hf ht, Dev.writeReg_of_no_command hown hcmd, Dev.writeBits_of_open ho hb hd he,
      Dev.rd_storeReg_self _ hql hten he]
  case ownRow =>
    intro s w addr v x r k high ha hw hf ht hown
    rw [Yields, exec_write_word ha, Dev.writeWord_of_find hw hf ht, Dev.writeReg, if_pos hown]
  case beside =>
    intro s w addr v x r k high ha hw hf ht hown hr
    rw [Yields, exec_write_word ha, Dev.writeWord_of_find hw hf ht, Dev.writeReg_of_beside hown hr]
  case wide =>
    intro s w addr v x t ha ht
    obtain ⟨hlow, hadd, hhigh⟩ := words_of_aligned ha
    rw [exec_write_word hlow] at ht
    cases ht
    rw [exec_write_wide ha, exec_write_word hhigh, hadd]
  case edge =>
    intro r old v edges i hi he hw
    exact storeHalf_edge hi he hw old v
  case badAccess =>
    intro s q read addr
    have hcount : ∀ e : Dev, e.badAccess.get .glbBadAccess 0 = min (e.get .glbBadAccess 0 + 1) (2 ^ 32 - 1) :=
      fun e => e.get_count_same _ _
    cases read with
    | false => exact ⟨_, rfl, rfl, hcount s.dev, (List.append_nil _).symm⟩
    | true => exact ⟨_, rfl, rfl, hcount s.dev, rfl⟩

/-- A latched word is answered once. -/
theorem Dev.readReg_of_latched {d : Dev} {addr v : Nat} (h : Tab.find d.latch addr = some v) (a : Agent) (r : Reg) (k : Nat)
    (high : Bool) : d.readReg a addr r k high =
      { (d.send (.readData (agentNumber a) addr v)) with latch := Tab.erase d.latch addr } := by
  simp [Dev.readReg, h]

/-- With nothing latched a word is answered as it stands. -/
theorem Dev.readReg_of_live {d : Dev} {addr : Nat} (h : Tab.find d.latch addr = none) (a : Agent) (r : Reg) (k : Nat)
    (high : Bool) : d.readReg a addr r k high =
      (if high then d else d.latchWith r k).send (.readData (agentNumber a) addr (d.liveHalf r k high)) := by
  simp [Dev.readReg, h]

/-- Settles O13: a read answers the latched word, or the live one and then latches the high word beside it. -/
theorem lowWordReadLatchesHighWord : Obligations.LowWordReadLatchesHighWord := by
  unfold Obligations.LowWordReadLatchesHighWord
  refine ⟨?low, ?latched, ?high, ?wide, ?ownRow⟩
  case low =>
    intro s q addr r k ha hq hf hown hlatch hwide
    refine ⟨_, exec_read_word ha s q, rfl, ?_⟩
    have hread : s.dev.readWord q addr.toNat =
        (s.dev.latchWith r k).send (.readData (agentNumber q) addr.toNat (s.dev.liveHalf r k false)) := by
      simp [Dev.readWord_of_find hq hf, hown, Dev.readReg_of_live hlatch]
    have haddr : addr.toNat = r.addr k := by simpa using Reg.addr_of_find hf
    refine ⟨?_, ?_⟩
    · change (s.dev.readWord q addr.toNat).outs = _
      rw [hread]
      exact congrArg (· ++ _) (s.dev.latchWith_outs r k)
    · change Tab.find (s.dev.readWord q addr.toNat).latch _ = _
      rw [hread, Dev.send_latch, haddr]
      exact s.dev.latchWith_high hwide k
  case latched =>
    intro s q addr r k v high ha hq hf hown hlatch
    refine ⟨_, exec_read_word ha s q, rfl, ?_⟩
    have hread := s.dev.readReg_of_latched hlatch q r k high
    simp only [Dev.readWord_of_find hq hf, hown, Bool.false_eq_true, if_false, hread]
    exact ⟨rfl, Tab.find_erase_same _ _⟩
  case high =>
    intro s q addr r k ha hq hf hown hlatch
    refine ⟨_, exec_read_word ha s q, rfl, ?_⟩
    simp only [Dev.readWord_of_find hq hf, hown, Bool.false_eq_true, if_false, Dev.readReg_of_live hlatch, if_true]
    rfl
  case wide =>
    intro s q addr t ha ht
    obtain ⟨hlow, hadd, hhigh⟩ := words_of_aligned ha
    rw [exec_read_word hlow] at ht
    cases ht
    rw [exec_read_wide ha, exec_read_word hhigh, hadd]
  case ownRow =>
    intro s q addr r k high ha hq hf hown
    rw [Yields, exec_read_word ha, Dev.readWord_of_find hq hf, if_pos hown]

end Sys2Proof.Machine
end

section
open Sys2Proof
namespace Sys2Proof.Machine

/-! ### The words of the synthesis pages (Table 6.3) -/

/-- Every register has at least one cell in its outer array. -/
theorem Reg.c1_pos (r : Reg) : 0 < r.desc.c1 := by cases r <;> decide

/-- A word that hits a cell hits one that exists. -/
theorem Reg.inst_of_hit {r : Reg} {a k : Nat} {high : Bool} (h : r.hit a = some (k, high)) :
    k / r.desc.c2 < r.desc.c1 ∧ k % r.desc.c2 < r.desc.c2 := by
  refine ⟨?_, Nat.mod_lt _ r.c2_pos⟩
  have hc1 := r.c1_pos
  have hc2 := r.c2_pos
  rw [Nat.div_lt_iff_lt_mul hc2]
  simp only [Reg.hit] at h
  split at h
  · exact absurd h (by simp)
  next =>
    generalize hi : (if r.desc.s1 = 0 then 0 else min ((a - (r.desc.block.base + r.desc.off)) / r.desc.s1) (r.desc.c1 - 1)) = i1 at h
    generalize hj : (if r.desc.s2 = 0 then 0 else
      min ((a - (r.desc.block.base + r.desc.off) - r.desc.s1 * i1) / r.desc.s2) (r.desc.c2 - 1)) = i2 at h
    have h1 : i1 + 1 ≤ r.desc.c1 := by subst hi; split <;> omega
    have h2 : i2 < r.desc.c2 := by subst hj; split <;> omega
    have hk : i1 * r.desc.c2 + i2 < r.desc.c1 * r.desc.c2 :=
      calc i1 * r.desc.c2 + i2 < (i1 + 1) * r.desc.c2 := by rw [Nat.add_mul]; omega
        _ ≤ r.desc.c1 * r.desc.c2 := Nat.mul_le_mul_right _ h1
    split at h
    · obtain ⟨rfl, -⟩ := Prod.mk.inj (Option.some.inj h)
      exact hk
    · split at h
      · obtain ⟨rfl, -⟩ := Prod.mk.inj (Option.some.inj h)
        exact hk
      · exact absurd h (by simp)

/-- A register whose high word is hit is a 64-bit quantity. -/
theorem Reg.wide_of_hit {r : Reg} {a k : Nat} (h : r.hit a = some (k, true)) : r.desc.wide = true := by
  by_contra hwide
  simp [Reg.hit, hwide] at h

/-- The place of a word in the pages: its register is one of a page, with one cell group for each port, or it lies
before or after all pages, or, among the registers of a port, before or after the page. -/
def Reg.besidePages (r : Reg) : Bool :=
  let last := r.desc.s2 * (r.desc.c2 - 1) + if r.desc.wide then 4 else 0
  if r ∈ synPage then
    r.desc.block.base == 0x100000 && r.desc.s1 == 0x1000 && decide (0x420 ≤ r.desc.off) && decide (r.desc.off + last < 0x1000)
  else
    decide (r.desc.block.base + r.desc.off + r.desc.s1 * (r.desc.c1 - 1) + last < 0x100000) ||
    decide (0x1c0000 ≤ r.desc.block.base + r.desc.off) ||
    (r.desc.block.base == 0x100000 && r.desc.s1 == 0x1000 &&
      (decide (r.desc.off + last < 0x420) || (decide (0x540 ≤ r.desc.off) && decide (r.desc.off + last < 0x1000))))

theorem Reg.besidePages_all (r : Reg) : r.besidePages = true := by cases r <;> decide

/-- A word of a port's synthesis page lies in a register of the page, in a cell of the port. -/
theorem synPage_of_pageReg {r : Reg} {n k j : Nat} {high : Bool} (h : pageReg n k = some (r, j, high)) :
    r ∈ synPage ∧ j / r.desc.c2 = n ∧ n < 192 := by
  rw [pageReg] at h
  split at h
  next hnk =>
    obtain ⟨q, -, hq⟩ := List.exists_of_findSome?_eq_some h
    obtain ⟨⟨j', high'⟩, hhit, heq⟩ := Option.map_eq_some_iff.mp hq
    obtain ⟨rfl, rfl, rfl⟩ : q = r ∧ j' = j ∧ high' = high := by simpa using heq
    have haddr := Reg.addr_of_hit hhit
    obtain ⟨hj1, hj2⟩ := Reg.inst_of_hit hhit
    have hplace := q.besidePages_all
    have hbase : Block.hpt.base = 0x100000 := rfl
    have h4 : (if high' then 4 else 0) ≤ if q.desc.wide then 4 else 0 := by
      cases high' with
      | false => simp
      | true => simp [Reg.wide_of_hit hhit]
    have hin : q.desc.s2 * (j' % q.desc.c2) ≤ q.desc.s2 * (q.desc.c2 - 1) := Nat.mul_le_mul_left _ (by omega)
    have hout : q.desc.s1 * (j' / q.desc.c2) ≤ q.desc.s1 * (q.desc.c1 - 1) := Nat.mul_le_mul_left _ (by omega)
    rw [Reg.addr, pageAddr, hbase] at haddr
    simp only [Reg.besidePages] at hplace
    split at hplace
    next hmem =>
      simp only [Bool.and_eq_true, beq_iff_eq, decide_eq_true_eq] at hplace
      obtain ⟨⟨⟨hb, hs⟩, hlo⟩, hhi⟩ := hplace
      rw [hb, hs] at haddr
      exact ⟨hmem, by omega, hnk.1⟩
    next =>
      simp only [Bool.or_eq_true, Bool.and_eq_true, beq_iff_eq, decide_eq_true_eq] at hplace
      obtain (hbefore | hafter) | ⟨⟨hb, hs⟩, hport⟩ := hplace
      · omega
      · omega
      · rw [hb, hs] at haddr
        omega
  next => exact absurd h (by simp)

end Sys2Proof.Machine
end

section
open Sys2Proof
namespace Sys2Proof.Machine

/-! ### What an operation reaches

The frame of a command is put together from the operations it runs. Each operation has a `Reach`: the areas and the fields of
registers that it may change, built from the reaches of the operations it runs in turn. An operation whose reach lies within a
footprint leaves a controller within that footprint if it was given one. -/

/-- What an operation may change: an area of state, a field of one cell of a register (or of all, where none is named), an
entry of the loop log, the words of the synthesis pages of one port (or of all), or what several operations may. -/
inductive Reach where
  | nothing
  | area (p : Area)
  | field (r : Reg) (inst : Option Nat) (lsb w : Nat)
  | log
  | page (port : Option Nat)
  | both (a b : Reach)

/-- All bits of a register. -/
abbrev Reach.reg (r : Reg) (i : Option Nat) : Reach := .field r i 0 64

/-- What the operations of a list may change. -/
def Reach.of (xs : List Reach) : Reach := xs.foldr .both .nothing

/-- A cell is among those named. -/
def Among (i : Option Nat) (k : Nat) : Prop := ∀ j, i = some j → j = k

theorem Among.any {k : Nat} : Among none k := fun _ h => nomatch h
theorem Among.self {k : Nat} : Among (some k) k := fun _ h => (Option.some.inj h).symm

/-- A reach lies within the footprint of a command at the controller d. -/
def Reach.within (F : Footprint) (d : Dev) : Reach → Prop
  | .nothing => True
  | .area p => p ∈ F.areas
  | .field r i l w => ∀ k, Among i k → ∀ b, l ≤ b → b < l + w → b < 64 → F.touches.any (fun t => t.covers r k b) = true
  | .log => d.logRange ∈ F.dram ∧ ∀ b, F.touches.all (fun t => !t.covers .qlLogBase 0 b) = true
  | .page i => ∀ n, Among i n → ∀ k r j high, pageReg n k = some (r, j, high) → ∀ b, b < 64 →
      F.touches.any (fun t => t.covers r j b) = true
  | .both a b => a.within F d ∧ b.within F d

section

variable {F : Footprint} {d e : Dev} {i : Option Nat} {r : Reg} {k : Nat}

/-- The controller itself is within every footprint. -/
theorem Footprint.holds_refl (F : Footprint) (d : Dev) : F.holds d d :=
  ⟨onlyAreas_refl _ d, onlyTouched_refl _ d, onlyStored_refl _ _, onlyStored_refl _ _⟩

/-! ### Choices and loops -/

theorem holds_ite {c : Prop} [Decidable c] {a b : Dev} (ha : F.holds d a) (hb : F.holds d b) : F.holds d (if c then a else b) := by
  split
  · exact ha
  · exact hb

theorem Footprint.holds.foldl {α : Type} {f : Dev → α → Dev} {xs : List α} (he : F.holds d e)
    (hf : ∀ e x, F.holds d e → F.holds d (f e x)) : F.holds d (xs.foldl f e) := by
  induction xs generalizing e with
  | nil => exact he
  | cons x xs ih => exact ih (hf e x he)

theorem Footprint.holds.each {f : Dev → Nat → Dev} {ns : List Nat} (he : F.holds d e)
    (hf : ∀ e n, F.holds d e → F.holds d (f e n)) : F.holds d (e.each ns f) := he.foldl hf

/-! ### Areas -/

/-- A controller that differs in one area alone stays within a footprint that names it. -/
theorem Footprint.holds.area {p : Area} {e' : Dev} (he : F.holds d e) (hp : (Reach.area p).within F d)
    (hsame : ∀ q, q ≠ p → q.same e e') (hregs : e'.regs = e.regs) (hdram : e'.dram = e.dram) (hnva : e'.nva = e.nva) :
    F.holds d e' := by
  obtain ⟨hareas, htouched, hd, hn⟩ := he
  refine ⟨fun q hq => Area.same_trans (hareas q hq) (hsame q fun h => hq (h ▸ hp)),
    onlyTouched_trans htouched (onlyTouched_of_regs hregs), ?_, ?_⟩
  · rwa [hdram]
  · rwa [hnva]

theorem Footprint.holds.inNow (he : F.holds d e) (h : (Reach.area .now).within F d) {v} : F.holds d { e with now := v } :=
  he.area h (fun q hq => by cases q <;> first | rfl | exact absurd rfl hq) rfl rfl rfl
theorem Footprint.holds.inLatch (he : F.holds d e) (h : (Reach.area .latch).within F d) {v} : F.holds d { e with latch := v } :=
  he.area h (fun q hq => by cases q <;> first | rfl | exact absurd rfl hq) rfl rfl rfl
theorem Footprint.holds.inRaised (he : F.holds d e) (h : (Reach.area .raised).within F d) {v} : F.holds d { e with raised := v } :=
  he.area h (fun q hq => by cases q <;> first | rfl | exact absurd rfl hq) rfl rfl rfl
theorem Footprint.holds.inOuts (he : F.holds d e) (h : (Reach.area .outs).within F d) {v} : F.holds d { e with outs := v } :=
  he.area h (fun q hq => by cases q <;> first | rfl | exact absurd rfl hq) rfl rfl rfl
theorem Footprint.holds.inDraw (he : F.holds d e) (h : (Reach.area .draw).within F d) {v} : F.holds d { e with draw := v } :=
  he.area h (fun q hq => by cases q <;> first | rfl | exact absurd rfl hq) rfl rfl rfl
theorem Footprint.holds.inImg (he : F.holds d e) (h : (Reach.area .img).within F d) {v} : F.holds d { e with img := v } :=
  he.area h (fun q hq => by cases q <;> first | rfl | exact absurd rfl hq) rfl rfl rfl
theorem Footprint.holds.inPos (he : F.holds d e) (h : (Reach.area .pos).within F d) {v} : F.holds d { e with pos := v } :=
  he.area h (fun q hq => by cases q <;> first | rfl | exact absurd rfl hq) rfl rfl rfl
theorem Footprint.holds.inCmp (he : F.holds d e) (h : (Reach.area .cmp).within F d) {v} : F.holds d { e with cmp := v } :=
  he.area h (fun q hq => by cases q <;> first | rfl | exact absurd rfl hq) rfl rfl rfl
theorem Footprint.holds.inCdc (he : F.holds d e) (h : (Reach.area .cdc).within F d) {v} : F.holds d { e with cdc := v } :=
  he.area h (fun q hq => by cases q <;> first | rfl | exact absurd rfl hq) rfl rfl rfl
theorem Footprint.holds.inTen (he : F.holds d e) (h : (Reach.area .ten).within F d) {v} : F.holds d { e with ten := v } :=
  he.area h (fun q hq => by cases q <;> first | rfl | exact absurd rfl hq) rfl rfl rfl
theorem Footprint.holds.inLnk (he : F.holds d e) (h : (Reach.area .lnk).within F d) {v} : F.holds d { e with lnk := v } :=
  he.area h (fun q hq => by cases q <;> first | rfl | exact absurd rfl hq) rfl rfl rfl
theorem Footprint.holds.inMgt (he : F.holds d e) (h : (Reach.area .mgt).within F d) {v} : F.holds d { e with mgt := v } :=
  he.area h (fun q hq => by cases q <;> first | rfl | exact absurd rfl hq) rfl rfl rfl
theorem Footprint.holds.inHst (he : F.holds d e) (h : (Reach.area .hst).within F d) {v} : F.holds d { e with hst := v } :=
  he.area h (fun q hq => by cases q <;> first | rfl | exact absurd rfl hq) rfl rfl rfl
theorem Footprint.holds.inSec (he : F.holds d e) (h : (Reach.area .sec).within F d) {v} : F.holds d { e with sec := v } :=
  he.area h (fun q hq => by cases q <;> first | rfl | exact absurd rfl hq) rfl rfl rfl
theorem Footprint.holds.inSyn (he : F.holds d e) (h : (Reach.area .syn).within F d) {v} : F.holds d { e with syn := v } :=
  he.area h (fun q hq => by cases q <;> first | rfl | exact absurd rfl hq) rfl rfl rfl
theorem Footprint.holds.inQl (he : F.holds d e) (h : (Reach.area .ql).within F d) {v} : F.holds d { e with ql := v } :=
  he.area h (fun q hq => by cases q <;> first | rfl | exact absurd rfl hq) rfl rfl rfl
theorem Footprint.holds.inPtn (he : F.holds d e) (h : (Reach.area .ptn).within F d) {v} : F.holds d { e with ptn := v } :=
  he.area h (fun q hq => by cases q <;> first | rfl | exact absurd rfl hq) rfl rfl rfl
theorem Footprint.holds.inPwr (he : F.holds d e) (h : (Reach.area .pwr).within F d) {v} : F.holds d { e with pwr := v } :=
  he.area h (fun q hq => by cases q <;> first | rfl | exact absurd rfl hq) rfl rfl rfl
theorem Footprint.holds.inIns (he : F.holds d e) (h : (Reach.area .ins).within F d) {v} : F.holds d { e with ins := v } :=
  he.area h (fun q hq => by cases q <;> first | rfl | exact absurd rfl hq) rfl rfl rfl
theorem Footprint.holds.inLne (he : F.holds d e) (h : (Reach.area .lne).within F d) {v} : F.holds d { e with lne := v } :=
  he.area h (fun q hq => by cases q <;> first | rfl | exact absurd rfl hq) rfl rfl rfl
theorem Footprint.holds.inDmc (he : F.holds d e) (h : (Reach.area .dmc).within F d) {v} : F.holds d { e with dmc := v } :=
  he.area h (fun q hq => by cases q <;> first | rfl | exact absurd rfl hq) rfl rfl rfl
theorem Footprint.holds.inCtl (he : F.holds d e) (h : (Reach.area .ctl).within F d) {v} : F.holds d { e with ctl := v } :=
  he.area h (fun q hq => by cases q <;> first | rfl | exact absurd rfl hq) rfl rfl rfl
theorem Footprint.holds.inSys (he : F.holds d e) (h : (Reach.area .sys).within F d) {v} : F.holds d { e with sys := v } :=
  he.area h (fun q hq => by cases q <;> first | rfl | exact absurd rfl hq) rfl rfl rfl

/-! ### Registers -/

theorem Footprint.holds.wr (he : F.holds d e) (h : (Reach.reg r i).within F d) (hk : Among i k) {v : BitVec 64} :
    F.holds d (e.wr r k v) := by
  obtain ⟨hareas, htouched, hd, hn⟩ := he
  exact ⟨onlyAreas_trans hareas (onlyAreas_wr _ _ _ _ _),
    onlyTouched_trans htouched (onlyTouched_wr e r k v fun b hb => h k hk b (Nat.zero_le b) (by omega) hb), hd, hn⟩

theorem Footprint.holds.put (he : F.holds d e) (h : (Reach.reg r i).within F d) (hk : Among i k) {v : Nat} :
    F.holds d (e.put r k v) := he.wr h hk

theorem Footprint.holds.putInt (he : F.holds d e) (h : (Reach.reg r i).within F d) (hk : Among i k) {v : Int} :
    F.holds d (e.putInt r k v) := he.wr h hk

theorem Footprint.holds.add32 (he : F.holds d e) (h : (Reach.reg r i).within F d) (hk : Among i k) {n : Nat} :
    F.holds d (e.add32 r k n) := he.wr h hk

theorem Footprint.holds.count (he : F.holds d e) (h : (Reach.reg r i).within F d) (hk : Among i k) :
    F.holds d (e.count r k) := he.wr h hk

theorem Footprint.holds.setFld {l w v : Nat} (he : F.holds d e) (h : (Reach.field r i l w).within F d) (hk : Among i k) :
    F.holds d (e.setFld r k l w v) := by
  obtain ⟨hareas, htouched, hd, hn⟩ := he
  exact ⟨onlyAreas_trans hareas (onlyAreas_wr _ _ _ _ _),
    onlyTouched_trans htouched (onlyTouched_setFld e r k l w v fun b hl hw hb => h k hk b hl hw hb), hd, hn⟩

theorem Footprint.holds.setBit {l : Nat} {b : Bool} (he : F.holds d e) (h : (Reach.field r i l 1).within F d) (hk : Among i k) :
    F.holds d (e.setBit r k l b) := he.setFld h hk

/-- A field inside another one is within what the other is. -/
theorem Reach.within.sub {l w l' w' : Nat} (h : (Reach.field r i l w).within F d) (hl : l ≤ l') (hw : l' + w' ≤ l + w) :
    (Reach.field r i l' w').within F d :=
  fun k hk b hb hb' => h k hk b (by omega) (by omega)

/-- A field is within what the register is. -/
theorem Reach.within.field {l w : Nat} (h : (Reach.reg r i).within F d) : (Reach.field r i l w).within F d :=
  fun k hk b _ _ h64 => h k hk b (Nat.zero_le b) (by omega) h64

/-! ### A reach within a footprint, by computation

Areas, registers and masks are compared by evaluation. Cells are not: they may be arguments of a command, so each cell
that a footprint names for a register of the reach is left as an equation. The mask of a touch is taken apart by matching, so
that only closed numbers are computed with. -/

/-- The bits of a field. -/
def fieldMask (l w : Nat) : Nat := (2 ^ w - 1) <<< l % 2 ^ 64

/-- The touches of a register, in all cells or (where `named`) in those that are named as well, cover the bits of m beside
those of acc. -/
def covered (m : Nat) (r : Reg) (named : Bool) : List Touch → Nat → Bool
  | [], acc => m &&& acc == m
  | ⟨q, j, ⟨⟨n, _⟩⟩⟩ :: ts, acc =>
    if q == r && (named || j.isNone) then covered m r named ts (acc ||| n) else covered m r named ts acc

/-- The cells that touches name for a register, each with k, before those of acc. -/
def namedPairs (r : Reg) (k : Nat) : List Touch → List (Nat × Nat) → List (Nat × Nat)
  | [], acc => acc
  | ⟨q, j, _⟩ :: ts, acc =>
    bif q == r then
      match j with
      | some j => (j, k) :: namedPairs r k ts acc
      | none => namedPairs r k ts acc
    else namedPairs r k ts acc

/-- The areas and masks of a reach lie within a footprint (an entry of the loop log only where `logged`); cells are left
open. -/
def Reach.fits (F : Footprint) (logged : Bool) : Reach → Bool
  | .nothing => true
  | .area p => F.areas.contains p
  | .field r i l w => covered (fieldMask l w) r i.isSome F.touches 0
  | .log => logged && F.touches.all fun t => t.reg != .qlLogBase
  | .page _ => synPage.all fun r => covered (fieldMask 0 64) r false F.touches 0
  | .both a b => a.fits F logged && b.fits F logged

/-- The cells of a footprint and of a reach that have to be the same, before those of acc. -/
def Reach.equations (F : Footprint) : Reach → List (Nat × Nat) → List (Nat × Nat)
  | .field r (some k) _ _, acc => namedPairs r k F.touches acc
  | .both a b, acc => a.equations F (b.equations F acc)
  | _, acc => acc

/-- The pairs of a list are pairs of equals, as one equation of two lists. -/
def Paired : List (Nat × Nat) → List Nat → List Nat → Prop
  | [], l, r => l = r
  | p :: ps, l, r => Paired ps (p.1 :: l) (p.2 :: r)

/-- A reach fits a footprint, and the cells are the same: a statement that evaluates to an equation. -/
def Reach.Fits (F : Footprint) (logged : Bool) (x : Reach) : Prop :=
  match x.fits F logged with
  | true => Paired (x.equations F []) [] []
  | false => False

theorem testBit_fieldMask {l w b : Nat} (hl : l ≤ b) (hw : b < l + w) (hb : b < 64) : (fieldMask l w).testBit b = true := by
  have : b - l < w := by omega
  rw [fieldMask, Nat.testBit_mod_two_pow, Nat.testBit_shiftLeft, Nat.testBit_two_pow_sub_one]
  simp [hl, hb, this]

/-- A bit of a covered mask is one of acc or of a touch. -/
theorem exists_of_covered {m : Nat} {named : Bool} {ts : List Touch} {acc b : Nat} (h : covered m r named ts acc = true)
    (hb : m.testBit b = true) :
    acc.testBit b = true ∨ ∃ t ∈ ts, t.reg = r ∧ (named = true ∨ t.inst = none) ∧ t.mask.getLsbD b = true := by
  induction ts generalizing acc with
  | nil =>
    rw [← beq_iff_eq.mp h, Nat.testBit_and, Bool.and_eq_true] at hb
    exact .inl hb.2
  | cons t ts ih =>
    obtain ⟨q, j, ⟨⟨n, hn⟩⟩⟩ := t
    rw [covered] at h
    split at h
    next hc =>
      simp only [Bool.and_eq_true, beq_iff_eq, Bool.or_eq_true, Option.isNone_iff_eq_none] at hc
      obtain hacc | ⟨t, ht, hrest⟩ := ih h
      · rw [Nat.testBit_or, Bool.or_eq_true] at hacc
        exact hacc.imp_right fun hbit => ⟨_, List.mem_cons_self, hc.1, hc.2, hbit⟩
      · exact .inr ⟨t, List.mem_cons_of_mem _ ht, hrest⟩
    next => exact (ih h).imp_right fun ⟨t, ht, hrest⟩ => ⟨t, List.mem_cons_of_mem _ ht, hrest⟩

theorem mem_namedPairs_of_mem {ts : List Touch} {acc : List (Nat × Nat)} {p : Nat × Nat} (hp : p ∈ acc) :
    p ∈ namedPairs r k ts acc := by
  induction ts with
  | nil => exact hp
  | cons t ts ih =>
    obtain ⟨q, j, m⟩ := t
    rw [namedPairs.eq_def]
    dsimp only
    rw [cond_eq_ite]
    split
    · cases j with
      | some j => exact List.mem_cons_of_mem _ ih
      | none => exact ih
    · exact ih

/-- Each cell that a touch names is paired. -/
theorem mem_namedPairs {ts : List Touch} {acc : List (Nat × Nat)} {t : Touch} {j : Nat} (ht : t ∈ ts) (hr : t.reg = r)
    (hj : t.inst = some j) : (j, k) ∈ namedPairs r k ts acc := by
  induction ts with
  | nil => exact absurd ht List.not_mem_nil
  | cons u ts ih =>
    obtain ⟨q, n, m⟩ := u
    obtain rfl | htail := List.mem_cons.mp ht
    · obtain rfl : q = r := hr
      obtain rfl : n = some j := hj
      simp [namedPairs]
    · rw [namedPairs.eq_def]
      dsimp only
      rw [cond_eq_ite]
      split
      · cases n with
        | some n => exact List.mem_cons_of_mem _ (ih htail)
        | none => exact ih htail
      · exact ih htail

theorem Reach.mem_equations_of_mem {x : Reach} {acc : List (Nat × Nat)} {p : Nat × Nat} (hp : p ∈ acc) :
    p ∈ x.equations F acc := by
  induction x generalizing acc with
  | field r i l w =>
    cases i with
    | none => exact hp
    | some j => exact mem_namedPairs_of_mem hp
  | both a b iha ihb => exact iha (ihb hp)
  | _ => exact hp

theorem Paired.eq {xs : List (Nat × Nat)} {l r : List Nat} (h : Paired xs l r) : l = r ∧ ∀ p ∈ xs, p.1 = p.2 := by
  induction xs generalizing l r with
  | nil => exact ⟨h, by simp⟩
  | cons x xs ih =>
    obtain ⟨hcons, hxs⟩ := ih h
    obtain ⟨hx, hlr⟩ := List.cons.inj hcons
    exact ⟨hlr, List.forall_mem_cons.mpr ⟨hx, hxs⟩⟩

/-- A bit of a covered mask is covered in every cell that the touches of the register name, if they name any. -/
theorem any_covers_of_covered {m : Nat} {named : Bool} {ts : List Touch} {b : Nat} (h : covered m r named ts 0 = true)
    (hb : m.testBit b = true) (hk : named = true → ∀ t ∈ ts, t.reg = r → ∀ j, t.inst = some j → j = k) :
    ts.any (fun t => t.covers r k b) = true := by
  obtain ⟨t, ht, hr, hi, hm⟩ := (exists_of_covered h hb).resolve_left (by simp)
  refine List.any_eq_true.mpr ⟨t, ht, ?_⟩
  cases hj : t.inst with
  | none => simp [Touch.covers, hr, hm, hj]
  | some j =>
    have hjk := hk (hi.resolve_right (by simp [hj])) t ht hr j hj
    simp [Touch.covers, hr, hm, hj, hjk]

/-- What fits, with its cells as the footprint names them, is within the footprint. -/
theorem Reach.within_of_equations {x : Reach} {logged : Bool} {acc : List (Nat × Nat)} (hf : x.fits F logged = true)
    (he : ∀ p ∈ x.equations F acc, p.1 = p.2) (hl : logged = true → d.logRange ∈ F.dram) : x.within F d := by
  induction x generalizing acc with
  | nothing => trivial
  | area p => exact List.contains_iff_mem.mp hf
  | field r i l w =>
    intro k hk b hb hw h64
    refine any_covers_of_covered hf (testBit_fieldMask hb hw h64) fun hi t ht hr j hj => ?_
    obtain ⟨n, rfl⟩ := Option.isSome_iff_exists.mp hi
    obtain rfl := hk n rfl
    exact he (j, n) (mem_namedPairs ht hr hj)
  | log =>
    simp only [Reach.fits, Bool.and_eq_true] at hf
    refine ⟨hl hf.1, fun b => List.all_eq_true.mpr fun t ht => ?_⟩
    have := List.all_eq_true.mp hf.2 t ht
    simp [Touch.covers, bne_iff_ne.mp this]
  | page i =>
    simp only [Reach.fits, List.all_eq_true] at hf
    intro n _ k r j high hpage b hb
    exact any_covers_of_covered (hf r (synPage_of_pageReg hpage).1) (testBit_fieldMask (Nat.zero_le b) (by omega) hb)
      fun h => absurd h (by simp)
  | both a b iha ihb =>
    simp only [Reach.fits, Bool.and_eq_true] at hf
    have heb : ∀ p ∈ b.equations F acc, p.1 = p.2 := fun p hp => he p (Reach.mem_equations_of_mem (x := a) hp)
    exact ⟨iha hf.1 he, ihb hf.2 heb⟩

theorem Reach.Fits.within {x : Reach} {logged : Bool} (h : x.Fits F logged) (hl : logged = true → d.logRange ∈ F.dram) :
    x.within F d := by
  unfold Reach.Fits at h
  split at h
  next hf => exact Reach.within_of_equations hf h.eq.2 hl
  next => exact h.elim

/-- A reach that logs nothing lies within a footprint where evaluation says that it fits. -/
theorem Reach.within.of_fits {x : Reach} (h : x.Fits F false) : x.within F d := h.within (fun hl => nomatch hl)

/-- The same where the loop log is all of DRAM that the footprint names. -/
theorem Reach.within.of_fits_log {x : Reach} (h : x.Fits F true) (hd : F.dram = [d.logRange]) : x.within F d :=
  h.within fun _ => by simp [hd]

end

end Sys2Proof.Machine
end

section
open Sys2Proof
namespace Sys2Proof.Machine

/-! ### Codes, outputs, and interrupt sources -/

section

variable {F : Footprint} {d e : Dev} {i : Option Nat} {r : Reg} {k : Nat}

/-- A value that is used more than once. -/
theorem holds_let {x y : Dev} (hx : F.holds d x) (hy : F.holds d x → F.holds d y) : F.holds d y := hy hx

/-- A row's meaning makes of a controller what its run does. -/
theorem holds_viaRow {f : Dev → Dev} {o : State → Host.Outcome State Fault Refusal} (ho : ∀ s, o s = s.run f)
    (h : F.holds d (f e)) : F.holds d (e.viaRow o) := by
  rw [Dev.viaRow, ho]
  exact h

theorem Footprint.holds.raise (he : F.holds d e) (h : (Reach.area .raised).within F d) {c : ECode} {p : Nat} :
    F.holds d (e.raise c p) := he.inRaised h

theorem Footprint.holds.send (he : F.holds d e) (h : (Reach.area .outs).within F d) {o : Out} : F.holds d (e.send o) := he.inOuts h

theorem Footprint.holds.drawn (he : F.holds d e) (h : (Reach.area .draw).within F d) : F.holds d e.drawn := he.inDraw h

theorem Footprint.holds.at (he : F.holds d e) (h : (Reach.area .now).within F d) {t : Nat} : F.holds d (e.at t) := he.inNow h

def refuseReach (i : Option Nat) : Reach := .of [.reg .glbLastErr i, .area .raised]

theorem Footprint.holds.refuse {q : Nat} {c : ECode} (he : F.holds d e) (h : (refuseReach i).within F d) (hi : Among i q) :
    F.holds d (e.refuse q c) :=
  have ⟨hGlbLastErr, hraised, _⟩ := h
  (he.put hGlbLastErr hi).raise hraised

/-- A vector and the message that it sends to the host. -/
def vectorReach : Reach := .of [.area .hst, .area .outs]

theorem Footprint.holds.setVec {fn v x} (he : F.holds d e) (h : vectorReach.within F d) : F.holds d (e.setVec fn v x) :=
  have ⟨hhst, _⟩ := h
  he.inHst hhst

theorem Footprint.holds.sendVec {fn v} (he : F.holds d e) (h : vectorReach.within F d) : F.holds d (e.sendVec fn v) :=
  have ⟨_, houts, _⟩ := h
  (he.setVec h).send houts

theorem Footprint.holds.vecDue {fn v} (he : F.holds d e) (h : vectorReach.within F d) : F.holds d (e.vecDue fn v) :=
  have ⟨hhst, houts, _⟩ := h
  holds_ite (he.setVec h)
    (holds_ite (holds_ite (((he.setVec h).send houts).inHst hhst) (he.setVec h))
      (holds_ite (holds_ite he (he.inHst hhst)) (he.sendVec h)))

theorem Footprint.holds.vecEvent {fn v} (he : F.holds d e) (h : vectorReach.within F d) : F.holds d (e.vecEvent fn v) :=
  holds_ite ((he.setVec h).vecDue h) (he.setVec h)

/-- The way of a pending source to a core (moderation) or to the host (a vector). -/
def notifyReach : Reach := .of [.area .mgt, vectorReach]

theorem Footprint.holds.moderate {c f} (he : F.holds d e) (h : (Reach.area .mgt).within F d) : F.holds d (e.moderate c f) :=
  he.inMgt h

theorem Footprint.holds.irqNotify {src} (he : F.holds d e) (h : notifyReach.within F d) : F.holds d (e.irqNotify src) :=
  have ⟨hmgt, hvector, _⟩ := h
  holds_ite he (holds_ite (he.moderate hmgt) (holds_ite (he.vecEvent hvector) he))

/-- A source's pending bit and what follows. -/
def pendReach : Reach := .of [.reg .irqPendSet none, notifyReach]

theorem Footprint.holds.irqPend {src b} (he : F.holds d e) (h : pendReach.within F d) : F.holds d (e.irqPend src b) :=
  have ⟨hIrqPendSet, hnotify, _⟩ := h
  have hd1 := he.setBit hIrqPendSet.field .any
  holds_ite (hd1.irqNotify hnotify) hd1

/-- A source's level and what follows. -/
def interruptReach : Reach := .of [.reg .irqLevel none, pendReach]

theorem Footprint.holds.irqLevel {src b} (he : F.holds d e) (h : interruptReach.within F d) : F.holds d (e.irqLevel src b) :=
  have ⟨hIrqLevel, hpend, _⟩ := h
  have hd1 := he.setBit hIrqLevel.field .any
  holds_ite (hd1.irqPend hpend) (holds_ite (hd1.irqPend hpend) hd1)

theorem Footprint.holds.irqPulse {src} (he : F.holds d e) (h : interruptReach.within F d) : F.holds d (e.irqPulse src) :=
  (he.irqLevel h).irqLevel h

theorem Footprint.holds.refreshEvent (he : F.holds d e) (h : interruptReach.within F d) : F.holds d (e.refreshEvent r k) := by
  unfold Dev.refreshEvent
  split
  · exact he
  · exact he.irqLevel h

/-- An event bit and the interrupt source of its register. -/
def eventReach (r : Reg) (i : Option Nat) (b : Nat) : Reach := .of [.field r i b 1, interruptReach]

theorem Footprint.holds.event {b : Nat} (he : F.holds d e) (h : (eventReach r i b).within F d) (hi : Among i k) :
    F.holds d (e.event r k b) :=
  have ⟨hbit, hinterrupt, _⟩ := h
  (he.setBit hbit hi).refreshEvent hinterrupt

/-! ### The loop log -/

/-- Bytes of DRAM written within a range of a footprint. -/
theorem Footprint.holds.dramWrite {a : Nat} {bs : List Byte} {p : Nat × Nat} (he : F.holds d e) (hp : p ∈ F.dram)
    (ha : p.1 ≤ a ∧ a + bs.length ≤ p.1 + p.2) : F.holds d (e.dramWrite a bs) := by
  obtain ⟨hareas, htouched, hd, hn⟩ := he
  refine ⟨onlyAreas_trans hareas ?_, htouched, onlyStored_trans hd (onlyStored_writeBytes _ _ _ hp ha), hn⟩
  intro q _
  cases q <;> rfl

/-- Where a footprint lets the loop log be written, its base stays. -/
theorem Footprint.holds.qlLogBase_eq (he : F.holds d e) (h : Reach.log.within F d) : e.get .qlLogBase 0 = d.get .qlLogBase 0 := by
  obtain ⟨-, htouched, -, -⟩ := he
  exact congrArg BitVec.toNat (BitVec.eq_of_getLsbD_eq fun b _ => htouched .qlLogBase 0 b (h.2 b))

theorem length_leBytes (v n : Nat) : (leBytes v n).length = n := by
  induction n generalizing v with
  | zero => rfl
  | succ n ih => simp [leBytes, ih]

def qlLogReach : Reach := .of [.reg .qlLogDrop (some 0), eventReach .qlEvent (some 0) 3, .area .ql, .area .raised, .log,
  .reg .qlLogHead (some 0)]

theorem Footprint.holds.qlLog {kind port fluid nozzle frame fire} (he : F.holds d e) (h : qlLogReach.within F d) :
    F.holds d (e.qlLog kind port fluid nozzle frame fire) :=
  have ⟨hQlLogDrop, hQlEvent3, hql, hraised, hlog, hQlLogHead, _⟩ := h
  have hd1 := (he.count hQlLogDrop .self).event hQlEvent3 .self
  have hslot : bits (e.get .qlLogHead 0) 0 16 < 65536 := bits_lt _ 0 16
  holds_ite (holds_ite ((hd1.inQl hql).raise hraised) hd1)
    ((he.dramWrite hlog.1 (by
      simp only [Dev.logRange, he.qlLogBase_eq hlog, List.length_append, length_leBytes]
      omega)).put hQlLogHead .self)

/-! ### Pages -/

def setPageReach (i : Option Nat) : Reach := .of [.page i]

theorem Footprint.holds.setPage {n k v} (he : F.holds d e) (h : (setPageReach i).within F d) (hi : Among i n) :
    F.holds d (e.setPage n k v) := by
  obtain ⟨hpage, -⟩ := h
  unfold Dev.setPage
  split
  · exact he
  next r j high hr => exact he.wr (i := some j) (fun q hq b _ _ hb => hq j rfl ▸ hpage n hi k r j high hr b hb) .self

def clearPageReach (i : Option Nat) : Reach := .of (pageRegs.map fun r => .reg r i)

/-- A list of reaches is within a footprint if each of them is. -/
theorem Reach.within.of_mem {xs : List Reach} {x : Reach} (h : (Reach.of xs).within F d) (hx : x ∈ xs) : x.within F d := by
  induction xs with
  | nil => exact absurd hx List.not_mem_nil
  | cons y ys ih =>
    obtain ⟨hy, hys⟩ := h
    obtain rfl | hx := List.mem_cons.mp hx
    · exact hy
    · exact ih hys hx

theorem Footprint.holds.foldl_mem {α : Type} {f : Dev → α → Dev} {xs : List α} (he : F.holds d e)
    (hf : ∀ e, ∀ x ∈ xs, F.holds d e → F.holds d (f e x)) : F.holds d (xs.foldl f e) := by
  induction xs generalizing e with
  | nil => exact he
  | cons x xs ih => exact ih (hf e x List.mem_cons_self he) fun e y hy => hf e y (List.mem_cons_of_mem _ hy)

theorem Footprint.holds.clearPage {s} (he : F.holds d e) (h : (clearPageReach i).within F d) (hi : Among i s) :
    F.holds d (e.clearPage s) :=
  he.foldl_mem fun _ _ hr ho => ho.put (h.of_mem (List.mem_map.mpr ⟨_, hr, rfl⟩)) hi

end

end Sys2Proof.Machine
end

section
open Sys2Proof
namespace Sys2Proof.Machine
section
variable {F : Footprint} {d e : Dev} {i j l m : Option Nat}

/-! ### Operations of the commands that change registers only

Each operation has its reach, and a rule: from within a footprint that its reach lies within, it leaves the controller within that
footprint. The rule of an operation is put together from those of the operations it runs. -/

def execLoopSpWriteReach (i : Option Nat) : Reach := .of [.reg .ctlLoopSp i]

theorem Footprint.holds.execLoopSpWrite {loop : Fin 256} {value} (he : F.holds d e) (h : (execLoopSpWriteReach i).within F d)
    (hi : Among i loop.val) :
    F.holds d (e.viaRow (execLoopSpWrite loop value)) :=
  have ⟨hCtlLoopSp, _⟩ := h
  holds_viaRow (fun _ => rfl) (he.put hCtlLoopSp hi)

def badAccessReach : Reach := .of [.reg .glbBadAccess (some 0)]

theorem Footprint.holds.badAccess (he : F.holds d e) (h : badAccessReach.within F d) :
    F.holds d (Dev.badAccess e) :=
  have ⟨hGlbBadAccess, _⟩ := h
  he.count hGlbBadAccess .self

def execBadAccessReach : Reach := .of [badAccessReach, .area .outs]

theorem Footprint.holds.execBadAccess {requester read addr} (he : F.holds d e) (h : execBadAccessReach.within F d) :
    F.holds d (e.viaRow (execBadAccess requester read addr)) :=
  have ⟨hbadAccess, houts, _⟩ := h
  holds_viaRow (fun _ => rfl) <|
    have hd1 := he.badAccess hbadAccess
    holds_ite (hd1.send houts) hd1

def setImgStateReach : Reach := .of [.field .imgStatus (some 0) 0 3]

theorem Footprint.holds.setImgState {v} (he : F.holds d e) (h : setImgStateReach.within F d) :
    F.holds d (Dev.setImgState e v) :=
  have ⟨hImgStatus0, _⟩ := h
  he.setFld hImgStatus0 .self

def execArmHotReach (i : Option Nat) : Reach := .of [refuseReach i, setImgStateReach]

theorem Footprint.holds.execArmHot {req : Fin 5} (he : F.holds d e) (h : (execArmHotReach i).within F d) (hi : Among i req.val) :
    F.holds d (e.viaRow (execArmHot req)) :=
  have ⟨hrefuse, hsetImgState, _⟩ := h
  holds_viaRow (fun _ => rfl) <|
    holds_ite
      (he.refuse hrefuse hi)
      (holds_ite (he.refuse hrefuse hi) (holds_ite (he.refuse hrefuse hi) (he.setImgState hsetImgState)))

def execDisarmReach (i : Option Nat) : Reach := .of [setImgStateReach, refuseReach i]

theorem Footprint.holds.execDisarm {req : Fin 5} (he : F.holds d e) (h : (execDisarmReach i).within F d) (hi : Among i req.val) :
    F.holds d (e.viaRow (execDisarm req)) :=
  have ⟨hsetImgState, hrefuse, _⟩ := h
  holds_viaRow (fun _ => rfl) (holds_ite (he.setImgState hsetImgState) (holds_ite (he.refuse hrefuse hi) he))

def execStopActivationDoneReach : Reach := .of [setImgStateReach, .field .imgStatus (some 0) 3 1]

theorem Footprint.holds.execStopActivationDone (he : F.holds d e) (h : execStopActivationDoneReach.within F d) :
    F.holds d (e.viaRow execStopActivationDone) :=
  have ⟨hsetImgState, hImgStatus3, _⟩ := h
  holds_viaRow (fun _ => rfl) (holds_ite ((he.setImgState hsetImgState).setBit hImgStatus3 .self) he)

def execTableReadyWriteReach (i j : Option Nat) : Reach := .of [refuseReach i, .field .synCtrl j 0 1]

theorem Footprint.holds.execTableReadyWrite {req : Fin 5} {port : Fin 192} {ready} (he : F.holds d e)
    (h : (execTableReadyWriteReach i j).within F d) (hi : Among i req.val) (hj : Among j port.val) :
    F.holds d (e.viaRow (execTableReadyWrite req port ready)) :=
  have ⟨hrefuse, hSynCtrl0, _⟩ := h
  holds_viaRow (fun _ => rfl) (holds_ite (he.refuse hrefuse hi) (he.setBit hSynCtrl0 hj))

def execCueQueryReach : Reach := .of [.reg .cueQuery (some 0), .reg .cueQueryResult (some 0)]

theorem Footprint.holds.execCueQuery {cls index} (he : F.holds d e) (h : execCueQueryReach.within F d) :
    F.holds d (e.viaRow (execCueQuery cls index)) :=
  have ⟨hCueQuery, hCueQueryResult, _⟩ := h
  holds_viaRow (fun _ => rfl) ((he.put hCueQuery .self).put hCueQueryResult .self)

def setCreditsReach (i : Option Nat) : Reach := .of [.field .linkStatus i 8 8]

theorem Footprint.holds.setCredits {n : Nat} {v} (he : F.holds d e) (h : (setCreditsReach i).within F d) (hi : Among i n) :
    F.holds d (Dev.setCredits e n v) :=
  have ⟨hLinkStatus8, _⟩ := h
  he.setFld hLinkStatus8 hi

def execCreditReach (i : Option Nat) : Reach := .of [setCreditsReach i]

theorem Footprint.holds.execCredit {port : Fin 192} {lastSeq count} (he : F.holds d e) (h : (execCreditReach i).within F d)
    (hi : Among i port.val) :
    F.holds d (e.viaRow (execCredit port lastSeq count)) :=
  have ⟨hsetCredits, _⟩ := h
  holds_viaRow (fun _ => rfl) (he.setCredits hsetCredits hi)

def judgeHeadersReach : Reach := .of [.reg .lneBlockErr none, .reg .hptBlockErr none]

theorem Footprint.holds.judgeHeaders {hs} (he : F.holds d e) (h : judgeHeadersReach.within F d) :
    F.holds d (Dev.judgeHeaders e hs) :=
  have ⟨hLneBlockErr, hHptBlockErr, _⟩ := h
  he.foldl (fun _ _ ho => by
    dsimp only
    split
    · exact holds_ite ((holds_ite ho (ho.count hLneBlockErr .any)).count hHptBlockErr .any)
        (holds_ite ho (ho.count hLneBlockErr .any))
    · exact (holds_ite ho (ho.count hLneBlockErr .any)))

def execMsgCrcFailReach : Reach := .of [judgeHeadersReach]

theorem Footprint.holds.execMsgCrcFail {words headers} (he : F.holds d e) (h : execMsgCrcFailReach.within F d) :
    F.holds d (e.viaRow (execMsgCrcFail words headers)) :=
  have ⟨hjudgeHeaders, _⟩ := h
  holds_viaRow (fun _ => rfl) (holds_ite (he.judgeHeaders hjudgeHeaders) he)

def execPmeRepeatReach : Reach := .of [.area .outs]

theorem Footprint.holds.execPmeRepeat {fn} (he : F.holds d e) (h : execPmeRepeatReach.within F d) :
    F.holds d (e.viaRow (execPmeRepeat fn)) :=
  have ⟨houts, _⟩ := h
  holds_viaRow (fun _ => rfl) (holds_ite (he.send houts) he)

def execTsuIncWriteReach (i : Option Nat) : Reach := .of [.reg .tsuInc (some 0), refuseReach i]

theorem Footprint.holds.execTsuIncWrite {req : Fin 5} {part value} (he : F.holds d e) (h : (execTsuIncWriteReach i).within F d)
    (hi : Among i req.val) :
    F.holds d (e.viaRow (execTsuIncWrite req part value)) :=
  have ⟨hTsuInc, hrefuse, _⟩ := h
  holds_viaRow (fun _ => rfl) <|
    have hd1 := he.put hTsuInc .self
    holds_ite hd1 (hd1.refuse hrefuse hi)

def execDroneEnWriteReach : Reach := .of [.field .pwrCtrl (some 0) 0 1]

theorem Footprint.holds.execDroneEnWrite {on} (he : F.holds d e) (h : execDroneEnWriteReach.within F d) :
    F.holds d (e.viaRow (execDroneEnWrite on)) :=
  have ⟨hPwrCtrl0, _⟩ := h
  holds_viaRow (fun _ => rfl) (he.setBit hPwrCtrl0 .self)

def execPfGlitchReach : Reach := .of [.reg .pwrPfGlitch (some 0)]

theorem Footprint.holds.execPfGlitch (he : F.holds d e) (h : execPfGlitchReach.within F d) :
    F.holds d (e.viaRow execPfGlitch) :=
  have ⟨hPwrPfGlitch, _⟩ := h
  holds_viaRow (fun _ => rfl) (he.count hPwrPfGlitch .self)

def execIrqMaskSetReach : Reach := .of [.reg .irqMaskSet none]

theorem Footprint.holds.execIrqMaskSet {word value} (he : F.holds d e) (h : execIrqMaskSetReach.within F d) :
    F.holds d (e.viaRow (execIrqMaskSet word value)) :=
  have ⟨hIrqMaskSet, _⟩ := h
  holds_viaRow (fun _ => rfl) (he.each fun _ _ ho => ho.setBit hIrqMaskSet.field .any)

def noteAwakeReach : Reach := .of [.field .linkStatus none 22 1]

theorem Footprint.holds.noteAwake {l' b} (he : F.holds d e) (h : noteAwakeReach.within F d) :
    F.holds d (Dev.noteAwake e l' b) :=
  have ⟨hLinkStatus22, _⟩ := h
  by
    unfold Dev.noteAwake
    split
    · exact holds_ite (he.setBit hLinkStatus22 .any) he
    · exact he

def execSleepBlockReach (i : Option Nat) : Reach := .of [.field .lneStatus i 26 1, noteAwakeReach]

theorem Footprint.holds.execSleepBlock {lane : Fin 1024} (he : F.holds d e) (h : (execSleepBlockReach i).within F d)
    (hi : Among i lane.val) :
    F.holds d (e.viaRow (execSleepBlock lane)) :=
  have ⟨hLneStatus26, hnoteAwake, _⟩ := h
  holds_viaRow (fun _ => rfl) (holds_ite ((he.setBit hLneStatus26 hi).noteAwake hnoteAwake) he)

def execLaneWakeReach (i : Option Nat) : Reach := .of [.field .lneStatus i 26 1, .reg .lneWakes i, noteAwakeReach]

theorem Footprint.holds.execLaneWake {lane : Fin 1024} (he : F.holds d e) (h : (execLaneWakeReach i).within F d)
    (hi : Among i lane.val) :
    F.holds d (e.viaRow (execLaneWake lane)) :=
  have ⟨hLneStatus26, hLneWakes, hnoteAwake, _⟩ := h
  holds_viaRow (fun _ => rfl) (holds_ite (((he.setBit hLneStatus26 hi).count hLneWakes hi).noteAwake hnoteAwake) he)

def setRefReach : Reach := .of [.field .cluStatus none 30 1, .field .lneStatus none 24 1]

theorem Footprint.holds.setRef {c refB} (he : F.holds d e) (h : setRefReach.within F d) :
    F.holds d (Dev.setRef e c refB) :=
  have ⟨hCluStatus30, hLneStatus24, _⟩ := h
  (he.setBit hCluStatus30 .any).each (fun _ _ ho => ho.setBit hLneStatus24 .any)

def execRefReturnReach : Reach := .of [setRefReach]

theorem Footprint.holds.execRefReturn (he : F.holds d e) (h : execRefReturnReach.within F d) :
    F.holds d (e.viaRow execRefReturn) :=
  have ⟨hsetRef, _⟩ := h
  holds_viaRow (fun _ => rfl) (holds_ite he (he.each (fun _ _ ho => ho.setRef hsetRef)))

def unmarkReach (i : Option Nat) : Reach := .of [.field .lneStatus i 25 1, .reg .lneGlbDown (some 0)]

theorem Footprint.holds.unmark {l' : Nat} (he : F.holds d e) (h : (unmarkReach i).within F d) (hi : Among i l') :
    F.holds d (Dev.unmark e l') :=
  have ⟨hLneStatus25, hLneGlbDown, _⟩ := h
  holds_ite ((he.setBit hLneStatus25 hi).put hLneGlbDown .self) he

def execLaneReviveReach (i : Option Nat) : Reach := .of [unmarkReach i]

theorem Footprint.holds.execLaneRevive {lane : Fin 1024} (he : F.holds d e) (h : (execLaneReviveReach i).within F d)
    (hi : Among i lane.val) :
    F.holds d (e.viaRow (execLaneRevive lane)) :=
  have ⟨hunmark, _⟩ := h
  holds_viaRow (fun _ => rfl) (he.unmark hunmark hi)

def execDmcPrioWriteReach (i : Option Nat) : Reach := .of [.reg .dmcPrio i]

theorem Footprint.holds.execDmcPrioWrite {requester : Fin 9} {prio} (he : F.holds d e) (h : (execDmcPrioWriteReach i).within F d)
    (hi : Among i requester.val) :
    F.holds d (e.viaRow (execDmcPrioWrite requester prio)) :=
  have ⟨hDmcPrio, _⟩ := h
  holds_viaRow (fun _ => rfl) (holds_ite he (he.put hDmcPrio hi))

def toStageReach : Reach := .of [.reg .glbBootStage (some 0)]

theorem Footprint.holds.toStage {k'} (he : F.holds d e) (h : toStageReach.within F d) :
    F.holds d (Dev.toStage e k') :=
  have ⟨hGlbBootStage, _⟩ := h
  he.put hGlbBootStage .self

def clockLockedReach : Reach := .of [.field .lneGlbStatus (some 0) 1 1, .field .cluStatus none 31 1, toStageReach]

theorem Footprint.holds.clockLocked (he : F.holds d e) (h : clockLockedReach.within F d) :
    F.holds d (Dev.clockLocked e) :=
  have ⟨hLneGlbStatus1, hCluStatus31, htoStage, _⟩ := h
  ((he.setBit hLneGlbStatus1 .self).each (fun _ _ ho1 => ho1.setBit hCluStatus31 .any)).toStage htoStage

def execClockRetryReach : Reach := .of [clockLockedReach]

theorem Footprint.holds.execClockRetry {locked} (he : F.holds d e) (h : execClockRetryReach.within F d) :
    F.holds d (e.viaRow (execClockRetry locked)) :=
  have ⟨hclockLocked, _⟩ := h
  holds_viaRow (fun _ => rfl) (holds_ite (he.clockLocked hclockLocked) he)

def secActionReach (i : Option Nat) : Reach := .of [refuseReach i]

theorem Footprint.holds.secAction {req : Nat} {f} (he : F.holds d e) (h : (secActionReach i).within F d) (hi : Among i req)
    (hf : ∀ e, F.holds d e → F.holds d (f e)) :
    F.holds d (Dev.secAction e req f) :=
  have ⟨hrefuse, _⟩ := h
  holds_ite (he.refuse hrefuse hi) ((hf _ he))

def secLastReach : Reach := .of [.reg .secLast (some 0)]

theorem Footprint.holds.secLast {e'} (he : F.holds d e) (h : secLastReach.within F d) :
    F.holds d (Dev.secLast e e') :=
  have ⟨hSecLast, _⟩ := h
  he.put hSecLast .self

def execKeyLockReach (i : Option Nat) : Reach := .of [.field .secStatus (some 0) 28 1, secLastReach, secActionReach i]

theorem Footprint.holds.execKeyLock {req : Fin 5} (he : F.holds d e) (h : (execKeyLockReach i).within F d)
    (hi : Among i req.val) :
    F.holds d (e.viaRow (execKeyLock req)) :=
  have ⟨hSecStatus28, hsecLast, hsecAction, _⟩ := h
  holds_viaRow (fun _ => rfl) (he.secAction hsecAction hi (fun _ ho => (ho.setBit hSecStatus28 .self).secLast hsecLast))

def execDebugRequestReach : Reach := .of [.area .outs, refuseReach (some 4)]

theorem Footprint.holds.execDebugRequest {kind} (he : F.holds d e) (h : execDebugRequestReach.within F d) :
    F.holds d (e.viaRow (execDebugRequest kind)) :=
  have ⟨houts, hrefuse, _⟩ := h
  holds_viaRow (fun _ => rfl) (holds_ite (he.send houts) ((he.send houts).refuse hrefuse .self))

def execAspmL1EntryReach : Reach := .of [.field .pcieStatus (some 0) 16 1]

theorem Footprint.holds.execAspmL1Entry (he : F.holds d e) (h : execAspmL1EntryReach.within F d) :
    F.holds d (e.viaRow execAspmL1Entry) :=
  have ⟨hPcieStatus16, _⟩ := h
  holds_viaRow (fun _ => rfl) (holds_ite (he.setBit hPcieStatus16 .self) he)

def execLaneSignalReturnReach (i : Option Nat) : Reach := .of [.reg .lneLosCount i]

theorem Footprint.holds.execLaneSignalReturn {lane : Fin 1024} (he : F.holds d e) (h : (execLaneSignalReturnReach i).within F d)
    (hi : Among i lane.val) :
    F.holds d (e.viaRow (execLaneSignalReturn lane)) :=
  have ⟨hLneLosCount, _⟩ := h
  holds_viaRow (fun _ => rfl) (holds_ite (he.count hLneLosCount hi) he)

end
end Sys2Proof.Machine
end

section
open Sys2Proof
namespace Sys2Proof.Machine

/-! ### The frame of a command -/

/-- A command changes nothing outside its footprint. -/
def Framed (c : Instr) : Prop := ∀ s t, exec c s = .next t → (footprint s.dev c).holds s.dev t.dev

/-- A command is framed if what its row makes of a controller that is within its footprint is within it too. -/
theorem Framed.of_row {c : Instr} {o : State → Host.Outcome State Fault Refusal}
    (h : ∀ d, (footprint d c).holds d d → (footprint d c).holds d (d.viaRow o)) (ho : ∀ s, exec c s = o s) : Framed c := by
  intro s t ht
  obtain ⟨e, hs, hnil⟩ := exec_agree c s.dev s.pending []
  obtain rfl : t = ⟨e, s.pending⟩ := Host.Outcome.next.inj (ht.symm.trans hs)
  have hrow : s.dev.viaRow o = e := by rw [Dev.viaRow, ← ho, hnil]
  exact hrow ▸ h s.dev (Footprint.holds_refl _ _)

/-- A footprint names what may change, in so many areas. -/
def Footprint.hasBreadth (F : Footprint) (n : Nat) : Bool := !F.unframed && F.breadth == n

theorem Footprint.hasBreadth_of {F : Footprint} {n : Nat} (hu : F.unframed = false) (hb : F.breadth = n) :
    F.hasBreadth n = true := by
  simp [Footprint.hasBreadth, hu, hb]

theorem not_hasBreadth_registerWrite {d : Dev} {writer : Agent} {addr : BitVec 28} {value : BitVec 64} {wide : Bool}
    {aside : WriteAside} {n : Nat} (hn : n ≠ 4) :
    ¬ (footprint d (.registerWrite writer addr value wide aside)).hasBreadth n = true := by
  rw [footprint]
  split
  next => exact Bool.false_ne_true
  next => exact fun h => hn (beq_iff_eq.mp h).symm

end Sys2Proof.Machine
end

section
open Sys2Proof
namespace Sys2Proof.Machine

theorem framed_of_no_area {d : Dev} (c : Instr) (h : (footprint d c).hasBreadth 0 = true) : Framed c := by
  cases c with
  | badAccess =>
    exact .of_row (fun _ he => he.execBadAccess (.of_fits rfl)) fun _ => rfl
  | armHot req =>
    exact .of_row (fun _ he => he.execArmHot (i := some req.val) (.of_fits rfl) .self) fun _ => rfl
  | disarm req =>
    exact .of_row (fun _ he => he.execDisarm (i := some req.val) (.of_fits rfl) .self) fun _ => rfl
  | stopActivationDone =>
    exact .of_row (fun _ he => he.execStopActivationDone (.of_fits rfl)) fun _ => rfl
  | tableReadyWrite req port =>
    exact .of_row (fun _ he => he.execTableReadyWrite (i := some req.val) (j := some port.val) (.of_fits rfl) .self
      .self) fun _ => rfl
  | cueQuery =>
    exact .of_row (fun _ he => he.execCueQuery (.of_fits rfl)) fun _ => rfl
  | credit port =>
    exact .of_row (fun _ he => he.execCredit (i := some port.val) (.of_fits rfl) .self) fun _ => rfl
  | msgCrcFail =>
    exact .of_row (fun _ he => he.execMsgCrcFail (.of_fits rfl)) fun _ => rfl
  | pmeRepeat =>
    exact .of_row (fun _ he => he.execPmeRepeat (.of_fits rfl)) fun _ => rfl
  | tsuIncWrite req =>
    exact .of_row (fun _ he => he.execTsuIncWrite (i := some req.val) (.of_fits rfl) .self) fun _ => rfl
  | droneEnWrite =>
    exact .of_row (fun _ he => he.execDroneEnWrite (.of_fits rfl)) fun _ => rfl
  | pfGlitch =>
    exact .of_row (fun _ he => he.execPfGlitch (.of_fits rfl)) fun _ => rfl
  | loopSpWrite loop =>
    exact .of_row (fun _ he => he.execLoopSpWrite (i := some loop.val) (.of_fits rfl) .self) fun _ => rfl
  | sleepBlock lane =>
    exact .of_row (fun _ he => he.execSleepBlock (i := some lane.val) (.of_fits rfl) .self) fun _ => rfl
  | laneWake lane =>
    exact .of_row (fun _ he => he.execLaneWake (i := some lane.val) (.of_fits rfl) .self) fun _ => rfl
  | refReturn =>
    exact .of_row (fun _ he => he.execRefReturn (.of_fits rfl)) fun _ => rfl
  | laneRevive lane =>
    exact .of_row (fun _ he => he.execLaneRevive (i := some lane.val) (.of_fits rfl) .self) fun _ => rfl
  | dmcPrioWrite requester =>
    exact .of_row (fun _ he => he.execDmcPrioWrite (i := some requester.val) (.of_fits rfl) .self) fun _ => rfl
  | irqMaskSet =>
    exact .of_row (fun _ he => he.execIrqMaskSet (.of_fits rfl)) fun _ => rfl
  | keyLock req =>
    exact .of_row (fun _ he => he.execKeyLock (i := some req.val) (.of_fits rfl) .self) fun _ => rfl
  | debugRequest =>
    exact .of_row (fun _ he => he.execDebugRequest (.of_fits rfl)) fun _ => rfl
  | clockRetry =>
    exact .of_row (fun _ he => he.execClockRetry (.of_fits rfl)) fun _ => rfl
  | aspmL1Entry =>
    exact .of_row (fun _ he => he.execAspmL1Entry (.of_fits rfl)) fun _ => rfl
  | laneSignalReturn lane =>
    exact .of_row (fun _ he => he.execLaneSignalReturn (i := some lane.val) (.of_fits rfl) .self) fun _ => rfl
  | registerWrite => exact absurd h (not_hasBreadth_registerWrite (by decide))
  | _ => exact (Bool.false_ne_true h).elim

/-- Settles O55: each command that changes registers only runs operations that reach no
further than its footprint. -/
theorem frameOfRegisterOnlyCommands : Obligations.FrameOfRegisterOnlyCommands :=
  fun _ c hu hb _ ht => ⟨exec_pending ht, framed_of_no_area c (Footprint.hasBreadth_of hu hb) _ _ ht⟩

end Sys2Proof.Machine
end

section
open Sys2Proof
namespace Sys2Proof.Machine
section
variable {F : Footprint} {d e : Dev} {i j l m : Option Nat}

/-! ### Operations of the commands that change one area of state -/

def setLaneReach : Reach := .of [.area .lne]

theorem Footprint.holds.setLane {l' x} (he : F.holds d e) (h : setLaneReach.within F d) :
    F.holds d (Dev.setLane e l' x) :=
  have ⟨hlne, _⟩ := h
  he.inLne hlne

def setGoodReach : Reach := .of [setLaneReach, .field .linkStatus none 16 4]

theorem Footprint.holds.setGood {n b} (he : F.holds d e) (h : setGoodReach.within F d) : F.holds d (Dev.setGood e n b) :=
  have ⟨hsetLane, hLinkStatus16, _⟩ := h
  have hd1 := he.setLane hsetLane
  holds_ite (hd1.setBit (hLinkStatus16.sub (by omega) (by omega)) .any) hd1

def setLaneStReach (i : Option Nat) : Reach := .of [.field .lneStatus i 28 4, .field .lneStatus i 26 1]

theorem Footprint.holds.setLaneSt {l' : Nat} {st} (he : F.holds d e) (h : (setLaneStReach i).within F d) (hi : Among i l') :
    F.holds d (Dev.setLaneSt e l' st) :=
  have ⟨hLneStatus28, hLneStatus26, _⟩ := h
  have hd1 := he.setFld hLneStatus28 hi
  holds_ite hd1 (hd1.setBit hLneStatus26 hi)

def laneDeepReach : Reach := .of [setLaneStReach none, .field .lneStatus none 0 1]

theorem Footprint.holds.laneDeep {l'} (he : F.holds d e) (h : laneDeepReach.within F d) :
    F.holds d (Dev.laneDeep e l') :=
  have ⟨hsetLaneSt, hLneStatus0, _⟩ := h
  holds_ite he ((he.setLaneSt hsetLaneSt .any).setBit hLneStatus0 .any)

def execEthLinkRetryReach : Reach := .of [unmarkReach none, laneDeepReach, setGoodReach]

theorem Footprint.holds.execEthLinkRetry {ep sub} (he : F.holds d e) (h : execEthLinkRetryReach.within F d) :
    F.holds d (e.viaRow (execEthLinkRetry ep sub)) :=
  have ⟨hunmark, hlaneDeep, hsetGood, _⟩ := h
  holds_viaRow (fun _ => rfl) (holds_ite he (he.each (fun _ _ ho =>
    ((ho.unmark hunmark .any).laneDeep hlaneDeep).setGood hsetGood)))

def setCtlReach : Reach := .of [.area .ctl]

theorem Footprint.holds.setCtl {l' x} (he : F.holds d e) (h : setCtlReach.within F d) :
    F.holds d (Dev.setCtl e l' x) :=
  have ⟨hctl, _⟩ := h
  he.inCtl hctl

def setLoopStReach (i : Option Nat) : Reach := .of [.field .ctlLoopStatus i 29 3, .field .ctlLoopStatus i 24 1]

theorem Footprint.holds.setLoopSt {l' : Nat} {st} (he : F.holds d e) (h : (setLoopStReach i).within F d) (hi : Among i l') :
    F.holds d (Dev.setLoopSt e l' st) :=
  have ⟨hCtlLoopStatus29, hCtlLoopStatus24, _⟩ := h
  (he.setFld hCtlLoopStatus29 hi).setBit hCtlLoopStatus24 hi

def loopSampleReach : Reach := .of [setCtlReach, .reg .ctlLoopFb none, setLoopStReach none, .reg .ctlLoopSeqDiscard none]

theorem Footprint.holds.loopSample {l' fseq v} (he : F.holds d e) (h : loopSampleReach.within F d) :
    F.holds d (Dev.loopSample e l' fseq v) :=
  have ⟨hsetCtl, hCtlLoopFb, hsetLoopSt, hCtlLoopSeqDiscard, _⟩ := h
  holds_ite
    (have hd2 := (he.setCtl hsetCtl).put hCtlLoopFb .any
    holds_ite (hd2.setLoopSt hsetLoopSt .any) hd2)
    (he.count hCtlLoopSeqDiscard .any)

def sampleForReach : Reach := .of [loopSampleReach]

theorem Footprint.holds.sampleFor {kind port chan fseq v} (he : F.holds d e) (h : sampleForReach.within F d) :
    F.holds d (Dev.sampleFor e kind port chan fseq v) :=
  have ⟨hloopSample, _⟩ := h
  he.each (fun _ _ ho => ho.loopSample hloopSample)

def lspResponseReach (i : Option Nat) : Reach := .of [sampleForReach, .reg .lspCrcErr i]

theorem Footprint.holds.lspResponse {p : Nat} {r'} (he : F.holds d e) (h : (lspResponseReach i).within F d) (hi : Among i p) :
    F.holds d (Dev.lspResponse e p r') :=
  have ⟨hsampleFor, hLspCrcErr, _⟩ := h
  by
    unfold Dev.lspResponse
    split
    · exact he
    · exact holds_ite (he.sampleFor hsampleFor) (he.count hLspCrcErr hi)

def setLspReach : Reach := .of [.area .ctl]

theorem Footprint.holds.setLsp {p x} (he : F.holds d e) (h : setLspReach.within F d) :
    F.holds d (Dev.setLsp e p x) :=
  have ⟨hctl, _⟩ := h
  he.inCtl hctl

def lspSendReach : Reach := .of [setLspReach, .area .outs]

theorem Footprint.holds.lspSend {p} (he : F.holds d e) (h : lspSendReach.within F d) :
    F.holds d (Dev.lspSend e p) :=
  have ⟨hsetLsp, houts, _⟩ := h
  by
    unfold Dev.lspSend
    dsimp only
    split
    · exact (he.setLsp hsetLsp).send houts
    · exact
        by
          split
          · exact (he.setLsp hsetLsp).send houts
          · exact he.setLsp hsetLsp

def lspHearReach : Reach := .of [setLspReach, .area .ctl]

theorem Footprint.holds.lspHear {p line} (he : F.holds d e) (h : lspHearReach.within F d) :
    F.holds d (Dev.lspHear e p line) :=
  have ⟨hsetLsp, hctl, _⟩ := h
  by
    unfold Dev.lspHear
    dsimp only
    split
    · exact he.setLsp hsetLsp
    · exact holds_ite ((he.setLsp hsetLsp).inCtl hctl) (he.setLsp hsetLsp)

def execLspFrameReach (i : Option Nat) : Reach := .of [lspResponseReach i, lspSendReach, lspHearReach]

theorem Footprint.holds.execLspFrame {port : Fin 8} {line response} (he : F.holds d e) (h : (execLspFrameReach i).within F d)
    (hi : Among i port.val) :
    F.holds d (e.viaRow (execLspFrame port line response)) :=
  have ⟨hlspResponse, hlspSend, hlspHear, _⟩ := h
  holds_viaRow (fun _ => rfl) <|
    holds_ite
      he
      (have hd1 := he.lspResponse hlspResponse hi
      holds_ite (hd1.lspSend hlspSend) (hd1.lspHear hlspHear))

def setRowBufReach : Reach := .of [.area .cmp]

theorem Footprint.holds.setRowBuf {n j' x} (he : F.holds d e) (h : setRowBufReach.within F d) :
    F.holds d (Dev.setRowBuf e n j' x) :=
  have ⟨hcmp, _⟩ := h
  he.inCmp hcmp

def fillRowReach : Reach := .of [setRowBufReach, .field .rpStatus none 8 4, .reg .rpLine none]

theorem Footprint.holds.fillRow {n j' f} (he : F.holds d e) (h : fillRowReach.within F d) :
    F.holds d (Dev.fillRow e n j' f) :=
  have ⟨hsetRowBuf, hRpStatus8, hRpLine, _⟩ := h
  by
    unfold Dev.fillRow
    dsimp only
    split
    · exact ((he.setRowBuf hsetRowBuf).setFld hRpStatus8 .any).putInt hRpLine .any
    · exact
        by
          split
          · exact ((he.setRowBuf hsetRowBuf).setFld hRpStatus8 .any).putInt hRpLine .any
          · exact ((he.setRowBuf hsetRowBuf).setFld hRpStatus8 .any)

def execSeekDoneReach : Reach := .of [setRowBufReach, .field .rpStatus none 30 1, fillRowReach]

theorem Footprint.holds.execSeekDone {port row} (he : F.holds d e) (h : execSeekDoneReach.within F d) :
    F.holds d (e.viaRow (execSeekDone port row)) :=
  have ⟨hsetRowBuf, hRpStatus30, hfillRow, _⟩ := h
  holds_viaRow (fun _ => rfl) (((he.setRowBuf hsetRowBuf).setBit hRpStatus30 .any).fillRow hfillRow)

def setUnitReach (i : Option Nat) : Reach := .of [.area .cdc, .field .cdcUnitStatus i 0 18, .field .cdcUnitStatus i 30 1]

theorem Footprint.holds.setUnit {u : Nat} {x} (he : F.holds d e) (h : (setUnitReach i).within F d) (hi : Among i u) :
    F.holds d (Dev.setUnit e u x) :=
  have ⟨hcdc, hCdcUnitStatus0, hCdcUnitStatus30, _⟩ := h
  ((he.inCdc hcdc).setFld hCdcUnitStatus0 hi).setBit hCdcUnitStatus30 hi

def execCompressSymbolsReach : Reach := .of [setUnitReach none]

theorem Footprint.holds.execCompressSymbols {unit symbols size} (he : F.holds d e) (h : execCompressSymbolsReach.within F d) :
    F.holds d (e.viaRow (execCompressSymbols unit symbols size)) :=
  have ⟨hsetUnit, _⟩ := h
  holds_viaRow (fun _ => rfl) <|
    by
      split
      · exact he
      · exact he.setUnit hsetUnit .any

def execCompressFlushReach : Reach := .of [setUnitReach none]

theorem Footprint.holds.execCompressFlush {unit symbols size} (he : F.holds d e) (h : execCompressFlushReach.within F d) :
    F.holds d (e.viaRow (execCompressFlush unit symbols size)) :=
  have ⟨hsetUnit, _⟩ := h
  holds_viaRow (fun _ => rfl) <|
    by
      split
      · exact he
      · exact he.setUnit hsetUnit .any

def setSynReach : Reach := .of [.area .syn]

theorem Footprint.holds.setSyn {n x} (he : F.holds d e) (h : setSynReach.within F d) :
    F.holds d (Dev.setSyn e n x) :=
  have ⟨hsyn, _⟩ := h
  he.inSyn hsyn

def foldMaskReach : Reach := .of [setSynReach]

theorem Footprint.holds.foldMask {n h'} (he : F.holds d e) (h : foldMaskReach.within F d) :
    F.holds d (Dev.foldMask e n h') :=
  have ⟨hsetSyn, _⟩ := h
  he.setSyn hsetSyn

def notePendReach : Reach := .of [.field .embHcStatus (some 0) 16 16]

theorem Footprint.holds.notePend (he : F.holds d e) (h : notePendReach.within F d) :
    F.holds d (Dev.notePend e) :=
  have ⟨hEmbHcStatus16, _⟩ := h
  he.setFld hEmbHcStatus16 .self

def freePendReach : Reach := .of [.area .syn, notePendReach]

theorem Footprint.holds.freePend (he : F.holds d e) (h : freePendReach.within F d) :
    F.holds d (Dev.freePend e) :=
  have ⟨hsyn, hnotePend, _⟩ := h
  (he.inSyn hsyn).notePend hnotePend

def execHealthFoldReach : Reach := .of [foldMaskReach, .area .syn, freePendReach]

theorem Footprint.holds.execHealthFold {port} (he : F.holds d e) (h : execHealthFoldReach.within F d) :
    F.holds d (e.viaRow (execHealthFold port)) :=
  have ⟨hfoldMask, hsyn, hfreePend, _⟩ := h
  holds_viaRow (fun _ => rfl) <|
    by
      split
      · exact he
      · exact holds_ite (((he.foldMask hfoldMask).inSyn hsyn).freePend hfreePend) he

def noteWireReach (i : Option Nat) : Reach := .of [.field .posEncStatus i 30 1]

theorem Footprint.holds.noteWire {i' : Nat} (he : F.holds d e) (h : (noteWireReach i).within F d) (hi : Among i i') :
    F.holds d (Dev.noteWire e i') :=
  have ⟨hPosEncStatus30, _⟩ := h
  he.setBit hPosEncStatus30 hi

def setEncReach : Reach := .of [.area .pos]

theorem Footprint.holds.setEnc {i' x} (he : F.holds d e) (h : setEncReach.within F d) :
    F.holds d (Dev.setEnc e i' x) :=
  have ⟨hpos, _⟩ := h
  he.inPos hpos

def execEncWireFaultReach (i : Option Nat) : Reach := .of [.reg .posEncWireCount i, setEncReach, noteWireReach i]

theorem Footprint.holds.execEncWireFault {input : Fin 8} {pair} (he : F.holds d e) (h : (execEncWireFaultReach i).within F d)
    (hi : Among i input.val) :
    F.holds d (e.viaRow (execEncWireFault input pair)) :=
  have ⟨hPosEncWireCount, hsetEnc, hnoteWire, _⟩ := h
  holds_viaRow (fun _ => rfl) (((he.count hPosEncWireCount hi).setEnc hsetEnc).noteWire hnoteWire hi)

def mirrorBlockReach : Reach := .of [.reg .cdcUnitBlocks none, .reg .cdcUnitStored none, .area .draw]

theorem Footprint.holds.mirrorBlock {r'} (he : F.holds d e) (h : mirrorBlockReach.within F d) :
    F.holds d (Dev.mirrorBlock e r') :=
  have ⟨hCdcUnitBlocks, hCdcUnitStored, hdraw, _⟩ := h
  by
    unfold Dev.mirrorBlock
    split
    · exact he
    · exact he
    · exact
        have hd1 := he.count hCdcUnitBlocks .any
        (holds_ite (hd1.count hCdcUnitStored .any) hd1).drawn hdraw

def mirrorSendReach : Reach := .of [.area .ptn, mirrorBlockReach, .area .outs]

theorem Footprint.holds.mirrorSend {r'} (he : F.holds d e) (h : mirrorSendReach.within F d) :
    F.holds d (Dev.mirrorSend e r') :=
  have ⟨hptn, hmirrorBlock, houts, _⟩ := h
  holds_ite (((he.inPtn hptn).mirrorBlock hmirrorBlock).send houts) he

def mirrorReach : Reach := .of [mirrorSendReach]

theorem Footprint.holds.mirror {r'} (he : F.holds d e) (h : mirrorReach.within F d) :
    F.holds d (Dev.mirror e r') :=
  have ⟨hmirrorSend, _⟩ := h
  holds_ite (he.mirrorSend hmirrorSend) he

def execCommitReach (i j : Option Nat) : Reach := .of [refuseReach i, .field .synStatus j 14 1, mirrorReach]

theorem Footprint.holds.execCommit {req : Fin 5} {port : Fin 192} (he : F.holds d e) (h : (execCommitReach i j).within F d)
    (hi : Among i req.val) (hj : Among j port.val) :
    F.holds d (e.viaRow (execCommit req port)) :=
  have ⟨hrefuse, hSynStatus14, hmirror, _⟩ := h
  holds_viaRow (fun _ => rfl) <|
    holds_ite
      (he.refuse hrefuse hi)
      (holds_ite
        (he.refuse hrefuse hi)
        (holds_ite
          (he.refuse hrefuse hi)
          (holds_ite (he.refuse hrefuse hi) ((he.setBit hSynStatus14 hj).mirror hmirror))))

def setAxisReach (i : Option Nat) : Reach := .of [.area .ctl, .field .ctlAxStatus i 30 1, .field .ctlAxStatus i 29 1, .field
  .ctlAxStatus i 17 7, .reg .ctlAxPos i, .reg .ctlAxVel i]

theorem Footprint.holds.setAxis {a : Nat} {x} (he : F.holds d e) (h : (setAxisReach i).within F d) (hi : Among i a) :
    F.holds d (Dev.setAxis e a x) :=
  have ⟨hctl, hCtlAxStatus30, hCtlAxStatus29, hCtlAxStatus17, hCtlAxPos, hCtlAxVel, _⟩ := h
  (((((he.inCtl hctl).setBit hCtlAxStatus30 hi).setBit hCtlAxStatus29 hi).setFld hCtlAxStatus17 hi).put hCtlAxPos hi).put
    hCtlAxVel hi

def axisStopReach (i : Option Nat) : Reach := .of [setAxisReach i, .field .ctlAxStatus i 31 1]

theorem Footprint.holds.axisStop {a : Nat} (he : F.holds d e) (h : (axisStopReach i).within F d) (hi : Among i a) :
    F.holds d (Dev.axisStop e a) :=
  have ⟨hsetAxis, hCtlAxStatus31, _⟩ := h
  (he.setAxis hsetAxis hi).setBit hCtlAxStatus31 hi

def execAxisAbortReach (i : Option Nat) : Reach := .of [axisStopReach i]

theorem Footprint.holds.execAxisAbort {axis : Fin 32} (he : F.holds d e) (h : (execAxisAbortReach i).within F d)
    (hi : Among i axis.val) :
    F.holds d (e.viaRow (execAxisAbort axis)) :=
  have ⟨haxisStop, _⟩ := h
  holds_viaRow (fun _ => rfl) (he.axisStop haxisStop hi)

def pushStampReach (i : Option Nat) : Reach := .of [.reg .epTsDrop i, .area .raised, .area .hst]

theorem Footprint.holds.pushStamp {p : Nat} {b} (he : F.holds d e) (h : (pushStampReach i).within F d) (hi : Among i p) :
    F.holds d (Dev.pushStamp e p b) :=
  have ⟨hEpTsDrop, hraised, hhst, _⟩ := h
  holds_ite ((he.count hEpTsDrop hi).raise hraised) (he.inHst hhst)

def execEthFrameTransmitReach (i : Option Nat) : Reach := .of [.area .outs, pushStampReach i]

theorem Footprint.holds.execEthFrameTransmit {ep : Fin 20} {sub frame} (he : F.holds d e)
    (h : (execEthFrameTransmitReach i).within F d) (hi : Among i ep.val) :
    F.holds d (e.viaRow (execEthFrameTransmit ep sub frame)) :=
  have ⟨houts, hpushStamp, _⟩ := h
  holds_viaRow (fun _ => rfl) <|
    holds_ite
      (by
        dsimp only
        split
        · exact (he.send houts).pushStamp hpushStamp hi
        · exact (he.send houts))
      he

def execSampleReach : Reach := .of [sampleForReach]

theorem Footprint.holds.execSample {port entries} (he : F.holds d e) (h : execSampleReach.within F d) :
    F.holds d (e.viaRow (execSample port entries)) :=
  have ⟨hsampleFor, _⟩ := h
  holds_viaRow (fun _ => rfl) (he.foldl (fun _ _ ho => ho.sampleFor hsampleFor))

def setReportReach : Reach := .of [.area .img, .reg .imgClampCount (some 0), .field .imgStatus (some 0) 5 1, .field .imgStatus
  (some 0) 6 1]

theorem Footprint.holds.setReport {r'} (he : F.holds d e) (h : setReportReach.within F d) :
    F.holds d (Dev.setReport e r') :=
  have ⟨himg, hImgClampCount, hImgStatus5, hImgStatus6, _⟩ := h
  (((he.inImg himg).put hImgClampCount .self).setBit hImgStatus5 .self).setBit hImgStatus6 .self

def dropShadowReach : Reach := .of [.area .img, .field .imgStatus (some 0) 7 1, .field .imgStatus (some 0) 4 1]

theorem Footprint.holds.dropShadow (he : F.holds d e) (h : dropShadowReach.within F d) :
    F.holds d (Dev.dropShadow e) :=
  have ⟨himg, hImgStatus7, hImgStatus4, _⟩ := h
  ((he.inImg himg).setBit hImgStatus7 .self).setBit hImgStatus4 .self

def execDiscardReach (i : Option Nat) : Reach := .of [refuseReach i, dropShadowReach, setReportReach, setImgStateReach]

theorem Footprint.holds.execDiscard {req : Fin 5} (he : F.holds d e) (h : (execDiscardReach i).within F d)
    (hi : Among i req.val) :
    F.holds d (e.viaRow (execDiscard req)) :=
  have ⟨hrefuse, hdropShadow, hsetReport, hsetImgState, _⟩ := h
  holds_viaRow (fun _ => rfl) <|
    holds_ite
      (he.refuse hrefuse hi)
      (((he.dropShadow hdropShadow).setReport hsetReport).setImgState hsetImgState)

def setPortReach : Reach := .of [.area .lnk]

theorem Footprint.holds.setPort {n x} (he : F.holds d e) (h : setPortReach.within F d) :
    F.holds d (Dev.setPort e n x) :=
  have ⟨hlnk, _⟩ := h
  he.inLnk hlnk

def execEchoWordReach : Reach := .of [setPortReach]

theorem Footprint.holds.execEchoWord {port word roundTrip} (he : F.holds d e) (h : execEchoWordReach.within F d) :
    F.holds d (e.viaRow (execEchoWord port word roundTrip)) :=
  have ⟨hsetPort, _⟩ := h
  holds_viaRow (fun _ => rfl) <|
    by
      dsimp only
      split
      · exact he
      · exact holds_ite he (he.setPort hsetPort)

def setPipeReach : Reach := .of [.area .ins]

theorem Footprint.holds.setPipe {c x} (he : F.holds d e) (h : setPipeReach.within F d) :
    F.holds d (Dev.setPipe e c x) :=
  have ⟨hins, _⟩ := h
  he.inIns hins

def execCamMetaReach : Reach := .of [setPipeReach, .reg .insMeta none]

theorem Footprint.holds.execCamMeta {pipe w1 body} (he : F.holds d e) (h : execCamMetaReach.within F d) :
    F.holds d (e.viaRow (execCamMeta pipe w1 body)) :=
  have ⟨hsetPipe, hInsMeta, _⟩ := h
  holds_viaRow (fun _ => rfl) (holds_ite he ((he.setPipe hsetPipe).each (fun _ _ ho1 => ho1.put hInsMeta .any)))

def setLineReach : Reach := .of [setPipeReach]

theorem Footprint.holds.setLine {c tseq f} (he : F.holds d e) (h : setLineReach.within F d) :
    F.holds d (Dev.setLine e c tseq f) :=
  have ⟨hsetPipe, _⟩ := h
  he.setPipe hsetPipe

def execEchoReach : Reach := .of [setLineReach]

theorem Footprint.holds.execEcho {pipe tseq expMid} (he : F.holds d e) (h : execEchoReach.within F d) :
    F.holds d (e.viaRow (execEcho pipe tseq expMid)) :=
  have ⟨hsetLine, _⟩ := h
  holds_viaRow (fun _ => rfl) (holds_ite (he.setLine hsetLine) he)

def execCamEventReach : Reach := .of [setPipeReach]

theorem Footprint.holds.execCamEvent {pipe dropped overflows} (he : F.holds d e) (h : execCamEventReach.within F d) :
    F.holds d (e.viaRow (execCamEvent pipe dropped overflows)) :=
  have ⟨hsetPipe, _⟩ := h
  holds_viaRow (fun _ => rfl) (he.setPipe hsetPipe)

def execGtDataAccessReach (i j : Option Nat) : Reach := .of [.area .outs, refuseReach i, setPipeReach, .reg .insGtAddr j]

theorem Footprint.holds.execGtDataAccess {req : Fin 5} {pipe : Fin 24} {value} (he : F.holds d e)
    (h : (execGtDataAccessReach i j).within F d) (hi : Among i req.val) (hj : Among j pipe.val) :
    F.holds d (e.viaRow (execGtDataAccess req pipe value)) :=
  have ⟨houts, hrefuse, hsetPipe, hInsGtAddr, _⟩ := h
  holds_viaRow (fun _ => rfl) <|
    Footprint.holds.put (by
      split
      · exact he.send houts
      · exact holds_ite (he.refuse hrefuse hi) (he.setPipe hsetPipe)) hInsGtAddr hj

def execTxtsPopReach : Reach := .of [.area .outs, .area .hst]

theorem Footprint.holds.execTxtsPop {req ep} (he : F.holds d e) (h : execTxtsPopReach.within F d) :
    F.holds d (e.viaRow (execTxtsPop req ep)) :=
  have ⟨houts, hhst, _⟩ := h
  holds_viaRow (fun _ => rfl) ((he.send houts).inHst hhst)

def setD3Reach : Reach := .of [.area .hst, .field .pcieStatus (some 0) 17 1]

theorem Footprint.holds.setD3 {fn b} (he : F.holds d e) (h : setD3Reach.within F d) :
    F.holds d (Dev.setD3 e fn b) :=
  have ⟨hhst, hPcieStatus17, _⟩ := h
  have hd1 := he.inHst hhst
  holds_ite (hd1.setBit hPcieStatus17 .self) hd1

def flushVecsReach : Reach := .of [vectorReach]

theorem Footprint.holds.flushVecs {fn} (he : F.holds d e) (h : flushVecsReach.within F d) :
    F.holds d (Dev.flushVecs e fn) :=
  have ⟨hvector, _⟩ := h
  he.each (fun _ _ ho => holds_ite ho (holds_ite (ho.setVec hvector) (ho.sendVec hvector)))

def execD3hotEntryReach : Reach := .of [flushVecsReach, setD3Reach, .area .outs, .area .hst]

theorem Footprint.holds.execD3hotEntry {fn turnOff pmeEn} (he : F.holds d e) (h : execD3hotEntryReach.within F d) :
    F.holds d (e.viaRow (execD3hotEntry fn turnOff pmeEn)) :=
  have ⟨hflushVecs, hsetD3, houts, hhst, _⟩ := h
  holds_viaRow (fun _ => rfl) <|
    holds_ite
      ((he.each (fun _ _ ho => (ho.flushVecs hflushVecs).setD3 hsetD3)).send houts)
      (((he.flushVecs hflushVecs).setD3 hsetD3).inHst hhst)

def execMsixTimerReach : Reach := .of [vectorReach]

theorem Footprint.holds.execMsixTimer {fn vec} (he : F.holds d e) (h : execMsixTimerReach.within F d) :
    F.holds d (e.viaRow (execMsixTimer fn vec)) :=
  have ⟨hvector, _⟩ := h
  holds_viaRow (fun _ => rfl) (holds_ite (he.vecDue hvector) he)

def sendPbaReach : Reach := .of [vectorReach]

theorem Footprint.holds.sendPba {fn} (he : F.holds d e) (h : sendPbaReach.within F d) :
    F.holds d (Dev.sendPba e fn) :=
  have ⟨hvector, _⟩ := h
  he.each (fun _ _ ho => holds_ite ho (ho.sendVec hvector))

def execMsixUnmaskReach : Reach := .of [vectorReach, .area .hst, sendPbaReach]

theorem Footprint.holds.execMsixUnmask {fn vec} (he : F.holds d e) (h : execMsixUnmaskReach.within F d) :
    F.holds d (e.viaRow (execMsixUnmask fn vec)) :=
  have ⟨hvector, hhst, hsendPba, _⟩ := h
  holds_viaRow (fun _ => rfl) <|
    Footprint.holds.sendPba (by
      split
      · exact he.setVec hvector
      · exact he.inHst hhst) hsendPba

def execHotCommitPointReach : Reach := .of [.area .img, setImgStateReach]

theorem Footprint.holds.execHotCommitPoint (he : F.holds d e) (h : execHotCommitPointReach.within F d) :
    F.holds d (e.viaRow execHotCommitPoint) :=
  have ⟨himg, hsetImgState, _⟩ := h
  holds_viaRow (fun _ => rfl) (holds_ite ((he.inImg himg).setImgState hsetImgState) he)

def setToutReach : Reach := .of [.area .hst]

theorem Footprint.holds.setTout {t n} (he : F.holds d e) (h : setToutReach.within F d) :
    F.holds d (Dev.setTout e t n) :=
  have ⟨hhst, _⟩ := h
  he.inHst hhst

def toutPassReach : Reach := .of [.reg .toutMissed none, .field .toutCtrl none 1 1, setToutReach]

theorem Footprint.holds.toutPass {t} (he : F.holds d e) (h : toutPassReach.within F d) :
    F.holds d (Dev.toutPass e t) :=
  have ⟨hToutMissed, hToutCtrl1, hsetTout, _⟩ := h
  holds_ite
    he
    (holds_ite
      ((he.count hToutMissed .any).setBit hToutCtrl1 .any)
      ((he.add32 hToutMissed .any).setTout hsetTout))

def execTsuStepReach : Reach := .of [.reg .tsuTime (some 0), toutPassReach]

theorem Footprint.holds.execTsuStep {req} (he : F.holds d e) (h : execTsuStepReach.within F d) :
    F.holds d (e.viaRow (execTsuStep req)) :=
  have ⟨hTsuTime, htoutPass, _⟩ := h
  holds_viaRow (fun _ => rfl) ((he.put hTsuTime .self).each (fun _ _ ho => ho.toutPass htoutPass))

def execTsuSetReach : Reach := .of [.reg .tsuTime (some 0), .reg .tsuFrac (some 0), toutPassReach]

theorem Footprint.holds.execTsuSet {req} (he : F.holds d e) (h : execTsuSetReach.within F d) :
    F.holds d (e.viaRow (execTsuSet req)) :=
  have ⟨hTsuTime, hTsuFrac, htoutPass, _⟩ := h
  holds_viaRow (fun _ => rfl) (((he.put hTsuTime .self).put hTsuFrac .self).each (fun _ _ ho => ho.toutPass htoutPass))

def execToutArmReach (i j : Option Nat) : Reach := .of [.reg .toutCtrl j, .area .outs, refuseReach i, setToutReach]

theorem Footprint.holds.execToutArm {req : Fin 5} {t : Fin 8} {value} (he : F.holds d e) (h : (execToutArmReach i j).within F d)
    (hi : Among i req.val) (hj : Among j t.val) :
    F.holds d (e.viaRow (execToutArm req t value)) :=
  have ⟨hToutCtrl, houts, hrefuse, hsetTout, _⟩ := h
  holds_viaRow (fun _ => rfl) <|
    holds_ite
      (have hd1 := he.put hToutCtrl hj
      holds_ite (hd1.send houts) hd1)
      (holds_ite
        (he.refuse hrefuse hi)
        (holds_ite (he.refuse hrefuse hi) ((he.put hToutCtrl hj).setTout hsetTout)))

def sendPcapReach : Reach := .of [.area .outs]

theorem Footprint.holds.sendPcap {l'} (he : F.holds d e) (h : sendPcapReach.within F d) :
    F.holds d (Dev.sendPcap e l') :=
  have ⟨houts, _⟩ := h
  he.send houts

def trainLanesReach : Reach := .of [setLaneReach, setLaneStReach none, .field .lneStatus none 0 1, .reg .lneRateKbps none]

theorem Footprint.holds.trainLanes {ls kbps} (he : F.holds d e) (h : trainLanesReach.within F d) :
    F.holds d (Dev.trainLanes e ls kbps) :=
  have ⟨hsetLane, hsetLaneSt, hLneStatus0, hLneRateKbps, _⟩ := h
  he.each (fun _ _ ho => (((ho.setLane hsetLane).setLaneSt hsetLaneSt .any).setBit hLneStatus0 .any).put hLneRateKbps .any)

def capLinkReach : Reach := .of [.area .lne, trainLanesReach]

theorem Footprint.holds.capLink {k'} (he : F.holds d e) (h : capLinkReach.within F d) :
    F.holds d (Dev.capLink e k') :=
  have ⟨hlne, htrainLanes, _⟩ := h
  (he.inLne hlne).trainLanes htrainLanes

def execPcapReach : Reach := .of [capLinkReach, sendPcapReach]

theorem Footprint.holds.execPcap {link pairId} (he : F.holds d e) (h : execPcapReach.within F d) :
    F.holds d (e.viaRow (execPcap link pairId)) :=
  have ⟨hcapLink, hsendPcap, _⟩ := h
  holds_viaRow (fun _ => rfl) (holds_ite he ((he.capLink hcapLink).sendPcap hsendPcap))

def lanesRestReach : Reach := .of [laneDeepReach, setGoodReach]

theorem Footprint.holds.lanesRest {g} (he : F.holds d e) (h : lanesRestReach.within F d) :
    F.holds d (Dev.lanesRest e g) :=
  have ⟨hlaneDeep, hsetGood, _⟩ := h
  he.each (fun _ _ ho => (ho.laneDeep hlaneDeep).setGood hsetGood)

def lanesDownReach : Reach := .of [lanesRestReach, unmarkReach none]

theorem Footprint.holds.lanesDown {g} (he : F.holds d e) (h : lanesDownReach.within F d) :
    F.holds d (Dev.lanesDown e g) :=
  have ⟨hlanesRest, hunmark, _⟩ := h
  (he.lanesRest hlanesRest).each (fun _ _ ho => ho.unmark hunmark .any)

def uncapReach : Reach := .of [.area .lne]

theorem Footprint.holds.uncap {k'} (he : F.holds d e) (h : uncapReach.within F d) :
    F.holds d (Dev.uncap e k') :=
  have ⟨hlne, _⟩ := h
  he.inLne hlne

def execMirrorLinkRetryReach : Reach := .of [uncapReach, lanesDownReach]

theorem Footprint.holds.execMirrorLinkRetry {link} (he : F.holds d e) (h : execMirrorLinkRetryReach.within F d) :
    F.holds d (e.viaRow (execMirrorLinkRetry link)) :=
  have ⟨huncap, hlanesDown, _⟩ := h
  holds_viaRow (fun _ => rfl) (holds_ite he ((he.uncap huncap).lanesDown hlanesDown))

def sendDailyReach : Reach := .of [.area .ptn, mirrorSendReach]

theorem Footprint.holds.sendDaily (he : F.holds d e) (h : sendDailyReach.within F d) :
    F.holds d (Dev.sendDaily e) :=
  have ⟨hptn, hmirrorSend, _⟩ := h
  (he.inPtn hptn).mirrorSend hmirrorSend

def execDailySendReach : Reach := .of [sendDailyReach]

theorem Footprint.holds.execDailySend (he : F.holds d e) (h : execDailySendReach.within F d) :
    F.holds d (e.viaRow execDailySend) :=
  have ⟨hsendDaily, _⟩ := h
  holds_viaRow (fun _ => rfl) (he.sendDaily hsendDaily)

def speedFreeReach : Reach := .of [.area .pos]

theorem Footprint.holds.speedFree {u} (he : F.holds d e) (h : speedFreeReach.within F d) :
    F.holds d (Dev.speedFree e u) :=
  have ⟨hpos, _⟩ := h
  he.inPos hpos

def execSpeedHoldReleaseReach : Reach := .of [speedFreeReach, .field .pwrStatus (some 0) 28 1]

theorem Footprint.holds.execSpeedHoldRelease (he : F.holds d e) (h : execSpeedHoldReleaseReach.within F d) :
    F.holds d (e.viaRow execSpeedHoldRelease) :=
  have ⟨hspeedFree, hPwrStatus28, _⟩ := h
  holds_viaRow (fun _ => rfl) ((he.speedFree hspeedFree).setBit hPwrStatus28 .self)

def setTaskReach : Reach := .of [.area .pwr]

theorem Footprint.holds.setTask {t x} (he : F.holds d e) (h : setTaskReach.within F d) :
    F.holds d (Dev.setTask e t x) :=
  have ⟨hpwr, _⟩ := h
  he.inPwr hpwr

def taskStandReach (i : Option Nat) : Reach := .of [.reg .pwrTaskStatus i]

theorem Footprint.holds.taskStand {t : Nat} {n} (he : F.holds d e) (h : (taskStandReach i).within F d) (hi : Among i t) :
    F.holds d (Dev.taskStand e t n) :=
  have ⟨hPwrTaskStatus, _⟩ := h
  he.foldl fun _ _ ho => ho.setBit hPwrTaskStatus.field hi

def taskDueReach (i : Option Nat) : Reach := .of [setTaskReach, taskStandReach i]

theorem Footprint.holds.taskDue {t : Nat} {deadline} (he : F.holds d e) (h : (taskDueReach i).within F d) (hi : Among i t) :
    F.holds d (Dev.taskDue e t deadline) :=
  have ⟨hsetTask, htaskStand, _⟩ := h
  holds_ite (holds_ite he (he.setTask hsetTask)) ((he.setTask hsetTask).taskStand htaskStand hi)

def execTaskDueCmdReach (i : Option Nat) : Reach := .of [taskDueReach i, .field .pwrTaskStatus (some 7) 31 1]

theorem Footprint.holds.execTaskDueCmd {task : Fin 8} {change next} (he : F.holds d e) (h : (execTaskDueCmdReach i).within F d)
    (hi : Among i task.val) :
    F.holds d (e.viaRow (execTaskDueCmd task change next)) :=
  have ⟨htaskDue, hPwrTaskStatus31, _⟩ := h
  holds_viaRow (fun _ => rfl) <|
    have hd1 := he.taskDue htaskDue hi
    holds_ite (hd1.setBit hPwrTaskStatus31 .self) hd1

def journalWriteReach : Reach := .of [.area .pwr]

theorem Footprint.holds.journalWrite (he : F.holds d e) (h : journalWriteReach.within F d) :
    F.holds d (Dev.journalWrite e) :=
  have ⟨hpwr, _⟩ := h
  by
    unfold Dev.journalWrite
    split
    · exact he
    · exact he.inPwr hpwr

def execJournalWriteReach : Reach := .of [journalWriteReach]

theorem Footprint.holds.execJournalWrite (he : F.holds d e) (h : execJournalWriteReach.within F d) :
    F.holds d (e.viaRow execJournalWrite) :=
  have ⟨hjournalWrite, _⟩ := h
  holds_viaRow (fun _ => rfl) (he.journalWrite hjournalWrite)

def execCkptNowReach : Reach := .of [taskDueReach (some 1), .field .pwrTaskStatus (some 1) 31 1]

theorem Footprint.holds.execCkptNow (he : F.holds d e) (h : execCkptNowReach.within F d) :
    F.holds d (e.viaRow execCkptNow) :=
  have ⟨htaskDue, hPwrTaskStatus31, _⟩ := h
  holds_viaRow (fun _ => rfl) ((he.taskDue htaskDue .self).setBit hPwrTaskStatus31 .self)

def execLoadReach (i : Option Nat) : Reach := .of [refuseReach i, .field .imgCtrl (some 0) 8 2, dropShadowReach, setReportReach,
  .area .img, setImgStateReach]

theorem Footprint.holds.execLoad {req : Fin 5} {src} (he : F.holds d e) (h : (execLoadReach i).within F d)
    (hi : Among i req.val) :
    F.holds d (e.viaRow (execLoad req src)) :=
  have ⟨hrefuse, hImgCtrl8, hdropShadow, hsetReport, himg, hsetImgState, _⟩ := h
  holds_viaRow (fun _ => rfl) <|
    holds_ite
      (he.refuse hrefuse hi)
      (((((he.setFld hImgCtrl8 .self).dropShadow hdropShadow).setReport hsetReport).inImg himg).setImgState hsetImgState)

def execLoopResumeReach (i j : Option Nat) : Reach := .of [refuseReach i, setLoopStReach j, setCtlReach]

theorem Footprint.holds.execLoopResume {req : Fin 5} {loop : Fin 256} (he : F.holds d e)
    (h : (execLoopResumeReach i j).within F d) (hi : Among i req.val) (hj : Among j loop.val) :
    F.holds d (e.viaRow (execLoopResume req loop)) :=
  have ⟨hrefuse, hsetLoopSt, hsetCtl, _⟩ := h
  holds_viaRow (fun _ => rfl) (holds_ite he (holds_ite (he.refuse hrefuse hi) ((he.setLoopSt hsetLoopSt hj).setCtl hsetCtl)))

def execAxisPushReach (i j : Option Nat) : Reach := .of [refuseReach i, setAxisReach j]

theorem Footprint.holds.execAxisPush {req : Fin 5} {axis : Fin 32} (he : F.holds d e) (h : (execAxisPushReach i j).within F d)
    (hi : Among i req.val) (hj : Among j axis.val) :
    F.holds d (e.viaRow (execAxisPush req axis)) :=
  have ⟨hrefuse, hsetAxis, _⟩ := h
  holds_viaRow (fun _ => rfl) <|
    by
      dsimp only
      split
      · exact he.refuse hrefuse hi
      · exact he.setAxis hsetAxis hj

def atRestReach (i : Option Nat) : Reach := .of [setAxisReach i]

theorem Footprint.holds.atRest {a : Nat} (he : F.holds d e) (h : (atRestReach i).within F d) (hi : Among i a) :
    F.holds d (Dev.atRest e a) :=
  have ⟨hsetAxis, _⟩ := h
  holds_ite
    he
    (holds_ite
      (he.setAxis hsetAxis hi)
      (by
        split
        · exact he.setAxis hsetAxis hi
        · exact he))

def execAxisHaltReach (i : Option Nat) : Reach := .of [setAxisReach i, atRestReach i]

theorem Footprint.holds.execAxisHalt {axis : Fin 32} (he : F.holds d e) (h : (execAxisHaltReach i).within F d)
    (hi : Among i axis.val) :
    F.holds d (e.viaRow (execAxisHalt axis)) :=
  have ⟨hsetAxis, hatRest, _⟩ := h
  holds_viaRow (fun _ => rfl) ((he.setAxis hsetAxis hi).atRest hatRest hi)

def execIrqModTimerReach : Reach := .of [.area .mgt]

theorem Footprint.holds.execIrqModTimer {core fast} (he : F.holds d e) (h : execIrqModTimerReach.within F d) :
    F.holds d (e.viaRow (execIrqModTimer core fast)) :=
  have ⟨hmgt, _⟩ := h
  holds_viaRow (fun _ => rfl) (holds_ite he (he.inMgt hmgt))

def execAxisHomeReach (i j : Option Nat) : Reach := .of [refuseReach i, setAxisReach j]

theorem Footprint.holds.execAxisHome {req : Fin 5} {axis : Fin 32} (he : F.holds d e) (h : (execAxisHomeReach i j).within F d)
    (hi : Among i req.val) (hj : Among j axis.val) :
    F.holds d (e.viaRow (execAxisHome req axis)) :=
  have ⟨hrefuse, hsetAxis, _⟩ := h
  holds_viaRow (fun _ => rfl) (holds_ite (he.refuse hrefuse hi) (he.setAxis hsetAxis hj))

def execHomeEdgeReach (i : Option Nat) : Reach := .of [setAxisReach i, atRestReach i, .field .ctlAxStatus i 31 1]

theorem Footprint.holds.execHomeEdge {axis : Fin 32} (he : F.holds d e) (h : (execHomeEdgeReach i).within F d)
    (hi : Among i axis.val) :
    F.holds d (e.viaRow (execHomeEdge axis)) :=
  have ⟨hsetAxis, hatRest, hCtlAxStatus31, _⟩ := h
  holds_viaRow (fun _ => rfl) <|
    by
      dsimp only
      split
      · exact (he.setAxis hsetAxis hi).atRest hatRest hi
      · exact (he.setAxis hsetAxis hi).setBit hCtlAxStatus31 hi
      · exact he

def execAxisRestHoldReach (i : Option Nat) : Reach := .of [setAxisReach i]

theorem Footprint.holds.execAxisRestHold {axis : Fin 32} (he : F.holds d e) (h : (execAxisRestHoldReach i).within F d)
    (hi : Among i axis.val) :
    F.holds d (e.viaRow (execAxisRestHold axis)) :=
  have ⟨hsetAxis, _⟩ := h
  holds_viaRow (fun _ => rfl) (holds_ite (he.setAxis hsetAxis hi) he)

def noteFmaxReach : Reach := .of [.field .hlGlbStatus (some 0) 0 18]

theorem Footprint.holds.noteFmax (he : F.holds d e) (h : noteFmaxReach.within F d) :
    F.holds d (Dev.noteFmax e) :=
  have ⟨hHlGlbStatus0, _⟩ := h
  he.setFld hHlGlbStatus0 .self

def setLinkReach (i : Option Nat) : Reach := .of [.field .linkStatus i 29 3, .field .rpStatus none 31 1, noteFmaxReach]

theorem Footprint.holds.setLink {n : Nat} {st} (he : F.holds d e) (h : (setLinkReach i).within F d) (hi : Among i n) :
    F.holds d (Dev.setLink e n st) :=
  have ⟨hLinkStatus29, hRpStatus31, hnoteFmax, _⟩ := h
  ((he.setFld hLinkStatus29 hi).each (fun _ _ ho => ho.setBit hRpStatus31 .any)).noteFmax hnoteFmax

def linkTrainingReach : Reach := .of [setLinkReach none]

theorem Footprint.holds.linkTraining {n} (he : F.holds d e) (h : linkTrainingReach.within F d) :
    F.holds d (Dev.linkTraining e n) :=
  have ⟨hsetLink, _⟩ := h
  holds_ite (he.setLink hsetLink .any) he

def setCamReach (i : Option Nat) : Reach := .of [.field .insStatus i 29 3]

theorem Footprint.holds.setCam {c : Nat} {st} (he : F.holds d e) (h : (setCamReach i).within F d) (hi : Among i c) :
    F.holds d (Dev.setCam e c st) :=
  have ⟨hInsStatus29, _⟩ := h
  he.setFld hInsStatus29 hi

def camTrainingReach : Reach := .of [setCamReach none]

theorem Footprint.holds.camTraining {c} (he : F.holds d e) (h : camTrainingReach.within F d) :
    F.holds d (Dev.camTraining e c) :=
  have ⟨hsetCam, _⟩ := h
  holds_ite (he.setCam hsetCam .any) he

def laneSignalReach (i : Option Nat) : Reach := .of [setGoodReach, setLaneReach, setLaneStReach i, .reg .lneRateKbps i,
  linkTrainingReach, camTrainingReach]

theorem Footprint.holds.laneSignal {l' : Nat} (he : F.holds d e) (h : (laneSignalReach i).within F d) (hi : Among i l') :
    F.holds d (Dev.laneSignal e l') :=
  have ⟨hsetGood, hsetLane, hsetLaneSt, hLneRateKbps, hlinkTraining, hcamTraining, _⟩ := h
  holds_ite
    he
    (holds_ite
      (he.setGood hsetGood)
      (by
        dsimp only
        split
        · exact ((((he.setGood hsetGood).setLane hsetLane).setLaneSt hsetLaneSt hi).put hLneRateKbps hi).linkTraining
            hlinkTraining
        · exact ((((he.setGood hsetGood).setLane hsetLane).setLaneSt hsetLaneSt hi).put hLneRateKbps hi).camTraining hcamTraining
        · exact ((((he.setGood hsetGood).setLane hsetLane).setLaneSt hsetLaneSt hi).put hLneRateKbps hi)))

def execLaneSignalDetectReach (i : Option Nat) : Reach := .of [laneSignalReach i]

theorem Footprint.holds.execLaneSignalDetect {lane : Fin 1024} (he : F.holds d e) (h : (execLaneSignalDetectReach i).within F d)
    (hi : Among i lane.val) :
    F.holds d (e.viaRow (execLaneSignalDetect lane)) :=
  have ⟨hlaneSignal, _⟩ := h
  holds_viaRow (fun _ => rfl) (he.laneSignal hlaneSignal hi)

def repeatOutReach : Reach := .of [.area .pos]

theorem Footprint.holds.repeatOut (he : F.holds d e) (h : repeatOutReach.within F d) :
    F.holds d (Dev.repeatOut e) :=
  have ⟨hpos, _⟩ := h
  he.foldl (fun _ _ ho => holds_ite (ho.inPos hpos) (holds_ite ho (ho.inPos hpos)))

def execEncWireClearReach (i : Option Nat) : Reach := .of [setEncReach, noteWireReach i, repeatOutReach]

theorem Footprint.holds.execEncWireClear {input : Fin 8} {pair level} (he : F.holds d e)
    (h : (execEncWireClearReach i).within F d) (hi : Among i input.val) :
    F.holds d (e.viaRow (execEncWireClear input pair level)) :=
  have ⟨hsetEnc, hnoteWire, hrepeatOut, _⟩ := h
  holds_viaRow (fun _ => rfl) (((he.setEnc hsetEnc).noteWire hnoteWire hi).repeatOut hrepeatOut)

def injStopReach (i : Option Nat) : Reach := .of [.reg .lneInjCount i, setLaneReach]

theorem Footprint.holds.injStop {l' : Nat} (he : F.holds d e) (h : (injStopReach i).within F d) (hi : Among i l') :
    F.holds d (Dev.injStop e l') :=
  have ⟨hLneInjCount, hsetLane, _⟩ := h
  (he.put hLneInjCount hi).setLane hsetLane

def setTxReach : Reach := .of [.area .lne]

theorem Footprint.holds.setTx {q x} (he : F.holds d e) (h : setTxReach.within F d) :
    F.holds d (Dev.setTx e q x) :=
  have ⟨hlne, _⟩ := h
  he.inLne hlne

def txBlockReach : Reach := .of [.area .outs, setTxReach]

theorem Footprint.holds.txBlock {q} (he : F.holds d e) (h : txBlockReach.within F d) :
    F.holds d (Dev.txBlock e q) :=
  have ⟨houts, hsetTx, _⟩ := h
  (he.send houts).setTx hsetTx

def txBusyReach : Reach := .of [setTxReach, txBlockReach]

theorem Footprint.holds.txBusy {q k n} (he : F.holds d e) (h : txBusyReach.within F d) : F.holds d (Dev.txBusy q k n e) := by
  obtain ⟨hsetTx, htxBlock, -⟩ := h
  induction n generalizing e with
  | zero => exact he
  | succ n ih =>
    unfold Dev.txBusy
    split
    · exact he
    · exact holds_ite he (ih ((he.setTx hsetTx).txBlock htxBlock))

def txToReach : Reach := .of [txBusyReach, setTxReach]

theorem Footprint.holds.txTo {q k'} (he : F.holds d e) (h : txToReach.within F d) :
    F.holds d (Dev.txTo e q k') :=
  have ⟨htxBusy, hsetTx, _⟩ := h
  have hd1 := he.txBusy htxBusy
  holds_ite (hd1.setTx hsetTx) hd1

def txInjectReach : Reach := .of [txToReach, setTxReach]

theorem Footprint.holds.txInject {q lane payload} (he : F.holds d e) (h : txInjectReach.within F d) :
    F.holds d (Dev.txInject e q lane payload) :=
  have ⟨htxTo, hsetTx, _⟩ := h
  (he.txTo htxTo).setTx hsetTx

def execInjCtrlWriteReach (i j : Option Nat) : Reach := .of [injStopReach j, .reg .lneInjCtrl j, .reg .lneInjCount j,
  setLaneReach, refuseReach i, txInjectReach]

theorem Footprint.holds.execInjCtrlWrite {req : Fin 5} {lane : Fin 1024} {value} (he : F.holds d e)
    (h : (execInjCtrlWriteReach i j).within F d) (hi : Among i req.val) (hj : Among j lane.val) :
    F.holds d (e.viaRow (execInjCtrlWrite req lane value)) :=
  have ⟨hinjStop, hLneInjCtrl, hLneInjCount, hsetLane, hrefuse, htxInject, _⟩ := h
  holds_viaRow (fun _ => rfl) <|
    holds_ite
      (have hd1 := (he.injStop hinjStop hj).put hLneInjCtrl hj
      holds_ite
        hd1
        (holds_ite
          (hd1.count hLneInjCount hj)
          (holds_ite (hd1.setLane hsetLane) (holds_ite (hd1.add32 hLneInjCount hj) hd1))))
      (holds_ite
        (holds_ite
          (he.refuse hrefuse hi)
          (have hd1 := he.put hLneInjCtrl hj
          holds_ite ((hd1.txInject htxInject).count hLneInjCount hj) hd1))
        he)

def execScanNowReach : Reach := .of [taskDueReach (some 2)]

theorem Footprint.holds.execScanNow (he : F.holds d e) (h : execScanNowReach.within F d) :
    F.holds d (e.viaRow execScanNow) :=
  have ⟨htaskDue, _⟩ := h
  holds_viaRow (fun _ => rfl) (he.taskDue htaskDue .self)

def setBankReach : Reach := .of [.area .dmc]

theorem Footprint.holds.setBank {p b} (he : F.holds d e) (h : setBankReach.within F d) :
    F.holds d (Dev.setBank e p b) :=
  have ⟨hdmc, _⟩ := h
  he.inDmc hdmc

def refreshBankReach : Reach := .of [.area .outs, setBankReach, .reg .dmcPnrCount none]

theorem Footprint.holds.refreshBank {p} (he : F.holds d e) (h : refreshBankReach.within F d) :
    F.holds d (Dev.refreshBank e p) :=
  have ⟨houts, hsetBank, hDmcPnrCount, _⟩ := h
  by
    unfold Dev.refreshBank
    dsimp only
    split
    · exact ((he.send houts).setBank hsetBank)
    · exact (((he.send houts).setBank hsetBank).each (fun _ _ ho1 => (ho1.send houts).send houts)).add32 hDmcPnrCount .any

def execRefreshDueReach : Reach := .of [setBankReach, refreshBankReach]

theorem Footprint.holds.execRefreshDue {sub rank bankGroup bank busy} (he : F.holds d e) (h : execRefreshDueReach.within F d) :
    F.holds d (e.viaRow (execRefreshDue sub rank bankGroup bank busy)) :=
  have ⟨hsetBank, hrefreshBank, _⟩ := h
  holds_viaRow (fun _ => rfl) (holds_ite (he.setBank hsetBank) (he.refreshBank hrefreshBank))

def execDramTempReadReach : Reach := .of [.area .dmc]

theorem Footprint.holds.execDramTempRead {channel celsius} (he : F.holds d e) (h : execDramTempReadReach.within F d) :
    F.holds d (e.viaRow (execDramTempRead channel celsius)) :=
  have ⟨hdmc, _⟩ := h
  holds_viaRow (fun _ => rfl) (he.inDmc hdmc)

def cueRefreshReach : Reach := .of [.reg .cueSeq none]

theorem Footprint.holds.cueRefresh (he : F.holds d e) (h : cueRefreshReach.within F d) :
    F.holds d (Dev.cueRefresh e) :=
  have ⟨hCueSeq, _⟩ := h
  (he.each (fun _ _ ho => by
    split
    · exact ho.put hCueSeq .any
    · exact ho.put hCueSeq .any)).foldl (fun _ _ ho1 => by
    split
    · exact ho1.put hCueSeq .any
    · exact ho1)

def cueRequestReach : Reach := .of [.area .mgt, cueRefreshReach]

theorem Footprint.holds.cueRequest {k'} (he : F.holds d e) (h : cueRequestReach.within F d) :
    F.holds d (Dev.cueRequest e k') :=
  have ⟨hmgt, hcueRefresh, _⟩ := h
  (he.inMgt hmgt).cueRefresh hcueRefresh

def execGroupResetReach (i : Option Nat) : Reach := .of [refuseReach i, cueRequestReach]

theorem Footprint.holds.execGroupReset {req : Fin 5} {group} (he : F.holds d e) (h : (execGroupResetReach i).within F d)
    (hi : Among i req.val) :
    F.holds d (e.viaRow (execGroupReset req group)) :=
  have ⟨hrefuse, hcueRequest, _⟩ := h
  holds_viaRow (fun _ => rfl) (holds_ite (he.refuse hrefuse hi) (holds_ite (he.refuse hrefuse hi) (he.cueRequest hcueRequest)))

def execRetrainSliceReach (i : Option Nat) : Reach := .of [.field .dmcStatus i 28 1, .area .dmc]

theorem Footprint.holds.execRetrainSlice {channel : Fin 16} {readEye writeEye} (he : F.holds d e)
    (h : (execRetrainSliceReach i).within F d) (hi : Among i channel.val) :
    F.holds d (e.viaRow (execRetrainSlice channel readEye writeEye)) :=
  have ⟨hDmcStatus28, hdmc, _⟩ := h
  holds_viaRow (fun _ => rfl) ((he.setBit hDmcStatus28 hi).inDmc hdmc)

def execKickReach : Reach := .of [.area .mgt]

theorem Footprint.holds.execKick {core} (he : F.holds d e) (h : execKickReach.within F d) :
    F.holds d (e.viaRow (execKick core)) :=
  have ⟨hmgt, _⟩ := h
  holds_viaRow (fun _ => rfl) (he.inMgt hmgt)

def nvaEndReach (i : Option Nat) : Reach := .of [.reg .nvaOpStatus i]

theorem Footprint.holds.nvaEnd {r' : Nat} {e'} (he : F.holds d e) (h : (nvaEndReach i).within F d) (hi : Among i r') :
    F.holds d (Dev.nvaEnd e r' e') :=
  have ⟨hNvaOpStatus, _⟩ := h
  he.put hNvaOpStatus hi

def nvaNoteReach : Reach := .of [.reg .nvaStatus (some 0)]

theorem Footprint.holds.nvaNote (he : F.holds d e) (h : nvaNoteReach.within F d) : F.holds d (Dev.nvaNote e) :=
  have ⟨hNvaStatus, _⟩ := h
  he.each fun _ _ ho => ho.setBit hNvaStatus.field .self

def setOpsReach : Reach := .of [.area .mgt, nvaNoteReach]

theorem Footprint.holds.setOps {ops} (he : F.holds d e) (h : setOpsReach.within F d) :
    F.holds d (Dev.setOps e ops) :=
  have ⟨hmgt, hnvaNote, _⟩ := h
  (he.inMgt hmgt).nvaNote hnvaNote

def execNvaOpGoReach (i : Option Nat) : Reach := .of [.field .nvaOpCtrl i 1 1, refuseReach i, nvaEndReach i, setOpsReach, .reg
  .nvaOpStatus i, .reg .nvaOpDone i]

theorem Footprint.holds.execNvaOpGo {r' : Fin 5} {erase fetch} (he : F.holds d e) (h : (execNvaOpGoReach i).within F d)
    (hi : Among i r'.val) :
    F.holds d (e.viaRow (execNvaOpGo r' erase fetch)) :=
  have ⟨hNvaOpCtrl1, hrefuse, hnvaEnd, hsetOps, hNvaOpStatus, hNvaOpDone, _⟩ := h
  holds_viaRow (fun _ => rfl) <|
    have hd := holds_ite he (he.setBit hNvaOpCtrl1 hi)
    holds_ite
      (hd.refuse hrefuse hi)
      (holds_ite
        ((hd.nvaEnd hnvaEnd hi).refuse hrefuse hi)
        (holds_ite
          ((hd.nvaEnd hnvaEnd hi).refuse hrefuse hi)
          (((hd.setOps hsetOps).put hNvaOpStatus hi).put hNvaOpDone hi)))

def secRefuseReach (i : Option Nat) : Reach := .of [secLastReach, refuseReach i]

theorem Footprint.holds.secRefuse {req : Nat} {e'} (he : F.holds d e) (h : (secRefuseReach i).within F d) (hi : Among i req) :
    F.holds d (Dev.secRefuse e req e') :=
  have ⟨hsecLast, hrefuse, _⟩ := h
  (he.secLast hsecLast).refuse hrefuse hi

def startBurnReach (i : Option Nat) : Reach := .of [.field .secStatus (some 0) 27 1, secRefuseReach i, .area .sec]

theorem Footprint.holds.startBurn {req : Nat} {vpp b} (he : F.holds d e) (h : (startBurnReach i).within F d) (hi : Among i req) :
    F.holds d (Dev.startBurn e req vpp b) :=
  have ⟨hSecStatus27, hsecRefuse, hsec, _⟩ := h
  have hd1 := he.setBit hSecStatus27 .self
  holds_ite (hd1.secRefuse hsecRefuse hi) (hd1.inSec hsec)

def execLcGoReach (i : Option Nat) : Reach := .of [secRefuseReach i, startBurnReach i, secActionReach i]

theorem Footprint.holds.execLcGo {req : Fin 5} {vpp} (he : F.holds d e) (h : (execLcGoReach i).within F d)
    (hi : Among i req.val) :
    F.holds d (e.viaRow (execLcGo req vpp)) :=
  have ⟨hsecRefuse, hstartBurn, hsecAction, _⟩ := h
  holds_viaRow (fun _ => rfl) <|
    he.secAction hsecAction hi (fun _ ho => holds_ite
      (ho.secRefuse hsecRefuse hi)
      (holds_ite (ho.secRefuse hsecRefuse hi) (ho.startBurn hstartBurn hi)))

def stopFreeReach : Reach := .of [.area .pos]

theorem Footprint.holds.stopFree {u} (he : F.holds d e) (h : stopFreeReach.within F d) :
    F.holds d (Dev.stopFree e u) :=
  have ⟨hpos, _⟩ := h
  he.inPos hpos

def execStopClrReach : Reach := .of [.field .posStatus (some 0) 12 4, stopFreeReach]

theorem Footprint.holds.execStopClr (he : F.holds d e) (h : execStopClrReach.within F d) :
    F.holds d (e.viaRow execStopClr) :=
  have ⟨hPosStatus12, hstopFree, _⟩ := h
  holds_viaRow (fun _ => rfl) (holds_ite he ((he.setFld hPosStatus12 .self).stopFree hstopFree))

def execVceilDownReach (i : Option Nat) : Reach := .of [secRefuseReach i, startBurnReach i, secActionReach i]

theorem Footprint.holds.execVceilDown {req : Fin 5} {vpp} (he : F.holds d e) (h : (execVceilDownReach i).within F d)
    (hi : Among i req.val) :
    F.holds d (e.viaRow (execVceilDown req vpp)) :=
  have ⟨hsecRefuse, hstartBurn, hsecAction, _⟩ := h
  holds_viaRow (fun _ => rfl) (he.secAction hsecAction hi (fun _ ho => holds_ite (ho.secRefuse hsecRefuse hi)
    (ho.startBurn hstartBurn hi)))

def execFloorUpReach (i : Option Nat) : Reach := .of [secRefuseReach i, startBurnReach i, secActionReach i]

theorem Footprint.holds.execFloorUp {req : Fin 5} {vpp} (he : F.holds d e) (h : (execFloorUpReach i).within F d)
    (hi : Among i req.val) :
    F.holds d (e.viaRow (execFloorUp req vpp)) :=
  have ⟨hsecRefuse, hstartBurn, hsecAction, _⟩ := h
  holds_viaRow (fun _ => rfl) <|
    he.secAction hsecAction hi (fun _ ho => holds_ite
      (ho.secRefuse hsecRefuse hi)
      (holds_ite (ho.secRefuse hsecRefuse hi) (ho.startBurn hstartBurn hi)))

def execRevokeReach (i : Option Nat) : Reach := .of [secRefuseReach i, startBurnReach i, secActionReach i]

theorem Footprint.holds.execRevoke {req : Fin 5} {vpp} (he : F.holds d e) (h : (execRevokeReach i).within F d)
    (hi : Among i req.val) :
    F.holds d (e.viaRow (execRevoke req vpp)) :=
  have ⟨hsecRefuse, hstartBurn, hsecAction, _⟩ := h
  holds_viaRow (fun _ => rfl) (he.secAction hsecAction hi (fun _ ho => holds_ite (ho.secRefuse hsecRefuse hi)
    (ho.startBurn hstartBurn hi)))

def execRootProgReach (i : Option Nat) : Reach := .of [secRefuseReach i, startBurnReach i, secActionReach i]

theorem Footprint.holds.execRootProg {req : Fin 5} {vpp} (he : F.holds d e) (h : (execRootProgReach i).within F d)
    (hi : Among i req.val) :
    F.holds d (e.viaRow (execRootProg req vpp)) :=
  have ⟨hsecRefuse, hstartBurn, hsecAction, _⟩ := h
  holds_viaRow (fun _ => rfl) <|
    he.secAction hsecAction hi (fun _ ho => holds_ite
      (ho.secRefuse hsecRefuse hi)
      (holds_ite (ho.secRefuse hsecRefuse hi) (ho.startBurn hstartBurn hi)))

def execKeyInstallReach (i : Option Nat) : Reach := .of [secRefuseReach i, .area .sec, secLastReach, secActionReach i]

theorem Footprint.holds.execKeyInstall {req : Fin 5} {root signature} (he : F.holds d e) (h : (execKeyInstallReach i).within F d)
    (hi : Among i req.val) :
    F.holds d (e.viaRow (execKeyInstall req root signature)) :=
  have ⟨hsecRefuse, hsec, hsecLast, hsecAction, _⟩ := h
  holds_viaRow (fun _ => rfl) <|
    he.secAction hsecAction hi (fun _ ho => holds_ite
      (ho.secRefuse hsecRefuse hi)
      (by
        split
        · exact ho.secRefuse hsecRefuse hi
        · exact (ho.inSec hsec).secLast hsecLast))

def execL1ExitCompleteReach : Reach := .of [.field .pcieStatus (some 0) 16 1, .area .hst, vectorReach]

theorem Footprint.holds.execL1ExitComplete (he : F.holds d e) (h : execL1ExitCompleteReach.within F d) :
    F.holds d (e.viaRow execL1ExitComplete) :=
  have ⟨hPcieStatus16, hhst, hvector, _⟩ := h
  holds_viaRow (fun _ => rfl) (((he.setBit hPcieStatus16 .self).inHst hhst).foldl
    (fun _ _ ho2 => holds_ite ho2 (ho2.vecDue hvector)))

def execStartupBeginReach : Reach := .of [.area .sys, .field .pwrStatus (some 0) 24 1, .field .ptnStatus (some 0) 27 1]

theorem Footprint.holds.execStartupBegin {pairId io33} (he : F.holds d e) (h : execStartupBeginReach.within F d) :
    F.holds d (e.viaRow (execStartupBegin pairId io33)) :=
  have ⟨hsys, hPwrStatus24, hPtnStatus27, _⟩ := h
  holds_viaRow (fun _ => rfl) (holds_ite he (((he.inSys hsys).setBit hPwrStatus24 .self).setBit hPtnStatus27 .self))

def setCalCellReach : Reach := .of [.area .sys]

theorem Footprint.holds.setCalCell {i' k' c} (he : F.holds d e) (h : setCalCellReach.within F d) :
    F.holds d (Dev.setCalCell e i' k' c) :=
  have ⟨hsys, _⟩ := h
  he.inSys hsys

def calRaiseReach : Reach := .of [.area .sys, .area .raised]

theorem Footprint.holds.calRaise {i' cause} (he : F.holds d e) (h : calRaiseReach.within F d) :
    F.holds d (Dev.calRaise e i' cause) :=
  have ⟨hsys, hraised, _⟩ := h
  holds_ite (holds_ite he ((he.inSys hsys).raise hraised)) (he.raise hraised)

def calAbortReach : Reach := .of [setCalCellReach, .reg .calEvent (some 0), calRaiseReach]

theorem Footprint.holds.calAbort {n k cause} (he : F.holds d e) (h : calAbortReach.within F d) :
    F.holds d (Dev.calAbort e n k cause) :=
  have ⟨hsetCalCell, hCalEvent, hcalRaise, _⟩ := h
  ((he.setCalCell hsetCalCell).setBit hCalEvent.field .self).calRaise hcalRaise

def storeSetReach : Reach := .of [.area .sys]

theorem Footprint.holds.storeSet {i' k' v} (he : F.holds d e) (h : storeSetReach.within F d) :
    F.holds d (Dev.storeSet e i' k' v) :=
  have ⟨hsys, _⟩ := h
  holds_ite (he.each (fun _ _ ho => ho.inSys hsys)) he

def calApplyReach : Reach := .of [setCalCellReach, storeSetReach]

theorem Footprint.holds.calApply {i' k' m1 m2} (he : F.holds d e) (h : calApplyReach.within F d) :
    F.holds d (Dev.calApply e i' k' m1 m2) :=
  have ⟨hsetCalCell, hstoreSet, _⟩ := h
  (he.setCalCell hsetCalCell).storeSet hstoreSet

def calPlaceReach : Reach := .of [calAbortReach, calApplyReach]

theorem Footprint.holds.calPlace {i' r'} (he : F.holds d e) (h : calPlaceReach.within F d) :
    F.holds d (Dev.calPlace e i' r') :=
  have ⟨hcalAbort, hcalApply, _⟩ := h
  holds_ite
    he
    (holds_ite (he.calAbort hcalAbort) (holds_ite (he.calAbort hcalAbort) (he.calApply hcalApply)))

def execCalRunDoneReach : Reach := .of [calPlaceReach, .area .sys]

theorem Footprint.holds.execCalRunDone {item results} (he : F.holds d e) (h : execCalRunDoneReach.within F d) :
    F.holds d (e.viaRow (execCalRunDone item results)) :=
  have ⟨hcalPlace, hsys, _⟩ := h
  holds_viaRow (fun _ => rfl) ((he.foldl (fun _ _ ho => ho.calPlace hcalPlace)).inSys hsys)

def execPrbsCheckerLockReach (i : Option Nat) : Reach := .of [setLaneReach, .field .lneStatus i 1 1]

theorem Footprint.holds.execPrbsCheckerLock {lane : Fin 1024} (he : F.holds d e) (h : (execPrbsCheckerLockReach i).within F d)
    (hi : Among i lane.val) :
    F.holds d (e.viaRow (execPrbsCheckerLock lane)) :=
  have ⟨hsetLane, hLneStatus1, _⟩ := h
  holds_viaRow (fun _ => rfl) (holds_ite he ((he.setLane hsetLane).setBit hLneStatus1 hi))

def setRefOkReach : Reach := .of [.field .lneGlbStatus (some 0) 2 2]

theorem Footprint.holds.setRefOk {refB b} (he : F.holds d e) (h : setRefOkReach.within F d) : F.holds d (Dev.setRefOk e refB b) :=
  have ⟨hLneGlbStatus2, _⟩ := h
  he.setBit (hLneGlbStatus2.sub (by split <;> omega) (by split <;> omega)) .self

def execReferenceGoodReach : Reach := .of [setRefOkReach, setRefReach, .field .cluStatus none 29 1, .field .cluStatus none 31 1,
  .area .lne, laneDeepReach]

theorem Footprint.holds.execReferenceGood {refB} (he : F.holds d e) (h : execReferenceGoodReach.within F d) :
    F.holds d (e.viaRow (execReferenceGood refB)) :=
  have ⟨hsetRefOk, hsetRef, hCluStatus29, hCluStatus31, hlne, hlaneDeep, _⟩ := h
  holds_viaRow (fun _ => rfl) <|
    (he.setRefOk hsetRefOk).each (fun _ _ ho1 => holds_ite
      ((ho1.setRef hsetRef).setBit hCluStatus29 .any)
      (holds_ite
        ho1
        ((((ho1.setRef hsetRef).setBit hCluStatus31 .any).inLne hlne).each
          (fun _ _ ho4 => holds_ite (ho4.laneDeep hlaneDeep) ho4))))

def prbsStopReach (i : Option Nat) : Reach := .of [.reg .lnePrbsBits i, setLaneReach, .field .lneStatus i 1 1]

theorem Footprint.holds.prbsStop {l' : Nat} (he : F.holds d e) (h : (prbsStopReach i).within F d) (hi : Among i l') :
    F.holds d (Dev.prbsStop e l') :=
  have ⟨hLnePrbsBits, hsetLane, hLneStatus1, _⟩ := h
  ((he.put hLnePrbsBits hi).setLane hsetLane).setBit hLneStatus1 hi

def execPrbsCheckerLockLossReach (i : Option Nat) : Reach := .of [.reg .lnePrbsErr i, prbsStopReach i, .reg .lneLockLoss i]

theorem Footprint.holds.execPrbsCheckerLockLoss {lane : Fin 1024} {errors} (he : F.holds d e)
    (h : (execPrbsCheckerLockLossReach i).within F d) (hi : Among i lane.val) :
    F.holds d (e.viaRow (execPrbsCheckerLockLoss lane errors)) :=
  have ⟨hLnePrbsErr, hprbsStop, hLneLockLoss, _⟩ := h
  holds_viaRow (fun _ => rfl) (holds_ite he (((he.put hLnePrbsErr hi).prbsStop hprbsStop hi).count hLneLockLoss hi))

end
end Sys2Proof.Machine
end

section
open Sys2Proof
namespace Sys2Proof.Machine

/-! ### Footprints that name a cell of a register twice -/

/-- What lies within a footprint that names nothing of DRAM lies within a larger one. -/
theorem Reach.within.mono {F G : Footprint} {d : Dev} {x : Reach} (h : x.within F d) (hdram : F.dram = [])
    (hareas : F.areas ⊆ G.areas) (htouches : F.touches ⊆ G.touches) : x.within G d := by
  have hany {r : Reg} {k b : Nat} (ht : F.touches.any (fun t => t.covers r k b) = true) :
      G.touches.any (fun t => t.covers r k b) = true := by
    obtain ⟨t, hmem, hcov⟩ := List.any_eq_true.mp ht
    exact List.any_eq_true.mpr ⟨t, htouches hmem, hcov⟩
  induction x with
  | nothing => trivial
  | area p => exact hareas h
  | field r i l w => exact fun k hk b hb hw h64 => hany (h k hk b hb hw h64)
  | log => exact absurd h.1 (by simp [hdram])
  | page i => exact fun n hn k r j high hr b hb => hany (h n hn k r j high hr b hb)
  | both a b iha ihb => exact ⟨iha h.1, ihb h.2⟩

/-- The registers of a task's row, and the change that waits at task 7. -/
theorem execTaskDueCmdReach_within {d : Dev} {task : Fin 8} {change : Bool} {next : Nat} :
    (execTaskDueCmdReach (some task.val)).within (footprint d (.taskDueCmd task change next)) d :=
  have htask : (taskDueReach (some task.val)).within (.of [.pwr] [.one .pwrTaskStatus task.val] [] []) d := .of_fits rfl
  have hlast : (Reach.field .pwrTaskStatus (some 7) 31 1).within (.of [] [.oneBits .pwrTaskStatus 7 0x80000000] [] []) d :=
    .of_fits rfl
  ⟨htask.mono rfl (List.Subset.refl _) (List.subset_cons_self _ _),
    hlast.mono rfl (List.nil_subset _) (List.cons_subset_cons _ (List.nil_subset _)), trivial⟩

end Sys2Proof.Machine
end

section
open Sys2Proof
namespace Sys2Proof.Machine

theorem framed_of_one_area {d : Dev} (c : Instr) (h : (footprint d c).hasBreadth 1 = true) : Framed c := by
  cases c with
  | load req =>
    exact .of_row (fun _ he => he.execLoad (i := some req.val) (.of_fits rfl) .self) fun _ => rfl
  | discard req =>
    exact .of_row (fun _ he => he.execDiscard (i := some req.val) (.of_fits rfl) .self) fun _ => rfl
  | hotCommitPoint =>
    exact .of_row (fun _ he => he.execHotCommitPoint (.of_fits rfl)) fun _ => rfl
  | encWireFault input =>
    exact .of_row (fun _ he => he.execEncWireFault (i := some input.val) (.of_fits rfl) .self) fun _ => rfl
  | encWireClear input =>
    exact .of_row (fun _ he => he.execEncWireClear (i := some input.val) (.of_fits rfl) .self) fun _ => rfl
  | stopClr =>
    exact .of_row (fun _ he => he.execStopClr (.of_fits rfl)) fun _ => rfl
  | seekDone =>
    exact .of_row (fun _ he => he.execSeekDone (.of_fits rfl)) fun _ => rfl
  | compressSymbols =>
    exact .of_row (fun _ he => he.execCompressSymbols (.of_fits rfl)) fun _ => rfl
  | compressFlush =>
    exact .of_row (fun _ he => he.execCompressFlush (.of_fits rfl)) fun _ => rfl
  | healthFold =>
    exact .of_row (fun _ he => he.execHealthFold (.of_fits rfl)) fun _ => rfl
  | commit req port =>
    exact .of_row (fun _ he => he.execCommit (i := some req.val) (j := some port.val) (.of_fits rfl) .self .self) fun _ => rfl
  | sample =>
    exact .of_row (fun _ he => he.execSample (.of_fits rfl)) fun _ => rfl
  | echoWord =>
    exact .of_row (fun _ he => he.execEchoWord (.of_fits rfl)) fun _ => rfl
  | camMeta =>
    exact .of_row (fun _ he => he.execCamMeta (.of_fits rfl)) fun _ => rfl
  | echo =>
    exact .of_row (fun _ he => he.execEcho (.of_fits rfl)) fun _ => rfl
  | camEvent =>
    exact .of_row (fun _ he => he.execCamEvent (.of_fits rfl)) fun _ => rfl
  | gtDataAccess req pipe =>
    exact .of_row (fun _ he => he.execGtDataAccess (i := some req.val) (j := some pipe.val) (.of_fits rfl) .self .self) fun _ =>
      rfl
  | ethFrameTransmit ep =>
    exact .of_row (fun _ he => he.execEthFrameTransmit (i := some ep.val) (.of_fits rfl) .self) fun _ => rfl
  | txtsPop =>
    exact .of_row (fun _ he => he.execTxtsPop (.of_fits rfl)) fun _ => rfl
  | d3hotEntry =>
    exact .of_row (fun _ he => he.execD3hotEntry (.of_fits rfl)) fun _ => rfl
  | msixTimer =>
    exact .of_row (fun _ he => he.execMsixTimer (.of_fits rfl)) fun _ => rfl
  | msixUnmask =>
    exact .of_row (fun _ he => he.execMsixUnmask (.of_fits rfl)) fun _ => rfl
  | tsuStep req =>
    exact .of_row (fun _ he => he.execTsuStep (req := req) (.of_fits rfl)) fun _ => rfl
  | tsuSet req =>
    exact .of_row (fun _ he => he.execTsuSet (req := req) (.of_fits rfl)) fun _ => rfl
  | toutArm req t =>
    exact .of_row (fun _ he => he.execToutArm (i := some req.val) (j := some t.val) (.of_fits rfl) .self .self) fun _ => rfl
  | pcap link pairId =>
    exact .of_row (fun _ he => he.execPcap (link := link) (pairId := pairId) (.of_fits rfl)) fun _ => rfl
  | mirrorLinkRetry =>
    exact .of_row (fun _ he => he.execMirrorLinkRetry (.of_fits rfl)) fun _ => rfl
  | dailySend =>
    exact .of_row (fun _ he => he.execDailySend (.of_fits rfl)) fun _ => rfl
  | speedHoldRelease =>
    exact .of_row (fun _ he => he.execSpeedHoldRelease (.of_fits rfl)) fun _ => rfl
  | taskDueCmd task =>
    exact .of_row (fun _ he => he.execTaskDueCmd (i := some task.val) execTaskDueCmdReach_within .self) fun _ => rfl
  | journalWrite =>
    exact .of_row (fun _ he => he.execJournalWrite (.of_fits rfl)) fun _ => rfl
  | ckptNow =>
    exact .of_row (fun _ he => he.execCkptNow (.of_fits rfl)) fun _ => rfl
  | lspFrame port =>
    exact .of_row (fun _ he => he.execLspFrame (i := some port.val) (.of_fits rfl) .self) fun _ => rfl
  | loopResume req loop =>
    exact .of_row (fun _ he => he.execLoopResume (i := some req.val) (j := some loop.val) (.of_fits rfl) .self .self) fun _ => rfl
  | axisPush req axis =>
    exact .of_row (fun _ he => he.execAxisPush (i := some req.val) (j := some axis.val) (.of_fits rfl) .self .self) fun _ => rfl
  | axisHalt axis =>
    exact .of_row (fun _ he => he.execAxisHalt (i := some axis.val) (.of_fits rfl) .self) fun _ => rfl
  | axisAbort axis =>
    exact .of_row (fun _ he => he.execAxisAbort (i := some axis.val) (.of_fits rfl) .self) fun _ => rfl
  | axisHome req axis =>
    exact .of_row (fun _ he => he.execAxisHome (i := some req.val) (j := some axis.val) (.of_fits rfl) .self .self) fun _ => rfl
  | homeEdge axis =>
    exact .of_row (fun _ he => he.execHomeEdge (i := some axis.val) (.of_fits rfl) .self) fun _ => rfl
  | axisRestHold axis =>
    exact .of_row (fun _ he => he.execAxisRestHold (i := some axis.val) (.of_fits rfl) .self) fun _ => rfl
  | laneSignalDetect lane =>
    exact .of_row (fun _ he => he.execLaneSignalDetect (i := some lane.val) (.of_fits rfl) .self) fun _ => rfl
  | injCtrlWrite req lane =>
    exact .of_row (fun _ he => he.execInjCtrlWrite (i := some req.val) (j := some lane.val) (.of_fits rfl) .self .self) fun _ =>
      rfl
  | scanNow =>
    exact .of_row (fun _ he => he.execScanNow (.of_fits rfl)) fun _ => rfl
  | refreshDue =>
    exact .of_row (fun _ he => he.execRefreshDue (.of_fits rfl)) fun _ => rfl
  | dramTempRead =>
    exact .of_row (fun _ he => he.execDramTempRead (.of_fits rfl)) fun _ => rfl
  | groupReset req =>
    exact .of_row (fun _ he => he.execGroupReset (i := some req.val) (.of_fits rfl) .self) fun _ => rfl
  | retrainSlice channel =>
    exact .of_row (fun _ he => he.execRetrainSlice (i := some channel.val) (.of_fits rfl) .self) fun _ => rfl
  | kick =>
    exact .of_row (fun _ he => he.execKick (.of_fits rfl)) fun _ => rfl
  | nvaOpGo r =>
    exact .of_row (fun _ he => he.execNvaOpGo (i := some r.val) (.of_fits rfl) .self) fun _ => rfl
  | irqModTimer =>
    exact .of_row (fun _ he => he.execIrqModTimer (.of_fits rfl)) fun _ => rfl
  | vceilDown req =>
    exact .of_row (fun _ he => he.execVceilDown (i := some req.val) (.of_fits rfl) .self) fun _ => rfl
  | floorUp req =>
    exact .of_row (fun _ he => he.execFloorUp (i := some req.val) (.of_fits rfl) .self) fun _ => rfl
  | revoke req =>
    exact .of_row (fun _ he => he.execRevoke (i := some req.val) (.of_fits rfl) .self) fun _ => rfl
  | rootProg req =>
    exact .of_row (fun _ he => he.execRootProg (i := some req.val) (.of_fits rfl) .self) fun _ => rfl
  | keyInstall req =>
    exact .of_row (fun _ he => he.execKeyInstall (i := some req.val) (.of_fits rfl) .self) fun _ => rfl
  | lcGo req =>
    exact .of_row (fun _ he => he.execLcGo (i := some req.val) (.of_fits rfl) .self) fun _ => rfl
  | startupBegin =>
    exact .of_row (fun _ he => he.execStartupBegin (.of_fits rfl)) fun _ => rfl
  | calRunDone =>
    exact .of_row (fun _ he => he.execCalRunDone (.of_fits rfl)) fun _ => rfl
  | l1ExitComplete =>
    exact .of_row (fun _ he => he.execL1ExitComplete (.of_fits rfl)) fun _ => rfl
  | referenceGood =>
    exact .of_row (fun _ he => he.execReferenceGood (.of_fits rfl)) fun _ => rfl
  | prbsCheckerLock lane =>
    exact .of_row (fun _ he => he.execPrbsCheckerLock (i := some lane.val) (.of_fits rfl) .self) fun _ => rfl
  | prbsCheckerLockLoss lane =>
    exact .of_row (fun _ he => he.execPrbsCheckerLockLoss (i := some lane.val) (.of_fits rfl) .self) fun _ => rfl
  | ethLinkRetry =>
    exact .of_row (fun _ he => he.execEthLinkRetry (.of_fits rfl)) fun _ => rfl
  | registerWrite => exact absurd h (not_hasBreadth_registerWrite (by decide))
  | _ => exact (Bool.false_ne_true h).elim

/-- Settles O56: each command that changes one area of state beside registers runs operations that reach no
further than its footprint. -/
theorem frameOfOneAreaCommands : Obligations.FrameOfOneAreaCommands :=
  fun _ c hu hb _ ht => ⟨exec_pending ht, framed_of_one_area c (Footprint.hasBreadth_of hu hb) _ _ ht⟩

end Sys2Proof.Machine
end

section
open Sys2Proof
namespace Sys2Proof.Machine
section
variable {F : Footprint} {d e : Dev} {i j l m : Option Nat}

/-! ### Operations of the commands that change two areas of state -/

def noteSparesReach : Reach := .of [.field .embGlbCap (some 0) 16 8]

theorem Footprint.holds.noteSpares (he : F.holds d e) (h : noteSparesReach.within F d) :
    F.holds d (Dev.noteSpares e) :=
  have ⟨hEmbGlbCap16, _⟩ := h
  he.setFld hEmbGlbCap16 .self

def engineOutReach (i : Option Nat) : Reach := .of [.field .embStatus i 31 1, .field .embStatus i 30 1, .field .embStatus i 29 1,
  .field .embStatus i 28 1, .field .embStatus i 8 4, .field .embStatus i 0 8, noteSparesReach]

theorem Footprint.holds.engineOut {e' : Nat} {cause} (he : F.holds d e) (h : (engineOutReach i).within F d) (hi : Among i e') :
    F.holds d (Dev.engineOut e e' cause) :=
  have ⟨hEmbStatus31, hEmbStatus30, hEmbStatus29, hEmbStatus28, hEmbStatus8, hEmbStatus0, hnoteSpares, _⟩ := h
  ((((((he.setBit hEmbStatus31 hi).setBit hEmbStatus30 hi).setBit hEmbStatus29 hi).setBit hEmbStatus28 hi).setFld hEmbStatus8
    hi).setFld hEmbStatus0 hi).noteSpares hnoteSpares

def discardRunReach : Reach := .of [setSynReach]

theorem Footprint.holds.discardRun {n} (he : F.holds d e) (h : discardRunReach.within F d) :
    F.holds d (Dev.discardRun e n) :=
  have ⟨hsetSyn, _⟩ := h
  he.setSyn hsetSyn

def substituteReach : Reach := .of [.field .embStatus none 30 1, noteSparesReach, discardRunReach, cueRequestReach]

theorem Footprint.holds.substitute {e' n spare} (he : F.holds d e) (h : substituteReach.within F d) :
    F.holds d (Dev.substitute e e' n spare) :=
  have ⟨hEmbStatus30, hnoteSpares, hdiscardRun, hcueRequest, _⟩ := h
  (((he.setBit hEmbStatus30 .any).noteSpares hnoteSpares).discardRun hdiscardRun).cueRequest hcueRequest

def execRetireReach (i j : Option Nat) : Reach := .of [refuseReach i, engineOutReach j, substituteReach]

theorem Footprint.holds.execRetire {req : Fin 5} {engine : Fin 200} (he : F.holds d e) (h : (execRetireReach i j).within F d)
    (hi : Among i req.val) (hj : Among j engine.val) :
    F.holds d (e.viaRow (execRetire req engine)) :=
  have ⟨hrefuse, hengineOut, hsubstitute, _⟩ := h
  holds_viaRow (fun _ => rfl) <|
    holds_ite
      (he.refuse hrefuse hi)
      (holds_ite
        he
        (by
          split
          · exact he.refuse hrefuse hi
          · exact
              have hd1 := he.engineOut hengineOut hj
              holds_ite (hd1.substitute hsubstitute) hd1))

def execOverspeedReleaseReach : Reach := .of [.area .now, .field .posStatus (some 0) 7 1, speedFreeReach]

theorem Footprint.holds.execOverspeedRelease {time} (he : F.holds d e) (h : execOverspeedReleaseReach.within F d) :
    F.holds d (e.viaRow (execOverspeedRelease time)) :=
  have ⟨hnow, hPosStatus7, hspeedFree, _⟩ := h
  holds_viaRow (fun _ => rfl) (((he.at hnow).setBit hPosStatus7 .self).speedFree hspeedFree)

def txMessageReach : Reach := .of [txToReach, setTxReach]

theorem Footprint.holds.txMessage {q bound ws} (he : F.holds d e) (h : txMessageReach.within F d) :
    F.holds d (Dev.txMessage e q bound ws) :=
  have ⟨htxTo, hsetTx, _⟩ := h
  (he.txTo htxTo).setTx hsetTx

def casEmitReach : Reach := .of [.area .ql, .area .outs, txMessageReach]

theorem Footprint.holds.casEmit {l' type body} (he : F.holds d e) (h : casEmitReach.within F d) :
    F.holds d (Dev.casEmit e l' type body) :=
  have ⟨hql, houts, htxMessage, _⟩ := h
  ((he.inQl hql).send houts).txMessage htxMessage

def sendCascapReach : Reach := .of [casEmitReach]

theorem Footprint.holds.sendCascap {l'} (he : F.holds d e) (h : sendCascapReach.within F d) :
    F.holds d (Dev.sendCascap e l') :=
  have ⟨hcasEmit, _⟩ := h
  he.casEmit hcasEmit

def execCascapReach : Reach := .of [capLinkReach, sendCascapReach]

theorem Footprint.holds.execCascap {link body} (he : F.holds d e) (h : execCascapReach.within F d) :
    F.holds d (e.viaRow (execCascap link body)) :=
  have ⟨hcapLink, hsendCascap, _⟩ := h
  holds_viaRow (fun _ => rfl) (holds_ite he ((he.capLink hcapLink).sendCascap hsendCascap))

def headWordsReach : Reach := .of [txMessageReach]

theorem Footprint.holds.headWords {n type seq body} (he : F.holds d e) (h : headWordsReach.within F d) :
    F.holds d (Dev.headWords e n type seq body) :=
  have ⟨htxMessage, _⟩ := h
  he.txMessage htxMessage

def headSendReach : Reach := .of [setPortReach, .area .outs, headWordsReach]

theorem Footprint.holds.headSend {n type body} (he : F.holds d e) (h : headSendReach.within F d) :
    F.holds d (Dev.headSend e n type body) :=
  have ⟨hsetPort, houts, hheadWords, _⟩ := h
  ((he.setPort hsetPort).send houts).headWords hheadWords

def leavePortReach : Reach := .of [headSendReach, setPortReach]

theorem Footprint.holds.leavePort {n} (he : F.holds d e) (h : leavePortReach.within F d) :
    F.holds d (Dev.leavePort e n) :=
  have ⟨hheadSend, hsetPort, _⟩ := h
  holds_ite he ((he.headSend hheadSend).setPort hsetPort)

def execLeaveReach (i : Option Nat) : Reach := .of [refuseReach i, leavePortReach]

theorem Footprint.holds.execLeave {req : Fin 5} {port} (he : F.holds d e) (h : (execLeaveReach i).within F d)
    (hi : Among i req.val) :
    F.holds d (e.viaRow (execLeave req port)) :=
  have ⟨hrefuse, hleavePort, _⟩ := h
  holds_viaRow (fun _ => rfl) (holds_ite (he.refuse hrefuse hi) (he.leavePort hleavePort))

def xptDropReach : Reach := .of [.reg .xptAuthDrop (some 0)]

theorem Footprint.holds.xptDrop (he : F.holds d e) (h : xptDropReach.within F d) :
    F.holds d (Dev.xptDrop e) :=
  have ⟨hXptAuthDrop, _⟩ := h
  he.count hXptAuthDrop .self

def dropUnitsReach : Reach := .of [.area .ten, .reg .tenDramUsed none]

theorem Footprint.holds.dropUnits {s n use} (he : F.holds d e) (h : dropUnitsReach.within F d) :
    F.holds d (Dev.dropUnits e s n use) :=
  have ⟨hten, hTenDramUsed, _⟩ := h
  (holds_ite (he.inTen hten) (he.put hTenDramUsed .any)).inTen hten

def setCtxReach : Reach := .of [.area .ten]

theorem Footprint.holds.setCtx {s c} (he : F.holds d e) (h : setCtxReach.within F d) :
    F.holds d (Dev.setCtx e s c) :=
  have ⟨hten, _⟩ := h
  he.inTen hten

def tagUnitsReach : Reach := .of [.area .ten]

theorem Footprint.holds.tagUnits {s n use} (he : F.holds d e) (h : tagUnitsReach.within F d) :
    F.holds d (Dev.tagUnits e s n use) :=
  have ⟨hten, _⟩ := h
  he.inTen hten

def takeUnitsReach (i : Option Nat) : Reach := .of [.reg .tenDramUsed i, tagUnitsReach, .reg .tenPoolFree (some 0)]

theorem Footprint.holds.takeUnits {s : Nat} {n use} (he : F.holds d e) (h : (takeUnitsReach i).within F d) (hi : Among i s) :
    F.holds d (Dev.takeUnits e s n use) :=
  have ⟨hTenDramUsed, htagUnits, hTenPoolFree, _⟩ := h
  have hd1 := (he.put hTenDramUsed hi).tagUnits htagUnits
  holds_ite hd1 (hd1.put hTenPoolFree .self)

def setSessReach : Reach := .of [.area .hst]

theorem Footprint.holds.setSess {s x} (he : F.holds d e) (h : setSessReach.within F d) :
    F.holds d (Dev.setSess e s x) :=
  have ⟨hhst, _⟩ := h
  he.inHst hhst

def xptEmitAtReach : Reach := .of [setCtxReach, .area .outs]

theorem Footprint.holds.xptEmitAt {s port v rxNext sack type seq payload} (he : F.holds d e) (h : xptEmitAtReach.within F d) :
    F.holds d (Dev.xptEmitAt e s port v rxNext sack type seq payload) :=
  have ⟨hsetCtx, houts, _⟩ := h
  have hd1 := he.setCtx hsetCtx
  holds_ite hd1 (hd1.send houts)

def xptEmitReach : Reach := .of [setSessReach, xptEmitAtReach]

theorem Footprint.holds.xptEmit {s type seq payload} (he : F.holds d e) (h : xptEmitReach.within F d) :
    F.holds d (Dev.xptEmit e s type seq payload) :=
  have ⟨hsetSess, hxptEmitAt, _⟩ := h
  (he.setSess hsetSess).xptEmitAt hxptEmitAt

def xptSendReach : Reach := .of [setSessReach, xptEmitReach]

theorem Footprint.holds.xptSend {s type payload} (he : F.holds d e) (h : xptSendReach.within F d) :
    F.holds d (Dev.xptSend e s type payload) :=
  have ⟨hsetSess, hxptEmit, _⟩ := h
  holds_ite he (holds_ite (he.setSess hsetSess) ((he.setSess hsetSess).xptEmit hxptEmit))

def xptBindReach : Reach := .of [dropUnitsReach, takeUnitsReach none, setCtxReach, setSessReach, .reg .xptSession none, .field
  .tenState none 0 1, .field .tenState none 1 1, xptSendReach]

theorem Footprint.holds.xptBind {s ep peer port vlan v mb p} (he : F.holds d e) (h : xptBindReach.within F d) :
    F.holds d (Dev.xptBind e s ep peer port vlan v mb p) :=
  have ⟨hdropUnits, htakeUnits, hsetCtx, hsetSess, hXptSession, hTenState0, hTenState1, hxptSend, _⟩ := h
  (((((((holds_ite he (he.dropUnits hdropUnits)).takeUnits htakeUnits .any).setCtx hsetCtx).setSess hsetSess).put hXptSession
    .any).setBit hTenState0 .any).setBit hTenState1 .any).xptSend hxptSend

def xptFlushCqeReach : Reach := .of [setSessReach, xptSendReach]

theorem Footprint.holds.xptFlushCqe {s} (he : F.holds d e) (h : xptFlushCqeReach.within F d) :
    F.holds d (Dev.xptFlushCqe e s) :=
  have ⟨hsetSess, hxptSend, _⟩ := h
  by
    unfold Dev.xptFlushCqe
    dsimp only
    split
    · exact he
    · exact holds_ite ((he.setSess hsetSess).xptSend hxptSend) he

def noteStatusReach (i : Option Nat) : Reach := .of [.reg .tenLastErr i]

theorem Footprint.holds.noteStatus {s : Nat} {status} (he : F.holds d e) (h : (noteStatusReach i).within F d) (hi : Among i s) :
    F.holds d (Dev.noteStatus e s status) :=
  have ⟨hTenLastErr, _⟩ := h
  holds_ite he (he.put hTenLastErr hi)

def xptCqeReach : Reach := .of [setSessReach, xptFlushCqeReach]

theorem Footprint.holds.xptCqe {s pos words} (he : F.holds d e) (h : xptCqeReach.within F d) :
    F.holds d (Dev.xptCqe e s pos words) :=
  have ⟨hsetSess, hxptFlushCqe, _⟩ := h
  have hd1 := he.setSess hsetSess
  holds_ite (hd1.xptFlushCqe hxptFlushCqe) hd1

def writeCqeReach (i : Option Nat) : Reach := .of [setCtxReach, .reg .tenCqTail i, .area .outs, vectorReach, xptCqeReach]

theorem Footprint.holds.writeCqe {s : Nat} {w0 w1 body} (he : F.holds d e) (h : (writeCqeReach i).within F d) (hi : Among i s) :
    F.holds d (Dev.writeCqe e s w0 w1 body) :=
  have ⟨hsetCtx, hTenCqTail, houts, hvector, hxptCqe, _⟩ := h
  have hd1 := (he.setCtx hsetCtx).put hTenCqTail hi
  have hd2 := holds_ite (hd1.send houts) (hd1.setCtx hsetCtx)
  holds_ite
    (hd2.vecEvent hvector)
    (holds_ite (hd2.vecEvent hvector) (holds_ite (hd2.xptCqe hxptCqe) hd2))

def postDoneReach : Reach := .of [setCtxReach, noteStatusReach none, writeCqeReach none]

theorem Footprint.holds.postDone {n s} (he : F.holds d e) (h : postDoneReach.within F d) : F.holds d (Dev.postDone n e s) := by
  obtain ⟨hsetCtx, hnoteStatus, hwriteCqe, -⟩ := h
  induction n generalizing e with
  | zero => exact he
  | succ n ih =>
    unfold Dev.postDone
    split
    · exact he
    · split
      · exact he
      · exact holds_ite (ih (((he.setCtx hsetCtx).noteStatus hnoteStatus .any).writeCqe hwriteCqe .any)) he

def xptHelloReach : Reach := .of [xptDropReach, .area .raised, xptBindReach, xptFlushCqeReach, postDoneReach, xptEmitAtReach]

theorem Footprint.holds.xptHello {ep peer port vlan data} (he : F.holds d e) (h : xptHelloReach.within F d) :
    F.holds d (Dev.xptHello e ep peer port vlan data) :=
  have ⟨hxptDrop, hraised, hxptBind, hxptFlushCqe, hpostDone, hxptEmitAt, _⟩ := h
  by
    unfold Dev.xptHello
    split
    · exact he.xptDrop hxptDrop
    · exact
        holds_ite
          he
          (holds_ite
            (he.raise hraised)
            (holds_ite
              (have hd1 := he.xptBind hxptBind
              (holds_ite (hd1.xptFlushCqe hxptFlushCqe) hd1).postDone hpostDone)
              ((he.raise hraised).xptEmitAt hxptEmitAt)))

def execHelloReach : Reach := .of [xptHelloReach]

theorem Footprint.holds.execHello {ep peer port vlan data} (he : F.holds d e) (h : execHelloReach.within F d) :
    F.holds d (e.viaRow (execHello ep peer port vlan data)) :=
  have ⟨hxptHello, _⟩ := h
  holds_viaRow (fun _ => rfl) (he.xptHello hxptHello)

def execXptAckTimerReach : Reach := .of [.area .draw, xptEmitReach]

theorem Footprint.holds.execXptAckTimer {slot} (he : F.holds d e) (h : execXptAckTimerReach.within F d) :
    F.holds d (e.viaRow (execXptAckTimer slot)) :=
  have ⟨hdraw, hxptEmit, _⟩ := h
  holds_viaRow (fun _ => rfl) (holds_ite ((he.drawn hdraw).xptEmit hxptEmit) he)

def postEventReach (i : Option Nat) : Reach := .of [writeCqeReach i, .reg .tenEvDrop i, setCtxReach]

theorem Footprint.holds.postEvent {s : Nat} {kind es} (he : F.holds d e) (h : (postEventReach i).within F d) (hi : Among i s) :
    F.holds d (Dev.postEvent e s kind es) :=
  have ⟨hwriteCqe, hTenEvDrop, hsetCtx, _⟩ := h
  holds_ite
    (holds_ite (he.foldl (fun _ _ ho => ho.writeCqe hwriteCqe hi)) ((he.count hTenEvDrop hi).setCtx hsetCtx))
    he

def ctxEventReach (i : Option Nat) : Reach := .of [postEventReach i, noteStatusReach i]

theorem Footprint.holds.ctxEvent {s : Nat} {e' low handle fire} (he : F.holds d e) (h : (ctxEventReach i).within F d)
    (hi : Among i s) :
    F.holds d (Dev.ctxEvent e s e' low handle fire) :=
  have ⟨hpostEvent, hnoteStatus, _⟩ := h
  (he.postEvent hpostEvent hi).noteStatus hnoteStatus hi

def stopRingsReach (i : Option Nat) : Reach := .of [.field .tenState i 0 1, .field .tenState i 1 1]

theorem Footprint.holds.stopRings {s : Nat} (he : F.holds d e) (h : (stopRingsReach i).within F d) (hi : Among i s) :
    F.holds d (Dev.stopRings e s) :=
  have ⟨hTenState0, hTenState1, _⟩ := h
  (he.setBit hTenState0 hi).setBit hTenState1 hi

def xptLostReach (i : Option Nat) : Reach := .of [setSessReach, .field .xptSession i 31 1, stopRingsReach i, ctxEventReach
  (some 0), .area .raised]

theorem Footprint.holds.xptLost {s : Nat} (he : F.holds d e) (h : (xptLostReach i).within F d) (hi : Among i s) :
    F.holds d (Dev.xptLost e s) :=
  have ⟨hsetSess, hXptSession31, hstopRings, hctxEvent, hraised, _⟩ := h
  ((((he.setSess hsetSess).setBit hXptSession31 hi).stopRings hstopRings hi).ctxEvent hctxEvent .self).raise hraised

def execXptResendReach (i : Option Nat) : Reach := .of [xptLostReach i, setSessReach, .reg .xptResends i, xptEmitReach]

theorem Footprint.holds.execXptResend {slot : Fin 4096} {seq} (he : F.holds d e) (h : (execXptResendReach i).within F d)
    (hi : Among i slot.val) :
    F.holds d (e.viaRow (execXptResend slot seq)) :=
  have ⟨hxptLost, hsetSess, hXptResends, hxptEmit, _⟩ := h
  holds_viaRow (fun _ => rfl) <|
    by
      dsimp only
      split
      · exact he
      · exact holds_ite (he.xptLost hxptLost hi) (((he.setSess hsetSess).count hXptResends hi).xptEmit hxptEmit)

def execCqeCoalesceTimerReach : Reach := .of [xptFlushCqeReach]

theorem Footprint.holds.execCqeCoalesceTimer {slot} (he : F.holds d e) (h : execCqeCoalesceTimerReach.within F d) :
    F.holds d (e.viaRow (execCqeCoalesceTimer slot)) :=
  have ⟨hxptFlushCqe, _⟩ := h
  holds_viaRow (fun _ => rfl) (he.xptFlushCqe hxptFlushCqe)

/-- The lines of the operations of some requesters may be written. -/
def Dev.linesIn (e : Dev) (F : Footprint) (p : Nat → Bool) : Prop :=
  ∀ o ∈ e.mgt.ops, p o.requester = true → (o.bank * nvaBank + 64 * o.line, 64) ∈ F.nva

theorem linesIn_opLines (d : Dev) (p : Nat → Bool) (hF : F.nva = d.opLines p) : d.linesIn F p :=
  fun o ho hp => hF ▸ List.mem_map.mpr ⟨o, List.mem_filter.mpr ⟨ho, hp⟩, rfl⟩

theorem Dev.linesIn_of_subset {p : Nat → Bool} {e e' : Dev} (h : e.linesIn F p) (hs : e'.mgt.ops ⊆ e.mgt.ops) :
    e'.linesIn F p := fun o ho => h o (hs ho)

theorem Mem.length_readBytes (mem : Mem) (a n : Nat) : (Mem.readBytes mem a n).length = n := by
  induction n generalizing a with
  | zero => rfl
  | succ n ih => simp [Mem.readBytes, ih]

theorem Dev.length_nvaBytes_le (e : Dev) (o : NvaOp) : (e.nvaBytes o).length ≤ 64 := by
  unfold Dev.nvaBytes Dev.coreBytes
  split_ifs <;> simp [Mem.length_readBytes]

def nvaLineReach : Reach := .of [.reg .nvaOpDone none]

theorem Footprint.holds.nvaLine {o : NvaOp} (he : F.holds d e) (h : nvaLineReach.within F d)
    (hl : (o.bank * nvaBank + 64 * o.line, 64) ∈ F.nva) : F.holds d (e.nvaLine o) := by
  obtain ⟨hNvaOpDone, -⟩ := h
  obtain ⟨hareas, htouched, hd, hn⟩ := he
  have hd1 : F.holds d { e with nva := e.nva.writeBytes (o.bank * nvaBank + 64 * o.line) (e.nvaBytes o) } :=
    ⟨onlyAreas_trans hareas (by intro q _; cases q <;> rfl), htouched, hd,
      onlyStored_trans hn (onlyStored_writeBytes _ _ _ hl ⟨le_rfl, Nat.add_le_add_left (e.length_nvaBytes_le o) _⟩)⟩
  exact holds_ite hd1 (hd1.put hNvaOpDone .any)


def nvaAbandonReach (i : Option Nat) : Reach := .of [nvaLineReach, setOpsReach, .reg .nvaOpStatus i,
  eventReach .nvaEvent (some 0) 0, eventReach .nvaEvent (some 0) 1, .area .raised]

theorem Footprint.holds.nvaAbandon {r : Nat} {p : Nat → Bool} (he : F.holds d e) (h : (nvaAbandonReach i).within F d)
    (hi : Among i r) (hl : e.linesIn F p) (hp : p r = true) : F.holds d (e.nvaAbandon r) := by
  obtain ⟨hnvaLine, hsetOps, hNvaOpStatus, hNvaEvent0, hNvaEvent1, hraised, -⟩ := h
  unfold Dev.nvaAbandon
  split
  · exact he
  next o ho =>
    have hreq : o.requester = r := by simpa using List.find?_some ho
    have hd1 := holds_ite (c := (e.nvaServed o.bank == some o) = true)
      (he.nvaLine hnvaLine (hl o (List.mem_of_find?_eq_some ho) (hreq ▸ hp))) he
    have hd2 := hd1.setOps hsetOps (ops := e.mgt.ops.filter fun x => x.requester != r)
    exact holds_ite ((hd2.put hNvaOpStatus hi).event hNvaEvent0 .self)
      (((hd2.put hNvaOpStatus hi).event hNvaEvent1 .self).raise hraised)

/-! What an interrupt source changes leaves the operations on the array. -/

theorem Dev.vecEvent_mgt (e : Dev) (fn v : Nat) : (e.vecEvent fn v).mgt = e.mgt := by
  unfold Dev.vecEvent Dev.vecDue
  dsimp only
  split_ifs <;> rfl

theorem Dev.irqNotify_ops (e : Dev) (src : Nat) : (e.irqNotify src).mgt.ops = e.mgt.ops := by
  unfold Dev.irqNotify
  split_ifs
  · rfl
  · rfl
  · rw [Dev.vecEvent_mgt]
  · rfl

theorem Dev.irqPend_ops (e : Dev) (src : Nat) (b : Bool) : (e.irqPend src b).mgt.ops = e.mgt.ops := by
  unfold Dev.irqPend
  dsimp only
  split_ifs
  · exact Dev.irqNotify_ops _ _
  · rfl

theorem Dev.irqLevel_ops (e : Dev) (src : Nat) (b : Bool) : (e.irqLevel src b).mgt.ops = e.mgt.ops := by
  unfold Dev.irqLevel
  dsimp only
  split_ifs
  · exact Dev.irqPend_ops _ _ _
  · exact Dev.irqPend_ops _ _ _
  · rfl

theorem Dev.irqPulse_ops (e : Dev) (src : Nat) : (e.irqPulse src).mgt.ops = e.mgt.ops :=
  (Dev.irqLevel_ops _ _ _).trans (Dev.irqLevel_ops _ _ _)

theorem Dev.event_ops (e : Dev) (r : Reg) (k b : Nat) : (e.event r k b).mgt.ops = e.mgt.ops := by
  unfold Dev.event Dev.refreshEvent
  split
  · rfl
  · exact Dev.irqLevel_ops _ _ _

theorem Dev.setOps_ops (e : Dev) (ops : List NvaOp) : (e.setOps ops).mgt.ops = ops := rfl

/-- Abandoning the operation of one requester leaves those of the others. -/
theorem Dev.nvaAbandon_ops_subset (e : Dev) (r : Nat) : (e.nvaAbandon r).mgt.ops ⊆ e.mgt.ops := by
  unfold Dev.nvaAbandon
  split
  · exact fun _ h => h
  · dsimp only
    split_ifs <;>
      simp only [Dev.raise_mgt, Dev.event_ops, Dev.nvaEnd, Dev.put_mgt, Dev.setOps_ops] <;>
      exact fun _ h => (List.mem_filter.mp h).1

theorem Dev.coreReset_ops_subset (e : Dev) (c : Nat) : (e.coreReset c).mgt.ops ⊆ e.mgt.ops :=
  e.nvaAbandon_ops_subset c

def coreResetReach (i : Option Nat) : Reach := .of [nvaAbandonReach i, .reg .glbMgmtStatus (some 0), .area .mgt, .area .outs]

theorem Footprint.holds.coreReset {c : Nat} {p : Nat → Bool} (he : F.holds d e) (h : (coreResetReach i).within F d)
    (hi : Among i c) (hl : e.linesIn F p) (hp : p c = true) : F.holds d (e.coreReset c) :=
  have ⟨hnvaAbandon, hGlbMgmtStatus, hmgt, houts, _⟩ := h
  (((he.nvaAbandon hnvaAbandon hi hl hp).setBit hGlbMgmtStatus.field .self).inMgt hmgt).send houts

/-- Each core of a list is reset, one after another. -/
theorem Footprint.holds.each_reset {f : Dev → Nat → Dev} {cs : List Nat} {p : Nat → Bool} (he : F.holds d e)
    (hl : e.linesIn F p) (hp : ∀ c ∈ cs, p c = true) (hsub : ∀ e c, (f e c).mgt.ops ⊆ e.mgt.ops)
    (hf : ∀ e c, F.holds d e → e.linesIn F p → p c = true → F.holds d (f e c)) : F.holds d (e.each cs f) := by
  unfold Dev.each
  induction cs generalizing e with
  | nil => exact he
  | cons c cs ih =>
    exact ih (hf e c he hl (hp c List.mem_cons_self)) (e.linesIn_of_subset hl (hsub e c)) fun c hc => hp c
      (List.mem_cons_of_mem _ hc)

/-- A core that its watchdog resets. -/
def watchdogResetReach (i : Option Nat) : Reach := .of [coreResetReach i, .reg .glbWdtResets i, interruptReach, .area .raised]

theorem Footprint.holds.watchdogReset {c : Nat} {p : Nat → Bool} (he : F.holds d e) (h : (watchdogResetReach i).within F d)
    (hi : Among i c) (hl : e.linesIn F p) (hp : p c = true) :
    F.holds d ((((e.coreReset c).count .glbWdtResets c).irqPulse (1584 + c)).raise .mgmtWdt c) :=
  have ⟨hcoreReset, hGlbWdtResets, hinterrupt, hraised, _⟩ := h
  (((he.coreReset hcoreReset hi hl hp).count hGlbWdtResets hi).irqPulse hinterrupt).raise hraised

def execWatchdogExpireReach (i : Option Nat) : Reach := .of [watchdogResetReach i]

theorem Footprint.holds.execWatchdogExpire {core : Fin 4} (he : F.holds d e) (h : (execWatchdogExpireReach i).within F d)
    (hi : Among i core.val) (hl : e.linesIn F fun r => r == core.val) : F.holds d (e.viaRow (execWatchdogExpire core)) :=
  have ⟨hwatchdogReset, _⟩ := h
  holds_viaRow (fun _ => rfl) (holds_ite he (he.watchdogReset hwatchdogReset hi hl (by simp)))

def execRateReleaseReach : Reach := .of [.area .now, .field .hlGlbStatus (some 0) 31 1, speedFreeReach]

theorem Footprint.holds.execRateRelease {time} (he : F.holds d e) (h : execRateReleaseReach.within F d) :
    F.holds d (e.viaRow (execRateRelease time)) :=
  have ⟨hnow, hHlGlbStatus31, hspeedFree, _⟩ := h
  holds_viaRow (fun _ => rfl) <|
    have hd := he.at hnow
    holds_ite hd ((hd.setBit hHlGlbStatus31 .self).speedFree hspeedFree)

def wakeLinesReach : Reach := .of [.area .mgt]

theorem Footprint.holds.wakeLines (he : F.holds d e) (h : wakeLinesReach.within F d) :
    F.holds d (Dev.wakeLines e) :=
  have ⟨hmgt, _⟩ := h
  he.each (fun _ _ ho => holds_ite (ho.inMgt hmgt) ho)

def execLoadWindowReach : Reach := .of [.area .mgt, .field .glbMgmtStatus (some 0) 0 8, .field .glbMgmtStatus (some 0) 24 4,
  wakeLinesReach, .field .glbMgmtStatus (some 0) 31 1, interruptReach, .area .raised]

theorem Footprint.holds.execLoadWindow {c0 c1 c2 c3 wfi} (he : F.holds d e) (h : execLoadWindowReach.within F d) :
    F.holds d (e.viaRow (execLoadWindow c0 c1 c2 c3 wfi)) :=
  have ⟨hmgt, hGlbMgmtStatus0, hGlbMgmtStatus24, hwakeLines, hGlbMgmtStatus31, hinterrupt, hraised, _⟩ := h
  holds_viaRow (fun _ => rfl) <|
    have hd3 := (((he.inMgt hmgt).setFld hGlbMgmtStatus0 .self).setFld hGlbMgmtStatus24 .self).wakeLines hwakeLines
    holds_ite
      (((hd3.setBit hGlbMgmtStatus31 .self).irqLevel hinterrupt).raise hraised)
      (holds_ite ((hd3.setBit hGlbMgmtStatus31 .self).irqLevel hinterrupt) hd3)

def tellDueReach : Reach := .of [setCtxReach, ctxEventReach none]

theorem Footprint.holds.tellDue {s} (he : F.holds d e) (h : tellDueReach.within F d) :
    F.holds d (Dev.tellDue e s) :=
  have ⟨hsetCtx, hctxEvent, _⟩ := h
  by
    unfold Dev.tellDue
    split
    · exact he
    · exact holds_ite ((he.setCtx hsetCtx).ctxEvent hctxEvent .any) he

def resumeDmaReach : Reach := .of [tellDueReach, postDoneReach]

theorem Footprint.holds.resumeDma {fn} (he : F.holds d e) (h : resumeDmaReach.within F d) :
    F.holds d (Dev.resumeDma e fn) :=
  have ⟨htellDue, hpostDone, _⟩ := h
  he.each (fun _ _ ho => (ho.tellDue htellDue).postDone hpostDone)

def execD0ReturnReach : Reach := .of [setD3Reach, sendPbaReach, resumeDmaReach]

theorem Footprint.holds.execD0Return {fn} (he : F.holds d e) (h : execD0ReturnReach.within F d) :
    F.holds d (e.viaRow (execD0Return fn)) :=
  have ⟨hsetD3, hsendPba, hresumeDma, _⟩ := h
  holds_viaRow (fun _ => rfl) (((he.setD3 hsetD3).sendPba hsendPba).resumeDma hresumeDma)

def execNvaEccErrorReach : Reach := .of [.reg .nvaEccCe (some 0), eventReach .nvaEvent (some 0) 2, .area .raised, .area .outs]

theorem Footprint.holds.execNvaEccError {addr core corrected} (he : F.holds d e) (h : execNvaEccErrorReach.within F d) :
    F.holds d (e.viaRow (execNvaEccError addr core corrected)) :=
  have ⟨hNvaEccCe, hNvaEvent2, hraised, houts, _⟩ := h
  holds_viaRow (fun _ => rfl) <|
    holds_ite
      (he.count hNvaEccCe .self)
      (by
        dsimp only
        split
        · exact ((he.event hNvaEvent2 .self).raise hraised).send houts
        · exact ((he.event hNvaEvent2 .self).raise hraised))

def noteBusyReach : Reach := .of [.field .embStatus none 28 1]

theorem Footprint.holds.noteBusy {n} (he : F.holds d e) (h : noteBusyReach.within F d) :
    F.holds d (Dev.noteBusy e n) :=
  have ⟨hEmbStatus28, _⟩ := h
  by
    unfold Dev.noteBusy
    split
    · exact he
    · exact he.setBit hEmbStatus28 .any

def restartRunsReach : Reach := .of [setSynReach, noteBusyReach]

theorem Footprint.holds.restartRuns {n} (he : F.holds d e) (h : restartRunsReach.within F d) :
    F.holds d (Dev.restartRuns e n) :=
  have ⟨hsetSyn, hnoteBusy, _⟩ := h
  (he.setSyn hsetSyn).noteBusy hnoteBusy

def assignEngineReach : Reach := .of [.field .embStatus none 30 1, .field .embStatus none 29 1, .field .embStatus none 0 8, .field
  .synStatus none 24 8, noteSparesReach]

theorem Footprint.holds.assignEngine {e' n} (he : F.holds d e) (h : assignEngineReach.within F d) :
    F.holds d (Dev.assignEngine e e' n) :=
  have ⟨hEmbStatus30, hEmbStatus29, hEmbStatus0, hSynStatus24, hnoteSpares, _⟩ := h
  ((((he.setBit hEmbStatus30 .any).setBit hEmbStatus29 .any).setFld hEmbStatus0 .any).setFld hSynStatus24
    .any).noteSpares hnoteSpares

def cueBeginReach : Reach := .of [assignEngineReach, restartRunsReach, .field .dmcGrpStatus none 30 1]

theorem Footprint.holds.cueBegin {x} (he : F.holds d e) (h : cueBeginReach.within F d) :
    F.holds d (Dev.cueBegin e x) :=
  have ⟨hassignEngine, hrestartRuns, hDmcGrpStatus30, _⟩ := h
  by
    unfold Dev.cueBegin
    split
    · exact (he.assignEngine hassignEngine).restartRuns hrestartRuns
    · exact he.setBit hDmcGrpStatus30 .any
    · exact he
    · exact he

def cueMarkReach : Reach := .of [.field .tenState none 28 1]

theorem Footprint.holds.cueMark {k' b} (he : F.holds d e) (h : cueMarkReach.within F d) :
    F.holds d (Dev.cueMark e k' b) :=
  have ⟨hTenState28, _⟩ := h
  he.foldl (fun _ _ ho => by
    split
    · exact ho.setBit hTenState28 .any
    · exact ho)

def execCueStartReach : Reach := .of [.area .mgt, cueMarkReach, cueRefreshReach, cueBeginReach]

theorem Footprint.holds.execCueStart (he : F.holds d e) (h : execCueStartReach.within F d) :
    F.holds d (e.viaRow execCueStart) :=
  have ⟨hmgt, hcueMark, hcueRefresh, hcueBegin, _⟩ := h
  holds_viaRow (fun _ => rfl) <|
    by
      split
      · exact (((he.inMgt hmgt).cueMark hcueMark).cueRefresh hcueRefresh).cueBegin hcueBegin
      · exact he

def execClaimReach : Reach := .of [.area .outs, pendReach, .area .mgt]

theorem Footprint.holds.execClaim {reader core fast} (he : F.holds d e) (h : execClaimReach.within F d) :
    F.holds d (e.viaRow (execClaim reader core fast)) :=
  have ⟨houts, hpend, hmgt, _⟩ := h
  holds_viaRow (fun _ => rfl) <|
    holds_ite
      (by
        split
        · exact holds_ite (he.send houts) ((he.send houts).irqPend hpend)
        · exact (he.send houts))
      (Footprint.holds.inMgt (by
        split
        · exact holds_ite (he.send houts) ((he.send houts).irqPend hpend)
        · exact (he.send houts)) hmgt)

def flrSlotReach : Reach := .of [stopRingsReach none, ctxEventReach (some 0), .area .raised]

theorem Footprint.holds.flrSlot {k'} (he : F.holds d e) (h : flrSlotReach.within F d) :
    F.holds d (Dev.flrSlot e k') :=
  have ⟨hstopRings, hctxEvent, hraised, _⟩ := h
  ((he.stopRings hstopRings .any).ctxEvent hctxEvent .self).raise hraised

def execVfFlrReach : Reach := .of [flrSlotReach]

theorem Footprint.holds.execVfFlr {vf} (he : F.holds d e) (h : execVfFlrReach.within F d) :
    F.holds d (e.viaRow (execVfFlr vf)) :=
  have ⟨hflrSlot, _⟩ := h
  holds_viaRow (fun _ => rfl) (holds_ite he (he.each (fun _ _ ho => ho.flrSlot hflrSlot)))

def execIrqMaskClrReach : Reach := .of [.reg .irqMaskSet none, notifyReach]

theorem Footprint.holds.execIrqMaskClr {word value} (he : F.holds d e) (h : execIrqMaskClrReach.within F d) :
    F.holds d (e.viaRow (execIrqMaskClr word value)) :=
  have ⟨hIrqMaskSet, hnotify, _⟩ := h
  holds_viaRow (fun _ => rfl) <| he.each fun _ _ ho =>
    have hd1 := ho.setBit hIrqMaskSet.field .any
    holds_ite (hd1.irqNotify hnotify) hd1

def execIrqPendSetReach : Reach := .of [pendReach]

theorem Footprint.holds.execIrqPendSet {word value} (he : F.holds d e) (h : execIrqPendSetReach.within F d) :
    F.holds d (e.viaRow (execIrqPendSet word value)) :=
  have ⟨hpend, _⟩ := h
  holds_viaRow (fun _ => rfl) (he.each (fun _ _ ho => ho.irqPend hpend))

def execIrqPendClrReach : Reach := .of [pendReach]

theorem Footprint.holds.execIrqPendClr {word value edges} (he : F.holds d e) (h : execIrqPendClrReach.within F d) :
    F.holds d (e.viaRow (execIrqPendClr word value edges)) :=
  have ⟨hpend, _⟩ := h
  holds_viaRow (fun _ => rfl) ((he.each (fun _ _ ho => holds_ite ho (ho.irqPend hpend))).each
    (fun _ _ ho2 => holds_ite ho2 (ho2.irqPend hpend)))

def alignToReach : Reach := .of [setEncReach]

theorem Footprint.holds.alignTo {i' t p} (he : F.holds d e) (h : alignToReach.within F d) :
    F.holds d (Dev.alignTo e i' t p) :=
  have ⟨hsetEnc, _⟩ := h
  he.setEnc hsetEnc

def mirrorBindReach : Reach := .of [mirrorReach]

theorem Footprint.holds.mirrorBind (he : F.holds d e) (h : mirrorBindReach.within F d) :
    F.holds d (Dev.mirrorBind e) :=
  have ⟨hmirror, _⟩ := h
  he.mirror hmirror

def noteTrackReach : Reach := .of [.area .pos]

theorem Footprint.holds.noteTrack (he : F.holds d e) (h : noteTrackReach.within F d) :
    F.holds d (Dev.noteTrack e) :=
  have ⟨hpos, _⟩ := h
  he.inPos hpos

def execZeroReach (i : Option Nat) : Reach := .of [refuseReach i, alignToReach, .area .pos, noteTrackReach, mirrorBindReach]

theorem Footprint.holds.execZero {req : Fin 5} (he : F.holds d e) (h : (execZeroReach i).within F d) (hi : Among i req.val) :
    F.holds d (e.viaRow (execZero req)) :=
  have ⟨hrefuse, halignTo, hpos, hnoteTrack, hmirrorBind, _⟩ := h
  holds_viaRow (fun _ => rfl) <|
    holds_ite
      (he.refuse hrefuse hi)
      ((((he.alignTo halignTo).inPos hpos).noteTrack hnoteTrack).mirrorBind hmirrorBind)

def storeValueReach (i : Option Nat) : Reach := .of [setSynReach, setPageReach i]

theorem Footprint.holds.storeValue {n : Nat} {t v} (he : F.holds d e) (h : (storeValueReach i).within F d) (hi : Among i n) :
    F.holds d (Dev.storeValue e n t v) :=
  have ⟨hsetSyn, hsetPage, _⟩ := h
  by
    unfold Dev.storeValue
    split
    · exact he.setSyn hsetSyn
    · exact he.setPage hsetPage hi

def noteStagedReach (i : Option Nat) : Reach := .of [.field .synStatus i 0 13]

theorem Footprint.holds.noteStaged {n : Nat} (he : F.holds d e) (h : (noteStagedReach i).within F d) (hi : Among i n) :
    F.holds d (Dev.noteStaged e n) :=
  have ⟨hSynStatus0, _⟩ := h
  he.setFld hSynStatus0 hi

def stageWriteReach (i j : Option Nat) : Reach := .of [setSynReach, noteStagedReach j, .field .synStatus j 13 1, refuseReach i]

theorem Footprint.holds.stageWrite {req : Nat} {n : Nat} {t high v} (he : F.holds d e) (h : (stageWriteReach i j).within F d)
    (hi : Among i req) (hj : Among j n) :
    F.holds d (Dev.stageWrite e req n t high v) :=
  have ⟨hsetSyn, hnoteStaged, hSynStatus13, hrefuse, _⟩ := h
  by
    unfold Dev.stageWrite
    dsimp only
    split
    · exact (he.setSyn hsetSyn).noteStaged hnoteStaged hj
    · exact holds_ite ((he.setBit hSynStatus13 hj).refuse hrefuse hi) ((he.setSyn hsetSyn).noteStaged hnoteStaged hj)

def execNztWriteReach (i j : Option Nat) : Reach := .of [refuseReach i, storeValueReach j, mirrorReach, stageWriteReach i j]

theorem Footprint.holds.execNztWrite {req : Fin 5} {port : Fin 192} {target high value} (he : F.holds d e)
    (h : (execNztWriteReach i j).within F d) (hi : Among i req.val) (hj : Among j port.val) :
    F.holds d (e.viaRow (execNztWrite req port target high value)) :=
  have ⟨hrefuse, hstoreValue, hmirror, hstageWrite, _⟩ := h
  holds_viaRow (fun _ => rfl) <|
    holds_ite
      he
      (holds_ite
        (he.refuse hrefuse hi)
        (holds_ite
          (he.refuse hrefuse hi)
          (holds_ite
            (he.refuse hrefuse hi)
            (holds_ite ((he.storeValue hstoreValue hj).mirror hmirror) (he.stageWrite hstageWrite hi hj)))))

def rcReadReach : Reach := .of [.area .outs, .area .latch]

theorem Footprint.holds.rcRead {q high v} (he : F.holds d e) (h : rcReadReach.within F d) :
    F.holds d (Dev.rcRead e q high v) :=
  have ⟨houts, hlatch, _⟩ := h
  holds_ite
    (by
      split
      · exact (he.send houts).inLatch hlatch
      · exact he.send houts)
    ((he.send houts).inLatch hlatch)

def execCtlRcDataAccessReach (i : Option Nat) : Reach := .of [rcReadReach, refuseReach i, setCtlReach, .reg .ctlRcAddr (some 0)]

theorem Footprint.holds.execCtlRcDataAccess {req : Fin 5} {high write} (he : F.holds d e)
    (h : (execCtlRcDataAccessReach i).within F d) (hi : Among i req.val) :
    F.holds d (e.viaRow (execCtlRcDataAccess req high write)) :=
  have ⟨hrcRead, hrefuse, hsetCtl, hCtlRcAddr, _⟩ := h
  holds_viaRow (fun _ => rfl) <|
    holds_ite
      (Footprint.holds.put (by
        split
        · exact he.rcRead hrcRead
        · exact holds_ite (he.refuse hrefuse hi) (he.setCtl hsetCtl)) hCtlRcAddr .self)
      (by
        split
        · exact he.rcRead hrcRead
        · exact holds_ite (he.refuse hrefuse hi) (he.setCtl hsetCtl))

def camWordsReach : Reach := .of [txMessageReach]

theorem Footprint.holds.camWords {c seq body} (he : F.holds d e) (h : camWordsReach.within F d) :
    F.holds d (Dev.camWords e c seq body) :=
  have ⟨htxMessage, _⟩ := h
  he.txMessage htxMessage

def sendCamsetReach : Reach := .of [setPipeReach, .area .outs, camWordsReach]

theorem Footprint.holds.sendCamset {c} (he : F.holds d e) (h : sendCamsetReach.within F d) :
    F.holds d (Dev.sendCamset e c) :=
  have ⟨hsetPipe, houts, hcamWords, _⟩ := h
  ((he.setPipe hsetPipe).send houts).camWords hcamWords

def camChooseReach (i : Option Nat) : Reach := .of [setPipeReach, .area .raised, .field .insStatus i 28 1, .field
  .insStatus i 25 3, .reg .insMinLineNs i, sendCamsetReach]

theorem Footprint.holds.camChoose {c : Nat} (he : F.holds d e) (h : (camChooseReach i).within F d) (hi : Among i c) :
    F.holds d (Dev.camChoose e c) :=
  have ⟨hsetPipe, hraised, hInsStatus28, hInsStatus25, hInsMinLineNs, hsendCamset, _⟩ := h
  holds_ite
    ((he.setPipe hsetPipe).raise hraised)
    (((((he.setBit hInsStatus28 hi).setFld hInsStatus25 hi).put hInsMinLineNs hi).setPipe hsetPipe).sendCamset hsendCamset)

def execCamcapReach (i : Option Nat) : Reach := .of [.reg .insCamId i, setPipeReach, camChooseReach i]

theorem Footprint.holds.execCamcap {pipe : Fin 24} {camId w3 w4} (he : F.holds d e) (h : (execCamcapReach i).within F d)
    (hi : Among i pipe.val) :
    F.holds d (e.viaRow (execCamcap pipe camId w3 w4)) :=
  have ⟨hInsCamId, hsetPipe, hcamChoose, _⟩ := h
  holds_viaRow (fun _ => rfl) (holds_ite he (((he.wr hInsCamId hi).setPipe hsetPipe).camChoose hcamChoose hi))

def sendCapsetReach : Reach := .of [headSendReach]

theorem Footprint.holds.sendCapset {n} (he : F.holds d e) (h : sendCapsetReach.within F d) :
    F.holds d (Dev.sendCapset e n) :=
  have ⟨hheadSend, _⟩ := h
  he.headSend hheadSend

def linkChooseReach (i : Option Nat) : Reach := .of [setPortReach, .area .raised, .field .linkStatus i 27 2, .field
  .linkStatus i 24 3, .field .linkStatus i 23 1, sendCapsetReach]

theorem Footprint.holds.linkChoose {n : Nat} (he : F.holds d e) (h : (linkChooseReach i).within F d) (hi : Among i n) :
    F.holds d (Dev.linkChoose e n) :=
  have ⟨hsetPort, hraised, hLinkStatus27, hLinkStatus24, hLinkStatus23, hsendCapset, _⟩ := h
  by
    unfold Dev.linkChoose
    dsimp only
    split
    · exact (he.setPort hsetPort).raise hraised
    · exact ((((he.setFld hLinkStatus27 hi).setFld hLinkStatus24 hi).setBit hLinkStatus23 hi).setPort hsetPort).sendCapset
        hsendCapset

def execCapReach (i : Option Nat) : Reach := .of [.reg .headId i, .reg .headCap i, .reg .headTiming i, setPortReach,
  linkChooseReach i]

theorem Footprint.holds.execCap {port : Fin 192} {headId w3 w4 w5} (he : F.holds d e) (h : (execCapReach i).within F d)
    (hi : Among i port.val) :
    F.holds d (e.viaRow (execCap port headId w3 w4 w5)) :=
  have ⟨hHeadId, hHeadCap, hHeadTiming, hsetPort, hlinkChoose, _⟩ := h
  holds_viaRow (fun _ => rfl) <|
    holds_ite
      he
      (((((he.wr hHeadId hi).put hHeadCap hi).put hHeadTiming hi).setPort hsetPort).linkChoose hlinkChoose hi)

def nextCurrentReach : Reach := .of [.field .ctlAxStatus none 8 8, setAxisReach none]

theorem Footprint.holds.nextCurrent {a} (he : F.holds d e) (h : nextCurrentReach.within F d) :
    F.holds d (Dev.nextCurrent e a) :=
  have ⟨hCtlAxStatus8, hsetAxis, _⟩ := h
  holds_ite
    ((he.setFld hCtlAxStatus8 .any).setAxis hsetAxis .any)
    (holds_ite he ((he.setFld hCtlAxStatus8 .any).setAxis hsetAxis .any))

def serveBusReach : Reach := .of [nextCurrentReach, .area .outs]

theorem Footprint.holds.serveBus {b enable} (he : F.holds d e) (h : serveBusReach.within F d) :
    F.holds d (Dev.serveBus e b enable) :=
  have ⟨hnextCurrent, houts, _⟩ := h
  he.each (fun _ _ ho => (ho.nextCurrent hnextCurrent).send houts)

def execAsbCycleReach : Reach := .of [.area .now, serveBusReach]

theorem Footprint.holds.execAsbCycle {bus time} (he : F.holds d e) (h : execAsbCycleReach.within F d) :
    F.holds d (e.viaRow (execAsbCycle bus time)) :=
  have ⟨hnow, hserveBus, _⟩ := h
  holds_viaRow (fun _ => rfl) <|
    have hd1 := he.at hnow
    holds_ite hd1 (hd1.serveBus hserveBus)

def execPersistReach : Reach := .of [.area .img, setOpsReach]

theorem Footprint.holds.execPersist (he : F.holds d e) (h : execPersistReach.within F d) :
    F.holds d (e.viaRow execPersist) :=
  have ⟨himg, hsetOps, _⟩ := h
  holds_viaRow (fun _ => rfl) <|
    by
      split
      · exact (he.inImg himg).setOps hsetOps
      · exact he

def keyedReach (i : Option Nat) : Reach := .of [refuseReach i]

theorem Footprint.holds.keyed {req : Nat} {key} {f : Dev → Dev} (he : F.holds d e) (h : (keyedReach i).within F d)
    (hi : Among i req) (hf : F.holds d (f e)) : F.holds d (e.keyed req key f) :=
  have ⟨hrefuse, _⟩ := h
  holds_ite hf (he.refuse hrefuse hi)

def execGlbResetMgmtReach (i : Option Nat) : Reach := .of [keyedReach i, coreResetReach none]

theorem Footprint.holds.execGlbResetMgmt {req : Fin 5} {key} (he : F.holds d e) (h : (execGlbResetMgmtReach i).within F d)
    (hi : Among i req.val) (hl : e.linesIn F fun r => decide (r < 4)) : F.holds d (e.viaRow (execGlbResetMgmt req key)) :=
  have ⟨hkeyed, hcoreReset, _⟩ := h
  holds_viaRow (fun _ => rfl) <| he.keyed hkeyed hi <|
    he.each_reset hl (by decide) Dev.coreReset_ops_subset fun _ _ ho hlo hp => ho.coreReset hcoreReset .any hlo hp

def execGlbResetCoreReach (i : Option Nat) : Reach := .of [keyedReach i, watchdogResetReach none]

theorem Footprint.holds.execGlbResetCore {req : Fin 5} {key} {cores : BitVec 4} (he : F.holds d e)
    (h : (execGlbResetCoreReach i).within F d) (hi : Among i req.val) (hl : e.linesIn F fun r => bitOf cores.toNat r) :
    F.holds d (e.viaRow (execGlbResetCore req key cores)) :=
  have ⟨hkeyed, hwatchdogReset, _⟩ := h
  holds_viaRow (fun _ => rfl) <| he.keyed hkeyed hi <|
    he.each_reset hl (fun c hc => (List.mem_filter.mp hc).2)
      (fun e c => by simp only [Dev.raise_mgt, Dev.irqPulse_ops, Dev.count_mgt]; exact e.coreReset_ops_subset c)
      fun _ _ ho hlo hp => ho.watchdogReset hwatchdogReset .any hlo hp

def execVersionRetryReach (i : Option Nat) : Reach := .of [linkChooseReach i]

theorem Footprint.holds.execVersionRetry {port : Fin 192} (he : F.holds d e) (h : (execVersionRetryReach i).within F d)
    (hi : Among i port.val) :
    F.holds d (e.viaRow (execVersionRetry port)) :=
  have ⟨hlinkChoose, _⟩ := h
  holds_viaRow (fun _ => rfl) (holds_ite (he.linkChoose hlinkChoose hi) he)

def execToutPulseReach (i : Option Nat) : Reach := .of [.area .outs, interruptReach, .field .toutCtrl i 1 1, setToutReach]

theorem Footprint.holds.execToutPulse {t : Fin 8} (he : F.holds d e) (h : (execToutPulseReach i).within F d)
    (hi : Among i t.val) :
    F.holds d (e.viaRow (execToutPulse t)) :=
  have ⟨houts, hinterrupt, hToutCtrl1, hsetTout, _⟩ := h
  holds_viaRow (fun _ => rfl) <|
    holds_ite
      (have hd1 := (he.send houts).irqPulse hinterrupt
      holds_ite (hd1.setBit hToutCtrl1 hi) (hd1.setTout hsetTout))
      he

def execCameraVersionRetryReach (i : Option Nat) : Reach := .of [camChooseReach i]

theorem Footprint.holds.execCameraVersionRetry {pipe : Fin 24} (he : F.holds d e) (h : (execCameraVersionRetryReach i).within F d)
    (hi : Among i pipe.val) :
    F.holds d (e.viaRow (execCameraVersionRetry pipe)) :=
  have ⟨hcamChoose, _⟩ := h
  holds_viaRow (fun _ => rfl) (holds_ite (he.camChoose hcamChoose hi) he)

def mirrorCellsReach : Reach := .of [mirrorReach]

theorem Footprint.holds.mirrorCells {ks} (he : F.holds d e) (h : mirrorCellsReach.within F d) :
    F.holds d (Dev.mirrorCells e ks) :=
  have ⟨hmirror, _⟩ := h
  holds_ite he (he.mirror hmirror)

def loopClearReach : Reach := .of [.area .ql]

theorem Footprint.holds.loopClear (he : F.holds d e) (h : loopClearReach.within F d) :
    F.holds d (Dev.loopClear e) :=
  have ⟨hql, _⟩ := h
  he.inQl hql

def execQlClearReach : Reach := .of [loopClearReach, mirrorCellsReach]

theorem Footprint.holds.execQlClear (he : F.holds d e) (h : execQlClearReach.within F d) :
    F.holds d (e.viaRow execQlClear) :=
  have ⟨hloopClear, hmirrorCells, _⟩ := h
  holds_viaRow (fun _ => rfl) ((he.loopClear hloopClear).mirrorCells hmirrorCells)

def execHeartbeatLostReach : Reach := .of [.field .ptnStatus (some 0) 25 1, .field .ptnStatus (some 0) 24 1, eventReach .ptnEvent
  (some 0) 4, .area .raised]

theorem Footprint.holds.execHeartbeatLost (he : F.holds d e) (h : execHeartbeatLostReach.within F d) :
    F.holds d (e.viaRow execHeartbeatLost) :=
  have ⟨hPtnStatus25, hPtnStatus24, hPtnEvent4, hraised, _⟩ := h
  holds_viaRow (fun _ => rfl) <|
    have hd1 := he.setBit hPtnStatus25 .self
    holds_ite (((hd1.setBit hPtnStatus24 .self).event hPtnEvent4 .self).raise hraised) hd1

def refSwitchReach : Reach := .of [setRefReach, .reg .cluRefSwitches none, eventReach .lneGlbEvent (some 0) 2, eventReach
  .lneEvent none 6, setLaneStReach none, .field .lneStatus none 0 1, .area .raised]

theorem Footprint.holds.refSwitch {c refB} (he : F.holds d e) (h : refSwitchReach.within F d) :
    F.holds d (Dev.refSwitch e c refB) :=
  have ⟨hsetRef, hCluRefSwitches, hLneGlbEvent2, hLneEvent6, hsetLaneSt, hLneStatus0, hraised, _⟩ := h
  ((((he.setRef hsetRef).count hCluRefSwitches .any).event hLneGlbEvent2 .self).each
    (fun _ _ ho1 => have hd2 := ho1.event hLneEvent6 .any
  holds_ite ((hd2.setLaneSt hsetLaneSt .any).setBit hLneStatus0 .any) hd2)).raise hraised

def execRefBadReach : Reach := .of [setRefOkReach, refSwitchReach, .field .cluStatus none 29 1]

theorem Footprint.holds.execRefBad {refB} (he : F.holds d e) (h : execRefBadReach.within F d) :
    F.holds d (e.viaRow (execRefBad refB)) :=
  have ⟨hsetRefOk, hrefSwitch, hCluStatus29, _⟩ := h
  holds_viaRow (fun _ => rfl) ((he.setRefOk hsetRefOk).each (fun _ _ ho1 => holds_ite (ho1.refSwitch hrefSwitch)
    (ho1.setBit hCluStatus29 .any)))

end
end Sys2Proof.Machine
end

section
open Sys2Proof
namespace Sys2Proof.Machine

/-! ### A nozzle table written: the page of one port -/

theorem Touch.covers_one {r : Reg} {k b : Nat} (hb : b < 64) : (Touch.one r k).covers r k b = true := by
  have hmask : (BitVec.allOnes 64).getLsbD b = true := BitVec.getLsbD_allOnes.trans (decide_eq_true hb)
  simp only [Touch.covers, Touch.one, hmask]
  simp

theorem mem_synPageOf {n j : Nat} {r : Reg} (hr : r ∈ synPage) (hj : j / r.desc.c2 = n) (hc : 0 < r.desc.c2) :
    Touch.one r j ∈ synPageOf n :=
  List.mem_flatMap.mpr ⟨r, hr, List.mem_map.mpr ⟨j % r.desc.c2, List.mem_range.mpr (Nat.mod_lt _ hc), by
    rw [← hj, Nat.div_add_mod]⟩⟩

/-- The page of a port lies within a footprint that names its registers. -/
theorem Reach.within.page {F : Footprint} {d : Dev} {n : Nat} (h : synPageOf n ⊆ F.touches) :
    (Reach.page (some n)).within F d := by
  intro m hm k r j high hpage b hb
  obtain rfl := hm n rfl
  obtain ⟨hr, hj, -⟩ := synPage_of_pageReg hpage
  have hc : 0 < r.desc.c2 := (by decide : ∀ r ∈ synPage, 0 < r.desc.c2) r hr
  exact List.any_eq_true.mpr ⟨Touch.one r j, h (mem_synPageOf hr hj hc), Touch.covers_one hb⟩

theorem execNztWriteReach_within {d : Dev} {req : Fin 5} {port : Fin 192} {target : SynTarget} {high : Bool}
    {value : Word} :
    (execNztWriteReach (some req.val) (some port.val)).within (footprint d (.nztWrite req port target high value)) d :=
  have hpage : (setPageReach (some port.val)).within (footprint d (.nztWrite req port target high value)) d :=
    ⟨.page (List.subset_append_left _ _), trivial⟩
  have hstore : (storeValueReach (some port.val)).within (footprint d (.nztWrite req port target high value)) d :=
    ⟨.of_fits rfl, hpage, trivial⟩
  ⟨.of_fits rfl, hstore, .of_fits rfl, .of_fits rfl, trivial⟩

end Sys2Proof.Machine
end

section
open Sys2Proof
namespace Sys2Proof.Machine

theorem framed_of_two_areas {d : Dev} (c : Instr) (h : (footprint d c).hasBreadth 2 = true) : Framed c := by
  cases c with
  | persist =>
    exact .of_row (fun _ he => he.execPersist (.of_fits rfl)) fun _ => rfl
  | overspeedRelease =>
    exact .of_row (fun _ he => he.execOverspeedRelease (.of_fits rfl)) fun _ => rfl
  | zero req =>
    exact .of_row (fun _ he => he.execZero (i := some req.val) (.of_fits rfl) .self) fun _ => rfl
  | nztWrite req port =>
    exact .of_row (fun _ he => he.execNztWrite (i := some req.val) (j := some port.val) execNztWriteReach_within .self
      .self) fun _ => rfl
  | retire req engine =>
    exact .of_row (fun _ he => he.execRetire (i := some req.val) (j := some engine.val) (.of_fits rfl) .self .self) fun _ => rfl
  | cueStart =>
    exact .of_row (fun _ he => he.execCueStart (.of_fits rfl)) fun _ => rfl
  | cap port =>
    exact .of_row (fun _ he => he.execCap (i := some port.val) (.of_fits rfl) .self) fun _ => rfl
  | versionRetry port =>
    exact .of_row (fun _ he => he.execVersionRetry (i := some port.val) (.of_fits rfl) .self) fun _ => rfl
  | leave req =>
    exact .of_row (fun _ he => he.execLeave (i := some req.val) (.of_fits rfl) .self) fun _ => rfl
  | rateRelease =>
    exact .of_row (fun _ he => he.execRateRelease (.of_fits rfl)) fun _ => rfl
  | camcap pipe =>
    exact .of_row (fun _ he => he.execCamcap (i := some pipe.val) (.of_fits rfl) .self) fun _ => rfl
  | qlClear =>
    exact .of_row (fun _ he => he.execQlClear (.of_fits rfl)) fun _ => rfl
  | cascap =>
    exact .of_row (fun _ he => he.execCascap (.of_fits rfl)) fun _ => rfl
  | hello =>
    exact .of_row (fun _ he => he.execHello (.of_fits rfl)) fun _ => rfl
  | xptAckTimer =>
    exact .of_row (fun _ he => he.execXptAckTimer (.of_fits rfl)) fun _ => rfl
  | xptResend slot =>
    exact .of_row (fun _ he => he.execXptResend (i := some slot.val) (.of_fits rfl) .self) fun _ => rfl
  | cqeCoalesceTimer =>
    exact .of_row (fun _ he => he.execCqeCoalesceTimer (.of_fits rfl)) fun _ => rfl
  | d0Return =>
    exact .of_row (fun _ he => he.execD0Return (.of_fits rfl)) fun _ => rfl
  | vfFlr =>
    exact .of_row (fun _ he => he.execVfFlr (.of_fits rfl)) fun _ => rfl
  | toutPulse t =>
    exact .of_row (fun _ he => he.execToutPulse (i := some t.val) (.of_fits rfl) .self) fun _ => rfl
  | heartbeatLost =>
    exact .of_row (fun _ he => he.execHeartbeatLost (.of_fits rfl)) fun _ => rfl
  | ctlRcDataAccess req =>
    exact .of_row (fun _ he => he.execCtlRcDataAccess (i := some req.val) (.of_fits rfl) .self) fun _ => rfl
  | asbCycle =>
    exact .of_row (fun _ he => he.execAsbCycle (.of_fits rfl)) fun _ => rfl
  | refBad =>
    exact .of_row (fun _ he => he.execRefBad (.of_fits rfl)) fun _ => rfl
  | watchdogExpire core =>
    exact .of_row (fun _ he => he.execWatchdogExpire (i := some core.val) (core := core) (.of_fits rfl) .self
      (linesIn_opLines _ _ rfl)) fun _ => rfl
  | loadWindow =>
    exact .of_row (fun _ he => he.execLoadWindow (.of_fits rfl)) fun _ => rfl
  | nvaEccError =>
    exact .of_row (fun _ he => he.execNvaEccError (.of_fits rfl)) fun _ => rfl
  | claim reader core fast =>
    exact .of_row (o := execClaim reader core fast) (fun _ he => he.execClaim (.of_fits rfl)) fun _ => rfl
  | irqMaskClr =>
    exact .of_row (fun _ he => he.execIrqMaskClr (.of_fits rfl)) fun _ => rfl
  | irqPendSet =>
    exact .of_row (fun _ he => he.execIrqPendSet (.of_fits rfl)) fun _ => rfl
  | irqPendClr =>
    exact .of_row (fun _ he => he.execIrqPendClr (.of_fits rfl)) fun _ => rfl
  | glbResetMgmt req key =>
    exact .of_row (fun _ he => he.execGlbResetMgmt (i := some req.val) (req := req) (key := key) (.of_fits rfl) .self
      (linesIn_opLines _ _ rfl)) fun _ => rfl
  | glbResetCore req key cores =>
    exact .of_row (fun _ he => he.execGlbResetCore (i := some req.val) (req := req) (key := key) (cores := cores) (.of_fits rfl)
      .self (linesIn_opLines _ _ rfl)) fun _ => rfl
  | cameraVersionRetry pipe =>
    exact .of_row (fun _ he => he.execCameraVersionRetry (i := some pipe.val) (.of_fits rfl) .self) fun _ => rfl
  | registerWrite => exact absurd h (not_hasBreadth_registerWrite (by decide))
  | _ => exact (Bool.false_ne_true h).elim

/-- Settles O57: each command that changes two areas of state beside registers runs operations that reach no
further than its footprint. -/
theorem frameOfTwoAreaCommands : Obligations.FrameOfTwoAreaCommands :=
  fun _ c hu hb _ ht => ⟨exec_pending ht, framed_of_two_areas c (Footprint.hasBreadth_of hu hb) _ _ ht⟩

end Sys2Proof.Machine
end

section
open Sys2Proof
namespace Sys2Proof.Machine
section
variable {F : Footprint} {d e : Dev} {i j l m : Option Nat}

/-! ### Operations of the commands that change four to seven areas of state -/

def takeEntryReach : Reach := .of [setCtxReach]

theorem Footprint.holds.takeEntry {s w} (he : F.holds d e) (h : takeEntryReach.within F d) :
    F.holds d (Dev.takeEntry e s w) :=
  have ⟨hsetCtx, _⟩ := h
  he.setCtx hsetCtx

def sqTakeReach (i : Option Nat) : Reach := .of [.reg .tenSqHead i]

theorem Footprint.holds.sqTake {s : Nat} {n} (he : F.holds d e) (h : (sqTakeReach i).within F d) (hi : Among i s) :
    F.holds d (Dev.sqTake e s n) :=
  have ⟨hTenSqHead, _⟩ := h
  he.put hTenSqHead hi

def ensureTakenReach (i : Option Nat) : Reach := .of [takeEntryReach, sqTakeReach i]

theorem Footprint.holds.ensureTaken {s : Nat} {w} (he : F.holds d e) (h : (ensureTakenReach i).within F d) (hi : Among i s) :
    F.holds d (Dev.ensureTaken e s w) :=
  have ⟨htakeEntry, hsqTake, _⟩ := h
  holds_ite
    he
    (have hd1 := he.takeEntry htakeEntry
    holds_ite hd1 (hd1.sqTake hsqTake hi))

def completeReach : Reach := .of [mirrorReach, setCtxReach, postDoneReach]

theorem Footprint.holds.complete {s tag opcode status body} (he : F.holds d e) (h : completeReach.within F d) :
    F.holds d (Dev.complete e s tag opcode status body) :=
  have ⟨hmirror, hsetCtx, hpostDone, _⟩ := h
  ((he.mirror hmirror).setCtx hsetCtx).postDone hpostDone

def entryErrReach : Reach := .of [completeReach, .area .raised]

theorem Footprint.holds.entryErr {s w e'} (he : F.holds d e) (h : entryErrReach.within F d) :
    F.holds d (Dev.entryErr e s w e') :=
  have ⟨hcomplete, hraised, _⟩ := h
  (he.complete hcomplete).raise hraised

def entryReach (i : Option Nat) : Reach := .of [ensureTakenReach i, entryErrReach]

theorem Footprint.holds.entry {s : Nat} {opcode w f} (he : F.holds d e) (h : (entryReach i).within F d) (hi : Among i s)
    (hf : ∀ e, F.holds d e → F.holds d (f e)) :
    F.holds d (Dev.entry e s opcode w f) :=
  have ⟨hensureTaken, hentryErr, _⟩ := h
  holds_ite
    he
    (by
      dsimp only
      split
      · exact (he.ensureTaken hensureTaken hi).entryErr hentryErr
      · exact (hf _ (he.ensureTaken hensureTaken hi)))

def entryOkReach : Reach := .of [completeReach]

theorem Footprint.holds.entryOk {s w body} (he : F.holds d e) (h : entryOkReach.within F d) :
    F.holds d (Dev.entryOk e s w body) :=
  have ⟨hcomplete, _⟩ := h
  he.complete hcomplete

def sweepRegionsReach : Reach := .of [.area .cmp, dropUnitsReach]

theorem Footprint.holds.sweepRegions (he : F.holds d e) (h : sweepRegionsReach.within F d) :
    F.holds d (Dev.sweepRegions e) :=
  have ⟨hcmp, hdropUnits, _⟩ := h
  (he.inCmp hcmp).foldl (fun _ _ ho1 => ho1.dropUnits hdropUnits)

def countRegionsReach (i : Option Nat) : Reach := .of [.reg .cmpRegions (some 0), .field .tenRegions i 0 16]

theorem Footprint.holds.countRegions {s : Nat} (he : F.holds d e) (h : (countRegionsReach i).within F d) (hi : Among i s) :
    F.holds d (Dev.countRegions e s) :=
  have ⟨hCmpRegions, hTenRegions0, _⟩ := h
  (he.put hCmpRegions .self).setFld hTenRegions0 hi

def setRegionReach : Reach := .of [.area .cmp]

theorem Footprint.holds.setRegion {r'} (he : F.holds d e) (h : setRegionReach.within F d) :
    F.holds d (Dev.setRegion e r') :=
  have ⟨hcmp, _⟩ := h
  he.inCmp hcmp

def closeRegionReach : Reach := .of [setRegionReach, countRegionsReach none, sweepRegionsReach]

theorem Footprint.holds.closeRegion {r' req} (he : F.holds d e) (h : closeRegionReach.within F d) :
    F.holds d (Dev.closeRegion e r' req) :=
  have ⟨hsetRegion, hcountRegions, hsweepRegions, _⟩ := h
  ((he.setRegion hsetRegion).countRegions hcountRegions .any).sweepRegions hsweepRegions

def regionCloseReach : Reach := .of [entryErrReach, closeRegionReach, entryOkReach]

theorem Footprint.holds.regionClose {s w} (he : F.holds d e) (h : regionCloseReach.within F d) :
    F.holds d (Dev.regionClose e s w) :=
  have ⟨hentryErr, hcloseRegion, hentryOk, _⟩ := h
  by
    unfold Dev.regionClose
    split
    · exact he.entryErr hentryErr
    · exact holds_ite (he.entryErr hentryErr) ((he.closeRegion hcloseRegion).entryOk hentryOk)

def execRegionCloseReach (i : Option Nat) : Reach := .of [regionCloseReach, entryReach i]

theorem Footprint.holds.execRegionClose {slot : Fin 4096} {w} (he : F.holds d e) (h : (execRegionCloseReach i).within F d)
    (hi : Among i slot.val) :
    F.holds d (e.viaRow (execRegionClose slot w)) :=
  have ⟨hregionClose, hentry, _⟩ := h
  holds_viaRow (fun _ => rfl) (he.entry hentry hi (fun _ ho => ho.regionClose hregionClose))

def setCellReach : Reach := .of [.area .ql]

theorem Footprint.holds.setCell {n m' x} (he : F.holds d e) (h : setCellReach.within F d) :
    F.holds d (Dev.setCell e n m' x) :=
  have ⟨hql, _⟩ := h
  he.inQl hql

def senseEntryReach : Reach := .of [setCellReach]

theorem Footprint.holds.senseEntry {n m' cls} (he : F.holds d e) (h : senseEntryReach.within F d) :
    F.holds d (Dev.senseEntry e n m' cls) :=
  have ⟨hsetCell, _⟩ := h
  holds_ite (he.setCell hsetCell) (holds_ite he (he.setCell hsetCell))

def senseEntriesReach : Reach := .of [senseEntryReach]

theorem Footprint.holds.senseEntries {n ws} (he : F.holds d e) (h : senseEntriesReach.within F d) :
    F.holds d (Dev.senseEntries e n ws).1 := by
  obtain ⟨hsenseEntry, -⟩ := h
  induction ws generalizing e with
  | nil => exact he
  | cons w ws ih =>
    unfold Dev.senseEntries
    dsimp only
    split
    · exact ih (he.senseEntry hsenseEntry)
    · exact ih (he.senseEntry hsenseEntry)

def noteLoopReach : Reach := .of [.field .qlStatus (some 0) 31 1, .field .qlStatus (some 0) 8 8, .field .qlStatus (some 0) 0 8]

theorem Footprint.holds.noteLoop (he : F.holds d e) (h : noteLoopReach.within F d) :
    F.holds d (Dev.noteLoop e) :=
  have ⟨hQlStatus31, hQlStatus8, hQlStatus0, _⟩ := h
  ((he.setBit hQlStatus31 .self).setFld hQlStatus8 .self).setFld hQlStatus0 .self

def decide'Reach : Reach := .of [.reg .qlOuts (some 0), eventReach .qlEvent (some 0) 0, qlLogReach, .area .ql]

theorem Footprint.holds.decide' {ns frame sense} (he : F.holds d e) (h : decide'Reach.within F d) :
    F.holds d (Dev.decide' e ns frame sense) :=
  have ⟨hQlOuts, hQlEvent0, hqlLog, hql, _⟩ := h
  he.foldl (fun _ _ ho => holds_let (((ho.count hQlOuts .self).event hQlEvent0 .self).foldl
    (fun _ _ ho2 => ho2.qlLog hqlLog)) fun hd2 =>
    holds_ite (hd2.inQl hql) hd2)

def execNsenseReach : Reach := .of [senseEntriesReach, decide'Reach, noteLoopReach, mirrorCellsReach]

theorem Footprint.holds.execNsense {port entries} (he : F.holds d e) (h : execNsenseReach.within F d) :
    F.holds d (e.viaRow (execNsense port entries)) :=
  have ⟨hsenseEntries, hdecide', hnoteLoop, hmirrorCells, _⟩ := h
  holds_viaRow (fun _ => rfl) <|
    holds_ite
      he
      ((((he.senseEntries hsenseEntries).decide' hdecide').noteLoop hnoteLoop).mirrorCells hmirrorCells)

def releaseRowReach : Reach := .of [setRowBufReach]

theorem Footprint.holds.releaseRow {n j' line} (he : F.holds d e) (h : releaseRowReach.within F d) :
    F.holds d (Dev.releaseRow e n j' line) :=
  have ⟨hsetRowBuf, _⟩ := h
  holds_ite he (he.setRowBuf hsetRowBuf)

def clearPortReach : Reach := .of [setSynReach, noteBusyReach, releaseRowReach]

theorem Footprint.holds.clearPort {n} (he : F.holds d e) (h : clearPortReach.within F d) :
    F.holds d (Dev.clearPort e n) :=
  have ⟨hsetSyn, hnoteBusy, hreleaseRow, _⟩ := h
  ((he.setSyn hsetSyn).noteBusy hnoteBusy).each (fun _ _ ho1 => ho1.releaseRow hreleaseRow)

def noteOutstandingReach (i : Option Nat) : Reach := .of [.field .linkStatus i 0 5]

theorem Footprint.holds.noteOutstanding {n : Nat} (he : F.holds d e) (h : (noteOutstandingReach i).within F d) (hi : Among i n) :
    F.holds d (Dev.noteOutstanding e n) :=
  have ⟨hLinkStatus0, _⟩ := h
  he.setFld hLinkStatus0 hi

def sendJoinReach (i : Option Nat) : Reach := .of [.reg .joinFire i, setLinkReach i, headSendReach, setPortReach,
  setCreditsReach i, noteOutstandingReach i, clearPortReach]

theorem Footprint.holds.sendJoin {n : Nat} {f} (he : F.holds d e) (h : (sendJoinReach i).within F d) (hi : Among i n) :
    F.holds d (Dev.sendJoin e n f) :=
  have ⟨hJoinFire, hsetLink, hheadSend, hsetPort, hsetCredits, hnoteOutstanding, hclearPort, _⟩ := h
  ((((((he.put hJoinFire hi).setLink hsetLink hi).headSend hheadSend).setPort hsetPort).setCredits hsetCredits hi).noteOutstanding
    hnoteOutstanding hi).clearPort hclearPort

def goReach (i : Option Nat) : Reach := .of [.field .linkStatus i 5 3, .area .raised, sendJoinReach i, setPortReach]

theorem Footprint.holds.go {n : Nat} (he : F.holds d e) (h : (goReach i).within F d) (hi : Among i n) :
    F.holds d (Dev.go e n) :=
  have ⟨hLinkStatus5, hraised, hsendJoin, hsetPort, _⟩ := h
  by
    unfold Dev.go
    split
    · exact (he.setFld hLinkStatus5 hi).raise hraised
    · exact
        have hd1 := he.setFld hLinkStatus5 hi
        holds_ite (hd1.sendJoin hsendJoin hi) (hd1.setPort hsetPort)

def execGoAllReach (i : Option Nat) : Reach := .of [goReach none, .reg .glbLastErr i]

theorem Footprint.holds.execGoAll {req : Fin 5} (he : F.holds d e) (h : (execGoAllReach i).within F d) (hi : Among i req.val) :
    F.holds d (e.viaRow (execGoAll req)) :=
  have ⟨hgo, hGlbLastErr, _⟩ := h
  holds_viaRow (fun _ => rfl) <|
    holds_let (he.each (fun _ _ ho => ho.go hgo .any)) fun hd1 =>
      holds_ite (hd1.put hGlbLastErr hi) hd1

def noteContextsReach : Reach := .of [.reg .tenGlbCount (some 0), .reg .tenGlbParked (some 0)]

theorem Footprint.holds.noteContexts (he : F.holds d e) (h : noteContextsReach.within F d) :
    F.holds d (Dev.noteContexts e) :=
  have ⟨hTenGlbCount, hTenGlbParked, _⟩ := h
  (he.put hTenGlbCount .self).put hTenGlbParked .self

def freeSlotReach (i : Option Nat) : Reach := .of [clearPageReach i, setCtxReach, .field .tenState i 29 3]

theorem Footprint.holds.freeSlot {s : Nat} (he : F.holds d e) (h : (freeSlotReach i).within F d) (hi : Among i s) :
    F.holds d (Dev.freeSlot e s) :=
  have ⟨hclearPage, hsetCtx, hTenState29, _⟩ := h
  ((he.clearPage hclearPage hi).setCtx hsetCtx).setFld hTenState29 hi

def mirrorCtxReach : Reach := .of [mirrorReach]

theorem Footprint.holds.mirrorCtx {s} (he : F.holds d e) (h : mirrorCtxReach.within F d) :
    F.holds d (Dev.mirrorCtx e s) :=
  have ⟨hmirror, _⟩ := h
  he.mirror hmirror

def execCtxZeroDoneReach (i : Option Nat) : Reach := .of [.area .ten, .reg .tenPoolFree (some 0), freeSlotReach i,
  noteContextsReach, mirrorCtxReach, eventReach .tenEvent (some 0) 2, ctxEventReach (some 0)]

theorem Footprint.holds.execCtxZeroDone {slot : Fin 4096} (he : F.holds d e) (h : (execCtxZeroDoneReach i).within F d)
    (hi : Among i slot.val) :
    F.holds d (e.viaRow (execCtxZeroDone slot)) :=
  have ⟨hten, hTenPoolFree, hfreeSlot, hnoteContexts, hmirrorCtx, hTenEvent2, hctxEvent, _⟩ := h
  holds_viaRow (fun _ => rfl) <|
    by
      dsimp only
      split
      · exact he
      · exact
          have hd1 := he.inTen hten
          have hd2 := holds_ite hd1 (hd1.put hTenPoolFree .self)
          holds_ite
            (((((hd2.freeSlot hfreeSlot hi).noteContexts hnoteContexts).mirrorCtx hmirrorCtx).event hTenEvent2
              .self).ctxEvent hctxEvent .self)
            hd2

def missLoopReach (i : Option Nat) : Reach := .of [.field .ctlLoopStatus i 26 1, .reg .ctlLoopMissed i, eventReach .ctlEvent
  (some 0) 0, setCtlReach, .area .raised]

theorem Footprint.holds.missLoop {l' : Nat} (he : F.holds d e) (h : (missLoopReach i).within F d) (hi : Among i l') :
    F.holds d (Dev.missLoop e l') :=
  have ⟨hCtlLoopStatus26, hCtlLoopMissed, hCtlEvent0, hsetCtl, hraised, _⟩ := h
  have hd1 := ((he.setBit hCtlLoopStatus26 hi).count hCtlLoopMissed hi).event hCtlEvent0 .self
  holds_ite ((hd1.setCtl hsetCtl).raise hraised) hd1

def enterHoldReach (i : Option Nat) : Reach := .of [setLoopStReach i, setCtlReach, .field .ctlLoopStatus i 28 1, .reg
  .ctlLoopStale i, .area .raised, .field .ctlLoopStatus i 27 1, .reg .ctlLoopFrozen i, eventReach .ctlEvent (some 0) 1]

theorem Footprint.holds.enterHold {l' : Nat} {stale frozen} (he : F.holds d e) (h : (enterHoldReach i).within F d)
    (hi : Among i l') :
    F.holds d (Dev.enterHold e l' stale frozen) :=
  have ⟨hsetLoopSt, hsetCtl, hCtlLoopStatus28, hCtlLoopStale, hraised, hCtlLoopStatus27, hCtlLoopFrozen, hCtlEvent1, _⟩ := h
  have hd1 := (he.setLoopSt hsetLoopSt hi).setCtl hsetCtl
  have hd2 := holds_ite (((hd1.setBit hCtlLoopStatus28 hi).count hCtlLoopStale hi).raise hraised) hd1
  (holds_ite (((hd2.setBit hCtlLoopStatus27 hi).count hCtlLoopFrozen hi).raise hraised) hd2).event hCtlEvent1 .self

def loopOutReach (i : Option Nat) : Reach := .of [.field .ctlLoopStatus i 0 16, setLspReach]

theorem Footprint.holds.loopOut {l' : Nat} {u} (he : F.holds d e) (h : (loopOutReach i).within F d) (hi : Among i l') :
    F.holds d (Dev.loopOut e l' u) :=
  have ⟨hCtlLoopStatus0, hsetLsp, _⟩ := h
  have hd1 := he.setFld hCtlLoopStatus0 hi
  holds_ite (hd1.setLsp hsetLsp) hd1

def rcLearnReach : Reach := .of [setCtlReach]

theorem Footprint.holds.rcLearn {l' b e'} (he : F.holds d e) (h : rcLearnReach.within F d) :
    F.holds d (Dev.rcLearn e l' b e') :=
  have ⟨hsetCtl, _⟩ := h
  he.setCtl hsetCtl

def evaluateReach (i : Option Nat) : Reach := .of [.area .draw, setCtlReach, .reg .ctlLoopInt i, loopOutReach i, .field
  .ctlLoopStatus i 25 1, rcLearnReach]

theorem Footprint.holds.evaluate {l' : Nat} {frozen} (he : F.holds d e) (h : (evaluateReach i).within F d) (hi : Among i l') :
    F.holds d (Dev.evaluate e l' frozen) :=
  have ⟨hdraw, hsetCtl, hCtlLoopInt, hloopOut, hCtlLoopStatus25, hrcLearn, _⟩ := h
  by
    unfold Dev.evaluate
    dsimp only
    split
    · exact holds_ite ((((((he.drawn hdraw).drawn hdraw).setCtl hsetCtl).putInt hCtlLoopInt hi).loopOut hloopOut hi).setBit
        hCtlLoopStatus25 hi) (((((((he.drawn hdraw).drawn hdraw).setCtl hsetCtl).putInt hCtlLoopInt hi).loopOut hloopOut
        hi).setBit hCtlLoopStatus25 hi).rcLearn hrcLearn)
    · exact ((((((he.drawn hdraw).drawn hdraw).setCtl hsetCtl).putInt hCtlLoopInt hi).loopOut hloopOut hi).setBit hCtlLoopStatus25
        hi)

def evalRunReach (i : Option Nat) : Reach := .of [enterHoldReach i, evaluateReach i, setLoopStReach i, setCtlReach]

theorem Footprint.holds.evalRun {l' : Nat} {stale frozen} (he : F.holds d e) (h : (evalRunReach i).within F d) (hi : Among i l') :
    F.holds d (Dev.evalRun e l' stale frozen) :=
  have ⟨henterHold, hevaluate, hsetLoopSt, hsetCtl, _⟩ := h
  holds_ite
    (he.enterHold henterHold hi)
    (holds_ite
      (he.evaluate hevaluate hi)
      (holds_ite
        (he.enterHold henterHold hi)
        (((he.setLoopSt hsetLoopSt hi).setCtl hsetCtl).evaluate hevaluate hi)))

def evalStaleReach (i : Option Nat) : Reach := .of [enterHoldReach i, setCtlReach, evaluateReach i, setLoopStReach i]

theorem Footprint.holds.evalStale {l' : Nat} {stale frozen} (he : F.holds d e) (h : (evalStaleReach i).within F d)
    (hi : Among i l') :
    F.holds d (Dev.evalStale e l' stale frozen) :=
  have ⟨henterHold, hsetCtl, hevaluate, hsetLoopSt, _⟩ := h
  holds_ite
    (holds_ite (he.enterHold henterHold hi) ((he.setCtl hsetCtl).evaluate hevaluate hi))
    (holds_ite
      ((he.setCtl hsetCtl).evaluate hevaluate hi)
      (holds_ite
        (((he.setLoopSt hsetLoopSt hi).setCtl hsetCtl).evaluate hevaluate hi)
        ((he.setCtl hsetCtl).evaluate hevaluate hi)))

def evalHoldReach (i : Option Nat) : Reach := .of [setCtlReach, setLoopStReach i, evaluateReach i]

theorem Footprint.holds.evalHold {l' : Nat} {stale frozen} (he : F.holds d e) (h : (evalHoldReach i).within F d)
    (hi : Among i l') :
    F.holds d (Dev.evalHold e l' stale frozen) :=
  have ⟨hsetCtl, hsetLoopSt, hevaluate, _⟩ := h
  holds_ite
    (he.setCtl hsetCtl)
    (holds_ite (((he.setLoopSt hsetLoopSt hi).setCtl hsetCtl).evaluate hevaluate hi) (he.setCtl hsetCtl))

def evalLoopReach (i : Option Nat) : Reach := .of [evalRunReach i, evalStaleReach i, evalHoldReach i, loopOutReach i, setCtlReach]

theorem Footprint.holds.evalLoop {l' : Nat} {t} (he : F.holds d e) (h : (evalLoopReach i).within F d) (hi : Among i l') :
    F.holds d (Dev.evalLoop e l' t) :=
  have ⟨hevalRun, hevalStale, hevalHold, hloopOut, hsetCtl, _⟩ := h
  holds_ite
    (he.evalRun hevalRun hi)
    (holds_ite
      (he.evalStale hevalStale hi)
      (holds_ite
        (he.evalHold hevalHold hi)
        (holds_ite (he.loopOut hloopOut hi) (holds_ite he ((he.setCtl hsetCtl).loopOut hloopOut hi)))))

def execLoopEvaluateReach (i : Option Nat) : Reach := .of [.area .now, missLoopReach i, evalLoopReach i]

theorem Footprint.holds.execLoopEvaluate {loop : Fin 256} {missed time} (he : F.holds d e)
    (h : (execLoopEvaluateReach i).within F d) (hi : Among i loop.val) :
    F.holds d (e.viaRow (execLoopEvaluate loop missed time)) :=
  have ⟨hnow, hmissLoop, hevalLoop, _⟩ := h
  holds_viaRow (fun _ => rfl) <|
    have hd1 := he.at hnow
    holds_ite hd1 (holds_ite (hd1.missLoop hmissLoop hi) (hd1.evalLoop hevalLoop hi))

def drainDoneReach : Reach := .of [setCtxReach, .field .tenState none 29 3, .area .cmp, .reg .tenDramUsed none, .reg
  .xptSession none, .area .ten, mirrorCtxReach]

theorem Footprint.holds.drainDone {s} (he : F.holds d e) (h : drainDoneReach.within F d) :
    F.holds d (Dev.drainDone e s) :=
  have ⟨hsetCtx, hTenState29, hcmp, hTenDramUsed, hXptSession, hten, hmirrorCtx, _⟩ := h
  holds_ite
    (((((((he.setCtx hsetCtx).setFld hTenState29 .any).inCmp hcmp).put hTenDramUsed .any).put hXptSession
      .any).inTen hten).mirrorCtx hmirrorCtx)
    he

def afterRetireReach : Reach := .of [sweepRegionsReach, drainDoneReach]

theorem Footprint.holds.afterRetire (he : F.holds d e) (h : afterRetireReach.within F d) :
    F.holds d (Dev.afterRetire e) :=
  have ⟨hsweepRegions, hdrainDone, _⟩ := h
  (he.sweepRegions hsweepRegions).each (fun _ _ ho => ho.drainDone hdrainDone)

def ingestFailReach : Reach := .of [setRegionReach, completeReach, .area .raised, afterRetireReach]

theorem Footprint.holds.ingestFail {j' e' body} (he : F.holds d e) (h : ingestFailReach.within F d) :
    F.holds d (Dev.ingestFail e j' e' body) :=
  have ⟨hsetRegion, hcomplete, hraised, hafterRetire, _⟩ := h
  ((Footprint.holds.complete (by
    split
    · exact he.setRegion hsetRegion
    · exact he) hcomplete).raise hraised).afterRetire hafterRetire

def fmtErrorReach : Reach := .of [.reg .cdcFmtLast (some 0), .reg .cdcFmtCount (some 0)]

theorem Footprint.holds.fmtError {reason slot} (he : F.holds d e) (h : fmtErrorReach.within F d) :
    F.holds d (Dev.fmtError e reason slot) :=
  have ⟨hCdcFmtLast, hCdcFmtCount, _⟩ := h
  (he.put hCdcFmtLast .self).count hCdcFmtCount .self

def ingestMirrorReach : Reach := .of [.area .ptn, mirrorReach]

theorem Footprint.holds.ingestMirror {j'} (he : F.holds d e) (h : ingestMirrorReach.within F d) :
    F.holds d (Dev.ingestMirror e j') :=
  have ⟨hptn, hmirror, _⟩ := h
  (he.inPtn hptn).mirror hmirror

def ingestStoreReach : Reach := .of [ingestFailReach, setRegionReach, completeReach]

theorem Footprint.holds.ingestStore {j'} (he : F.holds d e) (h : ingestStoreReach.within F d) :
    F.holds d (Dev.ingestStore e j') :=
  have ⟨hingestFail, hsetRegion, hcomplete, _⟩ := h
  by
    unfold Dev.ingestStore
    split
    · exact he.ingestFail hingestFail
    · exact
        holds_ite
          (he.ingestFail hingestFail)
          (holds_ite (he.ingestFail hingestFail) ((he.setRegion hsetRegion).complete hcomplete))

def ingestDoneReach : Reach := .of [.area .cmp, ingestFailReach, .reg .cmpIngestFail (some 0), fmtErrorReach, ingestMirrorReach,
  ingestStoreReach]

theorem Footprint.holds.ingestDone {i'} (he : F.holds d e) (h : ingestDoneReach.within F d) :
    F.holds d (Dev.ingestDone e i') :=
  have ⟨hcmp, hingestFail, hCmpIngestFail, hfmtError, hingestMirror, hingestStore, _⟩ := h
  by
    unfold Dev.ingestDone
    split
    · exact he
    · exact
        by
          dsimp only
          split
          · exact (he.inCmp hcmp).ingestFail hingestFail
          · exact
              by
                split
                · exact
                    have hd1 := (he.inCmp hcmp).count hCmpIngestFail .self
                    holds_ite ((hd1.fmtError hfmtError).ingestFail hingestFail) (hd1.ingestFail hingestFail)
                · exact holds_ite ((he.inCmp hcmp).ingestMirror hingestMirror) ((he.inCmp hcmp).ingestStore hingestStore)

def execIngestCheckDoneReach : Reach := .of [ingestDoneReach]

theorem Footprint.holds.execIngestCheckDone {job} (he : F.holds d e) (h : execIngestCheckDoneReach.within F d) :
    F.holds d (e.viaRow (execIngestCheckDone job)) :=
  have ⟨hingestDone, _⟩ := h
  holds_viaRow (fun _ => rfl) (he.ingestDone hingestDone)

def casDropReach : Reach := .of [.reg .qlCasDrop (some 0), eventReach .qlEvent (some 0) 5, qlLogReach, .area .ql, .area .raised]

theorem Footprint.holds.casDrop (he : F.holds d e) (h : casDropReach.within F d) :
    F.holds d (Dev.casDrop e) :=
  have ⟨hQlCasDrop, hQlEvent5, hqlLog, hql, hraised, _⟩ := h
  have hd1 := ((he.count hQlCasDrop .self).event hQlEvent5 .self).qlLog hqlLog
  holds_ite ((hd1.inQl hql).raise hraised) hd1

def casPutReach : Reach := .of [casEmitReach]

theorem Footprint.holds.casPut {p dest port type body} (he : F.holds d e) (h : casPutReach.within F d) :
    F.holds d (Dev.casPut e p dest port type body) :=
  have ⟨hcasEmit, _⟩ := h
  he.casEmit hcasEmit

def casForwardReach : Reach := .of [casDropReach, casPutReach]

theorem Footprint.holds.casForward {l' type w1 port body} (he : F.holds d e) (h : casForwardReach.within F d) :
    F.holds d (Dev.casForward e l' type w1 port body) :=
  have ⟨hcasDrop, hcasPut, _⟩ := h
  holds_ite (he.casDrop hcasDrop) (he.casPut hcasPut)

def casTakeReach : Reach := .of [.reg .qlCasRx (some 0), casForwardReach]

theorem Footprint.holds.casTake {l' type w1 port body f} (he : F.holds d e) (h : casTakeReach.within F d)
    (hf : ∀ e, F.holds d e → F.holds d (f e)) :
    F.holds d (Dev.casTake e l' type w1 port body f) :=
  have ⟨hQlCasRx, hcasForward, _⟩ := h
  holds_ite
    (((hf _ (he.count hQlCasRx .self))).casForward hcasForward)
    (holds_ite ((hf _ (he.count hQlCasRx .self))) (he.casForward hcasForward))

def updBarReach : Reach := .of [.area .ql]

theorem Footprint.holds.updBar {b f} (he : F.holds d e) (h : updBarReach.within F d) :
    F.holds d (Dev.updBar e b f) :=
  have ⟨hql, _⟩ := h
  he.inQl hql

def execShapeReach : Reach := .of [updBarReach, casTakeReach]

theorem Footprint.holds.execShape {link w1 serial fluids} (he : F.holds d e) (h : execShapeReach.within F d) :
    F.holds d (e.viaRow (execShape link w1 serial fluids)) :=
  have ⟨hupdBar, hcasTake, _⟩ := h
  holds_viaRow (fun _ => rfl) (he.casTake hcasTake (fun _ ho => ho.updBar hupdBar))

def execCasHealthReach : Reach := .of [updBarReach, casTakeReach]

theorem Footprint.holds.execCasHealth {link w1 body} (he : F.holds d e) (h : execCasHealthReach.within F d) :
    F.holds d (e.viaRow (execCasHealth link w1 body)) :=
  have ⟨hupdBar, hcasTake, _⟩ := h
  holds_viaRow (fun _ => rfl) (he.casTake hcasTake (fun _ ho => ho.updBar hupdBar))

def execSpoilnReach : Reach := .of [updBarReach, casTakeReach]

theorem Footprint.holds.execSpoiln {link w1 w2 w3 w4 w5} (he : F.holds d e) (h : execSpoilnReach.within F d) :
    F.holds d (e.viaRow (execSpoiln link w1 w2 w3 w4 w5)) :=
  have ⟨hupdBar, hcasTake, _⟩ := h
  holds_viaRow (fun _ => rfl) (he.casTake hcasTake (fun _ ho => ho.updBar hupdBar))

def issueStepsReach : Reach := .of [.area .outs]

theorem Footprint.holds.issueSteps {a p0 p1} (he : F.holds d e) (h : issueStepsReach.within F d) :
    F.holds d (Dev.issueSteps e a p0 p1) :=
  have ⟨houts, _⟩ := h
  he.foldl (fun _ _ ho => ho.send houts)

def planLegReach (i : Option Nat) : Reach := .of [setAxisReach i, issueStepsReach]

theorem Footprint.holds.planLeg {a : Nat} {x g} (he : F.holds d e) (h : (planLegReach i).within F d) (hi : Among i a) :
    F.holds d (Dev.planLeg e a x g) :=
  have ⟨hsetAxis, hissueSteps, _⟩ := h
  holds_ite (he.setAxis hsetAxis hi) (holds_ite he ((he.issueSteps hissueSteps).setAxis hsetAxis hi))

def homeFailReach (i : Option Nat) : Reach := .of [axisStopReach i, .field .ctlAxStatus i 28 1, eventReach .ctlEvent (some 0) 4,
  .area .raised]

theorem Footprint.holds.homeFail {a : Nat} (he : F.holds d e) (h : (homeFailReach i).within F d) (hi : Among i a) :
    F.holds d (Dev.homeFail e a) :=
  have ⟨haxisStop, hCtlAxStatus28, hCtlEvent4, hraised, _⟩ := h
  (((he.axisStop haxisStop hi).setBit hCtlAxStatus28 hi).event hCtlEvent4 .self).raise hraised

def planAxisReach (i : Option Nat) : Reach := .of [planLegReach i, atRestReach i, homeFailReach i]

theorem Footprint.holds.planAxis {a : Nat} (he : F.holds d e) (h : (planAxisReach i).within F d) (hi : Among i a) :
    F.holds d (Dev.planAxis e a) :=
  have ⟨hplanLeg, hatRest, hhomeFail, _⟩ := h
  by
    unfold Dev.planAxis
    dsimp only
    split
    · exact he
    · exact
        have hd1 := (he.planLeg hplanLeg hi).atRest hatRest hi
        holds_ite (hd1.homeFail hhomeFail hi) hd1

def execAxisPlanTickReach (i : Option Nat) : Reach := .of [.area .now, planAxisReach i, setAxisReach i]

theorem Footprint.holds.execAxisPlanTick {axis : Fin 32} {seen time} (he : F.holds d e) (h : (execAxisPlanTickReach i).within F d)
    (hi : Among i axis.val) :
    F.holds d (e.viaRow (execAxisPlanTick axis seen time)) :=
  have ⟨hnow, hplanAxis, hsetAxis, _⟩ := h
  holds_viaRow (fun _ => rfl) <|
    have hd1 := he.at hnow
    holds_ite (hd1.planAxis hplanAxis hi) (holds_ite hd1 (hd1.setAxis hsetAxis hi))

def uploadSubReach : Reach := .of [entryErrReach, setPipeReach, entryOkReach]

theorem Footprint.holds.uploadSub {slot w} (he : F.holds d e) (h : uploadSubReach.within F d) :
    F.holds d (Dev.uploadSub e slot w) :=
  have ⟨hentryErr, hsetPipe, hentryOk, _⟩ := h
  by
    unfold Dev.uploadSub
    dsimp only
    split
    · exact he.entryErr hentryErr
    · exact holds_ite (he.entryErr hentryErr) ((he.setPipe hsetPipe).entryOk hentryOk)

def execUploadSubReach (i : Option Nat) : Reach := .of [uploadSubReach, entryReach i]

theorem Footprint.holds.execUploadSub {slot : Fin 4096} {w} (he : F.holds d e) (h : (execUploadSubReach i).within F d)
    (hi : Among i slot.val) :
    F.holds d (e.viaRow (execUploadSub slot w)) :=
  have ⟨huploadSub, hentry, _⟩ := h
  holds_viaRow (fun _ => rfl) (he.entry hentry hi (fun _ ho => ho.uploadSub huploadSub))

def uploadUnsubReach : Reach := .of [entryErrReach, setPipeReach, entryOkReach]

theorem Footprint.holds.uploadUnsub {slot w} (he : F.holds d e) (h : uploadUnsubReach.within F d) :
    F.holds d (Dev.uploadUnsub e slot w) :=
  have ⟨hentryErr, hsetPipe, hentryOk, _⟩ := h
  by
    unfold Dev.uploadUnsub
    dsimp only
    split
    · exact he.entryErr hentryErr
    · exact holds_ite (he.entryErr hentryErr) ((he.setPipe hsetPipe).entryOk hentryOk)

def execUploadUnsubReach (i : Option Nat) : Reach := .of [uploadUnsubReach, entryReach i]

theorem Footprint.holds.execUploadUnsub {slot : Fin 4096} {w} (he : F.holds d e) (h : (execUploadUnsubReach i).within F d)
    (hi : Among i slot.val) :
    F.holds d (e.viaRow (execUploadUnsub slot w)) :=
  have ⟨huploadUnsub, hentry, _⟩ := h
  holds_viaRow (fun _ => rfl) (he.entry hentry hi (fun _ ho => ho.uploadUnsub huploadUnsub))

def ctxEntryReach (i : Option Nat) : Reach := .of [entryErrReach, entryReach i]

theorem Footprint.holds.ctxEntry {s : Nat} {opcode w f} (he : F.holds d e) (h : (ctxEntryReach i).within F d) (hi : Among i s)
    (hf : ∀ e, F.holds d e → F.holds d (f e)) :
    F.holds d (Dev.ctxEntry e s opcode w f) :=
  have ⟨hentryErr, hentry, _⟩ := h
  he.entry hentry hi (fun _ ho => holds_ite (ho.entryErr hentryErr) ((hf _ ho)))

def handleEntryReach : Reach := .of [entryErrReach]

theorem Footprint.holds.handleEntry {s w owner f} (he : F.holds d e) (h : handleEntryReach.within F d)
    (hf : ∀ e x0, F.holds d e → F.holds d (f e x0)) :
    F.holds d (Dev.handleEntry e s w owner f) :=
  have ⟨hentryErr, _⟩ := h
  by
    unfold Dev.handleEntry
    split
    · exact he.entryErr hentryErr
    · exact holds_ite (he.entryErr hentryErr) (holds_ite (he.entryErr hentryErr) ((hf _ _ he)))

def execCtxParkReach (i : Option Nat) : Reach := .of [entryErrReach, setCtxReach, cueRequestReach, handleEntryReach,
  ctxEntryReach i]

theorem Footprint.holds.execCtxPark {slot : Fin 4096} {w} (he : F.holds d e) (h : (execCtxParkReach i).within F d)
    (hi : Among i slot.val) :
    F.holds d (e.viaRow (execCtxPark slot w)) :=
  have ⟨hentryErr, hsetCtx, hcueRequest, hhandleEntry, hctxEntry, _⟩ := h
  holds_viaRow (fun _ => rfl) <|
    he.ctxEntry hctxEntry hi (fun _ ho => ho.handleEntry hhandleEntry (fun _ _ ho1 => holds_ite
      (ho1.entryErr hentryErr)
      (by
        split
        · exact ho1.entryErr hentryErr
        · exact (ho1.setCtx hsetCtx).cueRequest hcueRequest)))

def ctxRefusedReach : Reach := .of [.reg .tenCtxFullCount (some 0), eventReach .tenEvent (some 0) 1, entryErrReach]

theorem Footprint.holds.ctxRefused {s w e'} (he : F.holds d e) (h : ctxRefusedReach.within F d) :
    F.holds d (Dev.ctxRefused e s w e') :=
  have ⟨hTenCtxFullCount, hTenEvent1, hentryErr, _⟩ := h
  (holds_ite ((he.count hTenCtxFullCount .self).event hTenEvent1 .self) he).entryErr hentryErr

def execCtxActivateReach (i : Option Nat) : Reach := .of [ctxRefusedReach, entryErrReach, cueRequestReach, ctxEntryReach i]

theorem Footprint.holds.execCtxActivate {slot : Fin 4096} {w} (he : F.holds d e) (h : (execCtxActivateReach i).within F d)
    (hi : Among i slot.val) :
    F.holds d (e.viaRow (execCtxActivate slot w)) :=
  have ⟨hctxRefused, hentryErr, hcueRequest, hctxEntry, _⟩ := h
  holds_viaRow (fun _ => rfl) <|
    he.ctxEntry hctxEntry hi (fun _ ho => by
      dsimp only
      split
      · exact ho.ctxRefused hctxRefused
      · exact
          by
            split
            · exact ho.entryErr hentryErr
            · exact
                holds_ite
                  (ho.ctxRefused hctxRefused)
                  (holds_ite
                    (ho.entryErr hentryErr)
                    (holds_ite (ho.entryErr hentryErr) (holds_ite (ho.entryErr hentryErr) (ho.cueRequest hcueRequest)))))

def journalReach : Reach := .of [.area .pwr]

theorem Footprint.holds.journal {e'} (he : F.holds d e) (h : journalReach.within F d) :
    F.holds d (Dev.journal e e') :=
  have ⟨hpwr, _⟩ := h
  holds_ite he (he.inPwr hpwr)

def contextChangedReach : Reach := .of [noteContextsReach, journalReach, mirrorCtxReach]

theorem Footprint.holds.contextChanged {s what} (he : F.holds d e) (h : contextChangedReach.within F d) :
    F.holds d (Dev.contextChanged e s what) :=
  have ⟨hnoteContexts, hjournal, hmirrorCtx, _⟩ := h
  ((he.noteContexts hnoteContexts).journal hjournal).mirrorCtx hmirrorCtx

def execCtxQuotaReach (i : Option Nat) : Reach := .of [entryErrReach, .reg .tenDramQuota none, .field .tenRegions none 16 16, .reg
  .tenShare none, .field .tenState none 27 1, contextChangedReach, entryOkReach, handleEntryReach, ctxEntryReach i]

theorem Footprint.holds.execCtxQuota {slot : Fin 4096} {w} (he : F.holds d e) (h : (execCtxQuotaReach i).within F d)
    (hi : Among i slot.val) :
    F.holds d (e.viaRow (execCtxQuota slot w)) :=
  have ⟨hentryErr, hTenDramQuota, hTenRegions16, hTenShare, hTenState27, hcontextChanged, hentryOk, hhandleEntry, hctxEntry,
    _⟩ := h
  holds_viaRow (fun _ => rfl) <|
    he.ctxEntry hctxEntry hi (fun _ ho => ho.handleEntry hhandleEntry (fun _ _ ho1 => holds_ite
      (ho1.entryErr hentryErr)
      ((((((ho1.put hTenDramQuota .any).setFld hTenRegions16 .any).put hTenShare .any).setBit hTenState27
        .any).contextChanged hcontextChanged).entryOk hentryOk)))

def postSummariesReach : Reach := .of [postEventReach none]

theorem Footprint.holds.postSummaries {c f} (he : F.holds d e) (h : postSummariesReach.within F d) :
    F.holds d (Dev.postSummaries e c f) :=
  have ⟨hpostEvent, _⟩ := h
  he.foldl (fun _ _ ho => holds_ite (ho.postEvent hpostEvent .any) ho)

def frameCloseReach (i : Option Nat) : Reach := .of [postSummariesReach, setPipeReach, .area .draw, .reg .insFrameNo i, .field
  .insStatus i 24 1, .field .insStatus i 0 15, eventReach .insEvent i 0]

theorem Footprint.holds.frameClose {c : Nat} {early} (he : F.holds d e) (h : (frameCloseReach i).within F d) (hi : Among i c) :
    F.holds d (Dev.frameClose e c early) :=
  have ⟨hpostSummaries, hsetPipe, hdraw, hInsFrameNo, hInsStatus24, hInsStatus0, hInsEvent0, _⟩ := h
  by
    unfold Dev.frameClose
    dsimp only
    split
    · exact he
    · exact ((((((he.postSummaries hpostSummaries).setPipe hsetPipe).inDraw hdraw).put hInsFrameNo hi).setBit hInsStatus24
        hi).setFld hInsStatus0 hi).event hInsEvent0 hi

def execInsCloseReach (i : Option Nat) : Reach := .of [frameCloseReach i]

theorem Footprint.holds.execInsClose {pipe : Fin 24} (he : F.holds d e) (h : (execInsCloseReach i).within F d)
    (hi : Among i pipe.val) :
    F.holds d (e.viaRow (execInsClose pipe)) :=
  have ⟨hframeClose, _⟩ := h
  holds_viaRow (fun _ => rfl) (he.frameClose hframeClose hi)

def execGoReach (i j : Option Nat) : Reach := .of [refuseReach i, goReach j, .reg .glbLastErr i]

theorem Footprint.holds.execGo {req : Fin 5} {port : Fin 192} (he : F.holds d e) (h : (execGoReach i j).within F d)
    (hi : Among i req.val) (hj : Among j port.val) :
    F.holds d (e.viaRow (execGo req port)) :=
  have ⟨hrefuse, hgo, hGlbLastErr, _⟩ := h
  holds_viaRow (fun _ => rfl) (holds_ite (he.refuse hrefuse hi) (holds_ite ((he.go hgo hj).put hGlbLastErr hi) (he.go hgo hj)))

def cueOldReach : Reach := .of [completeReach, .area .draw, .field .dmcGrpStatus none 30 1, .field .dmcGrpStatus none 29 1]

theorem Footprint.holds.cueOld {x} (he : F.holds d e) (h : cueOldReach.within F d) :
    F.holds d (Dev.cueOld e x) :=
  have ⟨hcomplete, hdraw, hDmcGrpStatus30, hDmcGrpStatus29, _⟩ := h
  by
    unfold Dev.cueOld
    split
    · exact (he.complete hcomplete).drawn hdraw
    · exact (he.setBit hDmcGrpStatus30 .any).setBit hDmcGrpStatus29 .any
    · exact he
    · exact he

def execCueAbortReach (i : Option Nat) : Reach := .of [.area .mgt, cueRefreshReach, cueOldReach, refuseReach i]

theorem Footprint.holds.execCueAbort {req : Fin 5} {generation ahead} (he : F.holds d e) (h : (execCueAbortReach i).within F d)
    (hi : Among i req.val) :
    F.holds d (e.viaRow (execCueAbort req generation ahead)) :=
  have ⟨hmgt, hcueRefresh, hcueOld, hrefuse, _⟩ := h
  holds_viaRow (fun _ => rfl) <|
    by
      dsimp only
      split
      · exact
          by
            split
            · exact ((he.inMgt hmgt).cueRefresh hcueRefresh).cueOld hcueOld
            · exact ((he.inMgt hmgt).cueRefresh hcueRefresh)
      · exact holds_ite ((he.inMgt hmgt).cueRefresh hcueRefresh) (he.refuse hrefuse hi)
      · exact he.refuse hrefuse hi

def execInsRunWriteReach (i : Option Nat) : Reach := .of [setPipeReach, .field .insCtrl i 0 1, frameCloseReach i]

theorem Footprint.holds.execInsRunWrite {pipe : Fin 24} {run} (he : F.holds d e) (h : (execInsRunWriteReach i).within F d)
    (hi : Among i pipe.val) :
    F.holds d (e.viaRow (execInsRunWrite pipe run)) :=
  have ⟨hsetPipe, hInsCtrl0, hframeClose, _⟩ := h
  holds_viaRow (fun _ => rfl) <|
    holds_ite
      he
      (holds_ite
        ((he.setPipe hsetPipe).setBit hInsCtrl0 hi)
        (((he.frameClose hframeClose hi).setBit hInsCtrl0 hi).setPipe hsetPipe))

def blockSubmitReach : Reach := .of [entryErrReach, setRegionReach, .area .cmp]

theorem Footprint.holds.blockSubmit {s w data} (he : F.holds d e) (h : blockSubmitReach.within F d) :
    F.holds d (Dev.blockSubmit e s w data) :=
  have ⟨hentryErr, hsetRegion, hcmp, _⟩ := h
  by
    unfold Dev.blockSubmit
    dsimp only
    split
    · exact he.entryErr hentryErr
    · exact
        holds_ite
          (he.entryErr hentryErr)
          (holds_ite
            (he.entryErr hentryErr)
            (holds_ite
              (he.entryErr hentryErr)
              (by
                split
                · exact he.entryErr hentryErr
                · exact
                    by
                      split
                      · exact he.entryErr hentryErr
                      · exact (he.setRegion hsetRegion).inCmp hcmp)))

def execBlockReach (i : Option Nat) : Reach := .of [blockSubmitReach, entryReach i]

theorem Footprint.holds.execBlock {slot : Fin 4096} {w data} (he : F.holds d e) (h : (execBlockReach i).within F d)
    (hi : Among i slot.val) :
    F.holds d (e.viaRow (execBlock slot w data)) :=
  have ⟨hblockSubmit, hentry, _⟩ := h
  holds_viaRow (fun _ => rfl) (he.entry hentry hi (fun _ ho => ho.blockSubmit hblockSubmit))

def badLineReach (i : Option Nat) : Reach := .of [.reg .insLineIncomplete i, eventReach .insEvent i 1, .area .raised]

theorem Footprint.holds.badLine {c : Nat} (he : F.holds d e) (h : (badLineReach i).within F d) (hi : Among i c) :
    F.holds d (Dev.badLine e c) :=
  have ⟨hInsLineIncomplete, hInsEvent1, hraised, _⟩ := h
  ((he.count hInsLineIncomplete hi).event hInsEvent1 hi).raise hraised

def frameLineReach (i : Option Nat) : Reach := .of [setPipeReach, .reg .insStoreMiss i, eventReach .insEvent i 3, .field
  .insStatus i 24 1, .field .insStatus i 0 15]

theorem Footprint.holds.frameLine {c : Nat} {fire pass yi place ms} (he : F.holds d e) (h : (frameLineReach i).within F d)
    (hi : Among i c) :
    F.holds d (Dev.frameLine e c fire pass yi place ms) :=
  have ⟨hsetPipe, hInsStoreMiss, hInsEvent3, hInsStatus24, hInsStatus0, _⟩ := h
  have hd1 := (he.setPipe hsetPipe).add32 hInsStoreMiss hi
  ((holds_ite (hd1.event hInsEvent3 hi) hd1).setBit hInsStatus24 hi).setFld hInsStatus0 hi

def noteStoreReach : Reach := .of [.reg .insStoreUsed (some 0)]

theorem Footprint.holds.noteStore (he : F.holds d e) (h : noteStoreReach.within F d) :
    F.holds d (Dev.noteStore e) :=
  have ⟨hInsStoreUsed, _⟩ := h
  he.put hInsStoreUsed .self

def retireCopiesReach : Reach := .of [.area .ins, noteStoreReach]

theorem Footprint.holds.retireCopies (he : F.holds d e) (h : retireCopiesReach.within F d) :
    F.holds d (Dev.retireCopies e) :=
  have ⟨hins, hnoteStore, _⟩ := h
  (he.inIns hins).noteStore hnoteStore

def lineCloseReach (i : Option Nat) : Reach := .of [setPipeReach, badLineReach i, .reg .insLineIncomplete i, .area .draw,
  frameLineReach i, retireCopiesReach, frameCloseReach i, .field .insStatus i 24 1]

theorem Footprint.holds.lineClose {c : Nat} {l'} (he : F.holds d e) (h : (lineCloseReach i).within F d) (hi : Among i c) :
    F.holds d (Dev.lineClose e c l') :=
  have ⟨hsetPipe, hbadLine, hInsLineIncomplete, hdraw, hframeLine, hretireCopies, hframeClose, hInsStatus24, _⟩ := h
  have hd1 := he.setPipe hsetPipe
  have hd2 := ((holds_ite (hd1.badLine hbadLine hi) (holds_ite
    (hd1.count hInsLineIncomplete hi) hd1)).drawn hdraw).frameLine hframeLine hi
  have hd3 := holds_ite ((hd2.setPipe hsetPipe).retireCopies hretireCopies) hd2
  holds_ite
    (have hd4 := hd3.frameClose hframeClose hi
    holds_ite hd4 ((hd4.setPipe hsetPipe).setBit hInsStatus24 hi))
    hd3

def rawPacketReach (i : Option Nat) : Reach := .of [lineCloseReach i, badLineReach i, setLineReach, .area .raised]

theorem Footprint.holds.rawPacket {c : Nat} {fmt vc chan tseq npix x0 body bad} (he : F.holds d e)
    (h : (rawPacketReach i).within F d) (hi : Among i c) :
    F.holds d (Dev.rawPacket e c fmt vc chan tseq npix x0 body bad) :=
  have ⟨hlineClose, hbadLine, hsetLine, hraised, _⟩ := h
  holds_let (he.foldl (fun _ _ ho => ho.lineClose hlineClose hi)) fun hd0 =>
    holds_ite
    hd0
    (holds_ite
      (hd0.badLine hbadLine hi)
      (holds_ite
        (hd0.badLine hbadLine hi)
        (have hd1 := hd0.setLine hsetLine
        holds_ite (hd1.raise hraised) hd1)))

def execRawPacketReach (i : Option Nat) : Reach := .of [rawPacketReach i]

theorem Footprint.holds.execRawPacket {pipe : Fin 24} {fmt w1 w2 body bad} (he : F.holds d e)
    (h : (execRawPacketReach i).within F d) (hi : Among i pipe.val) :
    F.holds d (e.viaRow (execRawPacket pipe fmt w1 w2 body bad)) :=
  have ⟨hrawPacket, _⟩ := h
  holds_viaRow (fun _ => rfl) (he.rawPacket hrawPacket hi)

def autoRejoinReach (i : Option Nat) : Reach := .of [setPortReach, goReach i]

theorem Footprint.holds.autoRejoin {n : Nat} (he : F.holds d e) (h : (autoRejoinReach i).within F d) (hi : Among i n) :
    F.holds d (Dev.autoRejoin e n) :=
  have ⟨hsetPort, hgo, _⟩ := h
  holds_ite ((he.setPort hsetPort).go hgo hi) (he.setPort hsetPort)

def maskFaultReach : Reach := .of [setPortReach, clearPortReach]

theorem Footprint.holds.maskFault {n} (he : F.holds d e) (h : maskFaultReach.within F d) :
    F.holds d (Dev.maskFault e n) :=
  have ⟨hsetPort, hclearPort, _⟩ := h
  holds_ite
    ((he.setPort hsetPort).clearPort hclearPort)
    (holds_ite ((he.setPort hsetPort).clearPort hclearPort) he)

def maskUnfitReach (i : Option Nat) : Reach := .of [maskFaultReach, setLinkReach i, setPortReach, setCreditsReach i,
  noteOutstandingReach i]

theorem Footprint.holds.maskUnfit {n : Nat} (he : F.holds d e) (h : (maskUnfitReach i).within F d) (hi : Among i n) :
    F.holds d (Dev.maskUnfit e n) :=
  have ⟨hmaskFault, hsetLink, hsetPort, hsetCredits, hnoteOutstanding, _⟩ := h
  holds_ite
    (((((he.maskFault hmaskFault).setLink hsetLink hi).setPort hsetPort).setCredits hsetCredits hi).noteOutstanding
      hnoteOutstanding hi)
    he

def storePdReach (i : Option Nat) : Reach := .of [.reg .posPortDelay i, .area .raised]

theorem Footprint.holds.storePd {n : Nat} {pd} (he : F.holds d e) (h : (storePdReach i).within F d) (hi : Among i n) :
    F.holds d (Dev.storePd e n pd) :=
  have ⟨hPosPortDelay, hraised, _⟩ := h
  have hd1 := he.put hPosPortDelay hi
  holds_ite (hd1.raise hraised) hd1

def echoDoneReach (i : Option Nat) : Reach := .of [setPortReach, headSendReach, .field .posPortDelay i 31 1, .area .raised,
  maskUnfitReach i, storePdReach i]

theorem Footprint.holds.echoDone {n : Nat} (he : F.holds d e) (h : (echoDoneReach i).within F d) (hi : Among i n) :
    F.holds d (Dev.echoDone e n) :=
  have ⟨hsetPort, hheadSend, hPosPortDelay31, hraised, hmaskUnfit, hstorePd, _⟩ := h
  by
    unfold Dev.echoDone
    split
    · exact he
    · exact
        holds_ite
          (((((he.setPort hsetPort).headSend hheadSend).setBit hPosPortDelay31 hi).raise hraised).maskUnfit hmaskUnfit hi)
          (by
            dsimp only
            split
            · exact holds_ite (((he.setPort hsetPort).headSend hheadSend).raise hraised)
                ((((he.setPort hsetPort).headSend hheadSend).storePd hstorePd hi).maskUnfit hmaskUnfit hi)
            · exact (((he.setPort hsetPort).headSend hheadSend).storePd hstorePd hi).maskUnfit hmaskUnfit hi)

def execPdRefreshDoneReach (i : Option Nat) : Reach := .of [echoDoneReach i, autoRejoinReach i]

theorem Footprint.holds.execPdRefreshDone {port : Fin 192} (he : F.holds d e) (h : (execPdRefreshDoneReach i).within F d)
    (hi : Among i port.val) :
    F.holds d (e.viaRow (execPdRefreshDone port)) :=
  have ⟨hechoDone, hautoRejoin, _⟩ := h
  holds_viaRow (fun _ => rfl) <|
    by
      dsimp only
      split
      · exact (he.echoDone hechoDone hi).autoRejoin hautoRejoin hi
      · exact he.echoDone hechoDone hi
      · exact he

def execLineCloseTimeoutReach (i : Option Nat) : Reach := .of [lineCloseReach i]

theorem Footprint.holds.execLineCloseTimeout {pipe : Fin 24} {tseq} (he : F.holds d e)
    (h : (execLineCloseTimeoutReach i).within F d) (hi : Among i pipe.val) :
    F.holds d (e.viaRow (execLineCloseTimeout pipe tseq)) :=
  have ⟨hlineClose, _⟩ := h
  holds_viaRow (fun _ => rfl) <|
    by
      split
      · exact he
      · exact he.lineClose hlineClose hi

def regionOpenReach (i : Option Nat) : Reach := .of [entryErrReach, takeUnitsReach i, .area .cmp, countRegionsReach i,
  entryOkReach]

theorem Footprint.holds.regionOpen {s : Nat} {w} (he : F.holds d e) (h : (regionOpenReach i).within F d) (hi : Among i s) :
    F.holds d (Dev.regionOpen e s w) :=
  have ⟨hentryErr, htakeUnits, hcmp, hcountRegions, hentryOk, _⟩ := h
  by
    unfold Dev.regionOpen
    dsimp only
    split
    · exact he.entryErr hentryErr
    · exact
        by
          split
          · exact he.entryErr hentryErr
          · exact (((he.takeUnits htakeUnits hi).inCmp hcmp).countRegions hcountRegions hi).entryOk hentryOk

def execRegionOpenReach (i : Option Nat) : Reach := .of [regionOpenReach i, entryReach i]

theorem Footprint.holds.execRegionOpen {slot : Fin 4096} {w} (he : F.holds d e) (h : (execRegionOpenReach i).within F d)
    (hi : Among i slot.val) :
    F.holds d (e.viaRow (execRegionOpen slot w)) :=
  have ⟨hregionOpen, hentry, _⟩ := h
  holds_viaRow (fun _ => rfl) (he.entry hentry hi (fun _ ho => ho.regionOpen hregionOpen hi))

def takeEstimateReach : Reach := .of [setCellReach]

theorem Footprint.holds.takeEstimate {cand accumulate n m' v} (he : F.holds d e) (h : takeEstimateReach.within F d) :
    F.holds d (Dev.takeEstimate e cand accumulate n m' v) :=
  have ⟨hsetCell, _⟩ := h
  holds_ite (he.setCell hsetCell) (holds_ite (he.setCell hsetCell) (he.setCell hsetCell))

def noteSaturatedReach : Reach := .of [setCellReach, .reg .qlSat (some 0), qlLogReach]

theorem Footprint.holds.noteSaturated {n m' sat} (he : F.holds d e) (h : noteSaturatedReach.within F d) :
    F.holds d (Dev.noteSaturated e n m' sat) :=
  have ⟨hsetCell, hQlSat, hqlLog, _⟩ := h
  holds_ite (((he.setCell hsetCell).count hQlSat .self).qlLog hqlLog) (holds_ite (he.setCell hsetCell) he)

def loopSetReach : Reach := .of [noteSaturatedReach, setCellReach, .reg .qlDefer (some 0), setSynReach, noteStagedReach none, .reg
  .updFire none, .field .synStatus none 14 1, mirrorReach, .area .ql, .reg .qlSets (some 0), eventReach .qlEvent (some 0) 1,
  qlLogReach, noteLoopReach]

theorem Footprint.holds.loopSet {n} (he : F.holds d e) (h : loopSetReach.within F d) :
    F.holds d (Dev.loopSet e n) :=
  have ⟨hnoteSaturated, hsetCell, hQlDefer, hsetSyn, hnoteStaged, hUpdFire, hSynStatus14, hmirror, hql, hQlSets, hQlEvent1,
    hqlLog, hnoteLoop, _⟩ := h
  holds_ite
    he
    (holds_let (he.foldl (fun _ _ ho => (ho.noteSaturated hnoteSaturated).setCell hsetCell)) fun hd0 =>
      holds_ite
      hd0
      (holds_ite
        (hd0.count hQlDefer .self)
        (((((((((((hd0.setSyn hsetSyn).noteStaged hnoteStaged .any).put hUpdFire .any).setBit hSynStatus14
          .any).mirror hmirror).foldl
          (fun _ _ ho5 => (ho5.noteSaturated hnoteSaturated).setCell hsetCell)).inQl hql).count hQlSets .self).event hQlEvent1
          .self).qlLog hqlLog).noteLoop hnoteLoop)))

def loopRecordReach : Reach := .of [.area .ql, takeEstimateReach, decide'Reach, loopSetReach, mirrorCellsReach, noteLoopReach]

theorem Footprint.holds.loopRecord {r'} (he : F.holds d e) (h : loopRecordReach.within F d) :
    F.holds d (Dev.loopRecord e r') :=
  have ⟨hql, htakeEstimate, hdecide', hloopSet, hmirrorCells, hnoteLoop, _⟩ := h
  holds_ite
    he
    ((((((he.inQl hql).foldl (fun _ _ ho1 => ho1.takeEstimate htakeEstimate)).decide' hdecide').each
      (fun _ _ ho4 => ho4.loopSet hloopSet)).mirrorCells hmirrorCells).noteLoop hnoteLoop)

def execQlRecordProcessReach : Reach := .of [.area .ql, loopRecordReach]

theorem Footprint.holds.execQlRecordProcess (he : F.holds d e) (h : execQlRecordProcessReach.within F d) :
    F.holds d (e.viaRow execQlRecordProcess) :=
  have ⟨hql, hloopRecord, _⟩ := h
  holds_viaRow (fun _ => rfl) <|
    by
      split
      · exact he
      · exact (he.inQl hql).loopRecord hloopRecord

def lanesForReach : Reach := .of [lanesDownReach, lanesRestReach]

theorem Footprint.holds.lanesFor {g st} (he : F.holds d e) (h : lanesForReach.within F d) :
    F.holds d (Dev.lanesFor e g st) :=
  have ⟨hlanesDown, hlanesRest, _⟩ := h
  holds_ite (he.lanesDown hlanesDown) (holds_ite (he.lanesRest hlanesRest) he)

def camRestartReach (i : Option Nat) : Reach := .of [frameCloseReach i, lanesForReach, setPipeReach, setCamReach i, .field
  .insStatus i 25 3]

theorem Footprint.holds.camRestart {c : Nat} {st} (he : F.holds d e) (h : (camRestartReach i).within F d) (hi : Among i c) :
    F.holds d (Dev.camRestart e c st) :=
  have ⟨hframeClose, hlanesFor, hsetPipe, hsetCam, hInsStatus25, _⟩ := h
  ((((he.frameClose hframeClose hi).lanesFor hlanesFor).setPipe hsetPipe).setCam hsetCam hi).setFld hInsStatus25 hi

def camRetrainReach : Reach := .of [setPipeReach, trainLanesReach]

theorem Footprint.holds.camRetrain {c} (he : F.holds d e) (h : camRetrainReach.within F d) :
    F.holds d (Dev.camRetrain e c) :=
  have ⟨hsetPipe, htrainLanes, _⟩ := h
  (he.setPipe hsetPipe).trainLanes htrainLanes

def execCamAckReach (i : Option Nat) : Reach := .of [camRestartReach i, camRetrainReach, setPipeReach, setCamReach i]

theorem Footprint.holds.execCamAck {pipe : Fin 24} {refused seq} (he : F.holds d e) (h : (execCamAckReach i).within F d)
    (hi : Among i pipe.val) :
    F.holds d (e.viaRow (execCamAck pipe refused seq)) :=
  have ⟨hcamRestart, hcamRetrain, hsetPipe, hsetCam, _⟩ := h
  holds_viaRow (fun _ => rfl) <|
    by
      dsimp only
      split
      · exact he
      · exact
          holds_ite
            he
            (holds_ite
              (he.camRestart hcamRestart hi)
              (holds_ite
                (he.camRetrain hcamRetrain)
                (holds_ite ((he.setPipe hsetPipe).setCam hsetCam hi) (he.setPipe hsetPipe))))

def camFailReach (i : Option Nat) : Reach := .of [camRestartReach i, eventReach .insEvent i 5, .area .raised]

theorem Footprint.holds.camFail {c : Nat} (he : F.holds d e) (h : (camFailReach i).within F d) (hi : Among i c) :
    F.holds d (Dev.camFail e c) :=
  have ⟨hcamRestart, hInsEvent5, hraised, _⟩ := h
  ((he.camRestart hcamRestart hi).event hInsEvent5 hi).raise hraised

def execCameraSilentReach (i : Option Nat) : Reach := .of [camFailReach i]

theorem Footprint.holds.execCameraSilent {pipe : Fin 24} (he : F.holds d e) (h : (execCameraSilentReach i).within F d)
    (hi : Among i pipe.val) :
    F.holds d (e.viaRow (execCameraSilent pipe)) :=
  have ⟨hcamFail, _⟩ := h
  holds_viaRow (fun _ => rfl) (holds_ite (he.camFail hcamFail hi) he)

def execPortJoinEffectReach (i : Option Nat) : Reach := .of [setLinkReach i, eventReach .linkEvent i 3, setPortReach,
  maskFaultReach, .area .raised]

theorem Footprint.holds.execPortJoinEffect {port : Fin 192} (he : F.holds d e) (h : (execPortJoinEffectReach i).within F d)
    (hi : Among i port.val) :
    F.holds d (e.viaRow (execPortJoinEffect port)) :=
  have ⟨hsetLink, hLinkEvent3, hsetPort, hmaskFault, hraised, _⟩ := h
  holds_viaRow (fun _ => rfl) <|
    holds_ite
      he
      (by
        dsimp only
        split
        · exact (((((he.setLink hsetLink hi).event hLinkEvent3 hi).setPort hsetPort).maskFault hmaskFault).setLink hsetLink
            hi).raise hraised
        · exact (((he.setLink hsetLink hi).event hLinkEvent3 hi).setPort hsetPort))

def activateHotReach : Reach := .of [frameCloseReach none, .area .img, .reg .ctlLoopSp none, .reg .imgActiveSerial (some 0)]

theorem Footprint.holds.activateHot {g} (he : F.holds d e) (h : activateHotReach.within F d) :
    F.holds d (Dev.activateHot e g) :=
  have ⟨hframeClose, himg, hCtlLoopSp, hImgActiveSerial, _⟩ := h
  (((he.each (fun _ _ ho => ho.frameClose hframeClose .any)).inImg himg).each
    (fun _ _ ho3 => ho3.put hCtlLoopSp .any)).put hImgActiveSerial .self

def execHotActivationEffectReach : Reach := .of [activateHotReach]

theorem Footprint.holds.execHotActivationEffect (he : F.holds d e) (h : execHotActivationEffectReach.within F d) :
    F.holds d (e.viaRow execHotActivationEffect) :=
  have ⟨hactivateHot, _⟩ := h
  holds_viaRow (fun _ => rfl) <|
    by
      split
      · exact holds_ite (he.activateHot hactivateHot) he
      · exact he

def addCopyReach : Reach := .of [.area .ins, .reg .insStoreDrop (some 0), eventReach .insEvent none 3, .area .raised,
  noteStoreReach]

theorem Footprint.holds.addCopy {x} (he : F.holds d e) (h : addCopyReach.within F d) :
    F.holds d (Dev.addCopy e x) :=
  have ⟨hins, hInsStoreDrop, hInsEvent3, hraised, hnoteStore, _⟩ := h
  holds_ite
    (holds_let (((he.inIns hins).count hInsStoreDrop .self).each (fun _ _ ho1 => ho1.event hInsEvent3 .any)) fun hd2 =>
      holds_ite ((hd2.inIns hins).raise hraised) hd2)
    ((he.inIns hins).noteStore hnoteStore)

def execFeedReach : Reach := .of [addCopyReach, casTakeReach]

theorem Footprint.holds.execFeed {link w1 w2 w3 w4 w5 block} (he : F.holds d e) (h : execFeedReach.within F d) :
    F.holds d (e.viaRow (execFeed link w1 w2 w3 w4 w5 block)) :=
  have ⟨haddCopy, hcasTake, _⟩ := h
  holds_viaRow (fun _ => rfl) (he.casTake hcasTake (fun _ ho => holds_ite ho (ho.addCopy haddCopy)))

def execInsRelinkReach (i : Option Nat) : Reach := .of [frameCloseReach i, camRestartReach i]

theorem Footprint.holds.execInsRelink {pipe : Fin 24} (he : F.holds d e) (h : (execInsRelinkReach i).within F d)
    (hi : Among i pipe.val) :
    F.holds d (e.viaRow (execInsRelink pipe)) :=
  have ⟨hframeClose, hcamRestart, _⟩ := h
  holds_viaRow (fun _ => rfl) (holds_ite (he.frameClose hframeClose hi) (he.camRestart hcamRestart hi))

def accessErrReach : Reach := .of [.reg .tenAccessErr (some 0), eventReach .tenEvent (some 0) 3, .area .raised]

theorem Footprint.holds.accessErr {place} (he : F.holds d e) (h : accessErrReach.within F d) :
    F.holds d (Dev.accessErr e place) :=
  have ⟨hTenAccessErr, hTenEvent3, hraised, _⟩ := h
  ((he.count hTenAccessErr .self).event hTenEvent3 .self).raise hraised

def ownReadReach : Reach := .of [execGtDataAccessReach none none, execCtlRcDataAccessReach none, execClaimReach, execTxtsPopReach]

theorem Footprint.holds.ownRead {a r' k' high} (he : F.holds d e) (h : ownReadReach.within F d) :
    F.holds d (Dev.ownRead e a r' k' high) :=
  have ⟨hexecGtDataAccess, hexecCtlRcDataAccess, hexecClaim, hexecTxtsPop, _⟩ := h
  by
    unfold Dev.ownRead
    dsimp only
    split
    · exact he.execGtDataAccess hexecGtDataAccess .any .any
    · exact he.execCtlRcDataAccess hexecCtlRcDataAccess .any
    · exact he.execClaim hexecClaim
    · exact he.execClaim hexecClaim
    · exact he.execClaim hexecClaim
    · exact he.execTxtsPop hexecTxtsPop
    · exact he

def latchWordReach : Reach := .of [.area .latch]

theorem Footprint.holds.latchWord {addr v} (he : F.holds d e) (h : latchWordReach.within F d) :
    F.holds d (Dev.latchWord e addr v) :=
  have ⟨hlatch, _⟩ := h
  he.inLatch hlatch

def latchWithReach : Reach := .of [latchWordReach]

theorem Footprint.holds.latchWith {r' k'} (he : F.holds d e) (h : latchWithReach.within F d) :
    F.holds d (Dev.latchWith e r' k') :=
  have ⟨hlatchWord, _⟩ := h
  by
    unfold Dev.latchWith
    dsimp only
    split
    · exact (holds_ite (he.latchWord hlatchWord) he).latchWord hlatchWord
    · exact (holds_ite (he.latchWord hlatchWord) he).latchWord hlatchWord
    · exact holds_ite ((holds_ite (he.latchWord hlatchWord) he).latchWord hlatchWord) (holds_ite (he.latchWord hlatchWord) he)
    · exact holds_ite (((holds_ite (he.latchWord hlatchWord) he).latchWord hlatchWord).latchWord hlatchWord)
        (holds_ite (he.latchWord hlatchWord) he)
    · exact (holds_ite (he.latchWord hlatchWord) he)

def readRegReach : Reach := .of [.area .outs, .area .latch, latchWithReach]

theorem Footprint.holds.readReg {a addr r' k' high} (he : F.holds d e) (h : readRegReach.within F d) :
    F.holds d (Dev.readReg e a addr r' k' high) :=
  have ⟨houts, hlatch, hlatchWith, _⟩ := h
  by
    unfold Dev.readReg
    split
    · exact (he.send houts).inLatch hlatch
    · exact (holds_ite he (he.latchWith hlatchWith)).send houts

def readWordReach : Reach := .of [.area .outs, accessErrReach, badAccessReach, ownReadReach, readRegReach]

theorem Footprint.holds.readWord {a addr} (he : F.holds d e) (h : readWordReach.within F d) :
    F.holds d (Dev.readWord e a addr) :=
  have ⟨houts, haccessErr, hbadAccess, hownRead, hreadReg, _⟩ := h
  holds_ite
    (he.send houts)
    (holds_ite
      ((he.accessErr haccessErr).send houts)
      (by
        split
        · exact holds_ite (he.send houts) ((he.badAccess hbadAccess).send houts)
        · exact holds_ite (he.ownRead hownRead) (he.readReg hreadReg)))

def execLowWordReadLatchReach : Reach := .of [badAccessReach, .area .outs, readWordReach]

theorem Footprint.holds.execLowWordReadLatch {requester addr wide} (he : F.holds d e) (h : execLowWordReadLatchReach.within F d) :
    F.holds d (e.viaRow (execLowWordReadLatch requester addr wide)) :=
  have ⟨hbadAccess, houts, hreadWord, _⟩ := h
  holds_viaRow (fun _ => rfl) <|
    holds_ite
      ((he.badAccess hbadAccess).send houts)
      (holds_ite ((he.readWord hreadWord).readWord hreadWord) (he.readWord hreadWord))

def openPageReach : Reach := .of [clearPageReach none, .reg .tenState none, .reg .tenHandle none, .reg .tenDramQuota none, .reg
  .tenRegions none, .reg .tenShare none, takeUnitsReach none]

theorem Footprint.holds.openPage {k' w} (he : F.holds d e) (h : openPageReach.within F d) :
    F.holds d (Dev.openPage e k' w) :=
  have ⟨hclearPage, hTenState, hTenHandle, hTenDramQuota, hTenRegions, hTenShare, htakeUnits, _⟩ := h
  ((((((he.clearPage hclearPage .any).put hTenState .any).put hTenHandle .any).put hTenDramQuota .any).put hTenRegions
    .any).put hTenShare .any).takeUnits htakeUnits .any

def ctxOpenReach : Reach := .of [entryErrReach, ctxRefusedReach, setCtxReach, openPageReach, .field .secStatus (some 0) 28 1,
  contextChangedReach, entryOkReach]

theorem Footprint.holds.ctxOpen {s w} (he : F.holds d e) (h : ctxOpenReach.within F d) :
    F.holds d (Dev.ctxOpen e s w) :=
  have ⟨hentryErr, hctxRefused, hsetCtx, hopenPage, hSecStatus28, hcontextChanged, hentryOk, _⟩ := h
  holds_ite
    (he.entryErr hentryErr)
    (holds_ite
      (he.ctxRefused hctxRefused)
      (by
        split
        · exact he.ctxRefused hctxRefused
        · exact
            holds_ite
              (he.entryErr hentryErr)
              (by
                split
                · exact he.entryErr hentryErr
                · exact
                    holds_ite
                      (he.entryErr hentryErr)
                      (((((he.setCtx hsetCtx).openPage hopenPage).setBit hSecStatus28
                        .self).contextChanged hcontextChanged).entryOk hentryOk))))

def execCtxOpenReach : Reach := .of [ctxOpenReach, ctxEntryReach none]

theorem Footprint.holds.execCtxOpen {slot w} (he : F.holds d e) (h : execCtxOpenReach.within F d) :
    F.holds d (e.viaRow (execCtxOpen slot w)) :=
  have ⟨hctxOpen, hctxEntry, _⟩ := h
  holds_viaRow (fun _ => rfl) (he.ctxEntry hctxEntry .any (fun _ ho => ho.ctxOpen hctxOpen))

def spoilReach : Reach := .of [.area .cmp]

theorem Footprint.holds.spoil {r' s ofs n cause} (he : F.holds d e) (h : spoilReach.within F d) :
    F.holds d (Dev.spoil e r' s ofs n cause) :=
  have ⟨hcmp, _⟩ := h
  holds_ite he (he.inCmp hcmp)

def lockStripReach : Reach := .of [mirrorReach, setRegionReach, .reg .cmpMissingLines (some 0), eventReach .cmpEvent (some 0) 0,
  .area .raised, spoilReach]

theorem Footprint.holds.lockStrip {num s upTo} (he : F.holds d e) (h : lockStripReach.within F d) :
    F.holds d (Dev.lockStrip e num s upTo) :=
  have ⟨hmirror, hsetRegion, hCmpMissingLines, hCmpEvent0, hraised, hspoil, _⟩ := h
  by
    unfold Dev.lockStrip
    split
    · exact he
    · exact
        holds_ite
          he
          ((((he.foldl (fun _ _ ho => ho.mirror hmirror)).setRegion hsetRegion).foldl
            (fun _ _ ho2 => (((ho2.add32 hCmpMissingLines .self).event hCmpEvent0 .self).raise hraised).spoil hspoil)).foldl
            (fun _ _ ho4 => ho4.spoil hspoil))

def lockRegionReach : Reach := .of [lockStripReach]

theorem Footprint.holds.lockRegion {r' upTo} (he : F.holds d e) (h : lockRegionReach.within F d) :
    F.holds d (Dev.lockRegion e r' upTo) :=
  have ⟨hlockStrip, _⟩ := h
  he.each (fun _ _ ho => ho.lockStrip hlockStrip)

def lockToReach : Reach := .of [.reg .cmpLockLine (some 0), .area .cmp, lockRegionReach, afterRetireReach]

theorem Footprint.holds.lockTo {line} (he : F.holds d e) (h : lockToReach.within F d) :
    F.holds d (Dev.lockTo e line) :=
  have ⟨hCmpLockLine, hcmp, hlockRegion, hafterRetire, _⟩ := h
  holds_ite
    he
    ((((he.putInt hCmpLockLine .self).inCmp hcmp).foldl (fun _ _ ho2 => holds_ite
      (ho2.lockRegion hlockRegion) ho2)).afterRetire hafterRetire)

def lockAheadReach : Reach := .of [lockToReach]

theorem Footprint.holds.lockAhead {posLine} (he : F.holds d e) (h : lockAheadReach.within F d) :
    F.holds d (Dev.lockAhead e posLine) :=
  have ⟨hlockTo, _⟩ := h
  he.lockTo hlockTo

def execCmpLeadLinesWriteReach : Reach := .of [.reg .cmpLeadLines (some 0), lockAheadReach]

theorem Footprint.holds.execCmpLeadLinesWrite {req value} (he : F.holds d e) (h : execCmpLeadLinesWriteReach.within F d) :
    F.holds d (e.viaRow (execCmpLeadLinesWrite req value)) :=
  have ⟨hCmpLeadLines, hlockAhead, _⟩ := h
  holds_viaRow (fun _ => rfl) <|
    have hd1 := he.put hCmpLeadLines .self
    holds_ite (hd1.lockAhead hlockAhead) hd1

def returnCreditsReach (i : Option Nat) : Reach := .of [setPortReach, setCreditsReach i, noteOutstandingReach i]

theorem Footprint.holds.returnCredits {n : Nat} {p} (he : F.holds d e) (h : (returnCreditsReach i).within F d) (hi : Among i n) :
    F.holds d (Dev.returnCredits e n p) :=
  have ⟨hsetPort, hsetCredits, hnoteOutstanding, _⟩ := h
  ((he.setPort hsetPort).setCredits hsetCredits hi).noteOutstanding hnoteOutstanding hi

def accountReach : Reach := .of [setCtxReach, setSynReach]

theorem Footprint.holds.account {n f} (he : F.holds d e) (h : accountReach.within F d) :
    F.holds d (Dev.account e n f) :=
  have ⟨hsetCtx, hsetSyn, _⟩ := h
  (he.foldl (fun _ _ ho => ho.setCtx hsetCtx)).setSyn hsetSyn

def txSlotReach : Reach := .of [setTxReach]

theorem Footprint.holds.txSlot {q s v} (he : F.holds d e) (h : txSlotReach.within F d) :
    F.holds d (Dev.txSlot e q s v) :=
  have ⟨hsetTx, _⟩ := h
  he.setTx hsetTx

def slateLeaveReach : Reach := .of [accountReach, .area .outs, setPortReach, txSlotReach, txToReach]

theorem Footprint.holds.slateLeave {n x} (he : F.holds d e) (h : slateLeaveReach.within F d) :
    F.holds d (Dev.slateLeave e n x) :=
  have ⟨haccount, houts, hsetPort, htxSlot, htxTo, _⟩ := h
  ((((holds_ite he (he.account haccount)).send houts).setPort hsetPort).txSlot htxSlot).txTo htxTo

def execSlateSendReach (i : Option Nat) : Reach := .of [.area .now, slateLeaveReach, returnCreditsReach i]

theorem Footprint.holds.execSlateSend {port : Fin 192} {fire} (he : F.holds d e) (h : (execSlateSendReach i).within F d)
    (hi : Among i port.val) :
    F.holds d (e.viaRow (execSlateSend port fire)) :=
  have ⟨hnow, hslateLeave, hreturnCredits, _⟩ := h
  holds_viaRow (fun _ => rfl) <|
    by
      dsimp only
      split
      · exact he
      · exact ((he.at hnow).slateLeave hslateLeave).returnCredits hreturnCredits hi

def dropSetReach (i : Option Nat) : Reach := .of [setSynReach, .field .synStatus i 14 1, .field .synStatus i 13 1,
  noteStagedReach i]

theorem Footprint.holds.dropSet {n : Nat} (he : F.holds d e) (h : (dropSetReach i).within F d) (hi : Among i n) :
    F.holds d (Dev.dropSet e n) :=
  have ⟨hsetSyn, hSynStatus14, hSynStatus13, hnoteStaged, _⟩ := h
  (((he.setSyn hsetSyn).setBit hSynStatus14 hi).setBit hSynStatus13 hi).noteStaged hnoteStaged hi

def loopSetGoneReach : Reach := .of [setCellReach, .area .ql, qlLogReach, noteLoopReach, mirrorCellsReach]

theorem Footprint.holds.loopSetGone {n} (he : F.holds d e) (h : loopSetGoneReach.within F d) :
    F.holds d (Dev.loopSetGone e n) :=
  have ⟨hsetCell, hql, hqlLog, hnoteLoop, hmirrorCells, _⟩ := h
  by
    unfold Dev.loopSetGone
    split
    · exact he
    · exact ((((he.each (fun _ _ ho => ho.setCell hsetCell)).inQl hql).qlLog hqlLog).noteLoop hnoteLoop).mirrorCells hmirrorCells

def execAbortReach (i j : Option Nat) : Reach := .of [refuseReach i, loopSetGoneReach, dropSetReach j, mirrorReach]

theorem Footprint.holds.execAbort {req : Fin 5} {port : Fin 192} (he : F.holds d e) (h : (execAbortReach i j).within F d)
    (hi : Among i req.val) (hj : Among j port.val) :
    F.holds d (e.viaRow (execAbort req port)) :=
  have ⟨hrefuse, hloopSetGone, hdropSet, hmirror, _⟩ := h
  holds_viaRow (fun _ => rfl) <|
    holds_ite
      (he.refuse hrefuse hi)
      (holds_ite he (((he.loopSetGone hloopSetGone).dropSet hdropSet hj).mirror hmirror))

def execCamAckTimeoutReach (i : Option Nat) : Reach := .of [camFailReach i, setPipeReach, .area .outs, camWordsReach]

theorem Footprint.holds.execCamAckTimeout {pipe : Fin 24} (he : F.holds d e) (h : (execCamAckTimeoutReach i).within F d)
    (hi : Among i pipe.val) :
    F.holds d (e.viaRow (execCamAckTimeout pipe)) :=
  have ⟨hcamFail, hsetPipe, houts, hcamWords, _⟩ := h
  holds_viaRow (fun _ => rfl) <|
    by
      dsimp only
      split
      · exact he
      · exact holds_ite (he.camFail hcamFail hi) (((he.setPipe hsetPipe).send houts).camWords hcamWords)

def skipUploadReach (i : Option Nat) : Reach := .of [.reg .insUploadSkip i]

theorem Footprint.holds.skipUpload {c : Nat} (he : F.holds d e) (h : (skipUploadReach i).within F d) (hi : Among i c) :
    F.holds d (Dev.skipUpload e c) :=
  have ⟨hInsUploadSkip, _⟩ := h
  he.count hInsUploadSkip hi

def sendUploadReach (i : Option Nat) : Reach := .of [skipUploadReach i, setPipeReach, setCtxReach, xptSendReach, .area .outs,
  postEventReach none]

theorem Footprint.holds.sendUpload {c : Nat} {k' frame x data} (he : F.holds d e) (h : (sendUploadReach i).within F d)
    (hi : Among i c) :
    F.holds d (Dev.sendUpload e c k' frame x data) :=
  have ⟨hskipUpload, hsetPipe, hsetCtx, hxptSend, houts, hpostEvent, _⟩ := h
  holds_ite
    (he.skipUpload hskipUpload hi)
    (have hd1 := (he.setPipe hsetPipe).setCtx hsetCtx
    (holds_ite (hd1.foldl (fun _ _ ho1 => ho1.xptSend hxptSend)) (hd1.send houts)).postEvent hpostEvent .any)

def uploadBlockReach (i : Option Nat) : Reach := .of [setPipeReach, sendUploadReach i]

theorem Footprint.holds.uploadBlock {c : Nat} {b} (he : F.holds d e) (h : (uploadBlockReach i).within F d) (hi : Among i c) :
    F.holds d (Dev.uploadBlock e c b) :=
  have ⟨hsetPipe, hsendUpload, _⟩ := h
  by
    unfold Dev.uploadBlock
    split
    · exact he
    · exact
        holds_ite
          (he.setPipe hsetPipe)
          (by
            dsimp only
            split
            · exact (he.setPipe hsetPipe)
            · exact (he.setPipe hsetPipe).sendUpload hsendUpload hi)

def releaseBlockReach (i : Option Nat) : Reach := .of [setUnitReach i, .reg .cdcUnitBlocks i, .reg .cdcUnitStored i, .area .outs]

theorem Footprint.holds.releaseBlock {u : Nat} {b rest} (he : F.holds d e) (h : (releaseBlockReach i).within F d)
    (hi : Among i u) :
    F.holds d (Dev.releaseBlock e u b rest) :=
  have ⟨hsetUnit, hCdcUnitBlocks, hCdcUnitStored, houts, _⟩ := h
  have hd1 := (he.setUnit hsetUnit hi).count hCdcUnitBlocks hi
  (holds_ite (hd1.count hCdcUnitStored hi) hd1).send houts

def uploadStopsReach : Reach := .of [setPipeReach]

theorem Footprint.holds.uploadStops {u} (he : F.holds d e) (h : uploadStopsReach.within F d) :
    F.holds d (Dev.uploadStops e u) :=
  have ⟨hsetPipe, _⟩ := h
  holds_ite (he.setPipe hsetPipe) he

def noteFitReach : Reach := .of [.field .ptnStatus (some 0) 28 1]

theorem Footprint.holds.noteFit (he : F.holds d e) (h : noteFitReach.within F d) :
    F.holds d (Dev.noteFit e) :=
  have ⟨hPtnStatus28, _⟩ := h
  he.setBit hPtnStatus28 .self

def setUnfitReach (b : Nat) : Reach := .of [.field .ptnStatus (some 0) b 1, noteFitReach]

theorem Footprint.holds.setUnfit {cause : Nat} {b} (he : F.holds d e) (h : (setUnfitReach cause).within F d) :
    F.holds d (Dev.setUnfit e cause b) :=
  have ⟨hPtnStatus, hnoteFit, _⟩ := h
  (he.setBit hPtnStatus .self).noteFit hnoteFit

def unitFailsReach (i : Option Nat) : Reach := .of [setUnitReach i, .field .cdcUnitStatus i 31 1, eventReach .cdcEvent (some 0) 1,
  .area .raised, setUnfitReach 6]

theorem Footprint.holds.unitFails {u : Nat} (he : F.holds d e) (h : (unitFailsReach i).within F d) (hi : Among i u) :
    F.holds d (Dev.unitFails e u) :=
  have ⟨hsetUnit, hCdcUnitStatus31, hCdcEvent1, hraised, hsetUnfit6, _⟩ := h
  have hd1 := (((he.setUnit hsetUnit hi).setBit hCdcUnitStatus31 hi).event hCdcEvent1 .self).raise hraised
  holds_ite (hd1.setUnfit hsetUnfit6) hd1

def selfcheckFailReach (i : Option Nat) : Reach := .of [.reg .cdcUnitSelfchk i, eventReach .cdcEvent (some 0) 0, unitFailsReach i,
  setUnitReach i, .area .raised]

theorem Footprint.holds.selfcheckFail {u : Nat} {b rest} (he : F.holds d e) (h : (selfcheckFailReach i).within F d)
    (hi : Among i u) :
    F.holds d (Dev.selfcheckFail e u b rest) :=
  have ⟨hCdcUnitSelfchk, hCdcEvent0, hunitFails, hsetUnit, hraised, _⟩ := h
  have hd1 := (he.count hCdcUnitSelfchk hi).event hCdcEvent0 .self
  holds_ite (hd1.unitFails hunitFails hi) ((hd1.setUnit hsetUnit hi).raise hraised)

def execSelfcheckDoneReach (i : Option Nat) : Reach := .of [releaseBlockReach i, uploadBlockReach i, selfcheckFailReach i,
  uploadStopsReach]

theorem Footprint.holds.execSelfcheckDone {unit : Fin 32} {agree} (he : F.holds d e) (h : (execSelfcheckDoneReach i).within F d)
    (hi : Among i unit.val) :
    F.holds d (e.viaRow (execSelfcheckDone unit agree)) :=
  have ⟨hreleaseBlock, huploadBlock, hselfcheckFail, huploadStops, _⟩ := h
  holds_viaRow (fun _ => rfl) <|
    by
      split
      · exact he
      · exact
          holds_ite
            ((he.releaseBlock hreleaseBlock hi).uploadBlock huploadBlock hi)
            ((he.selfcheckFail hselfcheckFail hi).uploadStops huploadStops)

def linkRestartReach (i : Option Nat) : Reach := .of [maskFaultReach, lanesForReach, setPortReach, setLinkReach i, .field
  .linkStatus i 24 5, setCreditsReach i, noteOutstandingReach i, .field .linkStatus i 22 1, .reg .maxFireHz i]

theorem Footprint.holds.linkRestart {n : Nat} {st} (he : F.holds d e) (h : (linkRestartReach i).within F d) (hi : Among i n) :
    F.holds d (Dev.linkRestart e n st) :=
  have ⟨hmaskFault, hlanesFor, hsetPort, hsetLink, hLinkStatus24, hsetCredits, hnoteOutstanding, hLinkStatus22, hMaxFireHz,
    _⟩ := h
  ((((((((he.maskFault hmaskFault).lanesFor hlanesFor).setPort hsetPort).setLink hsetLink hi).setFld hLinkStatus24 hi).setCredits
    hsetCredits hi).noteOutstanding hnoteOutstanding hi).setBit hLinkStatus22 hi).put hMaxFireHz hi

def linkDownEventReach (i : Option Nat) : Reach := .of [eventReach .linkEvent i 1, eventReach .hlGlbEvent (some 0) 0]

theorem Footprint.holds.linkDownEvent {n : Nat} (he : F.holds d e) (h : (linkDownEventReach i).within F d) (hi : Among i n) :
    F.holds d (Dev.linkDownEvent e n) :=
  have ⟨hLinkEvent1, hHlGlbEvent0, _⟩ := h
  holds_ite ((he.event hLinkEvent1 hi).event hHlGlbEvent0 .self) he

def relinkReach (i : Option Nat) : Reach := .of [linkDownEventReach i, .reg .hptRelinks i, linkRestartReach i]

theorem Footprint.holds.relink {n : Nat} (he : F.holds d e) (h : (relinkReach i).within F d) (hi : Among i n) :
    F.holds d (Dev.relink e n) :=
  have ⟨hlinkDownEvent, hHptRelinks, hlinkRestart, _⟩ := h
  ((he.linkDownEvent hlinkDownEvent hi).count hHptRelinks hi).linkRestart hlinkRestart hi

def noteRejoinReach : Reach := .of [setPortReach]

theorem Footprint.holds.noteRejoin {n} (he : F.holds d e) (h : noteRejoinReach.within F d) :
    F.holds d (Dev.noteRejoin e n) :=
  have ⟨hsetPort, _⟩ := h
  holds_ite (he.setPort hsetPort) he

def relinkFaultReach (i : Option Nat) : Reach := .of [noteRejoinReach, relinkReach i]

theorem Footprint.holds.relinkFault {n : Nat} (he : F.holds d e) (h : (relinkFaultReach i).within F d) (hi : Among i n) :
    F.holds d (Dev.relinkFault e n) :=
  have ⟨hnoteRejoin, hrelink, _⟩ := h
  (he.noteRejoin hnoteRejoin).relink hrelink hi

def execAckTimeoutReach (i : Option Nat) : Reach := .of [relinkFaultReach i, .area .raised, setPortReach, .area .outs,
  headWordsReach]

theorem Footprint.holds.execAckTimeout {port : Fin 192} {seq} (he : F.holds d e) (h : (execAckTimeoutReach i).within F d)
    (hi : Among i port.val) :
    F.holds d (e.viaRow (execAckTimeout port seq)) :=
  have ⟨hrelinkFault, hraised, hsetPort, houts, hheadWords, _⟩ := h
  holds_viaRow (fun _ => rfl) <|
    by
      dsimp only
      split
      · exact he
      · exact
          holds_ite
            ((he.relinkFault hrelinkFault hi).raise hraised)
            (((he.setPort hsetPort).send houts).headWords hheadWords)

def sendTriggerReach (i : Option Nat) : Reach := .of [.area .now, noteTrackReach, setPipeReach, .field .insStatus i 24 1, .area
  .outs, txSlotReach, txToReach]

theorem Footprint.holds.sendTrigger {c : Nat} {slot} (he : F.holds d e) (h : (sendTriggerReach i).within F d) (hi : Among i c) :
    F.holds d (Dev.sendTrigger e c slot) :=
  have ⟨hnow, hnoteTrack, hsetPipe, hInsStatus24, houts, htxSlot, htxTo, _⟩ := h
  (((((((he.at hnow).noteTrack hnoteTrack).setPipe hsetPipe).setBit hInsStatus24 hi).send houts).txSlot htxSlot).txTo
    htxTo).noteTrack hnoteTrack

def insRateReach (i : Option Nat) : Reach := .of [eventReach .insEvent i 2, setPipeReach, .area .raised]

theorem Footprint.holds.insRate {c : Nat} (he : F.holds d e) (h : (insRateReach i).within F d) (hi : Among i c) :
    F.holds d (Dev.insRate e c) :=
  have ⟨hInsEvent2, hsetPipe, hraised, _⟩ := h
  have hd1 := he.event hInsEvent2 hi
  holds_ite ((hd1.setPipe hsetPipe).raise hraised) hd1

def skipTriggerReach (i : Option Nat) : Reach := .of [.reg .insTrigSkip i, insRateReach i]

theorem Footprint.holds.skipTrigger {c : Nat} (he : F.holds d e) (h : (skipTriggerReach i).within F d) (hi : Among i c) :
    F.holds d (Dev.skipTrigger e c) :=
  have ⟨hInsTrigSkip, hinsRate, _⟩ := h
  (he.count hInsTrigSkip hi).insRate hinsRate hi

def triggerAtReach (i : Option Nat) : Reach := .of [sendTriggerReach i, skipTriggerReach i, .reg .insTrigDefer i, insRateReach i]

theorem Footprint.holds.triggerAt {c : Nat} {k'} (he : F.holds d e) (h : (triggerAtReach i).within F d) (hi : Among i c) :
    F.holds d (Dev.triggerAt e c k') :=
  have ⟨hsendTrigger, hskipTrigger, hInsTrigDefer, hinsRate, _⟩ := h
  by
    unfold Dev.triggerAt
    split
    · exact he
    · exact
        holds_ite
          he
          (holds_ite
            (he.sendTrigger hsendTrigger hi)
            (holds_ite
              (he.skipTrigger hskipTrigger hi)
              (((he.count hInsTrigDefer hi).insRate hinsRate hi).sendTrigger hsendTrigger hi)))

def execTriggerSendReach (i : Option Nat) : Reach := .of [triggerAtReach i]

theorem Footprint.holds.execTriggerSend {pipe : Fin 24} {multiple} (he : F.holds d e) (h : (execTriggerSendReach i).within F d)
    (hi : Among i pipe.val) :
    F.holds d (e.viaRow (execTriggerSend pipe multiple)) :=
  have ⟨htriggerAt, _⟩ := h
  holds_viaRow (fun _ => rfl) (he.triggerAt htriggerAt hi)

def releaseWaitsReach : Reach := .of [setCtxReach, postDoneReach]

theorem Footprint.holds.releaseWaits {ok} (he : F.holds d e) (h : releaseWaitsReach.within F d) :
    F.holds d (Dev.releaseWaits e ok) :=
  have ⟨hsetCtx, hpostDone, _⟩ := h
  he.each (fun _ _ ho => (ho.setCtx hsetCtx).postDone hpostDone)

def partnerAckedReach : Reach := .of [.area .ptn, ingestStoreReach, releaseWaitsReach]

theorem Footprint.holds.partnerAcked {ok} (he : F.holds d e) (h : partnerAckedReach.within F d) :
    F.holds d (Dev.partnerAcked e ok) :=
  have ⟨hptn, hingestStore, hreleaseWaits, _⟩ := h
  ((he.inPtn hptn).foldl (fun _ _ ho1 => ho1.ingestStore hingestStore)).releaseWaits hreleaseWaits

def setRoleReach : Reach := .of [journalReach, .area .ql, .field .ptnStatus (some 0) 29 3, .field .ptnStatus (some 0) 0 1,
  noteFitReach, noteLoopReach, partnerAckedReach]

theorem Footprint.holds.setRole {r'} (he : F.holds d e) (h : setRoleReach.within F d) :
    F.holds d (Dev.setRole e r') :=
  have ⟨hjournal, hql, hPtnStatus29, hPtnStatus0, hnoteFit, hnoteLoop, hpartnerAcked, _⟩ := h
  have hd0 := holds_ite he (he.journal hjournal)
  have hd1 := ((((holds_ite hd0 (hd0.inQl hql)).setFld hPtnStatus29 .self).setBit hPtnStatus0
    .self).noteFit hnoteFit).noteLoop hnoteLoop
  holds_ite hd1 (hd1.partnerAcked hpartnerAcked)

def execPresentChangeReach : Reach := .of [.field .ptnStatus (some 0) 26 1, setRoleReach]

theorem Footprint.holds.execPresentChange {present} (he : F.holds d e) (h : execPresentChangeReach.within F d) :
    F.holds d (e.viaRow (execPresentChange present)) :=
  have ⟨hPtnStatus26, hsetRole, _⟩ := h
  holds_viaRow (fun _ => rfl) <|
    have hd1 := he.setBit hPtnStatus26 .self
    holds_ite (hd1.setRole hsetRole) (holds_ite (hd1.setRole hsetRole) hd1)

def loopSetAppliedReach : Reach := .of [setCellReach, .area .ql, noteLoopReach, mirrorCellsReach]

theorem Footprint.holds.loopSetApplied {n f} (he : F.holds d e) (h : loopSetAppliedReach.within F d) :
    F.holds d (Dev.loopSetApplied e n f) :=
  have ⟨hsetCell, hql, hnoteLoop, hmirrorCells, _⟩ := h
  by
    unfold Dev.loopSetApplied
    split
    · exact he
    · exact (((he.each (fun _ _ ho => ho.setCell hsetCell)).inQl hql).noteLoop hnoteLoop).mirrorCells hmirrorCells

def applySetReach (i : Option Nat) : Reach := .of [storeValueReach i, dropSetReach i, eventReach .synEvent i 0,
  loopSetAppliedReach]

theorem Footprint.holds.applySet {n : Nat} {f} (he : F.holds d e) (h : (applySetReach i).within F d) (hi : Among i n) :
    F.holds d (Dev.applySet e n f) :=
  have ⟨hstoreValue, hdropSet, hSynEvent0, hloopSetApplied, _⟩ := h
  holds_ite
    ((((he.foldl (fun _ _ ho =>
      ho.storeValue hstoreValue hi)).dropSet hdropSet hi).event hSynEvent0 hi).loopSetApplied hloopSetApplied)
    he

def noteMatchReach : Reach := .of [.area .ptn, setUnfitReach 3]

theorem Footprint.holds.noteMatch {n} (he : F.holds d e) (h : noteMatchReach.within F d) :
    F.holds d (Dev.noteMatch e n) :=
  have ⟨hptn, hsetUnfit3, _⟩ := h
  have hd1 := he.inPtn hptn
  holds_ite (hd1.setUnfit hsetUnfit3) hd1

def mismatchReach : Reach := .of [.area .ptn, .reg .ptnMismatch (some 0), eventReach .ptnEvent (some 0) 2, .area .raised, .field
  .embStatus none 30 1, noteSparesReach]

theorem Footprint.holds.mismatch {n f} (he : F.holds d e) (h : mismatchReach.within F d) :
    F.holds d (Dev.mismatch e n f) :=
  have ⟨hptn, hPtnMismatch, hPtnEvent2, hraised, hEmbStatus30, hnoteSpares, _⟩ := h
  Footprint.holds.inPtn (by
    split
    · exact ((((he.inPtn hptn).count hPtnMismatch .self).event hPtnEvent2 .self).raise hraised)
    · exact (((((he.inPtn hptn).count hPtnMismatch .self).event hPtnEvent2 .self).raise hraised).setBit hEmbStatus30
        .any).noteSpares hnoteSpares) hptn

def comparePortReach : Reach := .of [.reg .ptnCmpCount (some 0), noteMatchReach, mismatchReach, .reg .ptnNocmp (some 0)]

theorem Footprint.holds.comparePort {n f theirs flagged} (he : F.holds d e) (h : comparePortReach.within F d) :
    F.holds d (Dev.comparePort e n f theirs flagged) :=
  have ⟨hPtnCmpCount, hnoteMatch, hmismatch, hPtnNocmp, _⟩ := h
  by
    unfold Dev.comparePort
    split
    · exact he
    · exact
        holds_ite
          (have hd1 := he.count hPtnCmpCount .self
          holds_ite (hd1.noteMatch hnoteMatch) (hd1.mismatch hmismatch))
          (he.count hPtnNocmp .self)

def compareLateReach : Reach := .of [comparePortReach]

theorem Footprint.holds.compareLate {n f} (he : F.holds d e) (h : compareLateReach.within F d) :
    F.holds d (Dev.compareLate e n f) :=
  have ⟨hcomparePort, _⟩ := h
  holds_ite
    (by
      split
      · exact he.comparePort hcomparePort
      · exact he)
    he

def batchCompleteReach (i : Option Nat) : Reach := .of [applySetReach i, setSynReach, releaseRowReach, fillRowReach,
  noteBusyReach, compareLateReach, .reg .embBatches none]

theorem Footprint.holds.batchComplete {n : Nat} (he : F.holds d e) (h : (batchCompleteReach i).within F d) (hi : Among i n) :
    F.holds d (Dev.batchComplete e n) :=
  have ⟨happlySet, hsetSyn, hreleaseRow, hfillRow, hnoteBusy, hcompareLate, hEmbBatches, _⟩ := h
  by
    unfold Dev.batchComplete
    split
    · exact he
    · exact
        holds_ite
          he
          (by
            dsimp only
            split
            · exact (((((he.applySet happlySet hi).setSyn hsetSyn).each
                (fun _ _ ho1 => (ho1.releaseRow hreleaseRow).fillRow hfillRow)).noteBusy hnoteBusy).compareLate hcompareLate)
            · exact (((((he.applySet happlySet hi).setSyn hsetSyn).each
                (fun _ _ ho1 => (ho1.releaseRow hreleaseRow).fillRow hfillRow)).noteBusy hnoteBusy).compareLate
                hcompareLate).count hEmbBatches .any)

def execBatchCompleteReach (i : Option Nat) : Reach := .of [batchCompleteReach i]

theorem Footprint.holds.execBatchComplete {port : Fin 192} (he : F.holds d e) (h : (execBatchCompleteReach i).within F d)
    (hi : Among i port.val) :
    F.holds d (e.viaRow (execBatchComplete port)) :=
  have ⟨hbatchComplete, _⟩ := h
  holds_viaRow (fun _ => rfl) (he.batchComplete hbatchComplete hi)

def execPairEnWriteReach : Reach := .of [.field .ptnCtrl (some 0) 0 1, .area .ptn, setRoleReach]

theorem Footprint.holds.execPairEnWrite {enable} (he : F.holds d e) (h : execPairEnWriteReach.within F d) :
    F.holds d (e.viaRow (execPairEnWrite enable)) :=
  have ⟨hPtnCtrl0, hptn, hsetRole, _⟩ := h
  holds_viaRow (fun _ => rfl) <|
    have hd1 := he.setBit hPtnCtrl0 .self
    holds_ite
      (holds_ite hd1 ((hd1.inPtn hptn).setRole hsetRole))
      (holds_ite (hd1.setRole hsetRole) hd1)

def execRelinkReach (i j : Option Nat) : Reach := .of [refuseReach i, relinkReach j]

theorem Footprint.holds.execRelink {req : Fin 5} {port : Fin 192} (he : F.holds d e) (h : (execRelinkReach i j).within F d)
    (hi : Among i req.val) (hj : Among j port.val) :
    F.holds d (e.viaRow (execRelink req port)) :=
  have ⟨hrefuse, hrelink, _⟩ := h
  holds_viaRow (fun _ => rfl) (holds_ite (he.refuse hrefuse hi) (he.relink hrelink hj))

def execUpstreamSilentReach (i : Option Nat) : Reach := .of [relinkFaultReach i, .area .raised]

theorem Footprint.holds.execUpstreamSilent {port : Fin 192} (he : F.holds d e) (h : (execUpstreamSilentReach i).within F d)
    (hi : Among i port.val) :
    F.holds d (e.viaRow (execUpstreamSilent port)) :=
  have ⟨hrelinkFault, hraised, _⟩ := h
  holds_viaRow (fun _ => rfl) (holds_ite he ((he.relinkFault hrelinkFault hi).raise hraised))

theorem Footprint.holds.inCmpPtn {v w} (he : F.holds d e) (hc : (Reach.area .cmp).within F d)
    (hp : (Reach.area .ptn).within F d) :
    F.holds d { e with cmp := v, ptn := w } := (he.inCmp hc (v := v)).inPtn hp

def dropJobsReach : Reach := .of [setRegionReach, .area .cmp, .area .ptn]

theorem Footprint.holds.dropJobs {s} (he : F.holds d e) (h : dropJobsReach.within F d) : F.holds d (Dev.dropJobs e s) :=
  have ⟨hsetRegion, hcmp, hptn, _⟩ := h
  Footprint.holds.inCmpPtn (he.foldl fun _ _ ho => by
    split
    · exact ho.setRegion hsetRegion
    · exact ho) hcmp hptn

def endRegionReach : Reach := .of [setRegionReach, closeRegionReach]

theorem Footprint.holds.endRegion {r'} (he : F.holds d e) (h : endRegionReach.within F d) :
    F.holds d (Dev.endRegion e r') :=
  have ⟨hsetRegion, hcloseRegion, _⟩ := h
  (he.setRegion hsetRegion).closeRegion hcloseRegion

def endSubsReach : Reach := .of [setPipeReach]

theorem Footprint.holds.endSubs {h'} (he : F.holds d e) (h : endSubsReach.within F d) :
    F.holds d (Dev.endSubs e h') :=
  have ⟨hsetPipe, _⟩ := h
  he.each (fun _ _ ho => holds_ite ho (ho.setPipe hsetPipe))

def closeContextReach : Reach := .of [.field .tenState none 29 3, .reg .tenHandle none, dropJobsReach, setCtxReach, postDoneReach,
  endRegionReach, endSubsReach, ctxEventReach none, drainDoneReach]

theorem Footprint.holds.closeContext {s} (he : F.holds d e) (h : closeContextReach.within F d) :
    F.holds d (Dev.closeContext e s) :=
  have ⟨hTenState29, hTenHandle, hdropJobs, hsetCtx, hpostDone, hendRegion, hendSubs, hctxEvent, hdrainDone, _⟩ := h
  ((((((((he.setFld hTenState29 .any).put hTenHandle .any).dropJobs hdropJobs).setCtx hsetCtx).postDone hpostDone).foldl
    (fun _ _ ho2 => ho2.endRegion hendRegion)).endSubs hendSubs).ctxEvent hctxEvent .any).drainDone hdrainDone

def execCtxCloseReach (i : Option Nat) : Reach := .of [closeContextReach, contextChangedReach, entryOkReach, handleEntryReach,
  ctxEntryReach i]

theorem Footprint.holds.execCtxClose {slot : Fin 4096} {w} (he : F.holds d e) (h : (execCtxCloseReach i).within F d)
    (hi : Among i slot.val) :
    F.holds d (e.viaRow (execCtxClose slot w)) :=
  have ⟨hcloseContext, hcontextChanged, hentryOk, hhandleEntry, hctxEntry, _⟩ := h
  holds_viaRow (fun _ => rfl) (he.ctxEntry hctxEntry hi (fun _ ho => ho.handleEntry hhandleEntry
    (fun _ _ ho1 => ((ho1.closeContext hcloseContext).contextChanged hcontextChanged).entryOk hentryOk)))

def execDevrecReach : Reach := .of [loopRecordReach, casTakeReach]

theorem Footprint.holds.execDevrec {link w1 frame w3 w4 w5 entries} (he : F.holds d e) (h : execDevrecReach.within F d) :
    F.holds d (e.viaRow (execDevrec link w1 frame w3 w4 w5 entries)) :=
  have ⟨hloopRecord, hcasTake, _⟩ := h
  holds_viaRow (fun _ => rfl) (he.casTake hcasTake (fun _ ho => ho.loopRecord hloopRecord))

def lockPassReach : Reach := .of [lockRegionReach, setRegionReach, afterRetireReach]

theorem Footprint.holds.lockPass {pass reverse} (he : F.holds d e) (h : lockPassReach.within F d) :
    F.holds d (Dev.lockPass e pass reverse) :=
  have ⟨hlockRegion, hsetRegion, hafterRetire, _⟩ := h
  holds_ite
    he
    ((he.foldl (fun _ _ ho => holds_ite ho (holds_ite (ho.lockRegion hlockRegion)
      ((ho.setRegion hsetRegion).lockRegion hlockRegion)))).afterRetire hafterRetire)

def notePassReach : Reach := .of [.field .posStatus (some 0) 10 2]

theorem Footprint.holds.notePass (he : F.holds d e) (h : notePassReach.within F d) :
    F.holds d (Dev.notePass e) :=
  have ⟨hPosStatus10, _⟩ := h
  he.setFld hPosStatus10 .self

def setBindReach : Reach := .of [.reg .posBindFire (some 0), .reg .posBindLine (some 0)]

theorem Footprint.holds.setBind {f l'} (he : F.holds d e) (h : setBindReach.within F d) :
    F.holds d (Dev.setBind e f l') :=
  have ⟨hPosBindFire, hPosBindLine, _⟩ := h
  (he.put hPosBindFire .self).putInt hPosBindLine .self

def startPassReach : Reach := .of [.area .pos, .reg .cmpPassCur (some 0), notePassReach, setBindReach]

theorem Footprint.holds.startPass {p} (he : F.holds d e) (h : startPassReach.within F d) :
    F.holds d (Dev.startPass e p) :=
  have ⟨hpos, hCmpPassCur, hnotePass, hsetBind, _⟩ := h
  have hd1 := (he.inPos hpos).put hCmpPassCur .self
  holds_ite (hd1.notePass hnotePass) (((hd1.inPos hpos).setBind hsetBind).notePass hnotePass)

def execPassArmReach (i : Option Nat) : Reach := .of [refuseReach i, .reg .cmpPassNext (some 0), lockPassReach, startPassReach,
  .area .pos, notePassReach, mirrorBindReach]

theorem Footprint.holds.execPassArm {req : Fin 5} (he : F.holds d e) (h : (execPassArmReach i).within F d)
    (hi : Among i req.val) :
    F.holds d (e.viaRow (execPassArm req)) :=
  have ⟨hrefuse, hCmpPassNext, hlockPass, hstartPass, hpos, hnotePass, hmirrorBind, _⟩ := h
  holds_viaRow (fun _ => rfl) <|
    holds_ite
      (he.refuse hrefuse hi)
      (have hd1 := (he.put hCmpPassNext .self).lockPass hlockPass
      (holds_ite (hd1.startPass hstartPass) ((hd1.inPos hpos).notePass hnotePass)).mirrorBind hmirrorBind)

def clearBatchesReach : Reach := .of [clearPortReach]

theorem Footprint.holds.clearBatches (he : F.holds d e) (h : clearBatchesReach.within F d) :
    F.holds d (Dev.clearBatches e) :=
  have ⟨hclearPort, _⟩ := h
  he.each (fun _ _ ho => ho.clearPort hclearPort)

def alignOtherReach : Reach := .of [alignToReach, .area .pos]

theorem Footprint.holds.alignOther (he : F.holds d e) (h : alignOtherReach.within F d) :
    F.holds d (Dev.alignOther e) :=
  have ⟨halignTo, hpos, _⟩ := h
  by
    unfold Dev.alignOther
    split
    · exact holds_ite ((he.alignTo halignTo).inPos hpos) he
    · exact he

def seekRowsReach : Reach := .of [setRowBufReach, .field .rpStatus none 30 1, fillRowReach]

theorem Footprint.holds.seekRows (he : F.holds d e) (h : seekRowsReach.within F d) :
    F.holds d (Dev.seekRows e) :=
  have ⟨hsetRowBuf, hRpStatus30, hfillRow, _⟩ := h
  he.each (fun _ _ ho => ho.each (fun _ _ ho1 => ((ho1.setRowBuf hsetRowBuf).setBit hRpStatus30 .any).fillRow hfillRow))

def joinWaitingReach : Reach := .of [setPortReach, sendJoinReach none]

theorem Footprint.holds.joinWaiting (he : F.holds d e) (h : joinWaitingReach.within F d) :
    F.holds d (Dev.joinWaiting e) :=
  have ⟨hsetPort, hsendJoin, _⟩ := h
  (he.each (fun _ _ ho => ho.setPort hsetPort)).each (fun _ _ ho2 => holds_ite (ho2.sendJoin hsendJoin .any)
    (ho2.setPort hsetPort))

def fireEnableReach : Reach := .of [.field .posCtrl (some 0) 0 1, .field .posStatus (some 0) 0 1, .field .posStatus (some 0) 12 4,
  stopFreeReach, .field .secStatus (some 0) 28 1, alignOtherReach, clearBatchesReach, .area .pos, setBindReach, seekRowsReach,
  notePassReach, joinWaitingReach, mirrorBindReach]

theorem Footprint.holds.fireEnable (he : F.holds d e) (h : fireEnableReach.within F d) :
    F.holds d (Dev.fireEnable e) :=
  have ⟨hPosCtrl0, hPosStatus0, hPosStatus12, hstopFree, hSecStatus28, halignOther, hclearBatches, hpos, hsetBind, hseekRows,
    hnotePass, hjoinWaiting, hmirrorBind, _⟩ := h
  ((((((((((((he.setBit hPosCtrl0 .self).setBit hPosStatus0 .self).setFld hPosStatus12
    .self).stopFree hstopFree).setBit hSecStatus28
    .self).alignOther halignOther).clearBatches hclearBatches).inPos hpos).setBind hsetBind).seekRows hseekRows).notePass
    hnotePass).joinWaiting hjoinWaiting).mirrorBind hmirrorBind

def execFireEnReach (i : Option Nat) : Reach := .of [refuseReach i, fireEnableReach]

theorem Footprint.holds.execFireEn {req : Fin 5} (he : F.holds d e) (h : (execFireEnReach i).within F d) (hi : Among i req.val) :
    F.holds d (e.viaRow (execFireEn req)) :=
  have ⟨hrefuse, hfireEnable, _⟩ := h
  holds_viaRow (fun _ => rfl) <|
    by
      split
      · exact he.refuse hrefuse hi
      · exact holds_ite he (he.fireEnable hfireEnable)

def resyncReach : Reach := .of [.area .ptn, setRoleReach]

theorem Footprint.holds.resync (he : F.holds d e) (h : resyncReach.within F d) :
    F.holds d (Dev.resync e) :=
  have ⟨hptn, hsetRole, _⟩ := h
  (he.inPtn hptn).setRole hsetRole

def execResyncReach : Reach := .of [resyncReach]

theorem Footprint.holds.execResync (he : F.holds d e) (h : execResyncReach.within F d) :
    F.holds d (e.viaRow execResync) :=
  have ⟨hresync, _⟩ := h
  holds_viaRow (fun _ => rfl) (holds_ite (he.resync hresync) he)

def closeFramesReach : Reach := .of [frameCloseReach none]

theorem Footprint.holds.closeFrames (he : F.holds d e) (h : closeFramesReach.within F d) :
    F.holds d (Dev.closeFrames e) :=
  have ⟨hframeClose, _⟩ := h
  he.each (fun _ _ ho => ho.frameClose hframeClose .any)

def noteSpeedReach : Reach := .of [noteTrackReach, .reg .posSpeed (some 0), .field .posStatus (some 0) 2 1, .field .posStatus
  (some 0) 3 1, closeFramesReach]

theorem Footprint.holds.noteSpeed (he : F.holds d e) (h : noteSpeedReach.within F d) :
    F.holds d (Dev.noteSpeed e) :=
  have ⟨hnoteTrack, hPosSpeed, hPosStatus2, hPosStatus3, hcloseFrames, _⟩ := h
  by
    unfold Dev.noteSpeed
    dsimp only
    split
    · exact (((he.noteTrack hnoteTrack).put hPosSpeed .self).setBit hPosStatus2 .self).setBit hPosStatus3 .self
    · exact (((holds_ite ((he.noteTrack hnoteTrack).closeFrames hcloseFrames) (he.noteTrack hnoteTrack)).put hPosSpeed
        .self).setBit hPosStatus2 .self).setBit hPosStatus3 .self

def execStandstillReach : Reach := .of [.area .now, setEncReach, noteSpeedReach]

theorem Footprint.holds.execStandstill {input time} (he : F.holds d e) (h : execStandstillReach.within F d) :
    F.holds d (e.viaRow (execStandstill input time)) :=
  have ⟨hnow, hsetEnc, hnoteSpeed, _⟩ := h
  holds_viaRow (fun _ => rfl) (((he.at hnow).setEnc hsetEnc).noteSpeed hnoteSpeed)

def resetSilentReach : Reach := .of [setEncReach]

theorem Footprint.holds.resetSilent (he : F.holds d e) (h : resetSilentReach.within F d) :
    F.holds d (Dev.resetSilent e) :=
  have ⟨hsetEnc, _⟩ := h
  he.each (fun _ _ ho => by
    split
    · exact ho.setEnc hsetEnc
    · exact ho)

def setSourceReach : Reach := .of [.field .posEncStatus none 29 1, .field .posStatus (some 0) 4 3, noteSpeedReach]

theorem Footprint.holds.setSource {i'} (he : F.holds d e) (h : setSourceReach.within F d) :
    F.holds d (Dev.setSource e i') :=
  have ⟨hPosEncStatus29, hPosStatus4, hnoteSpeed, _⟩ := h
  ((he.each (fun _ _ ho => ho.setBit hPosEncStatus29 .any)).setFld hPosStatus4 .self).noteSpeed hnoteSpeed

def returnInputReach (i : Option Nat) : Reach := .of [.field .posEncStatus i 31 1, setEncReach, resetSilentReach, .area .pos,
  alignToReach, setSourceReach, alignOtherReach, mirrorBindReach, noteSpeedReach]

theorem Footprint.holds.returnInput {i' : Nat} (he : F.holds d e) (h : (returnInputReach i).within F d) (hi : Among i i') :
    F.holds d (Dev.returnInput e i') :=
  have ⟨hPosEncStatus31, hsetEnc, hresetSilent, hpos, halignTo, hsetSource, halignOther, hmirrorBind, hnoteSpeed, _⟩ := h
  holds_ite
    he
    (have hd2 := ((he.setBit hPosEncStatus31 hi).setEnc hsetEnc).resetSilent hresetSilent
    holds_ite
      hd2
      (holds_ite
        (hd2.inPos hpos)
        (holds_ite
          (((((hd2.alignTo halignTo).inPos hpos).setSource hsetSource).alignOther halignOther).mirrorBind hmirrorBind)
          (holds_ite (hd2.noteSpeed hnoteSpeed) ((hd2.alignOther halignOther).mirrorBind hmirrorBind)))))

def execInputReturnReach (i : Option Nat) : Reach := .of [returnInputReach i, repeatOutReach]

theorem Footprint.holds.execInputReturn {input : Fin 8} (he : F.holds d e) (h : (execInputReturnReach i).within F d)
    (hi : Among i input.val) :
    F.holds d (e.viaRow (execInputReturn input)) :=
  have ⟨hreturnInput, hrepeatOut, _⟩ := h
  holds_viaRow (fun _ => rfl) ((he.returnInput hreturnInput hi).repeatOut hrepeatOut)

def casSendReach : Reach := .of [casDropReach, casPutReach]

theorem Footprint.holds.casSend {dest port type body} (he : F.holds d e) (h : casSendReach.within F d) :
    F.holds d (Dev.casSend e dest port type body) :=
  have ⟨hcasDrop, hcasPut, _⟩ := h
  holds_ite
    he
    (holds_ite
      (holds_ite (he.casDrop hcasDrop) (he.each (fun _ _ ho => ho.casPut hcasPut)))
      (by
        dsimp only
        split
        · exact holds_ite (he.casDrop hcasDrop) (he.casPut hcasPut)
        · exact he.casDrop hcasDrop))

def sendDevrecsReach : Reach := .of [casSendReach]

theorem Footprint.holds.sendDevrecs {c r' es} (he : F.holds d e) (h : sendDevrecsReach.within F d) :
    F.holds d (Dev.sendDevrecs e c r' es) :=
  have ⟨hcasSend, _⟩ := h
  he.foldl (fun _ _ ho => ho.casSend hcasSend)

def execRecordHandoffReach : Reach := .of [setPipeReach, mirrorSendReach, .area .ql, sendDevrecsReach]

theorem Footprint.holds.execRecordHandoff {pipe} (he : F.holds d e) (h : execRecordHandoffReach.within F d) :
    F.holds d (e.viaRow (execRecordHandoff pipe)) :=
  have ⟨hsetPipe, hmirrorSend, hql, hsendDevrecs, _⟩ := h
  holds_viaRow (fun _ => rfl) <|
    by
      dsimp only
      split
      · exact he
      · exact
          have hd1 := he.setPipe hsetPipe
          (holds_ite (hd1.mirrorSend hmirrorSend) (hd1.inQl hql)).sendDevrecs hsendDevrecs

def setDigestReach : Reach := .of [.reg .imgDigest none]

theorem Footprint.holds.setDigest (he : F.holds d e) (h : setDigestReach.within F d) :
    F.holds d (Dev.setDigest e) :=
  have ⟨hImgDigest, _⟩ := h
  he.each (fun _ _ ho => ho.put hImgDigest .any)

def sendShapeReach : Reach := .of [casSendReach]

theorem Footprint.holds.sendShape (he : F.holds d e) (h : sendShapeReach.within F d) :
    F.holds d (Dev.sendShape e) :=
  have ⟨hcasSend, _⟩ := h
  he.casSend hcasSend

def compareDailiesReach : Reach := .of [eventReach .ptnEvent (some 0) 3, .area .raised, setUnfitReach 2]

theorem Footprint.holds.compareDailies (he : F.holds d e) (h : compareDailiesReach.within F d) :
    F.holds d (Dev.compareDailies e) :=
  have ⟨hPtnEvent3, hraised, hsetUnfit2, _⟩ := h
  by
    unfold Dev.compareDailies
    split
    · exact he
    · exact
        holds_ite
          (have hd1 := (he.event hPtnEvent3 .self).raise hraised
          holds_ite (hd1.setUnfit hsetUnfit2) hd1)
          (he.setUnfit hsetUnfit2)

def execHotActivationDoneReach : Reach := .of [setImgStateReach, .field .imgStatus (some 0) 7 1, setDigestReach, interruptReach,
  journalReach, sendShapeReach, sendDailyReach, compareDailiesReach]

theorem Footprint.holds.execHotActivationDone (he : F.holds d e) (h : execHotActivationDoneReach.within F d) :
    F.holds d (e.viaRow execHotActivationDone) :=
  have ⟨hsetImgState, hImgStatus7, hsetDigest, hinterrupt, hjournal, hsendShape, hsendDaily, hcompareDailies, _⟩ := h
  holds_viaRow (fun _ => rfl) <|
    holds_ite
      (have hd2 := (((((he.setImgState hsetImgState).setBit hImgStatus7
        .self).setDigest hsetDigest).irqPulse hinterrupt).journal hjournal).sendShape hsendShape
      holds_ite (hd2.sendDaily hsendDaily) (hd2.compareDailies hcompareDailies))
      he

def tableCorrectedReach : Reach := .of [.reg .embTableCe none]

theorem Footprint.holds.tableCorrected {e' k'} (he : F.holds d e) (h : tableCorrectedReach.within F d) :
    F.holds d (Dev.tableCorrected e e' k') :=
  have ⟨hEmbTableCe, _⟩ := h
  he.add32 hEmbTableCe .any

def readCrcCheckReach : Reach := .of [setRegionReach, .reg .rpReadCrc none, eventReach .cmpEvent (some 0) 3, .area .raised,
  spoilReach]

theorem Footprint.holds.readCrcCheck {n j' r' s ofs} (he : F.holds d e) (h : readCrcCheckReach.within F d) :
    F.holds d (Dev.readCrcCheck e n j' r' s ofs) :=
  have ⟨hsetRegion, hRpReadCrc, hCmpEvent3, hraised, hspoil, _⟩ := h
  by
    unfold Dev.readCrcCheck
    split
    · exact he
    · exact
        holds_ite
          (((((he.setRegion hsetRegion).count hRpReadCrc .any).event hCmpEvent3 .self).raise hraised).spoil hspoil)
          he

def takeRowReach : Reach := .of [fillRowReach, setRowBufReach, .reg .rpUnderrun none, eventReach .cmpEvent (some 0) 1,
  .area .raised, readCrcCheckReach, spoilReach]

theorem Footprint.holds.takeRow {n k f p} (he : F.holds d e) (h : takeRowReach.within F d) :
    F.holds d (Dev.takeRow e n k f p).1 := by
  obtain ⟨hfillRow, hsetRowBuf, hRpUnderrun, hCmpEvent1, hraised, hreadCrcCheck, hspoil, -⟩ := h
  have hd1 : ∀ y, F.holds d (((e.fillRow n k f).setRowBuf n k y).fillRow n k (f + 1)) :=
    fun _ => ((he.fillRow hfillRow).setRowBuf hsetRowBuf).fillRow hfillRow
  unfold Dev.takeRow
  dsimp only
  split
  · exact (hd1 _).foldl fun _ _ ho => ho.readCrcCheck hreadCrcCheck
  · exact ((((hd1 _).count hRpUnderrun .any).event hCmpEvent1 .self).raise hraised).foldl fun _ _ ho => ho.spoil hspoil

def freeBlockReach : Reach := .of [setRegionReach, .area .cmp]

theorem Footprint.holds.freeBlock {num s first} (he : F.holds d e) (h : freeBlockReach.within F d) :
    F.holds d (Dev.freeBlock e num s first) :=
  have ⟨hsetRegion, hcmp, _⟩ := h
  by
    unfold Dev.freeBlock
    split
    · exact he
    · exact
        by
          split
          · exact he
          · exact (he.setRegion hsetRegion).inCmp hcmp

def retireBlocksReach : Reach := .of [freeBlockReach, afterRetireReach]

theorem Footprint.holds.retireBlocks {posLine} (he : F.holds d e) (h : retireBlocksReach.within F d) :
    F.holds d (Dev.retireBlocks e posLine) :=
  have ⟨hfreeBlock, hafterRetire, _⟩ := h
  holds_ite he ((he.foldl (fun _ _ ho => ho.freeBlock hfreeBlock)).afterRetire hafterRetire)

/-- A loop that carries something beside the controller. -/
theorem holds_foldl_fst {α β : Type} {f : Dev × β → α → Dev × β} {xs : List α} {p : Dev × β} (hp : F.holds d p.1)
    (hf : ∀ q x, F.holds d q.1 → F.holds d (f q x).1) : F.holds d (xs.foldl f p).1 := by
  induction xs generalizing p with
  | nil => exact hp
  | cons x xs ih => exact ih (hf p x hp)

def batchStartReach : Reach := .of [takeRowReach, setSynReach, setPortReach, noteBusyReach, retireBlocksReach]

theorem Footprint.holds.batchStart {n f} (he : F.holds d e) (h : batchStartReach.within F d) :
    F.holds d (Dev.batchStart e n f) := by
  obtain ⟨htakeRow, hsetSyn, hsetPort, hnoteBusy, hretireBlocks, -⟩ := h
  unfold Dev.batchStart
  split
  · exact he
  · exact holds_ite he <| Footprint.holds.retireBlocks (Footprint.holds.noteBusy (Footprint.holds.setPort
      (Footprint.holds.setSyn (holds_foldl_fst he fun _ _ ho => ho.takeRow htakeRow) hsetSyn) hsetPort) hnoteBusy) hretireBlocks

def execBatchStartReach : Reach := .of [tableCorrectedReach, batchStartReach]

theorem Footprint.holds.execBatchStart {port fire corrected} (he : F.holds d e) (h : execBatchStartReach.within F d) :
    F.holds d (e.viaRow (execBatchStart port fire corrected)) :=
  have ⟨htableCorrected, hbatchStart, _⟩ := h
  holds_viaRow (fun _ => rfl) <|
    Footprint.holds.batchStart (by
      split
      · exact he
      · exact holds_ite (he.tableCorrected htableCorrected) he) hbatchStart

def execDualActiveReach : Reach := .of [.field .ptnStatus (some 0) 25 1, eventReach .ptnEvent (some 0) 5, .area .raised, .area
  .ptn, setUnfitReach 5, setRoleReach]

theorem Footprint.holds.execDualActive (he : F.holds d e) (h : execDualActiveReach.within F d) :
    F.holds d (e.viaRow execDualActive) :=
  have ⟨hPtnStatus25, hPtnEvent5, hraised, hptn, hsetUnfit5, hsetRole, _⟩ := h
  holds_viaRow (fun _ => rfl) <|
    have hd1 := he.setBit hPtnStatus25 .self
    holds_ite
      hd1
      (have hd2 := (hd1.event hPtnEvent5 .self).raise hraised
      holds_ite hd2 (((hd2.inPtn hptn).setUnfit hsetUnfit5).setRole hsetRole))

def execCalDoneReach : Reach := .of [echoDoneReach none, .area .pos, .field .posCtrl (some 0) 3 1, eventReach .posEvent
  (some 0) 8]

theorem Footprint.holds.execCalDone (he : F.holds d e) (h : execCalDoneReach.within F d) :
    F.holds d (e.viaRow execCalDone) :=
  have ⟨hechoDone, hpos, hPosCtrl3, hPosEvent8, _⟩ := h
  holds_viaRow (fun _ => rfl) <|
    holds_ite
      ((((he.each (fun _ _ ho => ho.echoDone hechoDone .any)).inPos hpos).setBit hPosCtrl3 .self).event hPosEvent8 .self)
      he

def execMirrorGapReach : Reach := .of [eventReach .ptnEvent (some 0) 1, .area .raised, setUnfitReach 1, resyncReach, .area .ptn]

theorem Footprint.holds.execMirrorGap (he : F.holds d e) (h : execMirrorGapReach.within F d) :
    F.holds d (e.viaRow execMirrorGap) :=
  have ⟨hPtnEvent1, hraised, hsetUnfit1, hresync, hptn, _⟩ := h
  holds_viaRow (fun _ => rfl) <|
    holds_ite
      ((((he.event hPtnEvent1 .self).raise hraised).setUnfit hsetUnfit1).resync hresync)
      (he.inPtn hptn)

def linkRetrainReach : Reach := .of [setPortReach, trainLanesReach]

theorem Footprint.holds.linkRetrain {n} (he : F.holds d e) (h : linkRetrainReach.within F d) :
    F.holds d (Dev.linkRetrain e n) :=
  have ⟨hsetPort, htrainLanes, _⟩ := h
  (he.setPort hsetPort).trainLanes htrainLanes

def sampleCfgReach : Reach := .of [setCtlReach, headSendReach]

theorem Footprint.holds.sampleCfg {n} (he : F.holds d e) (h : sampleCfgReach.within F d) :
    F.holds d (Dev.sampleCfg e n) :=
  have ⟨hsetCtl, hheadSend, _⟩ := h
  holds_ite he ((he.each (fun _ _ ho => ho.setCtl hsetCtl)).headSend hheadSend)

def headCheckReach (i : Option Nat) : Reach := .of [.field .synCtrl i 0 1, eventReach .linkEvent i 5, setPortReach]

theorem Footprint.holds.headCheck {n : Nat} (he : F.holds d e) (h : (headCheckReach i).within F d) (hi : Among i n) :
    F.holds d (Dev.headCheck e n) :=
  have ⟨hSynCtrl0, hLinkEvent5, hsetPort, _⟩ := h
  holds_ite he (((he.setBit hSynCtrl0 hi).event hLinkEvent5 hi).setPort hsetPort)

def sendEchoReach : Reach := .of [txSlotReach, .area .outs]

theorem Footprint.holds.sendEcho {n k'} (he : F.holds d e) (h : sendEchoReach.within F d) :
    F.holds d (Dev.sendEcho e n k') :=
  have ⟨htxSlot, houts, _⟩ := h
  (he.txSlot htxSlot).send houts

def startEchoReach : Reach := .of [setPortReach, headSendReach, sendEchoReach]

theorem Footprint.holds.startEcho {n u} (he : F.holds d e) (h : startEchoReach.within F d) :
    F.holds d (Dev.startEcho e n u) :=
  have ⟨hsetPort, hheadSend, hsendEcho, _⟩ := h
  ((he.setPort hsetPort).headSend hheadSend).each (fun _ _ ho1 => ho1.sendEcho hsendEcho)

def linkUpReach (i : Option Nat) : Reach := .of [setLinkReach i, eventReach .linkEvent i 2, .reg .maxFireHz i, setPortReach,
  headCheckReach i, laneDeepReach, headSendReach, autoRejoinReach i, startEchoReach]

theorem Footprint.holds.linkUp {n : Nat} (he : F.holds d e) (h : (linkUpReach i).within F d) (hi : Among i n) :
    F.holds d (Dev.linkUp e n) :=
  have ⟨hsetLink, hLinkEvent2, hMaxFireHz, hsetPort, hheadCheck, hlaneDeep, hheadSend, hautoRejoin, hstartEcho, _⟩ := h
  holds_let (((((((he.setLink hsetLink hi).event hLinkEvent2 hi).put hMaxFireHz hi).setPort hsetPort).headCheck hheadCheck
    hi).each (fun _ _ ho2 => ho2.laneDeep hlaneDeep)).headSend hheadSend) fun hd3 =>
    holds_ite (hd3.autoRejoin hautoRejoin hi) (hd3.startEcho hstartEcho)

def ackStageReach (i : Option Nat) : Reach := .of [linkRetrainReach, linkUpReach i, sampleCfgReach]

theorem Footprint.holds.ackStage {n : Nat} {type} (he : F.holds d e) (h : (ackStageReach i).within F d) (hi : Among i n) :
    F.holds d (Dev.ackStage e n type) :=
  have ⟨hlinkRetrain, hlinkUp, hsampleCfg, _⟩ := h
  holds_ite (he.linkRetrain hlinkRetrain) (holds_ite ((he.linkUp hlinkUp hi).sampleCfg hsampleCfg) he)

def execHeadAckReach (i : Option Nat) : Reach := .of [relinkFaultReach i, setPortReach, ackStageReach i]

theorem Footprint.holds.execHeadAck {port : Fin 192} {refused seq} (he : F.holds d e) (h : (execHeadAckReach i).within F d)
    (hi : Among i port.val) :
    F.holds d (e.viaRow (execHeadAck port refused seq)) :=
  have ⟨hrelinkFault, hsetPort, hackStage, _⟩ := h
  holds_viaRow (fun _ => rfl) <|
    by
      dsimp only
      split
      · exact he
      · exact holds_ite (he.relinkFault hrelinkFault hi) ((he.setPort hsetPort).ackStage hackStage hi)

def beforeWriteReach : Reach := .of [prbsStopReach none, injStopReach none, setLaneReach]

theorem Footprint.holds.beforeWrite {r' k' v} (he : F.holds d e) (h : beforeWriteReach.within F d) :
    F.holds d (Dev.beforeWrite e r' k' v) :=
  have ⟨hprbsStop, hinjStop, hsetLane, _⟩ := h
  holds_ite
    (have hd1 := (he.prbsStop hprbsStop .any).injStop hinjStop .any
    holds_ite (hd1.setLane hsetLane) hd1)
    he

def ethLinkReach : Reach := .of [.reg .epStatus none, ctxEventReach none, .area .raised, interruptReach]

theorem Footprint.holds.ethLink {ep up fec} (he : F.holds d e) (h : ethLinkReach.within F d) :
    F.holds d (Dev.ethLink e ep up fec) :=
  have ⟨hEpStatus, hctxEvent, hraised, hinterrupt, _⟩ := h
  have hd1 := he.put hEpStatus .any
  holds_let (holds_ite ((hd1.each (fun _ _ ho1 => ho1.ctxEvent hctxEvent .any)).raise hraised) hd1) fun hd2 =>
    holds_ite hd2 (hd2.irqPulse hinterrupt)

def afterWriteReach : Reach := .of [pendReach, noteLoopReach, tellDueReach, postDoneReach, ethLinkReach, interruptReach]

theorem Footprint.holds.afterWrite {r' k'} (he : F.holds d e) (h : afterWriteReach.within F d) :
    F.holds d (Dev.afterWrite e r' k') :=
  have ⟨hpend, hnoteLoop, htellDue, hpostDone, hethLink, hinterrupt, _⟩ := h
  by
    unfold Dev.afterWrite
    split
    · exact holds_ite (he.irqPend hpend) he
    · exact he.noteLoop hnoteLoop
    · exact (he.tellDue htellDue).postDone hpostDone
    · exact holds_ite he (he.ethLink hethLink)
    · exact he.refreshEvent hinterrupt

def refuseAgentReach : Reach := .of [refuseReach none, .area .raised]

theorem Footprint.holds.refuseAgent {a e' place} (he : F.holds d e) (h : refuseAgentReach.within F d) :
    F.holds d (Dev.refuseAgent e a e' place) :=
  have ⟨hrefuse, hraised, _⟩ := h
  by
    unfold Dev.refuseAgent
    split
    · exact he.refuse hrefuse .any
    · exact he.raise hraised

end
end Sys2Proof.Machine
end

section
open Sys2Proof
namespace Sys2Proof.Machine

/-- A slot that is zeroed is freed, and the event of it goes to the ring of slot 0. -/
theorem execCtxZeroDoneReach_within {d : Dev} {slot : Fin 4096} :
    (execCtxZeroDoneReach (some slot.val)).within (footprint d (.ctxZeroDone slot)) d :=
  have hevent : (ctxEventReach (some 0)).within
      (.of [.outs, .ten, .mgt, .hst] [.one .tenCqTail 0, .one .tenEvDrop 0, .one .tenLastErr 0] [] []) d := .of_fits rfl
  have hpage : (clearPageReach (some slot.val)).within (.of [] (tenPageOf slot.val) [] []) d := .of_fits rfl
  have hfree : (freeSlotReach (some slot.val)).within (footprint d (.ctxZeroDone slot)) d :=
    ⟨hpage.mono rfl (List.nil_subset _) (List.subset_append_left _ _), .of_fits rfl, .of_fits rfl, trivial⟩
  ⟨.of_fits rfl, .of_fits rfl, hfree, .of_fits rfl, .of_fits rfl, .of_fits rfl,
    hevent.mono rfl (by simp [footprint, Footprint.of]) (by simp [footprint, Footprint.of]), trivial⟩



/-! ### A register write: the register at each address, and what follows its store -/

/-- What a register write may change beside the registers at its addresses. -/
def writeAsideFootprint : Footprint :=
  .of [.raised, .outs, .ten, .mgt, .hst, .lne]
    [.all .epCtrl, .all .epStatus, .one .glbBadAccess 0, .all .glbLastErr, .all .irqLevel, .all .irqPendSet, .all .lneInjCount,
      .all .lnePrbsBits, .bits .lneStatus 0x2, .oneBits .qlStatus 0 0x8000ffff, .one .tenAccessErr 0, .all .tenCqTail,
      .all .tenEvDrop, .oneBits .tenEvent 0 0x8, .all .tenLastErr] [] []

/-- What the operations around a store reach. -/
def writeAsideReach : Reach :=
  .of [beforeWriteReach, afterWriteReach, refuseAgentReach, accessErrReach, badAccessReach, .reg .epCtrl none]

theorem writeAsideReach_within {d : Dev} : writeAsideReach.within writeAsideFootprint d := .of_fits rfl

/-- A register that a footprint names is within it. -/
theorem Reach.within.one {F : Footprint} {d : Dev} {r : Reg} {k : Nat} (h : Touch.one r k ∈ F.touches) :
    (Reach.reg r (some k)).within F d := by
  intro n hn b _ _ hb
  obtain rfl := hn k rfl
  exact List.any_eq_true.mpr ⟨_, h, Touch.covers_one hb⟩

section
variable {F : Footprint} {d e : Dev} {r : Reg} {k : Nat}

theorem Footprint.holds.storeReg {i : Option Nat} {v} (he : F.holds d e) (h : writeAsideReach.within F d)
    (hr : (Reach.reg r i).within F d) (hk : Among i k) : F.holds d (e.storeReg r k v) :=
  have ⟨hbefore, hafter, _⟩ := h
  ((he.beforeWrite hbefore).wr hr hk).afterWrite hafter

theorem Footprint.holds.storeEp {a v} (he : F.holds d e) (h : writeAsideReach.within F d) : F.holds d (e.storeEp a k v) :=
  have ⟨_, _, hrefuse, _, _, hep, _⟩ := h
  holds_ite ((he.refuseAgent hrefuse).storeReg h hep .any) (he.storeReg h hep .any)

theorem Footprint.holds.writeBits {a high v edges} (he : F.holds d e) (h : writeAsideReach.within F d)
    (hr : (Reach.reg r (some k)).within F d) : F.holds d (e.writeBits a r k high v edges) := by
  obtain ⟨-, -, hrefuse, -⟩ := id h
  refine holds_ite (he.refuseAgent hrefuse) ?_
  split
  · exact he.refuseAgent hrefuse
  · exact holds_ite he (holds_ite (he.storeEp h) (he.storeReg h hr .self))

theorem Footprint.holds.writeReg {a high v x} (he : F.holds d e) (h : writeAsideReach.within F d)
    (hr : (Reach.reg r (some k)).within F d) (hown : r.rowOfOwn v = false)
    (hcmd : r ∉ [Reg.imgCtrl, Reg.posEncStatus, Reg.qlCtrl, Reg.lneCtrl, Reg.nvaOpCtrl]) :
    F.holds d (e.writeReg a r k high v x) :=
  Dev.writeReg_of_no_command hown hcmd a k high x ▸ he.writeBits h hr

/-- A word that runs no command changes the register at its address, and what follows. -/
theorem Footprint.holds.writeWord {a addr v x} (he : F.holds d e) (h : writeAsideReach.within F d)
    (ht : addrTouch addr ⊆ F.touches) (hruns : writeRuns addr v = false) : F.holds d (e.writeWord a addr v x) := by
  obtain ⟨-, -, -, herr, hbad, -⟩ := id h
  refine holds_ite he (holds_ite (he.accessErr herr) ?_)
  split
  next hf =>
    have hnzt : inNzt addr = false := by simpa [writeRuns, hf] using hruns
    rw [hnzt]
    exact he.badAccess hbad
  next r k high hf =>
    obtain ⟨hown, hcmd⟩ := not_mem_of_not_writeRuns hruns hf
    have hr : (Reach.reg r (some k)).within F d := .one (ht (by simp [addrTouch, hf]))
    refine holds_ite ?_ (he.writeReg h hr hown hcmd)
    split
    · exact holds_ite (he.writeReg h hr hown hcmd) (he.accessErr herr)
    · exact he.accessErr herr

end

/-- A register write that runs no command stays within what it names. -/
theorem framed_registerWrite {writer : Agent} {addr : BitVec 28} {value : BitVec 64} {wide : Bool} {aside : WriteAside}
    (hlow : writeRuns addr.toNat value = false) (hhigh : wide = true → writeRuns (addr.toNat + 4) (value >>> 32) = false) :
    Framed (.registerWrite writer addr value wide aside) := by
  refine .of_row (o := execRegisterWrite writer addr value wide aside) (fun d _ => ?_) fun _ => rfl
  have hruns : (writeRuns addr.toNat value || wide && writeRuns (addr.toNat + 4) (value >>> 32)) = false := by
    cases wide with
    | false => simp [hlow]
    | true => simp [hlow, hhigh rfl]
  rw [footprint, hruns, if_neg Bool.false_ne_true]
  generalize hF : Footprint.of _ _ _ _ = F
  have haside : writeAsideReach.within F d :=
    writeAsideReach_within.mono rfl (hF ▸ List.Subset.refl _) (hF ▸ List.subset_append_right _ _)
  have ht : addrTouch addr.toNat ⊆ F.touches :=
    hF ▸ List.subset_append_of_subset_left _ (List.subset_append_left _ _)
  have hword := (F.holds_refl d).writeWord (a := writer) (x := aside) haside ht hlow
  obtain ⟨-, -, -, -, hbad, -⟩ := id haside
  refine holds_viaRow (fun _ => rfl) ?_
  refine holds_ite ((F.holds_refl d).badAccess hbad) ?_
  split
  next hwide =>
    subst hwide
    have hthigh : addrTouch (addr.toNat + 4) ⊆ F.touches :=
      hF ▸ List.subset_append_of_subset_left _ (List.subset_append_right _ _)
    exact hword.writeWord haside hthigh (hhigh rfl)
  next => exact hword

/-- A register write whose footprint names something runs no command. -/
theorem not_writeRuns_of_hasBreadth {d : Dev} {writer : Agent} {addr : BitVec 28} {value : BitVec 64} {wide : Bool}
    {aside : WriteAside} {n : Nat} (h : (footprint d (.registerWrite writer addr value wide aside)).hasBreadth n = true) :
    writeRuns addr.toNat value = false ∧ (wide = true → writeRuns (addr.toNat + 4) (value >>> 32) = false) := by
  rw [footprint] at h
  split at h
  next => exact absurd h Bool.false_ne_true
  next hruns => simpa using hruns

end Sys2Proof.Machine
end

section
open Sys2Proof
namespace Sys2Proof.Machine

theorem framed_of_four_areas {d : Dev} (c : Instr) (h : (footprint d c).hasBreadth 4 = true) : Framed c := by
  cases c with
  | registerWrite =>
    obtain ⟨hlow, hhigh⟩ := not_writeRuns_of_hasBreadth h
    exact framed_registerWrite hlow hhigh
  | pdRefreshDone port =>
    exact .of_row (fun _ he => he.execPdRefreshDone (i := some port.val) (.of_fits rfl) .self) fun _ => rfl
  | regionOpen slot =>
    exact .of_row (fun _ he => he.execRegionOpen (i := some slot.val) (.of_fits rfl) .self) fun _ => rfl
  | regionClose slot =>
    exact .of_row (fun _ he => he.execRegionClose (i := some slot.val) (.of_fits rfl) .self) fun _ => rfl
  | block slot =>
    exact .of_row (fun _ he => he.execBlock (i := some slot.val) (.of_fits rfl) .self) fun _ => rfl
  | ingestCheckDone =>
    exact .of_row (fun _ he => he.execIngestCheckDone (.of_fits rfl)) fun _ => rfl
  | cueAbort req =>
    exact .of_row (fun _ he => he.execCueAbort (i := some req.val) (.of_fits rfl) .self) fun _ => rfl
  | nsense =>
    exact .of_row (fun _ he => he.execNsense (.of_fits_log rfl rfl)) fun _ => rfl
  | go req port =>
    exact .of_row (fun _ he => he.execGo (i := some req.val) (j := some port.val) (.of_fits rfl) .self .self) fun _ => rfl
  | goAll req =>
    exact .of_row (fun _ he => he.execGoAll (i := some req.val) (.of_fits rfl) .self) fun _ => rfl
  | insRunWrite pipe =>
    exact .of_row (fun _ he => he.execInsRunWrite (i := some pipe.val) (.of_fits rfl) .self) fun _ => rfl
  | insClose pipe =>
    exact .of_row (fun _ he => he.execInsClose (i := some pipe.val) (.of_fits rfl) .self) fun _ => rfl
  | rawPacket pipe =>
    exact .of_row (fun _ he => he.execRawPacket (i := some pipe.val) (.of_fits rfl) .self) fun _ => rfl
  | lineCloseTimeout pipe =>
    exact .of_row (fun _ he => he.execLineCloseTimeout (i := some pipe.val) (.of_fits rfl) .self) fun _ => rfl
  | shape =>
    exact .of_row (fun _ he => he.execShape (.of_fits_log rfl rfl)) fun _ => rfl
  | casHealth =>
    exact .of_row (fun _ he => he.execCasHealth (.of_fits_log rfl rfl)) fun _ => rfl
  | spoiln =>
    exact .of_row (fun _ he => he.execSpoiln (.of_fits_log rfl rfl)) fun _ => rfl
  | uploadSub slot =>
    exact .of_row (fun _ he => he.execUploadSub (i := some slot.val) (.of_fits rfl) .self) fun _ => rfl
  | uploadUnsub slot =>
    exact .of_row (fun _ he => he.execUploadUnsub (i := some slot.val) (.of_fits rfl) .self) fun _ => rfl
  | ctxPark slot =>
    exact .of_row (fun _ he => he.execCtxPark (i := some slot.val) (.of_fits rfl) .self) fun _ => rfl
  | ctxActivate slot w =>
    exact .of_row (o := execCtxActivate slot w) (fun _ he => he.execCtxActivate (i := some slot.val) (.of_fits rfl)
      .self) fun _ => rfl
  | ctxQuota slot =>
    exact .of_row (fun _ he => he.execCtxQuota (i := some slot.val) (.of_fits rfl) .self) fun _ => rfl
  | ctxZeroDone slot =>
    exact .of_row (fun _ he => he.execCtxZeroDone (i := some slot.val) execCtxZeroDoneReach_within .self) fun _ => rfl
  | loopEvaluate loop =>
    exact .of_row (fun _ he => he.execLoopEvaluate (i := some loop.val) (.of_fits rfl) .self) fun _ => rfl
  | axisPlanTick axis =>
    exact .of_row (fun _ he => he.execAxisPlanTick (i := some axis.val) (.of_fits rfl) .self) fun _ => rfl
  | _ => exact (Bool.false_ne_true h).elim

theorem framed_of_five_areas {d : Dev} (c : Instr) (h : (footprint d c).hasBreadth 5 = true) : Framed c := by
  cases c with
  | lowWordReadLatch =>
    exact .of_row (fun _ he => he.execLowWordReadLatch (.of_fits rfl)) fun _ => rfl
  | hotActivationEffect =>
    exact .of_row (fun _ he => he.execHotActivationEffect (.of_fits rfl)) fun _ => rfl
  | cmpLeadLinesWrite req value =>
    exact .of_row (fun _ he => he.execCmpLeadLinesWrite (req := req) (value := value) (.of_fits rfl)) fun _ => rfl
  | selfcheckDone unit =>
    exact .of_row (fun _ he => he.execSelfcheckDone (i := some unit.val) (.of_fits rfl) .self) fun _ => rfl
  | abort req port =>
    exact .of_row (fun _ he => he.execAbort (i := some req.val) (j := some port.val) (.of_fits_log rfl rfl) .self .self) fun _ =>
      rfl
  | slateSend port =>
    exact .of_row (fun _ he => he.execSlateSend (i := some port.val) (.of_fits rfl) .self) fun _ => rfl
  | portJoinEffect port =>
    exact .of_row (fun _ he => he.execPortJoinEffect (i := some port.val) (.of_fits rfl) .self) fun _ => rfl
  | insRelink pipe =>
    exact .of_row (fun _ he => he.execInsRelink (i := some pipe.val) (.of_fits rfl) .self) fun _ => rfl
  | camAck pipe =>
    exact .of_row (fun _ he => he.execCamAck (i := some pipe.val) (.of_fits rfl) .self) fun _ => rfl
  | cameraSilent pipe =>
    exact .of_row (fun _ he => he.execCameraSilent (i := some pipe.val) (.of_fits rfl) .self) fun _ => rfl
  | qlRecordProcess =>
    exact .of_row (fun _ he => he.execQlRecordProcess (.of_fits_log rfl rfl)) fun _ => rfl
  | feed =>
    exact .of_row (fun _ he => he.execFeed (.of_fits_log rfl rfl)) fun _ => rfl
  | ctxOpen =>
    exact .of_row (fun _ he => he.execCtxOpen (.of_fits rfl)) fun _ => rfl
  | camAckTimeout pipe =>
    exact .of_row (fun _ he => he.execCamAckTimeout (i := some pipe.val) (.of_fits rfl) .self) fun _ => rfl
  | registerWrite => exact absurd h (not_hasBreadth_registerWrite (by decide))
  | _ => exact (Bool.false_ne_true h).elim

theorem framed_of_six_areas {d : Dev} (c : Instr) (h : (footprint d c).hasBreadth 6 = true) : Framed c := by
  cases c with
  | hotActivationDone =>
    exact .of_row (fun _ he => he.execHotActivationDone (.of_fits_log rfl rfl)) fun _ => rfl
  | inputReturn input =>
    exact .of_row (fun _ he => he.execInputReturn (i := some input.val) (.of_fits rfl) .self) fun _ => rfl
  | standstill =>
    exact .of_row (fun _ he => he.execStandstill (.of_fits rfl)) fun _ => rfl
  | fireEn req =>
    exact .of_row (fun _ he => he.execFireEn (i := some req.val) (.of_fits rfl) .self) fun _ => rfl
  | passArm req =>
    exact .of_row (fun _ he => he.execPassArm (i := some req.val) (.of_fits rfl) .self) fun _ => rfl
  | batchComplete port =>
    exact .of_row (fun _ he => he.execBatchComplete (i := some port.val) (.of_fits rfl) .self) fun _ => rfl
  | ackTimeout port =>
    exact .of_row (fun _ he => he.execAckTimeout (i := some port.val) (.of_fits rfl) .self) fun _ => rfl
  | upstreamSilent port =>
    exact .of_row (fun _ he => he.execUpstreamSilent (i := some port.val) (.of_fits rfl) .self) fun _ => rfl
  | relink req port =>
    exact .of_row (fun _ he => he.execRelink (i := some req.val) (j := some port.val) (.of_fits rfl) .self .self) fun _ => rfl
  | triggerSend pipe =>
    exact .of_row (fun _ he => he.execTriggerSend (i := some pipe.val) (.of_fits rfl) .self) fun _ => rfl
  | recordHandoff =>
    exact .of_row (fun _ he => he.execRecordHandoff (.of_fits_log rfl rfl)) fun _ => rfl
  | devrec =>
    exact .of_row (fun _ he => he.execDevrec (.of_fits_log rfl rfl)) fun _ => rfl
  | ctxClose slot =>
    exact .of_row (fun _ he => he.execCtxClose (i := some slot.val) (.of_fits rfl) .self) fun _ => rfl
  | presentChange =>
    exact .of_row (fun _ he => he.execPresentChange (.of_fits rfl)) fun _ => rfl
  | resync =>
    exact .of_row (fun _ he => he.execResync (.of_fits rfl)) fun _ => rfl
  | pairEnWrite =>
    exact .of_row (fun _ he => he.execPairEnWrite (.of_fits rfl)) fun _ => rfl
  | registerWrite => exact absurd h (not_hasBreadth_registerWrite (by decide))
  | _ => exact (Bool.false_ne_true h).elim

theorem framed_of_seven_areas {d : Dev} (c : Instr) (h : (footprint d c).hasBreadth 7 = true) : Framed c := by
  cases c with
  | calDone =>
    exact .of_row (fun _ he => he.execCalDone (.of_fits rfl)) fun _ => rfl
  | batchStart =>
    exact .of_row (fun _ he => he.execBatchStart (.of_fits rfl)) fun _ => rfl
  | headAck port =>
    exact .of_row (fun _ he => he.execHeadAck (i := some port.val) (.of_fits rfl) .self) fun _ => rfl
  | dualActive =>
    exact .of_row (fun _ he => he.execDualActive (.of_fits rfl)) fun _ => rfl
  | mirrorGap =>
    exact .of_row (fun _ he => he.execMirrorGap (.of_fits rfl)) fun _ => rfl
  | registerWrite => exact absurd h (not_hasBreadth_registerWrite (by decide))
  | _ => exact (Bool.false_ne_true h).elim

/-- Settles O59: each command that changes four to seven areas of state runs operations that reach no further than its
footprint. -/
theorem frameOfSevenAreaCommands : Obligations.FrameOfSevenAreaCommands := by
  intro s c hu h4 h7 t ht
  refine ⟨exec_pending ht, ?_⟩
  have hb : (footprint s.dev c).breadth = 4 ∨ (footprint s.dev c).breadth = 5 ∨ (footprint s.dev c).breadth = 6 ∨
      (footprint s.dev c).breadth = 7 := by omega
  obtain h | h | h | h := hb
  · exact framed_of_four_areas c (Footprint.hasBreadth_of hu h) _ _ ht
  · exact framed_of_five_areas c (Footprint.hasBreadth_of hu h) _ _ ht
  · exact framed_of_six_areas c (Footprint.hasBreadth_of hu h) _ _ ht
  · exact framed_of_seven_areas c (Footprint.hasBreadth_of hu h) _ _ ht

end Sys2Proof.Machine
end

section
open Sys2Proof
namespace Sys2Proof.Machine

/-! ### Frame numbers (R28) -/

/-- `newer32` on 32-bit numbers looks at their difference in 32-bit arithmetic. -/
theorem newer32_toNat (a b : BitVec 32) :
    newer32 a.toNat b.toNat = ((a - b).toNat != 0 && decide ((a - b).toNat < 2 ^ 31)) := by
  have hdiff : (a.toNat + 2 ^ 32 - b.toNat % 2 ^ 32) % 2 ^ 32 = (a - b).toNat := by
    rw [BitVec.toNat_sub]
    omega
  simp only [newer32, hdiff]

/-- Settles O10: the comparison depends on the difference only, which for a number 2^31 ahead is 2^31 itself. -/
theorem frameNumberIsNewer : Obligations.FrameNumberIsNewer := by
  intro a b
  constructor
  · have hzero : a - b ≠ 0 ↔ (a - b).toNat ≠ 0 := by simp [← BitVec.toNat_inj]
    rw [newer32_toNat, hzero]
    simp
  · have hahead : b + 0x80000000 - b = 0x80000000 := by
      rw [BitVec.add_comm, BitVec.add_sub_cancel]
    rw [newer32_toNat, hahead]
    rfl

/-! ### Ring indices (R30) -/

/-- An index of 17 bits is its wrap bit over its position. -/
theorem ringIndex_eq {i : Nat} (hi : i < 2 ^ 17) : i = 65536 * bits i 16 1 + bits i 0 16 := by
  simp only [bits, Nat.shiftRight_eq_div_pow]
  omega

/-- Two indices are equal when their wrap bits and their positions are. -/
theorem ringIndex_eq_iff {i j : Nat} (hi : i < 2 ^ 17) (hj : j < 2 ^ 17) :
    i = j ↔ bits i 16 1 = bits j 16 1 ∧ bits i 0 16 = bits j 0 16 := by
  refine ⟨fun h => by simp [h], fun ⟨hwrap, hpos⟩ => ?_⟩
  rw [ringIndex_eq hi, ringIndex_eq hj, hwrap, hpos]

/-- Within one lap the count is the distance between the positions, round the two laps of the wrap bit. -/
theorem ringCount_of_wrap_eq {depth tail head : Nat} (ht : bits tail 0 16 < depth)
    (hwrap : bits tail 16 1 = bits head 16 1) :
    ringCount depth tail head =
      if bits head 0 16 ≤ bits tail 0 16 then bits tail 0 16 - bits head 0 16
      else bits tail 0 16 + 2 * depth - bits head 0 16 := by
  have hlap : ringCount depth tail head = (bits tail 0 16 + 2 * depth - bits head 0 16) % (2 * depth) := by
    rw [ringCount, hwrap, Nat.add_assoc, Nat.add_sub_add_left]
  rw [hlap]
  split
  case isTrue hle => rw [Nat.sub_add_comm hle, Nat.add_mod_right, Nat.mod_eq_of_lt (by omega)]
  case isFalse hgt => exact Nat.mod_eq_of_lt (by omega)

/-- Across a lap the count is a whole depth more than the positions' difference. -/
theorem ringCount_of_wrap_ne {depth tail head : Nat} (ht : bits tail 0 16 < depth) (hh : bits head 0 16 < depth)
    (hwrap : bits tail 16 1 ≠ bits head 16 1) :
    ringCount depth tail head = bits tail 0 16 + depth - bits head 0 16 := by
  have hlt : bits tail 0 16 + depth - bits head 0 16 < 2 * depth := by omega
  have htw := bits_lt tail 16 1
  have hhw := bits_lt head 16 1
  obtain ⟨htw, hhw⟩ | ⟨htw, hhw⟩ : (bits tail 16 1 = 0 ∧ bits head 16 1 = 1) ∨
      (bits tail 16 1 = 1 ∧ bits head 16 1 = 0) := by omega
  · have hdiff : 0 * depth + bits tail 0 16 + 2 * depth - (1 * depth + bits head 0 16) =
        bits tail 0 16 + depth - bits head 0 16 := by omega
    rw [ringCount, htw, hhw, hdiff, Nat.mod_eq_of_lt hlt]
  · have hdiff : 1 * depth + bits tail 0 16 + 2 * depth - (0 * depth + bits head 0 16) =
        bits tail 0 16 + depth - bits head 0 16 + 2 * depth := by omega
    rw [ringCount, htw, hhw, hdiff, Nat.add_mod_right, Nat.mod_eq_of_lt hlt]

/-- A ring is empty when its indices agree in wrap bit and position. -/
theorem ringCount_eq_zero_iff {depth tail head : Nat} (ht : bits tail 0 16 < depth) (hh : bits head 0 16 < depth) :
    ringCount depth tail head = 0 ↔ bits tail 16 1 = bits head 16 1 ∧ bits tail 0 16 = bits head 0 16 := by
  by_cases hwrap : bits tail 16 1 = bits head 16 1
  · rw [ringCount_of_wrap_eq ht hwrap]
    split <;> omega
  · rw [ringCount_of_wrap_ne ht hh hwrap]
    omega

/-- A ring is full when its indices agree in position and differ in wrap bit. -/
theorem ringCount_eq_depth_iff {depth tail head : Nat} (ht : bits tail 0 16 < depth) (hh : bits head 0 16 < depth) :
    ringCount depth tail head = depth ↔ bits tail 0 16 = bits head 0 16 ∧ bits tail 16 1 ≠ bits head 16 1 := by
  by_cases hwrap : bits tail 16 1 = bits head 16 1
  · rw [ringCount_of_wrap_eq ht hwrap]
    split <;> omega
  · rw [ringCount_of_wrap_ne ht hh hwrap]
    omega

/-- Moving on by one steps the position, or past the last entry returns it to 0 and toggles the wrap bit. -/
theorem ringAdvance_one {depth i : Nat} (hi : i < 2 ^ 17) (hp : bits i 0 16 < depth) :
    ringAdvance depth i 1 = if bits i 0 16 + 1 < depth then i + 1 else 65536 * (1 - bits i 16 1) := by
  have hindex := ringIndex_eq hi
  simp only [ringAdvance]
  by_cases hlast : bits i 0 16 + 1 < depth
  · rw [if_pos hlast, if_neg (by omega)]
    omega
  · rw [if_neg hlast, if_pos (by omega), show bits i 0 16 + 1 - depth = 0 by omega, Nat.zero_mod, Nat.zero_add]

/-- Settles O11, by the count between two indices and the step of one. -/
theorem ringIndexEmptyAndFull : Obligations.RingIndexEmptyAndFull := by
  intro n tail head _ htail hhead ht hh
  refine ⟨?_, ringCount_eq_depth_iff ht hh, ringAdvance_one htail ht⟩
  rw [ringIndex_eq_iff htail hhead, ringCount_eq_zero_iff ht hh]

end Sys2Proof.Machine
end

section
open Sys2Proof
namespace Sys2Proof.Machine
section
variable {F : Footprint} {d e : Dev} {i : Option Nat}

/-! ### What the parts of a stop activation reach (R46, R465) -/

def noEngineReach (i : Option Nat) : Reach := .of [.field .synStatus i 24 8]

theorem Footprint.holds.noEngine {n : Nat} (he : F.holds d e) (h : (noEngineReach i).within F d) (hi : Among i n) :
    F.holds d (e.noEngine n) :=
  have ⟨hSynStatus24, _⟩ := h
  he.setFld hSynStatus24 hi

def assignEnginesReach : Reach := .of [.reg .embStatus none, noEngineReach none, noteSparesReach, assignEngineReach, .area .raised]

theorem Footprint.holds.assignEngines (he : F.holds d e) (h : assignEnginesReach.within F d) : F.holds d e.assignEngines :=
  have ⟨hEmbStatus, hnoEngine, hnoteSpares, hassignEngine, hraised, _⟩ := h
  have hidle := he.each (ns := List.range 200) fun _ _ ho => holds_ite ho (ho.put hEmbStatus .any)
  have hpool := (hidle.each fun _ _ ho => ho.noEngine hnoEngine .any).noteSpares hnoteSpares
  hpool.each fun _ _ ho => holds_ite (ho.assignEngine hassignEngine) <| by
    split
    · exact ho.raise hraised
    · exact ho.assignEngine hassignEngine

def resetPageReach (i : Option Nat) : Reach := .of [.page i]

theorem Footprint.holds.resetPage {n : Nat} (he : F.holds d e) (h : (resetPageReach i).within F d) (hi : Among i n) :
    F.holds d (e.resetPage n) := by
  obtain ⟨hpage, -⟩ := h
  refine he.each fun _ k ho => ?_
  split
  · exact ho
  next r j high hr => exact ho.wr (i := some j) (fun q hq b _ _ hb => hq j rfl ▸ hpage n hi k r j high hr b hb) .self

def loopClearPortReach : Reach := .of [.area .ql]

theorem Footprint.holds.loopClearPort {n} (he : F.holds d e) (h : loopClearPortReach.within F d) : F.holds d (e.loopClearPort n) :=
  have ⟨hql, _⟩ := h
  he.inQl hql

def resetTablesReach : Reach := .of [loopSetGoneReach, dropSetReach none, .area .raised, setSynReach, resetPageReach none,
  .field .synCtrl none 0 1, loopClearPortReach]

theorem Footprint.holds.resetTables {old} (he : F.holds d e) (h : resetTablesReach.within F d) : F.holds d (e.resetTables old) :=
  have ⟨hloopSetGone, hdropSet, hraised, hsetSyn, hresetPage, hSynCtrl0, hloopClearPort, _⟩ := h
  he.each fun _ _ ho =>
    have hd1 := holds_ite (((ho.loopSetGone hloopSetGone).dropSet hdropSet .any).raise hraised) ho
    holds_ite hd1 ((((hd1.setSyn hsetSyn).resetPage hresetPage .any).setBit hSynCtrl0 .any).loopClearPort hloopClearPort)

def setRowsReach : Reach := .of [.reg .rowdly none, .reg .rowdlyRev none, .reg .rpD none, .field .rpStatus none 16 5]

theorem Footprint.holds.setRows (he : F.holds d e) (h : setRowsReach.within F d) : F.holds d e.setRows :=
  have ⟨hRowdly, hRowdlyRev, hRpD, hRpStatus16, _⟩ := h
  he.each fun _ _ ho => ((ho.put hRowdly .any).put hRowdlyRev .any).each fun _ _ hr => (hr.put hRpD .any).setFld hRpStatus16 .any

def setInspectionReach : Reach := .of [.area .ins, .area .syn, .reg .insStoreSize (some 0), .reg .insRecSlot none, noteStoreReach]

theorem Footprint.holds.setInspection (he : F.holds d e) (h : setInspectionReach.within F d) : F.holds d e.setInspection := by
  obtain ⟨hins, hsyn, hInsStoreSize, hInsRecSlot, hnoteStore, -⟩ := h
  have hareas : ∀ x y, F.holds d { e with ins := x, syn := y } := fun x y => (he.inIns hins (v := x)).inSyn hsyn (v := y)
  unfold Dev.setInspection
  refine Footprint.holds.noteStore (.each (.put ?_ hInsStoreSize .self) fun _ _ ho => ho.put hInsRecSlot .any) hnoteStore
  exact hareas _ _

def setLanesReach : Reach := .of [setLaneStReach none, setGoodReach, unmarkReach none, laneDeepReach]

theorem Footprint.holds.setLanes (he : F.holds d e) (h : setLanesReach.within F d) : F.holds d e.setLanes :=
  have ⟨hsetLaneSt, hsetGood, hunmark, hlaneDeep, _⟩ := h
  he.each fun _ _ ho =>
    holds_ite (holds_ite ho (((ho.setLaneSt hsetLaneSt .any).setGood hsetGood).unmark hunmark .any))
      (holds_ite (ho.laneDeep hlaneDeep) ho)

def setPoolsReach : Reach := .of [.area .ten, .reg .tenPoolUnits (some 0), .reg .tenPoolFree (some 0)]

theorem Footprint.holds.setPools (he : F.holds d e) (h : setPoolsReach.within F d) : F.holds d e.setPools :=
  have ⟨hten, hTenPoolUnits, hTenPoolFree, _⟩ := h
  ((he.inTen hten).put hTenPoolUnits .self).put hTenPoolFree .self

def setPositionReach : Reach := .of [.area .pos, .field .posStatus (some 0) 8 1, .reg .posXcDiff (some 0), resetSilentReach,
  setSourceReach, repeatOutReach]

theorem Footprint.holds.setPosition (he : F.holds d e) (h : setPositionReach.within F d) : F.holds d e.setPosition := by
  obtain ⟨hpos, hPosStatus8, hPosXcDiff, hresetSilent, hsetSource, hrepeatOut, -⟩ := h
  have hfresh : F.holds d e.freshPos := ((he.inPos hpos).setBit hPosStatus8 .self).put hPosXcDiff .self
  have hsilent := hfresh.resetSilent hresetSilent
  unfold Dev.setPosition
  split
  · exact (hsilent.setSource hsetSource).repeatOut hrepeatOut
  · exact ((hsilent.inPos hpos).setSource hsetSource).repeatOut hrepeatOut

def lineMovedReach : Reach := .of [lockAheadReach, retireBlocksReach]

theorem Footprint.holds.lineMoved (he : F.holds d e) (h : lineMovedReach.within F d) : F.holds d e.lineMoved :=
  have ⟨hlockAhead, hretireBlocks, _⟩ := h
  holds_ite ((he.lockAhead hlockAhead).retireBlocks hretireBlocks) he

def startLoopsReach : Reach := .of [.area .ctl, .reg .ctlLoopStatus none, .reg .ctlLoopInt none, .reg .ctlLoopSp none,
  .reg .ctlLoopFb none, .reg .ctlLoad (some 0)]

theorem Footprint.holds.startLoops (he : F.holds d e) (h : startLoopsReach.within F d) : F.holds d e.startLoops :=
  have ⟨hctl, hCtlLoopStatus, hCtlLoopInt, hCtlLoopSp, hCtlLoopFb, hCtlLoad, _⟩ := h
  ((he.inCtl hctl).each fun _ _ ho =>
    (((ho.put hCtlLoopStatus .any).putInt hCtlLoopInt .any).put hCtlLoopSp .any).put hCtlLoopFb .any).put hCtlLoad .self

def bringUpReach : Reach := .of [linkRestartReach none, linkChooseReach none]

theorem Footprint.holds.bringUp (he : F.holds d e) (h : bringUpReach.within F d) : F.holds d e.bringUp :=
  have ⟨hlinkRestart, hlinkChoose, _⟩ := h
  he.each fun _ _ ho => holds_ite ((ho.linkRestart hlinkRestart .any).linkChoose hlinkChoose .any) ho

def checkPdReach (i : Option Nat) : Reach := .of [.field .posPortDelay i 30 1, .area .raised]

theorem Footprint.holds.checkPd {n : Nat} (he : F.holds d e) (h : (checkPdReach i).within F d) (hi : Among i n) :
    F.holds d (e.checkPd n) :=
  have ⟨hPosPortDelay30, hraised, _⟩ := h
  have hd1 := he.setBit hPosPortDelay30 hi
  holds_ite he (holds_ite (hd1.raise hraised) hd1)

def showDailyReach : Reach := .of [sendDailyReach, compareDailiesReach]

theorem Footprint.holds.showDaily (he : F.holds d e) (h : showDailyReach.within F d) : F.holds d e.showDaily :=
  have ⟨hsendDaily, hcompareDailies, _⟩ := h
  holds_ite (he.sendDaily hsendDaily) (he.compareDailies hcompareDailies)

/-- What follows the shape registers in a stop activation. -/
def afterShapeReach : Reach := .of [setDigestReach, assignEnginesReach, resetTablesReach, setRowsReach, setInspectionReach,
  setLanesReach, setPoolsReach, setPositionReach, lineMovedReach, seekRowsReach, startLoopsReach, bringUpReach, checkPdReach none,
  journalReach, sendShapeReach, showDailyReach]

theorem Footprint.holds.activateStop {x : Dev} {g : Image} (hx : F.holds d ((x.endImage.takeImage g).setShape))
    (h : afterShapeReach.within F d) : F.holds d (x.activateStop g) := by
  obtain ⟨hsetDigest, hassignEngines, hresetTables, hsetRows, hsetInspection, hsetLanes, hsetPools, hsetPosition, hlineMoved,
    hseekRows, hstartLoops, hbringUp, hcheckPd, hjournal, hsendShape, hshowDaily, -⟩ := h
  have hfields : F.holds d ((x.endImage.takeImage g).takeFields x.img.active) :=
    (((((hx.setDigest hsetDigest).assignEngines hassignEngines).resetTables hresetTables).setRows hsetRows).setInspection
      hsetInspection).setLanes hsetLanes
  have hblocks := (((((hfields.setPools hsetPools).setPosition hsetPosition).lineMoved hlineMoved).seekRows hseekRows).startLoops
    hstartLoops).bringUp hbringUp
  exact (((hblocks.each fun _ _ ho => ho.checkPd hcheckPd .any).journal hjournal).sendShape hsendShape).showDaily hshowDaily

end
end Sys2Proof.Machine
end

section
open Sys2Proof
namespace Sys2Proof.Machine

/-! ### What an activation does beside the image in effect

An activation first settles the image state, STATE, the serial and the pitch, and then runs operations that leave these as they
are. -/

/-- The registers that an activation settles first. -/
def imageRegs : List Reg := [.imgStatus, .imgActiveSerial, .glbBarPitch]

/-- The footprint of a stop activation without the image state and these registers. -/
def Dev.besideImage (d : Dev) : Footprint :=
  let F := footprint d (.actStop 0)
  .of (F.areas.filter (· != .img)) (F.touches.filter fun t => !imageRegs.contains t.reg) F.dram F.nva

theorem Footprint.holds.img_of_besideImage {d e x : Dev} (h : x.besideImage.holds d e) : e.img = d.img :=
  h.1 .img (by simp [Dev.besideImage, Footprint.of])

theorem Footprint.holds.get_of_besideImage {d e x : Dev} (h : x.besideImage.holds d e) {r : Reg} (hr : r ∈ imageRegs)
    (k : Nat) : e.get r k = d.get r k := by
  obtain ⟨-, htouched, -, -⟩ := h
  refine congrArg BitVec.toNat (BitVec.eq_of_getLsbD_eq fun b _ => htouched r k b (List.all_eq_true.mpr fun t ht => ?_))
  have hne : t.reg ≠ r := by
    rintro rfl
    simp [Dev.besideImage, Footprint.of, hr] at ht
  simp [Touch.covers, hne]

theorem Footprint.holds.fld_of_besideImage {d e x : Dev} (h : x.besideImage.holds d e) {r : Reg} (hr : r ∈ imageRegs)
    (k l w : Nat) : e.fld r k l w = d.fld r k l w := congrArg (bits · l w) (h.get_of_besideImage hr k)

theorem afterShapeReach_within (d : Dev) : afterShapeReach.within d.besideImage d := .of_fits_log rfl rfl

section
variable {d : Dev}

/-! ### Registers set one after another -/

@[simp] theorem Dev.img_each_put (d : Dev) (r : Reg) (ns : List Nat) (v : Dev → Nat → Nat) :
    (d.each ns fun d n => d.put r n (v d n)).img = d.img := by
  induction ns generalizing d with
  | nil => rfl
  | cons n ns ih => exact ih (d.put r n (v d n))

theorem Dev.get_each_put {r q : Reg} (h : q ≠ r) (d : Dev) (ns : List Nat) (v : Dev → Nat → Nat) (j : Nat) :
    (d.each ns fun d n => d.put r n (v d n)).get q j = d.get q j := by
  induction ns generalizing d with
  | nil => rfl
  | cons n ns ih => exact (ih (d.put r n (v d n))).trans (d.get_put_reg n j _ h)

/-! ### The shape registers (R31) -/

@[simp] theorem Dev.setShape_img (d : Dev) : d.setShape.img = d.img := by
  rw [Dev.setShape, Dev.img_each_put, Dev.put_img, Dev.put_img]

theorem Dev.get_setShape_imgActiveSerial (d : Dev) : d.setShape.get .imgActiveSerial 0 = d.get .imgActiveSerial 0 := by
  rw [Dev.setShape, Dev.get_each_put (by decide), Dev.get_put_reg _ _ _ _ (by decide), Dev.get_put_reg _ _ _ _ (by decide)]

theorem Dev.get_setShape_glbBarPitch (d : Dev) : d.setShape.get .glbBarPitch 0 = d.image.get .lpi 0 % 2 ^ 64 := by
  rw [Dev.setShape, Dev.get_each_put (by decide), Dev.get_put_same]

/-! ### Activations (R46, R47) -/

/-- What a stop activation leaves as it is, once the image has been taken and its shape set. -/
theorem besideImage_activateStop (d : Dev) (g : Image) :
    (d.endImage.takeImage g).setShape.besideImage.holds (d.endImage.takeImage g).setShape (d.activateStop g) :=
  (Footprint.holds_refl _ _).activateStop (afterShapeReach_within _)

theorem Dev.activateStop_img (d : Dev) (g : Image) :
    (d.activateStop g).img = { d.endImage.img with active := some g, shadow := none, digestBlock := false, staged := false } :=
  (besideImage_activateStop d g).img_of_besideImage.trans (Dev.setShape_img _)

theorem Dev.activateStop_serial (d : Dev) (g : Image) : (d.activateStop g).get .imgActiveSerial 0 = g.serial % 2 ^ 64 := by
  rw [(besideImage_activateStop d g).get_of_besideImage (by decide), Dev.get_setShape_imgActiveSerial, Dev.takeImage,
    Dev.get_put_same]

theorem Dev.activateStop_pitch (d : Dev) (g : Image) : (d.activateStop g).get .glbBarPitch 0 = g.get .lpi 0 % 2 ^ 64 := by
  rw [(besideImage_activateStop d g).get_of_besideImage (by decide), Dev.get_setShape_glbBarPitch]
  rfl

theorem Dev.activateHot_img (d : Dev) (g : Image) :
    (d.activateHot g).img.active = some g ∧ (d.activateHot g).img.shadow = none ∧ (d.activateHot g).img.staged = false := by
  unfold Dev.activateHot
  rw [Dev.put_img, Dev.img_each_put]
  exact ⟨rfl, rfl, rfl⟩

theorem Dev.activateHot_serial (d : Dev) (g : Image) : (d.activateHot g).get .imgActiveSerial 0 = g.serial % 2 ^ 64 :=
  Dev.get_put_same ..

/-- A hot activation ends: EMPTY, and HOT_OK is cleared. -/
def Dev.endHot (d : Dev) : Dev := (d.setImgState 0).setBit .imgStatus 0 7 false

theorem Dev.imgState_endHot (d : Dev) : d.endHot.imgState = 0 :=
  (Dev.fld_setBit_other _ _ _ _ _ _ _ (by decide) (by decide)).trans (Dev.fld_setFld_same _ _ _ _ _ _ (by decide))

theorem Dev.bit_endHot (d : Dev) : d.endHot.bit .imgStatus 0 7 = false := Dev.bit_setBit_same _ _ _ _ _ (by decide)

/-- What follows the end of a hot activation. -/
def afterHotReach : Reach := .of [setDigestReach, interruptReach, journalReach, sendShapeReach, showDailyReach]

/-- What the end of a hot activation leaves as it is, once STATE is EMPTY. -/
theorem besideImage_hotActivationDone (h : d.imgState = 4 ∧ d.bit .imgStatus 0 3 = false ∧ d.img.staged = false) :
    d.endHot.besideImage.holds d.endHot (d.viaRow execHotActivationDone) := by
  have hafter : afterHotReach.within d.endHot.besideImage d.endHot := .of_fits_log rfl rfl
  obtain ⟨hsetDigest, hinterrupt, hjournal, hsendShape, hshowDaily, -⟩ := hafter
  refine holds_viaRow (fun _ => rfl) ?_
  rw [if_pos h]
  exact (((((Footprint.holds_refl _ d.endHot).setDigest hsetDigest).irqPulse hinterrupt).journal hjournal).sendShape
    hsendShape).showDaily hshowDaily

/-! ### The copy to a store slot (R50, R433) -/

/-- A line of a PERSIST stores the first 64 bytes that are left, and nothing else but the operations changes. -/
theorem Dev.nvaStep_of_persistLine {bank : Nat} {o : NvaOp} (hserved : d.nvaServed bank = some o) (hreq : o.requester = 5)
    (hleft : 1 < o.left) :
    ∃ ops, d.nvaStep bank = { d with nva := d.nva.writeBytes (o.bank * nvaBank + 64 * o.line) (o.body.take 64) }.setOps ops := by
  have hmore : ¬ o.left ≤ 1 := by omega
  exact ⟨_, by simp only [Dev.nvaStep, hserved, if_pos hreq, if_neg hmore, Dev.nvaLine, Dev.nvaBytes]; rfl⟩

/-- The last line of a PERSIST is its commit record. -/
theorem Dev.nvaStep_of_persistEnd {bank : Nat} {o : NvaOp} (hserved : d.nvaServed bank = some o) (hreq : o.requester = 5)
    (hleft : o.left ≤ 1) : ∃ ops, d.nvaStep bank = (d.setOps ops).persistCommit :=
  ⟨_, by simp only [Dev.nvaStep, hserved, if_pos hreq, if_pos hleft]; rfl⟩

theorem Dev.persistCommit_eq {k serial : Nat} {digest : BitVec 384} (h : d.img.persist = some (k, serial, digest)) :
    d.persistCommit =
      { d with img := { d.img with slots := Tab.set d.img.slots k (serial, digest), lastSlot := some k, persist := none } } := by
  rw [Dev.persistCommit, h]

end

/-! ### The image commands (R46, R47, R50, R433) -/

/-- A command whose meaning is a run completes with what the run makes of the controller. -/
theorem completes_of_run {c : Instr} {s : State} {f : Dev → Dev} {P : Dev → Prop} (h : exec c s = s.run f) (hP : P (f s.dev)) :
    Completes c s P := ⟨_, h, rfl, hP⟩

theorem actStop_refused {s : State} (req : Fin 5) (h : s.dev.fireEn = true ∨ s.dev.firing = true) :
    Yields (.actStop req) s (s.dev.refuse req.val .imgNotStopped) := by
  change execActStop req s = _
  rw [execActStop, State.run_eq, if_pos h]

theorem actStop_takes_shadow {s : State} (req : Fin 5) {g : Image} (hen : s.dev.fireEn = false) (hfiring : s.dev.firing = false)
    (hload : s.dev.imgState ≠ 1) (hact : s.dev.imgState ≠ 4) (hg : s.dev.img.shadow = some g) (hdram : s.dev.dramBytes ≠ 0) :
    exec (.actStop req) s = .next { s with dev := s.dev.activateStop g } := by
  change execActStop req s = _
  simp [execActStop, hen, hfiring, hload, hact, hg, hdram]

theorem hotActivationEffect_takes_shadow {s : State} {g : Image} (hg : s.dev.img.shadow = some g) (hact : s.dev.imgState = 4)
    (hstaged : s.dev.img.staged = true) : exec .hotActivationEffect s = .next { s with dev := s.dev.activateHot g } := by
  change execHotActivationEffect s = _
  simp [execHotActivationEffect, hg, hact, hstaged]

/-- The operation that copies an image's bytes to a store slot, with the commit record as its last line. -/
def Image.copyTo (g : Image) (k : Nat) : NvaOp :=
  { requester := 5, bank := k, line := 0x20000, left := (g.bytes.length + 63) / 64 + 1, erase := false, src := 0, body := g.bytes }

theorem persist_begins_copy {s : State} {g : Image} (hg : s.dev.img.active = some g) (hnone : s.dev.img.persist = none) :
    exec .persist s = .next { s with
      dev := Dev.setOps { s.dev with img := { s.dev.img with persist := some (s.dev.persistSlot, g.serial, g.digest) } }
        (s.dev.mgt.ops ++ [g.copyTo s.dev.persistSlot]) } := by
  change execPersist s = _
  simp only [execPersist, State.run_eq, hg, hnone, Image.copyTo]

/-- The line of a PERSIST reads back, up to the end of the image. -/
theorem Mem.read_writeBytes_line (m : Mem) (a : Nat) (body : List Byte) {i : Nat} (hi : i < 64) (hb : i < body.length) :
    (m.writeBytes a (body.take 64)).read (a + i) = body.getD i 0 := by
  rw [Mem.read_writeBytes_inside _ _ _ (by simp [hi, hb])]
  simp [List.getD_eq_getElem?_getD, hi]

/-- Settles O15: each clause is what the command makes of the controller; behind the image an activation changes only what is
beside it. -/
theorem imageTakesEffect : Obligations.ImageTakesEffect := by
  refine ⟨?stopRefused, ?stop, ?hot, ?hotDone, ?persist, ?persistLine, ?persistEnd⟩
  case stopRefused => exact fun _ req h => actStop_refused req h
  case stop =>
    intro s req g hen hfiring hload hact hg hdram
    refine ⟨_, actStop_takes_shadow req hen hfiring hload hact hg hdram, rfl, ?_⟩
    simp only [Dev.activateStop_img]
    exact ⟨trivial, trivial, trivial, trivial, Dev.activateStop_serial _ g, Dev.activateStop_pitch _ g⟩
  case hot =>
    intro s g hg hact hstaged
    obtain ⟨hactive, hshadow, hnot⟩ := s.dev.activateHot_img g
    exact ⟨_, hotActivationEffect_takes_shadow hg hact hstaged, rfl, hactive, hshadow, hnot, Dev.activateHot_serial _ g⟩
  case hotDone =>
    intro s hact hstop hstaged
    have hkept := besideImage_hotActivationDone ⟨hact, hstop, hstaged⟩
    refine completes_of_run rfl ⟨?_, ?_, hkept.img_of_besideImage⟩
    · exact (hkept.fld_of_besideImage (by decide) 0 0 3).trans s.dev.imgState_endHot
    · exact (congrArg (· == 1) (hkept.fld_of_besideImage (by decide) 0 7 1)).trans s.dev.bit_endHot
  case persist => exact fun _ _ hg hnone => ⟨_, persist_begins_copy hg hnone, rfl, rfl, rfl, rfl, rfl, rfl⟩
  case persistLine =>
    intro s bank o hserved hreq hleft
    obtain ⟨ops, hstep⟩ := Dev.nvaStep_of_persistLine hserved hreq hleft
    refine completes_of_run (f := (·.nvaStep bank.val)) rfl ?_
    rw [hstep]
    refine ⟨fun _ hi hb => Mem.read_writeBytes_line _ _ _ hi hb, fun a ha => Mem.read_writeBytes_outside _ _ ?_, rfl⟩
    have hlen : (o.body.take 64).length ≤ 64 := List.length_take_le ..
    omega
  case persistEnd =>
    intro s bank o k serial digest hserved hreq hleft hpersist
    obtain ⟨ops, hstep⟩ := Dev.nvaStep_of_persistEnd hserved hreq hleft
    refine completes_of_run (f := (·.nvaStep bank.val)) rfl ?_
    rw [hstep, Dev.persistCommit_eq (d := s.dev.setOps ops) hpersist]
    exact ⟨Tab.find_set_same _ _ _, rfl, rfl, rfl⟩

end Sys2Proof.Machine
end

section
open Sys2Proof
namespace Sys2Proof.Machine
section
variable {F : Footprint} {d e : Dev} {i : Option Nat}

/-! ### What fires run beside web position: spoils, slates, withdrawals, folding -/

def withdrawPortReach (i : Option Nat) : Reach := .of [headSendReach, returnCreditsReach i, setPortReach]

theorem Footprint.holds.withdrawPort {n f : Nat} (he : F.holds d e) (h : (withdrawPortReach i).within F d) (hi : Among i n) :
    F.holds d (e.withdrawPort n f) :=
  have ⟨hheadSend, hreturnCredits, hsetPort, _⟩ := h
  ((he.headSend hheadSend).returnCredits hreturnCredits hi).setPort hsetPort

def withdrawAllReach : Reach := .of [withdrawPortReach none, setPortReach, clearBatchesReach, .area .syn]

theorem Footprint.holds.withdrawAll {f : Nat} (he : F.holds d e) (h : withdrawAllReach.within F d) : F.holds d (e.withdrawAll f) :=
  have ⟨hwithdrawPort, hsetPort, hclearBatches, hsyn, _⟩ := h
  ((he.each fun _ _ ho => (ho.withdrawPort hwithdrawPort .any).setPort hsetPort).clearBatches hclearBatches).inSyn hsyn

def foldAllReach : Reach := .of [foldMaskReach, .area .syn, .area .ql, notePendReach]

theorem Footprint.holds.inSynQl {v w} (he : F.holds d e) (hs : (Reach.area .syn).within F d) (hq : (Reach.area .ql).within F d) :
    F.holds d { e with syn := v, ql := w } := (he.inSyn hs (v := v)).inQl hq

theorem Footprint.holds.foldAll (he : F.holds d e) (h : foldAllReach.within F d) : F.holds d e.foldAll := by
  obtain ⟨hfoldMask, hsyn, hql, hnotePend, -⟩ := h
  refine (Footprint.holds.inSynQl ?_ hsyn hql).notePend hnotePend
  exact he.foldl fun _ _ ho => ho.each fun _ _ ho' => ho'.foldMask hfoldMask

def issueSpoilReach : Reach := .of [.reg .cmpSpoilCount (some 0), postEventReach none, .area .cmp, casSendReach]

theorem Footprint.holds.issueSpoil {r : SpoilRec} (he : F.holds d e) (h : issueSpoilReach.within F d) : F.holds d (e.issueSpoil r) :=
  have ⟨hCmpSpoilCount, hpostEvent, hcmp, hcasSend, _⟩ := h
  have hissued := ((he.count hCmpSpoilCount .self).postEvent hpostEvent .any).inCmp hcmp
  holds_ite (hissued.casSend hcasSend) hissued

def openSpoilsReach : Reach := .of [.area .cmp, issueSpoilReach]

theorem Footprint.holds.issueSpoils (he : F.holds d e) (h : openSpoilsReach.within F d) : F.holds d e.issueSpoils :=
  have ⟨hcmp, hissueSpoil, _⟩ := h
  (he.inCmp hcmp).foldl fun _ _ ho => ho.issueSpoil hissueSpoil

theorem Footprint.holds.flushSpoils (he : F.holds d e) (h : openSpoilsReach.within F d) : F.holds d e.flushSpoils :=
  have ⟨hcmp, hissueSpoil, _⟩ := h
  (he.inCmp hcmp).foldl fun _ _ ho => ho.issueSpoil hissueSpoil

theorem Footprint.holds.spoilPort {n f : Nat} {c : SpoilCause} (he : F.holds d e) (h : spoilReach.within F d) :
    F.holds d (e.spoilPort n f c) := by
  unfold Dev.spoilPort
  split
  · exact he
  · exact he.each fun _ _ ho => ho.foldl fun _ _ ho' => ho'.spoil h

theorem Footprint.holds.spoilSkipped {a b : Int} {pass : Nat} (he : F.holds d e) (h : spoilReach.within F d) :
    F.holds d (e.spoilSkipped a b pass) :=
  he.foldl fun _ _ ho => holds_ite ho (ho.each fun _ _ ho' => ho'.foldl fun _ _ ho'' => holds_ite (ho''.spoil h) ho'')

theorem Footprint.holds.spoilColumns {f lo hi : Nat} {a b : Int} {pass : Option Nat} {c : SpoilCause} (he : F.holds d e)
    (h : spoilReach.within F d) : F.holds d (e.spoilColumns f lo hi a b pass c) :=
  he.foldl fun _ _ ho => ho.each fun _ _ ho' => holds_ite (ho'.spoil h) ho'

def spoilDeadReach : Reach := .of [spoilReach, .area .ql]

theorem Footprint.holds.spoilDead {p : FirePlace} (he : F.holds d e) (h : spoilDeadReach.within F d) : F.holds d (e.spoilDead p) :=
  have ⟨hspoil, hql, _⟩ := h
  (holds_ite (he.foldl fun _ _ ho => holds_ite (ho.spoilColumns hspoil) ho) he).inQl hql

theorem Footprint.holds.settleHolds (he : F.holds d e) (h : (Reach.area .ql).within F d) : F.holds d e.settleHolds := he.inQl h

theorem Footprint.holds.allocSlates {f tF : Nat} {late : Bool} (he : F.holds d e) (h : setPortReach.within F d) :
    F.holds d (e.allocSlates f tF late) :=
  he.each fun _ _ ho => ho.setPort h

def rerunTimeoutReach : Reach := .of [.area .ptn, setUnfitReach 3]

theorem Footprint.holds.rerunTimeout {f : Nat} (he : F.holds d e) (h : rerunTimeoutReach.within F d) : F.holds d (e.rerunTimeout f) :=
  have ⟨hptn, hsetUnfit, _⟩ := h
  holds_ite ((he.inPtn hptn).setUnfit hsetUnfit) he

def surrenderAtReach : Reach := .of [.area .ptn, withdrawAllReach, linkRestartReach none, .field .ptnStatus (some 0) 29 3]

theorem Footprint.holds.surrenderAt {f : Nat} (he : F.holds d e) (h : surrenderAtReach.within F d) : F.holds d (e.surrenderAt f) :=
  have ⟨hptn, hwithdrawAll, hlinkRestart, hPtnStatus29, _⟩ := h
  have hwithdrawn := (he.inPtn hptn).withdrawAll hwithdrawAll
  holds_ite
    (holds_ite
      (((hwithdrawn.each fun _ _ ho => holds_ite ho (ho.linkRestart hlinkRestart .any)).inPtn hptn).setFld hPtnStatus29 .self)
      hwithdrawn)
    he

def countSkipsReach : Reach := .of [.reg .posSkipCount (some 0), eventReach .posEvent (some 0) 1, .area .raised]

theorem Footprint.holds.countSkips {n : Nat} (he : F.holds d e) (h : countSkipsReach.within F d) : F.holds d (e.countSkips n) :=
  have ⟨hPosSkipCount, hPosEvent1, hraised, _⟩ := h
  ((he.add32 hPosSkipCount .self).event hPosEvent1 .self).raise hraised

end
end Sys2Proof.Machine
end

section
open Sys2Proof
namespace Sys2Proof.Machine

/-! ### What an operation does beside web position

Much of what the commands of web position run sends messages, spoils lines and tells the partner. Such an operation leaves
web position, the image and the registers below as they are; its reach says so. -/

/-- The registers whose values the statements about web position follow. -/
def positionRegs : List Reg :=
  [.posCtrl, .posStatus, .posFireIndex, .posBindFire, .posBindLine, .posDeferCount, .posEncStatus, .posEncCount, .posEncZlatch,
   .posEncGlitch, .posEncQuadCount, .posPortDelay, .secStatus, .cmpPassNext]

/-- A controller differs from another one neither in web position nor in the image nor in the registers followed. -/
structure Beside (d e : Dev) : Prop where
  img : e.img = d.img
  pos : e.pos = d.pos
  rd : ∀ r ∈ positionRegs, ∀ k, e.rd r k = d.rd r k

theorem Beside.refl (d : Dev) : Beside d d := ⟨rfl, rfl, fun _ _ _ => rfl⟩

theorem Beside.trans {d e f : Dev} (h : Beside d e) (g : Beside e f) : Beside d f :=
  ⟨g.img.trans h.img, g.pos.trans h.pos, fun r hr k => (g.rd r hr k).trans (h.rd r hr k)⟩

theorem Beside.ite {c : Prop} [Decidable c] {d a b : Dev} (ha : Beside d a) (hb : Beside d b) : Beside d (if c then a else b) := by
  split
  · exact ha
  · exact hb

/-- The areas that a reach names. -/
def Reach.areas : Reach → List Area
  | .area p => [p]
  | .both a b => a.areas ++ b.areas
  | _ => []

/-- The registers that a reach names. -/
def Reach.regs : Reach → List Reg
  | .field r _ _ _ => [r]
  | .page _ => synPage
  | .both a b => a.regs ++ b.regs
  | _ => []

/-- The footprint that names whole registers for the fields of a reach. -/
def Reach.footprint (x : Reach) (d : Dev) : Footprint := .of x.areas (x.regs.map Touch.all) [d.logRange] []

/-- A reach names neither the image nor web position nor a register followed (nor the base of the loop log, so that an entry
of the log has its place). -/
def Reach.apart : Reach → Bool
  | .area p => p != .img && p != .pos
  | .field r _ _ _ => !(Reg.qlLogBase :: positionRegs).contains r
  | .both a b => a.apart && b.apart
  | _ => true

theorem Reach.not_mem_of_apart {x : Reach} (h : x.apart = true) :
    Area.img ∉ x.areas ∧ Area.pos ∉ x.areas ∧ ∀ r ∈ Reg.qlLogBase :: positionRegs, r ∉ x.regs := by
  induction x with
  | area p =>
    simp only [Reach.apart, Bool.and_eq_true, bne_iff_ne] at h
    simp [Reach.areas, Reach.regs, h.1.symm, h.2.symm]
  | field r i l w =>
    simp only [Reach.apart, Bool.not_eq_true', List.contains_eq_mem, decide_eq_false_iff_not] at h
    refine ⟨List.not_mem_nil, List.not_mem_nil, fun q hq hmem => h ?_⟩
    rwa [← List.mem_singleton.mp hmem]
  | page _ => exact ⟨List.not_mem_nil, List.not_mem_nil, show ∀ r ∈ Reg.qlLogBase :: positionRegs, r ∉ synPage by decide⟩
  | both a b iha ihb =>
    simp only [Reach.apart, Bool.and_eq_true] at h
    obtain ⟨haimg, hapos, haregs⟩ := iha h.1
    obtain ⟨hbimg, hbpos, hbregs⟩ := ihb h.2
    simp only [Reach.areas, Reach.regs, List.mem_append, not_or]
    exact ⟨⟨haimg, hbimg⟩, ⟨hapos, hbpos⟩, fun r hr => ⟨haregs r hr, hbregs r hr⟩⟩
  | _ => exact ⟨List.not_mem_nil, List.not_mem_nil, fun _ _ => List.not_mem_nil⟩

theorem Touch.covers_all (r q : Reg) (k b : Nat) : (Touch.all r).covers q k b = (decide (r = q) && decide (b < 64)) :=
  congrArg₂ and (Bool.and_true _) BitVec.getLsbD_allOnes

/-- What a part of a reach names is within the footprint of the whole. -/
theorem Reach.within_footprint {x y : Reach} {d : Dev} (hx : x.apart = true) (ha : y.areas ⊆ x.areas) (hr : y.regs ⊆ x.regs) :
    y.within (x.footprint d) d := by
  induction y with
  | nothing => trivial
  | area p => exact ha List.mem_cons_self
  | field r i l w =>
    intro k _ b _ _ hb
    exact List.any_eq_true.mpr ⟨_, List.mem_map.mpr ⟨r, hr List.mem_cons_self, rfl⟩, by simp [Touch.covers_all, hb]⟩
  | log =>
    refine ⟨List.mem_cons_self, fun b => List.all_eq_true.mpr fun t ht => ?_⟩
    obtain ⟨r, hmem, rfl⟩ := List.mem_map.mp ht
    have hne : r ≠ .qlLogBase := fun h => (Reach.not_mem_of_apart hx).2.2 .qlLogBase List.mem_cons_self (h ▸ hmem)
    simp [Touch.covers_all, hne]
  | page i =>
    intro n _ k r j high hpage b hb
    exact List.any_eq_true.mpr ⟨_, List.mem_map.mpr ⟨r, hr (synPage_of_pageReg hpage).1, rfl⟩, by simp [Touch.covers_all, hb]⟩
  | both a b iha ihb =>
    exact ⟨iha (List.append_subset.mp ha).1 (List.append_subset.mp hr).1, ihb (List.append_subset.mp ha).2 (List.append_subset.mp hr).2⟩

/-- An operation whose reach is apart from web position leaves it as it is. -/
theorem Beside.of_reach {x : Reach} {d e : Dev} (hx : x.apart = true)
    (h : x.within (x.footprint d) d → (x.footprint d).holds d e) : Beside d e := by
  obtain ⟨hareas, htouched, -, -⟩ := h (Reach.within_footprint hx (List.Subset.refl _) (List.Subset.refl _))
  obtain ⟨himg, hpos, hregs⟩ := Reach.not_mem_of_apart hx
  refine ⟨hareas .img himg, hareas .pos hpos, fun r hr k => BitVec.eq_of_getLsbD_eq fun b _ => htouched r k b ?_⟩
  refine List.all_eq_true.mpr fun t ht => ?_
  obtain ⟨q, hmem, rfl⟩ := List.mem_map.mp ht
  have hne : q ≠ r := fun h => hregs r (List.mem_cons_of_mem _ hr) (h ▸ hmem)
  simp [Touch.covers_all, hne]

end Sys2Proof.Machine
end

section
open Sys2Proof
namespace Sys2Proof.Machine

/-! ### What an operation moves of web position

The commands of web position run into each other: a count can lose an input, turn the pass, skip lines and commit fires. So
that each clause about one of them needs only what it names, every operation has a `Motion`: the parts of the position's state
and the fields of its registers that it may change. -/

/-- Levels A, B and Z of an input. -/
def PosState.levels (p : PosState) (i : Nat) : Bool × Bool × Bool :=
  let x := Tab.get p.enc i EncInput.reset
  (x.a, x.b, x.z)

/-- The parts of the position's state that are followed: the levels of the inputs, all else of them, and so on. -/
inductive PosPart where
  | levels | inputs | dr | cmpLine | fires | curPass | armedPass | stopReq
  deriving DecidableEq

/-- A part is the same in two states. -/
def PosPart.same : PosPart → PosState → PosState → Prop
  | .levels, p, q => q.levels = p.levels
  | .inputs, p, q => q.enc = p.enc
  | .dr, p, q => q.dr = p.dr
  | .cmpLine, p, q => q.cmpLine = p.cmpLine
  | .fires, p, q => q.fires = p.fires
  | .curPass, p, q => q.curPass = p.curPass
  | .armedPass, p, q => q.armedPass = p.armedPass
  | .stopReq, p, q => q.stopReq = p.stopReq

theorem PosPart.same_refl (x : PosPart) (p : PosState) : x.same p p := by cases x <;> rfl

theorem PosPart.same_trans {x : PosPart} {p q s : PosState} (h : x.same p q) (g : x.same q s) : x.same p s := by
  cases x <;> exact Eq.trans g h

/-- Parts and fields (register, lowest bit, width) that may change. -/
structure Motion where
  parts : List PosPart
  fields : List (Reg × Nat × Nat)

/-- A field lies in one of those of a motion. -/
def Motion.names (M : Motion) (r : Reg) (l w : Nat) : Bool :=
  M.fields.any fun f => f.1 == r && decide (f.2.1 ≤ l) && decide (l + w ≤ f.2.1 + f.2.2)

/-- A field lies outside all those of a motion. -/
def Motion.spares (M : Motion) (r : Reg) (l w : Nat) : Bool :=
  M.fields.all fun f => f.1 != r || decide (l + w ≤ f.2.1) || decide (f.2.1 + f.2.2 ≤ l)

/-- A motion is part of another one. -/
def Motion.le (N M : Motion) : Bool := N.parts.all M.parts.contains && N.fields.all fun f => M.names f.1 f.2.1 f.2.2

/-- Of what is followed, a controller changed within a motion only. -/
structure Motion.holds (M : Motion) (d e : Dev) : Prop where
  img : e.img = d.img
  part : ∀ x, x ∉ M.parts → x.same d.pos e.pos
  bits : ∀ r ∈ positionRegs, ∀ k b, M.spares r b 1 = true → (e.rd r k).getLsbD b = (d.rd r k).getLsbD b

section
variable {M N : Motion} {d e e' : Dev} {r : Reg} {k l w : Nat}

theorem Motion.holds_refl (M : Motion) (d : Dev) : M.holds d d := ⟨rfl, fun x _ => x.same_refl _, fun _ _ _ _ _ => rfl⟩

theorem Motion.holds.trans (h : M.holds d e) (g : M.holds e e') : M.holds d e' :=
  ⟨g.img.trans h.img, fun x hx => PosPart.same_trans (h.part x hx) (g.part x hx),
    fun r hr k b hb => (g.bits r hr k b hb).trans (h.bits r hr k b hb)⟩

/-- A bit outside a motion is outside every part of it. -/
theorem Motion.spares_of_le (hle : N.le M = true) {b : Nat} (h : M.spares r b 1 = true) : N.spares r b 1 = true := by
  simp only [Motion.le, Bool.and_eq_true, List.all_eq_true] at hle
  refine List.all_eq_true.mpr fun f hf => ?_
  obtain ⟨g, hg, hin⟩ := List.any_eq_true.mp (hle.2 f hf)
  have hout := List.all_eq_true.mp h g hg
  simp only [Bool.and_eq_true, beq_iff_eq, decide_eq_true_eq, Bool.or_eq_true, bne_iff_ne] at hin hout ⊢
  grind

theorem Motion.holds.mono (h : N.holds d e) (hle : N.le M = true) : M.holds d e := by
  refine ⟨h.img, fun x hx => h.part x fun hN => hx ?_, fun r hr k b hb => h.bits r hr k b (Motion.spares_of_le hle hb)⟩
  simp only [Motion.le, Bool.and_eq_true, List.all_eq_true] at hle
  exact List.contains_iff_mem.mp (hle.1 x hN)

/-- A motion, and then one that is part of it. -/
theorem Motion.holds.then (h : M.holds d e) (g : N.holds e e') (hle : N.le M = true) : M.holds d e' := h.trans (g.mono hle)

/-- A motion, and then an operation beside web position. -/
theorem Motion.holds.beside (h : M.holds d e) (g : Beside e e') : M.holds d e' :=
  ⟨g.img.trans h.img, fun x hx => PosPart.same_trans (h.part x hx) (g.pos ▸ x.same_refl _),
    fun r hr k b hb => (congrArg (·.getLsbD b) (g.rd r hr k)).trans (h.bits r hr k b hb)⟩

theorem Motion.holds.ite {c : Prop} [Decidable c] {a b : Dev} (ha : M.holds d a) (hb : M.holds d b) :
    M.holds d (if c then a else b) := by
  split
  · exact ha
  · exact hb

theorem Motion.holds.foldl {α : Type} {f : Dev → α → Dev} {xs : List α} (h : M.holds d e)
    (hf : ∀ e x, M.holds d e → M.holds d (f e x)) : M.holds d (xs.foldl f e) := by
  induction xs generalizing e with
  | nil => exact h
  | cons x xs ih => exact ih (hf e x h)

theorem Motion.holds.each {f : Dev → Nat → Dev} {ns : List Nat} (h : M.holds d e)
    (hf : ∀ e n, M.holds d e → M.holds d (f e n)) : M.holds d (e.each ns f) := h.foldl hf

/-- The bits of a named field, and no others, lie in it. -/
theorem Motion.not_in_field (hn : M.names r l w = true) {b : Nat} (hs : M.spares r b 1 = true) : ¬(l ≤ b ∧ b < l + w) := by
  obtain ⟨f, hf, hin⟩ := List.any_eq_true.mp hn
  have hout := List.all_eq_true.mp hs f hf
  simp only [Bool.and_eq_true, beq_iff_eq, decide_eq_true_eq, Bool.or_eq_true, bne_iff_ne] at hin hout
  grind

theorem Motion.holds.setFld {v : Nat} (h : M.holds d e) (hn : M.names r l w = true) : M.holds d (e.setFld r k l w v) := by
  refine h.trans ⟨rfl, fun x _ => x.same_refl _, fun q _ j b hb => ?_⟩
  by_cases hq : (q, j) = (r, k)
  · obtain ⟨rfl, rfl⟩ := Prod.mk.inj hq
    by_cases h64 : b < 64
    · rw [Dev.setFld, Dev.put, Dev.rd_wr_same, BitVec.getLsbD_ofNat, testBit_setBits, if_neg (Motion.not_in_field hn hb),
        decide_eq_true h64, Bool.true_and]
      rfl
    · rw [BitVec.getLsbD_of_ge _ _ (by omega), BitVec.getLsbD_of_ge _ _ (by omega)]
  · rw [Dev.setFld, Dev.put, Dev.rd_wr_ne _ _ hq]

theorem Motion.holds.setBit {v : Bool} (h : M.holds d e) (hn : M.names r l 1 = true) : M.holds d (e.setBit r k l v) := h.setFld hn

theorem Motion.holds.wr {v : BitVec 64} (h : M.holds d e) (hn : M.names r 0 64 = true) : M.holds d (e.wr r k v) := by
  refine h.trans ⟨rfl, fun x _ => x.same_refl _, fun q hq j b hb => ?_⟩
  by_cases hqr : q = r
  · subst hqr
    have := Motion.not_in_field hn hb
    rw [BitVec.getLsbD_of_ge _ _ (by omega), BitVec.getLsbD_of_ge _ _ (by omega)]
  · rw [Dev.rd_wr_reg _ _ _ _ hqr]

theorem Motion.holds.put {v : Nat} (h : M.holds d e) (hn : M.names r 0 64 = true) : M.holds d (e.put r k v) := h.wr hn
theorem Motion.holds.putInt {v : Int} (h : M.holds d e) (hn : M.names r 0 64 = true) : M.holds d (e.putInt r k v) := h.wr hn
theorem Motion.holds.count (h : M.holds d e) (hn : M.names r 0 64 = true) : M.holds d (e.count r k) := h.wr hn
end
end Sys2Proof.Machine
end

section
open Sys2Proof
namespace Sys2Proof.Machine
section
variable {M : Motion} {d e : Dev} {r : Reg}

/-! ### What a motion leaves -/

/-- A field outside a motion reads as before. -/
theorem Motion.holds.fld (h : M.holds d e) (hr : r ∈ positionRegs) (k l w : Nat) (hs : M.spares r l w = true) :
    e.fld r k l w = d.fld r k l w := by
  refine Nat.eq_of_testBit_eq fun i => ?_
  rw [Dev.fld, Dev.fld, testBit_bits, testBit_bits]
  by_cases hi : i < w
  · refine congrArg (decide (i < w) && ·) (h.bits r hr k (l + i) (List.all_eq_true.mpr fun f hf => ?_))
    have := List.all_eq_true.mp hs f hf
    simp only [Bool.or_eq_true, bne_iff_ne, decide_eq_true_eq] at this ⊢
    grind
  · simp [hi]

theorem Motion.holds.bit (h : M.holds d e) (hr : r ∈ positionRegs) (k i : Nat) (hs : M.spares r i 1 = true) :
    e.bit r k i = d.bit r k i := congrArg (· == 1) (h.fld hr k i 1 hs)

/-- A register outside a motion reads as before. -/
theorem Motion.holds.rd (h : M.holds d e) (hr : r ∈ positionRegs) (k : Nat) (hs : M.spares r 0 64 = true) : e.rd r k = d.rd r k := by
  refine BitVec.eq_of_getLsbD_eq fun b hb => h.bits r hr k b (List.all_eq_true.mpr fun f hf => ?_)
  have := List.all_eq_true.mp hs f hf
  simp only [Bool.or_eq_true, bne_iff_ne, decide_eq_true_eq] at this ⊢
  grind

theorem Motion.holds.get (h : M.holds d e) (hr : r ∈ positionRegs) (k : Nat) (hs : M.spares r 0 64 = true) :
    e.get r k = d.get r k := congrArg BitVec.toNat (h.rd hr k hs)

/-- A part outside a motion is as before. -/
theorem Motion.holds.keeps (h : M.holds d e) (x : PosPart) (hx : M.parts.contains x = false) : x.same d.pos e.pos :=
  h.part x fun hin => by simp_all

theorem Motion.holds.scanning (h : M.holds d e) : e.scanning = d.scanning := by
  rw [Dev.scanning, Dev.scanning, Dev.cfg, Dev.cfg, h.img]

/-! ### The position's state set -/

/-- A state of the position that is the same in every part followed. -/
theorem Motion.holds.inPos {p : PosState} (h : M.holds d e) (hp : ∀ x : PosPart, x.same e.pos p) : M.holds d { e with pos := p } :=
  h.trans ⟨rfl, fun x _ => hp x, fun _ _ _ _ _ => rfl⟩

/-- A state of the position that differs in one part that a motion names. -/
theorem Motion.holds.inPart {p : PosState} (q : PosPart) (h : M.holds d e) (hq : M.parts.contains q = true)
    (hp : ∀ x : PosPart, x ≠ q → x.same e.pos p) : M.holds d { e with pos := p } :=
  h.trans ⟨rfl, fun x hx => hp x fun hxq => hx (hxq ▸ List.contains_iff_mem.mp hq), fun _ _ _ _ _ => rfl⟩

theorem Dev.levels_setEnc (d : Dev) (i : Nat) (x : EncInput) (j : Nat) :
    (d.setEnc i x).pos.levels j = if j = i then (x.a, x.b, x.z) else d.pos.levels j := by
  by_cases h : j = i
  · subst h
    simp [PosState.levels, Dev.setEnc]
  · simp [PosState.levels, Dev.setEnc, Tab.get_set_ne _ _ _ h, h]

/-- An input set with its levels as they are. -/
theorem Motion.holds.setEnc {i : Nat} {x : EncInput} (h : M.holds d e) (hM : M.parts.contains .inputs = true)
    (hx : (x.a, x.b, x.z) = e.pos.levels i) : M.holds d (e.setEnc i x) := by
  refine h.inPart .inputs hM fun y hy => ?_
  cases y with
  | levels =>
    funext j
    refine (e.levels_setEnc i x j).trans ?_
    split
    next hj => rw [hx, hj]
    next => rfl
  | inputs => exact absurd rfl hy
  | _ => rfl

/-! ### Registers and outputs beside web position -/

theorem Beside.of_same (himg : e.img = d.img) (hpos : e.pos = d.pos) (hregs : e.regs = d.regs) : Beside d e :=
  ⟨himg, hpos, fun r _ k => by rw [Dev.rd, Dev.rd, hregs]⟩

theorem Dev.wr_beside (d : Dev) (k : Nat) (v : BitVec 64) (hr : positionRegs.contains r = false) : Beside d (d.wr r k v) :=
  ⟨rfl, rfl, fun q hq j => d.rd_wr_reg k j v fun h => by simp_all⟩

theorem Dev.put_beside (d : Dev) (k v : Nat) (hr : positionRegs.contains r = false) : Beside d (d.put r k v) := d.wr_beside k _ hr

theorem Dev.event_beside (d : Dev) (k b : Nat) (hr : (eventReach r none b).apart = true) : Beside d (d.event r k b) :=
  .of_reach hr fun h => (Footprint.holds_refl _ d).event h .any

end
section
variable (d : Dev)

theorem Dev.raise_beside (c : ECode) (p : Nat) : Beside d (d.raise c p) := .of_same rfl rfl rfl
theorem Dev.mirrorBind_beside : Beside d d.mirrorBind := .of_reach (x := mirrorBindReach) rfl (Footprint.holds_refl _ d).mirrorBind
theorem Dev.mirror_beside (r : MirrorRec) : Beside d (d.mirror r) := .of_reach (x := mirrorReach) rfl (Footprint.holds_refl _ d).mirror
theorem Dev.journal_beside (j : JournalEvent) : Beside d (d.journal j) := .of_reach (x := journalReach) rfl (Footprint.holds_refl _ d).journal
theorem Dev.withdrawAll_beside (f : Nat) : Beside d (d.withdrawAll f) :=
  .of_reach (x := withdrawAllReach) rfl (Footprint.holds_refl _ d).withdrawAll
theorem Dev.foldAll_beside : Beside d d.foldAll := .of_reach (x := foldAllReach) rfl (Footprint.holds_refl _ d).foldAll
theorem Dev.issueSpoils_beside : Beside d d.issueSpoils := .of_reach (x := openSpoilsReach) rfl (Footprint.holds_refl _ d).issueSpoils
theorem Dev.flushSpoils_beside : Beside d d.flushSpoils := .of_reach (x := openSpoilsReach) rfl (Footprint.holds_refl _ d).flushSpoils
theorem Dev.spoilPort_beside (n f : Nat) (c : SpoilCause) : Beside d (d.spoilPort n f c) :=
  .of_reach (x := spoilReach) rfl (Footprint.holds_refl _ d).spoilPort
theorem Dev.spoilSkipped_beside (a b : Int) (pass : Nat) : Beside d (d.spoilSkipped a b pass) :=
  .of_reach (x := spoilReach) rfl (Footprint.holds_refl _ d).spoilSkipped
theorem Dev.spoilDead_beside (p : FirePlace) : Beside d (d.spoilDead p) :=
  .of_reach (x := spoilDeadReach) rfl (Footprint.holds_refl _ d).spoilDead
theorem Dev.settleHolds_beside : Beside d d.settleHolds := .of_same rfl rfl rfl
theorem Dev.allocSlates_beside (f tF : Nat) (late : Bool) : Beside d (d.allocSlates f tF late) :=
  .of_reach (x := setPortReach) rfl (Footprint.holds_refl _ d).allocSlates
theorem Dev.rerunTimeout_beside (f : Nat) : Beside d (d.rerunTimeout f) :=
  .of_reach (x := rerunTimeoutReach) rfl (Footprint.holds_refl _ d).rerunTimeout
theorem Dev.surrenderAt_beside (f : Nat) : Beside d (d.surrenderAt f) :=
  .of_reach (x := surrenderAtReach) rfl (Footprint.holds_refl _ d).surrenderAt
theorem Dev.countSkips_beside (n : Nat) : Beside d (d.countSkips n) :=
  .of_reach (x := countSkipsReach) rfl (Footprint.holds_refl _ d).countSkips
theorem Dev.closeFrames_beside : Beside d d.closeFrames := .of_reach (x := closeFramesReach) rfl (Footprint.holds_refl _ d).closeFrames
theorem Dev.seekRows_beside : Beside d d.seekRows := .of_reach (x := seekRowsReach) rfl (Footprint.holds_refl _ d).seekRows
theorem Dev.clearBatches_beside : Beside d d.clearBatches :=
  .of_reach (x := clearBatchesReach) rfl (Footprint.holds_refl _ d).clearBatches
theorem Dev.joinWaiting_beside : Beside d d.joinWaiting := .of_reach (x := joinWaitingReach) rfl (Footprint.holds_refl _ d).joinWaiting
theorem Dev.lineMoved_beside : Beside d d.lineMoved := .of_reach (x := lineMovedReach) rfl (Footprint.holds_refl _ d).lineMoved
theorem Dev.lockPass_beside (pass : Nat) (reverse : Bool) : Beside d (d.lockPass pass reverse) :=
  .of_reach (x := lockPassReach) rfl (Footprint.holds_refl _ d).lockPass
theorem Dev.startEcho_beside (n : Nat) (u : EchoUse) : Beside d (d.startEcho n u) :=
  .of_reach (x := startEchoReach) rfl (Footprint.holds_refl _ d).startEcho
theorem Dev.maskUnfit_beside (n : Nat) : Beside d (d.maskUnfit n) :=
  .of_reach (x := maskUnfitReach none) rfl fun h => (Footprint.holds_refl _ d).maskUnfit h .any

end
end Sys2Proof.Machine
end

section
open Sys2Proof
namespace Sys2Proof.Machine

/-! ### Fires and passes as one motion -/

/-- What fires, passes and skipped lines may move: nothing of the inputs. -/
def Motion.fire : Motion :=
  ⟨[.cmpLine, .fires, .curPass, .armedPass, .stopReq],
   [(.posCtrl, 0, 1), (.posStatus, 0, 64), (.posFireIndex, 0, 64), (.posBindFire, 0, 64), (.posBindLine, 0, 64),
    (.posDeferCount, 0, 64)]⟩

/-- A compare value set. -/
theorem Motion.holds.inCmpLine {d e : Dev} {m : Int} (h : Motion.fire.holds d e) :
    Motion.fire.holds d { e with pos := { e.pos with cmpLine := m } } :=
  h.inPart .cmpLine rfl fun x hx => by
    cases x with
    | cmpLine => exact absurd rfl hx
    | _ => rfl

/-- The passes set. -/
theorem Motion.holds.inPasses {d e : Dev} {p q : Option Pass} (h : Motion.fire.holds d e) :
    Motion.fire.holds d { e with pos := { e.pos with curPass := p, armedPass := q } } := by
  refine h.trans ⟨rfl, fun x hx => ?_, fun _ _ _ _ _ => rfl⟩
  cases x with
  | curPass => exact absurd (by decide) hx
  | armedPass => exact absurd (by decide) hx
  | _ => rfl

section
variable (d : Dev)

/-! ### Operations that move nothing followed -/

/-- Nothing followed moves. -/
def Motion.still : Motion := ⟨[], []⟩

theorem Dev.speedReq_still (u : PinUser) : Motion.still.holds d (d.speedReq u) :=
  have h := Motion.holds_refl .still d
  h.ite (h.inPos fun x => by cases x <;> rfl)

theorem Dev.noteTrack_still : Motion.still.holds d d.noteTrack :=
  (Motion.holds_refl .still d).inPos fun x => by cases x <;> rfl

theorem Dev.repeatOut_still : Motion.still.holds d d.repeatOut :=
  (Motion.holds_refl .still d).foldl fun e n h =>
    have hset {v} : Motion.still.holds d { e with pos := { e.pos with eout := v } } := h.inPos fun x => by cases x <;> rfl
    hset.ite (h.ite hset)

theorem Dev.checkRate_still : Motion.still.holds d d.checkRate :=
  have h := Motion.holds_refl .still d
  ((((h.each fun e n he => he.beside (e.event_beside n 6 rfl)).beside (Dev.put_beside _ _ _ rfl)).beside
    (Dev.event_beside _ _ _ rfl)).beside (Dev.raise_beside _ _ _)).then (Dev.speedReq_still _ _) rfl |>.ite h

/-- The cross-check changes its own register and event only (R81). -/
theorem Dev.crossCheck_still : Motion.still.holds d d.crossCheck := by
  have h := Motion.holds_refl .still d
  unfold Dev.crossCheck
  split
  · have hput {v : Nat} {x : Bool} : Motion.still.holds d
        { d.put .posXcDiff 0 v with pos := { (d.put .posXcDiff 0 v).pos with xcOver := x } } :=
      (h.beside (d.put_beside 0 v rfl)).inPos fun x => by cases x <;> rfl
    exact (((hput.beside (Dev.event_beside _ _ _ rfl)).beside (Dev.raise_beside _ _ _)).ite hput).ite h
  · exact h

/-! ### Inputs -/

/-- An origin, a timestamp or a reference of an input moves. -/
def Motion.inputs : Motion := ⟨[.inputs], []⟩

theorem Dev.alignTo_moves (i t : Nat) (p : Int) : Motion.inputs.holds d (d.alignTo i t p) :=
  (Motion.holds_refl .inputs d).setEnc rfl rfl

theorem Dev.forgetSpeed_moves (i : Nat) : Motion.inputs.holds d (d.forgetSpeed i) := (Motion.holds_refl .inputs d).setEnc rfl rfl

theorem Dev.alignOther_moves : Motion.inputs.holds d d.alignOther := by
  have h := Motion.holds_refl .inputs d
  unfold Dev.alignOther
  split
  · exact ((h.then (d.alignTo_moves _ _ _) rfl).inPos fun x => by cases x <;> rfl).ite h
  · exact h

theorem Dev.resetSilent_moves : Motion.inputs.holds d d.resetSilent :=
  (Motion.holds_refl .inputs d).each fun e n h => by
    split
    · exact h.setEnc rfl rfl
    · exact h

/-- Speed, SPEED_VALID and DIR of POS_STATUS follow the source. -/
def Motion.speed : Motion := ⟨[], [(.posStatus, 2, 2)]⟩

theorem Dev.noteSpeed_moves : Motion.speed.holds d d.noteSpeed := by
  have h := (Motion.holds_refl .speed d).then d.noteTrack_still rfl
  unfold Dev.noteSpeed
  dsimp only
  split
  · exact ((h.beside (Dev.put_beside _ _ _ rfl)).setBit rfl).setBit rfl
  · exact ((((h.beside (Dev.closeFrames_beside _)).ite h).beside (Dev.put_beside _ _ _ rfl)).setBit rfl).setBit rfl

/-- The active source moves, and the speed with it. -/
def Motion.source : Motion := ⟨[], [(.posEncStatus, 29, 1), (.posStatus, 2, 2), (.posStatus, 4, 3)]⟩

theorem Dev.setSource_moves (i : Nat) : Motion.source.holds d (d.setSource i) :=
  (((Motion.holds_refl .source d).each fun _ _ h => h.setBit rfl).setFld rfl).then (Dev.noteSpeed_moves _) rfl

/-! ### Stops -/

/-- FIRING falls. -/
def Motion.firing : Motion := ⟨[], [(.posStatus, 0, 1)]⟩

theorem Dev.noteFiring_moves : Motion.firing.holds d d.noteFiring :=
  have h := Motion.holds_refl .firing d
  h.ite ((((h.setBit rfl).beside (Dev.issueSpoils_beside _)).beside (Dev.foldAll_beside _)).ite h)

/-- A stop request, and FIRING falls. -/
def Motion.stopped : Motion := ⟨[.stopReq], [(.posStatus, 0, 1)]⟩

theorem Dev.stopReq_moves (u : PinUser) : Motion.stopped.holds d (d.stopReq u) :=
  have h := Motion.holds_refl .stopped d
  h.ite (h.inPart .stopReq rfl fun x hx => by
    cases x with
    | stopReq => exact absurd rfl hx
    | _ => rfl)

/-- FIRE_EN falls and the cause stands (R69). -/
def Dev.stopMark (cause : Nat) : Dev := (d.setBit .posCtrl 0 0 false).setFld .posStatus 0 12 4 (if d.pos.ended then 4 else cause)

/-- What follows once a stop has marked FIRE_EN and the cause. -/
theorem Dev.stopFiring_follows (cause : Nat) : Motion.stopped.holds (d.stopMark cause) (d.stopFiring cause) :=
  have h := Motion.holds_refl .stopped (d.stopMark cause)
  have hreq := (h.then (Dev.stopReq_moves _ .pos) rfl).ite (c := 1 ≤ cause ∧ cause ≤ 4) h
  ((((hreq.beside (Dev.withdrawAll_beside _ _)).beside (Dev.foldAll_beside _)).then (Dev.noteFiring_moves _) rfl).beside
    (Dev.mirrorBind_beside _)).ite hreq

/-- A stop: FIRE_EN, FIRING, the cause and the request. -/
def Motion.stop : Motion := ⟨[.stopReq], [(.posCtrl, 0, 1), (.posStatus, 0, 1), (.posStatus, 12, 4)]⟩

theorem Dev.stopFiring_moves (cause : Nat) : Motion.stop.holds d (d.stopFiring cause) :=
  (((Motion.holds_refl .stop d).setBit rfl).setFld rfl).then (d.stopFiring_follows cause) rfl

theorem Dev.fireEn_stopFiring (cause : Nat) : (d.stopFiring cause).fireEn = false :=
  ((d.stopFiring_follows cause).bit (by decide) 0 0 rfl).trans <|
    (congrArg (· == 1) (Dev.fld_setFld_reg _ 0 0 12 4 _ 0 1 (by decide))).trans (Dev.bit_setBit_same _ _ _ _ _ (by decide))

theorem Dev.cause_stopFiring (cause : Nat) :
    (d.stopFiring cause).fld .posStatus 0 12 4 = (if d.pos.ended then 4 else cause) % 16 :=
  ((d.stopFiring_follows cause).fld (by decide) 0 12 4 rfl).trans (Dev.fld_setFld_same _ _ _ _ _ _ (by decide))

/-! ### Passes and skipped lines -/

/-- PASS of POS_STATUS. -/
def Motion.pass : Motion := ⟨[], [(.posStatus, 10, 2)]⟩

theorem Dev.notePass_moves : Motion.pass.holds d d.notePass := (Motion.holds_refl .pass d).setFld rfl

/-- The binding. -/
def Motion.bind : Motion := ⟨[], [(.posBindFire, 0, 64), (.posBindLine, 0, 64)]⟩

theorem Dev.setBind_moves (f : Nat) (l : Int) : Motion.bind.holds d (d.setBind f l) :=
  ((Motion.holds_refl .bind d).put rfl).putInt rfl

theorem Dev.rebind_moves (l : Int) : Motion.bind.holds d (d.rebind l) :=
  ((((d.setBind_moves _ l).beside (Dev.withdrawAll_beside _ _)).beside (Dev.seekRows_beside _)).beside
    (Dev.closeFrames_beside _)).beside (Dev.mirrorBind_beside _)

theorem Dev.startPass_moves (p : Pass) : Motion.fire.holds d (d.startPass p) :=
  have h := ((Motion.holds_refl .fire d).inPasses).beside (Dev.put_beside _ 0 p.number rfl)
  (h.then (Dev.notePass_moves _) rfl).ite
    ((h.inCmpLine.then (Dev.setBind_moves _ _ _) rfl).then (Dev.notePass_moves _) rfl)
end
end Sys2Proof.Machine
end

section
open Sys2Proof
namespace Sys2Proof.Machine
section
variable (d : Dev)

/-! ### The end of a pass, and lines that the position has passed (R67, R71) -/

theorem Dev.endPass_moves (aborted : Bool) : Motion.fire.holds d (d.endPass aborted) := by
  have h : Motion.fire.holds d ((d.event .posEvent 0 7).setBit .posStatus 0 9 aborted).closeFrames :=
    (((Motion.holds_refl .fire d).beside (Dev.event_beside _ _ _ rfl)).setBit rfl).beside (Dev.closeFrames_beside _)
  unfold Dev.endPass
  dsimp only
  generalize ((d.event .posEvent 0 7).setBit .posStatus 0 9 aborted).closeFrames = e at h ⊢
  split
  · exact h.then (Dev.startPass_moves _ _) rfl
  · exact h.inPasses.then (Dev.notePass_moves _) rfl

theorem Dev.abortPass_moves : Motion.fire.holds d d.abortPass := by
  have h := Motion.holds_refl .fire d
  unfold Dev.abortPass
  split
  · exact h
  · have hskip {n} := h.beside (d.countSkips_beside n)
    exact ((((hskip.beside (Dev.spoilSkipped_beside _ _ _ _)).ite (hskip.beside (Dev.spoilSkipped_beside _ _ _ _))).then
      (Dev.endPass_moves _ _) rfl).beside (Dev.withdrawAll_beside _ _)).beside (Dev.mirrorBind_beside _)

/-- Lines skipped, and the compare value at the first one not passed. -/
theorem Motion.holds.skipTo {d e : Dev} (h : Motion.fire.holds d e) {n pass : Nat} {a b m : Int} :
    Motion.fire.holds d { (e.countSkips n).spoilSkipped a b pass with
      pos := { ((e.countSkips n).spoilSkipped a b pass).pos with cmpLine := m } } :=
  ((h.beside (Dev.countSkips_beside _ _)).beside (Dev.spoilSkipped_beside _ _ _ _)).inCmpLine

theorem Dev.skipPassed_moves : Motion.fire.holds d d.skipPassed := by
  have h := Motion.holds_refl .fire d
  have hend {e : Dev} (he : Motion.fire.holds d e) {f : Nat} {l : Int} {c : Prop} [Decidable c] :
      Motion.fire.holds d (if c then (e.endPass false).withdrawAll f else e.rebind l) :=
    ((he.then (e.endPass_moves _) rfl).beside (Dev.withdrawAll_beside _ _)).ite (he.then (e.rebind_moves _) rfl)
  unfold Dev.skipPassed
  refine h.ite ?_
  dsimp only
  refine Motion.holds.ite ((h.skipTo.then (Dev.rebind_moves _ _) rfl).ite h) ?_
  split
  · exact h
  · exact h.ite (((hend h.skipTo).ite h).ite ((hend h.skipTo).ite h))

/-! ### A commit (R73) -/

/-- A deferral: its count, OVERSPEED and the request for less speed. -/
def Motion.deferral : Motion := ⟨[], [(.posDeferCount, 0, 64), (.posStatus, 7, 1)]⟩

theorem Dev.noteDeferral_moves : Motion.deferral.holds d d.noteDeferral :=
  have h := (Motion.holds_refl .deferral d).count (r := .posDeferCount) (k := 0) rfl
  h.ite ((((h.setBit rfl).beside (Dev.event_beside _ _ _ rfl)).beside (Dev.raise_beside _ _ _)).then (Dev.speedReq_still _ _) rfl)

/-- The fire that a commit makes. -/
def Dev.nextFire (tF : Nat) (tQ : Option Nat) (reverse : Bool) : Fire :=
  { index := d.fireIndex + 1, tF := tF, tQ := tQ, line := d.pos.cmpLine, reverse := reverse,
    pass := if d.scanning then (d.pos.curPass.map fun p => p.number).getD 0 else 0 }

/-- A commit takes the next index: slates are allocated and the period noted. -/
def Dev.indexFire (tF : Nat) (late : Bool) : Dev :=
  let d1 := ((d.put .posFireIndex 0 (d.fireIndex + 1)).setBit .posStatus 0 0 true).allocSlates (d.fireIndex + 1) tF late
  match d.pos.fires.head? with
  | some x => d1.put .posFirePeriod 0 ((tF - x.tF) / 50 % 2 ^ 32)
  | none => d1

/-- A commit records the fire, and the compare value goes on by a line. -/
def Dev.takeFire (tF : Nat) (tQ : Option Nat) (reverse : Bool) : Dev :=
  let d2 := d.indexFire tF (tQ.isSome || decide (d.commitOf tF < d.now))
  { d2 with pos := { d2.pos with fires := (d.nextFire tF tQ reverse :: d2.pos.fires).take 64,
                                 cmpLine := if reverse then d.pos.cmpLine - 1 else d.pos.cmpLine + 1 } }

/-- A fire taken is journalled, told to the partner and checked; what it leaves unprinted is spoiled. -/
def Dev.tellFire (f : Nat) (m : Int) : Dev :=
  let dj := if f % 2 ^ 20 = 0 then d.journal (.epoch f) else d
  let d4 := (((((dj.mirror (.commit f m)).mirror (dj.crcRecord f)).rerunTimeout f).checkRate).surrenderAt f)
  (d4.each ((List.range 192).filter fun n => (d4.port n).faulted) fun d n => d.spoilPort n f .underrun).flushSpoils

/-- The pass at a fire: it ends with its last line. -/
def Dev.passFire (m : Int) : Dev :=
  match d.pos.curPass with
  | some p => if d.scanning ∧ (if p.reverse then m = p.lo else m = p.hi - 1) then (d.endPass false).mirrorBind else d.notePass
  | none => d

/-- The fire index ends (R27). -/
def Dev.endIndex (f : Nat) : Dev :=
  if f = 2 ^ 48 - 1 then ({ d with pos := { d.pos with ended := true } }.raise .fireIndexEnd 0).stopFiring 4 else d

theorem Dev.commitFire_eq (tF : Nat) (tQ : Option Nat) (reverse : Bool) :
    d.commitFire tF tQ reverse =
      (((d.takeFire tF tQ reverse).tellFire (d.fireIndex + 1) d.pos.cmpLine).passFire d.pos.cmpLine).endIndex
        (d.fireIndex + 1) := by
  unfold Dev.commitFire Dev.endIndex Dev.passFire Dev.tellFire Dev.takeFire Dev.indexFire Dev.nextFire
  rfl

/-- The fire index, and FIRING. -/
def Motion.index : Motion := ⟨[], [(.posFireIndex, 0, 64), (.posStatus, 0, 1)]⟩

/-- Once a commit has taken the index, it sets FIRING, allocates and notes the period. -/
theorem Dev.indexFire_follows (tF : Nat) (late : Bool) :
    Motion.firing.holds (d.put .posFireIndex 0 (d.fireIndex + 1)) (d.indexFire tF late) := by
  have h := ((Motion.holds_refl .firing (d.put .posFireIndex 0 (d.fireIndex + 1))).setBit (r := .posStatus) (k := 0) (l := 0)
    (v := true) rfl).beside (Dev.allocSlates_beside _ (d.fireIndex + 1) tF late)
  unfold Dev.indexFire
  dsimp only
  split
  · exact h.beside (Dev.put_beside _ _ _ rfl)
  · exact h

theorem Dev.indexFire_moves (tF : Nat) (late : Bool) : Motion.index.holds d (d.indexFire tF late) :=
  ((Motion.holds_refl .index d).put rfl).then (d.indexFire_follows tF late) rfl

theorem Dev.takeFire_moves (tF : Nat) (tQ : Option Nat) (reverse : Bool) : Motion.fire.holds d (d.takeFire tF tQ reverse) := by
  refine ((d.indexFire_moves tF _).mono rfl).trans ⟨rfl, fun x hx => ?_, fun _ _ _ _ _ => rfl⟩
  cases x with
  | cmpLine => exact absurd (by decide) hx
  | fires => exact absurd (by decide) hx
  | _ => rfl

theorem Dev.tellFire_still (f : Nat) (m : Int) : Motion.still.holds d (d.tellFire f m) := by
  have h := Motion.holds_refl .still d
  have hj := (h.beside (d.journal_beside (.epoch f))).ite (c := f % 2 ^ 20 = 0) h
  exact ((((((hj.beside (Dev.mirror_beside _ _)).beside (Dev.mirror_beside _ _)).beside (Dev.rerunTimeout_beside _ _)).then
    (Dev.checkRate_still _) rfl).beside (Dev.surrenderAt_beside _ f)).each fun e n he =>
      he.beside (e.spoilPort_beside n f .underrun)).beside (Dev.flushSpoils_beside _)

theorem Dev.passFire_moves (m : Int) : Motion.fire.holds d (d.passFire m) := by
  have h := Motion.holds_refl .fire d
  unfold Dev.passFire
  split
  · exact ((h.then (d.endPass_moves _) rfl).beside (Dev.mirrorBind_beside _)).ite (h.then d.notePass_moves rfl)
  · exact h

/-- In web mode no pass ends. -/
theorem Dev.passFire_moves_of_web (m : Int) (hweb : d.scanning = false) : Motion.pass.holds d (d.passFire m) := by
  unfold Dev.passFire
  split
  · rw [if_neg (by simp [hweb])]
    exact d.notePass_moves
  · exact Motion.holds_refl _ d

theorem Dev.endIndex_moves (f : Nat) : Motion.stop.holds d (d.endIndex f) :=
  have h := Motion.holds_refl .stop d
  (((h.inPos fun x => by cases x <;> rfl).beside (Dev.raise_beside _ _ _)).then (Dev.stopFiring_moves _ _) rfl).ite h

theorem Dev.commitFire_moves (tF : Nat) (tQ : Option Nat) (reverse : Bool) : Motion.fire.holds d (d.commitFire tF tQ reverse) := by
  rw [Dev.commitFire_eq]
  exact (((d.takeFire_moves tF tQ reverse).then (Dev.tellFire_still _ _ _) rfl).then (Dev.passFire_moves _ _) rfl).then
    (Dev.endIndex_moves _ _) rfl

/-- What a commit in web mode may still move once the fire is taken. -/
def Motion.commitEnd : Motion := ⟨[.stopReq], [(.posCtrl, 0, 1), (.posStatus, 0, 1), (.posStatus, 10, 2), (.posStatus, 12, 4)]⟩

theorem Dev.commitFire_follows (tF : Nat) (tQ : Option Nat) (reverse : Bool) (hweb : d.scanning = false) :
    Motion.commitEnd.holds (d.takeFire tF tQ reverse) (d.commitFire tF tQ reverse) := by
  have htold := ((d.takeFire tF tQ reverse).tellFire_still (d.fireIndex + 1) d.pos.cmpLine)
  have hscan := (htold.scanning.trans (d.takeFire_moves tF tQ reverse).scanning).trans hweb
  rw [Dev.commitFire_eq]
  exact ((htold.mono rfl).then (Dev.passFire_moves_of_web _ _ hscan) rfl).then (Dev.endIndex_moves _ _) rfl

/-! ### Fires that become due -/

theorem Dev.makeFire_moves (b : PosBase) (tF : Nat) (tQ : Option Nat) : Motion.fire.holds d (d.makeFire b tF tQ) := by
  unfold Dev.makeFire
  split
  · exact ((((d.stopFiring_moves 1).mono rfl).ite
      (((d.noteDeferral_moves).mono rfl).then (Dev.commitFire_moves _ _ _ _) rfl)).ite (d.commitFire_moves _ _ _))
  · exact d.commitFire_moves _ _ _

theorem Dev.lateCommits_moves (n : Nat) : Motion.fire.holds d (Dev.lateCommits n d) := by
  induction n generalizing d with
  | zero => exact Motion.holds_refl _ d
  | succ n ih =>
    unfold Dev.lateCommits
    split
    · exact Motion.holds_refl _ d
    · exact ((d.makeFire_moves _ _ _).trans (ih _)).ite (Motion.holds_refl _ d)

theorem Dev.directFires_moves (n : Nat) : Motion.fire.holds d (Dev.directFires n d) := by
  induction n generalizing d with
  | zero => exact Motion.holds_refl _ d
  | succ n ih =>
    unfold Dev.directFires
    split
    · exact Motion.holds_refl _ d
    · exact ((d.makeFire_moves _ _ _).trans (ih _)).ite (Motion.holds_refl _ d)

theorem Dev.positionMoved_moves : Motion.fire.holds d d.positionMoved :=
  have h := (Motion.holds_refl .fire d).beside d.lineMoved_beside
  have h1 := Motion.holds.ite (c := d.firing = true) h (h.beside (Dev.flushSpoils_beside _))
  (h1.trans (Dev.directFires_moves _ 32)).ite (h1.trans (Dev.lateCommits_moves _ 32))

theorem Dev.afterFires_beside (was : Nat) : Beside d (d.afterFires was) := by
  unfold Dev.afterFires
  split
  · exact .ite ((d.spoilDead_beside _).trans (Dev.settleHolds_beside _)) (.refl d)
  · exact .refl d

/-- What follows new levels moves nothing of the inputs. -/
theorem Dev.edgeDone_moves (wasValid : Bool) : Motion.fire.holds d (d.edgeDone wasValid) := by
  have h := (d.noteSpeed_moves).mono (M := .fire) rfl
  have hpassed := (h.trans (Dev.skipPassed_moves _)).ite (c := (!wasValid && d.noteSpeed.speedValid) = true) h
  exact ((hpassed.trans (Dev.positionMoved_moves _)).then (Dev.repeatOut_still _) rfl).beside (Dev.afterFires_beside _ d.fireIndex)
end
end Sys2Proof.Machine
end

section
open Sys2Proof
namespace Sys2Proof.Machine
section
variable (d : Dev)

/-! ### Losing an input (R82, R84) -/

/-- What the loss of an input may move once LOST is set. -/
def Motion.loss : Motion := ⟨.inputs :: .dr :: Motion.fire.parts, (.posEncStatus, 29, 1) :: Motion.fire.fields⟩

theorem Dev.deadReckon_moves : Motion.loss.holds d d.deadReckon := by
  have h := Motion.holds_refl .loss d
  unfold Dev.deadReckon
  split
  · exact h
  · split
    · refine (((Motion.holds.setBit ?_ rfl).beside (Dev.event_beside _ _ _ rfl)).then (Dev.stopReq_moves _ _) rfl).then
        (Dev.noteSpeed_moves _) rfl
      exact h.inPart .dr rfl fun x hx => by
        cases x with
        | dr => exact absurd rfl hx
        | _ => rfl
    · have hfrozen {v} : Motion.loss.holds d { d with pos := { d.pos with frozen := v } } := h.inPos fun x => by cases x <;> rfl
      exact ((hfrozen.then (Dev.stopFiring_moves _ _) rfl).ite hfrozen).then (Dev.noteSpeed_moves _) rfl

/-- LOST of an input is set, and it no longer waits for the end of dead reckoning. -/
def Dev.markLost (i : Nat) : Dev :=
  let d0 := if d.encUsed.contains i then d.setFld .posXcDiff 0 0 32 0 else d
  let d1 := (d0.setBit .posEncStatus i 31 true).event .posEvent 0 3
  { d1 with pos := { d1.pos with held := d1.pos.held.filter fun j => j != i } }

/-- An input that was in use or active is replaced by the other one, or by dead reckoning, from a position on. -/
def Dev.replaceLost (i : Nat) (p : Int) (was active : Bool) : Dev :=
  if !was then d
  else if !active then d.mirrorBind
  else match d.otherEnc i with
    | some j =>
      if d.inService j then (((d.alignTo j d.now p).setSource j).event .posEvent 0 4).mirrorBind else (d.deadReckon).mirrorBind
    | none => (d.deadReckon).mirrorBind

theorem Dev.loseInput_eq (i : Nat) (h : d.bit .posEncStatus i 31 = false) :
    d.loseInput i = (d.markLost i).replaceLost i (d.linePos d.now) (d.encUsed.contains i)
      (i == d.actSrc && d.pos.dr.isNone && d.pos.frozen.isNone) := by
  unfold Dev.loseInput Dev.replaceLost Dev.markLost
  exact (if_neg (by simp [h])).trans rfl

/-- LOST is set. -/
def Motion.mark : Motion := ⟨[], [(.posEncStatus, 31, 1)]⟩

theorem Dev.markLost_moves (i : Nat) : Motion.mark.holds d (d.markLost i) := by
  have h := Motion.holds_refl .mark d
  exact ((((h.beside (Dev.put_beside _ _ _ rfl)).ite h).setBit rfl).beside (Dev.event_beside _ _ _ rfl)).inPos
    fun x => by cases x <;> rfl

theorem Dev.bit_markLost (i : Nat) : (d.markLost i).bit .posEncStatus i 31 = true := by
  unfold Dev.markLost
  exact (((Motion.holds_refl .still _).beside (Dev.event_beside _ 0 3 rfl)).bit (by decide) i 31 rfl).trans
    (Dev.bit_setBit_same _ _ _ _ _ (by decide))

theorem Dev.replaceLost_moves (i : Nat) (p : Int) (was active : Bool) : Motion.loss.holds d (d.replaceLost i p was active) := by
  have h := Motion.holds_refl .loss d
  have hreckon := (h.then d.deadReckon_moves rfl).beside (Dev.mirrorBind_beside _)
  unfold Dev.replaceLost
  refine h.ite ((h.beside d.mirrorBind_beside).ite ?_)
  split
  · exact ((((h.then (d.alignTo_moves _ _ p) rfl).then (Dev.setSource_moves _ _) rfl).beside (Dev.event_beside _ _ _ rfl)).beside
      (Dev.mirrorBind_beside _)).ite hreckon
  · exact hreckon

/-- What the loss of an input may move. -/
def Motion.lose : Motion := ⟨Motion.loss.parts, (.posEncStatus, 31, 1) :: Motion.loss.fields⟩

theorem Dev.loseInput_moves (i : Nat) : Motion.lose.holds d (d.loseInput i) := by
  cases h : d.bit .posEncStatus i 31 with
  | true => rw [Dev.loseInput, if_pos h]; exact Motion.holds_refl _ d
  | false =>
    rw [d.loseInput_eq i h]
    exact ((d.markLost_moves i).mono rfl).then (Dev.replaceLost_moves _ _ _ _ _) rfl

/-- An input that is lost shows so. -/
theorem Dev.bit_loseInput (i : Nat) : (d.loseInput i).bit .posEncStatus i 31 = true := by
  cases h : d.bit .posEncStatus i 31 with
  | true => rw [Dev.loseInput, if_pos h, h]
  | false =>
    rw [d.loseInput_eq i h]
    exact ((Dev.replaceLost_moves _ _ _ _ _).bit (by decide) i 31 rfl).trans (d.bit_markLost i)

/-! ### Regaining an input (R82, R84) -/

/-- What the return of an input may move once LOST is clear. -/
def Motion.regain : Motion := ⟨[.inputs], Motion.source.fields⟩

/-- A position held no more, and the source that takes over. -/
theorem Motion.holds.takeSource {e : Dev} {i : Nat} {t : Nat} {p : Int} {v : Option Int} {ns : List Nat}
    (h : Motion.regain.holds d e) : Motion.regain.holds d
      ({ e.alignTo i t p with pos := { (e.alignTo i t p).pos with frozen := v, held := ns } }.setSource i).alignOther :=
  (((h.then (e.alignTo_moves i t p) rfl).inPos fun x => by cases x <;> rfl).then (Dev.setSource_moves _ i) rfl).then
    (Dev.alignOther_moves _) rfl

theorem Dev.takeHeld_moves : Motion.regain.holds d d.takeHeld := by
  unfold Dev.takeHeld
  split
  · exact Motion.holds_refl _ d
  · exact (Motion.holds_refl .regain d).takeSource

/-- LOST of an input is cleared, and it starts anew. -/
def Dev.clearLost (i : Nat) : Dev :=
  let d1 := d.setBit .posEncStatus i 31 false
  (d1.setEnc i { d1.enc i with glitches := [], stamps := [], valid := false }).resetSilent

/-- An input that has returned enters service. -/
def Dev.serveInput (i : Nat) : Dev :=
  if !d.encUsed.contains i then d
  else if d.pos.dr.isSome then { d with pos := { d.pos with held := d.pos.held ++ [i] } }
  else if d.pos.frozen.isSome then
    let d3 := d.alignTo i d.now (d.linePos d.now)
    (({ d3 with pos := { d3.pos with frozen := none } }.setSource i).alignOther).mirrorBind
  else if i = d.actSrc then d.noteSpeed
  else (d.alignOther).mirrorBind

theorem Dev.returnInput_eq (i : Nat) (h : d.bit .posEncStatus i 31 = true) : d.returnInput i = (d.clearLost i).serveInput i := by
  unfold Dev.returnInput Dev.serveInput Dev.clearLost
  exact (if_neg (by simp [h])).trans rfl

theorem Dev.bit_clearLost (i : Nat) : (d.clearLost i).bit .posEncStatus i 31 = false := by
  unfold Dev.clearLost
  have h := ((Motion.holds_refl .inputs (d.setBit .posEncStatus i 31 false)).setEnc (i := i)
    (x := { (d.setBit .posEncStatus i 31 false).enc i with glitches := [], stamps := [], valid := false }) rfl rfl)
  exact ((h.then (Dev.resetSilent_moves _) rfl).bit (by decide) i 31 rfl).trans (Dev.bit_setBit_same _ _ _ _ _ (by decide))

theorem Dev.serveInput_moves (i : Nat) : Motion.regain.holds d (d.serveInput i) :=
  have h := Motion.holds_refl .regain d
  h.ite ((h.inPos fun x => by cases x <;> rfl).ite ((h.takeSource.beside (Dev.mirrorBind_beside _)).ite
    ((h.then d.noteSpeed_moves rfl).ite ((h.then d.alignOther_moves rfl).beside (Dev.mirrorBind_beside _)))))

/-- An input that returns is no longer lost. -/
theorem Dev.bit_returnInput (i : Nat) : (d.returnInput i).bit .posEncStatus i 31 = false := by
  cases h : d.bit .posEncStatus i 31 with
  | false => rw [Dev.returnInput, if_pos (by simp [h]), h]
  | true =>
    rw [d.returnInput_eq i h]
    exact ((Dev.serveInput_moves _ i).bit (by decide) i 31 rfl).trans (d.bit_clearLost i)

end
end Sys2Proof.Machine
end

section
open Sys2Proof
namespace Sys2Proof.Machine
section
variable (d : Dev)

/-! ### Counts (R57, R58, R61) -/

theorem Dev.encReverse_of_moves {M : Motion} {d e : Dev} (h : M.holds d e) (i : Nat) (hs : M.spares .posEncStatus 27 1 = true) :
    e.encReverse i = d.encReverse i := h.bit (by decide) i 27 hs

theorem Dev.checkSilent_moves (i : Nat) : Motion.lose.holds d (d.checkSilent i) := by
  have h := Motion.holds_refl .lose d
  unfold Dev.checkSilent
  split
  · exact h
  next j _ =>
    have hset : Motion.lose.holds d (d.setEnc i { d.enc i with silentRef := d.encCount j }) := h.setEnc rfl rfl
    dsimp only
    refine Motion.holds.ite ?_ hset
    exact hset.trans (Dev.loseInput_moves _ _)

theorem Dev.checkReversal_moves (i : Nat) : Motion.fire.holds d (d.checkReversal i) := by
  have h := Motion.holds_refl .fire d
  unfold Dev.checkReversal
  split
  · exact Motion.holds.ite d.abortPass_moves h
  · exact h

/-- A count is stamped: LAST_PERIOD, and the instant of the input's last count. -/
def Dev.stampEdge (i stamp : Nat) : Dev :=
  let d1 := d.setFld .posEncStatus i 0 26
    (((d.enc i).lastStamp.map fun t => periodUnits (stamp - t)).getD (d.fld .posEncStatus i 0 26))
  d1.setEnc i { d1.enc i with lastStamp := some stamp }

theorem Dev.countEdge_eq (i stamp : Nat) (reverse : Bool) :
    d.countEdge i stamp reverse =
      if reverse = d.encReverse i then (((d.stampEdge i stamp).countSame i stamp).checkSilent i).crossCheck
      else (((d.stampEdge i stamp).countTurn i).checkSilent i).checkReversal i := rfl

/-- The instant of a count. -/
def Motion.stamp : Motion := ⟨[.inputs], [(.posEncStatus, 0, 26)]⟩

theorem Dev.stampEdge_moves (i stamp : Nat) : Motion.stamp.holds d (d.stampEdge i stamp) :=
  ((Motion.holds_refl .stamp d).setFld rfl).setEnc rfl rfl

/-- A count in the direction of DIR. -/
def Motion.step : Motion := ⟨[.inputs], [(.posEncCount, 0, 64)]⟩

theorem Dev.countSame_moves (i stamp : Nat) : Motion.step.holds d (d.countSame i stamp) :=
  ((Motion.holds_refl .step d).putInt rfl).setEnc rfl rfl

/-- A count against DIR. -/
def Motion.turn : Motion := ⟨[.inputs], [(.posEncStatus, 27, 1)]⟩

theorem Dev.countTurn_moves (i : Nat) : Motion.turn.holds d (d.countTurn i) :=
  ((Motion.holds_refl .turn d).setBit rfl).setEnc rfl rfl

theorem Dev.rd_countSame (i stamp : Nat) :
    (d.countSame i stamp).rd .posEncCount i =
      if d.encReverse i then d.rd .posEncCount i - 1 else d.rd .posEncCount i + 1 := by
  refine (Dev.rd_wr_same d .posEncCount i _).trans ?_
  cases d.encReverse i
  · simp [Dev.encCount, Dev.getInt, BitVec.ofInt_add]
  · simp [Dev.encCount, Dev.getInt, Int.sub_eq_add_neg, BitVec.ofInt_add, BitVec.ofInt_neg, BitVec.sub_eq_add_neg]

theorem Dev.encReverse_countTurn (i : Nat) : (d.countTurn i).encReverse i = !d.encReverse i :=
  Dev.bit_setBit_same d .posEncStatus i 27 _ (by decide)

/-- What a count may move: its input, and whatever a lost input or a turned pass does. -/
def Motion.count : Motion :=
  ⟨Motion.lose.parts, (.posEncStatus, 0, 28) :: (.posEncCount, 0, 64) :: Motion.lose.fields⟩

theorem Dev.countEdge_moves (i stamp : Nat) (reverse : Bool) : Motion.count.holds d (d.countEdge i stamp reverse) := by
  have h := (d.stampEdge_moves i stamp).mono (M := .count) rfl
  rw [Dev.countEdge_eq]
  exact (((h.then (Dev.countSame_moves _ _ _) rfl).then (Dev.checkSilent_moves _ _) rfl).then (Dev.crossCheck_still _) rfl).ite
    (((h.then (Dev.countTurn_moves _ _) rfl).then (Dev.checkSilent_moves _ _) rfl).then (Dev.checkReversal_moves _ _) rfl)

/-- A count in the direction of DIR moves the count by one, and one against it leaves the count; either way DIR is then the
direction of the count. -/
theorem Dev.countEdge_count (i stamp : Nat) (reverse : Bool) :
    (d.countEdge i stamp reverse).rd .posEncCount i =
        (if reverse = d.encReverse i then
          (if reverse then d.rd .posEncCount i - 1 else d.rd .posEncCount i + 1) else d.rd .posEncCount i) ∧
      (d.countEdge i stamp reverse).encReverse i = reverse := by
  have hstamp := d.stampEdge_moves i stamp
  have hcount : (d.stampEdge i stamp).rd .posEncCount i = d.rd .posEncCount i := hstamp.rd (by decide) i rfl
  have hdir : (d.stampEdge i stamp).encReverse i = d.encReverse i := Dev.encReverse_of_moves hstamp i rfl
  rw [Dev.countEdge_eq]
  split
  next hsame =>
    have hafter := ((Dev.checkSilent_moves ((d.stampEdge i stamp).countSame i stamp) i).then (Dev.crossCheck_still _) rfl)
    refine ⟨(hafter.rd (by decide) i rfl).trans ?_, (Dev.encReverse_of_moves hafter i rfl).trans ?_⟩
    · rw [Dev.rd_countSame, hcount, hdir, hsame]
    · rw [Dev.encReverse_of_moves (Dev.countSame_moves _ _ _) i rfl, hdir, hsame]
  next hturn =>
    have hafter := ((Dev.checkSilent_moves ((d.stampEdge i stamp).countTurn i) i).then (Dev.checkReversal_moves _ i) rfl)
    refine ⟨(hafter.rd (by decide) i rfl).trans ?_, (Dev.encReverse_of_moves hafter i rfl).trans ?_⟩
    · rw [(Dev.countTurn_moves _ i).rd (by decide) i rfl, hcount]
    · rw [Dev.encReverse_countTurn, hdir]
      exact (Bool.eq_not_of_ne hturn).symm

/-! ### The Z latch (R58) -/

/-- The latch, and the mark that the one before it was at another count. -/
def Motion.latch : Motion := ⟨[.inputs], [(.posEncStatus, 28, 1), (.posEncZlatch, 0, 64)]⟩

theorem Dev.latchZ_moves (i : Nat) : Motion.latch.holds d (d.latchZ i) := by
  have h := Motion.holds_refl .latch d
  exact (((h.setBit rfl).ite h).putInt rfl).setEnc rfl rfl

theorem Dev.rd_latchZ (i : Nat) : (d.latchZ i).rd .posEncZlatch i = d.rd .posEncCount i :=
  (Dev.rd_wr_same _ .posEncZlatch i _).trans (BitVec.ofInt_toInt ..)

/-! ### An edge (R54 to R63) -/

/-- An input with the levels of an edge: a pair with a wire fault keeps its level. -/
def EncInput.withLevels (x : EncInput) (a b z : Bool) : EncInput :=
  { x with a := if x.wireA then x.a else a, b := if x.wireB then x.b else b, z := if x.wireZ then x.z else z }

/-- Places in the forward sequence from one pair of levels to the next. -/
def quadStep (x y : EncInput) : Nat := (quadPlace y.a y.b + 4 - quadPlace x.a x.b) % 4

/-- The levels of an edge are taken, and a change of A and B counts or is impossible. -/
def Dev.takeLevels (i t : Nat) (y : EncInput) : Dev :=
  let k := quadStep (d.enc i) y
  let d1 := d.setEnc i y
  if k = 0 then d1
  else if k = 2 then (d1.count .posEncQuadCount i).loseInput i
  else d1.countEdge i t ((k == 3) != (d.cfg .encInvert i == 1))

/-- A rising Z latches. -/
def Dev.takeZ (i t : Nat) (y : EncInput) : Dev :=
  if y.z && !(d.enc i).z then (d.takeLevels i t y).latchZ i else d.takeLevels i t y

/-- The controller at the instant at which an edge is qualified. -/
def Dev.atEdge (i stamp : Nat) : Dev := d.at (stamp / 200 * 200 + 1000 * d.cfg .minEdgeNs i)

end

theorem exec_encEdgeQualified (i : Fin 8) (a b z : Bool) (stamp : Nat) (s : State) :
    exec (.encEdgeQualified i a b z stamp) s = s.run fun d =>
      ((d.atEdge i.val stamp).takeZ i.val (stamp / 200 * 200) ((d.enc i.val).withLevels a b z)).edgeDone
        (d.atEdge i.val stamp).speedValid := rfl

end Sys2Proof.Machine
end

section
open Sys2Proof
namespace Sys2Proof.Machine
section
variable {d e : Dev}

/-! ### What an edge leaves and what it counts -/

/-- Levels of an input that a motion keeps. -/
theorem Motion.holds.levels {M : Motion} (h : M.holds d e) (hM : M.parts.contains .levels = false) (i : Nat) :
    ((e.enc i).a, (e.enc i).b, (e.enc i).z) = ((d.enc i).a, (d.enc i).b, (d.enc i).z) :=
  congrFun (h.keeps .levels hM) i

/-- An input that a motion keeps. -/
theorem Motion.holds.enc {M : Motion} (h : M.holds d e) (hM : M.parts.contains .inputs = false) (i : Nat) : e.enc i = d.enc i :=
  congrArg (Tab.get · i EncInput.reset) (h.keeps .inputs hM)

theorem Dev.enc_setEnc_same (d : Dev) (i : Nat) (x : EncInput) : (d.setEnc i x).enc i = x := Tab.get_set_same ..

end
section
variable (d : Dev) (i : Nat)

/-- A change of A and B that is impossible counts in QUAD_COUNT and loses the input (R57). -/
def Dev.badEdge (y : EncInput) : Dev := ((d.setEnc i y).count .posEncQuadCount i).loseInput i

/-- What an edge may move besides its levels. -/
def Motion.edge : Motion :=
  ⟨Motion.count.parts, (.posEncStatus, 28, 1) :: (.posEncZlatch, 0, 64) :: (.posEncQuadCount, 0, 64) :: Motion.count.fields⟩

theorem Dev.takeLevels_moves (t : Nat) (y : EncInput) : Motion.edge.holds (d.setEnc i y) (d.takeLevels i t y) := by
  have h := Motion.holds_refl .edge (d.setEnc i y)
  exact h.ite (((h.count rfl).then (Dev.loseInput_moves _ i) rfl).ite (h.then (Dev.countEdge_moves _ i t _) rfl))

theorem Dev.takeZ_moves (t : Nat) (y : EncInput) : Motion.latch.holds (d.takeLevels i t y) (d.takeZ i t y) :=
  (Dev.latchZ_moves _ i).ite (Motion.holds_refl _ _)

/-- What follows the counts and the loss of an edge moves neither. -/
def Motion.edgeEnd : Motion := ⟨.inputs :: Motion.fire.parts, Motion.latch.fields ++ Motion.fire.fields⟩

/-- An edge after its levels are taken: the latch, and what follows new levels. -/
theorem Dev.edgeEnd_moves (t : Nat) (y : EncInput) (v : Bool) :
    Motion.edgeEnd.holds (d.takeLevels i t y) ((d.takeZ i t y).edgeDone v) :=
  ((d.takeZ_moves i t y).mono rfl).then (Dev.edgeDone_moves _ v) rfl

/-- The levels of an edge are the levels of the input. -/
theorem Dev.levels_edge (t : Nat) (y : EncInput) (v : Bool) :
    let e := (d.takeZ i t y).edgeDone v
    ((e.enc i).a, (e.enc i).b, (e.enc i).z) = (y.a, y.b, y.z) := by
  refine (((d.takeLevels_moves i t y).then (d.edgeEnd_moves i t y v) rfl).levels rfl i).trans ?_
  rw [Dev.enc_setEnc_same]

theorem quadStep_withLevels {x : EncInput} {a b z : Bool} (ha : x.wireA = false) (hb : x.wireB = false) :
    quadStep x (x.withLevels a b z) = (quadPlace a b + 4 - quadPlace x.a x.b) % 4 := by
  simp [quadStep, EncInput.withLevels, ha, hb]

/-- An edge that moves A and B by one place counts in the direction of the change, which INVERT turns. -/
theorem Dev.edge_count (t : Nat) (y : EncInput) (v reverse : Bool) (hk : quadStep (d.enc i) y = if reverse then 3 else 1)
    (hinvert : d.cfg .encInvert i ≠ 1) :
    let e := (d.takeZ i t y).edgeDone v
    e.rd .posEncCount i = (if reverse = d.encReverse i then
        (if reverse then d.rd .posEncCount i - 1 else d.rd .posEncCount i + 1) else d.rd .posEncCount i) ∧
      e.encReverse i = reverse := by
  have htaken : d.takeLevels i t y = (d.setEnc i y).countEdge i t reverse := by
    have hbeq : (d.cfg .encInvert i == 1) = false := beq_eq_false_iff_ne.mpr hinvert
    cases reverse <;> simp_all only [Dev.takeLevels] <;> rfl
  have hend := d.edgeEnd_moves i t y v
  rw [htaken] at hend
  obtain ⟨hcount, hdir⟩ := (d.setEnc i y).countEdge_count i t reverse
  exact ⟨(hend.rd (by decide) i rfl).trans hcount, (Dev.encReverse_of_moves hend i rfl).trans hdir⟩

/-- An impossible edge is counted and loses the input, and the count stays. -/
theorem Dev.edge_impossible (t : Nat) (y : EncInput) (v : Bool) (hk : quadStep (d.enc i) y = 2) :
    let e := (d.takeZ i t y).edgeDone v
    e.get .posEncQuadCount i = satAdd 32 (d.get .posEncQuadCount i) 1 ∧ e.bit .posEncStatus i 31 = true ∧
      e.rd .posEncCount i = d.rd .posEncCount i := by
  have htaken : d.takeLevels i t y = d.badEdge i y := by simp [Dev.takeLevels, Dev.badEdge, hk]
  have hend := d.edgeEnd_moves i t y v
  rw [htaken] at hend
  have hlost := Dev.loseInput_moves ((d.setEnc i y).count .posEncQuadCount i) i
  refine ⟨?_, (hend.bit (by decide) i 31 rfl).trans (Dev.bit_loseInput _ i), ?_⟩
  · exact ((hend.get (by decide) i rfl).trans (hlost.get (by decide) i rfl)).trans (Dev.get_count_same (d.setEnc i y) _ i)
  · exact ((hend.rd (by decide) i rfl).trans (hlost.rd (by decide) i rfl)).trans
      (Dev.rd_wr_reg (d.setEnc i y) i i _ (by decide))

/-- A rising Z alone latches the count. -/
theorem Dev.edge_latch (t : Nat) (y : EncInput) (v : Bool) (hk : quadStep (d.enc i) y = 0) (hz : (d.enc i).z = false)
    (hy : y.z = true) : ((d.takeZ i t y).edgeDone v).rd .posEncZlatch i = d.rd .posEncCount i := by
  have htaken : d.takeZ i t y = (d.setEnc i y).latchZ i := by simp [Dev.takeZ, Dev.takeLevels, hk, hz, hy]
  rw [htaken]
  exact ((Dev.edgeDone_moves _ v).rd (by decide) i rfl).trans (Dev.rd_latchZ _ i)

/-! ### Glitches (R54) -/

/-- The glitches of an input within the millisecond before an instant. -/
def Dev.recentGlitches (time : Nat) : List Nat := (d.enc i).glitches.filter fun g => decide (time < g + 1000000000)

/-- A glitch is counted and kept. -/
def Dev.takeGlitch (time : Nat) : Dev :=
  (d.count .posEncGlitch i).setEnc i { d.enc i with glitches := time :: d.recentGlitches i time }

end

theorem exec_encGlitch (i : Fin 8) (time : Nat) (s : State) :
    exec (.encGlitch i time) s = s.run fun d =>
      if 16 < ((d.recentGlitches i.val time).length + 1) then
        (((d.at time).takeGlitch i.val time).loseInput i.val).edgeDone (d.at time).speedValid
      else (d.at time).takeGlitch i.val time := rfl

theorem Dev.glitch_lost (d : Dev) (i time : Nat) (v : Bool) :
    let e := (((d.at time).takeGlitch i time).loseInput i).edgeDone v
    e.get .posEncGlitch i = satAdd 32 (d.get .posEncGlitch i) 1 ∧ e.bit .posEncStatus i 31 = true := by
  have hdone := Dev.edgeDone_moves (((d.at time).takeGlitch i time).loseInput i) v
  refine ⟨?_, (hdone.bit (by decide) i 31 rfl).trans (Dev.bit_loseInput _ i)⟩
  exact ((hdone.get (by decide) i rfl).trans ((Dev.loseInput_moves _ i).get (by decide) i rfl)).trans
    (Dev.get_count_same (d.at time) _ i)

/-! ### Wire faults (R55) -/

theorem Dev.bit_noteWire (d : Dev) (i : Nat) :
    (d.noteWire i).bit .posEncStatus i 30 = ((d.enc i).wireA || (d.enc i).wireB || (d.enc i).wireZ) :=
  Dev.bit_setBit_same _ _ _ _ _ (by decide)

theorem EncInput.wire_of_setWire (x : EncInput) (pair : Nat) :
    ((x.setWire pair true).wireA || (x.setWire pair true).wireB || (x.setWire pair true).wireZ) = true := by
  unfold EncInput.setWire
  split
  · simp
  · split <;> simp

/-- Settles O16: an edge is the taking of its levels with a count, an impossible change or neither, then the latch, then what
follows new levels; each of them moves no more than its motion. -/
theorem encoderInputsCountAndLatch : Obligations.EncoderInputsCountAndLatch := by
  refine ⟨?levels, ?forward, ?reverse, ?impossible, ?latch, ?glitch, ?wireFault, ?wireClear, ?wireLost, ?inputReturn,
    ?standstill⟩
  case levels =>
    intro s i a b z stamp
    refine completes_of_run (exec_encEdgeQualified i a b z stamp s) ?_
    have hlevels := Dev.levels_edge (s.dev.atEdge i.val stamp) i.val (stamp / 200 * 200)
      ((s.dev.enc i.val).withLevels a b z) (s.dev.atEdge i.val stamp).speedValid
    simp only [Prod.mk.injEq] at hlevels
    exact hlevels
  case forward =>
    intro s i a b z stamp ha hb hinvert hk
    refine completes_of_run (exec_encEdgeQualified i a b z stamp s) ?_
    obtain ⟨hcount, hdir⟩ := (s.dev.atEdge i.val stamp).edge_count i.val _ _ _ false
      ((quadStep_withLevels ha hb).trans hk) hinvert
    refine ⟨hcount.trans ?_, hdir⟩
    change (if false = s.dev.encReverse i.val then _ else _) = _
    cases s.dev.encReverse i.val <;> rfl
  case reverse =>
    intro s i a b z stamp ha hb hinvert hk
    refine completes_of_run (exec_encEdgeQualified i a b z stamp s) ?_
    obtain ⟨hcount, hdir⟩ := (s.dev.atEdge i.val stamp).edge_count i.val _ _ _ true
      ((quadStep_withLevels ha hb).trans hk) hinvert
    refine ⟨hcount.trans ?_, hdir⟩
    change (if true = s.dev.encReverse i.val then _ else _) = _
    cases s.dev.encReverse i.val <;> rfl
  case impossible =>
    intro s i a b z stamp ha hb hk
    refine completes_of_run (exec_encEdgeQualified i a b z stamp s) ?_
    exact (s.dev.atEdge i.val stamp).edge_impossible i.val _ _ _ ((quadStep_withLevels ha hb).trans hk)
  case latch =>
    intro s i a b stamp hwire hz ha hb
    refine completes_of_run (exec_encEdgeQualified i a b true stamp s) ?_
    refine (s.dev.atEdge i.val stamp).edge_latch i.val _ _ _ ?_ hz ?_
    · change quadStep (s.dev.enc i.val) ((s.dev.enc i.val).withLevels a b true) = 0
      subst ha hb
      simp [quadStep, EncInput.withLevels]
    · simp [EncInput.withLevels, hwire]
  case glitch =>
    intro s i time
    refine completes_of_run (exec_encGlitch i time s) ?_
    split
    next =>
      obtain ⟨hcount, hlost⟩ := s.dev.glitch_lost i.val time (s.dev.at time).speedValid
      exact ⟨hcount, fun _ => hlost⟩
    next hfew => exact ⟨Dev.get_count_same (s.dev.at time) _ _, fun hmany => absurd (Nat.lt_succ_of_le hmany) hfew⟩
  case wireFault =>
    intro s i pair
    refine completes_of_run (f := fun d => _) rfl ?_
    have henc := Dev.enc_setEnc_same (s.dev.count .posEncWireCount i.val) i.val ((s.dev.enc i.val).setWire pair.val true)
    refine ⟨?_, henc, (Dev.bit_noteWire _ _).trans ?_⟩
    · exact (congrArg BitVec.toNat (Dev.rd_wr_reg _ _ _ _ (by decide))).trans (Dev.get_count_same s.dev _ _)
    · rw [henc, EncInput.wire_of_setWire]
  case wireClear =>
    intro s i pair level
    refine completes_of_run (f := fun d => _) rfl ?_
    have hrepeat := Dev.repeatOut_still ((s.dev.setEnc i.val (((s.dev.enc i.val).setWire pair.val false).setLevel pair.val
      level)).noteWire i.val)
    have henc := hrepeat.enc rfl i.val
    refine ⟨henc.trans (Dev.enc_setEnc_same _ _ _), ?_⟩
    rw [henc]
    exact (hrepeat.bit (by decide) i.val 30 rfl).trans (Dev.bit_noteWire _ _)
  case wireLost =>
    intro s i time hwire
    refine completes_of_run (f := fun d => _) rfl ?_
    have hset : (s.dev.at time).bit .posEncStatus i.val 30 = true := hwire
    simp only [hset, if_true]
    exact ((Dev.edgeDone_moves _ _).bit (by decide) i.val 31 rfl).trans (Dev.bit_loseInput _ i.val)
  case inputReturn =>
    intro s i
    refine completes_of_run (f := fun d => _) rfl ?_
    exact ((Dev.repeatOut_still _).bit (by decide) i.val 31 rfl).trans (Dev.bit_returnInput _ i.val)
  case standstill =>
    intro s i time
    refine completes_of_run (f := fun d => _) rfl ?_
    have henc := ((Dev.noteSpeed_moves _).enc rfl i.val).trans
      (Dev.enc_setEnc_same (s.dev.at time) i.val { (s.dev.at time).enc i.val with stamps := [], valid := false })
    exact ⟨congrArg EncInput.stamps henc, congrArg EncInput.valid henc⟩

end Sys2Proof.Machine
end

section
open Sys2Proof
namespace Sys2Proof.Machine
section
variable {M : Motion} {d e : Dev}

/-! ### Registers that a motion keeps -/

theorem Motion.holds.fireIndex (h : M.holds d e) (hs : M.spares .posFireIndex 0 64 = true) : e.fireIndex = d.fireIndex :=
  h.get (by decide) 0 hs

theorem Motion.holds.fireEn (h : M.holds d e) (hs : M.spares .posCtrl 0 1 = true) : e.fireEn = d.fireEn := h.bit (by decide) 0 0 hs

theorem PinUser.not_mem_free (u : PinUser) (us : List PinUser) : u ∉ us.filter fun x => x != u := by simp

end
section
variable (d : Dev)

/-! ### FIRE_EN (R65, R69) -/

/-- FIRE_EN marks: FIRE_EN and FIRING, no cause, no stop request, the key window closed. -/
def Dev.enableMark : Dev :=
  ((((d.setBit .posCtrl 0 0 true).setBit .posStatus 0 0 true).setFld .posStatus 0 12 4 0).stopFree .pos).setBit .secStatus 0 28
    false

/-- The index after the last one is bound to a line. -/
def Dev.enableBind (m : Int) : Dev := { d with pos := { d.pos with cmpLine := m } }.setBind (d.fireIndex + 1) m

theorem Dev.fireEnable_eq :
    d.fireEnable = ((d.enableMark.alignOther.clearBatches).enableBind d.enableLine).seekRows.notePass.joinWaiting.mirrorBind := rfl

/-- A binding, and the line that it starts from. -/
def Motion.rebound : Motion := ⟨[.cmpLine], Motion.bind.fields⟩

theorem Dev.enableBind_moves (m : Int) : Motion.rebound.holds d (d.enableBind m) :=
  ((Motion.holds_refl .rebound d).inPart .cmpLine (p := { d.pos with cmpLine := m }) rfl fun x hx => by
    cases x with
    | cmpLine => exact absurd rfl hx
    | _ => rfl).then (Dev.setBind_moves _ _ m) rfl

theorem Dev.enableBind_follows (m : Int) :
    Motion.pass.holds (d.enableBind m) (d.enableBind m).seekRows.notePass.joinWaiting.mirrorBind :=
  ((((Motion.holds_refl .pass _).beside (Dev.seekRows_beside _)).trans (Dev.notePass_moves _)).beside
    (Dev.joinWaiting_beside _)).beside (Dev.mirrorBind_beside _)

theorem Dev.enableMark_follows : Motion.inputs.holds d.enableMark d.enableMark.alignOther.clearBatches :=
  (Dev.alignOther_moves _).beside (Dev.clearBatches_beside _)

/-- What FIRE_EN marks stays to its end. -/
theorem Dev.fireEnable_follows : (⟨[.inputs, .cmpLine], Motion.bind.fields ++ Motion.pass.fields⟩ : Motion).holds d.enableMark
    d.fireEnable := by
  rw [Dev.fireEnable_eq]
  exact ((d.enableMark_follows.mono rfl).then (Dev.enableBind_moves _ d.enableLine) rfl).then (Dev.enableBind_follows _ _) rfl

/-- No stop request is left, and the key window is closed. -/
def Motion.freed : Motion := ⟨[.stopReq], [(.secStatus, 28, 1)]⟩

theorem Dev.freed_moves : Motion.freed.holds d ((d.stopFree .pos).setBit .secStatus 0 28 false) :=
  ((Motion.holds_refl .freed d).inPart .stopReq (p := (d.stopFree .pos).pos) rfl fun x hx => by
    cases x with
    | stopReq => exact absurd rfl hx
    | _ => rfl).setBit rfl

/-- FIRE_EN and FIRING set, and no cause. -/
theorem Dev.enableMark_shows :
    d.enableMark.fireEn = true ∧ d.enableMark.firing = true ∧ d.enableMark.fld .posStatus 0 12 4 = 0 := by
  have hfreed := Dev.freed_moves (((d.setBit .posCtrl 0 0 true).setBit .posStatus 0 0 true).setFld .posStatus 0 12 4 0)
  have hcause := (Motion.holds_refl ⟨[], [(.posStatus, 12, 4)]⟩ ((d.setBit .posCtrl 0 0 true).setBit .posStatus 0 0 true)).setFld
    (r := .posStatus) (k := 0) (l := 12) (w := 4) (v := 0) rfl
  have hfiring := (Motion.holds_refl ⟨[], [(.posStatus, 0, 1)]⟩ (d.setBit .posCtrl 0 0 true)).setBit
    (r := .posStatus) (k := 0) (l := 0) (v := true) rfl
  refine ⟨((hfreed.fireEn rfl).trans (hcause.fireEn rfl)).trans ((hfiring.fireEn rfl).trans ?_),
    ((hfreed.bit (by decide) 0 0 rfl).trans (hcause.bit (by decide) 0 0 rfl)).trans ?_, (hfreed.fld (by decide) 0 12 4 rfl).trans ?_⟩
  · exact Dev.bit_setBit_same d .posCtrl 0 0 true (by decide)
  · exact Dev.bit_setBit_same (d.setBit .posCtrl 0 0 true) .posStatus 0 0 true (by decide)
  · exact Dev.fld_setFld_same ((d.setBit .posCtrl 0 0 true).setBit .posStatus 0 0 true) .posStatus 0 12 4 0 (by decide)

theorem Dev.fireIndex_enableMark : d.enableMark.fireIndex = d.fireIndex := by
  have hmarked := (((Motion.holds_refl ⟨[.stopReq], [(.posCtrl, 0, 1), (.posStatus, 0, 64), (.secStatus, 28, 1)]⟩ d).setBit
    (r := .posCtrl) (k := 0) (l := 0) (v := true) rfl).setBit (r := .posStatus) (k := 0) (l := 0) (v := true) rfl).setFld
    (r := .posStatus) (k := 0) (l := 12) (w := 4) (v := 0) rfl
  exact (hmarked.then (Dev.freed_moves _) rfl).fireIndex rfl

theorem Dev.bind_enableBind (m : Int) :
    (d.enableBind m).get .posBindFire 0 = (d.fireIndex + 1) % 2 ^ 48 ∧
      (d.enableBind m).getInt .posBindLine 0 = (BitVec.ofInt 64 m).toInt := by
  refine ⟨?_, congrArg BitVec.toInt (Dev.rd_wr_same _ _ _ _)⟩
  refine (congrArg BitVec.toNat (Dev.rd_wr_reg _ 0 0 _ (by decide))).trans ((Dev.get_put_same _ .posBindFire 0 _).trans ?_)
  omega

/-! ### Commits of scheduled fires (R68, R73) -/

theorem Dev.takeFire_takes (tF : Nat) (tQ : Option Nat) (reverse : Bool) :
    let e := d.takeFire tF tQ reverse
    e.get .posFireIndex 0 = (d.fireIndex + 1) % 2 ^ 64 ∧
      e.pos.cmpLine = d.pos.cmpLine + (if reverse then -1 else 1) ∧ e.pos.fires.head? = some (d.nextFire tF tQ reverse) := by
  refine ⟨?_, ?_, rfl⟩
  · exact ((d.indexFire_follows tF _).get (by decide) 0 rfl).trans (Dev.get_put_same _ _ _ _)
  · cases reverse
    · rfl
    · exact Int.sub_eq_add_neg

/-- A commit and what FIRE_COMMIT does after it, from the fire taken on. -/
theorem Dev.commit_follows (tF : Nat) (reverse : Bool) (was : Nat) (hweb : d.scanning = false) :
    Motion.commitEnd.holds (d.takeFire tF none reverse) ((d.commitFire tF none reverse).lineMoved.afterFires was) :=
  ((d.commitFire_follows tF none reverse hweb).beside (Dev.lineMoved_beside _)).beside (Dev.afterFires_beside _ was)

/-- What a commit leaves: the next index, the fire recorded and the compare value a line on. -/
theorem Dev.commit_records (tF : Nat) (reverse : Bool) (was : Nat) (hweb : d.scanning = false) :
    let e := (d.commitFire tF none reverse).lineMoved.afterFires was
    e.get .posFireIndex 0 = (d.fireIndex + 1) % 2 ^ 64 ∧ e.pos.cmpLine = d.pos.cmpLine + (if reverse then -1 else 1) ∧
      e.pos.fires.head? =
        some { index := d.fireIndex + 1, tF := tF, tQ := none, line := d.pos.cmpLine, reverse := reverse, pass := 0 } ∧
      e.get .posDeferCount 0 = d.get .posDeferCount 0 ∧ e.bit .posStatus 0 7 = d.bit .posStatus 0 7 := by
  have hend := d.commit_follows tF reverse was hweb
  have hindex := d.indexFire_moves tF (Option.isSome (none : Option Nat) || decide (d.commitOf tF < d.now))
  obtain ⟨hfire, hline, hhead⟩ := d.takeFire_takes tF none reverse
  have hnext : d.nextFire tF none reverse =
      { index := d.fireIndex + 1, tF := tF, tQ := none, line := d.pos.cmpLine, reverse := reverse, pass := 0 } := by
    simp [Dev.nextFire, hweb]
  exact ⟨(hend.get (by decide) 0 rfl).trans hfire, (hend.keeps .cmpLine rfl).trans hline,
    (congrArg List.head? (hend.keeps .fires rfl)).trans (hnext ▸ hhead),
    (hend.get (by decide) 0 rfl).trans (hindex.get (by decide) 0 rfl), (hend.bit (by decide) 0 7 rfl).trans (hindex.bit (by decide) 0 7 rfl)⟩

variable {d}

theorem exec_fireCommit {s : State} {b : PosBase} (hdirect : s.dev.directMode = false) (hfire : s.dev.canFire = some b) :
    exec .fireCommit s = s.run fun d =>
      ((d.at (d.commitOf (d.dueAt (b.fireAt d.pos.cmpLine)))).makeFire b (b.fireAt d.pos.cmpLine) none).lineMoved.afterFires
        d.fireIndex := by
  change execFireCommit s = _
  simp [execFireCommit, Dev.scheduledFire, hdirect, hfire]

/-- A fire that is due at its own instant is not deferred. -/
theorem Dev.makeFire_due {b : PosBase} {tF : Nat} (hdue : d.dueAt tF = tF) : d.makeFire b tF none = d.commitFire tF none b.reverse := by
  unfold Dev.makeFire
  unfold Dev.dueAt at hdue
  split
  next x hx => rw [if_neg (by simp only [hx] at hdue; omega)]
  next => rfl

theorem Dev.makeFire_deferred {b : PosBase} {tF : Nat} {x : Fire} (hx : d.pos.fires.head? = some x) (hearly : tF < x.tF + 5000000)
    (hlag : b.lagQ12 (x.tF + 5000000 - tF) ≤ d.cfg .ovsLagQ12 0) :
    d.makeFire b tF none = d.noteDeferral.commitFire (x.tF + 5000000) none b.reverse := by
  simp only [Dev.makeFire, hx]
  rw [if_pos hearly, if_neg (Nat.not_lt.mpr hlag)]

/-- A deferral is counted, and shows in OVERSPEED. -/
theorem Dev.noteDeferral_counts (d : Dev) :
    d.noteDeferral.get .posDeferCount 0 = satAdd 32 (d.get .posDeferCount 0) 1 ∧ d.noteDeferral.bit .posStatus 0 7 = true := by
  have hcount := Dev.get_count_same d .posDeferCount 0
  have hbit : (d.count .posDeferCount 0).bit .posStatus 0 7 = d.bit .posStatus 0 7 :=
    congrArg (fun v => bits v 7 1 == 1) (congrArg BitVec.toNat (Dev.rd_wr_reg d 0 0 _ (by decide)))
  unfold Dev.noteDeferral
  dsimp only
  split
  next hover => exact ⟨hcount, hbit.trans hover⟩
  next =>
    have hraised := (((Motion.holds_refl .still ((d.count .posDeferCount 0).setBit .posStatus 0 7 true)).beside
      (Dev.event_beside (r := .posEvent) _ 0 0 rfl)).beside (Dev.raise_beside _ .posOverspeed 0)).trans (Dev.speedReq_still _ .pos)
    exact ⟨((hraised.get (by decide) 0 rfl).trans (congrArg BitVec.toNat (Dev.rd_wr_reg _ 0 0 _ (by decide)))).trans hcount,
      (hraised.bit (by decide) 0 7 rfl).trans (Dev.bit_setBit_same _ _ _ _ _ (by decide))⟩

/-! ### Stops -/

/-- Dead reckoning ends: the position stays where it is (R84). -/
def Dev.holdPosition (d : Dev) : Dev :=
  { d with pos := { d.pos with dr := none, frozen := some (d.linePos d.now) } }.setBit .posStatus 0 8 false

/-- The end of dead reckoning is shown and raised. -/
def Dev.endReckoning (d : Dev) : Dev := (d.holdPosition.event .posEvent 0 6).raise .posDeadreckEnd 0

theorem Dev.deadReckonEnd_eq {b : PosBase} (h : d.pos.dr = some b) :
    d.deadReckonEnd = (((d.endReckoning.stopFiring 2).each d.endReckoning.encUsed Dev.forgetSpeed).noteSpeed).takeHeld := by
  simp only [Dev.deadReckonEnd, h]
  rfl

theorem Dev.endReckoning_beside (d : Dev) : Beside d.holdPosition d.endReckoning :=
  (Dev.event_beside (r := .posEvent) d.holdPosition 0 6 rfl).trans (Dev.raise_beside _ .posDeadreckEnd 0)

/-- After the stop, the end of dead reckoning moves the inputs and the source. -/
theorem Dev.deadReckonEnd_follows {b : PosBase} (h : d.pos.dr = some b) :
    Motion.regain.holds (d.endReckoning.stopFiring 2) d.deadReckonEnd.repeatOut := by
  rw [Dev.deadReckonEnd_eq h]
  exact ((((Motion.holds_refl .regain _).each fun e n he => he.then (e.forgetSpeed_moves n) rfl).then (Dev.noteSpeed_moves _)
    rfl).trans (Dev.takeHeld_moves _)).then (Dev.repeatOut_still _) rfl

theorem ite_cause_mod {c : Prop} [Decidable c] {n : Nat} (hn : n < 16) : (if c then 4 else n) % 16 = if c then 4 else n := by
  split <;> omega

theorem Dev.noteFiring_stops (hen : d.fireEn = false) (hpast : ((d.pos.fires.head?.map fun f => f.tF).getD 0) ≤ d.now) :
    d.noteFiring.firing = false := by
  have hlast : (match d.pos.fires with | [] => 0 | f :: _ => f.tF) ≤ d.now := by
    revert hpast
    cases d.pos.fires <;> exact id
  have hended : d.noteFiring = (d.setBit .posStatus 0 0 false).issueSpoils.foldAll := by
    unfold Dev.noteFiring
    exact (if_neg (by simp [hen])).trans (if_pos hlast)
  rw [hended]
  exact ((((Motion.holds_refl .still _).beside (Dev.issueSpoils_beside _)).beside (Dev.foldAll_beside _)).bit (by decide) 0 0
    rfl).trans (Dev.bit_setBit_same _ _ _ _ _ (by decide))

end

/-- Settles O17: FIRE_EN, a commit and a stop each mark the registers and the state first; what they run after that moves
none of it. -/
theorem firesAreCommittedAndStopped : Obligations.FiresAreCommittedAndStopped := by
  refine ⟨?refused, ?enabled, ?committed, ?deferred, ?disabled, ?reckoned, ?cleared, ?fired, ?released⟩
  case refused =>
    intro s req er h
    change execFireEn req s = _
    simp [execFireEn, h]
  case enabled =>
    intro s req hallowed hen
    have hexec : exec (.fireEn req) s = s.run Dev.fireEnable := by
      change execFireEn req s = _
      simp [execFireEn, hallowed, hen]
    refine completes_of_run hexec ?_
    have hmark := s.dev.fireEnable_follows
    have hbind := Dev.enableBind_follows s.dev.enableMark.alignOther.clearBatches s.dev.enableLine
    have hindex : s.dev.enableMark.alignOther.clearBatches.fireIndex = s.dev.fireIndex :=
      (s.dev.enableMark_follows.fireIndex rfl).trans s.dev.fireIndex_enableMark
    obtain ⟨hfire, hline⟩ := Dev.bind_enableBind s.dev.enableMark.alignOther.clearBatches s.dev.enableLine
    obtain ⟨hon, hfiring, hcause⟩ := s.dev.enableMark_shows
    refine ⟨(hmark.fireEn rfl).trans hon, (hmark.bit (by decide) 0 0 rfl).trans hfiring,
      (hmark.fireIndex rfl).trans s.dev.fireIndex_enableMark, hbind.keeps .cmpLine rfl,
      (hbind.get (by decide) 0 rfl).trans (hindex ▸ hfire),
      (congrArg BitVec.toInt (hbind.rd (by decide) 0 rfl)).trans hline,
      (hmark.fld (by decide) 0 12 4 rfl).trans hcause,
      (hmark.bit (by decide) 0 28 rfl).trans (Dev.bit_setBit_same _ _ _ _ _ (by decide)), fun hmem => ?_⟩
    exact PinUser.not_mem_free .pos _ ((hmark.keeps .stopReq rfl : _ = _) ▸ hmem)
  case committed =>
    intro s b hdirect hweb hfire hdue
    refine completes_of_run (exec_fireCommit hdirect hfire) ?_
    have hmake : ∀ t, (s.dev.at t).makeFire b (b.fireAt s.dev.pos.cmpLine) none =
        (s.dev.at t).commitFire (b.fireAt s.dev.pos.cmpLine) none b.reverse := fun t => Dev.makeFire_due hdue
    rw [hmake]
    obtain ⟨hindex, hline, hhead, hcount, -⟩ := Dev.commit_records
      (s.dev.at (s.dev.commitOf (s.dev.dueAt (b.fireAt s.dev.pos.cmpLine)))) (b.fireAt s.dev.pos.cmpLine) b.reverse
      s.dev.fireIndex hweb
    exact ⟨hindex, hline, hhead, hcount⟩
  case deferred =>
    intro s b x hdirect hweb hfire hx hearly hlag
    refine completes_of_run (exec_fireCommit hdirect hfire) ?_
    have hmake : ∀ t, (s.dev.at t).makeFire b (b.fireAt s.dev.pos.cmpLine) none =
        (s.dev.at t).noteDeferral.commitFire (x.tF + 5000000) none b.reverse := fun t => Dev.makeFire_deferred hx hearly hlag
    rw [hmake]
    generalize ht : s.dev.commitOf (s.dev.dueAt (b.fireAt s.dev.pos.cmpLine)) = t
    have hdefer := Dev.noteDeferral_moves (s.dev.at t)
    obtain ⟨hcount, hover⟩ := Dev.noteDeferral_counts (s.dev.at t)
    obtain ⟨hindex, -, hhead, hcount', hover'⟩ := Dev.commit_records (s.dev.at t).noteDeferral (x.tF + 5000000) b.reverse
      s.dev.fireIndex (hdefer.scanning.trans hweb)
    have hsame : (s.dev.at t).noteDeferral.fireIndex = s.dev.fireIndex := hdefer.fireIndex rfl
    have hline : (s.dev.at t).noteDeferral.pos.cmpLine = s.dev.pos.cmpLine := hdefer.keeps .cmpLine rfl
    rw [hsame] at hindex hhead
    rw [hline] at hhead
    exact ⟨hindex, hover'.trans hover, hcount'.trans hcount, hhead⟩
  case disabled =>
    intro s req hactive hen
    have hexec : exec (.fireDisable req) s = s.run fun d => d.stopFiring 0 := by
      change execFireDisable req s = _
      simp [execFireDisable, hactive, hen]
    refine completes_of_run hexec ⟨s.dev.fireEn_stopFiring 0, ?_, (s.dev.stopFiring_moves 0).fireIndex rfl⟩
    exact (s.dev.cause_stopFiring 0).trans (ite_cause_mod (by decide))
  case reckoned =>
    intro s time b hdr
    refine completes_of_run (f := fun d => (d.at time).deadReckonEnd.repeatOut) rfl ?_
    have hdr' : (s.dev.at time).pos.dr = some b := hdr
    have hafter := Dev.deadReckonEnd_follows hdr'
    have hstop := (s.dev.at time).endReckoning.stopFiring_moves 2
    have hend := (Motion.holds_refl .still _).beside (s.dev.at time).endReckoning_beside
    refine ⟨?_, (hafter.fireEn rfl).trans (Dev.fireEn_stopFiring _ 2), ?_, ?_⟩
    · exact ((hafter.keeps .dr rfl).trans (hstop.keeps .dr rfl)).trans (hend.keeps .dr rfl)
    · refine ((hafter.fld (by decide) 0 12 4 rfl).trans (Dev.cause_stopFiring _ 2)).trans ?_
      rw [(s.dev.at time).endReckoning_beside.pos]
      exact ite_cause_mod (by decide)
    · exact (((hafter.bit (by decide) 0 8 rfl).trans (hstop.bit (by decide) 0 8 rfl)).trans (hend.bit (by decide) 0 8 rfl)).trans
        (Dev.bit_setBit_same _ _ _ _ _ (by decide))
  case cleared =>
    intro s hdr hended
    have hexec : exec .stopClr s = s.run fun d => (d.setFld .posStatus 0 12 4 0).stopFree .pos := by
      change execStopClr s = _
      simp [execStopClr, hdr, hended]
    refine completes_of_run hexec ⟨Dev.fld_setFld_same s.dev _ _ _ _ _ (by decide), PinUser.not_mem_free .pos _, ?_⟩
    exact congrArg (· == 1) (Dev.fld_setFld_reg s.dev 0 0 12 4 _ 0 1 (by decide))
  case fired =>
    intro s time hen hpast
    exact completes_of_run (f := fun d => (d.at time).noteFiring) rfl (Dev.noteFiring_stops hen (hpast.trans (Nat.le_max_right _ _)))
  case released =>
    intro s time
    exact completes_of_run (f := fun d => ((d.at time).setBit .posStatus 0 7 false).speedFree .pos) rfl
      ⟨Dev.bit_setBit_same (s.dev.at time) _ _ _ _ (by decide), PinUser.not_mem_free .pos _⟩

end Sys2Proof.Machine
end

section
open Sys2Proof
namespace Sys2Proof.Machine

/-! ### The position of a controller beside another one (R64) -/

section
variable {d e : Dev}

theorem Beside.cfg (h : Beside d e) (f : Field) (k : Nat) : e.cfg f k = d.cfg f k := by rw [Dev.cfg, Dev.cfg, h.img]

theorem Beside.get (h : Beside d e) {r : Reg} (hr : r ∈ positionRegs) (k : Nat) : e.get r k = d.get r k :=
  congrArg BitVec.toNat (h.rd r hr k)

theorem Beside.fld (h : Beside d e) {r : Reg} (hr : r ∈ positionRegs) (k l w : Nat) : e.fld r k l w = d.fld r k l w :=
  congrArg (bits · l w) (h.get hr k)

theorem Beside.bit (h : Beside d e) {r : Reg} (hr : r ∈ positionRegs) (k i : Nat) : e.bit r k i = d.bit r k i :=
  congrArg (· == 1) (h.fld hr k i 1)

theorem Beside.foldl {α : Type} {f : Dev → α → Dev} (xs : List α) (h : Beside d e) (hf : ∀ e x, Beside e (f e x)) :
    Beside d (xs.foldl f e) := by
  induction xs generalizing e with
  | nil => exact h
  | cons x xs ih => exact ih (h.trans (hf e x))

theorem Beside.enc (h : Beside d e) (i : Nat) : e.enc i = d.enc i := by rw [Dev.enc, Dev.enc, h.pos]

theorem Beside.encCount (h : Beside d e) (i : Nat) : e.encCount i = d.encCount i :=
  congrArg BitVec.toInt (h.rd .posEncCount (by decide) i)

theorem Beside.encBase (h : Beside d e) (i : Nat) : e.encBase i = d.encBase i := by
  have hreverse : e.encReverse i = d.encReverse i := h.bit (by decide) i 27
  simp only [Dev.encBase, Dev.encSpeed, Dev.cplOf, h.enc, h.cfg, h.encCount, hreverse]

theorem Beside.linePos (h : Beside d e) (t : Nat) : e.linePos t = d.linePos t := by
  have hsrc : e.actSrc = d.actSrc := h.fld (by decide) 0 4 3
  simp only [Dev.linePos, Dev.encPos, Dev.cplOf, hsrc, h.pos, h.encBase, h.cfg, h.encCount, h.enc]

theorem Dev.linePos_noteTrack (d : Dev) (t : Nat) : d.noteTrack.linePos t = d.linePos t := rfl

/-! ### ZERO -/

theorem linesOf_zero (cpl : Nat) : linesOf cpl 0 = 0 := by simp [linesOf]

theorem countsOf_zero (cpl : Nat) : countsOf cpl 0 = 0 := by simp [countsOf]

/-- P of an input at an instant in 2^-32 count, before its origin is taken off. -/
def Dev.encHere (d : Dev) (i t : Nat) : Int :=
  match d.encBase i with
  | some b => b.clamped t
  | none => d.encCount i * 2 ^ 32

theorem Dev.alignTo_eq (d : Dev) (i t : Nat) (p : Int) :
    d.alignTo i t p = d.setEnc i { d.enc i with origin := d.encHere i t - countsOf (d.cplOf i) p } := rfl

theorem Dev.encPos_eq (d : Dev) (i t : Nat) : d.encPos i t = linesOf (d.cplOf i) (d.encHere i t - (d.enc i).origin) := by
  unfold Dev.encPos Dev.encHere Dev.encBase
  cases d.encSpeed i <;> rfl

/-- The origin of an input does not enter P. -/
theorem Dev.encHere_alignTo (d : Dev) (i t : Nat) (p : Int) : (d.alignTo i t p).encHere i t = d.encHere i t := by
  have hspeed : (d.alignTo i t p).encSpeed i = d.encSpeed i := by
    simp only [Dev.encSpeed, Dev.alignTo, Dev.enc_setEnc_same]
    rfl
  unfold Dev.encHere Dev.encBase
  rw [hspeed, Dev.alignTo, Dev.enc_setEnc_same]
  cases d.encSpeed i <;> rfl

/-- An input aligned to 0 reads 0. -/
theorem Dev.encPos_alignTo_zero (d : Dev) (i t : Nat) : (d.alignTo i t 0).encPos i t = 0 := by
  rw [Dev.encPos_eq, Dev.encHere_alignTo, Dev.alignTo_eq, Dev.enc_setEnc_same, countsOf_zero, Int.sub_zero, Int.sub_self,
    linesOf_zero]

/-- ZERO: the input, dead reckoning and the position held each start from here. -/
def Dev.zeroed (d : Dev) : Dev :=
  let d1 := d.alignTo d.actSrc d.now 0
  { d1 with pos := { d1.pos with frozen := d1.pos.frozen.map fun _ => 0,
                                 dr := d1.pos.dr.map fun b => { b with origin := b.free d.now } } }

theorem Dev.linePos_zeroed (d : Dev) : d.zeroed.linePos d.now = 0 := by
  cases hdr : d.pos.dr with
  | some b =>
    have h : d.zeroed.pos.dr = some { b with origin := b.free d.now } := congrArg (Option.map _) hdr
    simp only [Dev.linePos, h]
    exact (congrArg (linesOf b.cpl) (Int.sub_self _)).trans (linesOf_zero _)
  | none =>
    have h : d.zeroed.pos.dr = none := congrArg (Option.map _) hdr
    cases hfrozen : d.pos.frozen with
    | some p =>
      have hf : d.zeroed.pos.frozen = some 0 := congrArg (Option.map _) hfrozen
      simp only [Dev.linePos, h, hf]
    | none =>
      have hf : d.zeroed.pos.frozen = none := congrArg (Option.map _) hfrozen
      simp only [Dev.linePos, h, hf]
      exact d.encPos_alignTo_zero d.actSrc d.now

end

/-! ### The echo exchange of a port (R79) -/

/-- An operation whose reach does not name the ports' links leaves them. -/
theorem Dev.lnk_of_reach {x : Reach} {d e : Dev} (hx : x.apart = true) (hl : x.areas.contains .lnk = false)
    (h : x.within (x.footprint d) d → (x.footprint d).holds d e) : e.lnk = d.lnk := by
  obtain ⟨hareas, -⟩ := h (Reach.within_footprint hx (List.Subset.refl _) (List.Subset.refl _))
  exact hareas .lnk fun hin => by simp_all [Reach.footprint, Footprint.of]

section
variable (d : Dev) (n : Nat)

theorem Dev.port_setPort_same (x : PortLink) : (d.setPort n x).port n = x := Tab.get_set_same ..

theorem Dev.lnk_clearPort : (d.clearPort n).lnk = d.lnk :=
  Dev.lnk_of_reach (x := clearPortReach) rfl rfl (Footprint.holds_refl _ d).clearPort

theorem Dev.lnk_setLink (st : Nat) : (d.setLink n st).lnk = d.lnk :=
  Dev.lnk_of_reach (x := setLinkReach none) rfl rfl fun h => (Footprint.holds_refl _ d).setLink h .any

theorem Dev.lnk_headWords (type seq : Nat) (body : List Nat) : (d.headWords n type seq body).lnk = d.lnk :=
  Dev.lnk_of_reach (x := headWordsReach) rfl rfl (Footprint.holds_refl _ d).headWords

theorem Dev.port_of_lnk {e : Dev} (h : e.lnk = d.lnk) : e.port n = d.port n := by rw [Dev.port, Dev.port, h]

/-- A port's link set by an operation that leaves the links otherwise. -/
theorem Dev.echo_of_setPort {e : Dev} {x : PortLink} {v : Option (EchoUse × List (Nat × Nat))} (h : e.lnk = (d.setPort n x).lnk)
    (hx : x.echo = v) : (e.port n).echo = v := by
  rw [Dev.port_of_lnk _ n h, Dev.port_setPort_same, hx]

theorem Dev.echo_headSend (type : Nat) (body : List Nat) : ((d.headSend n type body).port n).echo = (d.port n).echo := by
  rw [Dev.headSend]
  exact Dev.echo_of_setPort d n (Dev.lnk_headWords ..) rfl

theorem Dev.echo_ite {c : Prop} [Decidable c] {a b : Dev} {n : Nat} {v : Option (EchoUse × List (Nat × Nat))}
    (ha : (a.port n).echo = v) (hb : (b.port n).echo = v) : ((if c then a else b).port n).echo = v := by
  split
  · exact ha
  · exact hb

theorem Dev.echo_maskFault : ((d.maskFault n).port n).echo = (d.port n).echo :=
  Dev.echo_ite (Dev.echo_of_setPort d n (Dev.lnk_clearPort ..) rfl)
    (Dev.echo_ite (Dev.echo_of_setPort d n (Dev.lnk_clearPort ..) rfl) rfl)

theorem Dev.echo_maskUnfit : ((d.maskUnfit n).port n).echo = (d.port n).echo := by
  unfold Dev.maskUnfit
  split
  · have hlink : (((d.maskFault n).setLink n 3).port n).echo = (d.port n).echo := by
      rw [Dev.port_of_lnk _ n (Dev.lnk_setLink ..), Dev.echo_maskFault]
    exact Dev.echo_of_setPort _ n ((Dev.setFld_lnk ..).trans (Dev.setFld_lnk ..)) hlink
  · rfl

theorem Dev.port_storePd (pd : Nat) : (d.storePd n pd).port n = d.port n := by
  unfold Dev.storePd
  dsimp only
  split <;> rfl

/-- The end of an echo exchange closes it. -/
theorem Dev.echo_echoDone {u : EchoUse} {got : List (Nat × Nat)} (h : (d.port n).echo = some (u, got)) :
    ((d.echoDone n).port n).echo = none := by
  have hclosed : (((d.setPort n { d.port n with echo := none }).headSend n 0x07 [0]).port n).echo = none := by
    rw [Dev.echo_headSend, Dev.port_setPort_same]
  simp only [Dev.echoDone, h]
  generalize (d.setPort n { d.port n with echo := none }).headSend n 0x07 [0] = e at hclosed ⊢
  have hstored (pd : Nat) : (((e.storePd n pd).maskUnfit n).port n).echo = none := by
    rw [Dev.echo_maskUnfit, Dev.port_storePd, hclosed]
  refine Dev.echo_ite ((Dev.echo_maskUnfit _ n).trans hclosed) ?_
  split
  · exact Dev.echo_ite hclosed (hstored _)
  · exact hstored _

/-! ### Calibration (R79) -/

/-- The ports with a linked C2 or C3 head. -/
def Dev.calPorts : List Nat := (d.portsIn [3, 4, 5]).filter fun n => decide (2 ≤ d.fld .linkStatus n 27 2)

/-- Ports measure their delays while CAL is set. -/
def Dev.calibrate (ports : List Nat) : Dev :=
  ({ d with pos := { d.pos with calWait := ports } }.setBit .posCtrl 0 3 true).each ports fun d n => d.startEcho n .calibration

theorem Dev.calibrate_marks (ports : List Nat) :
    (d.calibrate ports).bit .posCtrl 0 3 = true ∧ (d.calibrate ports).pos.calWait = ports := by
  have hasked : Beside ({ d with pos := { d.pos with calWait := ports } }.setBit .posCtrl 0 3 true) (d.calibrate ports) :=
    (Beside.refl _).foldl ports fun e n => e.startEcho_beside n .calibration
  exact ⟨(hasked.bit (by decide) 0 3).trans (Dev.bit_setBit_same _ .posCtrl 0 3 true (by decide)),
    congrArg PosState.calWait hasked.pos⟩

/-- No port waits, and CAL is clear. -/
def Dev.endCal : Dev := { d with pos := { d.pos with calWait := [] } }.setBit .posCtrl 0 3 false

theorem Dev.bit_event_same (r : Reg) (k i : Nat) (h : i < 64) : (d.event r k i).bit r k i = true := by
  rw [Dev.event, Dev.bit, Dev.fld, Dev.get, Dev.rd_refreshEvent_self]
  exact Dev.bit_setBit_same d r k i true h

theorem Dev.endCal_ends : (d.endCal.event .posEvent 0 8).bit .posCtrl 0 3 = false ∧
    (d.endCal.event .posEvent 0 8).pos.calWait = [] ∧ (d.endCal.event .posEvent 0 8).bit .posEvent 0 8 = true := by
  have hevent := Dev.event_beside (r := .posEvent) d.endCal 0 8 rfl
  exact ⟨(hevent.bit (by decide) 0 3).trans (Dev.bit_setBit_same _ .posCtrl 0 3 false (by decide)),
    congrArg PosState.calWait hevent.pos, Dev.bit_event_same _ _ _ _ (by decide)⟩

/-! ### Port delays (R79, R80) -/

theorem Dev.storePd_stores (pd : BitVec 16) :
    (d.storePd n pd.toNat).fld .posPortDelay n 0 16 = pd.toNat ∧ (d.storePd n pd.toNat).bit .posPortDelay n 31 = true := by
  have hpd : pd.toNat < 65536 := pd.isLt
  have hput (b : Nat) (hb : b = 0 ∨ b = 2 ^ 30) :
      bits ((d.put .posPortDelay n (2 ^ 31 + b + pd.toNat % 65536)).get .posPortDelay n) 0 16 = pd.toNat ∧
        (bits ((d.put .posPortDelay n (2 ^ 31 + b + pd.toNat % 65536)).get .posPortDelay n) 31 1 == 1) = true := by
    rw [Dev.get_put_same]
    simp only [bits, beq_iff_eq]
    omega
  unfold Dev.storePd
  dsimp only
  cases d.pdOutside (pd.toNat % 65536)
  · exact hput 0 (.inl rfl)
  · exact hput (2 ^ 30) (.inr rfl)

/-! ### Passes (R70, R99) -/

/-- PASS_ARM takes the pass: as the current one if there is none, else as the armed one. -/
def Dev.takePass (p : Pass) : Dev :=
  if d.pos.curPass.isNone then d.startPass p else { d with pos := { d.pos with armedPass := some p } }.notePass

theorem Dev.curPass_startPass (p : Pass) : (d.startPass p).pos.curPass = some p ∧ (d.startPass p).pos.armedPass = none := by
  unfold Dev.startPass
  dsimp only
  split
  · exact ⟨rfl, rfl⟩
  · exact ⟨rfl, rfl⟩

theorem Dev.takePass_takes (p : Pass) :
    if d.pos.curPass.isNone then (d.takePass p).pos.curPass = some p ∧ (d.takePass p).pos.armedPass = none
    else (d.takePass p).pos.curPass = d.pos.curPass ∧ (d.takePass p).pos.armedPass = some p := by
  unfold Dev.takePass
  split
  · exact d.curPass_startPass p
  · exact ⟨rfl, rfl⟩

theorem Dev.takePass_moves (p : Pass) : Motion.fire.holds d (d.takePass p) :=
  (d.startPass_moves p).ite (((Motion.holds_refl .fire d).inPasses (p := d.pos.curPass) (q := some p)).then (Dev.notePass_moves _) rfl)

/-- The pass of the staging registers. -/
def Dev.stagedPass : Pass :=
  { lo := d.getInt .posPassLo 0, hi := d.getInt .posPassHi 0, reverse := d.bit .posPassCtrl 0 0, number := d.get .cmpPassNext 0 }

/-- PASS_ARM with no pass armed: the next number, the lock for the pass, and the pass. -/
def Dev.armPass (p : Pass) : Dev :=
  (((d.put .cmpPassNext 0 ((p.number + 1) % 2 ^ 48)).lockPass p.number p.reverse).takePass p).mirrorBind

theorem Dev.armPass_takes (p : Pass) :
    if d.pos.curPass.isNone then (d.armPass p).pos.curPass = some p ∧ (d.armPass p).pos.armedPass = none
    else (d.armPass p).pos.curPass = d.pos.curPass ∧ (d.armPass p).pos.armedPass = some p := by
  have hlock := Dev.lockPass_beside (d.put .cmpPassNext 0 ((p.number + 1) % 2 ^ 48)) p.number p.reverse
  have htaken := ((d.put .cmpPassNext 0 ((p.number + 1) % 2 ^ 48)).lockPass p.number p.reverse).takePass_takes p
  rw [hlock.pos] at htaken
  rw [Dev.armPass, (Dev.mirrorBind_beside _).pos]
  exact htaken

theorem Dev.get_armPass (p : Pass) : (d.armPass p).get .cmpPassNext 0 = (p.number + 1) % 2 ^ 48 := by
  rw [Dev.armPass, (Dev.mirrorBind_beside _).get (by decide), (Dev.takePass_moves _ p).get (by decide) 0 rfl,
    (Dev.lockPass_beside _ _ _).get (by decide), Dev.get_put_same]
  omega

end

/-- Settles O18: ZERO starts every source of the position from here; a calibration, a refresh, a port delay and a pass each
set what is named, and what they run beside it leaves that. -/
theorem positionZeroDelaysAndPasses : Obligations.PositionZeroDelaysAndPasses := by
  refine ⟨?zero, ?cal, ?calDone, ?refreshDone, ?delay, ?delayRefused, ?pass, ?passRefused⟩
  case zero =>
    intro s req hidle
    have hexec : exec (.zero req) s = s.run fun d => d.zeroed.noteTrack.mirrorBind := by
      change execZero req s = _
      simp only [execZero, State.run_eq, hidle, Bool.false_eq_true, if_false]
      rfl
    refine completes_of_run hexec ?_
    rw [(Dev.mirrorBind_beside _).linePos, Dev.linePos_noteTrack, Dev.linePos_zeroed]
  case cal =>
    intro s req hidle
    have hexec : exec (.cal req) s = s.run fun d => d.calibrate d.calPorts := by
      change execCal req s = _
      simp only [execCal, State.run_eq, hidle, Bool.false_eq_true, if_false]
      rfl
    exact completes_of_run hexec (s.dev.calibrate_marks s.dev.calPorts)
  case calDone =>
    intro s hcal
    have hexec : exec .calDone s = s.run fun d => (d.each d.pos.calWait Dev.echoDone).endCal.event .posEvent 0 8 := by
      change execCalDone s = _
      simp only [execCalDone, State.run_eq, hcal, if_true]
      rfl
    exact completes_of_run hexec (Dev.endCal_ends _)
  case refreshDone =>
    intro s port got hecho
    have hexec : exec (.pdRefreshDone port) s = s.run fun d => d.echoDone port.val := by
      change execPdRefreshDone port s = _
      simp only [execPdRefreshDone, State.run_eq, hecho]
    exact completes_of_run hexec (s.dev.echo_echoDone port.val hecho)
  case delay =>
    intro s req port pd hidle
    have hexec : exec (.portDelayWrite req port pd) s = s.run fun d => (d.storePd port.val pd.toNat).maskUnfit port.val := by
      change execPortDelayWrite req port pd s = _
      simp [execPortDelayWrite, hidle]
    refine completes_of_run hexec ?_
    have hmask := Dev.maskUnfit_beside (s.dev.storePd port.val pd.toNat) port.val
    obtain ⟨hpd, hvalid⟩ := s.dev.storePd_stores port.val pd
    exact ⟨(hmask.fld (by decide) port.val 0 16).trans hpd, (hmask.bit (by decide) port.val 31).trans hvalid⟩
  case delayRefused =>
    intro s req port pd hfiring
    change execPortDelayWrite req port pd s = _
    simp [execPortDelayWrite, hfiring]
  case pass =>
    intro s req hnone
    have hexec : exec (.passArm req) s = s.run fun d => d.armPass d.stagedPass := by
      change execPassArm req s = _
      simp only [execPassArm, State.run_eq, hnone, Option.isSome_none, Bool.false_eq_true, if_false]
      rfl
    exact completes_of_run hexec ⟨s.dev.armPass_takes s.dev.stagedPass, s.dev.get_armPass s.dev.stagedPass⟩
  case passRefused =>
    intro s req hbusy
    change execPassArm req s = _
    simp [execPassArm, hbusy]

end Sys2Proof.Machine
end

section
open Sys2Proof
namespace Sys2Proof.Machine

/-! ### The compositor beside what an operation reaches -/

/-- An operation whose reach does not name the compositor leaves it. -/
theorem Dev.cmp_of_reach {x : Reach} {d e : Dev} (hx : x.apart = true) (hc : x.areas.contains .cmp = false)
    (h : x.within (x.footprint d) d → (x.footprint d).holds d e) : e.cmp = d.cmp := by
  obtain ⟨hareas, -⟩ := h (Reach.within_footprint hx (List.Subset.refl _) (List.Subset.refl _))
  exact hareas .cmp fun hin => by simp_all [Reach.footprint, Footprint.of]

/-- An operation leaves every register that its reach does not name. -/
theorem Dev.get_of_reach {x : Reach} {d e : Dev} {r : Reg} (hx : x.apart = true) (hr : x.regs.contains r = false)
    (h : x.within (x.footprint d) d → (x.footprint d).holds d e) (k : Nat) : e.get r k = d.get r k := by
  obtain ⟨-, htouched, -⟩ := h (Reach.within_footprint hx (List.Subset.refl _) (List.Subset.refl _))
  refine congrArg BitVec.toNat (BitVec.eq_of_getLsbD_eq fun b _ => htouched r k b (List.all_eq_true.mpr fun t ht => ?_))
  obtain ⟨q, hmem, rfl⟩ := List.mem_map.mp ht
  have hne : q ≠ r := by
    rintro rfl
    simp_all
  simp [Touch.covers_all, hne]

section
variable {F : Footprint} {d e : Dev}

def sendFeedReach : Reach := .of [casSendReach]

theorem Footprint.holds.sendFeed {x : StoreCopy} (he : F.holds d e) (h : sendFeedReach.within F d) :
    F.holds d (e.sendFeed x) := by
  obtain ⟨hcasSend, -⟩ := h
  refine holds_ite he ?_
  cases x.body with
  | block b => exact he.casSend hcasSend
  | _ => exact he.casSend hcasSend

def storeCopyReach : Reach := .of [addCopyReach, sendFeedReach]

theorem Footprint.holds.storeCopy {r : Region} {strip : Nat} {b : BlockEntry} {sibling : Nat} (he : F.holds d e)
    (h : storeCopyReach.within F d) : F.holds d (e.storeCopy r strip b sibling) :=
  have ⟨haddCopy, hsendFeed, _⟩ := h
  holds_ite he (holds_ite he ((holds_ite he (he.addCopy haddCopy)).sendFeed hsendFeed))

theorem Footprint.holds.fillRows (he : F.holds d e) (h : fillRowReach.within F d) : F.holds d e.fillRows :=
  he.each fun _ _ ho => ho.each fun _ _ ho' => ho'.fillRow h

end
section
variable (d : Dev)

theorem Dev.cmp_complete (s tag opcode status : Nat) (body : List Nat) : (d.complete s tag opcode status body).cmp = d.cmp :=
  Dev.cmp_of_reach (x := completeReach) rfl rfl (Footprint.holds_refl _ d).complete

theorem Dev.cmp_mirror (r : MirrorRec) : (d.mirror r).cmp = d.cmp :=
  Dev.cmp_of_reach (x := mirrorReach) rfl rfl (Footprint.holds_refl _ d).mirror

theorem Dev.cmp_mirrorCtx (s : Nat) : (d.mirrorCtx s).cmp = d.cmp :=
  Dev.cmp_of_reach (x := mirrorCtxReach) rfl rfl (Footprint.holds_refl _ d).mirrorCtx

theorem Dev.cmp_dropUnits (s n : Nat) (use : UnitUse) : (d.dropUnits s n use).cmp = d.cmp :=
  Dev.cmp_of_reach (x := dropUnitsReach) rfl rfl (Footprint.holds_refl _ d).dropUnits

theorem Dev.cmp_fmtError (reason slot : Nat) : (d.fmtError reason slot).cmp = d.cmp :=
  Dev.cmp_of_reach (x := fmtErrorReach) rfl rfl (Footprint.holds_refl _ d).fmtError

theorem Dev.cmp_storeCopy (r : Region) (strip : Nat) (b : BlockEntry) (sibling : Nat) :
    (d.storeCopy r strip b sibling).cmp = d.cmp :=
  Dev.cmp_of_reach (x := storeCopyReach) rfl rfl (Footprint.holds_refl _ d).storeCopy

end
end Sys2Proof.Machine
end

section
open Sys2Proof
namespace Sys2Proof.Machine

/-! ### What decodes ahead for a row (R106) -/

/-- A row holds some lines ahead, and RP_STATUS their number. -/
def Dev.holdLines (d : Dev) (n j : Nat) (lines : List (Nat × Int)) : Dev :=
  (d.setRowBuf n j { d.rowBuf n j with lines := lines }).setFld .rpStatus (4 * n + j) 8 4 lines.length

/-- A row that decodes ahead holds lines, and at most LINE is set beside them. -/
theorem Dev.fillRow_cases (d : Dev) (n j f : Nat) :
    ∃ lines, d.fillRow n j f = d.holdLines n j lines ∨
      ∃ v, d.fillRow n j f = (d.holdLines n j lines).putInt .rpLine (4 * n + j) v := by
  unfold Dev.fillRow
  dsimp only
  generalize List.take _ _ = lines
  refine ⟨lines, ?_⟩
  split
  · exact .inr ⟨_, rfl⟩
  · split
    · exact .inr ⟨_, rfl⟩
    · exact .inl rfl

section
variable (d : Dev) (n j : Nat)

@[simp] theorem Dev.rowBuf_setRowBuf (x : RowBuf) : (d.setRowBuf n j x).rowBuf n j = x := Tab.get_set_same ..

/-- Decoding ahead leaves a seek as it is (R109). -/
theorem Dev.seeking_fillRow (f : Nat) : ((d.fillRow n j f).rowBuf n j).seeking = (d.rowBuf n j).seeking := by
  have hheld (lines) : ((d.holdLines n j lines).rowBuf n j).seeking = (d.rowBuf n j).seeking := by
    change ((d.setRowBuf n j _).rowBuf n j).seeking = _
    rw [Dev.rowBuf_setRowBuf]
  obtain ⟨lines, h | ⟨v, h⟩⟩ := d.fillRow_cases n j f <;> rw [h]
  · exact hheld lines
  · exact hheld lines

/-- Decoding ahead leaves the bits of RP_STATUS above the number of lines. -/
theorem Dev.bit_fillRow {i : Nat} (hi : 12 ≤ i) (f : Nat) :
    (d.fillRow n j f).bit .rpStatus (4 * n + j) i = d.bit .rpStatus (4 * n + j) i := by
  have hheld (lines) : (d.holdLines n j lines).bit .rpStatus (4 * n + j) i = d.bit .rpStatus (4 * n + j) i :=
    congrArg (· == 1) (Dev.fld_setFld_other _ _ _ 8 4 _ i 1 (by decide) (.inr hi))
  obtain ⟨lines, h | ⟨v, h⟩⟩ := d.fillRow_cases n j f <;> rw [h]
  · exact hheld lines
  · refine Eq.trans ?_ (hheld lines)
    rw [Dev.bit, Dev.fld, Dev.get, Dev.putInt, Dev.rd_wr_reg _ _ _ _ (by decide)]
    rfl

end

/-! ### Blocks under check and blocks delivered

A command on blocks also completes entries, retires regions and fills rows. All this leaves the jobs of the ingest check and
the blocks delivered to head rows. -/

/-- The same jobs are under check, and the same blocks are delivered. -/
structure KeepsBlocks (d e : Dev) : Prop where
  ingest : e.cmp.ingest = d.cmp.ingest
  fetched : e.cmp.fetched = d.cmp.fetched

section
variable {d e e' : Dev}

theorem KeepsBlocks.refl (d : Dev) : KeepsBlocks d d := ⟨rfl, rfl⟩

theorem KeepsBlocks.trans (h : KeepsBlocks d e) (g : KeepsBlocks e e') : KeepsBlocks d e' :=
  ⟨g.ingest.trans h.ingest, g.fetched.trans h.fetched⟩

/-- An operation that leaves the compositor leaves its blocks. -/
theorem KeepsBlocks.of_cmp (h : KeepsBlocks d e) (hc : e'.cmp = e.cmp) : KeepsBlocks d e' :=
  ⟨by rw [hc, h.ingest], by rw [hc, h.fetched]⟩

theorem KeepsBlocks.ite {c : Prop} [Decidable c] {a b : Dev} (ha : KeepsBlocks d a) (hb : KeepsBlocks d b) :
    KeepsBlocks d (if c then a else b) := by
  split
  · exact ha
  · exact hb

theorem KeepsBlocks.foldl {α : Type} {f : Dev → α → Dev} (h : KeepsBlocks d e) (xs : List α)
    (hf : ∀ e x, KeepsBlocks e (f e x)) : KeepsBlocks d (xs.foldl f e) := by
  induction xs generalizing e with
  | nil => exact h
  | cons x xs ih => exact ih (h.trans (hf e x))

end
section
variable (d : Dev)

theorem Dev.setRegion_keepsBlocks (r : Region) : KeepsBlocks d (d.setRegion r) := ⟨rfl, rfl⟩

theorem Dev.spoil_keepsBlocks (r : Region) (s ofs n : Nat) (c : SpoilCause) : KeepsBlocks d (d.spoil r s ofs n c) :=
  .ite (.refl d) ⟨rfl, rfl⟩

theorem Dev.sweepRegions_keepsBlocks : KeepsBlocks d d.sweepRegions := by
  unfold Dev.sweepRegions
  dsimp only
  refine KeepsBlocks.foldl ?_ _ fun e r => (KeepsBlocks.refl e).of_cmp (e.cmp_dropUnits _ _ _)
  exact ⟨rfl, rfl⟩

theorem Dev.drainDone_keepsBlocks (s : Nat) : KeepsBlocks d (d.drainDone s) := by
  unfold Dev.drainDone
  dsimp only
  split
  · refine KeepsBlocks.of_cmp ?_ (Dev.cmp_mirrorCtx _ s)
    exact ⟨rfl, rfl⟩
  · exact .refl d

theorem Dev.afterRetire_keepsBlocks : KeepsBlocks d d.afterRetire :=
  d.sweepRegions_keepsBlocks.foldl _ Dev.drainDone_keepsBlocks

theorem Dev.fillRow_keepsBlocks (n j f : Nat) : KeepsBlocks d (d.fillRow n j f) := by
  obtain ⟨lines, h | ⟨v, h⟩⟩ := d.fillRow_cases n j f <;> rw [h] <;> exact ⟨rfl, rfl⟩

theorem Dev.fillRows_keepsBlocks : KeepsBlocks d d.fillRows :=
  (KeepsBlocks.refl d).foldl _ fun e n => (KeepsBlocks.refl e).foldl _ fun e j => e.fillRow_keepsBlocks n j _

end
end Sys2Proof.Machine
end

section
open Sys2Proof
namespace Sys2Proof.Machine

/-! ### Blocks in a strip of a region (R94, R95) -/

theorem mem_insertEntry (b : BlockEntry) (es : List BlockEntry) : b ∈ insertEntry b es := by
  induction es with
  | nil => exact List.mem_singleton_self b
  | cons a t ih =>
    unfold insertEntry
    split
    · exact List.mem_cons_self
    · split
      · exact List.mem_cons_self
      · exact List.mem_cons_of_mem a ih

/-- The region of a number is the one that replaced it. -/
theorem Dev.region?_setRegion {d : Dev} {num : Nat} {r q : Region} (hr : d.region? num = some r) (hq : q.number = r.number) :
    (d.setRegion q).region? num = some q := by
  have hnum : ((fun x : Region => x.number == num) ∘ fun x => if x.number = q.number then q else x) =
      fun x => x.number == num := by
    funext x
    by_cases h : x.number = q.number <;> simp [h]
  change (d.cmp.regions.map fun x => if x.number = q.number then q else x).find? _ = some q
  rw [List.find?_map, hnum, show d.cmp.regions.find? (fun x => x.number == num) = some r from hr, Option.map_some,
    if_pos hq.symm]

/-- The entry that a block takes once it has passed. -/
def IngestJob.entry (j : IngestJob) : BlockEntry :=
  { first := j.first, lines := j.lines, state := .resident, isLocked := false, heapOff := j.heapOff, heapLen := j.heapLen,
    sealedBytes := j.sealedBytes }

/-- A region whose block of a first line, if there is one, has given its heap space back. -/
def Region.vacate (r : Region) (strip first : Nat) : Region :=
  match (r.strip strip).entries.find? fun b => b.first == first with
  | some b => r.heapFree b.heapOff
  | none => r

theorem Region.vacate_number (r : Region) (strip first : Nat) : (r.vacate strip first).number = r.number := by
  unfold Region.vacate
  split <;> rfl

/-- A region with the block of a job in its strip. -/
def Region.accept (r : Region) (j : IngestJob) : Region :=
  { r.vacate j.strip j.first with
    strips := Tab.set (r.vacate j.strip j.first).strips j.strip
      { r.strip j.strip with entries := insertEntry j.entry (r.strip j.strip).entries } }

theorem Region.accept_number (r : Region) (j : IngestJob) : (r.accept j).number = r.number := r.vacate_number _ _

theorem Region.mem_accept (r : Region) (j : IngestJob) : j.entry ∈ ((r.accept j).strip j.strip).entries := by
  rw [Region.strip, Region.accept, Tab.get_set_same]
  exact mem_insertEntry _ _

/-! ### The end of the ingest check (R95) -/

section
variable {d : Dev} {i : Nat} {j : IngestJob} {r : Region}

/-- The controller with a job off the list of the ingest check. -/
def Dev.takeJob (d : Dev) (i : Nat) : Dev := { d with cmp := { d.cmp with ingest := d.cmp.ingest.eraseIdx i } }

theorem Dev.ingestRefusal_takeJob (d : Dev) (i : Nat) (r : Region) (j : IngestJob) :
    (d.takeJob i).ingestRefusal r j = d.ingestRefusal r j := by
  simp only [Dev.ingestRefusal, Dev.ctx, Dev.image, Dev.takeJob]

/-- What a job that the ingest check has refused leaves behind: the count, and where the format is at fault its reason. -/
def Dev.refuseJob (d : Dev) (r : Region) (j : IngestJob) (e : ECode) (reason : Nat) : Dev :=
  if e = .reelFormat then ((d.count .cmpIngestFail 0).fmtError reason r.slot).ingestFail j e [reason]
  else (d.count .cmpIngestFail 0).ingestFail j e []

theorem Dev.ingestDone_of_refused {e : ECode} {reason : Nat} (hj : d.cmp.ingest[i]? = some j) (hr : d.region? j.region = some r)
    (href : d.ingestRefusal r j = some (e, reason)) : d.ingestDone i = (d.takeJob i).refuseJob r j e reason := by
  have hr' : (d.takeJob i).region? j.region = some r := hr
  have href' := (d.ingestRefusal_takeJob i r j).trans href
  rw [Dev.takeJob] at hr' href'
  simp only [Dev.ingestDone, hj, hr', href', Dev.refuseJob, Dev.takeJob]

theorem Dev.ingestDone_of_passed (hj : d.cmp.ingest[i]? = some j) (hr : d.region? j.region = some r)
    (href : d.ingestRefusal r j = none) (hmirror : (d.mirroring && d.bit .tenState j.slot 27) = false) :
    d.ingestDone i = (d.takeJob i).ingestStore j := by
  have hr' : (d.takeJob i).region? j.region = some r := hr
  have href' := (d.ingestRefusal_takeJob i r j).trans href
  have hmirror' : ((d.takeJob i).mirroring && (d.takeJob i).bit .tenState j.slot 27) = false := hmirror
  rw [Dev.takeJob] at hr' href' hmirror'
  simp only [Dev.ingestDone, hj, hr', href', hmirror', Dev.takeJob, Bool.false_eq_true, if_false]

/-- A job whose block still lies beyond the lock line and inside its region is accepted. -/
theorem Dev.ingestStore_of_open (hr : d.region? j.region = some r) (hlock : d.beyondLock r j.strip j.first = true)
    (hend : j.first + j.lines ≤ r.endOfs) (hfirst : r.firstOfs ≤ j.first) :
    d.ingestStore j = (d.setRegion (r.accept j)).complete j.slot j.tag 0x20 0 [] := by
  have hinside : ¬(r.endOfs < j.first + j.lines ∨ j.first < r.firstOfs) := by omega
  simp only [Dev.ingestStore, hr, hlock, Bool.not_true, Bool.false_eq_true, if_false, if_neg hinside]
  rfl

end
section
variable (d : Dev) (j : IngestJob)

theorem Dev.ingestFail_keepsBlocks (e : ECode) (body : List Nat) : KeepsBlocks d (d.ingestFail j e body) := by
  unfold Dev.ingestFail
  dsimp only
  refine KeepsBlocks.trans ?_ (Dev.afterRetire_keepsBlocks _)
  refine KeepsBlocks.of_cmp ?_ (Dev.cmp_complete _ j.slot j.tag 0x20 e.code.toNat body)
  split
  · exact d.setRegion_keepsBlocks _
  · exact .refl d

theorem Dev.refuseJob_keepsBlocks (r : Region) (e : ECode) (reason : Nat) : KeepsBlocks d (d.refuseJob r j e reason) := by
  have hcount : KeepsBlocks d (d.count .cmpIngestFail 0) := ⟨rfl, rfl⟩
  unfold Dev.refuseJob
  split
  · exact (hcount.of_cmp (Dev.cmp_fmtError _ reason r.slot)).trans (Dev.ingestFail_keepsBlocks _ j e _)
  · exact hcount.trans (Dev.ingestFail_keepsBlocks _ j e _)

theorem Dev.ingestMirror_keepsBlocks : KeepsBlocks d (d.ingestMirror j) :=
  (KeepsBlocks.refl d).of_cmp (Dev.cmp_mirror _ _)

theorem Dev.ingestStore_keepsBlocks : KeepsBlocks d (d.ingestStore j) := by
  unfold Dev.ingestStore
  split
  · exact d.ingestFail_keepsBlocks j _ _
  next r _ =>
    refine .ite (d.ingestFail_keepsBlocks j _ _) (.ite (d.ingestFail_keepsBlocks j _ _) ?_)
    exact (d.setRegion_keepsBlocks _).of_cmp (Dev.cmp_complete _ j.slot j.tag 0x20 0 [])

/-- However its check ends, a job leaves the list. -/
theorem Dev.ingestDone_ingest {i : Nat} {j : IngestJob} (hj : d.cmp.ingest[i]? = some j) :
    (d.ingestDone i).cmp.ingest = d.cmp.ingest.eraseIdx i := by
  suffices h : KeepsBlocks (d.takeJob i) (d.ingestDone i) from h.ingest
  simp only [Dev.ingestDone, hj]
  split
  · exact (d.takeJob i).ingestFail_keepsBlocks j _ _
  next r _ =>
    split
    next e reason _ => exact (d.takeJob i).refuseJob_keepsBlocks j r e reason
    · exact .ite ((d.takeJob i).ingestMirror_keepsBlocks j) ((d.takeJob i).ingestStore_keepsBlocks j)

/-- A refused job counts in CMP_INGEST_FAIL. -/
theorem Dev.get_refuseJob (r : Region) (e : ECode) (reason : Nat) :
    (d.refuseJob r j e reason).get .cmpIngestFail 0 = satAdd 32 (d.get .cmpIngestFail 0) 1 := by
  have hafter : (d.refuseJob r j e reason).get .cmpIngestFail 0 = (d.count .cmpIngestFail 0).get .cmpIngestFail 0 := by
    refine Dev.get_of_reach (x := .of [fmtErrorReach, ingestFailReach]) rfl rfl (fun ⟨hfmtError, hingestFail, _⟩ => ?_) 0
    exact holds_ite (((Footprint.holds_refl _ _).fmtError hfmtError).ingestFail hingestFail)
      ((Footprint.holds_refl _ _).ingestFail hingestFail)
  rw [hafter, Dev.get_count_same]

end
end Sys2Proof.Machine
end

section
open Sys2Proof
namespace Sys2Proof.Machine

/-! ### Fetches of a locked block (R105, R107, R126) -/

/-- A block is delivered to the decompressors of a head row. -/
def Dev.deliver (d : Dev) (x : Fetched) : Dev := { d with cmp := { d.cmp with fetched := d.cmp.fetched ++ [x] } }

/-- A block fails authentication from its first line on: it is MISSING and spoiled, and CMP_EVENT tells. -/
def Dev.loseBlock (d : Dev) (r : Region) (strip : Nat) (b : BlockEntry) (first : Nat) : Dev :=
  (((d.setRegion ((r.updEntry strip first fun e => { e with state := .missing }).heapFree b.heapOff)).spoil r strip first b.lines
    .auth).event .cmpEvent 0 2).raise .reelAuth r.slot

/-- A block of which the DRAM delivers poison is POISONED and spoiled. -/
def Dev.spoilPoisoned (d : Dev) (r : Region) (strip : Nat) (b : BlockEntry) (first : Nat) : Dev :=
  (d.setRegion (r.updEntry strip first fun e => { e with state := .poisoned })).spoil r strip first b.lines .poison

/-- A fetch that is due of a locked block, of a region whose units carry the tag of its context. -/
structure Dev.Fetching (d : Dev) (region strip first sibling : Nat) (r : Region) (b : BlockEntry) : Prop where
  region : d.region? region = some r
  entry : ((r.strip strip).entries.find? fun x => x.first == first && x.isLocked && (x.state == .locked || x.state == .missing)) =
    some b
  locked : b.state = .locked
  due : d.fetchDue r strip first sibling = true
  tag : d.tagOk r.slot (.region r.number) = true

section
variable {d : Dev} {region strip first sibling : Nat} {r : Region} {b : BlockEntry}

/-- A block that authenticates is delivered, marked where its CRC is bad or it does not decode. -/
theorem Dev.Fetching.fetchBlock_delivers {o : FetchOutcome} (h : d.Fetching region strip first sibling r b)
    (ho : o = .good ∨ o = .crcBad)
    (hnew : (d.cmp.fetched.any fun y =>
      y.region == region && y.strip == strip && y.first == first && y.sibling == sibling) = false) :
    d.fetchBlock region strip first sibling o =
      (d.deliver { region, strip, first, sibling, crcBad := decide (o = .crcBad) || d.decodeBad r strip b }).storeCopy r strip b
        sibling := by
  obtain rfl | rfl := ho
  · simp [Dev.fetchBlock, h.region, h.entry, h.locked, h.due, h.tag, hnew, Dev.deliver]
  · simp [Dev.fetchBlock, h.region, h.entry, h.locked, h.due, h.tag, hnew, Dev.deliver]

theorem Dev.Fetching.fetchBlock_authFail (h : d.Fetching region strip first sibling r b) :
    d.fetchBlock region strip first sibling (.authFail 0) =
      ((d.loseBlock r strip b first).storeCopy r strip { b with state := .missing } sibling).afterRetire := by
  simp [Dev.fetchBlock, h.region, h.entry, h.locked, h.due, h.tag, Dev.loseBlock]

theorem Dev.Fetching.fetchBlock_poison (h : d.Fetching region strip first sibling r b) :
    d.fetchBlock region strip first sibling .poison = d.spoilPoisoned r strip b first := by
  simp [Dev.fetchBlock, h.region, h.entry, h.locked, h.due, h.tag, Dev.spoilPoisoned]

end
section
variable (d : Dev) (r : Region) (strip : Nat) (b : BlockEntry)

/-- A block delivered stays delivered while its copy is stored and rows fill. -/
theorem Dev.fetched_deliver (x : Fetched) (sibling : Nat) :
    ((d.deliver x).storeCopy r strip b sibling).fillRows.cmp.fetched = d.cmp.fetched ++ [x] :=
  (((KeepsBlocks.refl _).of_cmp ((d.deliver x).cmp_storeCopy r strip b sibling)).trans (Dev.fillRows_keepsBlocks _)).fetched

theorem Dev.fetched_spoilPoisoned (first : Nat) : (d.spoilPoisoned r strip b first).fillRows.cmp.fetched = d.cmp.fetched :=
  (((d.setRegion_keepsBlocks _).trans (Dev.spoil_keepsBlocks _ r strip first b.lines .poison)).trans
    (Dev.fillRows_keepsBlocks _)).fetched

/-- The event of a lost block stays while regions retire and rows fill. -/
theorem Dev.bit_loseBlock (first sibling : Nat) (c : BlockEntry) :
    ((d.loseBlock r strip b first).storeCopy r strip c sibling).afterRetire.fillRows.bit .cmpEvent 0 2 = true := by
  have hafter := Dev.get_of_reach (r := .cmpEvent) (x := .of [storeCopyReach, afterRetireReach, fillRowReach])
    (d := d.loseBlock r strip b first) (e := ((d.loseBlock r strip b first).storeCopy r strip c sibling).afterRetire.fillRows)
    rfl rfl (fun ⟨hstoreCopy, hafterRetire, hfillRow, _⟩ =>
      (((Footprint.holds_refl _ _).storeCopy hstoreCopy).afterRetire hafterRetire).fillRows hfillRow) 0
  rw [Dev.bit, Dev.fld, hafter]
  exact Dev.bit_event_same _ .cmpEvent 0 2 (by decide)

end

/-! ### The write of the lead (R101) -/

theorem storedLead_lt (v : Nat) : storedLead v < 2 ^ 64 := by
  unfold storedLead
  dsimp only
  split <;> omega

/-- A lead stored stays while the lock line moves. -/
theorem Dev.get_lead (d : Dev) (v : Nat) (line : Int) :
    ((d.put .cmpLeadLines 0 (storedLead v)).lockAhead line).get .cmpLeadLines 0 = storedLead v := by
  rw [Dev.get_of_reach (x := lockAheadReach) rfl rfl (Footprint.holds_refl _ _).lockAhead, Dev.get_put_same,
    Nat.mod_eq_of_lt (storedLead_lt v)]

/-- Settles O20: each command first changes what its clause names, and what it runs after that leaves this as it is. -/
theorem blocksAreCheckedFetchedAndSought : Obligations.BlocksAreCheckedFetchedAndSought := by
  refine ⟨?checked, ?stored, ?fetched, ?sought, ?lead⟩
  case checked => exact fun s job j hj => completes_of_run (f := (·.ingestDone job)) rfl (s.dev.ingestDone_ingest hj)
  case stored =>
    intro s job j r hj hr hmirror hlock hend hfirst
    refine completes_of_run (f := (·.ingestDone job)) rfl ⟨fun hpassed => ?_, fun hrefused => ?_⟩
    · have hdone : s.dev.ingestDone job = ((s.dev.takeJob job).setRegion (r.accept j)).complete j.slot j.tag 0x20 0 [] :=
        (Dev.ingestDone_of_passed hj hr hpassed hmirror).trans (Dev.ingestStore_of_open hr hlock hend hfirst)
      have hregion : (s.dev.ingestDone job).region? j.region = some (r.accept j) := by
        rw [hdone, Dev.region?, Dev.cmp_complete]
        exact Dev.region?_setRegion (d := s.dev.takeJob job) hr (r.accept_number j)
      exact ⟨r.accept j, j.entry, hregion, r.mem_accept j, rfl, rfl, rfl, rfl, rfl⟩
    · obtain ⟨⟨e, reason⟩, href⟩ := Option.ne_none_iff_exists'.mp hrefused
      rw [Dev.ingestDone_of_refused hj hr href]
      exact Dev.get_refuseJob (s.dev.takeJob job) j r e reason
  case fetched =>
    intro s region strip first sib r b hr hentry hlocked hdue htag hnew
    have hfetch : s.dev.Fetching region strip first sib.val r b := ⟨hr, hentry, hlocked, hdue, htag⟩
    have hrun (o : FetchOutcome) {P : Dev → Prop} (h : P (s.dev.fetchBlock region strip first sib.val o).fillRows) :
        Completes (.blockFetch region strip first sib o) s P :=
      completes_of_run (f := fun d => (d.fetchBlock region strip first sib.val o).fillRows) rfl h
    refine ⟨hrun _ ?_, hrun _ ?_, hrun _ ?_, hrun _ ?_⟩
    · simp [hfetch.fetchBlock_delivers (.inl rfl) hnew, Dev.fetched_deliver]
    · simp [hfetch.fetchBlock_delivers (.inr rfl) hnew, Dev.fetched_deliver]
    · rw [hfetch.fetchBlock_authFail, Dev.bit_loseBlock]
    · rw [hfetch.fetchBlock_poison, Dev.fetched_spoilPoisoned]
  case sought =>
    intro s port row
    refine ⟨_, rfl, rfl, ?_, ?_⟩
    · rw [Dev.seeking_fillRow]
      exact congrArg RowBuf.seeking (s.dev.rowBuf_setRowBuf port.val row.val _)
    · rw [Dev.bit_fillRow _ _ _ (by decide), Dev.bit_setBit_same _ _ _ _ _ (by decide)]
  case lead =>
    intro s req value
    refine ⟨_, rfl, rfl, ?_⟩
    change Dev.get (if _ then _ else _) .cmpLeadLines 0 = storedLead value.toNat
    split
    · exact s.dev.get_lead value.toNat _
    · rw [Dev.get_put_same, Nat.mod_eq_of_lt (storedLead_lt _)]

end Sys2Proof.Machine
end

section
open Sys2Proof
namespace Sys2Proof.Machine

/-! ### Bytes of a block: little-endian words and the CRC (R34, R116) -/

/-- Little-endian bytes read back the number they were written from. -/
theorem leNat_leBytes {v n : Nat} (h : v < 256 ^ n) : leNat (leBytes v n) = v := by
  induction n generalizing v with
  | zero => rw [pow_zero, Nat.lt_one_iff] at h; rw [h]; rfl
  | succ n ih =>
    have hdiv : v / 256 < 256 ^ n := Nat.div_lt_of_lt_mul (by rwa [pow_succ'] at h)
    rw [leBytes, leNat, ih hdiv, BitVec.toNat_ofNat]
    exact Nat.mod_add_div v 256

/-- A word written behind any bytes reads back at their end. -/
theorem le32At_append {v : Nat} (h : v < 2 ^ 32) (bs rest : List Byte) :
    le32At (bs ++ (leBytes v 4 ++ rest)) bs.length = v := by
  have htake : (leBytes v 4 ++ rest).take 4 = leBytes v 4 := by simp [length_leBytes]
  rw [le32At, List.drop_left, htake, leNat_leBytes h]

theorem crcStep_lt {poly : Nat} (hpoly : poly < 2 ^ 32) (n : Nat) {c : Nat} (hc : c < 2 ^ 32) :
    crcStep poly n c < 2 ^ 32 := by
  induction n generalizing c with
  | zero => exact hc
  | succ n ih =>
    have hhalf : c / 2 < 2 ^ 32 := by omega
    unfold crcStep
    split
    · exact ih (Nat.xor_lt_two_pow hhalf hpoly)
    · exact ih hhalf

theorem crcReflected_lt {poly init : Nat} (hpoly : poly < 2 ^ 32) (hinit : init < 2 ^ 32) (bs : List Byte) :
    crcReflected poly init bs < 2 ^ 32 := by
  induction bs generalizing init with
  | nil => exact hinit
  | cons b bs ih =>
    have hb : b.toNat < 2 ^ 32 := b.isLt.trans (by norm_num)
    exact ih (crcStep_lt hpoly 8 (Nat.xor_lt_two_pow hinit hb))

/-- The CRC of a block fits its trailer. -/
theorem symbolCrc_lt (syms : List Nat) : symbolCrc syms < 2 ^ 32 :=
  Nat.xor_lt_two_pow (crcReflected_lt (by norm_num) (by norm_num) _) (by norm_num)

/-! ### A block read as it was framed (R116, R124) -/

/-- A header, a body and a trailer as a block (R116). -/
def frameBlock (mode n : Nat) (body : List Byte) (crc : Nat) : List Byte :=
  leBytes (blockHeader mode n) 4 ++ body ++ leBytes crc 4

theorem storedBlock_eq (syms : List Nat) :
    storedBlock syms = frameBlock 1 syms.length (packSymbols syms) (symbolCrc syms) := rfl

theorem codedBlock_cons (s : Nat) (t : List Nat) :
    codedBlock (s :: t) =
      frameBlock 0 (s :: t).length (packCodes (greedyCodes t dictStart [s] s)) (symbolCrc (s :: t)) := rfl

@[simp] theorem length_frameBlock (mode n : Nat) (body : List Byte) (crc : Nat) :
    (frameBlock mode n body crc).length = body.length + 8 := by
  simp only [frameBlock, List.length_append, length_leBytes]
  omega

/-- The body of a block lies between its header and its trailer. -/
theorem body_frameBlock (mode n : Nat) (body : List Byte) (crc : Nat) :
    ((frameBlock mode n body crc).drop 4).take body.length = body := by
  have hdrop : (frameBlock mode n body crc).drop 4 = body ++ leBytes crc 4 := by
    rw [frameBlock, List.append_assoc, List.drop_left' (length_leBytes _ _)]
  rw [hdrop, List.take_left]

/-- A block reads its trailer as it was framed. -/
theorem trailer_frameBlock (mode n : Nat) (body : List Byte) {crc : Nat} (hcrc : crc < 2 ^ 32) :
    le32At (frameBlock mode n body crc) (body.length + 4) = crc := by
  have hoff : body.length + 4 = (leBytes (blockHeader mode n) 4 ++ body).length := by
    rw [List.length_append, length_leBytes]
    omega
  have hread := le32At_append hcrc (leBytes (blockHeader mode n) 4 ++ body) []
  rwa [List.append_nil, ← hoff] at hread

section
variable {mode n : Nat} (hmode : mode < 2) (hpos : 1 ≤ n) (hmax : n ≤ 262144)
include hmode hpos hmax

theorem blockHeader_lt : blockHeader mode n < 2 ^ 32 := by
  simp only [blockHeader, Nat.shiftLeft_eq]
  omega

/-- A block reads its header word as it was framed. -/
theorem header_frameBlock (body : List Byte) (crc : Nat) : le32At (frameBlock mode n body crc) 0 = blockHeader mode n := by
  rw [frameBlock, List.append_assoc]
  exact le32At_append (blockHeader_lt hmode hpos hmax) [] _

/-- The fields of a header word: magic, mode, reserved bits and count. -/
theorem bits_blockHeader :
    bits (blockHeader mode n) 28 4 = 0xb ∧ bits (blockHeader mode n) 26 2 = mode ∧ bits (blockHeader mode n) 18 8 = 0 ∧
      bits (blockHeader mode n) 0 18 + 1 = n := by
  simp only [bits, blockHeader, Nat.shiftLeft_eq, Nat.shiftRight_eq_div_pow]
  omega

end

section
variable {n : Nat} {body : List Byte} {crc : Nat} (hpos : 1 ≤ n) (hmax : n ≤ 262144) (hcrc : crc < 2 ^ 32)
include hpos hmax hcrc

/-- A framed body of the stored form's length, its padding 0, decodes to its symbols. -/
theorem decodeBlock_frameBlock_stored (hlen : body.length = (n + 1) / 2)
    (hpad : n % 2 = 1 → ∀ d, bits (body.getLastD d).toNat 4 4 = 0) :
    decodeBlock (frameBlock 1 n body crc) n = .ok { symbols := (unpackSymbols body).take n, trailer := crc } := by
  obtain ⟨hmagic, hmode, hreserved, hcount⟩ := bits_blockHeader (mode := 1) (by omega) hpos hmax
  have hsize : ¬body.length + 8 < 9 := by omega
  have hnopad (d : Byte) : ¬(n % 2 = 1 ∧ ¬bits (body.getLastD d).toNat 4 4 = 0) := fun h => h.2 (hpad h.1 d)
  have hstored : ¬body.length + 8 ≠ (n + 1) / 2 + 8 := by omega
  simp [-List.getLastD_eq_getLast?, decodeBlock, length_frameBlock, body_frameBlock,
    header_frameBlock (mode := 1) (by omega) hpos hmax, trailer_frameBlock 1 n body hcrc,
    hmagic, hmode, hreserved, hcount, hsize, hstored, hnopad]

/-- A framed body of codes, not longer than the stored form's and its padding 0, decodes to what its codes decode to. -/
theorem decodeBlock_frameBlock_coded (hsome : 0 < body.length) (hlen : body.length ≤ (n + 1) / 2)
    (hwhole : body.length % 3 ≠ 1) (hpad : 8 * body.length / 12 % 2 = 1 → ∀ d, bits (body.getLastD d).toNat 4 4 = 0) :
    decodeBlock (frameBlock 0 n body crc) n =
      (decodeCodes n (bodyCodes body (8 * body.length / 12)) dictStart none []).map
        fun s => { symbols := s, trailer := crc } := by
  obtain ⟨hmagic, hmode, hreserved, hcount⟩ := bits_blockHeader (mode := 0) (by omega) hpos hmax
  have hsize : ¬body.length + 8 < 9 := by omega
  have hnopad (d : Byte) : ¬(8 * body.length / 12 % 2 = 1 ∧ ¬bits (body.getLastD d).toNat 4 4 = 0) :=
    fun h => h.2 (hpad h.1 d)
  have hshort : ¬(n + 1) / 2 + 8 < body.length + 8 := by omega
  simp [-List.getLastD_eq_getLast?, decodeBlock, length_frameBlock, body_frameBlock,
    header_frameBlock (mode := 0) (by omega) hpos hmax, trailer_frameBlock 0 n body hcrc,
    hmagic, hmode, hreserved, hcount, hsize, hwhole, hshort, hnopad]

end

/-! ### Packed symbols (R115) -/

theorem length_packSymbols (syms : List Nat) : (packSymbols syms).length = (syms.length + 1) / 2 := by
  induction syms using packSymbols.induct with
  | case1 => simp [packSymbols]
  | case2 a => simp [packSymbols]
  | case3 a b t ih =>
    simp only [packSymbols, List.length_cons, ih]
    omega

/-- An odd number of symbols is packed with 0 in the upper half of the last byte. -/
theorem padding_packSymbols (syms : List Nat) (hodd : syms.length % 2 = 1) (d : Byte) :
    bits ((packSymbols syms).getLastD d).toNat 4 4 = 0 := by
  induction syms using packSymbols.induct generalizing d with
  | case1 => simp at hodd
  | case2 a =>
    simp only [packSymbols, List.getLastD_cons, List.getLastD_nil, bits, BitVec.toNat_ofNat, Nat.shiftRight_eq_div_pow]
    omega
  | case3 a b t ih =>
    rw [packSymbols, List.getLastD_cons]
    exact ih (by simp only [List.length_cons] at hodd; omega) _

/-- Packed symbols unpack to themselves, up to the padding. -/
theorem take_unpackSymbols_packSymbols (syms : List Nat) (hsyms : ∀ x ∈ syms, x < 16) :
    (unpackSymbols (packSymbols syms)).take syms.length = syms := by
  induction syms using packSymbols.induct with
  | case1 => rfl
  | case2 a =>
    have ha : a < 16 := hsyms a (by simp)
    have hlow : a % 16 % 256 % 16 = a := by omega
    simp [packSymbols, unpackSymbols, hlow]
  | case3 a b t ih =>
    have ha : a < 16 := hsyms a (by simp)
    have hb : b < 16 := hsyms b (by simp)
    have ht := ih fun x hx => hsyms x (by simp [hx])
    have hlow : (a % 16 + 16 * (b % 16)) % 256 % 16 = a := by omega
    have hhigh : (a % 16 + 16 * (b % 16)) % 256 / 16 = b := by omega
    simpa [packSymbols, unpackSymbols, hlow, hhigh] using ht

/-- Settles O22: the header and the padding pass every check of Table 5.2, and unpacking undoes packing. -/
theorem storedBlockDecodesToItsSymbols : Obligations.StoredBlockDecodesToItsSymbols := by
  intro syms hpos hmax hall
  have hsyms : ∀ x ∈ syms, x < 16 := by simpa using hall
  rw [storedBlock_eq, decodeBlock_frameBlock_stored hpos hmax (symbolCrc_lt syms) (length_packSymbols syms)
    (padding_packSymbols syms), take_unpackSymbols_packSymbols syms hsyms]

/-! ### Packed codes (R119) -/

theorem length_packCodes (cs : List Nat) : (packCodes cs).length = (3 * cs.length + 1) / 2 := by
  induction cs using packCodes.induct with
  | case1 => simp [packCodes]
  | case2 a => simp [packCodes]
  | case3 a b t ih =>
    simp only [packCodes, List.length_cons, ih]
    omega

/-- The length of a body tells its number of codes. -/
theorem count_packCodes (cs : List Nat) : 8 * (packCodes cs).length / 12 = cs.length := by
  rw [length_packCodes]
  omega

/-- An odd number of codes is packed with 0 in the upper half of the last byte. -/
theorem padding_packCodes (cs : List Nat) (hcs : ∀ c ∈ cs, c < 4096) (hodd : cs.length % 2 = 1) (d : Byte) :
    bits ((packCodes cs).getLastD d).toNat 4 4 = 0 := by
  induction cs using packCodes.induct generalizing d with
  | case1 => simp at hodd
  | case2 a =>
    have ha : a < 4096 := hcs a (by simp)
    simp only [packCodes, List.getLastD_cons, List.getLastD_nil, bits, BitVec.toNat_ofNat, Nat.shiftRight_eq_div_pow]
    omega
  | case3 a b t ih =>
    rw [packCodes, List.getLastD_cons, List.getLastD_cons, List.getLastD_cons]
    exact ih (fun c hc => hcs c (by simp [hc])) (by simp only [List.length_cons] at hodd; omega) _

/-- Each three bytes of a body hold two codes. -/
theorem bodyCodes_cons (x y z : Byte) (body : List Byte) (c : Nat) :
    bodyCodes (x :: y :: z :: body) (c + 2) =
      (x.toNat + 256 * y.toNat) % 4096 :: (y.toNat + 256 * z.toNat) / 16 :: bodyCodes body c := by
  have hbyte (i : Nat) : 12 * (i + 2) / 8 = 12 * i / 8 + 3 := by omega
  have hparity (i : Nat) : (i + 1 + 1) % 2 = i % 2 := by omega
  simp [bodyCodes, List.range_succ_eq_map, Function.comp_def, hbyte, hparity]

/-- Packed codes are read back as they were. -/
theorem bodyCodes_packCodes (cs : List Nat) (hcs : ∀ c ∈ cs, c < 4096) : bodyCodes (packCodes cs) cs.length = cs := by
  induction cs using packCodes.induct with
  | case1 => rfl
  | case2 a =>
    have ha : a < 4096 := hcs a (by simp)
    have hcode : (a % 256 + 256 * (a / 256 % 256)) % 4096 = a := by omega
    simp [bodyCodes, packCodes, hcode]
  | case3 a b t ih =>
    have ha : a < 4096 := hcs a (by simp)
    have hb : b < 4096 := hcs b (by simp)
    have hlow : (a % 256 + 256 * ((a / 256 + 16 * (b % 16)) % 256)) % 4096 = a := by omega
    have hhigh : ((a / 256 + 16 * (b % 16)) % 256 + 256 * (b / 16 % 256)) / 16 = b := by omega
    rw [packCodes, List.length_cons, List.length_cons, bodyCodes_cons, ih fun c hc => hcs c (by simp [hc])]
    simp [hlow, hhigh]

end Sys2Proof.Machine
end

section
open Sys2Proof
namespace Sys2Proof.Machine

/-! ### The dictionaries of encoder and decoder (R120 to R123)

The decoder adds the entry of a code one code later than the encoder, when it knows the first symbol of the next string.
`Lags` says this of the two dictionaries; decoding the encoder's next code makes them one again. -/

/-- The dictionary after an entry is offered to it: a full dictionary stays (R121). -/
def addEntry (dict : List (List Nat)) (e : List Nat) : List (List Nat) :=
  if dict.length < 4096 then dict ++ [e] else dict

theorem length_addEntry_le {dict : List (List Nat)} (h : dict.length ≤ 4096) (e : List Nat) :
    (addEntry dict e).length ≤ 4096 := by
  unfold addEntry
  split
  · rw [List.length_append, List.length_singleton]
    omega
  · exact h

/-- Entries stay where they are. -/
theorem getElem?_addEntry {dict : List (List Nat)} {c : Nat} {m : List Nat} (h : dict[c]? = some m) (e : List Nat) :
    (addEntry dict e)[c]? = some m := by
  unfold addEntry
  split
  · rw [List.getElem?_append_left (List.getElem?_eq_some_iff.mp h).1, h]
  · exact h

/-- An entry of the dictionary after an addition was there before, or is the one added to a dictionary that was not full. -/
theorem getElem?_addEntry_cases {dict : List (List Nat)} {c : Nat} {m e : List Nat} (h : (addEntry dict e)[c]? = some m) :
    dict[c]? = some m ∨ (c = dict.length ∧ dict.length < 4096 ∧ m = e) := by
  unfold addEntry at h
  split at h
  next hroom =>
    rcases Nat.lt_or_ge c dict.length with hlt | hge
    · exact .inl (by rwa [List.getElem?_append_left hlt] at h)
    · rw [List.getElem?_append_right hge, List.getElem?_singleton] at h
      have hc : c - dict.length = 0 := by
        by_contra hne
        simp [hne] at h
      simp only [hc, if_true, Option.some.injEq] at h
      exact .inr ⟨by omega, hroom, h.symm⟩
  next => exact .inl h

/-- An encoder's dictionary holds every single symbol at its own number, and its current match at entry w. -/
structure Matches (dict : List (List Nat)) (m : List Nat) (w : Nat) : Prop where
  singles : ∀ s < 16, dict[s]? = some [s]
  size : dict.length ≤ 4096
  entry : dict[w]? = some m
  nonempty : m ≠ []

/-- A code of a match fits 12 bits. -/
theorem Matches.lt {dict : List (List Nat)} {m : List Nat} {w : Nat} (h : Matches dict m w) : w < 4096 :=
  (List.getElem?_eq_some_iff.mp h.entry).1.trans_le h.size

/-- The first symbol of a block is a match. -/
theorem matches_dictStart {s : Nat} (hs : s < 16) : Matches dictStart [s] s where
  singles := by decide
  size := by decide
  entry := by revert s; decide
  nonempty := List.cons_ne_nil _ _

/-- A longer match found in the dictionary is a match. -/
theorem Matches.extend {dict : List (List Nat)} {m e : List Nat} {w c : Nat} (h : Matches dict m w) (he : e ≠ [])
    (hfind : dict.findIdx? (fun x => x == e) = some c) : Matches dict e c where
  singles := h.singles
  size := h.size
  entry := by
    obtain ⟨hlt, heq, -⟩ := List.findIdx?_eq_some_iff_getElem.mp hfind
    rw [List.getElem?_eq_getElem hlt, beq_iff_eq.mp heq]
  nonempty := he

/-- Where a match ends, its last symbol begins the next one in the dictionary with the new entry. -/
theorem Matches.restart {dict : List (List Nat)} {m : List Nat} {w s : Nat} (h : Matches dict m w) (hs : s < 16)
    (e : List Nat) : Matches (addEntry dict e) [s] s where
  singles := fun x hx => getElem?_addEntry (h.singles x hx) e
  size := length_addEntry_le h.size e
  entry := getElem?_addEntry (h.singles s hs) e
  nonempty := List.cons_ne_nil _ _

theorem greedyCodes_of_found {dict : List (List Nat)} {m : List Nat} {s c : Nat} (t : List Nat) (w : Nat)
    (h : dict.findIdx? (fun x => x == m ++ [s]) = some c) :
    greedyCodes (s :: t) dict m w = greedyCodes t dict (m ++ [s]) c := by
  rw [greedyCodes, h]

theorem greedyCodes_of_new {dict : List (List Nat)} {m : List Nat} {s : Nat} (t : List Nat) (w : Nat)
    (h : dict.findIdx? (fun x => x == m ++ [s]) = none) :
    greedyCodes (s :: t) dict m w = w :: greedyCodes t (addEntry dict (m ++ [s])) [s] s := by
  rw [greedyCodes, h]
  rfl

/-- Every code of the greedy parse fits 12 bits. -/
theorem greedyCodes_lt {t : List Nat} (ht : ∀ s ∈ t, s < 16) {dict : List (List Nat)} {m : List Nat} {w : Nat}
    (h : Matches dict m w) : ∀ c ∈ greedyCodes t dict m w, c < 4096 := by
  induction t generalizing dict m w with
  | nil => simpa [greedyCodes] using h.lt
  | cons s t ih =>
    obtain ⟨hs, ht'⟩ := List.forall_mem_cons.mp ht
    cases hfind : dict.findIdx? (fun x => x == m ++ [s]) with
    | some c =>
      rw [greedyCodes_of_found t w hfind]
      exact ih ht' (h.extend (by simp) hfind)
    | none =>
      rw [greedyCodes_of_new t w hfind]
      exact List.forall_mem_cons.mpr ⟨h.lt, ih ht' (h.restart hs _)⟩

/-- How the decoder's dictionary stands to the encoder's when the code of a match is next: at the first code they are the
16 single symbols, later the decoder still lacks the entry of its previous code and the match's first symbol (R121). -/
def Lags (dict decoded : List (List Nat)) (m : List Nat) : Option (List Nat) → Prop
  | none => decoded = dict ∧ dict.length = 16
  | some p => p ≠ [] ∧ dict = addEntry decoded (p ++ [m.headD 0])

/-- A match that grows leaves its first symbol. -/
theorem Lags.extend {dict decoded : List (List Nat)} {m : List Nat} {prev : Option (List Nat)} (h : Lags dict decoded m prev)
    (hm : m ≠ []) (s : Nat) : Lags dict decoded (m ++ [s]) prev := by
  cases prev with
  | none => exact h
  | some p =>
    obtain ⟨x, u, rfl⟩ := List.exists_cons_of_ne_nil hm
    exact h

/-- Where a match ends, the decoder has the encoder's dictionary without the entry just made. -/
theorem lags_restart (dict : List (List Nat)) {m : List Nat} (hm : m ≠ []) (s : Nat) :
    Lags (addEntry dict (m ++ [s])) dict [s] (some m) := ⟨hm, rfl⟩

/-- The decoder takes the code of the encoder's match as that match, and its dictionary becomes the encoder's (R122). The
code may be that of the entry just being made. -/
theorem decodeCodes_of_lags {dict decoded : List (List Nat)} {m : List Nat} {w n : Nat} {prev : Option (List Nat)}
    (h : Matches dict m w) (hlag : Lags dict decoded m prev) (cs out : List Nat) (hroom : out.length + m.length ≤ n) :
    decodeCodes n (w :: cs) decoded prev out = decodeCodes n cs dict (some m) (m.reverse ++ out) := by
  have hfits : ¬n < out.length + m.length := by omega
  cases prev with
  | none =>
    obtain ⟨rfl, hstart⟩ := hlag
    have hw : ¬15 < w := by have := (List.getElem?_eq_some_iff.mp h.entry).1; omega
    have hstring : decoded.getD w [] = m := by rw [List.getD_eq_getElem?_getD, h.entry, Option.getD_some]
    simp only [decodeCodes, if_neg hw, hstring, if_neg hfits]
  | some p =>
    obtain ⟨hp, rfl⟩ := hlag
    obtain ⟨hlegal, hstring⟩ : ¬(decoded.length < w ∨ (w = decoded.length ∧ 4096 ≤ decoded.length)) ∧
        (if w = decoded.length then p ++ [p.headD 0] else decoded.getD w []) = m := by
      rcases getElem?_addEntry_cases h.entry with hold | ⟨rfl, hfree, hnew⟩
      · have hw : w < decoded.length := (List.getElem?_eq_some_iff.mp hold).1
        exact ⟨by omega, by rw [if_neg hw.ne, List.getD_eq_getElem?_getD, hold, Option.getD_some]⟩
      · have hhead : m.headD 0 = p.headD 0 := by
          obtain ⟨x, u, rfl⟩ := List.exists_cons_of_ne_nil hp
          rw [hnew]
          rfl
        exact ⟨by omega, by rw [if_pos rfl, ← hhead, ← hnew]⟩
    simp only [decodeCodes, if_neg hlegal, hstring, if_neg hfits]
    rfl

/-- Decoding what the greedy parse emits gives what was decoded before, the current match and the symbols that follow. -/
theorem decodeCodes_greedyCodes {t : List Nat} (ht : ∀ s ∈ t, s < 16) {dict decoded : List (List Nat)} {m : List Nat}
    {w n : Nat} {prev : Option (List Nat)} {out : List Nat} (h : Matches dict m w) (hlag : Lags dict decoded m prev)
    (hn : out.length + m.length + t.length = n) :
    decodeCodes n (greedyCodes t dict m w) decoded prev out = .ok (out.reverse ++ m ++ t) := by
  induction t generalizing dict decoded m w prev out with
  | nil =>
    rw [List.length_nil, Nat.add_zero] at hn
    have hall : (m.reverse ++ out).length = n := by rw [List.length_append, List.length_reverse, Nat.add_comm, hn]
    rw [greedyCodes, decodeCodes_of_lags h hlag [] out hn.le, decodeCodes, if_pos hall]
    simp
  | cons s t ih =>
    obtain ⟨hs, ht'⟩ := List.forall_mem_cons.mp ht
    rw [List.length_cons] at hn
    cases hfind : dict.findIdx? (fun x => x == m ++ [s]) with
    | some c =>
      rw [greedyCodes_of_found t w hfind,
        ih ht' (h.extend (by simp) hfind) (hlag.extend h.nonempty s) (by simp; omega)]
      simp
    | none =>
      rw [greedyCodes_of_new t w hfind, decodeCodes_of_lags h hlag _ out (by omega),
        ih ht' (h.restart hs _) (lags_restart dict h.nonempty s) (by simp; omega)]
      simp

/-! ### The block a compressor emits (R129) -/

/-- A body of packed codes, not longer than the stored form's, decodes to what its codes decode to, whatever parse made them
(R123). -/
theorem decodeBlock_frameBlock_packCodes {syms cs : List Nat} {crc : Nat} (hpos : 1 ≤ syms.length)
    (hmax : syms.length ≤ 262144) (hcrc : crc < 2 ^ 32) (hcs : ∀ c ∈ cs, c < 4096)
    (hlen : (packCodes cs).length ≤ (syms.length + 1) / 2)
    (hdecode : decodeCodes syms.length cs dictStart none [] = .ok syms) :
    decodeBlock (frameBlock 0 syms.length (packCodes cs) crc) syms.length = .ok { symbols := syms, trailer := crc } := by
  have hsome : 0 < cs.length := by
    rw [List.length_pos_iff]
    rintro rfl
    rw [decodeCodes, List.length_nil, if_neg (by omega)] at hdecode
    cases hdecode
  have hbody := length_packCodes cs
  have hcount := count_packCodes cs
  rw [decodeBlock_frameBlock_coded hpos hmax hcrc (by omega) hlen (by omega)
    (fun hodd => padding_packCodes cs hcs (hcount ▸ hodd)), hcount, bodyCodes_packCodes cs hcs, hdecode]
  rfl

/-- A coded block not longer than the stored form decodes to its symbols, with the CRC of its trailer. -/
theorem decodeBlock_codedBlock {s : Nat} {t : List Nat} (hmax : (s :: t).length ≤ 262144) (hsyms : ∀ x ∈ s :: t, x < 16)
    (hshort : (codedBlock (s :: t)).length ≤ (storedBlock (s :: t)).length) :
    decodeBlock (codedBlock (s :: t)) (s :: t).length = .ok { symbols := s :: t, trailer := symbolCrc (s :: t) } := by
  obtain ⟨hs, ht⟩ := List.forall_mem_cons.mp hsyms
  have hstart := matches_dictStart hs
  have hdecode : decodeCodes (s :: t).length (greedyCodes t dictStart [s] s) dictStart none [] = .ok (s :: t) :=
    decodeCodes_greedyCodes ht hstart ⟨rfl, rfl⟩ (by simp; omega)
  rw [storedBlock_eq, codedBlock_cons, length_frameBlock, length_frameBlock, length_packSymbols] at hshort
  rw [codedBlock_cons]
  exact decodeBlock_frameBlock_packCodes (by simp) hmax (symbolCrc_lt _) (greedyCodes_lt ht hstart) (by omega) hdecode

/-- Settles O23: the coded form is emitted only where it is shorter than the stored form, and either form decodes to the
symbols. -/
theorem compressedBlockDecodesToItsSymbols : Obligations.CompressedBlockDecodesToItsSymbols := by
  intro syms hpos hmax hall
  have hsyms : ∀ x ∈ syms, x < 16 := by simpa using hall
  obtain ⟨s, t, rfl⟩ := List.exists_cons_of_length_pos hpos
  unfold compressBlock
  split
  next hcoded =>
    have hshort : (codedBlock (s :: t)).length < (storedBlock (s :: t)).length := of_decide_eq_true hcoded
    exact ⟨decodeBlock_codedBlock hmax hsyms hshort.le, hshort.le⟩
  next => exact ⟨storedBlockDecodesToItsSymbols (s :: t) hpos hmax hall, le_refl _⟩

end Sys2Proof.Machine
end

section
open Sys2Proof
namespace Sys2Proof.Machine

/-! ### The shares of the siblings of a column (R138) -/

/-- The healthy ones of k siblings under an effective mask, ascending. -/
def healthySiblings (k msk : Nat) : List Nat := (List.range k).filter fun r => bitOf msk r

theorem mem_healthySiblings {k msk r : Nat} : r ∈ healthySiblings k msk ↔ r < k ∧ bitOf msk r = true := by
  simp [healthySiblings]

theorem nodup_healthySiblings (k msk : Nat) : (healthySiblings k msk).Nodup := List.nodup_range.filter _

theorem any_bitOf_iff (k msk : Nat) : (List.range k).any (fun r => bitOf msk r) = true ↔ healthySiblings k msk ≠ [] := by
  simp [healthySiblings]

section
variable (w k v c msk : Nat) (l : Int)

theorem splitShare_level_zero (r : Nat) : splitShare w k 0 c l msk r = 0 := by simp [splitShare]

theorem splitShare_unhealthy {r : Nat} (hr : bitOf msk r = false) : splitShare w k v c l msk r = 0 := by simp [splitShare, hr]

variable {k v msk}

/-- An only healthy sibling takes the whole level. -/
theorem splitShare_only {a : Nat} (hone : healthySiblings k msk = [a]) : splitShare w k v c l msk a = v := by
  have ha : bitOf msk a = true := (mem_healthySiblings.mp (hone ▸ List.mem_singleton_self a)).2
  rw [healthySiblings] at hone
  by_cases hv : v = 0 <;> simp [splitShare, hone, ha, hv]

/-- The healthy sibling q places behind the one that the hash x chooses. -/
def chosenSibling (k msk x q : Nat) : Nat :=
  (healthySiblings k msk).getD ((x % (healthySiblings k msk).length + q) % (healthySiblings k msk).length) 0

/-- Of two healthy siblings or more the one that the hash of column and line chooses takes SPLIT_A, and the next SPLIT_B. -/
theorem splitShare_of_two (hv : v ≠ 0) (htwo : 2 ≤ (healthySiblings k msk).length) :
    ∃ x, ∀ r, bitOf msk r = true → splitShare w k v c l msk r =
      if r = chosenSibling k msk x 0 then splitA w v else if r = chosenSibling k msk x 1 then splitB w v else 0 := by
  have hsome : (healthySiblings k msk).length ≠ 0 := by omega
  have hmore : (healthySiblings k msk).length ≠ 1 := by omega
  simp only [chosenSibling, Nat.add_zero, Nat.mod_mod]
  exact ⟨_, fun r hr => (if_neg (not_or.mpr ⟨hv, not_or.mpr ⟨hsome, by simp [hr]⟩⟩)).trans (if_neg hmore)⟩

theorem chosenSibling_mem (x q : Nat) (hany : healthySiblings k msk ≠ []) :
    chosenSibling k msk x q ∈ healthySiblings k msk := by
  have hlt := Nat.mod_lt (x % (healthySiblings k msk).length + q) (List.length_pos_iff.mpr hany)
  rw [chosenSibling, List.getD_eq_getElem _ _ hlt]
  exact List.getElem_mem hlt

theorem chosenSibling_ne (x : Nat) (htwo : 2 ≤ (healthySiblings k msk).length) :
    chosenSibling k msk x 0 ≠ chosenSibling k msk x 1 := by
  have hpos : 0 < (healthySiblings k msk).length := by omega
  rw [chosenSibling, chosenSibling, List.getD_eq_getElem _ _ (Nat.mod_lt _ hpos), List.getD_eq_getElem _ _ (Nat.mod_lt _ hpos),
    Ne, (nodup_healthySiblings k msk).getElem_inj_iff, Nat.add_zero, Nat.mod_mod]
  generalize hq : x % (healthySiblings k msk).length = q
  have hlt : q < (healthySiblings k msk).length := hq ▸ Nat.mod_lt _ hpos
  obtain hnext | hnext : q + 1 < (healthySiblings k msk).length ∨ q + 1 = (healthySiblings k msk).length := by omega
  · rw [Nat.mod_eq_of_lt hnext]; omega
  · rw [hnext, Nat.mod_self]; omega

theorem sum_splitShare_of_one {a : Nat} (hone : healthySiblings k msk = [a]) :
    ∑ r ∈ Finset.range k, splitShare w k v c l msk r = v := by
  have hmem (r) : r < k ∧ bitOf msk r = true ↔ r = a := by rw [← mem_healthySiblings, hone, List.mem_singleton]
  rw [Finset.sum_eq_single a, splitShare_only w c l hone]
  · intro r hr hra
    refine splitShare_unhealthy w k v c msk l (Bool.eq_false_iff.mpr fun hbit => hra ?_)
    exact (hmem r).mp ⟨Finset.mem_range.mp hr, hbit⟩
  · exact fun h => absurd (Finset.mem_range.mpr ((hmem a).mpr rfl).1) h

theorem sum_splitShare_of_two (hsplit : splitA w v + splitB w v = v) (hv : v ≠ 0) (htwo : 2 ≤ (healthySiblings k msk).length) :
    ∑ r ∈ Finset.range k, splitShare w k v c l msk r = v := by
  obtain ⟨x, hshare⟩ := splitShare_of_two w c l hv htwo
  have hany : healthySiblings k msk ≠ [] := List.length_pos_iff.mp (by omega)
  have hin (q) := mem_healthySiblings.mp (chosenSibling_mem x q hany)
  have hrange (q) : chosenSibling k msk x q ∈ Finset.range k := Finset.mem_range.mpr (hin q).1
  have hne := chosenSibling_ne x htwo
  rw [Finset.sum_eq_add _ _ hne ?rest (absurd (hrange 0)) (absurd (hrange 1)), hshare _ (hin 0).2, if_pos rfl,
    hshare _ (hin 1).2, if_neg hne.symm, if_pos rfl, hsplit]
  intro r _ ⟨hr0, hr1⟩
  cases hr : bitOf msk r with
  | false => exact splitShare_unhealthy w k v c msk l hr
  | true => rw [hshare r hr, if_neg hr0, if_neg hr1]

/-- The shares of k siblings add up to the level where one of them is healthy. -/
theorem sum_splitShare (hsplit : splitA w v + splitB w v = v) (hany : healthySiblings k msk ≠ []) :
    ((List.range k).map fun r => splitShare w k v c l msk r).sum = v := by
  rw [← List.sum_toFinset _ List.nodup_range, List.toFinset_range]
  by_cases hv : v = 0
  · subst hv
    exact Finset.sum_eq_zero fun r _ => splitShare_level_zero w k c msk l r
  obtain hone | htwo : (healthySiblings k msk).length = 1 ∨ 2 ≤ (healthySiblings k msk).length := by
    have := List.length_pos_iff.mpr hany
    omega
  · obtain ⟨a, ha⟩ := List.length_eq_one_iff.mp hone
    exact sum_splitShare_of_one w c l ha
  · exact sum_splitShare_of_two w c l hsplit hv htwo

end

/-- Settles O24: by the number of healthy siblings, of which one takes the whole level or two take its parts. -/
theorem sharesOfALevelAddUp : Obligations.SharesOfALevelAddUp := by
  intro w k v c msk l _ hsplit
  refine ⟨?sum, fun r hr => splitShare_unhealthy w k v c msk l hr, splitShare_level_zero w k c msk l⟩
  case sum =>
    split
    next hany => exact sum_splitShare w c l hsplit ((any_bitOf_iff k msk).mp hany)
    next hnone =>
      refine List.sum_eq_zero fun x hx => ?_
      obtain ⟨r, hr, rfl⟩ := List.mem_map.mp hx
      refine splitShare_unhealthy w k v c msk l (Bool.eq_false_iff.mpr fun hbit => hnone ?_)
      exact List.any_eq_true.mpr ⟨r, hr, hbit⟩

end Sys2Proof.Machine
end

section
open Sys2Proof
namespace Sys2Proof.Machine

/-! ### What an operation leaves, area by area and field by field -/

/-- An operation leaves every area that its reach does not name. -/
theorem Dev.area_of_reach {x : Reach} {d e : Dev} {p : Area} (hx : x.apart = true) (hp : x.areas.contains p = false)
    (h : x.within (x.footprint d) d → (x.footprint d).holds d e) : p.same d e := by
  obtain ⟨hareas, -⟩ := h (Reach.within_footprint hx (List.Subset.refl _) (List.Subset.refl _))
  exact hareas p fun hin => by simp_all [Reach.footprint, Footprint.of]

/-- What a reach names of a register lies outside a field. -/
def Reach.leaves (r : Reg) (l w : Nat) : Reach → Bool
  | .field q _ l' w' => q != r || decide (l' + w' ≤ l) || decide (l + w ≤ l')
  | .page _ => !synPage.contains r
  | .both a b => a.leaves r l w && b.leaves r l w
  | _ => true

/-- The footprint that names whole registers for the fields of a reach, but of one register the bits beside a field. -/
def Reach.footprintBeside (x : Reach) (r : Reg) (l w : Nat) (d : Dev) : Footprint :=
  .of x.areas (Touch.bits r (~~~BitVec.ofNat 64 (fieldMask l w)) :: (x.regs.filter (· != r)).map Touch.all) [d.logRange] []

section
variable {x : Reach} {r : Reg} {l w : Nat} {d e : Dev}

/-- The bits of one register beside a field are those that its touch covers. -/
theorem Touch.covers_beside (r q : Reg) (k b : Nat) :
    (Touch.bits r (~~~BitVec.ofNat 64 (fieldMask l w))).covers q k b =
      (decide (r = q) && (decide (b < 64) && !decide (l ≤ b ∧ b < l + w))) := by
  refine congrArg₂ and (Bool.and_true _) ?_
  change (~~~BitVec.ofNat 64 (fieldMask l w)).getLsbD b = _
  rw [BitVec.getLsbD_not, BitVec.getLsbD_ofNat]
  by_cases h64 : b < 64
  · rw [fieldMask, Nat.testBit_mod_two_pow, Nat.testBit_shiftLeft, Nat.testBit_two_pow_sub_one]
    grind
  · simp [h64]

/-- A bit of another register that a reach names may change. -/
theorem Reach.covers_footprintBeside {q : Reg} {k b : Nat} (hq : q ∈ x.regs) (hb : b < 64)
    (hout : q ≠ r ∨ b < l ∨ l + w ≤ b) :
    (x.footprintBeside r l w d).touches.any (fun t => t.covers q k b) = true := by
  by_cases hqr : q = r
  · subst hqr
    refine List.any_eq_true.mpr ⟨_, List.mem_cons_self, ?_⟩
    rw [Touch.covers_beside]
    grind
  · have hmem : q ∈ x.regs.filter (· != r) := List.mem_filter.mpr ⟨hq, by simpa using hqr⟩
    exact List.any_eq_true.mpr
      ⟨_, List.mem_cons_of_mem _ (List.mem_map_of_mem hmem), by simp [Touch.covers_all, hb]⟩

/-- What a part of a reach names is within the footprint of the whole beside a field that the part leaves. -/
theorem Reach.within_footprintBeside {y : Reach} (hx : x.apart = true) (hlog : r ≠ .qlLogBase) (hy : y.leaves r l w = true)
    (ha : y.areas ⊆ x.areas) (hr : y.regs ⊆ x.regs) : y.within (x.footprintBeside r l w d) d := by
  induction y with
  | nothing => trivial
  | area p => exact ha List.mem_cons_self
  | field q i l' w' =>
    intro k _ b hl hw hb
    refine Reach.covers_footprintBeside (hr List.mem_cons_self) hb ?_
    simp only [Reach.leaves, Bool.or_eq_true, bne_iff_ne, decide_eq_true_eq] at hy
    grind
  | log =>
    refine ⟨List.mem_cons_self, fun b => List.all_eq_true.mpr fun t ht => ?_⟩
    obtain rfl | ht := List.mem_cons.mp ht
    · simp [Touch.covers_beside, hlog]
    · obtain ⟨q, hmem, rfl⟩ := List.mem_map.mp ht
      have hne : q ≠ .qlLogBase := fun h =>
        (Reach.not_mem_of_apart hx).2.2 .qlLogBase List.mem_cons_self (h ▸ (List.mem_filter.mp hmem).1)
      simp [Touch.covers_all, hne]
  | page i =>
    intro n _ k q j high hpage b hb
    have hq : q ∈ synPage := (synPage_of_pageReg hpage).1
    refine Reach.covers_footprintBeside (hr hq) hb (.inl ?_)
    rintro rfl
    simp [Reach.leaves, hq] at hy
  | both a b iha ihb =>
    simp only [Reach.leaves, Bool.and_eq_true] at hy
    exact ⟨iha hy.1 (List.append_subset.mp ha).1 (List.append_subset.mp hr).1,
      ihb hy.2 (List.append_subset.mp ha).2 (List.append_subset.mp hr).2⟩

/-- An operation leaves every field that its reach leaves. -/
theorem Dev.fld_of_reach (hx : x.apart = true) (hlog : r ≠ .qlLogBase) (hl : x.leaves r l w = true)
    (h : x.within (x.footprintBeside r l w d) d → (x.footprintBeside r l w d).holds d e) (k : Nat) :
    e.fld r k l w = d.fld r k l w := by
  obtain ⟨-, htouched, -⟩ := h (Reach.within_footprintBeside hx hlog hl (List.Subset.refl _) (List.Subset.refl _))
  refine Nat.eq_of_testBit_eq fun i => ?_
  rw [Dev.fld, Dev.fld, testBit_bits, testBit_bits]
  by_cases hi : i < w
  · refine congrArg (decide (i < w) && ·) (htouched r k (l + i) (List.all_eq_true.mpr fun t ht => ?_))
    obtain rfl | ht := List.mem_cons.mp ht
    · rw [Touch.covers_beside]
      simp [hi]
    · obtain ⟨q, hmem, rfl⟩ := List.mem_map.mp ht
      have hne : q ≠ r := by simpa using (List.mem_filter.mp hmem).2
      simp [Touch.covers_all, hne]
  · simp [hi]

theorem Dev.bit_of_reach (hx : x.apart = true) (hlog : r ≠ .qlLogBase) (hl : x.leaves r l 1 = true)
    (h : x.within (x.footprintBeside r l 1 d) d → (x.footprintBeside r l 1 d).holds d e) (k : Nat) :
    e.bit r k l = d.bit r k l := congrArg (· == 1) (Dev.fld_of_reach hx hlog hl h k)

end
end Sys2Proof.Machine
end

section
open Sys2Proof
namespace Sys2Proof.Machine

theorem Beside.fireIndex {d e : Dev} (h : Beside d e) : e.fireIndex = d.fireIndex := h.get (by decide) 0

theorem Beside.firing {d e : Dev} (h : Beside d e) : e.firing = d.firing := h.bit (by decide) 0 0

/-! ### A health command accepted (R141, R144, R145)

Its entry becomes the last pending one; while nothing fires every pending entry then folds. What follows judges dead columns,
logs, spoils and tells the cascade: it leaves the synthesis and EMB_HC. -/

section
variable {F : Footprint} {d e : Dev}

def healthResultReach : Reach := .of [.reg .embHcResult none]

theorem Footprint.holds.healthResult {fe : Nat} {lh low : Int} (he : F.holds d e) (h : healthResultReach.within F d) :
    F.holds d (e.healthResult fe lh low) :=
  have ⟨hEmbHcResult, _⟩ := h
  (((he.put hEmbHcResult .any).putInt hEmbHcResult .any).putInt hEmbHcResult .any).putInt hEmbHcResult .any

/-- The partner and the journal are told of an entry. -/
def Dev.healthNews (d : Dev) (x : PendHealth) : Dev := (d.mirror (.health x)).journal (.health x)

def healthNewsReach : Reach := .of [mirrorReach, journalReach]

theorem Footprint.holds.healthNews {x : PendHealth} (he : F.holds d e) (h : healthNewsReach.within F d) :
    F.holds d (e.healthNews x) :=
  have ⟨hmirror, hjournal, _⟩ := h
  (he.mirror hmirror).journal hjournal

/-- An entry becomes the last pending one. -/
def Dev.addPend (d : Dev) (x : PendHealth) (low : Int) : Dev :=
  Dev.notePend
    { d with syn := { d.syn with pend := d.syn.pend ++ [x] }, ins := { d.ins with health := d.ins.health ++ [(x, low)] } }

def addPendReach : Reach := .of [.area .syn, .area .ins, notePendReach]

theorem Footprint.holds.addPend {x : PendHealth} {low : Int} (he : F.holds d e) (h : addPendReach.within F d) :
    F.holds d (e.addPend x low) := by
  obtain ⟨hsyn, hins, hnotePend, -⟩ := h
  have hboth {v w} : F.holds d { e with syn := v, ins := w } := (he.inSyn hsyn (v := v)).inIns hins (v := w)
  exact hboth.notePend hnotePend

/-- While nothing fires every pending entry folds at once. -/
def Dev.foldIdle (d : Dev) : Dev := if d.firing then d else d.foldAll

theorem Footprint.holds.foldIdle (he : F.holds d e) (h : foldAllReach.within F d) : F.holds d e.foldIdle :=
  holds_ite he (he.foldAll h)

def noteDeadReach : Reach := .of [.area .raised, qlLogReach, .area .ql]

theorem Footprint.holds.noteDead {f : Nat} {m : HealthMask} {line : Int} (he : F.holds d e) (h : noteDeadReach.within F d) :
    F.holds d (e.noteDead f m line) :=
  have ⟨hraised, hqlLog, hql, _⟩ := h
  have hd1 := he.raise hraised
  holds_ite he ((holds_ite (hd1.foldl fun _ _ ho => ho.qlLog hqlLog) hd1).inQl hql)

def noteLostReach : Reach := .of [qlLogReach, spoilReach]

theorem Footprint.holds.noteLost {f : Nat} {m : HealthMask} {low lh : Int} (he : F.holds d e) (h : noteLostReach.within F d) :
    F.holds d (e.noteLost f m low lh) :=
  have ⟨hqlLog, hspoil, _⟩ := h
  have hlogged := he.qlLog hqlLog
  holds_ite (holds_ite (hlogged.spoilColumns hspoil) hlogged) he

/-- What follows: the loop forgets, dead columns are judged, what is lost is logged and spoiled, and the cascade is told. -/
def Dev.healthTell (d : Dev) (x : PendHealth) (low : Int) : Dev :=
  let d4 := ((d.loopForget x.fluid x.mask).noteRestored x.fluid x.mask x.line).noteDead x.fluid x.mask x.line
  let d5 := d4.noteLost x.fluid x.mask low x.line
  if d5.casFeeds x.fluid then
    d5.casSend 255 0 0x54 ([x.mask.set <<< 20 + x.mask.clr <<< 16 + x.fluid, x.mask.colLo, x.mask.colHi] ++ lineWords x.line ++
      lineWords low ++ lineWords (x.line - 1))
  else d5

def healthTellReach : Reach := .of [.area .ql, noteDeadReach, noteLostReach, casSendReach]

theorem Footprint.holds.healthTell {x : PendHealth} {low : Int} (he : F.holds d e) (h : healthTellReach.within F d) :
    F.holds d (e.healthTell x low) :=
  have ⟨hql, hnoteDead, hnoteLost, hcasSend, _⟩ := h
  have hforgot : F.holds d (e.loopForget x.fluid x.mask) := he.inQl hql
  have hrestored : F.holds d ((e.loopForget x.fluid x.mask).noteRestored x.fluid x.mask x.line) := hforgot.inQl hql
  have hlost := (hrestored.noteDead hnoteDead (f := x.fluid) (m := x.mask) (line := x.line)).noteLost hnoteLost
  holds_ite (hlost.casSend hcasSend) hlost

/-- What follows the result of an accepted command. -/
def Dev.healthEnter (d : Dev) (x : PendHealth) (low : Int) : Dev := (((d.healthNews x).addPend x low).foldIdle).healthTell x low

def healthEnterReach : Reach := .of [healthNewsReach, addPendReach, foldAllReach, healthTellReach]

theorem Footprint.holds.healthEnter {x : PendHealth} {low : Int} (he : F.holds d e) (h : healthEnterReach.within F d) :
    F.holds d (e.healthEnter x low) :=
  have ⟨hhealthNews, haddPend, hfoldAll, hhealthTell, _⟩ := h
  (((he.healthNews hhealthNews).addPend haddPend).foldIdle hfoldAll).healthTell hhealthTell

theorem Dev.healthAccept_eq (d : Dev) (f : Nat) (h : HealthMask) (line : Option Int) :
    ∃ x low, x.fluid = f ∧ x.mask = h ∧ x.fireA = d.fireIndex ∧
      d.healthAccept f h line = (d.healthResult (d.fireIndex + 16) x.line low).healthEnter x low :=
  ⟨{ fluid := f, mask := h, line := _, fireA := d.fireIndex, passAfter := d.get .cmpPassNext 0, folded := [] }, _, rfl, rfl, rfl,
    rfl⟩

def healthAcceptReach : Reach := .of [healthResultReach, healthEnterReach]

theorem Footprint.holds.healthAccept {f : Nat} {m : HealthMask} {line : Option Int} (he : F.holds d e)
    (h : healthAcceptReach.within F d) : F.holds d (e.healthAccept f m line) := by
  obtain ⟨hhealthResult, hhealthEnter, -⟩ := h
  obtain ⟨x, low, -, -, -, hx⟩ := e.healthAccept_eq f m line
  exact hx ▸ (he.healthResult hhealthResult).healthEnter hhealthEnter

end
section
variable (d : Dev)

theorem Dev.pend_addPend (x : PendHealth) (low : Int) :
    ((d.healthNews x).addPend x low).syn.pend = d.syn.pend ++ [x] := by
  have hsyn : (d.healthNews x).syn = d.syn :=
    Dev.area_of_reach (p := .syn) (x := healthNewsReach) rfl rfl (Footprint.holds_refl _ d).healthNews
  exact congrArg (fun y => y.pend ++ [x]) hsyn

theorem Dev.firing_addPend (x : PendHealth) (low : Int) : ((d.healthNews x).addPend x low).firing = d.firing :=
  Dev.bit_of_reach (x := .of [healthNewsReach, addPendReach]) rfl (by decide) rfl
    (fun ⟨hhealthNews, haddPend, _⟩ => ((Footprint.holds_refl _ d).healthNews hhealthNews).addPend haddPend) 0

theorem Dev.syn_healthTell (x : PendHealth) (low : Int) : (d.healthTell x low).syn = d.syn :=
  Dev.area_of_reach (p := .syn) (x := healthTellReach) rfl rfl (Footprint.holds_refl _ d).healthTell

/-- The entry is the last pending one while firing, or none is pending. -/
theorem Dev.pend_healthEnter (x : PendHealth) (low : Int) :
    (d.healthEnter x low).syn.pend = if d.firing then d.syn.pend ++ [x] else [] := by
  rw [Dev.healthEnter, Dev.syn_healthTell, Dev.foldIdle, d.firing_addPend]
  split
  · exact d.pend_addPend x low
  · rfl

theorem Dev.healthResult_beside (fe : Nat) (lh low : Int) : Beside d (d.healthResult fe lh low) :=
  .of_reach (x := healthResultReach) rfl (Footprint.holds_refl _ d).healthResult

/-- The entry of an accepted command, as it is pending. -/
theorem Dev.pend_healthAccept (f : Nat) (h : HealthMask) (line : Option Int) :
    ∃ x, x.fluid = f ∧ x.mask = h ∧ x.fireA = d.fireIndex ∧
      (d.healthAccept f h line).syn.pend = if d.firing then d.syn.pend ++ [x] else [] := by
  obtain ⟨x, low, hf, hm, ha, hx⟩ := d.healthAccept_eq f h line
  refine ⟨x, hf, hm, ha, ?_⟩
  rw [hx, Dev.pend_healthEnter, (d.healthResult_beside _ _ _).firing]
  rfl

/-- EMB_HC_RESULT shows F_e. -/
theorem Dev.get_healthResult (fe : Nat) (lh low : Int) : (d.healthResult fe lh low).get .embHcResult 0 = fe % 2 ^ 48 := by
  have hput (q : Dev) (j : Nat) (v : Int) (hj : 0 ≠ j) : (q.putInt .embHcResult j v).get .embHcResult 0 = q.get .embHcResult 0 :=
    congrArg BitVec.toNat (q.rd_wr_ne _ fun h => hj (congrArg Prod.snd h))
  rw [Dev.healthResult, hput _ _ _ (by decide), hput _ _ _ (by decide), hput _ _ _ (by decide), Dev.get_put_same]
  omega

/-- EMB_HC_RESULT shows the fire 16 ahead. -/
theorem Dev.result_healthAccept (f : Nat) (h : HealthMask) (line : Option Int) :
    (d.healthAccept f h line).get .embHcResult 0 = (d.fireIndex + 16) % 2 ^ 48 := by
  obtain ⟨x, low, -, -, -, hx⟩ := d.healthAccept_eq f h line
  rw [hx, Dev.get_of_reach (x := healthEnterReach) rfl rfl (Footprint.holds_refl _ _).healthEnter, Dev.get_healthResult]

/-- CODE stays while a command is accepted. -/
theorem Dev.code_healthAccept (f : Nat) (h : HealthMask) (line : Option Int) :
    (d.healthAccept f h line).fld .embHcStatus 0 0 16 = d.fld .embHcStatus 0 0 16 :=
  Dev.fld_of_reach (x := healthAcceptReach) rfl (by decide) rfl (Footprint.holds_refl _ d).healthAccept 0

/-! ### HEALTH_GO (R492)

Setting HC_DONE leaves the synthesis, EMB_HC and the code that a requester reads. -/

theorem Dev.syn_hcDone : (d.event .embGlbEvent 0 4).syn = d.syn :=
  Dev.area_of_reach (p := .syn) (x := eventReach .embGlbEvent none 4) rfl rfl fun h => (Footprint.holds_refl _ d).event h .any

theorem Dev.get_hcDone {r : Reg} (hr : (eventReach .embGlbEvent none 4).regs.contains r = false) (k : Nat) :
    (d.event .embGlbEvent 0 4).get r k = d.get r k :=
  Dev.get_of_reach (x := eventReach .embGlbEvent none 4) rfl hr (fun h => (Footprint.holds_refl _ d).event h .any) k

theorem Dev.fld_hcDone {r : Reg} (hr : (eventReach .embGlbEvent none 4).regs.contains r = false) (k l w : Nat) :
    (d.event .embGlbEvent 0 4).fld r k l w = d.fld r k l w := congrArg (bits · l w) (d.get_hcDone hr k)

end

/-- The controller with the word of a health command stored. -/
def Dev.hcStore (d : Dev) (value : Word) : Dev := d.wr .embHcCtrl 0 (value.setWidth 64 &&& Reg.embHcCtrl.desc.rw)

/-- The line that a health command names, if it does not ask for the earliest. -/
def Dev.hcLine (d : Dev) : Option Int := if d.bit .embHcCtrl 0 30 then none else some (d.getInt .embHcLine 0)

/-- CODE shows the answer, and the command is refused with it or accepted. -/
def Dev.hcAnswer (d : Dev) (req : Nat) (line : Option Int) : Option ECode → Dev
  | some er => (d.setFld .embHcStatus 0 0 16 er.code.toNat).refuse req er
  | none => (d.setFld .embHcStatus 0 0 16 0).healthAccept (d.fld .embHcCtrl 0 0 4) d.hcMask line

theorem healthGo_standby {s : State} (req : Fin 5) (value : Word) (hs : s.dev.isStandby = true) :
    Yields (.healthGo req value) s (s.dev.refuse req.val .ptnStandby) := by
  change execHealthGo req value s = _
  rw [execHealthGo, State.run_eq, if_pos hs]

/-- Why the stored command is refused, if it is. -/
def Dev.hcRefusal (d : Dev) : Option ECode := d.healthRefusal (d.fld .embHcCtrl 0 0 4) d.hcMask d.hcLine

theorem healthGo_answers {s : State} (req : Fin 5) {value : Word} {answer : Option ECode} (hs : s.dev.isStandby = false)
    (h : (s.dev.hcStore value).hcRefusal = answer) :
    Yields (.healthGo req value) s
      (((s.dev.hcStore value).hcAnswer req.val (s.dev.hcStore value).hcLine answer).event .embGlbEvent 0 4) := by
  subst h
  change execHealthGo req value s = _
  rw [execHealthGo, State.run_eq, if_neg (by simp [hs])]
  rfl

/-- A command that yields a controller completes with what is true of it. -/
theorem Yields.completes {c : Instr} {s : State} {e : Dev} {P : Dev → Prop} (h : Yields c s e) (hP : P e) : Completes c s P :=
  ⟨_, h, rfl, hP⟩

section
variable (d : Dev) (req : Nat) (line : Option Int)

/-- Storing the word and CODE is beside web position. -/
theorem Dev.hcStore_beside (value : Word) (code : Nat) : Beside d ((d.hcStore value).setFld .embHcStatus 0 0 16 code) :=
  (d.wr_beside _ _ rfl).trans (Dev.put_beside _ _ _ rfl)

theorem Dev.hcAnswer_refused (er : ECode) :
    (d.hcAnswer req line (some er)).fld .embHcStatus 0 0 16 = er.code.toNat % 65536 ∧
      (d.hcAnswer req line (some er)).get .glbLastErr req = er.code.toNat ∧ (d.hcAnswer req line (some er)).syn = d.syn := by
  refine ⟨?_, Dev.get_refuse _ _ _, rfl⟩
  have hcode : (d.hcAnswer req line (some er)).get .embHcStatus 0 =
      (d.setFld .embHcStatus 0 0 16 er.code.toNat).get .embHcStatus 0 := Dev.get_put_reg _ _ _ _ (by decide)
  rw [Dev.fld, hcode]
  exact Dev.fld_setFld_same _ _ _ _ _ _ (by decide)

theorem Dev.hcAnswer_accepted (value : Word) :
    let e := (d.hcStore value).hcAnswer req line none
    e.fld .embHcStatus 0 0 16 = 0 ∧ e.get .embHcResult 0 = (d.fireIndex + 16) % 2 ^ 48 ∧
      if d.firing then e.syn.pend.map (fun h => (h.fluid, h.mask, h.fireA)) =
        d.syn.pend.map (fun h => (h.fluid, h.mask, h.fireA)) ++
          [((d.hcStore value).fld .embHcCtrl 0 0 4, (d.hcStore value).hcMask, d.fireIndex)]
      else e.syn.pend = [] := by
  have hbeside := d.hcStore_beside value 0
  obtain ⟨x, hf, hm, ha, hpend⟩ := Dev.pend_healthAccept ((d.hcStore value).setFld .embHcStatus 0 0 16 0)
    ((d.hcStore value).fld .embHcCtrl 0 0 4) (d.hcStore value).hcMask line
  rw [hbeside.firing] at hpend
  refine ⟨?code, ?result, ?pend⟩
  case code =>
    rw [Dev.hcAnswer, Dev.code_healthAccept, Dev.fld_setFld_same _ _ _ _ _ _ (by decide)]
    rfl
  case result => rw [Dev.hcAnswer, Dev.result_healthAccept, hbeside.fireIndex]
  case pend =>
    rw [Dev.hcAnswer, hpend]
    split
    · rw [List.map_append, List.map_singleton, hf, hm, ha, hbeside.fireIndex]
      rfl
    · rfl

end

/-- Settles O26: the pending entries come from the acceptance, the code from the store before it, and HC_DONE leaves both. -/
theorem healthCommandsAreAnswered : Obligations.HealthCommandsAreAnswered := by
  refine ⟨fun s req value hs => healthGo_standby req value hs, ?accepted, ?refused⟩
  case accepted =>
    rintro s req value _ _ hs rfl rfl href
    obtain ⟨hcode, hresult, hpend⟩ := s.dev.hcAnswer_accepted req.val (s.dev.hcStore value).hcLine value
    refine (healthGo_answers req hs href).completes ⟨?_, Dev.bit_event_same _ _ _ _ (by decide), ?_, ?_⟩
    · rw [Dev.fld_hcDone _ rfl, hcode]
    · rw [Dev.get_hcDone _ rfl, hresult]
    · rw [Dev.syn_hcDone]
      exact hpend
  case refused =>
    rintro s req value _ _ er hs rfl rfl href
    obtain ⟨hcode, herror, hsyn⟩ := (s.dev.hcStore value).hcAnswer_refused req.val (s.dev.hcStore value).hcLine er
    refine (healthGo_answers req hs href).completes ⟨?_, Dev.bit_event_same _ _ _ _ (by decide), ?_, ?_⟩
    · rw [Dev.fld_hcDone _ rfl, hcode]
    · rw [Dev.get_hcDone _ rfl, herror]
    · rw [Dev.syn_hcDone, hsyn]
      rfl

end Sys2Proof.Machine
end

section
open Sys2Proof
namespace Sys2Proof.Machine

/-! ### What a failing engine runs (R170, R171, Table 6.6) -/

section
variable {F : Footprint} {d e : Dev}

def clearHeadReach : Reach := .of [.area .raised, healthAcceptReach]

theorem Footprint.holds.clearHead {n : Nat} (he : F.holds d e) (h : clearHeadReach.within F d) : F.holds d (e.clearHead n) := by
  obtain ⟨hraised, hhealthAccept, -⟩ := h
  unfold Dev.clearHead
  dsimp only
  split
  · exact he.raise hraised
  · exact he.healthAccept hhealthAccept

def surrenderReach : Reach := .of [mirrorSendReach, .field .ptnSurrender (some 0) 24 8, .area .ptn, setUnfitReach 4, setRoleReach]

theorem Footprint.holds.surrender {cause : Nat} (he : F.holds d e) (h : surrenderReach.within F d) :
    F.holds d (e.surrender cause) :=
  have ⟨hmirrorSend, hPtnSurrender24, hptn, hsetUnfit, hsetRole, _⟩ := h
  have hd2 := ((he.mirrorSend hmirrorSend).setFld hPtnSurrender24 .self).inPtn hptn
  holds_ite (hd2.setRole hsetRole) ((hd2.setUnfit hsetUnfit).setRole hsetRole)

def noSpareReach : Reach := .of [eventReach .embGlbEvent (some 0) 2, .area .raised, surrenderReach, noEngineReach none,
  maskFaultReach, setLinkReach none, clearHeadReach]

theorem Footprint.holds.noSpare {n : Nat} (he : F.holds d e) (h : noSpareReach.within F d) : F.holds d (e.noSpare n) :=
  have ⟨hEmbGlbEvent2, hraised, hsurrender, hnoEngine, hmaskFault, hsetLink, hclearHead, _⟩ := h
  have hd1 := (he.event hEmbGlbEvent2 .self).raise hraised
  have hd2 := (hd1.noEngine hnoEngine .any).maskFault hmaskFault
  holds_ite (hd1.surrender hsurrender) ((holds_ite (hd2.setLink hsetLink .any) hd2).clearHead hclearHead)

/-- What follows once a failing engine is out of service. -/
def engineLossReach : Reach := .of [eventReach .embGlbEvent (some 0) 0, .area .raised, substituteReach, discardRunReach,
  noSpareReach]

theorem Footprint.holds.engineFail {n cause : Nat} (hin : e.bit .embStatus n 31 = false) (he : F.holds d (e.engineOut n cause))
    (h : engineLossReach.within F d) : F.holds d (e.engineFail n cause) := by
  obtain ⟨hEmbGlbEvent0, hraised, hsubstitute, hdiscardRun, hnoSpare, -⟩ := h
  have hd1 := (he.event hEmbGlbEvent0 .self).raise hraised (c := .embFault) (p := n)
  unfold Dev.engineFail
  rw [if_neg (by simp [hin])]
  refine holds_ite hd1 ?_
  split
  · exact hd1.substitute hsubstitute
  · exact (hd1.discardRun hdiscardRun).noSpare hnoSpare

end

/-! ### An engine out of service (Table 6.11) -/

section
variable (d : Dev) (n cause : Nat)

theorem Dev.fld_setFld_num {r : Reg} {k j : Nat} (l w v l' w' : Nat) (h : j ≠ k) :
    (d.setFld r k l w v).fld r j l' w' = d.fld r j l' w' := congrArg (bits · l' w') (d.get_put_num r _ h)

theorem Dev.fld_noteSpares (k l w : Nat) : d.noteSpares.fld .embStatus k l w = d.fld .embStatus k l w :=
  d.fld_setFld_reg _ _ _ _ _ _ _ (by decide)

/-- An engine out of service is so marked, with its CAUSE. -/
theorem Dev.engineOut_marks : (d.engineOut n cause).bit .embStatus n 31 = true ∧
    (d.engineOut n cause).bit .embStatus n 30 = false ∧ (d.engineOut n cause).fld .embStatus n 8 4 = cause % 16 := by
  simp (disch := decide) only [Dev.engineOut, Dev.bit, Dev.fld_noteSpares, Dev.fld_setFld_other, Dev.fld_setBit_other,
    Dev.fld_setFld_same]
  exact ⟨Dev.bit_setBit_same _ _ _ _ _ (by decide), Dev.bit_setBit_same _ _ _ _ _ (by decide), rfl⟩

/-- Other engines stay as they are. -/
theorem Dev.fld_engineOut_ne {j : Nat} (hj : j ≠ n) (l w : Nat) :
    (d.engineOut n cause).fld .embStatus j l w = d.fld .embStatus j l w := by
  simp only [Dev.engineOut, Dev.fld_noteSpares, Dev.setBit, Dev.fld_setFld_num _ _ _ _ _ _ hj]

theorem Dev.spares_congr {d e : Dev} (h : ∀ x, e.bit .embStatus x 30 = d.bit .embStatus x 30) : e.spares = d.spares :=
  List.filter_congr fun x _ => h x

/-- The spare pool stays when an engine outside it goes out of service. -/
theorem Dev.spares_engineOut (h : d.bit .embStatus n 30 = false) : (d.engineOut n cause).spares = d.spares := by
  refine Dev.spares_congr fun x => ?_
  by_cases hx : x = n
  · rw [hx, h, (d.engineOut_marks n cause).2.1]
  · exact congrArg (· == 1) (d.fld_engineOut_ne n cause hx 30 1)

end

/-! ### Cue sequences that run and wait

An event may moderate a core's interrupts, and all else that runs here leaves the cores: so sequences stay. -/

/-- The same sequences run and wait, and the next generation is the same. -/
structure KeepsCues (d e : Dev) : Prop where
  running : e.mgt.running = d.mgt.running
  waiting : e.mgt.waiting = d.mgt.waiting
  lastGeneration : e.mgt.lastGeneration = d.mgt.lastGeneration

section
variable {d e e' : Dev}

theorem KeepsCues.refl (d : Dev) : KeepsCues d d := ⟨rfl, rfl, rfl⟩

theorem KeepsCues.trans (h : KeepsCues d e) (g : KeepsCues e e') : KeepsCues d e' :=
  ⟨g.running.trans h.running, g.waiting.trans h.waiting, g.lastGeneration.trans h.lastGeneration⟩

theorem KeepsCues.of_mgt (h : e.mgt = d.mgt) : KeepsCues d e := ⟨by rw [h], by rw [h], by rw [h]⟩

theorem KeepsCues.ite {c : Prop} [Decidable c] {a b : Dev} (ha : KeepsCues d a) (hb : KeepsCues d b) :
    KeepsCues d (if c then a else b) := by
  split
  · exact ha
  · exact hb

/-- An operation whose reach does not name the cores keeps the sequences. -/
theorem KeepsCues.of_reach {x : Reach} (hx : x.apart = true) (hm : x.areas.contains .mgt = false)
    (h : x.within (x.footprint d) d → (x.footprint d).holds d e) : KeepsCues d e :=
  .of_mgt (Dev.area_of_reach (p := .mgt) hx hm h)

end
section
variable (d : Dev)

theorem Dev.irqNotify_keepsCues (src : Nat) : KeepsCues d (d.irqNotify src) :=
  have hvector (v) : KeepsCues d (d.vecEvent 0 v) := .of_reach (x := vectorReach) rfl rfl (Footprint.holds_refl _ d).vecEvent
  .ite (.refl d) (.ite ⟨rfl, rfl, rfl⟩ (.ite (hvector _) (.refl d)))

theorem Dev.irqPend_keepsCues (src : Nat) (b : Bool) : KeepsCues d (d.irqPend src b) :=
  have hset : KeepsCues d (d.setBit .irqPendSet (src / 32) (src % 32) b) := .of_mgt rfl
  .ite (hset.trans (Dev.irqNotify_keepsCues _ src)) hset

theorem Dev.irqLevel_keepsCues (src : Nat) (lvl : Bool) : KeepsCues d (d.irqLevel src lvl) :=
  have hset : KeepsCues d (d.setBit .irqLevel (src / 32) (src % 32) lvl) := .of_mgt rfl
  .ite (hset.trans (Dev.irqPend_keepsCues _ src lvl)) (.ite (hset.trans (Dev.irqPend_keepsCues _ src true)) hset)

theorem Dev.event_keepsCues (r : Reg) (k i : Nat) : KeepsCues d (d.event r k i) := by
  have hset : KeepsCues d (d.setBit r k i true) := .of_mgt rfl
  unfold Dev.event Dev.refreshEvent
  split
  · exact hset
  · exact hset.trans (Dev.irqLevel_keepsCues _ _ _)

theorem Dev.mgt_cueRefresh : d.cueRefresh.mgt = d.mgt :=
  Dev.area_of_reach (p := .mgt) (x := cueRefreshReach) rfl rfl (Footprint.holds_refl _ d).cueRefresh

/-- A substitution is asked for with the next generation. -/
theorem Dev.waiting_substitute (n port spare : Nat) : (d.substitute n port spare).mgt.waiting =
    d.mgt.waiting ++ [(.subst n spare port, (d.mgt.lastGeneration + 1) % 65536)] := by
  rw [Dev.substitute, Dev.cueRequest, Dev.mgt_cueRefresh]
  rfl

/-- The spare of a substitution leaves the pool. -/
theorem Dev.bit_substitute_spare (n port spare : Nat) : (d.substitute n port spare).bit .embStatus spare 30 = false := by
  refine Eq.trans ?_ (Dev.bit_setBit_same d .embStatus spare 30 false (by decide))
  exact Dev.bit_of_reach (x := .of [noteSparesReach, discardRunReach, cueRequestReach]) rfl (by decide) rfl
    (fun ⟨hnoteSpares, hdiscardRun, hcueRequest, _⟩ =>
      (((Footprint.holds_refl _ _).noteSpares hnoteSpares).discardRun hdiscardRun).cueRequest hcueRequest) spare

/-- A substitution leaves the fields of the engines that its reach leaves. -/
theorem Dev.fld_substitute {l w : Nat} (hl : substituteReach.leaves .embStatus l w = true) (n port spare k : Nat) :
    (d.substitute n port spare).fld .embStatus k l w = d.fld .embStatus k l w :=
  Dev.fld_of_reach (x := substituteReach) rfl (by decide) hl (Footprint.holds_refl _ d).substitute k

end
end Sys2Proof.Machine
end

section
open Sys2Proof
namespace Sys2Proof.Machine

/-! ### Faults and retirement (R170, R171, R173) -/

section
variable (d : Dev) (n cause : Nat)

/-- A failing engine out of service, with the event and the code raised. -/
def Dev.engineLost : Dev := ((d.engineOut n cause).event .embGlbEvent 0 0).raise .embFault n

def engineLostReach : Reach := .of [eventReach .embGlbEvent (some 0) 0, .area .raised]

theorem Dev.fld_engineLost (k l w : Nat) :
    (d.engineLost n cause).fld .embStatus k l w = (d.engineOut n cause).fld .embStatus k l w :=
  congrArg (bits · l w) (Dev.get_of_reach (x := engineLostReach) rfl rfl
    (fun ⟨hEmbGlbEvent0, hraised, _⟩ => ((Footprint.holds_refl _ _).event hEmbGlbEvent0 .self).raise hraised) k)

theorem Dev.engineLost_keepsCues : KeepsCues d (d.engineLost n cause) := by
  have hout : KeepsCues d (d.engineOut n cause) := .of_mgt rfl
  exact (hout.trans (Dev.event_keepsCues _ .embGlbEvent 0 0)).trans (.of_mgt rfl)

theorem Dev.spares_engineLost (h : d.bit .embStatus n 30 = false) : (d.engineLost n cause).spares = d.spares :=
  (Dev.spares_congr fun x => congrArg (· == 1) (d.fld_engineLost n cause x 30 1)).trans (d.spares_engineOut n cause h)

variable {d n}

theorem Dev.engineFail_substitutes {spare : Nat} {rest : List Nat} (hin : d.bit .embStatus n 31 = false)
    (hout : d.bit .embStatus n 30 = false) (hserves : d.bit .embStatus n 29 = true) (hspares : d.spares = spare :: rest) :
    d.engineFail n cause = (d.engineLost n cause).substitute n (d.fld .embStatus n 0 8) spare := by
  have hpool := (d.spares_engineLost n cause hout).trans hspares
  rw [Dev.engineLost] at hpool
  simp only [Dev.engineFail, hin, hserves, hpool, Bool.not_true, Bool.false_eq_true, if_false, Dev.engineLost]

/-- A failing engine goes out of service with its CAUSE, whatever follows. -/
theorem Dev.engineFail_marks (hin : d.bit .embStatus n 31 = false) :
    (d.engineFail n cause).bit .embStatus n 31 = true ∧ (d.engineFail n cause).fld .embStatus n 8 4 = cause % 16 := by
  obtain ⟨hmark, -, hcause⟩ := d.engineOut_marks n cause
  refine ⟨Eq.trans (Dev.bit_of_reach (x := engineLossReach) rfl (by decide) rfl ?_ n) hmark,
    Eq.trans (Dev.fld_of_reach (x := engineLossReach) rfl (by decide) rfl ?_ n) hcause⟩
  · exact (Footprint.holds_refl _ _).engineFail hin
  · exact (Footprint.holds_refl _ _).engineFail hin

theorem Dev.tableCe_engineFail (hin : d.bit .embStatus n 31 = false) (k : Nat) :
    (d.engineFail n cause).get .embTableCe k = d.get .embTableCe k :=
  Dev.get_of_reach (x := .of [engineOutReach none, engineLossReach]) rfl rfl
    (fun ⟨hengineOut, hloss, _⟩ => ((Footprint.holds_refl _ d).engineOut hengineOut .any).engineFail hin hloss) k

end
section
variable (d : Dev) (n corrected : Nat)

theorem Dev.get_tableCorrected : (d.tableCorrected n corrected).get .embTableCe n =
    min (d.get .embTableCe n + corrected) (2 ^ 32 - 1) := by
  rw [Dev.tableCorrected, Dev.add32, Dev.get_put_same, satAdd]
  omega

theorem Dev.fld_tableCorrected (k l w : Nat) : (d.tableCorrected n corrected).fld .embStatus k l w = d.fld .embStatus k l w :=
  congrArg (bits · l w) (Dev.get_put_reg _ _ _ _ (by decide))

theorem Dev.bit_tableCorrected (k i : Nat) : (d.tableCorrected n corrected).bit .embStatus k i = d.bit .embStatus k i :=
  congrArg (· == 1) (d.fld_tableCorrected n corrected k i 1)

theorem Dev.spares_tableCorrected : (d.tableCorrected n corrected).spares = d.spares :=
  Dev.spares_congr fun x => d.bit_tableCorrected n corrected x 30

end
section
variable {s : State} {req : Fin 5} {en : Fin 200}

theorem engineFault_fails (cause : Fin 3) (corrected : Nat) :
    Yields (.engineFault en cause corrected) s ((s.dev.tableCorrected en.val corrected).engineFail en.val (cause.val + 1)) := rfl

theorem retire_substitutes {spare : Nat} {rest : List Nat} (hstill : s.dev.inTransit .engine en.val = false)
    (hin : s.dev.bit .embStatus en.val 31 = false) (hserves : s.dev.bit .embStatus en.val 29 = true)
    (hspares : s.dev.spares = spare :: rest) :
    Yields (.retire req en) s ((s.dev.engineOut en.val 4).substitute en.val (s.dev.fld .embStatus en.val 0 8) spare) := by
  change execRetire req en s = _
  simp [execRetire, hstill, hin, hserves, hspares]

theorem retire_refused (hstill : s.dev.inTransit .engine en.val = false) (hin : s.dev.bit .embStatus en.val 31 = false)
    (hspares : s.dev.spares = []) : Yields (.retire req en) s (s.dev.refuse req.val .embNoSpare) := by
  change execRetire req en s = _
  simp [execRetire, hstill, hin, hspares]

end

/-! ### What the ends of cue sequences reach (Table 17.4) -/

section
variable {F : Footprint} {d e : Dev}

def parkDoneReach : Reach := .of [.area .ten, freeSlotReach none, .reg .xptSession none, contextChangedReach, completeReach]

theorem Footprint.holds.parkDone {s tag k : Nat} (he : F.holds d e) (h : parkDoneReach.within F d) :
    F.holds d (e.parkDone s tag k) := by
  obtain ⟨hten, hfreeSlot, hXptSession, hcontextChanged, hcomplete, -⟩ := h
  have hstored {v} : F.holds d { e with ten := v } := he.inTen hten
  exact (((hstored.freeSlot hfreeSlot .any).put hXptSession .any).contextChanged hcontextChanged).complete hcomplete

def moveSpansReach : Reach := .of [.area .ten, .area .cmp]

theorem Footprint.holds.moveSpans {g s : Nat} (he : F.holds d e) (h : moveSpansReach.within F d) : F.holds d (e.moveSpans g s) := by
  obtain ⟨hten, hcmp, -⟩ := h
  have hboth {v w} : F.holds d { e with ten := v, cmp := w } := (he.inTen hten (v := v)).inCmp hcmp (v := w)
  exact hboth

/-- A park record's page restored into an open slot. -/
def Dev.restorePage (d : Dev) (s : Nat) (page : Tab Reg Nat) : Dev :=
  (page.filter fun x => pageRegs.contains x.1).foldl (fun d x => d.put x.1 s x.2) (d.setFld .tenState s 29 3 0)

def restorePageReach : Reach := clearPageReach none

theorem Reach.within.pageReg {r : Reg} (h : restorePageReach.within F d) (hr : pageRegs.contains r = true) :
    (Reach.reg r none).within F d := h.of_mem (List.mem_map.mpr ⟨r, List.contains_iff_mem.mp hr, rfl⟩)

theorem Footprint.holds.restorePage {s : Nat} {page : Tab Reg Nat} (he : F.holds d e) (h : restorePageReach.within F d) :
    F.holds d (e.restorePage s page) :=
  (he.setFld (h.pageReg (r := .tenState) rfl).field .any).foldl_mem fun _ _ hx ho =>
    ho.put (h.pageReg (List.mem_filter.mp hx).2) .any

def activateDoneReach : Reach := .of [completeReach, .area .ten, restorePageReach, setCtxReach, moveSpansReach,
  contextChangedReach]

theorem Footprint.holds.activateDone {s tag k : Nat} (he : F.holds d e) (h : activateDoneReach.within F d) :
    F.holds d (e.activateDone s tag k) := by
  obtain ⟨hcomplete, hten, hrestorePage, hsetCtx, hmoveSpans, hcontextChanged, -⟩ := h
  have hState {l w} : (Reach.field .tenState none l w).within F d := (hrestorePage.pageReg (r := .tenState) rfl).field
  unfold Dev.activateDone
  split
  · exact he.complete hcomplete
  next r _ =>
    have herased : F.holds d { e with ten := { e.ten with parks := Tab.erase e.ten.parks k } } := he.inTen hten
    have hrestored := herased.restorePage hrestorePage (s := s) (page := r.page)
    refine ((Footprint.holds.moveSpans ?_ hmoveSpans).contextChanged hcontextChanged).complete hcomplete
    refine (((Footprint.holds.setCtx ?_ hsetCtx).setFld hState .any).setBit hState .any).put
      (hrestorePage.pageReg (r := .tenHandle) rfl) .any
    exact holds_ite ((hrestored.setFld hState .any).setFld hState .any) hrestored

def setQueuesReach : Reach := .of [.area .dmc, .reg .dmcStatus none]

theorem Footprint.holds.setQueues {k : Nat} {rs ws : List DramReq} (he : F.holds d e) (h : setQueuesReach.within F d) :
    F.holds d (e.setQueues k rs ws) :=
  have ⟨hdmc, hDmcStatus, _⟩ := h
  ((he.inDmc hdmc).setFld hDmcStatus.field .any).setFld hDmcStatus.field .any

theorem Footprint.holds.thaw {ch : Nat} (he : F.holds d e) (h : setQueuesReach.within F d) : F.holds d (e.thaw ch) :=
  have ⟨_, hDmcStatus, _⟩ := h
  ((((he.setBit hDmcStatus.field .any).setBit hDmcStatus.field .any).setFld hDmcStatus.field .any).setQueues h).setQueues h

def dramFitReach : Reach := .of [setUnfitReach 4, resyncReach]

theorem Footprint.holds.dramFit (he : F.holds d e) (h : dramFitReach.within F d) : F.holds d e.dramFit :=
  have ⟨hsetUnfit, hresync, _⟩ := h
  holds_ite ((he.setUnfit hsetUnfit).resync hresync) he

/-- What brings a group back once its memory is zeroed. -/
def groupOnlineReach : Reach := .of [setQueuesReach, .reg .dmcGrpStatus none, dramFitReach]

theorem Footprint.holds.groupBack {g : Nat} (he : F.holds d (e.zeroGroup g)) (h : groupOnlineReach.within F d) :
    F.holds d (e.groupBack g) :=
  have ⟨hsetQueues, hDmcGrpStatus, hdramFit, _⟩ := h
  ((he.each fun _ _ ho => ho.thaw hsetQueues).put hDmcGrpStatus .any).dramFit hdramFit

end

/-! ### Cue sequences (R435 to R437) -/

section
variable (d : Dev)

theorem Dev.cueMark_keepsCues (k : CueKind) (b : Bool) : KeepsCues d (d.cueMark k b) :=
  .of_reach (x := cueMarkReach) rfl rfl (Footprint.holds_refl _ d).cueMark

theorem Dev.cueRefresh_keepsCues : KeepsCues d d.cueRefresh := .of_mgt d.mgt_cueRefresh

theorem Dev.cueOld_keepsCues (k : CueKind) : KeepsCues d (d.cueOld k) :=
  .of_reach (x := cueOldReach) rfl rfl (Footprint.holds_refl _ d).cueOld

theorem Dev.cueEffect_keepsCues (k : CueKind) : KeepsCues d (d.cueEffect k) := by
  cases k with
  | subst n spare port => exact d.event_keepsCues .embGlbEvent 0 1
  | park s tag k => exact .of_reach (x := parkDoneReach) rfl rfl (Footprint.holds_refl _ d).parkDone
  | activate s tag k => exact .of_reach (x := activateDoneReach) rfl rfl (Footprint.holds_refl _ d).activateDone
  | groupReset g =>
    have hzero : KeepsCues d (d.zeroGroup g) := .of_mgt rfl
    exact hzero.trans (.of_reach (x := groupOnlineReach) rfl rfl (Footprint.holds_refl _ (d.zeroGroup g)).groupBack)

/-- A sequence runs in a place and waits no more. -/
def Dev.runCue (place : Nat) (r : CueRun) : Dev :=
  { d with mgt := { d.mgt with running := Tab.set d.mgt.running place r,
                               waiting := d.mgt.waiting.filter fun w => w.2 != r.generation } }

/-- What a sequence does at its start: its slots are marked, CUE_SEQ shows it, and it begins (R435, R436). -/
def Dev.cueBegun (k : CueKind) : Dev := ((d.cueMark k true).cueRefresh).cueBegin k

theorem Dev.cueBegun_keepsCues (k : CueKind) : KeepsCues d (d.cueBegun k) :=
  ((d.cueMark_keepsCues k true).trans (Dev.cueRefresh_keepsCues _)).trans
    (.of_reach (x := cueBeginReach) rfl rfl (Footprint.holds_refl _ _).cueBegin)

/-- A place of the running sequences is free. -/
def Dev.freeCue (place : Nat) : Dev := { d with mgt := { d.mgt with running := Tab.erase d.mgt.running place } }

/-- A waiting sequence is dropped. -/
def Dev.dropCue (g : Nat) : Dev := { d with mgt := { d.mgt with waiting := d.mgt.waiting.filter fun x => x.2 != g } }

/-- What a sequence does at its end: an abort restores the old state, or its effect takes place (R436, R437). -/
def Dev.cueEnd (r : CueRun) : Dev :=
  let e := (d.cueMark r.kind false).cueRefresh
  if r.abort then e.cueOld r.kind else e.cueEffect r.kind

theorem Dev.cueEnd_keepsCues (r : CueRun) : KeepsCues d (d.cueEnd r) :=
  have hmarked := (d.cueMark_keepsCues r.kind false).trans (Dev.cueRefresh_keepsCues _)
  .ite (hmarked.trans (Dev.cueOld_keepsCues _ _)) (hmarked.trans (Dev.cueEffect_keepsCues _ _))

/-- A waiting sequence that is aborted restores the old state where it was to bring a context back. -/
def Dev.cueGone : CueKind → Dev
  | .activate s tag k => d.cueOld (.activate s tag k)
  | _ => d

theorem Dev.cueGone_keepsCues (k : CueKind) : KeepsCues d (d.cueGone k) := by
  cases k with
  | activate s tag k => exact d.cueOld_keepsCues (.activate s tag k)
  | _ => exact .refl d

end
section
variable {s : State}

theorem cueStart_starts {k : CueKind} {g p : Nat} (hnext : s.dev.cueNext = some (k, g)) (hplace : s.dev.cuePlace = some p) :
    Yields .cueStart s ((s.dev.runCue p { kind := k, generation := g, abort := false }).cueBegun k) := by
  change execCueStart s = _
  simp only [execCueStart, State.run_eq, hnext, hplace]
  rfl

theorem cueStart_idle (hnext : s.dev.cueNext = none) : Yields .cueStart s s.dev := by
  change execCueStart s = _
  simp only [execCueStart, State.run_eq, hnext]

theorem cueDone_ends {place : Fin 8} {r : CueRun} (hr : Tab.find s.dev.mgt.running place.val = some r) :
    Yields (.cueDone place) s
      ((((s.dev.freeCue place.val).cueEnd r).put .cueLastDone 0 r.generation).event .cueEvent 0 0) := by
  change execCueDone place s = _
  simp only [execCueDone, State.run_eq, hr]
  rfl

variable (req : Fin 5) {gen : BitVec 16} (ahead : Bool)

theorem cueAbort_drops {w : CueKind × Nat}
    (hw : s.dev.mgt.waiting.find? (fun w => w.2 == gen.toNat && w.1.abortable) = some w) :
    Yields (.cueAbort req gen ahead) s (((s.dev.dropCue gen.toNat).cueRefresh).cueGone w.1) := by
  change execCueAbort req gen ahead s = _
  simp only [execCueAbort, State.run_eq, hw]
  cases w.1 <;> rfl

theorem cueAbort_refused (hw : s.dev.mgt.waiting.find? (fun w => w.2 == gen.toNat && w.1.abortable) = none)
    (hr : s.dev.mgt.running.find? (fun r => r.2.generation == gen.toNat) = none) :
    Yields (.cueAbort req gen ahead) s (s.dev.refuse req.val .cueNoAbort) := by
  change execCueAbort req gen ahead s = _
  simp only [execCueAbort, State.run_eq, hw, hr]

end

/-- CUE_QUERY shows what holds the object in TRANSIT. -/
theorem cueQuery_answers (s : State) (cls : Byte) (index : BitVec 12) : Completes (.cueQuery cls index) s fun e =>
    e.get .cueQueryResult 0 =
      (match (queryObject cls.toNat index.toNat).bind s.dev.transitOf with | some g => (2 ^ 31 + g) % 2 ^ 64 | none => 0) := by
  refine ⟨_, rfl, rfl, (Dev.get_put_same ..).trans ?_⟩
  cases (queryObject cls.toNat index.toNat).bind s.dev.transitOf <;> rfl

/-- Settles O28: each clause follows what its command changes first through what it runs after that, which leaves it. -/
theorem enginesFailRetireAndCueSequencesRun : Obligations.EnginesFailRetireAndCueSequencesRun := by
  refine ⟨?fault, ?spare, fun _ _ _ => retire_refused, ?start, fun _ => cueStart_idle, ?done, ?abort,
    fun _ req _ ahead => cueAbort_refused req ahead, cueQuery_answers⟩
  case fault =>
    intro s en cause corrected hin
    have hin' := (s.dev.bit_tableCorrected en.val corrected en.val 31).trans hin
    obtain ⟨hmark, hcause⟩ := Dev.engineFail_marks (cause.val + 1) hin'
    refine (engineFault_fails cause corrected).completes ⟨?_, hmark, hcause.trans (Nat.mod_eq_of_lt (by omega))⟩
    rw [Dev.tableCe_engineFail _ hin', Dev.get_tableCorrected]
  case spare =>
    intro s en cause corrected spare rest hin hout hserves hspares
    refine ⟨?fails, fun hstill req => ?retires⟩
    case fails =>
      have hbit := s.dev.bit_tableCorrected en.val corrected en.val
      have hfail := Dev.engineFail_substitutes (cause.val + 1) ((hbit 31).trans hin) ((hbit 30).trans hout)
        ((hbit 29).trans hserves) ((s.dev.spares_tableCorrected en.val corrected).trans hspares)
      have hcorrected : KeepsCues s.dev (s.dev.tableCorrected en.val corrected) := .of_mgt rfl
      have hkept := hcorrected.trans (Dev.engineLost_keepsCues _ en.val (cause.val + 1))
      refine (engineFault_fails cause corrected).completes ?_
      rw [hfail, Dev.fld_tableCorrected, Dev.waiting_substitute, hkept.waiting, hkept.lastGeneration]
      exact ⟨Dev.bit_substitute_spare _ _ _ _, rfl⟩
    case retires =>
      obtain ⟨hmark, -, hcause⟩ := s.dev.engineOut_marks en.val 4
      refine (retire_substitutes hstill hin hserves hspares).completes ⟨?_, ?_, Dev.waiting_substitute _ _ _ _⟩
      · exact (congrArg (· == 1) (Dev.fld_substitute _ rfl _ _ _ _)).trans hmark
      · exact (Dev.fld_substitute _ rfl _ _ _ _).trans hcause
  case start =>
    intro s k g p hnext hplace
    have hkept := (s.dev.runCue p { kind := k, generation := g, abort := false }).cueBegun_keepsCues k
    refine (cueStart_starts hnext hplace).completes ⟨?_, hkept.waiting⟩
    rw [hkept.running]
    exact Tab.find_set_same _ _ _
  case done =>
    intro s place r hr
    have hended := (s.dev.freeCue place.val).cueEnd_keepsCues r
    have hput : KeepsCues _ (((s.dev.freeCue place.val).cueEnd r).put .cueLastDone 0 r.generation) := hended.trans (.of_mgt rfl)
    have hkept := hput.trans (Dev.event_keepsCues _ .cueEvent 0 0)
    refine (cueDone_ends hr).completes ⟨?_, ?_, Dev.bit_event_same _ _ _ _ (by decide)⟩
    · rw [hkept.running]
      exact Tab.find_erase_same _ _
    · rw [Dev.get_of_reach (x := eventReach .cueEvent none 0) rfl rfl fun h => (Footprint.holds_refl _ _).event h .any,
        Dev.get_put_same]
  case abort =>
    intro s req gen ahead w hw
    refine (cueAbort_drops req ahead hw).completes ?_
    rw [(Dev.cueGone_keepsCues _ w.1).waiting, Dev.mgt_cueRefresh]
    rfl

end Sys2Proof.Machine
end

section
open Sys2Proof
namespace Sys2Proof.Machine

/-! ### What a camera link sends (R212, R214)

The blocks of a link leave as their time comes; beside them an operation on a link sends the messages that it names. -/

section
variable (d : Dev)

theorem messages_send_blocks (q k : Nat) (bs : List LinkBlock) : messages (d.send (.blocks q k bs)).outs = messages d.outs := by
  simp [Dev.send, messages, Out.isBlocks]

theorem messages_send {o : Out} (ho : o.isBlocks = false) : messages (d.send o).outs = messages d.outs ++ [o] := by
  simp [Dev.send, messages, ho]

theorem messages_txBusy (q k n : Nat) : messages (Dev.txBusy q k n d).outs = messages d.outs := by
  induction n generalizing d with
  | zero => rfl
  | succ n ih =>
    rw [Dev.txBusy]
    split
    · rfl
    next b _ =>
      split
      · rfl
      · exact (ih _).trans (messages_send_blocks (d.setTx q ((d.tx q).skipTo b)) ..)

theorem messages_txTo (q k : Nat) : messages (d.txTo q k).outs = messages d.outs := by
  unfold Dev.txTo
  dsimp only
  split
  · exact messages_txBusy d ..
  · exact messages_txBusy d ..

theorem messages_camWords (c seq : Nat) (body : List Nat) : messages (d.camWords c seq body).outs = messages d.outs :=
  messages_txTo ..

theorem Dev.ins_txTo (q k : Nat) : (d.txTo q k).ins = d.ins :=
  Dev.area_of_reach (p := .ins) (x := txToReach) rfl rfl (Footprint.holds_refl _ d).txTo

theorem Dev.ins_camWords (c seq : Nat) (body : List Nat) : (d.camWords c seq body).ins = d.ins :=
  Dev.area_of_reach (p := .ins) (x := camWordsReach) rfl rfl (Footprint.holds_refl _ d).camWords

end

/-! ### A pipeline -/

section
variable (d : Dev) (c : Nat)

theorem Dev.pipe_setPipe (x : Pipe) : (d.setPipe c x).pipe c = x := Tab.get_set_same ..

theorem Dev.pipe_of_ins {e : Dev} (h : e.ins = d.ins) : e.pipe c = d.pipe c := by rw [Dev.pipe, Dev.pipe, h]

theorem Dev.pipe_of_setPipe {e : Dev} {x : Pipe} (h : e.ins = (d.setPipe c x).ins) : e.pipe c = x :=
  (Dev.pipe_of_ins _ c h).trans (d.pipe_setPipe c x)

theorem Dev.pipeRuns_setPipe (x : Pipe) : (d.setPipe c x).pipeRuns c = d.pipeRuns c := rfl

theorem Dev.camVer_setPipe (x : Pipe) : (d.setPipe c x).camVer c = d.camVer c := rfl

theorem Dev.ins_insEvent (i : Nat) : (d.event .insEvent c i).ins = d.ins :=
  Dev.area_of_reach (p := .ins) (x := eventReach .insEvent none i) rfl rfl fun h => (Footprint.holds_refl _ d).event h .any

theorem Dev.get_insEvent {r : Reg} (i k : Nat) (hr : (eventReach .insEvent none i).regs.contains r = false) :
    (d.event .insEvent c i).get r k = d.get r k :=
  Dev.get_of_reach (x := eventReach .insEvent none i) rfl hr (fun h => (Footprint.holds_refl _ d).event h .any) k

theorem Dev.camState_setCam {st : Nat} (hst : st < 8) : (d.setCam c st).camState c = st :=
  (Dev.fld_setFld_same _ _ _ _ _ _ (by decide)).trans (Nat.mod_eq_of_lt hst)

/-! ### RUN and the end of a frame (R217, R226) -/

theorem Dev.pipeRuns_setRun (run : Bool) : (d.setBit .insCtrl c 0 run).pipeRuns c = run :=
  Dev.bit_setBit_same _ _ _ _ _ (by decide)

/-- With no frame open nothing ends. -/
theorem Dev.frameClose_none {early : Bool} (h : (d.pipe c).frame = none) : d.frameClose c early = d := by
  rw [Dev.frameClose, h]

/-- What the end of a frame leaves, before its event is told: the frame's number, and a status without a frame. -/
def Dev.frameEnded (d : Dev) (c : Nat) (x : Pipe) (number : Nat) : Dev :=
  (((d.setPipe c x).put .insFrameNo c number).setBit .insStatus c 24 false).setFld .insStatus c 0 15 0

/-- An open frame ends: one record more waits for the loop. -/
theorem Dev.frameClose_some {early : Bool} {f : Frame} (h : (d.pipe c).frame = some f) :
    ∃ (e : Dev) (x : Pipe) (r : StatRecord), x.frame = none ∧ x.toLoop = (d.pipe c).toLoop ++ [r] ∧
      d.frameClose c early = (e.frameEnded c x (d.nextFrame c)).event .insEvent c 0 := by
  rw [Dev.frameClose, h]
  exact ⟨{ d.postSummaries c f with draw := _ }, _, _, rfl, rfl, rfl⟩

theorem Dev.get_frameEnded (x : Pipe) {number : Nat} (hn : number < 2 ^ 64) :
    (d.frameEnded c x number).get .insFrameNo c = number := by
  rw [Dev.frameEnded, Dev.setFld, Dev.get_put_reg _ _ _ _ (by decide), Dev.setBit, Dev.setFld,
    Dev.get_put_reg _ _ _ _ (by decide), Dev.get_put_same, Nat.mod_eq_of_lt hn]

/-! ### Bring-up started anew (Tables 8.7 and 8.9) -/

theorem Dev.camRestart_eq (st : Nat) : ∃ (e : Dev) (x : Pipe), x.unacked = none ∧ x.lines = [] ∧
    d.camRestart c st = ((e.setPipe c x).setCam c st).setFld .insStatus c 25 3 0 :=
  ⟨_, { ((d.frameClose c true).lanesFor (.camera c) st).pipe c with stage := 0, unacked := none, lines := [],
                                                                    lastTrigger := none }, rfl, rfl, rfl⟩

theorem Dev.camRestart_restarts {st : Nat} (hst : st < 8) : (d.camRestart c st).camState c = st ∧
    ((d.camRestart c st).pipe c).unacked = none ∧ ((d.camRestart c st).pipe c).lines = [] := by
  obtain ⟨e, x, hunacked, hlines, hrestart⟩ := d.camRestart_eq c st
  have hpipe : (d.camRestart c st).pipe c = x := hrestart ▸ e.pipe_setPipe c x
  rw [hpipe, hrestart]
  exact ⟨(Dev.fld_setFld_other _ _ _ 25 3 _ 29 3 (by decide) (.inr (by decide))).trans (Dev.camState_setCam _ c hst), hunacked,
    hlines⟩

/-- A port that fails relinks, and its loss is told. -/
theorem Dev.camFail_relinks : (d.camFail c).camState c = 1 ∧ (d.camFail c).bit .insEvent c 5 = true := by
  refine ⟨?_, Dev.bit_event_same _ _ _ _ (by decide)⟩
  calc (d.camFail c).camState c
    _ = (d.camRestart c 1).camState c := congrArg (bits · 29 3) (Dev.get_insEvent _ c 5 c rfl)
    _ = 1 := (d.camRestart_restarts c (by decide)).1

/-! ### CAMSET (R213) -/

theorem Dev.pipe_setPipe_sent (x : Pipe) (o : Out) (seq : Nat) (body : List Nat) :
    (((d.setPipe c x).send o).camWords c seq body).pipe c = x := d.pipe_of_setPipe c (Dev.ins_camWords ..)

/-- CAMSET sent waits for its answer; the rest of the pipeline but SEQ stays. -/
theorem Dev.pipe_sendCamset : ∃ seq u, (d.sendCamset c).pipe c = { d.pipe c with seq := seq, unacked := some u } := by
  rw [Dev.sendCamset]
  exact ⟨_, _, d.pipe_setPipe_sent c _ _ _ _⟩

/-- CAMSET goes out again, with one resend more counted. -/
def Dev.resendCamset (d : Dev) (c : Nat) (u : CamUnacked) : Dev :=
  ((d.setPipe c { d.pipe c with unacked := some { u with resends := u.resends + 1 } }).send (.camera c 0x41 u.seq u.body)).camWords
    c u.seq u.body

theorem Dev.resendCamset_resends (u : CamUnacked) :
    messages (d.resendCamset c u).outs = messages d.outs ++ [Out.camera c 0x41 u.seq u.body] ∧
      ((d.resendCamset c u).pipe c).unacked = some { u with resends := u.resends + 1 } := by
  refine ⟨(messages_camWords ..).trans (messages_send _ rfl), ?_⟩
  rw [Dev.resendCamset, Dev.pipe_setPipe_sent]

theorem Dev.camVer_sendCamset : (d.sendCamset c).camVer c = d.camVer c :=
  congrArg (fun n => if bits n 28 1 == 1 then 2 else 1)
    (Dev.get_of_reach (x := sendCamsetReach) rfl rfl (Footprint.holds_refl _ d).sendCamset c)

/-- The versions that CAMCAP declares and the image allows. -/
def Dev.camCommon (d : Dev) (c : Nat) : Nat := bits (d.pipe c).caps 28 2 &&& d.cfg .camVer c

/-- The higher of the common versions, and a width, are in force. -/
def Dev.camChosen (d : Dev) (c width line : Nat) : Dev :=
  ((d.setBit .insStatus c 28 ((if bitOf (d.camCommon c) 1 then 2 else 1) == 2)).setFld .insStatus c 25 3 width).put
    .insMinLineNs c line

theorem Dev.camVer_camChosen (width line : Nat) :
    (d.camChosen c width line).camVer c = if bitOf (d.camCommon c) 1 then 2 else 1 := by
  have hbit : (d.camChosen c width line).bit .insStatus c 28 = ((if bitOf (d.camCommon c) 1 then 2 else 1) == 2) := by
    rw [Dev.camChosen, Dev.bit, Dev.fld, Dev.get_put_reg _ _ _ _ (by decide), ← Dev.fld,
      Dev.fld_setFld_other _ _ _ _ _ _ _ _ (by decide) (.inr (by decide))]
    exact Dev.bit_setBit_same _ _ _ _ _ (by decide)
  rw [Dev.camVer, hbit]
  cases bitOf (d.camCommon c) 1 <;> rfl

theorem Dev.camChoose_none (h : d.camCommon c = 0) :
    d.camChoose c = (d.setPipe c { d.pipe c with stage := 3 }).raise .insVersion c := by
  rw [Dev.camChoose]
  exact if_pos h

/-- With a common version the higher one is chosen, and CAMSET waits for its answer. -/
theorem Dev.camChoose_common (h : d.camCommon c ≠ 0) :
    (∃ seq u, (d.camChoose c).pipe c = { d.pipe c with stage := 4, seq := seq, unacked := some u }) ∧
      (d.camChoose c).camVer c = if bitOf (d.camCommon c) 1 then 2 else 1 := by
  have hchoose : ∃ width line,
      d.camChoose c = ((d.camChosen c width line).setPipe c { d.pipe c with stage := 4 }).sendCamset c := by
    rw [Dev.camChoose]
    exact ⟨_, _, if_neg h⟩
  obtain ⟨width, line, hchosen⟩ := hchoose
  obtain ⟨seq, u, hpipe⟩ := ((d.camChosen c width line).setPipe c { d.pipe c with stage := 4 }).pipe_sendCamset c
  rw [hchosen, hpipe, Dev.pipe_setPipe, Dev.camVer_sendCamset, Dev.camVer_setPipe, d.camVer_camChosen c width line]
  exact ⟨⟨seq, u, rfl⟩, rfl⟩

/-- The choice leaves what CAMCAP declared. -/
theorem Dev.caps_camChoose : ((d.camChoose c).pipe c).caps = (d.pipe c).caps ∧
    ((d.camChoose c).pipe c).minLine = (d.pipe c).minLine := by
  by_cases h : d.camCommon c = 0
  · rw [d.camChoose_none c h, Dev.pipe_of_ins _ c (Dev.raise_ins ..), Dev.pipe_setPipe]
    exact ⟨rfl, rfl⟩
  · obtain ⟨⟨seq, u, hpipe⟩, -⟩ := d.camChoose_common c h
    rw [hpipe]
    exact ⟨rfl, rfl⟩

theorem Dev.camId_camChoose : (d.camChoose c).rd .insCamId c = d.rd .insCamId c :=
  BitVec.eq_of_toNat_eq
    (Dev.get_of_reach (x := camChooseReach none) rfl rfl (fun h => (Footprint.holds_refl _ d).camChoose h .any) c)

/-! ### Triggers (R214, R217) -/

/-- A trigger sent is the only message, and its line is the last open one. -/
theorem Dev.sendTrigger_opens (slot : Nat × Nat) :
    messages (d.sendTrigger c slot).outs =
        messages d.outs ++ [Out.trigger c (triggerWord (d.pipe c).tseq) ((d.tx (192 + c)).slotAt slot)] ∧
      ∃ line frame, line.tseq = (d.pipe c).tseq ∧
        (d.sendTrigger c slot).pipe c =
          { d.pipe c with tseq := ((d.pipe c).tseq + 1) % 65536, lastTrigger := some ((d.tx (192 + c)).slotAt slot),
                          lines := (d.pipe c).lines ++ [line], frame := frame } := by
  refine ⟨?_, _, _, ?_, Dev.pipe_of_setPipe _ c (Dev.ins_txTo _ (192 + c) (slot.1 + 1))⟩
  · exact (messages_txTo _ _ _).trans (messages_send _ rfl)
  · rfl

/-- The first slot is taken where it comes no sooner than the minimum line time after the last trigger. -/
theorem Dev.triggerAt_sends {k : Int} {b : PosBase} (hbase : d.base = some b) (hruns : d.pipeRuns c = true)
    (hlinked : d.camState c = 3) (hspeed : d.speedValid = true)
    (hdue : (((d.pipe c).lastTrigger.map fun t => t + 1000 * d.get .insMinLineNs c).getD 0) ≤
      (d.tx (192 + c)).slotAt (d.triggerSlot c (b.reach (k * d.cfg .trigStep c * 65536)))) :
    d.triggerAt c k = d.sendTrigger c (d.triggerSlot c (b.reach (k * d.cfg .trigStep c * 65536))) := by
  have hready : ¬((!d.pipeRuns c) = true ∨ d.camState c ≠ 3 ∨ (!d.speedValid) = true) := by simp [hruns, hlinked, hspeed]
  rw [Dev.triggerAt, hbase]
  refine (if_neg hready).trans (if_pos (le_of_eq_of_le ?_ hdue))
  cases (d.pipe c).lastTrigger <;> rfl

end
end Sys2Proof.Machine
end

section
open Sys2Proof
namespace Sys2Proof.Machine

/-! ### The commands of a pipeline and its camera -/

section
variable {s : State} {c : Fin 24}

theorem insRunWrite_sets_run (run : Bool) (hen : s.dev.cfg .pipeEn c.val ≠ 0) :
    Completes (.insRunWrite c run) s fun e => e.pipeRuns c.val = run := by
  change ∃ t, execInsRunWrite c run s = _ ∧ _
  rw [execInsRunWrite, State.run_eq]
  refine ⟨_, rfl, rfl, ?_⟩
  by_cases hsame : s.dev.pipeRuns c.val = run
  · rwa [if_pos (.inr hsame)]
  · rw [if_neg (not_or.mpr ⟨hen, hsame⟩)]
    cases run
    · exact (Dev.pipeRuns_setPipe ..).trans (Dev.pipeRuns_setRun ..)
    · exact Dev.pipeRuns_setRun ..

theorem insClose_ends_frame {f : Frame} (hopen : (s.dev.pipe c.val).frame = some f) :
    Completes (.insClose c) s fun e =>
      (e.pipe c.val).frame = none ∧ e.get .insFrameNo c.val = (s.dev.get .insFrameNo c.val + 1) % 2 ^ 32 ∧
      (e.pipe c.val).toLoop.length = (s.dev.pipe c.val).toLoop.length + 1 ∧ e.bit .insEvent c.val 0 = true := by
  refine completes_of_run (f := (·.frameClose c.val true)) rfl ?_
  obtain ⟨q, x, r, hframe, hloop, hclosed⟩ := s.dev.frameClose_some c.val (early := true) hopen
  have hpipe : ((q.frameEnded c.val x (s.dev.nextFrame c.val)).event .insEvent c.val 0).pipe c.val = x :=
    q.pipe_of_setPipe c.val (Dev.ins_insEvent ..)
  have hnumber : s.dev.nextFrame c.val < 2 ^ 64 := lt_trans (Nat.mod_lt _ (by decide)) (by decide)
  rw [hclosed, hpipe, Dev.get_insEvent _ _ _ _ rfl, Dev.get_frameEnded _ _ _ hnumber]
  exact ⟨hframe, rfl, by simp [hloop], Dev.bit_event_same _ _ _ _ (by decide)⟩

theorem insClose_without_frame (hnone : (s.dev.pipe c.val).frame = none) : Yields (.insClose c) s s.dev := by
  change execInsClose c s = _
  rw [execInsClose, State.run_eq, s.dev.frameClose_none c.val hnone]

theorem insRelink_restarts (hup : s.dev.camState c.val ≠ 0) : Completes (.insRelink c) s fun e =>
    e.camState c.val = 1 ∧ (e.pipe c.val).unacked = none ∧ (e.pipe c.val).lines = [] := by
  have hrestart : Yields (.insRelink c) s (s.dev.camRestart c.val 1) := by
    change execInsRelink c s = _
    rw [execInsRelink, State.run_eq, if_neg hup]
  exact hrestart.completes (s.dev.camRestart_restarts c.val (by decide))

theorem camcap_stores (camId : BitVec 64) (w3 w4 : Word) (hcaps : s.dev.camState c.val = 2) :
    Completes (.camcap c camId w3 w4) s fun e =>
      e.rd .insCamId c.val = camId ∧ (e.pipe c.val).caps = w3.toNat ∧ (e.pipe c.val).minLine = w4.toNat % 2 ^ 24 := by
  have hstores : Yields (.camcap c camId w3 w4) s
      (((s.dev.wr .insCamId c.val camId).setPipe c.val
        { s.dev.pipe c.val with caps := w3.toNat, minLine := w4.toNat % 2 ^ 24 }).camChoose c.val) := by
    change execCamcap c camId w3 w4 s = _
    rw [execCamcap, State.run_eq, if_neg (not_not_intro hcaps)]
  refine hstores.completes ?_
  obtain ⟨hkept, hline⟩ := Dev.caps_camChoose _ c.val
  rw [Dev.camId_camChoose, hkept, hline, Dev.pipe_setPipe]
  exact ⟨Dev.rd_wr_same .., rfl, rfl⟩

section
variable {seq : BitVec 8} {u : CamUnacked} (hu : (s.dev.pipe c.val).unacked = some u) (hseq : u.seq = seq.toNat)
include hu hseq

theorem camAck_links (hstage : (s.dev.pipe c.val).stage = 6) :
    Completes (.camAck c false seq) s fun e => e.camState c.val = 3 ∧ (e.pipe c.val).unacked = none := by
  have hlinks : Yields (.camAck c false seq) s
      ((s.dev.setPipe c.val { s.dev.pipe c.val with unacked := none, stage := 7 }).setCam c.val 3) := by
    change execCamAck c false seq s = _
    simp [execCamAck, hu, hseq, hstage]
  refine hlinks.completes ⟨Dev.camState_setCam _ _ (by decide), ?_⟩
  exact congrArg Pipe.unacked (s.dev.pipe_setPipe c.val _)

theorem camAck_relinks : Completes (.camAck c true seq) s fun e => e.camState c.val = 1 := by
  have hrefused : Yields (.camAck c true seq) s (s.dev.camRestart c.val 1) := by
    change execCamAck c true seq s = _
    simp [execCamAck, hu, hseq]
  exact hrefused.completes (s.dev.camRestart_restarts c.val (by decide)).1

end

theorem camAckTimeout_resends_or_fails {u : CamUnacked} (hu : (s.dev.pipe c.val).unacked = some u) :
    Completes (.camAckTimeout c) s fun e =>
      if 3 ≤ u.resends then e.camState c.val = 1 ∧ e.bit .insEvent c.val 5 = true
      else messages e.outs = messages s.dev.outs ++ [Out.camera c.val 0x41 u.seq u.body] ∧
        (e.pipe c.val).unacked = some { u with resends := u.resends + 1 } := by
  have hexec : Yields (.camAckTimeout c) s
      (if 3 ≤ u.resends then s.dev.camFail c.val else s.dev.resendCamset c.val u) := by
    change execCamAckTimeout c s = _
    rw [execCamAckTimeout, State.run_eq]
    dsimp only
    rw [hu]
    rfl
  refine hexec.completes ?_
  split
  · exact s.dev.camFail_relinks c.val
  · exact s.dev.resendCamset_resends c.val u

theorem cameraSilent_relinks (hruns : s.dev.pipeRuns c.val = true) (hlinked : s.dev.camState c.val = 3) :
    Completes (.cameraSilent c) s fun e => e.camState c.val = 1 ∧ e.bit .insEvent c.val 5 = true := by
  refine completes_of_run rfl ?_
  rw [if_pos ⟨hruns, hlinked⟩]
  exact s.dev.camFail_relinks c.val

theorem cameraVersionRetry_chooses (hcaps : s.dev.camState c.val = 2) (hstage : (s.dev.pipe c.val).stage = 3)
    (hcommon : s.dev.camCommon c.val ≠ 0) : Completes (.cameraVersionRetry c) s fun e =>
      (e.pipe c.val).stage = 4 ∧ (e.pipe c.val).unacked.isSome = true ∧
      e.camVer c.val = if bitOf (s.dev.camCommon c.val) 1 then 2 else 1 := by
  refine completes_of_run rfl ?_
  rw [if_pos ⟨hcaps, hstage⟩]
  obtain ⟨⟨seq, u, hpipe⟩, hver⟩ := s.dev.camChoose_common c.val hcommon
  rw [hpipe]
  exact ⟨rfl, rfl, hver⟩

end

/-- Settles O32: each command ends, restarts or chooses by one operation; what that runs afterwards sends blocks only and leaves
the pipeline. -/
theorem cameraLinksRunAndTrigger : Obligations.CameraLinksRunAndTrigger := by
  refine ⟨fun _ _ run => insRunWrite_sets_run run, fun _ _ _ => insClose_ends_frame, fun _ _ => insClose_without_frame,
    fun _ _ => insRelink_restarts, ?trigger, fun _ _ camId w3 w4 => camcap_stores camId w3 w4, ?ack,
    fun _ _ _ => camAckTimeout_resends_or_fails, fun _ _ => cameraSilent_relinks, fun _ _ => cameraVersionRetry_chooses⟩
  case trigger =>
    rintro s c k b _ hbase hruns hlinked hspeed rfl hdue
    refine completes_of_run (f := (·.triggerAt c.val k)) rfl ?_
    rw [s.dev.triggerAt_sends c.val hbase hruns hlinked hspeed hdue]
    obtain ⟨hsent, line, frame, hline, hpipe⟩ := s.dev.sendTrigger_opens c.val
      (s.dev.triggerSlot c.val (b.reach (k * s.dev.cfg .trigStep c.val * 65536)))
    rw [hpipe]
    exact ⟨hsent, rfl, rfl, by simp [hline]⟩
  case ack => exact fun s c seq u hu hseq hstage => ⟨camAck_links hu hseq hstage, camAck_relinks hu hseq⟩

end Sys2Proof.Machine
end


section
open Sys2Proof
namespace Sys2Proof.Machine
section
variable {d : Dev}

/-! ### The memories of a controller

Most operations touch neither DRAM nor the non-volatile array. The few that write one of them, zero a range of it or clear it
use an operation of `Mem` that keeps the canonical form: `dramWrite`, `writeBurst`, `zeroGroup` and `stageZero` for DRAM;
`nvaLine`, `writeSave`, `lifeErase` and `tear` for the array; a cold reset clears DRAM and keeps the array. Each operation has its
rule: with canonical memories before it, they are canonical after it. The rule of an operation is put together from those of the
operations it runs, in the order of the model's files. -/

/-- DRAM and the array of a controller are in their canonical form. -/
def Dev.memWf (d : Dev) : Prop := Mem.wf d.dram = true ∧ Mem.wf d.nva = true

theorem memoriesWf_iff {s : State} : memoriesWf s ↔ s.dev.memWf := Iff.rfl

theorem Dev.memWf.dram (h : d.memWf) : Mem.wf d.dram = true := h.1

theorem Dev.memWf.nva (h : d.memWf) : Mem.wf d.nva = true := h.2

/-- State beside the memories takes any value. -/
theorem Dev.memWf.update {now regs latch raised outs draw img pos cmp cdc ten lnk mgt hst sec syn ql ptn pwr ins lne dmc ctl sys}
    (h : d.memWf) :
    Dev.memWf { now, regs, latch, raised, outs, dram := d.dram, nva := d.nva, draw, img, pos, cmp, cdc, ten, lnk, mgt, hst, sec,
                syn, ql, ptn, pwr, ins, lne, dmc, ctl, sys } := h

theorem Dev.memWf.withDram {m} (h : d.memWf) (hm : Mem.wf m = true) : Dev.memWf { d with dram := m } := ⟨hm, h.nva⟩

theorem Dev.memWf.withNva {m} (h : d.memWf) (hm : Mem.wf m = true) : Dev.memWf { d with nva := m } := ⟨h.dram, hm⟩

/-- Ranges of a memory zeroed one after another. -/
theorem Mem.foldl_zero_wf {α : Type} {m : Mem} {a n : α → Nat} {xs : List α} (hm : Mem.wf m = true) :
    Mem.wf (xs.foldl (fun m x => m.zero (a x) (n x)) m) = true := by
  induction xs generalizing m with
  | nil => exact hm
  | cons x xs ih => exact ih (Mem.zero_wf _ _ hm)

/-! ### Choices, loops and rows -/

theorem memWf_ite {c : Prop} [Decidable c] {a b : Dev} (ha : a.memWf) (hb : b.memWf) : (if c then a else b).memWf := by
  split
  · exact ha
  · exact hb

theorem Dev.memWf.foldl {α : Type} {f : Dev → α → Dev} {xs : List α} (h : d.memWf)
    (hf : ∀ e x, e.memWf → (f e x).memWf) : (xs.foldl f d).memWf := by
  induction xs generalizing d with
  | nil => exact h
  | cons x xs ih => exact ih (hf d x h)

/-- A fold whose result pairs a controller with something else. -/
theorem Dev.memWf.foldl_fst {α β : Type} {f : Dev × β → α → Dev × β} {b : β} {xs : List α} (h : d.memWf)
    (hf : ∀ p x, p.1.memWf → (f p x).1.memWf) : (xs.foldl f (d, b)).1.memWf := by
  induction xs generalizing d b with
  | nil => exact h
  | cons x xs ih => exact ih (hf (d, b) x h)

theorem Dev.memWf.each {f : Dev → Nat → Dev} {ns : List Nat} (h : d.memWf)
    (hf : ∀ e n, e.memWf → (f e n).memWf) : (d.each ns f).memWf := h.foldl hf

/-- A row's meaning makes of a controller what its run does. -/
theorem memWf_viaRow {f : Dev → Dev} {o : State → Host.Outcome State Fault Refusal} (ho : ∀ s, o s = s.run f)
    (h : (f d).memWf) : (d.viaRow o).memWf := by
  rw [Dev.viaRow, ho]
  exact h

theorem Dev.memWf.viaBit {v k o} (h : d.memWf) (ho : d.memWf → (d.viaRow o).memWf) : (d.viaBit v k o).memWf :=
  memWf_ite (ho h) h

/-! ### Registers, codes, outputs, free values and time -/

theorem Dev.memWf.wr {r k v} (h : d.memWf) : (d.wr r k v).memWf := h
theorem Dev.memWf.put {r k v} (h : d.memWf) : (d.put r k v).memWf := h
theorem Dev.memWf.putInt {r k v} (h : d.memWf) : (d.putInt r k v).memWf := h
theorem Dev.memWf.setFld {r k l w v} (h : d.memWf) : (d.setFld r k l w v).memWf := h
theorem Dev.memWf.setBit {r k i b} (h : d.memWf) : (d.setBit r k i b).memWf := h
theorem Dev.memWf.add32 {r k n} (h : d.memWf) : (d.add32 r k n).memWf := h
theorem Dev.memWf.count {r k} (h : d.memWf) : (d.count r k).memWf := h
theorem Dev.memWf.raise {c p} (h : d.memWf) : (d.raise c p).memWf := h
theorem Dev.memWf.send {o} (h : d.memWf) : (d.send o).memWf := h
theorem Dev.memWf.drawn (h : d.memWf) : d.drawn.memWf := h
theorem Dev.memWf.at {t} (h : d.memWf) : (d.at t).memWf := h

/-! ### Interrupt sources and pins (R68, R438 to R442) -/

theorem Dev.memWf.refuse {req e} (h : d.memWf) : (d.refuse req e).memWf := h.put.raise
theorem Dev.memWf.journal {e} (h : d.memWf) : (d.journal e).memWf := memWf_ite h h.update
theorem Dev.memWf.moderate {core fast} (h : d.memWf) : (d.moderate core fast).memWf := h.update
theorem Dev.memWf.setVec {fn v x} (h : d.memWf) : (d.setVec fn v x).memWf := h.update
theorem Dev.memWf.sendVec {fn v} (h : d.memWf) : (d.sendVec fn v).memWf := h.setVec.send

theorem Dev.memWf.vecDue {fn v} (h : d.memWf) : (d.vecDue fn v).memWf :=
  memWf_ite h.setVec (memWf_ite (memWf_ite h.setVec.send.update h.setVec) (memWf_ite (memWf_ite h h.update) h.sendVec))

theorem Dev.memWf.vecEvent {fn v} (h : d.memWf) : (d.vecEvent fn v).memWf := memWf_ite h.setVec.vecDue h.setVec

theorem Dev.memWf.irqNotify {src} (h : d.memWf) : (d.irqNotify src).memWf :=
  memWf_ite h (memWf_ite h.moderate (memWf_ite h.vecEvent h))

theorem Dev.memWf.irqPend {src b} (h : d.memWf) : (d.irqPend src b).memWf := memWf_ite h.setBit.irqNotify h.setBit

theorem Dev.memWf.irqLevel {src lvl} (h : d.memWf) : (d.irqLevel src lvl).memWf :=
  memWf_ite h.setBit.irqPend (memWf_ite h.setBit.irqPend h.setBit)

theorem Dev.memWf.irqPulse {src} (h : d.memWf) : (d.irqPulse src).memWf := h.irqLevel.irqLevel

theorem Dev.memWf.refreshEvent {r k} (h : d.memWf) : (d.refreshEvent r k).memWf := by
  unfold Dev.refreshEvent
  split
  · exact h
  · exact h.irqLevel

theorem Dev.memWf.event {r k i} (h : d.memWf) : (d.event r k i).memWf := h.setBit.refreshEvent
theorem Dev.memWf.stopReq {u} (h : d.memWf) : (d.stopReq u).memWf := memWf_ite h h.update
theorem Dev.memWf.stopFree {u} (h : d.memWf) : (d.stopFree u).memWf := h.update
theorem Dev.memWf.speedReq {u} (h : d.memWf) : (d.speedReq u).memWf := memWf_ite h h.update
theorem Dev.memWf.speedFree {u} (h : d.memWf) : (d.speedFree u).memWf := h.update

/-! ### Cue sequences (R435 to R437) -/

theorem Dev.memWf.cueMark {k b} (h : d.memWf) : (d.cueMark k b).memWf := by
  unfold Dev.cueMark
  exact h.foldl fun _ _ ho => by
    split
    · exact ho.setBit
    · exact ho

theorem Dev.memWf.cueRefresh (h : d.memWf) : d.cueRefresh.memWf := by
  unfold Dev.cueRefresh
  dsimp only
  refine .foldl (h.each fun _ _ ho => ?_) fun _ _ ho => ?_
  · split
    · exact ho.put
    · exact ho.put
  · split
    · exact ho.put
    · exact ho

theorem Dev.memWf.cueRequest {k} (h : d.memWf) : (d.cueRequest k).memWf := h.update.cueRefresh

/-! ### Mirror records (R314, R321, R322) -/

theorem Dev.memWf.mirrorBlock {r} (h : d.memWf) : (d.mirrorBlock r).memWf := by
  unfold Dev.mirrorBlock
  dsimp only
  split
  · exact h
  · exact h
  · exact (memWf_ite h.count.count h.count).drawn

theorem Dev.memWf.mirrorSend {r} (h : d.memWf) : (d.mirrorSend r).memWf := memWf_ite h.update.mirrorBlock.send h
theorem Dev.memWf.mirror {r} (h : d.memWf) : (d.mirror r).memWf := memWf_ite h.mirrorSend h
theorem Dev.memWf.noteFit (h : d.memWf) : d.noteFit.memWf := h.setBit
theorem Dev.memWf.setUnfit {cause b} (h : d.memWf) : (d.setUnfit cause b).memWf := h.setBit.noteFit

/-! ### Rings, completions and sessions (R264 to R289, R293 to R298) -/

theorem Dev.memWf.setCtx {s c} (h : d.memWf) : (d.setCtx s c).memWf := h.update
theorem Dev.memWf.setSess {s x} (h : d.memWf) : (d.setSess s x).memWf := h.update

theorem Dev.memWf.xptEmitAt {s port v rxNext sack type seq payload} (h : d.memWf) :
    (d.xptEmitAt s port v rxNext sack type seq payload).memWf :=
  memWf_ite h.setCtx h.setCtx.send

theorem Dev.memWf.xptEmit {s type seq payload} (h : d.memWf) : (d.xptEmit s type seq payload).memWf := h.setSess.xptEmitAt

theorem Dev.memWf.xptSend {s type payload} (h : d.memWf) : (d.xptSend s type payload).memWf :=
  memWf_ite h (memWf_ite h.setSess h.setSess.xptEmit)

theorem Dev.memWf.xptFlushCqe {s} (h : d.memWf) : (d.xptFlushCqe s).memWf := by
  unfold Dev.xptFlushCqe
  dsimp only
  split
  · exact h
  · exact memWf_ite h.setSess.xptSend h

theorem Dev.memWf.xptCqe {s pos words} (h : d.memWf) : (d.xptCqe s pos words).memWf :=
  memWf_ite h.setSess.xptFlushCqe h.setSess

theorem Dev.memWf.writeCqe {s w0 w1 body} (h : d.memWf) : (d.writeCqe s w0 w1 body).memWf :=
  have h1 := memWf_ite h.setCtx.put.send h.setCtx.put.setCtx
  memWf_ite h1.vecEvent (memWf_ite h1.vecEvent (memWf_ite h1.xptCqe h1))

theorem Dev.memWf.noteStatus {s status} (h : d.memWf) : (d.noteStatus s status).memWf := memWf_ite h h.put

theorem Dev.memWf.postDone {n s} (h : d.memWf) : (Dev.postDone n d s).memWf := by
  induction n generalizing d with
  | zero => exact h
  | succ n ih =>
    unfold Dev.postDone
    split
    · exact h
    · split
      · exact h
      · exact memWf_ite (ih h.setCtx.noteStatus.writeCqe) h

theorem Dev.memWf.complete {s tag opcode status body} (h : d.memWf) : (d.complete s tag opcode status body).memWf :=
  h.mirror.setCtx.postDone

theorem Dev.memWf.mirrorCtx {s} (h : d.memWf) : (d.mirrorCtx s).memWf := h.mirror
theorem Dev.memWf.releaseWaits {ok} (h : d.memWf) : (d.releaseWaits ok).memWf := h.each fun _ _ ho => ho.setCtx.postDone

theorem Dev.memWf.postEvent {s kind es} (h : d.memWf) : (d.postEvent s kind es).memWf :=
  memWf_ite (memWf_ite (h.foldl fun _ _ ho => ho.writeCqe) h.count.setCtx) h

theorem Dev.memWf.ctxEvent {s e low handle fire} (h : d.memWf) : (d.ctxEvent s e low handle fire).memWf :=
  h.postEvent.noteStatus

theorem Dev.memWf.tellDue {s} (h : d.memWf) : (d.tellDue s).memWf := by
  unfold Dev.tellDue
  dsimp only
  split
  · exact h
  · exact memWf_ite h.setCtx.ctxEvent h

theorem Dev.memWf.tagUnits {s n use} (h : d.memWf) : (d.tagUnits s n use).memWf := h.update

theorem Dev.memWf.takeUnits {s n use} (h : d.memWf) : (d.takeUnits s n use).memWf :=
  memWf_ite h.put.tagUnits h.put.tagUnits.put

theorem Dev.memWf.dropUnits {s n use} (h : d.memWf) : (d.dropUnits s n use).memWf := (memWf_ite h.update h.put).update
theorem Dev.memWf.accessErr {place} (h : d.memWf) : (d.accessErr place).memWf := h.count.event.raise
theorem Dev.memWf.doorbellErr {s} (h : d.memWf) : (d.doorbellErr s).memWf := h.count.event.raise
theorem Dev.memWf.sqDoorbell {s v} (h : d.memWf) : (d.sqDoorbell s v).memWf := memWf_ite h.doorbellErr h.put
theorem Dev.memWf.cqDoorbell {s v} (h : d.memWf) : (d.cqDoorbell s v).memWf := memWf_ite h.doorbellErr h.put.postDone
theorem Dev.memWf.stopRings {s} (h : d.memWf) : (d.stopRings s).memWf := h.setBit.setBit

/-! ### Lanes as their ports use them (R385 to R405) -/

theorem Dev.memWf.setLane {l x} (h : d.memWf) : (d.setLane l x).memWf := h.update
theorem Dev.memWf.setLaneSt {l st} (h : d.memWf) : (d.setLaneSt l st).memWf := memWf_ite h.setFld h.setFld.setBit
theorem Dev.memWf.setGood {l b} (h : d.memWf) : (d.setGood l b).memWf := memWf_ite h.setLane.setBit h.setLane
theorem Dev.memWf.unmark {l} (h : d.memWf) : (d.unmark l).memWf := memWf_ite h.setBit.put h
theorem Dev.memWf.laneDeep {l} (h : d.memWf) : (d.laneDeep l).memWf := memWf_ite h h.setLaneSt.setBit
theorem Dev.memWf.lanesRest {g} (h : d.memWf) : (d.lanesRest g).memWf := h.each fun _ _ ho => ho.laneDeep.setGood
theorem Dev.memWf.lanesDown {g} (h : d.memWf) : (d.lanesDown g).memWf := h.lanesRest.each fun _ _ ho => ho.unmark

theorem Dev.memWf.lanesOff {g} (h : d.memWf) : (d.lanesOff g).memWf :=
  h.each fun _ _ ho => ho.setLaneSt.setBit.setGood.unmark

theorem Dev.memWf.trainLanes {ls kbps} (h : d.memWf) : (d.trainLanes ls kbps).memWf :=
  h.each fun _ _ ho => ho.setLane.setLaneSt.setBit.put

theorem Dev.memWf.noteRetrain {ls} (h : d.memWf) : (d.noteRetrain ls).memWf := h.each fun _ _ ho => ho.count.event
theorem Dev.memWf.capLink {k} (h : d.memWf) : (d.capLink k).memWf := h.update.trainLanes
theorem Dev.memWf.uncap {k} (h : d.memWf) : (d.uncap k).memWf := h.update

/-! ### Transmitters of the native links (R175 to R179) -/

theorem Dev.memWf.setTx {q x} (h : d.memWf) : (d.setTx q x).memWf := h.update
theorem Dev.memWf.txStart {q w rate} (h : d.memWf) : (d.txStart q w rate).memWf := h.setTx
theorem Dev.memWf.txBlock {q} (h : d.memWf) : (d.txBlock q).memWf := h.send.setTx

theorem Dev.memWf.txBusy {q k n} (h : d.memWf) : (Dev.txBusy q k n d).memWf := by
  induction n generalizing d with
  | zero => exact h
  | succ n ih =>
    unfold Dev.txBusy
    split
    · exact h
    · exact memWf_ite h (ih h.setTx.txBlock)

theorem Dev.memWf.txTo {q k} (h : d.memWf) : (d.txTo q k).memWf := memWf_ite h.txBusy.setTx h.txBusy
theorem Dev.memWf.txMessage {q bound ws} (h : d.memWf) : (d.txMessage q bound ws).memWf := h.txTo.setTx
theorem Dev.memWf.txInject {q lane payload} (h : d.memWf) : (d.txInject q lane payload).memWf := h.txTo.setTx
theorem Dev.memWf.txSlot {q s v} (h : d.memWf) : (d.txSlot q s v).memWf := h.setTx

/-! ### The loop log, a store to DRAM, and cascade messages (R256 to R259) -/

theorem Dev.memWf.dramWrite {a bs} (h : d.memWf) : (d.dramWrite a bs).memWf :=
  h.withDram (Mem.writeBytes_wf a bs h.dram)

theorem Dev.memWf.qlLog {kind port fluid nozzle frame fire} (h : d.memWf) :
    (d.qlLog kind port fluid nozzle frame fire).memWf :=
  memWf_ite (memWf_ite h.count.event.update.raise h.count.event) h.dramWrite.put

theorem Dev.memWf.casDrop (h : d.memWf) : d.casDrop.memWf := memWf_ite h.count.event.qlLog.update.raise h.count.event.qlLog
theorem Dev.memWf.casEmit {l type body} (h : d.memWf) : (d.casEmit l type body).memWf := h.update.send.txMessage
theorem Dev.memWf.casPut {p dest port type body} (h : d.memWf) : (d.casPut p dest port type body).memWf := h.casEmit

theorem Dev.memWf.casSend {dest port type body} (h : d.memWf) : (d.casSend dest port type body).memWf := by
  unfold Dev.casSend
  dsimp only
  split
  · exact h
  · split
    · exact memWf_ite h.casDrop (h.each fun _ _ ho => ho.casPut)
    · split
      · exact memWf_ite h.casDrop h.casPut
      · exact h.casDrop

/-! ### Regions, the lock line and spoil records (R88 to R114) -/

theorem Dev.memWf.setRegion {r} (h : d.memWf) : (d.setRegion r).memWf := h.update

theorem Dev.memWf.issueSpoil {r} (h : d.memWf) : (d.issueSpoil r).memWf :=
  memWf_ite h.count.postEvent.update.casSend h.count.postEvent.update

theorem Dev.memWf.spoil {r s ofs n cause} (h : d.memWf) : (d.spoil r s ofs n cause).memWf := memWf_ite h h.update
theorem Dev.memWf.issueSpoils (h : d.memWf) : d.issueSpoils.memWf := h.update.foldl fun _ _ ho => ho.issueSpoil
theorem Dev.memWf.flushSpoils (h : d.memWf) : d.flushSpoils.memWf := h.update.foldl fun _ _ ho => ho.issueSpoil
theorem Dev.memWf.sweepRegions (h : d.memWf) : d.sweepRegions.memWf := h.update.foldl fun _ _ ho => ho.dropUnits

theorem Dev.memWf.drainDone {s} (h : d.memWf) : (d.drainDone s).memWf :=
  memWf_ite h.setCtx.setFld.update.put.put.update.mirrorCtx h

theorem Dev.memWf.afterRetire (h : d.memWf) : d.afterRetire.memWf := h.sweepRegions.each fun _ _ ho => ho.drainDone

theorem Dev.memWf.lockStrip {num s upTo} (h : d.memWf) : (d.lockStrip num s upTo).memWf := by
  unfold Dev.lockStrip
  dsimp only
  split
  · exact h
  · exact memWf_ite h <|
      have h1 := (h.foldl fun _ _ ho => ho.mirror).setRegion
      (h1.foldl fun _ _ ho => ho.add32.event.raise.spoil).foldl fun _ _ ho => ho.spoil

theorem Dev.memWf.lockRegion {r upTo} (h : d.memWf) : (d.lockRegion r upTo).memWf := h.each fun _ _ ho => ho.lockStrip

theorem Dev.memWf.lockTo {line} (h : d.memWf) : (d.lockTo line).memWf :=
  memWf_ite h (h.putInt.update.foldl fun _ _ ho => memWf_ite ho.lockRegion ho).afterRetire

theorem Dev.memWf.lockAhead {posLine} (h : d.memWf) : (d.lockAhead posLine).memWf := h.lockTo

theorem Dev.memWf.lockPass {pass reverse} (h : d.memWf) : (d.lockPass pass reverse).memWf :=
  memWf_ite h (h.foldl fun _ _ ho => memWf_ite ho (memWf_ite ho.lockRegion ho.setRegion.lockRegion)).afterRetire

theorem Dev.memWf.freeBlock {num s first} (h : d.memWf) : (d.freeBlock num s first).memWf := by
  unfold Dev.freeBlock
  dsimp only
  split
  · exact h
  · split
    · exact h
    · exact h.setRegion.update

theorem Dev.memWf.setRowBuf {n j x} (h : d.memWf) : (d.setRowBuf n j x).memWf := h.update

theorem Dev.memWf.retireBlocks {posLine} (h : d.memWf) : (d.retireBlocks posLine).memWf :=
  memWf_ite h (h.foldl fun _ _ ho => ho.freeBlock).afterRetire

end
end Sys2Proof.Machine
end

section
open Sys2Proof
namespace Sys2Proof.Machine
section
variable {d : Dev}

/-! ### Row readers, tables and engines (R135 to R173) -/

theorem Dev.memWf.setSyn {n x} (h : d.memWf) : (d.setSyn n x).memWf := h.update

theorem Dev.memWf.fillRow {n j f} (h : d.memWf) : (d.fillRow n j f).memWf := by
  unfold Dev.fillRow
  dsimp only
  split
  · exact h.setRowBuf.setFld.putInt
  · split
    · exact h.setRowBuf.setFld.putInt
    · exact h.setRowBuf.setFld

theorem Dev.memWf.releaseRow {n j line} (h : d.memWf) : (d.releaseRow n j line).memWf := memWf_ite h h.setRowBuf
theorem Dev.memWf.fillRows (h : d.memWf) : d.fillRows.memWf := h.each fun _ _ ho => ho.each fun _ _ ho2 => ho2.fillRow

theorem Dev.memWf.spoilPort {n f cause} (h : d.memWf) : (d.spoilPort n f cause).memWf := by
  unfold Dev.spoilPort
  split
  · exact h
  · exact h.each fun _ _ ho => ho.foldl fun _ _ ho2 => ho2.spoil

theorem Dev.memWf.setPage {n k v} (h : d.memWf) : (d.setPage n k v).memWf := by
  unfold Dev.setPage
  dsimp only
  split
  · exact h
  · exact h.wr

theorem Dev.memWf.resetPage {n} (h : d.memWf) : (d.resetPage n).memWf := by
  unfold Dev.resetPage
  exact h.each fun _ _ ho => by
    split
    · exact ho
    · exact ho.wr

theorem Dev.memWf.storeValue {n t v} (h : d.memWf) : (d.storeValue n t v).memWf := by
  unfold Dev.storeValue
  dsimp only
  split
  · exact h.setSyn
  · exact h.setPage

theorem Dev.memWf.noteStaged {n} (h : d.memWf) : (d.noteStaged n).memWf := h.setFld
theorem Dev.memWf.dropSet {n} (h : d.memWf) : (d.dropSet n).memWf := h.setSyn.setBit.setBit.noteStaged
theorem Dev.memWf.noteSpares (h : d.memWf) : d.noteSpares.memWf := h.setFld
theorem Dev.memWf.assignEngine {e n} (h : d.memWf) : (d.assignEngine e n).memWf := h.setBit.setBit.setFld.setFld.noteSpares
theorem Dev.memWf.noEngine {n} (h : d.memWf) : (d.noEngine n).memWf := h.setFld

theorem Dev.memWf.engineOut {e cause} (h : d.memWf) : (d.engineOut e cause).memWf :=
  h.setBit.setBit.setBit.setBit.setFld.setFld.noteSpares

theorem Dev.memWf.clearHistory (h : d.memWf) : d.clearHistory.memWf := h.update

theorem Dev.memWf.noteBusy {n} (h : d.memWf) : (d.noteBusy n).memWf := by
  unfold Dev.noteBusy
  split
  · exact h
  · exact h.setBit

theorem Dev.memWf.clearPort {n} (h : d.memWf) : (d.clearPort n).memWf := h.setSyn.noteBusy.each fun _ _ ho => ho.releaseRow
theorem Dev.memWf.clearBatches (h : d.memWf) : d.clearBatches.memWf := h.each fun _ _ ho => ho.clearPort
theorem Dev.memWf.foldMask {n h'} (h : d.memWf) : (d.foldMask n h').memWf := h.setSyn
theorem Dev.memWf.notePend (h : d.memWf) : d.notePend.memWf := h.setFld
theorem Dev.memWf.freePend (h : d.memWf) : d.freePend.memWf := h.update.notePend

theorem Dev.memWf.foldAll (h : d.memWf) : d.foldAll.memWf :=
  (h.foldl fun _ _ ho => ho.each fun _ _ ho2 => ho2.foldMask).update.notePend

/-! ### Frames of the inspection (R222 to R239) -/

theorem Dev.memWf.setPipe {c x} (h : d.memWf) : (d.setPipe c x).memWf := h.update
theorem Dev.memWf.noteStore (h : d.memWf) : d.noteStore.memWf := h.put
theorem Dev.memWf.retireCopies (h : d.memWf) : d.retireCopies.memWf := h.update.noteStore

theorem Dev.memWf.addCopy {x} (h : d.memWf) : (d.addCopy x).memWf :=
  memWf_ite
    (have h1 := h.update.count.each fun _ _ ho => ho.event
     memWf_ite h1.update.raise h1)
    h.update.noteStore

theorem Dev.memWf.sendFeed {x} (h : d.memWf) : (d.sendFeed x).memWf := by
  unfold Dev.sendFeed
  dsimp only
  split
  · exact h
  · split
    · exact h.casSend
    · exact h.casSend

theorem Dev.memWf.storeCopy {r strip e sibling} (h : d.memWf) : (d.storeCopy r strip e sibling).memWf :=
  memWf_ite h (memWf_ite h (memWf_ite h h.addCopy).sendFeed)

theorem Dev.memWf.frameLine {c fire pass yi place ms} (h : d.memWf) : (d.frameLine c fire pass yi place ms).memWf :=
  (memWf_ite h.setPipe.add32.event h.setPipe.add32).setBit.setFld

theorem Dev.memWf.postSummaries {c f} (h : d.memWf) : (d.postSummaries c f).memWf :=
  h.foldl fun _ _ ho => memWf_ite ho.postEvent ho

theorem Dev.memWf.frameClose {c early} (h : d.memWf) : (d.frameClose c early).memWf := by
  unfold Dev.frameClose
  dsimp only
  split
  · exact h
  · exact h.postSummaries.setPipe.update.put.setBit.setFld.event

theorem Dev.memWf.closeFrames (h : d.memWf) : d.closeFrames.memWf := h.each fun _ _ ho => ho.frameClose

/-! ### Head links (R174 to R211) -/

theorem Dev.memWf.setPort {n x} (h : d.memWf) : (d.setPort n x).memWf := h.update
theorem Dev.memWf.headWords {n type seq body} (h : d.memWf) : (d.headWords n type seq body).memWf := h.txMessage
theorem Dev.memWf.headSend {n type body} (h : d.memWf) : (d.headSend n type body).memWf := h.setPort.send.headWords
theorem Dev.memWf.setCredits {n v} (h : d.memWf) : (d.setCredits n v).memWf := h.setFld
theorem Dev.memWf.noteOutstanding {n} (h : d.memWf) : (d.noteOutstanding n).memWf := h.setFld
theorem Dev.memWf.returnCredits {n p} (h : d.memWf) : (d.returnCredits n p).memWf := h.setPort.setCredits.noteOutstanding
theorem Dev.memWf.withdrawPort {n f} (h : d.memWf) : (d.withdrawPort n f).memWf := h.headSend.returnCredits.setPort

theorem Dev.memWf.withdrawAll {f} (h : d.memWf) : (d.withdrawAll f).memWf :=
  (h.each fun _ _ ho => ho.withdrawPort.setPort).clearBatches.clearHistory

theorem Dev.memWf.allocSlate {n f tF late} (h : d.memWf) : (d.allocSlate n f tF late).memWf := h.setPort

theorem Dev.memWf.allocSlates {f tF late} (h : d.memWf) : (d.allocSlates f tF late).memWf :=
  h.each fun _ _ ho => ho.allocSlate

theorem Dev.memWf.noteFmax (h : d.memWf) : d.noteFmax.memWf := h.setFld

theorem Dev.memWf.checkRate (h : d.memWf) : d.checkRate.memWf :=
  memWf_ite (h.each fun _ _ ho => ho.event).setBit.event.raise.speedReq h

theorem Dev.memWf.setLink {n st} (h : d.memWf) : (d.setLink n st).memWf := (h.setFld.each fun _ _ ho => ho.setBit).noteFmax

theorem Dev.memWf.maskFault {n} (h : d.memWf) : (d.maskFault n).memWf :=
  memWf_ite h.setPort.clearPort (memWf_ite h.setPort.clearPort h)

theorem Dev.memWf.lanesFor {g st} (h : d.memWf) : (d.lanesFor g st).memWf := memWf_ite h.lanesDown (memWf_ite h.lanesRest h)

theorem Dev.memWf.linkRestart {n st} (h : d.memWf) : (d.linkRestart n st).memWf :=
  h.maskFault.lanesFor.setPort.setLink.setFld.setCredits.noteOutstanding.setBit.put

theorem Dev.memWf.linkDownEvent {n} (h : d.memWf) : (d.linkDownEvent n).memWf := memWf_ite h.event.event h
theorem Dev.memWf.relink {n} (h : d.memWf) : (d.relink n).memWf := h.linkDownEvent.count.linkRestart
theorem Dev.memWf.noteRejoin {n} (h : d.memWf) : (d.noteRejoin n).memWf := memWf_ite h.setPort h
theorem Dev.memWf.relinkFault {n} (h : d.memWf) : (d.relinkFault n).memWf := h.noteRejoin.relink
theorem Dev.memWf.linkDown {n} (h : d.memWf) : (d.linkDown n).memWf := h.noteRejoin.linkDownEvent.linkRestart
theorem Dev.memWf.linkTraining {n} (h : d.memWf) : (d.linkTraining n).memWf := memWf_ite h.setLink h
theorem Dev.memWf.linkCaps {n} (h : d.memWf) : (d.linkCaps n).memWf := memWf_ite h.setLink.setFld.setBit.txStart.setPort h
theorem Dev.memWf.sendCapset {n} (h : d.memWf) : (d.sendCapset n).memWf := h.headSend

theorem Dev.memWf.linkChoose {n} (h : d.memWf) : (d.linkChoose n).memWf := by
  unfold Dev.linkChoose
  dsimp only
  split
  · exact h.setPort.raise
  · exact h.setFld.setFld.setBit.setPort.sendCapset

theorem Dev.memWf.linkRetrain {n} (h : d.memWf) : (d.linkRetrain n).memWf := h.setPort.trainLanes

theorem Dev.memWf.linkRetrained {n} (h : d.memWf) : (d.linkRetrained n).memWf :=
  memWf_ite (memWf_ite h.setPort.txStart.sendCapset h.setPort.txStart.sendCapset.headSend) h

theorem Dev.memWf.sendEcho {n k} (h : d.memWf) : (d.sendEcho n k).memWf := h.txSlot.send

theorem Dev.memWf.startEcho {n u} (h : d.memWf) : (d.startEcho n u).memWf :=
  h.setPort.headSend.each fun _ _ ho => ho.sendEcho

theorem Dev.memWf.storePd {n pd} (h : d.memWf) : (d.storePd n pd).memWf := memWf_ite h.put.raise h.put
theorem Dev.memWf.checkPd {n} (h : d.memWf) : (d.checkPd n).memWf := memWf_ite h (memWf_ite h.setBit.raise h.setBit)

theorem Dev.memWf.maskUnfit {n} (h : d.memWf) : (d.maskUnfit n).memWf :=
  memWf_ite h.maskFault.setLink.setPort.setCredits.noteOutstanding h

theorem Dev.memWf.echoDone {n} (h : d.memWf) : (d.echoDone n).memWf := by
  unfold Dev.echoDone
  dsimp only
  split
  · exact h
  · split
    · exact h.setPort.headSend.setBit.raise.maskUnfit
    · split
      · exact memWf_ite h.setPort.headSend.raise h.setPort.headSend.storePd.maskUnfit
      · exact h.setPort.headSend.storePd.maskUnfit

theorem Dev.memWf.sendJoin {n f} (h : d.memWf) : (d.sendJoin n f).memWf :=
  h.put.setLink.headSend.setPort.setCredits.noteOutstanding.clearPort

theorem Dev.memWf.go {n} (h : d.memWf) : (d.go n).memWf := by
  unfold Dev.go
  dsimp only
  split
  · exact h.setFld.raise
  · exact memWf_ite h.setFld.sendJoin h.setFld.setPort

theorem Dev.memWf.joinWaiting (h : d.memWf) : d.joinWaiting.memWf :=
  (h.each fun _ _ ho => ho.setPort).each fun _ _ ho => memWf_ite ho.sendJoin ho.setPort

theorem Dev.memWf.autoRejoin {n} (h : d.memWf) : (d.autoRejoin n).memWf := memWf_ite h.setPort.go h.setPort
theorem Dev.memWf.headCheck {n} (h : d.memWf) : (d.headCheck n).memWf := memWf_ite h h.setBit.event.setPort

theorem Dev.memWf.linkUp {n} (h : d.memWf) : (d.linkUp n).memWf :=
  have h1 := (h.setLink.event.put.setPort.headCheck.each fun _ _ ho => ho.laneDeep).headSend
  memWf_ite h1.autoRejoin h1.startEcho

theorem Dev.memWf.relinkWide {n} (h : d.memWf) : (d.relinkWide n).memWf :=
  memWf_ite h <|
    memWf_ite h.linkDown <|
      have h1 := h.linkDownEvent.count.maskFault.setPort.setLink.setFld.setBit.setCredits.noteOutstanding
      (memWf_ite h1.event h1).noteRetrain.linkRetrain

/-! ### Web position, fires and passes (R53 to R87) -/

theorem Dev.memWf.setEnc {i x} (h : d.memWf) : (d.setEnc i x).memWf := h.update
theorem Dev.memWf.noteTrack (h : d.memWf) : d.noteTrack.memWf := h.update

theorem Dev.memWf.noteSpeed (h : d.memWf) : d.noteSpeed.memWf := by
  unfold Dev.noteSpeed
  dsimp only
  split
  · exact h.noteTrack.put.setBit.setBit
  · exact (memWf_ite h.noteTrack.closeFrames h.noteTrack).put.setBit.setBit

theorem Dev.memWf.alignTo {i t p} (h : d.memWf) : (d.alignTo i t p).memWf := h.setEnc

theorem Dev.memWf.resetSilent (h : d.memWf) : d.resetSilent.memWf := by
  unfold Dev.resetSilent
  dsimp only
  exact h.each fun _ _ ho => by
    split
    · exact ho.setEnc
    · exact ho

theorem Dev.memWf.alignOther (h : d.memWf) : d.alignOther.memWf := by
  unfold Dev.alignOther
  dsimp only
  split
  · exact memWf_ite h.alignTo.update h
  · exact h

theorem Dev.memWf.setSource {i} (h : d.memWf) : (d.setSource i).memWf := (h.each fun _ _ ho => ho.setBit).setFld.noteSpeed

theorem Dev.memWf.repeatOut (h : d.memWf) : d.repeatOut.memWf :=
  h.foldl fun _ _ ho => memWf_ite ho.update (memWf_ite ho ho.update)

theorem Dev.memWf.mirrorBind (h : d.memWf) : d.mirrorBind.memWf := h.mirror
theorem Dev.memWf.setBind {f l} (h : d.memWf) : (d.setBind f l).memWf := h.put.putInt

theorem Dev.memWf.seekRows (h : d.memWf) : d.seekRows.memWf :=
  h.each fun _ _ ho => ho.each fun _ _ ho2 => ho2.setRowBuf.setBit.fillRow

theorem Dev.memWf.rebind {l} (h : d.memWf) : (d.rebind l).memWf := h.setBind.withdrawAll.seekRows.closeFrames.mirrorBind
theorem Dev.memWf.noteFiring (h : d.memWf) : d.noteFiring.memWf := memWf_ite h (memWf_ite h.setBit.issueSpoils.foldAll h)

theorem Dev.memWf.takeHeld (h : d.memWf) : d.takeHeld.memWf := by
  unfold Dev.takeHeld
  dsimp only
  split
  · exact h
  · exact h.alignTo.update.setSource.alignOther

theorem Dev.memWf.stopFiring {cause} (h : d.memWf) : (d.stopFiring cause).memWf :=
  have h1 := memWf_ite h.setBit.setFld.stopReq h.setBit.setFld
  memWf_ite h1.withdrawAll.foldAll.noteFiring.mirrorBind h1

theorem Dev.memWf.stopByOther (h : d.memWf) : d.stopByOther.memWf := memWf_ite h.stopFiring h

theorem Dev.memWf.deadReckon (h : d.memWf) : d.deadReckon.memWf := by
  unfold Dev.deadReckon
  dsimp only
  split
  · exact h
  · split
    · exact h.update.setBit.event.stopReq.noteSpeed
    · exact (memWf_ite h.update.stopFiring h.update).noteSpeed

theorem Dev.memWf.loseInput {i} (h : d.memWf) : (d.loseInput i).memWf := by
  unfold Dev.loseInput
  dsimp only
  split
  · exact h
  · split
    · exact (memWf_ite h.setFld h).setBit.event.update
    · split
      · exact (memWf_ite h.setFld h).setBit.event.update.mirrorBind
      · split
        · exact memWf_ite
            (memWf_ite h.setFld h).setBit.event.update.alignTo.setSource.event.mirrorBind
            (memWf_ite h.setFld h).setBit.event.update.deadReckon.mirrorBind
        · exact (memWf_ite h.setFld h).setBit.event.update.deadReckon.mirrorBind

theorem Dev.memWf.forgetSpeed {i} (h : d.memWf) : (d.forgetSpeed i).memWf := h.setEnc

theorem Dev.memWf.deadReckonEnd (h : d.memWf) : d.deadReckonEnd.memWf := by
  unfold Dev.deadReckonEnd
  dsimp only
  split
  · exact h
  · exact (h.update.setBit.event.raise.stopFiring.each fun _ _ ho => ho.forgetSpeed).noteSpeed.takeHeld

theorem Dev.memWf.returnInput {i} (h : d.memWf) : (d.returnInput i).memWf :=
  memWf_ite h <|
    memWf_ite h.setBit.setEnc.resetSilent <|
      memWf_ite h.setBit.setEnc.resetSilent.update <|
        memWf_ite h.setBit.setEnc.resetSilent.alignTo.update.setSource.alignOther.mirrorBind <|
          memWf_ite h.setBit.setEnc.resetSilent.noteSpeed h.setBit.setEnc.resetSilent.alignOther.mirrorBind

theorem Dev.memWf.crossCheck (h : d.memWf) : d.crossCheck.memWf := by
  unfold Dev.crossCheck
  dsimp only
  split
  · exact memWf_ite (memWf_ite h.put.update.event.raise h.put.update) h
  · exact h

theorem Dev.memWf.checkSilent {i} (h : d.memWf) : (d.checkSilent i).memWf := by
  unfold Dev.checkSilent
  dsimp only
  split
  · exact h
  · exact memWf_ite h.setEnc.loseInput h.setEnc

theorem Dev.memWf.notePass (h : d.memWf) : d.notePass.memWf := h.setFld

theorem Dev.memWf.startPass {p} (h : d.memWf) : (d.startPass p).memWf :=
  memWf_ite h.update.put.notePass h.update.put.update.setBind.notePass

theorem Dev.memWf.endPass {aborted} (h : d.memWf) : (d.endPass aborted).memWf := by
  unfold Dev.endPass
  dsimp only
  split
  · exact h.event.setBit.closeFrames.startPass
  · exact h.event.setBit.closeFrames.update.notePass

theorem Dev.memWf.spoilSkipped {a b pass} (h : d.memWf) : (d.spoilSkipped a b pass).memWf :=
  h.foldl fun _ _ ho => memWf_ite ho (ho.each fun _ _ ho2 => ho2.foldl fun _ _ ho3 => memWf_ite ho3.spoil ho3)

theorem Dev.memWf.countSkips {n} (h : d.memWf) : (d.countSkips n).memWf := h.add32.event.raise

theorem Dev.memWf.abortPass (h : d.memWf) : d.abortPass.memWf := by
  unfold Dev.abortPass
  dsimp only
  split
  · exact h
  · exact (memWf_ite h.countSkips.spoilSkipped h.countSkips.spoilSkipped).endPass.withdrawAll.mirrorBind

theorem Dev.memWf.skipPassed (h : d.memWf) : d.skipPassed.memWf := by
  unfold Dev.skipPassed
  dsimp only
  split
  · exact h
  · split
    · exact memWf_ite h.countSkips.spoilSkipped.update.rebind h
    · split
      · exact h
      · exact memWf_ite h <|
          memWf_ite
            (memWf_ite
              (memWf_ite h.countSkips.spoilSkipped.update.endPass.withdrawAll h.countSkips.spoilSkipped.update.rebind)
              h)
            (memWf_ite
              (memWf_ite h.countSkips.spoilSkipped.update.endPass.withdrawAll h.countSkips.spoilSkipped.update.rebind)
              h)

theorem Dev.memWf.noteDeferral (h : d.memWf) : d.noteDeferral.memWf := memWf_ite h.count h.count.setBit.event.raise.speedReq
theorem Dev.memWf.rerunTimeout {f} (h : d.memWf) : (d.rerunTimeout f).memWf := memWf_ite h.update.setUnfit h

theorem Dev.memWf.surrenderAt {f} (h : d.memWf) : (d.surrenderAt f).memWf :=
  memWf_ite
    (memWf_ite (h.update.withdrawAll.each fun _ _ ho => memWf_ite ho ho.linkRestart).update.setFld h.update.withdrawAll)
    h

theorem Dev.memWf.commitFire {tF tQ reverse} (h : d.memWf) : (d.commitFire tF tQ reverse).memWf := by
  unfold Dev.commitFire
  extract_lets f late m last fire d1 d2 pos2 d3 dj d4 d5 d6 d7
  have h2 : d2.memWf := by
    dsimp only [d2, last]
    split
    · exact h.put.setBit.allocSlates.put
    · exact h.put.setBit.allocSlates
  have hj : dj.memWf := memWf_ite h2.update.journal h2.update
  have h4 : d4.memWf := hj.mirror.mirror.rerunTimeout.checkRate.surrenderAt
  have h6 : d6.memWf := (h4.each fun _ _ ho => ho.spoilPort).flushSpoils
  have h7 : d7.memWf := by
    dsimp only [d7]
    split
    · exact memWf_ite h6.endPass.mirrorBind h6.notePass
    · exact h6
  exact memWf_ite h7.update.raise.stopFiring h7

theorem Dev.memWf.makeFire {b tF tQ} (h : d.memWf) : (d.makeFire b tF tQ).memWf := by
  unfold Dev.makeFire
  split
  · exact memWf_ite (memWf_ite h.stopFiring h.noteDeferral.commitFire) h.commitFire
  · exact h.commitFire

theorem Dev.memWf.scheduledFire (h : d.memWf) : d.scheduledFire.memWf := by
  unfold Dev.scheduledFire
  dsimp only
  split
  · exact h
  · exact h.at.makeFire

theorem Dev.memWf.lateCommits {n} (h : d.memWf) : (Dev.lateCommits n d).memWf := by
  induction n generalizing d with
  | zero => exact h
  | succ n ih =>
    unfold Dev.lateCommits
    split
    · exact h
    · exact memWf_ite (ih h.makeFire) h

theorem Dev.memWf.directFires {n} (h : d.memWf) : (Dev.directFires n d).memWf := by
  induction n generalizing d with
  | zero => exact h
  | succ n ih =>
    unfold Dev.directFires
    split
    · exact h
    · exact memWf_ite (ih h.makeFire) h

theorem Dev.memWf.lineMoved (h : d.memWf) : d.lineMoved.memWf := memWf_ite h.lockAhead.retireBlocks h

theorem Dev.memWf.positionMoved (h : d.memWf) : d.positionMoved.memWf :=
  have h1 := memWf_ite h.lineMoved h.lineMoved.flushSpoils
  memWf_ite h1.directFires h1.lateCommits

/-! ### The end of the ingest check (R94, R95, R322) -/

theorem Dev.memWf.ingestFail {j e body} (h : d.memWf) : (d.ingestFail j e body).memWf := by
  unfold Dev.ingestFail
  dsimp only
  refine .afterRetire (.raise (.complete ?_))
  split
  · exact h.setRegion
  · exact h

theorem Dev.memWf.ingestStore {j} (h : d.memWf) : (d.ingestStore j).memWf := by
  unfold Dev.ingestStore
  dsimp only
  split
  · exact h.ingestFail
  · exact memWf_ite h.ingestFail (memWf_ite h.ingestFail h.setRegion.complete)

theorem Dev.memWf.ingestMirror {j} (h : d.memWf) : (d.ingestMirror j).memWf := h.update.mirror

theorem Dev.memWf.partnerAcked {ok} (h : d.memWf) : (d.partnerAcked ok).memWf :=
  (h.update.foldl fun _ _ ho => ho.ingestStore).releaseWaits

/-! ### Control loops and axes (R360 to R379) -/

theorem Dev.memWf.setCtl {l x} (h : d.memWf) : (d.setCtl l x).memWf := h.update
theorem Dev.memWf.setLoopSt {l st} (h : d.memWf) : (d.setLoopSt l st).memWf := h.setFld.setBit
theorem Dev.memWf.setLsp {p x} (h : d.memWf) : (d.setLsp p x).memWf := h.update
theorem Dev.memWf.loopOut {l u} (h : d.memWf) : (d.loopOut l u).memWf := memWf_ite h.setFld.setLsp h.setFld
theorem Dev.memWf.rcLearn {l b e} (h : d.memWf) : (d.rcLearn l b e).memWf := h.setCtl

theorem Dev.memWf.evaluate {l frozen} (h : d.memWf) : (d.evaluate l frozen).memWf := by
  unfold Dev.evaluate
  dsimp only
  split
  · exact memWf_ite h.drawn.drawn.setCtl.putInt.loopOut.setBit h.drawn.drawn.setCtl.putInt.loopOut.setBit.rcLearn
  · exact h.drawn.drawn.setCtl.putInt.loopOut.setBit

theorem Dev.memWf.enterHold {l stale frozen} (h : d.memWf) : (d.enterHold l stale frozen).memWf :=
  have h1 := memWf_ite h.setLoopSt.setCtl.setBit.count.raise h.setLoopSt.setCtl
  (memWf_ite h1.setBit.count.raise h1).event

theorem Dev.memWf.evalRun {l stale frozen} (h : d.memWf) : (d.evalRun l stale frozen).memWf :=
  memWf_ite h.enterHold (memWf_ite h.evaluate (memWf_ite h.enterHold h.setLoopSt.setCtl.evaluate))

theorem Dev.memWf.evalStale {l stale frozen} (h : d.memWf) : (d.evalStale l stale frozen).memWf :=
  memWf_ite (memWf_ite h.enterHold h.setCtl.evaluate) <|
    memWf_ite h.setCtl.evaluate (memWf_ite h.setLoopSt.setCtl.evaluate h.setCtl.evaluate)

theorem Dev.memWf.evalHold {l stale frozen} (h : d.memWf) : (d.evalHold l stale frozen).memWf :=
  memWf_ite h.setCtl (memWf_ite h.setLoopSt.setCtl.evaluate h.setCtl)

theorem Dev.memWf.evalLoop {l t} (h : d.memWf) : (d.evalLoop l t).memWf :=
  memWf_ite h.evalRun (memWf_ite h.evalStale (memWf_ite h.evalHold (memWf_ite h.loopOut (memWf_ite h h.setCtl.loopOut))))

theorem Dev.memWf.missLoop {l} (h : d.memWf) : (d.missLoop l).memWf :=
  memWf_ite h.setBit.count.event.setCtl.raise h.setBit.count.event

theorem Dev.memWf.loopSample {l fseq v} (h : d.memWf) : (d.loopSample l fseq v).memWf :=
  memWf_ite (memWf_ite h.setCtl.put.setLoopSt h.setCtl.put) h.count

theorem Dev.memWf.sampleFor {kind port chan fseq v} (h : d.memWf) : (d.sampleFor kind port chan fseq v).memWf :=
  h.each fun _ _ ho => ho.loopSample

theorem Dev.memWf.sampleCfg {n} (h : d.memWf) : (d.sampleCfg n).memWf :=
  memWf_ite h (h.each fun _ _ ho => ho.setCtl).headSend

theorem Dev.memWf.startLoops (h : d.memWf) : d.startLoops.memWf := (h.update.each fun _ _ ho => ho.put.putInt.put.put).put
theorem Dev.memWf.setAxis {a x} (h : d.memWf) : (d.setAxis a x).memWf := h.update.setBit.setBit.setFld.put.put
theorem Dev.memWf.axisStop {a} (h : d.memWf) : (d.axisStop a).memWf := h.setAxis.setBit
theorem Dev.memWf.axisFault {a} (h : d.memWf) : (d.axisFault a).memWf := h.axisStop.setBit.event.raise
theorem Dev.memWf.homeFail {a} (h : d.memWf) : (d.homeFail a).memWf := h.axisStop.setBit.event.raise
theorem Dev.memWf.issueSteps {a p0 p1} (h : d.memWf) : (d.issueSteps a p0 p1).memWf := h.foldl fun _ _ ho => ho.send

theorem Dev.memWf.planLeg {a x g} (h : d.memWf) : (d.planLeg a x g).memWf :=
  memWf_ite h.setAxis (memWf_ite h h.issueSteps.setAxis)

theorem Dev.memWf.atRest {a} (h : d.memWf) : (d.atRest a).memWf := by
  unfold Dev.atRest
  dsimp only
  split
  · exact h
  · split
    · exact h.setAxis
    · split
      · exact h.setAxis
      · exact h

theorem Dev.memWf.planAxis {a} (h : d.memWf) : (d.planAxis a).memWf := by
  unfold Dev.planAxis
  dsimp only
  split
  · exact h
  · exact memWf_ite h.planLeg.atRest.homeFail h.planLeg.atRest

theorem Dev.memWf.nextCurrent {a} (h : d.memWf) : (d.nextCurrent a).memWf :=
  memWf_ite h.setFld.setAxis (memWf_ite h h.setFld.setAxis)

theorem Dev.memWf.serveBus {b enable} (h : d.memWf) : (d.serveBus b enable).memWf :=
  h.each fun _ _ ho => ho.nextCurrent.send

theorem Dev.memWf.shedAxes (h : d.memWf) : d.shedAxes.memWf := h.each fun _ _ ho => ho.axisStop

theorem Dev.memWf.saveLoops (h : d.memWf) : d.saveLoops.memWf :=
  ((h.each fun _ _ ho => memWf_ite ho.loopOut.send ho.loopOut).each fun _ _ ho => memWf_ite ho.serveBus ho).update

theorem Dev.memWf.resumeLoops (h : d.memWf) : d.resumeLoops.memWf := h.each fun _ _ ho => ho.setCtl

theorem Dev.memWf.takeAxes (h : d.memWf) : d.takeAxes.memWf := by
  unfold Dev.takeAxes
  dsimp only
  exact h.each fun _ _ ho => by
    split
    · exact memWf_ite ho.axisStop ho.setAxis
    · exact ho

/-! ### Health commands (R141 to R145, R248, R249) -/

theorem Dev.memWf.spoilColumns {f lo hi a b pass cause} (h : d.memWf) : (d.spoilColumns f lo hi a b pass cause).memWf :=
  h.foldl fun _ _ ho => ho.each fun _ _ ho2 => memWf_ite ho2.spoil ho2

theorem Dev.memWf.settleHolds (h : d.memWf) : d.settleHolds.memWf := h.update

theorem Dev.memWf.spoilDead {p} (h : d.memWf) : (d.spoilDead p).memWf :=
  (memWf_ite (h.foldl fun _ _ ho => memWf_ite ho.spoilColumns ho) h).update

theorem Dev.memWf.loopForget {f h'} (h : d.memWf) : (d.loopForget f h').memWf := h.update
theorem Dev.memWf.noteRestored {f h' line} (h : d.memWf) : (d.noteRestored f h' line).memWf := h.update
theorem Dev.memWf.addDead {f h' line} (h : d.memWf) : (d.addDead f h' line).memWf := h.update

theorem Dev.memWf.noteDead {f h' line} (h : d.memWf) : (d.noteDead f h' line).memWf :=
  memWf_ite h (memWf_ite (h.raise.foldl fun _ _ ho => ho.qlLog) h.raise).addDead

theorem Dev.memWf.healthResult {fe lh low} (h : d.memWf) : (d.healthResult fe lh low).memWf := h.put.putInt.putInt.putInt

theorem Dev.memWf.noteLost {f h' low lh} (h : d.memWf) : (d.noteLost f h' low lh).memWf :=
  memWf_ite (memWf_ite h.qlLog.spoilColumns h.qlLog) h

theorem Dev.memWf.healthAccept {f h' line} (h : d.memWf) : (d.healthAccept f h' line).memWf :=
  have h1 := memWf_ite h.healthResult.mirror.journal.update.notePend h.healthResult.mirror.journal.update.notePend.foldAll
  memWf_ite h1.loopForget.noteRestored.noteDead.noteLost.casSend h1.loopForget.noteRestored.noteDead.noteLost

theorem Dev.memWf.clearHead {n} (h : d.memWf) : (d.clearHead n).memWf := by
  unfold Dev.clearHead
  dsimp only
  split
  · exact h.raise
  · exact h.healthAccept

/-! ### The print-quality loop (R240 to R257) -/

theorem Dev.memWf.setCell {n m x} (h : d.memWf) : (d.setCell n m x).memWf := h.update
theorem Dev.memWf.noteLoop (h : d.memWf) : d.noteLoop.memWf := h.setBit.setFld.setFld
theorem Dev.memWf.mirrorCells {ks} (h : d.memWf) : (d.mirrorCells ks).memWf := memWf_ite h h.mirror

theorem Dev.memWf.noteSaturated {n m sat} (h : d.memWf) : (d.noteSaturated n m sat).memWf :=
  memWf_ite h.setCell.count.qlLog (memWf_ite h.setCell h)

theorem Dev.memWf.loopSet {n} (h : d.memWf) : (d.loopSet n).memWf :=
  memWf_ite h <|
    have h1 := h.foldl fun _ _ ho => ho.noteSaturated.setCell
    memWf_ite h1 <|
      memWf_ite h1.count <|
        have h2 := h1.setSyn.noteStaged.put.setBit.mirror.foldl fun _ _ ho => ho.noteSaturated.setCell
        h2.update.count.event.qlLog.noteLoop

theorem Dev.memWf.loopSetApplied {n f} (h : d.memWf) : (d.loopSetApplied n f).memWf := by
  unfold Dev.loopSetApplied
  dsimp only
  split
  · exact h
  · exact (h.each fun _ _ ho => ho.setCell).update.noteLoop.mirrorCells

theorem Dev.memWf.loopSetGone {n} (h : d.memWf) : (d.loopSetGone n).memWf := by
  unfold Dev.loopSetGone
  dsimp only
  split
  · exact h
  · exact (h.each fun _ _ ho => ho.setCell).update.qlLog.noteLoop.mirrorCells

theorem Dev.memWf.takeEstimate {cand accumulate n m v} (h : d.memWf) : (d.takeEstimate cand accumulate n m v).memWf :=
  memWf_ite h.setCell (memWf_ite h.setCell h.setCell)

theorem Dev.memWf.decide' {ns frame sense} (h : d.memWf) : (d.decide' ns frame sense).memWf :=
  h.foldl fun _ _ ho =>
    have h1 := ho.count.event.foldl fun _ _ ho2 => ho2.qlLog
    memWf_ite h1.update h1

theorem Dev.memWf.loopRecord {r} (h : d.memWf) : (d.loopRecord r).memWf :=
  memWf_ite h ((h.update.foldl fun _ _ ho => ho.takeEstimate).decide'.each fun _ _ ho => ho.loopSet).mirrorCells.noteLoop

theorem Dev.memWf.senseEntry {n m cls} (h : d.memWf) : (d.senseEntry n m cls).memWf :=
  memWf_ite h.setCell (memWf_ite h h.setCell)

theorem Dev.memWf.senseEntries {n entries} (h : d.memWf) : (d.senseEntries n entries).1.memWf := by
  induction entries generalizing d with
  | nil => exact h
  | cons w t ih =>
    unfold Dev.senseEntries
    dsimp only
    split
    · exact ih h.senseEntry
    · exact ih h.senseEntry

theorem Dev.memWf.decisionDone {x} (h : d.memWf) : (d.decisionDone x).memWf :=
  have h1 := (h.healthAccept.foldl fun _ _ ho => ho.qlLog).foldl fun _ _ ho => ho.setCell
  (h1.foldl fun _ _ ho => ho.setCell).mirrorCells

theorem Dev.memWf.present {x} (h : d.memWf) : (d.present x).memWf := by
  unfold Dev.present
  dsimp only
  split
  · exact h.update.decisionDone.noteLoop
  · exact (memWf_ite h.update.raise.event.qlLog h.update).noteLoop
  · exact h.update.noteLoop

theorem Dev.memWf.loopClear (h : d.memWf) : d.loopClear.memWf := h.update
theorem Dev.memWf.loopClearPort {n} (h : d.memWf) : (d.loopClearPort n).memWf := h.update
theorem Dev.memWf.sendShape (h : d.memWf) : d.sendShape.memWf := h.casSend

end
end Sys2Proof.Machine
end

section
open Sys2Proof
namespace Sys2Proof.Machine
section
variable {d : Dev}

/-! ### Submission entries (R271 to R275) -/

theorem Dev.memWf.sqTake {s n} (h : d.memWf) : (d.sqTake s n).memWf := h.put
theorem Dev.memWf.takeEntry {s w} (h : d.memWf) : (d.takeEntry s w).memWf := h.setCtx

theorem Dev.memWf.ensureTaken {s w} (h : d.memWf) : (d.ensureTaken s w).memWf :=
  memWf_ite h (memWf_ite h.takeEntry h.takeEntry.sqTake)

theorem Dev.memWf.entryErr {s w e} (h : d.memWf) : (d.entryErr s w e).memWf := h.complete.raise
theorem Dev.memWf.entryOk {s w body} (h : d.memWf) : (d.entryOk s w body).memWf := h.complete

theorem Dev.memWf.entry {s opcode w f} (h : d.memWf) (hf : ∀ e, e.memWf → (f e).memWf) : (d.entry s opcode w f).memWf := by
  unfold Dev.entry
  dsimp only
  split
  · exact h
  · split
    · exact h.ensureTaken.entryErr
    · exact hf _ h.ensureTaken

/-! ### Regions opened and closed (R89 to R92, R278) -/

theorem Dev.memWf.countRegions {s} (h : d.memWf) : (d.countRegions s).memWf := h.put.setFld

theorem Dev.memWf.regionOpen {s w} (h : d.memWf) : (d.regionOpen s w).memWf := by
  unfold Dev.regionOpen
  dsimp only
  split
  · exact h.entryErr
  · split
    · exact h.entryErr
    · exact h.takeUnits.update.countRegions.entryOk

theorem Dev.memWf.closeRegion {r req} (h : d.memWf) : (d.closeRegion r req).memWf := h.setRegion.countRegions.sweepRegions
theorem Dev.memWf.endRegion {r} (h : d.memWf) : (d.endRegion r).memWf := h.setRegion.closeRegion

theorem Dev.memWf.regionClose {s w} (h : d.memWf) : (d.regionClose s w).memWf := by
  unfold Dev.regionClose
  dsimp only
  split
  · exact h.entryErr
  · exact memWf_ite h.entryErr h.closeRegion.entryOk

/-! ### Contexts (R264 to R284) -/

theorem Dev.memWf.noteContexts (h : d.memWf) : d.noteContexts.memWf := h.put.put

theorem Dev.memWf.contextChanged {s what} (h : d.memWf) : (d.contextChanged s what).memWf :=
  h.noteContexts.journal.mirrorCtx

theorem Dev.memWf.endSubs {h'} (h : d.memWf) : (d.endSubs h').memWf := h.each fun _ _ ho => memWf_ite ho ho.setPipe

theorem Dev.memWf.dropJobs {s} (h : d.memWf) : (d.dropJobs s).memWf := by
  unfold Dev.dropJobs
  dsimp only
  refine .update ?_
  exact h.foldl fun _ _ ho => by
    split
    · exact ho.setRegion
    · exact ho

theorem Dev.memWf.closeContext {s} (h : d.memWf) : (d.closeContext s).memWf :=
  (h.setFld.put.dropJobs.setCtx.postDone.foldl fun _ _ ho => ho.endRegion).endSubs.ctxEvent.drainDone

theorem Dev.memWf.clearPage {s} (h : d.memWf) : (d.clearPage s).memWf := h.foldl fun _ _ ho => ho.put
theorem Dev.memWf.freeSlot {s} (h : d.memWf) : (d.freeSlot s).memWf := h.clearPage.setCtx.setFld

theorem Dev.memWf.parkDone {s tag k} (h : d.memWf) : (d.parkDone s tag k).memWf :=
  h.update.freeSlot.put.contextChanged.complete

theorem Dev.memWf.moveSpans {h' s} (h : d.memWf) : (d.moveSpans h' s).memWf := h.update

theorem Dev.memWf.activateDone {s tag k} (h : d.memWf) : (d.activateDone s tag k).memWf := by
  unfold Dev.activateDone
  dsimp only
  split
  · exact h.complete
  · exact
      have h1 := h.update.setFld.foldl fun _ _ ho => ho.put
      (memWf_ite h1.setFld.setFld h1).setCtx.setFld.setBit.put.moveSpans.contextChanged.complete

/-! ### The partner block (R314 to R335) -/

theorem Dev.memWf.setRole {r} (h : d.memWf) : (d.setRole r).memWf :=
  have h1 := memWf_ite h h.journal
  have h2 := (memWf_ite h1 h1.update).setFld.setBit.noteFit.noteLoop
  memWf_ite h2 h2.partnerAcked

theorem Dev.memWf.sendDaily (h : d.memWf) : d.sendDaily.memWf := h.update.mirrorSend

theorem Dev.memWf.compareDailies (h : d.memWf) : d.compareDailies.memWf := by
  unfold Dev.compareDailies
  dsimp only
  split
  · exact h
  · exact memWf_ite (memWf_ite h.event.raise.setUnfit h.event.raise) h.setUnfit

theorem Dev.memWf.surrender {cause} (h : d.memWf) : (d.surrender cause).memWf :=
  memWf_ite h.mirrorSend.setFld.update.setRole h.mirrorSend.setFld.update.setUnfit.setRole

theorem Dev.memWf.goOff (h : d.memWf) : d.goOff.memWf := (h.each fun _ _ ho => memWf_ite ho ho.linkRestart).update.setRole

theorem Dev.memWf.spoilSplice (h : d.memWf) : d.spoilSplice.memWf := by
  unfold Dev.spoilSplice
  dsimp only
  refine .update ?_
  exact h.foldl fun _ _ ho => by
    split
    · exact ho.spoil
    · exact ho

theorem Dev.memWf.restoreContexts {ft} (h : d.memWf) : (d.restoreContexts ft).memWf :=
  (h.foldl fun _ _ ho => memWf_ite ho.put.send ho.put.setCtx).update.each fun _ _ ho => ho.ctxEvent.stopRings

theorem Dev.memWf.takeover {ft} (h : d.memWf) : (d.takeover ft).memWf :=
  have h1 := (h.update.setRole.put.count.each fun _ _ ho => ho.setPort).each fun _ _ ho => ho.clearHead
  h1.spoilSplice.restoreContexts.takeAxes.event.raise

theorem Dev.memWf.silentDeath (h : d.memWf) : d.silentDeath.memWf :=
  memWf_ite h (memWf_ite h.update h.update.setRole.stopByOther.stopReq.raise)

theorem Dev.memWf.noteMatch {n} (h : d.memWf) : (d.noteMatch n).memWf := memWf_ite h.update.setUnfit h.update

theorem Dev.memWf.mismatch {n f} (h : d.memWf) : (d.mismatch n f).memWf := by
  unfold Dev.mismatch
  dsimp only
  refine .update ?_
  split
  · exact h.update.count.event.raise
  · exact h.update.count.event.raise.setBit.noteSpares

theorem Dev.memWf.comparePort {n f theirs flagged} (h : d.memWf) : (d.comparePort n f theirs flagged).memWf := by
  unfold Dev.comparePort
  dsimp only
  split
  · exact h
  · exact memWf_ite (memWf_ite h.count.noteMatch h.count.mismatch) h.count

theorem Dev.memWf.compareLate {n f} (h : d.memWf) : (d.compareLate n f).memWf := by
  unfold Dev.compareLate
  split
  · split
    · exact h.comparePort
    · exact h
  · exact h

theorem Dev.memWf.noteCmp (h : d.memWf) : d.noteCmp.memWf := by
  unfold Dev.noteCmp
  dsimp only
  split
  · exact h.update
  · exact h

theorem Dev.memWf.rebound (h : d.memWf) : d.rebound.memWf := h.withdrawAll.seekRows.closeFrames.noteCmp

theorem Dev.memWf.mirrorEnable {on} (h : d.memWf) : (d.mirrorEnable on).memWf :=
  memWf_ite
    (memWf_ite h.setBit.setBit h.setBit.setBit.setFld.stopFree.clearBatches.clearHistory.seekRows.noteCmp.joinWaiting)
    (memWf_ite h.setBit.noteFiring.withdrawAll.foldAll h.setBit.noteFiring)

theorem Dev.memWf.applyBind {b} (h : d.memWf) : (d.applyBind b).memWf := by
  unfold Dev.applyBind
  dsimp only
  refine .notePass (.mirrorEnable ?_)
  split
  · refine .noteCmp ?_
    split
    · exact h.setBind.put.put.put.put.setEnc.update.putInt.update
    · exact h.setBind.put.put.put.put.setEnc.update
  · refine .rebound ?_
    split
    · exact h.setBind.put.put.put.put.setEnc.update.putInt.update
    · exact h.setBind.put.put.put.put.setEnc.update

theorem Dev.memWf.applyCommit {f l} (h : d.memWf) : (d.applyCommit f l).memWf :=
  memWf_ite h.settleHolds h.count.setBind.rebound

theorem Dev.memWf.applyLock {region strip first lines missing} (h : d.memWf) :
    (d.applyLock region strip first lines missing).memWf := by
  unfold Dev.applyLock
  dsimp only
  split
  · exact h
  · split
    · exact h.setRegion
    · exact h.setRegion.update.put
    · exact h.setRegion

theorem Dev.memWf.applyBlock {region strip first lines heapLen bytes} (h : d.memWf) :
    (d.applyBlock region strip first lines heapLen bytes).memWf := by
  unfold Dev.applyBlock
  dsimp only
  split
  · exact h
  · split
    · exact h
    · exact h.setRegion.update.put

theorem Dev.memWf.applyTable {n es fire} (h : d.memWf) : (d.applyTable n es fire).memWf := by
  unfold Dev.applyTable
  dsimp only
  split
  · exact memWf_ite h.dropSet (h.foldl fun _ _ ho => ho.storeValue)
  · exact h.setSyn.noteStaged.put.setBit

theorem Dev.memWf.applyMasks {n base folds} (h : d.memWf) : (d.applyMasks n base folds).memWf := h.setSyn

theorem Dev.memWf.applyHealth {e} (h : d.memWf) : (d.applyHealth e).memWf :=
  (memWf_ite h.update.notePend h.update.notePend.foldAll).loopForget.noteRestored.addDead.noteLoop

theorem Dev.memWf.applyCrc {f comparable crcs} (h : d.memWf) : (d.applyCrc f comparable crcs).memWf :=
  h.update.each fun _ _ ho => ho.comparePort

theorem Dev.memWf.applyPage {s regs generation wrapped drops energy ivs} (h : d.memWf) :
    (d.applyPage s regs generation wrapped drops energy ivs).memWf :=
  have h1 := h.foldl fun _ _ ho => ho.wr
  have h2 := memWf_ite h1.setCtx (memWf_ite h1.setCtx.put.dropUnits h1.setCtx.put.takeUnits)
  have h3 := memWf_ite (h2.dropJobs.foldl fun _ _ ho => ho.endRegion) h2
  memWf_ite h3.noteContexts h3.update.countRegions.noteContexts

theorem Dev.memWf.applyRegion {r} (h : d.memWf) : (d.applyRegion r).memWf := memWf_ite h h.update.countRegions

theorem Dev.memWf.applyEffect {s entry status body pos} (h : d.memWf) : (d.applyEffect s entry status body pos).memWf := by
  unfold Dev.applyEffect
  dsimp only
  refine .update ?_
  split
  · exact h
  · split
    · exact h.takeUnits.applyRegion
    · split
      · split
        · exact h.closeRegion
        · exact h
      · exact memWf_ite h.setPipe (memWf_ite h.setPipe h)

theorem Dev.memWf.applyLoop {cells armed} (h : d.memWf) : (d.applyLoop cells armed).memWf :=
  (h.foldl fun _ _ ho => ho.setCell).update.noteLoop

/-! ### Engine faults and spares (R170, R171) -/

theorem Dev.memWf.discardRun {n} (h : d.memWf) : (d.discardRun n).memWf := h.setSyn

theorem Dev.memWf.substitute {e n spare} (h : d.memWf) : (d.substitute e n spare).memWf :=
  h.setBit.noteSpares.discardRun.cueRequest

theorem Dev.memWf.noSpare {n} (h : d.memWf) : (d.noSpare n).memWf :=
  memWf_ite
    h.event.raise.surrender
    (memWf_ite h.event.raise.noEngine.maskFault.setLink h.event.raise.noEngine.maskFault).clearHead

theorem Dev.memWf.engineFail {e cause} (h : d.memWf) : (d.engineFail e cause).memWf := by
  unfold Dev.engineFail
  dsimp only
  split
  · exact h
  · split
    · exact h.engineOut.event.raise
    · split
      · exact h.engineOut.event.raise.substitute
      · exact h.engineOut.event.raise.discardRun.noSpare

/-! ### Activations (R41, R46, R47) -/

theorem Dev.memWf.setImgState {v} (h : d.memWf) : (d.setImgState v).memWf := h.setFld
theorem Dev.memWf.setPools (h : d.memWf) : d.setPools.memWf := h.update.put.put
theorem Dev.memWf.setReport {r} (h : d.memWf) : (d.setReport r).memWf := h.update.put.setBit.setBit
theorem Dev.memWf.dropShadow (h : d.memWf) : d.dropShadow.memWf := h.update.setBit.setBit

theorem Dev.memWf.loadDone (h : d.memWf) : d.loadDone.memWf := by
  unfold Dev.loadDone
  dsimp only
  split
  · exact h.dropShadow.setReport.setImgState.put.put.raise
  · exact h.update.setReport.setImgState.setBit.setBit.put.setBit.irqPulse

theorem Dev.memWf.setShape (h : d.memWf) : d.setShape.memWf := h.put.put.each fun _ _ ho => ho.put
theorem Dev.memWf.setDigest (h : d.memWf) : d.setDigest.memWf := h.each fun _ _ ho => ho.put

theorem Dev.memWf.maskAll (h : d.memWf) : d.maskAll.memWf :=
  h.each fun _ _ ho => ho.setPort.setLink.clearPort.setCredits.noteOutstanding

theorem Dev.memWf.assignEngines (h : d.memWf) : d.assignEngines.memWf := by
  unfold Dev.assignEngines
  dsimp only
  exact ((h.each fun _ _ ho => memWf_ite ho ho.put).each fun _ _ ho => ho.noEngine).noteSpares.each fun _ _ ho =>
    memWf_ite ho.assignEngine <| by
      split
      · exact ho.raise
      · exact ho.assignEngine

theorem Dev.memWf.resetTables {old} (h : d.memWf) : (d.resetTables old).memWf :=
  h.each fun _ _ ho =>
    have h1 := memWf_ite ho.loopSetGone.dropSet.raise ho
    memWf_ite h1 h1.setSyn.resetPage.setBit.loopClearPort

theorem Dev.memWf.setRows (h : d.memWf) : d.setRows.memWf :=
  h.each fun _ _ ho => ho.put.put.each fun _ _ ho2 => ho2.put.setFld

theorem Dev.memWf.setInspection (h : d.memWf) : d.setInspection.memWf := (h.update.put.each fun _ _ ho => ho.put).noteStore
theorem Dev.memWf.freezeAt {i} (h : d.memWf) : (d.freezeAt i).memWf := h.update
theorem Dev.memWf.freshPos (h : d.memWf) : d.freshPos.memWf := h.update.setBit.put

theorem Dev.memWf.setPosition (h : d.memWf) : d.setPosition.memWf := by
  unfold Dev.setPosition
  split
  · exact h.freshPos.resetSilent.setSource.repeatOut
  · exact h.freshPos.resetSilent.freezeAt.setSource.repeatOut

theorem Dev.memWf.bringUp (h : d.memWf) : d.bringUp.memWf := h.each fun _ _ ho => memWf_ite ho.linkRestart.linkChoose ho
theorem Dev.memWf.endImage (h : d.memWf) : d.endImage.memWf := h.closeFrames.maskAll.each fun _ _ ho => ho.clearPort
theorem Dev.memWf.takeImage {g} (h : d.memWf) : (d.takeImage g).memWf := h.update.setImgState.setBit.setBit.put

theorem Dev.memWf.setLanes (h : d.memWf) : d.setLanes.memWf :=
  h.each fun _ _ ho => memWf_ite (memWf_ite ho ho.setLaneSt.setGood.unmark) (memWf_ite ho.laneDeep ho)

theorem Dev.memWf.takeFields {old} (h : d.memWf) : (d.takeFields old).memWf :=
  h.setShape.setDigest.assignEngines.resetTables.setRows.setInspection.setLanes

theorem Dev.memWf.showDaily (h : d.memWf) : d.showDaily.memWf := memWf_ite h.sendDaily h.compareDailies

theorem Dev.memWf.activateStop {g} (h : d.memWf) : (d.activateStop g).memWf :=
  have h1 := h.endImage.takeImage.takeFields.setPools.setPosition.lineMoved.seekRows.startLoops.bringUp
  (h1.each fun _ _ ho => ho.checkPd).journal.sendShape.showDaily

theorem Dev.memWf.activateHot {g} (h : d.memWf) : (d.activateHot g).memWf :=
  ((h.each fun _ _ ho => ho.frameClose).update.each fun _ _ ho => ho.put).put

end
end Sys2Proof.Machine
end

section
open Sys2Proof
namespace Sys2Proof.Machine
section
variable {d : Dev}

/-! ### Host ports and network time (R290 to R313) -/

theorem Dev.memWf.xptDrop (h : d.memWf) : d.xptDrop.memWf := h.count

theorem Dev.memWf.xptRefill {n s} (h : d.memWf) : (Dev.xptRefill n d s).memWf := by
  induction n generalizing d with
  | zero => exact h
  | succ n ih =>
    unfold Dev.xptRefill
    dsimp only
    split
    · exact h
    · exact memWf_ite h (ih h.setSess.xptSend)

theorem Dev.memWf.xptTakeAck {g} (h : d.memWf) : (d.xptTakeAck g).memWf := h.setSess.xptRefill

theorem Dev.memWf.xptEnd {s} (h : d.memWf) : (d.xptEnd s).memWf :=
  memWf_ite h.setCtx.setSess.put h.setCtx.setSess.put.dropUnits

theorem Dev.memWf.xptPutEntries {s pos data} (h : d.memWf) : (d.xptPutEntries s pos data).memWf := h.setCtx
theorem Dev.memWf.xptStage {s off data} (h : d.memWf) : (d.xptStage s off data).memWf := memWf_ite h.accessErr h.setSess

theorem Dev.memWf.xptDeliver {s type p} (h : d.memWf) : (d.xptDeliver s type p).memWf :=
  memWf_ite h.xptPutEntries <|
    memWf_ite h.raise (memWf_ite h.sqDoorbell.cqDoorbell (memWf_ite h.xptStage (memWf_ite h.xptEnd h)))

theorem Dev.memWf.xptDrain {n s} (h : d.memWf) : (Dev.xptDrain n d s).memWf := by
  induction n generalizing d with
  | zero => exact h
  | succ n ih =>
    unfold Dev.xptDrain
    dsimp only
    split
    · exact h
    · exact ih h.setSess.xptDeliver

theorem Dev.memWf.xptOrder {g} (h : d.memWf) : (d.xptOrder g).memWf :=
  memWf_ite h.xptDrop (memWf_ite h.xptTakeAck.setSess.xptDeliver.xptDrain h.xptTakeAck.setSess)

theorem Dev.memWf.xptArrive {type data} (h : d.memWf) : (d.xptArrive type data).memWf := by
  unfold Dev.xptArrive
  split
  · exact h.xptDrop
  · exact memWf_ite h (memWf_ite h.xptDrop (memWf_ite h.xptTakeAck h.xptOrder))

theorem Dev.memWf.xptBind {s ep peer port vlan v mb p} (h : d.memWf) : (d.xptBind s ep peer port vlan v mb p).memWf :=
  (memWf_ite h h.dropUnits).takeUnits.setCtx.setSess.put.setBit.setBit.xptSend

theorem Dev.memWf.xptHello {ep peer port vlan data} (h : d.memWf) : (d.xptHello ep peer port vlan data).memWf := by
  unfold Dev.xptHello
  dsimp only
  split
  · exact h.xptDrop
  · exact memWf_ite h (memWf_ite h.raise (memWf_ite (memWf_ite h.xptBind.xptFlushCqe h.xptBind).postDone h.raise.xptEmitAt))

theorem Dev.memWf.execHello {ep peer port vlan data} (h : d.memWf) : (d.viaRow (execHello ep peer port vlan data)).memWf :=
  memWf_viaRow (fun _ => rfl) h.xptHello

theorem Dev.memWf.execEntries {data} (h : d.memWf) : (d.viaRow (execEntries data)).memWf :=
  memWf_viaRow (fun _ => rfl) h.xptArrive

theorem Dev.memWf.execXptDoorbell {data} (h : d.memWf) : (d.viaRow (execXptDoorbell data)).memWf :=
  memWf_viaRow (fun _ => rfl) h.xptArrive

theorem Dev.memWf.execXptWrite {data} (h : d.memWf) : (d.viaRow (execXptWrite data)).memWf :=
  memWf_viaRow (fun _ => rfl) h.xptArrive

theorem Dev.memWf.execXptAck {data} (h : d.memWf) : (d.viaRow (execXptAck data)).memWf :=
  memWf_viaRow (fun _ => rfl) h.xptArrive

theorem Dev.memWf.execXptClose {data} (h : d.memWf) : (d.viaRow (execXptClose data)).memWf :=
  memWf_viaRow (fun _ => rfl) h.xptArrive

theorem Dev.memWf.execXptAckTimer {slot} (h : d.memWf) : (d.viaRow (execXptAckTimer slot)).memWf :=
  memWf_viaRow (fun _ => rfl) (memWf_ite h.drawn.xptEmit h)

theorem Dev.memWf.xptLost {s} (h : d.memWf) : (d.xptLost s).memWf := h.setSess.setBit.stopRings.ctxEvent.raise

theorem Dev.memWf.execXptResend {slot seq} (h : d.memWf) : (d.viaRow (execXptResend slot seq)).memWf :=
  memWf_viaRow (fun _ => rfl) <| by
    dsimp only
    split
    · exact h
    · exact memWf_ite h.xptLost h.setSess.count.xptEmit

theorem Dev.memWf.execCqeCoalesceTimer {slot} (h : d.memWf) : (d.viaRow (execCqeCoalesceTimer slot)).memWf :=
  memWf_viaRow (fun _ => rfl) h.xptFlushCqe

theorem Dev.memWf.mgmtTake {p f stamp} (h : d.memWf) : (d.mgmtTake p f stamp).memWf := h.update
theorem Dev.memWf.mgmtOffer {p f} (h : d.memWf) : (d.mgmtOffer p f).memWf := memWf_ite h.update.mgmtTake h.count

theorem Dev.memWf.classify {p f i} (h : d.memWf) : (d.classify p f i).memWf := by
  unfold Dev.classify
  dsimp only
  split
  · exact h.count
  · split
    · exact h.mgmtTake
    · split
      · exact memWf_ite h.xptHello h.xptArrive
      · exact memWf_ite h.mgmtOffer h

theorem Dev.memWf.frameIn {p sub frame} (h : d.memWf) : (d.frameIn p sub frame).memWf :=
  memWf_ite h (memWf_ite h (memWf_ite h.count h.classify))

theorem Dev.memWf.execEthFrameReceive {ep sub frame} (h : d.memWf) : (d.viaRow (execEthFrameReceive ep sub frame)).memWf :=
  memWf_viaRow (fun _ => rfl) h.frameIn

theorem Dev.memWf.pushStamp {p b} (h : d.memWf) : (d.pushStamp p b).memWf := memWf_ite h.count.raise h.update

theorem Dev.memWf.execEthFrameTransmit {ep sub frame} (h : d.memWf) :
    (d.viaRow (execEthFrameTransmit ep sub frame)).memWf :=
  memWf_viaRow (fun _ => rfl) <|
    memWf_ite
      (by
        dsimp only
        split
        · exact h.send.pushStamp
        · exact h.send)
      h

theorem Dev.memWf.execTxtsPop {req ep} (h : d.memWf) : (d.viaRow (execTxtsPop req ep)).memWf :=
  memWf_viaRow (fun _ => rfl) h.send.update

theorem Dev.memWf.ethLink {ep up fec} (h : d.memWf) : (d.ethLink ep up fec).memWf :=
  have h1 := memWf_ite (h.put.each fun _ _ ho => ho.ctxEvent).raise h.put
  memWf_ite h1 h1.irqPulse

theorem Dev.memWf.execEthLinkChange {ep up fec} (h : d.memWf) : (d.viaRow (execEthLinkChange ep up fec)).memWf :=
  memWf_viaRow (fun _ => rfl) h.ethLink

theorem Dev.memWf.flushVecs {fn} (h : d.memWf) : (d.flushVecs fn).memWf :=
  h.each fun _ _ ho => memWf_ite ho (memWf_ite ho.setVec ho.sendVec)

theorem Dev.memWf.sendPba {fn} (h : d.memWf) : (d.sendPba fn).memWf := h.each fun _ _ ho => memWf_ite ho ho.sendVec
theorem Dev.memWf.setD3 {fn b} (h : d.memWf) : (d.setD3 fn b).memWf := memWf_ite h.update.setBit h.update

theorem Dev.memWf.execD3hotEntry {fn turnOff pmeEn} (h : d.memWf) : (d.viaRow (execD3hotEntry fn turnOff pmeEn)).memWf :=
  memWf_viaRow (fun _ => rfl) (memWf_ite (h.each fun _ _ ho => ho.flushVecs.setD3).send h.flushVecs.setD3.update)

theorem Dev.memWf.resumeDma {fn} (h : d.memWf) : (d.resumeDma fn).memWf := h.each fun _ _ ho => ho.tellDue.postDone

theorem Dev.memWf.execD0Return {fn} (h : d.memWf) : (d.viaRow (execD0Return fn)).memWf :=
  memWf_viaRow (fun _ => rfl) h.setD3.sendPba.resumeDma

theorem Dev.memWf.flrSlot {k} (h : d.memWf) : (d.flrSlot k).memWf := h.stopRings.ctxEvent.raise

theorem Dev.memWf.execVfFlr {vf} (h : d.memWf) : (d.viaRow (execVfFlr vf)).memWf :=
  memWf_viaRow (fun _ => rfl) (memWf_ite h (h.each fun _ _ ho => ho.flrSlot))

theorem Dev.memWf.pciReset {linkDown} (h : d.memWf) : (d.pciReset linkDown).memWf :=
  (memWf_ite h.update.put.irqPulse h.update.setBit).each fun _ _ ho => ho.flrSlot

theorem Dev.memWf.execPfFlr {linkDown} (h : d.memWf) : (d.viaRow (execPfFlr linkDown)).memWf :=
  memWf_viaRow (fun _ => rfl) h.pciReset

theorem Dev.memWf.execMsixTimer {fn vec} (h : d.memWf) : (d.viaRow (execMsixTimer fn vec)).memWf :=
  memWf_viaRow (fun _ => rfl) (memWf_ite h.vecDue h)

theorem Dev.memWf.execMsixUnmask {fn vec} (h : d.memWf) : (d.viaRow (execMsixUnmask fn vec)).memWf :=
  memWf_viaRow (fun _ => rfl) <|
    .sendPba <| by
      split
      · exact h.setVec
      · exact h.update

theorem Dev.memWf.execPmeRepeat {fn} (h : d.memWf) : (d.viaRow (execPmeRepeat fn)).memWf :=
  memWf_viaRow (fun _ => rfl) (memWf_ite h.send h)

theorem Dev.memWf.execPcieLinkUp {gen width} (h : d.memWf) : (d.viaRow (execPcieLinkUp gen width)).memWf :=
  memWf_viaRow (fun _ => rfl) <|
    (h.update.setFld.setFld.setBit.setBit.setBit.irqPulse.each fun _ _ ho => ho.sendPba).each fun _ _ ho => ho.resumeDma

theorem Dev.memWf.execAspmL1Entry (h : d.memWf) : (d.viaRow execAspmL1Entry).memWf :=
  memWf_viaRow (fun _ => rfl) (memWf_ite h.setBit h)

theorem Dev.memWf.execL1ExitComplete (h : d.memWf) : (d.viaRow execL1ExitComplete).memWf :=
  memWf_viaRow (fun _ => rfl) (h.setBit.update.foldl fun _ _ ho => memWf_ite ho ho.vecDue)

theorem Dev.memWf.execTsuIncWrite {req part value} (h : d.memWf) : (d.viaRow (execTsuIncWrite req part value)).memWf :=
  memWf_viaRow (fun _ => rfl) (memWf_ite h.put h.put.refuse)

theorem Dev.memWf.setClock32 {c} (h : d.memWf) : (d.setClock32 c).memWf := h.put.put
theorem Dev.memWf.setTout {t n} (h : d.memWf) : (d.setTout t n).memWf := h.update

theorem Dev.memWf.toutPass {t} (h : d.memWf) : (d.toutPass t).memWf :=
  memWf_ite h (memWf_ite h.count.setBit h.add32.setTout)

theorem Dev.memWf.execTsuStep {req} (h : d.memWf) : (d.viaRow (execTsuStep req)).memWf :=
  memWf_viaRow (fun _ => rfl) (h.put.each fun _ _ ho => ho.toutPass)

theorem Dev.memWf.execTsuSet {req} (h : d.memWf) : (d.viaRow (execTsuSet req)).memWf :=
  memWf_viaRow (fun _ => rfl) (h.put.put.each fun _ _ ho => ho.toutPass)

theorem Dev.memWf.execToutArm {req t value} (h : d.memWf) : (d.viaRow (execToutArm req t value)).memWf :=
  memWf_viaRow (fun _ => rfl) <|
    memWf_ite (memWf_ite h.put.send h.put) (memWf_ite h.refuse (memWf_ite h.refuse h.put.setTout))

theorem Dev.memWf.execToutPulse {t} (h : d.memWf) : (d.viaRow (execToutPulse t)).memWf :=
  memWf_viaRow (fun _ => rfl) (memWf_ite (memWf_ite h.send.irqPulse.setBit h.send.irqPulse.setTout) h)

theorem Dev.memWf.tick (h : d.memWf) : d.tick.memWf := h.update.setClock32

/-! ### Camera links, triggers and camera lines (R212 to R221) -/

theorem Dev.memWf.setCam {c st} (h : d.memWf) : (d.setCam c st).memWf := h.setFld
theorem Dev.memWf.camRestart {c st} (h : d.memWf) : (d.camRestart c st).memWf := h.frameClose.lanesFor.setPipe.setCam.setFld
theorem Dev.memWf.camFail {c} (h : d.memWf) : (d.camFail c).memWf := h.camRestart.event.raise
theorem Dev.memWf.camDown {c} (h : d.memWf) : (d.camDown c).memWf := (memWf_ite h.event.raise h).camRestart
theorem Dev.memWf.camTraining {c} (h : d.memWf) : (d.camTraining c).memWf := memWf_ite h.setCam h
theorem Dev.memWf.camCaps {c} (h : d.memWf) : (d.camCaps c).memWf := memWf_ite h.setCam.setFld.txStart.setPipe h
theorem Dev.memWf.camWords {c seq body} (h : d.memWf) : (d.camWords c seq body).memWf := h.txMessage
theorem Dev.memWf.sendCamset {c} (h : d.memWf) : (d.sendCamset c).memWf := h.setPipe.send.camWords
theorem Dev.memWf.camRetrain {c} (h : d.memWf) : (d.camRetrain c).memWf := h.setPipe.trainLanes

theorem Dev.memWf.camChoose {c} (h : d.memWf) : (d.camChoose c).memWf :=
  memWf_ite h.setPipe.raise h.setBit.setFld.put.setPipe.sendCamset

theorem Dev.memWf.camRetrained {c} (h : d.memWf) : (d.camRetrained c).memWf := memWf_ite h.setPipe.txStart.sendCamset h

theorem Dev.memWf.camDegrade {c} (h : d.memWf) : (d.camDegrade c).memWf :=
  memWf_ite h.camDown (memWf_ite h.camFail h.camRestart)

theorem Dev.memWf.sendTrigger {c slot} (h : d.memWf) : (d.sendTrigger c slot).memWf :=
  h.at.noteTrack.setPipe.setBit.send.txSlot.txTo.noteTrack

theorem Dev.memWf.insRate {c} (h : d.memWf) : (d.insRate c).memWf := memWf_ite h.event.setPipe.raise h.event
theorem Dev.memWf.skipTrigger {c} (h : d.memWf) : (d.skipTrigger c).memWf := h.count.insRate

theorem Dev.memWf.triggerAt {c k} (h : d.memWf) : (d.triggerAt c k).memWf := by
  unfold Dev.triggerAt
  dsimp only
  split
  · exact h
  · exact memWf_ite h (memWf_ite h.sendTrigger (memWf_ite h.skipTrigger h.count.insRate.sendTrigger))

theorem Dev.memWf.badLine {c} (h : d.memWf) : (d.badLine c).memWf := h.count.event.raise

theorem Dev.memWf.lineClose {c l} (h : d.memWf) : (d.lineClose c l).memWf :=
  have h1 := memWf_ite h.setPipe.badLine (memWf_ite h.setPipe.count h.setPipe)
  have h2 := memWf_ite h1.drawn.frameLine.setPipe.retireCopies h1.drawn.frameLine
  memWf_ite (memWf_ite h2.frameClose h2.frameClose.setPipe.setBit) h2

theorem Dev.memWf.setLine {c tseq f} (h : d.memWf) : (d.setLine c tseq f).memWf := h.setPipe

theorem Dev.memWf.rawPacket {c fmt vc chan tseq npix x0 body bad} (h : d.memWf) :
    (d.rawPacket c fmt vc chan tseq npix x0 body bad).memWf :=
  have h1 := h.foldl fun _ _ ho => ho.lineClose
  memWf_ite h1 (memWf_ite h1.badLine (memWf_ite h1.badLine (memWf_ite h1.setLine.raise h1.setLine)))

/-! ### Commands of the head links (R174 to R211) -/

theorem Dev.memWf.account {n f} (h : d.memWf) : (d.account n f).memWf := (h.foldl fun _ _ ho => ho.setCtx).setSyn

theorem Dev.memWf.slateLeave {n x} (h : d.memWf) : (d.slateLeave n x).memWf :=
  (memWf_ite h h.account).send.setPort.txSlot.txTo

theorem Dev.memWf.execSlateSend {port fire} (h : d.memWf) : (d.viaRow (execSlateSend port fire)).memWf :=
  memWf_viaRow (fun _ => rfl) <| by
    dsimp only
    split
    · exact h
    · exact h.at.slateLeave.returnCredits

theorem Dev.memWf.execBatchSend {port} (h : d.memWf) : (d.viaRow (execBatchSend port)).memWf :=
  memWf_viaRow (fun _ => rfl) <| by
    dsimp only
    split
    · exact h
    · exact memWf_ite h h.setSyn.setPort.setCredits.noteOutstanding.send.headWords

theorem Dev.memWf.skipCode {n noCredit} (h : d.memWf) : (d.skipCode n noCredit).memWf :=
  memWf_ite (memWf_ite h.count.setPort.raise h.count) (memWf_ite h.setPort.raise h)

theorem Dev.memWf.execBatchSkip {port fire} (h : d.memWf) : (d.viaRow (execBatchSkip port fire)).memWf :=
  memWf_viaRow (fun _ => rfl) (memWf_ite h h.setSyn.setPort.count.skipCode.spoilPort)

theorem Dev.memWf.execCredit {port lastSeq count} (h : d.memWf) : (d.viaRow (execCredit port lastSeq count)).memWf :=
  memWf_viaRow (fun _ => rfl) h.setCredits

theorem Dev.memWf.execCap {port headId w3 w4 w5} (h : d.memWf) : (d.viaRow (execCap port headId w3 w4 w5)).memWf :=
  memWf_viaRow (fun _ => rfl) (memWf_ite h h.wr.put.put.setPort.linkChoose)

theorem Dev.memWf.ackStage {n type} (h : d.memWf) : (d.ackStage n type).memWf :=
  memWf_ite h.linkRetrain (memWf_ite h.linkUp.sampleCfg h)

theorem Dev.memWf.execHeadAck {port refused seq} (h : d.memWf) : (d.viaRow (execHeadAck port refused seq)).memWf :=
  memWf_viaRow (fun _ => rfl) <| by
    dsimp only
    split
    · exact h
    · exact memWf_ite h.relinkFault h.setPort.ackStage

theorem Dev.memWf.execHeadEvent {port counts} (h : d.memWf) : (d.viaRow (execHeadEvent port counts)).memWf :=
  memWf_viaRow (fun _ => rfl) <|
    have h1 := h.foldl fun _ _ ho => ho.add32
    memWf_ite h1.setPort.event.raise h1.setPort

theorem Dev.memWf.execNsense {port entries} (h : d.memWf) : (d.viaRow (execNsense port entries)).memWf :=
  memWf_viaRow (fun _ => rfl) (memWf_ite h h.senseEntries.decide'.noteLoop.mirrorCells)

theorem Dev.memWf.execEchoWord {port word roundTrip} (h : d.memWf) : (d.viaRow (execEchoWord port word roundTrip)).memWf :=
  memWf_viaRow (fun _ => rfl) <| by
    dsimp only
    split
    · exact h
    · exact memWf_ite h h.setPort

theorem Dev.memWf.judgeHeaders {hs} (h : d.memWf) : (d.judgeHeaders hs).memWf := by
  unfold Dev.judgeHeaders
  dsimp only
  exact h.foldl fun _ _ ho => by
    split
    · exact memWf_ite (memWf_ite ho ho.count).count (memWf_ite ho ho.count)
    · exact memWf_ite ho ho.count

theorem Dev.memWf.execMsgCrcFail {words headers} (h : d.memWf) : (d.viaRow (execMsgCrcFail words headers)).memWf :=
  memWf_viaRow (fun _ => rfl) (memWf_ite h.judgeHeaders h)

theorem Dev.memWf.execAckTimeout {port seq} (h : d.memWf) : (d.viaRow (execAckTimeout port seq)).memWf :=
  memWf_viaRow (fun _ => rfl) <| by
    dsimp only
    split
    · exact h
    · exact memWf_ite h.relinkFault.raise h.setPort.send.headWords

theorem Dev.memWf.execUpstreamSilent {port} (h : d.memWf) : (d.viaRow (execUpstreamSilent port)).memWf :=
  memWf_viaRow (fun _ => rfl) (memWf_ite h h.relinkFault.raise)

theorem Dev.memWf.execVersionRetry {port} (h : d.memWf) : (d.viaRow (execVersionRetry port)).memWf :=
  memWf_viaRow (fun _ => rfl) (memWf_ite h.linkChoose h)

theorem Dev.memWf.execGo {req port} (h : d.memWf) : (d.viaRow (execGo req port)).memWf :=
  memWf_viaRow (fun _ => rfl) (memWf_ite h.refuse (memWf_ite h.go.put h.go))

theorem Dev.memWf.execGoAll {req} (h : d.memWf) : (d.viaRow (execGoAll req)).memWf :=
  memWf_viaRow (fun _ => rfl) <|
    have h1 := h.each fun _ _ ho => ho.go
    memWf_ite h1.put h1

theorem Dev.memWf.leavePort {n} (h : d.memWf) : (d.leavePort n).memWf := memWf_ite h h.headSend.setPort

theorem Dev.memWf.execLeave {req port} (h : d.memWf) : (d.viaRow (execLeave req port)).memWf :=
  memWf_viaRow (fun _ => rfl) (memWf_ite h.refuse h.leavePort)

theorem Dev.memWf.execRelink {req port} (h : d.memWf) : (d.viaRow (execRelink req port)).memWf :=
  memWf_viaRow (fun _ => rfl) (memWf_ite h.refuse h.relink)

theorem Dev.memWf.execPortLeaveEffect {port} (h : d.memWf) : (d.viaRow (execPortLeaveEffect port)).memWf :=
  memWf_viaRow (fun _ => rfl) <| by
    dsimp only
    split
    · exact h
    · exact memWf_ite h h.setPort.setLink.clearPort.setCredits.noteOutstanding

theorem Dev.memWf.execRateRelease {time} (h : d.memWf) : (d.viaRow (execRateRelease time)).memWf :=
  memWf_viaRow (fun _ => rfl) (memWf_ite h.at h.at.setBit.speedFree)

/-! ### Commands of the partner block (R314 to R335) -/

theorem Dev.memWf.execPresentChange {present} (h : d.memWf) : (d.viaRow (execPresentChange present)).memWf :=
  memWf_viaRow (fun _ => rfl) (memWf_ite h.setBit.setRole (memWf_ite h.setBit.setRole h.setBit))

theorem Dev.memWf.execHeartbeatLost (h : d.memWf) : (d.viaRow execHeartbeatLost).memWf :=
  memWf_viaRow (fun _ => rfl) (memWf_ite h.setBit.setBit.event.raise h.setBit)

theorem Dev.memWf.execMirrorSilent (h : d.memWf) : (d.viaRow execMirrorSilent).memWf :=
  memWf_viaRow (fun _ => rfl) (memWf_ite (memWf_ite h.silentDeath h.setUnfit) h)

theorem Dev.memWf.execSilentDeath (h : d.memWf) : (d.viaRow execSilentDeath).memWf :=
  memWf_viaRow (fun _ => rfl) h.setBit.silentDeath

theorem Dev.memWf.execDualActive (h : d.memWf) : (d.viaRow execDualActive).memWf :=
  memWf_viaRow (fun _ => rfl) <|
    memWf_ite h.setBit (memWf_ite h.setBit.event.raise h.setBit.event.raise.update.setUnfit.setRole)

theorem Dev.memWf.sendPcap {l} (h : d.memWf) : (d.sendPcap l).memWf := h.send

theorem Dev.memWf.execPcap {link pairId} (h : d.memWf) : (d.viaRow (execPcap link pairId)).memWf :=
  memWf_viaRow (fun _ => rfl) (memWf_ite h h.capLink.sendPcap)

theorem Dev.memWf.execMirrorLinkRetry {link} (h : d.memWf) : (d.viaRow (execMirrorLinkRetry link)).memWf :=
  memWf_viaRow (fun _ => rfl) (memWf_ite h h.uncap.lanesDown)

theorem Dev.memWf.streamSnapshot (h : d.memWf) : d.streamSnapshot.memWf := h.foldl fun _ _ ho => ho.mirrorSend

theorem Dev.memWf.noteDaily {words} (h : d.memWf) : (d.noteDaily words).memWf :=
  have h1 := (h.each fun _ _ ho => ho.put).compareDailies
  memWf_ite h1.setBit h1

theorem Dev.memWf.surrenderNow {cause} (h : d.memWf) : (d.surrenderNow cause).memWf := by
  unfold Dev.surrenderNow
  dsimp only
  split
  · exact memWf_ite h.surrender h.surrender.surrenderAt
  · exact h.surrender

theorem Dev.memWf.retryRemoval (h : d.memWf) : d.retryRemoval.memWf := memWf_ite h.update.surrenderNow h

theorem Dev.memWf.applyDaily {words} (h : d.memWf) : (d.applyDaily words).memWf :=
  have h1 := memWf_ite h.update.noteDaily.streamSnapshot h.update.noteDaily
  (memWf_ite h1 h1.partnerAcked).retryRemoval

theorem Dev.memWf.applyVerdict {n f outcome} (h : d.memWf) : (d.applyVerdict n f outcome).memWf := by
  unfold Dev.applyVerdict
  dsimp only
  split
  · exact h
  · split
    · exact (memWf_ite h.event.raise.withdrawPort (h.event.raise.each fun _ _ ho => ho.spoilPort)).engineFail
    · exact memWf_ite h.event.raise.withdrawPort (h.event.raise.each fun _ _ ho => ho.spoilPort)

theorem Dev.memWf.rerunNext (h : d.memWf) : d.rerunNext.memWf := by
  unfold Dev.rerunNext
  dsimp only
  split
  · exact h.setBit.noteSpares.update
  · exact h

theorem Dev.memWf.execVerdictReady {outcome} (h : d.memWf) : (d.viaRow (execVerdictReady outcome)).memWf :=
  memWf_viaRow (fun _ => rfl) <| by
    split
    · exact h
    · extract_lets ptn1 d1 d2 d3
      have h2 : d2.memWf := by
        dsimp only [d2]
        split
        · exact memWf_ite h.update h.update.setBit.noteSpares
        · exact h.update
      have h3 : d3.memWf := h2.rerunNext.raise.mirrorSend
      refine memWf_ite ?_ (memWf_ite h3.setUnfit h3)
      split
      · exact h3.engineFail
      · exact h3

theorem Dev.memWf.applySurrender {fs cause} (h : d.memWf) : (d.applySurrender fs cause).memWf :=
  memWf_ite h.setFld.update h.setFld

theorem Dev.memWf.applyRecord {pipe words} (h : d.memWf) : (d.applyRecord pipe words).memWf := memWf_ite h h.update
theorem Dev.memWf.applyAck {m} (h : d.memWf) : (d.applyAck m).memWf := h.update.partnerAcked

theorem Dev.memWf.applyRec {r} (h : d.memWf) : (d.applyRec r).memWf := by
  unfold Dev.applyRec
  split
  · exact h
  · exact h.applyBind
  · exact h.applyCommit
  · exact h.applyCrc
  · exact h.applyLock
  · exact h.applyBlock
  · exact h.applyTable
  · exact h.applyMasks
  · exact h.applyHealth
  · exact h.applyPage
  · exact h.applyEffect
  · exact h.applyRegion
  · exact h.applyLoop
  · exact h.applyDaily
  · exact h.applySurrender
  · exact h.applyVerdict
  · exact h.applyAck
  · exact h.applyRecord

theorem Dev.memWf.takeRec {r} (h : d.memWf) : (d.takeRec r).memWf := memWf_ite h h.applyRec

theorem Dev.memWf.drainHeld {n} (h : d.memWf) : (Dev.drainHeld n d).memWf := by
  induction n generalizing d with
  | zero => exact h
  | succ n ih =>
    unfold Dev.drainHeld
    dsimp only
    split
    · exact h
    · refine ih ?_
      split
      · exact h.update.put.takeRec
      · exact h.update.put

theorem Dev.memWf.sendAck (h : d.memWf) : d.sendAck.memWf := h.mirrorSend

theorem Dev.memWf.mirrorTake {mseq r} (h : d.memWf) : (d.mirrorTake mseq r).memWf :=
  memWf_ite (memWf_ite h.takeRec.update h.update) <|
    memWf_ite (memWf_ite h.update.put.takeRec.drainHeld h.update.put.takeRec.drainHeld.sendAck) (memWf_ite h.update h)

theorem Dev.memWf.execBindRecord {mseq b} (h : d.memWf) : (d.viaRow (execBindRecord mseq b)).memWf :=
  memWf_viaRow (fun _ => rfl) h.mirrorTake

theorem Dev.memWf.execMirrorCommit {mseq fire line} (h : d.memWf) : (d.viaRow (execMirrorCommit mseq fire line)).memWf :=
  memWf_viaRow (fun _ => rfl) h.mirrorTake

theorem Dev.memWf.execMirrorCrc {mseq fire comparable crcs} (h : d.memWf) :
    (d.viaRow (execMirrorCrc mseq fire comparable crcs)).memWf :=
  memWf_viaRow (fun _ => rfl) h.mirrorTake

theorem Dev.memWf.execLockRecord {mseq region strip first lines missing} (h : d.memWf) :
    (d.viaRow (execLockRecord mseq region strip first lines missing)).memWf :=
  memWf_viaRow (fun _ => rfl) h.mirrorTake

theorem Dev.memWf.execMirrorBlock {mseq slot region strip first lines heapLen bytes} (h : d.memWf) :
    (d.viaRow (execMirrorBlock mseq slot region strip first lines heapLen bytes)).memWf :=
  memWf_viaRow (fun _ => rfl) h.mirrorTake

theorem Dev.memWf.execTableRecord {mseq port entries fire} (h : d.memWf) :
    (d.viaRow (execTableRecord mseq port entries fire)).memWf :=
  memWf_viaRow (fun _ => rfl) h.mirrorTake

theorem Dev.memWf.execMirrorHealth {mseq h'} (h : d.memWf) : (d.viaRow (execMirrorHealth mseq h')).memWf :=
  memWf_viaRow (fun _ => rfl) h.mirrorTake

theorem Dev.memWf.execCtxRecord {mseq c} (h : d.memWf) : (d.viaRow (execCtxRecord mseq c)).memWf :=
  memWf_viaRow (fun _ => rfl) h.mirrorTake

theorem Dev.memWf.execLoopRecord {mseq cells armed} (h : d.memWf) : (d.viaRow (execLoopRecord mseq cells armed)).memWf :=
  memWf_viaRow (fun _ => rfl) h.mirrorTake

theorem Dev.memWf.execDaily {mseq words} (h : d.memWf) : (d.viaRow (execDaily mseq words)).memWf :=
  memWf_viaRow (fun _ => rfl) h.mirrorTake

theorem Dev.memWf.execDailySend (h : d.memWf) : (d.viaRow execDailySend).memWf :=
  memWf_viaRow (fun _ => rfl) h.sendDaily

theorem Dev.memWf.execSurrenderRecord {mseq fire cause} (h : d.memWf) :
    (d.viaRow (execSurrenderRecord mseq fire cause)).memWf :=
  memWf_viaRow (fun _ => rfl) h.mirrorTake

theorem Dev.memWf.execVerdict {mseq port fire outcome} (h : d.memWf) :
    (d.viaRow (execVerdict mseq port fire outcome)).memWf :=
  memWf_viaRow (fun _ => rfl) h.mirrorTake

theorem Dev.memWf.execMirrorAck {mseq acked} (h : d.memWf) : (d.viaRow (execMirrorAck mseq acked)).memWf :=
  memWf_viaRow (fun _ => rfl) h.mirrorTake

theorem Dev.memWf.execRecordMsg {mseq pipe words} (h : d.memWf) : (d.viaRow (execRecordMsg mseq pipe words)).memWf :=
  memWf_viaRow (fun _ => rfl) h.mirrorTake

theorem Dev.memWf.resync (h : d.memWf) : d.resync.memWf := h.update.setRole

theorem Dev.memWf.execMirrorGap (h : d.memWf) : (d.viaRow execMirrorGap).memWf :=
  memWf_viaRow (fun _ => rfl) (memWf_ite h.event.raise.setUnfit.resync h.update)

theorem Dev.memWf.execSnapshotApplied {mseq recs} (h : d.memWf) : (d.viaRow (execSnapshotApplied mseq recs)).memWf :=
  memWf_viaRow (fun _ => rfl) <|
    memWf_ite h <|
      have h1 := (h.foldl fun _ _ ho => ho.takeRec).update.put.each fun _ _ ho => ho.setBit
      (h1.each fun _ _ ho => ho.go).setUnfit.setRole.drainHeld.sendAck

theorem Dev.memWf.execResync (h : d.memWf) : (d.viaRow execResync).memWf :=
  memWf_viaRow (fun _ => rfl) (memWf_ite h.resync h)

theorem Dev.memWf.execPtnSurrender (h : d.memWf) : (d.viaRow execPtnSurrender).memWf :=
  memWf_viaRow (fun _ => rfl) (memWf_ite h.surrenderNow h)

theorem Dev.memWf.execTakeover (h : d.memWf) : (d.viaRow execTakeover).memWf :=
  memWf_viaRow (fun _ => rfl) <| by
    split
    · exact h
    · exact h.takeover

theorem Dev.memWf.execRemoveRequest {assert} (h : d.memWf) : (d.viaRow (execRemoveRequest assert)).memWf :=
  memWf_viaRow (fun _ => rfl) <|
    memWf_ite h.update <|
      memWf_ite (h.update.each fun _ _ ho => ho.leavePort).goOff <|
        memWf_ite h.update.surrenderNow h.update.update.event.raise

theorem Dev.memWf.execForceRemove (h : d.memWf) : (d.viaRow execForceRemove).memWf :=
  memWf_viaRow (fun _ => rfl) (memWf_ite (memWf_ite h.stopFiring h).update.goOff h)

theorem Dev.memWf.execPairEnWrite {enable} (h : d.memWf) : (d.viaRow (execPairEnWrite enable)).memWf :=
  memWf_viaRow (fun _ => rfl) (memWf_ite (memWf_ite h.setBit h.setBit.update.setRole) (memWf_ite h.setBit.setRole h.setBit))

/-! ### Commands of the print-quality loop (R240 to R263) -/

theorem Dev.memWf.execQlRecordProcess (h : d.memWf) : (d.viaRow execQlRecordProcess).memWf :=
  memWf_viaRow (fun _ => rfl) <| by
    split
    · exact h
    · exact h.update.loopRecord

theorem Dev.memWf.execQlHealthPresent (h : d.memWf) : (d.viaRow execQlHealthPresent).memWf :=
  memWf_viaRow (fun _ => rfl) <| by
    split
    · exact h
    · exact h.present

theorem Dev.memWf.execQlHealthRetry (h : d.memWf) : (d.viaRow execQlHealthRetry).memWf :=
  memWf_viaRow (fun _ => rfl) <| by
    split
    · exact h
    · exact h.present

theorem Dev.memWf.execQlClear (h : d.memWf) : (d.viaRow execQlClear).memWf :=
  memWf_viaRow (fun _ => rfl) h.loopClear.mirrorCells

theorem Dev.memWf.sendCascap {l} (h : d.memWf) : (d.sendCascap l).memWf := h.casEmit

theorem Dev.memWf.execCascap {link body} (h : d.memWf) : (d.viaRow (execCascap link body)).memWf :=
  memWf_viaRow (fun _ => rfl) (memWf_ite h h.capLink.sendCascap)

theorem Dev.memWf.execCascadeRetry {link} (h : d.memWf) : (d.viaRow (execCascadeRetry link)).memWf :=
  memWf_viaRow (fun _ => rfl) (memWf_ite h h.event.raise.uncap.lanesDown)

theorem Dev.memWf.casForward {l type w1 port body} (h : d.memWf) : (d.casForward l type w1 port body).memWf :=
  memWf_ite h.casDrop h.casPut

theorem Dev.memWf.casTake {l type w1 port body f} (h : d.memWf) (hf : ∀ e, e.memWf → (f e).memWf) :
    (d.casTake l type w1 port body f).memWf :=
  memWf_ite (hf _ h.count).casForward (memWf_ite (hf _ h.count) h.casForward)

theorem Dev.memWf.updBar {b f} (h : d.memWf) : (d.updBar b f).memWf := h.update

theorem Dev.memWf.execShape {link w1 serial fluids} (h : d.memWf) : (d.viaRow (execShape link w1 serial fluids)).memWf :=
  memWf_viaRow (fun _ => rfl) (h.casTake fun _ ho => ho.updBar)

theorem Dev.memWf.execFeed {link w1 w2 w3 w4 w5 block} (h : d.memWf) :
    (d.viaRow (execFeed link w1 w2 w3 w4 w5 block)).memWf :=
  memWf_viaRow (fun _ => rfl) (h.casTake fun _ ho => memWf_ite ho ho.addCopy)

theorem Dev.memWf.execCasHealth {link w1 body} (h : d.memWf) : (d.viaRow (execCasHealth link w1 body)).memWf :=
  memWf_viaRow (fun _ => rfl) (h.casTake fun _ ho => ho.updBar)

theorem Dev.memWf.execSpoiln {link w1 w2 w3 w4 w5} (h : d.memWf) : (d.viaRow (execSpoiln link w1 w2 w3 w4 w5)).memWf :=
  memWf_viaRow (fun _ => rfl) (h.casTake fun _ ho => ho.updBar)

theorem Dev.memWf.execDevrec {link w1 frame w3 w4 w5 entries} (h : d.memWf) :
    (d.viaRow (execDevrec link w1 frame w3 w4 w5 entries)).memWf :=
  memWf_viaRow (fun _ => rfl) (h.casTake fun _ ho => ho.loopRecord)

end
end Sys2Proof.Machine
end

section
open Sys2Proof
namespace Sys2Proof.Machine
section
variable {d : Dev}

/-! ### What a lane does to its port (R392 to R403) -/

theorem Dev.memWf.linkLive {k} (h : d.memWf) : (d.linkLive k).memWf :=
  memWf_ite h (memWf_ite (memWf_ite h.setBit.update h.setBit) h.setBit.txStart.sendShape)

theorem Dev.memWf.noMirror (h : d.memWf) : d.noMirror.memWf := memWf_ite h h.update.partnerAcked

theorem Dev.memWf.linkDead {k} (h : d.memWf) : (d.linkDead k).memWf :=
  memWf_ite h (memWf_ite h.setBit.event.raise.noMirror h.setBit.event.raise)

theorem Dev.memWf.linkAnew {k} (h : d.memWf) : (d.linkAnew k).memWf := h.linkDead.uncap.lanesRest

theorem Dev.memWf.groupDown {x} (h : d.memWf) : (d.groupDown x).memWf := by
  unfold Dev.groupDown
  split
  · exact memWf_ite h.lanesDown h.linkDown
  · exact memWf_ite h.lanesDown h.camDown
  · exact h.ethLink
  · exact h
  · exact h.linkAnew.lanesDown
  · exact h.linkAnew.lanesDown

theorem Dev.memWf.groupAnew {x} (h : d.memWf) : (d.groupAnew x).memWf := by
  unfold Dev.groupAnew
  split
  · exact memWf_ite h (memWf_ite h.linkRestart h.relink)
  · exact memWf_ite h (memWf_ite h.camFail h.camRestart)
  · exact h
  · exact h
  · exact h.linkAnew
  · exact h.linkAnew

theorem Dev.memWf.epLaneDown {p l} (h : d.memWf) : (d.epLaneDown p l).memWf := h.ethLink

theorem Dev.memWf.laneSurrender (h : d.memWf) : d.laneSurrender.memWf := by
  unfold Dev.laneSurrender
  split
  · exact memWf_ite h.surrender h
  · exact h

theorem Dev.memWf.linkLanesUp {k hello} (h : d.memWf) (hhello : hello.memWf) : (d.linkLanesUp k hello).memWf :=
  memWf_ite (memWf_ite h.linkLive h) hhello

theorem Dev.memWf.groupTrained {g} (h : d.memWf) : (d.groupTrained g).memWf := by
  unfold Dev.groupTrained
  split
  · exact memWf_ite h.linkCaps h.linkRetrained
  · exact memWf_ite h.camCaps h.camRetrained
  · exact h
  · exact h
  · exact h.linkLanesUp h.sendPcap
  · exact h.linkLanesUp h.txStart.sendCascap

theorem Dev.memWf.laneSignal {l} (h : d.memWf) : (d.laneSignal l).memWf := by
  unfold Dev.laneSignal
  dsimp only
  split
  · exact h
  · split
    · exact h.setGood
    · split
      · exact h.setGood.setLane.setLaneSt.put.linkTraining
      · exact h.setGood.setLane.setLaneSt.put.camTraining
      · exact h.setGood.setLane.setLaneSt.put

theorem Dev.memWf.laneFail {l} (h : d.memWf) : (d.laneFail l).memWf := by
  unfold Dev.laneFail
  split
  · exact memWf_ite h.relinkWide.laneSurrender (memWf_ite h h.linkRestart)
  · exact h.camDegrade
  · exact h.laneDeep.epLaneDown
  · exact h.laneDeep
  · exact h.linkDead.noteRetrain.trainLanes
  · exact h.linkDead.noteRetrain.trainLanes

theorem Dev.memWf.portLoses {l} (h : d.memWf) : (d.portLoses l).memWf := by
  unfold Dev.portLoses
  dsimp only
  split
  · exact (memWf_ite (memWf_ite h.raise h.raise.linkDown) h.raise.relinkWide).laneSurrender
  · exact memWf_ite (memWf_ite h h.event.raise) (memWf_ite h h.event.raise).camDegrade
  · exact h.epLaneDown
  · exact h
  · exact memWf_ite h.linkDead h.event.raise
  · exact memWf_ite h.linkDead h.event.raise

theorem Dev.memWf.markDown {l} (h : d.memWf) : (d.markDown l).memWf :=
  h.setLaneSt.setBit.setGood.event.raise.event.put.portLoses

theorem Dev.memWf.stageFail {l} (h : d.memWf) : (d.stageFail l).memWf :=
  memWf_ite h.setLane.markDown h.setLane.setLaneSt.setBit

theorem Dev.memWf.setEye {l w h'} (h : d.memWf) : (d.setEye l w h').memWf := h.setFld.setFld

theorem Dev.memWf.stageDone {l ctle taps w h'} (h : d.memWf) : (d.stageDone l ctle taps w h').memWf :=
  memWf_ite h.setLaneSt.setBit <|
    memWf_ite h.setLaneSt.put <|
      memWf_ite h.setLaneSt <|
        memWf_ite (h.setLaneSt.each fun _ _ ho => ho.put) <|
          memWf_ite (memWf_ite h.setEye.stageFail h.setEye.setLaneSt) <|
            memWf_ite (memWf_ite (h.setLaneSt.each fun _ _ ho => ho.setLaneSt).groupTrained h.setLaneSt) h

/-! ### Operations on the non-volatile array (R428, R431 to R434) -/

theorem Dev.memWf.nvaNote (h : d.memWf) : d.nvaNote.memWf := h.each fun _ _ ho => ho.setBit
theorem Dev.memWf.setOps {ops} (h : d.memWf) : (d.setOps ops).memWf := h.update.nvaNote

theorem Dev.memWf.nvaLine {o} (h : d.memWf) : (d.nvaLine o).memWf :=
  have h1 := h.withNva (Mem.writeBytes_wf _ _ h.nva)
  memWf_ite h1 h1.put

theorem Dev.memWf.nvaEnd {r e} (h : d.memWf) : (d.nvaEnd r e).memWf := h.put

theorem Dev.memWf.persistCommit (h : d.memWf) : d.persistCommit.memWf := by
  unfold Dev.persistCommit
  dsimp only
  split
  · exact h
  · exact h.update

theorem Dev.memWf.nvaStep {bank} (h : d.memWf) : (d.nvaStep bank).memWf := by
  unfold Dev.nvaStep
  dsimp only
  split
  · exact h
  · exact memWf_ite (memWf_ite h.setOps.persistCommit h.nvaLine.setOps) <|
      memWf_ite h.nvaLine.setOps.nvaEnd.event h.nvaLine.setOps

theorem Dev.memWf.nvaAbandon {r} (h : d.memWf) : (d.nvaAbandon r).memWf := by
  unfold Dev.nvaAbandon
  dsimp only
  split
  · exact h
  · exact memWf_ite (memWf_ite h.nvaLine h).setOps.nvaEnd.event (memWf_ite h.nvaLine h).setOps.nvaEnd.event.raise

theorem Dev.memWf.coreReset {c} (h : d.memWf) : (d.coreReset c).memWf := h.nvaAbandon.setBit.update.send

/-! ### Commands of drop synthesis (R135 to R173) -/

theorem Dev.memWf.readCrcCheck {n j r s ofs} (h : d.memWf) : (d.readCrcCheck n j r s ofs).memWf := by
  unfold Dev.readCrcCheck
  dsimp only
  split
  · exact h
  · exact memWf_ite h.setRegion.count.event.raise.spoil h

theorem Dev.memWf.takeRow {n j f p} (h : d.memWf) : (d.takeRow n j f p).1.memWf := by
  unfold Dev.takeRow
  dsimp only
  split
  · exact h.fillRow.setRowBuf.fillRow.foldl fun _ _ ho => ho.readCrcCheck
  · exact h.fillRow.setRowBuf.fillRow.count.event.raise.foldl fun _ _ ho => ho.spoil

theorem Dev.memWf.batchStart {n f} (h : d.memWf) : (d.batchStart n f).memWf := by
  unfold Dev.batchStart
  dsimp only
  split
  · exact h
  · refine memWf_ite h (.retireBlocks (.noteBusy (.setPort (.setSyn ?_))))
    exact h.foldl_fst fun _ _ hp => hp.takeRow

theorem Dev.memWf.tableCorrected {e k} (h : d.memWf) : (d.tableCorrected e k).memWf := h.add32

theorem Dev.memWf.execBatchStart {port fire corrected} (h : d.memWf) :
    (d.viaRow (execBatchStart port fire corrected)).memWf :=
  memWf_viaRow (fun _ => rfl) <|
    .batchStart <| by
      split
      · exact h
      · exact memWf_ite h.tableCorrected h

theorem Dev.memWf.applySet {n f} (h : d.memWf) : (d.applySet n f).memWf :=
  memWf_ite (h.foldl fun _ _ ho => ho.storeValue).dropSet.event.loopSetApplied h

theorem Dev.memWf.batchComplete {n} (h : d.memWf) : (d.batchComplete n).memWf := by
  unfold Dev.batchComplete
  dsimp only
  split
  · exact h
  · split
    · exact h
    · split
      · exact (h.applySet.setSyn.each fun _ _ ho => ho.releaseRow.fillRow).noteBusy.compareLate
      · exact (h.applySet.setSyn.each fun _ _ ho => ho.releaseRow.fillRow).noteBusy.compareLate.count

theorem Dev.memWf.execBatchComplete {port} (h : d.memWf) : (d.viaRow (execBatchComplete port)).memWf :=
  memWf_viaRow (fun _ => rfl) h.batchComplete

theorem Dev.memWf.execForecastFrame {fc} (h : d.memWf) : (d.viaRow (execForecastFrame fc)).memWf :=
  memWf_viaRow (fun _ => rfl) <|
    memWf_ite h <|
      have h1 := (h.each fun _ _ ho => ho.count.event).foldl fun _ _ ho => ho.put
      (memWf_ite h1 (memWf_ite h1.event.update.raise h1.event)).send

theorem Dev.memWf.execHealthGo {req value} (h : d.memWf) : (d.viaRow (execHealthGo req value)).memWf :=
  memWf_viaRow (fun _ => rfl) <|
    memWf_ite
      h.refuse
      (.event <| by
        split
        · exact h.wr.setFld.refuse
        · exact h.wr.setFld.healthAccept)

theorem Dev.memWf.execHealthFold {port} (h : d.memWf) : (d.viaRow (execHealthFold port)).memWf :=
  memWf_viaRow (fun _ => rfl) <| by
    split
    · exact h
    · exact memWf_ite h.foldMask.update.freePend h

theorem Dev.memWf.stageWrite {req n t high v} (h : d.memWf) : (d.stageWrite req n t high v).memWf := by
  unfold Dev.stageWrite
  dsimp only
  split
  · exact h.setSyn.noteStaged
  · exact memWf_ite h.setBit.refuse h.setSyn.noteStaged

theorem Dev.memWf.execNztWrite {req port target high value} (h : d.memWf) :
    (d.viaRow (execNztWrite req port target high value)).memWf :=
  memWf_viaRow (fun _ => rfl) <|
    memWf_ite h (memWf_ite h.refuse (memWf_ite h.refuse (memWf_ite h.refuse (memWf_ite h.storeValue.mirror h.stageWrite))))

theorem Dev.memWf.execCommit {req port} (h : d.memWf) : (d.viaRow (execCommit req port)).memWf :=
  memWf_viaRow (fun _ => rfl) <|
    memWf_ite h.refuse (memWf_ite h.refuse (memWf_ite h.refuse (memWf_ite h.refuse h.setBit.mirror)))

theorem Dev.memWf.execAbort {req port} (h : d.memWf) : (d.viaRow (execAbort req port)).memWf :=
  memWf_viaRow (fun _ => rfl) (memWf_ite h.refuse (memWf_ite h h.loopSetGone.dropSet.mirror))

theorem Dev.memWf.execTableReadyWrite {req port ready} (h : d.memWf) :
    (d.viaRow (execTableReadyWrite req port ready)).memWf :=
  memWf_viaRow (fun _ => rfl) (memWf_ite h.refuse h.setBit)

theorem Dev.memWf.execEngineFault {engine cause corrected} (h : d.memWf) :
    (d.viaRow (execEngineFault engine cause corrected)).memWf :=
  memWf_viaRow (fun _ => rfl) h.tableCorrected.engineFail

theorem Dev.memWf.execRetire {req engine} (h : d.memWf) : (d.viaRow (execRetire req engine)).memWf :=
  memWf_viaRow (fun _ => rfl) <|
    memWf_ite h.refuse <|
      memWf_ite h <| by
        split
        · exact h.refuse
        · exact memWf_ite h.engineOut.substitute h.engineOut

/-! ### Power, tasks, checkpoints and Breath (R336 to R359) -/

theorem Dev.memWf.setTask {t x} (h : d.memWf) : (d.setTask t x).memWf := h.update
theorem Dev.memWf.taskStand {t i} (h : d.memWf) : (d.taskStand t i).memWf := h.foldl fun _ _ ho => ho.setBit

theorem Dev.memWf.taskDue {t deadline} (h : d.memWf) : (d.taskDue t deadline).memWf :=
  memWf_ite (memWf_ite h h.setTask) h.setTask.taskStand

theorem Dev.memWf.taskStart {t} (h : d.memWf) : (d.taskStart t).memWf :=
  memWf_ite h.taskStand.setTask <|
    memWf_ite h.taskStand.setTask.setTask.update.put <|
      memWf_ite (h.taskStand.setTask.each fun _ _ ho => ho.startEcho) h.taskStand.setTask

theorem Dev.memWf.urgentFail {t} (h : d.memWf) : (d.urgentFail t).memWf :=
  memWf_ite h.speedReq.setBit.event h.speedReq.setBit.event.setTask.raise.ctxEvent

theorem Dev.memWf.taskSlack {t left} (h : d.memWf) : (d.taskSlack t left).memWf := by
  unfold Dev.taskSlack
  dsimp only
  split
  · exact h.setFld
  · exact memWf_ite h.setFld.setBit h.setFld

theorem Dev.memWf.admitTask {e t} (h : d.memWf) : (d.admitTask e t).memWf :=
  memWf_ite (memWf_ite h.taskStart h.urgentFail) (memWf_ite h (memWf_ite h.taskStart h))

theorem Dev.memWf.pauseTask {e t} (h : d.memWf) : (d.pauseTask e t).memWf :=
  memWf_ite h (memWf_ite h.taskStand (memWf_ite h (memWf_ite h h.taskStand)))

theorem Dev.memWf.schedule {e left} (h : d.memWf) : (d.schedule e left).memWf :=
  have h1 := (h.each fun _ _ ho => ho.taskSlack).each fun _ _ ho => ho.pauseTask
  (memWf_ite h1 (h1.each fun _ _ ho => ho.admitTask)).put

theorem Dev.memWf.noteDelta {bytes} (h : d.memWf) : (d.noteDelta bytes).memWf := memWf_ite h.put.taskDue.setBit h.put

theorem Dev.memWf.taskDone {t} (h : d.memWf) : (d.taskDone t).memWf :=
  have h1 := memWf_ite h.count.setTask.put.put h.count.setTask.put.put.taskStand
  memWf_ite h1.event (memWf_ite h1.setBit (memWf_ite h1.put h1))

theorem Dev.memWf.retrainByTemp {tj} (h : d.memWf) : (d.retrainByTemp tj).memWf := memWf_ite h.taskDue h

theorem Dev.memWf.writeSave {k s} (h : d.memWf) : (d.writeSave k s).memWf :=
  have hsaved := h.withNva (Mem.writeBytes_wf _ s.record (Mem.writeBytes_wf _ s.body h.nva))
  hsaved.update.put.put.put

theorem Dev.memWf.countBlocks {bs} (h : d.memWf) : (d.countBlocks bs).memWf := by
  unfold Dev.countBlocks
  split
  · exact h
  · exact h.add32.add32

theorem Dev.memWf.checkpoint {raw} (h : d.memWf) : (d.checkpoint raw).memWf :=
  memWf_ite h.countBlocks (memWf_ite h.countBlocks.raise h.countBlocks.writeSave)

theorem Dev.memWf.journalWrite (h : d.memWf) : d.journalWrite.memWf := by
  unfold Dev.journalWrite
  dsimp only
  split
  · exact h
  · exact h.update

theorem Dev.memWf.shedLanes (h : d.memWf) : d.shedLanes.memWf :=
  ((h.update.each fun _ _ ho => ho.groupDown).each fun _ _ ho => ho.groupDown).each fun _ _ ho => ho.groupDown

theorem Dev.memWf.restoreLanes (h : d.memWf) : d.restoreLanes.memWf :=
  ((h.update.each fun _ _ ho => ho.lanesRest).each fun _ _ ho => ho.lanesRest).each fun _ _ ho => ho.lanesRest

theorem Dev.memWf.dropArmed {n} (h : d.memWf) : (d.dropArmed n).memWf := memWf_ite h.loopSetGone.dropSet h
theorem Dev.memWf.dropHot (h : d.memWf) : d.dropHot.memWf := memWf_ite h.update.setImgState h
theorem Dev.memWf.stopTasks (h : d.memWf) : d.stopTasks.memWf := h.each fun _ _ ho => memWf_ite ho.taskStand ho
theorem Dev.memWf.dropRuns (h : d.memWf) : d.dropRuns.memWf := h.each fun _ _ ho => ho.setSyn
theorem Dev.memWf.setBreath {v} (h : d.memWf) : (d.setBreath v).memWf := h.setFld
theorem Dev.memWf.nvaShed (h : d.memWf) : d.nvaShed.memWf := h.each fun _ _ ho => ho.nvaAbandon

theorem Dev.memWf.shed {cause trip} (h : d.memWf) : (d.shed cause trip).memWf :=
  have h1 := (memWf_ite h.surrender h).update.setBreath.stopTasks.each fun _ _ ho => ho.dropArmed
  h1.dropHot.dropRuns.closeFrames.shedLanes.shedAxes.nvaShed

theorem Dev.memWf.allLanesOff (h : d.memWf) : d.allLanesOff.memWf :=
  ((h.update.each fun _ _ ho => ho.groupDown.lanesOff).each fun _ _ ho => ho.groupDown).update.put.lanesOff

theorem Dev.memWf.save (h : d.memWf) : d.save.memWf := h.setBreath.stopByOther.foldAll.journal.allLanesOff.saveLoops

theorem Dev.memWf.repeat_journalWrite {n} (h : d.memWf) : (Nat.repeat Dev.journalWrite n d).memWf := by
  induction n with
  | zero => exact h
  | succ n ih => exact ih.journalWrite

theorem Dev.memWf.breathCommit {parts part3} (h : d.memWf) : (d.breathCommit parts part3).memWf :=
  (memWf_ite h h.countBlocks.writeSave).repeat_journalWrite.update.update.setBreath.setBit

theorem Dev.memWf.resume (h : d.memWf) : d.resume.memWf := h.setBreath.put.raise.event.restoreLanes

theorem Dev.memWf.resumed (h : d.memWf) : d.resumed.memWf :=
  memWf_ite h.setBreath.resumeLoops.setUnfit.resync h.setBreath.resumeLoops.skipPassed

theorem Dev.memWf.thermalWarm {tj} (h : d.memWf) : (d.thermalWarm tj).memWf :=
  have h1 := memWf_ite h.event h
  memWf_ite (memWf_ite h1.update.setBit.event.raise.setUnfit h1.update.setBit.event.raise) <|
    memWf_ite h1.update.setBit.setUnfit h1.update.setBit

theorem Dev.memWf.thermalStop (h : d.memWf) : d.thermalStop.memWf := by
  unfold Dev.thermalStop
  dsimp only
  refine .shedLanes (.update (.raise (.setBit (.stopReq ?_))))
  split
  · exact (memWf_ite h.surrender.update h).stopByOther.surrenderAt
  · exact (memWf_ite h.surrender.update h).stopByOther

theorem Dev.memWf.thermalGo (h : d.memWf) : d.thermalGo.memWf := h.stopFree.setBit.update.restoreLanes

theorem Dev.memWf.thermalBack (h : d.memWf) : d.thermalBack.memWf :=
  memWf_ite h <|
    have h1 := memWf_ite h.setUnfit h
    memWf_ite (memWf_ite h1.update.resync h1.update) h1

theorem Dev.memWf.thermalAct {tj} (h : d.memWf) : (d.thermalAct tj).memWf :=
  memWf_ite h.thermalWarm <|
    have h1 := memWf_ite (memWf_ite h.thermalWarm h.thermalWarm.thermalStop) <|
        memWf_ite h.thermalWarm.thermalGo h.thermalWarm
    have h2 := (memWf_ite h1.setUnfit h1).update
    memWf_ite h2.event.raise.shed h2.thermalBack

/-! ### The DRAM controller (R406 to R425) -/

theorem Dev.memWf.groupOffline {g} (h : d.memWf) : (d.groupOffline g).memWf := (h.each fun _ _ ho => ho.setBit).setBit

theorem Dev.memWf.dramGone (h : d.memWf) : d.dramGone.memWf :=
  memWf_ite h.setUnfit (memWf_ite h.surrender h.update.stopByOther.stopReq)

theorem Dev.memWf.freezeChannel {ch cause} (h : d.memWf) : (d.freezeChannel ch cause).memWf :=
  (memWf_ite h.setBit.setFld.groupOffline.event.raise h.setBit.setFld.groupOffline.event.raise).dramGone

theorem Dev.memWf.setBank {p b} (h : d.memWf) : (d.setBank p b).memWf := h.update

theorem Dev.memWf.capture {addr command q synd} (h : d.memWf) : (d.capture addr command q synd).memWf :=
  (h.put.put.put.each fun _ _ ho => ho.put).each fun _ _ ho => ho.put

theorem Dev.memWf.setPoison {addr b} (h : d.memWf) : (d.setPoison addr b).memWf := h.update

theorem Dev.memWf.poisonBlock {region strip first} (h : d.memWf) : (d.poisonBlock region strip first).memWf := by
  unfold Dev.poisonBlock
  dsimp only
  split
  · exact h
  · split
    · exact h
    · exact memWf_ite h.setRegion.spoil h.setRegion.postEvent

theorem Dev.memWf.dropCopy {place} (h : d.memWf) : (d.dropCopy place).memWf := by
  unfold Dev.dropCopy
  dsimp only
  split
  · exact h
  · exact h.update.noteStore

theorem Dev.memWf.poisonTo {ch r} (h : d.memWf) : (d.poisonTo ch r).memWf := by
  unfold Dev.poisonTo
  dsimp only
  split
  · exact h.count.raise.ctxEvent
  · split
    · split
      · exact h.count.send
      · exact h.count
    · split
      · exact memWf_ite h.count.poisonBlock h.count
      · exact memWf_ite h.count.dropCopy h.count
      · exact memWf_ite h.count.event.raise.dramGone h.count
      · exact h.count

theorem Dev.memWf.scrubUe {ch addr holds} (h : d.memWf) : (d.scrubUe ch addr holds).memWf := by
  unfold Dev.scrubUe
  dsimp only
  split
  · exact h.setPoison.count.event.raise.poisonBlock
  · exact h.setPoison.count.event.raise.dropCopy
  · exact h.setPoison.count.event.raise.ctxEvent
  · exact memWf_ite h.setPoison.count.event.raise.put h.setPoison.count.event.raise.setPoison
  · exact h.setPoison.count.update.event.raise
  · split
    · exact h.setPoison.count.event.raise
    · exact h.setPoison.count.update.event.raise
  · exact h.setPoison.count.event.raise.dramGone

theorem Dev.memWf.setQueues {k rs ws} (h : d.memWf) : (d.setQueues k rs ws).memWf := h.update.setFld.setFld

theorem Dev.memWf.accessRow {p write bursts more} (h : d.memWf) : (d.accessRow p write bursts more).memWf :=
  have h1 := memWf_ite h.send h
  ((memWf_ite h1 h1.send.drawn).each fun _ _ ho => ho.send).setBank

theorem Dev.memWf.writeBurst {ch addr bytes i} (h : d.memWf) : (d.writeBurst ch addr bytes i).memWf :=
  memWf_ite h.raise (h.setPoison.withDram (Mem.writeBytes_wf _ _ h.dram))

theorem Dev.memWf.drainChannel {ch} (h : d.memWf) : (d.drainChannel ch).memWf :=
  h.each fun _ _ ho => memWf_ite ho (ho.setQueues.foldl fun _ _ ho2 => ho2.poisonTo)

theorem Dev.memWf.freeze {ch cause} (h : d.memWf) : (d.freeze ch cause).memWf :=
  h.freezeChannel.each fun _ _ ho => memWf_ite ho ho.drainChannel

theorem Dev.memWf.readBurst {p r i} (h : d.memWf) : (d.readBurst p r i).memWf := by
  unfold Dev.readBurst
  dsimp only
  split
  · exact h.poisonTo
  · split
    · exact h
    · exact h.update
    · exact h.poisonTo
    · exact memWf_ite h.scrubUe h.count.capture.freeze.poisonTo

theorem Dev.memWf.grantWrite {p r bytes more} (h : d.memWf) : (d.grantWrite p r bytes more).memWf :=
  h.accessRow.each fun _ _ ho => ho.writeBurst

theorem Dev.memWf.grantRead {p r queued more} (h : d.memWf) : (d.grantRead p r queued more).memWf :=
  have h1 := memWf_ite h h.accessRow
  have h2 := memWf_ite h1.put h1
  memWf_ite h2 (h2.each fun _ _ ho => ho.readBurst)

theorem Dev.memWf.refreshBank {p} (h : d.memWf) : (d.refreshBank p).memWf := by
  unfold Dev.refreshBank
  dsimp only
  split
  · exact h.send.setBank
  · exact (h.send.setBank.each fun _ _ ho => ho.send.send).add32

theorem Dev.memWf.dramGrant {k} (h : d.memWf) : (d.dramGrant k).memWf := by
  unfold Dev.dramGrant
  dsimp only
  split
  · exact h.update.refreshBank
  · split
    · exact h.update.setQueues.grantRead
    · exact h.update.setQueues.grantWrite
    · exact h.update

theorem Dev.memWf.dramArrive {k all} (h : d.memWf) : (d.dramArrive k all).memWf :=
  memWf_ite (h.foldl fun _ _ ho => ho.poisonTo) h.setQueues

theorem Dev.memWf.zeroGroup {g} (h : d.memWf) : (d.zeroGroup g).memWf := (h.withDram (Mem.zero_wf _ _ h.dram)).update
theorem Dev.memWf.thaw {ch} (h : d.memWf) : (d.thaw ch).memWf := h.setBit.setBit.setFld.setQueues.setQueues
theorem Dev.memWf.dramFit (h : d.memWf) : d.dramFit.memWf := memWf_ite h.setUnfit.resync h

theorem Dev.memWf.groupBack {g} (h : d.memWf) : (d.groupBack g).memWf :=
  (h.zeroGroup.each fun _ _ ho => ho.thaw).put.dramFit

/-! ### Commands of the DRAM (R406 to R425) -/

theorem Dev.memWf.execRefreshDue {sub rank bankGroup bank busy} (h : d.memWf) :
    (d.viaRow (execRefreshDue sub rank bankGroup bank busy)).memWf :=
  memWf_viaRow (fun _ => rfl) (memWf_ite h.setBank h.refreshBank)

theorem Dev.memWf.execDramTempRead {channel celsius} (h : d.memWf) : (d.viaRow (execDramTempRead channel celsius)).memWf :=
  memWf_viaRow (fun _ => rfl) h.update

theorem Dev.memWf.execDramGrant {sub arrivals} (h : d.memWf) : (d.viaRow (execDramGrant sub arrivals)).memWf :=
  memWf_viaRow (fun _ => rfl) (memWf_ite h.dramArrive h.dramArrive.dramGrant)

theorem Dev.memWf.execCeWriteback {sub rank device codewords} (h : d.memWf) :
    (d.viaRow (execCeWriteback sub rank device codewords)).memWf :=
  memWf_viaRow (fun _ => rfl) <|
    memWf_ite
      (.raise (.event (.update (.put (.add32 (.update <| by
        split
        · exact h.update.accessRow
        · exact h))))))
      (.put (.add32 (.update <| by
        split
        · exact h.update.accessRow
        · exact h)))

theorem Dev.memWf.execDramFreeze {addr cause command requester syndrome} (h : d.memWf) :
    (d.viaRow (execDramFreeze addr cause command requester syndrome)).memWf :=
  memWf_viaRow (fun _ => rfl) (memWf_ite h (memWf_ite h.count h).capture.freeze)

theorem Dev.memWf.execGroupReset {req group} (h : d.memWf) : (d.viaRow (execGroupReset req group)).memWf :=
  memWf_viaRow (fun _ => rfl) (memWf_ite h.refuse (memWf_ite h.refuse h.cueRequest))

theorem Dev.memWf.execRetrainSlice {channel readEye writeEye} (h : d.memWf) :
    (d.viaRow (execRetrainSlice channel readEye writeEye)).memWf :=
  memWf_viaRow (fun _ => rfl) h.setBit.update

theorem Dev.memWf.retrained {ch old} (h : d.memWf) : (d.retrained ch old).memWf := by
  unfold Dev.retrained
  dsimp only
  split
  · exact h.setBit.update.count.put.setBit
  · exact memWf_ite h.setBit.update.put.setBit.event.raise h.setBit.update.put.freeze

theorem Dev.memWf.execRetrainDone {group old} (h : d.memWf) : (d.viaRow (execRetrainDone group old)).memWf :=
  memWf_viaRow (fun _ => rfl) (h.update.each fun _ _ ho => memWf_ite ho.setBit ho.retrained)

theorem Dev.memWf.execDmcPrioWrite {requester prio} (h : d.memWf) : (d.viaRow (execDmcPrioWrite requester prio)).memWf :=
  memWf_viaRow (fun _ => rfl) (memWf_ite h h.put)

/-! ### Compressor units (R129 to R134) -/

theorem Dev.memWf.setUnit {u x} (h : d.memWf) : (d.setUnit u x).memWf := h.update.setFld.setBit

theorem Dev.memWf.unitFails {u} (h : d.memWf) : (d.unitFails u).memWf :=
  have h1 := h.setUnit.setBit.event.raise
  memWf_ite h1.setUnfit h1

theorem Dev.memWf.selfcheckFail {u b rest} (h : d.memWf) : (d.selfcheckFail u b rest).memWf :=
  memWf_ite h.count.event.unitFails h.count.event.setUnit.raise

theorem Dev.memWf.releaseBlock {u b rest} (h : d.memWf) : (d.releaseBlock u b rest).memWf :=
  (memWf_ite h.setUnit.count.count h.setUnit.count).send

/-! ### Commands of the inspection (R212 to R239) -/

theorem Dev.memWf.execInsRunWrite {pipe run} (h : d.memWf) : (d.viaRow (execInsRunWrite pipe run)).memWf :=
  memWf_viaRow (fun _ => rfl) (memWf_ite h (memWf_ite h.setPipe.setBit h.frameClose.setBit.setPipe))

theorem Dev.memWf.execInsClose {pipe} (h : d.memWf) : (d.viaRow (execInsClose pipe)).memWf :=
  memWf_viaRow (fun _ => rfl) h.frameClose

theorem Dev.memWf.execInsRelink {pipe} (h : d.memWf) : (d.viaRow (execInsRelink pipe)).memWf :=
  memWf_viaRow (fun _ => rfl) (memWf_ite h.frameClose h.camRestart)

theorem Dev.memWf.execTriggerSend {pipe multiple} (h : d.memWf) : (d.viaRow (execTriggerSend pipe multiple)).memWf :=
  memWf_viaRow (fun _ => rfl) h.triggerAt

theorem Dev.memWf.execCamcap {pipe camId w3 w4} (h : d.memWf) : (d.viaRow (execCamcap pipe camId w3 w4)).memWf :=
  memWf_viaRow (fun _ => rfl) (memWf_ite h h.wr.setPipe.camChoose)

theorem Dev.memWf.execCamAck {pipe refused seq} (h : d.memWf) : (d.viaRow (execCamAck pipe refused seq)).memWf :=
  memWf_viaRow (fun _ => rfl) <| by
    dsimp only
    split
    · exact h
    · exact memWf_ite h (memWf_ite h.camRestart (memWf_ite h.camRetrain (memWf_ite h.setPipe.setCam h.setPipe)))

theorem Dev.memWf.execRawPacket {pipe fmt w1 w2 body bad} (h : d.memWf) :
    (d.viaRow (execRawPacket pipe fmt w1 w2 body bad)).memWf :=
  memWf_viaRow (fun _ => rfl) h.rawPacket

theorem Dev.memWf.execCamMeta {pipe w1 body} (h : d.memWf) : (d.viaRow (execCamMeta pipe w1 body)).memWf :=
  memWf_viaRow (fun _ => rfl) (memWf_ite h (h.setPipe.each fun _ _ ho => ho.put))

theorem Dev.memWf.execEcho {pipe tseq expMid} (h : d.memWf) : (d.viaRow (execEcho pipe tseq expMid)).memWf :=
  memWf_viaRow (fun _ => rfl) (memWf_ite h.setLine h)

theorem Dev.memWf.execCamEvent {pipe dropped overflows} (h : d.memWf) :
    (d.viaRow (execCamEvent pipe dropped overflows)).memWf :=
  memWf_viaRow (fun _ => rfl) h.setPipe

theorem Dev.memWf.execLineCloseTimeout {pipe tseq} (h : d.memWf) : (d.viaRow (execLineCloseTimeout pipe tseq)).memWf :=
  memWf_viaRow (fun _ => rfl) <| by
    split
    · exact h
    · exact h.lineClose

theorem Dev.memWf.execCameraSilent {pipe} (h : d.memWf) : (d.viaRow (execCameraSilent pipe)).memWf :=
  memWf_viaRow (fun _ => rfl) (memWf_ite h.camFail h)

theorem Dev.memWf.execCamAckTimeout {pipe} (h : d.memWf) : (d.viaRow (execCamAckTimeout pipe)).memWf :=
  memWf_viaRow (fun _ => rfl) <| by
    dsimp only
    split
    · exact h
    · exact memWf_ite h.camFail h.setPipe.send.camWords

theorem Dev.memWf.execCameraVersionRetry {pipe} (h : d.memWf) : (d.viaRow (execCameraVersionRetry pipe)).memWf :=
  memWf_viaRow (fun _ => rfl) (memWf_ite h.camChoose h)

theorem Dev.memWf.execGtDataAccess {req pipe value} (h : d.memWf) : (d.viaRow (execGtDataAccess req pipe value)).memWf :=
  memWf_viaRow (fun _ => rfl) <|
    .put <| by
      split
      · exact h.send
      · exact memWf_ite h.refuse h.setPipe

theorem Dev.memWf.sendDevrecs {c r es} (h : d.memWf) : (d.sendDevrecs c r es).memWf := h.foldl fun _ _ ho => ho.casSend

theorem Dev.memWf.execRecordHandoff {pipe} (h : d.memWf) : (d.viaRow (execRecordHandoff pipe)).memWf :=
  memWf_viaRow (fun _ => rfl) <| by
    dsimp only
    split
    · exact h
    · exact (memWf_ite h.setPipe.mirrorSend h.setPipe.update).sendDevrecs

theorem Dev.memWf.everySecond {k} (h : d.memWf) : (d.everySecond k).2.memWf := by
  unfold Dev.everySecond
  split
  · exact h
  · exact h

theorem Dev.memWf.execStatRecordWrite {pipe} (h : d.memWf) : (d.viaRow (execStatRecordWrite pipe)).memWf :=
  memWf_viaRow (fun _ => rfl) <| by
    dsimp only
    split
    · exact h
    · exact have h1 := h.setPipe.everySecond
      memWf_ite h1.count (memWf_ite (memWf_ite h1.count.event.setPipe.raise h1.count.event) h1.dramWrite.put)

theorem Dev.memWf.skipUpload {c} (h : d.memWf) : (d.skipUpload c).memWf := h.count

theorem Dev.memWf.sendUpload {c k frame x data} (h : d.memWf) : (d.sendUpload c k frame x data).memWf :=
  memWf_ite h.skipUpload (memWf_ite (h.setPipe.setCtx.foldl fun _ _ ho => ho.xptSend) h.setPipe.setCtx.send).postEvent

theorem Dev.memWf.uploadBlock {c b} (h : d.memWf) : (d.uploadBlock c b).memWf := by
  unfold Dev.uploadBlock
  dsimp only
  split
  · exact h
  · split
    · exact h.setPipe
    · split
      · exact h.setPipe
      · exact h.setPipe.sendUpload

theorem Dev.memWf.uploadStops {u} (h : d.memWf) : (d.uploadStops u).memWf := memWf_ite h.setPipe h
theorem Dev.memWf.startUpload {c j} (h : d.memWf) : (d.startUpload c j).memWf := h.setUnit.setPipe

theorem Dev.memWf.execUploadCompress {pipe} (h : d.memWf) : (d.viaRow (execUploadCompress pipe)).memWf :=
  memWf_viaRow (fun _ => rfl) <| by
    dsimp only
    split
    · exact h
    · exact memWf_ite h.setPipe.skipUpload
        (memWf_ite h (memWf_ite h.setPipe.everySecond.skipUpload h.setPipe.everySecond.startUpload))

theorem Dev.memWf.uploadSub {slot w} (h : d.memWf) : (d.uploadSub slot w).memWf := by
  unfold Dev.uploadSub
  dsimp only
  split
  · exact h.entryErr
  · exact memWf_ite h.entryErr h.setPipe.entryOk

theorem Dev.memWf.execUploadSub {slot w} (h : d.memWf) : (d.viaRow (execUploadSub slot w)).memWf :=
  memWf_viaRow (fun _ => rfl) (h.entry fun _ ho => ho.uploadSub)

theorem Dev.memWf.uploadUnsub {slot w} (h : d.memWf) : (d.uploadUnsub slot w).memWf := by
  unfold Dev.uploadUnsub
  dsimp only
  split
  · exact h.entryErr
  · exact memWf_ite h.entryErr h.setPipe.entryOk

theorem Dev.memWf.execUploadUnsub {slot w} (h : d.memWf) : (d.viaRow (execUploadUnsub slot w)).memWf :=
  memWf_viaRow (fun _ => rfl) (h.entry fun _ ho => ho.uploadUnsub)

/-! ### Commands of the lanes (R385 to R405) -/

theorem Dev.memWf.execLaneSignalDetect {lane} (h : d.memWf) : (d.viaRow (execLaneSignalDetect lane)).memWf :=
  memWf_viaRow (fun _ => rfl) h.laneSignal

theorem Dev.memWf.execLaneStageDone {lane ctle taps width height} (h : d.memWf) :
    (d.viaRow (execLaneStageDone lane ctle taps width height)).memWf :=
  memWf_viaRow (fun _ => rfl) (memWf_ite h.stageDone h)

theorem Dev.memWf.execLaneStageTimeout {lane} (h : d.memWf) : (d.viaRow (execLaneStageTimeout lane)).memWf :=
  memWf_viaRow (fun _ => rfl) (memWf_ite h.stageFail h)

theorem Dev.memWf.execBlockLockLoss {lane headers} (h : d.memWf) : (d.viaRow (execBlockLockLoss lane headers)).memWf :=
  memWf_viaRow (fun _ => rfl) (memWf_ite h h.setLane.judgeHeaders.raise.laneFail)

theorem Dev.memWf.execLaneLos {lane} (h : d.memWf) : (d.viaRow (execLaneLos lane)).memWf :=
  memWf_viaRow (fun _ => rfl) (memWf_ite h h.setLane.event.raise.laneFail)

theorem Dev.memWf.execAlignmentMarkerLost {lane first second} (h : d.memWf) :
    (d.viaRow (execAlignmentMarkerLost lane first second)).memWf :=
  memWf_viaRow (fun _ => rfl) (memWf_ite h h.raise.laneFail)

theorem Dev.memWf.execLaneSignalReturn {lane} (h : d.memWf) : (d.viaRow (execLaneSignalReturn lane)).memWf :=
  memWf_viaRow (fun _ => rfl) (memWf_ite h.count h)

theorem Dev.memWf.askRetrain {l} (h : d.memWf) : (d.askRetrain l).memWf := memWf_ite h.laneFail h

theorem Dev.memWf.execLaneBlockErrRetrain {lane} (h : d.memWf) : (d.viaRow (execLaneBlockErrRetrain lane)).memWf :=
  memWf_viaRow (fun _ => rfl) (memWf_ite h.askRetrain h)

theorem Dev.memWf.execLaneRetrain {lane} (h : d.memWf) : (d.viaRow (execLaneRetrain lane)).memWf :=
  memWf_viaRow (fun _ => rfl) h.askRetrain

theorem Dev.memWf.execLaneRevive {lane} (h : d.memWf) : (d.viaRow (execLaneRevive lane)).memWf :=
  memWf_viaRow (fun _ => rfl) h.unmark

theorem Dev.memWf.execLaneRail {lane tap} (h : d.memWf) : (d.viaRow (execLaneRail lane tap)).memWf :=
  memWf_viaRow (fun _ => rfl) (memWf_ite h (memWf_ite h.event.raise h.event.raise.update))

theorem Dev.memWf.noteAwake {l b} (h : d.memWf) : (d.noteAwake l b).memWf := by
  unfold Dev.noteAwake
  split
  · exact memWf_ite h.setBit h
  · exact h

theorem Dev.memWf.execSleepBlock {lane} (h : d.memWf) : (d.viaRow (execSleepBlock lane)).memWf :=
  memWf_viaRow (fun _ => rfl) (memWf_ite h.setBit.noteAwake h)

theorem Dev.memWf.execLaneWake {lane} (h : d.memWf) : (d.viaRow (execLaneWake lane)).memWf :=
  memWf_viaRow (fun _ => rfl) (memWf_ite h.setBit.count.noteAwake h)

theorem Dev.memWf.setRefOk {refB b} (h : d.memWf) : (d.setRefOk refB b).memWf := h.setBit
theorem Dev.memWf.setRef {c refB} (h : d.memWf) : (d.setRef c refB).memWf := h.setBit.each fun _ _ ho => ho.setBit

theorem Dev.memWf.refSwitch {c refB} (h : d.memWf) : (d.refSwitch c refB).memWf :=
  (h.setRef.count.event.each fun _ _ ho => memWf_ite ho.event.setLaneSt.setBit ho.event).raise

theorem Dev.memWf.execRefBad {refB} (h : d.memWf) : (d.viaRow (execRefBad refB)).memWf :=
  memWf_viaRow (fun _ => rfl) (h.setRefOk.each fun _ _ ho => memWf_ite ho.refSwitch ho.setBit)

theorem Dev.memWf.execRefReturn (h : d.memWf) : (d.viaRow execRefReturn).memWf :=
  memWf_viaRow (fun _ => rfl) (memWf_ite h (h.each fun _ _ ho => ho.setRef))

theorem Dev.memWf.execReferenceGood {refB} (h : d.memWf) : (d.viaRow (execReferenceGood refB)).memWf :=
  memWf_viaRow (fun _ => rfl) <|
    h.setRefOk.each fun _ _ ho =>
      memWf_ite ho.setRef.setBit (memWf_ite ho (ho.setRef.setBit.update.each fun _ _ ho2 => memWf_ite ho2.laneDeep ho2))

theorem Dev.memWf.execRefHoldoverEnd (h : d.memWf) : (d.viaRow execRefHoldoverEnd).memWf :=
  memWf_viaRow (fun _ => rfl) <|
    memWf_ite h <|
      have h1 := h.each fun _ _ ho =>
        (ho.setBit.setBit.update.foldl fun _ _ ho2 => ho2.groupDown).each fun _ _ ho2 => ho2.setLaneSt
      h1.event.raise.laneSurrender

theorem Dev.memWf.prbsStop {l} (h : d.memWf) : (d.prbsStop l).memWf := h.put.setLane.setBit
theorem Dev.memWf.injStop {l} (h : d.memWf) : (d.injStop l).memWf := h.put.setLane

theorem Dev.memWf.execLaneTest {req lane on} (h : d.memWf) : (d.viaRow (execLaneTest req lane on)).memWf :=
  memWf_viaRow (fun _ => rfl) <|
    memWf_ite (memWf_ite h (memWf_ite h.refuse (memWf_ite h.groupAnew h).setLaneSt.setGood.setBit)) <|
      memWf_ite h h.prbsStop.injStop.setFld.setLaneSt.laneDeep.groupAnew

theorem Dev.memWf.execPrbsCheckerLock {lane} (h : d.memWf) : (d.viaRow (execPrbsCheckerLock lane)).memWf :=
  memWf_viaRow (fun _ => rfl) (memWf_ite h h.setLane.setBit)

theorem Dev.memWf.execPrbsCheckerLockLoss {lane errors} (h : d.memWf) :
    (d.viaRow (execPrbsCheckerLockLoss lane errors)).memWf :=
  memWf_viaRow (fun _ => rfl) (memWf_ite h h.put.prbsStop.count)

theorem Dev.memWf.execInjCtrlWrite {req lane value} (h : d.memWf) : (d.viaRow (execInjCtrlWrite req lane value)).memWf :=
  memWf_viaRow (fun _ => rfl) <|
    memWf_ite
      (memWf_ite h.injStop.put <|
        memWf_ite h.injStop.put.count (memWf_ite h.injStop.put.setLane (memWf_ite h.injStop.put.add32 h.injStop.put)))
      (memWf_ite (memWf_ite h.refuse (memWf_ite h.put.txInject.count h.put)) h)

theorem Dev.memWf.execMarginScanDone {lane eye} (h : d.memWf) : (d.viaRow (execMarginScanDone lane eye)).memWf :=
  memWf_viaRow (fun _ => rfl) <| by
    dsimp only
    split
    · exact memWf_ite (memWf_ite h.update.setEye.event.raise h.update.setEye).event.askRetrain <|
        memWf_ite h.update.setEye.event.raise h.update.setEye
    · exact h.count

theorem Dev.memWf.execScanNow (h : d.memWf) : (d.viaRow execScanNow).memWf :=
  memWf_viaRow (fun _ => rfl) h.taskDue

theorem Dev.memWf.execEthLinkRetry {ep sub} (h : d.memWf) : (d.viaRow (execEthLinkRetry ep sub)).memWf :=
  memWf_viaRow (fun _ => rfl) (memWf_ite h (h.each fun _ _ ho => ho.unmark.laneDeep.setGood))

end
end Sys2Proof.Machine
end

section
open Sys2Proof
namespace Sys2Proof.Machine
section
variable {d : Dev}

/-! ### Commands of the bar image (R33 to R52) -/

theorem Dev.memWf.execLoad {req src} (h : d.memWf) : (d.viaRow (execLoad req src)).memWf :=
  memWf_viaRow (fun _ => rfl) (memWf_ite h.refuse h.setFld.dropShadow.setReport.update.setImgState)

theorem Dev.memWf.execImgLoadComplete (h : d.memWf) : (d.viaRow execImgLoadComplete).memWf :=
  memWf_viaRow (fun _ => rfl) (memWf_ite h.loadDone h)

theorem Dev.memWf.execArmHot {req} (h : d.memWf) : (d.viaRow (execArmHot req)).memWf :=
  memWf_viaRow (fun _ => rfl) (memWf_ite h.refuse (memWf_ite h.refuse (memWf_ite h.refuse h.setImgState)))

theorem Dev.memWf.execActStop {req} (h : d.memWf) : (d.viaRow (execActStop req)).memWf :=
  memWf_viaRow (fun _ => rfl) <|
    memWf_ite h.refuse <|
      memWf_ite h.refuse <| by
        split
        · exact h
        · exact memWf_ite h.refuse h.activateStop

theorem Dev.memWf.execDisarm {req} (h : d.memWf) : (d.viaRow (execDisarm req)).memWf :=
  memWf_viaRow (fun _ => rfl) (memWf_ite h.setImgState (memWf_ite h.refuse h))

theorem Dev.memWf.execDiscard {req} (h : d.memWf) : (d.viaRow (execDiscard req)).memWf :=
  memWf_viaRow (fun _ => rfl) (memWf_ite h.refuse h.dropShadow.setReport.setImgState)

theorem Dev.memWf.execPersist (h : d.memWf) : (d.viaRow execPersist).memWf :=
  memWf_viaRow (fun _ => rfl) <| by
    split
    · exact h.update.setOps
    · exact h

theorem Dev.memWf.execHotCommitPoint (h : d.memWf) : (d.viaRow execHotCommitPoint).memWf :=
  memWf_viaRow (fun _ => rfl) (memWf_ite h.update.setImgState h)

theorem Dev.memWf.execHotActivationEffect (h : d.memWf) : (d.viaRow execHotActivationEffect).memWf :=
  memWf_viaRow (fun _ => rfl) <| by
    split
    · exact memWf_ite h.activateHot h
    · exact h

theorem Dev.memWf.execHotActivationDone (h : d.memWf) : (d.viaRow execHotActivationDone).memWf :=
  memWf_viaRow (fun _ => rfl) <|
    memWf_ite
      (have h1 := h.setImgState.setBit.setDigest.irqPulse
       memWf_ite h1.journal.sendShape.sendDaily h1.journal.sendShape.compareDailies)
      h

theorem Dev.memWf.execStopActivationDone (h : d.memWf) : (d.viaRow execStopActivationDone).memWf :=
  memWf_viaRow (fun _ => rfl) (memWf_ite h.setImgState.setBit h)

/-! ### Calibration (R468 to R472) -/

theorem Dev.memWf.setCalCell {i k c} (h : d.memWf) : (d.setCalCell i k c).memWf := h.update

theorem Dev.memWf.calRaise {i cause} (h : d.memWf) : (d.calRaise i cause).memWf :=
  memWf_ite (memWf_ite h h.update.raise) h.raise

theorem Dev.memWf.calAbort {i k cause} (h : d.memWf) : (d.calAbort i k cause).memWf := h.setCalCell.setBit.calRaise
theorem Dev.memWf.storeSet {i k v} (h : d.memWf) : (d.storeSet i k v).memWf := memWf_ite (h.each fun _ _ ho => ho.update) h
theorem Dev.memWf.calApply {i k m1 m2} (h : d.memWf) : (d.calApply i k m1 m2).memWf := h.setCalCell.storeSet

theorem Dev.memWf.calPlace {i r} (h : d.memWf) : (d.calPlace i r).memWf :=
  memWf_ite h (memWf_ite h.calAbort (memWf_ite h.calAbort h.calApply))

theorem Dev.memWf.execCalCtrlRun {item} (h : d.memWf) : (d.viaRow (execCalCtrlRun item)).memWf :=
  memWf_viaRow (fun _ => rfl) (memWf_ite h.put (memWf_ite h.put.update (h.put.update.each fun _ _ ho => ho.startEcho)))

theorem Dev.memWf.execCalRunDone {item results} (h : d.memWf) : (d.viaRow (execCalRunDone item results)).memWf :=
  memWf_viaRow (fun _ => rfl) (h.foldl fun _ _ ho => ho.calPlace).update

/-! ### Commands of the control loops (R360 to R372) -/

theorem Dev.memWf.execSample {port entries} (h : d.memWf) : (d.viaRow (execSample port entries)).memWf :=
  memWf_viaRow (fun _ => rfl) (h.foldl fun _ _ ho => ho.sampleFor)

theorem Dev.memWf.execPortJoinEffect {port} (h : d.memWf) : (d.viaRow (execPortJoinEffect port)).memWf :=
  memWf_viaRow (fun _ => rfl) <|
    memWf_ite h <| by
      dsimp only
      split
      · exact h.setLink.event.setPort.maskFault.setLink.raise
      · exact h.setLink.event.setPort

theorem Dev.memWf.lspResponse {p r} (h : d.memWf) : (d.lspResponse p r).memWf := by
  unfold Dev.lspResponse
  dsimp only
  split
  · exact h
  · exact memWf_ite h.sampleFor h.count

theorem Dev.memWf.lspSend {p} (h : d.memWf) : (d.lspSend p).memWf := by
  unfold Dev.lspSend
  dsimp only
  split
  · exact h.setLsp.send
  · split
    · exact h.setLsp.send
    · exact h.setLsp

theorem Dev.memWf.lspHear {p line} (h : d.memWf) : (d.lspHear p line).memWf := by
  unfold Dev.lspHear
  dsimp only
  split
  · exact h.setLsp
  · exact memWf_ite h.setLsp.update h.setLsp

theorem Dev.memWf.execLspFrame {port line response} (h : d.memWf) : (d.viaRow (execLspFrame port line response)).memWf :=
  memWf_viaRow (fun _ => rfl) (memWf_ite h (memWf_ite h.lspResponse.lspSend h.lspResponse.lspHear))

theorem Dev.memWf.execLoopEvaluate {loop missed time} (h : d.memWf) :
    (d.viaRow (execLoopEvaluate loop missed time)).memWf :=
  memWf_viaRow (fun _ => rfl) (memWf_ite h.at (memWf_ite h.at.missLoop h.at.evalLoop))

theorem Dev.memWf.capHead {n} (h : d.memWf) : (d.capHead n).memWf := (memWf_ite h.maskFault.setLink h).clearHead

theorem Dev.memWf.execLoopSafeTimeout {loop} (h : d.memWf) : (d.viaRow (execLoopSafeTimeout loop)).memWf :=
  memWf_viaRow (fun _ => rfl) <|
    memWf_ite h <|
      have h1 := h.setLoopSt.loopOut.event.raise
      memWf_ite (h1.each fun _ _ ho => ho.capHead) h1

theorem Dev.memWf.execLoopResume {req loop} (h : d.memWf) : (d.viaRow (execLoopResume req loop)).memWf :=
  memWf_viaRow (fun _ => rfl) (memWf_ite h (memWf_ite h.refuse h.setLoopSt.setCtl))

theorem Dev.memWf.execLoopSpWrite {loop value} (h : d.memWf) : (d.viaRow (execLoopSpWrite loop value)).memWf :=
  memWf_viaRow (fun _ => rfl) h.put

theorem Dev.memWf.rcRead {q high v} (h : d.memWf) : (d.rcRead q high v).memWf := by
  unfold Dev.rcRead
  dsimp only
  split
  · split
    · exact h.send.update
    · exact h.send
  · exact h.send.update

theorem Dev.memWf.execCtlRcDataAccess {req high write} (h : d.memWf) :
    (d.viaRow (execCtlRcDataAccess req high write)).memWf :=
  memWf_viaRow (fun _ => rfl) <|
    memWf_ite
      (.put <| by
        split
        · exact h.rcRead
        · exact memWf_ite h.refuse h.setCtl)
      (by
        split
        · exact h.rcRead
        · exact memWf_ite h.refuse h.setCtl)

/-! ### Management cores, array and interrupts (R426 to R444) -/

theorem Dev.memWf.restartRuns {n} (h : d.memWf) : (d.restartRuns n).memWf := h.setSyn.noteBusy

theorem Dev.memWf.cueBegin {x} (h : d.memWf) : (d.cueBegin x).memWf := by
  unfold Dev.cueBegin
  split
  · exact h.assignEngine.restartRuns
  · exact h.setBit
  · exact h
  · exact h

theorem Dev.memWf.execCueStart (h : d.memWf) : (d.viaRow execCueStart).memWf :=
  memWf_viaRow (fun _ => rfl) <| by
    split
    · exact h.update.cueMark.cueRefresh.cueBegin
    · exact h

theorem Dev.memWf.cueEffect {x} (h : d.memWf) : (d.cueEffect x).memWf := by
  unfold Dev.cueEffect
  split
  · exact h.event
  · exact h.parkDone
  · exact h.activateDone
  · exact h.groupBack

theorem Dev.memWf.cueOld {x} (h : d.memWf) : (d.cueOld x).memWf := by
  unfold Dev.cueOld
  split
  · exact h.complete.drawn
  · exact h.setBit.setBit
  · exact h
  · exact h

theorem Dev.memWf.execCueDone {place} (h : d.memWf) : (d.viaRow (execCueDone place)).memWf :=
  memWf_viaRow (fun _ => rfl) <| by
    split
    · exact h
    · exact (memWf_ite h.update.cueMark.cueRefresh.cueOld h.update.cueMark.cueRefresh.cueEffect).put.event

theorem Dev.memWf.execCueAbort {req generation ahead} (h : d.memWf) :
    (d.viaRow (execCueAbort req generation ahead)).memWf :=
  memWf_viaRow (fun _ => rfl) <| by
    dsimp only
    split
    · split
      · exact h.update.cueRefresh.cueOld
      · exact h.update.cueRefresh
    · exact memWf_ite h.update.cueRefresh h.refuse
    · exact h.refuse

theorem Dev.memWf.execCueQuery {cls index} (h : d.memWf) : (d.viaRow (execCueQuery cls index)).memWf :=
  memWf_viaRow (fun _ => rfl) h.put.put

theorem Dev.memWf.execWatchdogExpire {core} (h : d.memWf) : (d.viaRow (execWatchdogExpire core)).memWf :=
  memWf_viaRow (fun _ => rfl) (memWf_ite h h.coreReset.count.irqPulse.raise)

theorem Dev.memWf.execKick {core} (h : d.memWf) : (d.viaRow (execKick core)).memWf :=
  memWf_viaRow (fun _ => rfl) h.update

theorem Dev.memWf.wakeLines (h : d.memWf) : d.wakeLines.memWf := h.each fun _ _ ho => memWf_ite ho.update ho

theorem Dev.memWf.execLoadWindow {c0 c1 c2 c3 wfi} (h : d.memWf) : (d.viaRow (execLoadWindow c0 c1 c2 c3 wfi)).memWf :=
  memWf_viaRow (fun _ => rfl) <|
    memWf_ite h.update.setFld.setFld.wakeLines.setBit.irqLevel.raise <|
      memWf_ite h.update.setFld.setFld.wakeLines.setBit.irqLevel h.update.setFld.setFld.wakeLines

theorem Dev.memWf.execNvaOpGo {r erase fetch} (h : d.memWf) : (d.viaRow (execNvaOpGo r erase fetch)).memWf :=
  memWf_viaRow (fun _ => rfl) <|
    have h1 := memWf_ite h h.setBit
    memWf_ite h1.refuse (memWf_ite h1.nvaEnd.refuse (memWf_ite h1.nvaEnd.refuse h1.setOps.put.put))

theorem Dev.memWf.execNvaLineWritten {bank} (h : d.memWf) : (d.viaRow (execNvaLineWritten bank)).memWf :=
  memWf_viaRow (fun _ => rfl) h.nvaStep

theorem Dev.memWf.execNvaEccError {addr core corrected} (h : d.memWf) :
    (d.viaRow (execNvaEccError addr core corrected)).memWf :=
  memWf_viaRow (fun _ => rfl) <|
    memWf_ite h.count <| by
      dsimp only
      split
      · exact h.event.raise.send
      · exact h.event.raise

theorem Dev.memWf.execIrqModTimer {core fast} (h : d.memWf) : (d.viaRow (execIrqModTimer core fast)).memWf :=
  memWf_viaRow (fun _ => rfl) (memWf_ite h h.update)

theorem Dev.memWf.execClaim {reader core fast} (h : d.memWf) : (d.viaRow (execClaim reader core fast)).memWf :=
  memWf_viaRow (fun _ => rfl) <|
    memWf_ite
      (by
        split
        · exact memWf_ite h.send h.send.irqPend
        · exact h.send)
      (.update <| by
        split
        · exact memWf_ite h.send h.send.irqPend
        · exact h.send)

theorem Dev.memWf.execIrqMaskSet {word value} (h : d.memWf) : (d.viaRow (execIrqMaskSet word value)).memWf :=
  memWf_viaRow (fun _ => rfl) (h.each fun _ _ ho => ho.setBit)

theorem Dev.memWf.execIrqMaskClr {word value} (h : d.memWf) : (d.viaRow (execIrqMaskClr word value)).memWf :=
  memWf_viaRow (fun _ => rfl) (h.each fun _ _ ho => memWf_ite ho.setBit.irqNotify ho.setBit)

theorem Dev.memWf.execIrqPendSet {word value} (h : d.memWf) : (d.viaRow (execIrqPendSet word value)).memWf :=
  memWf_viaRow (fun _ => rfl) (h.each fun _ _ ho => ho.irqPend)

theorem Dev.memWf.execIrqPendClr {word value edges} (h : d.memWf) : (d.viaRow (execIrqPendClr word value edges)).memWf :=
  memWf_viaRow (fun _ => rfl) ((h.each fun _ _ ho => memWf_ite ho ho.irqPend).each fun _ _ ho => memWf_ite ho ho.irqPend)

/-! ### Commands of the axes (R373 to R379) -/

theorem Dev.memWf.execAxisPush {req axis} (h : d.memWf) : (d.viaRow (execAxisPush req axis)).memWf :=
  memWf_viaRow (fun _ => rfl) <| by
    dsimp only
    split
    · exact h.refuse
    · exact h.setAxis

theorem Dev.memWf.execAxisHalt {axis} (h : d.memWf) : (d.viaRow (execAxisHalt axis)).memWf :=
  memWf_viaRow (fun _ => rfl) h.setAxis.atRest

theorem Dev.memWf.execAxisAbort {axis} (h : d.memWf) : (d.viaRow (execAxisAbort axis)).memWf :=
  memWf_viaRow (fun _ => rfl) h.axisStop

theorem Dev.memWf.execAxisHome {req axis} (h : d.memWf) : (d.viaRow (execAxisHome req axis)).memWf :=
  memWf_viaRow (fun _ => rfl) (memWf_ite h.refuse h.setAxis)

theorem Dev.memWf.execAxisPlanTick {axis seen time} (h : d.memWf) : (d.viaRow (execAxisPlanTick axis seen time)).memWf :=
  memWf_viaRow (fun _ => rfl) (memWf_ite h.at.planAxis (memWf_ite h.at h.at.setAxis))

theorem Dev.memWf.execHomeEdge {axis} (h : d.memWf) : (d.viaRow (execHomeEdge axis)).memWf :=
  memWf_viaRow (fun _ => rfl) <| by
    dsimp only
    split
    · exact h.setAxis.atRest
    · exact h.setAxis.setBit
    · exact h

theorem Dev.memWf.execAxisLimit {axis} (h : d.memWf) : (d.viaRow (execAxisLimit axis)).memWf :=
  memWf_viaRow (fun _ => rfl) h.axisFault

theorem Dev.memWf.execAsbCycle {bus time} (h : d.memWf) : (d.viaRow (execAsbCycle bus time)).memWf :=
  memWf_viaRow (fun _ => rfl) (memWf_ite h.at h.at.serveBus)

theorem Dev.memWf.badUpWord {a} (h : d.memWf) : (d.badUpWord a).memWf := memWf_ite h.setAxis.axisFault h.setAxis

theorem Dev.memWf.execAsbUpWord {axis word} (h : d.memWf) : (d.viaRow (execAsbUpWord axis word)).memWf :=
  memWf_viaRow (fun _ => rfl) <| by
    dsimp only
    split
    · exact h.badUpWord
    · exact memWf_ite h.count.badUpWord (memWf_ite h.setAxis.put.setFld h.setAxis.put.setFld.axisFault)

theorem Dev.memWf.execAxisRestHold {axis} (h : d.memWf) : (d.viaRow (execAxisRestHold axis)).memWf :=
  memWf_viaRow (fun _ => rfl) (memWf_ite h.setAxis h)

/-! ### Commands of web position (R53 to R87) -/

theorem Dev.memWf.countSame {i stamp} (h : d.memWf) : (d.countSame i stamp).memWf := h.putInt.setEnc
theorem Dev.memWf.countTurn {i} (h : d.memWf) : (d.countTurn i).memWf := h.setBit.setEnc

theorem Dev.memWf.checkReversal {i} (h : d.memWf) : (d.checkReversal i).memWf := by
  unfold Dev.checkReversal
  dsimp only
  split
  · exact memWf_ite h.abortPass h
  · exact h

theorem Dev.memWf.countEdge {i stamp reverse} (h : d.memWf) : (d.countEdge i stamp reverse).memWf :=
  memWf_ite h.setFld.setEnc.countSame.checkSilent.crossCheck h.setFld.setEnc.countTurn.checkSilent.checkReversal

theorem Dev.memWf.latchZ {i} (h : d.memWf) : (d.latchZ i).memWf := (memWf_ite h.setBit h).putInt.setEnc

theorem Dev.memWf.afterFires {was} (h : d.memWf) : (d.afterFires was).memWf := by
  unfold Dev.afterFires
  split
  · exact memWf_ite h.spoilDead.settleHolds h
  · exact h

theorem Dev.memWf.edgeDone {wasValid} (h : d.memWf) : (d.edgeDone wasValid).memWf := by
  unfold Dev.edgeDone
  exact (memWf_ite h.noteSpeed.skipPassed h.noteSpeed).positionMoved.repeatOut.afterFires

theorem Dev.memWf.execEncEdgeQualified {input a b z stamp} (h : d.memWf) :
    (d.viaRow (execEncEdgeQualified input a b z stamp)).memWf :=
  memWf_viaRow (fun _ => rfl) <|
    have h1 := memWf_ite h.at.setEnc (memWf_ite h.at.setEnc.count.loseInput h.at.setEnc.countEdge)
    (memWf_ite h1.latchZ h1).edgeDone

theorem Dev.memWf.execEncGlitch {input time} (h : d.memWf) : (d.viaRow (execEncGlitch input time)).memWf :=
  memWf_viaRow (fun _ => rfl) (memWf_ite h.at.count.setEnc.loseInput.edgeDone h.at.count.setEnc)

theorem Dev.memWf.noteWire {i} (h : d.memWf) : (d.noteWire i).memWf := h.setBit

theorem Dev.memWf.execEncWireFault {input pair} (h : d.memWf) : (d.viaRow (execEncWireFault input pair)).memWf :=
  memWf_viaRow (fun _ => rfl) h.count.setEnc.noteWire

theorem Dev.memWf.execEncWireClear {input pair level} (h : d.memWf) :
    (d.viaRow (execEncWireClear input pair level)).memWf :=
  memWf_viaRow (fun _ => rfl) h.setEnc.noteWire.repeatOut

theorem Dev.memWf.execWireLostTimeout {input time} (h : d.memWf) : (d.viaRow (execWireLostTimeout input time)).memWf :=
  memWf_viaRow (fun _ => rfl) (memWf_ite h.at.loseInput.edgeDone h.at)

theorem Dev.memWf.execDeadReckoningEnd {time} (h : d.memWf) : (d.viaRow (execDeadReckoningEnd time)).memWf :=
  memWf_viaRow (fun _ => rfl) h.at.deadReckonEnd.repeatOut

theorem Dev.memWf.execInputReturn {input} (h : d.memWf) : (d.viaRow (execInputReturn input)).memWf :=
  memWf_viaRow (fun _ => rfl) h.returnInput.repeatOut

theorem Dev.memWf.execStandstill {input time} (h : d.memWf) : (d.viaRow (execStandstill input time)).memWf :=
  memWf_viaRow (fun _ => rfl) h.at.setEnc.noteSpeed

theorem Dev.memWf.execFireCommit (h : d.memWf) : (d.viaRow execFireCommit).memWf :=
  memWf_viaRow (fun _ => rfl) (memWf_ite h h.scheduledFire.lineMoved.afterFires)

theorem Dev.memWf.execOverspeedRelease {time} (h : d.memWf) : (d.viaRow (execOverspeedRelease time)).memWf :=
  memWf_viaRow (fun _ => rfl) h.at.setBit.speedFree

theorem Dev.memWf.execFiringEnd {time} (h : d.memWf) : (d.viaRow (execFiringEnd time)).memWf :=
  memWf_viaRow (fun _ => rfl) h.at.noteFiring

theorem Dev.memWf.fireEnable (h : d.memWf) : d.fireEnable.memWf :=
  h.setBit.setBit.setFld.stopFree.setBit.alignOther.clearBatches.update.setBind.seekRows.notePass.joinWaiting.mirrorBind

theorem Dev.memWf.execFireEn {req} (h : d.memWf) : (d.viaRow (execFireEn req)).memWf :=
  memWf_viaRow (fun _ => rfl) <| by
    split
    · exact h.refuse
    · exact memWf_ite h h.fireEnable

theorem Dev.memWf.execFireDisable {req} (h : d.memWf) : (d.viaRow (execFireDisable req)).memWf :=
  memWf_viaRow (fun _ => rfl) (memWf_ite h.refuse (memWf_ite h.stopFiring h))

theorem Dev.memWf.execStopClr (h : d.memWf) : (d.viaRow execStopClr).memWf :=
  memWf_viaRow (fun _ => rfl) (memWf_ite h h.setFld.stopFree)

theorem Dev.memWf.execZero {req} (h : d.memWf) : (d.viaRow (execZero req)).memWf :=
  memWf_viaRow (fun _ => rfl) (memWf_ite h.refuse h.alignTo.update.noteTrack.mirrorBind)

theorem Dev.memWf.execCal {req} (h : d.memWf) : (d.viaRow (execCal req)).memWf :=
  memWf_viaRow (fun _ => rfl) (memWf_ite h.refuse (h.update.setBit.each fun _ _ ho => ho.startEcho))

theorem Dev.memWf.execCalDone (h : d.memWf) : (d.viaRow execCalDone).memWf :=
  memWf_viaRow (fun _ => rfl) (memWf_ite (h.each fun _ _ ho => ho.echoDone).update.setBit.event h)

theorem Dev.memWf.execPdRefreshDone {port} (h : d.memWf) : (d.viaRow (execPdRefreshDone port)).memWf :=
  memWf_viaRow (fun _ => rfl) <| by
    dsimp only
    split
    · exact h.echoDone.autoRejoin
    · exact h.echoDone
    · exact h

theorem Dev.memWf.execPortDelayWrite {req port pd} (h : d.memWf) : (d.viaRow (execPortDelayWrite req port pd)).memWf :=
  memWf_viaRow (fun _ => rfl) (memWf_ite h.refuse h.storePd.maskUnfit)

theorem Dev.memWf.execPassArm {req} (h : d.memWf) : (d.viaRow (execPassArm req)).memWf :=
  memWf_viaRow (fun _ => rfl) <|
    memWf_ite h.refuse (memWf_ite h.put.lockPass.startPass h.put.lockPass.update.notePass).mirrorBind

/-! ### Fuses and the event log (R445 to R458) -/

theorem Dev.memWf.secNote (h : d.memWf) : d.secNote.memWf := h.setFld.setFld.setFld.setFld.setFld.setFld.setBit.put
theorem Dev.memWf.secLast {e} (h : d.memWf) : (d.secLast e).memWf := h.put
theorem Dev.memWf.secRefuse {req e} (h : d.memWf) : (d.secRefuse req e).memWf := h.secLast.refuse

theorem Dev.memWf.secAction {req f} (h : d.memWf) (hf : ∀ e, e.memWf → (f e).memWf) : (d.secAction req f).memWf :=
  memWf_ite h.refuse (hf _ h)

theorem Dev.memWf.startBurn {req vpp b} (h : d.memWf) : (d.startBurn req vpp b).memWf :=
  memWf_ite h.setBit.secRefuse h.setBit.update

theorem Dev.memWf.burned {b} (h : d.memWf) : (d.burned b).memWf := h.update.secNote
theorem Dev.memWf.sendCeiling (h : d.memWf) : d.sendCeiling.memWf := h.each fun _ _ ho => ho.sendCapset

/-! ### Cold reset, start-up and restart (R356, R357, R460 to R467) -/

theorem Dev.memWf.pinsOf {old} (h : d.memWf) : (d.pinsOf old).memWf := h.setFld.setFld.setFld.put.update

/-- A cold reset clears DRAM and keeps the array. -/
theorem Dev.memWf.reset_keptOf (h : d.memWf) : (Dev.reset.keptOf d).memWf := ⟨rfl, h.nva⟩

theorem Dev.memWf.cold {cause} (h : d.memWf) : (d.cold cause).memWf := h.reset_keptOf.pinsOf.secNote.put
theorem Dev.memWf.toStage {k} (h : d.memWf) : (d.toStage k).memWf := h.put
theorem Dev.memWf.stageFails {e} (h : d.memWf) : (d.stageFails e).memWf := h.setBit.setFld.raise
theorem Dev.memWf.clockLocked (h : d.memWf) : d.clockLocked.memWf := (h.setBit.each fun _ _ ho => ho.setBit).toStage

theorem Dev.memWf.settleBurn {burned} (h : d.memWf) : (d.settleBurn burned).memWf := by
  unfold Dev.settleBurn
  dsimp only
  split
  · exact h
  · exact memWf_ite h.burned h.update

theorem Dev.memWf.lifeErase (h : d.memWf) : d.lifeErase.memWf :=
  ⟨h.dram, Mem.zero_wf _ _ (Mem.zero_wf _ _ (Mem.zero_wf _ _ (Mem.foldl_zero_wf h.nva)))⟩

theorem Dev.memWf.stageFuse {burned} (h : d.memWf) : (d.stageFuse burned).memWf :=
  (memWf_ite h.settleBurn.secNote h.settleBurn.secNote.lifeErase).update.toStage

theorem Dev.memWf.runFirmware {slot svn root} (h : d.memWf) : (d.runFirmware slot svn root).memWf :=
  (h.setFld.setFld.put.each fun _ _ ho => ho.send).toStage

theorem Dev.memWf.stageBoot (h : d.memWf) : d.stageBoot.memWf := by
  unfold Dev.stageBoot
  dsimp only
  split
  · exact h.send.toStage
  · split
    · exact memWf_ite h.runFirmware h.runFirmware
    · exact h.runFirmware
    · exact h.runFirmware
    · exact h.stageFails.put

theorem Dev.memWf.loadStore (h : d.memWf) : d.loadStore.memWf := h.foldl fun _ _ ho => memWf_ite ho ho.update.loadDone

theorem Dev.memWf.putSome {r v} (h : d.memWf) : (d.putSome r v).memWf := by
  unfold Dev.putSome
  split
  · exact h.put
  · exact h

theorem Dev.memWf.takeConfig {c} (h : d.memWf) : (d.takeConfig c).memWf :=
  h.put.putSome.putSome.putSome.putSome.each fun _ _ ho => ho.each fun _ _ ho2 => ho2.setBit

theorem Dev.memWf.trainGroup {trained eyes g} (h : d.memWf) : (d.trainGroup trained eyes g).memWf :=
  have h1 := h.each fun _ _ ho => ho.put
  memWf_ite h1.update.setBit (h1.each fun _ _ ho => ho.raise).event.groupOffline.update

theorem Dev.memWf.toImage (h : d.memWf) : d.toImage.memWf := by
  unfold Dev.toImage
  dsimp only
  split
  · exact h.toStage
  · exact memWf_ite h.toStage.put.raise h.toStage.activateStop

theorem Dev.memWf.stageDram {config trained eyes} (h : d.memWf) : (d.stageDram config trained eyes).memWf := by
  unfold Dev.stageDram
  dsimp only
  split
  · exact h.loadStore.raise.toImage
  · exact (h.loadStore.takeConfig.each fun _ _ ho => ho.trainGroup).toStage

theorem Dev.memWf.stageZero (h : d.memWf) : d.stageZero.memWf := ((h.withDram (m := []) rfl).update (dmc := _)).toImage

theorem Dev.memWf.restoreSlot {s anew k} (h : d.memWf) : (d.restoreSlot s anew k).memWf :=
  have h1 := (h.foldl fun _ _ ho => ho.wr).setBit.put.put.setCtx
  (memWf_ite h1 h1.takeUnits).put

theorem Dev.memWf.noteGeneration {x} (h : d.memWf) : (d.noteGeneration x).memWf := by
  unfold Dev.noteGeneration
  dsimp only
  split
  · exact h.setCtx
  · exact h

theorem Dev.memWf.retireSlots (h : d.memWf) : d.retireSlots.memWf := h.each fun _ _ ho => memWf_ite ho.setFld ho

theorem Dev.memWf.restoreContextsOf {s anew events} (h : d.memWf) : (d.restoreContextsOf s anew events).memWf := by
  unfold Dev.restoreContextsOf
  extract_lets ks dp stored ctx0 d0 d1 regions cmp2 d2 d3
  have h0 : d0.memWf := h.put.foldl fun _ _ ho => ho.setCtx
  have h1 : d1.memWf := (h0.each fun _ _ ho => ho.restoreSlot).foldl fun _ _ ho => ho.noteGeneration
  have h3 : d3.memWf := h1.update.foldl fun _ _ ho => ho.takeUnits
  exact (h3.each fun _ _ ho => ho.countRegions).retireSlots.noteContexts

theorem Dev.memWf.restorePort {s synFrom n} (h : d.memWf) : (d.restorePort s synFrom n).memWf :=
  have h1 := h.setSyn.foldl fun _ _ ho => ho.each fun _ _ ho2 => ho2.wr
  memWf_ite h1.setPort.setBit.event h1.setPort.setBit.setBit.refreshEvent

theorem Dev.memWf.restorePosition {s} (h : d.memWf) : (d.restorePosition s).memWf :=
  ((h.each fun _ _ ho => ho.wr).each fun _ _ ho => ho.setEnc).wr.wr.notePass

theorem Dev.memWf.restoreFrames {s anew} (h : d.memWf) : (d.restoreFrames s anew).memWf :=
  h.each fun _ _ ho => ho.put.setPipe

theorem Dev.memWf.restoreFire {f} (h : d.memWf) : (d.restoreFire f).memWf :=
  memWf_ite h.put.update.raise.setFld.stopReq h.put

theorem Dev.memWf.replayHealth {x} (h : d.memWf) : (d.replayHealth x).memWf := by
  unfold Dev.replayHealth
  split
  · exact h.each fun _ _ ho => ho.foldMask
  · exact h

theorem Dev.memWf.tellRestored {fire} (h : d.memWf) : (d.tellRestored fire).memWf := h.each fun _ _ ho => ho.setCtx.tellDue

theorem Dev.memWf.restoreState {s synFrom anew events fire} (h : d.memWf) :
    (d.restoreState s synFrom anew events fire).memWf :=
  have h1 := h.restoreFire.restorePosition.restoreFrames.each fun _ _ ho => ho.restorePort
  (h1.foldl fun _ _ ho => ho.replayHealth).restoreContextsOf.tellRestored

theorem Dev.memWf.checkDigest {s} (h : d.memWf) : (d.checkDigest s).memWf := memWf_ite h h.update.refuse
theorem Dev.memWf.noteRestart {outcome s} (h : d.memWf) : (d.noteRestart outcome s).memWf := h.put.put.put

theorem Dev.memWf.restoreBreath {k s base} (h : d.memWf) : (d.restoreBreath k s base).memWf :=
  (memWf_ite h.restoreState.checkDigest.noteRestart.raise h.restoreState.checkDigest.noteRestart).update

theorem Dev.memWf.restoreCheckpoint {k s} (h : d.memWf) : (d.restoreCheckpoint k s).memWf :=
  h.restoreState.noteRestart.put.raise.update

theorem Dev.memWf.restore (h : d.memWf) : d.restore.memWf := by
  unfold Dev.restore
  dsimp only
  split
  · exact h
  · split
    · split
      · exact h.restoreCheckpoint
      · split
        · exact h.restoreBreath
        · split
          · exact memWf_ite h.restoreBreath (memWf_ite h h.restoreCheckpoint)
          · exact h
    · exact h

theorem Dev.memWf.stageRole {toggles record} (h : d.memWf) : (d.stageRole toggles record).memWf :=
  have h1 := memWf_ite h.setBit.update h.setBit
  (memWf_ite h1.setRole.setUnfit h1.setRole).toStage

end
end Sys2Proof.Machine
end

section
open Sys2Proof
namespace Sys2Proof.Machine
section
variable {d : Dev}

/-! ### Commands of power and Breath (R336 to R359) -/

theorem Dev.memWf.execBudgetEstimate {e tj left delta} (h : d.memWf) :
    (d.viaRow (execBudgetEstimate e tj left delta)).memWf :=
  memWf_viaRow (fun _ => rfl) <|
    have h1 := h.put.each fun _ _ ho => ho.put
    memWf_ite h1.setFld.setBit.thermalAct h1.setFld.setBit.thermalAct.noteDelta.retrainByTemp.schedule

theorem Dev.memWf.execSpeedHoldRelease (h : d.memWf) : (d.viaRow execSpeedHoldRelease).memWf :=
  memWf_viaRow (fun _ => rfl) h.speedFree.setBit

theorem Dev.memWf.execPowerOver (h : d.memWf) : (d.viaRow execPowerOver).memWf :=
  memWf_viaRow (fun _ => rfl) h.event.raise.speedReq.setBit

theorem Dev.memWf.execTaskDueCmd {task change next} (h : d.memWf) : (d.viaRow (execTaskDueCmd task change next)).memWf :=
  memWf_viaRow (fun _ => rfl) (memWf_ite h.taskDue.setBit h.taskDue)

theorem Dev.memWf.execTaskDeadlineMiss {task} (h : d.memWf) : (d.viaRow (execTaskDeadlineMiss task)).memWf :=
  memWf_viaRow (fun _ => rfl) (memWf_ite h h.count.setTask.event.raise)

theorem Dev.memWf.execTaskComplete {task} (h : d.memWf) : (d.viaRow (execTaskComplete task)).memWf :=
  memWf_viaRow (fun _ => rfl) (memWf_ite h.taskDone h)

theorem Dev.memWf.execCheckpointCommit {raw} (h : d.memWf) : (d.viaRow (execCheckpointCommit raw)).memWf :=
  memWf_viaRow (fun _ => rfl) (memWf_ite h (memWf_ite h.checkpoint.update (memWf_ite h.checkpoint.taskDone h)))

theorem Dev.memWf.execJournalWrite (h : d.memWf) : (d.viaRow execJournalWrite).memWf :=
  memWf_viaRow (fun _ => rfl) h.journalWrite

theorem Dev.memWf.execCkptNow (h : d.memWf) : (d.viaRow execCkptNow).memWf :=
  memWf_viaRow (fun _ => rfl) h.taskDue.setBit

theorem Dev.memWf.execDroneEnWrite {on} (h : d.memWf) : (d.viaRow (execDroneEnWrite on)).memWf :=
  memWf_viaRow (fun _ => rfl) h.setBit

theorem Dev.memWf.execPfGlitch (h : d.memWf) : (d.viaRow execPfGlitch).memWf :=
  memWf_viaRow (fun _ => rfl) h.count

theorem Dev.memWf.execBreathStart (h : d.memWf) : (d.viaRow execBreathStart).memWf :=
  memWf_viaRow (fun _ => rfl) (memWf_ite h.setBit.shed h.setBit)

theorem Dev.memWf.execSupplyTrip {rail} (h : d.memWf) : (d.viaRow (execSupplyTrip rail)).memWf :=
  memWf_viaRow (fun _ => rfl) <|
    memWf_ite h.event.raise.shed (memWf_ite h.event.raise.update (memWf_ite h.event.raise.save h.event.raise))

theorem Dev.memWf.execShedDone (h : d.memWf) : (d.viaRow execShedDone).memWf :=
  memWf_viaRow (fun _ => rfl) (memWf_ite h (memWf_ite h.save h.setBreath))

theorem Dev.memWf.execHoldExpire (h : d.memWf) : (d.viaRow execHoldExpire).memWf :=
  memWf_viaRow (fun _ => rfl) (memWf_ite h.save h)

theorem Dev.memWf.execPfRecover (h : d.memWf) : (d.viaRow execPfRecover).memWf :=
  memWf_viaRow (fun _ => rfl) (memWf_ite h.setBit.resume h.setBit)

theorem Dev.memWf.execBreathCommit {parts part3} (h : d.memWf) : (d.viaRow (execBreathCommit parts part3)).memWf :=
  memWf_viaRow (fun _ => rfl) (memWf_ite h (memWf_ite h.breathCommit.cold h.breathCommit))

theorem Dev.memWf.execResumeComplete (h : d.memWf) : (d.viaRow execResumeComplete).memWf :=
  memWf_viaRow (fun _ => rfl) (memWf_ite h (memWf_ite h.resumed.shed h.resumed))

/-! ### Commands of reels and composition (R88 to R114) -/

theorem Dev.memWf.execRegionOpen {slot w} (h : d.memWf) : (d.viaRow (execRegionOpen slot w)).memWf :=
  memWf_viaRow (fun _ => rfl) (h.entry fun _ ho => ho.regionOpen)

theorem Dev.memWf.execRegionClose {slot w} (h : d.memWf) : (d.viaRow (execRegionClose slot w)).memWf :=
  memWf_viaRow (fun _ => rfl) (h.entry fun _ ho => ho.regionClose)

theorem Dev.memWf.blockSubmit {s w data} (h : d.memWf) : (d.blockSubmit s w data).memWf := by
  unfold Dev.blockSubmit
  dsimp only
  split
  · exact h.entryErr
  · split
    · exact h.entryErr
    · split
      · exact h.entryErr
      · split
        · exact h.entryErr
        · split
          · exact h.entryErr
          · split
            · exact h.entryErr
            · exact h.setRegion.update

theorem Dev.memWf.execBlock {slot w data} (h : d.memWf) : (d.viaRow (execBlock slot w data)).memWf :=
  memWf_viaRow (fun _ => rfl) (h.entry fun _ ho => ho.blockSubmit)

theorem Dev.memWf.fmtError {reason slot} (h : d.memWf) : (d.fmtError reason slot).memWf := h.put.count

theorem Dev.memWf.ingestDone {i} (h : d.memWf) : (d.ingestDone i).memWf := by
  unfold Dev.ingestDone
  dsimp only
  split
  · exact h
  · split
    · exact h.update.ingestFail
    · split
      · exact memWf_ite h.update.count.fmtError.ingestFail h.update.count.ingestFail
      · exact memWf_ite h.update.ingestMirror h.update.ingestStore

theorem Dev.memWf.execIngestCheckDone {job} (h : d.memWf) : (d.viaRow (execIngestCheckDone job)).memWf :=
  memWf_viaRow (fun _ => rfl) h.ingestDone

theorem Dev.memWf.fetchBlock {region strip first sibling o} (h : d.memWf) :
    (d.fetchBlock region strip first sibling o).memWf := by
  unfold Dev.fetchBlock
  dsimp only
  split
  · exact h
  · split
    · exact h
    · split
      · exact h
      · split
        · exact h.storeCopy
        · split
          · exact (memWf_ite h h.accessErr).setRegion.spoil.event.raise.storeCopy.update
          · exact (memWf_ite h h.accessErr).setRegion.spoil.event.raise.storeCopy.afterRetire
          · exact (memWf_ite h h.accessErr).setRegion.spoil
          · exact memWf_ite (memWf_ite h h.accessErr) (memWf_ite h h.accessErr).update.storeCopy

theorem Dev.memWf.execBlockFetch {region strip first sibling outcome} (h : d.memWf) :
    (d.viaRow (execBlockFetch region strip first sibling outcome)).memWf :=
  memWf_viaRow (fun _ => rfl) h.fetchBlock.fillRows

theorem Dev.memWf.execSeekDone {port row} (h : d.memWf) : (d.viaRow (execSeekDone port row)).memWf :=
  memWf_viaRow (fun _ => rfl) h.setRowBuf.setBit.fillRow

theorem Dev.memWf.execCmpLeadLinesWrite {req value} (h : d.memWf) : (d.viaRow (execCmpLeadLinesWrite req value)).memWf :=
  memWf_viaRow (fun _ => rfl) (memWf_ite h.put.lockAhead h.put)

/-! ### Commands of security and life cycle (R445 to R459) -/

theorem Dev.memWf.execKeyLock {req} (h : d.memWf) : (d.viaRow (execKeyLock req)).memWf :=
  memWf_viaRow (fun _ => rfl) (h.secAction fun _ ho => ho.setBit.secLast)

theorem Dev.memWf.execVceilDown {req vpp} (h : d.memWf) : (d.viaRow (execVceilDown req vpp)).memWf :=
  memWf_viaRow (fun _ => rfl) (h.secAction fun _ ho => memWf_ite ho.secRefuse ho.startBurn)

theorem Dev.memWf.execFloorUp {req vpp} (h : d.memWf) : (d.viaRow (execFloorUp req vpp)).memWf :=
  memWf_viaRow (fun _ => rfl) (h.secAction fun _ ho => memWf_ite ho.secRefuse (memWf_ite ho.secRefuse ho.startBurn))

theorem Dev.memWf.execRevoke {req vpp} (h : d.memWf) : (d.viaRow (execRevoke req vpp)).memWf :=
  memWf_viaRow (fun _ => rfl) (h.secAction fun _ ho => memWf_ite ho.secRefuse ho.startBurn)

theorem Dev.memWf.execRootProg {req vpp} (h : d.memWf) : (d.viaRow (execRootProg req vpp)).memWf :=
  memWf_viaRow (fun _ => rfl) (h.secAction fun _ ho => memWf_ite ho.secRefuse (memWf_ite ho.secRefuse ho.startBurn))

theorem Dev.memWf.execKeyInstall {req root signature} (h : d.memWf) :
    (d.viaRow (execKeyInstall req root signature)).memWf :=
  memWf_viaRow (fun _ => rfl) <|
    h.secAction fun _ ho =>
      memWf_ite ho.secRefuse <| by
        split
        · exact ho.secRefuse
        · exact ho.update.secLast

theorem Dev.memWf.execLcGo {req vpp} (h : d.memWf) : (d.viaRow (execLcGo req vpp)).memWf :=
  memWf_viaRow (fun _ => rfl) (h.secAction fun _ ho => memWf_ite ho.secRefuse (memWf_ite ho.secRefuse ho.startBurn))

theorem Dev.memWf.execFuseBurnDone (h : d.memWf) : (d.viaRow execFuseBurnDone).memWf :=
  memWf_viaRow (fun _ => rfl) <| by
    split
    · exact h
    · split
      · exact h.burned.secLast.sendCeiling
      · exact h.burned.secLast.cold
      · exact h.burned.secLast

theorem Dev.memWf.execDebugRequest {kind} (h : d.memWf) : (d.viaRow (execDebugRequest kind)).memWf :=
  memWf_viaRow (fun _ => rfl) (memWf_ite h.send h.send.refuse)

/-! ### Commands of reset and start-up (R460 to R467, R486) -/

theorem Dev.memWf.keyed {req key f} (h : d.memWf) (hf : ∀ e, e.memWf → (f e).memWf) : (d.keyed req key f).memWf :=
  memWf_ite (hf _ h) h.refuse

theorem Dev.memWf.execGlbResetCold {req key} (h : d.memWf) : (d.viaRow (execGlbResetCold req key)).memWf :=
  memWf_viaRow (fun _ => rfl) (h.keyed fun _ ho => ho.cold)

theorem Dev.memWf.execGlbResetMgmt {req key} (h : d.memWf) : (d.viaRow (execGlbResetMgmt req key)).memWf :=
  memWf_viaRow (fun _ => rfl) (h.keyed fun _ ho => ho.each fun _ _ ho2 => ho2.coreReset)

theorem Dev.memWf.execGlbResetCore {req key cores} (h : d.memWf) : (d.viaRow (execGlbResetCore req key cores)).memWf :=
  memWf_viaRow (fun _ => rfl) (h.keyed fun _ ho => ho.each fun _ _ ho2 => ho2.coreReset.count.irqPulse.raise)

theorem Dev.memWf.execPorzAssert (h : d.memWf) : (d.viaRow execPorzAssert).memWf :=
  memWf_viaRow (fun _ => rfl) (memWf_ite h.update.save (memWf_ite h.update h.update.cold))

theorem Dev.memWf.execStartupBegin {pairId io33} (h : d.memWf) : (d.viaRow (execStartupBegin pairId io33)).memWf :=
  memWf_viaRow (fun _ => rfl) (memWf_ite h h.update.setBit.setBit)

theorem Dev.memWf.endStage {x} (h : d.memWf) : (d.endStage x).memWf := by
  unfold Dev.endStage
  split
  · exact memWf_ite h.clockLocked h.stageFails
  · exact h.stageFuse
  · exact h.toStage
  · exact h.stageBoot
  · exact h.setBit.toStage
  · exact h.stageDram
  · exact h.stageZero
  · exact h.toStage
  · exact h.restore.toStage
  · exact h.stageRole

theorem Dev.memWf.execStartupStageDone {done} (h : d.memWf) : (d.viaRow (execStartupStageDone done)).memWf :=
  memWf_viaRow (fun _ => rfl) (memWf_ite h h.endStage)

theorem Dev.memWf.execClockRetry {locked} (h : d.memWf) : (d.viaRow (execClockRetry locked)).memWf :=
  memWf_viaRow (fun _ => rfl) (memWf_ite h.clockLocked h)

theorem Dev.memWf.execEthrefLost (h : d.memWf) : (d.viaRow execEthrefLost).memWf :=
  memWf_viaRow (fun _ => rfl) <|
    have h1 := h.raise.stopByOther.stopReq.update.setBit.update.each fun _ _ ho => ho.setBit
    h1.each fun _ _ ho => ho.groupDown.lanesOff

theorem Dev.memWf.execPcierefLost (h : d.memWf) : (d.viaRow execPcierefLost).memWf :=
  memWf_viaRow (fun _ => rfl) h.pciReset.raise.setBit.setBit

theorem Dev.memWf.execSysrefLost (h : d.memWf) : (d.viaRow execSysrefLost).memWf :=
  memWf_viaRow (fun _ => rfl) <|
    have h1 := h.each fun _ _ ho => ho.groupOffline.raise.each fun _ _ ho2 => ho2.drainChannel
    memWf_ite h1 h1.event.dramGone

theorem Dev.memWf.tear {bank} (h : d.memWf) : (d.tear bank).memWf := by
  unfold Dev.tear
  split
  · exact h
  · exact h.each fun _ _ ho => (ho.withNva (Mem.write_wf _ _ ho.nva)).drawn

theorem Dev.memWf.execAonBrownout {torn} (h : d.memWf) : (d.viaRow (execAonBrownout torn)).memWf :=
  memWf_viaRow (fun _ => rfl) <|
    .cold <| by
      split
      · exact h.tear
      · exact h

theorem Dev.memWf.execPgStable (h : d.memWf) : (d.viaRow execPgStable).memWf :=
  memWf_viaRow (fun _ => rfl) (memWf_ite h.setBit.cold h.setBit)

theorem Dev.memWf.execPgFall (h : d.memWf) : (d.viaRow execPgFall).memWf :=
  memWf_viaRow (fun _ => rfl) (memWf_ite h.setBit.cold h.setBit)

/-! ### Commands of tenants and rings (R264 to R289) -/

theorem Dev.memWf.tenantWrite {s fn f} (h : d.memWf) (hf : ∀ e, e.memWf → (f e).memWf) : (d.tenantWrite s fn f).memWf :=
  memWf_ite h.accessErr (memWf_ite h.raise (hf _ h))

theorem Dev.memWf.ringWrite {s entries} (h : d.memWf) : (d.ringWrite s entries).memWf := h.setCtx

theorem Dev.memWf.execSqTailDoorbell {slot fn value entries} (h : d.memWf) :
    (d.viaRow (execSqTailDoorbell slot fn value entries)).memWf :=
  memWf_viaRow (fun _ => rfl) (h.tenantWrite fun _ ho => ho.ringWrite.sqDoorbell)

theorem Dev.memWf.execCqHeadDoorbell {slot fn value} (h : d.memWf) : (d.viaRow (execCqHeadDoorbell slot fn value)).memWf :=
  memWf_viaRow (fun _ => rfl) (h.tenantWrite fun _ ho => ho.cqDoorbell)

theorem Dev.memWf.grantEntry {s w} (h : d.memWf) : (d.grantEntry s w).memWf := by
  unfold Dev.grantEntry
  dsimp only
  split
  · exact h.takeEntry.sqTake.entryErr
  · exact h.takeEntry.sqTake

theorem Dev.memWf.arbRound (h : d.memWf) : d.arbRound.memWf := memWf_ite h (h.each fun _ _ ho => ho.setCtx)

theorem Dev.memWf.arbiter {s e} (h : d.memWf) (he : d.arbiter s = some e) : e.memWf := by
  unfold Dev.arbiter at he
  dsimp only at he
  split at he
  · cases he
  · split at he
    · cases he
      exact h
    · split at he
      · cases he
      · split at he
        · cases he
        · cases he
          exact h.arbRound.setCtx

theorem Dev.memWf.execRingGrant {slot} (h : d.memWf) : (d.viaRow (execRingGrant slot)).memWf :=
  memWf_viaRow (fun _ => rfl) <| by
    dsimp only
    split
    next => exact h
    next _ he =>
      exact memWf_ite (.xptSend ((h.arbiter he).foldl fun _ _ ho => ho.grantEntry))
        ((h.arbiter he).foldl fun _ _ ho => ho.grantEntry)

theorem Dev.memWf.execNop {slot w} (h : d.memWf) : (d.viaRow (execNop slot w)).memWf :=
  memWf_viaRow (fun _ => rfl) (h.entry fun _ ho => ho.entryOk)

theorem Dev.memWf.execAcctRead {slot w} (h : d.memWf) : (d.viaRow (execAcctRead slot w)).memWf :=
  memWf_viaRow (fun _ => rfl) (h.entry fun _ ho => ho.entryOk)

theorem Dev.memWf.ctxEntry {s opcode w f} (h : d.memWf) (hf : ∀ e, e.memWf → (f e).memWf) :
    (d.ctxEntry s opcode w f).memWf :=
  h.entry fun _ ho => memWf_ite ho.entryErr (hf _ ho)

theorem Dev.memWf.openPage {k w} (h : d.memWf) : (d.openPage k w).memWf := h.clearPage.put.put.put.put.put.takeUnits
theorem Dev.memWf.ctxRefused {s w e} (h : d.memWf) : (d.ctxRefused s w e).memWf := (memWf_ite h.count.event h).entryErr

theorem Dev.memWf.ctxOpen {s w} (h : d.memWf) : (d.ctxOpen s w).memWf := by
  unfold Dev.ctxOpen
  dsimp only
  split
  · exact h.entryErr
  · split
    · exact h.ctxRefused
    · split
      · exact h.ctxRefused
      · split
        · exact h.entryErr
        · split
          · exact h.entryErr
          · exact memWf_ite h.entryErr h.setCtx.openPage.setBit.contextChanged.entryOk

theorem Dev.memWf.execCtxOpen {slot w} (h : d.memWf) : (d.viaRow (execCtxOpen slot w)).memWf :=
  memWf_viaRow (fun _ => rfl) (h.ctxEntry fun _ ho => ho.ctxOpen)

theorem Dev.memWf.handleEntry {s w owner f} (h : d.memWf) (hf : ∀ e k, e.memWf → (f e k).memWf) :
    (d.handleEntry s w owner f).memWf := by
  unfold Dev.handleEntry
  split
  · exact h.entryErr
  · exact memWf_ite h.entryErr (memWf_ite h.entryErr (hf _ _ h))

theorem Dev.memWf.execCtxClose {slot w} (h : d.memWf) : (d.viaRow (execCtxClose slot w)).memWf :=
  memWf_viaRow (fun _ => rfl) (h.ctxEntry fun _ ho => ho.handleEntry fun _ _ ho2 => ho2.closeContext.contextChanged.entryOk)

theorem Dev.memWf.execCtxPark {slot w} (h : d.memWf) : (d.viaRow (execCtxPark slot w)).memWf :=
  memWf_viaRow (fun _ => rfl) <|
    h.ctxEntry fun _ ho =>
      ho.handleEntry fun _ _ ho2 =>
        memWf_ite ho2.entryErr <| by
          split
          · exact ho2.entryErr
          · exact ho2.setCtx.cueRequest

theorem Dev.memWf.execCtxActivate {slot w} (h : d.memWf) : (d.viaRow (execCtxActivate slot w)).memWf :=
  memWf_viaRow (fun _ => rfl) <|
    h.ctxEntry fun _ ho => by
      dsimp only
      split
      · exact ho.ctxRefused
      · split
        · exact ho.entryErr
        · exact memWf_ite ho.ctxRefused <|
            memWf_ite ho.entryErr (memWf_ite ho.entryErr (memWf_ite ho.entryErr ho.cueRequest))

theorem Dev.memWf.execCtxQuota {slot w} (h : d.memWf) : (d.viaRow (execCtxQuota slot w)).memWf :=
  memWf_viaRow (fun _ => rfl) <|
    h.ctxEntry fun _ ho =>
      ho.handleEntry fun _ _ ho2 => memWf_ite ho2.entryErr ho2.put.setFld.put.setBit.contextChanged.entryOk

theorem Dev.memWf.execCtxZeroDone {slot} (h : d.memWf) : (d.viaRow (execCtxZeroDone slot)).memWf :=
  memWf_viaRow (fun _ => rfl) <| by
    dsimp only
    split
    · exact h
    · exact memWf_ite (memWf_ite h.update h.update.put).freeSlot.noteContexts.mirrorCtx.event.ctxEvent <|
        memWf_ite h.update h.update.put

theorem Dev.memWf.execHostCqWriteFail {slot} (h : d.memWf) : (d.viaRow (execHostCqWriteFail slot)).memWf :=
  memWf_viaRow (fun _ => rfl) h.setCtx.count.ctxEvent.event.raise

/-! ### Register accesses with rows of their own (R5 to R7) -/

theorem Dev.memWf.imgCommands {q v} (h : d.memWf) : (d.imgCommands q v).memWf :=
  h.viaBit (·.execLoad) |>.viaBit (·.execArmHot) |>.viaBit (·.execActStop) |>.viaBit (·.execDisarm)
    |>.viaBit (·.execDiscard) |>.viaBit (·.execPersist)

theorem Dev.memWf.posCommands {q v} (h : d.memWf) : (d.posCommands q v).memWf :=
  have hfire : (d.viaRow (if bitOf v 0 then Machine.execFireEn q else Machine.execFireDisable q)).memWf := by
    split
    · exact h.execFireEn
    · exact h.execFireDisable
  (memWf_ite h hfire).viaBit (·.execStopClr) |>.viaBit (·.execZero) |>.viaBit (·.execCal) |>.viaBit (·.execPassArm)

theorem Dev.memWf.secCommands {q v x} (h : d.memWf) : (d.secCommands q v x).memWf :=
  h.viaBit (·.execLcGo) |>.viaBit (·.execKeyInstall) |>.viaBit (·.execRootProg) |>.viaBit (·.execRevoke)
    |>.viaBit (·.execFloorUp) |>.viaBit (·.execVceilDown) |>.viaBit (·.execKeyLock)

theorem Dev.memWf.synCommands {q n v} (h : d.memWf) : (d.synCommands q n v).memWf :=
  memWf_ite h.execTableReadyWrite.execAbort (h.execTableReadyWrite.viaBit (·.execCommit))

theorem Dev.memWf.axisCommands {q a v} (h : d.memWf) : (d.axisCommands q a v).memWf :=
  h.viaBit (·.execAxisAbort) |>.viaBit (·.execAxisPush) |>.viaBit (·.execAxisHalt) |>.viaBit (·.execAxisHome)

theorem Dev.memWf.ptnCommands {v} (h : d.memWf) : (d.ptnCommands v).memWf :=
  (memWf_ite h h.execPairEnWrite).viaBit (·.execPtnSurrender) |>.viaBit (·.execResync) |>.viaBit (·.execForceRemove)

theorem Dev.memWf.resetCommands {q v} (h : d.memWf) : (d.resetCommands q v).memWf :=
  memWf_ite h.execGlbResetCold (h.viaBit (·.execGlbResetMgmt)).execGlbResetCore

theorem Dev.memWf.doorbell {a k o} (h : d.memWf) (ho : ∀ fn, (d.viaRow (o fn)).memWf) : (d.doorbell a k o).memWf := by
  unfold Dev.doorbell
  split
  · exact h.accessErr
  · exact ho _
  · exact ho _

theorem Dev.memWf.ownWrite {a r k high v x} (h : d.memWf) : (d.ownWrite a r k high v x).memWf := by
  unfold Dev.ownWrite
  dsimp only
  split
  · exact h.resetCommands
  · exact h.execKick
  · exact h.posCommands
  · exact h.execPortDelayWrite
  · exact h.execIrqMaskSet
  · exact h.execIrqMaskClr
  · exact h.execIrqPendSet
  · exact h.execIrqPendClr
  · exact h.execDroneEnWrite.viaBit (·.execCkptNow)
  · exact h.ptnCommands
  · exact h.viaBit (·.execLoopResume)
  · exact h.execLoopSpWrite
  · exact h.axisCommands
  · exact h.execCtlRcDataAccess
  · exact h.secCommands
  · exact memWf_ite h.execCalCtrlRun h.put
  · exact (h.viaBit (·.execTsuStep)).viaBit (·.execTsuSet)
  · exact h.execTsuIncWrite
  · exact h.execCueAbort
  · exact h.execCueQuery
  · exact ((h.viaBit (·.execGo)).viaBit (·.execLeave)).viaBit (·.execRelink)
  · exact h.synCommands
  · exact h.execNztWrite
  · exact h.execNztWrite
  · exact h.execNztWrite
  · exact h.execNztWrite
  · exact h.execNztWrite
  · exact h.execNztWrite
  · exact h.execHealthGo
  · exact h.viaBit (·.execGoAll)
  · exact h.viaBit (·.execRetire)
  · exact (h.execInsRunWrite.viaBit (·.execInsClose)).viaBit (·.execInsRelink)
  · exact h.execGtDataAccess
  · exact h.execInjCtrlWrite
  · exact h.viaBit (·.execScanNow)
  · exact h.viaBit (·.execGroupReset)
  · exact h.execDmcPrioWrite
  · exact h.execCmpLeadLinesWrite
  · exact h.execToutArm
  · exact h.doorbell fun _ => h.execSqTailDoorbell
  · exact h.doorbell fun _ => h.execCqHeadDoorbell
  · exact h

theorem Dev.memWf.besideWrite {a r k v x} (h : d.memWf) : (d.besideWrite a r k v x).memWf := by
  unfold Dev.besideWrite
  dsimp only
  split
  · exact h.imgCommands
  · exact h.viaBit (·.execInputReturn)
  · exact h.viaBit (·.execQlClear)
  · exact (h.viaBit (·.execLaneRetrain)).viaBit (·.execLaneRevive)
  · exact h.viaBit (·.execNvaOpGo)
  · exact h

theorem Dev.memWf.beforeStore {a r k v} (h : d.memWf) : (d.beforeStore a r k v).memWf := by
  unfold Dev.beforeStore
  split
  · exact memWf_ite h h.execLaneTest
  · exact h

theorem Dev.memWf.nztWord {a offset v} (h : d.memWf) : (d.nztWord a offset v).memWf := h.execNztWrite

theorem Dev.memWf.ownRead {a r k high} (h : d.memWf) : (d.ownRead a r k high).memWf := by
  unfold Dev.ownRead
  dsimp only
  split
  · exact h.execGtDataAccess
  · exact h.execCtlRcDataAccess
  · exact h.execClaim
  · exact h.execClaim
  · exact h.execClaim
  · exact h.execTxtsPop
  · exact h

/-! ### Register accesses (R5 to R8, R429) -/

theorem Dev.memWf.refuseAgent {a e place} (h : d.memWf) : (d.refuseAgent a e place).memWf := by
  unfold Dev.refuseAgent
  split
  · exact h.refuse
  · exact h.raise

theorem Dev.memWf.badAccess (h : d.memWf) : d.badAccess.memWf := h.count

theorem Dev.memWf.beforeWrite {r k v} (h : d.memWf) : (d.beforeWrite r k v).memWf :=
  memWf_ite (memWf_ite h.prbsStop.injStop.setLane h.prbsStop.injStop) h

theorem Dev.memWf.afterWrite {r k} (h : d.memWf) : (d.afterWrite r k).memWf := by
  unfold Dev.afterWrite
  dsimp only
  split
  · exact memWf_ite h.irqPend h
  · exact h.noteLoop
  · exact h.tellDue.postDone
  · exact memWf_ite h h.ethLink
  · exact h.refreshEvent

theorem Dev.memWf.storeReg {r k v} (h : d.memWf) : (d.storeReg r k v).memWf := h.beforeWrite.wr.afterWrite
theorem Dev.memWf.storeEp {a k v} (h : d.memWf) : (d.storeEp a k v).memWf := memWf_ite h.refuseAgent.storeReg h.storeReg

theorem Dev.memWf.writeBits {a r k high v edges} (h : d.memWf) : (d.writeBits a r k high v edges).memWf := by
  unfold Dev.writeBits
  split
  · exact h.refuseAgent
  · split
    · exact h.refuseAgent
    · exact memWf_ite h (memWf_ite h.storeEp h.storeReg)

theorem Dev.memWf.writeReg {a r k high v x} (h : d.memWf) : (d.writeReg a r k high v x).memWf :=
  memWf_ite h.ownWrite (memWf_ite h.besideWrite h.beforeStore.writeBits.besideWrite)

theorem Dev.memWf.writeWord {a addr v x} (h : d.memWf) : (d.writeWord a addr v x).memWf := by
  unfold Dev.writeWord
  split
  · exact h
  · split
    · exact h.accessErr
    · split
      · exact memWf_ite h.nztWord h.badAccess
      · split
        · split
          · exact memWf_ite h.writeReg h.accessErr
          · exact h.accessErr
        · exact h.writeReg

theorem Dev.memWf.execRegisterWrite {writer addr value wide aside} (h : d.memWf) :
    (d.viaRow (execRegisterWrite writer addr value wide aside)).memWf :=
  memWf_viaRow (fun _ => rfl) (memWf_ite h.badAccess (memWf_ite h.writeWord.writeWord h.writeWord))

theorem Dev.memWf.execBadAccess {requester read addr} (h : d.memWf) :
    (d.viaRow (execBadAccess requester read addr)).memWf :=
  memWf_viaRow (fun _ => rfl) (memWf_ite h.badAccess.send h.badAccess)

theorem Dev.memWf.latchWord {addr v} (h : d.memWf) : (d.latchWord addr v).memWf := h.update

theorem Dev.memWf.latchWith {r k} (h : d.memWf) : (d.latchWith r k).memWf := by
  unfold Dev.latchWith
  dsimp only
  split
  · exact (memWf_ite h.latchWord h).latchWord
  · exact (memWf_ite h.latchWord h).latchWord
  · exact memWf_ite (memWf_ite h.latchWord h).latchWord (memWf_ite h.latchWord h)
  · exact memWf_ite (memWf_ite h.latchWord h).latchWord.latchWord (memWf_ite h.latchWord h)
  · exact memWf_ite h.latchWord h

theorem Dev.memWf.readReg {a addr r k high} (h : d.memWf) : (d.readReg a addr r k high).memWf := by
  unfold Dev.readReg
  dsimp only
  split
  · exact h.send.update
  · exact (memWf_ite h h.latchWith).send

theorem Dev.memWf.readWord {a addr} (h : d.memWf) : (d.readWord a addr).memWf := by
  unfold Dev.readWord
  dsimp only
  split
  · exact h.send
  · split
    · exact h.accessErr.send
    · split
      · exact memWf_ite h.send h.badAccess.send
      · exact memWf_ite h.ownRead h.readReg

theorem Dev.memWf.execLowWordReadLatch {requester addr wide} (h : d.memWf) :
    (d.viaRow (execLowWordReadLatch requester addr wide)).memWf :=
  memWf_viaRow (fun _ => rfl) (memWf_ite h.badAccess.send (memWf_ite h.readWord.readWord h.readWord))

/-! ### Commands of the compressor units (R129 to R134) -/

theorem Dev.memWf.execCompressSymbols {unit symbols size} (h : d.memWf) :
    (d.viaRow (execCompressSymbols unit symbols size)).memWf :=
  memWf_viaRow (fun _ => rfl) <| by
    split
    · exact h
    · exact h.setUnit

theorem Dev.memWf.execCompressFlush {unit symbols size} (h : d.memWf) :
    (d.viaRow (execCompressFlush unit symbols size)).memWf :=
  memWf_viaRow (fun _ => rfl) <| by
    split
    · exact h
    · exact h.setUnit

theorem Dev.memWf.execSelfcheckDone {unit agree} (h : d.memWf) : (d.viaRow (execSelfcheckDone unit agree)).memWf :=
  memWf_viaRow (fun _ => rfl) <| by
    split
    · exact h
    · exact memWf_ite h.releaseBlock.uploadBlock h.selfcheckFail.uploadStops

/-! ### Every command, every step -/

/-- What a command's row makes of a controller. An operand that the meaning does not look at is named. -/
theorem Dev.memWf.viaRow_exec (c : Instr) (h : d.memWf) : (d.viaRow (exec c)).memWf := by
  cases c with
  | registerWrite => exact h.execRegisterWrite
  | badAccess => exact h.execBadAccess
  | lowWordReadLatch => exact h.execLowWordReadLatch
  | load => exact h.execLoad
  | imgLoadComplete => exact h.execImgLoadComplete
  | armHot => exact h.execArmHot
  | actStop => exact h.execActStop
  | disarm => exact h.execDisarm
  | discard => exact h.execDiscard
  | persist => exact h.execPersist
  | hotCommitPoint => exact h.execHotCommitPoint
  | hotActivationEffect => exact h.execHotActivationEffect
  | hotActivationDone => exact h.execHotActivationDone
  | stopActivationDone => exact h.execStopActivationDone
  | encEdgeQualified => exact h.execEncEdgeQualified
  | encGlitch => exact h.execEncGlitch
  | encWireFault => exact h.execEncWireFault
  | encWireClear => exact h.execEncWireClear
  | wireLostTimeout => exact h.execWireLostTimeout
  | deadReckoningEnd => exact h.execDeadReckoningEnd
  | inputReturn => exact h.execInputReturn
  | standstill => exact h.execStandstill
  | fireCommit => exact h.execFireCommit
  | overspeedRelease => exact h.execOverspeedRelease
  | firingEnd => exact h.execFiringEnd
  | fireEn => exact h.execFireEn
  | fireDisable => exact h.execFireDisable
  | stopClr => exact h.execStopClr
  | zero => exact h.execZero
  | cal => exact h.execCal
  | calDone => exact h.execCalDone
  | pdRefreshDone => exact h.execPdRefreshDone
  | portDelayWrite => exact h.execPortDelayWrite
  | passArm => exact h.execPassArm
  | regionOpen => exact h.execRegionOpen
  | regionClose => exact h.execRegionClose
  | block => exact h.execBlock
  | ingestCheckDone => exact h.execIngestCheckDone
  | cmpLeadLinesWrite req => exact h.execCmpLeadLinesWrite (req := req)
  | blockFetch => exact h.execBlockFetch
  | seekDone => exact h.execSeekDone
  | compressSymbols => exact h.execCompressSymbols
  | compressFlush => exact h.execCompressFlush
  | selfcheckDone => exact h.execSelfcheckDone
  | batchStart => exact h.execBatchStart
  | batchComplete => exact h.execBatchComplete
  | forecastFrame => exact h.execForecastFrame
  | healthGo => exact h.execHealthGo
  | healthFold => exact h.execHealthFold
  | nztWrite => exact h.execNztWrite
  | commit => exact h.execCommit
  | abort => exact h.execAbort
  | tableReadyWrite => exact h.execTableReadyWrite
  | engineFault => exact h.execEngineFault
  | retire => exact h.execRetire
  | cueStart => exact h.execCueStart
  | cueDone => exact h.execCueDone
  | cueAbort => exact h.execCueAbort
  | cueQuery => exact h.execCueQuery
  | slateSend => exact h.execSlateSend
  | batchSend => exact h.execBatchSend
  | batchSkip => exact h.execBatchSkip
  | cap => exact h.execCap
  | headAck => exact h.execHeadAck
  | headEvent => exact h.execHeadEvent
  | nsense => exact h.execNsense
  | sample => exact h.execSample
  | credit => exact h.execCredit
  | echoWord => exact h.execEchoWord
  | msgCrcFail => exact h.execMsgCrcFail
  | ackTimeout => exact h.execAckTimeout
  | upstreamSilent => exact h.execUpstreamSilent
  | versionRetry => exact h.execVersionRetry
  | go => exact h.execGo
  | goAll => exact h.execGoAll
  | leave => exact h.execLeave
  | relink => exact h.execRelink
  | portJoinEffect => exact h.execPortJoinEffect
  | portLeaveEffect => exact h.execPortLeaveEffect
  | rateRelease => exact h.execRateRelease
  | insRunWrite => exact h.execInsRunWrite
  | insClose => exact h.execInsClose
  | insRelink => exact h.execInsRelink
  | triggerSend => exact h.execTriggerSend
  | camcap => exact h.execCamcap
  | camAck => exact h.execCamAck
  | rawPacket => exact h.execRawPacket
  | camMeta => exact h.execCamMeta
  | echo => exact h.execEcho
  | camEvent => exact h.execCamEvent
  | lineCloseTimeout => exact h.execLineCloseTimeout
  | recordHandoff => exact h.execRecordHandoff
  | statRecordWrite => exact h.execStatRecordWrite
  | uploadCompress => exact h.execUploadCompress
  | gtDataAccess => exact h.execGtDataAccess
  | cameraSilent => exact h.execCameraSilent
  | qlRecordProcess => exact h.execQlRecordProcess
  | qlHealthPresent => exact h.execQlHealthPresent
  | qlHealthRetry => exact h.execQlHealthRetry
  | qlClear => exact h.execQlClear
  | cascap => exact h.execCascap
  | cascadeRetry => exact h.execCascadeRetry
  | shape => exact h.execShape
  | feed => exact h.execFeed
  | casHealth => exact h.execCasHealth
  | spoiln => exact h.execSpoiln
  | devrec => exact h.execDevrec
  | sqTailDoorbell => exact h.execSqTailDoorbell
  | cqHeadDoorbell => exact h.execCqHeadDoorbell
  | ringGrant => exact h.execRingGrant
  | nop => exact h.execNop
  | uploadSub => exact h.execUploadSub
  | uploadUnsub => exact h.execUploadUnsub
  | acctRead => exact h.execAcctRead
  | ctxOpen => exact h.execCtxOpen
  | ctxClose => exact h.execCtxClose
  | ctxPark => exact h.execCtxPark
  | ctxActivate slot w => exact h.execCtxActivate (slot := slot) (w := w)
  | ctxQuota => exact h.execCtxQuota
  | ctxZeroDone => exact h.execCtxZeroDone
  | hostCqWriteFail => exact h.execHostCqWriteFail
  | ethFrameReceive => exact h.execEthFrameReceive
  | ethFrameTransmit => exact h.execEthFrameTransmit
  | txtsPop => exact h.execTxtsPop
  | ethLinkChange => exact h.execEthLinkChange
  | hello => exact h.execHello
  | entries => exact h.execEntries
  | xptDoorbell => exact h.execXptDoorbell
  | xptWrite => exact h.execXptWrite
  | xptAck => exact h.execXptAck
  | xptClose => exact h.execXptClose
  | xptAckTimer => exact h.execXptAckTimer
  | xptResend => exact h.execXptResend
  | cqeCoalesceTimer => exact h.execCqeCoalesceTimer
  | d3hotEntry => exact h.execD3hotEntry
  | d0Return => exact h.execD0Return
  | vfFlr => exact h.execVfFlr
  | pfFlr => exact h.execPfFlr
  | msixTimer => exact h.execMsixTimer
  | msixUnmask => exact h.execMsixUnmask
  | pmeRepeat => exact h.execPmeRepeat
  | tsuIncWrite => exact h.execTsuIncWrite
  | tsuStep req => exact h.execTsuStep (req := req)
  | tsuSet req => exact h.execTsuSet (req := req)
  | toutArm => exact h.execToutArm
  | toutPulse => exact h.execToutPulse
  | presentChange => exact h.execPresentChange
  | heartbeatLost => exact h.execHeartbeatLost
  | mirrorSilent => exact h.execMirrorSilent
  | silentDeath => exact h.execSilentDeath
  | dualActive => exact h.execDualActive
  | pcap _ pairId => exact h.execPcap (pairId := pairId)
  | mirrorLinkRetry => exact h.execMirrorLinkRetry
  | bindRecord => exact h.execBindRecord
  | mirrorCommit => exact h.execMirrorCommit
  | mirrorCrc => exact h.execMirrorCrc
  | verdictReady => exact h.execVerdictReady
  | lockRecord => exact h.execLockRecord
  | mirrorBlock => exact h.execMirrorBlock
  | tableRecord => exact h.execTableRecord
  | mirrorHealth => exact h.execMirrorHealth
  | ctxRecord => exact h.execCtxRecord
  | loopRecord => exact h.execLoopRecord
  | daily => exact h.execDaily
  | dailySend => exact h.execDailySend
  | surrenderRecord => exact h.execSurrenderRecord
  | verdict => exact h.execVerdict
  | mirrorAck => exact h.execMirrorAck
  | recordMsg => exact h.execRecordMsg
  | mirrorGap => exact h.execMirrorGap
  | ptnSurrender => exact h.execPtnSurrender
  | takeover => exact h.execTakeover
  | snapshotApplied => exact h.execSnapshotApplied
  | resync => exact h.execResync
  | removeRequest => exact h.execRemoveRequest
  | forceRemove => exact h.execForceRemove
  | pairEnWrite => exact h.execPairEnWrite
  | budgetEstimate => exact h.execBudgetEstimate
  | speedHoldRelease => exact h.execSpeedHoldRelease
  | powerOver => exact h.execPowerOver
  | taskDueCmd => exact h.execTaskDueCmd
  | taskDeadlineMiss => exact h.execTaskDeadlineMiss
  | taskComplete => exact h.execTaskComplete
  | checkpointCommit => exact h.execCheckpointCommit
  | journalWrite => exact h.execJournalWrite
  | ckptNow => exact h.execCkptNow
  | droneEnWrite => exact h.execDroneEnWrite
  | pfGlitch => exact h.execPfGlitch
  | breathStart => exact h.execBreathStart
  | supplyTrip => exact h.execSupplyTrip
  | shedDone => exact h.execShedDone
  | holdExpire => exact h.execHoldExpire
  | pfRecover => exact h.execPfRecover
  | breathCommit => exact h.execBreathCommit
  | pgStable => exact h.execPgStable
  | lspFrame => exact h.execLspFrame
  | loopEvaluate => exact h.execLoopEvaluate
  | loopSafeTimeout => exact h.execLoopSafeTimeout
  | loopResume => exact h.execLoopResume
  | loopSpWrite => exact h.execLoopSpWrite
  | ctlRcDataAccess => exact h.execCtlRcDataAccess
  | axisPush => exact h.execAxisPush
  | axisHalt => exact h.execAxisHalt
  | axisAbort => exact h.execAxisAbort
  | axisHome => exact h.execAxisHome
  | axisPlanTick => exact h.execAxisPlanTick
  | homeEdge => exact h.execHomeEdge
  | axisLimit => exact h.execAxisLimit
  | asbCycle => exact h.execAsbCycle
  | asbUpWord => exact h.execAsbUpWord
  | axisRestHold => exact h.execAxisRestHold
  | laneSignalDetect => exact h.execLaneSignalDetect
  | laneStageDone => exact h.execLaneStageDone
  | laneStageTimeout => exact h.execLaneStageTimeout
  | blockLockLoss => exact h.execBlockLockLoss
  | laneLos => exact h.execLaneLos
  | laneBlockErrRetrain => exact h.execLaneBlockErrRetrain
  | laneRail _ tap => exact h.execLaneRail (tap := tap)
  | sleepBlock => exact h.execSleepBlock
  | laneWake => exact h.execLaneWake
  | refBad => exact h.execRefBad
  | refReturn => exact h.execRefReturn
  | refHoldoverEnd => exact h.execRefHoldoverEnd
  | laneTest => exact h.execLaneTest
  | laneRevive => exact h.execLaneRevive
  | laneRetrain => exact h.execLaneRetrain
  | injCtrlWrite => exact h.execInjCtrlWrite
  | marginScanDone => exact h.execMarginScanDone
  | scanNow => exact h.execScanNow
  | refreshDue => exact h.execRefreshDue
  | dramTempRead => exact h.execDramTempRead
  | dramGrant => exact h.execDramGrant
  | ceWriteback => exact h.execCeWriteback
  | dramFreeze => exact h.execDramFreeze
  | groupReset => exact h.execGroupReset
  | retrainSlice => exact h.execRetrainSlice
  | retrainDone => exact h.execRetrainDone
  | dmcPrioWrite => exact h.execDmcPrioWrite
  | watchdogExpire => exact h.execWatchdogExpire
  | kick => exact h.execKick
  | loadWindow => exact h.execLoadWindow
  | nvaOpGo => exact h.execNvaOpGo
  | nvaLineWritten => exact h.execNvaLineWritten
  | nvaEccError => exact h.execNvaEccError
  | irqModTimer => exact h.execIrqModTimer
  | claim reader core fast => exact h.execClaim (reader := reader) (core := core) (fast := fast)
  | irqMaskSet => exact h.execIrqMaskSet
  | irqMaskClr => exact h.execIrqMaskClr
  | irqPendSet => exact h.execIrqPendSet
  | irqPendClr => exact h.execIrqPendClr
  | keyLock => exact h.execKeyLock
  | vceilDown => exact h.execVceilDown
  | floorUp => exact h.execFloorUp
  | revoke => exact h.execRevoke
  | rootProg => exact h.execRootProg
  | keyInstall => exact h.execKeyInstall
  | lcGo => exact h.execLcGo
  | fuseBurnDone => exact h.execFuseBurnDone
  | debugRequest => exact h.execDebugRequest
  | glbResetCold => exact h.execGlbResetCold
  | glbResetMgmt => exact h.execGlbResetMgmt
  | glbResetCore => exact h.execGlbResetCore
  | porzAssert => exact h.execPorzAssert
  | startupBegin => exact h.execStartupBegin
  | startupStageDone => exact h.execStartupStageDone
  | clockRetry => exact h.execClockRetry
  | ethrefLost => exact h.execEthrefLost
  | pcierefLost => exact h.execPcierefLost
  | sysrefLost => exact h.execSysrefLost
  | calCtrlRun => exact h.execCalCtrlRun
  | calRunDone => exact h.execCalRunDone
  | aonBrownout => exact h.execAonBrownout
  | alignmentMarkerLost => exact h.execAlignmentMarkerLost
  | camAckTimeout => exact h.execCamAckTimeout
  | cameraVersionRetry => exact h.execCameraVersionRetry
  | pcieLinkUp => exact h.execPcieLinkUp
  | aspmL1Entry => exact h.execAspmL1Entry
  | l1ExitComplete => exact h.execL1ExitComplete
  | resumeComplete => exact h.execResumeComplete
  | pgFall => exact h.execPgFall
  | referenceGood => exact h.execReferenceGood
  | laneSignalReturn => exact h.execLaneSignalReturn
  | prbsCheckerLock => exact h.execPrbsCheckerLock
  | prbsCheckerLockLoss => exact h.execPrbsCheckerLockLoss
  | ethLinkRetry => exact h.execEthLinkRetry

theorem memoriesWf_of_exec {c : Instr} {s t : State} (h : memoriesWf s) (ht : exec c s = .next t) : memoriesWf t := by
  obtain ⟨e, hs, hnil⟩ := exec_agree c s.dev s.pending []
  obtain rfl : t = ⟨e, s.pending⟩ := Host.Outcome.next.inj (ht.symm.trans hs)
  have hrow : s.dev.viaRow (exec c) = e := by rw [Dev.viaRow, hnil]
  exact memoriesWf_iff.mpr (hrow ▸ (memoriesWf_iff.mp h).viaRow_exec c)

/-- Settles O5: with no command waiting the timebase alone moves on; a command's meaning is put together from operations
that keep the memories canonical. -/
theorem stepKeepsMemoriesCanonical : Obligations.StepKeepsMemoriesCanonical := by
  rintro ⟨d, pending⟩ hs t ht
  cases pending with
  | nil =>
    obtain rfl : _ = t := Host.Outcome.next.inj ht
    exact memoriesWf_iff.mpr (memoriesWf_iff.mp hs).tick
  | cons c q => exact memoriesWf_of_exec (s := ⟨d, q⟩) hs ht

end
end Sys2Proof.Machine
end

section
open Sys2Proof
namespace Sys2Proof.Machine

/-! ### A tick of the timebase (R305, log entry 2) -/

/-- The local clock set is what it reads, modulo 2^96. -/
theorem Dev.clock32_setClock32 (d : Dev) (c : Nat) : (d.setClock32 c).clock32 = c % 2 ^ 96 := by
  have hns : (d.setClock32 c).get .tsuTime 0 = c / 2 ^ 32 % 2 ^ 64 := by
    rw [Dev.setClock32, Dev.get_put_reg _ _ _ _ (by decide), Dev.get_put_same, Nat.mod_mod]
  have hfrac : (d.setClock32 c).get .tsuFrac 0 = c % 2 ^ 32 := by
    rw [Dev.setClock32, Dev.get_put_same, Nat.mod_eq_of_lt (by omega)]
  rw [Dev.clock32, hns, hfrac]
  omega

/-- The local clock is kept in two registers; no other one changes as it is set. -/
theorem onlyRegs_setClock32 (d : Dev) (c : Nat) : onlyRegs [.tsuTime, .tsuFrac] d (d.setClock32 c) := by
  intro r hr k
  simp only [List.mem_cons, List.not_mem_nil, or_false, not_or] at hr
  exact (Dev.rd_wr_reg _ _ _ _ hr.2).trans (d.rd_wr_reg _ _ _ hr.1)

/-- Settles O2: a tick moves time on by 1.6 ns and sets the local clock. -/
theorem idleStepIsOneTick : Obligations.IdleStepIsOneTick := fun d =>
  ⟨⟨d.tick, []⟩, rfl, rfl, rfl, Dev.clock32_setClock32 _ _, rfl, rfl, rfl, rfl,
    fun p hp => by cases p <;> first | rfl | exact absurd List.mem_cons_self hp,
    onlyRegs_setClock32 { d with now := d.now + 1600 } _⟩

end Sys2Proof.Machine
end

section
open Sys2Proof
namespace Sys2Proof.Machine

/-! ### What interrupts, events and completions keep of SRAM and host ports

They move vectors, PM_PME in progress and the messages that wait for L1, and sessions whose staging area they leave or empty.
A property of the cores' local SRAM and of the host ports that holds whatever these are is an invariant of such operations. -/

/-- A property of the cores' local SRAM and of the host ports that vectors and sessions do not touch. -/
structure PortInvariant where
  holds : Mem → HstState → Prop
  vectors : ∀ {m h vec pmeOn l1Due}, holds m h → holds m { h with vec := vec, pmeOn := pmeOn, l1Due := l1Due }
  session : ∀ {m h s x}, holds m h → x.staging = (Tab.get h.sess s Sess.empty).staging ∨ x.staging = [] →
    holds m { h with sess := Tab.set h.sess s x }

/-- The controller has the property. -/
def Dev.meets (d : Dev) (I : PortInvariant) : Prop := I.holds d.mgt.sram d.hst

section
variable {I : PortInvariant} {d : Dev}

/-! ### Choices and loops -/

theorem meets_ite {c : Prop} [Decidable c] {a b : Dev} (ha : a.meets I) (hb : b.meets I) : (if c then a else b).meets I := by
  split
  · exact ha
  · exact hb

theorem Dev.meets.foldl {α : Type} {f : Dev → α → Dev} {xs : List α} (h : d.meets I)
    (hf : ∀ e x, e.meets I → (f e x).meets I) : (xs.foldl f d).meets I := by
  induction xs generalizing d with
  | nil => exact h
  | cons x xs ih => exact ih (hf d x h)

theorem Dev.meets.each {f : Dev → Nat → Dev} {ns : List Nat} (h : d.meets I)
    (hf : ∀ e n, e.meets I → (f e n).meets I) : (d.each ns f).meets I := h.foldl hf

/-! ### Registers, codes, outputs, free values and time -/

theorem Dev.meets.wr {r k v} (h : d.meets I) : (d.wr r k v).meets I := h
theorem Dev.meets.put {r k v} (h : d.meets I) : (d.put r k v).meets I := h
theorem Dev.meets.setFld {r k l w v} (h : d.meets I) : (d.setFld r k l w v).meets I := h
theorem Dev.meets.setBit {r k i b} (h : d.meets I) : (d.setBit r k i b).meets I := h
theorem Dev.meets.count {r k} (h : d.meets I) : (d.count r k).meets I := h
theorem Dev.meets.raise {c p} (h : d.meets I) : (d.raise c p).meets I := h
theorem Dev.meets.send {o} (h : d.meets I) : (d.send o).meets I := h

/-! ### Interrupt sources and vectors (R302, R303, R438 to R442) -/

theorem Dev.meets.setVec {fn v x} (h : d.meets I) : (d.setVec fn v x).meets I := I.vectors h
theorem Dev.meets.sendVec {fn v} (h : d.meets I) : (d.sendVec fn v).meets I := h.setVec.send

theorem Dev.meets.inVectors {vec pmeOn l1Due} (h : d.meets I) :
    Dev.meets { d with hst := { d.hst with vec := vec, pmeOn := pmeOn, l1Due := l1Due } } I := I.vectors h

theorem Dev.meets.vecDue {fn v} (h : d.meets I) : (d.vecDue fn v).meets I :=
  meets_ite h.setVec
    (meets_ite (meets_ite h.setVec.send.inVectors h.setVec) (meets_ite (meets_ite h h.inVectors) h.sendVec))

theorem Dev.meets.vecEvent {fn v} (h : d.meets I) : (d.vecEvent fn v).meets I := meets_ite h.setVec.vecDue h.setVec
theorem Dev.meets.moderate {core fast} (h : d.meets I) : (d.moderate core fast).meets I := h

theorem Dev.meets.irqNotify {src} (h : d.meets I) : (d.irqNotify src).meets I :=
  meets_ite h (meets_ite h.moderate (meets_ite h.vecEvent h))

theorem Dev.meets.irqPend {src b} (h : d.meets I) : (d.irqPend src b).meets I := meets_ite h.setBit.irqNotify h.setBit

theorem Dev.meets.irqLevel {src lvl} (h : d.meets I) : (d.irqLevel src lvl).meets I :=
  meets_ite h.setBit.irqPend (meets_ite h.setBit.irqPend h.setBit)

theorem Dev.meets.irqPulse {src} (h : d.meets I) : (d.irqPulse src).meets I := h.irqLevel.irqLevel
theorem Dev.meets.flushVecs {fn} (h : d.meets I) : (d.flushVecs fn).meets I :=
  h.each fun _ _ ho => meets_ite ho (meets_ite ho.setVec ho.sendVec)

theorem Dev.meets.sendPba {fn} (h : d.meets I) : (d.sendPba fn).meets I := h.each fun _ _ ho => meets_ite ho ho.sendVec

/-! ### Sessions, completions and events (R273, R293 to R298) -/

theorem Dev.meets.setCtx {s c} (h : d.meets I) : (d.setCtx s c).meets I := h

/-- A session whose staging area stays. -/
theorem Dev.meets.setSess {s peer udpPort vlan txSeq rxNext held unacked queue coalCount coalUs cqWait ackDue} (h : d.meets I) :
    (d.setSess s { peer, udpPort, vlan, txSeq, rxNext, held, unacked, queue, staging := (d.sess s).staging, coalCount, coalUs,
                   cqWait, ackDue }).meets I := I.session h (.inl rfl)

/-- A session begun anew. -/
theorem Dev.meets.newSess {s x} (h : d.meets I) (hx : x.staging = []) : (d.setSess s x).meets I := I.session h (.inr hx)

theorem Dev.meets.xptEmitAt {s port v rxNext sack type seq payload} (h : d.meets I) :
    (d.xptEmitAt s port v rxNext sack type seq payload).meets I := meets_ite h.setCtx h.setCtx.send

theorem Dev.meets.xptEmit {s type seq payload} (h : d.meets I) : (d.xptEmit s type seq payload).meets I :=
  h.setSess.xptEmitAt

theorem Dev.meets.xptSend {s type payload} (h : d.meets I) : (d.xptSend s type payload).meets I :=
  meets_ite h (meets_ite h.setSess h.setSess.xptEmit)

theorem Dev.meets.xptFlushCqe {s} (h : d.meets I) : (d.xptFlushCqe s).meets I := by
  unfold Dev.xptFlushCqe
  dsimp only
  split
  · exact h
  · exact meets_ite h.setSess.xptSend h

theorem Dev.meets.xptCqe {s pos words} (h : d.meets I) : (d.xptCqe s pos words).meets I :=
  meets_ite h.setSess.xptFlushCqe h.setSess

theorem Dev.meets.writeCqe {s w0 w1 body} (h : d.meets I) : (d.writeCqe s w0 w1 body).meets I :=
  have h1 := meets_ite h.setCtx.put.send h.setCtx.put.setCtx
  meets_ite h1.vecEvent (meets_ite h1.vecEvent (meets_ite h1.xptCqe h1))

theorem Dev.meets.noteStatus {s status} (h : d.meets I) : (d.noteStatus s status).meets I := meets_ite h h.put

theorem Dev.meets.postDone {n s} (h : d.meets I) : (Dev.postDone n d s).meets I := by
  induction n generalizing d with
  | zero => exact h
  | succ n ih =>
    unfold Dev.postDone
    split
    · exact h
    · split
      · exact h
      · exact meets_ite (ih h.setCtx.noteStatus.writeCqe) h

theorem Dev.meets.postEvent {s kind es} (h : d.meets I) : (d.postEvent s kind es).meets I :=
  meets_ite (meets_ite (h.foldl fun _ _ ho => ho.writeCqe) h.count.setCtx) h

theorem Dev.meets.ctxEvent {s e low handle fire} (h : d.meets I) : (d.ctxEvent s e low handle fire).meets I :=
  h.postEvent.noteStatus

theorem Dev.meets.tellDue {s} (h : d.meets I) : (d.tellDue s).meets I := by
  unfold Dev.tellDue
  dsimp only
  split
  · exact h
  · exact meets_ite h.setCtx.ctxEvent h

theorem Dev.meets.stopRings {s} (h : d.meets I) : (d.stopRings s).meets I := h.setBit.setBit
theorem Dev.meets.resumeDma {fn} (h : d.meets I) : (d.resumeDma fn).meets I := h.each fun _ _ ho => ho.tellDue.postDone
theorem Dev.meets.flrSlot {k} (h : d.meets I) : (d.flrSlot k).meets I := h.stopRings.ctxEvent.raise

end
end Sys2Proof.Machine
end

section
open Sys2Proof
namespace Sys2Proof.Machine

/-- A command whose meaning is a run leaves what the run makes of the controller. -/
theorem yields_of_run {c : Instr} {s : State} {f : Dev → Dev} {e : Dev} (h : exec c s = s.run f) (he : f s.dev = e) :
    Yields c s e := he ▸ h

/-! ### Vectors (R302, R303) -/

section
variable {d : Dev} {fn v w : Nat}

@[simp] theorem Dev.vec_setVec_same (d : Dev) (fn v : Nat) (x : Vec) : (d.setVec fn v x).vec fn v = x := Tab.get_set_same ..

theorem Dev.vec_setVec_ne {x : Vec} (h : w ≠ v) : (d.setVec fn v x).vec fn w = d.vec fn w :=
  Tab.get_set_ne _ _ _ fun he => h (Prod.mk.inj he).2

theorem Dev.vec_sendVec_same (d : Dev) (fn v : Nat) :
    (d.sendVec fn v).vec fn v = { d.vec fn v with count := 0, since := none, pba := false } := d.vec_setVec_same ..

theorem Dev.vec_sendVec_ne (h : w ≠ v) : (d.sendVec fn v).vec fn w = d.vec fn w := Dev.vec_setVec_ne (d := d) h

/-- A due message of a masked vector leaves its PBA bit. -/
theorem Dev.vecDue_of_masked (h : (d.vec fn v).masked = true) :
    d.vecDue fn v = d.setVec fn v { d.vec fn v with pba := true } := if_pos (by simp [h])

/-- A due message that nothing holds back is sent. -/
theorem Dev.vecDue_of_awake (hv : (d.vec fn v).masked = false) (hf : Tab.get d.hst.fnMask fn false = false)
    (hlink : d.hst.linkUp = true) (hd3 : d.inD3 fn = false) (hl1 : d.inL1 = false) : d.vecDue fn v = d.sendVec fn v := by
  simp [Dev.vecDue, hv, hf, hlink, hd3, hl1]

/-- Outside L1 no message comes to wait for its exit. -/
theorem Dev.l1Due_vecDue (h : d.inL1 = false) : (d.vecDue fn v).hst.l1Due = d.hst.l1Due := by
  unfold Dev.vecDue
  dsimp only
  rw [if_neg (c := d.inL1 = true) (by simp [h])]
  split
  · rfl
  · split
    · split
      · rfl
      · rfl
    · rfl

theorem Dev.inL1_vecDue (d : Dev) (fn v : Nat) : (d.vecDue fn v).inL1 = d.inL1 :=
  Dev.bit_of_reach (x := vectorReach) rfl (by decide) rfl (fun h => (Footprint.holds_refl _ _).vecDue h) 0

/-- A vector that is not as after reset is listed. -/
theorem Dev.mem_vecsOf (hv : v < 64) (h : d.vec fn v ≠ Vec.reset) : v ∈ d.vecsOf fn := by
  refine List.mem_filter.mpr ⟨List.mem_range.mpr hv, ?_⟩
  by_contra hnone
  exact h (by simp [Dev.vec, Tab.get, Option.not_isSome_iff_eq_none.mp hnone])

theorem Dev.mem_vecsOf_of_pba (hv : v < 64) (h : (d.vec fn v).pba = true) : v ∈ d.vecsOf fn :=
  Dev.mem_vecsOf hv fun he => Bool.false_ne_true ((congrArg Vec.pba he).symm.trans h)

end

/-! ### One after another -/

/-- What one turn of a loop brings about holds after the loop if every turn keeps it. -/
theorem Dev.each_of_mem {P Q : Dev → Prop} {f : Dev → Nat → Dev} {ns : List Nat} {k : Nat} {d : Dev} (hk : k ∈ ns) (h : P d)
    (hP : ∀ e n, P e → P (f e n)) (hturn : ∀ e, P e → Q (f e k)) (hQ : ∀ e n, P e → Q e → Q (f e n)) : Q (d.each ns f) := by
  have hrest : ∀ ns e, P e → Q e → Q (e.each ns f) := by
    intro ns
    induction ns with
    | nil => exact fun _ _ hq => hq
    | cons n ns ih => exact fun e hp hq => ih _ (hP e n hp) (hQ e n hp hq)
  induction ns generalizing d with
  | nil => exact absurd hk List.not_mem_nil
  | cons n ns ih =>
    obtain rfl | hk := List.mem_cons.mp hk
    · exact hrest ns _ (hP d _ h) (hturn d h)
    · exact ih hk (hP d n h)

/-! ### Pending messages of an unmasked vector (R303) -/

/-- A pending message is sent where nothing holds it back. -/
def Dev.sendIfPba (d : Dev) (fn v : Nat) : Dev :=
  if !(d.vec fn v).pba || (d.vec fn v).masked || Tab.get d.hst.fnMask fn false || d.inD3 fn || !d.hst.linkUp then d
  else d.sendVec fn v

theorem Dev.sendPba_eq (d : Dev) (fn : Nat) : d.sendPba fn = d.each (d.vecsOf fn) fun e v => e.sendIfPba fn v := rfl

/-- The messages of a vector can go out, and one that is no longer pending has. -/
structure Unheld (fn v : Nat) (d : Dev) : Prop where
  fnMask : Tab.get d.hst.fnMask fn false = false
  linkUp : d.hst.linkUp = true
  awake : d.inD3 fn = false
  unmasked : (d.vec fn v).masked = false
  told : (d.vec fn v).pba = false → .interrupt fn v ∈ d.outs

section
variable {d : Dev} {fn v : Nat}

theorem Unheld.sendVec_same (h : Unheld fn v d) : Unheld fn v (d.sendVec fn v) where
  fnMask := h.fnMask
  linkUp := h.linkUp
  awake := h.awake
  unmasked := (congrArg Vec.masked (d.vec_sendVec_same fn v)).trans h.unmasked
  told _ := List.mem_append_right _ (List.mem_singleton_self _)

theorem Unheld.sendVec_ne {w : Nat} (h : Unheld fn v d) (hw : v ≠ w) : Unheld fn v (d.sendVec fn w) where
  fnMask := h.fnMask
  linkUp := h.linkUp
  awake := h.awake
  unmasked := (congrArg Vec.masked (Dev.vec_sendVec_ne hw)).trans h.unmasked
  told hp := List.mem_append_left _ (h.told ((congrArg Vec.pba (Dev.vec_sendVec_ne hw)).symm.trans hp))

theorem Unheld.sendIfPba (h : Unheld fn v d) (w : Nat) : Unheld fn v (d.sendIfPba fn w) := by
  unfold Dev.sendIfPba
  split
  · exact h
  · by_cases hw : v = w
    · exact hw ▸ h.sendVec_same
    · exact h.sendVec_ne hw

theorem Unheld.pba_sendIfPba_same (h : Unheld fn v d) : ((d.sendIfPba fn v).vec fn v).pba = false := by
  unfold Dev.sendIfPba
  split
  next hc => simpa [h.fnMask, h.linkUp, h.awake, h.unmasked] using hc
  next => rw [Dev.vec_sendVec_same]

theorem Dev.pba_sendIfPba {w : Nat} (h : (d.vec fn v).pba = false) : ((d.sendIfPba fn w).vec fn v).pba = false := by
  unfold Dev.sendIfPba
  split
  · exact h
  · by_cases hw : v = w
    · rw [← hw, Dev.vec_sendVec_same]
    · rwa [Dev.vec_sendVec_ne hw]

/-- The pending messages of a function sent: that of a vector nothing holds back is among them. -/
theorem Unheld.sendPba (h : Unheld fn v d) (hv : v ∈ d.vecsOf fn) :
    ((d.sendPba fn).vec fn v).masked = false ∧ ((d.sendPba fn).vec fn v).pba = false ∧
      .interrupt fn v ∈ (d.sendPba fn).outs := by
  have hend : Unheld fn v (d.sendPba fn) ∧ ((d.sendPba fn).vec fn v).pba = false :=
    Dev.each_of_mem (P := Unheld fn v) (Q := fun e => Unheld fn v e ∧ (e.vec fn v).pba = false) hv h (fun _ w ho => ho.sendIfPba w)
      (fun _ ho => ⟨ho.sendIfPba v, ho.pba_sendIfPba_same⟩) fun _ w ho hp => ⟨ho.sendIfPba w, Dev.pba_sendIfPba hp.2⟩
  exact ⟨hend.1.unmasked, hend.2, hend.1.told hend.2⟩

end

/-! ### Link and power states (R301, R304) -/

/-- The link's state and the functions' power states are these. -/
def powerStates (linkUp : Bool) (d3hot : Tab Nat Bool) : PortInvariant where
  holds _ h := h.linkUp = linkUp ∧ h.d3hot = d3hot
  vectors h := h
  session h _ := h

theorem Dev.meets_powerStates (d : Dev) : d.meets (powerStates d.hst.linkUp d.hst.d3hot) := ⟨rfl, rfl⟩

section
variable {d e : Dev} {linkUp : Bool} {d3hot : Tab Nat Bool}

theorem Dev.meets.linkUp_eq (h : d.meets (powerStates linkUp d3hot)) : d.hst.linkUp = linkUp := h.1
theorem Dev.meets.d3hot_eq (h : d.meets (powerStates linkUp d3hot)) : d.hst.d3hot = d3hot := h.2

theorem Dev.meets.inD3_eq (h : e.meets (powerStates d.hst.linkUp d.hst.d3hot)) (fn : Nat) : e.inD3 fn = d.inD3 fn :=
  congrArg (Tab.get · fn false) h.d3hot_eq

theorem Dev.d3hot_setD3 (d : Dev) (fn : Nat) (b : Bool) : (d.setD3 fn b).hst.d3hot = Tab.set d.hst.d3hot fn b := by
  unfold Dev.setD3
  split
  · rfl
  · rfl

@[simp] theorem Dev.inD3_setD3_same (d : Dev) (fn : Nat) (b : Bool) : (d.setD3 fn b).inD3 fn = b := by
  rw [Dev.inD3, Dev.d3hot_setD3, Tab.get_set_same]

theorem Dev.inD3_setD3_ne {fn f : Nat} {b : Bool} (h : f ≠ fn) : (d.setD3 fn b).inD3 f = d.inD3 f := by
  rw [Dev.inD3, Dev.d3hot_setD3, Tab.get_set_ne _ _ _ h, Dev.inD3]

@[simp] theorem Dev.inD3_send (d : Dev) (o : Out) (f : Nat) : (d.send o).inD3 f = d.inD3 f := rfl

theorem Dev.inD3_flushVecs (d : Dev) (fn f : Nat) : (d.flushVecs fn).inD3 f = d.inD3 f :=
  d.meets_powerStates.flushVecs.inD3_eq f

/-- A function goes into D3hot with its PME_En. -/
def Dev.enterD3 (d : Dev) (fn : Nat) (pmeEn : Bool) : Dev :=
  let d1 := (d.flushVecs fn).setD3 fn true
  { d1 with hst := { d1.hst with pmeEn := Tab.set d1.hst.pmeEn fn pmeEn } }

theorem Dev.inD3_enterD3 (d : Dev) (fn f : Nat) (pmeEn : Bool) :
    (d.enterD3 fn pmeEn).inD3 f = ((d.flushVecs fn).setD3 fn true).inD3 f := rfl

theorem Dev.pmeEn_enterD3 (d : Dev) (fn : Nat) (pmeEn : Bool) : Tab.get (d.enterD3 fn pmeEn).hst.pmeEn fn false = pmeEn :=
  Tab.get_set_same _ _ _ _

/-- PME_Turn_Off takes the functions into D3hot one after another. -/
theorem Dev.inD3_turnOff {ns : List Nat} {f : Nat} (hf : f ∈ ns) :
    (d.each ns fun e n => (e.flushVecs n).setD3 n true).inD3 f = true :=
  Dev.each_of_mem (P := fun _ => True) (Q := fun e => e.inD3 f = true) hf trivial (fun _ _ _ => trivial)
    (fun e _ => (e.flushVecs f).inD3_setD3_same f true) fun e n _ h => by
      by_cases hn : f = n
      · rw [hn, Dev.inD3_setD3_same]
      · rwa [Dev.inD3_setD3_ne hn, Dev.inD3_flushVecs]

end

/-! ### Function-level resets (R301) -/

section
variable {d : Dev} {s k i : Nat}

/-- A bit cleared: the others are as before. -/
theorem Dev.bit_setBit_false {r : Reg} {n j : Nat} (h : d.bit r k i = false ∨ (k = n ∧ i = j)) (hi : i < 64) (hj : j < 64) :
    (d.setBit r n j false).bit r k i = false := by
  by_cases hk : k = n
  · subst hk
    by_cases hij : i = j
    · exact hij ▸ Dev.bit_setBit_same d r k i false hi
    · rw [Dev.bit, Dev.fld_setBit_other _ _ _ _ _ _ _ hj (by omega)]
      exact h.resolve_right fun he => hij he.2
  · rw [Dev.bit, Dev.fld, Dev.setBit, Dev.setFld, Dev.get_put_num _ _ _ hk]
    exact h.resolve_right fun he => hk he.1

/-- The rings of a slot are stopped. -/
def Dev.ringsStopped (d : Dev) (k : Nat) : Prop := d.bit .tenState k 0 = false ∧ d.bit .tenState k 1 = false

theorem Dev.ringsStopped_stopRings {n : Nat} (h : d.ringsStopped k ∨ k = n) : (d.stopRings n).ringsStopped k := by
  refine ⟨Dev.bit_setBit_false (.inl (Dev.bit_setBit_false (h.imp And.left fun hk => ⟨hk, rfl⟩) ?_ ?_)) ?_ ?_,
    Dev.bit_setBit_false (h.imp (fun hs => Dev.bit_setBit_false (.inl hs.2) ?_ ?_) fun hk => ⟨hk, rfl⟩) ?_ ?_⟩ <;> decide

theorem Dev.bit_tenState_ctxEvent {e : ECode} {low handle fire : Nat} (hi : (ctxEventReach none).leaves .tenState i 1 = true) :
    (d.ctxEvent s e low handle fire).bit .tenState k i = d.bit .tenState k i :=
  Dev.bit_of_reach (x := ctxEventReach none) rfl (by decide) hi (fun hx => (Footprint.holds_refl _ _).ctxEvent hx .any) k

theorem Dev.ringsStopped.ctxEvent {e : ECode} {low handle fire : Nat} (h : d.ringsStopped k) :
    (d.ctxEvent s e low handle fire).ringsStopped k :=
  ⟨(Dev.bit_tenState_ctxEvent rfl).trans h.1, (Dev.bit_tenState_ctxEvent rfl).trans h.2⟩

@[simp] theorem Dev.raised_ctxEvent {e : ECode} {low handle fire : Nat} : (d.ctxEvent s e low handle fire).raised = d.raised :=
  Dev.area_of_reach (p := .raised) (x := ctxEventReach none) rfl rfl fun hx => (Footprint.holds_refl _ _).ctxEvent hx .any

/-- The rings of a slot are stopped and the owner knows of the reset. -/
def Dev.flrDone (d : Dev) (k : Nat) : Prop := d.ringsStopped k ∧ (ECode.pcieFlr, k) ∈ d.raised

theorem Dev.flrDone_flrSlot {n : Nat} (h : d.flrDone k ∨ k = n) : (d.flrSlot n).flrDone k := by
  refine ⟨(Dev.ringsStopped_stopRings (h.imp_left And.left)).ctxEvent, ?_⟩
  simp only [Dev.flrSlot, Dev.raise, Dev.raised_ctxEvent, List.mem_append, List.mem_singleton]
  exact h.imp And.right fun hk => congrArg _ hk

/-- Every slot that a function-level reset reaches is stopped and told. -/
theorem Dev.flrDone_each {ns : List Nat} (hk : k ∈ ns) : (d.each ns Dev.flrSlot).flrDone k :=
  Dev.each_of_mem (P := fun _ => True) (Q := (·.flrDone k)) hk trivial (fun _ _ _ => trivial)
    (fun _ _ => Dev.flrDone_flrSlot (.inr rfl)) fun _ _ _ h => Dev.flrDone_flrSlot (.inl h)

/-- A reset of the port, before the slots are told. -/
def Dev.pciConfigReset (d : Dev) (linkDown : Bool) : Dev :=
  let h : HstState := { d.hst with vec := [], fnMask := [], d3hot := [], pmeEn := [], pmeOn := [], l1Due := [],
                                   linkUp := d.hst.linkUp && !linkDown }
  let d0 : Dev := { d with hst := h }
  if linkDown then (d0.put .pcieStatus 0 0).irqPulse 1580 else d0.setBit .pcieStatus 0 17 false

/-- Slots, slot 0 aside, that are bound to PCIe. -/
def Dev.pcieSlots (d : Dev) : List Nat := (List.range 4096).filter fun k => k != 0 && d.slotBind k == 1

theorem Dev.pciReset_eq (d : Dev) (linkDown : Bool) :
    d.pciReset linkDown = (d.pciConfigReset linkDown).each (d.pciConfigReset linkDown).pcieSlots Dev.flrSlot := rfl

theorem Dev.slotBind_irqPulse {src : Nat} : (d.irqPulse src).slotBind k = d.slotBind k :=
  Dev.fld_of_reach (x := interruptReach) rfl (by decide) rfl (fun hx => (Footprint.holds_refl _ _).irqPulse hx) k

theorem Dev.slotBind_pciConfigReset {linkDown : Bool} : (d.pciConfigReset linkDown).slotBind k = d.slotBind k := by
  unfold Dev.pciConfigReset
  cases linkDown
  · exact Dev.fld_setFld_reg _ _ _ _ _ _ _ _ (by decide)
  · exact Dev.slotBind_irqPulse.trans (congrArg (bits · 24 2) (Dev.get_put_reg _ _ _ _ (by decide)))

theorem Dev.mem_pcieSlots_pciConfigReset {linkDown : Bool} (h0 : 0 < k) (hk : k < 4096) (hb : d.slotBind k = 1) :
    k ∈ (d.pciConfigReset linkDown).pcieSlots := by
  refine List.mem_filter.mpr ⟨List.mem_range.mpr hk, ?_⟩
  rw [Dev.slotBind_pciConfigReset, hb]
  simpa using h0.ne'

theorem Dev.flrDone_pciReset {linkDown : Bool} (h0 : 0 < k) (hk : k < 4096) (hb : d.slotBind k = 1) :
    (d.pciReset linkDown).flrDone k := by
  rw [Dev.pciReset_eq]
  exact Dev.flrDone_each (Dev.mem_pcieSlots_pciConfigReset h0 hk hb)

theorem Dev.linkUp_pciReset {linkDown : Bool} : (d.pciReset linkDown).hst.linkUp = (d.hst.linkUp && !linkDown) := by
  have hreset : (d.pciConfigReset linkDown).meets (powerStates (d.hst.linkUp && !linkDown) []) := by
    unfold Dev.pciConfigReset
    exact meets_ite (Dev.meets.irqPulse ⟨rfl, rfl⟩) ⟨rfl, rfl⟩
  rw [Dev.pciReset_eq]
  exact (hreset.each (f := Dev.flrSlot) fun _ _ h => h.flrSlot).linkUp_eq

theorem Dev.pcieStatus_pciReset : (d.pciReset true).get .pcieStatus 0 = 0 := by
  have hflr : ∀ (e : Dev) (ns : List Nat), (e.each ns Dev.flrSlot).get .pcieStatus 0 = e.get .pcieStatus 0 := fun e ns =>
    Dev.get_of_reach (x := flrSlotReach) rfl rfl
      (fun hx => (Footprint.holds_refl _ _).each fun _ _ ho => ho.flrSlot hx) 0
  rw [Dev.pciReset_eq, hflr]
  exact (Dev.get_of_reach (x := interruptReach) rfl rfl (fun hx => (Footprint.holds_refl _ _).irqPulse hx) 0).trans
    (Dev.get_put_same _ _ _ _)

end

/-! ### The link (R299, R301, R304) -/

/-- The link is up; PCIE_STATUS shows its generation and width, and L0. -/
def Dev.linkBits (d : Dev) (gen width : Nat) : Dev :=
  ((({ d with hst := { d.hst with linkUp := true } } : Dev).setFld .pcieStatus 0 0 3 gen).setFld .pcieStatus 0 8 5 width).setBit
    .pcieStatus 0 16 false

/-- What follows the bits of PCIE_STATUS as the link comes up. -/
def afterLinkUpReach : Reach := .of [.field .lneGlbStatus none 0 1, .field .cluStatus none 31 1, interruptReach, sendPbaReach,
  resumeDmaReach]

/-- As the link comes up, its references are good, PCIE_LINK is told, and what waited for it goes out. -/
def Dev.afterLinkUp (d : Dev) : Dev :=
  ((((d.setBit .lneGlbStatus 0 0 true).setBit .cluStatus 59 31 true).irqPulse 1580).each (List.range 64) Dev.sendPba).each
    (List.range 64) Dev.resumeDma

theorem Footprint.holds.afterLinkUp {F : Footprint} {d e : Dev} (he : F.holds d e) (h : afterLinkUpReach.within F d) :
    F.holds d e.afterLinkUp :=
  have ⟨hLneGlbStatus0, hCluStatus31, hinterrupt, hsendPba, hresumeDma, _⟩ := h
  ((((he.setBit hLneGlbStatus0 .any).setBit hCluStatus31 .any).irqPulse hinterrupt).each fun _ _ ho => ho.sendPba hsendPba).each
    fun _ _ ho => ho.resumeDma hresumeDma

theorem Dev.fld_pcieStatus_afterLinkUp (d : Dev) (l w : Nat) (hl : afterLinkUpReach.leaves .pcieStatus l w = true) :
    d.afterLinkUp.fld .pcieStatus 0 l w = d.fld .pcieStatus 0 l w :=
  Dev.fld_of_reach (x := afterLinkUpReach) rfl (by decide) hl (fun hx => (Footprint.holds_refl _ _).afterLinkUp hx) 0

theorem Dev.meets.afterLinkUp {I : PortInvariant} {d : Dev} (h : d.meets I) : d.afterLinkUp.meets I :=
  (h.setBit.setBit.irqPulse.each fun _ _ ho => ho.sendPba).each fun _ _ ho => ho.resumeDma

/-- Outside L1, what waited for its exit goes out and nothing comes to wait. -/
theorem Dev.l1Due_foldl_vecDue {d : Dev} {due : List (Nat × Nat)} (hl1 : d.inL1 = false) (hdue : d.hst.l1Due = []) :
    (due.foldl (fun d fv => if (d.vec fv.1 fv.2).count = 0 then d else d.vecDue fv.1 fv.2) d).inL1 = false ∧
      (due.foldl (fun d fv => if (d.vec fv.1 fv.2).count = 0 then d else d.vecDue fv.1 fv.2) d).hst.l1Due = [] := by
  induction due generalizing d with
  | nil => exact ⟨hl1, hdue⟩
  | cons fv due ih =>
    rw [List.foldl_cons]
    split
    · exact ih hl1 hdue
    · exact ih ((d.inL1_vecDue _ _).trans hl1) ((Dev.l1Due_vecDue hl1).trans hdue)

/-- Settles O41: a vector's message is sent, kept pending or sent as it is unmasked; what else a command runs leaves the link's
and the functions' states and the rings it has stopped. -/
theorem pcieFunctionsAndVectors : Obligations.PcieFunctionsAndVectors := by
  refine ⟨?timer, ?timerMasked, ?unmask, ?pmeRepeat, ?power, ?turnOff, ?vfFlr, ?pfFlr, ?linkUp, ?l1Entry, ?l1Exit⟩
  case timer =>
    intro s fn vec hcount htimer hv hf hlink hd3 hl1
    refine completes_of_run (f := fun d => _) rfl ?_
    rw [if_pos ⟨hcount, htimer⟩, Dev.vecDue_of_awake hv hf hlink hd3 hl1]
    exact ⟨congrArg Vec.count (s.dev.vec_sendVec_same _ _), rfl, rfl⟩
  case timerMasked =>
    intro s fn vec hcount htimer hv
    exact yields_of_run (f := fun d => _) rfl ((if_pos ⟨hcount, htimer⟩).trans (Dev.vecDue_of_masked hv))
  case unmask =>
    intro s fn vec hpba hf hlink hd3
    have hvec := s.dev.vec_setVec_same fn.val vec.val { s.dev.vec fn.val vec.val with masked := false }
    have hunheld : Unheld fn.val vec.val (s.dev.setVec fn.val vec.val { s.dev.vec fn.val vec.val with masked := false }) :=
      { fnMask := hf, linkUp := hlink, awake := hd3, unmasked := by rw [hvec], told := by simp [hpba] }
    exact completes_of_run (f := fun d => _) rfl (hunheld.sendPba (Dev.mem_vecsOf_of_pba vec.isLt (by rw [hvec]; exact hpba)))
  case pmeRepeat =>
    intro s fn vec hd3 hpme hpba
    have hany : ((s.dev.vecsOf fn.val).any fun v => (s.dev.vec fn.val v).pba) = true :=
      List.any_eq_true.mpr ⟨vec.val, Dev.mem_vecsOf_of_pba vec.isLt hpba, hpba⟩
    exact yields_of_run (f := fun d => _) rfl (if_pos (by rw [hd3, hpme, hany]; rfl))
  case power =>
    intro s fn pmeEn
    refine ⟨completes_of_run (f := (·.enterD3 fn.val pmeEn)) rfl ⟨?_, s.dev.pmeEn_enterD3 _ _, fun f hne => ?_⟩,
      completes_of_run (f := fun d => ((d.setD3 fn.val false).sendPba fn.val).resumeDma fn.val) rfl ?_⟩
    · rw [Dev.inD3_enterD3, Dev.inD3_setD3_same]
    · rw [Dev.inD3_enterD3, Dev.inD3_setD3_ne hne, Dev.inD3_flushVecs]
    · rw [(Dev.meets_powerStates _).sendPba.resumeDma.inD3_eq, Dev.inD3_setD3_same]
  case turnOff =>
    exact fun s _ _ => completes_of_run
      (f := fun d => (d.each (List.range 64) fun e n => (e.flushVecs n).setD3 n true).send .pmeToAck) rfl
      ⟨fun f hf => (Dev.inD3_send _ _ f).trans (Dev.inD3_turnOff (List.mem_range.mpr hf)), List.mem_append_right _ (List.mem_singleton_self _)⟩
  case vfFlr =>
    intro s vf k hvf hk
    obtain ⟨⟨hsq, hcq⟩, hraised⟩ := Dev.flrDone_each (d := s.dev) hk
    refine completes_of_run (f := fun d => if vf.val = 0 then d else d.each (d.fnSlots vf.val) Dev.flrSlot) rfl ?_
    rw [if_neg hvf]
    exact ⟨hsq, hcq, hraised⟩
  case pfFlr =>
    intro s linkDown k h0 hk hb
    obtain ⟨⟨hsq, hcq⟩, hraised⟩ := Dev.flrDone_pciReset (linkDown := linkDown) h0 hk hb
    exact completes_of_run (f := (·.pciReset linkDown)) rfl ⟨hsq, hcq, hraised, Dev.linkUp_pciReset, fun hdown => hdown ▸ Dev.pcieStatus_pciReset⟩
  case linkUp =>
    intro s gen width
    have hgen : gen.toNat % 2 ^ 3 = gen.toNat := Nat.mod_eq_of_lt gen.isLt
    have hwidth : width.toNat % 2 ^ 5 = width.toNat := Nat.mod_eq_of_lt width.isLt
    have hup : (s.dev.linkBits gen.toNat width.toNat).afterLinkUp.meets (powerStates true s.dev.hst.d3hot) :=
      Dev.meets.afterLinkUp ⟨rfl, rfl⟩
    refine completes_of_run (f := fun d => (d.linkBits gen.toNat width.toNat).afterLinkUp) rfl ⟨hup.linkUp_eq, ?_, ?_, ?_⟩
    · rw [Dev.fld_pcieStatus_afterLinkUp _ _ _ rfl, Dev.linkBits, Dev.fld_setBit_other _ _ _ _ _ _ _ (by decide) (by decide),
        Dev.fld_setFld_other _ _ _ _ _ _ _ _ (by decide) (by decide), Dev.fld_setFld_same _ _ _ _ _ _ (by decide), hgen]
    · rw [Dev.fld_pcieStatus_afterLinkUp _ _ _ rfl, Dev.linkBits, Dev.fld_setBit_other _ _ _ _ _ _ _ (by decide) (by decide),
        Dev.fld_setFld_same _ _ _ _ _ _ (by decide), hwidth]
    · rw [Dev.bit, Dev.fld_pcieStatus_afterLinkUp _ _ _ rfl]
      exact Dev.bit_setBit_same _ _ _ _ _ (by decide)
  case l1Entry =>
    intro s hlink
    exact yields_of_run (f := fun d => _) rfl (if_pos hlink)
  case l1Exit =>
    exact fun s => completes_of_run (f := fun d => _) rfl
      (Dev.l1Due_foldl_vecDue (Dev.bit_setBit_same s.dev .pcieStatus 0 16 false (by decide)) rfl)

end Sys2Proof.Machine
end

section
open Sys2Proof
namespace Sys2Proof.Machine

/-! ### Datagrams sent (R292, R295, R297, R298) -/

section
variable {d : Dev} {s : Nat}

@[simp] theorem Dev.sess_setSess_same (d : Dev) (s : Nat) (x : Sess) : (d.setSess s x).sess s = x := Tab.get_set_same ..
@[simp] theorem Dev.ctx_setCtx_same (d : Dev) (s : Nat) (c : Ctx) : (d.setCtx s c).ctx s = c := Tab.get_set_same ..
@[simp] theorem Dev.sess_setCtx (d : Dev) (s : Nat) (c : Ctx) (k : Nat) : (d.setCtx s c).sess k = d.sess k := rfl
@[simp] theorem Dev.get_setSess (d : Dev) (s : Nat) (x : Sess) (r : Reg) (k : Nat) : (d.setSess s x).get r k = d.get r k := rfl
@[simp] theorem Dev.get_setCtx (d : Dev) (s : Nat) (c : Ctx) (r : Reg) (k : Nat) : (d.setCtx s c).get r k = d.get r k := rfl

/-- One datagram put on a port: it is sent where the port's link is up. -/
theorem Dev.xptEmitAt_eq (d : Dev) (s port v rxNext sack type seq : Nat) (payload : List Byte) :
    ∃ c bs, d.xptEmitAt s port v rxNext sack type seq payload =
      if d.fld .epStatus port 28 4 = 0 then d.setCtx s c else (d.setCtx s c).send (.datagram s port bs) := ⟨_, _, rfl⟩

section
variable {port v rxNext sack type seq : Nat} {payload : List Byte}

@[simp] theorem Dev.raised_xptEmitAt : (d.xptEmitAt s port v rxNext sack type seq payload).raised = d.raised := by
  obtain ⟨c, bs, h⟩ := d.xptEmitAt_eq s port v rxNext sack type seq payload
  rw [h, apply_ite Dev.raised]
  exact ite_self _

@[simp] theorem Dev.draw_xptEmitAt : (d.xptEmitAt s port v rxNext sack type seq payload).draw = d.draw := by
  obtain ⟨c, bs, h⟩ := d.xptEmitAt_eq s port v rxNext sack type seq payload
  rw [h, apply_ite Dev.draw]
  exact ite_self _

@[simp] theorem Dev.hst_xptEmitAt : (d.xptEmitAt s port v rxNext sack type seq payload).hst = d.hst := by
  obtain ⟨c, bs, h⟩ := d.xptEmitAt_eq s port v rxNext sack type seq payload
  rw [h, apply_ite Dev.hst]
  exact ite_self _

@[simp] theorem Dev.regs_xptEmitAt : (d.xptEmitAt s port v rxNext sack type seq payload).regs = d.regs := by
  obtain ⟨c, bs, h⟩ := d.xptEmitAt_eq s port v rxNext sack type seq payload
  rw [h, apply_ite Dev.regs]
  exact ite_self _

@[simp] theorem Dev.get_xptEmitAt {r : Reg} {k : Nat} : (d.xptEmitAt s port v rxNext sack type seq payload).get r k = d.get r k := by
  simp only [Dev.get, Dev.rd, Dev.regs_xptEmitAt]

/-- What a controller has sent after another one: a datagram of a session where the port's link is up, nothing otherwise. -/
def Dev.emitted (d e : Dev) (s port : Nat) : Prop :=
  if d.fld .epStatus port 28 4 = 0 then e.outs = d.outs else ∃ bs, e.outs = d.outs ++ [.datagram s port bs]

theorem Dev.emitted_xptEmitAt : d.emitted (d.xptEmitAt s port v rxNext sack type seq payload) s port := by
  obtain ⟨c, bs, h⟩ := d.xptEmitAt_eq s port v rxNext sack type seq payload
  rw [h, Dev.emitted]
  split
  · rfl
  · exact ⟨bs, rfl⟩

end

section
variable {type seq : Nat} {payload : List Byte}

/-- A datagram of a session carries the ACK that was due. -/
theorem Dev.sess_xptEmit : (d.xptEmit s type seq payload).sess s = { d.sess s with ackDue := false } := by
  rw [Dev.xptEmit, Dev.sess, Dev.hst_xptEmitAt]
  exact Dev.sess_setSess_same ..

@[simp] theorem Dev.draw_xptEmit : (d.xptEmit s type seq payload).draw = d.draw := Dev.draw_xptEmitAt

@[simp] theorem Dev.get_xptEmit {r : Reg} {k : Nat} : (d.xptEmit s type seq payload).get r k = d.get r k := Dev.get_xptEmitAt

theorem Dev.emitted_xptEmit : d.emitted (d.xptEmit s type seq payload) s (d.sessPort s) :=
  Dev.emitted_xptEmitAt (d := d.setSess s { d.sess s with ackDue := false })

/-- A datagram that takes a SEQ goes out while fewer than 64 are unacknowledged. -/
theorem Dev.xptSend_eq_xptEmit (hbound : d.sessBound s = true) (hroom : (d.sess s).unacked.length < 64) :
    d.xptSend s type payload = (d.setSess s { d.sess s with
      txSeq := ((d.sess s).txSeq + 1) % seqMod (d.sessVersion s), unacked := (d.sess s).unacked ++
        [{ seq := (d.sess s).txSeq, type := type, payload := payload, resends := 0, sacked := false }] }).xptEmit s type
      (d.sess s).txSeq payload := by
  have hfull : ¬ 64 ≤ (d.sess s).unacked.length := by omega
  simp only [Dev.xptSend, hbound, if_neg hfull]
  rfl

theorem Dev.sess_xptSend (hbound : d.sessBound s = true) (hroom : (d.sess s).unacked.length < 64) :
    (d.xptSend s type payload).sess s = { d.sess s with
      txSeq := ((d.sess s).txSeq + 1) % seqMod (d.sessVersion s), ackDue := false, unacked := (d.sess s).unacked ++
        [{ seq := (d.sess s).txSeq, type := type, payload := payload, resends := 0, sacked := false }] } := by
  rw [Dev.xptSend_eq_xptEmit hbound hroom, Dev.sess_xptEmit, Dev.sess_setSess_same]

theorem Dev.emitted_xptSend (hbound : d.sessBound s = true) (hroom : (d.sess s).unacked.length < 64) :
    d.emitted (d.xptSend s type payload) s (d.sessPort s) := by
  rw [Dev.xptSend_eq_xptEmit hbound hroom]
  exact Dev.emitted_xptEmit (d := d.setSess s _)

end

/-- The completion entries that wait go out in one datagram. -/
theorem Dev.xptFlushCqe_eq_xptSend (hbound : d.sessBound s = true) (hwait : (d.sess s).cqWait ≠ []) :
    ∃ payload, d.xptFlushCqe s = (d.setSess s { d.sess s with cqWait := [] }).xptSend s 6 payload := by
  obtain ⟨⟨pos, words⟩, rest, hcons⟩ := List.exists_cons_of_ne_nil hwait
  exact ⟨_, by simp only [Dev.xptFlushCqe, hcons, hbound]; rfl⟩

/-! ### Datagrams taken in SEQ order (R293, R294, R297) -/

/-- The session of a slot after it took the next datagram of a version. -/
def Dev.tookNext (d : Dev) (g : Datagram) : Dev :=
  (d.setSess g.slot (d.sess g.slot)).setSess g.slot
    { d.sess g.slot with rxNext := (g.seq + 1) % seqMod g.version, ackDue := true }

variable {g : Datagram} {type : Nat} {data : List Byte}

theorem xptInWindow_next (version n : Nat) : xptInWindow version n n = true := by
  unfold xptInWindow
  split
  · rw [decide_eq_true_eq]
    omega
  · exact beq_self_eq_true n

/-- With nothing unacknowledged and nothing waiting, an ACK changes nothing. -/
theorem Dev.xptTakeAck_of_idle {n : Nat} (h : d.sess g.slot = { Sess.empty with rxNext := n }) :
    d.xptTakeAck g = d.setSess g.slot (d.sess g.slot) := by
  simp only [Dev.xptTakeAck, h, Sess.empty]
  rfl

/-- The next datagram of a session that holds nothing is delivered. -/
theorem Dev.xptOrder_of_next (h : d.sess g.slot = { Sess.empty with rxNext := g.seq }) :
    d.xptOrder g = (d.tookNext g).xptDeliver g.slot g.type g.payload := by
  have hack := Dev.xptTakeAck_of_idle h
  simp only [Dev.xptOrder, hack, Dev.sess_setSess_same, Dev.tookNext]
  rw [h]
  simp only [xptInWindow_next, Sess.empty, List.length_nil, Dev.xptDrain, Bool.not_true, Bool.false_eq_true, if_false, if_true]

/-- A datagram that fails the checks of R293 is counted. -/
theorem Dev.xptArrive_of_unchecked (h : d.xptCheck data = none) : d.xptArrive type data = d.count .xptAuthDrop 0 := by
  simp only [Dev.xptArrive, h, Dev.xptDrop]

/-- A datagram of a bound session in its version, that takes a SEQ, is taken in order. -/
theorem Dev.xptArrive_of_next (hc : d.xptCheck data = some g) (ht : g.type = type) (h8 : type ≠ 8)
    (hb : d.sessBound g.slot = true) (hv : g.version = d.sessVersion g.slot)
    (hs : d.sess g.slot = { Sess.empty with rxNext := g.seq }) :
    d.xptArrive type data = (d.tookNext g).xptDeliver g.slot type g.payload := by
  subst ht
  simp only [Dev.xptArrive, hc, ne_eq, not_true_eq_false, if_false, if_neg h8]
  rw [if_neg (by simp [hb, hv]), Dev.xptOrder_of_next hs]

/-- An ACK of a bound session in its version is taken. -/
theorem Dev.xptArrive_of_ack (hc : d.xptCheck data = some g) (ht : g.type = 8) (hb : d.sessBound g.slot = true)
    (hv : g.version = d.sessVersion g.slot) : d.xptArrive 8 data = d.xptTakeAck g := by
  simp only [Dev.xptArrive, hc, ht, ne_eq, not_true_eq_false, if_false, if_true]
  rw [if_neg (by simp [hb, hv])]

@[simp] theorem Dev.sess_tookNext : (d.tookNext g).sess g.slot =
    { d.sess g.slot with rxNext := (g.seq + 1) % seqMod g.version, ackDue := true } := Dev.sess_setSess_same ..

/-- Under version 2 an ACK frees the datagrams before it; with none waiting nothing is sent. -/
theorem Dev.unacked_xptTakeAck (hq : (d.sess g.slot).queue = []) (hv : g.version = 2) :
    ((d.xptTakeAck g).sess g.slot).unacked = (d.sess g.slot).unacked.filter
      fun u => decide ((u.seq + 2 ^ 16 - g.ack % 2 ^ 16) % 2 ^ 16 < 2 ^ 15) := by
  simp only [Dev.xptTakeAck, hq, hv, List.length_nil, Dev.xptRefill, Dev.sess_setSess_same]
  exact List.map_id _

/-! ### What a datagram brings about (Table 11.4) -/

theorem Dev.hst_dropUnits (d : Dev) (s n : Nat) (use : UnitUse) : (d.dropUnits s n use).hst = d.hst := by
  unfold Dev.dropUnits
  dsimp only
  split
  · rfl
  · rfl

theorem Dev.ctx_dropUnits (d : Dev) (s n : Nat) (use : UnitUse) (k : Nat) : (d.dropUnits s n use).ctx k = d.ctx k := by
  unfold Dev.dropUnits
  dsimp only
  split
  · rfl
  · rfl

theorem Dev.get_xptSession_dropUnits (d : Dev) (s n : Nat) (use : UnitUse) (k : Nat) :
    (d.dropUnits s n use).get .xptSession k = d.get .xptSession k :=
  Dev.get_of_reach (x := dropUnitsReach) rfl rfl (fun hx => (Footprint.holds_refl _ _).dropUnits hx) k

/-- A session that ends leaves neither its binding nor its staging area nor what it had sent. -/
theorem Dev.xptEnd_clears (d : Dev) (s : Nat) :
    (d.xptEnd s).get .xptSession s = 0 ∧ ((d.xptEnd s).ctx s).stagingUnits = 0 ∧ ((d.xptEnd s).sess s).unacked = [] := by
  have hclear : (((d.setCtx s { d.ctx s with stagingUnits := 0 }).setSess s Sess.empty).put .xptSession s 0).get .xptSession s = 0 ∧
      ((((d.setCtx s { d.ctx s with stagingUnits := 0 }).setSess s Sess.empty).put .xptSession s 0).ctx s).stagingUnits = 0 ∧
      ((((d.setCtx s { d.ctx s with stagingUnits := 0 }).setSess s Sess.empty).put .xptSession s 0).sess s).unacked = [] :=
    ⟨Dev.get_put_same _ _ _ _, congrArg Ctx.stagingUnits (Dev.ctx_setCtx_same ..), congrArg Sess.unacked (Dev.sess_setSess_same ..)⟩
  unfold Dev.xptEnd
  dsimp only
  split
  · exact hclear
  · rw [Dev.get_xptSession_dropUnits, Dev.ctx_dropUnits, Dev.sess, Dev.hst_dropUnits]
    exact hclear

/-- Bytes written into the staging area read back there, and the session is otherwise as before. -/
theorem Dev.xptStage_eq {off : Nat} (h : off + data.length ≤ 2 ^ 20 * d.fld .xptSession s 0 16) :
    d.xptStage s off data = d.setSess s { d.sess s with staging := Mem.writeBytes (d.sess s).staging off data } :=
  if_neg (by omega)

def doorbellErrReach : Reach := .of [.reg .tenDbErr none, eventReach .tenEvent none 0, .area .raised]

theorem Footprint.holds.doorbellErr {F : Footprint} {e : Dev} (he : F.holds d e) (h : doorbellErrReach.within F d) :
    F.holds d (e.doorbellErr s) :=
  have ⟨hTenDbErr, hTenEvent0, hraised, _⟩ := h
  ((he.count hTenDbErr .any).event hTenEvent0 .any).raise hraised

def cqDoorbellReach : Reach := .of [doorbellErrReach, .reg .tenCqHead none, postDoneReach]

theorem Footprint.holds.cqDoorbell {F : Footprint} {e : Dev} {v : Nat} (he : F.holds d e) (h : cqDoorbellReach.within F d) :
    F.holds d (e.cqDoorbell s v) :=
  have ⟨hdoorbellErr, hTenCqHead, hpostDone, _⟩ := h
  holds_ite (he.doorbellErr hdoorbellErr) ((he.put hTenCqHead .any).postDone hpostDone)

/-- A valid SQ doorbell stays as it is told, whatever comes of the CQ doorbell after it. -/
theorem Dev.tenSqTail_doorbells {sq cq : Nat} (hpos : bits sq 0 16 < d.sqDepth s)
    (hcount : ringCount (d.sqDepth s) sq (d.get .tenSqHead s) ≤ d.sqDepth s) :
    ((d.sqDoorbell s sq).cqDoorbell s cq).get .tenSqTail s = bits sq 0 17 := by
  have hsq : d.sqDoorbell s sq = d.put .tenSqTail s (bits sq 0 17) := if_neg (by omega)
  rw [hsq, Dev.get_of_reach (x := cqDoorbellReach) (d := d.put .tenSqTail s (bits sq 0 17)) rfl rfl
    (fun hx => (Footprint.holds_refl _ _).cqDoorbell hx), Dev.get_put_same, Nat.mod_eq_of_lt]
  exact (bits_lt sq 0 17).trans (by decide)

/-! ### Sessions bound (R295) -/

/-- BOUND, VERSION and PORT of XPT_SESSION. -/
theorem bits_sessionWord {v ep mb : Nat} (hv : v < 8) (hep : ep < 32) (hmb : mb < 2 ^ 16) :
    bits ((2 ^ 31 + v <<< 28 + ep <<< 16 + mb) % 2 ^ 64) 31 1 = 1 ∧ bits ((2 ^ 31 + v <<< 28 + ep <<< 16 + mb) % 2 ^ 64) 28 3 = v ∧
      bits ((2 ^ 31 + v <<< 28 + ep <<< 16 + mb) % 2 ^ 64) 16 5 = ep := by
  simp only [bits, Nat.shiftLeft_eq, Nat.shiftRight_eq_div_pow]
  omega

/-- A session bound anew, before its answer is sent. -/
def Dev.xptOpened (d : Dev) (s ep peer port vlan v mb : Nat) (p : List Byte) : Dev :=
  let c := d.ctx s
  let d1 := if c.stagingUnits = 0 then d else d.dropUnits s c.stagingUnits .staging
  let d2 := (d1.takeUnits s (16 * mb) .staging).setCtx s { c with stagingUnits := 16 * mb }
  let x : Sess := { Sess.empty with
    peer := peer, udpPort := port, vlan := vlan, rxNext := (le32At p 4 + 1) % seqMod v,
    coalCount := bits (le32At p 12) 0 8, coalUs := bits (le32At p 12) 8 24, cqWait := (d.sess s).cqWait }
  (((d2.setSess s x).put .xptSession s (2 ^ 31 + v <<< 28 + ep <<< 16 + mb)).setBit .tenState s 0 true).setBit .tenState s 1 true

/-- What is sent and posted once a session is bound. -/
def Dev.xptWelcome (d : Dev) (s v mb : Nat) : Dev :=
  let d1 := d.xptSend s 2 (leBytes v 4 ++ leBytes 0 4 ++ leBytes mb 4)
  let d2 := if max 1 (d1.sess s).coalCount ≤ (d1.sess s).cqWait.length then d1.xptFlushCqe s else d1
  Dev.postDone (d2.ctx s).taken.length d2 s

def xptWelcomeReach : Reach := .of [xptSendReach, xptFlushCqeReach, postDoneReach]

theorem Footprint.holds.xptWelcome {F : Footprint} {e : Dev} {v mb : Nat} (he : F.holds d e) (h : xptWelcomeReach.within F d) :
    F.holds d (e.xptWelcome s v mb) :=
  have ⟨hxptSend, hxptFlushCqe, hpostDone, _⟩ := h
  have hd1 := he.xptSend hxptSend
  (holds_ite (hd1.xptFlushCqe hxptFlushCqe) hd1).postDone hpostDone

theorem Dev.get_xptWelcome {v mb : Nat} {r : Reg} (hr : xptWelcomeReach.regs.contains r = false) (k : Nat) :
    (d.xptWelcome s v mb).get r k = d.get r k :=
  Dev.get_of_reach (x := xptWelcomeReach) rfl hr (fun hx => (Footprint.holds_refl _ _).xptWelcome hx) k

section
variable {ep peer port vlan v mb : Nat} {p : List Byte}

theorem Dev.get_xptSession_xptOpened :
    (d.xptOpened s ep peer port vlan v mb p).get .xptSession s = (2 ^ 31 + v <<< 28 + ep <<< 16 + mb) % 2 ^ 64 := by
  rw [Dev.xptOpened, Dev.setBit, Dev.setFld, Dev.get_put_reg _ _ _ _ (by decide), Dev.setBit, Dev.setFld,
    Dev.get_put_reg _ _ _ _ (by decide), Dev.get_put_same]

theorem Dev.bit_tenState_xptOpened : (d.xptOpened s ep peer port vlan v mb p).bit .tenState s 0 = true ∧
    (d.xptOpened s ep peer port vlan v mb p).bit .tenState s 1 = true := by
  refine ⟨?_, Dev.bit_setBit_same _ _ _ _ _ (by decide)⟩
  rw [Dev.xptOpened, Dev.bit, Dev.fld_setBit_other _ _ _ _ _ _ _ (by decide) (by decide)]
  exact Dev.bit_setBit_same _ _ _ _ _ (by decide)

/-- A granted HELLO leaves the session bound in its version on its port, and both rings enabled. -/
theorem Dev.xptOpened_welcome (hv : v < 8) (hep : ep < 32) (hmb : mb < 2 ^ 16) :
    let e := (d.xptOpened s ep peer port vlan v mb p).xptWelcome s v mb
    e.sessBound s = true ∧ e.sessVersion s = v ∧ e.sessPort s = ep ∧ e.bit .tenState s 0 = true ∧ e.bit .tenState s 1 = true := by
  obtain ⟨hbound, hversion, hport⟩ := bits_sessionWord hv hep hmb
  have hword : ((d.xptOpened s ep peer port vlan v mb p).xptWelcome s v mb).get .xptSession s =
    (2 ^ 31 + v <<< 28 + ep <<< 16 + mb) % 2 ^ 64 := (Dev.get_xptWelcome rfl s).trans Dev.get_xptSession_xptOpened
  have hfld : ∀ l w, ((d.xptOpened s ep peer port vlan v mb p).xptWelcome s v mb).fld .xptSession s l w =
    bits ((2 ^ 31 + v <<< 28 + ep <<< 16 + mb) % 2 ^ 64) l w := fun l w => congrArg (bits · l w) hword
  have hstate : ∀ i, ((d.xptOpened s ep peer port vlan v mb p).xptWelcome s v mb).bit .tenState s i =
    (d.xptOpened s ep peer port vlan v mb p).bit .tenState s i := fun i =>
    congrArg (bits · i 1 == 1) (Dev.get_xptWelcome (r := .tenState) rfl s)
  obtain ⟨hsq, hcq⟩ := Dev.bit_tenState_xptOpened (d := d) (s := s) (ep := ep) (peer := peer) (port := port) (vlan := vlan) (v := v)
    (mb := mb) (p := p)
  exact ⟨congrArg (· == 1) ((hfld 31 1).trans hbound), (hfld 28 3).trans hversion, (hfld 16 5).trans hport,
    (hstate 0).trans hsq, (hstate 1).trans hcq⟩

end

theorem Dev.xptVersion_lt (d : Dev) (w : Nat) : d.xptVersion w < 8 := by
  unfold Dev.xptVersion
  omega

theorem Dev.xptHello_of_granted {ep peer port vlan : Nat} (hc : d.xptCheck data = some g) (ht : g.type = 1)
    (hin : d.inTransit .slot g.slot = false) (hg : d.xptGrants g.slot (le32At g.payload 8) = true) :
    d.xptHello ep peer port vlan data =
      (d.xptOpened g.slot ep peer port vlan (d.xptVersion (le32At g.payload 0)) (le32At g.payload 8) g.payload).xptWelcome g.slot
        (d.xptVersion (le32At g.payload 0)) (le32At g.payload 8) := by
  simp only [Dev.xptHello, hc, ht, hin, hg]
  rfl

theorem Dev.xptHello_of_refused {ep peer port vlan : Nat} (hc : d.xptCheck data = some g) (ht : g.type = 1)
    (hin : d.inTransit .slot g.slot = false) (hg : d.xptGrants g.slot (le32At g.payload 8) = false) :
    ∃ rxNext payload, d.xptHello ep peer port vlan data = (d.raise .quotaDram g.slot).xptEmitAt g.slot ep
      (d.xptVersion (le32At g.payload 0)) rxNext 0 2 0 payload :=
  ⟨_, _, by simp only [Dev.xptHello, hc, ht, hin, hg]; rfl⟩

/-! ### Sessions lost (R297) -/

theorem Dev.sessBound_xptLost (d : Dev) (s : Nat) : (d.xptLost s).sessBound s = false := by
  have hrest : ∀ e : Dev, (((e.stopRings s).ctxEvent 0 .xptSessionLost 0 (d.ctxHandle s) 0).raise .xptSessionLost s).get .xptSession s =
      e.get .xptSession s := fun e =>
    Dev.get_of_reach (x := .of [stopRingsReach none, ctxEventReach none, .area .raised]) rfl rfl
      (fun ⟨hstopRings, hctxEvent, hraised, _⟩ =>
        (((Footprint.holds_refl _ _).stopRings hstopRings .any).ctxEvent hctxEvent .any).raise hraised) s
  refine (congrArg (bits · 31 1 == 1) (hrest _)).trans ?_
  exact Dev.bit_setBit_same _ _ _ _ _ (by decide)

theorem Dev.ringsStopped_xptLost (d : Dev) (s : Nat) : (d.xptLost s).ringsStopped s :=
  (Dev.ringsStopped_stopRings (.inr rfl)).ctxEvent

end

/-- Settles O39: the next datagram of an idle session is taken and delivered, a granted HELLO binds and then sends and posts only,
and each timer sends at most one datagram. -/
theorem transportSessionsRunByTheirDatagrams : Obligations.TransportSessionsRunByTheirDatagrams := by
  refine ⟨fun s data => ⟨?entries, ?write, ?close, ?ack, ?doorbell⟩, ?hello, ?ackTimer, ?noAck, ?resend, ?lost, ?coalesce⟩
  case entries =>
    refine completes_of_run (f := (·.xptArrive 3 data)) rfl ?_
    cases hc : s.dev.xptCheck data with
    | none => exact Dev.xptArrive_of_unchecked hc
    | some g =>
      intro ht hb hv hs
      rw [Dev.xptArrive_of_next hc ht (by decide) hb hv hs]
      exact ⟨congrArg Sess.rxNext Dev.sess_tookNext, congrArg Sess.ackDue Dev.sess_tookNext, rfl⟩
  case write =>
    refine completes_of_run (f := (·.xptArrive 5 data)) rfl ?_
    cases hc : s.dev.xptCheck data with
    | none => exact Dev.xptArrive_of_unchecked hc
    | some g =>
      intro ht hb hv hs hroom
      have hstage : (s.dev.tookNext g).xptDeliver g.slot 5 g.payload = _ := Dev.xptStage_eq (d := s.dev.tookNext g) hroom
      rw [Dev.xptArrive_of_next hc ht (by decide) hb hv hs, hstage, Dev.sess_setSess_same]
      exact ⟨congrArg Sess.rxNext Dev.sess_tookNext, fun i hi => Mem.read_writeBytes_inside _ _ _ hi⟩
  case close =>
    refine completes_of_run (f := (·.xptArrive 9 data)) rfl ?_
    cases hc : s.dev.xptCheck data with
    | none => exact Dev.xptArrive_of_unchecked hc
    | some g =>
      intro ht hb hv hs
      rw [Dev.xptArrive_of_next hc ht (by decide) hb hv hs]
      exact (s.dev.tookNext g).xptEnd_clears g.slot
  case ack =>
    refine completes_of_run (f := (·.xptArrive 8 data)) rfl ?_
    cases hc : s.dev.xptCheck data with
    | none => exact Dev.xptArrive_of_unchecked hc
    | some g =>
      intro ht hb hv hq h2
      rw [Dev.xptArrive_of_ack hc ht hb hv]
      exact Dev.unacked_xptTakeAck hq h2
  case doorbell =>
    refine completes_of_run (f := (·.xptArrive 4 data)) rfl ?_
    cases hc : s.dev.xptCheck data with
    | none => exact Dev.xptArrive_of_unchecked hc
    | some g =>
      intro ht hb hv hs _ hin hpos hcount
      have hring : (s.dev.tookNext g).xptDeliver g.slot 4 g.payload =
          ((s.dev.tookNext g).sqDoorbell g.slot (le32At g.payload 0)).cqDoorbell g.slot (le32At g.payload 4) :=
        if_neg (c := 4 = 4 ∧ (s.dev.tookNext g).inTransit .slot g.slot = true) fun h => Bool.false_ne_true (hin.symm.trans h.2)
      rw [Dev.xptArrive_of_next hc ht (by decide) hb hv hs, hring]
      exact Dev.tenSqTail_doorbells (d := s.dev.tookNext g) hpos hcount
  case hello =>
    intro s ep peer port vlan data
    refine completes_of_run (f := (·.xptHello ep.val peer.toNat port.toNat vlan.toNat data)) rfl ?_
    cases hc : s.dev.xptCheck data with
    | none => simp only [Dev.xptHello, hc, Dev.xptDrop]
    | some g =>
      intro ht hin
      split
      next hg =>
        have hmb : le32At g.payload 8 < 2 ^ 16 := by
          simp only [Dev.xptGrants, Bool.and_eq_true, decide_eq_true_eq] at hg
          omega
        rw [Dev.xptHello_of_granted hc ht hin hg]
        exact Dev.xptOpened_welcome (s.dev.xptVersion_lt _) (ep.isLt.trans (by decide)) hmb
      next hg =>
        obtain ⟨rxNext, payload, he⟩ := Dev.xptHello_of_refused (ep := ep.val) (peer := peer.toNat) (port := port.toNat)
          (vlan := vlan.toNat) hc ht hin (Bool.eq_false_iff.mpr hg)
        rw [he, Dev.get_xptEmitAt, Dev.raised_xptEmitAt]
        exact ⟨rfl, List.mem_append_right _ (List.mem_singleton_self _)⟩
  case ackTimer =>
    intro s slot hb hdue
    refine completes_of_run (f := fun d => _) rfl ?_
    rw [if_pos (by rw [hb, hdue]; rfl), Dev.sess_xptEmit, Dev.draw_xptEmit]
    exact ⟨rfl, rfl, rfl, Dev.emitted_xptEmit (d := s.dev.drawn)⟩
  case noAck =>
    intro s slot h
    refine yields_of_run (f := fun d => _) rfl (if_neg ?_)
    rw [Bool.and_eq_true]
    rintro ⟨hb, hdue⟩
    exact h.elim (fun hnone => Bool.false_ne_true (hnone.symm.trans hb)) fun hnone => Bool.false_ne_true (hnone.symm.trans hdue)
  case resend =>
    intro s slot seq u hu hresends
    refine completes_of_run (f := fun d => _) rfl ?_
    dsimp only
    rw [hu]
    dsimp only
    rw [if_neg (by omega), Dev.sess_xptEmit, Dev.get_xptEmit]
    have hregs : ∀ (x : Sess) (r : Reg) (k : Nat), r ≠ .xptResends →
        ((s.dev.setSess slot.val x).count .xptResends slot.val).get r k = s.dev.get r k := fun x r k hr =>
      Dev.get_put_reg _ _ _ _ hr
    refine ⟨congrArg Sess.unacked (Dev.sess_setSess_same ..), Dev.get_count_same _ _ _, ?_⟩
    have hsent := Dev.emitted_xptEmit (s := slot.val) (type := u.type) (seq := u.seq) (payload := u.payload)
      (d := (s.dev.setSess slot.val { s.dev.sess slot.val with unacked := (s.dev.sess slot.val).unacked.map fun w =>
        if w.seq = u.seq then { w with resends := w.resends + 1 } else w }).count .xptResends slot.val)
    simp only [Dev.emitted, Dev.sessPort, Dev.fld, hregs _ .xptSession _ (by decide), hregs _ .epStatus _ (by decide)] at hsent
    exact hsent
  case lost =>
    intro s slot seq u hu hresends
    refine completes_of_run (f := fun d => _) rfl ?_
    dsimp only
    rw [hu]
    dsimp only
    rw [if_pos hresends]
    obtain ⟨hsq, hcq⟩ := s.dev.ringsStopped_xptLost slot.val
    exact ⟨s.dev.sessBound_xptLost _, hsq, hcq, List.mem_append_right _ (List.mem_singleton_self _)⟩
  case coalesce =>
    intro s slot hb hwait hroom
    obtain ⟨payload, hflush⟩ := Dev.xptFlushCqe_eq_xptSend hb hwait
    have hopen := s.dev.sess_setSess_same slot.val { s.dev.sess slot.val with cqWait := [] }
    have hroom' : ((s.dev.setSess slot.val { s.dev.sess slot.val with cqWait := [] }).sess slot.val).unacked.length < 64 := by
      rw [hopen]; exact hroom
    refine completes_of_run (f := (·.xptFlushCqe slot.val)) rfl ?_
    rw [hflush, Dev.sess_xptSend (d := s.dev.setSess slot.val _) hb hroom', hopen]
    exact ⟨rfl, List.length_append, Dev.emitted_xptSend (d := s.dev.setSess slot.val _) hb hroom'⟩

end Sys2Proof.Machine
end

section
open Sys2Proof
namespace Sys2Proof.Machine

/-! ### Every value of a table -/

section
variable {κ α : Type} [DecidableEq κ] {t : Tab κ α} {k : κ} {v : α} {p : α → Bool}

theorem Tab.all_erase (h : t.all (fun x => p x.2) = true) : (Tab.erase t k).all (fun x => p x.2) = true := by
  induction t with
  | nil => rfl
  | cons x t ih =>
    obtain ⟨j, w⟩ := x
    obtain ⟨hw, ht⟩ := Bool.and_eq_true_iff.mp h
    unfold Tab.erase
    split
    · exact ih ht
    · exact Bool.and_eq_true_iff.mpr ⟨hw, ih ht⟩

theorem Tab.all_set (h : t.all (fun x => p x.2) = true) (hv : p v = true) : (Tab.set t k v).all (fun x => p x.2) = true :=
  Bool.and_eq_true_iff.mpr ⟨hv, Tab.all_erase h⟩

theorem Tab.all_get (h : t.all (fun x => p x.2) = true) (hv : p v = true) : p (Tab.get t k v) = true := by
  induction t with
  | nil => exact hv
  | cons x t ih =>
    obtain ⟨j, w⟩ := x
    obtain ⟨hw, ht⟩ := Bool.and_eq_true_iff.mp h
    unfold Tab.get Tab.find
    split
    · exact hw
    · exact ih ht

end
end Sys2Proof.Machine
end

section
open Sys2Proof
namespace Sys2Proof.Machine

/-!
### The byte buffers of the cores and of the sessions

One rule per operation of the model, `d.meets I → (d.op …).meets I`. An operation that touches neither management's SRAM nor the
sessions' staging areas keeps every `PortInvariant`; those that give a session or the SRAM new contents keep `buffers`.
A command then composes the rules of the operations it is put together from.
-/

section
variable {I : PortInvariant} {d : Dev}

/-- State beside management and the host ports takes any value. -/
theorem Dev.meets.update {now regs latch raised outs dram nva draw img pos cmp cdc ten lnk sec syn ql ptn pwr ins lne dmc ctl sys}
    (h : d.meets I) :
    Dev.meets { now, regs, latch, raised, outs, dram, nva, draw, img, pos, cmp, cdc, ten, lnk, mgt := d.mgt, hst := d.hst, sec, syn,
                ql, ptn, pwr, ins, lne, dmc, ctl, sys } I := h

/-- What management holds beside the cores' local SRAM takes any value. -/
theorem Dev.meets.inMgt {kicked highWindows lowWindows skipRecord ops moderation running waiting lastGeneration} (h : d.meets I) :
    Dev.meets { d with mgt := { sram := d.mgt.sram, kicked, highWindows, lowWindows, skipRecord, ops, moderation, running, waiting,
                                lastGeneration } } I := h

/-- The staging area of a session is in its canonical form. -/
def Sess.stagingWf (x : Sess) : Bool := Mem.wf x.staging

/-- The local SRAM of the cores and the staging areas of the sessions are in their canonical form. -/
def buffers : PortInvariant where
  holds m h := Mem.wf m = true ∧ h.sess.all (fun x => x.2.stagingWf) = true
  vectors h := h
  session := fun ⟨hsram, hsess⟩ hx => ⟨hsram, Tab.all_set (p := Sess.stagingWf) hsess (by
    obtain hstays | hempty := hx
    · exact (congrArg Mem.wf hstays).trans (Tab.all_get (p := Sess.stagingWf) hsess rfl)
    · exact congrArg Mem.wf hempty)⟩

theorem buffersWf_iff {s : State} : buffersWf s ↔ s.dev.meets buffers := Iff.rfl

theorem Dev.meets.sramWf (h : d.meets buffers) : Mem.wf d.mgt.sram = true := h.1

theorem Dev.meets.sessWf (h : d.meets buffers) : d.hst.sess.all (fun x => x.2.stagingWf) = true := h.2

/-- What the host ports hold beside the sessions takes any value. -/
theorem Dev.meets.inHst {vec fnMask d3hot pmeEn pmeOn linkUp l1Due txts mgmtRx mgmtBits mgmtAt tout} (h : d.meets buffers) :
    Dev.meets { d with hst := { vec, fnMask, d3hot, pmeEn, pmeOn, linkUp, l1Due, sess := d.hst.sess, txts, mgmtRx, mgmtBits, mgmtAt,
                                tout } } buffers := h

/-- Bytes written into a staging area (R296). -/
theorem Dev.meets.stage {s off data} (h : d.meets buffers) :
    (d.setSess s { d.sess s with staging := Mem.writeBytes (d.sess s).staging off data }).meets buffers :=
  ⟨h.sramWf, Tab.all_set (p := Sess.stagingWf) h.sessWf (Mem.writeBytes_wf off data (Tab.all_get (p := Sess.stagingWf) h.sessWf rfl))⟩

/-- The cores' local SRAM set to a memory in canonical form. -/
theorem Dev.meets.inSram {m kicked} (h : d.meets buffers) (hm : Mem.wf m = true) :
    Dev.meets { d with mgt := { d.mgt with sram := m, kicked := kicked } } buffers := ⟨hm, h.sessWf⟩

/-- An operation that reaches neither management nor the host ports keeps every invariant of them. -/
theorem Dev.meets.of_reach {x : Reach} {e : Dev} (h : d.meets I) (hx : x.apart = true) (hm : x.areas.contains .mgt = false)
    (hh : x.areas.contains .hst = false)
    (he : (x.footprint d).holds d d → x.within (x.footprint d) d → (x.footprint d).holds d e) : e.meets I := by
  have hmgt : e.mgt = d.mgt := Dev.area_of_reach (p := .mgt) hx hm (he (Footprint.holds_refl _ _))
  have hhst : e.hst = d.hst := Dev.area_of_reach (p := .hst) hx hh (he (Footprint.holds_refl _ _))
  rw [Dev.meets, hmgt, hhst]
  exact h

/-- So does a command whose footprint names neither. -/
theorem Dev.meets.of_framed {c : Instr} (h : d.meets I) (hc : Framed c) (hm : (footprint d c).areas.contains .mgt = false)
    (hh : (footprint d c).areas.contains .hst = false) : (d.viaRow (exec c)).meets I := by
  obtain ⟨e, he, -⟩ := exec_agree c d [] []
  have hrow : d.viaRow (exec c) = e := by rw [Dev.viaRow, he]
  obtain ⟨hareas, -⟩ := hc _ _ he
  have hmgt : e.mgt = d.mgt := hareas .mgt fun hin => by simp_all
  have hhst : e.hst = d.hst := hareas .hst fun hin => by simp_all
  rw [hrow, Dev.meets, hmgt, hhst]
  exact h

/-- A fold whose result pairs a controller with something else. -/
theorem Dev.meets.foldl_fst {α β : Type} {f : Dev × β → α → Dev × β} {b : β} {xs : List α} (h : d.meets I)
    (hf : ∀ p x, p.1.meets I → (f p x).1.meets I) : (xs.foldl f (d, b)).1.meets I := by
  induction xs generalizing d b with
  | nil => exact h
  | cons x xs ih => exact ih (hf (d, b) x h)

/-- A row's meaning makes of a controller what its run does. -/
theorem meets_viaRow {f : Dev → Dev} {o : State → Host.Outcome State Fault Refusal} (ho : ∀ s, o s = s.run f)
    (h : (f d).meets I) : (d.viaRow o).meets I := by
  rw [Dev.viaRow, ho]
  exact h

theorem Dev.meets.viaBit {v k o} (h : d.meets I) (ho : d.meets I → (d.viaRow o).meets I) : (d.viaBit v k o).meets I :=
  meets_ite (ho h) h

/-! ### Registers, codes, outputs, free values and time -/

theorem Dev.meets.putInt {r k v} (h : d.meets I) : (d.putInt r k v).meets I := h
theorem Dev.meets.add32 {r k n} (h : d.meets I) : (d.add32 r k n).meets I := h
theorem Dev.meets.drawn (h : d.meets I) : d.drawn.meets I := h
theorem Dev.meets.at {t} (h : d.meets I) : (d.at t).meets I := h

/-! ### Interrupt sources and pins (R68, R438 to R442) -/

theorem Dev.meets.refuse {req e} (h : d.meets I) : (d.refuse req e).meets I := h.put.raise
theorem Dev.meets.journal {e} (h : d.meets I) : (d.journal e).meets I := meets_ite h h.update
theorem Dev.meets.refreshEvent {r k} (h : d.meets I) : (d.refreshEvent r k).meets I := by
  unfold Dev.refreshEvent
  split
  · exact h
  · exact h.irqLevel

theorem Dev.meets.event {r k i} (h : d.meets I) : (d.event r k i).meets I := h.setBit.refreshEvent
theorem Dev.meets.stopReq {u} (h : d.meets I) : (d.stopReq u).meets I := meets_ite h h.update
theorem Dev.meets.stopFree {u} (h : d.meets I) : (d.stopFree u).meets I := h.update
theorem Dev.meets.speedReq {u} (h : d.meets I) : (d.speedReq u).meets I := meets_ite h h.update

/-! ### Cue sequences (R435 to R437) -/

theorem Dev.meets.cueMark {k b} (h : d.meets I) : (d.cueMark k b).meets I :=
  h.of_reach (x := cueMarkReach) rfl rfl rfl fun hd hx => hd.cueMark hx

theorem Dev.meets.cueRefresh (h : d.meets I) : d.cueRefresh.meets I :=
  h.of_reach (x := cueRefreshReach) rfl rfl rfl fun hd hx => hd.cueRefresh hx

theorem Dev.meets.cueRequest {k} (h : d.meets I) : (d.cueRequest k).meets I := h.inMgt.cueRefresh

/-! ### Mirror records (R314, R321, R322) -/

theorem Dev.meets.mirrorBlock {r} (h : d.meets I) : (d.mirrorBlock r).meets I :=
  h.of_reach (x := mirrorBlockReach) rfl rfl rfl fun hd hx => hd.mirrorBlock hx

theorem Dev.meets.mirrorSend {r} (h : d.meets I) : (d.mirrorSend r).meets I := meets_ite h.update.mirrorBlock.send h
theorem Dev.meets.mirror {r} (h : d.meets I) : (d.mirror r).meets I := meets_ite h.mirrorSend h
theorem Dev.meets.noteFit (h : d.meets I) : d.noteFit.meets I := h.setBit
theorem Dev.meets.setUnfit {cause b} (h : d.meets I) : (d.setUnfit cause b).meets I := h.setBit.noteFit

/-! ### Rings, completions and sessions (R264 to R289, R293 to R298) -/

theorem Dev.meets.complete {s tag opcode status body} (h : d.meets I) : (d.complete s tag opcode status body).meets I :=
  h.mirror.setCtx.postDone

theorem Dev.meets.mirrorCtx {s} (h : d.meets I) : (d.mirrorCtx s).meets I := h.mirror
theorem Dev.meets.releaseWaits {ok} (h : d.meets I) : (d.releaseWaits ok).meets I := h.each fun _ _ ho => ho.setCtx.postDone

theorem Dev.meets.tagUnits {s n use} (h : d.meets I) : (d.tagUnits s n use).meets I := h.update

theorem Dev.meets.takeUnits {s n use} (h : d.meets I) : (d.takeUnits s n use).meets I :=
  meets_ite h.put.tagUnits h.put.tagUnits.put

theorem Dev.meets.dropUnits {s n use} (h : d.meets I) : (d.dropUnits s n use).meets I := (meets_ite h.update h.put).update
theorem Dev.meets.accessErr {place} (h : d.meets I) : (d.accessErr place).meets I := h.count.event.raise
theorem Dev.meets.doorbellErr {s} (h : d.meets I) : (d.doorbellErr s).meets I := h.count.event.raise
theorem Dev.meets.sqDoorbell {s v} (h : d.meets I) : (d.sqDoorbell s v).meets I := meets_ite h.doorbellErr h.put
theorem Dev.meets.cqDoorbell {s v} (h : d.meets I) : (d.cqDoorbell s v).meets I := meets_ite h.doorbellErr h.put.postDone

/-! ### Lanes as their ports use them (R385 to R405) -/

theorem Dev.meets.setLane {l x} (h : d.meets I) : (d.setLane l x).meets I := h.update
theorem Dev.meets.setLaneSt {l st} (h : d.meets I) : (d.setLaneSt l st).meets I := meets_ite h.setFld h.setFld.setBit
theorem Dev.meets.setGood {l b} (h : d.meets I) : (d.setGood l b).meets I := meets_ite h.setLane.setBit h.setLane
theorem Dev.meets.unmark {l} (h : d.meets I) : (d.unmark l).meets I := meets_ite h.setBit.put h
theorem Dev.meets.laneDeep {l} (h : d.meets I) : (d.laneDeep l).meets I := meets_ite h h.setLaneSt.setBit
theorem Dev.meets.lanesRest {g} (h : d.meets I) : (d.lanesRest g).meets I := h.each fun _ _ ho => ho.laneDeep.setGood
theorem Dev.meets.lanesDown {g} (h : d.meets I) : (d.lanesDown g).meets I := h.lanesRest.each fun _ _ ho => ho.unmark

theorem Dev.meets.lanesOff {g} (h : d.meets I) : (d.lanesOff g).meets I :=
  h.each fun _ _ ho => ho.setLaneSt.setBit.setGood.unmark

theorem Dev.meets.trainLanes {ls kbps} (h : d.meets I) : (d.trainLanes ls kbps).meets I :=
  h.each fun _ _ ho => ho.setLane.setLaneSt.setBit.put

theorem Dev.meets.noteRetrain {ls} (h : d.meets I) : (d.noteRetrain ls).meets I := h.each fun _ _ ho => ho.count.event
theorem Dev.meets.uncap {k} (h : d.meets I) : (d.uncap k).meets I := h.update

/-! ### Transmitters of the native links (R175 to R179) -/

theorem Dev.meets.setTx {q x} (h : d.meets I) : (d.setTx q x).meets I := h.update
theorem Dev.meets.txStart {q w rate} (h : d.meets I) : (d.txStart q w rate).meets I := h.setTx
theorem Dev.meets.txBusy {q k n} (h : d.meets I) : (Dev.txBusy q k n d).meets I :=
  h.of_reach (x := txBusyReach) rfl rfl rfl fun hd hx => hd.txBusy hx

theorem Dev.meets.txTo {q k} (h : d.meets I) : (d.txTo q k).meets I := meets_ite h.txBusy.setTx h.txBusy
theorem Dev.meets.txMessage {q bound ws} (h : d.meets I) : (d.txMessage q bound ws).meets I := h.txTo.setTx
theorem Dev.meets.txInject {q lane payload} (h : d.meets I) : (d.txInject q lane payload).meets I := h.txTo.setTx
theorem Dev.meets.txSlot {q s v} (h : d.meets I) : (d.txSlot q s v).meets I := h.setTx

/-! ### The loop log, a store to DRAM, and cascade messages (R256 to R259) -/

theorem Dev.meets.dramWrite {a bs} (h : d.meets I) : (d.dramWrite a bs).meets I := h.update

theorem Dev.meets.qlLog {kind port fluid nozzle frame fire} (h : d.meets I) :
    (d.qlLog kind port fluid nozzle frame fire).meets I :=
  meets_ite (meets_ite h.count.event.update.raise h.count.event) h.dramWrite.put

theorem Dev.meets.casDrop (h : d.meets I) : d.casDrop.meets I := meets_ite h.count.event.qlLog.update.raise h.count.event.qlLog
theorem Dev.meets.casEmit {l type body} (h : d.meets I) : (d.casEmit l type body).meets I := h.update.send.txMessage
theorem Dev.meets.casPut {p dest port type body} (h : d.meets I) : (d.casPut p dest port type body).meets I := h.casEmit

theorem Dev.meets.casSend {dest port type body} (h : d.meets I) : (d.casSend dest port type body).meets I := by
  unfold Dev.casSend
  dsimp only
  split
  · exact h
  · split
    · exact meets_ite h.casDrop (h.each fun _ _ ho => ho.casPut)
    · split
      · exact meets_ite h.casDrop h.casPut
      · exact h.casDrop

/-! ### Regions, the lock line and spoil records (R88 to R114) -/

theorem Dev.meets.setRegion {r} (h : d.meets I) : (d.setRegion r).meets I := h.update

theorem Dev.meets.issueSpoil {r} (h : d.meets I) : (d.issueSpoil r).meets I :=
  meets_ite h.count.postEvent.update.casSend h.count.postEvent.update

theorem Dev.meets.spoil {r s ofs n cause} (h : d.meets I) : (d.spoil r s ofs n cause).meets I := meets_ite h h.update
theorem Dev.meets.issueSpoils (h : d.meets I) : d.issueSpoils.meets I := h.update.foldl fun _ _ ho => ho.issueSpoil
theorem Dev.meets.flushSpoils (h : d.meets I) : d.flushSpoils.meets I := h.update.foldl fun _ _ ho => ho.issueSpoil
theorem Dev.meets.sweepRegions (h : d.meets I) : d.sweepRegions.meets I := h.update.foldl fun _ _ ho => ho.dropUnits

theorem Dev.meets.drainDone {s} (h : d.meets I) : (d.drainDone s).meets I :=
  meets_ite h.setCtx.setFld.update.put.put.update.mirrorCtx h

theorem Dev.meets.afterRetire (h : d.meets I) : d.afterRetire.meets I := h.sweepRegions.each fun _ _ ho => ho.drainDone

theorem Dev.meets.lockStrip {num s upTo} (h : d.meets I) : (d.lockStrip num s upTo).meets I := by
  unfold Dev.lockStrip
  dsimp only
  split
  · exact h
  · exact meets_ite h <|
      have h1 := (h.foldl fun _ _ ho => ho.mirror).setRegion
      (h1.foldl fun _ _ ho => ho.add32.event.raise.spoil).foldl fun _ _ ho => ho.spoil

theorem Dev.meets.lockRegion {r upTo} (h : d.meets I) : (d.lockRegion r upTo).meets I := h.each fun _ _ ho => ho.lockStrip

theorem Dev.meets.lockTo {line} (h : d.meets I) : (d.lockTo line).meets I :=
  meets_ite h (h.putInt.update.foldl fun _ _ ho => meets_ite ho.lockRegion ho).afterRetire

theorem Dev.meets.lockAhead {posLine} (h : d.meets I) : (d.lockAhead posLine).meets I := h.lockTo

theorem Dev.meets.lockPass {pass reverse} (h : d.meets I) : (d.lockPass pass reverse).meets I :=
  meets_ite h (h.foldl fun _ _ ho => meets_ite ho (meets_ite ho.lockRegion ho.setRegion.lockRegion)).afterRetire

theorem Dev.meets.freeBlock {num s first} (h : d.meets I) : (d.freeBlock num s first).meets I :=
  h.of_reach (x := freeBlockReach) rfl rfl rfl fun hd hx => hd.freeBlock hx

theorem Dev.meets.setRowBuf {n j x} (h : d.meets I) : (d.setRowBuf n j x).meets I := h.update

theorem Dev.meets.retireBlocks {posLine} (h : d.meets I) : (d.retireBlocks posLine).meets I :=
  meets_ite h (h.foldl fun _ _ ho => ho.freeBlock).afterRetire

end
end Sys2Proof.Machine
end

section
open Sys2Proof
namespace Sys2Proof.Machine
section
variable {I : PortInvariant} {d : Dev}

/-! ### Row readers, tables and engines (R135 to R173) -/

theorem Dev.meets.setSyn {n x} (h : d.meets I) : (d.setSyn n x).meets I := h.update

theorem Dev.meets.fillRow {n j f} (h : d.meets I) : (d.fillRow n j f).meets I :=
  h.of_reach (x := fillRowReach) rfl rfl rfl fun hd hx => hd.fillRow hx

theorem Dev.meets.releaseRow {n j line} (h : d.meets I) : (d.releaseRow n j line).meets I := meets_ite h h.setRowBuf
theorem Dev.meets.fillRows (h : d.meets I) : d.fillRows.meets I := h.each fun _ _ ho => ho.each fun _ _ ho2 => ho2.fillRow

theorem Dev.meets.spoilPort {n f cause} (h : d.meets I) : (d.spoilPort n f cause).meets I :=
  h.of_reach (x := spoilReach) rfl rfl rfl fun hd hx => hd.spoilPort hx

theorem Dev.meets.resetPage {n} (h : d.meets I) : (d.resetPage n).meets I :=
  h.of_reach (x := resetPageReach none) rfl rfl rfl fun hd hx => hd.resetPage hx .any

theorem Dev.meets.storeValue {n t v} (h : d.meets I) : (d.storeValue n t v).meets I :=
  h.of_reach (x := storeValueReach none) rfl rfl rfl fun hd hx => hd.storeValue hx .any

theorem Dev.meets.noteStaged {n} (h : d.meets I) : (d.noteStaged n).meets I := h.setFld
theorem Dev.meets.dropSet {n} (h : d.meets I) : (d.dropSet n).meets I := h.setSyn.setBit.setBit.noteStaged
theorem Dev.meets.noteSpares (h : d.meets I) : d.noteSpares.meets I := h.setFld
theorem Dev.meets.noEngine {n} (h : d.meets I) : (d.noEngine n).meets I := h.setFld

theorem Dev.meets.engineOut {e cause} (h : d.meets I) : (d.engineOut e cause).meets I :=
  h.setBit.setBit.setBit.setBit.setFld.setFld.noteSpares

theorem Dev.meets.clearHistory (h : d.meets I) : d.clearHistory.meets I := h.update

theorem Dev.meets.noteBusy {n} (h : d.meets I) : (d.noteBusy n).meets I :=
  h.of_reach (x := noteBusyReach) rfl rfl rfl fun hd hx => hd.noteBusy hx

theorem Dev.meets.clearPort {n} (h : d.meets I) : (d.clearPort n).meets I := h.setSyn.noteBusy.each fun _ _ ho => ho.releaseRow
theorem Dev.meets.clearBatches (h : d.meets I) : d.clearBatches.meets I := h.each fun _ _ ho => ho.clearPort
theorem Dev.meets.foldMask {n h'} (h : d.meets I) : (d.foldMask n h').meets I := h.setSyn
theorem Dev.meets.notePend (h : d.meets I) : d.notePend.meets I := h.setFld
theorem Dev.meets.foldAll (h : d.meets I) : d.foldAll.meets I :=
  (h.foldl fun _ _ ho => ho.each fun _ _ ho2 => ho2.foldMask).update.notePend

/-! ### Frames of the inspection (R222 to R239) -/

theorem Dev.meets.setPipe {c x} (h : d.meets I) : (d.setPipe c x).meets I := h.update
theorem Dev.meets.noteStore (h : d.meets I) : d.noteStore.meets I := h.put
theorem Dev.meets.retireCopies (h : d.meets I) : d.retireCopies.meets I := h.update.noteStore

theorem Dev.meets.addCopy {x} (h : d.meets I) : (d.addCopy x).meets I :=
  meets_ite
    (have h1 := h.update.count.each fun _ _ ho => ho.event
     meets_ite h1.update.raise h1)
    h.update.noteStore

theorem Dev.meets.sendFeed {x} (h : d.meets I) : (d.sendFeed x).meets I := by
  unfold Dev.sendFeed
  dsimp only
  split
  · exact h
  · split
    · exact h.casSend
    · exact h.casSend

theorem Dev.meets.storeCopy {r strip e sibling} (h : d.meets I) : (d.storeCopy r strip e sibling).meets I :=
  meets_ite h (meets_ite h (meets_ite h h.addCopy).sendFeed)

theorem Dev.meets.frameLine {c fire pass yi place ms} (h : d.meets I) : (d.frameLine c fire pass yi place ms).meets I :=
  (meets_ite h.setPipe.add32.event h.setPipe.add32).setBit.setFld

theorem Dev.meets.postSummaries {c f} (h : d.meets I) : (d.postSummaries c f).meets I :=
  h.foldl fun _ _ ho => meets_ite ho.postEvent ho

theorem Dev.meets.frameClose {c early} (h : d.meets I) : (d.frameClose c early).meets I := by
  unfold Dev.frameClose
  dsimp only
  split
  · exact h
  · exact h.postSummaries.setPipe.update.put.setBit.setFld.event

theorem Dev.meets.closeFrames (h : d.meets I) : d.closeFrames.meets I := h.each fun _ _ ho => ho.frameClose

/-! ### Head links (R174 to R211) -/

theorem Dev.meets.setPort {n x} (h : d.meets I) : (d.setPort n x).meets I := h.update
theorem Dev.meets.headWords {n type seq body} (h : d.meets I) : (d.headWords n type seq body).meets I := h.txMessage
theorem Dev.meets.headSend {n type body} (h : d.meets I) : (d.headSend n type body).meets I := h.setPort.send.headWords
theorem Dev.meets.setCredits {n v} (h : d.meets I) : (d.setCredits n v).meets I := h.setFld
theorem Dev.meets.noteOutstanding {n} (h : d.meets I) : (d.noteOutstanding n).meets I := h.setFld
theorem Dev.meets.returnCredits {n p} (h : d.meets I) : (d.returnCredits n p).meets I := h.setPort.setCredits.noteOutstanding
theorem Dev.meets.withdrawPort {n f} (h : d.meets I) : (d.withdrawPort n f).meets I := h.headSend.returnCredits.setPort

theorem Dev.meets.withdrawAll {f} (h : d.meets I) : (d.withdrawAll f).meets I :=
  (h.each fun _ _ ho => ho.withdrawPort.setPort).clearBatches.clearHistory

theorem Dev.meets.allocSlate {n f tF late} (h : d.meets I) : (d.allocSlate n f tF late).meets I := h.setPort

theorem Dev.meets.allocSlates {f tF late} (h : d.meets I) : (d.allocSlates f tF late).meets I :=
  h.each fun _ _ ho => ho.allocSlate

theorem Dev.meets.noteFmax (h : d.meets I) : d.noteFmax.meets I := h.setFld

theorem Dev.meets.checkRate (h : d.meets I) : d.checkRate.meets I :=
  meets_ite (h.each fun _ _ ho => ho.event).setBit.event.raise.speedReq h

theorem Dev.meets.setLink {n st} (h : d.meets I) : (d.setLink n st).meets I := (h.setFld.each fun _ _ ho => ho.setBit).noteFmax

theorem Dev.meets.maskFault {n} (h : d.meets I) : (d.maskFault n).meets I :=
  meets_ite h.setPort.clearPort (meets_ite h.setPort.clearPort h)

theorem Dev.meets.lanesFor {g st} (h : d.meets I) : (d.lanesFor g st).meets I := meets_ite h.lanesDown (meets_ite h.lanesRest h)

theorem Dev.meets.linkRestart {n st} (h : d.meets I) : (d.linkRestart n st).meets I :=
  h.maskFault.lanesFor.setPort.setLink.setFld.setCredits.noteOutstanding.setBit.put

theorem Dev.meets.linkDownEvent {n} (h : d.meets I) : (d.linkDownEvent n).meets I := meets_ite h.event.event h
theorem Dev.meets.relink {n} (h : d.meets I) : (d.relink n).meets I := h.linkDownEvent.count.linkRestart
theorem Dev.meets.noteRejoin {n} (h : d.meets I) : (d.noteRejoin n).meets I := meets_ite h.setPort h
theorem Dev.meets.relinkFault {n} (h : d.meets I) : (d.relinkFault n).meets I := h.noteRejoin.relink
theorem Dev.meets.linkDown {n} (h : d.meets I) : (d.linkDown n).meets I := h.noteRejoin.linkDownEvent.linkRestart
theorem Dev.meets.linkCaps {n} (h : d.meets I) : (d.linkCaps n).meets I := meets_ite h.setLink.setFld.setBit.txStart.setPort h
theorem Dev.meets.sendCapset {n} (h : d.meets I) : (d.sendCapset n).meets I := h.headSend

theorem Dev.meets.linkChoose {n} (h : d.meets I) : (d.linkChoose n).meets I :=
  h.of_reach (x := linkChooseReach none) rfl rfl rfl fun hd hx => hd.linkChoose hx .any

theorem Dev.meets.linkRetrain {n} (h : d.meets I) : (d.linkRetrain n).meets I := h.setPort.trainLanes

theorem Dev.meets.linkRetrained {n} (h : d.meets I) : (d.linkRetrained n).meets I :=
  meets_ite (meets_ite h.setPort.txStart.sendCapset h.setPort.txStart.sendCapset.headSend) h

theorem Dev.meets.sendEcho {n k} (h : d.meets I) : (d.sendEcho n k).meets I := h.txSlot.send

theorem Dev.meets.startEcho {n u} (h : d.meets I) : (d.startEcho n u).meets I :=
  h.setPort.headSend.each fun _ _ ho => ho.sendEcho

theorem Dev.meets.storePd {n pd} (h : d.meets I) : (d.storePd n pd).meets I := meets_ite h.put.raise h.put
theorem Dev.meets.checkPd {n} (h : d.meets I) : (d.checkPd n).meets I := meets_ite h (meets_ite h.setBit.raise h.setBit)

theorem Dev.meets.maskUnfit {n} (h : d.meets I) : (d.maskUnfit n).meets I :=
  meets_ite h.maskFault.setLink.setPort.setCredits.noteOutstanding h

theorem Dev.meets.echoDone {n} (h : d.meets I) : (d.echoDone n).meets I := by
  unfold Dev.echoDone
  dsimp only
  split
  · exact h
  · split
    · exact h.setPort.headSend.setBit.raise.maskUnfit
    · split
      · exact meets_ite h.setPort.headSend.raise h.setPort.headSend.storePd.maskUnfit
      · exact h.setPort.headSend.storePd.maskUnfit

theorem Dev.meets.sendJoin {n f} (h : d.meets I) : (d.sendJoin n f).meets I :=
  h.put.setLink.headSend.setPort.setCredits.noteOutstanding.clearPort

theorem Dev.meets.go {n} (h : d.meets I) : (d.go n).meets I :=
  h.of_reach (x := goReach none) rfl rfl rfl fun hd hx => hd.go hx .any

theorem Dev.meets.joinWaiting (h : d.meets I) : d.joinWaiting.meets I :=
  (h.each fun _ _ ho => ho.setPort).each fun _ _ ho => meets_ite ho.sendJoin ho.setPort

theorem Dev.meets.autoRejoin {n} (h : d.meets I) : (d.autoRejoin n).meets I := meets_ite h.setPort.go h.setPort
theorem Dev.meets.headCheck {n} (h : d.meets I) : (d.headCheck n).meets I := meets_ite h h.setBit.event.setPort

theorem Dev.meets.linkUp {n} (h : d.meets I) : (d.linkUp n).meets I :=
  have h1 := (h.setLink.event.put.setPort.headCheck.each fun _ _ ho => ho.laneDeep).headSend
  meets_ite h1.autoRejoin h1.startEcho

theorem Dev.meets.relinkWide {n} (h : d.meets I) : (d.relinkWide n).meets I :=
  meets_ite h <|
    meets_ite h.linkDown <|
      have h1 := h.linkDownEvent.count.maskFault.setPort.setLink.setFld.setBit.setCredits.noteOutstanding
      (meets_ite h1.event h1).noteRetrain.linkRetrain

/-! ### Web position, fires and passes (R53 to R87) -/

theorem Dev.meets.setEnc {i x} (h : d.meets I) : (d.setEnc i x).meets I := h.update
theorem Dev.meets.noteTrack (h : d.meets I) : d.noteTrack.meets I := h.update

theorem Dev.meets.noteSpeed (h : d.meets I) : d.noteSpeed.meets I := by
  unfold Dev.noteSpeed
  dsimp only
  split
  · exact h.noteTrack.put.setBit.setBit
  · exact (meets_ite h.noteTrack.closeFrames h.noteTrack).put.setBit.setBit

theorem Dev.meets.alignTo {i t p} (h : d.meets I) : (d.alignTo i t p).meets I := h.setEnc

theorem Dev.meets.resetSilent (h : d.meets I) : d.resetSilent.meets I := by
  unfold Dev.resetSilent
  dsimp only
  exact h.each fun _ _ ho => by
    split
    · exact ho.setEnc
    · exact ho

theorem Dev.meets.alignOther (h : d.meets I) : d.alignOther.meets I := by
  unfold Dev.alignOther
  dsimp only
  split
  · exact meets_ite h.alignTo.update h
  · exact h

theorem Dev.meets.setSource {i} (h : d.meets I) : (d.setSource i).meets I := (h.each fun _ _ ho => ho.setBit).setFld.noteSpeed

theorem Dev.meets.repeatOut (h : d.meets I) : d.repeatOut.meets I :=
  h.foldl fun _ _ ho => meets_ite ho.update (meets_ite ho ho.update)

theorem Dev.meets.mirrorBind (h : d.meets I) : d.mirrorBind.meets I := h.mirror
theorem Dev.meets.setBind {f l} (h : d.meets I) : (d.setBind f l).meets I := h.put.putInt

theorem Dev.meets.seekRows (h : d.meets I) : d.seekRows.meets I :=
  h.each fun _ _ ho => ho.each fun _ _ ho2 => ho2.setRowBuf.setBit.fillRow

theorem Dev.meets.rebind {l} (h : d.meets I) : (d.rebind l).meets I := h.setBind.withdrawAll.seekRows.closeFrames.mirrorBind
theorem Dev.meets.noteFiring (h : d.meets I) : d.noteFiring.meets I := meets_ite h (meets_ite h.setBit.issueSpoils.foldAll h)

theorem Dev.meets.takeHeld (h : d.meets I) : d.takeHeld.meets I := by
  unfold Dev.takeHeld
  dsimp only
  split
  · exact h
  · exact h.alignTo.update.setSource.alignOther

theorem Dev.meets.stopFiring {cause} (h : d.meets I) : (d.stopFiring cause).meets I :=
  have h1 := meets_ite h.setBit.setFld.stopReq h.setBit.setFld
  meets_ite h1.withdrawAll.foldAll.noteFiring.mirrorBind h1

theorem Dev.meets.stopByOther (h : d.meets I) : d.stopByOther.meets I := meets_ite h.stopFiring h

theorem Dev.meets.deadReckon (h : d.meets I) : d.deadReckon.meets I := by
  unfold Dev.deadReckon
  dsimp only
  split
  · exact h
  · split
    · exact h.update.setBit.event.stopReq.noteSpeed
    · exact (meets_ite h.update.stopFiring h.update).noteSpeed

theorem Dev.meets.loseInput {i} (h : d.meets I) : (d.loseInput i).meets I := by
  unfold Dev.loseInput
  dsimp only
  split
  · exact h
  · split
    · exact (meets_ite h.setFld h).setBit.event.update
    · split
      · exact (meets_ite h.setFld h).setBit.event.update.mirrorBind
      · split
        · exact meets_ite
            (meets_ite h.setFld h).setBit.event.update.alignTo.setSource.event.mirrorBind
            (meets_ite h.setFld h).setBit.event.update.deadReckon.mirrorBind
        · exact (meets_ite h.setFld h).setBit.event.update.deadReckon.mirrorBind

theorem Dev.meets.forgetSpeed {i} (h : d.meets I) : (d.forgetSpeed i).meets I := h.setEnc

theorem Dev.meets.deadReckonEnd (h : d.meets I) : d.deadReckonEnd.meets I := by
  unfold Dev.deadReckonEnd
  dsimp only
  split
  · exact h
  · exact (h.update.setBit.event.raise.stopFiring.each fun _ _ ho => ho.forgetSpeed).noteSpeed.takeHeld

theorem Dev.meets.returnInput {i} (h : d.meets I) : (d.returnInput i).meets I :=
  meets_ite h <|
    meets_ite h.setBit.setEnc.resetSilent <|
      meets_ite h.setBit.setEnc.resetSilent.update <|
        meets_ite h.setBit.setEnc.resetSilent.alignTo.update.setSource.alignOther.mirrorBind <|
          meets_ite h.setBit.setEnc.resetSilent.noteSpeed h.setBit.setEnc.resetSilent.alignOther.mirrorBind

theorem Dev.meets.crossCheck (h : d.meets I) : d.crossCheck.meets I := by
  unfold Dev.crossCheck
  dsimp only
  split
  · exact meets_ite (meets_ite h.put.update.event.raise h.put.update) h
  · exact h

theorem Dev.meets.checkSilent {i} (h : d.meets I) : (d.checkSilent i).meets I := by
  unfold Dev.checkSilent
  dsimp only
  split
  · exact h
  · exact meets_ite h.setEnc.loseInput h.setEnc

theorem Dev.meets.notePass (h : d.meets I) : d.notePass.meets I := h.setFld

theorem Dev.meets.startPass {p} (h : d.meets I) : (d.startPass p).meets I :=
  meets_ite h.update.put.notePass h.update.put.update.setBind.notePass

theorem Dev.meets.endPass {aborted} (h : d.meets I) : (d.endPass aborted).meets I := by
  unfold Dev.endPass
  dsimp only
  split
  · exact h.event.setBit.closeFrames.startPass
  · exact h.event.setBit.closeFrames.update.notePass

theorem Dev.meets.spoilSkipped {a b pass} (h : d.meets I) : (d.spoilSkipped a b pass).meets I :=
  h.foldl fun _ _ ho => meets_ite ho (ho.each fun _ _ ho2 => ho2.foldl fun _ _ ho3 => meets_ite ho3.spoil ho3)

theorem Dev.meets.countSkips {n} (h : d.meets I) : (d.countSkips n).meets I := h.add32.event.raise

theorem Dev.meets.abortPass (h : d.meets I) : d.abortPass.meets I := by
  unfold Dev.abortPass
  dsimp only
  split
  · exact h
  · exact (meets_ite h.countSkips.spoilSkipped h.countSkips.spoilSkipped).endPass.withdrawAll.mirrorBind

theorem Dev.meets.skipPassed (h : d.meets I) : d.skipPassed.meets I := by
  unfold Dev.skipPassed
  dsimp only
  split
  · exact h
  · split
    · exact meets_ite h.countSkips.spoilSkipped.update.rebind h
    · split
      · exact h
      · exact meets_ite h <|
          meets_ite
            (meets_ite
              (meets_ite h.countSkips.spoilSkipped.update.endPass.withdrawAll h.countSkips.spoilSkipped.update.rebind)
              h)
            (meets_ite
              (meets_ite h.countSkips.spoilSkipped.update.endPass.withdrawAll h.countSkips.spoilSkipped.update.rebind)
              h)

theorem Dev.meets.noteDeferral (h : d.meets I) : d.noteDeferral.meets I := meets_ite h.count h.count.setBit.event.raise.speedReq
theorem Dev.meets.rerunTimeout {f} (h : d.meets I) : (d.rerunTimeout f).meets I := meets_ite h.update.setUnfit h

theorem Dev.meets.surrenderAt {f} (h : d.meets I) : (d.surrenderAt f).meets I :=
  h.of_reach (x := surrenderAtReach) rfl rfl rfl fun hd hx => hd.surrenderAt hx

theorem Dev.meets.commitFire {tF tQ reverse} (h : d.meets I) : (d.commitFire tF tQ reverse).meets I := by
  unfold Dev.commitFire
  extract_lets f late m last fire d1 d2 pos2 d3 dj d4 d5 d6 d7
  have h2 : d2.meets I := by
    dsimp only [d2, last]
    split
    · exact h.put.setBit.allocSlates.put
    · exact h.put.setBit.allocSlates
  have hj : dj.meets I := meets_ite h2.update.journal h2.update
  have h4 : d4.meets I := hj.mirror.mirror.rerunTimeout.checkRate.surrenderAt
  have h6 : d6.meets I := (h4.each fun _ _ ho => ho.spoilPort).flushSpoils
  have h7 : d7.meets I := by
    dsimp only [d7]
    split
    · exact meets_ite h6.endPass.mirrorBind h6.notePass
    · exact h6
  exact meets_ite h7.update.raise.stopFiring h7

theorem Dev.meets.makeFire {b tF tQ} (h : d.meets I) : (d.makeFire b tF tQ).meets I := by
  unfold Dev.makeFire
  split
  · exact meets_ite (meets_ite h.stopFiring h.noteDeferral.commitFire) h.commitFire
  · exact h.commitFire

theorem Dev.meets.scheduledFire (h : d.meets I) : d.scheduledFire.meets I := by
  unfold Dev.scheduledFire
  dsimp only
  split
  · exact h
  · exact h.at.makeFire

theorem Dev.meets.lateCommits {n} (h : d.meets I) : (Dev.lateCommits n d).meets I := by
  induction n generalizing d with
  | zero => exact h
  | succ n ih =>
    unfold Dev.lateCommits
    split
    · exact h
    · exact meets_ite (ih h.makeFire) h

theorem Dev.meets.directFires {n} (h : d.meets I) : (Dev.directFires n d).meets I := by
  induction n generalizing d with
  | zero => exact h
  | succ n ih =>
    unfold Dev.directFires
    split
    · exact h
    · exact meets_ite (ih h.makeFire) h

theorem Dev.meets.lineMoved (h : d.meets I) : d.lineMoved.meets I := meets_ite h.lockAhead.retireBlocks h

theorem Dev.meets.positionMoved (h : d.meets I) : d.positionMoved.meets I :=
  have h1 := meets_ite h.lineMoved h.lineMoved.flushSpoils
  meets_ite h1.directFires h1.lateCommits

/-! ### The end of the ingest check (R94, R95, R322) -/

theorem Dev.meets.ingestFail {j e body} (h : d.meets I) : (d.ingestFail j e body).meets I := by
  unfold Dev.ingestFail
  dsimp only
  refine .afterRetire (.raise (.complete ?_))
  split
  · exact h.setRegion
  · exact h

theorem Dev.meets.ingestStore {j} (h : d.meets I) : (d.ingestStore j).meets I := by
  unfold Dev.ingestStore
  dsimp only
  split
  · exact h.ingestFail
  · exact meets_ite h.ingestFail (meets_ite h.ingestFail h.setRegion.complete)

theorem Dev.meets.ingestMirror {j} (h : d.meets I) : (d.ingestMirror j).meets I := h.update.mirror

theorem Dev.meets.partnerAcked {ok} (h : d.meets I) : (d.partnerAcked ok).meets I :=
  (h.update.foldl fun _ _ ho => ho.ingestStore).releaseWaits

/-! ### Control loops and axes (R360 to R379) -/

theorem Dev.meets.setCtl {l x} (h : d.meets I) : (d.setCtl l x).meets I := h.update
theorem Dev.meets.setLoopSt {l st} (h : d.meets I) : (d.setLoopSt l st).meets I := h.setFld.setBit
theorem Dev.meets.setLsp {p x} (h : d.meets I) : (d.setLsp p x).meets I := h.update
theorem Dev.meets.loopOut {l u} (h : d.meets I) : (d.loopOut l u).meets I := meets_ite h.setFld.setLsp h.setFld
theorem Dev.meets.evaluate {l frozen} (h : d.meets I) : (d.evaluate l frozen).meets I :=
  h.of_reach (x := evaluateReach none) rfl rfl rfl fun hd hx => hd.evaluate hx .any

theorem Dev.meets.enterHold {l stale frozen} (h : d.meets I) : (d.enterHold l stale frozen).meets I :=
  have h1 := meets_ite h.setLoopSt.setCtl.setBit.count.raise h.setLoopSt.setCtl
  (meets_ite h1.setBit.count.raise h1).event

theorem Dev.meets.evalRun {l stale frozen} (h : d.meets I) : (d.evalRun l stale frozen).meets I :=
  meets_ite h.enterHold (meets_ite h.evaluate (meets_ite h.enterHold h.setLoopSt.setCtl.evaluate))

theorem Dev.meets.evalStale {l stale frozen} (h : d.meets I) : (d.evalStale l stale frozen).meets I :=
  meets_ite (meets_ite h.enterHold h.setCtl.evaluate) <|
    meets_ite h.setCtl.evaluate (meets_ite h.setLoopSt.setCtl.evaluate h.setCtl.evaluate)

theorem Dev.meets.evalHold {l stale frozen} (h : d.meets I) : (d.evalHold l stale frozen).meets I :=
  meets_ite h.setCtl (meets_ite h.setLoopSt.setCtl.evaluate h.setCtl)

theorem Dev.meets.evalLoop {l t} (h : d.meets I) : (d.evalLoop l t).meets I :=
  meets_ite h.evalRun (meets_ite h.evalStale (meets_ite h.evalHold (meets_ite h.loopOut (meets_ite h h.setCtl.loopOut))))

theorem Dev.meets.missLoop {l} (h : d.meets I) : (d.missLoop l).meets I :=
  meets_ite h.setBit.count.event.setCtl.raise h.setBit.count.event

theorem Dev.meets.sampleCfg {n} (h : d.meets I) : (d.sampleCfg n).meets I :=
  meets_ite h (h.each fun _ _ ho => ho.setCtl).headSend

theorem Dev.meets.startLoops (h : d.meets I) : d.startLoops.meets I := (h.update.each fun _ _ ho => ho.put.putInt.put.put).put
theorem Dev.meets.setAxis {a x} (h : d.meets I) : (d.setAxis a x).meets I := h.update.setBit.setBit.setFld.put.put
theorem Dev.meets.axisStop {a} (h : d.meets I) : (d.axisStop a).meets I := h.setAxis.setBit
theorem Dev.meets.axisFault {a} (h : d.meets I) : (d.axisFault a).meets I := h.axisStop.setBit.event.raise
theorem Dev.meets.homeFail {a} (h : d.meets I) : (d.homeFail a).meets I := h.axisStop.setBit.event.raise
theorem Dev.meets.issueSteps {a p0 p1} (h : d.meets I) : (d.issueSteps a p0 p1).meets I := h.foldl fun _ _ ho => ho.send

theorem Dev.meets.planLeg {a x g} (h : d.meets I) : (d.planLeg a x g).meets I :=
  meets_ite h.setAxis (meets_ite h h.issueSteps.setAxis)

theorem Dev.meets.atRest {a} (h : d.meets I) : (d.atRest a).meets I :=
  h.of_reach (x := atRestReach none) rfl rfl rfl fun hd hx => hd.atRest hx .any

theorem Dev.meets.planAxis {a} (h : d.meets I) : (d.planAxis a).meets I := by
  unfold Dev.planAxis
  dsimp only
  split
  · exact h
  · exact meets_ite h.planLeg.atRest.homeFail h.planLeg.atRest

theorem Dev.meets.nextCurrent {a} (h : d.meets I) : (d.nextCurrent a).meets I :=
  meets_ite h.setFld.setAxis (meets_ite h h.setFld.setAxis)

theorem Dev.meets.serveBus {b enable} (h : d.meets I) : (d.serveBus b enable).meets I :=
  h.each fun _ _ ho => ho.nextCurrent.send

theorem Dev.meets.shedAxes (h : d.meets I) : d.shedAxes.meets I := h.each fun _ _ ho => ho.axisStop

theorem Dev.meets.saveLoops (h : d.meets I) : d.saveLoops.meets I :=
  ((h.each fun _ _ ho => meets_ite ho.loopOut.send ho.loopOut).each fun _ _ ho => meets_ite ho.serveBus ho).update

theorem Dev.meets.resumeLoops (h : d.meets I) : d.resumeLoops.meets I := h.each fun _ _ ho => ho.setCtl

theorem Dev.meets.takeAxes (h : d.meets I) : d.takeAxes.meets I := by
  unfold Dev.takeAxes
  dsimp only
  exact h.each fun _ _ ho => by
    split
    · exact meets_ite ho.axisStop ho.setAxis
    · exact ho

/-! ### Health commands (R141 to R145, R248, R249) -/

theorem Dev.meets.spoilColumns {f lo hi a b pass cause} (h : d.meets I) : (d.spoilColumns f lo hi a b pass cause).meets I :=
  h.foldl fun _ _ ho => ho.each fun _ _ ho2 => meets_ite ho2.spoil ho2

theorem Dev.meets.settleHolds (h : d.meets I) : d.settleHolds.meets I := h.update

theorem Dev.meets.spoilDead {p} (h : d.meets I) : (d.spoilDead p).meets I :=
  (meets_ite (h.foldl fun _ _ ho => meets_ite ho.spoilColumns ho) h).update

theorem Dev.meets.loopForget {f h'} (h : d.meets I) : (d.loopForget f h').meets I := h.update
theorem Dev.meets.noteRestored {f h' line} (h : d.meets I) : (d.noteRestored f h' line).meets I := h.update
theorem Dev.meets.addDead {f h' line} (h : d.meets I) : (d.addDead f h' line).meets I := h.update

theorem Dev.meets.noteDead {f h' line} (h : d.meets I) : (d.noteDead f h' line).meets I :=
  meets_ite h (meets_ite (h.raise.foldl fun _ _ ho => ho.qlLog) h.raise).addDead

theorem Dev.meets.healthResult {fe lh low} (h : d.meets I) : (d.healthResult fe lh low).meets I := h.put.putInt.putInt.putInt

theorem Dev.meets.noteLost {f h' low lh} (h : d.meets I) : (d.noteLost f h' low lh).meets I :=
  meets_ite (meets_ite h.qlLog.spoilColumns h.qlLog) h

theorem Dev.meets.healthAccept {f h' line} (h : d.meets I) : (d.healthAccept f h' line).meets I :=
  have h1 := meets_ite h.healthResult.mirror.journal.update.notePend h.healthResult.mirror.journal.update.notePend.foldAll
  meets_ite h1.loopForget.noteRestored.noteDead.noteLost.casSend h1.loopForget.noteRestored.noteDead.noteLost

theorem Dev.meets.clearHead {n} (h : d.meets I) : (d.clearHead n).meets I := by
  unfold Dev.clearHead
  dsimp only
  split
  · exact h.raise
  · exact h.healthAccept

/-! ### The print-quality loop (R240 to R257) -/

theorem Dev.meets.setCell {n m x} (h : d.meets I) : (d.setCell n m x).meets I := h.update
theorem Dev.meets.noteLoop (h : d.meets I) : d.noteLoop.meets I := h.setBit.setFld.setFld
theorem Dev.meets.mirrorCells {ks} (h : d.meets I) : (d.mirrorCells ks).meets I := meets_ite h h.mirror

theorem Dev.meets.noteSaturated {n m sat} (h : d.meets I) : (d.noteSaturated n m sat).meets I :=
  meets_ite h.setCell.count.qlLog (meets_ite h.setCell h)

theorem Dev.meets.loopSet {n} (h : d.meets I) : (d.loopSet n).meets I :=
  meets_ite h <|
    have h1 := h.foldl fun _ _ ho => ho.noteSaturated.setCell
    meets_ite h1 <|
      meets_ite h1.count <|
        have h2 := h1.setSyn.noteStaged.put.setBit.mirror.foldl fun _ _ ho => ho.noteSaturated.setCell
        h2.update.count.event.qlLog.noteLoop

theorem Dev.meets.loopSetApplied {n f} (h : d.meets I) : (d.loopSetApplied n f).meets I :=
  h.of_reach (x := loopSetAppliedReach) rfl rfl rfl fun hd hx => hd.loopSetApplied hx

theorem Dev.meets.loopSetGone {n} (h : d.meets I) : (d.loopSetGone n).meets I := by
  unfold Dev.loopSetGone
  dsimp only
  split
  · exact h
  · exact (h.each fun _ _ ho => ho.setCell).update.qlLog.noteLoop.mirrorCells

theorem Dev.meets.takeEstimate {cand accumulate n m v} (h : d.meets I) : (d.takeEstimate cand accumulate n m v).meets I :=
  meets_ite h.setCell (meets_ite h.setCell h.setCell)

theorem Dev.meets.decide' {ns frame sense} (h : d.meets I) : (d.decide' ns frame sense).meets I :=
  h.foldl fun _ _ ho =>
    have h1 := ho.count.event.foldl fun _ _ ho2 => ho2.qlLog
    meets_ite h1.update h1

theorem Dev.meets.loopRecord {r} (h : d.meets I) : (d.loopRecord r).meets I :=
  meets_ite h ((h.update.foldl fun _ _ ho => ho.takeEstimate).decide'.each fun _ _ ho => ho.loopSet).mirrorCells.noteLoop

theorem Dev.meets.senseEntries {n entries} (h : d.meets I) : (d.senseEntries n entries).1.meets I :=
  h.of_reach (x := senseEntriesReach) rfl rfl rfl fun hd hx => hd.senseEntries hx

theorem Dev.meets.decisionDone {x} (h : d.meets I) : (d.decisionDone x).meets I :=
  have h1 := (h.healthAccept.foldl fun _ _ ho => ho.qlLog).foldl fun _ _ ho => ho.setCell
  (h1.foldl fun _ _ ho => ho.setCell).mirrorCells

theorem Dev.meets.present {x} (h : d.meets I) : (d.present x).meets I := by
  unfold Dev.present
  dsimp only
  split
  · exact h.update.decisionDone.noteLoop
  · exact (meets_ite h.update.raise.event.qlLog h.update).noteLoop
  · exact h.update.noteLoop

theorem Dev.meets.loopClear (h : d.meets I) : d.loopClear.meets I := h.update
theorem Dev.meets.loopClearPort {n} (h : d.meets I) : (d.loopClearPort n).meets I := h.update
theorem Dev.meets.sendShape (h : d.meets I) : d.sendShape.meets I := h.casSend

end
end Sys2Proof.Machine
end

section
open Sys2Proof
namespace Sys2Proof.Machine
section
variable {I : PortInvariant} {d : Dev}

/-! ### Submission entries (R271 to R275) -/

theorem Dev.meets.sqTake {s n} (h : d.meets I) : (d.sqTake s n).meets I := h.put
theorem Dev.meets.takeEntry {s w} (h : d.meets I) : (d.takeEntry s w).meets I := h.setCtx

theorem Dev.meets.ensureTaken {s w} (h : d.meets I) : (d.ensureTaken s w).meets I :=
  meets_ite h (meets_ite h.takeEntry h.takeEntry.sqTake)

theorem Dev.meets.entryErr {s w e} (h : d.meets I) : (d.entryErr s w e).meets I := h.complete.raise
theorem Dev.meets.entryOk {s w body} (h : d.meets I) : (d.entryOk s w body).meets I := h.complete

theorem Dev.meets.entry {s opcode w f} (h : d.meets I) (hf : ∀ e, e.meets I → (f e).meets I) : (d.entry s opcode w f).meets I := by
  unfold Dev.entry
  dsimp only
  split
  · exact h
  · split
    · exact h.ensureTaken.entryErr
    · exact hf _ h.ensureTaken

/-! ### Regions opened and closed (R89 to R92, R278) -/

theorem Dev.meets.countRegions {s} (h : d.meets I) : (d.countRegions s).meets I := h.put.setFld

theorem Dev.meets.regionOpen {s w} (h : d.meets I) : (d.regionOpen s w).meets I := by
  unfold Dev.regionOpen
  dsimp only
  split
  · exact h.entryErr
  · split
    · exact h.entryErr
    · exact h.takeUnits.update.countRegions.entryOk

theorem Dev.meets.closeRegion {r req} (h : d.meets I) : (d.closeRegion r req).meets I := h.setRegion.countRegions.sweepRegions
theorem Dev.meets.endRegion {r} (h : d.meets I) : (d.endRegion r).meets I := h.setRegion.closeRegion

theorem Dev.meets.regionClose {s w} (h : d.meets I) : (d.regionClose s w).meets I := by
  unfold Dev.regionClose
  dsimp only
  split
  · exact h.entryErr
  · exact meets_ite h.entryErr h.closeRegion.entryOk

/-! ### Contexts (R264 to R284) -/

theorem Dev.meets.noteContexts (h : d.meets I) : d.noteContexts.meets I := h.put.put

theorem Dev.meets.contextChanged {s what} (h : d.meets I) : (d.contextChanged s what).meets I :=
  h.noteContexts.journal.mirrorCtx

theorem Dev.meets.endSubs {h'} (h : d.meets I) : (d.endSubs h').meets I := h.each fun _ _ ho => meets_ite ho ho.setPipe

theorem Dev.meets.dropJobs {s} (h : d.meets I) : (d.dropJobs s).meets I :=
  h.of_reach (x := dropJobsReach) rfl rfl rfl fun hd hx => hd.dropJobs hx

theorem Dev.meets.closeContext {s} (h : d.meets I) : (d.closeContext s).meets I :=
  (h.setFld.put.dropJobs.setCtx.postDone.foldl fun _ _ ho => ho.endRegion).endSubs.ctxEvent.drainDone

theorem Dev.meets.clearPage {s} (h : d.meets I) : (d.clearPage s).meets I := h.foldl fun _ _ ho => ho.put
theorem Dev.meets.freeSlot {s} (h : d.meets I) : (d.freeSlot s).meets I := h.clearPage.setCtx.setFld

theorem Dev.meets.parkDone {s tag k} (h : d.meets I) : (d.parkDone s tag k).meets I :=
  h.update.freeSlot.put.contextChanged.complete

theorem Dev.meets.moveSpans {h' s} (h : d.meets I) : (d.moveSpans h' s).meets I := h.update

theorem Dev.meets.activateDone {s tag k} (h : d.meets I) : (d.activateDone s tag k).meets I := by
  unfold Dev.activateDone
  dsimp only
  split
  · exact h.complete
  · exact
      have h1 := h.update.setFld.foldl fun _ _ ho => ho.put
      (meets_ite h1.setFld.setFld h1).setCtx.setFld.setBit.put.moveSpans.contextChanged.complete

/-! ### The partner block (R314 to R335) -/

theorem Dev.meets.setRole {r} (h : d.meets I) : (d.setRole r).meets I :=
  have h1 := meets_ite h h.journal
  have h2 := (meets_ite h1 h1.update).setFld.setBit.noteFit.noteLoop
  meets_ite h2 h2.partnerAcked

theorem Dev.meets.sendDaily (h : d.meets I) : d.sendDaily.meets I := h.update.mirrorSend

theorem Dev.meets.compareDailies (h : d.meets I) : d.compareDailies.meets I := by
  unfold Dev.compareDailies
  dsimp only
  split
  · exact h
  · exact meets_ite (meets_ite h.event.raise.setUnfit h.event.raise) h.setUnfit

theorem Dev.meets.surrender {cause} (h : d.meets I) : (d.surrender cause).meets I :=
  meets_ite h.mirrorSend.setFld.update.setRole h.mirrorSend.setFld.update.setUnfit.setRole

theorem Dev.meets.goOff (h : d.meets I) : d.goOff.meets I := (h.each fun _ _ ho => meets_ite ho ho.linkRestart).update.setRole

theorem Dev.meets.spoilSplice (h : d.meets I) : d.spoilSplice.meets I := by
  unfold Dev.spoilSplice
  dsimp only
  refine .update ?_
  exact h.foldl fun _ _ ho => by
    split
    · exact ho.spoil
    · exact ho

theorem Dev.meets.restoreContexts {ft} (h : d.meets I) : (d.restoreContexts ft).meets I :=
  (h.foldl fun _ _ ho => meets_ite ho.put.send ho.put.setCtx).update.each fun _ _ ho => ho.ctxEvent.stopRings

theorem Dev.meets.takeover {ft} (h : d.meets I) : (d.takeover ft).meets I :=
  have h1 := (h.update.setRole.put.count.each fun _ _ ho => ho.setPort).each fun _ _ ho => ho.clearHead
  h1.spoilSplice.restoreContexts.takeAxes.event.raise

theorem Dev.meets.silentDeath (h : d.meets I) : d.silentDeath.meets I :=
  meets_ite h (meets_ite h.update h.update.setRole.stopByOther.stopReq.raise)

theorem Dev.meets.noteMatch {n} (h : d.meets I) : (d.noteMatch n).meets I := meets_ite h.update.setUnfit h.update

theorem Dev.meets.mismatch {n f} (h : d.meets I) : (d.mismatch n f).meets I := by
  unfold Dev.mismatch
  dsimp only
  refine .update ?_
  split
  · exact h.update.count.event.raise
  · exact h.update.count.event.raise.setBit.noteSpares

theorem Dev.meets.comparePort {n f theirs flagged} (h : d.meets I) : (d.comparePort n f theirs flagged).meets I := by
  unfold Dev.comparePort
  dsimp only
  split
  · exact h
  · exact meets_ite (meets_ite h.count.noteMatch h.count.mismatch) h.count

theorem Dev.meets.compareLate {n f} (h : d.meets I) : (d.compareLate n f).meets I := by
  unfold Dev.compareLate
  split
  · split
    · exact h.comparePort
    · exact h
  · exact h

theorem Dev.meets.noteCmp (h : d.meets I) : d.noteCmp.meets I := by
  unfold Dev.noteCmp
  dsimp only
  split
  · exact h.update
  · exact h

theorem Dev.meets.rebound (h : d.meets I) : d.rebound.meets I := h.withdrawAll.seekRows.closeFrames.noteCmp

theorem Dev.meets.mirrorEnable {on} (h : d.meets I) : (d.mirrorEnable on).meets I :=
  meets_ite
    (meets_ite h.setBit.setBit h.setBit.setBit.setFld.stopFree.clearBatches.clearHistory.seekRows.noteCmp.joinWaiting)
    (meets_ite h.setBit.noteFiring.withdrawAll.foldAll h.setBit.noteFiring)

theorem Dev.meets.applyBind {b} (h : d.meets I) : (d.applyBind b).meets I := by
  unfold Dev.applyBind
  dsimp only
  refine .notePass (.mirrorEnable ?_)
  split
  · refine .noteCmp ?_
    split
    · exact h.setBind.put.put.put.put.setEnc.update.putInt.update
    · exact h.setBind.put.put.put.put.setEnc.update
  · refine .rebound ?_
    split
    · exact h.setBind.put.put.put.put.setEnc.update.putInt.update
    · exact h.setBind.put.put.put.put.setEnc.update

theorem Dev.meets.applyCommit {f l} (h : d.meets I) : (d.applyCommit f l).meets I :=
  meets_ite h.settleHolds h.count.setBind.rebound

theorem Dev.meets.applyLock {region strip first lines missing} (h : d.meets I) :
    (d.applyLock region strip first lines missing).meets I := by
  unfold Dev.applyLock
  dsimp only
  split
  · exact h
  · split
    · exact h.setRegion
    · exact h.setRegion.update.put
    · exact h.setRegion

theorem Dev.meets.applyBlock {region strip first lines heapLen bytes} (h : d.meets I) :
    (d.applyBlock region strip first lines heapLen bytes).meets I := by
  unfold Dev.applyBlock
  dsimp only
  split
  · exact h
  · split
    · exact h
    · exact h.setRegion.update.put

theorem Dev.meets.applyTable {n es fire} (h : d.meets I) : (d.applyTable n es fire).meets I := by
  unfold Dev.applyTable
  dsimp only
  split
  · exact meets_ite h.dropSet (h.foldl fun _ _ ho => ho.storeValue)
  · exact h.setSyn.noteStaged.put.setBit

theorem Dev.meets.applyMasks {n base folds} (h : d.meets I) : (d.applyMasks n base folds).meets I := h.setSyn

theorem Dev.meets.applyHealth {e} (h : d.meets I) : (d.applyHealth e).meets I :=
  (meets_ite h.update.notePend h.update.notePend.foldAll).loopForget.noteRestored.addDead.noteLoop

theorem Dev.meets.applyCrc {f comparable crcs} (h : d.meets I) : (d.applyCrc f comparable crcs).meets I :=
  h.update.each fun _ _ ho => ho.comparePort

theorem Dev.meets.applyPage {s regs generation wrapped drops energy ivs} (h : d.meets I) :
    (d.applyPage s regs generation wrapped drops energy ivs).meets I :=
  have h1 := h.foldl fun _ _ ho => ho.wr
  have h2 := meets_ite h1.setCtx (meets_ite h1.setCtx.put.dropUnits h1.setCtx.put.takeUnits)
  have h3 := meets_ite (h2.dropJobs.foldl fun _ _ ho => ho.endRegion) h2
  meets_ite h3.noteContexts h3.update.countRegions.noteContexts

theorem Dev.meets.applyRegion {r} (h : d.meets I) : (d.applyRegion r).meets I := meets_ite h h.update.countRegions

theorem Dev.meets.applyEffect {s entry status body pos} (h : d.meets I) : (d.applyEffect s entry status body pos).meets I := by
  unfold Dev.applyEffect
  dsimp only
  refine .update ?_
  split
  · exact h
  · split
    · exact h.takeUnits.applyRegion
    · split
      · split
        · exact h.closeRegion
        · exact h
      · exact meets_ite h.setPipe (meets_ite h.setPipe h)

theorem Dev.meets.applyLoop {cells armed} (h : d.meets I) : (d.applyLoop cells armed).meets I :=
  (h.foldl fun _ _ ho => ho.setCell).update.noteLoop

/-! ### Engine faults and spares (R170, R171) -/

theorem Dev.meets.discardRun {n} (h : d.meets I) : (d.discardRun n).meets I := h.setSyn

theorem Dev.meets.substitute {e n spare} (h : d.meets I) : (d.substitute e n spare).meets I :=
  h.setBit.noteSpares.discardRun.cueRequest

theorem Dev.meets.noSpare {n} (h : d.meets I) : (d.noSpare n).meets I :=
  meets_ite
    h.event.raise.surrender
    (meets_ite h.event.raise.noEngine.maskFault.setLink h.event.raise.noEngine.maskFault).clearHead

theorem Dev.meets.engineFail {e cause} (h : d.meets I) : (d.engineFail e cause).meets I := by
  unfold Dev.engineFail
  dsimp only
  split
  · exact h
  · split
    · exact h.engineOut.event.raise
    · split
      · exact h.engineOut.event.raise.substitute
      · exact h.engineOut.event.raise.discardRun.noSpare

/-! ### Activations (R41, R46, R47) -/

theorem Dev.meets.setImgState {v} (h : d.meets I) : (d.setImgState v).meets I := h.setFld
theorem Dev.meets.setPools (h : d.meets I) : d.setPools.meets I := h.update.put.put
theorem Dev.meets.setReport {r} (h : d.meets I) : (d.setReport r).meets I := h.update.put.setBit.setBit
theorem Dev.meets.dropShadow (h : d.meets I) : d.dropShadow.meets I := h.update.setBit.setBit

theorem Dev.meets.loadDone (h : d.meets I) : d.loadDone.meets I := by
  unfold Dev.loadDone
  dsimp only
  split
  · exact h.dropShadow.setReport.setImgState.put.put.raise
  · exact h.update.setReport.setImgState.setBit.setBit.put.setBit.irqPulse

theorem Dev.meets.setShape (h : d.meets I) : d.setShape.meets I := h.put.put.each fun _ _ ho => ho.put
theorem Dev.meets.setDigest (h : d.meets I) : d.setDigest.meets I := h.each fun _ _ ho => ho.put

theorem Dev.meets.maskAll (h : d.meets I) : d.maskAll.meets I :=
  h.each fun _ _ ho => ho.setPort.setLink.clearPort.setCredits.noteOutstanding

theorem Dev.meets.assignEngines (h : d.meets I) : d.assignEngines.meets I :=
  h.of_reach (x := assignEnginesReach) rfl rfl rfl fun hd hx => hd.assignEngines hx

theorem Dev.meets.resetTables {old} (h : d.meets I) : (d.resetTables old).meets I :=
  h.each fun _ _ ho =>
    have h1 := meets_ite ho.loopSetGone.dropSet.raise ho
    meets_ite h1 h1.setSyn.resetPage.setBit.loopClearPort

theorem Dev.meets.setRows (h : d.meets I) : d.setRows.meets I :=
  h.each fun _ _ ho => ho.put.put.each fun _ _ ho2 => ho2.put.setFld

theorem Dev.meets.setInspection (h : d.meets I) : d.setInspection.meets I := (h.update.put.each fun _ _ ho => ho.put).noteStore
theorem Dev.meets.freezeAt {i} (h : d.meets I) : (d.freezeAt i).meets I := h.update
theorem Dev.meets.freshPos (h : d.meets I) : d.freshPos.meets I := h.update.setBit.put

theorem Dev.meets.setPosition (h : d.meets I) : d.setPosition.meets I := by
  unfold Dev.setPosition
  split
  · exact h.freshPos.resetSilent.setSource.repeatOut
  · exact h.freshPos.resetSilent.freezeAt.setSource.repeatOut

theorem Dev.meets.bringUp (h : d.meets I) : d.bringUp.meets I := h.each fun _ _ ho => meets_ite ho.linkRestart.linkChoose ho
theorem Dev.meets.endImage (h : d.meets I) : d.endImage.meets I := h.closeFrames.maskAll.each fun _ _ ho => ho.clearPort
theorem Dev.meets.takeImage {g} (h : d.meets I) : (d.takeImage g).meets I := h.update.setImgState.setBit.setBit.put

theorem Dev.meets.setLanes (h : d.meets I) : d.setLanes.meets I :=
  h.each fun _ _ ho => meets_ite (meets_ite ho ho.setLaneSt.setGood.unmark) (meets_ite ho.laneDeep ho)

theorem Dev.meets.takeFields {old} (h : d.meets I) : (d.takeFields old).meets I :=
  h.setShape.setDigest.assignEngines.resetTables.setRows.setInspection.setLanes

theorem Dev.meets.showDaily (h : d.meets I) : d.showDaily.meets I := meets_ite h.sendDaily h.compareDailies

theorem Dev.meets.activateStop {g} (h : d.meets I) : (d.activateStop g).meets I :=
  have h1 := h.endImage.takeImage.takeFields.setPools.setPosition.lineMoved.seekRows.startLoops.bringUp
  (h1.each fun _ _ ho => ho.checkPd).journal.sendShape.showDaily

theorem Dev.meets.activateHot {g} (h : d.meets I) : (d.activateHot g).meets I :=
  ((h.each fun _ _ ho => ho.frameClose).update.each fun _ _ ho => ho.put).put

end
end Sys2Proof.Machine
end

section
open Sys2Proof
namespace Sys2Proof.Machine
section
variable {I : PortInvariant} {d : Dev}

/-! ### Host ports and network time (R290 to R313) -/

theorem Dev.meets.xptDrop (h : d.meets I) : d.xptDrop.meets I := h.count

theorem Dev.meets.xptRefill {n s} (h : d.meets I) : (Dev.xptRefill n d s).meets I := by
  induction n generalizing d with
  | zero => exact h
  | succ n ih =>
    unfold Dev.xptRefill
    dsimp only
    split
    · exact h
    · exact meets_ite h (ih h.setSess.xptSend)

theorem Dev.meets.xptTakeAck {g} (h : d.meets I) : (d.xptTakeAck g).meets I := h.setSess.xptRefill

theorem Dev.meets.xptEnd {s} (h : d.meets I) : (d.xptEnd s).meets I :=
  meets_ite (h.setCtx.newSess rfl).put (h.setCtx.newSess rfl).put.dropUnits

theorem Dev.meets.xptPutEntries {s pos data} (h : d.meets I) : (d.xptPutEntries s pos data).meets I := h.setCtx
theorem Dev.meets.xptStage {s off data} (h : d.meets buffers) : (d.xptStage s off data).meets buffers := meets_ite h.accessErr h.stage

theorem Dev.meets.xptDeliver {s type p} (h : d.meets buffers) : (d.xptDeliver s type p).meets buffers :=
  meets_ite h.xptPutEntries <|
    meets_ite h.raise (meets_ite h.sqDoorbell.cqDoorbell (meets_ite h.xptStage (meets_ite h.xptEnd h)))

theorem Dev.meets.xptDrain {n s} (h : d.meets buffers) : (Dev.xptDrain n d s).meets buffers := by
  induction n generalizing d with
  | zero => exact h
  | succ n ih =>
    unfold Dev.xptDrain
    dsimp only
    split
    · exact h
    · exact ih h.setSess.xptDeliver

theorem Dev.meets.xptOrder {g} (h : d.meets buffers) : (d.xptOrder g).meets buffers :=
  meets_ite h.xptDrop (meets_ite h.xptTakeAck.setSess.xptDeliver.xptDrain h.xptTakeAck.setSess)

theorem Dev.meets.xptArrive {type data} (h : d.meets buffers) : (d.xptArrive type data).meets buffers := by
  unfold Dev.xptArrive
  split
  · exact h.xptDrop
  · exact meets_ite h (meets_ite h.xptDrop (meets_ite h.xptTakeAck h.xptOrder))

theorem Dev.meets.xptBind {s ep peer port vlan v mb p} (h : d.meets I) : (d.xptBind s ep peer port vlan v mb p).meets I :=
  ((meets_ite h h.dropUnits).takeUnits.setCtx.newSess rfl).put.setBit.setBit.xptSend

theorem Dev.meets.xptHello {ep peer port vlan data} (h : d.meets I) : (d.xptHello ep peer port vlan data).meets I := by
  unfold Dev.xptHello
  dsimp only
  split
  · exact h.xptDrop
  · exact meets_ite h (meets_ite h.raise (meets_ite (meets_ite h.xptBind.xptFlushCqe h.xptBind).postDone h.raise.xptEmitAt))

theorem Dev.meets.execHello {ep peer port vlan data} (h : d.meets I) : (d.viaRow (execHello ep peer port vlan data)).meets I :=
  meets_viaRow (fun _ => rfl) h.xptHello

theorem Dev.meets.execEntries {data} (h : d.meets buffers) : (d.viaRow (execEntries data)).meets buffers :=
  meets_viaRow (fun _ => rfl) h.xptArrive

theorem Dev.meets.execXptDoorbell {data} (h : d.meets buffers) : (d.viaRow (execXptDoorbell data)).meets buffers :=
  meets_viaRow (fun _ => rfl) h.xptArrive

theorem Dev.meets.execXptWrite {data} (h : d.meets buffers) : (d.viaRow (execXptWrite data)).meets buffers :=
  meets_viaRow (fun _ => rfl) h.xptArrive

theorem Dev.meets.execXptAck {data} (h : d.meets buffers) : (d.viaRow (execXptAck data)).meets buffers :=
  meets_viaRow (fun _ => rfl) h.xptArrive

theorem Dev.meets.execXptClose {data} (h : d.meets buffers) : (d.viaRow (execXptClose data)).meets buffers :=
  meets_viaRow (fun _ => rfl) h.xptArrive

theorem Dev.meets.execXptAckTimer {slot} (h : d.meets I) : (d.viaRow (execXptAckTimer slot)).meets I :=
  meets_viaRow (fun _ => rfl) (meets_ite h.drawn.xptEmit h)

theorem Dev.meets.xptLost {s} (h : d.meets I) : (d.xptLost s).meets I := h.setSess.setBit.stopRings.ctxEvent.raise

theorem Dev.meets.execXptResend {slot seq} (h : d.meets I) : (d.viaRow (execXptResend slot seq)).meets I :=
  meets_viaRow (fun _ => rfl) <| by
    dsimp only
    split
    · exact h
    · exact meets_ite h.xptLost h.setSess.count.xptEmit

theorem Dev.meets.execCqeCoalesceTimer {slot} (h : d.meets I) : (d.viaRow (execCqeCoalesceTimer slot)).meets I :=
  meets_viaRow (fun _ => rfl) h.xptFlushCqe

theorem Dev.meets.mgmtTake {p f stamp} (h : d.meets buffers) : (d.mgmtTake p f stamp).meets buffers := h.inHst
theorem Dev.meets.mgmtOffer {p f} (h : d.meets buffers) : (d.mgmtOffer p f).meets buffers := meets_ite h.inHst.mgmtTake h.count

theorem Dev.meets.classify {p f i} (h : d.meets buffers) : (d.classify p f i).meets buffers := by
  unfold Dev.classify
  dsimp only
  split
  · exact h.count
  · split
    · exact h.mgmtTake
    · split
      · exact meets_ite h.xptHello h.xptArrive
      · exact meets_ite h.mgmtOffer h

theorem Dev.meets.frameIn {p sub frame} (h : d.meets buffers) : (d.frameIn p sub frame).meets buffers :=
  meets_ite h (meets_ite h (meets_ite h.count h.classify))

theorem Dev.meets.execEthFrameReceive {ep sub frame} (h : d.meets buffers) : (d.viaRow (execEthFrameReceive ep sub frame)).meets buffers :=
  meets_viaRow (fun _ => rfl) h.frameIn

theorem Dev.meets.pushStamp {p b} (h : d.meets buffers) : (d.pushStamp p b).meets buffers := meets_ite h.count.raise h.inHst

theorem Dev.meets.execEthFrameTransmit {ep sub frame} (h : d.meets buffers) :
    (d.viaRow (execEthFrameTransmit ep sub frame)).meets buffers :=
  meets_viaRow (fun _ => rfl) <|
    meets_ite
      (by
        dsimp only
        split
        · exact h.send.pushStamp
        · exact h.send)
      h

theorem Dev.meets.execTxtsPop {req ep} (h : d.meets buffers) : (d.viaRow (execTxtsPop req ep)).meets buffers :=
  meets_viaRow (fun _ => rfl) h.send.inHst

theorem Dev.meets.ethLink {ep up fec} (h : d.meets I) : (d.ethLink ep up fec).meets I :=
  have h1 := meets_ite (h.put.each fun _ _ ho => ho.ctxEvent).raise h.put
  meets_ite h1 h1.irqPulse

theorem Dev.meets.execEthLinkChange {ep up fec} (h : d.meets I) : (d.viaRow (execEthLinkChange ep up fec)).meets I :=
  meets_viaRow (fun _ => rfl) h.ethLink

theorem Dev.meets.setD3 {fn b} (h : d.meets buffers) : (d.setD3 fn b).meets buffers := meets_ite h.inHst.setBit h.inHst

theorem Dev.meets.execD3hotEntry {fn turnOff pmeEn} (h : d.meets buffers) : (d.viaRow (execD3hotEntry fn turnOff pmeEn)).meets buffers :=
  meets_viaRow (fun _ => rfl) (meets_ite (h.each fun _ _ ho => ho.flushVecs.setD3).send h.flushVecs.setD3.inHst)

theorem Dev.meets.execD0Return {fn} (h : d.meets buffers) : (d.viaRow (execD0Return fn)).meets buffers :=
  meets_viaRow (fun _ => rfl) h.setD3.sendPba.resumeDma

theorem Dev.meets.execVfFlr {vf} (h : d.meets I) : (d.viaRow (execVfFlr vf)).meets I :=
  meets_viaRow (fun _ => rfl) (meets_ite h (h.each fun _ _ ho => ho.flrSlot))

theorem Dev.meets.pciReset {linkDown} (h : d.meets buffers) : (d.pciReset linkDown).meets buffers :=
  (meets_ite h.inHst.put.irqPulse h.inHst.setBit).each fun _ _ ho => ho.flrSlot

theorem Dev.meets.execPfFlr {linkDown} (h : d.meets buffers) : (d.viaRow (execPfFlr linkDown)).meets buffers :=
  meets_viaRow (fun _ => rfl) h.pciReset

theorem Dev.meets.execMsixTimer {fn vec} (h : d.meets I) : (d.viaRow (execMsixTimer fn vec)).meets I :=
  meets_viaRow (fun _ => rfl) (meets_ite h.vecDue h)

theorem Dev.meets.execMsixUnmask {fn vec} (h : d.meets buffers) : (d.viaRow (execMsixUnmask fn vec)).meets buffers :=
  meets_viaRow (fun _ => rfl) <|
    .sendPba <| by
      split
      · exact h.setVec
      · exact h.inHst

theorem Dev.meets.execPcieLinkUp {gen width} (h : d.meets buffers) : (d.viaRow (execPcieLinkUp gen width)).meets buffers :=
  meets_viaRow (fun _ => rfl) <|
    (h.inHst.setFld.setFld.setBit.setBit.setBit.irqPulse.each fun _ _ ho => ho.sendPba).each fun _ _ ho => ho.resumeDma

theorem Dev.meets.execL1ExitComplete (h : d.meets I) : (d.viaRow execL1ExitComplete).meets I :=
  meets_viaRow (fun _ => rfl) (h.setBit.inVectors.foldl fun _ _ ho => meets_ite ho ho.vecDue)

theorem Dev.meets.execTsuIncWrite {req part value} (h : d.meets I) : (d.viaRow (execTsuIncWrite req part value)).meets I :=
  meets_viaRow (fun _ => rfl) (meets_ite h.put h.put.refuse)

theorem Dev.meets.setClock32 {c} (h : d.meets I) : (d.setClock32 c).meets I := h.put.put
theorem Dev.meets.setTout {t n} (h : d.meets buffers) : (d.setTout t n).meets buffers := h.inHst

theorem Dev.meets.toutPass {t} (h : d.meets buffers) : (d.toutPass t).meets buffers :=
  meets_ite h (meets_ite h.count.setBit h.add32.setTout)

theorem Dev.meets.execTsuStep {req} (h : d.meets buffers) : (d.viaRow (execTsuStep req)).meets buffers :=
  meets_viaRow (fun _ => rfl) (h.put.each fun _ _ ho => ho.toutPass)

theorem Dev.meets.execTsuSet {req} (h : d.meets buffers) : (d.viaRow (execTsuSet req)).meets buffers :=
  meets_viaRow (fun _ => rfl) (h.put.put.each fun _ _ ho => ho.toutPass)

theorem Dev.meets.execToutArm {req t value} (h : d.meets buffers) : (d.viaRow (execToutArm req t value)).meets buffers :=
  meets_viaRow (fun _ => rfl) <|
    meets_ite (meets_ite h.put.send h.put) (meets_ite h.refuse (meets_ite h.refuse h.put.setTout))

theorem Dev.meets.execToutPulse {t} (h : d.meets buffers) : (d.viaRow (execToutPulse t)).meets buffers :=
  meets_viaRow (fun _ => rfl) (meets_ite (meets_ite h.send.irqPulse.setBit h.send.irqPulse.setTout) h)

theorem Dev.meets.tick (h : d.meets I) : d.tick.meets I := h.update.setClock32

/-! ### Camera links, triggers and camera lines (R212 to R221) -/

theorem Dev.meets.setCam {c st} (h : d.meets I) : (d.setCam c st).meets I := h.setFld
theorem Dev.meets.camRestart {c st} (h : d.meets I) : (d.camRestart c st).meets I := h.frameClose.lanesFor.setPipe.setCam.setFld
theorem Dev.meets.camFail {c} (h : d.meets I) : (d.camFail c).meets I := h.camRestart.event.raise
theorem Dev.meets.camDown {c} (h : d.meets I) : (d.camDown c).meets I := (meets_ite h.event.raise h).camRestart
theorem Dev.meets.camCaps {c} (h : d.meets I) : (d.camCaps c).meets I := meets_ite h.setCam.setFld.txStart.setPipe h
theorem Dev.meets.camWords {c seq body} (h : d.meets I) : (d.camWords c seq body).meets I := h.txMessage
theorem Dev.meets.sendCamset {c} (h : d.meets I) : (d.sendCamset c).meets I := h.setPipe.send.camWords
theorem Dev.meets.camRetrain {c} (h : d.meets I) : (d.camRetrain c).meets I := h.setPipe.trainLanes

theorem Dev.meets.camRetrained {c} (h : d.meets I) : (d.camRetrained c).meets I := meets_ite h.setPipe.txStart.sendCamset h

theorem Dev.meets.camDegrade {c} (h : d.meets I) : (d.camDegrade c).meets I :=
  meets_ite h.camDown (meets_ite h.camFail h.camRestart)

theorem Dev.meets.sendTrigger {c slot} (h : d.meets I) : (d.sendTrigger c slot).meets I :=
  h.at.noteTrack.setPipe.setBit.send.txSlot.txTo.noteTrack

theorem Dev.meets.insRate {c} (h : d.meets I) : (d.insRate c).meets I := meets_ite h.event.setPipe.raise h.event
theorem Dev.meets.skipTrigger {c} (h : d.meets I) : (d.skipTrigger c).meets I := h.count.insRate

theorem Dev.meets.triggerAt {c k} (h : d.meets I) : (d.triggerAt c k).meets I := by
  unfold Dev.triggerAt
  dsimp only
  split
  · exact h
  · exact meets_ite h (meets_ite h.sendTrigger (meets_ite h.skipTrigger h.count.insRate.sendTrigger))

theorem Dev.meets.badLine {c} (h : d.meets I) : (d.badLine c).meets I := h.count.event.raise

theorem Dev.meets.lineClose {c l} (h : d.meets I) : (d.lineClose c l).meets I :=
  have h1 := meets_ite h.setPipe.badLine (meets_ite h.setPipe.count h.setPipe)
  have h2 := meets_ite h1.drawn.frameLine.setPipe.retireCopies h1.drawn.frameLine
  meets_ite (meets_ite h2.frameClose h2.frameClose.setPipe.setBit) h2

theorem Dev.meets.setLine {c tseq f} (h : d.meets I) : (d.setLine c tseq f).meets I := h.setPipe

theorem Dev.meets.rawPacket {c fmt vc chan tseq npix x0 body bad} (h : d.meets I) :
    (d.rawPacket c fmt vc chan tseq npix x0 body bad).meets I :=
  have h1 := h.foldl fun _ _ ho => ho.lineClose
  meets_ite h1 (meets_ite h1.badLine (meets_ite h1.badLine (meets_ite h1.setLine.raise h1.setLine)))

/-! ### Commands of the head links (R174 to R211) -/

theorem Dev.meets.execBatchSend {port} (h : d.meets I) : (d.viaRow (execBatchSend port)).meets I :=
  meets_viaRow (fun _ => rfl) <| by
    dsimp only
    split
    · exact h
    · exact meets_ite h h.setSyn.setPort.setCredits.noteOutstanding.send.headWords

theorem Dev.meets.skipCode {n noCredit} (h : d.meets I) : (d.skipCode n noCredit).meets I :=
  meets_ite (meets_ite h.count.setPort.raise h.count) (meets_ite h.setPort.raise h)

theorem Dev.meets.execBatchSkip {port fire} (h : d.meets I) : (d.viaRow (execBatchSkip port fire)).meets I :=
  meets_viaRow (fun _ => rfl) (meets_ite h h.setSyn.setPort.count.skipCode.spoilPort)

theorem Dev.meets.ackStage {n type} (h : d.meets I) : (d.ackStage n type).meets I :=
  meets_ite h.linkRetrain (meets_ite h.linkUp.sampleCfg h)

theorem Dev.meets.execHeadAck {port refused seq} (h : d.meets I) : (d.viaRow (execHeadAck port refused seq)).meets I :=
  meets_viaRow (fun _ => rfl) <| by
    dsimp only
    split
    · exact h
    · exact meets_ite h.relinkFault h.setPort.ackStage

theorem Dev.meets.execHeadEvent {port counts} (h : d.meets I) : (d.viaRow (execHeadEvent port counts)).meets I :=
  meets_viaRow (fun _ => rfl) <|
    have h1 := h.foldl fun _ _ ho => ho.add32
    meets_ite h1.setPort.event.raise h1.setPort

theorem Dev.meets.execNsense {port entries} (h : d.meets I) : (d.viaRow (execNsense port entries)).meets I :=
  meets_viaRow (fun _ => rfl) (meets_ite h h.senseEntries.decide'.noteLoop.mirrorCells)

theorem Dev.meets.judgeHeaders {hs} (h : d.meets I) : (d.judgeHeaders hs).meets I :=
  h.of_reach (x := judgeHeadersReach) rfl rfl rfl fun hd hx => hd.judgeHeaders hx

theorem Dev.meets.execAckTimeout {port seq} (h : d.meets I) : (d.viaRow (execAckTimeout port seq)).meets I :=
  meets_viaRow (fun _ => rfl) <| by
    dsimp only
    split
    · exact h
    · exact meets_ite h.relinkFault.raise h.setPort.send.headWords

theorem Dev.meets.execUpstreamSilent {port} (h : d.meets I) : (d.viaRow (execUpstreamSilent port)).meets I :=
  meets_viaRow (fun _ => rfl) (meets_ite h h.relinkFault.raise)

theorem Dev.meets.execGo {req port} (h : d.meets I) : (d.viaRow (execGo req port)).meets I :=
  meets_viaRow (fun _ => rfl) (meets_ite h.refuse (meets_ite h.go.put h.go))

theorem Dev.meets.execGoAll {req} (h : d.meets I) : (d.viaRow (execGoAll req)).meets I :=
  meets_viaRow (fun _ => rfl) <|
    have h1 := h.each fun _ _ ho => ho.go
    meets_ite h1.put h1

theorem Dev.meets.leavePort {n} (h : d.meets I) : (d.leavePort n).meets I := meets_ite h h.headSend.setPort

theorem Dev.meets.execLeave {req port} (h : d.meets I) : (d.viaRow (execLeave req port)).meets I :=
  meets_viaRow (fun _ => rfl) (meets_ite h.refuse h.leavePort)

theorem Dev.meets.execRelink {req port} (h : d.meets I) : (d.viaRow (execRelink req port)).meets I :=
  meets_viaRow (fun _ => rfl) (meets_ite h.refuse h.relink)

theorem Dev.meets.execPortLeaveEffect {port} (h : d.meets I) : (d.viaRow (execPortLeaveEffect port)).meets I :=
  meets_viaRow (fun _ => rfl) <| by
    dsimp only
    split
    · exact h
    · exact meets_ite h h.setPort.setLink.clearPort.setCredits.noteOutstanding

/-! ### Commands of the partner block (R314 to R335) -/

theorem Dev.meets.execPresentChange {present} (h : d.meets I) : (d.viaRow (execPresentChange present)).meets I :=
  meets_viaRow (fun _ => rfl) (meets_ite h.setBit.setRole (meets_ite h.setBit.setRole h.setBit))

theorem Dev.meets.execHeartbeatLost (h : d.meets I) : (d.viaRow execHeartbeatLost).meets I :=
  meets_viaRow (fun _ => rfl) (meets_ite h.setBit.setBit.event.raise h.setBit)

theorem Dev.meets.execMirrorSilent (h : d.meets I) : (d.viaRow execMirrorSilent).meets I :=
  meets_viaRow (fun _ => rfl) (meets_ite (meets_ite h.silentDeath h.setUnfit) h)

theorem Dev.meets.execSilentDeath (h : d.meets I) : (d.viaRow execSilentDeath).meets I :=
  meets_viaRow (fun _ => rfl) h.setBit.silentDeath

theorem Dev.meets.execDualActive (h : d.meets I) : (d.viaRow execDualActive).meets I :=
  meets_viaRow (fun _ => rfl) <|
    meets_ite h.setBit (meets_ite h.setBit.event.raise h.setBit.event.raise.update.setUnfit.setRole)

theorem Dev.meets.sendPcap {l} (h : d.meets I) : (d.sendPcap l).meets I := h.send

theorem Dev.meets.streamSnapshot (h : d.meets I) : d.streamSnapshot.meets I := h.foldl fun _ _ ho => ho.mirrorSend

theorem Dev.meets.noteDaily {words} (h : d.meets I) : (d.noteDaily words).meets I :=
  have h1 := (h.each fun _ _ ho => ho.put).compareDailies
  meets_ite h1.setBit h1

theorem Dev.meets.surrenderNow {cause} (h : d.meets I) : (d.surrenderNow cause).meets I := by
  unfold Dev.surrenderNow
  dsimp only
  split
  · exact meets_ite h.surrender h.surrender.surrenderAt
  · exact h.surrender

theorem Dev.meets.retryRemoval (h : d.meets I) : d.retryRemoval.meets I := meets_ite h.update.surrenderNow h

theorem Dev.meets.applyDaily {words} (h : d.meets I) : (d.applyDaily words).meets I :=
  have h1 := meets_ite h.update.noteDaily.streamSnapshot h.update.noteDaily
  (meets_ite h1 h1.partnerAcked).retryRemoval

theorem Dev.meets.applyVerdict {n f outcome} (h : d.meets I) : (d.applyVerdict n f outcome).meets I := by
  unfold Dev.applyVerdict
  dsimp only
  split
  · exact h
  · split
    · exact (meets_ite h.event.raise.withdrawPort (h.event.raise.each fun _ _ ho => ho.spoilPort)).engineFail
    · exact meets_ite h.event.raise.withdrawPort (h.event.raise.each fun _ _ ho => ho.spoilPort)

theorem Dev.meets.rerunNext (h : d.meets I) : d.rerunNext.meets I := by
  unfold Dev.rerunNext
  dsimp only
  split
  · exact h.setBit.noteSpares.update
  · exact h

theorem Dev.meets.execVerdictReady {outcome} (h : d.meets I) : (d.viaRow (execVerdictReady outcome)).meets I :=
  meets_viaRow (fun _ => rfl) <| by
    split
    · exact h
    · extract_lets ptn1 d1 d2 d3
      have h2 : d2.meets I := by
        dsimp only [d2]
        split
        · exact meets_ite h.update h.update.setBit.noteSpares
        · exact h.update
      have h3 : d3.meets I := h2.rerunNext.raise.mirrorSend
      refine meets_ite ?_ (meets_ite h3.setUnfit h3)
      split
      · exact h3.engineFail
      · exact h3

theorem Dev.meets.applySurrender {fs cause} (h : d.meets I) : (d.applySurrender fs cause).meets I :=
  meets_ite h.setFld.update h.setFld

theorem Dev.meets.applyRecord {pipe words} (h : d.meets I) : (d.applyRecord pipe words).meets I := meets_ite h h.update
theorem Dev.meets.applyAck {m} (h : d.meets I) : (d.applyAck m).meets I := h.update.partnerAcked

theorem Dev.meets.applyRec {r} (h : d.meets I) : (d.applyRec r).meets I := by
  unfold Dev.applyRec
  split
  · exact h
  · exact h.applyBind
  · exact h.applyCommit
  · exact h.applyCrc
  · exact h.applyLock
  · exact h.applyBlock
  · exact h.applyTable
  · exact h.applyMasks
  · exact h.applyHealth
  · exact h.applyPage
  · exact h.applyEffect
  · exact h.applyRegion
  · exact h.applyLoop
  · exact h.applyDaily
  · exact h.applySurrender
  · exact h.applyVerdict
  · exact h.applyAck
  · exact h.applyRecord

theorem Dev.meets.takeRec {r} (h : d.meets I) : (d.takeRec r).meets I := meets_ite h h.applyRec

theorem Dev.meets.drainHeld {n} (h : d.meets I) : (Dev.drainHeld n d).meets I := by
  induction n generalizing d with
  | zero => exact h
  | succ n ih =>
    unfold Dev.drainHeld
    dsimp only
    split
    · exact h
    · refine ih ?_
      split
      · exact h.update.put.takeRec
      · exact h.update.put

theorem Dev.meets.sendAck (h : d.meets I) : d.sendAck.meets I := h.mirrorSend

theorem Dev.meets.mirrorTake {mseq r} (h : d.meets I) : (d.mirrorTake mseq r).meets I :=
  meets_ite (meets_ite h.takeRec.update h.update) <|
    meets_ite (meets_ite h.update.put.takeRec.drainHeld h.update.put.takeRec.drainHeld.sendAck) (meets_ite h.update h)

theorem Dev.meets.execBindRecord {mseq b} (h : d.meets I) : (d.viaRow (execBindRecord mseq b)).meets I :=
  meets_viaRow (fun _ => rfl) h.mirrorTake

theorem Dev.meets.execMirrorCommit {mseq fire line} (h : d.meets I) : (d.viaRow (execMirrorCommit mseq fire line)).meets I :=
  meets_viaRow (fun _ => rfl) h.mirrorTake

theorem Dev.meets.execMirrorCrc {mseq fire comparable crcs} (h : d.meets I) :
    (d.viaRow (execMirrorCrc mseq fire comparable crcs)).meets I :=
  meets_viaRow (fun _ => rfl) h.mirrorTake

theorem Dev.meets.execLockRecord {mseq region strip first lines missing} (h : d.meets I) :
    (d.viaRow (execLockRecord mseq region strip first lines missing)).meets I :=
  meets_viaRow (fun _ => rfl) h.mirrorTake

theorem Dev.meets.execMirrorBlock {mseq slot region strip first lines heapLen bytes} (h : d.meets I) :
    (d.viaRow (execMirrorBlock mseq slot region strip first lines heapLen bytes)).meets I :=
  meets_viaRow (fun _ => rfl) h.mirrorTake

theorem Dev.meets.execTableRecord {mseq port entries fire} (h : d.meets I) :
    (d.viaRow (execTableRecord mseq port entries fire)).meets I :=
  meets_viaRow (fun _ => rfl) h.mirrorTake

theorem Dev.meets.execMirrorHealth {mseq h'} (h : d.meets I) : (d.viaRow (execMirrorHealth mseq h')).meets I :=
  meets_viaRow (fun _ => rfl) h.mirrorTake

theorem Dev.meets.execCtxRecord {mseq c} (h : d.meets I) : (d.viaRow (execCtxRecord mseq c)).meets I :=
  meets_viaRow (fun _ => rfl) h.mirrorTake

theorem Dev.meets.execLoopRecord {mseq cells armed} (h : d.meets I) : (d.viaRow (execLoopRecord mseq cells armed)).meets I :=
  meets_viaRow (fun _ => rfl) h.mirrorTake

theorem Dev.meets.execDaily {mseq words} (h : d.meets I) : (d.viaRow (execDaily mseq words)).meets I :=
  meets_viaRow (fun _ => rfl) h.mirrorTake

theorem Dev.meets.execSurrenderRecord {mseq fire cause} (h : d.meets I) :
    (d.viaRow (execSurrenderRecord mseq fire cause)).meets I :=
  meets_viaRow (fun _ => rfl) h.mirrorTake

theorem Dev.meets.execVerdict {mseq port fire outcome} (h : d.meets I) :
    (d.viaRow (execVerdict mseq port fire outcome)).meets I :=
  meets_viaRow (fun _ => rfl) h.mirrorTake

theorem Dev.meets.execMirrorAck {mseq acked} (h : d.meets I) : (d.viaRow (execMirrorAck mseq acked)).meets I :=
  meets_viaRow (fun _ => rfl) h.mirrorTake

theorem Dev.meets.execRecordMsg {mseq pipe words} (h : d.meets I) : (d.viaRow (execRecordMsg mseq pipe words)).meets I :=
  meets_viaRow (fun _ => rfl) h.mirrorTake

theorem Dev.meets.resync (h : d.meets I) : d.resync.meets I := h.update.setRole

theorem Dev.meets.execMirrorGap (h : d.meets I) : (d.viaRow execMirrorGap).meets I :=
  meets_viaRow (fun _ => rfl) (meets_ite h.event.raise.setUnfit.resync h.update)

theorem Dev.meets.execSnapshotApplied {mseq recs} (h : d.meets I) : (d.viaRow (execSnapshotApplied mseq recs)).meets I :=
  meets_viaRow (fun _ => rfl) <|
    meets_ite h <|
      have h1 := (h.foldl fun _ _ ho => ho.takeRec).update.put.each fun _ _ ho => ho.setBit
      (h1.each fun _ _ ho => ho.go).setUnfit.setRole.drainHeld.sendAck

theorem Dev.meets.execResync (h : d.meets I) : (d.viaRow execResync).meets I :=
  meets_viaRow (fun _ => rfl) (meets_ite h.resync h)

theorem Dev.meets.execPtnSurrender (h : d.meets I) : (d.viaRow execPtnSurrender).meets I :=
  meets_viaRow (fun _ => rfl) (meets_ite h.surrenderNow h)

theorem Dev.meets.execTakeover (h : d.meets I) : (d.viaRow execTakeover).meets I :=
  meets_viaRow (fun _ => rfl) <| by
    split
    · exact h
    · exact h.takeover

theorem Dev.meets.execRemoveRequest {assert} (h : d.meets I) : (d.viaRow (execRemoveRequest assert)).meets I :=
  meets_viaRow (fun _ => rfl) <|
    meets_ite h.update <|
      meets_ite (h.update.each fun _ _ ho => ho.leavePort).goOff <|
        meets_ite h.update.surrenderNow h.update.update.event.raise

theorem Dev.meets.execForceRemove (h : d.meets I) : (d.viaRow execForceRemove).meets I :=
  meets_viaRow (fun _ => rfl) (meets_ite (meets_ite h.stopFiring h).update.goOff h)

theorem Dev.meets.execPairEnWrite {enable} (h : d.meets I) : (d.viaRow (execPairEnWrite enable)).meets I :=
  meets_viaRow (fun _ => rfl) (meets_ite (meets_ite h.setBit h.setBit.update.setRole) (meets_ite h.setBit.setRole h.setBit))

/-! ### Commands of the print-quality loop (R240 to R263) -/

theorem Dev.meets.execQlRecordProcess (h : d.meets I) : (d.viaRow execQlRecordProcess).meets I :=
  meets_viaRow (fun _ => rfl) <| by
    split
    · exact h
    · exact h.update.loopRecord

theorem Dev.meets.execQlHealthPresent (h : d.meets I) : (d.viaRow execQlHealthPresent).meets I :=
  meets_viaRow (fun _ => rfl) <| by
    split
    · exact h
    · exact h.present

theorem Dev.meets.execQlHealthRetry (h : d.meets I) : (d.viaRow execQlHealthRetry).meets I :=
  meets_viaRow (fun _ => rfl) <| by
    split
    · exact h
    · exact h.present

theorem Dev.meets.execQlClear (h : d.meets I) : (d.viaRow execQlClear).meets I :=
  meets_viaRow (fun _ => rfl) h.loopClear.mirrorCells

theorem Dev.meets.sendCascap {l} (h : d.meets I) : (d.sendCascap l).meets I := h.casEmit

theorem Dev.meets.execCascadeRetry {link} (h : d.meets I) : (d.viaRow (execCascadeRetry link)).meets I :=
  meets_viaRow (fun _ => rfl) (meets_ite h h.event.raise.uncap.lanesDown)

theorem Dev.meets.casForward {l type w1 port body} (h : d.meets I) : (d.casForward l type w1 port body).meets I :=
  meets_ite h.casDrop h.casPut

theorem Dev.meets.casTake {l type w1 port body f} (h : d.meets I) (hf : ∀ e, e.meets I → (f e).meets I) :
    (d.casTake l type w1 port body f).meets I :=
  meets_ite (hf _ h.count).casForward (meets_ite (hf _ h.count) h.casForward)

theorem Dev.meets.updBar {b f} (h : d.meets I) : (d.updBar b f).meets I := h.update

theorem Dev.meets.execShape {link w1 serial fluids} (h : d.meets I) : (d.viaRow (execShape link w1 serial fluids)).meets I :=
  meets_viaRow (fun _ => rfl) (h.casTake fun _ ho => ho.updBar)

theorem Dev.meets.execFeed {link w1 w2 w3 w4 w5 block} (h : d.meets I) :
    (d.viaRow (execFeed link w1 w2 w3 w4 w5 block)).meets I :=
  meets_viaRow (fun _ => rfl) (h.casTake fun _ ho => meets_ite ho ho.addCopy)

theorem Dev.meets.execCasHealth {link w1 body} (h : d.meets I) : (d.viaRow (execCasHealth link w1 body)).meets I :=
  meets_viaRow (fun _ => rfl) (h.casTake fun _ ho => ho.updBar)

theorem Dev.meets.execSpoiln {link w1 w2 w3 w4 w5} (h : d.meets I) : (d.viaRow (execSpoiln link w1 w2 w3 w4 w5)).meets I :=
  meets_viaRow (fun _ => rfl) (h.casTake fun _ ho => ho.updBar)

theorem Dev.meets.execDevrec {link w1 frame w3 w4 w5 entries} (h : d.meets I) :
    (d.viaRow (execDevrec link w1 frame w3 w4 w5 entries)).meets I :=
  meets_viaRow (fun _ => rfl) (h.casTake fun _ ho => ho.loopRecord)

end
end Sys2Proof.Machine
end

section
open Sys2Proof
namespace Sys2Proof.Machine
section
variable {I : PortInvariant} {d : Dev}

/-! ### What a lane does to its port (R392 to R403) -/

theorem Dev.meets.linkLive {k} (h : d.meets I) : (d.linkLive k).meets I :=
  meets_ite h (meets_ite (meets_ite h.setBit.update h.setBit) h.setBit.txStart.sendShape)

theorem Dev.meets.noMirror (h : d.meets I) : d.noMirror.meets I := meets_ite h h.update.partnerAcked

theorem Dev.meets.linkDead {k} (h : d.meets I) : (d.linkDead k).meets I :=
  meets_ite h (meets_ite h.setBit.event.raise.noMirror h.setBit.event.raise)

theorem Dev.meets.linkAnew {k} (h : d.meets I) : (d.linkAnew k).meets I := h.linkDead.uncap.lanesRest

theorem Dev.meets.groupDown {x} (h : d.meets I) : (d.groupDown x).meets I := by
  unfold Dev.groupDown
  split
  · exact meets_ite h.lanesDown h.linkDown
  · exact meets_ite h.lanesDown h.camDown
  · exact h.ethLink
  · exact h
  · exact h.linkAnew.lanesDown
  · exact h.linkAnew.lanesDown

theorem Dev.meets.groupAnew {x} (h : d.meets I) : (d.groupAnew x).meets I := by
  unfold Dev.groupAnew
  split
  · exact meets_ite h (meets_ite h.linkRestart h.relink)
  · exact meets_ite h (meets_ite h.camFail h.camRestart)
  · exact h
  · exact h
  · exact h.linkAnew
  · exact h.linkAnew

theorem Dev.meets.epLaneDown {p l} (h : d.meets I) : (d.epLaneDown p l).meets I := h.ethLink

theorem Dev.meets.laneSurrender (h : d.meets I) : d.laneSurrender.meets I := by
  unfold Dev.laneSurrender
  split
  · exact meets_ite h.surrender h
  · exact h

theorem Dev.meets.linkLanesUp {k hello} (h : d.meets I) (hhello : hello.meets I) : (d.linkLanesUp k hello).meets I :=
  meets_ite (meets_ite h.linkLive h) hhello

theorem Dev.meets.groupTrained {g} (h : d.meets I) : (d.groupTrained g).meets I := by
  unfold Dev.groupTrained
  split
  · exact meets_ite h.linkCaps h.linkRetrained
  · exact meets_ite h.camCaps h.camRetrained
  · exact h
  · exact h
  · exact h.linkLanesUp h.sendPcap
  · exact h.linkLanesUp h.txStart.sendCascap

theorem Dev.meets.laneFail {l} (h : d.meets I) : (d.laneFail l).meets I := by
  unfold Dev.laneFail
  split
  · exact meets_ite h.relinkWide.laneSurrender (meets_ite h h.linkRestart)
  · exact h.camDegrade
  · exact h.laneDeep.epLaneDown
  · exact h.laneDeep
  · exact h.linkDead.noteRetrain.trainLanes
  · exact h.linkDead.noteRetrain.trainLanes

theorem Dev.meets.portLoses {l} (h : d.meets I) : (d.portLoses l).meets I := by
  unfold Dev.portLoses
  dsimp only
  split
  · exact (meets_ite (meets_ite h.raise h.raise.linkDown) h.raise.relinkWide).laneSurrender
  · exact meets_ite (meets_ite h h.event.raise) (meets_ite h h.event.raise).camDegrade
  · exact h.epLaneDown
  · exact h
  · exact meets_ite h.linkDead h.event.raise
  · exact meets_ite h.linkDead h.event.raise

theorem Dev.meets.markDown {l} (h : d.meets I) : (d.markDown l).meets I :=
  h.setLaneSt.setBit.setGood.event.raise.event.put.portLoses

theorem Dev.meets.stageFail {l} (h : d.meets I) : (d.stageFail l).meets I :=
  meets_ite h.setLane.markDown h.setLane.setLaneSt.setBit

theorem Dev.meets.setEye {l w h'} (h : d.meets I) : (d.setEye l w h').meets I := h.setFld.setFld

theorem Dev.meets.stageDone {l ctle taps w h'} (h : d.meets I) : (d.stageDone l ctle taps w h').meets I :=
  meets_ite h.setLaneSt.setBit <|
    meets_ite h.setLaneSt.put <|
      meets_ite h.setLaneSt <|
        meets_ite (h.setLaneSt.each fun _ _ ho => ho.put) <|
          meets_ite (meets_ite h.setEye.stageFail h.setEye.setLaneSt) <|
            meets_ite (meets_ite (h.setLaneSt.each fun _ _ ho => ho.setLaneSt).groupTrained h.setLaneSt) h

/-! ### Operations on the non-volatile array (R428, R431 to R434) -/

theorem Dev.meets.nvaNote (h : d.meets I) : d.nvaNote.meets I := h.each fun _ _ ho => ho.setBit
theorem Dev.meets.setOps {ops} (h : d.meets I) : (d.setOps ops).meets I := h.inMgt.nvaNote

theorem Dev.meets.nvaLine {o} (h : d.meets I) : (d.nvaLine o).meets I :=
  have h1 := h.update
  meets_ite h1 h1.put

theorem Dev.meets.nvaEnd {r e} (h : d.meets I) : (d.nvaEnd r e).meets I := h.put

theorem Dev.meets.persistCommit (h : d.meets I) : d.persistCommit.meets I := by
  unfold Dev.persistCommit
  dsimp only
  split
  · exact h
  · exact h.update

theorem Dev.meets.nvaStep {bank} (h : d.meets I) : (d.nvaStep bank).meets I := by
  unfold Dev.nvaStep
  dsimp only
  split
  · exact h
  · exact meets_ite (meets_ite h.setOps.persistCommit h.nvaLine.setOps) <|
      meets_ite h.nvaLine.setOps.nvaEnd.event h.nvaLine.setOps

theorem Dev.meets.nvaAbandon {r} (h : d.meets I) : (d.nvaAbandon r).meets I := by
  unfold Dev.nvaAbandon
  dsimp only
  split
  · exact h
  · exact meets_ite (meets_ite h.nvaLine h).setOps.nvaEnd.event (meets_ite h.nvaLine h).setOps.nvaEnd.event.raise

theorem Dev.meets.coreReset {c} (h : d.meets buffers) : (d.coreReset c).meets buffers := 
  (h.nvaAbandon.setBit.inSram (Mem.zero_wf _ _ h.sramWf)).send

/-! ### Commands of drop synthesis (R135 to R173) -/

theorem Dev.meets.readCrcCheck {n j r s ofs} (h : d.meets I) : (d.readCrcCheck n j r s ofs).meets I := by
  unfold Dev.readCrcCheck
  dsimp only
  split
  · exact h
  · exact meets_ite h.setRegion.count.event.raise.spoil h

theorem Dev.meets.takeRow {n j f p} (h : d.meets I) : (d.takeRow n j f p).1.meets I := by
  unfold Dev.takeRow
  dsimp only
  split
  · exact h.fillRow.setRowBuf.fillRow.foldl fun _ _ ho => ho.readCrcCheck
  · exact h.fillRow.setRowBuf.fillRow.count.event.raise.foldl fun _ _ ho => ho.spoil

theorem Dev.meets.batchStart {n f} (h : d.meets I) : (d.batchStart n f).meets I := by
  unfold Dev.batchStart
  dsimp only
  split
  · exact h
  · refine meets_ite h (.retireBlocks (.noteBusy (.setPort (.setSyn ?_))))
    exact h.foldl_fst fun _ _ hp => hp.takeRow

theorem Dev.meets.tableCorrected {e k} (h : d.meets I) : (d.tableCorrected e k).meets I := h.add32

theorem Dev.meets.execBatchStart {port fire corrected} (h : d.meets I) :
    (d.viaRow (execBatchStart port fire corrected)).meets I :=
  meets_viaRow (fun _ => rfl) <|
    .batchStart <| by
      split
      · exact h
      · exact meets_ite h.tableCorrected h

theorem Dev.meets.applySet {n f} (h : d.meets I) : (d.applySet n f).meets I :=
  meets_ite (h.foldl fun _ _ ho => ho.storeValue).dropSet.event.loopSetApplied h

theorem Dev.meets.batchComplete {n} (h : d.meets I) : (d.batchComplete n).meets I := by
  unfold Dev.batchComplete
  dsimp only
  split
  · exact h
  · split
    · exact h
    · split
      · exact (h.applySet.setSyn.each fun _ _ ho => ho.releaseRow.fillRow).noteBusy.compareLate
      · exact (h.applySet.setSyn.each fun _ _ ho => ho.releaseRow.fillRow).noteBusy.compareLate.count

theorem Dev.meets.execBatchComplete {port} (h : d.meets I) : (d.viaRow (execBatchComplete port)).meets I :=
  meets_viaRow (fun _ => rfl) h.batchComplete

theorem Dev.meets.execForecastFrame {fc} (h : d.meets I) : (d.viaRow (execForecastFrame fc)).meets I :=
  meets_viaRow (fun _ => rfl) <|
    meets_ite h <|
      have h1 := (h.each fun _ _ ho => ho.count.event).foldl fun _ _ ho => ho.put
      (meets_ite h1 (meets_ite h1.event.update.raise h1.event)).send

theorem Dev.meets.execHealthGo {req value} (h : d.meets I) : (d.viaRow (execHealthGo req value)).meets I :=
  meets_viaRow (fun _ => rfl) <|
    meets_ite
      h.refuse
      (.event <| by
        split
        · exact h.wr.setFld.refuse
        · exact h.wr.setFld.healthAccept)

theorem Dev.meets.stageWrite {req n t high v} (h : d.meets I) : (d.stageWrite req n t high v).meets I :=
  h.of_reach (x := stageWriteReach none none) rfl rfl rfl fun hd hx => hd.stageWrite hx .any .any

theorem Dev.meets.execNztWrite {req port target high value} (h : d.meets I) :
    (d.viaRow (execNztWrite req port target high value)).meets I :=
  meets_viaRow (fun _ => rfl) <|
    meets_ite h (meets_ite h.refuse (meets_ite h.refuse (meets_ite h.refuse (meets_ite h.storeValue.mirror h.stageWrite))))

theorem Dev.meets.execCommit {req port} (h : d.meets I) : (d.viaRow (execCommit req port)).meets I :=
  meets_viaRow (fun _ => rfl) <|
    meets_ite h.refuse (meets_ite h.refuse (meets_ite h.refuse (meets_ite h.refuse h.setBit.mirror)))

theorem Dev.meets.execAbort {req port} (h : d.meets I) : (d.viaRow (execAbort req port)).meets I :=
  meets_viaRow (fun _ => rfl) (meets_ite h.refuse (meets_ite h h.loopSetGone.dropSet.mirror))

theorem Dev.meets.execTableReadyWrite {req port ready} (h : d.meets I) :
    (d.viaRow (execTableReadyWrite req port ready)).meets I :=
  meets_viaRow (fun _ => rfl) (meets_ite h.refuse h.setBit)

theorem Dev.meets.execEngineFault {engine cause corrected} (h : d.meets I) :
    (d.viaRow (execEngineFault engine cause corrected)).meets I :=
  meets_viaRow (fun _ => rfl) h.tableCorrected.engineFail

theorem Dev.meets.execRetire {req engine} (h : d.meets I) : (d.viaRow (execRetire req engine)).meets I :=
  meets_viaRow (fun _ => rfl) <|
    meets_ite h.refuse <|
      meets_ite h <| by
        split
        · exact h.refuse
        · exact meets_ite h.engineOut.substitute h.engineOut

/-! ### Power, tasks, checkpoints and Breath (R336 to R359) -/

theorem Dev.meets.setTask {t x} (h : d.meets I) : (d.setTask t x).meets I := h.update
theorem Dev.meets.taskStand {t i} (h : d.meets I) : (d.taskStand t i).meets I := h.foldl fun _ _ ho => ho.setBit

theorem Dev.meets.taskDue {t deadline} (h : d.meets I) : (d.taskDue t deadline).meets I :=
  meets_ite (meets_ite h h.setTask) h.setTask.taskStand

theorem Dev.meets.taskStart {t} (h : d.meets I) : (d.taskStart t).meets I :=
  meets_ite h.taskStand.setTask <|
    meets_ite h.taskStand.setTask.setTask.update.put <|
      meets_ite (h.taskStand.setTask.each fun _ _ ho => ho.startEcho) h.taskStand.setTask

theorem Dev.meets.urgentFail {t} (h : d.meets I) : (d.urgentFail t).meets I :=
  meets_ite h.speedReq.setBit.event h.speedReq.setBit.event.setTask.raise.ctxEvent

theorem Dev.meets.taskSlack {t left} (h : d.meets I) : (d.taskSlack t left).meets I := by
  unfold Dev.taskSlack
  dsimp only
  split
  · exact h.setFld
  · exact meets_ite h.setFld.setBit h.setFld

theorem Dev.meets.admitTask {e t} (h : d.meets I) : (d.admitTask e t).meets I :=
  meets_ite (meets_ite h.taskStart h.urgentFail) (meets_ite h (meets_ite h.taskStart h))

theorem Dev.meets.pauseTask {e t} (h : d.meets I) : (d.pauseTask e t).meets I :=
  meets_ite h (meets_ite h.taskStand (meets_ite h (meets_ite h h.taskStand)))

theorem Dev.meets.schedule {e left} (h : d.meets I) : (d.schedule e left).meets I :=
  have h1 := (h.each fun _ _ ho => ho.taskSlack).each fun _ _ ho => ho.pauseTask
  (meets_ite h1 (h1.each fun _ _ ho => ho.admitTask)).put

theorem Dev.meets.noteDelta {bytes} (h : d.meets I) : (d.noteDelta bytes).meets I := meets_ite h.put.taskDue.setBit h.put

theorem Dev.meets.taskDone {t} (h : d.meets I) : (d.taskDone t).meets I :=
  have h1 := meets_ite h.count.setTask.put.put h.count.setTask.put.put.taskStand
  meets_ite h1.event (meets_ite h1.setBit (meets_ite h1.put h1))

theorem Dev.meets.retrainByTemp {tj} (h : d.meets I) : (d.retrainByTemp tj).meets I := meets_ite h.taskDue h

theorem Dev.meets.writeSave {k s} (h : d.meets I) : (d.writeSave k s).meets I :=
  have hsaved := h.update
  hsaved.update.put.put.put

theorem Dev.meets.countBlocks {bs} (h : d.meets I) : (d.countBlocks bs).meets I := by
  unfold Dev.countBlocks
  split
  · exact h
  · exact h.add32.add32

theorem Dev.meets.checkpoint {raw} (h : d.meets I) : (d.checkpoint raw).meets I :=
  meets_ite h.countBlocks (meets_ite h.countBlocks.raise h.countBlocks.writeSave)

theorem Dev.meets.journalWrite (h : d.meets I) : d.journalWrite.meets I :=
  h.of_reach (x := journalWriteReach) rfl rfl rfl fun hd hx => hd.journalWrite hx

theorem Dev.meets.shedLanes (h : d.meets I) : d.shedLanes.meets I :=
  ((h.update.each fun _ _ ho => ho.groupDown).each fun _ _ ho => ho.groupDown).each fun _ _ ho => ho.groupDown

theorem Dev.meets.restoreLanes (h : d.meets I) : d.restoreLanes.meets I :=
  ((h.update.each fun _ _ ho => ho.lanesRest).each fun _ _ ho => ho.lanesRest).each fun _ _ ho => ho.lanesRest

theorem Dev.meets.dropArmed {n} (h : d.meets I) : (d.dropArmed n).meets I := meets_ite h.loopSetGone.dropSet h
theorem Dev.meets.dropHot (h : d.meets I) : d.dropHot.meets I := meets_ite h.update.setImgState h
theorem Dev.meets.stopTasks (h : d.meets I) : d.stopTasks.meets I := h.each fun _ _ ho => meets_ite ho.taskStand ho
theorem Dev.meets.dropRuns (h : d.meets I) : d.dropRuns.meets I := h.each fun _ _ ho => ho.setSyn
theorem Dev.meets.setBreath {v} (h : d.meets I) : (d.setBreath v).meets I := h.setFld
theorem Dev.meets.nvaShed (h : d.meets I) : d.nvaShed.meets I := h.each fun _ _ ho => ho.nvaAbandon

theorem Dev.meets.shed {cause trip} (h : d.meets I) : (d.shed cause trip).meets I :=
  have h1 := (meets_ite h.surrender h).update.setBreath.stopTasks.each fun _ _ ho => ho.dropArmed
  h1.dropHot.dropRuns.closeFrames.shedLanes.shedAxes.nvaShed

theorem Dev.meets.allLanesOff (h : d.meets buffers) : d.allLanesOff.meets buffers :=
  ((h.update.each fun _ _ ho => ho.groupDown.lanesOff).each fun _ _ ho => ho.groupDown).inHst.put.lanesOff

theorem Dev.meets.save (h : d.meets buffers) : d.save.meets buffers := h.setBreath.stopByOther.foldAll.journal.allLanesOff.saveLoops

theorem Dev.meets.repeat_journalWrite {n} (h : d.meets I) : (Nat.repeat Dev.journalWrite n d).meets I := by
  induction n with
  | zero => exact h
  | succ n ih => exact ih.journalWrite

theorem Dev.meets.breathCommit {parts part3} (h : d.meets I) : (d.breathCommit parts part3).meets I :=
  (meets_ite h h.countBlocks.writeSave).repeat_journalWrite.update.update.setBreath.setBit

theorem Dev.meets.resume (h : d.meets I) : d.resume.meets I := h.setBreath.put.raise.event.restoreLanes

theorem Dev.meets.resumed (h : d.meets I) : d.resumed.meets I :=
  meets_ite h.setBreath.resumeLoops.setUnfit.resync h.setBreath.resumeLoops.skipPassed

theorem Dev.meets.thermalWarm {tj} (h : d.meets I) : (d.thermalWarm tj).meets I :=
  have h1 := meets_ite h.event h
  meets_ite (meets_ite h1.update.setBit.event.raise.setUnfit h1.update.setBit.event.raise) <|
    meets_ite h1.update.setBit.setUnfit h1.update.setBit

theorem Dev.meets.thermalStop (h : d.meets I) : d.thermalStop.meets I := by
  unfold Dev.thermalStop
  dsimp only
  refine .shedLanes (.update (.raise (.setBit (.stopReq ?_))))
  split
  · exact (meets_ite h.surrender.update h).stopByOther.surrenderAt
  · exact (meets_ite h.surrender.update h).stopByOther

theorem Dev.meets.thermalGo (h : d.meets I) : d.thermalGo.meets I := h.stopFree.setBit.update.restoreLanes

theorem Dev.meets.thermalBack (h : d.meets I) : d.thermalBack.meets I :=
  meets_ite h <|
    have h1 := meets_ite h.setUnfit h
    meets_ite (meets_ite h1.update.resync h1.update) h1

theorem Dev.meets.thermalAct {tj} (h : d.meets I) : (d.thermalAct tj).meets I :=
  meets_ite h.thermalWarm <|
    have h1 := meets_ite (meets_ite h.thermalWarm h.thermalWarm.thermalStop) <|
        meets_ite h.thermalWarm.thermalGo h.thermalWarm
    have h2 := (meets_ite h1.setUnfit h1).update
    meets_ite h2.event.raise.shed h2.thermalBack

/-! ### The DRAM controller (R406 to R425) -/

theorem Dev.meets.groupOffline {g} (h : d.meets I) : (d.groupOffline g).meets I := (h.each fun _ _ ho => ho.setBit).setBit

theorem Dev.meets.dramGone (h : d.meets I) : d.dramGone.meets I :=
  meets_ite h.setUnfit (meets_ite h.surrender h.update.stopByOther.stopReq)

theorem Dev.meets.freezeChannel {ch cause} (h : d.meets I) : (d.freezeChannel ch cause).meets I :=
  (meets_ite h.setBit.setFld.groupOffline.event.raise h.setBit.setFld.groupOffline.event.raise).dramGone

theorem Dev.meets.setBank {p b} (h : d.meets I) : (d.setBank p b).meets I := h.update

theorem Dev.meets.capture {addr command q synd} (h : d.meets I) : (d.capture addr command q synd).meets I :=
  (h.put.put.put.each fun _ _ ho => ho.put).each fun _ _ ho => ho.put

theorem Dev.meets.setPoison {addr b} (h : d.meets I) : (d.setPoison addr b).meets I := h.update

theorem Dev.meets.poisonBlock {region strip first} (h : d.meets I) : (d.poisonBlock region strip first).meets I := by
  unfold Dev.poisonBlock
  dsimp only
  split
  · exact h
  · split
    · exact h
    · exact meets_ite h.setRegion.spoil h.setRegion.postEvent

theorem Dev.meets.dropCopy {place} (h : d.meets I) : (d.dropCopy place).meets I := by
  unfold Dev.dropCopy
  dsimp only
  split
  · exact h
  · exact h.update.noteStore

theorem Dev.meets.poisonTo {ch r} (h : d.meets I) : (d.poisonTo ch r).meets I := by
  unfold Dev.poisonTo
  dsimp only
  split
  · exact h.count.raise.ctxEvent
  · split
    · split
      · exact h.count.send
      · exact h.count
    · split
      · exact meets_ite h.count.poisonBlock h.count
      · exact meets_ite h.count.dropCopy h.count
      · exact meets_ite h.count.event.raise.dramGone h.count
      · exact h.count

theorem Dev.meets.scrubUe {ch addr holds} (h : d.meets I) : (d.scrubUe ch addr holds).meets I := by
  unfold Dev.scrubUe
  dsimp only
  split
  · exact h.setPoison.count.event.raise.poisonBlock
  · exact h.setPoison.count.event.raise.dropCopy
  · exact h.setPoison.count.event.raise.ctxEvent
  · exact meets_ite h.setPoison.count.event.raise.put h.setPoison.count.event.raise.setPoison
  · exact h.setPoison.count.update.event.raise
  · split
    · exact h.setPoison.count.event.raise
    · exact h.setPoison.count.update.event.raise
  · exact h.setPoison.count.event.raise.dramGone

theorem Dev.meets.setQueues {k rs ws} (h : d.meets I) : (d.setQueues k rs ws).meets I := h.update.setFld.setFld

theorem Dev.meets.accessRow {p write bursts more} (h : d.meets I) : (d.accessRow p write bursts more).meets I :=
  have h1 := meets_ite h.send h
  ((meets_ite h1 h1.send.drawn).each fun _ _ ho => ho.send).setBank

theorem Dev.meets.writeBurst {ch addr bytes i} (h : d.meets I) : (d.writeBurst ch addr bytes i).meets I :=
  meets_ite h.raise (h.setPoison.update)

theorem Dev.meets.drainChannel {ch} (h : d.meets I) : (d.drainChannel ch).meets I :=
  h.each fun _ _ ho => meets_ite ho (ho.setQueues.foldl fun _ _ ho2 => ho2.poisonTo)

theorem Dev.meets.freeze {ch cause} (h : d.meets I) : (d.freeze ch cause).meets I :=
  h.freezeChannel.each fun _ _ ho => meets_ite ho ho.drainChannel

theorem Dev.meets.readBurst {p r i} (h : d.meets I) : (d.readBurst p r i).meets I := by
  unfold Dev.readBurst
  dsimp only
  split
  · exact h.poisonTo
  · split
    · exact h
    · exact h.update
    · exact h.poisonTo
    · exact meets_ite h.scrubUe h.count.capture.freeze.poisonTo

theorem Dev.meets.grantWrite {p r bytes more} (h : d.meets I) : (d.grantWrite p r bytes more).meets I :=
  h.accessRow.each fun _ _ ho => ho.writeBurst

theorem Dev.meets.grantRead {p r queued more} (h : d.meets I) : (d.grantRead p r queued more).meets I :=
  have h1 := meets_ite h h.accessRow
  have h2 := meets_ite h1.put h1
  meets_ite h2 (h2.each fun _ _ ho => ho.readBurst)

theorem Dev.meets.refreshBank {p} (h : d.meets I) : (d.refreshBank p).meets I :=
  h.of_reach (x := refreshBankReach) rfl rfl rfl fun hd hx => hd.refreshBank hx

theorem Dev.meets.dramGrant {k} (h : d.meets I) : (d.dramGrant k).meets I := by
  unfold Dev.dramGrant
  dsimp only
  split
  · exact h.update.refreshBank
  · split
    · exact h.update.setQueues.grantRead
    · exact h.update.setQueues.grantWrite
    · exact h.update

theorem Dev.meets.dramArrive {k all} (h : d.meets I) : (d.dramArrive k all).meets I :=
  meets_ite (h.foldl fun _ _ ho => ho.poisonTo) h.setQueues

theorem Dev.meets.zeroGroup {g} (h : d.meets I) : (d.zeroGroup g).meets I := h.update.update
theorem Dev.meets.thaw {ch} (h : d.meets I) : (d.thaw ch).meets I := h.setBit.setBit.setFld.setQueues.setQueues
theorem Dev.meets.dramFit (h : d.meets I) : d.dramFit.meets I := meets_ite h.setUnfit.resync h

theorem Dev.meets.groupBack {g} (h : d.meets I) : (d.groupBack g).meets I :=
  (h.zeroGroup.each fun _ _ ho => ho.thaw).put.dramFit

/-! ### Commands of the DRAM (R406 to R425) -/

theorem Dev.meets.execDramGrant {sub arrivals} (h : d.meets I) : (d.viaRow (execDramGrant sub arrivals)).meets I :=
  meets_viaRow (fun _ => rfl) (meets_ite h.dramArrive h.dramArrive.dramGrant)

theorem Dev.meets.execCeWriteback {sub rank device codewords} (h : d.meets I) :
    (d.viaRow (execCeWriteback sub rank device codewords)).meets I :=
  meets_viaRow (fun _ => rfl) <|
    meets_ite
      (.raise (.event (.update (.put (.add32 (.update <| by
        split
        · exact h.update.accessRow
        · exact h))))))
      (.put (.add32 (.update <| by
        split
        · exact h.update.accessRow
        · exact h)))

theorem Dev.meets.execDramFreeze {addr cause command requester syndrome} (h : d.meets I) :
    (d.viaRow (execDramFreeze addr cause command requester syndrome)).meets I :=
  meets_viaRow (fun _ => rfl) (meets_ite h (meets_ite h.count h).capture.freeze)

theorem Dev.meets.execGroupReset {req group} (h : d.meets I) : (d.viaRow (execGroupReset req group)).meets I :=
  meets_viaRow (fun _ => rfl) (meets_ite h.refuse (meets_ite h.refuse h.cueRequest))

theorem Dev.meets.retrained {ch old} (h : d.meets I) : (d.retrained ch old).meets I := by
  unfold Dev.retrained
  dsimp only
  split
  · exact h.setBit.update.count.put.setBit
  · exact meets_ite h.setBit.update.put.setBit.event.raise h.setBit.update.put.freeze

theorem Dev.meets.execRetrainDone {group old} (h : d.meets I) : (d.viaRow (execRetrainDone group old)).meets I :=
  meets_viaRow (fun _ => rfl) (h.update.each fun _ _ ho => meets_ite ho.setBit ho.retrained)

theorem Dev.meets.execDmcPrioWrite {requester prio} (h : d.meets I) : (d.viaRow (execDmcPrioWrite requester prio)).meets I :=
  meets_viaRow (fun _ => rfl) (meets_ite h h.put)

/-! ### Compressor units (R129 to R134) -/

theorem Dev.meets.setUnit {u x} (h : d.meets I) : (d.setUnit u x).meets I := h.update.setFld.setBit

theorem Dev.meets.unitFails {u} (h : d.meets I) : (d.unitFails u).meets I :=
  have h1 := h.setUnit.setBit.event.raise
  meets_ite h1.setUnfit h1

theorem Dev.meets.selfcheckFail {u b rest} (h : d.meets I) : (d.selfcheckFail u b rest).meets I :=
  meets_ite h.count.event.unitFails h.count.event.setUnit.raise

theorem Dev.meets.releaseBlock {u b rest} (h : d.meets I) : (d.releaseBlock u b rest).meets I :=
  (meets_ite h.setUnit.count.count h.setUnit.count).send

/-! ### Commands of the inspection (R212 to R239) -/

theorem Dev.meets.execInsRunWrite {pipe run} (h : d.meets I) : (d.viaRow (execInsRunWrite pipe run)).meets I :=
  meets_viaRow (fun _ => rfl) (meets_ite h (meets_ite h.setPipe.setBit h.frameClose.setBit.setPipe))

theorem Dev.meets.execInsClose {pipe} (h : d.meets I) : (d.viaRow (execInsClose pipe)).meets I :=
  meets_viaRow (fun _ => rfl) h.frameClose

theorem Dev.meets.execInsRelink {pipe} (h : d.meets I) : (d.viaRow (execInsRelink pipe)).meets I :=
  meets_viaRow (fun _ => rfl) (meets_ite h.frameClose h.camRestart)

theorem Dev.meets.execTriggerSend {pipe multiple} (h : d.meets I) : (d.viaRow (execTriggerSend pipe multiple)).meets I :=
  meets_viaRow (fun _ => rfl) h.triggerAt

theorem Dev.meets.execCamAck {pipe refused seq} (h : d.meets I) : (d.viaRow (execCamAck pipe refused seq)).meets I :=
  meets_viaRow (fun _ => rfl) <| by
    dsimp only
    split
    · exact h
    · exact meets_ite h (meets_ite h.camRestart (meets_ite h.camRetrain (meets_ite h.setPipe.setCam h.setPipe)))

theorem Dev.meets.execRawPacket {pipe fmt w1 w2 body bad} (h : d.meets I) :
    (d.viaRow (execRawPacket pipe fmt w1 w2 body bad)).meets I :=
  meets_viaRow (fun _ => rfl) h.rawPacket

theorem Dev.meets.execLineCloseTimeout {pipe tseq} (h : d.meets I) : (d.viaRow (execLineCloseTimeout pipe tseq)).meets I :=
  meets_viaRow (fun _ => rfl) <| by
    split
    · exact h
    · exact h.lineClose

theorem Dev.meets.execCameraSilent {pipe} (h : d.meets I) : (d.viaRow (execCameraSilent pipe)).meets I :=
  meets_viaRow (fun _ => rfl) (meets_ite h.camFail h)

theorem Dev.meets.execCamAckTimeout {pipe} (h : d.meets I) : (d.viaRow (execCamAckTimeout pipe)).meets I :=
  meets_viaRow (fun _ => rfl) <| by
    dsimp only
    split
    · exact h
    · exact meets_ite h.camFail h.setPipe.send.camWords

theorem Dev.meets.execGtDataAccess {req pipe value} (h : d.meets I) : (d.viaRow (execGtDataAccess req pipe value)).meets I :=
  meets_viaRow (fun _ => rfl) <|
    .put <| by
      split
      · exact h.send
      · exact meets_ite h.refuse h.setPipe

theorem Dev.meets.sendDevrecs {c r es} (h : d.meets I) : (d.sendDevrecs c r es).meets I := h.foldl fun _ _ ho => ho.casSend

theorem Dev.meets.execRecordHandoff {pipe} (h : d.meets I) : (d.viaRow (execRecordHandoff pipe)).meets I :=
  meets_viaRow (fun _ => rfl) <| by
    dsimp only
    split
    · exact h
    · exact (meets_ite h.setPipe.mirrorSend h.setPipe.update).sendDevrecs

theorem Dev.meets.everySecond {k} (h : d.meets I) : (d.everySecond k).2.meets I := by
  unfold Dev.everySecond
  split
  · exact h
  · exact h

theorem Dev.meets.execStatRecordWrite {pipe} (h : d.meets I) : (d.viaRow (execStatRecordWrite pipe)).meets I :=
  meets_viaRow (fun _ => rfl) <| by
    dsimp only
    split
    · exact h
    · exact have h1 := h.setPipe.everySecond
      meets_ite h1.count (meets_ite (meets_ite h1.count.event.setPipe.raise h1.count.event) h1.dramWrite.put)

theorem Dev.meets.skipUpload {c} (h : d.meets I) : (d.skipUpload c).meets I := h.count

theorem Dev.meets.sendUpload {c k frame x data} (h : d.meets I) : (d.sendUpload c k frame x data).meets I :=
  meets_ite h.skipUpload (meets_ite (h.setPipe.setCtx.foldl fun _ _ ho => ho.xptSend) h.setPipe.setCtx.send).postEvent

theorem Dev.meets.uploadBlock {c b} (h : d.meets I) : (d.uploadBlock c b).meets I := by
  unfold Dev.uploadBlock
  dsimp only
  split
  · exact h
  · split
    · exact h.setPipe
    · split
      · exact h.setPipe
      · exact h.setPipe.sendUpload

theorem Dev.meets.uploadStops {u} (h : d.meets I) : (d.uploadStops u).meets I := meets_ite h.setPipe h
theorem Dev.meets.startUpload {c j} (h : d.meets I) : (d.startUpload c j).meets I := h.setUnit.setPipe

theorem Dev.meets.execUploadCompress {pipe} (h : d.meets I) : (d.viaRow (execUploadCompress pipe)).meets I :=
  meets_viaRow (fun _ => rfl) <| by
    dsimp only
    split
    · exact h
    · exact meets_ite h.setPipe.skipUpload
        (meets_ite h (meets_ite h.setPipe.everySecond.skipUpload h.setPipe.everySecond.startUpload))

theorem Dev.meets.uploadSub {slot w} (h : d.meets I) : (d.uploadSub slot w).meets I := by
  unfold Dev.uploadSub
  dsimp only
  split
  · exact h.entryErr
  · exact meets_ite h.entryErr h.setPipe.entryOk

theorem Dev.meets.execUploadSub {slot w} (h : d.meets I) : (d.viaRow (execUploadSub slot w)).meets I :=
  meets_viaRow (fun _ => rfl) (h.entry fun _ ho => ho.uploadSub)

theorem Dev.meets.uploadUnsub {slot w} (h : d.meets I) : (d.uploadUnsub slot w).meets I := by
  unfold Dev.uploadUnsub
  dsimp only
  split
  · exact h.entryErr
  · exact meets_ite h.entryErr h.setPipe.entryOk

theorem Dev.meets.execUploadUnsub {slot w} (h : d.meets I) : (d.viaRow (execUploadUnsub slot w)).meets I :=
  meets_viaRow (fun _ => rfl) (h.entry fun _ ho => ho.uploadUnsub)

/-! ### Commands of the lanes (R385 to R405) -/

theorem Dev.meets.execLaneStageDone {lane ctle taps width height} (h : d.meets I) :
    (d.viaRow (execLaneStageDone lane ctle taps width height)).meets I :=
  meets_viaRow (fun _ => rfl) (meets_ite h.stageDone h)

theorem Dev.meets.execLaneStageTimeout {lane} (h : d.meets I) : (d.viaRow (execLaneStageTimeout lane)).meets I :=
  meets_viaRow (fun _ => rfl) (meets_ite h.stageFail h)

theorem Dev.meets.execBlockLockLoss {lane headers} (h : d.meets I) : (d.viaRow (execBlockLockLoss lane headers)).meets I :=
  meets_viaRow (fun _ => rfl) (meets_ite h h.setLane.judgeHeaders.raise.laneFail)

theorem Dev.meets.execLaneLos {lane} (h : d.meets I) : (d.viaRow (execLaneLos lane)).meets I :=
  meets_viaRow (fun _ => rfl) (meets_ite h h.setLane.event.raise.laneFail)

theorem Dev.meets.execAlignmentMarkerLost {lane first second} (h : d.meets I) :
    (d.viaRow (execAlignmentMarkerLost lane first second)).meets I :=
  meets_viaRow (fun _ => rfl) (meets_ite h h.raise.laneFail)

theorem Dev.meets.askRetrain {l} (h : d.meets I) : (d.askRetrain l).meets I := meets_ite h.laneFail h

theorem Dev.meets.execLaneBlockErrRetrain {lane} (h : d.meets I) : (d.viaRow (execLaneBlockErrRetrain lane)).meets I :=
  meets_viaRow (fun _ => rfl) (meets_ite h.askRetrain h)

theorem Dev.meets.execLaneRetrain {lane} (h : d.meets I) : (d.viaRow (execLaneRetrain lane)).meets I :=
  meets_viaRow (fun _ => rfl) h.askRetrain

theorem Dev.meets.execLaneRevive {lane} (h : d.meets I) : (d.viaRow (execLaneRevive lane)).meets I :=
  meets_viaRow (fun _ => rfl) h.unmark

theorem Dev.meets.execLaneRail {lane tap} (h : d.meets I) : (d.viaRow (execLaneRail lane tap)).meets I :=
  meets_viaRow (fun _ => rfl) (meets_ite h (meets_ite h.event.raise h.event.raise.update))

theorem Dev.meets.setRefOk {refB b} (h : d.meets I) : (d.setRefOk refB b).meets I := h.setBit
theorem Dev.meets.setRef {c refB} (h : d.meets I) : (d.setRef c refB).meets I := h.setBit.each fun _ _ ho => ho.setBit

theorem Dev.meets.refSwitch {c refB} (h : d.meets I) : (d.refSwitch c refB).meets I :=
  (h.setRef.count.event.each fun _ _ ho => meets_ite ho.event.setLaneSt.setBit ho.event).raise

theorem Dev.meets.execRefBad {refB} (h : d.meets I) : (d.viaRow (execRefBad refB)).meets I :=
  meets_viaRow (fun _ => rfl) (h.setRefOk.each fun _ _ ho => meets_ite ho.refSwitch ho.setBit)

theorem Dev.meets.execRefHoldoverEnd (h : d.meets I) : (d.viaRow execRefHoldoverEnd).meets I :=
  meets_viaRow (fun _ => rfl) <|
    meets_ite h <|
      have h1 := h.each fun _ _ ho =>
        (ho.setBit.setBit.update.foldl fun _ _ ho2 => ho2.groupDown).each fun _ _ ho2 => ho2.setLaneSt
      h1.event.raise.laneSurrender

theorem Dev.meets.prbsStop {l} (h : d.meets I) : (d.prbsStop l).meets I := h.put.setLane.setBit
theorem Dev.meets.injStop {l} (h : d.meets I) : (d.injStop l).meets I := h.put.setLane

theorem Dev.meets.execLaneTest {req lane on} (h : d.meets I) : (d.viaRow (execLaneTest req lane on)).meets I :=
  meets_viaRow (fun _ => rfl) <|
    meets_ite (meets_ite h (meets_ite h.refuse (meets_ite h.groupAnew h).setLaneSt.setGood.setBit)) <|
      meets_ite h h.prbsStop.injStop.setFld.setLaneSt.laneDeep.groupAnew

theorem Dev.meets.execInjCtrlWrite {req lane value} (h : d.meets I) : (d.viaRow (execInjCtrlWrite req lane value)).meets I :=
  meets_viaRow (fun _ => rfl) <|
    meets_ite
      (meets_ite h.injStop.put <|
        meets_ite h.injStop.put.count (meets_ite h.injStop.put.setLane (meets_ite h.injStop.put.add32 h.injStop.put)))
      (meets_ite (meets_ite h.refuse (meets_ite h.put.txInject.count h.put)) h)

theorem Dev.meets.execMarginScanDone {lane eye} (h : d.meets I) : (d.viaRow (execMarginScanDone lane eye)).meets I :=
  meets_viaRow (fun _ => rfl) <| by
    dsimp only
    split
    · exact meets_ite (meets_ite h.update.setEye.event.raise h.update.setEye).event.askRetrain <|
        meets_ite h.update.setEye.event.raise h.update.setEye
    · exact h.count

theorem Dev.meets.execScanNow (h : d.meets I) : (d.viaRow execScanNow).meets I :=
  meets_viaRow (fun _ => rfl) h.taskDue

end
end Sys2Proof.Machine
end

section
open Sys2Proof
namespace Sys2Proof.Machine
section
variable {I : PortInvariant} {d : Dev}

/-! ### Commands of the bar image (R33 to R52) -/

theorem Dev.meets.execLoad {req src} (h : d.meets I) : (d.viaRow (execLoad req src)).meets I :=
  meets_viaRow (fun _ => rfl) (meets_ite h.refuse h.setFld.dropShadow.setReport.update.setImgState)

theorem Dev.meets.execImgLoadComplete (h : d.meets I) : (d.viaRow execImgLoadComplete).meets I :=
  meets_viaRow (fun _ => rfl) (meets_ite h.loadDone h)

theorem Dev.meets.execArmHot {req} (h : d.meets I) : (d.viaRow (execArmHot req)).meets I :=
  meets_viaRow (fun _ => rfl) (meets_ite h.refuse (meets_ite h.refuse (meets_ite h.refuse h.setImgState)))

theorem Dev.meets.execActStop {req} (h : d.meets I) : (d.viaRow (execActStop req)).meets I :=
  meets_viaRow (fun _ => rfl) <|
    meets_ite h.refuse <|
      meets_ite h.refuse <| by
        split
        · exact h
        · exact meets_ite h.refuse h.activateStop

theorem Dev.meets.execDisarm {req} (h : d.meets I) : (d.viaRow (execDisarm req)).meets I :=
  meets_viaRow (fun _ => rfl) (meets_ite h.setImgState (meets_ite h.refuse h))

theorem Dev.meets.execDiscard {req} (h : d.meets I) : (d.viaRow (execDiscard req)).meets I :=
  meets_viaRow (fun _ => rfl) (meets_ite h.refuse h.dropShadow.setReport.setImgState)

theorem Dev.meets.execPersist (h : d.meets I) : (d.viaRow execPersist).meets I :=
  meets_viaRow (fun _ => rfl) <| by
    split
    · exact h.update.setOps
    · exact h

theorem Dev.meets.execHotActivationEffect (h : d.meets I) : (d.viaRow execHotActivationEffect).meets I :=
  meets_viaRow (fun _ => rfl) <| by
    split
    · exact meets_ite h.activateHot h
    · exact h

theorem Dev.meets.execHotActivationDone (h : d.meets I) : (d.viaRow execHotActivationDone).meets I :=
  meets_viaRow (fun _ => rfl) <|
    meets_ite
      (have h1 := h.setImgState.setBit.setDigest.irqPulse
       meets_ite h1.journal.sendShape.sendDaily h1.journal.sendShape.compareDailies)
      h

/-! ### Calibration (R468 to R472) -/

theorem Dev.meets.execCalCtrlRun {item} (h : d.meets I) : (d.viaRow (execCalCtrlRun item)).meets I :=
  meets_viaRow (fun _ => rfl) (meets_ite h.put (meets_ite h.put.update (h.put.update.each fun _ _ ho => ho.startEcho)))

/-! ### Commands of the control loops (R360 to R372) -/

theorem Dev.meets.execPortJoinEffect {port} (h : d.meets I) : (d.viaRow (execPortJoinEffect port)).meets I :=
  meets_viaRow (fun _ => rfl) <|
    meets_ite h <| by
      dsimp only
      split
      · exact h.setLink.event.setPort.maskFault.setLink.raise
      · exact h.setLink.event.setPort

theorem Dev.meets.execLoopEvaluate {loop missed time} (h : d.meets I) :
    (d.viaRow (execLoopEvaluate loop missed time)).meets I :=
  meets_viaRow (fun _ => rfl) (meets_ite h.at (meets_ite h.at.missLoop h.at.evalLoop))

theorem Dev.meets.capHead {n} (h : d.meets I) : (d.capHead n).meets I := (meets_ite h.maskFault.setLink h).clearHead

theorem Dev.meets.execLoopSafeTimeout {loop} (h : d.meets I) : (d.viaRow (execLoopSafeTimeout loop)).meets I :=
  meets_viaRow (fun _ => rfl) <|
    meets_ite h <|
      have h1 := h.setLoopSt.loopOut.event.raise
      meets_ite (h1.each fun _ _ ho => ho.capHead) h1

theorem Dev.meets.execLoopResume {req loop} (h : d.meets I) : (d.viaRow (execLoopResume req loop)).meets I :=
  meets_viaRow (fun _ => rfl) (meets_ite h (meets_ite h.refuse h.setLoopSt.setCtl))

theorem Dev.meets.execLoopSpWrite {loop value} (h : d.meets I) : (d.viaRow (execLoopSpWrite loop value)).meets I :=
  meets_viaRow (fun _ => rfl) h.put

theorem Dev.meets.rcRead {q high v} (h : d.meets I) : (d.rcRead q high v).meets I :=
  h.of_reach (x := rcReadReach) rfl rfl rfl fun hd hx => hd.rcRead hx

theorem Dev.meets.execCtlRcDataAccess {req high write} (h : d.meets I) :
    (d.viaRow (execCtlRcDataAccess req high write)).meets I :=
  meets_viaRow (fun _ => rfl) <|
    meets_ite
      (.put <| by
        split
        · exact h.rcRead
        · exact meets_ite h.refuse h.setCtl)
      (by
        split
        · exact h.rcRead
        · exact meets_ite h.refuse h.setCtl)

/-! ### Management cores, array and interrupts (R426 to R444) -/

theorem Dev.meets.cueBegin {x} (h : d.meets I) : (d.cueBegin x).meets I :=
  h.of_reach (x := cueBeginReach) rfl rfl rfl fun hd hx => hd.cueBegin hx

theorem Dev.meets.execCueStart (h : d.meets I) : (d.viaRow execCueStart).meets I :=
  meets_viaRow (fun _ => rfl) <| by
    split
    · exact h.inMgt.cueMark.cueRefresh.cueBegin
    · exact h

theorem Dev.meets.cueEffect {x} (h : d.meets I) : (d.cueEffect x).meets I := by
  unfold Dev.cueEffect
  split
  · exact h.event
  · exact h.parkDone
  · exact h.activateDone
  · exact h.groupBack

theorem Dev.meets.cueOld {x} (h : d.meets I) : (d.cueOld x).meets I := by
  unfold Dev.cueOld
  split
  · exact h.complete.drawn
  · exact h.setBit.setBit
  · exact h
  · exact h

theorem Dev.meets.execCueDone {place} (h : d.meets I) : (d.viaRow (execCueDone place)).meets I :=
  meets_viaRow (fun _ => rfl) <| by
    split
    · exact h
    · exact (meets_ite h.inMgt.cueMark.cueRefresh.cueOld h.inMgt.cueMark.cueRefresh.cueEffect).put.event

theorem Dev.meets.execCueAbort {req generation ahead} (h : d.meets I) :
    (d.viaRow (execCueAbort req generation ahead)).meets I :=
  meets_viaRow (fun _ => rfl) <| by
    dsimp only
    split
    · split
      · exact h.inMgt.cueRefresh.cueOld
      · exact h.inMgt.cueRefresh
    · exact meets_ite h.inMgt.cueRefresh h.refuse
    · exact h.refuse

theorem Dev.meets.execCueQuery {cls index} (h : d.meets I) : (d.viaRow (execCueQuery cls index)).meets I :=
  meets_viaRow (fun _ => rfl) h.put.put

theorem Dev.meets.execWatchdogExpire {core} (h : d.meets buffers) : (d.viaRow (execWatchdogExpire core)).meets buffers :=
  meets_viaRow (fun _ => rfl) (meets_ite h h.coreReset.count.irqPulse.raise)

theorem Dev.meets.execKick {core} (h : d.meets I) : (d.viaRow (execKick core)).meets I :=
  meets_viaRow (fun _ => rfl) h.update

theorem Dev.meets.wakeLines (h : d.meets I) : d.wakeLines.meets I := h.each fun _ _ ho => meets_ite ho.update ho

theorem Dev.meets.execLoadWindow {c0 c1 c2 c3 wfi} (h : d.meets I) : (d.viaRow (execLoadWindow c0 c1 c2 c3 wfi)).meets I :=
  meets_viaRow (fun _ => rfl) <|
    meets_ite h.inMgt.setFld.setFld.wakeLines.setBit.irqLevel.raise <|
      meets_ite h.inMgt.setFld.setFld.wakeLines.setBit.irqLevel h.inMgt.setFld.setFld.wakeLines

theorem Dev.meets.execNvaOpGo {r erase fetch} (h : d.meets I) : (d.viaRow (execNvaOpGo r erase fetch)).meets I :=
  meets_viaRow (fun _ => rfl) <|
    have h1 := meets_ite h h.setBit
    meets_ite h1.refuse (meets_ite h1.nvaEnd.refuse (meets_ite h1.nvaEnd.refuse h1.setOps.put.put))

theorem Dev.meets.execNvaLineWritten {bank} (h : d.meets I) : (d.viaRow (execNvaLineWritten bank)).meets I :=
  meets_viaRow (fun _ => rfl) h.nvaStep

theorem Dev.meets.execNvaEccError {addr core corrected} (h : d.meets I) :
    (d.viaRow (execNvaEccError addr core corrected)).meets I :=
  meets_viaRow (fun _ => rfl) <|
    meets_ite h.count <| by
      dsimp only
      split
      · exact h.event.raise.send
      · exact h.event.raise

theorem Dev.meets.execIrqModTimer {core fast} (h : d.meets I) : (d.viaRow (execIrqModTimer core fast)).meets I :=
  meets_viaRow (fun _ => rfl) (meets_ite h h.update)

theorem Dev.meets.execClaim {reader core fast} (h : d.meets I) : (d.viaRow (execClaim reader core fast)).meets I :=
  meets_viaRow (fun _ => rfl) <|
    meets_ite
      (by
        split
        · exact meets_ite h.send h.send.irqPend
        · exact h.send)
      (.inMgt <| by
        split
        · exact meets_ite h.send h.send.irqPend
        · exact h.send)

theorem Dev.meets.execIrqMaskSet {word value} (h : d.meets I) : (d.viaRow (execIrqMaskSet word value)).meets I :=
  meets_viaRow (fun _ => rfl) (h.each fun _ _ ho => ho.setBit)

theorem Dev.meets.execIrqMaskClr {word value} (h : d.meets I) : (d.viaRow (execIrqMaskClr word value)).meets I :=
  meets_viaRow (fun _ => rfl) (h.each fun _ _ ho => meets_ite ho.setBit.irqNotify ho.setBit)

theorem Dev.meets.execIrqPendSet {word value} (h : d.meets I) : (d.viaRow (execIrqPendSet word value)).meets I :=
  meets_viaRow (fun _ => rfl) (h.each fun _ _ ho => ho.irqPend)

theorem Dev.meets.execIrqPendClr {word value edges} (h : d.meets I) : (d.viaRow (execIrqPendClr word value edges)).meets I :=
  meets_viaRow (fun _ => rfl) ((h.each fun _ _ ho => meets_ite ho ho.irqPend).each fun _ _ ho => meets_ite ho ho.irqPend)

/-! ### Commands of the axes (R373 to R379) -/

theorem Dev.meets.execAxisPush {req axis} (h : d.meets I) : (d.viaRow (execAxisPush req axis)).meets I :=
  meets_viaRow (fun _ => rfl) <| by
    dsimp only
    split
    · exact h.refuse
    · exact h.setAxis

theorem Dev.meets.execAxisHalt {axis} (h : d.meets I) : (d.viaRow (execAxisHalt axis)).meets I :=
  meets_viaRow (fun _ => rfl) h.setAxis.atRest

theorem Dev.meets.execAxisAbort {axis} (h : d.meets I) : (d.viaRow (execAxisAbort axis)).meets I :=
  meets_viaRow (fun _ => rfl) h.axisStop

theorem Dev.meets.execAxisHome {req axis} (h : d.meets I) : (d.viaRow (execAxisHome req axis)).meets I :=
  meets_viaRow (fun _ => rfl) (meets_ite h.refuse h.setAxis)

theorem Dev.meets.execAxisPlanTick {axis seen time} (h : d.meets I) : (d.viaRow (execAxisPlanTick axis seen time)).meets I :=
  meets_viaRow (fun _ => rfl) (meets_ite h.at.planAxis (meets_ite h.at h.at.setAxis))

theorem Dev.meets.execAxisLimit {axis} (h : d.meets I) : (d.viaRow (execAxisLimit axis)).meets I :=
  meets_viaRow (fun _ => rfl) h.axisFault

theorem Dev.meets.badUpWord {a} (h : d.meets I) : (d.badUpWord a).meets I := meets_ite h.setAxis.axisFault h.setAxis

theorem Dev.meets.execAsbUpWord {axis word} (h : d.meets I) : (d.viaRow (execAsbUpWord axis word)).meets I :=
  meets_viaRow (fun _ => rfl) <| by
    dsimp only
    split
    · exact h.badUpWord
    · exact meets_ite h.count.badUpWord (meets_ite h.setAxis.put.setFld h.setAxis.put.setFld.axisFault)

/-! ### Commands of web position (R53 to R87) -/

theorem Dev.meets.countSame {i stamp} (h : d.meets I) : (d.countSame i stamp).meets I := h.putInt.setEnc
theorem Dev.meets.countTurn {i} (h : d.meets I) : (d.countTurn i).meets I := h.setBit.setEnc

theorem Dev.meets.checkReversal {i} (h : d.meets I) : (d.checkReversal i).meets I := by
  unfold Dev.checkReversal
  dsimp only
  split
  · exact meets_ite h.abortPass h
  · exact h

theorem Dev.meets.countEdge {i stamp reverse} (h : d.meets I) : (d.countEdge i stamp reverse).meets I :=
  meets_ite h.setFld.setEnc.countSame.checkSilent.crossCheck h.setFld.setEnc.countTurn.checkSilent.checkReversal

theorem Dev.meets.latchZ {i} (h : d.meets I) : (d.latchZ i).meets I := (meets_ite h.setBit h).putInt.setEnc

theorem Dev.meets.afterFires {was} (h : d.meets I) : (d.afterFires was).meets I := by
  unfold Dev.afterFires
  split
  · exact meets_ite h.spoilDead.settleHolds h
  · exact h

theorem Dev.meets.edgeDone {wasValid} (h : d.meets I) : (d.edgeDone wasValid).meets I := by
  unfold Dev.edgeDone
  exact (meets_ite h.noteSpeed.skipPassed h.noteSpeed).positionMoved.repeatOut.afterFires

theorem Dev.meets.execEncEdgeQualified {input a b z stamp} (h : d.meets I) :
    (d.viaRow (execEncEdgeQualified input a b z stamp)).meets I :=
  meets_viaRow (fun _ => rfl) <|
    have h1 := meets_ite h.at.setEnc (meets_ite h.at.setEnc.count.loseInput h.at.setEnc.countEdge)
    (meets_ite h1.latchZ h1).edgeDone

theorem Dev.meets.execEncGlitch {input time} (h : d.meets I) : (d.viaRow (execEncGlitch input time)).meets I :=
  meets_viaRow (fun _ => rfl) (meets_ite h.at.count.setEnc.loseInput.edgeDone h.at.count.setEnc)

theorem Dev.meets.execWireLostTimeout {input time} (h : d.meets I) : (d.viaRow (execWireLostTimeout input time)).meets I :=
  meets_viaRow (fun _ => rfl) (meets_ite h.at.loseInput.edgeDone h.at)

theorem Dev.meets.execDeadReckoningEnd {time} (h : d.meets I) : (d.viaRow (execDeadReckoningEnd time)).meets I :=
  meets_viaRow (fun _ => rfl) h.at.deadReckonEnd.repeatOut

theorem Dev.meets.execInputReturn {input} (h : d.meets I) : (d.viaRow (execInputReturn input)).meets I :=
  meets_viaRow (fun _ => rfl) h.returnInput.repeatOut

theorem Dev.meets.execStandstill {input time} (h : d.meets I) : (d.viaRow (execStandstill input time)).meets I :=
  meets_viaRow (fun _ => rfl) h.at.setEnc.noteSpeed

theorem Dev.meets.execFireCommit (h : d.meets I) : (d.viaRow execFireCommit).meets I :=
  meets_viaRow (fun _ => rfl) (meets_ite h h.scheduledFire.lineMoved.afterFires)

theorem Dev.meets.execFiringEnd {time} (h : d.meets I) : (d.viaRow (execFiringEnd time)).meets I :=
  meets_viaRow (fun _ => rfl) h.at.noteFiring

theorem Dev.meets.fireEnable (h : d.meets I) : d.fireEnable.meets I :=
  h.setBit.setBit.setFld.stopFree.setBit.alignOther.clearBatches.update.setBind.seekRows.notePass.joinWaiting.mirrorBind

theorem Dev.meets.execFireEn {req} (h : d.meets I) : (d.viaRow (execFireEn req)).meets I :=
  meets_viaRow (fun _ => rfl) <| by
    split
    · exact h.refuse
    · exact meets_ite h h.fireEnable

theorem Dev.meets.execFireDisable {req} (h : d.meets I) : (d.viaRow (execFireDisable req)).meets I :=
  meets_viaRow (fun _ => rfl) (meets_ite h.refuse (meets_ite h.stopFiring h))

theorem Dev.meets.execStopClr (h : d.meets I) : (d.viaRow execStopClr).meets I :=
  meets_viaRow (fun _ => rfl) (meets_ite h h.setFld.stopFree)

theorem Dev.meets.execZero {req} (h : d.meets I) : (d.viaRow (execZero req)).meets I :=
  meets_viaRow (fun _ => rfl) (meets_ite h.refuse h.alignTo.update.noteTrack.mirrorBind)

theorem Dev.meets.execCal {req} (h : d.meets I) : (d.viaRow (execCal req)).meets I :=
  meets_viaRow (fun _ => rfl) (meets_ite h.refuse (h.update.setBit.each fun _ _ ho => ho.startEcho))

theorem Dev.meets.execCalDone (h : d.meets I) : (d.viaRow execCalDone).meets I :=
  meets_viaRow (fun _ => rfl) (meets_ite (h.each fun _ _ ho => ho.echoDone).update.setBit.event h)

theorem Dev.meets.execPortDelayWrite {req port pd} (h : d.meets I) : (d.viaRow (execPortDelayWrite req port pd)).meets I :=
  meets_viaRow (fun _ => rfl) (meets_ite h.refuse h.storePd.maskUnfit)

theorem Dev.meets.execPassArm {req} (h : d.meets I) : (d.viaRow (execPassArm req)).meets I :=
  meets_viaRow (fun _ => rfl) <|
    meets_ite h.refuse (meets_ite h.put.lockPass.startPass h.put.lockPass.update.notePass).mirrorBind

/-! ### Fuses and the event log (R445 to R458) -/

theorem Dev.meets.secNote (h : d.meets I) : d.secNote.meets I := h.setFld.setFld.setFld.setFld.setFld.setFld.setBit.put
theorem Dev.meets.secLast {e} (h : d.meets I) : (d.secLast e).meets I := h.put
theorem Dev.meets.secRefuse {req e} (h : d.meets I) : (d.secRefuse req e).meets I := h.secLast.refuse

theorem Dev.meets.secAction {req f} (h : d.meets I) (hf : ∀ e, e.meets I → (f e).meets I) : (d.secAction req f).meets I :=
  meets_ite h.refuse (hf _ h)

theorem Dev.meets.startBurn {req vpp b} (h : d.meets I) : (d.startBurn req vpp b).meets I :=
  meets_ite h.setBit.secRefuse h.setBit.update

theorem Dev.meets.burned {b} (h : d.meets I) : (d.burned b).meets I := h.update.secNote
theorem Dev.meets.sendCeiling (h : d.meets I) : d.sendCeiling.meets I := h.each fun _ _ ho => ho.sendCapset

/-! ### Cold reset, start-up and restart (R356, R357, R460 to R467) -/

theorem Dev.meets.pinsOf {old} (h : d.meets I) : (d.pinsOf old).meets I := h.setFld.setFld.setFld.put.update

/-- A cold reset leaves the local SRAM and the sessions empty. -/
theorem Dev.reset_keptOf_meets : (Dev.reset.keptOf d).meets buffers := ⟨rfl, rfl⟩

theorem Dev.cold_meets {cause} : (d.cold cause).meets buffers := Dev.reset_keptOf_meets.pinsOf.secNote.put
theorem Dev.meets.toStage {k} (h : d.meets I) : (d.toStage k).meets I := h.put
theorem Dev.meets.stageFails {e} (h : d.meets I) : (d.stageFails e).meets I := h.setBit.setFld.raise
theorem Dev.meets.clockLocked (h : d.meets I) : d.clockLocked.meets I := (h.setBit.each fun _ _ ho => ho.setBit).toStage

theorem Dev.meets.settleBurn {burned} (h : d.meets I) : (d.settleBurn burned).meets I := by
  unfold Dev.settleBurn
  dsimp only
  split
  · exact h
  · exact meets_ite h.burned h.update

theorem Dev.meets.lifeErase (h : d.meets I) : d.lifeErase.meets I := h.update

theorem Dev.meets.stageFuse {burned} (h : d.meets I) : (d.stageFuse burned).meets I :=
  (meets_ite h.settleBurn.secNote h.settleBurn.secNote.lifeErase).update.toStage

theorem Dev.meets.runFirmware {slot svn root} (h : d.meets I) : (d.runFirmware slot svn root).meets I :=
  (h.setFld.setFld.put.each fun _ _ ho => ho.send).toStage

theorem Dev.meets.stageBoot (h : d.meets I) : d.stageBoot.meets I := by
  unfold Dev.stageBoot
  dsimp only
  split
  · exact h.send.toStage
  · split
    · exact meets_ite h.runFirmware h.runFirmware
    · exact h.runFirmware
    · exact h.runFirmware
    · exact h.stageFails.put

theorem Dev.meets.loadStore (h : d.meets I) : d.loadStore.meets I := h.foldl fun _ _ ho => meets_ite ho ho.update.loadDone

theorem Dev.meets.putSome {r v} (h : d.meets I) : (d.putSome r v).meets I := by
  unfold Dev.putSome
  split
  · exact h.put
  · exact h

theorem Dev.meets.takeConfig {c} (h : d.meets I) : (d.takeConfig c).meets I :=
  h.put.putSome.putSome.putSome.putSome.each fun _ _ ho => ho.each fun _ _ ho2 => ho2.setBit

theorem Dev.meets.trainGroup {trained eyes g} (h : d.meets I) : (d.trainGroup trained eyes g).meets I :=
  have h1 := h.each fun _ _ ho => ho.put
  meets_ite h1.update.setBit (h1.each fun _ _ ho => ho.raise).event.groupOffline.update

theorem Dev.meets.toImage (h : d.meets I) : d.toImage.meets I := by
  unfold Dev.toImage
  dsimp only
  split
  · exact h.toStage
  · exact meets_ite h.toStage.put.raise h.toStage.activateStop

theorem Dev.meets.stageDram {config trained eyes} (h : d.meets I) : (d.stageDram config trained eyes).meets I := by
  unfold Dev.stageDram
  dsimp only
  split
  · exact h.loadStore.raise.toImage
  · exact (h.loadStore.takeConfig.each fun _ _ ho => ho.trainGroup).toStage

theorem Dev.meets.stageZero (h : d.meets I) : d.stageZero.meets I := (h.update (dram := []) (dmc := _)).toImage

theorem Dev.meets.restoreSlot {s anew k} (h : d.meets I) : (d.restoreSlot s anew k).meets I :=
  have h1 := (h.foldl fun _ _ ho => ho.wr).setBit.put.put.setCtx
  (meets_ite h1 h1.takeUnits).put

theorem Dev.meets.noteGeneration {x} (h : d.meets I) : (d.noteGeneration x).meets I := by
  unfold Dev.noteGeneration
  dsimp only
  split
  · exact h.setCtx
  · exact h

theorem Dev.meets.retireSlots (h : d.meets I) : d.retireSlots.meets I := h.each fun _ _ ho => meets_ite ho.setFld ho

theorem Dev.meets.restoreContextsOf {s anew events} (h : d.meets I) : (d.restoreContextsOf s anew events).meets I := by
  unfold Dev.restoreContextsOf
  extract_lets ks dp stored ctx0 d0 d1 regions cmp2 d2 d3
  have h0 : d0.meets I := h.put.foldl fun _ _ ho => ho.setCtx
  have h1 : d1.meets I := (h0.each fun _ _ ho => ho.restoreSlot).foldl fun _ _ ho => ho.noteGeneration
  have h3 : d3.meets I := h1.update.foldl fun _ _ ho => ho.takeUnits
  exact (h3.each fun _ _ ho => ho.countRegions).retireSlots.noteContexts

theorem Dev.meets.restorePort {s synFrom n} (h : d.meets I) : (d.restorePort s synFrom n).meets I :=
  have h1 := h.setSyn.foldl fun _ _ ho => ho.each fun _ _ ho2 => ho2.wr
  meets_ite h1.setPort.setBit.event h1.setPort.setBit.setBit.refreshEvent

theorem Dev.meets.restorePosition {s} (h : d.meets I) : (d.restorePosition s).meets I :=
  ((h.each fun _ _ ho => ho.wr).each fun _ _ ho => ho.setEnc).wr.wr.notePass

theorem Dev.meets.restoreFrames {s anew} (h : d.meets I) : (d.restoreFrames s anew).meets I :=
  h.each fun _ _ ho => ho.put.setPipe

theorem Dev.meets.restoreFire {f} (h : d.meets I) : (d.restoreFire f).meets I :=
  meets_ite h.put.update.raise.setFld.stopReq h.put

theorem Dev.meets.replayHealth {x} (h : d.meets I) : (d.replayHealth x).meets I := by
  unfold Dev.replayHealth
  split
  · exact h.each fun _ _ ho => ho.foldMask
  · exact h

theorem Dev.meets.tellRestored {fire} (h : d.meets I) : (d.tellRestored fire).meets I := h.each fun _ _ ho => ho.setCtx.tellDue

theorem Dev.meets.restoreState {s synFrom anew events fire} (h : d.meets I) :
    (d.restoreState s synFrom anew events fire).meets I :=
  have h1 := h.restoreFire.restorePosition.restoreFrames.each fun _ _ ho => ho.restorePort
  (h1.foldl fun _ _ ho => ho.replayHealth).restoreContextsOf.tellRestored

theorem Dev.meets.checkDigest {s} (h : d.meets I) : (d.checkDigest s).meets I := meets_ite h h.update.refuse
theorem Dev.meets.noteRestart {outcome s} (h : d.meets I) : (d.noteRestart outcome s).meets I := h.put.put.put

theorem Dev.meets.restoreBreath {k s base} (h : d.meets I) : (d.restoreBreath k s base).meets I :=
  (meets_ite h.restoreState.checkDigest.noteRestart.raise h.restoreState.checkDigest.noteRestart).update

theorem Dev.meets.restoreCheckpoint {k s} (h : d.meets I) : (d.restoreCheckpoint k s).meets I :=
  h.restoreState.noteRestart.put.raise.update

theorem Dev.meets.restore (h : d.meets I) : d.restore.meets I := by
  unfold Dev.restore
  dsimp only
  split
  · exact h
  · split
    · split
      · exact h.restoreCheckpoint
      · split
        · exact h.restoreBreath
        · split
          · exact meets_ite h.restoreBreath (meets_ite h h.restoreCheckpoint)
          · exact h
    · exact h

theorem Dev.meets.stageRole {toggles record} (h : d.meets I) : (d.stageRole toggles record).meets I :=
  have h1 := meets_ite h.setBit.update h.setBit
  (meets_ite h1.setRole.setUnfit h1.setRole).toStage

end
end Sys2Proof.Machine
end

section
open Sys2Proof
namespace Sys2Proof.Machine
section
variable {I : PortInvariant} {d : Dev}

/-! ### Commands of power and Breath (R336 to R359) -/

theorem Dev.meets.execBudgetEstimate {e tj left delta} (h : d.meets I) :
    (d.viaRow (execBudgetEstimate e tj left delta)).meets I :=
  meets_viaRow (fun _ => rfl) <|
    have h1 := h.put.each fun _ _ ho => ho.put
    meets_ite h1.setFld.setBit.thermalAct h1.setFld.setBit.thermalAct.noteDelta.retrainByTemp.schedule

theorem Dev.meets.execPowerOver (h : d.meets I) : (d.viaRow execPowerOver).meets I :=
  meets_viaRow (fun _ => rfl) h.event.raise.speedReq.setBit

theorem Dev.meets.execTaskDeadlineMiss {task} (h : d.meets I) : (d.viaRow (execTaskDeadlineMiss task)).meets I :=
  meets_viaRow (fun _ => rfl) (meets_ite h h.count.setTask.event.raise)

theorem Dev.meets.execTaskComplete {task} (h : d.meets I) : (d.viaRow (execTaskComplete task)).meets I :=
  meets_viaRow (fun _ => rfl) (meets_ite h.taskDone h)

theorem Dev.meets.execCheckpointCommit {raw} (h : d.meets I) : (d.viaRow (execCheckpointCommit raw)).meets I :=
  meets_viaRow (fun _ => rfl) (meets_ite h (meets_ite h.checkpoint.update (meets_ite h.checkpoint.taskDone h)))

theorem Dev.meets.execCkptNow (h : d.meets I) : (d.viaRow execCkptNow).meets I :=
  meets_viaRow (fun _ => rfl) h.taskDue.setBit

theorem Dev.meets.execDroneEnWrite {on} (h : d.meets I) : (d.viaRow (execDroneEnWrite on)).meets I :=
  meets_viaRow (fun _ => rfl) h.setBit

theorem Dev.meets.execBreathStart (h : d.meets I) : (d.viaRow execBreathStart).meets I :=
  meets_viaRow (fun _ => rfl) (meets_ite h.setBit.shed h.setBit)

theorem Dev.meets.execSupplyTrip {rail} (h : d.meets buffers) : (d.viaRow (execSupplyTrip rail)).meets buffers :=
  meets_viaRow (fun _ => rfl) <|
    meets_ite h.event.raise.shed (meets_ite h.event.raise.update (meets_ite h.event.raise.save h.event.raise))

theorem Dev.meets.execShedDone (h : d.meets buffers) : (d.viaRow execShedDone).meets buffers :=
  meets_viaRow (fun _ => rfl) (meets_ite h (meets_ite h.save h.setBreath))

theorem Dev.meets.execHoldExpire (h : d.meets buffers) : (d.viaRow execHoldExpire).meets buffers :=
  meets_viaRow (fun _ => rfl) (meets_ite h.save h)

theorem Dev.meets.execPfRecover (h : d.meets I) : (d.viaRow execPfRecover).meets I :=
  meets_viaRow (fun _ => rfl) (meets_ite h.setBit.resume h.setBit)

theorem Dev.meets.execBreathCommit {parts part3} (h : d.meets buffers) : (d.viaRow (execBreathCommit parts part3)).meets buffers :=
  meets_viaRow (fun _ => rfl) (meets_ite h (meets_ite Dev.cold_meets h.breathCommit))

theorem Dev.meets.execResumeComplete (h : d.meets I) : (d.viaRow execResumeComplete).meets I :=
  meets_viaRow (fun _ => rfl) (meets_ite h (meets_ite h.resumed.shed h.resumed))

/-! ### Commands of reels and composition (R88 to R114) -/

theorem Dev.meets.execRegionOpen {slot w} (h : d.meets I) : (d.viaRow (execRegionOpen slot w)).meets I :=
  meets_viaRow (fun _ => rfl) (h.entry fun _ ho => ho.regionOpen)

theorem Dev.meets.execRegionClose {slot w} (h : d.meets I) : (d.viaRow (execRegionClose slot w)).meets I :=
  meets_viaRow (fun _ => rfl) (h.entry fun _ ho => ho.regionClose)

theorem Dev.meets.blockSubmit {s w data} (h : d.meets I) : (d.blockSubmit s w data).meets I := by
  unfold Dev.blockSubmit
  dsimp only
  split
  · exact h.entryErr
  · split
    · exact h.entryErr
    · split
      · exact h.entryErr
      · split
        · exact h.entryErr
        · split
          · exact h.entryErr
          · split
            · exact h.entryErr
            · exact h.setRegion.update

theorem Dev.meets.execBlock {slot w data} (h : d.meets I) : (d.viaRow (execBlock slot w data)).meets I :=
  meets_viaRow (fun _ => rfl) (h.entry fun _ ho => ho.blockSubmit)

theorem Dev.meets.fmtError {reason slot} (h : d.meets I) : (d.fmtError reason slot).meets I := h.put.count

theorem Dev.meets.ingestDone {i} (h : d.meets I) : (d.ingestDone i).meets I := by
  unfold Dev.ingestDone
  dsimp only
  split
  · exact h
  · split
    · exact h.update.ingestFail
    · split
      · exact meets_ite h.update.count.fmtError.ingestFail h.update.count.ingestFail
      · exact meets_ite h.update.ingestMirror h.update.ingestStore

theorem Dev.meets.execIngestCheckDone {job} (h : d.meets I) : (d.viaRow (execIngestCheckDone job)).meets I :=
  meets_viaRow (fun _ => rfl) h.ingestDone

theorem Dev.meets.fetchBlock {region strip first sibling o} (h : d.meets I) :
    (d.fetchBlock region strip first sibling o).meets I := by
  unfold Dev.fetchBlock
  dsimp only
  split
  · exact h
  · split
    · exact h
    · split
      · exact h
      · split
        · exact h.storeCopy
        · split
          · exact (meets_ite h h.accessErr).setRegion.spoil.event.raise.storeCopy.update
          · exact (meets_ite h h.accessErr).setRegion.spoil.event.raise.storeCopy.afterRetire
          · exact (meets_ite h h.accessErr).setRegion.spoil
          · exact meets_ite (meets_ite h h.accessErr) (meets_ite h h.accessErr).update.storeCopy

theorem Dev.meets.execBlockFetch {region strip first sibling outcome} (h : d.meets I) :
    (d.viaRow (execBlockFetch region strip first sibling outcome)).meets I :=
  meets_viaRow (fun _ => rfl) h.fetchBlock.fillRows

theorem Dev.meets.execCmpLeadLinesWrite {req value} (h : d.meets I) : (d.viaRow (execCmpLeadLinesWrite req value)).meets I :=
  meets_viaRow (fun _ => rfl) (meets_ite h.put.lockAhead h.put)

/-! ### Commands of security and life cycle (R445 to R459) -/

theorem Dev.meets.execKeyLock {req} (h : d.meets I) : (d.viaRow (execKeyLock req)).meets I :=
  meets_viaRow (fun _ => rfl) (h.secAction fun _ ho => ho.setBit.secLast)

theorem Dev.meets.execVceilDown {req vpp} (h : d.meets I) : (d.viaRow (execVceilDown req vpp)).meets I :=
  meets_viaRow (fun _ => rfl) (h.secAction fun _ ho => meets_ite ho.secRefuse ho.startBurn)

theorem Dev.meets.execFloorUp {req vpp} (h : d.meets I) : (d.viaRow (execFloorUp req vpp)).meets I :=
  meets_viaRow (fun _ => rfl) (h.secAction fun _ ho => meets_ite ho.secRefuse (meets_ite ho.secRefuse ho.startBurn))

theorem Dev.meets.execRevoke {req vpp} (h : d.meets I) : (d.viaRow (execRevoke req vpp)).meets I :=
  meets_viaRow (fun _ => rfl) (h.secAction fun _ ho => meets_ite ho.secRefuse ho.startBurn)

theorem Dev.meets.execRootProg {req vpp} (h : d.meets I) : (d.viaRow (execRootProg req vpp)).meets I :=
  meets_viaRow (fun _ => rfl) (h.secAction fun _ ho => meets_ite ho.secRefuse (meets_ite ho.secRefuse ho.startBurn))

theorem Dev.meets.execKeyInstall {req root signature} (h : d.meets I) :
    (d.viaRow (execKeyInstall req root signature)).meets I :=
  meets_viaRow (fun _ => rfl) <|
    h.secAction fun _ ho =>
      meets_ite ho.secRefuse <| by
        split
        · exact ho.secRefuse
        · exact ho.update.secLast

theorem Dev.meets.execLcGo {req vpp} (h : d.meets I) : (d.viaRow (execLcGo req vpp)).meets I :=
  meets_viaRow (fun _ => rfl) (h.secAction fun _ ho => meets_ite ho.secRefuse (meets_ite ho.secRefuse ho.startBurn))

theorem Dev.meets.execFuseBurnDone (h : d.meets buffers) : (d.viaRow execFuseBurnDone).meets buffers :=
  meets_viaRow (fun _ => rfl) <| by
    split
    · exact h
    · split
      · exact h.burned.secLast.sendCeiling
      · exact Dev.cold_meets
      · exact h.burned.secLast

/-! ### Commands of reset and start-up (R460 to R467, R486) -/

theorem Dev.meets.keyed {req key f} (h : d.meets I) (hf : ∀ e, e.meets I → (f e).meets I) : (d.keyed req key f).meets I :=
  meets_ite (hf _ h) h.refuse

theorem Dev.meets.execGlbResetCold {req key} (h : d.meets buffers) : (d.viaRow (execGlbResetCold req key)).meets buffers :=
  meets_viaRow (fun _ => rfl) (h.keyed fun _ _ => Dev.cold_meets)

theorem Dev.meets.execGlbResetMgmt {req key} (h : d.meets buffers) : (d.viaRow (execGlbResetMgmt req key)).meets buffers :=
  meets_viaRow (fun _ => rfl) (h.keyed fun _ ho => ho.each fun _ _ ho2 => ho2.coreReset)

theorem Dev.meets.execGlbResetCore {req key cores} (h : d.meets buffers) : (d.viaRow (execGlbResetCore req key cores)).meets buffers :=
  meets_viaRow (fun _ => rfl) (h.keyed fun _ ho => ho.each fun _ _ ho2 => ho2.coreReset.count.irqPulse.raise)

theorem Dev.meets.execPorzAssert (h : d.meets buffers) : (d.viaRow execPorzAssert).meets buffers :=
  meets_viaRow (fun _ => rfl) (meets_ite h.update.save (meets_ite h.update Dev.cold_meets))

theorem Dev.meets.endStage {x} (h : d.meets I) : (d.endStage x).meets I := by
  unfold Dev.endStage
  split
  · exact meets_ite h.clockLocked h.stageFails
  · exact h.stageFuse
  · exact h.toStage
  · exact h.stageBoot
  · exact h.setBit.toStage
  · exact h.stageDram
  · exact h.stageZero
  · exact h.toStage
  · exact h.restore.toStage
  · exact h.stageRole

theorem Dev.meets.execStartupStageDone {done} (h : d.meets I) : (d.viaRow (execStartupStageDone done)).meets I :=
  meets_viaRow (fun _ => rfl) (meets_ite h h.endStage)

theorem Dev.meets.execEthrefLost (h : d.meets I) : (d.viaRow execEthrefLost).meets I :=
  meets_viaRow (fun _ => rfl) <|
    have h1 := h.raise.stopByOther.stopReq.update.setBit.update.each fun _ _ ho => ho.setBit
    h1.each fun _ _ ho => ho.groupDown.lanesOff

theorem Dev.meets.execPcierefLost (h : d.meets buffers) : (d.viaRow execPcierefLost).meets buffers :=
  meets_viaRow (fun _ => rfl) h.pciReset.raise.setBit.setBit

theorem Dev.meets.execSysrefLost (h : d.meets I) : (d.viaRow execSysrefLost).meets I :=
  meets_viaRow (fun _ => rfl) <|
    have h1 := h.each fun _ _ ho => ho.groupOffline.raise.each fun _ _ ho2 => ho2.drainChannel
    meets_ite h1 h1.event.dramGone

theorem Dev.meets.execAonBrownout {torn} : (d.viaRow (execAonBrownout torn)).meets buffers :=
  meets_viaRow (fun _ => rfl) Dev.cold_meets

theorem Dev.meets.execPgStable (h : d.meets buffers) : (d.viaRow execPgStable).meets buffers :=
  meets_viaRow (fun _ => rfl) (meets_ite Dev.cold_meets h.setBit)

theorem Dev.meets.execPgFall (h : d.meets buffers) : (d.viaRow execPgFall).meets buffers :=
  meets_viaRow (fun _ => rfl) (meets_ite Dev.cold_meets h.setBit)

/-! ### Commands of tenants and rings (R264 to R289) -/

theorem Dev.meets.tenantWrite {s fn f} (h : d.meets I) (hf : ∀ e, e.meets I → (f e).meets I) : (d.tenantWrite s fn f).meets I :=
  meets_ite h.accessErr (meets_ite h.raise (hf _ h))

theorem Dev.meets.ringWrite {s entries} (h : d.meets I) : (d.ringWrite s entries).meets I := h.setCtx

theorem Dev.meets.execSqTailDoorbell {slot fn value entries} (h : d.meets I) :
    (d.viaRow (execSqTailDoorbell slot fn value entries)).meets I :=
  meets_viaRow (fun _ => rfl) (h.tenantWrite fun _ ho => ho.ringWrite.sqDoorbell)

theorem Dev.meets.execCqHeadDoorbell {slot fn value} (h : d.meets I) : (d.viaRow (execCqHeadDoorbell slot fn value)).meets I :=
  meets_viaRow (fun _ => rfl) (h.tenantWrite fun _ ho => ho.cqDoorbell)

theorem Dev.meets.grantEntry {s w} (h : d.meets I) : (d.grantEntry s w).meets I := by
  unfold Dev.grantEntry
  dsimp only
  split
  · exact h.takeEntry.sqTake.entryErr
  · exact h.takeEntry.sqTake

theorem Dev.meets.arbRound (h : d.meets I) : d.arbRound.meets I := meets_ite h (h.each fun _ _ ho => ho.setCtx)

theorem Dev.meets.arbiter {s e} (h : d.meets I) (he : d.arbiter s = some e) : e.meets I := by
  unfold Dev.arbiter at he
  dsimp only at he
  split at he
  · cases he
  · split at he
    · cases he
      exact h
    · split at he
      · cases he
      · split at he
        · cases he
        · cases he
          exact h.arbRound.setCtx

theorem Dev.meets.execRingGrant {slot} (h : d.meets I) : (d.viaRow (execRingGrant slot)).meets I :=
  meets_viaRow (fun _ => rfl) <| by
    dsimp only
    split
    next => exact h
    next _ he =>
      exact meets_ite (.xptSend ((h.arbiter he).foldl fun _ _ ho => ho.grantEntry))
        ((h.arbiter he).foldl fun _ _ ho => ho.grantEntry)

theorem Dev.meets.execNop {slot w} (h : d.meets I) : (d.viaRow (execNop slot w)).meets I :=
  meets_viaRow (fun _ => rfl) (h.entry fun _ ho => ho.entryOk)

theorem Dev.meets.execAcctRead {slot w} (h : d.meets I) : (d.viaRow (execAcctRead slot w)).meets I :=
  meets_viaRow (fun _ => rfl) (h.entry fun _ ho => ho.entryOk)

theorem Dev.meets.ctxEntry {s opcode w f} (h : d.meets I) (hf : ∀ e, e.meets I → (f e).meets I) :
    (d.ctxEntry s opcode w f).meets I :=
  h.entry fun _ ho => meets_ite ho.entryErr (hf _ ho)

theorem Dev.meets.openPage {k w} (h : d.meets I) : (d.openPage k w).meets I := h.clearPage.put.put.put.put.put.takeUnits
theorem Dev.meets.ctxRefused {s w e} (h : d.meets I) : (d.ctxRefused s w e).meets I := (meets_ite h.count.event h).entryErr

theorem Dev.meets.ctxOpen {s w} (h : d.meets I) : (d.ctxOpen s w).meets I := by
  unfold Dev.ctxOpen
  dsimp only
  split
  · exact h.entryErr
  · split
    · exact h.ctxRefused
    · split
      · exact h.ctxRefused
      · split
        · exact h.entryErr
        · split
          · exact h.entryErr
          · exact meets_ite h.entryErr h.setCtx.openPage.setBit.contextChanged.entryOk

theorem Dev.meets.execCtxOpen {slot w} (h : d.meets I) : (d.viaRow (execCtxOpen slot w)).meets I :=
  meets_viaRow (fun _ => rfl) (h.ctxEntry fun _ ho => ho.ctxOpen)

theorem Dev.meets.handleEntry {s w owner f} (h : d.meets I) (hf : ∀ e k, e.meets I → (f e k).meets I) :
    (d.handleEntry s w owner f).meets I := by
  unfold Dev.handleEntry
  split
  · exact h.entryErr
  · exact meets_ite h.entryErr (meets_ite h.entryErr (hf _ _ h))

theorem Dev.meets.execCtxClose {slot w} (h : d.meets I) : (d.viaRow (execCtxClose slot w)).meets I :=
  meets_viaRow (fun _ => rfl) (h.ctxEntry fun _ ho => ho.handleEntry fun _ _ ho2 => ho2.closeContext.contextChanged.entryOk)

theorem Dev.meets.execCtxPark {slot w} (h : d.meets I) : (d.viaRow (execCtxPark slot w)).meets I :=
  meets_viaRow (fun _ => rfl) <|
    h.ctxEntry fun _ ho =>
      ho.handleEntry fun _ _ ho2 =>
        meets_ite ho2.entryErr <| by
          split
          · exact ho2.entryErr
          · exact ho2.setCtx.cueRequest

theorem Dev.meets.execCtxActivate {slot w} (h : d.meets I) : (d.viaRow (execCtxActivate slot w)).meets I :=
  meets_viaRow (fun _ => rfl) <|
    h.ctxEntry fun _ ho => by
      dsimp only
      split
      · exact ho.ctxRefused
      · split
        · exact ho.entryErr
        · exact meets_ite ho.ctxRefused <|
            meets_ite ho.entryErr (meets_ite ho.entryErr (meets_ite ho.entryErr ho.cueRequest))

theorem Dev.meets.execCtxQuota {slot w} (h : d.meets I) : (d.viaRow (execCtxQuota slot w)).meets I :=
  meets_viaRow (fun _ => rfl) <|
    h.ctxEntry fun _ ho =>
      ho.handleEntry fun _ _ ho2 => meets_ite ho2.entryErr ho2.put.setFld.put.setBit.contextChanged.entryOk

theorem Dev.meets.execCtxZeroDone {slot} (h : d.meets I) : (d.viaRow (execCtxZeroDone slot)).meets I :=
  meets_viaRow (fun _ => rfl) <| by
    dsimp only
    split
    · exact h
    · exact meets_ite (meets_ite h.update h.update.put).freeSlot.noteContexts.mirrorCtx.event.ctxEvent <|
        meets_ite h.update h.update.put

theorem Dev.meets.execHostCqWriteFail {slot} (h : d.meets I) : (d.viaRow (execHostCqWriteFail slot)).meets I :=
  meets_viaRow (fun _ => rfl) h.setCtx.count.ctxEvent.event.raise

/-! ### Register accesses with rows of their own (R5 to R7) -/

theorem Dev.meets.imgCommands {q v} (h : d.meets I) : (d.imgCommands q v).meets I :=
  h.viaBit (·.execLoad) |>.viaBit (·.execArmHot) |>.viaBit (·.execActStop) |>.viaBit (·.execDisarm)
    |>.viaBit (·.execDiscard) |>.viaBit (·.execPersist)

theorem Dev.meets.posCommands {q v} (h : d.meets I) : (d.posCommands q v).meets I :=
  have hfire : (d.viaRow (if bitOf v 0 then Machine.execFireEn q else Machine.execFireDisable q)).meets I := by
    split
    · exact h.execFireEn
    · exact h.execFireDisable
  (meets_ite h hfire).viaBit (·.execStopClr) |>.viaBit (·.execZero) |>.viaBit (·.execCal) |>.viaBit (·.execPassArm)

theorem Dev.meets.secCommands {q v x} (h : d.meets I) : (d.secCommands q v x).meets I :=
  h.viaBit (·.execLcGo) |>.viaBit (·.execKeyInstall) |>.viaBit (·.execRootProg) |>.viaBit (·.execRevoke)
    |>.viaBit (·.execFloorUp) |>.viaBit (·.execVceilDown) |>.viaBit (·.execKeyLock)

theorem Dev.meets.synCommands {q n v} (h : d.meets I) : (d.synCommands q n v).meets I :=
  meets_ite h.execTableReadyWrite.execAbort (h.execTableReadyWrite.viaBit (·.execCommit))

theorem Dev.meets.axisCommands {q a v} (h : d.meets I) : (d.axisCommands q a v).meets I :=
  h.viaBit (·.execAxisAbort) |>.viaBit (·.execAxisPush) |>.viaBit (·.execAxisHalt) |>.viaBit (·.execAxisHome)

theorem Dev.meets.ptnCommands {v} (h : d.meets I) : (d.ptnCommands v).meets I :=
  (meets_ite h h.execPairEnWrite).viaBit (·.execPtnSurrender) |>.viaBit (·.execResync) |>.viaBit (·.execForceRemove)

theorem Dev.meets.resetCommands {q v} (h : d.meets buffers) : (d.resetCommands q v).meets buffers :=
  meets_ite h.execGlbResetCold (h.viaBit (·.execGlbResetMgmt)).execGlbResetCore

theorem Dev.meets.doorbell {a k o} (h : d.meets I) (ho : ∀ fn, (d.viaRow (o fn)).meets I) : (d.doorbell a k o).meets I := by
  unfold Dev.doorbell
  split
  · exact h.accessErr
  · exact ho _
  · exact ho _

theorem Dev.meets.ownWrite {a r k high v x} (h : d.meets buffers) : (d.ownWrite a r k high v x).meets buffers := by
  unfold Dev.ownWrite
  dsimp only
  split
  · exact h.resetCommands
  · exact h.execKick
  · exact h.posCommands
  · exact h.execPortDelayWrite
  · exact h.execIrqMaskSet
  · exact h.execIrqMaskClr
  · exact h.execIrqPendSet
  · exact h.execIrqPendClr
  · exact h.execDroneEnWrite.viaBit (·.execCkptNow)
  · exact h.ptnCommands
  · exact h.viaBit (·.execLoopResume)
  · exact h.execLoopSpWrite
  · exact h.axisCommands
  · exact h.execCtlRcDataAccess
  · exact h.secCommands
  · exact meets_ite h.execCalCtrlRun h.put
  · exact (h.viaBit (·.execTsuStep)).viaBit (·.execTsuSet)
  · exact h.execTsuIncWrite
  · exact h.execCueAbort
  · exact h.execCueQuery
  · exact ((h.viaBit (·.execGo)).viaBit (·.execLeave)).viaBit (·.execRelink)
  · exact h.synCommands
  · exact h.execNztWrite
  · exact h.execNztWrite
  · exact h.execNztWrite
  · exact h.execNztWrite
  · exact h.execNztWrite
  · exact h.execNztWrite
  · exact h.execHealthGo
  · exact h.viaBit (·.execGoAll)
  · exact h.viaBit (·.execRetire)
  · exact (h.execInsRunWrite.viaBit (·.execInsClose)).viaBit (·.execInsRelink)
  · exact h.execGtDataAccess
  · exact h.execInjCtrlWrite
  · exact h.viaBit (·.execScanNow)
  · exact h.viaBit (·.execGroupReset)
  · exact h.execDmcPrioWrite
  · exact h.execCmpLeadLinesWrite
  · exact h.execToutArm
  · exact h.doorbell fun _ => h.execSqTailDoorbell
  · exact h.doorbell fun _ => h.execCqHeadDoorbell
  · exact h

theorem Dev.meets.besideWrite {a r k v x} (h : d.meets I) : (d.besideWrite a r k v x).meets I := by
  unfold Dev.besideWrite
  dsimp only
  split
  · exact h.imgCommands
  · exact h.viaBit (·.execInputReturn)
  · exact h.viaBit (·.execQlClear)
  · exact (h.viaBit (·.execLaneRetrain)).viaBit (·.execLaneRevive)
  · exact h.viaBit (·.execNvaOpGo)
  · exact h

theorem Dev.meets.beforeStore {a r k v} (h : d.meets I) : (d.beforeStore a r k v).meets I := by
  unfold Dev.beforeStore
  split
  · exact meets_ite h h.execLaneTest
  · exact h

theorem Dev.meets.nztWord {a offset v} (h : d.meets I) : (d.nztWord a offset v).meets I := h.execNztWrite

theorem Dev.meets.ownRead {a r k high} (h : d.meets buffers) : (d.ownRead a r k high).meets buffers := by
  unfold Dev.ownRead
  dsimp only
  split
  · exact h.execGtDataAccess
  · exact h.execCtlRcDataAccess
  · exact h.execClaim
  · exact h.execClaim
  · exact h.execClaim
  · exact h.execTxtsPop
  · exact h

/-! ### Register accesses (R5 to R8, R429) -/

theorem Dev.meets.refuseAgent {a e place} (h : d.meets I) : (d.refuseAgent a e place).meets I :=
  h.of_reach (x := refuseAgentReach) rfl rfl rfl fun hd hx => hd.refuseAgent hx

theorem Dev.meets.badAccess (h : d.meets I) : d.badAccess.meets I := h.count

theorem Dev.meets.beforeWrite {r k v} (h : d.meets I) : (d.beforeWrite r k v).meets I :=
  meets_ite (meets_ite h.prbsStop.injStop.setLane h.prbsStop.injStop) h

theorem Dev.meets.afterWrite {r k} (h : d.meets I) : (d.afterWrite r k).meets I := by
  unfold Dev.afterWrite
  dsimp only
  split
  · exact meets_ite h.irqPend h
  · exact h.noteLoop
  · exact h.tellDue.postDone
  · exact meets_ite h h.ethLink
  · exact h.refreshEvent

theorem Dev.meets.storeReg {r k v} (h : d.meets I) : (d.storeReg r k v).meets I := h.beforeWrite.wr.afterWrite
theorem Dev.meets.storeEp {a k v} (h : d.meets I) : (d.storeEp a k v).meets I := meets_ite h.refuseAgent.storeReg h.storeReg

theorem Dev.meets.writeBits {a r k high v edges} (h : d.meets I) : (d.writeBits a r k high v edges).meets I := by
  unfold Dev.writeBits
  split
  · exact h.refuseAgent
  · split
    · exact h.refuseAgent
    · exact meets_ite h (meets_ite h.storeEp h.storeReg)

theorem Dev.meets.writeReg {a r k high v x} (h : d.meets buffers) : (d.writeReg a r k high v x).meets buffers :=
  meets_ite h.ownWrite (meets_ite h.besideWrite h.beforeStore.writeBits.besideWrite)

theorem Dev.meets.writeWord {a addr v x} (h : d.meets buffers) : (d.writeWord a addr v x).meets buffers := by
  unfold Dev.writeWord
  split
  · exact h
  · split
    · exact h.accessErr
    · split
      · exact meets_ite h.nztWord h.badAccess
      · split
        · split
          · exact meets_ite h.writeReg h.accessErr
          · exact h.accessErr
        · exact h.writeReg

theorem Dev.meets.execRegisterWrite {writer addr value wide aside} (h : d.meets buffers) :
    (d.viaRow (execRegisterWrite writer addr value wide aside)).meets buffers :=
  meets_viaRow (fun _ => rfl) (meets_ite h.badAccess (meets_ite h.writeWord.writeWord h.writeWord))

theorem Dev.meets.readReg {a addr r k high} (h : d.meets I) : (d.readReg a addr r k high).meets I :=
  h.of_reach (x := readRegReach) rfl rfl rfl fun hd hx => hd.readReg hx

theorem Dev.meets.readWord {a addr} (h : d.meets buffers) : (d.readWord a addr).meets buffers := by
  unfold Dev.readWord
  dsimp only
  split
  · exact h.send
  · split
    · exact h.accessErr.send
    · split
      · exact meets_ite h.send h.badAccess.send
      · exact meets_ite h.ownRead h.readReg

theorem Dev.meets.execLowWordReadLatch {requester addr wide} (h : d.meets buffers) :
    (d.viaRow (execLowWordReadLatch requester addr wide)).meets buffers :=
  meets_viaRow (fun _ => rfl) (meets_ite h.badAccess.send (meets_ite h.readWord.readWord h.readWord))

/-! ### Commands of the compressor units (R129 to R134) -/

theorem Dev.meets.execSelfcheckDone {unit agree} (h : d.meets I) : (d.viaRow (execSelfcheckDone unit agree)).meets I :=
  meets_viaRow (fun _ => rfl) <| by
    split
    · exact h
    · exact meets_ite h.releaseBlock.uploadBlock h.selfcheckFail.uploadStops

/-! ### Every command, every step -/

theorem Dev.meets.viaRow_exec (c : Instr) (h : d.meets buffers) : (d.viaRow (exec c)).meets buffers := by
  cases c with
  | badAccess | armHot | disarm | stopActivationDone | tableReadyWrite | cueQuery | credit | msgCrcFail | pmeRepeat
  | tsuIncWrite | droneEnWrite | pfGlitch | loopSpWrite | sleepBlock | laneWake | refReturn | laneRevive | dmcPrioWrite
  | irqMaskSet | keyLock | debugRequest | clockRetry | aspmL1Entry | laneSignalReturn =>
    exact h.of_framed (framed_of_no_area (d := d) _ rfl) rfl rfl
  | load | discard | hotCommitPoint | encWireFault | encWireClear | stopClr | seekDone | compressSymbols | compressFlush
  | healthFold | commit | sample | echoWord | camMeta | echo | camEvent | gtDataAccess | pcap | mirrorLinkRetry | dailySend
  | speedHoldRelease | taskDueCmd | journalWrite | ckptNow | lspFrame | loopResume | axisPush | axisHalt | axisAbort
  | axisHome | homeEdge | axisRestHold | laneSignalDetect | injCtrlWrite | scanNow | refreshDue | dramTempRead
  | retrainSlice | vceilDown | floorUp | revoke | rootProg | keyInstall | lcGo | startupBegin | calRunDone | referenceGood
  | prbsCheckerLock | prbsCheckerLockLoss | ethLinkRetry =>
    exact h.of_framed (framed_of_one_area (d := d) _ rfl) rfl rfl
  | overspeedRelease | zero | nztWrite | cap | versionRetry | leave | rateRelease | camcap | qlClear | cascap
  | ctlRcDataAccess | asbCycle | cameraVersionRetry =>
    exact h.of_framed (framed_of_two_areas (d := d) _ rfl) rfl rfl
  | pdRefreshDone | go | goAll =>
    exact h.of_framed (framed_of_four_areas (d := d) _ rfl) rfl rfl
  | slateSend =>
    exact h.of_framed (framed_of_five_areas (d := d) _ rfl) rfl rfl
  | fireEn =>
    exact h.of_framed (framed_of_six_areas (d := d) _ rfl) rfl rfl
  | registerWrite => exact h.execRegisterWrite
  | lowWordReadLatch => exact h.execLowWordReadLatch
  | imgLoadComplete => exact h.execImgLoadComplete
  | actStop => exact h.execActStop
  | persist => exact h.execPersist
  | hotActivationEffect => exact h.execHotActivationEffect
  | hotActivationDone => exact h.execHotActivationDone
  | encEdgeQualified => exact h.execEncEdgeQualified
  | encGlitch => exact h.execEncGlitch
  | wireLostTimeout => exact h.execWireLostTimeout
  | deadReckoningEnd => exact h.execDeadReckoningEnd
  | inputReturn => exact h.execInputReturn
  | standstill => exact h.execStandstill
  | fireCommit => exact h.execFireCommit
  | firingEnd => exact h.execFiringEnd
  | fireDisable => exact h.execFireDisable
  | cal => exact h.execCal
  | calDone => exact h.execCalDone
  | portDelayWrite => exact h.execPortDelayWrite
  | passArm => exact h.execPassArm
  | regionOpen => exact h.execRegionOpen
  | regionClose => exact h.execRegionClose
  | block => exact h.execBlock
  | ingestCheckDone => exact h.execIngestCheckDone
  | cmpLeadLinesWrite req => exact h.execCmpLeadLinesWrite (req := req)
  | blockFetch => exact h.execBlockFetch
  | selfcheckDone => exact h.execSelfcheckDone
  | batchStart => exact h.execBatchStart
  | batchComplete => exact h.execBatchComplete
  | forecastFrame => exact h.execForecastFrame
  | healthGo => exact h.execHealthGo
  | abort => exact h.execAbort
  | engineFault => exact h.execEngineFault
  | retire => exact h.execRetire
  | cueStart => exact h.execCueStart
  | cueDone => exact h.execCueDone
  | cueAbort => exact h.execCueAbort
  | batchSend => exact h.execBatchSend
  | batchSkip => exact h.execBatchSkip
  | headAck => exact h.execHeadAck
  | headEvent => exact h.execHeadEvent
  | nsense => exact h.execNsense
  | ackTimeout => exact h.execAckTimeout
  | upstreamSilent => exact h.execUpstreamSilent
  | relink => exact h.execRelink
  | portJoinEffect => exact h.execPortJoinEffect
  | portLeaveEffect => exact h.execPortLeaveEffect
  | insRunWrite => exact h.execInsRunWrite
  | insClose => exact h.execInsClose
  | insRelink => exact h.execInsRelink
  | triggerSend => exact h.execTriggerSend
  | camAck => exact h.execCamAck
  | rawPacket => exact h.execRawPacket
  | lineCloseTimeout => exact h.execLineCloseTimeout
  | recordHandoff => exact h.execRecordHandoff
  | statRecordWrite => exact h.execStatRecordWrite
  | uploadCompress => exact h.execUploadCompress
  | cameraSilent => exact h.execCameraSilent
  | qlRecordProcess => exact h.execQlRecordProcess
  | qlHealthPresent => exact h.execQlHealthPresent
  | qlHealthRetry => exact h.execQlHealthRetry
  | cascadeRetry => exact h.execCascadeRetry
  | shape => exact h.execShape
  | feed => exact h.execFeed
  | casHealth => exact h.execCasHealth
  | spoiln => exact h.execSpoiln
  | devrec => exact h.execDevrec
  | sqTailDoorbell => exact h.execSqTailDoorbell
  | cqHeadDoorbell => exact h.execCqHeadDoorbell
  | ringGrant => exact h.execRingGrant
  | nop => exact h.execNop
  | uploadSub => exact h.execUploadSub
  | uploadUnsub => exact h.execUploadUnsub
  | acctRead => exact h.execAcctRead
  | ctxOpen => exact h.execCtxOpen
  | ctxClose => exact h.execCtxClose
  | ctxPark => exact h.execCtxPark
  | ctxActivate slot w => exact h.execCtxActivate (slot := slot) (w := w)
  | ctxQuota => exact h.execCtxQuota
  | ctxZeroDone => exact h.execCtxZeroDone
  | hostCqWriteFail => exact h.execHostCqWriteFail
  | ethFrameReceive => exact h.execEthFrameReceive
  | ethFrameTransmit => exact h.execEthFrameTransmit
  | txtsPop => exact h.execTxtsPop
  | ethLinkChange => exact h.execEthLinkChange
  | hello => exact h.execHello
  | entries => exact h.execEntries
  | xptDoorbell => exact h.execXptDoorbell
  | xptWrite => exact h.execXptWrite
  | xptAck => exact h.execXptAck
  | xptClose => exact h.execXptClose
  | xptAckTimer => exact h.execXptAckTimer
  | xptResend => exact h.execXptResend
  | cqeCoalesceTimer => exact h.execCqeCoalesceTimer
  | d3hotEntry => exact h.execD3hotEntry
  | d0Return => exact h.execD0Return
  | vfFlr => exact h.execVfFlr
  | pfFlr => exact h.execPfFlr
  | msixTimer => exact h.execMsixTimer
  | msixUnmask => exact h.execMsixUnmask
  | tsuStep req => exact h.execTsuStep (req := req)
  | tsuSet req => exact h.execTsuSet (req := req)
  | toutArm => exact h.execToutArm
  | toutPulse => exact h.execToutPulse
  | presentChange => exact h.execPresentChange
  | heartbeatLost => exact h.execHeartbeatLost
  | mirrorSilent => exact h.execMirrorSilent
  | silentDeath => exact h.execSilentDeath
  | dualActive => exact h.execDualActive
  | bindRecord => exact h.execBindRecord
  | mirrorCommit => exact h.execMirrorCommit
  | mirrorCrc => exact h.execMirrorCrc
  | verdictReady => exact h.execVerdictReady
  | lockRecord => exact h.execLockRecord
  | mirrorBlock => exact h.execMirrorBlock
  | tableRecord => exact h.execTableRecord
  | mirrorHealth => exact h.execMirrorHealth
  | ctxRecord => exact h.execCtxRecord
  | loopRecord => exact h.execLoopRecord
  | daily => exact h.execDaily
  | surrenderRecord => exact h.execSurrenderRecord
  | verdict => exact h.execVerdict
  | mirrorAck => exact h.execMirrorAck
  | recordMsg => exact h.execRecordMsg
  | mirrorGap => exact h.execMirrorGap
  | ptnSurrender => exact h.execPtnSurrender
  | takeover => exact h.execTakeover
  | snapshotApplied => exact h.execSnapshotApplied
  | resync => exact h.execResync
  | removeRequest => exact h.execRemoveRequest
  | forceRemove => exact h.execForceRemove
  | pairEnWrite => exact h.execPairEnWrite
  | budgetEstimate => exact h.execBudgetEstimate
  | powerOver => exact h.execPowerOver
  | taskDeadlineMiss => exact h.execTaskDeadlineMiss
  | taskComplete => exact h.execTaskComplete
  | checkpointCommit => exact h.execCheckpointCommit
  | breathStart => exact h.execBreathStart
  | supplyTrip => exact h.execSupplyTrip
  | shedDone => exact h.execShedDone
  | holdExpire => exact h.execHoldExpire
  | pfRecover => exact h.execPfRecover
  | breathCommit => exact h.execBreathCommit
  | pgStable => exact h.execPgStable
  | loopEvaluate => exact h.execLoopEvaluate
  | loopSafeTimeout => exact h.execLoopSafeTimeout
  | axisPlanTick => exact h.execAxisPlanTick
  | axisLimit => exact h.execAxisLimit
  | asbUpWord => exact h.execAsbUpWord
  | laneStageDone => exact h.execLaneStageDone
  | laneStageTimeout => exact h.execLaneStageTimeout
  | blockLockLoss => exact h.execBlockLockLoss
  | laneLos => exact h.execLaneLos
  | laneBlockErrRetrain => exact h.execLaneBlockErrRetrain
  | laneRail _ tap => exact h.execLaneRail (tap := tap)
  | refBad => exact h.execRefBad
  | refHoldoverEnd => exact h.execRefHoldoverEnd
  | laneTest => exact h.execLaneTest
  | laneRetrain => exact h.execLaneRetrain
  | marginScanDone => exact h.execMarginScanDone
  | dramGrant => exact h.execDramGrant
  | ceWriteback => exact h.execCeWriteback
  | dramFreeze => exact h.execDramFreeze
  | groupReset => exact h.execGroupReset
  | retrainDone => exact h.execRetrainDone
  | watchdogExpire => exact h.execWatchdogExpire
  | kick => exact h.execKick
  | loadWindow => exact h.execLoadWindow
  | nvaOpGo => exact h.execNvaOpGo
  | nvaLineWritten => exact h.execNvaLineWritten
  | nvaEccError => exact h.execNvaEccError
  | irqModTimer => exact h.execIrqModTimer
  | claim reader core fast => exact h.execClaim (reader := reader) (core := core) (fast := fast)
  | irqMaskClr => exact h.execIrqMaskClr
  | irqPendSet => exact h.execIrqPendSet
  | irqPendClr => exact h.execIrqPendClr
  | fuseBurnDone => exact h.execFuseBurnDone
  | glbResetCold => exact h.execGlbResetCold
  | glbResetMgmt => exact h.execGlbResetMgmt
  | glbResetCore => exact h.execGlbResetCore
  | porzAssert => exact h.execPorzAssert
  | startupStageDone => exact h.execStartupStageDone
  | ethrefLost => exact h.execEthrefLost
  | pcierefLost => exact h.execPcierefLost
  | sysrefLost => exact h.execSysrefLost
  | calCtrlRun => exact h.execCalCtrlRun
  | aonBrownout => exact Dev.meets.execAonBrownout
  | alignmentMarkerLost => exact h.execAlignmentMarkerLost
  | camAckTimeout => exact h.execCamAckTimeout
  | pcieLinkUp => exact h.execPcieLinkUp
  | l1ExitComplete => exact h.execL1ExitComplete
  | resumeComplete => exact h.execResumeComplete
  | pgFall => exact h.execPgFall

end

theorem buffersWf_of_exec {c : Instr} {s t : State} (h : buffersWf s) (ht : exec c s = .next t) : buffersWf t := by
  obtain ⟨e, hs, hnil⟩ := exec_agree c s.dev s.pending []
  obtain rfl : t = ⟨e, s.pending⟩ := Host.Outcome.next.inj (ht.symm.trans hs)
  have hrow : s.dev.viaRow (exec c) = e := by rw [Dev.viaRow, hnil]
  exact buffersWf_iff.mpr (hrow ▸ (buffersWf_iff.mp h).viaRow_exec c)

/-- Settles O6: with no command waiting the timebase alone moves on; of the operations that a command is put together from, a
write to a staging area and the zeroing of a core's SRAM alone touch the buffers, and both keep the canonical form. -/
theorem stepKeepsBuffersCanonical : Obligations.StepKeepsBuffersCanonical := by
  rintro ⟨d, pending⟩ hs t ht
  cases pending with
  | nil =>
    obtain rfl : _ = t := Host.Outcome.next.inj ht
    exact buffersWf_iff.mpr (buffersWf_iff.mp hs).tick
  | cons c q => exact buffersWf_of_exec (s := ⟨d, q⟩) hs ht

end Sys2Proof.Machine
end

section
open Sys2Proof
namespace Sys2Proof.Machine

/-! ### What the partner block keeps while a command runs on

A change of role releases what waits for the partner, a stop and a takeover fold, spoil and send: all that runs on moves, of the
partner block, only the numbers of records and the lists that it serves. -/

/-- The registers that the statements about the pair follow through what runs on. -/
def pairRegs : List Reg := [.ptnStatus, .ptnCtrl, .ptnSurrender, .ptnTakeFire, .ptnSplices, .ptnMseq]

/-- The state of the partner block but for the next MSEQ and the blocks, completions and lines that are served one by one. -/
def PtnState.steady (p : PtnState) : PtnState := { p with txSeq := 0, blocks := [], cqDue := [], noBytes := [] }

/-- The steady state of the partner block stays, and no code that was raised is taken back. -/
structure KeepsPartner (d e : Dev) : Prop where
  ptn : e.ptn.steady = d.ptn.steady
  raised : d.raised ⊆ e.raised

/-- The registers of the pair stay besides. -/
structure KeepsPair (d e : Dev) : Prop extends KeepsPartner d e where
  get : ∀ r ∈ pairRegs, ∀ k, e.get r k = d.get r k

/-- A reach names neither the partner block nor the codes raised nor a register of the pair. -/
def Reach.sparesPair (x : Reach) : Bool :=
  x.apart && !x.areas.contains .ptn && !x.areas.contains .raised && pairRegs.all fun r => !x.regs.contains r

section
variable {d e e' : Dev} {r : Reg}

theorem KeepsPartner.of_same (hptn : e.ptn.steady = d.ptn.steady) (hraised : e.raised = d.raised) : KeepsPartner d e :=
  ⟨hptn, hraised ▸ List.Subset.refl _⟩

theorem KeepsPartner.trans (h : KeepsPartner d e) (g : KeepsPartner e e') : KeepsPartner d e' :=
  ⟨g.ptn.trans h.ptn, fun _ hx => g.raised (h.raised hx)⟩

/-- A steady part of the partner block stays. -/
theorem KeepsPartner.part {α : Type} {f : PtnState → α} (h : KeepsPartner d e) (hf : ∀ p : PtnState, f p.steady = f p) :
    f e.ptn = f d.ptn := by rw [← hf, h.ptn, hf]

theorem KeepsPair.of_same (hptn : e.ptn.steady = d.ptn.steady) (hraised : e.raised = d.raised) (hregs : e.regs = d.regs) :
    KeepsPair d e :=
  ⟨.of_same hptn hraised, fun r _ k => by rw [Dev.get, Dev.get, Dev.rd, Dev.rd, hregs]⟩

theorem KeepsPair.refl (d : Dev) : KeepsPair d d := .of_same rfl rfl rfl

theorem KeepsPair.trans (h : KeepsPair d e) (g : KeepsPair e e') : KeepsPair d e' :=
  ⟨h.toKeepsPartner.trans g.toKeepsPartner, fun r hr k => (g.get r hr k).trans (h.get r hr k)⟩

theorem KeepsPair.ite {c : Prop} [Decidable c] {a b : Dev} (ha : KeepsPair d a) (hb : KeepsPair d b) :
    KeepsPair d (if c then a else b) := by
  split
  · exact ha
  · exact hb

theorem KeepsPair.foldl {α : Type} {f : Dev → α → Dev} {xs : List α} (h : KeepsPair d e)
    (hf : ∀ e x, KeepsPair d e → KeepsPair d (f e x)) : KeepsPair d (xs.foldl f e) := by
  induction xs generalizing e with
  | nil => exact h
  | cons x xs ih => exact ih (hf e x h)

theorem KeepsPair.each {f : Dev → Nat → Dev} {ns : List Nat} (h : KeepsPair d e)
    (hf : ∀ e n, KeepsPair d e → KeepsPair d (f e n)) : KeepsPair d (e.each ns f) := h.foldl hf

/-- What the pair keeps, an operation keeps on whose reach spares it. -/
theorem KeepsPair.reach {x : Reach} (h : KeepsPair d e) (hx : x.sparesPair = true)
    (g : x.within (x.footprint e) e → (x.footprint e).holds e e') : KeepsPair d e' := by
  simp only [Reach.sparesPair, Bool.and_eq_true, Bool.not_eq_true', List.all_eq_true] at hx
  obtain ⟨⟨⟨hapart, hptn⟩, hraised⟩, hregs⟩ := hx
  have hsame : e'.ptn = e.ptn := Dev.area_of_reach (p := .ptn) hapart hptn g
  exact h.trans ⟨.of_same (congrArg _ hsame) (Dev.area_of_reach (p := .raised) hapart hraised g),
    fun r hr k => Dev.get_of_reach hapart (hregs r hr) g k⟩

theorem KeepsPair.fld (h : KeepsPair d e) (hr : r ∈ pairRegs) (k l w : Nat) : e.fld r k l w = d.fld r k l w :=
  congrArg (bits · l w) (h.get r hr k)

theorem KeepsPair.bit (h : KeepsPair d e) (hr : r ∈ pairRegs) (k i : Nat) : e.bit r k i = d.bit r k i :=
  congrArg (· == 1) (h.fld hr k i 1)

theorem KeepsPair.role (h : KeepsPair d e) : e.role = d.role := h.fld (by decide) 0 29 3

/-! ### Registers beside the pair, areas, codes and events -/

theorem KeepsPair.inCmp {v : CmpState} (h : KeepsPair d e) : KeepsPair d { e with cmp := v } := h.trans (.of_same rfl rfl rfl)
theorem KeepsPair.inTen {v : TenState} (h : KeepsPair d e) : KeepsPair d { e with ten := v } := h.trans (.of_same rfl rfl rfl)
theorem KeepsPair.inLnk {v : LinkState} (h : KeepsPair d e) : KeepsPair d { e with lnk := v } := h.trans (.of_same rfl rfl rfl)
theorem KeepsPair.inQl {v : QlState} (h : KeepsPair d e) : KeepsPair d { e with ql := v } := h.trans (.of_same rfl rfl rfl)

theorem KeepsPair.put {k v : Nat} (h : KeepsPair d e) (hr : pairRegs.contains r = false) : KeepsPair d (e.put r k v) :=
  h.trans ⟨⟨rfl, List.Subset.refl _⟩, fun q hq j => e.get_put_reg k j v fun hqr => by simp_all⟩

theorem KeepsPartner.put {k v : Nat} (h : KeepsPartner d e) : KeepsPartner d (e.put r k v) := h.trans (.of_same rfl rfl)
theorem KeepsPartner.count {k : Nat} (h : KeepsPartner d e) : KeepsPartner d (e.count r k) := h.put

theorem KeepsPair.raise {c : ECode} {p : Nat} (h : KeepsPair d e) : KeepsPair d (e.raise c p) :=
  h.trans ⟨⟨rfl, List.subset_append_left _ _⟩, fun _ _ _ => rfl⟩

theorem KeepsPair.event {k i : Nat} (h : KeepsPair d e) (hr : (eventReach r none i).sparesPair = true) :
    KeepsPair d (e.event r k i) :=
  h.reach hr fun hin => (Footprint.holds_refl _ e).event hin .any

/-- A code that was raised is still raised. -/
theorem KeepsPartner.still_raised {c : ECode} {p : Nat} (h : KeepsPartner (d.raise c p) e) : (c, p) ∈ e.raised :=
  h.raised (List.mem_append_right _ List.mem_cons_self)

/-! ### Records sent (R321, R322) -/

theorem KeepsPair.mirrorSend {m : MirrorRec} (h : KeepsPair d e) : KeepsPair d (e.mirrorSend m) := by
  refine .ite (h.trans ?_) h
  have hnext : KeepsPair e { e with ptn := { e.ptn with txSeq := (e.ptn.txSeq + 1) % 2 ^ 32 } } := .of_same rfl rfl rfl
  exact (hnext.reach (x := mirrorBlockReach) rfl (Footprint.holds_refl _ _).mirrorBlock).trans (.of_same rfl rfl rfl)

theorem KeepsPair.mirror {m : MirrorRec} (h : KeepsPair d e) : KeepsPair d (e.mirror m) := .ite h.mirrorSend h

/-! ### The loop log and the cascade (R256, R258) -/

theorem KeepsPair.qlLog {kind port fluid nozzle frame fire : Nat} (h : KeepsPair d e) :
    KeepsPair d (e.qlLog kind port fluid nozzle frame fire) :=
  have hfull := (h.put (r := .qlLogDrop) rfl).event (r := .qlEvent) rfl
  have hstored {a bs} : KeepsPair d (e.dramWrite a bs) := h.trans (.of_same rfl rfl rfl)
  .ite (.ite hfull.inQl.raise hfull) (hstored.put rfl)

theorem KeepsPair.casDrop (h : KeepsPair d e) : KeepsPair d e.casDrop :=
  have hlogged := ((h.put (r := .qlCasDrop) rfl).event (r := .qlEvent) rfl).qlLog
  .ite hlogged.inQl.raise hlogged

theorem KeepsPair.casSend {dest port type : Nat} {body : List Nat} (h : KeepsPair d e) :
    KeepsPair d (e.casSend dest port type body) := by
  have hput {o : Dev} {p : Nat} {words : List Nat} (ho : KeepsPair d o) : KeepsPair d (o.casPut p dest port type words) :=
    ho.reach (x := casPutReach) rfl (Footprint.holds_refl _ o).casPut
  refine .ite h (.ite (.ite h.casDrop (h.each fun _ _ ho => hput ho)) ?_)
  dsimp only
  split
  · exact .ite h.casDrop (hput h)
  · exact h.casDrop

/-! ### Spoils and health commands (R107, R141, R145) -/

theorem KeepsPair.issueSpoil {x : SpoilRec} (h : KeepsPair d e) : KeepsPair d (e.issueSpoil x) := by
  have hposted : KeepsPair d ((e.count .cmpSpoilCount 0).postEvent x.slot 0x10 [x.words]) :=
    (h.put rfl).reach (x := postEventReach none) rfl fun hin => (Footprint.holds_refl _ _).postEvent hin .any
  exact .ite hposted.inCmp.casSend hposted.inCmp

theorem KeepsPair.issueSpoils (h : KeepsPair d e) : KeepsPair d e.issueSpoils :=
  h.inCmp.foldl fun _ _ ho => ho.issueSpoil

theorem KeepsPair.spoil {g : Region} {s ofs n : Nat} {c : SpoilCause} (h : KeepsPair d e) : KeepsPair d (e.spoil g s ofs n c) :=
  h.reach (x := spoilReach) rfl (Footprint.holds_refl _ e).spoil

theorem KeepsPair.noteDead {f : Nat} {m : HealthMask} {line : Int} (h : KeepsPair d e) : KeepsPair d (e.noteDead f m line) :=
  .ite h (KeepsPair.ite (h.raise.foldl fun _ _ ho => ho.qlLog) h.raise).inQl

theorem KeepsPair.noteLost {f : Nat} {m : HealthMask} {low lh : Int} (h : KeepsPair d e) : KeepsPair d (e.noteLost f m low lh) :=
  .ite (.ite (h.qlLog.reach (x := spoilReach) rfl (Footprint.holds_refl _ _).spoilColumns) h.qlLog) h

theorem KeepsPair.healthTell {x : PendHealth} {low : Int} (h : KeepsPair d e) : KeepsPair d (e.healthTell x low) := by
  have hforgot : KeepsPair d ((e.loopForget x.fluid x.mask).noteRestored x.fluid x.mask x.line) := h.inQl (v := _) |>.inQl
  have hlost := (hforgot.noteDead (f := x.fluid) (m := x.mask) (line := x.line)).noteLost (f := x.fluid) (m := x.mask)
    (low := low) (lh := x.line)
  exact .ite hlost.casSend hlost

theorem KeepsPair.healthEnter {x : PendHealth} {low : Int} (h : KeepsPair d e) : KeepsPair d (e.healthEnter x low) :=
  have hnews := h.mirror.reach (x := journalReach) rfl (Footprint.holds_refl _ _).journal
  have hpend := hnews.reach (x := addPendReach) rfl (Footprint.holds_refl _ _).addPend
  (hpend.reach (x := foldAllReach) rfl (Footprint.holds_refl _ _).foldIdle).healthTell

theorem KeepsPair.healthAccept {f : Nat} {m : HealthMask} {line : Option Int} (h : KeepsPair d e) :
    KeepsPair d (e.healthAccept f m line) := by
  obtain ⟨x, low, -, -, -, hx⟩ := e.healthAccept_eq f m line
  exact hx ▸ (h.reach (x := healthResultReach) rfl (Footprint.holds_refl _ e).healthResult).healthEnter

theorem KeepsPair.clearHead {n : Nat} (h : KeepsPair d e) : KeepsPair d (e.clearHead n) := by
  unfold Dev.clearHead
  dsimp only
  split
  · exact h.raise
  · exact h.healthAccept

/-! ### What waits for the partner (R322) -/

theorem KeepsPair.complete {s tag opcode status : Nat} {body : List Nat} (h : KeepsPair d e) :
    KeepsPair d (e.complete s tag opcode status body) :=
  h.mirror.inTen.reach (x := postDoneReach) rfl (Footprint.holds_refl _ _).postDone

theorem KeepsPair.drainDone {s : Nat} (h : KeepsPair d e) : KeepsPair d (e.drainDone s) :=
  have hzeroed := (h.inTen.put (r := .tenState) rfl).inCmp.put (r := .tenDramUsed) rfl |>.put (r := .xptSession) rfl
  .ite hzeroed.inTen.mirror h

theorem KeepsPair.afterRetire (h : KeepsPair d e) : KeepsPair d e.afterRetire :=
  (h.reach (x := sweepRegionsReach) rfl (Footprint.holds_refl _ e).sweepRegions).each fun _ _ ho => ho.drainDone

theorem KeepsPair.setRegion {g : Region} (h : KeepsPair d e) : KeepsPair d (e.setRegion g) := h.inCmp

theorem KeepsPair.ingestFail {j : IngestJob} {c : ECode} {body : List Nat} (h : KeepsPair d e) :
    KeepsPair d (e.ingestFail j c body) := by
  unfold Dev.ingestFail
  dsimp only
  refine (KeepsPair.complete ?_).raise.afterRetire
  split
  · exact h.setRegion
  · exact h

theorem KeepsPair.ingestStore {j : IngestJob} (h : KeepsPair d e) : KeepsPair d (e.ingestStore j) := by
  unfold Dev.ingestStore
  split
  · exact h.ingestFail
  · exact .ite h.ingestFail (.ite h.ingestFail h.setRegion.complete)

theorem KeepsPair.partnerAcked {ok : Nat → Bool} (h : KeepsPair d e) : KeepsPair d (e.partnerAcked ok) :=
  have htaken {v} : KeepsPair d { e with ptn := { e.ptn with blocks := v } } := h.trans (.of_same rfl rfl rfl)
  (htaken.foldl fun _ _ ho => ho.ingestStore).reach (x := releaseWaitsReach) rfl (Footprint.holds_refl _ _).releaseWaits

/-! ### Ports (R197, R198) -/

theorem KeepsPair.linkRestart {n st : Nat} (h : KeepsPair d e) : KeepsPair d (e.linkRestart n st) :=
  h.reach (x := linkRestartReach none) rfl fun hin => (Footprint.holds_refl _ e).linkRestart hin .any

theorem KeepsPair.leavePort {n : Nat} (h : KeepsPair d e) : KeepsPair d (e.leavePort n) :=
  h.reach (x := leavePortReach) rfl (Footprint.holds_refl _ e).leavePort

theorem KeepsPair.go {n : Nat} (h : KeepsPair d e) : KeepsPair d (e.go n) := by
  unfold Dev.go
  split
  · exact (h.put rfl).raise
  · have hcode : KeepsPair d (e.setFld .linkStatus n 5 3 0) := h.put rfl
    exact .ite (hcode.reach (x := sendJoinReach none) rfl fun hin => (Footprint.holds_refl _ _).sendJoin hin .any)
      hcode.inLnk

/-! ### Stops (R68, R69) -/

theorem KeepsPair.noteFiring (h : KeepsPair d e) : KeepsPair d e.noteFiring :=
  have hfallen : KeepsPair d (e.setBit .posStatus 0 0 false) := h.put rfl
  .ite h (.ite (hfallen.issueSpoils.reach (x := foldAllReach) rfl (Footprint.holds_refl _ _).foldAll) h)

theorem KeepsPair.stopReq {u : PinUser} (h : KeepsPair d e) : KeepsPair d (e.stopReq u) :=
  .ite h (h.trans (.of_same rfl rfl rfl))

theorem KeepsPair.stopFiring {cause : Nat} (h : KeepsPair d e) : KeepsPair d (e.stopFiring cause) := by
  have hmark : KeepsPair d (e.stopMark cause) := (h.put (r := .posCtrl) rfl).put (r := .posStatus) rfl
  have hreq := KeepsPair.ite (c := 1 ≤ cause ∧ cause ≤ 4) (hmark.stopReq (u := .pos)) hmark
  have hwithdrawn (f : Nat) := hreq.reach (x := withdrawAllReach) rfl
    (Footprint.holds.withdrawAll (f := f) (Footprint.holds_refl _ _))
  have hfolded (f : Nat) := (hwithdrawn f).reach (x := foldAllReach) rfl (Footprint.holds_refl _ _).foldAll
  exact .ite (hfolded _).noteFiring.mirror hreq

theorem KeepsPair.stopByOther (h : KeepsPair d e) : KeepsPair d e.stopByOther := .ite h.stopFiring h

end
end Sys2Proof.Machine
end

section
open Sys2Proof
namespace Sys2Proof.Machine

/-! ### A role taken (R314, R316, R327)

ROLE and UNFIT.SYNC follow the role, and FIT both; what follows keeps the pair. -/

section
variable (d : Dev) (r : Nat)

/-- A new role goes to the journal, and a standby's decisions go. -/
def Dev.leaveRole : Dev :=
  let d0 := if d.role = r then d else d.journal (.role r)
  if r ≤ 1 then d0 else { d0 with ql := { d0.ql with decisions := [] } }

/-- ROLE, UNFIT.SYNC and FIT of a new role. -/
def Dev.markRole : Dev := (((d.leaveRole r).setFld .ptnStatus 0 29 3 r).setBit .ptnStatus 0 0 (r == 2)).noteFit

theorem Dev.leaveRole_keepsPair : KeepsPair d (d.leaveRole r) :=
  have h := KeepsPair.refl d
  have h0 := KeepsPair.ite (c := d.role = r) h (h.reach (x := journalReach) rfl (Footprint.holds_refl _ d).journal)
  .ite h0 h0.inQl

/-- What follows the marks of a role: the loop's status, and what waited for the partner where it no longer does. -/
theorem Dev.setRole_follows : KeepsPair (d.markRole r) (d.setRole r) :=
  have hloop := (KeepsPair.refl (d.markRole r)).reach (x := noteLoopReach) rfl (Footprint.holds_refl _ _).noteLoop
  .ite hloop hloop.partnerAcked

theorem Dev.setRole_keepsPartner : KeepsPartner d (d.setRole r) :=
  have hmark : KeepsPartner (d.leaveRole r) (d.markRole r) := .of_same rfl rfl
  ((d.leaveRole_keepsPair r).toKeepsPartner.trans hmark).trans (d.setRole_follows r).toKeepsPartner

theorem Dev.role_setRole (hr : r < 8) : (d.setRole r).role = r := by
  rw [(d.setRole_follows r).role]
  simp (disch := omega) only [Dev.role, Dev.markRole, Dev.noteFit, Dev.fld_setBit_other, Dev.fld_setFld_same]
  omega

theorem Dev.fit_noteFit : d.noteFit.bit .ptnStatus 0 28 = (d.role == 3 && d.fld .ptnStatus 0 0 16 == 0) :=
  Dev.bit_setBit_same _ _ _ _ _ (by decide)

/-- Only a standby is FIT. -/
theorem Dev.fit_setRole (hr : r < 8) (hne : r ≠ 3) : (d.setRole r).bit .ptnStatus 0 28 = false := by
  rw [(d.setRole_follows r).bit (by decide), Dev.markRole, Dev.fit_noteFit]
  simp (disch := omega) only [Dev.role, Dev.fld_setBit_other, Dev.fld_setFld_same]
  simp [Nat.mod_eq_of_lt hr, hne]

/-- A role leaves the fields that its reach leaves. -/
theorem Dev.fld_setRole {q : Reg} {l w : Nat} (hq : q ≠ .qlLogBase) (hl : setRoleReach.leaves q l w = true) (k : Nat) :
    (d.setRole r).fld q k l w = d.fld q k l w :=
  Dev.fld_of_reach (x := setRoleReach) rfl hq hl (Footprint.holds_refl _ d).setRole k

theorem Dev.bit_setRole {q : Reg} {l : Nat} (hq : q ≠ .qlLogBase) (hl : setRoleReach.leaves q l 1 = true) (k : Nat) :
    (d.setRole r).bit q k l = d.bit q k l := congrArg (· == 1) (d.fld_setRole r hq hl k)

theorem Dev.get_setRole {q : Reg} (hq : setRoleReach.regs.contains q = false) (k : Nat) : (d.setRole r).get q k = d.get q k :=
  Dev.get_of_reach (x := setRoleReach) rfl hq (Footprint.holds_refl _ d).setRole k

end

/-! ### Fields and bits of one register after another -/

section
variable (d : Dev)

theorem Dev.bit_setBit_other (r : Reg) (k i : Nat) (b : Bool) {j : Nat} (hi : i < 64) (h : j ≠ i) :
    (d.setBit r k i b).bit r k j = d.bit r k j := congrArg (· == 1) (d.fld_setBit_other r k i b j 1 hi (by omega))

theorem Dev.bit_setBit_reg {r q : Reg} (k i : Nat) (b : Bool) (j x : Nat) (h : q ≠ r) :
    (d.setBit r k i b).bit q j x = d.bit q j x := congrArg (· == 1) (d.fld_setFld_reg k j i 1 _ x 1 h)

/-- A field with a bit of 1 is not 0. -/
theorem Dev.fld_ne_zero_of_bit {r : Reg} {k l w i : Nat} (h : d.bit r k (l + i) = true) (hi : i < w) : d.fld r k l w ≠ 0 := by
  intro hzero
  have hone : (d.fld r k l w).testBit i = true := by
    have hbit : (d.fld r k (l + i) 1).testBit 0 = true := by rw [beq_iff_eq.mp h]; rfl
    rw [Dev.fld, testBit_bits] at hbit ⊢
    simpa [hi] using hbit
  rw [hzero, Nat.zero_testBit] at hone
  exact absurd hone (by decide)

/-! ### UNFIT causes (R327, Table 12.6) -/

section
variable (cause : Nat) (b : Bool)

theorem Dev.cause_setUnfit (hc : cause < 28) : (d.setUnfit cause b).bit .ptnStatus 0 cause = b := by
  rw [Dev.setUnfit, Dev.noteFit, Dev.bit_setBit_other _ _ _ _ _ (by decide) (by omega), Dev.bit_setBit_same _ _ _ _ _ (by omega)]

/-- A controller with a cause is not FIT. -/
theorem Dev.fit_setUnfit (hc : cause < 16) : (d.setUnfit cause true).bit .ptnStatus 0 28 = false := by
  have hbit : (d.setBit .ptnStatus 0 cause true).bit .ptnStatus 0 (0 + cause) = true :=
    (Nat.zero_add cause).symm ▸ Dev.bit_setBit_same _ _ _ _ _ (by omega)
  rw [Dev.setUnfit, Dev.fit_noteFit]
  simp [Dev.fld_ne_zero_of_bit _ hbit hc]

theorem Dev.role_setUnfit (hc : cause < 28) : (d.setUnfit cause b).role = d.role := by
  simp (disch := omega) only [Dev.setUnfit, Dev.noteFit, Dev.role, Dev.fld_setBit_other]

theorem Dev.setUnfit_keepsPartner : KeepsPartner d (d.setUnfit cause b) := .of_same rfl rfl

end

/-- An event of the partner block is none of the registers that the pair keeps. -/
theorem Dev.ptnEvent_keepsPair (i : Nat) : KeepsPair d (d.event .ptnEvent 0 i) := (KeepsPair.refl d).event rfl

end
end Sys2Proof.Machine
end

section
open Sys2Proof
namespace Sys2Proof.Machine

/-! ### Presence, heartbeat and silent death (R316 to R319, Table 12.2) -/

theorem Dev.isStandby_of_role {d : Dev} (h : d.role = 3) : d.isStandby = true := by simp [Dev.isStandby, h]

/-- The partner's heartbeat is seen while this controller is ACTIVE (R319). -/
def Dev.noteDual (d : Dev) : Dev := ((d.setBit .ptnStatus 0 25 true).event .ptnEvent 0 5).raise .ptnDual 0

/-- ACT of slates ends at a fire (R314). -/
def Dev.actBelow (d : Dev) (f : Nat) : Dev := { d with ptn := { d.ptn with actUntil := some f } }

section
variable (d : Dev) (b : Bool)

/-- HB_OK is neither the role nor FIT. -/
theorem Dev.role_setHb : (d.setBit .ptnStatus 0 25 b).role = d.role := d.fld_setBit_other _ _ _ _ _ _ (by decide) (by decide)

theorem Dev.fit_setHb : (d.setBit .ptnStatus 0 25 b).bit .ptnStatus 0 28 = d.bit .ptnStatus 0 28 :=
  d.bit_setBit_other _ _ _ _ (by decide) (by decide)

end

section
variable {s : State}

theorem presentChange_activates (hrole : s.dev.role = 0) (hpair : s.dev.bit .ptnCtrl 0 0 = true) :
    Yields (.presentChange true) s ((s.dev.setBit .ptnStatus 0 26 true).setRole 1) := by
  change execPresentChange true s = _
  simp [execPresentChange, hrole, hpair]

theorem heartbeatLost_raises (hs : s.dev.isStandby = true) (htake : s.dev.ptn.takeAt = none) :
    Yields .heartbeatLost s
      ((((s.dev.setBit .ptnStatus 0 25 false).setBit .ptnStatus 0 24 true).event .ptnEvent 0 4).raise .ptnHb 0) := by
  change execHeartbeatLost s = _
  simp [execHeartbeatLost, hs, htake]

theorem heartbeatLost_clears (hs : s.dev.isStandby = false) : Yields .heartbeatLost s (s.dev.setBit .ptnStatus 0 25 false) := by
  change execHeartbeatLost s = _
  simp [execHeartbeatLost, hs]

theorem mirrorSilent_unfits (hs : s.dev.isStandby = true) (hhb : s.dev.bit .ptnStatus 0 24 = false) :
    Yields .mirrorSilent s (s.dev.setUnfit 1 true) := by
  change execMirrorSilent s = _
  simp [execMirrorSilent, hs, hhb]

theorem mirrorSilent_kills (hs : s.dev.isStandby = true) (hhb : s.dev.bit .ptnStatus 0 24 = true) :
    Yields .mirrorSilent s s.dev.silentDeath := by
  change execMirrorSilent s = _
  simp [execMirrorSilent, hs, hhb]

theorem mirrorSilent_ignored (hs : s.dev.isStandby = false) : Yields .mirrorSilent s s.dev := by
  change execMirrorSilent s = _
  simp [execMirrorSilent, hs]

theorem silentDeath_kills : Yields .silentDeath s (s.dev.setBit .ptnStatus 0 25 false).silentDeath := rfl

theorem dualActive_pairId0 (hrole : s.dev.role = 1) (hid : s.dev.noteDual.pairId = 0) : Yields .dualActive s s.dev.noteDual := by
  change execDualActive s = _
  simp only [execDualActive, State.run_eq, hrole, ne_eq, not_true_eq_false, if_false]
  exact congrArg (fun d => Host.Outcome.next { s with dev := d }) (if_pos hid)

theorem dualActive_pairId1 (hrole : s.dev.role = 1) (hid : s.dev.noteDual.pairId ≠ 0) :
    Yields .dualActive s (((s.dev.noteDual.actBelow (s.dev.noteDual.fireIndex + 1)).setUnfit 5 true).setRole 3) := by
  change execDualActive s = _
  simp only [execDualActive, State.run_eq, hrole, ne_eq, not_true_eq_false, if_false]
  exact congrArg (fun d => Host.Outcome.next { s with dev := d }) (if_neg hid)

end

section
variable {d : Dev}

/-- A FIT standby schedules a takeover at silent death. -/
theorem Dev.silentDeath_fit (hrole : d.role = 3) (hfit : d.bit .ptnStatus 0 28 = true) :
    d.silentDeath = { d with ptn := { d.ptn with takeAt := some 0 } } := by
  simp [Dev.silentDeath, Dev.isStandby_of_role hrole, hrole, hfit]

/-- A standby that is not FIT becomes ACTIVE at silent death, to stop firing. -/
def Dev.aloneActive (d : Dev) : Dev := { d with ptn := { d.ptn with actFrom := 0, actUntil := none } }.setRole 1

/-- What it then does to stop. -/
def Dev.standAlone (d : Dev) : Dev := ((d.aloneActive.stopByOther).stopReq .ptn).raise .ptnNoStandby 0

theorem Dev.silentDeath_unfit (hrole : d.role = 3) (hfit : d.bit .ptnStatus 0 28 = false) :
    d.silentDeath = d.standAlone := by
  simp [Dev.silentDeath, Dev.isStandby_of_role hrole, hrole, hfit, Dev.standAlone, Dev.aloneActive]

theorem Dev.mem_stopReq (d : Dev) (u : PinUser) : u ∈ (d.stopReq u).pos.stopReq := by
  unfold Dev.stopReq
  split
  next h => exact h
  next => simp

theorem Dev.role_standAlone (d : Dev) : d.standAlone.role = 1 :=
  have hkept : KeepsPair d.aloneActive d.standAlone := (KeepsPair.refl d.aloneActive).stopByOther.stopReq.raise
  hkept.role.trans (Dev.role_setRole _ 1 (by decide))

theorem Dev.stopReq_standAlone (d : Dev) : PinUser.ptn ∈ d.standAlone.pos.stopReq := by
  rw [Dev.standAlone, Dev.raise_pos]
  exact Dev.mem_stopReq _ .ptn

theorem Dev.raised_standAlone (d : Dev) : (ECode.ptnNoStandby, 0) ∈ d.standAlone.raised :=
  List.mem_append_right (d.aloneActive.stopByOther.stopReq .ptn).raised List.mem_cons_self

theorem heartbeatLost_tells {s : State} (hs : s.dev.isStandby = true) (htake : s.dev.ptn.takeAt = none) :
    Completes .heartbeatLost s fun e => e.bit .ptnStatus 0 25 = false ∧ e.bit .ptnStatus 0 24 = true ∧
      e.bit .ptnEvent 0 4 = true ∧ (ECode.ptnHb, 0) ∈ e.raised ∧ e.role = s.dev.role := by
  have hevent := Dev.ptnEvent_keepsPair ((s.dev.setBit .ptnStatus 0 25 false).setBit .ptnStatus 0 24 true) 4
  refine (heartbeatLost_raises hs htake).completes ⟨?_, ?_, ?_, List.mem_append_right _ List.mem_cons_self, ?_⟩
  · refine (hevent.bit (by decide) 0 25).trans ?_
    rw [Dev.bit_setBit_other _ _ _ _ _ (by decide) (by decide), Dev.bit_setBit_same _ _ _ _ _ (by decide)]
  · exact (hevent.bit (by decide) 0 24).trans (Dev.bit_setBit_same _ _ _ _ _ (by decide))
  · exact Dev.bit_event_same _ _ _ _ (by decide)
  · refine hevent.role.trans ?_
    simp (disch := decide) only [Dev.role, Dev.fld_setBit_other]

theorem silentDeath_schedules {s : State} (hrole : s.dev.role = 3) (hfit : s.dev.bit .ptnStatus 0 28 = true) :
    Completes .silentDeath s fun e => e.ptn.takeAt = some 0 ∧ e.role = 3 ∧ e.bit .ptnStatus 0 25 = false := by
  have hrole' := (s.dev.role_setHb false).trans hrole
  have hhb : (s.dev.setBit .ptnStatus 0 25 false).bit .ptnStatus 0 25 = false := Dev.bit_setBit_same _ _ _ _ _ (by decide)
  refine silentDeath_kills.completes ?_
  rw [Dev.silentDeath_fit hrole' ((s.dev.fit_setHb false).trans hfit)]
  exact ⟨rfl, hrole', hhb⟩

theorem silentDeath_stops {s : State} (hrole : s.dev.role = 3) (hfit : s.dev.bit .ptnStatus 0 28 = false) :
    Completes .silentDeath s fun e => e.role = 1 ∧ PinUser.ptn ∈ e.pos.stopReq ∧ (ECode.ptnNoStandby, 0) ∈ e.raised := by
  refine silentDeath_kills.completes ?_
  rw [Dev.silentDeath_unfit ((s.dev.role_setHb false).trans hrole) ((s.dev.fit_setHb false).trans hfit)]
  exact ⟨Dev.role_standAlone _, Dev.stopReq_standAlone _, Dev.raised_standAlone _⟩

/-! ### Two ACTIVE controllers (R319) -/

theorem Dev.actUntil_setRole (d : Dev) (r : Nat) : (d.setRole r).ptn.actUntil = d.ptn.actUntil :=
  (d.setRole_keepsPartner r).part fun _ => rfl

theorem Dev.noteDual_keepsPair (d : Dev) : KeepsPair (d.setBit .ptnStatus 0 25 true) d.noteDual :=
  ((d.setBit .ptnStatus 0 25 true).ptnEvent_keepsPair 5).raise

theorem Dev.bit_noteDual (d : Dev) : d.noteDual.bit .ptnEvent 0 5 = true := Dev.bit_event_same _ _ _ _ (by decide)

theorem Dev.raised_noteDual (d : Dev) : (ECode.ptnDual, 0) ∈ d.noteDual.raised :=
  List.mem_append_right ((d.setBit .ptnStatus 0 25 true).event .ptnEvent 0 5).raised List.mem_cons_self

theorem Dev.fireIndex_noteDual (d : Dev) : d.noteDual.fireIndex = d.fireIndex :=
  (Dev.get_of_reach (x := eventReach .ptnEvent none 5) rfl rfl (fun h => (Footprint.holds_refl _ _).event h .any) 0).trans
    (d.get_put_reg _ _ _ (by decide))

theorem Dev.pairId_noteDual (d : Dev) : d.noteDual.pairId = d.pairId :=
  (d.noteDual_keepsPair.fld (by decide) 0 27 1).trans (d.fld_setBit_other _ _ _ _ _ _ (by decide) (by decide))

theorem Dev.role_noteDual (d : Dev) : d.noteDual.role = d.role :=
  d.noteDual_keepsPair.role.trans (d.role_setHb true)

theorem dualActive_demotes {s : State} (hrole : s.dev.role = 1) :
    Completes .dualActive s fun e =>
      (ECode.ptnDual, 0) ∈ e.raised ∧ e.bit .ptnEvent 0 5 = true ∧ e.role = (if s.dev.pairId = 0 then 1 else 3) ∧
      (s.dev.pairId ≠ 0 → e.ptn.actUntil = some (s.dev.fireIndex + 1) ∧ e.bit .ptnStatus 0 5 = true) := by
  by_cases hid : s.dev.pairId = 0
  · refine (dualActive_pairId0 hrole (s.dev.pairId_noteDual.trans hid)).completes ?_
    rw [if_pos hid]
    exact ⟨s.dev.raised_noteDual, s.dev.bit_noteDual, s.dev.role_noteDual.trans hrole, fun h => absurd hid h⟩
  · refine (dualActive_pairId1 hrole (s.dev.pairId_noteDual.symm ▸ hid)).completes ?_
    rw [if_neg hid, s.dev.fireIndex_noteDual, Dev.actUntil_setRole, Dev.bit_setRole _ _ (by decide) rfl,
      Dev.bit_setRole _ _ (by decide) rfl, Dev.cause_setUnfit _ _ _ (by decide)]
    refine ⟨(Dev.setRole_keepsPartner _ 3).raised s.dev.raised_noteDual, ?_, Dev.role_setRole _ 3 (by decide),
      fun _ => ⟨rfl, rfl⟩⟩
    rw [Dev.setUnfit, Dev.noteFit, Dev.bit_setBit_reg _ _ _ _ _ _ (by decide), Dev.bit_setBit_reg _ _ _ _ _ _ (by decide)]
    exact s.dev.bit_noteDual

end
end Sys2Proof.Machine
end

section
open Sys2Proof
namespace Sys2Proof.Machine

/-! ### Back to SYNC (R316, R321) -/

section
variable {s : State}

theorem resync_resyncs (hs : s.dev.isStandby = true) : Yields .resync s s.dev.resync := by
  change execResync s = _
  simp [execResync, hs]

theorem resync_ignored (hs : s.dev.isStandby = false) : Yields .resync s s.dev := by
  change execResync s = _
  simp [execResync, hs]

theorem mirrorGap_resyncs (hs : s.dev.isStandby = true) :
    Yields .mirrorGap s (((s.dev.event .ptnEvent 0 1).raise .ptnMirror 0).setUnfit 1 true).resync := by
  change execMirrorGap s = _
  simp [execMirrorGap, hs]

theorem mirrorGap_accepted (hs : s.dev.isStandby = false) :
    Yields .mirrorGap s { s.dev with ptn := { s.dev.ptn with fresh := true } } := by
  change execMirrorGap s = _
  simp [execMirrorGap, hs]

end

section
variable (d : Dev)

theorem Dev.role_resync : d.resync.role = 2 := Dev.role_setRole _ 2 (by decide)

theorem Dev.fit_resync : d.resync.bit .ptnStatus 0 28 = false := Dev.fit_setRole _ 2 (by decide) (by decide)

theorem Dev.resync_keepsPartner : KeepsPartner { d with ptn := { d.ptn with snapshotDue := true } } d.resync := by
  rw [Dev.resync]
  exact Dev.setRole_keepsPartner _ 2

theorem Dev.snapshotDue_resync : d.resync.ptn.snapshotDue = true :=
  d.resync_keepsPartner.part (f := PtnState.snapshotDue) fun _ => rfl

theorem Dev.raised_resync : d.raised ⊆ d.resync.raised := d.resync_keepsPartner.raised

theorem Dev.raised_gap :
    (ECode.ptnMirror, 0) ∈ ((((d.event .ptnEvent 0 1).raise .ptnMirror 0).setUnfit 1 true).resync).raised :=
  Dev.raised_resync _ (List.mem_append_right (d.event .ptnEvent 0 1).raised List.mem_cons_self)

end

/-! ### Links of the mirror port (R320) -/

section
variable (d : Dev)

theorem Dev.capped_foldl {α : Type} {f : Dev → α → Dev} (hf : ∀ e x, (f e x).lne.capped = e.lne.capped) (xs : List α) :
    (xs.foldl f d).lne.capped = d.lne.capped := by
  induction xs generalizing d with
  | nil => rfl
  | cons x xs ih => exact (ih (f d x)).trans (hf d x)

theorem Dev.lne_setLaneSt (l st : Nat) : (d.setLaneSt l st).lne = d.lne :=
  Dev.area_of_reach (p := .lne) (x := setLaneStReach none) rfl rfl fun h => (Footprint.holds_refl _ d).setLaneSt h .any

theorem Dev.lne_unmark (l : Nat) : (d.unmark l).lne = d.lne :=
  Dev.area_of_reach (p := .lne) (x := unmarkReach none) rfl rfl fun h => (Footprint.holds_refl _ d).unmark h .any

theorem Dev.lne_laneDeep (l : Nat) : (d.laneDeep l).lne = d.lne :=
  Dev.area_of_reach (p := .lne) (x := laneDeepReach) rfl rfl (Footprint.holds_refl _ d).laneDeep

theorem Dev.capped_setGood (l : Nat) (b : Bool) : (d.setGood l b).lne.capped = d.lne.capped := by
  unfold Dev.setGood
  dsimp only
  split <;> rfl

theorem Dev.capped_lanesDown (g : LaneGroup) : (d.lanesDown g).lne.capped = d.lne.capped := by
  refine (Dev.capped_foldl _ (fun e l => by rw [e.lne_unmark]) _).trans (Dev.capped_foldl _ (fun e l => ?_) _)
  rw [Dev.capped_setGood, Dev.lne_laneDeep]

theorem Dev.capped_trainLanes (ls : List Nat) (kbps : Nat) : (d.trainLanes ls kbps).lne.capped = d.lne.capped :=
  Dev.capped_foldl d (fun e l => by rw [Dev.put_lne, Dev.setBit_lne, Dev.lne_setLaneSt]; rfl) _

theorem Dev.mem_capped_capLink (k : Nat) : k ∈ (d.capLink k).lne.capped := by
  rw [Dev.capLink, Dev.capped_trainLanes]
  exact List.mem_append_right _ List.mem_cons_self

theorem Dev.pairId_capLink (k : Nat) : (d.capLink k).pairId = d.pairId :=
  Dev.fld_of_reach (x := capLinkReach) rfl (by decide) rfl (Footprint.holds_refl _ d).capLink 0

theorem Dev.not_mem_capped_uncap (k : Nat) (g : LaneGroup) : k ∉ ((d.uncap k).lanesDown g).lne.capped := by
  rw [Dev.capped_lanesDown]
  simp [Dev.uncap]

theorem Dev.ptnStatus_uncap (k : Nat) (g : LaneGroup) (i : Nat) :
    ((d.uncap k).lanesDown g).bit .ptnStatus 0 i = d.bit .ptnStatus 0 i :=
  KeepsPair.bit ((KeepsPair.of_same rfl rfl rfl : KeepsPair d (d.uncap k)).reach (x := lanesDownReach) rfl
    (Footprint.holds_refl _ _).lanesDown) (by decide) 0 i

end

section
variable {s : State} {link : Fin 8}

theorem pcap_caps (pairId : Bool) (hcap : link.val ∉ s.dev.lne.capped) :
    Yields (.pcap link pairId) s ((s.dev.capLink link.val).sendPcap link.val) := by
  change execPcap link pairId s = _
  simp [execPcap, hcap]

theorem mirrorLinkRetry_restarts (hlive : s.dev.bit .ptnStatus 0 (16 + link.val) = false) :
    Yields (.mirrorLinkRetry link) s ((s.dev.uncap link.val).lanesDown (.mirror link.val)) := by
  change execMirrorLinkRetry link s = _
  simp [execMirrorLinkRetry, hlive]

theorem pcap_answers (pairId : Bool) (hcap : link.val ∉ s.dev.lne.capped) :
    Completes (.pcap link pairId) s fun e =>
      link.val ∈ e.lne.capped ∧ Out.mirror 0 (.pcap link.val s.dev.pairId) ∈ e.outs := by
  refine (pcap_caps pairId hcap).completes ⟨s.dev.mem_capped_capLink link.val, ?_⟩
  rw [← s.dev.pairId_capLink link.val]
  exact List.mem_append_right _ List.mem_cons_self

/-! ### The daily (R328) -/

theorem Dev.mirrorBlock_keeps (d : Dev) (r : MirrorRec) : (d.mirrorBlock r).ptn = d.ptn ∧ (d.mirrorBlock r).outs = d.outs :=
  ⟨Dev.area_of_reach (p := .ptn) (x := mirrorBlockReach) rfl rfl (Footprint.holds_refl _ d).mirrorBlock,
    Dev.area_of_reach (p := .outs) (x := mirrorBlockReach) rfl rfl (Footprint.holds_refl _ d).mirrorBlock⟩

/-- A record leaves over a live link with the next MSEQ. -/
theorem Dev.mirrorSend_live {d : Dev} (r : MirrorRec) (hlive : d.mirrorLive = true) (htime : d.sys.noTime = false) :
    (d.mirrorSend r).outs = d.outs ++ [.mirror d.ptn.txSeq r] ∧
      (d.mirrorSend r).ptn = { d.ptn with txSeq := (d.ptn.txSeq + 1) % 2 ^ 32 } := by
  obtain ⟨hptn, houts⟩ := Dev.mirrorBlock_keeps { d with ptn := { d.ptn with txSeq := (d.ptn.txSeq + 1) % 2 ^ 32 } } r
  rw [Dev.mirrorSend, if_pos (by simp [hlive, htime])]
  exact ⟨congrArg (· ++ [Out.mirror d.ptn.txSeq r]) houts, hptn⟩

theorem dailySend_sends (hlive : s.dev.mirrorLive = true) (htime : s.dev.sys.noTime = false) :
    Completes .dailySend s fun e =>
      e.ptn.sentDaily = some s.dev.dailyWords ∧ e.outs = s.dev.outs ++ [.mirror s.dev.ptn.txSeq (.daily s.dev.dailyWords)] ∧
      e.ptn.txSeq = (s.dev.ptn.txSeq + 1) % 2 ^ 32 := by
  obtain ⟨houts, hptn⟩ := Dev.mirrorSend_live (d := { s.dev with ptn := { s.dev.ptn with sentDaily := some s.dev.dailyWords } })
    (.daily s.dev.dailyWords) hlive htime
  refine completes_of_run (f := Dev.sendDaily) rfl ?_
  exact ⟨congrArg PtnState.sentDaily hptn, houts, congrArg PtnState.txSeq hptn⟩

end
end Sys2Proof.Machine
end

section
open Sys2Proof
namespace Sys2Proof.Machine

/-! ### Surrender (R329, Table 12.7) -/

section
variable (d : Dev) (cause : Nat)

/-- The partner is told of a surrender, and ACT and the slates end at F_s. -/
def Dev.announceSurrender (fs : Nat) : Dev :=
  let d1 := (d.mirrorSend (.surrender fs cause)).setFld .ptnSurrender 0 24 8 cause
  { d1 with ptn := { d1.ptn with actUntil := some fs, withdrawAt := some fs } }

/-- Codes that were raised stay raised at a surrender. -/
theorem Dev.raised_surrender : d.raised ⊆ (d.surrender cause).raised := by
  have htold (fs : Nat) : d.raised ⊆ (d.announceSurrender cause fs).raised :=
    ((KeepsPair.refl d).mirrorSend (m := .surrender fs cause)).raised
  have hrole (d' : Dev) (r : Nat) : d'.raised ⊆ (d'.setRole r).raised := (d'.setRole_keepsPartner r).raised
  unfold Dev.surrender
  dsimp only
  split
  · exact fun _ hx => hrole _ _ (htold _ hx)
  · exact fun _ hx => hrole _ _ (htold _ hx)

/-- A surrender to the standby: cause 6, three fires ahead. -/
theorem Dev.surrender_to_standby :
    d.surrender 6 = ((d.announceSurrender 6 (d.fireIndex + 3)).setUnfit 4 true).setRole 3 := by
  simp [Dev.surrender, Dev.announceSurrender]

theorem Dev.role_surrender : (d.surrender 6).role = 3 := by
  rw [Dev.surrender_to_standby, Dev.role_setRole _ 3 (by decide)]

theorem Dev.cause_surrender : (d.surrender 6).fld .ptnSurrender 0 24 8 = 6 := by
  rw [Dev.surrender_to_standby, Dev.fld_setRole _ _ (by decide) rfl, Dev.setUnfit, Dev.noteFit, Dev.setBit, Dev.setBit,
    Dev.fld_setFld_reg _ _ _ _ _ _ _ _ (by decide), Dev.fld_setFld_reg _ _ _ _ _ _ _ _ (by decide)]
  exact Dev.fld_setFld_same (d.mirrorSend (.surrender (d.fireIndex + 3) 6)) .ptnSurrender 0 24 8 6 (by decide)

theorem Dev.ptn_surrender : (d.surrender 6).ptn.actUntil = some (d.fireIndex + 3) ∧
    (d.surrender 6).ptn.withdrawAt = some (d.fireIndex + 3) := by
  have hkept := Dev.setRole_keepsPartner ((d.announceSurrender 6 (d.fireIndex + 3)).setUnfit 4 true) 3
  rw [Dev.surrender_to_standby]
  exact ⟨hkept.part fun _ => rfl, hkept.part fun _ => rfl⟩

theorem Dev.unfit_surrender : (d.surrender 6).bit .ptnStatus 0 4 = true := by
  rw [Dev.surrender_to_standby, Dev.bit_setRole _ _ (by decide) rfl]
  exact Dev.cause_setUnfit _ 4 true (by decide)

theorem Dev.fireEn_surrender : (d.surrender 6).fireEn = d.fireEn :=
  Dev.bit_of_reach (x := surrenderReach) rfl (by decide) rfl (Footprint.holds_refl _ d).surrender 0

/-- While firing is enabled a surrender waits for F_s. -/
theorem Dev.surrenderNow_enabled {d : Dev} (hen : d.fireEn = true) : d.surrenderNow 6 = d.surrender 6 := by
  have hen' : (d.surrender 6).fireEn = true := d.fireEn_surrender.trans hen
  rw [Dev.surrenderNow, d.ptn_surrender.2]
  exact if_pos hen'

end

section
variable {s : State}

theorem ptnSurrender_surrenders (hcan : s.dev.canSurrender = true) : Yields .ptnSurrender s (s.dev.surrenderNow 6) := by
  change execPtnSurrender s = _
  simp [execPtnSurrender, hcan]

theorem ptnSurrender_ignored (hcan : s.dev.canSurrender = false) : Yields .ptnSurrender s s.dev := by
  change execPtnSurrender s = _
  simp [execPtnSurrender, hcan]

theorem ptnSurrender_demotes (hcan : s.dev.canSurrender = true) (hen : s.dev.fireEn = true) :
    Completes .ptnSurrender s fun e =>
      e.role = 3 ∧ e.fld .ptnSurrender 0 24 8 = 6 ∧ e.ptn.actUntil = some (s.dev.fireIndex + 3) ∧
      e.bit .ptnStatus 0 4 = true := by
  refine (ptnSurrender_surrenders hcan).completes ?_
  rw [Dev.surrenderNow_enabled hen]
  exact ⟨s.dev.role_surrender, s.dev.cause_surrender, s.dev.ptn_surrender.1, s.dev.unfit_surrender⟩

end

/-! ### Verdicts of re-runs (R326) -/

section
variable {d e : Dev}

theorem KeepsPair.engineOut {n cause : Nat} (h : KeepsPair d e) : KeepsPair d (e.engineOut n cause) :=
  h.reach (x := engineOutReach none) rfl fun hin => (Footprint.holds_refl _ e).engineOut hin .any

theorem Dev.raised_noSpare (d : Dev) (n : Nat) : d.raised ⊆ (d.noSpare n).raised := by
  have hd1 : KeepsPair d ((d.event .embGlbEvent 0 2).raise .embNoSpare n) := ((KeepsPair.refl d).event rfl).raise
  have hd2 := (hd1.reach (x := noEngineReach none) rfl fun hin => (Footprint.holds_refl _ _).noEngine (n := n) hin .any).reach
    (x := maskFaultReach) rfl (Footprint.holds.maskFault (n := n) (Footprint.holds_refl _ _))
  unfold Dev.noSpare
  dsimp only
  split
  · exact fun _ hx => Dev.raised_surrender _ _ (hd1.raised hx)
  · refine (KeepsPair.clearHead (.ite ?_ hd2)).raised
    exact hd2.reach (x := setLinkReach none) rfl fun hin => (Footprint.holds_refl _ _).setLink hin .any

/-- Codes that were raised stay raised when an engine fails. -/
theorem Dev.raised_engineFail (d : Dev) (n cause : Nat) : d.raised ⊆ (d.engineFail n cause).raised := by
  have hd1 : KeepsPair d (((d.engineOut n cause).event .embGlbEvent 0 0).raise .embFault n) :=
    ((KeepsPair.refl d).engineOut.event rfl).raise
  unfold Dev.engineFail
  dsimp only
  split
  · exact List.Subset.refl _
  · split
    · exact hd1.raised
    · split
      · exact (hd1.reach (x := substituteReach) rfl (Footprint.holds_refl _ _).substitute).raised
      · have hrun (m : Nat) := hd1.reach (x := discardRunReach) rfl
          (Footprint.holds.discardRun (n := m) (Footprint.holds_refl _ _))
        exact fun _ hx => Dev.raised_noSpare _ _ ((hrun _).raised hx)

/-- A re-run is taken off the list, and its engine becomes a spare again. -/
def Dev.endRerun (d : Dev) (x : Nat × Nat × Option Nat × Nat) : Dev :=
  let d1 := { d with ptn := { d.ptn with rerun := d.ptn.rerun.erase x } }
  match x.2.2.1 with
  | some e => if d1.bit .embStatus e 31 then d1 else (d1.setBit .embStatus e 30 true).noteSpares
  | none => d1

/-- The verdict is told: another re-run may take the engine, the code is raised and the partner informed. -/
def Dev.tellVerdict (d : Dev) (n f outcome : Nat) : Dev :=
  ((d.rerunNext).raise .ptnMismatch n).mirrorSend (.verdict n f outcome)

/-- Who is at fault: this controller's engine (0), the active controller's (1), or this controller (2). -/
def Dev.actOnVerdict (d : Dev) (n outcome : Nat) : Dev :=
  if outcome = 0 then
    match d.engineOf n with
    | some e => d.engineFail e 5
    | none => d
  else if outcome = 2 then d.setUnfit 3 true
  else d

theorem Dev.rerun_endRerun {x : Nat × Nat × Option Nat × Nat} : (d.endRerun x).ptn.rerun = d.ptn.rerun.erase x := by
  unfold Dev.endRerun
  dsimp only
  split
  · split <;> rfl
  · rfl

theorem Dev.length_rerunNext : d.rerunNext.ptn.rerun.length = d.ptn.rerun.length := by
  unfold Dev.rerunNext
  split
  · exact List.length_map _
  · rfl

theorem Dev.length_tellVerdict (n f outcome : Nat) : (d.tellVerdict n f outcome).ptn.rerun.length = d.ptn.rerun.length := by
  have hkept : KeepsPair d.rerunNext (d.tellVerdict n f outcome) := (KeepsPair.refl _).raise.mirrorSend
  have hsame : (d.tellVerdict n f outcome).ptn.steady.rerun = d.rerunNext.ptn.steady.rerun := congrArg PtnState.rerun hkept.ptn
  exact (congrArg List.length hsame).trans d.length_rerunNext

theorem Dev.raised_tellVerdict (n f outcome : Nat) : (ECode.ptnMismatch, n) ∈ (d.tellVerdict n f outcome).raised :=
  ((KeepsPair.refl (d.rerunNext.raise .ptnMismatch n)).mirrorSend).still_raised

theorem Dev.raised_actOnVerdict (n outcome : Nat) : d.raised ⊆ (d.actOnVerdict n outcome).raised := by
  unfold Dev.actOnVerdict
  split
  · split
    · exact d.raised_engineFail _ _
    · exact List.Subset.refl _
  · split <;> exact List.Subset.refl _

theorem Dev.rerun_actOnVerdict {n outcome : Nat} (h : outcome ≠ 0) : (d.actOnVerdict n outcome).ptn.rerun = d.ptn.rerun := by
  rw [Dev.actOnVerdict, if_neg h]
  split <;> rfl

variable {s : State}

theorem verdictReady_acts {outcome : Fin 3} {x : Nat × Nat × Option Nat × Nat}
    (hx : s.dev.ptn.rerun.find? (fun x => x.2.2.1.isSome) = some x) :
    Yields (.verdictReady outcome) s
      (((s.dev.endRerun x).tellVerdict x.1 x.2.1 outcome.val).actOnVerdict x.1 outcome.val) := by
  change execVerdictReady outcome s = _
  simp only [execVerdictReady, State.run_eq, hx]
  rfl

theorem verdictReady_judges (outcome : Fin 3) (x : Nat × Nat × Option Nat × Nat)
    (hx : s.dev.ptn.rerun.find? (fun x => x.2.2.1.isSome) = some x) :
    Completes (.verdictReady outcome) s fun e =>
      (ECode.ptnMismatch, x.1) ∈ e.raised ∧
      (outcome.val ≠ 0 → e.ptn.rerun.length + 1 = s.dev.ptn.rerun.length) ∧
      (outcome.val = 2 → e.bit .ptnStatus 0 3 = true) := by
  have htold := Dev.raised_actOnVerdict x.1 outcome.val ((s.dev.endRerun x).raised_tellVerdict x.1 x.2.1 outcome.val)
  refine (verdictReady_acts hx).completes ⟨htold, fun hne => ?_, fun htwo => ?_⟩
  · have hmem := List.mem_of_find?_eq_some hx
    have hpos := List.length_pos_of_mem hmem
    rw [Dev.rerun_actOnVerdict hne, Dev.length_tellVerdict, Dev.rerun_endRerun, List.length_erase_of_mem hmem]
    omega
  · rw [Dev.actOnVerdict, htwo]
    exact Dev.cause_setUnfit _ 3 true (by decide)

end
end Sys2Proof.Machine
end

section
open Sys2Proof
namespace Sys2Proof.Machine

/-! ### Takeover (R330) -/

section
variable {d e : Dev}

theorem KeepsPair.spoilSplice (h : KeepsPair d e) : KeepsPair d e.spoilSplice := by
  have hserved {o : Dev} {v} (ho : KeepsPair d o) : KeepsPair d { o with ptn := { o.ptn with noBytes := v } } :=
    ho.trans (.of_same rfl rfl rfl)
  refine hserved (h.foldl fun o x ho => ?_)
  split
  · exact ho.spoil
  · exact ho

theorem KeepsPair.send {x : Out} (h : KeepsPair d e) : KeepsPair d (e.send x) := h.trans (.of_same rfl rfl rfl)

theorem KeepsPair.restoreContexts {ft : Nat} (h : KeepsPair d e) : KeepsPair d (e.restoreContexts ft) := by
  have hserved {o : Dev} {v} (ho : KeepsPair d o) : KeepsPair d { o with ptn := { o.ptn with cqDue := v } } :=
    ho.trans (.of_same rfl rfl rfl)
  refine KeepsPair.each (hserved (h.foldl fun _ _ ho => .ite (ho.put rfl).send (ho.put rfl).inTen)) fun o n ho => ?_
  exact (ho.reach (x := ctxEventReach none) rfl fun hin => (Footprint.holds_refl _ o).ctxEvent hin .any).reach
    (x := stopRingsReach none) rfl fun hin => (Footprint.holds_refl _ _).stopRings hin .any

theorem KeepsPair.takeAxes (h : KeepsPair d e) : KeepsPair d e.takeAxes :=
  h.each fun o n ho => by
    split
    · refine .ite ?_ ?_
      · exact ho.reach (x := axisStopReach none) rfl fun hin => (Footprint.holds_refl _ o).axisStop hin .any
      · exact ho.reach (x := setAxisReach none) rfl fun hin => (Footprint.holds_refl _ o).setAxis hin .any
    · exact ho

end

section
variable (d : Dev) (ft : Nat)

/-- Nothing is scheduled any more, and ACT is 1 from F_t on. -/
def Dev.actFrom (d : Dev) (ft : Nat) : Dev :=
  { d with ptn := { d.ptn with actFrom := ft, actUntil := none, withdrawAt := none, takeAt := none } }

/-- The standby is ACTIVE from F_t on, and the takeover is counted. -/
def Dev.becomeActive : Dev := (((d.actFrom ft).setRole 1).put .ptnTakeFire 0 (ft % 2 ^ 48)).count .ptnSplices 0

/-- What follows: slates ask for a sync, absent heads clear, lines are spoiled, contexts are restored, axes are taken. -/
theorem Dev.takeover_follows : KeepsPair (d.becomeActive ft) (d.takeover ft) := by
  have hsync := (KeepsPair.refl (d.becomeActive ft)).each (ns := (d.becomeActive ft).portsIn [5])
    (f := fun d n => d.setPort n { d.port n with sync := true }) fun _ _ ho => ho.inLnk
  have hclear (ns : List Nat) := hsync.each (ns := ns) (f := Dev.clearHead) fun _ _ ho => ho.clearHead
  exact ((hclear _).spoilSplice.restoreContexts.takeAxes.event (r := .ptnEvent) (k := 0) rfl).raise

theorem Dev.role_takeover : (d.takeover ft).role = 1 := by
  rw [(d.takeover_follows ft).role]
  refine Eq.trans ?_ (Dev.role_setRole (d.actFrom ft) 1 (by decide))
  simp (disch := decide) only [Dev.role, Dev.becomeActive, Dev.fld, Dev.count, Dev.add32, Dev.get_put_reg]

theorem Dev.takeFire_takeover (hft : ft < 2 ^ 48) : (d.takeover ft).get .ptnTakeFire 0 = ft := by
  rw [(d.takeover_follows ft).get _ (by decide)]
  simp (disch := decide) only [Dev.becomeActive, Dev.count, Dev.add32, Dev.get_put_reg, Dev.get_put_same]
  omega

theorem Dev.splices_takeover : (d.takeover ft).get .ptnSplices 0 = min (d.get .ptnSplices 0 + 1) (2 ^ 32 - 1) := by
  rw [(d.takeover_follows ft).get _ (by decide), Dev.becomeActive, Dev.get_count_same, Dev.get_put_reg _ _ _ _ (by decide),
    Dev.get_setRole _ _ rfl]
  rfl

theorem Dev.ptn_takeover : (d.takeover ft).ptn.takeAt = none ∧ (d.takeover ft).ptn.actFrom = ft := by
  have hactive : KeepsPartner (d.actFrom ft) (d.becomeActive ft) := (Dev.setRole_keepsPartner (d.actFrom ft) 1).put.count
  have hkept := hactive.trans (d.takeover_follows ft).toKeepsPartner
  exact ⟨hkept.part fun _ => rfl, hkept.part fun _ => rfl⟩

theorem Dev.raised_takeover : (ECode.ptnSplice, 0) ∈ (d.takeover ft).raised := by
  rw [Dev.takeover]
  exact List.mem_append_right _ List.mem_cons_self

variable {s : State}

theorem takeover_at {fs : Nat} (htake : s.dev.ptn.takeAt = some fs) :
    Yields .takeover s (s.dev.takeover (max fs (s.dev.fireIndex + 1))) := by
  change execTakeover s = _
  simp only [execTakeover, State.run_eq, htake]

theorem takeover_ignored (htake : s.dev.ptn.takeAt = none) : Yields .takeover s s.dev := by
  change execTakeover s = _
  simp only [execTakeover, State.run_eq, htake]

end

/-! ### Removal and PAIR_EN (R333, Table 12.11) -/

section
variable (d : Dev)

/-- Every port is down, REMOVE_OK_N is asserted, and ACT is 0. -/
def Dev.linksOff : Dev :=
  let d1 := d.each (List.range 192) fun d n => if d.linkState n = 0 then d else d.linkRestart n 0
  { d1 with ptn := { d1.ptn with removeOk := true, actUntil := some 0 } }

theorem Dev.goOff_eq : d.goOff = d.linksOff.setRole 5 := rfl

theorem Dev.role_goOff : d.goOff.role = 5 := by
  rw [Dev.goOff_eq, Dev.role_setRole _ 5 (by decide)]

theorem Dev.goOff_keepsPartner :
    KeepsPartner { d with ptn := { d.ptn with removeOk := true, actUntil := some 0 } } d.goOff := by
  have hdown := (KeepsPair.refl d).each (ns := List.range 192)
    (f := fun d n => if d.linkState n = 0 then d else d.linkRestart n 0) fun _ _ ho => .ite ho ho.linkRestart
  have hoff : KeepsPartner { d with ptn := { d.ptn with removeOk := true, actUntil := some 0 } } d.linksOff :=
    ⟨congrArg (fun p : PtnState => { p with removeOk := true, actUntil := some 0 }) hdown.ptn, hdown.raised⟩
  rw [Dev.goOff_eq]
  exact hoff.trans (Dev.setRole_keepsPartner _ 5)

theorem Dev.ptn_goOff :
    d.goOff.ptn.removeOk = true ∧ d.goOff.ptn.removeReq = d.ptn.removeReq ∧ d.goOff.ptn.refused = d.ptn.refused :=
  ⟨d.goOff_keepsPartner.part fun _ => rfl, d.goOff_keepsPartner.part fun _ => rfl, d.goOff_keepsPartner.part fun _ => rfl⟩

/-- REMOVE_REQ_N as it stands (R333). -/
def Dev.noteRequest (assert : Bool) : Dev :=
  { d with ptn := { d.ptn with removeReq := assert, refused := d.ptn.refused && assert } }

/-- A removal that cannot go. -/
def Dev.refuseRemoval : Dev :=
  ({ d with ptn := { d.ptn with refused := true } }.event .ptnEvent 0 6).raise .ptnRemoveRefused 0

/-- Every head is told to leave. -/
def Dev.leavePorts : Dev := d.each (List.range 192) Dev.leavePort

/-- Firing stops for a removal that is forced, and nothing is refused any more. -/
def Dev.stopForced : Dev :=
  let d1 := if d.fireEn then d.stopFiring 0 else d
  { d1 with ptn := { d1.ptn with refused := false } }

/-- Nothing of a pair is scheduled. -/
def Dev.unpair : Dev :=
  { d with ptn := { d.ptn with actFrom := 0, actUntil := none, withdrawAt := none, takeAt := none } }

theorem Dev.removeReq_leavePorts : d.leavePorts.ptn.removeReq = d.ptn.removeReq :=
  ((KeepsPair.refl d).each fun _ _ ho => ho.leavePort).part fun _ => rfl

theorem Dev.refuseRemoval_keepsPair : KeepsPair { d with ptn := { d.ptn with refused := true } } d.refuseRemoval :=
  (Dev.ptnEvent_keepsPair _ 6).raise

end

section
variable {s : State}

theorem removeRequest_goesOff (hs : s.dev.isStandby = true) :
    Yields (.removeRequest true) s (s.dev.noteRequest true).leavePorts.goOff := by
  have hrole : ¬ 4 ≤ s.dev.role := by
    simp only [Dev.isStandby, Bool.or_eq_true, beq_iff_eq] at hs
    omega
  change execRemoveRequest true s = _
  simp only [execRemoveRequest, State.run_eq]
  refine congrArg (fun d => Host.Outcome.next { s with dev := d }) ((if_neg ?_).trans (if_pos hs))
  exact not_or.mpr ⟨by decide, hrole⟩

theorem removeRequest_refused (hrole : s.dev.role = 1) (hfit : s.dev.partnerFit = false) :
    Yields (.removeRequest true) s (s.dev.noteRequest true).refuseRemoval := by
  have hcan : ¬ s.dev.canSurrender = true := by simp [Dev.canSurrender, hfit]
  have hs : ¬ s.dev.isStandby = true := by simp [Dev.isStandby, hrole]
  change execRemoveRequest true s = _
  simp only [execRemoveRequest, State.run_eq]
  refine congrArg (fun d => Host.Outcome.next { s with dev := d }) ((if_neg ?_).trans ((if_neg hs).trans (if_neg hcan)))
  exact not_or.mpr ⟨by decide, fun h => absurd (hrole ▸ h : 4 ≤ 1) (by decide)⟩

theorem forceRemove_goesOff (href : s.dev.ptn.refused = true) : Yields .forceRemove s s.dev.stopForced.goOff := by
  change execForceRemove s = _
  simp only [execForceRemove, State.run_eq, href, if_true]
  rfl

theorem forceRemove_ignored (href : s.dev.ptn.refused = false) : Yields .forceRemove s s.dev := by
  change execForceRemove s = _
  simp [execForceRemove, href]

theorem Dev.role_pairEn (d : Dev) (b : Bool) : (d.setBit .ptnCtrl 0 0 b).role = d.role :=
  d.fld_setFld_reg _ _ _ _ _ _ _ (by decide)

theorem pairEnWrite_unpairs (hrole : s.dev.role ≠ 5) :
    Yields (.pairEnWrite false) s ((s.dev.setBit .ptnCtrl 0 0 false).unpair.setRole 0) := by
  change execPairEnWrite false s = _
  simp [execPairEnWrite, Dev.role_pairEn, hrole, Dev.unpair]

theorem pairEnWrite_pairs (hrole : s.dev.role = 0) (hpresent : s.dev.bit .ptnStatus 0 26 = true) :
    Yields (.pairEnWrite true) s ((s.dev.setBit .ptnCtrl 0 0 true).setRole 1) := by
  have hpresent' := (s.dev.bit_setBit_reg 0 0 true 0 26 (by decide : Reg.ptnStatus ≠ .ptnCtrl)).trans hpresent
  change execPairEnWrite true s = _
  simp [execPairEnWrite, Dev.role_pairEn, hrole, hpresent']

end

/-! ### The end of SYNC (R332) -/

section
variable (d : Dev)

/-- The snapshot has been applied up to an MSEQ, and no record is held. -/
def Dev.endSync (mseq : Nat) : Dev :=
  { d with ptn := { d.ptn with held := [], fresh := false, snapshotDue := false, matched := [] } }.put .ptnMseq 0 mseq

/-- The tables of the used ports are ready, and the heads join. -/
def Dev.goAll : Dev := (d.each d.image.usedPorts fun d n => d.setBit .synCtrl n 0 true).each (List.range 192) Dev.go

/-- The standby stands by. -/
def Dev.standBy : Dev := (d.goAll.setUnfit 1 false).setRole 3

theorem Dev.goAll_keepsPair : KeepsPair d d.goAll :=
  ((KeepsPair.refl d).each fun _ _ ho => ho.put rfl).each fun _ _ ho => ho.go

theorem Dev.standBy_keepsPartner : KeepsPartner d d.standBy := by
  rw [Dev.standBy]
  exact (d.goAll_keepsPair.toKeepsPartner.trans (Dev.setUnfit_keepsPartner _ 1 false)).trans (Dev.setRole_keepsPartner _ 3)

theorem Dev.role_standBy : d.standBy.role = 3 := by rw [Dev.standBy, Dev.role_setRole _ 3 (by decide)]

theorem Dev.mseq_standBy : d.standBy.get .ptnMseq 0 = d.get .ptnMseq 0 := by
  rw [Dev.standBy, Dev.get_setRole _ _ rfl, ← d.goAll_keepsPair.get .ptnMseq (by decide)]
  exact (Dev.get_put_reg _ _ _ _ (by decide)).trans (Dev.get_put_reg _ _ _ _ (by decide))

theorem Dev.unfit_standBy : d.standBy.bit .ptnStatus 0 1 = false := by
  rw [Dev.standBy, Dev.bit_setRole _ _ (by decide) rfl, Dev.cause_setUnfit _ _ _ (by decide)]

theorem Dev.sendAck_keepsPair : KeepsPair d d.sendAck := (KeepsPair.refl d).mirrorSend

variable {s : State}

theorem snapshotApplied_ends (mseq : Word) (hrole : s.dev.role = 2) (hheld : s.dev.ptn.held = []) :
    Yields (.snapshotApplied mseq []) s ((s.dev.endSync mseq.toNat).standBy.sendAck) := by
  have hnone : (s.dev.endSync mseq.toNat).standBy.ptn.held = [] := (Dev.standBy_keepsPartner _).part fun _ => rfl
  have hdrain : Dev.drainHeld (s.dev.endSync mseq.toNat).standBy.ptn.held.length (s.dev.endSync mseq.toNat).standBy =
      (s.dev.endSync mseq.toNat).standBy := by rw [hnone]; rfl
  change execSnapshotApplied mseq [] s = _
  simp only [execSnapshotApplied, State.run_eq, hrole, ne_eq, not_true_eq_false, if_false, List.foldl_nil, hheld, List.filter_nil]
  exact congrArg (fun d => Host.Outcome.next { s with dev := Dev.sendAck d }) hdrain

end
end Sys2Proof.Machine
end

section
open Sys2Proof
namespace Sys2Proof.Machine

/-- Settles O42: each command marks ROLE, FIT, a cause or the partner block first; what a role, a stop, a surrender or a takeover
then runs keeps what was marked. -/
theorem pairRolesFollowHeartbeatAndRequests : Obligations.PairRolesFollowHeartbeatAndRequests := by
  refine ⟨?present, fun _ => heartbeatLost_tells, ?alone, ?silent, ?dead, ?resync, fun _ => silentDeath_schedules,
    fun _ => silentDeath_stops, fun _ => dualActive_demotes, fun _ _ pairId => pcap_answers pairId, ?retry,
    fun _ => dailySend_sends, fun _ => verdictReady_judges, fun _ => ptnSurrender_demotes, fun _ => ptnSurrender_ignored,
    ?takeover, fun _ => takeover_ignored, ?remove, ?refused, ?forced, fun _ => forceRemove_ignored, ?unpair, ?pair, ?synced⟩
  case present =>
    intro s hrole hpair
    refine (presentChange_activates hrole hpair).completes ⟨Dev.role_setRole _ 1 (by decide), ?_⟩
    rw [Dev.bit_setRole _ _ (by decide) rfl, Dev.bit_setBit_same _ _ _ _ _ (by decide)]
  case alone =>
    exact fun s hs => ⟨heartbeatLost_clears hs, mirrorSilent_ignored hs, resync_ignored hs, mirrorGap_accepted hs⟩
  case silent =>
    intro s hs hhb
    exact (mirrorSilent_unfits hs hhb).completes ⟨Dev.cause_setUnfit _ 1 true (by decide), Dev.fit_setUnfit _ 1 (by decide),
      Dev.role_setUnfit _ 1 true (by decide)⟩
  case dead =>
    intro s hrole hhb hfit
    rw [← Dev.silentDeath_fit hrole hfit]
    exact mirrorSilent_kills (Dev.isStandby_of_role hrole) hhb
  case resync =>
    intro s hs
    exact ⟨(resync_resyncs hs).completes ⟨Dev.role_resync _, Dev.snapshotDue_resync _, Dev.fit_resync _⟩,
      (mirrorGap_resyncs hs).completes ⟨Dev.role_resync _, Dev.snapshotDue_resync _, Dev.raised_gap _⟩⟩
  case retry =>
    intro s link hlive
    exact (mirrorLinkRetry_restarts hlive).completes ⟨Dev.not_mem_capped_uncap _ _ _, (Dev.ptnStatus_uncap _ _ _ _).trans hlive⟩
  case takeover =>
    intro s fs htake hft
    obtain ⟨hnone, hfrom⟩ := s.dev.ptn_takeover (max fs (s.dev.fireIndex + 1))
    exact (takeover_at htake).completes ⟨Dev.role_takeover _ _, Dev.takeFire_takeover _ _ hft, hnone, Dev.splices_takeover _ _,
      Dev.raised_takeover _ _, hfrom⟩
  case remove =>
    intro s hs
    obtain ⟨hok, hreq, -⟩ := (s.dev.noteRequest true).leavePorts.ptn_goOff
    exact (removeRequest_goesOff hs).completes ⟨Dev.role_goOff _, hok, hreq.trans (Dev.removeReq_leavePorts _)⟩
  case refused =>
    intro s hrole hfit
    have hkept := (s.dev.noteRequest true).refuseRemoval_keepsPair
    exact (removeRequest_refused hrole hfit).completes ⟨hkept.part fun _ => rfl, List.mem_append_right _ List.mem_cons_self,
      hkept.role.trans hrole, Dev.bit_event_same _ _ _ _ (by decide)⟩
  case forced =>
    intro s href
    obtain ⟨hok, -, hrefused⟩ := s.dev.stopForced.ptn_goOff
    exact (forceRemove_goesOff href).completes ⟨Dev.role_goOff _, hok, hrefused⟩
  case unpair =>
    intro s hrole
    refine (pairEnWrite_unpairs hrole).completes ⟨Dev.role_setRole _ 0 (by decide), ?_, ?_⟩
    · rw [Dev.bit_setRole _ _ (by decide) rfl]
      exact Dev.bit_setBit_same s.dev .ptnCtrl 0 0 false (by decide)
    · exact (Dev.setRole_keepsPartner _ 0).part fun _ => rfl
  case pair =>
    intro s hrole hpresent
    refine (pairEnWrite_pairs hrole hpresent).completes ⟨Dev.role_setRole _ 1 (by decide), ?_⟩
    rw [Dev.bit_setRole _ _ (by decide) rfl, Dev.bit_setBit_same _ _ _ _ _ (by decide)]
  case synced =>
    intro s mseq hrole hheld
    have hack := (s.dev.endSync mseq.toNat).standBy.sendAck_keepsPair
    have hdone : KeepsPartner (s.dev.endSync mseq.toNat) (s.dev.endSync mseq.toNat).standBy.sendAck :=
      (Dev.standBy_keepsPartner _).trans hack.toKeepsPartner
    refine (snapshotApplied_ends mseq hrole hheld).completes ⟨hack.role.trans (Dev.role_standBy _), ?_, ?_, ?_⟩
    · rw [hack.get _ (by decide), Dev.mseq_standBy, Dev.endSync, Dev.get_put_same]
      omega
    · exact hdone.part fun _ => rfl
    · exact (hack.bit (by decide) 0 1).trans (Dev.unfit_standBy _)

end Sys2Proof.Machine
end

section
open Sys2Proof
namespace Sys2Proof.Machine

/-! ### What an operation leaves, cell by cell

A reach names cells of registers and fields of them. What it does not name stays, whichever blocks the operation belongs to. -/

/-- The bits of registers that a reach names, cell by cell. -/
def Reach.touches : Reach → List Touch
  | .field r i l w => [⟨r, i, BitVec.ofNat 64 (fieldMask l w)⟩]
  | .page _ => synPage.map Touch.all
  | .both a b => a.touches ++ b.touches
  | _ => []

/-- The footprint that names what a reach names and nothing else. -/
def Reach.exact (x : Reach) (d : Dev) : Footprint := .of x.areas x.touches [d.logRange] []

/-- A reach does not name the base of the loop log, so that an entry of the log has its place. -/
def Reach.clear : Reach → Bool
  | .field r _ _ _ => r != .qlLogBase
  | .both a b => a.clear && b.clear
  | _ => true

/-- A reach names no bit of a field of a cell. -/
def Reach.spares (r : Reg) (k l w : Nat) : Reach → Bool
  | .field q i l' w' => q != r || decide (l' + w' ≤ l) || decide (l + w ≤ l') || i.any (· != k)
  | .page _ => !synPage.contains r
  | .both a b => a.spares r k l w && b.spares r k l w
  | _ => true

section
variable {x y : Reach} {d e : Dev} {r : Reg} {k l w : Nat}

theorem Reach.covers_fieldMask (q : Reg) (i : Option Nat) (l w : Nat) (r : Reg) (k b : Nat) :
    (⟨q, i, BitVec.ofNat 64 (fieldMask l w)⟩ : Touch).covers r k b = true ↔
      q = r ∧ Among i k ∧ l ≤ b ∧ b < l + w ∧ b < 64 := by
  have hbit : (BitVec.ofNat 64 (fieldMask l w)).getLsbD b = decide (l ≤ b ∧ b < l + w ∧ b < 64) := by
    rw [BitVec.getLsbD_ofNat, fieldMask, Nat.testBit_mod_two_pow, Nat.testBit_shiftLeft, Nat.testBit_two_pow_sub_one]
    grind
  have hsame : ∀ j, Among (some j) k ↔ j = k := fun j => ⟨fun h => h j rfl, fun h _ hj => Option.some.inj hj ▸ h⟩
  cases i with
  | none => simp only [Touch.covers, Bool.and_eq_true, hbit, decide_eq_true_eq, Among.any, true_and, and_true]
  | some j => simp only [Touch.covers, Bool.and_eq_true, hbit, decide_eq_true_eq, hsame, and_assoc]

theorem Reach.qlLogBase_not_touched (hx : x.clear = true) : ∀ t ∈ x.touches, t.reg ≠ .qlLogBase := by
  induction x with
  | field r i l w =>
    intro t ht
    rw [List.mem_singleton.mp ht]
    exact bne_iff_ne.mp hx
  | page _ =>
    intro t ht
    obtain ⟨q, hq, rfl⟩ := List.mem_map.mp ht
    exact (show ∀ q ∈ synPage, q ≠ .qlLogBase by decide) q hq
  | both a b iha ihb =>
    simp only [Reach.clear, Bool.and_eq_true] at hx
    intro t ht
    exact (List.mem_append.mp ht).elim (iha hx.1 t) (ihb hx.2 t)
  | _ => exact fun _ ht => absurd ht List.not_mem_nil

/-- What a part of a reach names is within the footprint of the whole. -/
theorem Reach.within_exact (hx : x.clear = true) (ha : y.areas ⊆ x.areas) (ht : y.touches ⊆ x.touches) :
    y.within (x.exact d) d := by
  induction y with
  | nothing => trivial
  | area p => exact ha List.mem_cons_self
  | field r i l w =>
    intro k hk b hl hw hb
    exact List.any_eq_true.mpr ⟨_, ht List.mem_cons_self, (covers_fieldMask r i l w r k b).mpr ⟨rfl, hk, hl, hw, hb⟩⟩
  | log =>
    refine ⟨List.mem_cons_self, fun b => List.all_eq_true.mpr fun t hmem => ?_⟩
    simp [Touch.covers, Reach.qlLogBase_not_touched hx t hmem]
  | page i =>
    intro n _ k r j high hpage b hb
    have hmem : Touch.all r ∈ x.touches := ht (List.mem_map_of_mem (synPage_of_pageReg hpage).1)
    exact List.any_eq_true.mpr ⟨_, hmem, by simp [Touch.covers_all, hb]⟩
  | both a b iha ihb =>
    exact ⟨iha (List.append_subset.mp ha).1 (List.append_subset.mp ht).1,
      ihb (List.append_subset.mp ha).2 (List.append_subset.mp ht).2⟩

theorem Reach.not_covers_of_spares (hs : x.spares r k l w = true) {b : Nat} (hl : l ≤ b) (hw : b < l + w) :
    ∀ t ∈ x.touches, t.covers r k b = false := by
  induction x with
  | field q i l' w' =>
    intro t ht
    rw [List.mem_singleton.mp ht, Bool.eq_false_iff, ne_eq, Reach.covers_fieldMask]
    rintro ⟨rfl, hi, hl', hw', -⟩
    simp only [Reach.spares, bne_self_eq_false, Bool.false_or, Bool.or_eq_true, decide_eq_true_eq, Option.any_eq_true,
      bne_iff_ne] at hs
    obtain (h | h) | ⟨j, hj, hne⟩ := hs
    · omega
    · omega
    · exact hne (hi j hj)
  | page _ =>
    intro t ht
    obtain ⟨q, hq, rfl⟩ := List.mem_map.mp ht
    have hne : q ≠ r := by
      rintro rfl
      simp [Reach.spares, hq] at hs
    simp [Touch.covers_all, hne]
  | both a b iha ihb =>
    simp only [Reach.spares, Bool.and_eq_true] at hs
    intro t ht
    exact (List.mem_append.mp ht).elim (iha hs.1 t) (ihb hs.2 t)
  | _ => exact fun _ ht => absurd ht List.not_mem_nil

/-- An operation leaves every area that its reach does not name. -/
theorem Dev.area_spared {p : Area} (hx : x.clear = true) (hp : x.areas.contains p = false)
    (h : x.within (x.exact d) d → (x.exact d).holds d e) : p.same d e := by
  obtain ⟨hareas, -⟩ := h (Reach.within_exact hx (List.Subset.refl _) (List.Subset.refl _))
  exact hareas p fun hin => by simp_all [Reach.exact, Footprint.of]

/-- An operation leaves every field that its reach spares. -/
theorem Dev.fld_spared (hx : x.clear = true) (hs : x.spares r k l w = true)
    (h : x.within (x.exact d) d → (x.exact d).holds d e) : e.fld r k l w = d.fld r k l w := by
  obtain ⟨-, htouched, -⟩ := h (Reach.within_exact hx (List.Subset.refl _) (List.Subset.refl _))
  refine Nat.eq_of_testBit_eq fun i => ?_
  rw [Dev.fld, Dev.fld, testBit_bits, testBit_bits]
  by_cases hi : i < w
  · refine congrArg (decide (i < w) && ·) (htouched r k (l + i) (List.all_eq_true.mpr fun t ht => ?_))
    rw [Reach.not_covers_of_spares hs (Nat.le_add_right l i) (by omega) t ht, Bool.not_false]
  · simp [hi]

theorem Dev.bit_spared {i : Nat} (hx : x.clear = true) (hs : x.spares r k i 1 = true)
    (h : x.within (x.exact d) d → (x.exact d).holds d e) : e.bit r k i = d.bit r k i :=
  congrArg (· == 1) (Dev.fld_spared hx hs h)

theorem Dev.fld_whole (d : Dev) (r : Reg) (k : Nat) : d.fld r k 0 64 = d.get r k :=
  (congrArg (· % 2 ^ 64) (Nat.shiftRight_zero ..)).trans (Nat.mod_eq_of_lt (d.get_lt r k))

theorem Dev.get_spared (hx : x.clear = true) (hs : x.spares r k 0 64 = true)
    (h : x.within (x.exact d) d → (x.exact d).holds d e) : e.get r k = d.get r k := by
  rw [← Dev.fld_whole, ← Dev.fld_whole]
  exact Dev.fld_spared hx hs h

end

/-! ### Events -/

section
variable (d : Dev) {r q : Reg} (k i : Nat)

/-- An event leaves every field beside its bit and the interrupt sources. -/
theorem Dev.fld_event {j l w : Nat} (hx : (eventReach r none i).clear = true)
    (hs : (eventReach r none i).spares q j l w = true) : (d.event r k i).fld q j l w = d.fld q j l w :=
  Dev.fld_spared hx hs fun h => (Footprint.holds_refl _ d).event h .any

theorem Dev.bit_event {j l : Nat} (hx : (eventReach r none i).clear = true)
    (hs : (eventReach r none i).spares q j l 1 = true) : (d.event r k i).bit q j l = d.bit q j l :=
  congrArg (· == 1) (d.fld_event k i hx hs)

theorem Dev.get_event {j : Nat} (hx : (eventReach r none i).clear = true)
    (hs : (eventReach r none i).spares q j 0 64 = true) : (d.event r k i).get q j = d.get q j :=
  Dev.get_spared hx hs fun h => (Footprint.holds_refl _ d).event h .any

/-- An event changes, beside registers, what the interrupts of cores and the host keep and what is sent to the host. -/
theorem Dev.area_event {p : Area} (hx : (eventReach r none i).clear = true)
    (hp : (eventReach r none i).areas.contains p = false) : p.same d (d.event r k i) :=
  Dev.area_spared hx hp fun h => (Footprint.holds_refl _ d).event h .any

end

/-! ### Codes that stay raised -/

/-- No code that was raised is taken back. -/
def Raises (d e : Dev) : Prop := d.raised ⊆ e.raised

section
variable {d e e' : Dev}

theorem Raises.refl (d : Dev) : Raises d d := List.Subset.refl _

theorem Raises.trans (h : Raises d e) (g : Raises e e') : Raises d e' := List.Subset.trans h g

theorem Raises.of_same (h : e.raised = d.raised) : Raises d e := fun _ hx => h.symm ▸ hx

theorem Raises.ite {c : Prop} [Decidable c] {a b : Dev} (ha : Raises d a) (hb : Raises d b) : Raises d (if c then a else b) := by
  split
  · exact ha
  · exact hb

theorem Raises.foldl {α : Type} {f : Dev → α → Dev} {xs : List α} (h : Raises d e) (hf : ∀ e x, Raises e (f e x)) :
    Raises d (xs.foldl f e) := by
  induction xs generalizing e with
  | nil => exact h
  | cons x xs ih => exact ih (h.trans (hf e x))

theorem Raises.each {f : Dev → Nat → Dev} {ns : List Nat} (h : Raises d e) (hf : ∀ e n, Raises e (f e n)) :
    Raises d (e.each ns f) := h.foldl hf

theorem Raises.raise {c : ECode} {p : Nat} (h : Raises d e) : Raises d (e.raise c p) :=
  h.trans (List.subset_append_left _ _)

theorem Raises.mem {c : ECode} {p : Nat} (h : Raises (d.raise c p) e) : (c, p) ∈ e.raised :=
  h (List.mem_append_right _ List.mem_cons_self)

/-- An operation whose reach does not name the codes raised leaves them. -/
theorem Raises.reach {x : Reach} (h : Raises d e) (hx : x.clear = true) (hr : x.areas.contains .raised = false)
    (g : x.within (x.exact e) e → (x.exact e).holds e e') : Raises d e' :=
  h.trans (.of_same (Dev.area_spared (p := .raised) hx hr g))

theorem Raises.event {r : Reg} {k i : Nat} (h : Raises d e) (hx : (eventReach r none i).clear = true) :
    Raises d (e.event r k i) :=
  h.reach hx rfl fun hin => (Footprint.holds_refl _ e).event hin .any

end
end Sys2Proof.Machine
end

section
open Sys2Proof
namespace Sys2Proof.Machine

/-! ### Calibration runs (R468 to R471) -/

section
variable (d : Dev) (i k : Nat)

@[simp] theorem Dev.calCell_setCalCell (c : CalCell) : (d.setCalCell i k c).calCell i k = c := Tab.get_set_same ..

/-- An abort told or not told yet leaves the cells. -/
theorem Dev.cal_calRaise (cause : Nat) : (d.calRaise i cause).sys.cal = d.sys.cal := by
  unfold Dev.calRaise
  dsimp only
  split
  · split
    · rfl
    · rfl
  · rfl

theorem Dev.calCell_calAbort (cause : Nat) :
    (d.calAbort i k cause).calCell i k =
      { d.calCell i k with value := d.calInterp i k, interp := !(d.calSets i k).isEmpty,
                           fail := satAdd 32 (d.calCell i k).fail 1, cause := cause } := by
  refine Eq.trans ?_ (d.calCell_setCalCell i k _)
  rw [Dev.calAbort, Dev.calCell, Dev.cal_calRaise]
  rfl

/-- An abort shows its cause in CAL_EVENT (R471). -/
theorem Dev.bit_calAbort {cause : Nat} (hcause : cause - 1 < 64) :
    (d.calAbort i k cause).bit .calEvent 0 (cause - 1) = true := by
  have hraise (e : Dev) : (e.calRaise i cause).bit .calEvent 0 (cause - 1) = e.bit .calEvent 0 (cause - 1) := by
    unfold Dev.calRaise
    dsimp only
    split
    · split
      · rfl
      · rfl
    · rfl
  rw [Dev.calAbort, hraise]
  exact Dev.bit_setBit_same _ _ _ _ _ hcause

/-- What is applied: the mean, and for the core voltage no more than its limits allow. -/
def calValue (m1 m2 : Int) : Int :=
  if i = 9 then clampInt (divRoundAway (m1 + m2) 2) 720 800 else divRoundAway (m1 + m2) 2

/-- The cell of an item with a value applied. -/
def Dev.calTaken (m1 m2 : Int) : CalCell :=
  { d.calCell i k with value := calValue i m1 m2, interp := false, count := satAdd 32 (d.calCell i k).count 1,
                       lastNs := d.get .tsuTime 0, lastFire := d.get .posFireIndex 0 }

/-- Outside MANUFACTURE and SERVICE a value is applied and no set is stored. -/
theorem Dev.calApply_elsewhere (m1 m2 : Int) (hman : d.sec.fuses.state ≠ 0) (hserv : d.sec.fuses.state ≠ 3) :
    d.calApply i k m1 m2 = d.setCalCell i k (d.calTaken i k m1 m2) := by
  have hstate : ¬(d.sec.fuses.state = 0 ∨ d.sec.fuses.state = 3) := not_or.mpr ⟨hman, hserv⟩
  exact if_neg hstate

section
variable {d i k} {ok : Bool} {m1 m2 : Int}

theorem Dev.calPlace_unpopulated (hi : i = 8) (hpop : d.bit .dmcStatus k 27 = false) : d.calPlace i (k, ok, m1, m2) = d :=
  if_pos ⟨hi, by simp [hpop]⟩

theorem Dev.calPlace_populated (hpop : i ≠ 8 ∨ d.bit .dmcStatus k 27 = true) :
    d.calPlace i (k, ok, m1, m2) =
      if ok = false ∨ d.calReady i k = false then d.calAbort i k 1
      else if calTolerance i < (m1 - m2).natAbs then d.calAbort i k 2 else d.calApply i k m1 m2 := by
  have hcond : ¬(i = 8 ∧ (!d.bit .dmcStatus k 27) = true) := by grind
  rw [Dev.calPlace, if_neg hcond]
  simp

end
end

section
variable {s : State}

/-- An item that starts is among those that run. -/
theorem calCtrlRun_starts {item : Byte} (hitem : item.toNat ≤ 10) (hnew : item.toNat ∉ s.dev.sys.running) :
    Completes (.calCtrlRun item) s fun e =>
      e.sys.running = item.toNat :: s.dev.sys.running ∧ e.get .calCtrl 0 = item.toNat <<< 8 := by
  refine completes_of_run (f := fun d => _) rfl ?_
  have hcond : ¬(10 < item.toNat ∨ (s.dev.sys.running.contains item.toNat) = true) := by
    simpa using And.intro hitem hnew
  have hput : (s.dev.put .calCtrl 0 (item.toNat <<< 8)).get .calCtrl 0 = item.toNat <<< 8 := by
    rw [Dev.get_put_same, Nat.shiftLeft_eq]
    omega
  simp only [if_neg hcond]
  split
  · exact ⟨rfl, hput⟩
  · have hecho {d e : Dev} {n : Nat} {F : Footprint} (h : startEchoReach.within F d) (he : F.holds d e) :
        F.holds d (e.startEcho n .refresh) := he.startEcho h
    exact ⟨congrArg SysState.running (Dev.area_spared (p := .sys) (x := startEchoReach) rfl rfl fun h =>
        (Footprint.holds_refl _ _).each fun _ _ ho => hecho h ho),
      (Dev.get_spared (x := startEchoReach) rfl rfl fun h =>
        (Footprint.holds_refl _ _).each fun _ _ ho => hecho h ho).trans hput⟩

theorem calCtrlRun_ignored {item : Byte} (h : 10 < item.toNat ∨ item.toNat ∈ s.dev.sys.running) :
    Yields (.calCtrlRun item) s (s.dev.put .calCtrl 0 (item.toNat <<< 8)) := by
  change execCalCtrlRun item s = _
  have hcond : 10 < item.toNat ∨ (s.dev.sys.running.contains item.toNat) = true := by simpa using h
  rw [execCalCtrlRun, State.run_eq]
  simp only [if_pos hcond]

/-- A run at one place ends with what the place makes of the controller, and no longer runs. -/
theorem calRunDone_place {item : Fin 11} {r : Nat × Bool × Int × Int} {e : Dev} (he : s.dev.calPlace item.val r = e) :
    Yields (.calRunDone item [r]) s { e with sys := { e.sys with running := e.sys.running.filter fun i => i != item.val } } := by
  subst he
  rfl

end

/-- Settles O54: a run at one place applies, aborts with cause 1 or 2, or leaves a channel that is not populated. -/
theorem calibrationRunsApplyOrAbort : Obligations.CalibrationRunsApplyOrAbort := by
  refine ⟨?starts, ?startsDelays, ?ignored, ?applies, ?aborts, ?unpopulated⟩
  case starts => exact fun s item hitem hnew => calCtrlRun_starts (by omega) hnew
  case startsDelays => exact fun s item hitem hnew => calCtrlRun_starts (by omega) hnew
  case ignored => exact fun s item h => calCtrlRun_ignored h
  case applies =>
    intro s item k m1 m2 htol hman hserv hready hpop
    have hplace : s.dev.calPlace item.val (k, true, m1, m2) =
        s.dev.setCalCell item.val k (s.dev.calTaken item.val k m1 m2) := by
      rw [Dev.calPlace_populated hpop, if_neg (by simp [hready]), if_neg (by omega), Dev.calApply_elsewhere _ _ _ _ _ hman hserv]
    have hcell := s.dev.calCell_setCalCell item.val k (s.dev.calTaken item.val k m1 m2)
    exact (calRunDone_place hplace).completes ⟨congrArg CalCell.value hcell, congrArg CalCell.interp hcell,
      congrArg CalCell.count hcell, (congrArg CalCell.fail hcell).trans rfl, by simp, rfl⟩
  case aborts =>
    intro s item k ok m1 m2 hfail hpop
    have habort (cause : Nat) (hcause : cause = 1 ∨ cause = 2)
        (hplace : s.dev.calPlace item.val (k, ok, m1, m2) = s.dev.calAbort item.val k cause) :
        Completes (.calRunDone item [(k, ok, m1, m2)]) s fun e =>
          (e.calCell item.val k).value = s.dev.calInterp item.val k ∧ (e.calCell item.val k).cause = cause ∧
          (e.calCell item.val k).fail = satAdd 32 (s.dev.calCell item.val k).fail 1 ∧
          (e.calCell item.val k).count = (s.dev.calCell item.val k).count ∧ e.bit .calEvent 0 (cause - 1) = true := by
      have hcell := s.dev.calCell_calAbort item.val k cause
      exact (calRunDone_place hplace).completes ⟨congrArg CalCell.value hcell, congrArg CalCell.cause hcell,
        congrArg CalCell.fail hcell, (congrArg CalCell.count hcell).trans rfl, s.dev.bit_calAbort item.val k (by omega)⟩
    by_cases hinput : ok = false ∨ s.dev.calReady item.val k = false
    · simp only [if_pos hinput]
      exact habort 1 (.inl rfl) (by rw [Dev.calPlace_populated hpop, if_pos hinput])
    · have hdiff : calTolerance item.val < (m1 - m2).natAbs := (or_assoc.mpr hfail).resolve_left hinput
      simp only [if_neg hinput]
      exact habort 2 (.inr rfl) (by rw [Dev.calPlace_populated hpop, if_neg hinput, if_pos hdiff])
  case unpopulated =>
    intro s item k ok m1 m2 hitem hpop
    exact calRunDone_place (Dev.calPlace_unpopulated hitem hpop)

end Sys2Proof.Machine
end

section
open Sys2Proof
namespace Sys2Proof.Machine

/-! ### Axes (R373 to R379) -/

section
variable (d : Dev) (a : Nat)

@[simp] theorem Dev.axis_setAxis (x : Axis) : (d.setAxis a x).axis a = x := Tab.get_set_same ..

@[simp] theorem Dev.raised_setAxis (x : Axis) : (d.setAxis a x).raised = d.raised := rfl
@[simp] theorem Dev.outs_setAxis (x : Axis) : (d.setAxis a x).outs = d.outs := rfl

/-- HOMING shows whether the axis homes (Table 14.9). -/
theorem Dev.homing_setAxis (x : Axis) : (d.setAxis a x).bit .ctlAxStatus a 29 = x.homing.isSome := by
  refine Eq.trans ?_ (Dev.bit_setBit_same
    ({ d with ctl := { d.ctl with axis := Tab.set d.ctl.axis a x } }.setBit .ctlAxStatus a 30 (x.vel != 0)) .ctlAxStatus a 29
    x.homing.isSome (by decide))
  refine congrArg (· == 1) ?_
  exact Dev.fld_spared (x := .of [.field .ctlAxStatus none 17 7, .reg .ctlAxPos none, .reg .ctlAxVel none]) rfl rfl
    fun ⟨hqueued, hpos, hvel, _⟩ => (((Footprint.holds_refl _ _).setFld hqueued .any).put hpos .any).put hvel .any

/-- The axis after an ABORT (R376). -/
def Axis.stopped (x : Axis) : Axis :=
  { x with queue := [], vel := 0, pos := x.pos / 1000000000000 * 1000000000000, joint := none, halting := false,
           homing := none, resting := false }

/-- Registers are not part of an axis. -/
@[simp] theorem Dev.axis_setBit (r : Reg) (k i : Nat) (b : Bool) (n : Nat) : (d.setBit r k i b).axis n = d.axis n := rfl

theorem Dev.axisStop_eq : d.axisStop a = (d.setAxis a (d.axis a).stopped).setBit .ctlAxStatus a 31 true := by
  rw [Dev.axisStop, Axis.stopped]

@[simp] theorem Dev.axis_axisStop : (d.axisStop a).axis a = (d.axis a).stopped := by
  rw [Dev.axisStop_eq, Dev.axis_setBit, Dev.axis_setAxis]

theorem Dev.posLost_axisStop : (d.axisStop a).posLost a = true := by
  rw [Dev.axisStop_eq]
  exact Dev.bit_setBit_same _ _ _ _ _ (by decide)

/-- FAULT and the event of a fault leave the loops and axes. -/
theorem Dev.axis_axisFault : (d.axisFault a).axis a = (d.axis a).stopped := by
  have hctl := Dev.area_event (p := .ctl) (r := .ctlEvent) ((d.axisStop a).setBit .ctlAxStatus a 28 true) 0 3 rfl rfl
  rw [Dev.axisFault, Dev.axis, Dev.raise_ctl, hctl, Dev.setBit_ctl]
  exact d.axis_axisStop a

/-- A fault of Table 14.4 empties the queue, sets POS_LOST and FAULT, and raises E_AX_FAULT. -/
theorem Dev.axisFault_faults : (d.axisFault a).posLost a = true ∧ (d.axisFault a).bit .ctlAxStatus a 28 = true ∧
    (ECode.axFault, a) ∈ (d.axisFault a).raised ∧ (d.axisFault a).bit .ctlEvent 0 3 = true := by
  refine ⟨?_, ?_, List.mem_append_right _ List.mem_cons_self, Dev.bit_event_same _ _ _ _ (by decide)⟩
  · refine (Dev.bit_event (r := .ctlEvent) ((d.axisStop a).setBit .ctlAxStatus a 28 true) 0 3 rfl rfl).trans ?_
    exact ((d.axisStop a).bit_setBit_other _ _ _ _ (by decide) (by decide)).trans (d.posLost_axisStop a)
  · refine (Dev.bit_event (r := .ctlEvent) ((d.axisStop a).setBit .ctlAxStatus a 28 true) 0 3 rfl rfl).trans ?_
    exact Dev.bit_setBit_same _ _ _ _ _ (by decide)

section
variable {d a}

theorem Dev.atRest_moving (h : (d.axis a).vel ≠ 0) : d.atRest a = d := if_pos h

theorem Dev.axis_atRest_halting (hvel : (d.axis a).vel = 0) (hhalt : (d.axis a).halting = true) :
    ((d.atRest a).axis a).queue = [] ∧ ((d.atRest a).axis a).homing = none := by
  rw [Dev.atRest, if_neg (by simpa using hvel), if_pos hhalt, Dev.axis_setAxis]
  exact ⟨rfl, rfl⟩

end

/-! ### The planner (R375) -/

/-- The leg of the last move in the queue, from rest: it ends at rest at the target. -/
def Move.lastLeg (m : Move) (x : Axis) : Leg :=
  { dest := some (m.target * 1000000000000), limit := m.v * 1000000, acc := m.a, endSq := 0,
    reverse := decide (m.target * 1000000000000 < x.pos) }

theorem Dev.leg_of_single {x : Axis} {m : Move} (hhome : x.homing = none) (hqueue : x.queue = [m]) (hhalt : x.halting = false)
    (hjoint : x.joint = none) : d.leg a x = some (m.lastLeg x) := by
  simp [Dev.leg, hhome, hqueue, hhalt, hjoint, jointSq, Move.lastLeg]

/-- From rest and far from the end of the way, 1 µs takes an axis to its acceleration. -/
theorem nextSpeed_from_rest {g : Leg} {left : Nat} (hacc : 0 < g.acc) (hleft : 0 < left) (hlimit : g.acc ≤ g.limit) :
    nextSpeed g 0 left = (g.acc, false) := by
  have hway : 0 < g.acc * left := Nat.mul_pos hacc hleft
  have hbrakes : (g.dest.isSome && decide (2 * g.acc * left + g.endSq * 1000000000000 ≤ 0 * 0)) = false := by
    rw [Nat.mul_assoc, Bool.and_eq_false_iff, decide_eq_false_iff_not]
    omega
  simp only [nextSpeed, hbrakes, Nat.not_lt_zero, if_false, Nat.zero_add, Nat.min_eq_right hlimit, Bool.false_eq_true]

/-- An axis after the first microsecond of a move (R375). -/
def Axis.begun (x : Axis) (acc now : Nat) : Axis :=
  { x with pos := x.pos + acc, vel := acc, resting := false,
           lastStep := if (x.pos + acc) / 1000000000000 ≠ x.pos / 1000000000000 then some now else x.lastStep }

theorem Dev.planLeg_begins {x : Axis} {m : Move} (hvel : x.vel = 0) (hdir : x.dir = false) (hsetup : x.dirFrom ≤ d.now)
    (hacc : 0 < m.a) (hlimit : m.a ≤ m.v * 1000000) (hfar : x.pos + m.a < m.target * 1000000000000) :
    d.planLeg a x (m.lastLeg x) = (d.issueSteps a x.pos (x.pos + m.a)).setAxis a (x.begun m.a d.now) := by
  have hreverse : (m.lastLeg x).reverse = false := decide_eq_false (by omega)
  have hturn : ¬(x.vel = 0 ∧ x.dir ≠ (m.lastLeg x).reverse) := by simp [hdir, hreverse]
  have hleft : m.a < (m.target * 1000000000000 - x.pos).natAbs := by omega
  have hspeed : nextSpeed (m.lastLeg x) x.vel.natAbs (m.target * 1000000000000 - x.pos).natAbs = (m.a, false) := by
    rw [hvel]
    exact nextSpeed_from_rest (g := m.lastLeg x) hacc (by omega) hlimit
  have harrive : ¬(m.target * 1000000000000 - x.pos).natAbs ≤ m.a := by omega
  rw [Dev.planLeg, if_neg hturn, if_neg (by omega)]
  simp only [Move.lastLeg] at hspeed ⊢
  simp [hspeed, hdir, harrive, Axis.begun]

/-- An axis that moves and does not home is left to move. -/
theorem Dev.planAxis_of_leg {g : Leg} {e : Dev} (hleg : d.leg a (d.axis a) = some g) (hhalt : (d.axis a).halting = false)
    (hplan : d.planLeg a (d.axis a) g = e) (hvel : (e.axis a).vel ≠ 0) (hhome : (e.axis a).homing = none) :
    d.planAxis a = e := by
  simp [Dev.planAxis, hleg, hhalt, hplan, Dev.atRest_moving hvel, hhome]

/-! ### The serial buses of the axes (R378, R379) -/

theorem Dev.outs_nextCurrent : (d.nextCurrent a).outs = d.outs :=
  Dev.area_spared (p := .outs) (x := nextCurrentReach) rfl rfl (Footprint.holds_refl _ d).nextCurrent

/-- Each driver that is enabled is sent a word. -/
theorem Dev.serveBus_sends {b i : Nat} (enable : Bool) (hi : i < 8) (hen : d.axisEnabled (8 * b + i) = true) :
    ∃ w, Out.asb b i w ∈ (d.serveBus b enable).outs := by
  have hmem : i ∈ (List.range 8).filter fun i => d.axisEnabled (8 * b + i) := List.mem_filter.mpr ⟨List.mem_range.mpr hi, hen⟩
  refine Dev.each_of_mem (P := fun _ => True) (Q := fun e => ∃ w, Out.asb b i w ∈ e.outs) hmem trivial (fun _ _ _ => trivial)
    (fun e _ => ⟨_, List.mem_append_right _ List.mem_cons_self⟩) ?_
  rintro e n - ⟨w, hw⟩
  refine ⟨w, List.mem_append_left _ ?_⟩
  rwa [Dev.outs_nextCurrent]

end
section
variable {s : State} {axis : Fin 32}

theorem axisPlanTick_drives {seen : Int} {time : Nat} (h : s.dev.drives = true) :
    Yields (.axisPlanTick axis seen time) s ((s.dev.at time).planAxis axis.val) := by
  have hdrives : (s.dev.at time).drives = true := h
  change execAxisPlanTick axis seen time s = _
  simp [execAxisPlanTick, hdrives]

theorem axisPlanTick_follows {seen : Int} {time : Nat} (h : s.dev.drives = false) (hseen : seen ≠ 0) :
    Yields (.axisPlanTick axis seen time) s ((s.dev.at time).setAxis axis.val
      { s.dev.axis axis.val with pos := (s.dev.axis axis.val).pos + seen * 1000000000000,
                                 lastStep := some (s.dev.at time).now }) := by
  have hdrives : (s.dev.at time).drives = false := h
  change execAxisPlanTick axis seen time s = _
  simp [execAxisPlanTick, hdrives, hseen]
  rfl

/-- The first microsecond of the last move of the queue takes an axis to its acceleration and forward by as much. -/
theorem axisPlanTick_begins {seen : Int} {time : Nat} {m : Move} (hdrives : s.dev.drives = true)
    (hhome : (s.dev.axis axis.val).homing = none) (hhalt : (s.dev.axis axis.val).halting = false)
    (hjoint : (s.dev.axis axis.val).joint = none) (hqueue : (s.dev.axis axis.val).queue = [m])
    (hvel : (s.dev.axis axis.val).vel = 0) (hdir : (s.dev.axis axis.val).dir = false)
    (hsetup : (s.dev.axis axis.val).dirFrom ≤ s.dev.now) (hacc : 0 < m.a) (hlimit : m.a ≤ m.v * 1000000)
    (hfar : (s.dev.axis axis.val).pos + m.a < m.target * 1000000000000) :
    Completes (.axisPlanTick axis seen time) s fun e =>
      (e.axis axis.val).pos = (s.dev.axis axis.val).pos + m.a ∧ (e.axis axis.val).vel = m.a ∧
      (e.axis axis.val).queue = [m] := by
  have hbegins := (s.dev.at time).planLeg_begins axis.val hvel hdir (le_max_of_le_left hsetup) hacc hlimit hfar
  have hmoves : ((s.dev.axis axis.val).begun m.a (s.dev.at time).now).vel ≠ 0 :=
    Int.natCast_ne_zero.mpr (Nat.ne_of_gt hacc)
  have hplan := (s.dev.at time).planAxis_of_leg axis.val
    ((s.dev.at time).leg_of_single axis.val hhome hqueue hhalt hjoint) hhalt hbegins
    (by rw [Dev.axis_setAxis]; exact hmoves) (by rw [Dev.axis_setAxis]; exact hhome)
  refine (axisPlanTick_drives hdrives).completes ?_
  rw [hplan, Dev.axis_setAxis]
  exact ⟨rfl, rfl, hqueue⟩

/-- An axis at the second edge of homing (R377). -/
def Axis.homed (x : Axis) (p : Int) : Axis := { x with homing := none, vel := 0, pos := p, resting := false }

theorem homeEdge_ends (h : (s.dev.axis axis.val).homing = some .touch) :
    Yields (.homeEdge axis) s ((s.dev.setAxis axis.val
      ((s.dev.axis axis.val).homed (s.dev.cfgSigned .homeOffset axis.val 0 32 * 1000000000000))).setBit .ctlAxStatus axis.val 31
        false) := by
  change execHomeEdge axis s = _
  simp only [execHomeEdge, State.run_eq, h, Axis.homed]

/-- The third reply in succession that is missing is a fault of the axis (Table 14.4). -/
theorem asbUpWord_missing : Completes (.asbUpWord axis none) s fun e =>
    if (s.dev.axis axis.val).bad = 2 then (ECode.axFault, axis.val) ∈ e.raised ∧ e.posLost axis.val = true
    else (e.axis axis.val).bad = (s.dev.axis axis.val).bad + 1 ∧ e.raised = s.dev.raised := by
  refine completes_of_run (f := fun d => d.badUpWord axis.val) rfl ?_
  rw [Dev.badUpWord]
  split
  · obtain ⟨hlost, -, hraised, -⟩ := Dev.axisFault_faults (s.dev.setAxis axis.val
      { s.dev.axis axis.val with bad := (s.dev.axis axis.val).bad + 1 }) axis.val
    exact ⟨hraised, hlost⟩
  · exact ⟨congrArg Axis.bad (Dev.axis_setAxis ..), rfl⟩

/-- A good reply shows its load and its fault flags, and clears the run of bad ones. -/
def Dev.goodUpWord (d : Dev) (a v : Nat) : Dev :=
  ((d.setAxis a { d.axis a with bad := 0 }).put .ctlAxLoad a (bits v 19 10)).setFld .ctlAxStatus a 24 4 (bits v 15 4)

theorem asbUpWord_good {w : Word} (hcrc : slateCrc w.toNat = w.toNat % 256) (haddr : bits w.toNat 29 3 = axis.val % 8)
    (hflags : bits w.toNat 15 4 = 0) : Yields (.asbUpWord axis (some w)) s (s.dev.goodUpWord axis.val w.toNat) := by
  change execAsbUpWord axis (some w) s = _
  simp [execAsbUpWord, hcrc, haddr, hflags, Dev.goodUpWord]

theorem Dev.axis_goodUpWord (d : Dev) (a v : Nat) : (d.goodUpWord a v).axis a = { d.axis a with bad := 0 } := by
  rw [Dev.goodUpWord, Dev.axis, Dev.setFld_ctl, Dev.put_ctl]
  exact d.axis_setAxis a _

theorem Dev.load_goodUpWord (d : Dev) (a v : Nat) : (d.goodUpWord a v).get .ctlAxLoad a = bits v 19 10 := by
  have hload : bits v 19 10 < 2 ^ 10 := bits_lt v 19 10
  refine (Dev.get_put_reg _ _ _ _ (by decide)).trans ((Dev.get_put_same _ _ _ _).trans ?_)
  omega

end

/-- Settles O47: each command of an axis sets the axis of its name; a stop empties the queue, and the planner's first
microsecond starts from rest. -/
theorem axesMoveHomeAndStop : Obligations.AxesMoveHomeAndStop := by
  refine ⟨?push, ?stops, ?home, ?plan, ?follows, ?touch, ?seek, ?asb, ?asbIdle, ?upGood, ?upBad, ?rest⟩
  case push =>
    intro s req axis
    refine ⟨_, rfl, rfl, ?_⟩
    dsimp only
    cases hrefusal : s.dev.pushRefusal axis.val with
    | some er => rfl
    | none =>
      dsimp only
      rw [Dev.axis_setAxis]
      exact ⟨rfl, rfl, rfl⟩
  case stops =>
    intro s axis
    refine ⟨?halt, ?abort, ?limit⟩
    case halt =>
      refine ⟨_, rfl, rfl, ?_⟩
      dsimp only
      have hset := s.dev.axis_setAxis axis.val { s.dev.axis axis.val with halting := true }
      have hvel := congrArg Axis.vel hset
      have hhalt := congrArg Axis.halting hset
      split
      case isTrue h => exact Dev.axis_atRest_halting (hvel.trans h) hhalt
      case isFalse h =>
        rw [Dev.atRest_moving (hvel.trans_ne h)]
        exact ⟨hhalt, (congrArg Axis.queue hset).trans rfl⟩
    case abort =>
      have hstop := s.dev.axis_axisStop axis.val
      exact completes_of_run (f := fun d => d.axisStop axis.val) rfl ⟨congrArg Axis.queue hstop, congrArg Axis.vel hstop,
        congrArg Axis.homing hstop, s.dev.posLost_axisStop axis.val⟩
    case limit =>
      exact completes_of_run (f := fun d => d.axisFault axis.val) rfl
        ⟨congrArg Axis.queue (s.dev.axis_axisFault axis.val), s.dev.axisFault_faults axis.val⟩
  case home =>
    intro s req axis
    refine ⟨_, rfl, rfl, ?_⟩
    dsimp only
    split
    · rfl
    · rw [Dev.axis_setAxis, Dev.homing_setAxis]
      exact ⟨rfl, rfl⟩
  case plan =>
    intro s axis seen time m hdrives hhome hhalt hjoint hqueue hvel hdir hsetup hacc hlimit hfar
    exact axisPlanTick_begins hdrives hhome hhalt hjoint hqueue hvel hdir hsetup hacc hlimit hfar
  case follows =>
    intro s axis seen time hdrives hseen
    have hset := Dev.axis_setAxis (s.dev.at time) axis.val { s.dev.axis axis.val with
      pos := (s.dev.axis axis.val).pos + seen * 1000000000000, lastStep := some (s.dev.at time).now }
    exact (axisPlanTick_follows hdrives hseen).completes ⟨congrArg Axis.pos hset, congrArg Axis.lastStep hset, rfl⟩
  case touch =>
    intro s axis hhome
    refine (homeEdge_ends hhome).completes ?_
    rw [Dev.axis_setBit, Dev.axis_setAxis]
    exact ⟨rfl, rfl, Dev.bit_setBit_same _ _ _ _ _ (by decide), rfl⟩
  case seek =>
    intro s axis hhome hvel
    refine ⟨_, rfl, rfl, ?_⟩
    simp only [hhome]
    have hset := s.dev.axis_setAxis axis.val { s.dev.axis axis.val with homing := some .brake }
    rw [Dev.atRest_moving ((congrArg Axis.vel hset).trans_ne hvel)]
    exact congrArg Axis.homing hset
  case asb =>
    intro s bus time i hrun hdrives hi hen
    refine ⟨_, rfl, rfl, ?_⟩
    have hdrives' : (s.dev.at time).drives = true := hdrives
    simp only [Dev.at_ctl, hrun, hdrives', Bool.not_true, Bool.false_eq_true, or_self, if_false]
    exact (s.dev.at time).serveBus_sends true hi hen
  case asbIdle =>
    intro s bus time hidle
    have hidle' : (s.dev.at time).ctl.stopped = true ∨ (!(s.dev.at time).drives) = true := hidle.imp_right fun h =>
      congrArg not (show (s.dev.at time).drives = false from h)
    change execAsbCycle bus time s = _
    simp only [execAsbCycle, State.run_eq, if_pos hidle']
  case upGood =>
    intro s axis w hcrc haddr hflags
    exact (asbUpWord_good hcrc haddr hflags).completes ⟨s.dev.load_goodUpWord axis.val w.toNat,
      congrArg Axis.bad (s.dev.axis_goodUpWord axis.val w.toNat), rfl⟩
  case upBad => exact fun s axis => asbUpWord_missing
  case rest =>
    intro s axis
    refine ⟨_, rfl, rfl, ?_⟩
    dsimp only
    split
    case isTrue h =>
      rw [Dev.axis_setAxis]
      exact ⟨by simp [h], rfl⟩
    case isFalse h => exact ⟨by simp [h], rfl⟩

end Sys2Proof.Machine
end

section
open Sys2Proof
namespace Sys2Proof.Machine

/-! ### The control law (R365) -/

theorem clampInt_bounds (x : Int) {lo hi : Int} (h : lo ≤ hi) : lo ≤ clampInt x lo hi ∧ clampInt x lo hi ≤ hi := by
  unfold clampInt
  grind

theorem clampInt_of_within {x lo hi : Int} (hlo : lo ≤ x) (hhi : x ≤ hi) : clampInt x lo hi = x := by
  unfold clampInt
  grind

theorem signedOf_bounds (n : Nat) : -32768 ≤ signedOf 16 n ∧ signedOf 16 n ≤ 32767 := by
  unfold signedOf
  grind

theorem unsignedOf_lt (w : Nat) (x : Int) : unsignedOf w x < 2 ^ w := by
  have hpos : (0 : Int) < ((2 ^ w : Nat) : Int) := by exact_mod_cast Nat.two_pow_pos w
  have hlt : x % ((2 ^ w : Nat) : Int) < ((2 ^ w : Nat) : Int) := Int.emod_lt_of_pos x hpos
  rw [unsignedOf, Int.toNat_lt (Int.emod_nonneg x (ne_of_gt hpos))]
  exact hlt

section
variable {d : Dev} {l : Nat}

/-- The law ends in two values held within their limits. -/
theorem Dev.law_within (frozen : Bool) (h : d.umin l ≤ d.umax l) :
    (d.umin l ≤ (d.law l frozen).u ∧ (d.law l frozen).u ≤ d.umax l) ∧
      d.umin l * 65536 ≤ (d.law l frozen).i ∧ (d.law l frozen).i ≤ d.umax l * 65536 :=
  ⟨clampInt_bounds _ h, clampInt_bounds _ (by omega)⟩

/-- The integrator fits its register. -/
theorem Dev.toInt_law (frozen : Bool) (h : d.umin l ≤ d.umax l) :
    (BitVec.ofInt 64 (d.law l frozen).i).toInt = (d.law l frozen).i := by
  obtain ⟨-, hlo, hhi⟩ := Dev.law_within frozen h
  have hmin : -32768 ≤ d.umin l := (signedOf_bounds _).1
  have hmax : d.umax l ≤ 32767 := (signedOf_bounds _).2
  rw [BitVec.toInt_ofInt]
  exact Int.bmod_eq_of_le (by omega) (by omega)

end

/-! ### Outputs and states of a loop (R361, R369) -/

/-- Registers that are the same read the same. -/
theorem Dev.fld_of_regs {d e : Dev} (h : e.regs = d.regs) (r : Reg) (k l w : Nat) : e.fld r k l w = d.fld r k l w := by
  rw [Dev.fld, Dev.fld, Dev.get, Dev.get, Dev.rd, Dev.rd, h]

theorem Dev.bit_of_regs {d e : Dev} (h : e.regs = d.regs) (r : Reg) (k i : Nat) : e.bit r k i = d.bit r k i :=
  congrArg (· == 1) (Dev.fld_of_regs h r k i 1)

section
variable (d : Dev) (l : Nat) (u : Int)

@[simp] theorem Dev.ctl'_setCtl (x : LoopCtl) : (d.setCtl l x).ctl' l = x := Tab.get_set_same ..

theorem Dev.ctl'_put (r : Reg) (k v : Nat) : (d.put r k v).ctl' l = d.ctl' l := rfl

theorem Dev.loopSt_setCtl (x : LoopCtl) : (d.setCtl l x).loopSt l = d.loopSt l := rfl

/-- An output of a loop leaves, of the registers, all but STATUS.OUT. -/
theorem Dev.regs_loopOut : (d.loopOut l u).regs = (d.setFld .ctlLoopStatus l 0 16 (unsignedOf 16 u)).regs := by
  unfold Dev.loopOut
  dsimp only
  split
  · rfl
  · rfl

theorem Dev.ctl'_loopOut (n : Nat) : (d.loopOut l u).ctl' n = d.ctl' n := by
  unfold Dev.loopOut
  dsimp only
  split
  · rfl
  · rfl

theorem Dev.out_loopOut : (d.loopOut l u).fld .ctlLoopStatus l 0 16 = unsignedOf 16 u := by
  rw [Dev.fld_of_regs (d.regs_loopOut l u), Dev.fld_setFld_same _ _ _ _ _ _ (by decide)]
  exact Nat.mod_eq_of_lt (unsignedOf_lt 16 u)

theorem Dev.loopSt_loopOut : (d.loopOut l u).loopSt l = d.loopSt l :=
  (Dev.fld_of_regs (d.regs_loopOut l u) _ _ _ _).trans (d.fld_setFld_other _ _ _ _ _ _ _ (by decide) (by decide))

theorem Dev.loopSt_setLoopSt {st : Nat} (hst : st < 8) : (d.setLoopSt l st).loopSt l = st := by
  rw [Dev.loopSt, Dev.setLoopSt, Dev.fld_setBit_other _ _ _ _ _ _ _ (by decide) (by decide),
    Dev.fld_setFld_same _ _ _ _ _ _ (by decide)]
  omega

/-! ### Evaluations (R365, R368) -/

/-- An evaluation at the controller that drives, with the repetitive term off. -/
def Dev.evaluated : Dev :=
  (((d.drawn.drawn.setCtl l { d.ctl' l with dterm := (d.law l false).dterm, yPrev := (d.ctl' l).sample }).putInt .ctlLoopInt l
    (d.law l false).i).loopOut l (d.law l false).u).setBit .ctlLoopStatus l 25 false

section
variable {d l}

theorem Dev.evaluate_driving (hdrives : d.drives = true) (hrc : d.rcBin l = none) (hlim : d.umin l ≤ d.umax l) :
    d.evaluate l false = d.evaluated l := by
  obtain ⟨⟨hlo, hhi⟩, -⟩ := Dev.law_within false hlim
  simp [Dev.evaluate, hdrives, hrc, clampInt_of_within hlo hhi, Dev.evaluated]

/-- An evaluation in RUN with fresh feedback goes by the law. -/
theorem Dev.evalLoop_running {t : Nat} (hst : d.loopSt l = 1) (hstale : d.fbStale l t = false) (hfrozen : d.fbFrozen l = false) :
    d.evalLoop l t = d.evaluate l false := by
  simp [Dev.evalLoop, hst, Dev.evalRun, hstale, hfrozen]

end

theorem Dev.int_evaluated (hlim : d.umin l ≤ d.umax l) : (d.evaluated l).getInt .ctlLoopInt l = (d.law l false).i := by
  refine Eq.trans ?_ (Dev.toInt_law false hlim)
  refine congrArg BitVec.toInt ((Dev.rd_wr_reg _ _ _ _ (by decide)).trans ?_)
  rw [Dev.rd, Dev.regs_loopOut]
  exact (Dev.rd_wr_reg _ _ _ _ (by decide)).trans (Dev.rd_wr_same _ _ _ _)

theorem Dev.out_evaluated : (d.evaluated l).fld .ctlLoopStatus l 0 16 = unsignedOf 16 (d.law l false).u :=
  (Dev.fld_setBit_other _ _ _ _ _ _ _ (by decide) (by decide)).trans (Dev.out_loopOut _ _ _)

theorem Dev.loopSt_evaluated : (d.evaluated l).loopSt l = d.loopSt l :=
  ((Dev.fld_setBit_other _ _ _ _ _ _ _ (by decide) (by decide)).trans (Dev.loopSt_loopOut _ _ _)).trans
    (congrArg (bits · 29 3) (congrArg BitVec.toNat (Dev.rd_wr_reg _ _ _ _ (by decide))))

theorem Dev.ctl'_evaluated :
    (d.evaluated l).ctl' l = { d.ctl' l with dterm := (d.law l false).dterm, yPrev := (d.ctl' l).sample } :=
  (Dev.ctl'_loopOut _ _ _ _).trans (Dev.ctl'_setCtl ..)

/-- What a missed evaluation marks (R368). -/
def Dev.noteMissed : Dev := ((d.setBit .ctlLoopStatus l 26 true).count .ctlLoopMissed l).event .ctlEvent 0 0

theorem Dev.regs_missLoop : (d.missLoop l).regs = (d.noteMissed l).regs := by
  unfold Dev.missLoop
  dsimp only
  split
  · rfl
  · rfl

theorem Dev.noteMissed_marks : (d.noteMissed l).bit .ctlLoopStatus l 26 = true ∧ (d.noteMissed l).bit .ctlEvent 0 0 = true ∧
    (d.noteMissed l).get .ctlLoopMissed l = satAdd 32 (d.get .ctlLoopMissed l) 1 := by
  refine ⟨?_, Dev.bit_event_same _ _ _ _ (by decide), ?_⟩
  · refine (Dev.bit_event (r := .ctlEvent) _ 0 0 rfl rfl).trans ?_
    refine Eq.trans ?_ (Dev.bit_setBit_same d .ctlLoopStatus l 26 true (by decide))
    exact congrArg (fun v => bits (BitVec.toNat v) 26 1 == 1) (Dev.rd_wr_reg _ _ _ _ (by decide))
  · refine (Dev.get_event (r := .ctlEvent) _ 0 0 rfl rfl).trans ((Dev.get_count_same _ _ _).trans ?_)
    exact congrArg (satAdd 32 · 1) (Dev.get_put_reg _ _ _ _ (by decide))

/-! ### SAFE (R369, R371) -/

/-- A loop goes to SAFE: its output is SAFE_OUT. -/
def Dev.toSafe : Dev := (((d.setLoopSt l 4).loopOut l (d.safeOut l)).event .ctlEvent 0 2).raise .ctlSafe l

/-- A port that leaves FIRING as for a fault. -/
def Dev.faulted (d : Dev) (n : Nat) : Dev := (d.maskFault n).setLink n 3

def faultedReach : Reach := .of [maskFaultReach, setLinkReach none]

theorem Footprint.holds.faulted {F : Footprint} {d e : Dev} {n : Nat} (he : F.holds d e) (h : faultedReach.within F d) :
    F.holds d (e.faulted n) :=
  have ⟨hmaskFault, hsetLink, _⟩ := h
  (he.maskFault hmaskFault).setLink hsetLink .any

theorem Dev.raised_toSafe : (ECode.ctlSafe, l) ∈ (d.toSafe l).raised := List.mem_append_right _ List.mem_cons_self

def capHeadReach : Reach := .of [faultedReach, clearHeadReach]

theorem Footprint.holds.capHead {F : Footprint} {d e : Dev} {n : Nat} (he : F.holds d e) (h : capHeadReach.within F d) :
    F.holds d (e.capHead n) :=
  have ⟨hfaulted, hclearHead, _⟩ := h
  (holds_ite (he.faulted hfaulted) he).clearHead hclearHead

theorem Dev.raises_capHead (n : Nat) : Raises d (d.capHead n) := by
  have hfaulted : Raises d (d.faulted n) :=
    (Raises.refl d).reach (x := faultedReach) rfl rfl (Footprint.holds_refl _ d).faulted
  exact (Raises.ite hfaulted (.refl d)).trans ((KeepsPair.refl _).clearHead).raised

/-- The ports that a capping loop keeps out of FIRING leave it. -/
def Dev.capHeads (ns : List Nat) : Dev := d.each ns Dev.capHead

theorem Dev.fld_capHeads (ns : List Nat) {r : Reg} {k lsb w : Nat} (hs : capHeadReach.spares r k lsb w = true) :
    (d.capHeads ns).fld r k lsb w = d.fld r k lsb w :=
  Dev.fld_spared (x := capHeadReach) rfl hs fun h => (Footprint.holds_refl _ d).each fun _ _ ho => ho.capHead h

theorem Dev.raises_capHeads (ns : List Nat) : Raises d (d.capHeads ns) := (Raises.refl d).each Dev.raises_capHead

theorem Dev.toSafe_shows : (d.toSafe l).loopSt l = 4 ∧
    (d.toSafe l).fld .ctlLoopStatus l 0 16 = unsignedOf 16 (d.safeOut l) ∧ (d.toSafe l).bit .ctlEvent 0 2 = true := by
  have hevent (lsb w : Nat) : (d.toSafe l).fld .ctlLoopStatus l lsb w =
      ((d.setLoopSt l 4).loopOut l (d.safeOut l)).fld .ctlLoopStatus l lsb w := Dev.fld_event _ _ _ rfl rfl
  exact ⟨(hevent _ _).trans ((Dev.loopSt_loopOut _ _ _).trans (d.loopSt_setLoopSt l (by decide))),
    (hevent _ _).trans (Dev.out_loopOut _ _ _), Dev.bit_event_same _ _ _ _ (by decide)⟩

end
section
variable {s : State} {loop : Fin 256}

theorem loopEvaluate_runs {missed : Bool} {time : Nat} (hon : s.dev.loopOn loop.val = true) (hbreath : s.dev.breath = 0) :
    Yields (.loopEvaluate loop missed time) s
      (if missed then (s.dev.at time).missLoop loop.val else (s.dev.at time).evalLoop loop.val (s.dev.at time).now) := by
  have hcond : ¬((!(s.dev.at time).loopOn loop.val) = true ∨ (s.dev.at time).breath ≠ 0) := by
    have hon' : (s.dev.at time).loopOn loop.val = true := hon
    have hbreath' : (s.dev.at time).breath = 0 := hbreath
    simp [hon', hbreath']
  change execLoopEvaluate loop missed time s = _
  simp only [execLoopEvaluate, State.run_eq, if_neg hcond]

theorem loopEvaluate_ignored {missed : Bool} {time : Nat} (h : s.dev.loopOn loop.val = false ∨ s.dev.breath ≠ 0) :
    Yields (.loopEvaluate loop missed time) s (s.dev.at time) := by
  have hcond : (!(s.dev.at time).loopOn loop.val) = true ∨ (s.dev.at time).breath ≠ 0 :=
    h.imp_left fun h => congrArg not (show (s.dev.at time).loopOn loop.val = false from h)
  change execLoopEvaluate loop missed time s = _
  simp only [execLoopEvaluate, State.run_eq, if_pos hcond]

/-- A loop in HOLD goes to SAFE, and keeps its ports out of FIRING where it is a capping one. -/
theorem loopSafeTimeout_goes (hst : s.dev.loopSt loop.val = 3) (hbreath : s.dev.breath = 0) :
    ∃ ns, Yields (.loopSafeTimeout loop) s ((s.dev.toSafe loop.val).capHeads ns) := by
  have hcond : ¬(s.dev.loopSt loop.val ≠ 3 ∨ s.dev.breath ≠ 0) := by simp [hst, hbreath]
  by_cases hcap : (s.dev.toSafe loop.val).capping loop.val = true
  · refine ⟨(List.range 192).filter fun n => bitOf ((s.dev.toSafe loop.val).cfg .headMask loop.val) n, ?_⟩
    change execLoopSafeTimeout loop s = _
    simp only [execLoopSafeTimeout, State.run_eq, if_neg hcond]
    exact congrArg (fun d => Host.Outcome.next { s with dev := d }) (if_pos hcap)
  · refine ⟨[], ?_⟩
    change execLoopSafeTimeout loop s = _
    simp only [execLoopSafeTimeout, State.run_eq, if_neg hcond]
    exact congrArg (fun d => Host.Outcome.next { s with dev := d }) (if_neg hcap)

theorem loopSafeTimeout_ignored (hst : s.dev.loopSt loop.val ≠ 3) : Yields (.loopSafeTimeout loop) s s.dev := by
  change execLoopSafeTimeout loop s = _
  simp only [execLoopSafeTimeout, State.run_eq, if_pos (Or.inl hst)]

theorem loopResume_goes {req : Fin 5} (hst : s.dev.loopSt loop.val = 4) : Yields (.loopResume req loop) s
    (if s.dev.fbStale loop.val s.dev.now ∨ s.dev.fbFrozen loop.val then s.dev.refuse req.val .ctlFb
      else (s.dev.setLoopSt loop.val 0).setCtl loop.val { s.dev.ctl' loop.val with safeOut := none }) := by
  change execLoopResume req loop s = _
  simp only [execLoopResume, State.run_eq, if_neg (not_not.mpr hst)]

theorem loopResume_ignored {req : Fin 5} (hst : s.dev.loopSt loop.val ≠ 4) : Yields (.loopResume req loop) s s.dev := by
  change execLoopResume req loop s = _
  simp only [execLoopResume, State.run_eq, if_pos hst]

/-! ### The repetitive table (Table 14.10, R7) -/

/-- The bin that CTL_RC_ADDR names, as its words show it. -/
def Dev.rcOld (d : Dev) : Nat := unsignedOf 64 ((d.ctl' (d.fld .ctlRcAddr 0 0 16 / 256)).bin (d.fld .ctlRcAddr 0 0 16 % 256))

/-- The address after the high word. -/
def Dev.rcNext (d : Dev) : Nat := (d.fld .ctlRcAddr 0 0 16 + 1) % 65536

theorem Dev.get_rcNext (d e : Dev) : (e.put .ctlRcAddr 0 d.rcNext).get .ctlRcAddr 0 = d.rcNext := by
  rw [Dev.get_put_same, Dev.rcNext]
  omega

theorem rcRead_low {req : Fin 5} : Completes (.ctlRcDataAccess req false none) s fun e =>
    e.outs = s.dev.outs ++ [.readData req.val 0x6c004 (s.dev.rcOld % 2 ^ 32)] ∧
    Tab.find e.latch 0x6c008 = some (s.dev.rcOld / 2 ^ 32) ∧ e.get .ctlRcAddr 0 = s.dev.get .ctlRcAddr 0 ∧
    e.ctl = s.dev.ctl :=
  ⟨_, rfl, rfl, rfl, Tab.find_set_same _ _ _, rfl, rfl⟩

/-- A read of the high word gives what is latched, which is then used up, or else the word as it stands. -/
theorem Dev.rcRead_high (d : Dev) (q v : Nat) :
    (d.rcRead q true v).outs = d.outs ++ [.readData q 0x6c008 (match Tab.find d.latch 0x6c008 with
      | some x => x
      | none => v / 2 ^ 32)] ∧ Tab.find (d.rcRead q true v).latch 0x6c008 = none ∧ (d.rcRead q true v).ctl = d.ctl := by
  rw [Dev.rcRead]
  simp only [if_true, rcDataAddr]
  cases h : Tab.find d.latch 0x6c008 with
  | some x => exact ⟨rfl, Tab.find_erase_same _ _, rfl⟩
  | none => exact ⟨rfl, h, rfl⟩

theorem rcRead_high {req : Fin 5} : Completes (.ctlRcDataAccess req true none) s fun e =>
    e.outs = s.dev.outs ++ [.readData req.val 0x6c008 (match Tab.find s.dev.latch 0x6c008 with
      | some x => x
      | none => s.dev.rcOld / 2 ^ 32)] ∧
    Tab.find e.latch 0x6c008 = none ∧ e.get .ctlRcAddr 0 = s.dev.rcNext ∧ e.ctl = s.dev.ctl := by
  obtain ⟨houts, hlatch, hctl⟩ := s.dev.rcRead_high req.val s.dev.rcOld
  exact ⟨_, rfl, rfl, houts, hlatch, Dev.get_rcNext _ _, hctl⟩

/-- A word of the bin that CTL_RC_ADDR names is written, or refused while the loop runs. -/
def Dev.rcWrite (d : Dev) (q : Nat) (high : Bool) (v : Nat) : Dev :=
  let a := d.fld .ctlRcAddr 0 0 16
  if d.loopOn (a / 256) then d.refuse q .ctlRunning
  else d.setCtl (a / 256) { d.ctl' (a / 256) with
    bins := Tab.set (d.ctl' (a / 256)).bins (a % 256) (signedOf 48 (setBits d.rcOld (if high then 32 else 0) 32 v % 2 ^ 48)) }

theorem rcWrite_yields {req : Fin 5} {high : Bool} {v : Word} : Yields (.ctlRcDataAccess req high (some v)) s
    (if high then (s.dev.rcWrite req.val high v.toNat).put .ctlRcAddr 0 s.dev.rcNext else s.dev.rcWrite req.val high v.toNat) :=
  rfl

/-- A write leaves CTL_RC_ADDR. -/
theorem Dev.rcAddr_rcWrite (d : Dev) (q : Nat) (high : Bool) (v : Nat) :
    (d.rcWrite q high v).fld .ctlRcAddr 0 0 16 = d.fld .ctlRcAddr 0 0 16 := by
  unfold Dev.rcWrite
  dsimp only
  split
  · exact congrArg (bits · 0 16) (d.get_put_reg _ _ _ (by decide))
  · rfl

/-- The bin that is written, or the refusal. -/
theorem Dev.rcWrite_outcome (d : Dev) (q : Nat) (high : Bool) (v : Nat) :
    if d.loopOn (d.fld .ctlRcAddr 0 0 16 / 256) then
      (d.rcWrite q high v).ctl = d.ctl ∧ (d.rcWrite q high v).get .glbLastErr q = ECode.ctlRunning.code.toNat
    else ((d.rcWrite q high v).ctl' (d.fld .ctlRcAddr 0 0 16 / 256)).bin (d.fld .ctlRcAddr 0 0 16 % 256) =
      signedOf 48 (setBits d.rcOld (if high then 32 else 0) 32 v % 2 ^ 48) := by
  unfold Dev.rcWrite
  dsimp only
  split
  · exact ⟨rfl, Dev.get_put_same _ _ _ _⟩
  · rw [Dev.ctl'_setCtl]
    exact congrArg (Option.getD · 0) (Tab.find_set_same _ _ _)

/-! ### Frames of the loop ports (R360, R361) -/

section
variable (d : Dev) (p r : Nat)

theorem Dev.lspResponse_unasked (h : (d.lspPort p).asked = none) : d.lspResponse p r = d := by
  rw [Dev.lspResponse, h]

theorem Dev.lspResponse_badCrc {c : Nat} (h : (d.lspPort p).asked = some c)
    (hcrc : crcMsb 8 0x07 0 (beBytes (r / 256) 4) ≠ r % 256) : d.lspResponse p r = d.count .lspCrcErr p := by
  rw [Dev.lspResponse, h]
  exact if_neg hcrc

theorem Dev.lspPort_setLsp (x : LspPort) : (d.setLsp p x).lspPort p = x := Tab.get_set_same ..

/-- The oldest waiting write is sent first. -/
theorem Dev.lspSend_writes {c : Nat} {u : Int} {rest : List (Nat × Int)} (h : (d.lspPort p).writes = (c, u) :: rest) :
    d.lspSend p = (d.setLsp p { d.lspPort p with writes := rest, asked := none }).send
      (.lsp p (lspBits (2 ^ 31 + c <<< 24 + unsignedOf 16 u <<< 8))) := by
  rw [Dev.lspSend]
  simp only [h]

/-- Neither half of a frame touches the counts. -/
theorem Dev.get_lspHalf (line : Option Nat) (q : Reg) (k : Nat) :
    (if d.drives then d.lspSend p else d.lspHear p line).get q k = d.get q k :=
  Dev.get_spared (x := .of [lspSendReach, lspHearReach]) rfl rfl fun h =>
    have ⟨hsend, hhear, _⟩ := h
    holds_ite ((Footprint.holds_refl _ d).lspSend hsend) ((Footprint.holds_refl _ d).lspHear hhear)

end

theorem lspFrame_running {port : Fin 8} {line : Option Word} {response : BitVec 40} {e : Dev}
    (hrun : s.dev.ctl.stopped = false) (he : s.dev.lspResponse port.val response.toNat = e) :
    Yields (.lspFrame port line response) s
      (if e.drives then e.lspSend port.val else e.lspHear port.val (line.map BitVec.toNat)) := by
  change execLspFrame port line response s = _
  simp only [execLspFrame, State.run_eq, hrun, Bool.false_eq_true, if_false, he]

theorem lspFrame_stopped {port : Fin 8} {line : Option Word} {response : BitVec 40} (h : s.dev.ctl.stopped = true) :
    Yields (.lspFrame port line response) s s.dev := by
  change execLspFrame port line response s = _
  simp only [execLspFrame, State.run_eq, h, if_true]

end

/-- Settles O46: the law clamps its output and its integrator, an evaluation in RUN is the law's, and each other command
of a loop or a loop port writes what its case says. -/
theorem loopsEvaluateHoldAndResume : Obligations.LoopsEvaluateHoldAndResume := by
  refine ⟨?law, ?evaluate, ?missed, ?ignored, ?safe, ?resume, ?elsewhere, ?setpoint, ?readLow, ?readHigh, ?write, ?sends,
    ?badCrc, ?stopped⟩
  case law =>
    intro d l frozen h
    obtain ⟨⟨hlo, hhi⟩, hi⟩ := Dev.law_within frozen h
    exact ⟨hlo, hhi, hi⟩
  case evaluate =>
    intro s loop time hon hbreath hst hdrives hstale hfrozen hrc hlim
    have hlim' : (s.dev.at time).umin loop.val ≤ (s.dev.at time).umax loop.val := hlim
    have hdrives' : (s.dev.at time).drives = true := hdrives
    refine (loopEvaluate_runs hon hbreath).completes ?_
    rw [if_neg Bool.false_ne_true, Dev.evalLoop_running (d := s.dev.at time) hst hstale hfrozen, Dev.evaluate_driving hdrives' hrc hlim',
      Dev.int_evaluated _ _ hlim', Dev.out_evaluated, Dev.ctl'_evaluated, Dev.loopSt_evaluated]
    exact ⟨rfl, rfl, rfl, rfl, hst⟩
  case missed =>
    intro s loop time hon hbreath
    have hregs := (s.dev.at time).regs_missLoop loop.val
    obtain ⟨hmark, hevent, hcount⟩ := (s.dev.at time).noteMissed_marks loop.val
    refine (loopEvaluate_runs hon hbreath).completes ?_
    rw [if_pos rfl, Dev.bit_of_regs hregs, Dev.bit_of_regs hregs, Dev.get, Dev.rd, hregs]
    exact ⟨hmark, hevent, hcount⟩
  case ignored => exact fun s loop missed time h => loopEvaluate_ignored h
  case safe =>
    intro s loop hst hbreath
    obtain ⟨ns, hgoes⟩ := loopSafeTimeout_goes hst hbreath
    obtain ⟨hstate, hout, hevent⟩ := s.dev.toSafe_shows loop.val
    have hstatus (lsb w : Nat) : ((s.dev.toSafe loop.val).capHeads ns).fld .ctlLoopStatus loop.val lsb w =
        (s.dev.toSafe loop.val).fld .ctlLoopStatus loop.val lsb w := Dev.fld_capHeads _ ns rfl
    have hbit : ((s.dev.toSafe loop.val).capHeads ns).fld .ctlEvent 0 2 1 = (s.dev.toSafe loop.val).fld .ctlEvent 0 2 1 :=
      Dev.fld_capHeads _ ns rfl
    have hraised : (ECode.ctlSafe, loop.val) ∈ (s.dev.toSafe loop.val).raised := s.dev.raised_toSafe loop.val
    exact hgoes.completes ⟨(hstatus 29 3).trans hstate, (hstatus 0 16).trans hout, (congrArg (· == 1) hbit).trans hevent,
      Dev.raises_capHeads _ ns hraised⟩
  case resume =>
    intro s req loop hst
    refine (loopResume_goes hst).completes ?_
    split
    · rfl
    · rw [Dev.ctl'_setCtl, Dev.loopSt_setCtl, Dev.loopSt_setLoopSt _ _ (by decide)]
      exact ⟨rfl, rfl⟩
  case elsewhere => exact fun s req loop hsafe hhold => ⟨loopResume_ignored hsafe, loopSafeTimeout_ignored hhold⟩
  case setpoint => exact fun s loop value => rfl
  case readLow => exact fun s req => rcRead_low
  case readHigh => exact fun s req => rcRead_high
  case write =>
    rintro s req high v l b rfl rfl
    have haddr := s.dev.rcAddr_rcWrite req.val high v.toNat
    have hlt : s.dev.fld .ctlRcAddr 0 0 16 < 65536 := bits_lt _ 0 16
    have hwritten := s.dev.rcWrite_outcome req.val high v.toNat
    refine rcWrite_yields.completes ?_
    cases high with
    | false => exact ⟨by simp [haddr, Nat.mod_eq_of_lt hlt], hwritten⟩
    | true =>
      rw [if_pos rfl, Dev.put_ctl, Dev.ctl'_put, Dev.get_put_reg _ _ _ _ (by decide)]
      exact ⟨(congrArg (bits · 0 16) (Dev.get_rcNext _ _)).trans
        ((congrArg (· % 65536) (Nat.shiftRight_zero ..)).trans (Nat.mod_mod _ _)), hwritten⟩
  case sends =>
    intro s port line response c u rest hrun hdrives hasked hwrites
    refine (lspFrame_running hrun (s.dev.lspResponse_unasked _ _ hasked)).completes ?_
    rw [if_pos hdrives, Dev.lspSend_writes _ _ hwrites]
    exact ⟨rfl, congrArg LspPort.writes (s.dev.lspPort_setLsp _ _), congrArg LspPort.asked (s.dev.lspPort_setLsp _ _)⟩
  case badCrc =>
    intro s port line response c hrun hasked hcrc
    refine (lspFrame_running hrun (s.dev.lspResponse_badCrc _ _ hasked hcrc)).completes ?_
    rw [Dev.get_lspHalf]
    exact Dev.get_count_same _ _ _
  case stopped => exact fun s port line response h => lspFrame_stopped h

end Sys2Proof.Machine
end

section
open Sys2Proof
namespace Sys2Proof.Machine

/-! ### The bits of a task (R339) -/

section
variable (d : Dev) (t : Nat)

theorem Dev.bit_eq_testBit (r : Reg) (k i : Nat) : d.bit r k i = (d.get r k).testBit i := by
  rw [Nat.testBit_eq_decide_div_mod_eq, Dev.bit, Dev.fld, bits, Nat.shiftRight_eq_div_pow]
  rfl

theorem Dev.taskBit_of_fld {l w v i : Nat} (h : d.fld .pwrTaskStatus t l w = v) (hl : l ≤ i) (hw : i < l + w) :
    d.taskBit t i = v.testBit (i - l) := by
  have hin : i - l < w := by omega
  have hbit : (d.fld .pwrTaskStatus t l w).testBit (i - l) = (d.get .pwrTaskStatus t).testBit i := by
    simp [Dev.fld, testBit_bits, hin, hl]
  rw [← h, hbit, Dev.taskBit, Dev.bit_eq_testBit]

/-- A task is active in one of PAUSED, WAITING and RUNNING. -/
theorem Dev.taskActive_eq : d.taskActive t = (d.taskBit t 28 || d.taskBit t 29 || d.taskBit t 30) := by
  have hlt : d.fld .pwrTaskStatus t 28 3 < 8 := bits_lt _ _ _
  have hbits : ∀ v < 8, (v != 0) = (v.testBit 0 || v.testBit 1 || v.testBit 2) := by decide
  rw [d.taskBit_of_fld t (l := 28) (w := 3) (i := 28) rfl (by decide) (by decide),
    d.taskBit_of_fld t (l := 28) (w := 3) (i := 29) rfl (by decide) (by decide),
    d.taskBit_of_fld t (l := 28) (w := 3) (i := 30) rfl (by decide) (by decide)]
  exact hbits _ hlt

theorem Dev.taskBit_setBit (i : Nat) (b : Bool) {k : Nat} (hi : i < 64) :
    (d.setBit .pwrTaskStatus t i b).taskBit t k = if k = i then b else d.taskBit t k := by
  split
  case isTrue h => rw [h]; exact Dev.bit_setBit_same _ _ _ _ _ hi
  case isFalse h => exact Dev.bit_setBit_other _ _ _ _ _ hi h

theorem Dev.taskBit_setTask (u : Nat) (x : Task) (k : Nat) : (d.setTask u x).taskBit t k = d.taskBit t k := rfl

@[simp] theorem Dev.task_setTask (x : Task) : (d.setTask t x).task t = x := Tab.get_set_same ..

/-- A task stands in the one state that is named. -/
theorem Dev.taskBit_taskStand (i k : Nat) :
    (d.taskStand t i).taskBit t k = if 28 ≤ k ∧ k ≤ 30 then k == i else d.taskBit t k := by
  have h28 : (28 : Nat) < 64 := by decide
  have h29 : (29 : Nat) < 64 := by decide
  have h30 : (30 : Nat) < 64 := by decide
  simp only [Dev.taskStand, List.foldl_cons, List.foldl_nil, Dev.taskBit_setBit _ _ _ _ h28, Dev.taskBit_setBit _ _ _ _ h29,
    Dev.taskBit_setBit _ _ _ _ h30]
  grind

theorem Dev.task_setBit (r : Reg) (k i : Nat) (b : Bool) (u : Nat) : (d.setBit r k i b).task u = d.task u := rfl

theorem Dev.task_taskStand (i u : Nat) : (d.taskStand t i).task u = d.task u := rfl

/-- A task that falls due while it is idle waits with its deadline. -/
theorem Dev.taskDue_idle {deadline : Option Nat} (h : d.taskActive t = false) : d.taskDue t deadline =
    (d.setTask t { d.task t with due := [deadline], missed := false, told := false }).taskStand t 29 :=
  if_neg (by simp [h])

/-- One of tasks 0 to 4 that is active stays as it is. -/
theorem Dev.taskDue_active {deadline : Option Nat} (h : d.taskActive t = true) (ht : t ≤ 4) : d.taskDue t deadline = d :=
  (if_pos h).trans (if_pos ht)

/-! ### Tasks that end (R359) -/

/-- A task is rid of a request and counted. -/
def Dev.taskLeft : Dev :=
  (((d.count .pwrTaskRuns t).setTask t { due := (d.task t).due.drop 1, missed := false, told := false, last := some d.now }).put
    .pwrTaskStatus t 0).put .pwrTaskLastMs t 0

/-- It waits for the next one. -/
def Dev.taskNext : Dev := if ((d.task t).due.drop 1).isEmpty then d.taskLeft t else (d.taskLeft t).taskStand t 29

theorem Dev.taskBit_taskLeft (k : Nat) : (d.taskLeft t).taskBit t k = false := by
  rw [Dev.taskBit, Dev.bit_eq_testBit, Dev.taskLeft, Dev.get_put_reg _ _ _ _ (by decide), Dev.get_put_same]
  exact Nat.zero_testBit k

theorem Dev.taskBit_taskNext {k : Nat} (hlo : 28 ≤ k) (hhi : k ≤ 30) :
    (d.taskNext t).taskBit t k = (k == 29 && !((d.task t).due.drop 1).isEmpty) := by
  unfold Dev.taskNext
  split
  case isTrue h => rw [Dev.taskBit_taskLeft, h, Bool.not_true, Bool.and_false]
  case isFalse h => rw [Dev.taskBit_taskStand, if_pos ⟨hlo, hhi⟩, Bool.eq_false_iff.mpr h, Bool.not_false, Bool.and_true]

theorem Dev.task_taskNext : (d.taskNext t).task t =
    { due := (d.task t).due.drop 1, missed := false, told := false, last := some d.now } := by
  have hleft : (d.taskLeft t).task t =
    { due := (d.task t).due.drop 1, missed := false, told := false, last := some d.now } := by
    simp [Dev.taskLeft, Dev.task, Dev.setTask, Tab.get_set_same]
  unfold Dev.taskNext
  split
  · exact hleft
  · rw [Dev.task_taskStand]
    exact hleft

theorem Dev.runs_taskNext : (d.taskNext t).get .pwrTaskRuns t = satAdd 32 (d.get .pwrTaskRuns t) 1 := by
  have hleft : (d.taskLeft t).get .pwrTaskRuns t = satAdd 32 (d.get .pwrTaskRuns t) 1 := by
    rw [Dev.taskLeft, Dev.get_put_reg _ _ _ _ (by decide), Dev.get_put_reg _ _ _ _ (by decide)]
    exact Dev.get_count_same _ _ _
  have hstand : ((d.taskLeft t).taskStand t 29).get .pwrTaskRuns t = (d.taskLeft t).get .pwrTaskRuns t :=
    Dev.get_spared (x := taskStandReach none) rfl rfl fun h => (Footprint.holds_refl _ _).taskStand h .any
  unfold Dev.taskNext
  split
  · exact hleft
  · exact hstand.trans hleft

/-- What the completion of tasks 0, 2 and 4 shows elsewhere. -/
def Dev.taskTold (d : Dev) (t : Nat) : Dev :=
  if t = 2 then d.event .lneGlbEvent 0 0
  else if t = 4 then d.setBit .calEvent 0 2 true
  else if t = 0 then d.put .dmcScrubPass 0 ((d.now - d.dmc.passStart) / 1000000000000)
  else d

theorem Dev.taskDone_eq : d.taskDone t = (d.taskNext t).taskTold t := rfl

def taskToldReach : Reach :=
  .of [eventReach .lneGlbEvent none 0, .field .calEvent none 2 1, .reg .dmcScrubPass none]

theorem Footprint.holds.taskTold {F : Footprint} {d e : Dev} {t : Nat} (he : F.holds d e) (h : taskToldReach.within F d) :
    F.holds d (e.taskTold t) :=
  have ⟨hevent, hcal, hpass, _⟩ := h
  holds_ite (he.event hevent .any) (holds_ite (he.setBit hcal .any) (holds_ite (he.put hpass .any) he))

/-- A completion leaves every register beside its own. -/
theorem Dev.fld_taskTold {r : Reg} {k l w : Nat} (hs : taskToldReach.spares r k l w = true) :
    (d.taskTold t).fld r k l w = d.fld r k l w :=
  Dev.fld_spared (x := taskToldReach) rfl hs (Footprint.holds_refl _ d).taskTold

theorem Dev.pwr_taskTold : (d.taskTold t).pwr = d.pwr :=
  Dev.area_spared (p := .pwr) (x := taskToldReach) rfl rfl (Footprint.holds_refl _ d).taskTold

/-- A task that is done counts a run, drops its request, and waits where another one stands. -/
theorem Dev.taskDone_counts : (d.taskDone t).get .pwrTaskRuns t = satAdd 32 (d.get .pwrTaskRuns t) 1 ∧
    (d.taskDone t).taskBit t 30 = false ∧
    (d.taskDone t).task t = { due := (d.task t).due.drop 1, missed := false, told := false, last := some d.now } ∧
    (d.taskDone t).taskBit t 29 = !((d.task t).due.drop 1).isEmpty := by
  have hbit (k : Nat) (hlo : 28 ≤ k) (hhi : k ≤ 30) :
      (d.taskDone t).taskBit t k = (k == 29 && !((d.task t).due.drop 1).isEmpty) :=
    (congrArg (· == 1) (Dev.fld_taskTold (d.taskNext t) t (l := k) (w := 1) rfl)).trans (d.taskBit_taskNext t hlo hhi)
  refine ⟨?_, hbit 30 (by decide) (by decide), ?_, hbit 29 (by decide) (by decide)⟩
  · rw [← Dev.fld_whole]
    exact (Dev.fld_taskTold (d.taskNext t) t rfl).trans ((Dev.fld_whole _ _ _).trans (d.runs_taskNext t))
  · rw [Dev.taskDone_eq, Dev.task, Dev.pwr_taskTold]
    exact d.task_taskNext t

end

/-! ### An estimate (R337) -/

theorem Dev.each_eq_self {d : Dev} {f : Dev → Nat → Dev} {ns : List Nat} (h : ∀ n ∈ ns, f d n = d) : d.each ns f = d := by
  induction ns with
  | nil => rfl
  | cons n ns ih =>
    have hn : f d n = d := h n List.mem_cons_self
    change (f d n).each ns f = d
    rw [hn]
    exact ih fun m hm => h m (List.mem_cons_of_mem n hm)

/-- A cell that a loop writes once reads as it was written. -/
theorem Dev.get_each_put_mem {ns : List Nat} (d : Dev) (r : Reg) (f : Nat → Nat) {k : Nat} (hk : k ∈ ns) :
    (d.each ns fun d i => d.put r i (f i)).get r k = f k % 2 ^ 64 := by
  refine Dev.each_of_mem (P := fun _ => True) (Q := fun e => e.get r k = f k % 2 ^ 64) hk trivial (fun _ _ _ => trivial)
    (fun e _ => Dev.get_put_same _ _ _ _) fun e n _ hq => ?_
  by_cases hn : k = n
  · rw [hn]
    exact Dev.get_put_same _ _ _ _
  · exact (Dev.get_put_num _ _ _ hn).trans hq

theorem foldl_max_lt {xs : List Nat} {a n : Nat} (ha : a < n) (h : ∀ x ∈ xs, x < n) : xs.foldl max a < n := by
  induction xs generalizing a with
  | nil => exact ha
  | cons x xs ih => exact ih (max_lt ha (h x List.mem_cons_self)) fun y hy => h y (List.mem_cons_of_mem x hy)

section
variable (d : Dev)

/-- The temperatures of an estimate: a sensor that gives none keeps its own. -/
def Dev.temps (tj : List (BitVec 11)) : List Nat := (List.range 8).map fun i => ((tj[i]?).map BitVec.toNat).getD (d.get .pwrTj i)

/-- The registers of an estimate: E, the temperatures, TJ and OVER. -/
def Dev.measured (e : Nat) (ts : List Nat) : Dev :=
  (((d.put .pwrEstimate 0 e).each (List.range 8) fun d i => d.put .pwrTj i (ts.getD i 0)).setFld .pwrStatus 0 0 11
    (ts.foldl max 0)).setBit .pwrStatus 0 25 (decide (d.pwrLimit < e))

/-- No thermal limit is reached or in force (Table 13.3). -/
def Dev.cool (tj : Nat) : Prop :=
  tj < 900 ∧ d.pwr.warm = false ∧ d.bit .pwrStatus 0 26 = false ∧ d.pwr.thermStop = false ∧ d.pwr.tripped = false ∧
    d.pwr.selfDue = false

variable {d}

/-- With no thermal limit reached the thermal actions set nothing but HOT, to 0. -/
theorem Dev.thermalAct_cool {tj : Nat} (h : d.cool tj) : d.thermalAct tj = d.setBit .pwrStatus 0 26 false := by
  obtain ⟨htj, hwarm, hhot, hstop, htrip, hself⟩ := h
  have hpwr : { d.pwr with warm := false } = d.pwr := by rw [← hwarm]
  have hcold (limit : Nat) (hlimit : 950 ≤ limit) : thermal false tj limit = false := by
    simp [thermal]
    omega
  have hwarmed : d.thermalWarm tj = d.setBit .pwrStatus 0 26 false := by
    simp [Dev.thermalWarm, hwarm, hhot, hcold, hpwr]
  have hcool : { d.pwr with thermStop := false, tripped := false, selfDue := false } = d.pwr := by
    cases hp : d.pwr
    simp_all
  have hcold' : (d.setBit .pwrStatus 0 26 false).bit .pwrStatus 0 26 = false := Dev.bit_setBit_same _ _ _ _ _ (by decide)
  rw [Dev.thermalAct, hwarmed]
  simp only [Dev.setBit_pwr, hstop, htrip, hself, hcold', Dev.thermalBack, hcold 1100 (by decide), hcold 1250 (by decide),
    Bool.and_false, Bool.false_and, Bool.not_false, Bool.false_eq_true, if_false, true_or, if_true]
  split
  · rfl
  · exact congrArg (fun p => { d.setBit .pwrStatus 0 26 false with pwr := p }) hcool

/-- An estimate with no thermal limit reached: its registers and PWR_DELTA_BYTES. -/
def Dev.estimated (d : Dev) (e : Nat) (ts : List Nat) (delta : Nat) : Dev :=
  ((d.measured e ts).setBit .pwrStatus 0 26 false).put .pwrDeltaBytes 0 delta

def measuredReach : Reach :=
  .of [.reg .pwrEstimate (some 0), .reg .pwrTj none, .field .pwrStatus (some 0) 0 11, .field .pwrStatus (some 0) 25 1]

theorem Footprint.holds.measured {F : Footprint} {d e : Dev} {v : Nat} {ts : List Nat} (he : F.holds d e)
    (h : measuredReach.within F d) : F.holds d (e.measured v ts) :=
  have ⟨hestimate, htj, hmax, hover, _⟩ := h
  (((he.put hestimate .self).each fun _ _ ho => ho.put htj .any).setFld hmax .self).setBit hover .self

def estimatedReach : Reach := .of [measuredReach, .field .pwrStatus (some 0) 26 1, .reg .pwrDeltaBytes (some 0)]

theorem Footprint.holds.estimated {F : Footprint} {d e : Dev} {v delta : Nat} {ts : List Nat} (he : F.holds d e)
    (h : estimatedReach.within F d) : F.holds d (e.estimated v ts delta) :=
  have ⟨hmeasured, hhot, hdelta, _⟩ := h
  ((he.measured hmeasured).setBit hhot .self).put hdelta .self

section
variable {v delta : Nat} {ts : List Nat}

theorem Dev.fld_estimated {r : Reg} {k l w : Nat} (hs : estimatedReach.spares r k l w = true) :
    (d.estimated v ts delta).fld r k l w = d.fld r k l w :=
  Dev.fld_spared (x := estimatedReach) rfl hs (Footprint.holds_refl _ d).estimated

theorem Dev.taskActive_estimated (t : Nat) : (d.estimated v ts delta).taskActive t = d.taskActive t :=
  congrArg (· != 0) (Dev.fld_estimated rfl)

theorem Dev.pwr_estimated : (d.estimated v ts delta).pwr = d.pwr :=
  Dev.area_spared (p := .pwr) (x := estimatedReach) rfl rfl (Footprint.holds_refl _ _).estimated

theorem Dev.img_estimated : (d.estimated v ts delta).img = d.img :=
  Dev.area_spared (p := .img) (x := estimatedReach) rfl rfl (Footprint.holds_refl _ _).estimated

theorem Dev.fld_measured {r : Reg} {k l w : Nat} (hs : measuredReach.spares r k l w = true) :
    (d.measured v ts).fld r k l w = d.fld r k l w :=
  Dev.fld_spared (x := measuredReach) rfl hs (Footprint.holds_refl _ d).measured

theorem Dev.shows_estimated (hv : v < 2 ^ 16) (hdelta : delta < 2 ^ 32) :
    (d.estimated v ts delta).get .pwrEstimate 0 = v ∧
    (d.estimated v ts delta).bit .pwrStatus 0 25 = decide (d.pwrLimit < v) ∧
    (∀ i, i < 8 → (d.estimated v ts delta).get .pwrTj i = ts.getD i 0 % 2 ^ 64) ∧
    (d.estimated v ts delta).get .pwrDeltaBytes 0 = delta := by
  have hstatus {q : Reg} (hq : q ≠ .pwrStatus) (hq' : q ≠ .pwrDeltaBytes) (k : Nat) : (d.estimated v ts delta).get q k =
      ((d.put .pwrEstimate 0 v).each (List.range 8) fun d i => d.put .pwrTj i (ts.getD i 0)).get q k :=
    (Dev.get_put_reg _ _ _ _ hq').trans ((Dev.get_put_reg _ _ _ _ hq).trans
      ((Dev.get_put_reg _ _ _ _ hq).trans (Dev.get_put_reg _ _ _ _ hq)))
  refine ⟨?estimate, ?exceeds, ?temps, ?delta⟩
  case estimate =>
    rw [hstatus (by decide) (by decide), Dev.get_each_put (by decide), Dev.get_put_same]
    omega
  case exceeds =>
    refine (congrArg (fun n => bits n 25 1 == 1) (Dev.get_put_reg _ _ _ _ (by decide))).trans ?_
    exact (Dev.bit_setBit_other _ _ _ _ _ (by decide) (by decide)).trans (Dev.bit_setBit_same _ _ _ _ _ (by decide))
  case temps =>
    intro i hi
    rw [hstatus (by decide) (by decide)]
    exact Dev.get_each_put_mem _ _ _ (List.mem_range.mpr hi)
  case delta =>
    refine (Dev.get_put_same _ _ _ _).trans ?_
    omega

end

/-! ### Admission (R338, R339) -/

/-- A retraining falls due for no group that was never trained. -/
theorem Dev.retrainByTemp_untrained {tj : Nat} (h : (List.range 4).all (fun g => !d.bit .dmcGrpStatus g 31) = true) :
    d.retrainByTemp tj = d := by
  have hnone : ((List.range 4).any fun g => d.bit .dmcGrpStatus g 31 && match Tab.find d.dmc.trainTj g with
      | some t => decide (10 * d.cfg .retrainDtC 0 ≤ max t tj - min t tj)
      | none => false) = false := by
    rw [List.any_eq_false]
    intro g hg
    have hg' : d.bit .dmcGrpStatus g 31 = false := by simpa using List.all_eq_true.mp h g hg
    simp [hg']
  exact if_neg (Bool.eq_false_iff.mp hnone)

/-- A change below the limit is shown and makes no checkpoint urgent. -/
theorem Dev.noteDelta_small {bytes : Nat} (h : bytes ≤ d.cfg .deltaUrgentKib 0 * 1024) :
    d.noteDelta bytes = d.put .pwrDeltaBytes 0 (min bytes (2 ^ 32 - 1)) := if_neg (Nat.not_lt.mpr h)

theorem Dev.taskQueue_of_waiting {ts : List Nat}
    (h : (List.range 8).filter (fun t => d.taskBit t 29 || d.taskBit t 28) = ts) : d.taskQueue =
      ((ts.map fun t => ((d.taskEnd t).getD (2 ^ 80), t)).foldr placeTask []).map fun x => x.2 := by
  rw [Dev.taskQueue, h]

theorem Dev.pauseTask_resting {e t : Nat} (h : d.taskBit t 30 = false) : d.pauseTask e t = d := by
  simp [Dev.pauseTask, h]

theorem Dev.urgentDraw_none (h : ∀ t < 8, d.taskBit t 30 = false) : d.urgentDraw = 0 := by
  have hnone : ((List.range 8).filter fun t => d.taskBit t 31 && d.taskBit t 30) = [] :=
    List.filter_eq_nil_iff.mpr fun t ht => by simp [h t (List.mem_range.mp ht)]
  rw [Dev.urgentDraw, hnone]
  rfl

theorem Dev.taskBits_idle {t : Nat} (h : d.taskActive t = false) :
    d.taskBit t 28 = false ∧ d.taskBit t 29 = false ∧ d.taskBit t 30 = false := by
  rw [Dev.taskActive_eq] at h
  simpa [and_assoc] using h

/-- With every task idle none is let run. -/
theorem Dev.schedule_idle {e : Nat} {left : List Nat} (h : ∀ t < 8, d.taskActive t = false) :
    d.schedule e left = d.put .pwrReserveUsed 0 0 := by
  have hqueue : d.taskQueue = [] := Dev.taskQueue_of_waiting <| List.filter_eq_nil_iff.mpr fun t ht => by
    simp [Dev.taskBits_idle (h t (List.mem_range.mp ht))]
  have hrest : ∀ t < 8, d.taskBit t 30 = false := fun t ht => (Dev.taskBits_idle (h t ht)).2.2
  have hpause : (d.each (List.range 8) fun d t => d.pauseTask e t) = d :=
    Dev.each_eq_self fun t ht => Dev.pauseTask_resting (hrest t (List.mem_range.mp ht))
  have hslack : (d.each [] fun d t => d.taskSlack t (left.getD t 0)) = d := rfl
  have hadmit : (d.each [] fun d t => d.admitTask e t) = d := rfl
  simp only [Dev.schedule, hqueue, hslack, hpause, hadmit, ite_self, Dev.urgentDraw_none hrest]

section
variable {v : Nat}

theorem Dev.stands_setSlack (h : d.fld .pwrTaskStatus 6 28 4 = 2) :
    (d.setFld .pwrTaskStatus 6 0 28 v).fld .pwrTaskStatus 6 28 4 = 2 :=
  (Dev.fld_setFld_other _ _ _ _ _ _ _ _ (by decide) (by decide)).trans h

theorem Dev.taskEnd_setSlack (h : d.taskEnd 6 = none) : (d.setFld .pwrTaskStatus 6 0 28 v).taskEnd 6 = none := by
  rw [Dev.taskEnd, Dev.task, Dev.setFld_pwr]
  exact h

theorem Dev.idle_setSlack {t : Nat} (ht : t ≠ 6) (h : d.taskActive t = false) :
    (d.setFld .pwrTaskStatus 6 0 28 v).taskActive t = false := by
  have hget : (d.setFld .pwrTaskStatus 6 0 28 v).get .pwrTaskStatus t = d.get .pwrTaskStatus t := Dev.get_put_num _ _ _ ht
  rw [Dev.taskActive, Dev.fld, hget]
  exact h

end

theorem Dev.taskStart_daily (h : d.taskBit 6 29 = true) :
    d.taskStart 6 = (d.taskStand 6 30).setTask 6 { d.task 6 with told := false } := by
  unfold Dev.taskStart
  rw [h]
  rfl

variable (d) in
/-- Task 6 alone waits, not urgent and with no deadline; the others are idle. -/
def Dev.dailyWaits : Prop :=
  (∀ t < 8, t ≠ 6 → d.taskActive t = false) ∧ d.fld .pwrTaskStatus 6 28 4 = 2 ∧ d.taskEnd 6 = none

section
variable (h : d.dailyWaits)
include h

theorem Dev.dailyWaits.stands : d.taskBit 6 28 = false ∧ d.taskBit 6 29 = true ∧ d.taskBit 6 30 = false ∧ d.taskBit 6 31 = false := by
  obtain ⟨-, hfld, -⟩ := h
  have hbit (i : Nat) (hlo : 28 ≤ i) (hhi : i < 28 + 4) := d.taskBit_of_fld 6 hfld hlo hhi
  exact ⟨hbit 28 (by decide) (by decide), hbit 29 (by decide) (by decide), hbit 30 (by decide) (by decide),
    hbit 31 (by decide) (by decide)⟩

theorem Dev.dailyWaits.queue : d.taskQueue = [6] := by
  obtain ⟨h28, h29, -, -⟩ := h.stands
  obtain ⟨hothers, -, -⟩ := h
  refine Dev.taskQueue_of_waiting (ts := [6]) ?_
  have honly : ∀ t ∈ List.range 8, (d.taskBit t 29 || d.taskBit t 28) = (t == 6) := by
    intro t ht
    by_cases ht6 : t = 6
    · simp [ht6, h28, h29]
    · obtain ⟨ht28, ht29, -⟩ := Dev.taskBits_idle (hothers t (List.mem_range.mp ht) ht6)
      simp [ht6, ht28, ht29]
  rw [List.filter_congr honly]
  decide

theorem Dev.dailyWaits.rests : ∀ t < 8, d.taskBit t 30 = false := by
  intro t ht
  by_cases ht6 : t = 6
  · exact ht6 ▸ h.stands.2.2.1
  · exact (Dev.taskBits_idle (h.1 t ht ht6)).2.2

/-- Its slack is shown as none. -/
theorem Dev.dailyWaits.slack {left : Nat} : d.taskSlack 6 left = d.setFld .pwrTaskStatus 6 0 28 (2 ^ 28 - 1) := by
  rw [Dev.taskSlack, h.2.2]

theorem Dev.dailyWaits.slackShown {v : Nat} : (d.setFld .pwrTaskStatus 6 0 28 v).dailyWaits := by
  obtain ⟨hothers, hfld, hend⟩ := h
  exact ⟨fun t ht ht6 => Dev.idle_setSlack ht6 (hothers t ht ht6), Dev.stands_setSlack hfld, Dev.taskEnd_setSlack hend⟩

/-- It runs where drone tasks are enabled and E + 1 W + 8 W stays within the limit. -/
theorem Dev.dailyWaits.taken {e : Nat} : (d.admitTask e 6).taskBit 6 30 =
    (d.bit .pwrCtrl 0 0 && decide (e + 100 + 800 ≤ d.pwrLimit)) := by
  obtain ⟨-, h29, h30, h31⟩ := h.stands
  have hstart : (d.taskStart 6).taskBit 6 30 = true := by
    rw [Dev.taskStart_daily h29, Dev.taskBit_setTask, Dev.taskBit_taskStand]
    rfl
  have hadmit : d.admitTask e 6 = if d.bit .pwrCtrl 0 0 ∧ e + 100 + 800 ≤ d.pwrLimit then d.taskStart 6 else d := by
    simp [Dev.admitTask, h31, Dev.taskPower]
  rw [hadmit]
  split
  case isTrue hc => simp [hstart, hc]
  case isFalse hc => grind

theorem Dev.dailyWaits.scheduled {e : Nat} {left : List Nat} (hhot : d.bit .pwrStatus 0 26 = false) :
    (d.schedule e left).taskBit 6 30 = (d.bit .pwrCtrl 0 0 && decide (e + 100 + 800 ≤ d.pwrLimit)) := by
  have hshown := h.slackShown (v := 2 ^ 28 - 1)
  have hslack : (d.each [6] fun d t => d.taskSlack t (left.getD t 0)) = d.setFld .pwrTaskStatus 6 0 28 (2 ^ 28 - 1) := h.slack
  have hpause : ((d.setFld .pwrTaskStatus 6 0 28 (2 ^ 28 - 1)).each (List.range 8) fun d t => d.pauseTask e t) =
      d.setFld .pwrTaskStatus 6 0 28 (2 ^ 28 - 1) :=
    Dev.each_eq_self fun t ht => Dev.pauseTask_resting (hshown.rests t (List.mem_range.mp ht))
  have hhot' : (d.setFld .pwrTaskStatus 6 0 28 (2 ^ 28 - 1)).bit .pwrStatus 0 26 = false :=
    (congrArg (· == 1) (Dev.fld_setFld_reg _ _ _ _ _ _ _ _ (by decide))).trans hhot
  have hadmit (x : Dev) : (x.each [6] fun d t => d.admitTask e t) = x.admitTask e 6 := rfl
  have hreserve (x : Dev) (v : Nat) : (x.put .pwrReserveUsed 0 v).taskBit 6 30 = x.taskBit 6 30 :=
    congrArg (fun n => bits n 30 1 == 1) (Dev.get_put_reg _ _ _ _ (by decide))
  have henabled : (d.setFld .pwrTaskStatus 6 0 28 (2 ^ 28 - 1)).bit .pwrCtrl 0 0 = d.bit .pwrCtrl 0 0 :=
    congrArg (· == 1) (Dev.fld_setFld_reg _ _ _ _ _ _ _ _ (by decide))
  simp only [Dev.schedule, h.queue, hslack, hpause, hhot', Bool.false_eq_true, if_false, hshown.queue, hadmit, hreserve]
  rw [hshown.taken, henabled]
  rfl

end

section
variable {s : State} {e : BitVec 16} {tj : List (BitVec 11)} {left : List Nat} {delta : Nat}

theorem Dev.temps_lt (h : (List.range 8).all (fun i => decide (((tj[i]?).map BitVec.toNat).getD (d.get .pwrTj i) < 900)) = true) :
    (d.temps tj).foldl max 0 < 900 :=
  foldl_max_lt (by decide) fun _ hx => by
    obtain ⟨i, hi, rfl⟩ := List.mem_map.mp hx
    exact of_decide_eq_true (List.all_eq_true.mp h i hi)

theorem Dev.cool_of_flags {t : Nat} (ht : t < 900)
    (h : (d.pwr.warm || d.bit .pwrStatus 0 26 || d.pwr.thermStop || d.pwr.tripped || d.pwr.selfDue) = false) : d.cool t := by
  simp only [Bool.or_eq_false_iff, and_assoc] at h
  exact ⟨ht, h⟩

theorem Dev.getD_temps {i : Nat} (hi : i < 8) :
    (d.temps tj).getD i 0 = ((tj[i]?).map BitVec.toNat).getD (d.get .pwrTj i) := by
  simp [Dev.temps, List.getD_eq_getElem?_getD, hi]

/-- Each temperature fits its register. -/
theorem Dev.getD_temps_lt (i : Nat) : ((tj[i]?).map BitVec.toNat).getD (d.get .pwrTj i) < 2 ^ 64 := by
  cases htj : tj[i]? with
  | none => exact d.get_lt _ _
  | some v => exact lt_trans v.isLt (by decide)

/-- With no thermal limit reached and no group's training old an estimate shows its values and admits. -/
theorem budgetEstimate_cool (hbreath : s.dev.breath = 0) (hcool : s.dev.cool ((s.dev.temps tj).foldl max 0))
    (hdelta : delta ≤ s.dev.cfg .deltaUrgentKib 0 * 1024)
    (hgroups : (List.range 4).all (fun g => !s.dev.bit .dmcGrpStatus g 31) = true) :
    Yields (.budgetEstimate e tj left delta) s
      ((s.dev.estimated e.toNat (s.dev.temps tj) (min delta (2 ^ 32 - 1))).schedule e.toNat left) := by
  have hrun : execBudgetEstimate e tj left delta s = .next { s with dev :=
      let d3 := (s.dev.measured e.toNat (s.dev.temps tj)).thermalAct ((s.dev.temps tj).foldl max 0)
      if d3.breath ≠ 0 then d3
      else ((d3.noteDelta delta).retrainByTemp ((s.dev.temps tj).foldl max 0)).schedule e.toNat left } := rfl
  have hpwr : (s.dev.measured e.toNat (s.dev.temps tj)).pwr = s.dev.pwr :=
    Dev.area_spared (p := .pwr) (x := measuredReach) rfl rfl (Footprint.holds_refl _ _).measured
  have himg : (s.dev.measured e.toNat (s.dev.temps tj)).img = s.dev.img :=
    Dev.area_spared (p := .img) (x := measuredReach) rfl rfl (Footprint.holds_refl _ _).measured
  have hcool' : (s.dev.measured e.toNat (s.dev.temps tj)).cool ((s.dev.temps tj).foldl max 0) := by
    rw [Dev.cool, hpwr, Dev.bit, Dev.fld_measured rfl]
    exact hcool
  have hbreath' : ((s.dev.measured e.toNat (s.dev.temps tj)).setBit .pwrStatus 0 26 false).breath = 0 :=
    (Dev.fld_setBit_other _ _ _ _ _ _ _ (by decide) (by decide)).trans ((Dev.fld_measured rfl).trans hbreath)
  have hdelta' : delta ≤ ((s.dev.measured e.toNat (s.dev.temps tj)).setBit .pwrStatus 0 26 false).cfg .deltaUrgentKib 0 * 1024 := by
    rw [Dev.cfg, Dev.setBit_img, himg]
    exact hdelta
  have hgroups' : (List.range 4).all (fun g => !(s.dev.estimated e.toNat (s.dev.temps tj) (min delta (2 ^ 32 - 1))).bit
      .dmcGrpStatus g 31) = true := by
    have hgroup (g : Nat) : (s.dev.estimated e.toNat (s.dev.temps tj) (min delta (2 ^ 32 - 1))).bit .dmcGrpStatus g 31 =
        s.dev.bit .dmcGrpStatus g 31 := congrArg (· == 1) (Dev.fld_estimated rfl)
    simp only [hgroup, hgroups]
  refine hrun.trans ?_
  simp only [Dev.thermalAct_cool hcool', hbreath', ne_eq, not_true_eq_false, if_false, Dev.noteDelta_small hdelta']
  exact congrArg (fun d : Dev => Host.Outcome.next { s with dev := d.schedule e.toNat left })
    (Dev.retrainByTemp_untrained hgroups')

end
end

/-! ### Saving (R345) -/

theorem Mem.readBytes_writeBytes_same (m : Mem) (a : Nat) (bs : List Byte) :
    Mem.readBytes (m.writeBytes a bs) a bs.length = bs := by
  induction bs generalizing m a with
  | nil => rfl
  | cons b bs ih =>
    have hfirst : Mem.read (m.writeBytes a (b :: bs)) a = b := Mem.read_writeBytes_inside m a (b :: bs) (i := 0) (by simp)
    exact congrArg₂ List.cons hfirst (ih _ _)

theorem Saved.length_record (x : Saved) : x.record.length = 64 := by
  simp [Saved.record, length_leBytes, wordsOf]

section
variable (d : Dev) (k : Nat) (x : Saved)

/-- A save of a body that leaves room for the commit record lies in its slot, the record at the slot's end. -/
theorem Dev.writeSave_holds (hlen : x.body.length ≤ ckptSize - 64) :
    (∀ i, i < x.body.length → Mem.read (d.writeSave k x).nva (ckptAddr k + i) = x.body.getD i 0) ∧
    (∀ a, a < ckptAddr k ∨ ckptAddr k + ckptSize ≤ a → Mem.read (d.writeSave k x).nva a = Mem.read d.nva a) ∧
    Mem.readBytes (d.writeSave k x).nva (ckptAddr k + ckptSize - 64) 64 = x.record := by
  have hrecord := x.length_record
  have hsize : 64 ≤ ckptSize := by decide
  refine ⟨fun i hi => ?_, fun a ha => ?_, ?_⟩
  · refine (Mem.read_writeBytes_outside _ _ (by omega)).trans ?_
    exact Mem.read_writeBytes_inside _ _ _ hi
  · refine (Mem.read_writeBytes_outside _ _ (by omega)).trans ?_
    exact Mem.read_writeBytes_outside _ _ (by omega)
  · have hread := Mem.readBytes_writeBytes_same (d.nva.writeBytes (ckptAddr k) x.body) (ckptAddr k + ckptSize - 64) x.record
    rwa [hrecord] at hread

theorem Dev.seq_writeSave : (d.writeSave k x).get .pwrCkptSeq 0 = x.seq % 2 ^ 64 := by
  rw [Dev.writeSave, Dev.get_put_reg _ _ _ _ (by decide), Dev.get_put_reg _ _ _ _ (by decide), Dev.get_put_same]

theorem Dev.slots_writeSave : Tab.find (d.writeSave k x).pwr.slots k = some x := Tab.find_set_same ..

end

section
variable {d : Dev} {raw : List Byte} {u : Nat}

/-- The blocks counted for the unit that emits them. -/
theorem Dev.countBlocks_unit {bs : List (List Byte)} (h : d.groupUnit 1 = some u) : d.countBlocks bs =
    (d.add32 .cdcUnitBlocks u bs.length).add32 .cdcUnitStored u (bs.filter storedForm).length := by
  rw [Dev.countBlocks, h]

theorem Dev.countBlocks_none {bs : List (List Byte)} (h : d.groupUnit 1 = none) : d.countBlocks bs = d := by
  rw [Dev.countBlocks, h]

/-- A count of blocks takes no unit out of service. -/
theorem Dev.groupUnit_add32 (r : Reg) (k n g : Nat) (hr : r ≠ .cdcUnitStatus) : (d.add32 r k n).groupUnit g = d.groupUnit g := by
  have hfault (v : Nat) : (d.add32 r k n).unitFault v = d.unitFault v :=
    congrArg (fun n => bits n 31 1 == 1) (Dev.get_put_reg _ _ _ _ hr.symm)
  simp only [Dev.groupUnit, hfault]

/-- What a checkpoint saves. -/
def Dev.ckptOf (d : Dev) (raw : List Byte) : Saved :=
  (d.countBlocks (nvaBlocks raw)).saveOf false false 0 (nvaBlocks raw).flatten

/-- A checkpoint that fits is written into the slot that the newest record leaves free. -/
theorem Dev.checkpoint_written (hrewrite : d.pwr.rewrite = none) (hunit : d.groupUnit 1 = some u)
    (hfits : (nvaBlocks raw).flatten.length ≤ ckptSize - 64) :
    d.checkpoint raw = (d.countBlocks (nvaBlocks raw)).writeSave d.saveSlot (d.ckptOf raw) := by
  have hcount := Dev.countBlocks_unit (bs := nvaBlocks raw) hunit
  have hunit' : (d.countBlocks (nvaBlocks raw)).groupUnit 1 = some u := by
    rw [hcount, Dev.groupUnit_add32 _ _ _ _ (by decide), Dev.groupUnit_add32 _ _ _ _ (by decide), hunit]
  have hpwr : (d.countBlocks (nvaBlocks raw)).pwr = d.pwr := by
    rw [hcount, Dev.add32_pwr, Dev.add32_pwr]
  have hslot : ((d.countBlocks (nvaBlocks raw)).pwr.rewrite).getD (d.countBlocks (nvaBlocks raw)).saveSlot = d.saveSlot := by
    rw [hpwr, hrewrite, Dev.saveSlot, Dev.newestSlot, hpwr]
    rfl
  rw [Dev.checkpoint]
  simp only [hunit', Option.isNone_some, Bool.false_eq_true, if_false, if_neg (Nat.not_lt.mpr hfits), hslot]
  rfl

/-- With no unit in service nothing is written. -/
theorem Dev.checkpoint_none (hunit : d.groupUnit 1 = none) : d.checkpoint raw = d := by
  rw [Dev.checkpoint]
  simp only [Dev.countBlocks_none hunit, hunit, Option.isNone_none, if_true]

/-- What a checkpoint names of the state. -/
theorem Dev.ckptOf_names (hunit : d.groupUnit 1 = some u) : (d.ckptOf raw).body = (nvaBlocks raw).flatten ∧
    (d.ckptOf raw).seq = d.newestSeq + 1 ∧ (d.ckptOf raw).fire = d.fireIndex ∧ (d.ckptOf raw).breath = false := by
  have hcount := Dev.countBlocks_unit (bs := nvaBlocks raw) hunit
  refine ⟨rfl, ?_, ?_, rfl⟩
  · rw [Dev.ckptOf, hcount]
    rfl
  · rw [Dev.ckptOf, hcount]
    exact (Dev.get_put_reg _ _ _ _ (by decide)).trans (Dev.get_put_reg _ _ _ _ (by decide))

/-- The end of the checkpoint task shows nothing elsewhere. -/
theorem Dev.taskDone_eq_taskNext : d.taskDone 1 = d.taskNext 1 := rfl

/-- The memories and the slots stay where a task is done. -/
theorem Dev.taskNext_keeps (t : Nat) : (d.taskNext t).nva = d.nva ∧ (d.taskNext t).dram = d.dram ∧
    (d.taskNext t).pwr.slots = d.pwr.slots := by
  unfold Dev.taskNext
  split
  · exact ⟨rfl, rfl, rfl⟩
  · exact ⟨rfl, rfl, rfl⟩

def taskNextReach : Reach := .of [.reg .pwrTaskRuns none, setTaskReach, .reg .pwrTaskStatus none, .reg .pwrTaskLastMs none,
  taskStandReach none]

theorem Footprint.holds.taskNext {F : Footprint} {d e : Dev} {t : Nat} (he : F.holds d e) (h : taskNextReach.within F d) :
    F.holds d (e.taskNext t) :=
  have ⟨hruns, hsetTask, hstatus, hlast, hstand, _⟩ := h
  have hleft := (((he.count hruns .any).setTask hsetTask).put hstatus .any).put hlast .any
  holds_ite hleft (hleft.taskStand hstand .any)

theorem Dev.get_taskNext (t : Nat) {r : Reg} {k : Nat} (hs : taskNextReach.spares r k 0 64 = true) :
    (d.taskNext t).get r k = d.get r k :=
  Dev.get_spared (x := taskNextReach) rfl hs (Footprint.holds_refl _ d).taskNext

theorem Dev.blocks_checkpoint (hrewrite : d.pwr.rewrite = none) (hunit : d.groupUnit 1 = some u)
    (hfits : (nvaBlocks raw).flatten.length ≤ ckptSize - 64) : (d.checkpoint raw).get .cdcUnitBlocks u =
      satAdd 32 (d.get .cdcUnitBlocks u) (nvaBlocks raw).length := by
  have hsmall : satAdd 32 (d.get .cdcUnitBlocks u) (nvaBlocks raw).length < 2 ^ 64 := by
    unfold satAdd
    omega
  rw [Dev.checkpoint_written hrewrite hunit hfits, Dev.writeSave, Dev.get_put_reg _ _ _ _ (by decide),
    Dev.get_put_reg _ _ _ _ (by decide), Dev.get_put_reg _ _ _ _ (by decide), Dev.countBlocks_unit hunit]
  refine (Dev.get_put_reg _ _ _ _ (by decide)).trans ((Dev.get_put_same _ _ _ _).trans ?_)
  exact Nat.mod_eq_of_lt hsmall

theorem Dev.dram_checkpoint (hrewrite : d.pwr.rewrite = none) (hunit : d.groupUnit 1 = some u)
    (hfits : (nvaBlocks raw).flatten.length ≤ ckptSize - 64) :
    (d.checkpoint raw).dram = d.dram ∧ (d.countBlocks (nvaBlocks raw)).nva = d.nva := by
  rw [Dev.checkpoint_written hrewrite hunit hfits, Dev.countBlocks_unit hunit]
  exact ⟨rfl, rfl⟩

end

section
variable {s : State} {raw : List Byte}

/-- The checkpoint that runs is written and its task done. -/
theorem checkpointCommit_runs (hbreath : s.dev.breath = 0) (hrewrite : s.dev.pwr.rewrite = none)
    (hrun : s.dev.taskBit 1 30 = true) : Yields (.checkpointCommit raw) s ((s.dev.checkpoint raw).taskNext 1) := by
  change execCheckpointCommit raw s = _
  simp only [execCheckpointCommit, State.run_eq, hbreath, hrewrite, hrun, ne_eq, not_true_eq_false, if_false, if_true,
    Option.isSome_none, Bool.false_eq_true, Dev.taskDone_eq_taskNext]

theorem checkpointCommit_ignored (h : s.dev.breath ≠ 0 ∨ (s.dev.pwr.rewrite = none ∧ s.dev.taskBit 1 30 = false)) :
    Yields (.checkpointCommit raw) s s.dev := by
  change execCheckpointCommit raw s = _
  by_cases hbreath : s.dev.breath = 0
  · obtain ⟨hrewrite, hrest⟩ := h.resolve_left (not_not.mpr hbreath)
    simp only [execCheckpointCommit, State.run_eq, hbreath, hrewrite, hrest, ne_eq, not_true_eq_false, if_false,
      Option.isSome_none, Bool.false_eq_true]
  · simp only [execCheckpointCommit, State.run_eq, ne_eq, hbreath, not_false_eq_true, if_true]

/-- A running checkpoint that fits lies in its slot with its record, and counts its unit's blocks. -/
theorem checkpointCommit_writes {u : Nat} (hbreath : s.dev.breath = 0) (hrewrite : s.dev.pwr.rewrite = none)
    (hrun : s.dev.taskBit 1 30 = true) (hunit : s.dev.groupUnit 1 = some u)
    (hfits : (nvaBlocks raw).flatten.length ≤ ckptSize - 64) :
    Completes (.checkpointCommit raw) s fun e =>
      (∀ i, i < (nvaBlocks raw).flatten.length → Mem.read e.nva (ckptAddr s.dev.saveSlot + i) = (nvaBlocks raw).flatten.getD i 0) ∧
      (∀ a, a < ckptAddr s.dev.saveSlot ∨ ckptAddr s.dev.saveSlot + ckptSize ≤ a → Mem.read e.nva a = Mem.read s.dev.nva a) ∧
      (∃ x, Tab.find e.pwr.slots s.dev.saveSlot = some x ∧ x.body = (nvaBlocks raw).flatten ∧ x.seq = s.dev.newestSeq + 1 ∧
        x.fire = s.dev.fireIndex ∧ x.breath = false ∧
        Mem.readBytes e.nva (ckptAddr s.dev.saveSlot + ckptSize - 64) 64 = x.record) ∧
      e.get .cdcUnitBlocks u = min (s.dev.get .cdcUnitBlocks u + (nvaBlocks raw).length) (2 ^ 32 - 1) ∧
      e.get .pwrCkptSeq 0 = (s.dev.newestSeq + 1) % 2 ^ 64 ∧ e.taskBit 1 30 = false ∧ e.dram = s.dev.dram := by
  obtain ⟨hnva, hdram, hslots⟩ := Dev.taskNext_keeps (d := s.dev.checkpoint raw) 1
  obtain ⟨hbody, hseq, hfire, hckpt⟩ := Dev.ckptOf_names (raw := raw) hunit
  obtain ⟨hdram', hnva'⟩ := Dev.dram_checkpoint hrewrite hunit hfits
  obtain ⟨hinside, houtside, hrecord⟩ := (s.dev.countBlocks (nvaBlocks raw)).writeSave_holds s.dev.saveSlot (s.dev.ckptOf raw) hfits
  have hblocks := Dev.blocks_checkpoint hrewrite hunit hfits
  have hwritten := Dev.checkpoint_written hrewrite hunit hfits
  refine (checkpointCommit_runs hbreath hrewrite hrun).completes ?_
  rw [hnva, hdram, hdram', hslots, Dev.get_taskNext 1 rfl, Dev.get_taskNext 1 rfl, hblocks, hwritten, ← hseq]
  refine ⟨hinside, fun a ha => (houtside a ha).trans (congrArg (Mem.read · a) hnva'), ⟨_, Dev.slots_writeSave _ _ _, hbody, rfl,
    hfire, hckpt, hrecord⟩, rfl, Dev.seq_writeSave _ _ _, ?_, rfl⟩
  rw [Dev.taskBit_taskNext _ _ (by decide) (by decide)]
  rfl

/-- With no unit in service the task ends and nothing is written. -/
theorem checkpointCommit_without (hbreath : s.dev.breath = 0) (hrewrite : s.dev.pwr.rewrite = none)
    (hrun : s.dev.taskBit 1 30 = true) (hunit : s.dev.groupUnit 1 = none) :
    Completes (.checkpointCommit raw) s fun e =>
      e.nva = s.dev.nva ∧ e.pwr.slots = s.dev.pwr.slots ∧ e.taskBit 1 30 = false := by
  refine (checkpointCommit_runs hbreath hrewrite hrun).completes ?_
  obtain ⟨hnva, -, hslots⟩ := Dev.taskNext_keeps (d := s.dev.checkpoint raw) 1
  rw [hnva, hslots, Dev.checkpoint_none hunit, Dev.taskBit_taskNext _ _ (by decide) (by decide)]
  exact ⟨rfl, rfl, rfl⟩

/-- The oldest event moves to the ring of 16,384. -/
theorem journalWrite_moves {x : JournalEvent} {rest : List JournalEvent} (h : s.dev.pwr.journal = x :: rest) :
    Completes .journalWrite s fun e =>
      e.pwr.journal = rest ∧ e.pwr.ring.getLast? = some (s.dev.newestSeq, x) ∧
      e.pwr.ring.length = min 16384 (s.dev.pwr.ring.length + 1) := by
  have hyields : Yields .journalWrite s s.dev.journalWrite := rfl
  refine hyields.completes ?_
  unfold Dev.journalWrite
  simp only [h]
  refine ⟨trivial, ?_, ?_⟩
  · rw [List.getLast?_drop, List.getLast?_append]
    simp
  · simp only [List.length_drop, List.length_append, List.length_singleton]
    omega

/-! ### Requests that fall due (R338 to R342) -/

/-- A task that falls due waits with its deadline; a change-triggered daily is urgent at once. -/
theorem taskDueCmd_waits {task : Fin 8} {change : Bool} {next : Nat} (h : s.dev.taskActive task.val = false) :
    Completes (.taskDueCmd task change next) s fun e =>
      e.taskBit task.val 29 = true ∧ (e.task task.val).due = [s.dev.taskDeadlineAt task.val change next] ∧
      (task.val = 7 → change = true → e.taskBit 7 31 = true) := by
  refine ⟨_, rfl, rfl, ?_⟩
  simp only [Dev.taskDue_idle _ _ h]
  split
  case isTrue hdaily =>
    obtain ⟨htask, -⟩ := hdaily
    rw [htask, Dev.taskBit_setBit _ _ _ _ (by decide), Dev.taskBit_setBit _ _ _ _ (by decide), Dev.taskBit_taskStand,
      Dev.task_setBit, Dev.task_taskStand, Dev.task_setTask]
    exact ⟨rfl, rfl, fun _ _ => rfl⟩
  case isFalse hdaily =>
    rw [Dev.taskBit_taskStand, Dev.task_taskStand, Dev.task_setTask]
    exact ⟨rfl, rfl, fun ht hc => absurd ⟨ht, hc⟩ hdaily⟩

theorem taskDueCmd_ignored {task : Fin 8} {change : Bool} {next : Nat} (h : s.dev.taskActive task.val = true)
    (ht : task.val ≤ 4) : Yields (.taskDueCmd task change next) s s.dev := by
  have hdaily : ¬(task.val = 7 ∧ change = true) := by omega
  change execTaskDueCmd task change next s = _
  simp only [execTaskDueCmd, State.run_eq, Dev.taskDue_active _ _ h ht, if_neg hdaily]

/-- CKPT_NOW makes the checkpoint due and urgent. -/
theorem ckptNow_urges : Completes .ckptNow s fun e => e.taskBit 1 31 = true ∧ e.taskActive 1 = true := by
  have hactive : (s.dev.taskDue 1 (s.dev.taskDeadlineAt 1 false 0)).taskActive 1 = true := by
    cases h : s.dev.taskActive 1 with
    | true => rw [Dev.taskDue_active _ _ h (by decide), h]
    | false =>
      rw [Dev.taskDue_idle _ _ h, Dev.taskActive_eq, Dev.taskBit_taskStand, Dev.taskBit_taskStand, Dev.taskBit_taskStand]
      rfl
  refine ⟨_, rfl, rfl, Dev.bit_setBit_same _ _ _ _ _ (by decide), ?_⟩
  exact (congrArg (· != 0) (Dev.fld_setBit_other _ _ _ _ _ _ _ (by decide) (by decide))).trans hactive

theorem Dev.mem_speedReq (d : Dev) (u : PinUser) : u ∈ (d.speedReq u).pos.speedReq := by
  unfold Dev.speedReq
  split
  case isTrue h => exact h
  case isFalse h => exact List.mem_append_right _ List.mem_cons_self

theorem Dev.speedReq_spares (d : Dev) (u : PinUser) : (d.speedReq u).regs = d.regs ∧ (d.speedReq u).raised = d.raised := by
  unfold Dev.speedReq
  split
  · exact ⟨rfl, rfl⟩
  · exact ⟨rfl, rfl⟩

/-- A draw above the limit requests a lower speed and is told. -/
theorem powerOver_requests : Completes .powerOver s fun e => PinUser.pwr ∈ e.pos.speedReq ∧ e.bit .pwrStatus 0 28 = true ∧
    e.bit .pwrEvent 0 1 = true ∧ (ECode.pwrOver, 0) ∈ e.raised := by
  obtain ⟨hregs, hraised⟩ := Dev.speedReq_spares ((s.dev.event .pwrEvent 0 1).raise .pwrOver 0) .pwr
  refine ⟨_, rfl, rfl, Dev.mem_speedReq _ _, Dev.bit_setBit_same _ _ _ _ _ (by decide), ?_, ?_⟩
  · refine (Dev.bit_setBit_reg _ _ _ _ _ _ (by decide)).trans ?_
    rw [Dev.bit, Dev.fld, Dev.get, Dev.rd, hregs]
    exact Dev.bit_event_same _ _ _ _ (by decide)
  · rw [Dev.setBit_raised, hraised]
    exact List.mem_append_right _ List.mem_cons_self

theorem taskDeadlineMiss_ignored {task : Fin 8} (h : s.dev.taskActive task.val = false ∨ (s.dev.task task.val).missed = true) :
    Yields (.taskDeadlineMiss task) s s.dev := by
  have hcond : (!s.dev.taskActive task.val) = true ∨ (s.dev.task task.val).missed = true := h.imp_left (congrArg not)
  change execTaskDeadlineMiss task s = _
  simp only [execTaskDeadlineMiss, State.run_eq, if_pos hcond]

/-- What a deadline missed marks (R341). -/
def Dev.noteLate (d : Dev) (t : Nat) : Dev :=
  (((d.count .pwrTaskMisses t).setTask t { d.task t with missed := true }).event .pwrEvent 0 2).raise .pwrDeadline t

theorem taskDeadlineMiss_late {task : Fin 8} (h : s.dev.taskActive task.val = true)
    (hfirst : (s.dev.task task.val).missed = false) : Yields (.taskDeadlineMiss task) s (s.dev.noteLate task.val) := by
  have hcond : ¬((!s.dev.taskActive task.val) = true ∨ (s.dev.task task.val).missed = true) := by simp [h, hfirst]
  change execTaskDeadlineMiss task s = _
  simp only [execTaskDeadlineMiss, State.run_eq, if_neg hcond]
  rfl

theorem Dev.noteLate_marks (d : Dev) (t : Nat) : ((d.noteLate t).task t).missed = true ∧
    (ECode.pwrDeadline, t) ∈ (d.noteLate t).raised ∧ (d.noteLate t).bit .pwrEvent 0 2 = true ∧
    (d.noteLate t).get .pwrTaskMisses t = satAdd 32 (d.get .pwrTaskMisses t) 1 := by
  refine ⟨?_, List.mem_append_right _ List.mem_cons_self, Dev.bit_event_same _ _ _ _ (by decide),
    (Dev.get_event (r := .pwrEvent) _ 0 2 rfl rfl).trans (Dev.get_count_same _ _ _)⟩
  have hpwr := Dev.area_event (r := .pwrEvent) (p := .pwr)
    ((d.count .pwrTaskMisses t).setTask t { d.task t with missed := true }) 0 2 rfl rfl
  rw [Dev.noteLate, Dev.task, Dev.raise_pwr, hpwr]
  exact congrArg Task.missed (Dev.task_setTask _ _ _)

theorem taskComplete_runs {task : Fin 8} (h : s.dev.taskBit task.val 30 = true) :
    Yields (.taskComplete task) s (s.dev.taskDone task.val) := by
  change execTaskComplete task s = _
  simp only [execTaskComplete, State.run_eq, if_pos h]

end

/-- Settles O44: an estimate sets its registers and admits the one task that fits, a task's bits say where it stands, and a
checkpoint is written in its slot and nowhere else. -/
theorem budgetTasksAndCheckpoints : Obligations.BudgetTasksAndCheckpoints := by
  refine ⟨?estimate, ?admits, ?power, ?enable, ?due, ?kept, ?late, ?notLate, ?done, ?checkpoint, ?noCheckpoint, ?noUnit,
    ?journal⟩
  case estimate =>
    intro s e tj left delta hbreath hidle htj hflags hdelta hgroups
    have hcool := Dev.cool_of_flags (Dev.temps_lt htj) hflags
    have hidle' : ∀ t < 8, (s.dev.estimated e.toNat (s.dev.temps tj) (min delta (2 ^ 32 - 1))).taskActive t = false := by
      intro t ht
      rw [Dev.taskActive_estimated]
      simpa using List.all_eq_true.mp hidle t (List.mem_range.mpr ht)
    obtain ⟨hestimate, hover, htemps, hshown⟩ := Dev.shows_estimated (d := s.dev) (ts := s.dev.temps tj) (v := e.toNat)
      (delta := min delta (2 ^ 32 - 1)) e.isLt (by omega)
    refine (budgetEstimate_cool hbreath hcool hdelta hgroups).completes ?_
    rw [Dev.schedule_idle hidle', Dev.get_put_reg _ _ _ _ (by decide), Dev.get_put_reg _ _ _ _ (by decide), Dev.get_put_same]
    refine ⟨hestimate, (congrArg (fun n => bits n 25 1 == 1) (Dev.get_put_reg _ _ _ _ (by decide))).trans hover, fun i hi => ?_,
      hshown, rfl⟩
    rw [Dev.get_put_reg _ _ _ _ (by decide), htemps i hi, Dev.getD_temps hi]
    exact Nat.mod_eq_of_lt (Dev.getD_temps_lt i)
  case admits =>
    intro s e left hbreath hidle hwaits hend htj hflags hgroups
    have hcool := Dev.cool_of_flags (Dev.temps_lt (tj := []) htj) hflags
    have hdaily : (s.dev.estimated e.toNat (s.dev.temps []) (min 0 (2 ^ 32 - 1))).dailyWaits := by
      refine ⟨fun t ht ht6 => ?_, (Dev.fld_estimated rfl).trans hwaits, ?_⟩
      · rw [Dev.taskActive_estimated]
        simpa [ht6] using List.all_eq_true.mp hidle t (List.mem_range.mpr ht)
      · rw [Dev.taskEnd, Dev.task, Dev.pwr_estimated]
        exact hend
    have hhot : (s.dev.estimated e.toNat (s.dev.temps []) (min 0 (2 ^ 32 - 1))).bit .pwrStatus 0 26 = false :=
      (congrArg (fun n => bits n 26 1 == 1) (Dev.get_put_reg _ _ _ _ (by decide))).trans (Dev.bit_setBit_same _ _ _ _ _ (by decide))
    refine (budgetEstimate_cool hbreath hcool (Nat.zero_le _) hgroups).completes ?_
    rw [hdaily.scheduled hhot, Dev.bit, Dev.fld_estimated rfl, Dev.pwrLimit, Dev.cfg, Dev.img_estimated]
    rfl
  case power =>
    intro s
    refine ⟨?release, powerOver_requests, ?glitch, ckptNow_urges⟩
    case release =>
      refine ⟨_, rfl, rfl, ?_, Dev.bit_setBit_same _ _ _ _ _ (by decide)⟩
      simp [Dev.speedFree]
    case glitch => exact ⟨_, rfl, rfl, Dev.get_count_same _ _ _⟩
  case enable =>
    intro s on
    exact ⟨_, rfl, rfl, Dev.bit_setBit_same _ _ _ _ _ (by decide), fun i hi _ => Dev.bit_setBit_other _ _ _ _ _ (by decide) hi⟩
  case due => exact fun s task change next h => taskDueCmd_waits h
  case kept => exact fun s task change next h ht => taskDueCmd_ignored h ht
  case late =>
    intro s task h hfirst
    exact (taskDeadlineMiss_late h hfirst).completes (s.dev.noteLate_marks task.val)
  case notLate => exact fun s task h => taskDeadlineMiss_ignored h
  case done =>
    intro s task hrun
    obtain ⟨hruns, hends, htask, hnext⟩ := s.dev.taskDone_counts task.val
    exact (taskComplete_runs hrun).completes ⟨hruns, hends, congrArg Task.due htask, congrArg Task.last htask, hnext⟩
  case checkpoint =>
    exact fun s raw u hbreath hrewrite hrun hunit hfits => checkpointCommit_writes hbreath hrewrite hrun hunit hfits
  case noCheckpoint => exact fun s raw h => checkpointCommit_ignored h
  case noUnit => exact fun s raw hbreath hrewrite hrun hunit => checkpointCommit_without hbreath hrewrite hrun hunit
  case journal => exact fun s x rest h => journalWrite_moves h

end Sys2Proof.Machine
end

section
open Sys2Proof
namespace Sys2Proof.Machine

/-! ### What a stop and a surrender reach -/

section
variable {F : Footprint} {d e : Dev}

def noteFiringReach : Reach := .of [.field .posStatus (some 0) 0 1, openSpoilsReach, foldAllReach]

theorem Footprint.holds.noteFiring (he : F.holds d e) (h : noteFiringReach.within F d) : F.holds d e.noteFiring :=
  have ⟨hstatus, hspoils, hfold, _⟩ := h
  holds_ite he (holds_ite (((he.setBit hstatus .self).issueSpoils hspoils).foldAll hfold) he)

def stopReqReach : Reach := .area .pos

theorem Footprint.holds.stopReq {u : PinUser} (he : F.holds d e) (h : stopReqReach.within F d) : F.holds d (e.stopReq u) :=
  holds_ite he (he.inPos h)

def stopFiringReach : Reach := .of [.field .posCtrl (some 0) 0 1, .field .posStatus (some 0) 12 4, stopReqReach,
  withdrawAllReach, foldAllReach, noteFiringReach, mirrorBindReach]

theorem Footprint.holds.stopFiring {cause : Nat} (he : F.holds d e) (h : stopFiringReach.within F d) :
    F.holds d (e.stopFiring cause) := by
  obtain ⟨hctrl, hcause, hreq, hwithdraw, hfold, hnote, hmirror, -⟩ := h
  have hmark := (he.setBit hctrl .self (b := false)).setFld hcause .self (v := if e.pos.ended then 4 else cause)
  have hstop := holds_ite (c := 1 ≤ cause ∧ cause ≤ 4) (hmark.stopReq hreq (u := .pos)) hmark
  exact holds_ite ((((hstop.withdrawAll hwithdraw).foldAll hfold).noteFiring hnote).mirrorBind hmirror) hstop

theorem Footprint.holds.stopByOther (he : F.holds d e) (h : stopFiringReach.within F d) : F.holds d e.stopByOther :=
  holds_ite (he.stopFiring h) he

end

section
variable {d e : Dev}

theorem Raises.setUnfit {cause : Nat} {b : Bool} (h : Raises d e) : Raises d (e.setUnfit cause b) := h.trans (.of_same rfl)

theorem Raises.surrender {cause : Nat} (h : Raises d e) : Raises d (e.surrender cause) := h.trans (e.raised_surrender cause)

theorem Raises.stopByOther (h : Raises d e) : Raises d e.stopByOther := h.trans (KeepsPair.refl e).stopByOther.raised

theorem Raises.stopReq {u : PinUser} (h : Raises d e) : Raises d (e.stopReq u) := h.trans (KeepsPair.refl e).stopReq.raised

end
end Sys2Proof.Machine
end

section
open Sys2Proof
namespace Sys2Proof.Machine

/-! ### What a freeze and poison reach (R416, R421) -/

section
variable {F : Footprint} {d e : Dev}

def dramGoneReach : Reach := .of [setUnfitReach 4, surrenderReach, .area .dmc, stopFiringReach, stopReqReach]

theorem Footprint.holds.dramGone (he : F.holds d e) (h : dramGoneReach.within F d) : F.holds d e.dramGone :=
  have ⟨hunfit, hsurrender, hdmc, hstop, hreq, _⟩ := h
  holds_ite (he.setUnfit hunfit)
    (holds_ite (he.surrender hsurrender) (((he.inDmc hdmc).stopByOther hstop).stopReq hreq))

/-- Behind the marks of the channel and its group: the event, the code and what follows in the pair. -/
def Dev.freezeTold (d : Dev) (ch cause : Nat) : Dev :=
  (if cause = 4 then (d.event .dmcEvent 0 4).raise .dmcTrainFail ch else (d.event .dmcEvent 0 0).raise .dmcFreeze ch).dramGone

/-- The marks of a channel that freezes and of its group. -/
def Dev.freezeMarks (d : Dev) (ch cause : Nat) : Dev :=
  ((d.setBit .dmcStatus ch 31 true).setFld .dmcStatus ch 24 3 cause).groupOffline (ch / 4)

theorem Dev.freezeChannel_eq (d : Dev) (ch cause : Nat) : d.freezeChannel ch cause = (d.freezeMarks ch cause).freezeTold ch cause :=
  rfl

def freezeToldReach : Reach := .of [eventReach .dmcEvent (some 0) 4, eventReach .dmcEvent (some 0) 0, .area .raised, dramGoneReach]

theorem Footprint.holds.freezeTold {ch cause : Nat} (he : F.holds d e) (h : freezeToldReach.within F d) :
    F.holds d (e.freezeTold ch cause) :=
  have ⟨htrain, hfreeze, hraised, hgone, _⟩ := h
  (holds_ite ((he.event htrain .self).raise hraised) ((he.event hfreeze .self).raise hraised)).dramGone hgone

/-- The queues of a channel and their lengths in its status. -/
def queueReach : Reach := .of [.area .dmc, .field .dmcStatus none 0 8, .field .dmcStatus none 8 8]

theorem Footprint.holds.queues {k : Nat} {rs ws : List DramReq} (he : F.holds d e) (h : queueReach.within F d) :
    F.holds d (e.setQueues k rs ws) :=
  have ⟨hdmc, hreads, hwrites, _⟩ := h
  ((he.inDmc hdmc).setFld hwrites .any).setFld hreads .any

def poisonBlockReach : Reach := .of [.area .cmp, postEventReach none]

theorem Footprint.holds.poisonBlock {region strip first : Nat} (he : F.holds d e) (h : poisonBlockReach.within F d) :
    F.holds d (e.poisonBlock region strip first) := by
  obtain ⟨hcmp, hpost, -⟩ := h
  unfold Dev.poisonBlock
  split
  · exact he
  · split
    · exact he
    · exact holds_ite ((he.inCmp hcmp).spoil ⟨hcmp, trivial⟩) ((he.inCmp hcmp).postEvent hpost .any)

def dropCopyReach : Reach := .of [.area .ins, noteStoreReach]

theorem Footprint.holds.dropCopy {place : Nat} (he : F.holds d e) (h : dropCopyReach.within F d) : F.holds d (e.dropCopy place) := by
  obtain ⟨hins, hstore, -⟩ := h
  unfold Dev.dropCopy
  split
  · exact he
  · exact (he.inIns hins).noteStore hstore

def poisonToReach : Reach := .of [.reg .dmcPoisonReads none, .area .raised, ctxEventReach none, .area .outs, poisonBlockReach,
  dropCopyReach, eventReach .dmcEvent (some 0) 5, dramGoneReach]

theorem Footprint.holds.poisonTo {ch : Nat} {r : DramReq} (he : F.holds d e) (h : poisonToReach.within F d) :
    F.holds d (e.poisonTo ch r) := by
  obtain ⟨hreads, hraised, hctx, houts, hblock, hcopy, hevent, hgone, -⟩ := h
  have hd1 := he.count hreads .any (k := ch)
  unfold Dev.poisonTo
  dsimp only
  refine holds_ite ((hd1.raise hraised).ctxEvent hctx .any) (holds_ite ?_ ?_)
  · split
    · exact hd1.send houts
    · exact hd1
  · split
    · exact holds_ite (hd1.poisonBlock hblock) hd1
    · exact holds_ite (hd1.dropCopy hcopy) hd1
    · exact holds_ite (((hd1.event hevent .self).raise hraised).dramGone hgone) hd1
    · exact hd1

def drainReach : Reach := .of [queueReach, poisonToReach]

theorem Footprint.holds.drainChannel {ch : Nat} (he : F.holds d e) (h : drainReach.within F d) : F.holds d (e.drainChannel ch) :=
  have ⟨hqueues, hpoison, _⟩ := h
  he.each fun _ _ ho => holds_ite ho ((ho.queues hqueues).foldl fun _ _ ho' => ho'.poisonTo hpoison)

/-- What follows a freeze: the marks made, what waits at the other channels is answered. -/
def Dev.freezeDrains (d : Dev) (ch cause : Nat) : Dev :=
  (d.freezeTold ch cause).each ((List.range 4).map fun i => 4 * (ch / 4) + i) fun d c => if c = ch then d else d.drainChannel c

theorem Dev.freeze_eq (d : Dev) (ch cause : Nat) : d.freeze ch cause = (d.freezeMarks ch cause).freezeDrains ch cause := rfl

def freezeDrainsReach : Reach := .of [freezeToldReach, drainReach]

theorem Footprint.holds.freezeDrains {ch cause : Nat} (he : F.holds d e) (h : freezeDrainsReach.within F d) :
    F.holds d (e.freezeDrains ch cause) :=
  have ⟨htold, hdrain, _⟩ := h
  (he.freezeTold htold).each fun _ _ ho => holds_ite ho (ho.drainChannel hdrain)

end

section
variable (d : Dev) (ch cause : Nat)

theorem Dev.fld_freezeDrains {r : Reg} {k l w : Nat} (hs : freezeDrainsReach.spares r k l w = true) :
    (d.freezeDrains ch cause).fld r k l w = d.fld r k l w :=
  Dev.fld_spared (x := freezeDrainsReach) rfl hs (Footprint.holds_refl _ d).freezeDrains

theorem Dev.fld_poisonTo {q : DramReq} {r : Reg} {k l w : Nat} (hs : poisonToReach.spares r k l w = true) :
    (d.poisonTo ch q).fld r k l w = d.fld r k l w :=
  Dev.fld_spared (x := poisonToReach) rfl hs (Footprint.holds_refl _ d).poisonTo

end

section
variable {d e : Dev} {ch : Nat}

theorem Raises.dramGone (h : Raises d e) : Raises d e.dramGone :=
  have hlost : Raises d { e with dmc := { e.dmc with lost := true } } := h.trans (.of_same rfl)
  .ite h.setUnfit (.ite h.surrender hlost.stopByOther.stopReq)

theorem Raises.freezeTold {cause : Nat} (h : Raises d e) : Raises d (e.freezeTold ch cause) :=
  (Raises.ite (h.event rfl).raise (h.event rfl).raise).dramGone

theorem Raises.poisonTo {r : DramReq} (h : Raises d e) : Raises d (e.poisonTo ch r) := by
  have hd1 : Raises d (e.count .dmcPoisonReads ch) := h.trans (.of_same rfl)
  have hblock (region strip first : Nat) : Raises d ((e.count .dmcPoisonReads ch).poisonBlock region strip first) :=
    hd1.reach (x := poisonBlockReach) rfl rfl (Footprint.holds_refl _ _).poisonBlock
  have hcopy (place : Nat) : Raises d ((e.count .dmcPoisonReads ch).dropCopy place) :=
    hd1.reach (x := dropCopyReach) rfl rfl (Footprint.holds_refl _ _).dropCopy
  have hctx : Raises d (((e.count .dmcPoisonReads ch).raise .dmcPoison ch).ctxEvent 0 .dmcPoison 0 0
      (e.count .dmcPoisonReads ch).fireIndex) :=
    hd1.raise.reach (x := ctxEventReach none) rfl rfl fun hin => (Footprint.holds_refl _ _).ctxEvent hin .any
  unfold Dev.poisonTo
  dsimp only
  refine .ite hctx (.ite ?_ ?_)
  · split
    · exact hd1
    · exact hd1
  · split
    · exact .ite (hblock _ _ _) hd1
    · exact .ite (hcopy _) hd1
    · exact .ite (hd1.event rfl).raise.dramGone hd1
    · exact hd1

theorem Raises.drainChannel (h : Raises d e) : Raises d (e.drainChannel ch) :=
  h.each fun e n => .ite (.refl e) ((Raises.of_same rfl : Raises e (e.setQueues n [] [])).foldl fun _ _ => (Raises.refl _).poisonTo)

theorem Raises.freezeDrains {cause : Nat} (h : Raises d e) : Raises d (e.freezeDrains ch cause) :=
  h.freezeTold.each fun e _ => .ite (.refl e) (Raises.refl e).drainChannel

/-- The code of a freeze is raised. -/
theorem Dev.raised_freezeDrains (d : Dev) {ch cause : Nat} (h : cause ≠ 4) :
    (ECode.dmcFreeze, ch) ∈ (d.freezeDrains ch cause).raised := by
  have htold : d.freezeTold ch cause = ((d.event .dmcEvent 0 0).raise .dmcFreeze ch).dramGone :=
    congrArg Dev.dramGone (if_neg h)
  have hraised : (ECode.dmcFreeze, ch) ∈ (d.freezeTold ch cause).raised := by
    rw [htold]
    exact (Raises.refl _).dramGone.mem
  have hdrains : Raises (d.freezeTold ch cause) (d.freezeDrains ch cause) :=
    (Raises.refl _).each fun e _ => .ite (.refl e) (Raises.refl e).drainChannel
  exact hdrains hraised

end

/-! ### The marks of a freeze (R421) -/

section
variable (d : Dev) (ch cause : Nat)

theorem Dev.bit_each_setBit {ns : List Nat} (r : Reg) (b : Nat) (hb : b < 64) (f : Nat → Nat) {n : Nat} (hn : n ∈ ns) :
    (d.each ns fun d n => d.setBit r (f n) b true).bit r (f n) b = true := by
  refine Dev.each_of_mem (P := fun _ => True) (Q := fun e => e.bit r (f n) b = true) hn trivial (fun _ _ _ => trivial)
    (fun e _ => Dev.bit_setBit_same _ _ _ _ _ hb) fun e m _ hq => ?_
  by_cases hm : f n = f m
  · rw [hm]
    exact Dev.bit_setBit_same _ _ _ _ _ hb
  · exact (congrArg (fun v => bits v b 1 == 1) (Dev.get_put_num _ _ _ hm)).trans hq

def groupOfflineReach : Reach := .of [.field .dmcStatus none 30 1, .field .dmcGrpStatus none 31 1]

theorem Footprint.holds.groupOffline {F : Footprint} {d e : Dev} {g : Nat} (he : F.holds d e) (h : groupOfflineReach.within F d) :
    F.holds d (e.groupOffline g) :=
  have ⟨hstatus, hgroup, _⟩ := h
  (he.each fun _ _ ho => ho.setBit hstatus .any).setBit hgroup .any

theorem Dev.groupOffline_shows (g : Nat) :
    (∀ i, i < 4 → (d.groupOffline g).chOffline (4 * g + i) = true) ∧ (d.groupOffline g).bit .dmcGrpStatus g 31 = false := by
  refine ⟨fun i hi => ?_, Dev.bit_setBit_same _ _ _ _ _ (by decide)⟩
  exact (Dev.bit_setBit_reg _ _ _ _ _ _ (by decide)).trans
    (d.bit_each_setBit .dmcStatus 30 (by decide) (4 * g + ·) (List.mem_range.mpr hi))

theorem Dev.freezeMarks_shows (hcause : cause < 8) :
    (d.freezeMarks ch cause).bit .dmcStatus ch 31 = true ∧ (d.freezeMarks ch cause).fld .dmcStatus ch 24 3 = cause := by
  have hgroup {l w : Nat} (hs : groupOfflineReach.spares .dmcStatus ch l w = true) :
      (d.freezeMarks ch cause).fld .dmcStatus ch l w =
        ((d.setBit .dmcStatus ch 31 true).setFld .dmcStatus ch 24 3 cause).fld .dmcStatus ch l w :=
    Dev.fld_spared (x := groupOfflineReach) rfl hs (Footprint.holds_refl _ _).groupOffline
  constructor
  · refine (congrArg (· == 1) ((hgroup rfl).trans (Dev.fld_setFld_other _ _ _ _ _ _ _ _ (by decide) (by decide)))).trans ?_
    exact Dev.bit_setBit_same _ _ _ _ _ (by decide)
  · refine (hgroup rfl).trans ((Dev.fld_setFld_same _ _ _ _ _ _ (by decide)).trans ?_)
    omega

/-- A freeze shows the channel frozen with its cause, and its group offline. -/
theorem Dev.freeze_shows (hcause : cause < 8) : (d.freeze ch cause).bit .dmcStatus ch 31 = true ∧
    (d.freeze ch cause).fld .dmcStatus ch 24 3 = cause ∧
    (∀ i, i < 4 → (d.freeze ch cause).chOffline (4 * (ch / 4) + i) = true) ∧
    (d.freeze ch cause).bit .dmcGrpStatus (ch / 4) 31 = false := by
  obtain ⟨hfrozen, hwhy⟩ := d.freezeMarks_shows ch cause hcause
  obtain ⟨hoffline, hgroup⟩ := Dev.groupOffline_shows ((d.setBit .dmcStatus ch 31 true).setFld .dmcStatus ch 24 3 cause) (ch / 4)
  have hafter {r : Reg} {k l w : Nat} (hs : freezeDrainsReach.spares r k l w = true) :
      (d.freeze ch cause).fld r k l w = (d.freezeMarks ch cause).fld r k l w := Dev.fld_freezeDrains _ ch cause hs
  exact ⟨(congrArg (· == 1) (hafter rfl)).trans hfrozen, (hafter rfl).trans hwhy,
    fun i hi => (congrArg (· == 1) (hafter rfl)).trans (hoffline i hi), (congrArg (· == 1) (hafter rfl)).trans hgroup⟩

def freezeReach : Reach :=
  .of [.field .dmcStatus none 31 1, .field .dmcStatus none 24 3, groupOfflineReach, freezeDrainsReach]

theorem Footprint.holds.freeze {F : Footprint} {d e : Dev} {ch cause : Nat} (he : F.holds d e) (h : freezeReach.within F d) :
    F.holds d (e.freeze ch cause) :=
  have ⟨hfrozen, hcause, hgroup, hdrains, _⟩ := h
  (((he.setBit hfrozen .any).setFld hcause .any).groupOffline hgroup).freezeDrains hdrains

theorem Dev.fld_freeze {r : Reg} {k l w : Nat} (hs : freezeReach.spares r k l w = true) :
    (d.freeze ch cause).fld r k l w = d.fld r k l w :=
  Dev.fld_spared (x := freezeReach) rfl hs (Footprint.holds_refl _ d).freeze

theorem Dev.raised_freeze (h : cause ≠ 4) : (ECode.dmcFreeze, ch) ∈ (d.freeze ch cause).raised :=
  Dev.raised_freezeDrains _ h

/-! ### The captured request (Table 16.9) -/

def captureRestReach : Reach := .of [.reg .dmcFrzAddr none, .reg .dmcFrzSynd none, .reg .dmcFrzBanks none]

def captureReach : Reach := .of [.reg .dmcFrzCmd none, .reg .dmcFrzLinear none, captureRestReach]

theorem Footprint.holds.capture {F : Footprint} {d e : Dev} {addr command q : Nat} {synd : List Nat} (he : F.holds d e)
    (h : captureReach.within F d) : F.holds d (e.capture addr command q synd) :=
  have ⟨hcmd, hlinear, ⟨haddr, hsynd, hbanks, _⟩, _⟩ := h
  ((((he.put hcmd .any).put hlinear .any).put haddr .any).each fun _ _ ho => ho.put hsynd .any).each fun _ _ ho =>
    ho.put hbanks .any

section
variable (addr command q : Nat) (synd : List Nat)

theorem Dev.fld_capture {r : Reg} {k l w : Nat} (hs : captureReach.spares r k l w = true) :
    (d.capture addr command q synd).fld r k l w = d.fld r k l w :=
  Dev.fld_spared (x := captureReach) rfl hs (Footprint.holds_refl _ d).capture

theorem Dev.linear_capture : (d.capture addr command q synd).get .dmcFrzLinear (d.dramPlace addr).ch = addr % 2 ^ 64 := by
  have hrest : (d.capture addr command q synd).get .dmcFrzLinear (d.dramPlace addr).ch =
      ((d.put .dmcFrzCmd (d.dramPlace addr).ch (command <<< 24 + q <<< 16 + (d.dramPlace addr).sub)).put .dmcFrzLinear
        (d.dramPlace addr).ch addr).get .dmcFrzLinear (d.dramPlace addr).ch :=
    Dev.get_spared (x := captureRestReach) rfl rfl fun h =>
      have ⟨haddr, hsynd, hbanks, _⟩ := h
      (((Footprint.holds_refl _ _).put haddr .any).each fun _ _ ho => ho.put hsynd .any).each fun _ _ ho => ho.put hbanks .any
  exact hrest.trans (Dev.get_put_same _ _ _ _)

end

end

/-! ### Retraining (R424) -/

/-- The candidates that stand. -/
def SameBest (d e : Dev) : Prop := e.dmc.best = d.dmc.best

section
variable {d e : Dev}

theorem SameBest.refl (d : Dev) : SameBest d d := rfl

theorem SameBest.trans {e' : Dev} (h : SameBest d e) (g : SameBest e e') : SameBest d e' := Eq.trans g h

theorem SameBest.of_same (h : e.dmc = d.dmc) : SameBest d e := congrArg DmcState.best h

theorem SameBest.ite {c : Prop} [Decidable c] {a b : Dev} (ha : SameBest d a) (hb : SameBest d b) :
    SameBest d (if c then a else b) := by
  split
  · exact ha
  · exact hb

theorem SameBest.foldl {α : Type} {f : Dev → α → Dev} {xs : List α} (h : SameBest d e) (hf : ∀ e x, SameBest e (f e x)) :
    SameBest d (xs.foldl f e) := by
  induction xs generalizing e with
  | nil => exact h
  | cons x xs ih => exact ih (h.trans (hf e x))

theorem SameBest.reach {x : Reach} (h : SameBest d e) {e' : Dev} (hx : x.clear = true) (hdmc : x.areas.contains .dmc = false)
    (g : x.within (x.exact e) e → (x.exact e).holds e e') : SameBest d e' :=
  h.trans (.of_same (Dev.area_spared (p := .dmc) hx hdmc g))

theorem SameBest.dramGone (h : SameBest d e) : SameBest d e.dramGone := by
  have hunfit : SameBest d (e.setUnfit 4 true) := h.trans (.of_same rfl)
  have hsurrender : SameBest d (e.surrender 1) :=
    h.reach (x := surrenderReach) rfl rfl (Footprint.holds_refl _ _).surrender
  have hlost : SameBest d { e with dmc := { e.dmc with lost := true } } := h
  have hstopped := hlost.reach (x := .of [stopFiringReach, stopReqReach]) rfl rfl fun hin =>
    have ⟨hstop, hreq, _⟩ := hin
    ((Footprint.holds_refl _ _).stopByOther hstop).stopReq hreq (u := .sys)
  exact .ite hunfit (.ite hsurrender hstopped)

theorem SameBest.raise {c : ECode} {p : Nat} (h : SameBest d e) : SameBest d (e.raise c p) := h

theorem SameBest.event {b : Nat} (h : SameBest d e) (hx : (eventReach .dmcEvent none b).clear = true)
    (hb : (eventReach .dmcEvent none b).areas.contains .dmc = false) : SameBest d (e.event .dmcEvent 0 b) :=
  h.reach hx hb fun hin => (Footprint.holds_refl _ _).event hin .any

theorem SameBest.poisonTo {ch : Nat} {r : DramReq} (h : SameBest d e) : SameBest d (e.poisonTo ch r) := by
  have hd1 : SameBest d (e.count .dmcPoisonReads ch) := h
  have hctx : SameBest d (((e.count .dmcPoisonReads ch).raise .dmcPoison ch).ctxEvent 0 .dmcPoison 0 0
      (e.count .dmcPoisonReads ch).fireIndex) :=
    (show SameBest d ((e.count .dmcPoisonReads ch).raise .dmcPoison ch) from h).reach (x := ctxEventReach none) rfl rfl
      fun hin => (Footprint.holds_refl _ _).ctxEvent hin .any
  unfold Dev.poisonTo
  dsimp only
  refine .ite hctx (.ite ?_ ?_)
  · split
    · exact hd1
    · exact hd1
  · split
    · exact .ite (hd1.reach (x := poisonBlockReach) rfl rfl (Footprint.holds_refl _ _).poisonBlock) hd1
    · exact .ite (hd1.reach (x := dropCopyReach) rfl rfl (Footprint.holds_refl _ _).dropCopy) hd1
    · exact .ite (hd1.event rfl rfl).raise.dramGone hd1
    · exact hd1

theorem SameBest.drainChannel {ch : Nat} (h : SameBest d e) : SameBest d (e.drainChannel ch) :=
  h.foldl fun e n => .ite (.refl e) ((show SameBest e (e.setQueues n [] []) from rfl).foldl fun _ _ => (SameBest.refl _).poisonTo)

theorem SameBest.freezeMarks {ch cause : Nat} (h : SameBest d e) : SameBest d (e.freezeMarks ch cause) := by
  have hset : SameBest d ((e.setBit .dmcStatus ch 31 true).setFld .dmcStatus ch 24 3 cause) := by
    rw [SameBest, Dev.setFld_dmc, Dev.setBit_dmc]
    exact h
  exact hset.reach (x := groupOfflineReach) rfl rfl (Footprint.holds_refl _ _).groupOffline

theorem SameBest.freezeTold {ch cause : Nat} (h : SameBest d e) : SameBest d (e.freezeTold ch cause) :=
  (SameBest.ite (h.event rfl rfl).raise (h.event rfl rfl).raise).dramGone

theorem SameBest.freeze {ch cause : Nat} (h : SameBest d e) : SameBest d (e.freeze ch cause) := by
  rw [Dev.freeze_eq, Dev.freezeDrains]
  exact h.freezeMarks.freezeTold.foldl fun f _ => .ite (.refl f) (SameBest.refl f).drainChannel

end

/-- What the statements on retraining read of a channel. -/
def Dev.trainView (d : Dev) (c : Nat) : Nat × Nat × Option (Nat × Nat) × Bool :=
  (d.get .dmcRetrains c, d.get .dmcMargin c, Tab.find d.dmc.best c, d.bit .dmcStatus c 28)

/-- A channel whose candidate is taken from it. -/
def Dev.candidateTaken (d : Dev) (ch : Nat) : Dev :=
  { d.setBit .dmcStatus ch 28 false with dmc := { d.dmc with best := Tab.erase d.dmc.best ch } }

/-- The candidate within the limits stands. -/
def Dev.trainedGood (d : Dev) (ch : Nat) (x : Nat × Nat) : Dev :=
  (((d.candidateTaken ch).count .dmcRetrains ch).put .dmcMargin ch (x.1 <<< 8 + x.2)).setBit .dmcStatus ch 29 false

/-- With none the settings before stand, and where they are outside the limits the channel freezes. -/
def Dev.trainedKept (d : Dev) (ch : Nat) (old : Nat × Nat) : Dev :=
  let d3 := (d.candidateTaken ch).put .dmcMargin ch (old.1 <<< 8 + old.2)
  if decide (d.fld .dmcTrainMin 0 0 6 ≤ old.1) && decide (d.fld .dmcTrainMin 0 0 6 ≤ old.2) then
    ((d3.setBit .dmcStatus ch 29 true).event .dmcEvent 0 3).raise .dmcTrainKept ch
  else d3.freeze ch 4

/-- A candidate is within the limits. -/
def Dev.candidateFits (d : Dev) (x : Nat × Nat) : Bool :=
  decide (d.fld .dmcTrainMin 0 0 6 ≤ x.1) && decide (d.fld .dmcTrainMin 0 0 6 ≤ x.2)

section
variable (d : Dev) {c ch : Nat} {old x : Nat × Nat}

theorem Dev.retrained_eq : d.retrained ch old = match (Tab.find d.dmc.best ch).filter d.candidateFits with
    | some e => d.trainedGood ch e
    | none => d.trainedKept ch old := rfl

/-- Setting a cell leaves the cells of other numbers, whatever their names. -/
theorem Dev.get_put_cell (r q : Reg) {k j : Nat} (v : Nat) (h : j ≠ k) : (d.put r k v).get q j = d.get q j := by
  by_cases hq : q = r
  · rw [hq]
    exact Dev.get_put_num _ _ _ h
  · exact Dev.get_put_reg _ _ _ _ hq

theorem Dev.trainView_congr {e : Dev} (hretrains : e.get .dmcRetrains c = d.get .dmcRetrains c)
    (hmargin : e.get .dmcMargin c = d.get .dmcMargin c) (hbest : SameBest d e)
    (hbit : e.fld .dmcStatus c 28 1 = d.fld .dmcStatus c 28 1) : e.trainView c = d.trainView c := by
  rw [Dev.trainView, hretrains, hmargin, hbest, Dev.bit, hbit]
  rfl

/-- Setting a cell of one channel leaves what is read of the others. -/
theorem Dev.trainView_put (r : Reg) (v : Nat) (h : c ≠ ch) : (d.put r ch v).trainView c = d.trainView c :=
  d.trainView_congr (d.get_put_cell _ _ _ h) (d.get_put_cell _ _ _ h) rfl (congrArg (bits · 28 1) (d.get_put_cell _ _ _ h))

theorem Dev.trainView_candidateTaken_other (h : c ≠ ch) : (d.candidateTaken ch).trainView c = d.trainView c := by
  have hmarked : (d.setBit .dmcStatus ch 28 false).trainView c = d.trainView c := d.trainView_put _ _ h
  refine Eq.trans ?_ hmarked
  have hbest : Tab.find (Tab.erase d.dmc.best ch) c = Tab.find d.dmc.best c := Tab.find_erase_ne _ h
  exact congrArg (fun x => ((d.setBit .dmcStatus ch 28 false).get .dmcRetrains c, (d.setBit .dmcStatus ch 28 false).get .dmcMargin c,
    x, (d.setBit .dmcStatus ch 28 false).bit .dmcStatus c 28)) hbest

theorem Dev.trainView_trainedGood_other (h : c ≠ ch) : (d.trainedGood ch x).trainView c = d.trainView c :=
  (((Dev.trainView_put _ _ _ h).trans (Dev.trainView_put _ _ _ h)).trans (Dev.trainView_put _ _ _ h)).trans
    (d.trainView_candidateTaken_other h)

theorem Dev.trainView_trainedKept_other (h : c ≠ ch) : (d.trainedKept ch old).trainView c = d.trainView c := by
  have hold : ((d.candidateTaken ch).put .dmcMargin ch (old.1 <<< 8 + old.2)).trainView c = d.trainView c :=
    (Dev.trainView_put _ _ _ h).trans (d.trainView_candidateTaken_other h)
  unfold Dev.trainedKept
  dsimp only
  split
  · have hmarked : (((d.candidateTaken ch).put .dmcMargin ch (old.1 <<< 8 + old.2)).setBit .dmcStatus ch 29 true).trainView c =
        d.trainView c := (Dev.trainView_put _ _ _ h).trans hold
    refine Eq.trans ?_ hmarked
    exact Dev.trainView_congr _ (Dev.get_event (r := .dmcEvent) _ 0 3 rfl rfl) (Dev.get_event (r := .dmcEvent) _ 0 3 rfl rfl)
      ((SameBest.refl _).event rfl rfl).raise (Dev.fld_event (r := .dmcEvent) _ 0 3 rfl rfl)
  · refine Eq.trans ?_ hold
    refine Dev.trainView_congr _ ?_ ?_ (SameBest.refl _).freeze (Dev.fld_freeze _ _ _ rfl)
    · rw [← Dev.fld_whole, ← Dev.fld_whole]
      exact Dev.fld_freeze _ _ _ rfl
    · rw [← Dev.fld_whole, ← Dev.fld_whole]
      exact Dev.fld_freeze _ _ _ rfl

/-- Retraining of one channel leaves what is read of the others. -/
theorem Dev.trainView_retrained_other (h : c ≠ ch) : (d.retrained ch old).trainView c = d.trainView c := by
  rw [Dev.retrained_eq]
  split
  · exact d.trainView_trainedGood_other h
  · exact d.trainView_trainedKept_other h

/-- A candidate within the limits stands, and a good retraining is counted. -/
theorem Dev.trainView_retrained_good (hbest : Tab.find d.dmc.best ch = some x) (hfits : d.candidateFits x = true) :
    (d.retrained ch old).trainView ch = (satAdd 32 (d.get .dmcRetrains ch) 1, (x.1 <<< 8 + x.2) % 2 ^ 64, none, false) := by
  have hgood : (Tab.find d.dmc.best ch).filter d.candidateFits = some x := by rw [hbest, Option.filter_some, if_pos hfits]
  have hretrains : (d.trainedGood ch x).get .dmcRetrains ch = satAdd 32 (d.get .dmcRetrains ch) 1 :=
    ((Dev.get_put_reg _ _ _ _ (by decide)).trans ((Dev.get_put_reg _ _ _ _ (by decide)).trans (Dev.get_count_same _ _ _))).trans
      (congrArg (satAdd 32 · 1) (Dev.get_put_reg d (r := .dmcStatus) _ _ _ (by decide)))
  have hmargin : (d.trainedGood ch x).get .dmcMargin ch = (x.1 <<< 8 + x.2) % 2 ^ 64 :=
    (Dev.get_put_reg _ _ _ _ (by decide)).trans (Dev.get_put_same _ _ _ _)
  have hcandidate : Tab.find (d.trainedGood ch x).dmc.best ch = none := Tab.find_erase_same d.dmc.best ch
  have hbit : (d.trainedGood ch x).bit .dmcStatus ch 28 = false :=
    (Dev.bit_setBit_other _ _ _ _ _ (by decide) (by decide)).trans
      ((congrArg (fun v => bits v 28 1 == 1) ((Dev.get_put_reg _ _ _ _ (by decide)).trans (Dev.get_put_reg _ _ _ _ (by decide)))).trans
        (Dev.bit_setBit_same d .dmcStatus ch 28 false (by decide)))
  rw [Dev.retrained_eq, hgood]
  dsimp only
  rw [Dev.trainView, hretrains, hmargin, hcandidate, hbit]

end

/-- The end of retraining on channel 4 g + i (Table 16.5). -/
def Dev.retrainEnd (old : List (Byte × Byte)) (g : Nat) (d : Dev) (i : Nat) : Dev :=
  if d.chOffline (4 * g + i) then d.setBit .dmcStatus (4 * g + i) 28 false
  else d.retrained (4 * g + i) ((old.map fun x => (x.1.toNat, x.2.toNat)).getD i (0, 0))

theorem Dev.trainView_retrainEnd_other (d : Dev) {old : List (Byte × Byte)} {g i c : Nat} (h : c ≠ 4 * g + i) :
    (d.retrainEnd old g i).trainView c = d.trainView c := by
  unfold Dev.retrainEnd
  split
  · exact d.trainView_put _ _ h
  · exact d.trainView_retrained_other h

/-- A view that no turn of a loop changes stays. -/
theorem Dev.each_keeps {α : Type} {f : Dev → Nat → Dev} {ns : List Nat} (v : Dev → α) (h : ∀ e, ∀ n ∈ ns, v (f e n) = v e)
    (d : Dev) : v (d.each ns f) = v d := by
  induction ns generalizing d with
  | nil => rfl
  | cons n ns ih =>
    exact (ih (fun e m hm => h e m (List.mem_cons_of_mem n hm)) (f d n)).trans (h d n List.mem_cons_self)

section
variable {s : State} {group : Fin 4} {old : List (Byte × Byte)} {x : Nat × Nat}

theorem retrainDone_good (honline : s.dev.chOffline (4 * group.val) = false)
    (hbest : Tab.find s.dev.dmc.best (4 * group.val) = some x) (hfits : s.dev.candidateFits x = true) :
    Completes (.retrainDone group old) s fun e => e.trainView (4 * group.val) =
      (satAdd 32 (s.dev.get .dmcRetrains (4 * group.val)) 1, (x.1 <<< 8 + x.2) % 2 ^ 64, none, false) := by
  refine ⟨_, rfl, rfl, ?_⟩
  refine Eq.trans (Dev.each_keeps (f := Dev.retrainEnd old group.val) (ns := [1, 2, 3]) (Dev.trainView · (4 * group.val))
    (fun e n hn => e.trainView_retrainEnd_other ?_) _) ?_
  · have hpos : 0 < n := by simp at hn; omega
    omega
  · exact (congrArg (Dev.trainView · (4 * group.val)) (if_neg (Bool.eq_false_iff.mp honline))).trans
      (Dev.trainView_retrained_good _ hbest hfits)

end
/-! ### Grants (R410 to R412) -/

section
variable (d : Dev)

/-- The commands of an access to a row. -/
def Dev.rowCommands (p : DramPlace) (write : Bool) (bursts : Nat) : Dev :=
  let b := d.bankAt p
  let hit := d.openRow b == some p.row
  let d1 := if (d.openRow b).isSome && !hit then d.send (.dram p.ch 3 (b.row.getD 0)) else d
  let d2 := if hit then d1 else (d1.send (.dram p.ch 0 p.row)).drawn
  d2.each (List.range bursts) fun d i => d.send (.dram p.ch (if write then 2 else 1) (p.col / 64 * 64 + 64 * i))

/-- What neither a command sent nor a free value drawn changes stays. -/
theorem Dev.rowCommands_keeps {α : Type} (v : Dev → α) (hsend : ∀ (e : Dev) (o : Out), v (e.send o) = v e)
    (hdrawn : ∀ e : Dev, v e.drawn = v e) {p : DramPlace} {write : Bool} {bursts : Nat} :
    v (d.rowCommands p write bursts) = v d := by
  refine (Dev.each_keeps v (fun e _ _ => hsend e _) _).trans ?_
  split
  · split
    · exact hsend _ _
    · rfl
  · refine (hdrawn _).trans ((hsend _ _).trans ?_)
    split
    · exact hsend _ _
    · rfl

/-- An access to a row changes, of the registers, the memory, the codes and the DRAM's state, its bank alone. -/
theorem Dev.accessRow_keeps (p : DramPlace) (write : Bool) (bursts : Nat) (more : Bool) :
    (d.accessRow p write bursts more).regs = d.regs ∧ (d.accessRow p write bursts more).dram = d.dram ∧
    (d.accessRow p write bursts more).raised = d.raised ∧
    ∃ banks, (d.accessRow p write bursts more).dmc = { d.dmc with bank := banks } := by
  have hdmc : (d.rowCommands p write bursts).dmc = d.dmc := d.rowCommands_keeps Dev.dmc (fun _ _ => rfl) fun _ => rfl
  have hbank (b : Bank) : ∃ banks, ((d.rowCommands p write bursts).setBank p b).dmc = { d.dmc with bank := banks } :=
    ⟨_, congrArg (fun x : DmcState => { x with bank := Tab.set x.bank (2 * p.ch + p.sub, p.rk, p.bg, p.ba) b }) hdmc⟩
  exact ⟨d.rowCommands_keeps Dev.regs (fun _ _ => rfl) fun _ => rfl, d.rowCommands_keeps Dev.dram (fun _ _ => rfl) fun _ => rfl,
    d.rowCommands_keeps Dev.raised (fun _ _ => rfl) fun _ => rfl, hbank _⟩


/-- A subchannel whose queues hold one request at most does not drain. -/
def Dev.undrained (k : Nat) : Dev := { d with dmc := { d.dmc with draining := Tab.set d.dmc.draining k false } }

/-- The controller from which the one request of a subchannel is granted. -/
def Dev.granting (k : Nat) : Dev :=
  (((d.setQueues k (d.dramReads k) (d.dramWrites k)).undrained k).setQueues k [] [])

variable {d}

theorem Dev.dramPlace_of_cfg {e : Dev} (h : e.get .dmcCfg 0 = d.get .dmcCfg 0) (a : Nat) : e.dramPlace a = d.dramPlace a := by
  have hfld (l w : Nat) : e.fld .dmcCfg 0 l w = d.fld .dmcCfg 0 l w := congrArg (bits · l w) h
  have hbytes : e.groupBytes = d.groupBytes := by rw [Dev.groupBytes, Dev.groupBytes, Dev.bit, Dev.bit, hfld, hfld, hfld]
  have hbanks : e.nbank = d.nbank := by rw [Dev.nbank, Dev.nbank, hfld]
  have hranks : e.nrank = d.nrank := by rw [Dev.nrank, Dev.nrank, hfld]
  rw [Dev.dramPlace, Dev.dramPlace, hbytes, hbanks, hranks]

theorem Dev.dramArrive_none {k : Nat} (h : d.chOffline (k / 2) = false) :
    d.dramArrive k [] = d.setQueues k (d.dramReads k) (d.dramWrites k) := by
  simp [Dev.dramArrive, h]

theorem Dev.dramArrive_offline {k : Nat} (h : d.chOffline (k / 2) = true) : d.dramArrive k [] = d := by
  simp [Dev.dramArrive, h]

theorem Dev.dramGrant_write {k : Nat} {w : DramReq} (hrefresh : (d.undrained k).refreshFirst k = none)
    (hreads : d.dramReads k = []) (hwrites : d.dramWrites k = [w]) : d.dramGrant k =
      ((d.undrained k).setQueues k [] []).grantWrite ((d.undrained k).dramPlace w.addr) w (w.data.getD []) false := by
  have hdrains : d.drains k = false := by simp [Dev.drains, hwrites]
  have herase : [w].erase w = [] := List.erase_cons_head ..
  unfold Dev.dramGrant
  rw [hdrains]
  lift_lets
  extract_lets drains _ d0 rs ws
  have hd0 : d0 = d.undrained k := rfl
  have hkeep : drains = false := rfl
  have hrs : rs = [] := hreads
  have hws : ws = [w] := hwrites
  clear_value rs ws d0 drains
  subst hd0 hrs hws hkeep
  rw [hrefresh]
  simp only [Bool.false_eq_true, if_false, Dev.pickReq, List.take_succ_cons, List.take_nil, herase, Dev.moreFor, List.any_nil]

theorem Dev.dramGrant_read {k : Nat} {r : DramReq} (hrefresh : (d.undrained k).refreshFirst k = none)
    (hreads : d.dramReads k = [r]) (hwrites : d.dramWrites k = []) : d.dramGrant k =
      ((d.undrained k).setQueues k [] []).grantRead ((d.undrained k).dramPlace r.addr) r false false := by
  have hdrains : d.drains k = false := by simp [Dev.drains, hwrites]
  have herase : [r].erase r = [] := List.erase_cons_head ..
  unfold Dev.dramGrant
  rw [hdrains]
  lift_lets
  extract_lets drains _ d0 rs ws
  have hd0 : d0 = d.undrained k := rfl
  have hkeep : drains = false := rfl
  have hrs : rs = [r] := hreads
  have hws : ws = [] := hwrites
  clear_value rs ws d0 drains
  subst hd0 hrs hws hkeep
  rw [hrefresh]
  simp only [Bool.false_eq_true, if_false, Dev.pickReq, herase, Dev.moreFor, List.any_nil]

/-- From the queued requests to the grant: what a queue holds and how long it is changes, nothing that a grant goes by. -/
theorem Dev.granting_keeps (k : Nat) : (d.granting k).dram = d.dram ∧ (d.granting k).raised = d.raised ∧
    (d.granting k).dmc.poisoned = d.dmc.poisoned ∧ (d.granting k).dmc.fixes = d.dmc.fixes ∧
    (d.granting k).dramReads k = [] ∧ (d.granting k).dramWrites k = [] :=
  ⟨rfl, rfl, rfl, rfl, Tab.get_set_same _ _ _ _, Tab.get_set_same _ _ _ _⟩

theorem Footprint.holds.granting {F : Footprint} {d e : Dev} {k : Nat} (he : F.holds d e) (h : queueReach.within F d) :
    F.holds d (e.granting k) :=
  have ⟨hdmc, _⟩ := h
  ((he.queues h).inDmc hdmc).queues h

end

section
variable {s : State} {sub : Fin 32}

theorem dramGrant_offline (h : s.dev.chOffline (sub.val / 2) = true) : Yields (.dramGrant sub []) s s.dev := by
  change execDramGrant sub [] s = _
  simp only [execDramGrant, State.run_eq, Dev.dramArrive_offline h, if_pos h]

/-- With nothing that arrives the grant runs on the queues as they stand. -/
theorem dramGrant_online (h : s.dev.chOffline (sub.val / 2) = false) : Yields (.dramGrant sub []) s
    ((s.dev.setQueues sub.val (s.dev.dramReads sub.val) (s.dev.dramWrites sub.val)).dramGrant sub.val) := by
  have honline : (s.dev.setQueues sub.val (s.dev.dramReads sub.val) (s.dev.dramWrites sub.val)).chOffline (sub.val / 2) = false :=
    (congrArg (· == 1) (Dev.fld_spared (x := queueReach) rfl rfl (Footprint.holds_refl _ s.dev).queues)).trans h
  change execDramGrant sub [] s = _
  simp only [execDramGrant, State.run_eq, Dev.dramArrive_none h, if_neg (Bool.eq_false_iff.mp honline)]

theorem Dev.dramPlace_undrained (d : Dev) (k j : Nat) (rs ws : List DramReq) (a : Nat) :
    ((d.setQueues k rs ws).undrained j).dramPlace a = d.dramPlace a := by
  have hcfg : (d.setQueues k rs ws).get .dmcCfg 0 = d.get .dmcCfg 0 :=
    Dev.get_spared (x := queueReach) rfl rfl (Footprint.holds_refl _ d).queues
  refine Dev.dramPlace_of_cfg ?_ a
  rw [Dev.undrained]
  exact hcfg

theorem dramGrant_writes {w : DramReq} (honline : s.dev.chOffline (sub.val / 2) = false)
    (hrefresh : s.dev.refreshFirst sub.val = none) (hreads : s.dev.dramReads sub.val = []) (hwrites : s.dev.dramWrites sub.val = [w]) :
    Yields (.dramGrant sub []) s
      ((s.dev.granting sub.val).grantWrite (s.dev.dramPlace w.addr) w (w.data.getD []) false) := by
  have hgrant := Dev.dramGrant_write (d := s.dev.setQueues sub.val (s.dev.dramReads sub.val) (s.dev.dramWrites sub.val))
    (k := sub.val) (w := w) hrefresh ((Tab.get_set_same _ _ _ _).trans hreads) ((Tab.get_set_same _ _ _ _).trans hwrites)
  rw [Dev.dramPlace_undrained] at hgrant
  rw [Dev.granting, ← hgrant]
  exact dramGrant_online honline

theorem dramGrant_reads {r : DramReq} (honline : s.dev.chOffline (sub.val / 2) = false)
    (hrefresh : s.dev.refreshFirst sub.val = none) (hreads : s.dev.dramReads sub.val = [r]) (hwrites : s.dev.dramWrites sub.val = []) :
    Yields (.dramGrant sub []) s ((s.dev.granting sub.val).grantRead (s.dev.dramPlace r.addr) r false false) := by
  have hgrant := Dev.dramGrant_read (d := s.dev.setQueues sub.val (s.dev.dramReads sub.val) (s.dev.dramWrites sub.val))
    (k := sub.val) (r := r) hrefresh ((Tab.get_set_same _ _ _ _).trans hreads) ((Tab.get_set_same _ _ _ _).trans hwrites)
  rw [Dev.dramPlace_undrained] at hgrant
  rw [Dev.granting, ← hgrant]
  exact dramGrant_online honline

end
/-! ### A granted write (R410, R412) -/

/-- The first bursts of a write are stored in a unit that holds no poison, and nothing else is. -/
structure Dev.Wrote (d e : Dev) (addr : Nat) (bytes : List Byte) (n : Nat) : Prop where
  read : ∀ x, Mem.read e.dram x =
    if addr ≤ x ∧ x < addr + bytes.length ∧ x < addr / 64 * 64 + 64 * n then bytes.getD (x - addr) 0 else Mem.read d.dram x
  clean : ∀ i, i < 256 → e.isPoisoned (addr / 256 * 256 + i) = false
  reads : e.dmc.reads = d.dmc.reads
  writes : e.dmc.writes = d.dmc.writes

section
variable {d e : Dev} {ch addr n : Nat} {bytes : List Byte}

/-- Nothing is poisoned by a burst that is written whole or in part. -/
theorem Dev.isPoisoned_setPoison {a x : Nat} (h : e.isPoisoned x = false) : (e.setPoison a false).isPoisoned x = false := by
  simp only [Dev.isPoisoned, Dev.setPoison, Bool.false_eq_true, if_false, List.contains_eq_mem, decide_eq_false_iff_not,
    List.mem_filter, not_and] at h ⊢
  exact fun hx => absurd hx h

theorem Dev.writeBurst_clean (h : e.isPoisoned (addr / 64 * 64 + 64 * n) = false) : e.writeBurst ch addr bytes n =
    { e.setPoison (addr / 64 * 64 + 64 * n) false with
      dram := e.dram.writeBytes (max addr (addr / 64 * 64 + 64 * n)) ((bytes.drop (max addr (addr / 64 * 64 + 64 * n) - addr)).take
        (addr / 64 * 64 + 64 * n + 64 - max addr (addr / 64 * 64 + 64 * n))) } := by
  simp [Dev.writeBurst, h]

theorem Dev.Wrote.burst (h : d.Wrote e addr bytes n) (hn : n < 4 - addr / 64 % 4) :
    d.Wrote (e.writeBurst ch addr bytes n) addr bytes (n + 1) := by
  obtain ⟨hread, hclean, hreads, hwrites⟩ := h
  have hpoison : e.isPoisoned (addr / 64 * 64 + 64 * n) = false := by
    have hin := hclean (addr / 64 * 64 + 64 * n - addr / 256 * 256) (by omega)
    rwa [show addr / 256 * 256 + (addr / 64 * 64 + 64 * n - addr / 256 * 256) = addr / 64 * 64 + 64 * n by omega] at hin
  rw [Dev.writeBurst_clean hpoison]
  refine ⟨fun x => ?_, fun i hi => Dev.isPoisoned_setPoison (hclean i hi), hreads, hwrites⟩
  generalize hlo : max addr (addr / 64 * 64 + 64 * n) = lo
  have hlen : ((bytes.drop (lo - addr)).take (addr / 64 * 64 + 64 * n + 64 - lo)).length =
      min (addr / 64 * 64 + 64 * n + 64 - lo) (bytes.length - (lo - addr)) := by simp
  by_cases hx : lo ≤ x ∧ x < lo + ((bytes.drop (lo - addr)).take (addr / 64 * 64 + 64 * n + 64 - lo)).length
  · have hat := Mem.read_writeBytes_inside e.dram lo ((bytes.drop (lo - addr)).take (addr / 64 * 64 + 64 * n + 64 - lo))
      (i := x - lo) (by omega)
    rw [show lo + (x - lo) = x by omega] at hat
    rw [if_pos (by omega)]
    refine hat.trans ?_
    have hin : x - lo < addr / 64 * 64 + 64 * n + 64 - lo := by omega
    rw [List.getD_eq_getElem?_getD, List.getD_eq_getElem?_getD, List.getElem?_take_of_lt hin, List.getElem?_drop,
      show lo - addr + (x - lo) = x - addr by omega]
  · refine (Mem.read_writeBytes_outside _ _ (by omega)).trans ((hread x).trans ?_)
    split
    · rw [if_pos (by omega)]
    · rw [if_neg (by omega)]

theorem Dev.Wrote.bursts (h : d.Wrote e addr bytes 0) (hn : n ≤ 4 - addr / 64 % 4) :
    d.Wrote (e.each (List.range n) fun d i => d.writeBurst ch addr bytes i) addr bytes n := by
  induction n with
  | zero => exact h
  | succ n ih =>
    rw [Dev.each, List.range_succ, List.foldl_append]
    exact (ih (by omega)).burst (by omega)

/-- A granted write within a unit that holds no poison stores its bytes and nothing else. -/
theorem Dev.Wrote.grantWrite {p : DramPlace} {w : DramReq} {more : Bool} (hunit : w.addr % 256 + bytes.length ≤ 256)
    (hclean : ∀ i, i < 256 → d.isPoisoned (w.addr / 256 * 256 + i) = false) :
    (∀ i, i < bytes.length → Mem.read (d.grantWrite p w bytes more).dram (w.addr + i) = bytes.getD i 0) ∧
    (∀ a, a < w.addr ∨ w.addr + bytes.length ≤ a → Mem.read (d.grantWrite p w bytes more).dram a = Mem.read d.dram a) ∧
    (d.grantWrite p w bytes more).dmc.reads = d.dmc.reads ∧ (d.grantWrite p w bytes more).dmc.writes = d.dmc.writes := by
  obtain ⟨-, hdram, -, banks, hdmc⟩ := d.accessRow_keeps p true (grantBursts w.addr (burstsOf w.addr bytes.length)) more
  have hstart : d.Wrote (d.accessRow p true (grantBursts w.addr (burstsOf w.addr bytes.length)) more) w.addr bytes 0 := by
    refine ⟨fun x => ?_, fun i hi => ?_, by rw [hdmc], by rw [hdmc]⟩
    · rw [hdram, if_neg (by omega)]
    · rw [Dev.isPoisoned, hdmc]
      exact hclean i hi
  have hall : w.addr + bytes.length ≤ w.addr / 64 * 64 + 64 * grantBursts w.addr (burstsOf w.addr bytes.length) := by
    unfold grantBursts burstsOf
    omega
  obtain ⟨hread, -, hreads, hwrites⟩ := hstart.bursts (ch := p.ch) (n := grantBursts w.addr (burstsOf w.addr bytes.length))
    (by unfold grantBursts; omega)
  refine ⟨fun i hi => ?_, fun a ha => ?_, hreads, hwrites⟩
  · refine (hread (w.addr + i)).trans ((if_pos (by omega)).trans ?_)
    rw [Nat.add_sub_cancel_left]
  · exact (hread a).trans (if_neg (by omega))

end

/-! ### A granted read (R415, R421) -/

section
variable {d : Dev} {p : DramPlace} {r : DramReq}

/-- A verdict goes by the poison, the memory and the map. -/
theorem Dev.readVerdict_congr {e : Dev} (hpoison : e.dmc.poisoned = d.dmc.poisoned) (hdram : e.dram = d.dram)
    (hcfg : e.get .dmcCfg 0 = d.get .dmcCfg 0) (i : Nat) : e.readVerdict r i = d.readVerdict r i := by
  have hplace (a : Nat) : e.dramPlace a = d.dramPlace a := Dev.dramPlace_of_cfg hcfg a
  have hburst : e.burstRead r i = d.burstRead r i := by
    funext h
    simp only [Dev.burstRead, Dev.isPoisoned, hpoison, hdram, hplace]
  rw [Dev.readVerdict, Dev.readVerdict, Dev.isPoisoned, Dev.isPoisoned, hpoison, hplace, hburst]

/-- The row of a read of one burst is open; the scrubber's next address follows its own. -/
def Dev.opened (d : Dev) (p : DramPlace) (r : DramReq) : Dev :=
  let d1 := d.accessRow p false 1 false
  if r.q.val = 8 then d1.put .dmcScrubAddr 0 (d1.scrubNext (r.addr / 64 * 64 + 64 * 1)) else d1

/-- A read of one burst opens its row and is judged. -/
theorem Dev.grantRead_one (hmore : r.more = 0) : d.grantRead p r false false = (d.opened p r).readBurst p r 0 := by
  have hone : grantBursts r.addr (r.more.val + 1) = 1 := by
    rw [hmore, grantBursts]
    have hfour : r.addr / 64 % 4 < 4 := Nat.mod_lt _ (by decide)
    change min 1 (4 - r.addr / 64 % 4) = 1
    omega
  rw [Dev.grantRead, hone]
  rfl


section
variable {synd : List Nat} {fixes : List (Nat × Nat)}

theorem Dev.readBurst_corrected (honline : d.chOffline p.ch = false) (hverdict : d.readVerdict r 0 = .corrected fixes) :
    d.readBurst p r 0 = { d with dmc := { d.dmc with
      fixes := d.dmc.fixes ++ fixes.map fun f => { addr := r.addr / 64 * 64 + 64 * 0, device := f.2 } } } := by
  rw [Dev.readBurst, honline, hverdict]
  rfl

theorem Dev.readBurst_uncorrectable (honline : d.chOffline p.ch = false) (hverdict : d.readVerdict r 0 = .uncorrectable synd)
    (hq : r.q.val ≠ 8) : d.readBurst p r 0 =
      (((d.count .dmcUeCount p.ch).capture (r.addr / 64 * 64 + 64 * 0) 1 r.q.val (syndWords synd)).freeze p.ch 1).poisonTo p.ch r := by
  rw [Dev.readBurst, honline, hverdict]
  simp only [Bool.false_eq_true, if_false, hq]

/-- An uncorrectable read freezes its channel with cause 1 and is counted. -/
theorem Dev.ueRead_shows (a : Nat) (f : Dev)
    (hf : f = (((d.count .dmcUeCount p.ch).capture a 1 r.q.val (syndWords synd)).freeze p.ch 1).poisonTo p.ch r) :
    f.bit .dmcStatus p.ch 31 = true ∧ f.fld .dmcStatus p.ch 24 3 = 1 ∧ (ECode.dmcFreeze, p.ch) ∈ f.raised ∧
    f.get .dmcUeCount p.ch = satAdd 32 (d.get .dmcUeCount p.ch) 1 := by
  obtain ⟨hfrozen, hcause, -, -⟩ := Dev.freeze_shows
    ((d.count .dmcUeCount p.ch).capture a 1 r.q.val (syndWords synd)) p.ch 1 (by decide)
  have hraised := Dev.raised_freeze ((d.count .dmcUeCount p.ch).capture a 1 r.q.val (syndWords synd)) p.ch 1 (by decide)
  rw [hf]
  refine ⟨(congrArg (· == 1) (Dev.fld_poisonTo _ _ rfl)).trans hfrozen, (Dev.fld_poisonTo _ _ rfl).trans hcause,
    (Raises.refl _).poisonTo hraised, ?_⟩
  rw [← Dev.fld_whole]
  refine (Dev.fld_poisonTo _ _ rfl).trans ((Dev.fld_freeze _ _ _ rfl).trans ((Dev.fld_capture _ _ _ _ _ rfl).trans ?_))
  exact (Dev.fld_whole _ _ _).trans (Dev.get_count_same _ _ _)

end

def accessRowReach : Reach := .of [.area .outs, .area .draw, .area .dmc]

theorem Footprint.holds.accessRow {F : Footprint} {d e : Dev} {p : DramPlace} {write more : Bool} {bursts : Nat}
    (he : F.holds d e) (h : accessRowReach.within F d) : F.holds d (e.accessRow p write bursts more) := by
  obtain ⟨houts, hdraw, hdmc, -⟩ := h
  have hclosed := holds_ite (c := (e.openRow (e.bankAt p)).isSome && !(e.openRow (e.bankAt p) == some p.row))
    (he.send houts (o := .dram p.ch 3 ((e.bankAt p).row.getD 0))) he
  have hopened := holds_ite (c := e.openRow (e.bankAt p) == some p.row) hclosed
    ((hclosed.send houts (o := .dram p.ch 0 p.row)).drawn hdraw)
  exact (hopened.each fun _ _ ho => ho.send houts).inDmc hdmc

def openedReach : Reach := .of [accessRowReach, .reg .dmcScrubAddr none]

theorem Footprint.holds.opened {F : Footprint} {d e : Dev} {p : DramPlace} {r : DramReq} (he : F.holds d e)
    (h : openedReach.within F d) : F.holds d (e.opened p r) :=
  have ⟨hrow, hscrub, _⟩ := h
  holds_ite ((he.accessRow hrow).put hscrub .any) (he.accessRow hrow)

/-- From the queues to the row: what a verdict goes by stays. -/
theorem Dev.opened_keeps (d : Dev) (p : DramPlace) (r : DramReq) : (d.opened p r).dram = d.dram ∧
    (d.opened p r).raised = d.raised ∧ (d.opened p r).dmc.poisoned = d.dmc.poisoned ∧ (d.opened p r).dmc.fixes = d.dmc.fixes := by
  obtain ⟨-, hdram, hraised, banks, hdmc⟩ := d.accessRow_keeps p false 1 false
  unfold Dev.opened
  dsimp only
  split
  · rw [Dev.put_dram, Dev.put_raised, Dev.put_dmc, hdmc]
    exact ⟨hdram, hraised, rfl, rfl⟩
  · rw [hdmc]
    exact ⟨hdram, hraised, rfl, rfl⟩

theorem Dev.fld_opened (d : Dev) (k : Nat) (p : DramPlace) (r : DramReq) {q : Reg} {j l w : Nat}
    (hs : (Reach.of [queueReach, openedReach]).spares q j l w = true) : ((d.granting k).opened p r).fld q j l w = d.fld q j l w :=
  Dev.fld_spared (x := .of [queueReach, openedReach]) rfl hs fun h =>
    have ⟨hqueue, hopen, _⟩ := h
    ((Footprint.holds_refl _ d).granting hqueue).opened hopen

end

section
variable {s : State} {sub : Fin 32} {r : DramReq}

/-- A lone read of one burst, with its channel online, is judged as it stands. -/
theorem dramGrant_judges (honline : s.dev.chOffline (sub.val / 2) = false)
    (hrefresh : s.dev.refreshFirst sub.val = none) (hreads : s.dev.dramReads sub.val = [r]) (hwrites : s.dev.dramWrites sub.val = [])
    (hmore : r.more = 0) : Yields (.dramGrant sub []) s
      (((s.dev.granting sub.val).opened (s.dev.dramPlace r.addr) r).readBurst (s.dev.dramPlace r.addr) r 0) := by
  rw [← Dev.grantRead_one hmore]
  exact dramGrant_reads honline hrefresh hreads hwrites

/-- What the verdict finds of the controller before the grant. -/
theorem Dev.judged_keeps (d : Dev) (k : Nat) (p : DramPlace) (r : DramReq) :
    ((d.granting k).opened p r).readVerdict r 0 = d.readVerdict r 0 ∧
    (∀ ch, ((d.granting k).opened p r).chOffline ch = d.chOffline ch) ∧
    ∀ ch, ((d.granting k).opened p r).get .dmcUeCount ch = d.get .dmcUeCount ch := by
  obtain ⟨hdram, -, hpoison, -⟩ := (d.granting k).opened_keeps p r
  have hcfg : ((d.granting k).opened p r).get .dmcCfg 0 = d.get .dmcCfg 0 := by
    rw [← Dev.fld_whole, ← Dev.fld_whole]
    exact d.fld_opened k p r rfl
  obtain ⟨hdram', -, hpoison', -⟩ := Dev.granting_keeps (d := d) k
  refine ⟨Dev.readVerdict_congr (hpoison.trans hpoison') (hdram.trans hdram') hcfg 0,
    fun ch => congrArg (· == 1) (d.fld_opened k p r rfl), fun ch => ?_⟩
  rw [← Dev.fld_whole, ← Dev.fld_whole]
  exact d.fld_opened k p r rfl

theorem dramGrant_uncorrectable {synd : List Nat} (honline : s.dev.chOffline (sub.val / 2) = false)
    (hplace : s.dev.chOffline (s.dev.dramPlace r.addr).ch = false) (hrefresh : s.dev.refreshFirst sub.val = none)
    (hreads : s.dev.dramReads sub.val = [r]) (hwrites : s.dev.dramWrites sub.val = []) (hmore : r.more = 0)
    (hverdict : s.dev.readVerdict r 0 = .uncorrectable synd) (hq : r.q.val ≠ 8) : Completes (.dramGrant sub []) s fun e =>
      e.bit .dmcStatus (s.dev.dramPlace r.addr).ch 31 = true ∧ e.fld .dmcStatus (s.dev.dramPlace r.addr).ch 24 3 = 1 ∧
      (ECode.dmcFreeze, (s.dev.dramPlace r.addr).ch) ∈ e.raised ∧
      e.get .dmcUeCount (s.dev.dramPlace r.addr).ch = satAdd 32 (s.dev.get .dmcUeCount (s.dev.dramPlace r.addr).ch) 1 := by
  obtain ⟨hjudged, hoffline, hcount⟩ := s.dev.judged_keeps sub.val (s.dev.dramPlace r.addr) r
  obtain ⟨hfrozen, hcause, hraised, hue⟩ := Dev.ueRead_shows _ _
    (Dev.readBurst_uncorrectable ((hoffline _).trans hplace) (hjudged.trans hverdict) hq)
  exact (dramGrant_judges honline hrefresh hreads hwrites hmore).completes
    ⟨hfrozen, hcause, hraised, hue.trans (congrArg (satAdd 32 · 1) (hcount _))⟩

theorem dramGrant_corrected {fixes : List (Nat × Nat)} (honline : s.dev.chOffline (sub.val / 2) = false)
    (hplace : s.dev.chOffline (s.dev.dramPlace r.addr).ch = false) (hrefresh : s.dev.refreshFirst sub.val = none)
    (hreads : s.dev.dramReads sub.val = [r]) (hwrites : s.dev.dramWrites sub.val = []) (hmore : r.more = 0)
    (hverdict : s.dev.readVerdict r 0 = .corrected fixes) : Completes (.dramGrant sub []) s fun e =>
      e.dmc.fixes = s.dev.dmc.fixes ++ fixes.map (fun f => ⟨r.addr / 64 * 64, f.2⟩) ∧ e.dram = s.dev.dram ∧
      e.raised = s.dev.raised := by
  obtain ⟨hjudged, hoffline, -⟩ := s.dev.judged_keeps sub.val (s.dev.dramPlace r.addr) r
  obtain ⟨hdram, hraised, -, hfixes⟩ := (s.dev.granting sub.val).opened_keeps (s.dev.dramPlace r.addr) r
  refine (dramGrant_judges honline hrefresh hreads hwrites hmore).completes ?_
  rw [Dev.readBurst_corrected ((hoffline _).trans hplace) (hjudged.trans hverdict)]
  exact ⟨congrArg (· ++ _) hfixes, hdram, hraised⟩

/-- A lone write within a clean unit stores its bytes, and the queues are empty. -/
theorem dramGrant_stores {w : DramReq} {bytes : List Byte} (honline : s.dev.chOffline (sub.val / 2) = false)
    (hrefresh : s.dev.refreshFirst sub.val = none) (hreads : s.dev.dramReads sub.val = []) (hwrites : s.dev.dramWrites sub.val = [w])
    (hdata : w.data = some bytes) (hunit : w.addr % 256 + bytes.length ≤ 256)
    (hclean : (List.range 256).all (fun i => !s.dev.isPoisoned (w.addr / 256 * 256 + i)) = true) :
    Completes (.dramGrant sub []) s fun e => e.dramWrites sub.val = [] ∧ e.dramReads sub.val = [] ∧
      (∀ i, i < bytes.length → Mem.read e.dram (w.addr + i) = bytes.getD i 0) ∧
      (∀ a, a < w.addr ∨ w.addr + bytes.length ≤ a → Mem.read e.dram a = Mem.read s.dev.dram a) := by
  have hclean' : ∀ i, i < 256 → (s.dev.granting sub.val).isPoisoned (w.addr / 256 * 256 + i) = false := fun i hi => by
    have hsame : (s.dev.granting sub.val).isPoisoned (w.addr / 256 * 256 + i) = s.dev.isPoisoned (w.addr / 256 * 256 + i) := rfl
    rw [hsame]
    simpa using List.all_eq_true.mp hclean i (List.mem_range.mpr hi)
  obtain ⟨-, -, -, -, hnoReads, hnoWrites⟩ := Dev.granting_keeps (d := s.dev) sub.val
  obtain ⟨hinside, houtside, hkeepReads, hkeepWrites⟩ := Dev.Wrote.grantWrite (p := s.dev.dramPlace w.addr) (more := false)
    hunit hclean'
  have hyields := dramGrant_writes honline hrefresh hreads hwrites
  rw [hdata] at hyields
  refine hyields.completes ⟨?_, ?_, hinside, houtside⟩
  · rw [Dev.dramWrites, Option.getD_some, hkeepWrites]
    exact hnoWrites
  · rw [Dev.dramReads, Option.getD_some, hkeepReads]
    exact hnoReads

end
/-! ### Refreshes, corrections, freezes and resets (R413 to R422) -/

section
variable {d : Dev}

/-- A refresh closes its bank's row and is sent. -/
theorem Dev.refreshBank_shows (p : DramPlace) :
    (d.refreshBank p).bankAt p = { d.bankAt p with row := none, record := none, postponed := 0 } ∧
    Out.dram p.ch 4 p.ba ∈ (d.refreshBank p).outs := by
  have hclosed : ((d.send (.dram p.ch 4 p.ba)).setBank p { d.bankAt p with row := none, record := none, postponed := 0 }).bankAt p =
      { d.bankAt p with row := none, record := none, postponed := 0 } := Tab.get_set_same _ _ _ _
  have hsent : Out.dram p.ch 4 p.ba ∈
      ((d.send (.dram p.ch 4 p.ba)).setBank p { d.bankAt p with row := none, record := none, postponed := 0 }).outs :=
    List.mem_append_right _ List.mem_cons_self
  unfold Dev.refreshBank
  dsimp only
  split
  · exact ⟨hclosed, hsent⟩
  · constructor
    · refine Eq.trans (congrArg (fun x : DmcState => Tab.get x.bank (2 * p.ch + p.sub, p.rk, p.bg, p.ba) Bank.reset) ?_) hclosed
      exact Dev.each_keeps (f := fun d x => (d.send (.dram p.ch 0 x)).send (.dram p.ch 3 x)) Dev.dmc (fun _ _ _ => rfl) _
    · exact List.foldlRecOn (motive := fun e : Dev => Out.dram p.ch 4 p.ba ∈ e.outs) _ _ hsent fun e h n _ =>
        List.mem_append_left _ (List.mem_append_left _ h)

end

section
variable {s : State}

/-- The bank that a refresh is due for. -/
def refreshPlace (sub : Fin 32) (rank : Fin 2) (bankGroup : Fin 8) (bank : Fin 4) : DramPlace :=
  { ch := sub.val / 2, sub := sub.val % 2, rk := rank.val, bg := bankGroup.val, ba := bank.val, row := 0, col := 0 }

theorem bankAt_refreshPlace (d : Dev) (sub : Fin 32) (rank : Fin 2) (bankGroup : Fin 8) (bank : Fin 4) :
    d.bankAt (refreshPlace sub rank bankGroup bank) =
      Tab.get d.dmc.bank (sub.val, rank.val, bankGroup.val, bank.val) Bank.reset := by
  have hsub : 2 * (sub.val / 2) + sub.val % 2 = sub.val := Nat.div_add_mod _ _
  simp only [Dev.bankAt, refreshPlace, hsub]

/-- A refresh of a busy bank is postponed up to four times; otherwise the bank closes its row. -/
theorem refreshDue_serves {sub : Fin 32} {rank : Fin 2} {bankGroup : Fin 8} {bank : Fin 4} {busy : Bool} :
    Completes (.refreshDue sub rank bankGroup bank busy) s fun e =>
      if busy ∧ (s.dev.bankAt (refreshPlace sub rank bankGroup bank)).postponed < 4 then
        e.bankAt (refreshPlace sub rank bankGroup bank) = { s.dev.bankAt (refreshPlace sub rank bankGroup bank) with
          postponed := (s.dev.bankAt (refreshPlace sub rank bankGroup bank)).postponed + 1 } ∧ e.outs = s.dev.outs
      else
        e.bankAt (refreshPlace sub rank bankGroup bank) = { s.dev.bankAt (refreshPlace sub rank bankGroup bank) with
          row := none, record := none, postponed := 0 } ∧ Out.dram (sub.val / 2) 4 bank.val ∈ e.outs := by
  have hyields : Yields (.refreshDue sub rank bankGroup bank busy) s
      (if busy ∧ (s.dev.bankAt (refreshPlace sub rank bankGroup bank)).postponed < 4 then
        s.dev.setBank (refreshPlace sub rank bankGroup bank) { s.dev.bankAt (refreshPlace sub rank bankGroup bank) with
          postponed := (s.dev.bankAt (refreshPlace sub rank bankGroup bank)).postponed + 1 }
      else s.dev.refreshBank (refreshPlace sub rank bankGroup bank)) := rfl
  refine hyields.completes ?_
  split
  · exact ⟨Tab.get_set_same _ _ _ _, rfl⟩
  · exact s.dev.refreshBank_shows (refreshPlace sub rank bankGroup bank)

/-- The row of a correction that waits to be written back is opened for it. -/
def Dev.ceOpened (d : Dev) (here : EccFix → Bool) : Dev :=
  match d.dmc.fixes.find? here with
  | some f => { d with dmc := { d.dmc with fixes := d.dmc.fixes.filter fun x => !(x.addr == f.addr && here x) } }.accessRow
      (d.dramPlace f.addr) true 1 false
  | none => d

/-- n codewords are counted for a channel, and for the device k of it those of the last 24 h. -/
def Dev.ceCounted (d : Dev) (ch k n : Nat) (xs : List Nat) : Dev :=
  (({ d with dmc := { d.dmc with corrections := Tab.set d.dmc.corrections (ch, k) xs } } : Dev).add32 .dmcCeCount ch n).put
    .dmcCeDev (20 * ch + k) (min (2 ^ 32 - 1) xs.length)

/-- A device above its threshold is told once in 24 h. -/
def Dev.ceTold (d : Dev) (ch k : Nat) : Dev :=
  (({ d with dmc := { d.dmc with told := Tab.set d.dmc.told (ch, k) d.now } } : Dev).event .dmcEvent 0 2).raise .dmcCeDevice ch

theorem Dev.ceCount_ceOpened (d : Dev) (here : EccFix → Bool) (ch : Nat) :
    (d.ceOpened here).get .dmcCeCount ch = d.get .dmcCeCount ch := by
  unfold Dev.ceOpened
  split
  next f _ =>
    obtain ⟨hregs, -⟩ := Dev.accessRow_keeps { d with dmc := { d.dmc with
      fixes := d.dmc.fixes.filter fun x => !(x.addr == f.addr && here x) } } (d.dramPlace f.addr) true 1 false
    rw [Dev.get, Dev.rd, hregs]
    rfl
  · rfl

theorem Dev.ceCount_ceCounted (d : Dev) (ch k n : Nat) (xs : List Nat) :
    (d.ceCounted ch k n xs).get .dmcCeCount ch = satAdd 32 (d.get .dmcCeCount ch) n := by
  have hsmall : satAdd 32 (d.get .dmcCeCount ch) n < 2 ^ 64 := by
    unfold satAdd
    omega
  exact (Dev.get_put_reg _ _ _ _ (by decide)).trans ((Dev.get_put_same _ _ _ _).trans (Nat.mod_eq_of_lt hsmall))

theorem Dev.ceCount_ceTold (d : Dev) (ch k : Nat) : (d.ceTold ch k).get .dmcCeCount ch = d.get .dmcCeCount ch :=
  Dev.get_event (r := .dmcEvent) { d with dmc := { d.dmc with told := Tab.set d.dmc.told (ch, k) d.now } } 0 2 rfl rfl

/-- The corrections of a device are counted, and told where they pass the threshold. -/
theorem ceWriteback_yields {sub : Fin 32} {rank : Fin 2} {device : Fin 5} {codewords : BitVec 2} : ∃ here k xs,
    Yields (.ceWriteback sub rank device codewords) s
      (((s.dev.ceOpened here).ceCounted (sub.val / 2) k (max 1 codewords.toNat) xs).ceTold (sub.val / 2) k) ∨
    Yields (.ceWriteback sub rank device codewords) s
      ((s.dev.ceOpened here).ceCounted (sub.val / 2) k (max 1 codewords.toNat) xs) :=
  ⟨_, _, _, (ite_eq_or_eq _ _ _).imp (congrArg fun d : Dev => Host.Outcome.next { s with dev := d })
    (congrArg fun d : Dev => Host.Outcome.next { s with dev := d })⟩

/-- Corrections are counted by their channel. -/
theorem ceWriteback_counts {sub : Fin 32} {rank : Fin 2} {device : Fin 5} {codewords : BitVec 2} :
    Completes (.ceWriteback sub rank device codewords) s fun e =>
      e.get .dmcCeCount (sub.val / 2) = satAdd 32 (s.dev.get .dmcCeCount (sub.val / 2)) (max 1 codewords.toNat) := by
  obtain ⟨here, k, xs, htold | hcounted⟩ := ceWriteback_yields (s := s) (sub := sub) (rank := rank) (device := device)
    (codewords := codewords)
  · refine htold.completes ?_
    rw [Dev.ceCount_ceTold, Dev.ceCount_ceCounted, Dev.ceCount_ceOpened]
  · refine hcounted.completes ?_
    rw [Dev.ceCount_ceCounted, Dev.ceCount_ceOpened]

/-- A freeze shows its channel, its cause, the group offline and the address captured. -/
theorem dramFreeze_freezes {addr : BitVec 64} {cause : Fin 3} {command : Byte} {requester : Fin 9} {syndrome : List Word}
    (h : s.dev.chOffline (s.dev.dramPlace addr.toNat).ch = false) :
    Completes (.dramFreeze addr cause command requester syndrome) s fun e =>
      e.bit .dmcStatus (s.dev.dramPlace addr.toNat).ch 31 = true ∧
      e.fld .dmcStatus (s.dev.dramPlace addr.toNat).ch 24 3 = cause.val + 1 ∧
      (∀ i, i < 4 → e.chOffline (4 * ((s.dev.dramPlace addr.toNat).ch / 4) + i) = true) ∧
      e.bit .dmcGrpStatus ((s.dev.dramPlace addr.toNat).ch / 4) 31 = false ∧
      e.get .dmcFrzLinear (s.dev.dramPlace addr.toNat).ch = addr.toNat ∧
      (ECode.dmcFreeze, (s.dev.dramPlace addr.toNat).ch) ∈ e.raised := by
  generalize hd1 : (if cause.val = 0 then s.dev.count .dmcUeCount (s.dev.dramPlace addr.toNat).ch else s.dev) = d1
  have hplace : d1.dramPlace addr.toNat = s.dev.dramPlace addr.toNat := by
    rw [← hd1]
    split
    · exact Dev.dramPlace_of_cfg (Dev.get_put_reg _ _ _ _ (by decide)) _
    · rfl
  have hyields : Yields (.dramFreeze addr cause command requester syndrome) s
      ((d1.capture addr.toNat command.toNat requester.val (syndrome.map BitVec.toNat)).freeze
        (s.dev.dramPlace addr.toNat).ch (cause.val + 1)) := by
    change execDramFreeze addr cause command requester syndrome s = _
    simp only [execDramFreeze, State.run_eq, if_neg (Bool.eq_false_iff.mp h), hd1]
  obtain ⟨hfrozen, hcause, hoffline, hgroup⟩ := Dev.freeze_shows
    (d1.capture addr.toNat command.toNat requester.val (syndrome.map BitVec.toNat)) (s.dev.dramPlace addr.toNat).ch
    (cause.val + 1) (by omega)
  have hraised := Dev.raised_freeze (d1.capture addr.toNat command.toNat requester.val (syndrome.map BitVec.toNat))
    (s.dev.dramPlace addr.toNat).ch (cause.val + 1) (by omega)
  have hlinear := d1.linear_capture addr.toNat command.toNat requester.val (syndrome.map BitVec.toNat)
  rw [hplace, Nat.mod_eq_of_lt addr.isLt] at hlinear
  refine hyields.completes ⟨hfrozen, hcause, hoffline, hgroup, ?_, hraised⟩
  rw [← Dev.fld_whole, Dev.fld_freeze _ _ _ rfl, Dev.fld_whole]
  exact hlinear

theorem dramFreeze_ignored {addr : BitVec 64} {cause : Fin 3} {command : Byte} {requester : Fin 9} {syndrome : List Word}
    (h : s.dev.chOffline (s.dev.dramPlace addr.toNat).ch = true) :
    Yields (.dramFreeze addr cause command requester syndrome) s s.dev := by
  change execDramFreeze addr cause command requester syndrome s = _
  simp only [execDramFreeze, State.run_eq, if_pos h]

/-- A group reset is refused in TRANSIT or online, and otherwise asked for. -/
theorem groupReset_outcome {req : Fin 5} {group : Fin 4} : Completes (.groupReset req group) s fun e =>
    if s.dev.inTransit .group group.val then e = s.dev.refuse req.val .transit
    else if s.dev.chOffline (4 * group.val) = false then e = s.dev.refuse req.val .dmcBusy
    else e.mgt.waiting = s.dev.mgt.waiting ++ [(.groupReset group.val, (s.dev.mgt.lastGeneration + 1) % 65536)] := by
  refine ⟨_, rfl, rfl, ?_⟩
  dsimp only
  split
  case isTrue h => rfl
  case isFalse h =>
    split
    case isTrue honline => rw [honline, Bool.not_false, if_pos rfl]
    case isFalse hoffline =>
      rw [Bool.eq_true_of_not_eq_false hoffline, Bool.not_true, if_neg Bool.false_ne_true, Dev.cueRequest, Dev.mgt_cueRefresh]

theorem retrainSlice_keeps {channel : Fin 16} {readEye writeEye : Byte} : Completes (.retrainSlice channel readEye writeEye) s fun e =>
    e.bit .dmcStatus channel.val 28 = true ∧
    Tab.find e.dmc.best channel.val = some (match Tab.find s.dev.dmc.best channel.val with
      | some b => if min b.1 b.2 < min readEye.toNat writeEye.toNat then (readEye.toNat, writeEye.toNat) else b
      | none => (readEye.toNat, writeEye.toNat)) := by
  refine ⟨_, rfl, rfl, ?_, ?_⟩
  · exact Dev.bit_setBit_same s.dev .dmcStatus channel.val 28 true (by decide)
  · exact Tab.find_set_same _ _ _

end

/-- Settles O50: the grant of a lone request, the marks of a freeze, which what follows in the pair leaves, and the outcome of
a retraining on the first channel of its group. -/
theorem dramServesRefreshesAndFreezes : Obligations.DramServesRefreshesAndFreezes := by
  refine ⟨?write, ?uncorrectable, ?corrected, ?offline, ?refresh, ?temp, ?correction, ?freeze, ?frozen, ?reset, ?slice, ?retrain,
    ?prio⟩
  case write =>
    exact fun s sub w bytes honline hrefresh hreads hwrites hdata hunit hclean =>
      dramGrant_stores honline hrefresh hreads hwrites hdata hunit hclean
  case uncorrectable =>
    exact fun s sub r synd honline hplace hrefresh hreads hwrites hmore hverdict hq =>
      dramGrant_uncorrectable honline hplace hrefresh hreads hwrites hmore hverdict hq
  case corrected =>
    exact fun s sub r fixes honline hplace hrefresh hreads hwrites hmore hverdict =>
      dramGrant_corrected honline hplace hrefresh hreads hwrites hmore hverdict
  case offline => exact fun s sub h => dramGrant_offline h
  case refresh =>
    rintro s sub rank bankGroup bank busy b rfl
    have hserves := refreshDue_serves (s := s) (sub := sub) (rank := rank) (bankGroup := bankGroup) (bank := bank) (busy := busy)
    simp only [bankAt_refreshPlace] at hserves
    exact hserves
  case temp =>
    intro s channel celsius
    exact ⟨_, rfl, rfl, Tab.get_set_same _ _ _ _, fun k hk => Tab.get_set_ne _ _ _ hk⟩
  case correction => exact fun s sub rank device codewords => ceWriteback_counts
  case freeze => exact fun s addr cause command requester syndrome h => dramFreeze_freezes h
  case frozen => exact fun s addr cause command requester syndrome h => dramFreeze_ignored h
  case reset => exact fun s req group => groupReset_outcome
  case slice => exact fun s channel readEye writeEye => retrainSlice_keeps
  case retrain =>
    intro s group old x honline hbest hread hwrite
    obtain ⟨t, hexec, hpending, hview⟩ := retrainDone_good (old := old) honline hbest (x := x)
      (by simp [Dev.candidateFits, hread, hwrite])
    simp only [Dev.trainView, Prod.mk.injEq] at hview
    exact ⟨t, hexec, hpending, hview⟩
  case prio =>
    intro s requester prio
    have hyields : Yields (.dmcPrioWrite requester prio) s
        (if requester.val < 2 then s.dev else s.dev.put .dmcPrio requester.val prio.toNat) := rfl
    refine hyields.completes ?_
    split
    · rfl
    · rw [Dev.get_put_same]
      omega

end Sys2Proof.Machine
end

section
open Sys2Proof
namespace Sys2Proof.Machine

/-! ### The state of a lane -/

section
variable (d : Dev) {k l : Nat}

theorem Dev.laneSt_of_get {e : Dev} (h : e.get .lneStatus l = d.get .lneStatus l) : e.laneSt l = d.laneSt l :=
  congrArg (bits · 28 4) h

theorem Dev.get_setFld_other (r : Reg) (a w v : Nat) (h : k ≠ l) : (d.setFld r l a w v).get r k = d.get r k :=
  d.get_put_num r _ h

/-- A bit of STATUS below STATE leaves STATE. -/
theorem Dev.laneSt_setBit (i : Nat) (b : Bool) (hi : i < 28) : (d.setBit .lneStatus k i b).laneSt l = d.laneSt l := by
  by_cases h : l = k
  · subst h
    exact d.fld_setBit_other .lneStatus l i b 28 4 (by omega) (.inr hi)
  · exact Dev.laneSt_of_get d (d.get_setFld_other .lneStatus _ _ _ h)

theorem Dev.get_setLaneSt_other (st : Nat) (h : k ≠ l) : (d.setLaneSt l st).get .lneStatus k = d.get .lneStatus k := by
  have hst := d.get_setFld_other .lneStatus 28 4 st h
  unfold Dev.setLaneSt
  split
  · exact hst
  · exact (Dev.get_setFld_other _ .lneStatus _ _ _ h).trans hst

theorem Dev.laneSt_setLaneSt_same (st : Nat) : (d.setLaneSt l st).laneSt l = st % 16 := by
  have hst : (d.setFld .lneStatus l 28 4 st).laneSt l = st % 16 := d.fld_setFld_same .lneStatus l 28 4 st (by decide)
  unfold Dev.setLaneSt
  split
  · exact hst
  · exact (Dev.laneSt_setBit _ 26 false (by decide)).trans hst

theorem Dev.laneSt_setLaneSt_other (st : Nat) (h : k ≠ l) : (d.setLaneSt l st).laneSt k = d.laneSt k :=
  Dev.laneSt_of_get d (d.get_setLaneSt_other st h)

/-- A field of STATUS below bit 26 stays when STATE is set. -/
theorem Dev.fld_setLaneSt (st a w : Nat) (h : a + w ≤ 26) : (d.setLaneSt l st).fld .lneStatus k a w = d.fld .lneStatus k a w :=
  Dev.fld_spared (x := setLaneStReach none) rfl (by simp [setLaneStReach, Reach.of, Reach.spares]; omega) fun hin =>
    (Footprint.holds_refl _ d).setLaneSt hin .any

theorem Dev.lane_setLane_same (x : Lane) : (d.setLane l x).lane l = x := Tab.get_set_same _ _ _ _

theorem Dev.lane_setLane_other (x : Lane) (h : k ≠ l) : (d.setLane l x).lane k = d.lane k := Tab.get_set_ne _ _ _ h

theorem Dev.lne_setGood (b : Bool) : (d.setGood l b).lne = (d.setLane l { d.lane l with good := b }).lne :=
  (apply_ite Dev.lne ..).trans (ite_self _)

theorem Dev.lane_setGood_same (b : Bool) : (d.setGood l b).lane l = { d.lane l with good := b } := by
  rw [Dev.lane, d.lne_setGood]
  exact d.lane_setLane_same _

theorem Dev.lane_setGood_other (b : Bool) (h : k ≠ l) : (d.setGood l b).lane k = d.lane k := by
  rw [Dev.lane, d.lne_setGood]
  exact d.lane_setLane_other _ h

theorem Dev.get_setGood {r : Reg} (b : Bool) (h : setGoodReach.spares r k 0 64 = true) : (d.setGood l b).get r k = d.get r k :=
  Dev.get_spared (x := setGoodReach) rfl h fun hin => (Footprint.holds_refl _ d).setGood hin

theorem Dev.laneSt_setGood (b : Bool) : (d.setGood l b).laneSt k = d.laneSt k := Dev.laneSt_of_get d (d.get_setGood b rfl)

theorem Dev.get_unmark_other (h : k ≠ l) : (d.unmark l).get .lneStatus k = d.get .lneStatus k := by
  unfold Dev.unmark
  split
  · exact (Dev.get_put_reg _ _ _ _ (by decide)).trans (d.get_setFld_other .lneStatus _ _ _ h)
  · rfl

theorem Dev.fld_unmark {a w : Nat} (h : (unmarkReach none).spares .lneStatus k a w = true) :
    (d.unmark l).fld .lneStatus k a w = d.fld .lneStatus k a w :=
  Dev.fld_spared (x := unmarkReach none) rfl h fun hin => (Footprint.holds_refl _ d).unmark hin .any

theorem Dev.laneSt_unmark : (d.unmark l).laneSt k = d.laneSt k := d.fld_unmark rfl

theorem Dev.laneSt_laneDeep_same : (d.laneDeep l).laneSt l =
    if d.laneSt l = 10 then 10 else if d.laneEnabled l && d.lanePowered l then 1 else 0 := by
  unfold Dev.laneDeep
  split
  case isTrue h => exact h
  case isFalse =>
    refine (Dev.laneSt_setBit _ 0 false (by decide)).trans ((d.laneSt_setLaneSt_same _).trans ?_)
    split <;> rfl

theorem Dev.get_laneDeep_other (h : k ≠ l) : (d.laneDeep l).get .lneStatus k = d.get .lneStatus k := by
  unfold Dev.laneDeep
  split
  · rfl
  · exact (Dev.get_setFld_other _ .lneStatus _ _ _ h).trans (d.get_setLaneSt_other _ h)

end

/-! ### What a port that goes down or up again leaves

Its own lanes change, no lane goes into TEST, no cluster loses or finds its reference, no failure of bring-up and no block error is
counted, and no code is taken back. -/

/-- Registers, and fields of them, that a port leaves in every lane and cluster. -/
def laneKept : List (Reg × Nat × Nat) := [(.cluStatus, 0, 64), (.lneCtrl, 0, 64), (.lneBlockErr, 0, 64), (.lneEvent, 2, 1)]

/-- Registers of which a port leaves all or a part. -/
def laneRegs : List Reg := .lneStatus :: laneKept.map Prod.fst

structure KeepsLanes (g : LaneGroup) (d e : Dev) : Prop where
  outside : ∀ l, l ∉ g.lanes → e.get .lneStatus l = d.get .lneStatus l
  test : ∀ l, e.laneSt l = 10 → d.laneSt l = 10
  kept : ∀ x ∈ laneKept, ∀ k, e.fld x.1 k x.2.1 x.2.2 = d.fld x.1 k x.2.1 x.2.2
  noRef : e.lne.noRef = d.lne.noRef
  fails : ∀ l, (d.lane l).fails = 0 → (e.lane l).fails = 0
  raised : Raises d e

/-- A reach names no field that a port leaves in lane or cluster k. -/
def Reach.sparesKept (x : Reach) (k : Nat) : Bool := laneKept.all fun q => x.spares q.1 k q.2.1 q.2.2

section
variable {g : LaneGroup} {d e e' : Dev} {l n : Nat}

theorem Dev.get_of_fld {r : Reg} {k : Nat} (h : e.fld r k 0 64 = d.fld r k 0 64) : e.get r k = d.get r k := by
  rwa [Dev.fld_whole, Dev.fld_whole] at h

theorem KeepsLanes.get (h : KeepsLanes g d e) {r : Reg} (hr : (r, 0, 64) ∈ laneKept) (k : Nat) : e.get r k = d.get r k :=
  Dev.get_of_fld (h.kept _ hr k)

theorem ne_of_not_mem_laneRegs {r : Reg} (h : r ∉ laneRegs) : ∀ x ∈ laneKept, x.1 ≠ r := by
  rintro x hx rfl
  exact h (List.mem_cons_of_mem _ (List.mem_map_of_mem hx))

theorem KeepsLanes.of_same (hstatus : ∀ l, e.get .lneStatus l = d.get .lneStatus l)
    (hkept : ∀ x ∈ laneKept, ∀ k, e.fld x.1 k x.2.1 x.2.2 = d.fld x.1 k x.2.1 x.2.2) (hlne : e.lne = d.lne)
    (hraised : Raises d e) : KeepsLanes g d e where
  outside l _ := hstatus l
  test l := fun h => (Dev.laneSt_of_get d (hstatus l)).symm.trans h
  kept := hkept
  noRef := congrArg LaneState.noRef hlne
  fails l := by
    rw [Dev.lane, Dev.lane, hlne]
    exact id
  raised := hraised

theorem KeepsLanes.refl (g : LaneGroup) (d : Dev) : KeepsLanes g d d :=
  .of_same (fun _ => rfl) (fun _ _ _ => rfl) rfl (.refl d)

theorem KeepsLanes.trans (h : KeepsLanes g d e) (h' : KeepsLanes g e e') : KeepsLanes g d e' where
  outside l hl := (h'.outside l hl).trans (h.outside l hl)
  test l := fun hl => h.test l (h'.test l hl)
  kept r hr k := (h'.kept r hr k).trans (h.kept r hr k)
  noRef := h'.noRef.trans h.noRef
  fails l := fun hl => h'.fails l (h.fails l hl)
  raised := h.raised.trans h'.raised

theorem KeepsLanes.ite {c : Prop} [Decidable c] {a b : Dev} (ha : KeepsLanes g d a) (hb : KeepsLanes g d b) :
    KeepsLanes g d (if c then a else b) := by
  split
  · exact ha
  · exact hb

theorem KeepsLanes.each {f : Dev → Nat → Dev} {ns : List Nat} (h : KeepsLanes g d e)
    (hf : ∀ e n, n ∈ ns → KeepsLanes g d e → KeepsLanes g d (f e n)) : KeepsLanes g d (e.each ns f) :=
  List.foldlRecOn ns f h fun e he n hn => hf e n hn he

/-- An operation whose reach names no lane, and that takes no code back. -/
theorem KeepsLanes.reaching {x : Reach} (h : KeepsLanes g d e) (hr : Raises e e') (hx : x.clear = true)
    (hlne : x.areas.contains .lne = false) (hs : ∀ l, (x.spares .lneStatus l 0 64 && x.sparesKept l) = true)
    (hop : x.within (x.exact e) e → (x.exact e).holds e e') : KeepsLanes g d e' :=
  h.trans (.of_same (fun l => Dev.get_spared hx (Bool.and_eq_true_iff.mp (hs l)).1 hop)
    (fun y hy k => Dev.fld_spared hx (List.all_eq_true.mp (Bool.and_eq_true_iff.mp (hs k)).2 y hy) hop)
    (Dev.area_spared (p := .lne) hx hlne hop) hr)

theorem KeepsLanes.reach {x : Reach} (h : KeepsLanes g d e) (hx : x.clear = true) (hlne : x.areas.contains .lne = false)
    (hr : x.areas.contains .raised = false) (hs : ∀ l, (x.spares .lneStatus l 0 64 && x.sparesKept l) = true)
    (hop : x.within (x.exact e) e → (x.exact e).holds e e') : KeepsLanes g d e' :=
  h.reaching (.reach (.refl e) hx hr hop) hx hlne hs hop

theorem KeepsLanes.raise {c : ECode} {p : Nat} (h : KeepsLanes g d e) : KeepsLanes g d (e.raise c p) :=
  h.trans (.of_same (fun _ => rfl) (fun _ _ _ => rfl) rfl (.raise (.refl e)))

theorem KeepsLanes.event {r : Reg} {k i : Nat} (h : KeepsLanes g d e) (hx : (eventReach r none i).clear = true)
    
    (hs : ∀ l, ((eventReach r none i).spares .lneStatus l 0 64 && (eventReach r none i).sparesKept l) = true) :
    KeepsLanes g d (e.event r k i) :=
  h.reach hx rfl rfl hs fun hin => (Footprint.holds_refl _ e).event hin .any

theorem KeepsLanes.put {r : Reg} {k v : Nat} (h : KeepsLanes g d e) (hr : r ∉ laneRegs) :
    KeepsLanes g d (e.put r k v) :=
  h.trans (.of_same (fun l => e.get_put_reg k l v fun he => hr (he ▸ List.mem_cons_self))
    (fun x hx j => congrArg (bits · x.2.1 x.2.2) (e.get_put_reg k j v (ne_of_not_mem_laneRegs hr x hx))) rfl (.of_same rfl))

theorem KeepsLanes.setFld {r : Reg} {k a w v : Nat} (h : KeepsLanes g d e) (hr : r ∉ laneRegs) :
    KeepsLanes g d (e.setFld r k a w v) := h.put hr

theorem KeepsLanes.setBit {r : Reg} {k i : Nat} {b : Bool} (h : KeepsLanes g d e) (hr : r ∉ laneRegs) :
    KeepsLanes g d (e.setBit r k i b) := h.put hr

/-! #### One lane -/

theorem KeepsLanes.setLaneSt {st : Nat} (h : KeepsLanes g d e) (hl : l ∈ g.lanes) (hst : st % 16 ≠ 10) :
    KeepsLanes g d (e.setLaneSt l st) := by
  have hlne := e.lne_setLaneSt l st
  have hraised : (e.setLaneSt l st).raised = e.raised := (apply_ite Dev.raised ..).trans (ite_self _)
  refine h.trans ⟨fun k hk => e.get_setLaneSt_other st fun hkl => hk (hkl ▸ hl), fun k hk => ?_, fun x hx k => ?_,
    congrArg LaneState.noRef hlne, fun k => ?_, .of_same hraised⟩
  · by_cases hkl : k = l
    · exact absurd (hkl ▸ hk) (e.laneSt_setLaneSt_same st ▸ hst)
    · exact (e.laneSt_setLaneSt_other st hkl).symm.trans hk
  · have hs : (setLaneStReach none).sparesKept k = true := rfl
    exact Dev.fld_spared (x := setLaneStReach none) rfl (List.all_eq_true.mp hs x hx) fun hin =>
      (Footprint.holds_refl _ e).setLaneSt hin .any
  · rw [Dev.lane, Dev.lane, hlne]
    exact id

theorem ne_lneStatus_of_mem : ∀ x ∈ laneKept, x.1 ≠ Reg.lneStatus := by decide

theorem KeepsLanes.setLaneBit {i : Nat} {b : Bool} (h : KeepsLanes g d e) (hl : l ∈ g.lanes) (hi : i < 28) :
    KeepsLanes g d (e.setBit .lneStatus l i b) :=
  h.trans ⟨fun _ hk => e.get_setFld_other .lneStatus _ _ _ fun hkl => hk (hkl ▸ hl),
    fun _ hk => (e.laneSt_setBit i b hi).symm.trans hk,
    fun x hx k => congrArg (bits · x.2.1 x.2.2) (e.get_put_reg _ k _ (ne_lneStatus_of_mem x hx)), rfl, fun _ => id, .of_same rfl⟩

theorem KeepsLanes.setLane {x : Lane} (h : KeepsLanes g d e) (hx : (e.lane l).fails = 0 → x.fails = 0) :
    KeepsLanes g d (e.setLane l x) := by
  refine h.trans ⟨fun _ _ => rfl, fun _ => id, fun _ _ _ => rfl, rfl, fun k hk => ?_, .of_same rfl⟩
  by_cases hkl : k = l
  · subst hkl
    rw [Dev.lane_setLane_same]
    exact hx hk
  · rwa [Dev.lane_setLane_other _ _ hkl]

theorem KeepsLanes.laneDeep (h : KeepsLanes g d e) (hl : l ∈ g.lanes) : KeepsLanes g d (e.laneDeep l) := by
  refine .ite h ((h.setLaneSt hl ?_).setLaneBit hl (by decide))
  split <;> decide

theorem KeepsLanes.setGood {b : Bool} (h : KeepsLanes g d e) : KeepsLanes g d (e.setGood l b) :=
  have hlane : KeepsLanes g d (e.setLane l { e.lane l with good := b }) := h.setLane id
  .ite (hlane.put (by decide)) hlane

theorem KeepsLanes.unmark (h : KeepsLanes g d e) (hl : l ∈ g.lanes) : KeepsLanes g d (e.unmark l) :=
  .ite ((h.setLaneBit hl (by decide)).put (by decide)) h

/-! #### The lanes of a port -/

theorem KeepsLanes.lanesRest (h : KeepsLanes g d e) : KeepsLanes g d (e.lanesRest g) :=
  h.each fun _ _ hn he => (he.laneDeep hn).setGood

theorem KeepsLanes.lanesDown (h : KeepsLanes g d e) : KeepsLanes g d (e.lanesDown g) :=
  h.lanesRest.each fun _ _ hn he => he.unmark hn

theorem KeepsLanes.lanesFor {st : Nat} (h : KeepsLanes g d e) : KeepsLanes g d (e.lanesFor g st) :=
  .ite h.lanesDown (.ite h.lanesRest h)

theorem KeepsLanes.trainLanes {ls : List Nat} {rate : Nat} (h : KeepsLanes g d e) (hls : ls ⊆ g.lanes) :
    KeepsLanes g d (e.trainLanes ls rate) :=
  h.each fun _ _ hn he =>
    have hl := hls (List.mem_of_mem_filter hn)
    (((he.setLane fun _ => rfl).setLaneSt hl (by decide)).setLaneBit hl (by decide)).put (by decide)

theorem KeepsLanes.noteRetrain {ls : List Nat} (h : KeepsLanes g d e) : KeepsLanes g d (e.noteRetrain ls) :=
  h.each fun _ _ _ he => (he.put (by decide)).event rfl fun _ => rfl

theorem Dev.goodOf_subset (d : Dev) (g : LaneGroup) : d.goodOf g ⊆ g.lanes := List.filter_sublist.subset

theorem Dev.linkLanes_subset (d : Dev) (n : Nat) : d.linkLanes n ⊆ (LaneGroup.head n).lanes :=
  List.Subset.trans (List.take_subset ..) (d.goodOf_subset _)

/-! #### Head ports -/

theorem KeepsLanes.maskFault (h : KeepsLanes g d e) : KeepsLanes g d (e.maskFault n) :=
  h.reach (x := maskFaultReach) rfl rfl rfl (fun _ => rfl) fun hin => (Footprint.holds_refl _ e).maskFault hin

theorem KeepsLanes.linkDownEvent (h : KeepsLanes g d e) : KeepsLanes g d (e.linkDownEvent n) :=
  h.reach (x := linkDownEventReach none) rfl rfl rfl (fun _ => rfl) fun hin => (Footprint.holds_refl _ e).linkDownEvent hin .any

theorem KeepsLanes.noteRejoin (h : KeepsLanes g d e) : KeepsLanes g d (e.noteRejoin n) :=
  h.reach (x := noteRejoinReach) rfl rfl rfl (fun _ => rfl) fun hin => (Footprint.holds_refl _ e).noteRejoin hin

theorem KeepsLanes.setLink {st : Nat} (h : KeepsLanes g d e) : KeepsLanes g d (e.setLink n st) :=
  h.reach (x := setLinkReach none) rfl rfl rfl (fun _ => rfl) fun hin => (Footprint.holds_refl _ e).setLink hin .any

theorem KeepsLanes.setPort {x : PortLink} (h : KeepsLanes g d e) : KeepsLanes g d (e.setPort n x) :=
  h.trans (.of_same (fun _ => rfl) (fun _ _ _ => rfl) rfl (.of_same rfl))

theorem KeepsLanes.setCredits {v : Nat} (h : KeepsLanes g d e) : KeepsLanes g d (e.setCredits n v) := h.setFld (by decide)

theorem KeepsLanes.noteOutstanding (h : KeepsLanes g d e) : KeepsLanes g d (e.noteOutstanding n) := h.setFld (by decide)

theorem KeepsLanes.linkRestart {st : Nat} (h : KeepsLanes (.head n) d e) : KeepsLanes (.head n) d (e.linkRestart n st) :=
  have hlanes : KeepsLanes (.head n) d ((e.maskFault n).lanesFor (.head n) st) := h.maskFault.lanesFor
  ((((hlanes.setPort.setLink.setFld (by decide)).setCredits).noteOutstanding).setBit (by decide)).put (by decide)

theorem KeepsLanes.relink (h : KeepsLanes (.head n) d e) : KeepsLanes (.head n) d (e.relink n) :=
  (h.linkDownEvent.put (by decide)).linkRestart

theorem KeepsLanes.linkDown (h : KeepsLanes (.head n) d e) : KeepsLanes (.head n) d (e.linkDown n) :=
  h.noteRejoin.linkDownEvent.linkRestart

theorem KeepsLanes.relinkWide (h : KeepsLanes (.head n) d e) : KeepsLanes (.head n) d (e.relinkWide n) := by
  unfold Dev.relinkWide
  lift_lets
  extract_lets ver was w d1 x d2 d3 d4 d5
  refine .ite h (.ite h.linkDown ?_)
  have h2 : KeepsLanes (.head n) d d2 := (h.linkDownEvent.put (by decide)).maskFault.setPort
  have h4 : KeepsLanes (.head n) d d4 :=
    ((h2.setLink.setFld (by decide)).setBit (by decide)).setCredits.noteOutstanding
  have h5 : KeepsLanes (.head n) d d5 := .ite (h4.event rfl fun _ => rfl) h4
  exact h5.noteRetrain.setPort.trainLanes (Dev.linkLanes_subset _ n)

/-! #### Camera ports -/

theorem KeepsLanes.frameClose {early : Bool} (h : KeepsLanes g d e) : KeepsLanes g d (e.frameClose n early) :=
  h.reach (x := frameCloseReach none) rfl rfl rfl (fun _ => rfl) fun hin => (Footprint.holds_refl _ e).frameClose hin .any

theorem KeepsLanes.setPipe {x : Pipe} (h : KeepsLanes g d e) : KeepsLanes g d (e.setPipe n x) :=
  h.trans (.of_same (fun _ => rfl) (fun _ _ _ => rfl) rfl (.of_same rfl))

theorem KeepsLanes.setCam {st : Nat} (h : KeepsLanes g d e) : KeepsLanes g d (e.setCam n st) := h.setFld (by decide)

theorem KeepsLanes.camRestart {st : Nat} (h : KeepsLanes (.camera n) d e) : KeepsLanes (.camera n) d (e.camRestart n st) :=
  have hlanes : KeepsLanes (.camera n) d ((e.frameClose n true).lanesFor (.camera n) st) := h.frameClose.lanesFor
  hlanes.setPipe.setCam.setFld (by decide)

theorem KeepsLanes.camTold (h : KeepsLanes g d e) : KeepsLanes g d ((e.event .insEvent n 5).raise .insCamDown n) :=
  (h.event rfl fun _ => rfl).raise

theorem KeepsLanes.camFail (h : KeepsLanes (.camera n) d e) : KeepsLanes (.camera n) d (e.camFail n) := h.camRestart.camTold

theorem KeepsLanes.camDown (h : KeepsLanes (.camera n) d e) : KeepsLanes (.camera n) d (e.camDown n) :=
  have htold : KeepsLanes (.camera n) d (if e.camState n = 3 then (e.event .insEvent n 5).raise .insCamDown n else e) :=
    .ite h.camTold h
  htold.camRestart

theorem KeepsLanes.camDegrade (h : KeepsLanes (.camera n) d e) : KeepsLanes (.camera n) d (e.camDegrade n) :=
  .ite h.camDown (.ite h.camFail h.camRestart)

/-! #### Ethernet ports -/

theorem KeepsLanes.ctxEvent {c : ECode} {low handle fire : Nat} (h : KeepsLanes g d e) :
    KeepsLanes g d (e.ctxEvent n c low handle fire) :=
  h.reach (x := ctxEventReach none) rfl rfl rfl (fun _ => rfl) fun hin => (Footprint.holds_refl _ e).ctxEvent hin .any

theorem KeepsLanes.irqPulse (h : KeepsLanes g d e) : KeepsLanes g d (e.irqPulse n) :=
  h.reach (x := interruptReach) rfl rfl rfl (fun _ => rfl) fun hin => (Footprint.holds_refl _ e).irqPulse hin

theorem KeepsLanes.ethLink {up fec : Nat} (h : KeepsLanes g d e) : KeepsLanes g d (e.ethLink n up fec) := by
  unfold Dev.ethLink
  lift_lets
  extract_lets was d1 d2
  have h1 : KeepsLanes g d d1 := h.put (by decide)
  have h2 : KeepsLanes g d d2 := .ite (h1.each fun _ _ _ ho => ho.ctxEvent).raise h1
  exact .ite h2 h2.irqPulse

/-! #### Mirror and cascade links -/

theorem KeepsLanes.partnerAcked {ok : Nat → Bool} (h : KeepsLanes g d e) : KeepsLanes g d (e.partnerAcked ok) :=
  h.reaching (x := partnerAckedReach) (KeepsPair.refl e).partnerAcked.raised rfl rfl (fun _ => rfl) fun hin =>
    (Footprint.holds_refl _ e).partnerAcked hin

theorem KeepsLanes.noMirror (h : KeepsLanes g d e) : KeepsLanes g d e.noMirror :=
  have hpartner : KeepsLanes g d { e with ptn := { e.ptn with partner := none } } :=
    h.trans (.of_same (fun _ => rfl) (fun _ _ _ => rfl) rfl (.of_same rfl))
  .ite h hpartner.partnerAcked

theorem KeepsLanes.mirrorDead (h : KeepsLanes g d e) :
    KeepsLanes g d (((e.setBit .ptnStatus 0 (16 + n) false).event .ptnEvent 0 1).raise .ptnMirror n) :=
  ((h.setBit (by decide)).event rfl fun _ => rfl).raise

theorem KeepsLanes.linkDead (h : KeepsLanes g d e) : KeepsLanes g d (e.linkDead n) :=
  .ite h (.ite h.mirrorDead.noMirror ((h.setBit (by decide)).event rfl fun _ => rfl).raise)

theorem KeepsLanes.linkAnew (h : KeepsLanes (linkGroup n) d e) : KeepsLanes (linkGroup n) d (e.linkAnew n) := by
  have huncap : KeepsLanes (linkGroup n) d ((e.linkDead n).uncap n) :=
    h.linkDead.trans ⟨fun _ _ => rfl, fun _ => id, fun _ _ _ => rfl, rfl, fun _ => id,
    .of_same rfl⟩
  exact huncap.lanesRest

theorem KeepsLanes.surrender {cause : Nat} (h : KeepsLanes g d e) : KeepsLanes g d (e.surrender cause) :=
  h.reaching (x := surrenderReach) (.surrender (.refl e)) rfl rfl (fun _ => rfl) fun hin => (Footprint.holds_refl _ e).surrender hin

theorem KeepsLanes.laneSurrender (h : KeepsLanes g d e) : KeepsLanes g d e.laneSurrender := by
  unfold Dev.laneSurrender
  split
  · exact .ite h.surrender h
  · exact h

/-! #### Any port -/

theorem linkGroup_mirror {i : Nat} (h : i < 8) : linkGroup i = .mirror i := if_pos h

theorem linkGroup_cascade (l : Nat) : linkGroup (8 + l) = .cascade l := by
  rw [linkGroup, if_neg (by omega), Nat.add_sub_cancel_left]

/-- The mirror port has eight links. -/
theorem mirror_lt_of_laneGroup {i : Nat} (h : laneGroup l = .mirror i) : i < 8 := by
  unfold laneGroup at h
  split_ifs at h
  cases h
  omega

theorem LaneGroup.mem_lanes (g : LaneGroup) : l ∈ g.lanes ↔ g.span.1 ≤ l ∧ l < g.span.1 + g.span.2 := by
  rw [LaneGroup.lanes, List.mem_map]
  constructor
  · rintro ⟨i, hi, rfl⟩
    have := List.mem_range.mp hi
    omega
  · exact fun ⟨hlo, hhi⟩ => ⟨l - g.span.1, List.mem_range.mpr (by omega), by omega⟩

/-- A lane is one of its port's. -/
theorem mem_lanes_laneGroup (h : l < 1024) : l ∈ (laneGroup l).lanes := by
  rw [LaneGroup.mem_lanes]
  unfold laneGroup
  split_ifs <;> dsimp only [LaneGroup.span] <;> omega

/-- The lanes of a port lie in one cluster. -/
theorem cluster_of_mem_lanes {k : Nat} (h : k ∈ (laneGroup l).lanes) : k / 16 = l / 16 := by
  rw [LaneGroup.mem_lanes] at h
  unfold laneGroup at h
  split_ifs at h <;> dsimp only [LaneGroup.span] at h <;> omega

theorem KeepsLanes.mirrorAnew (h : KeepsLanes (.mirror n) d e) (hn : n < 8) : KeepsLanes (.mirror n) d (e.linkAnew n) := by
  rw [← linkGroup_mirror hn] at *
  exact h.linkAnew

theorem KeepsLanes.cascadeAnew (h : KeepsLanes (.cascade n) d e) : KeepsLanes (.cascade n) d (e.linkAnew (8 + n)) := by
  rw [← linkGroup_cascade] at *
  exact h.linkAnew

theorem KeepsLanes.groupAnew (h : KeepsLanes g d e) (hg : ∀ i, g = .mirror i → i < 8) : KeepsLanes g d (e.groupAnew g) := by
  cases g with
  | head n => exact .ite h (.ite h.linkRestart h.relink)
  | camera c => exact .ite h (.ite h.camFail h.camRestart)
  | ethernet p => exact h
  | pcie => exact h
  | mirror i => exact h.mirrorAnew (hg i rfl)
  | cascade l => exact h.cascadeAnew

theorem KeepsLanes.groupDown (h : KeepsLanes g d e) (hg : ∀ i, g = .mirror i → i < 8) : KeepsLanes g d (e.groupDown g) := by
  cases g with
  | head n => exact .ite h.lanesDown h.linkDown
  | camera c => exact .ite h.lanesDown h.camDown
  | ethernet p => exact h.ethLink
  | pcie => exact h
  | mirror i => exact (h.mirrorAnew (hg i rfl)).lanesDown
  | cascade l => exact h.cascadeAnew.lanesDown

theorem KeepsLanes.laneFail (h : KeepsLanes (laneGroup l) d e) (hl : l < 1024) : KeepsLanes (laneGroup l) d (e.laneFail l) := by
  have hmem := mem_lanes_laneGroup hl
  unfold Dev.laneFail
  revert h hmem
  cases laneGroup l with
  | head n => exact fun h _ => .ite h.relinkWide.laneSurrender (.ite h h.linkRestart)
  | camera c => exact fun h _ => h.camDegrade
  | ethernet p => exact fun h hmem => (h.laneDeep hmem).ethLink
  | pcie => exact fun h hmem => h.laneDeep hmem
  | mirror i => exact fun h _ => h.linkDead.noteRetrain.trainLanes (Dev.goodOf_subset _ _)
  | cascade c => exact fun h _ => h.linkDead.noteRetrain.trainLanes (Dev.goodOf_subset _ _)

theorem KeepsLanes.portLoses (h : KeepsLanes (laneGroup l) d e) : KeepsLanes (laneGroup l) d (e.portLoses l) := by
  unfold Dev.portLoses
  revert h
  cases laneGroup l with
  | head n =>
    intro h
    have h1 := h.raise (c := .hlLane) (p := n)
    have h2 : KeepsLanes (.head n) d (if (e.raise .hlLane n).goodLanes n = 0 then
        if (e.raise .hlLane n).linkState n = 0 then e.raise .hlLane n else (e.raise .hlLane n).linkDown n
        else (e.raise .hlLane n).relinkWide n) := .ite (.ite h1 h1.linkDown) h1.relinkWide
    exact h2.laneSurrender
  | camera c =>
    intro h
    have h1 : KeepsLanes (.camera c) d (if e.camState c = 3 then e else (e.event .insEvent c 5).raise .insCamDown c) :=
      .ite h h.camTold
    exact .ite h1 h1.camDegrade
  | ethernet p => exact fun h => h.ethLink
  | pcie => exact id
  | mirror i => exact fun h => .ite h.linkDead ((h.event rfl fun _ => rfl).raise)
  | cascade c => exact fun h => .ite h.linkDead ((h.event rfl fun _ => rfl).raise)

end
end Sys2Proof.Machine
end

section
open Sys2Proof
namespace Sys2Proof.Machine

/-! ### Reference clocks (R388, R389) -/

/-- A loop whose other turns leave what concerns k: its turn for k runs on what it began with, and leaves what it ends with. -/
theorem Dev.each_turn {R : Dev → Dev → Prop} {f : Dev → Nat → Dev} {ns : List Nat} {k : Nat} (hrefl : ∀ d, R d d)
    (htrans : ∀ d e e', R d e → R e e' → R d e') (hother : ∀ e n, n ≠ k → R e (f e n)) (hk : k ∈ ns)
    (hns : ns.Nodup) (d : Dev) :
    ∃ e, R d e ∧ R (f e k) (d.each ns f) := by
  have hrest : ∀ ns e, k ∉ ns → R e (e.each ns f) := by
    intro ns
    induction ns with
    | nil => exact fun e _ => hrefl e
    | cons n ns ih =>
      exact fun e hn => htrans _ _ _ (hother e n (List.ne_of_not_mem_cons hn).symm) (ih _ (List.not_mem_of_not_mem_cons hn))
  induction ns generalizing d with
  | nil => exact absurd hk List.not_mem_nil
  | cons n ns ih =>
    obtain ⟨hn, hns⟩ := List.nodup_cons.mp hns
    obtain rfl | hk := List.mem_cons.mp hk
    · exact ⟨d, hrefl d, hrest ns _ hn⟩
    · obtain ⟨e, hbefore, hafter⟩ := ih hk hns (f d n)
      exact ⟨e, htrans _ _ _ (hother d n fun h => hn (h ▸ hk)) hbefore, hafter⟩

theorem Dev.bit_of_get {d e : Dev} {r : Reg} {k : Nat} (h : e.get r k = d.get r k) (i : Nat) : e.bit r k i = d.bit r k i :=
  congrArg (fun v => bits v i 1 == 1) h

theorem Dev.bit_put_reg (d : Dev) {r q : Reg} (k j v i : Nat) (h : q ≠ r) : (d.put r k v).bit q j i = d.bit q j i :=
  Dev.bit_of_get (d.get_put_reg k j v h) i

theorem refClusters_nodup (p : Nat → Bool) : (refClusters.filter p).Nodup := (show refClusters.Nodup by decide).filter p

/-- What one cluster has is left, with the references that are good, the image and the codes raised. -/
structure KeepsCluster (c : Nat) (d e : Dev) : Prop where
  status : e.get .cluStatus c = d.get .cluStatus c
  switches : e.get .cluRefSwitches c = d.get .cluRefSwitches c
  good : e.get .lneGlbStatus 0 = d.get .lneGlbStatus 0
  img : e.img = d.img
  raised : Raises d e

section
variable {c n : Nat} {d e e' : Dev} {refB b : Bool}

theorem KeepsCluster.refl (c : Nat) (d : Dev) : KeepsCluster c d d := ⟨rfl, rfl, rfl, rfl, .refl d⟩

theorem KeepsCluster.trans (h : KeepsCluster c d e) (h' : KeepsCluster c e e') : KeepsCluster c d e' :=
  ⟨h'.status.trans h.status, h'.switches.trans h.switches, h'.good.trans h.good, h'.img.trans h.img, h.raised.trans h'.raised⟩

theorem KeepsCluster.ite {p : Prop} [Decidable p] {a b : Dev} (ha : KeepsCluster c d a) (hb : KeepsCluster c d b) :
    KeepsCluster c d (if p then a else b) := by
  split
  · exact ha
  · exact hb

theorem KeepsCluster.bit (h : KeepsCluster c d e) (i : Nat) : e.bit .cluStatus c i = d.bit .cluStatus c i :=
  congrArg (fun v => bits v i 1 == 1) h.status

theorem KeepsCluster.refOk (h : KeepsCluster c d e) (refB : Bool) : e.refOk refB = d.refOk refB :=
  congrArg (fun v => bits v (if refB then 2 else 3) 1 == 1) h.good

theorem KeepsCluster.cfg (h : KeepsCluster c d e) (f : Field) (k : Nat) : e.cfg f k = d.cfg f k := by
  rw [Dev.cfg, Dev.cfg, h.img]

theorem KeepsCluster.reach {x : Reach} (h : KeepsCluster c d e) (hr : Raises e e') (hx : x.clear = true)
    (himg : x.areas.contains .img = false) (hstatus : x.spares .cluStatus c 0 64 = true)
    (hswitches : x.spares .cluRefSwitches c 0 64 = true) (hgood : x.spares .lneGlbStatus 0 0 64 = true)
    (hop : x.within (x.exact e) e → (x.exact e).holds e e') : KeepsCluster c d e' :=
  h.trans ⟨Dev.get_spared hx hstatus hop, Dev.get_spared hx hswitches hop, Dev.get_spared hx hgood hop,
    Dev.area_spared (p := .img) hx himg hop, hr⟩

theorem KeepsCluster.put_other {r : Reg} {v : Nat} (h : KeepsCluster c d e) (hr : .lneGlbStatus ≠ r) (hn : n ≠ c) :
    KeepsCluster c d (e.put r n v) :=
  h.trans ⟨e.get_put_cell r _ v (Ne.symm hn), e.get_put_cell r _ v (Ne.symm hn), e.get_put_reg _ _ _ hr, rfl, .of_same rfl⟩

/-- The lanes of a cluster show its reference. -/
def Dev.lanesFollow (d : Dev) (c : Nat) (refB : Bool) : Dev :=
  d.each (clusterLanes c) fun d l => d.setBit .lneStatus l 24 refB

theorem Dev.setRef_eq (d : Dev) (c : Nat) (refB : Bool) : d.setRef c refB = (d.setBit .cluStatus c 30 refB).lanesFollow c refB := rfl

/-- A switch is told, and lanes in bring-up start again. -/
def Dev.switchTold (d : Dev) (c : Nat) : Dev :=
  ((d.event .lneGlbEvent 0 2).each (clusterLanes c) fun d l =>
    let d2 := d.event .lneEvent l 6
    if 3 ≤ d2.laneSt l ∧ d2.laneSt l ≤ 8 then (d2.setLaneSt l 2).setBit .lneStatus l 0 false else d2).raise .lneRef c

theorem Dev.refSwitch_eq (d : Dev) (c : Nat) (refB : Bool) :
    d.refSwitch c refB = ((d.setRef c refB).count .cluRefSwitches c).switchTold c := rfl

def switchToldReach : Reach := .of [eventReach .lneGlbEvent (some 0) 2, eventReach .lneEvent none 6, setLaneStReach none,
  .field .lneStatus none 0 1, .area .raised]

theorem Footprint.holds.switchTold {F : Footprint} (he : F.holds d e) (h : switchToldReach.within F d) :
    F.holds d (e.switchTold c) := by
  obtain ⟨hglb, hevent, hst, hlock, hraised, -⟩ := h
  exact ((he.event hglb .self).each fun _ _ ho =>
    have htold := ho.event hevent .any
    holds_ite ((htold.setLaneSt hst .any).setBit hlock .any) htold).raise hraised

theorem Raises.setLaneSt {l st : Nat} (h : Raises d e) : Raises d (e.setLaneSt l st) :=
  h.reach (x := setLaneStReach none) rfl rfl fun hin => (Footprint.holds_refl _ e).setLaneSt hin .any

/-- Turns for other clusters. -/
theorem KeepsCluster.lanesFollow (h : KeepsCluster c d e) : KeepsCluster c d (e.lanesFollow n refB) :=
  have hop (hin) := (Footprint.holds_refl _ e).each (ns := clusterLanes n) fun _ _ ho =>
    ho.setBit (l := 24) (b := refB) (r := .lneStatus) (i := none) hin .any
  h.reach (x := .field .lneStatus none 24 1) (.reach (x := .field .lneStatus none 24 1) (.refl e) rfl rfl hop) rfl rfl rfl rfl rfl hop

theorem KeepsCluster.raises_switchTold : Raises e ((e.switchTold n)) := by
  have hturns := (((Raises.refl e).event (r := .lneGlbEvent) (k := 0) (i := 2) rfl).each (ns := clusterLanes n)
    (f := fun d l => if 3 ≤ (d.event .lneEvent l 6).laneSt l ∧ (d.event .lneEvent l 6).laneSt l ≤ 8 then
      ((d.event .lneEvent l 6).setLaneSt l 2).setBit .lneStatus l 0 false else d.event .lneEvent l 6) fun e l =>
    have htold := (Raises.refl e).event (r := .lneEvent) (k := l) (i := 6) rfl
    .ite (htold.setLaneSt.trans (.of_same rfl)) htold)
  exact hturns.raise

theorem KeepsCluster.switchTold (h : KeepsCluster c d e) : KeepsCluster c d (e.switchTold n) :=
  h.reach (x := switchToldReach) raises_switchTold rfl rfl rfl rfl rfl fun hin => (Footprint.holds_refl _ e).switchTold hin

theorem KeepsCluster.setRef_other (h : KeepsCluster c d e) (hn : n ≠ c) : KeepsCluster c d (e.setRef n refB) :=
  KeepsCluster.lanesFollow (h.put_other (by decide) hn)

theorem KeepsCluster.refSwitch_other (h : KeepsCluster c d e) (hn : n ≠ c) : KeepsCluster c d (e.refSwitch n refB) :=
  KeepsCluster.switchTold ((h.setRef_other hn).put_other (by decide) hn)

/-- A cluster that takes a reference shows it. -/
theorem Dev.setRef_shows (d : Dev) (c : Nat) (refB : Bool) :
    (d.setRef c refB).bit .cluStatus c 30 = refB ∧ (∀ i, i ≠ 30 → (d.setRef c refB).bit .cluStatus c i = d.bit .cluStatus c i) ∧
      (d.setRef c refB).get .cluRefSwitches c = d.get .cluRefSwitches c := by
  have hlanes : KeepsCluster c (d.setBit .cluStatus c 30 refB) (d.setRef c refB) := (KeepsCluster.refl c _).lanesFollow
  exact ⟨(hlanes.bit 30).trans (d.bit_setBit_same .cluStatus c 30 refB (by decide)),
    fun i hi => (hlanes.bit i).trans (d.bit_setBit_other .cluStatus c 30 refB (by decide) hi),
    hlanes.switches.trans (d.get_put_reg _ _ _ (by decide))⟩

theorem Dev.refSwitch_shows (d : Dev) (c : Nat) (refB : Bool) : (d.refSwitch c refB).bit .cluStatus c 30 = refB ∧
    (ECode.lneRef, c) ∈ (d.refSwitch c refB).raised ∧
    (d.refSwitch c refB).get .cluRefSwitches c = satAdd 32 (d.get .cluRefSwitches c) 1 := by
  have htold : KeepsCluster c ((d.setRef c refB).count .cluRefSwitches c) (d.refSwitch c refB) := (KeepsCluster.refl c _).switchTold
  obtain ⟨href, -, hswitches⟩ := d.setRef_shows c refB
  refine ⟨(htold.bit 30).trans ((Dev.bit_put_reg _ _ _ _ _ (by decide)).trans href), List.mem_append_right _ List.mem_cons_self, ?_⟩
  · rw [htold.switches, Dev.get_count_same, hswitches]

end

/-- A cluster is locked to a reference. -/
def Dev.onRef (d : Dev) (refB : Bool) (c : Nat) : Bool :=
  d.bit .cluStatus c 31 && !d.bit .cluStatus c 29 && d.bit .cluStatus c 30 == refB

/-- What becomes of a cluster whose reference goes bad. -/
def Dev.refLost (refB : Bool) (d : Dev) (c : Nat) : Dev :=
  if d.cfg .refSel c = 0 ∧ d.refOk (!refB) then d.refSwitch c (!refB) else d.setBit .cluStatus c 29 true

section
variable {s : State} {c : Nat} {refB : Bool} {d e : Dev}

theorem KeepsCluster.refLost_other {n : Nat} (h : KeepsCluster c d e) (hn : n ≠ c) : KeepsCluster c d (Dev.refLost refB e n) :=
  .ite (h.refSwitch_other hn) (h.put_other (by decide) hn)

theorem Dev.refOk_setRefOk_same (d : Dev) (b : Bool) : (d.setRefOk refB b).refOk refB = b :=
  d.bit_setBit_same .lneGlbStatus 0 _ b (by split <;> decide)

theorem Dev.refOk_setRefOk_other (d : Dev) (b : Bool) : (d.setRefOk refB b).refOk (!refB) = d.refOk (!refB) :=
  d.bit_setBit_other .lneGlbStatus 0 _ b (by split <;> decide) (by cases refB <;> decide)

theorem Dev.cfg_setRefOk (d : Dev) (b : Bool) (f : Field) (k : Nat) : (d.setRefOk refB b).cfg f k = d.cfg f k := rfl

theorem Dev.bit_setRefOk (d : Dev) (b : Bool) (i : Nat) : (d.setRefOk refB b).bit .cluStatus c i = d.bit .cluStatus c i :=
  d.bit_setBit_reg _ _ _ _ _ (by decide)

theorem Dev.good_refLost (d : Dev) (n : Nat) : (Dev.refLost refB d n).get .lneGlbStatus 0 = d.get .lneGlbStatus 0 :=
  ((KeepsCluster.refl (n + 1) d).refLost_other (Nat.ne_of_lt n.lt_succ_self)).good

/-- The turn for a cluster on the lost reference is taken where the other one is good and free to choose. -/
theorem Dev.refLost_shows (d : Dev) (c : Nat) (hbit : d.bit .cluStatus c 30 = refB) :
    if d.cfg .refSel c = 0 ∧ d.refOk (!refB) then (Dev.refLost refB d c).bit .cluStatus c 30 = !refB ∧
      (ECode.lneRef, c) ∈ (Dev.refLost refB d c).raised ∧
      (Dev.refLost refB d c).get .cluRefSwitches c = min (d.get .cluRefSwitches c + 1) (2 ^ 32 - 1)
    else (Dev.refLost refB d c).bit .cluStatus c 29 = true ∧ (Dev.refLost refB d c).bit .cluStatus c 30 = refB := by
  unfold Dev.refLost
  split
  · exact d.refSwitch_shows c (!refB)
  · exact ⟨d.bit_setBit_same .cluStatus c 29 true (by decide),
      (d.bit_setBit_other .cluStatus c 29 true (by decide) (by decide)).trans hbit⟩

theorem refBad_moves (hc : c ∈ refClusters) (hlocked : s.dev.bit .cluStatus c 31 = true)
    (hfree : s.dev.bit .cluStatus c 29 = false) (hon : s.dev.bit .cluStatus c 30 = refB) :
    Completes (.refBad refB) s fun e =>
      e.refOk refB = false ∧
      if s.dev.cfg .refSel c = 0 ∧ s.dev.refOk (!refB) then e.bit .cluStatus c 30 = !refB ∧ (ECode.lneRef, c) ∈ e.raised ∧
        e.get .cluRefSwitches c = min (s.dev.get .cluRefSwitches c + 1) (2 ^ 32 - 1)
      else e.bit .cluStatus c 29 = true ∧ e.bit .cluStatus c 30 = refB := by
  have hyields : Yields (.refBad refB) s
      ((s.dev.setRefOk refB false).each (refClusters.filter ((s.dev.setRefOk refB false).onRef refB)) (Dev.refLost refB)) := rfl
  have hmem : c ∈ refClusters.filter ((s.dev.setRefOk refB false).onRef refB) :=
    List.mem_filter.mpr ⟨hc, by simp [Dev.onRef, Dev.bit_setRefOk, hlocked, hfree, hon]⟩
  refine hyields.completes ?_
  obtain ⟨e, hbefore, hafter⟩ := Dev.each_turn (R := KeepsCluster c) (f := Dev.refLost refB) (k := c) (KeepsCluster.refl c)
    (fun _ _ _ => KeepsCluster.trans) (fun e n hn => (KeepsCluster.refl c e).refLost_other hn) hmem (refClusters_nodup _)
    (s.dev.setRefOk refB false)
  have hcount : (s.dev.setRefOk refB false).get .cluRefSwitches c = s.dev.get .cluRefSwitches c := s.dev.get_put_reg _ _ _ (by decide)
  have hshows := Dev.refLost_shows (refB := refB) e c (by rw [hbefore.bit, Dev.bit_setRefOk, hon])
  simp only [hbefore.cfg, hbefore.refOk, hbefore.switches, hcount, Dev.cfg_setRefOk, Dev.refOk_setRefOk_other] at hshows
  refine ⟨?_, ?_⟩
  · refine Eq.trans ?_ (s.dev.refOk_setRefOk_same (refB := refB) false)
    exact congrArg (fun v => bits v (if refB then 2 else 3) 1 == 1)
      (Dev.each_keeps (fun d => d.get .lneGlbStatus 0) (fun e n _ => Dev.good_refLost e n) _)
  · rw [hafter.bit, hafter.bit, hafter.switches]
    split at hshows
    case isTrue h =>
      obtain ⟨h30, hraised, hswitches⟩ := hshows
      rw [if_pos h]
      exact ⟨h30, hafter.raised hraised, hswitches⟩
    case isFalse h =>
      rw [if_neg h]
      exact hshows

/-- A cluster that chose freely runs on REFB. -/
def Dev.awayFromA (d : Dev) (c : Nat) : Bool := d.cfg .refSel c == 0 && d.bit .cluStatus c 31 && d.bit .cluStatus c 30

theorem refReturn_moves (hgood : s.dev.refOk false = true) (hc : c ∈ refClusters) (hsel : s.dev.cfg .refSel c = 0)
    (hlocked : s.dev.bit .cluStatus c 31 = true) (hon : s.dev.bit .cluStatus c 30 = true) :
    Completes .refReturn s fun e => e.bit .cluStatus c 30 = false ∧ e.get .cluRefSwitches c = s.dev.get .cluRefSwitches c := by
  have hyields : Yields .refReturn s ((s.dev.each (refClusters.filter s.dev.awayFromA)) fun d c => d.setRef c false) := by
    change execRefReturn s = _
    simp only [execRefReturn, State.run_eq, hgood, Bool.not_true, Bool.false_eq_true, if_false]
    rfl
  have hmem : c ∈ refClusters.filter s.dev.awayFromA := List.mem_filter.mpr ⟨hc, by simp [Dev.awayFromA, hsel, hlocked, hon]⟩
  refine hyields.completes ?_
  obtain ⟨e, hbefore, hafter⟩ := Dev.each_turn (R := KeepsCluster c) (f := fun d c => d.setRef c false) (k := c) (KeepsCluster.refl c)
    (fun _ _ _ => KeepsCluster.trans) (fun e n hn => (KeepsCluster.refl c e).setRef_other hn) hmem (refClusters_nodup _) s.dev
  obtain ⟨href, -, hswitches⟩ := e.setRef_shows c false
  exact ⟨(hafter.bit 30).trans href, hafter.switches.trans (hswitches.trans hbefore.switches)⟩

theorem refReturn_ignored (h : s.dev.refOk false = false) : Yields .refReturn s s.dev := by
  change execRefReturn s = _
  simp only [execRefReturn, State.run_eq, h, Bool.not_false, if_true]

/-- A cluster without a reference has one again. -/
def Dev.refBack (d : Dev) (c : Nat) : Dev := { d with lne := { d.lne with noRef := d.lne.noRef.filter fun x => x != c } }

/-- A lane that is OFF may go to DEEP. -/
def Dev.laneAwaits (d : Dev) (l : Nat) : Dev := if d.laneSt l = 0 then d.laneDeep l else d

/-- What becomes of a cluster that may use a reference that is good again. -/
def Dev.refFound (refB : Bool) (d : Dev) (c : Nat) : Dev :=
  if d.bit .cluStatus c 29 then (d.setRef c refB).setBit .cluStatus c 29 false
  else if d.bit .cluStatus c 31 then d
  else (((d.setRef c refB).setBit .cluStatus c 31 true).refBack c).each (clusterLanes c) Dev.laneAwaits

theorem KeepsCluster.laneDeep {l : Nat} (h : KeepsCluster c d e) : KeepsCluster c d (e.laneDeep l) :=
  have hop (hin) := (Footprint.holds_refl _ e).laneDeep hin
  h.reach (x := laneDeepReach) (.reach (x := laneDeepReach) (.refl e) rfl rfl hop) rfl rfl rfl rfl rfl hop

theorem KeepsCluster.each {f : Dev → Nat → Dev} {ns : List Nat} (h : KeepsCluster c d e)
    (hf : ∀ e n, KeepsCluster c d e → KeepsCluster c d (f e n)) : KeepsCluster c d (e.each ns f) :=
  List.foldlRecOn ns f h fun e he n _ => hf e n he

theorem KeepsCluster.refBack {n : Nat} (h : KeepsCluster c d e) : KeepsCluster c d (e.refBack n) :=
  h.trans ⟨rfl, rfl, rfl, rfl, .of_same rfl⟩

theorem KeepsCluster.setBit_other {n i : Nat} {b : Bool} {r : Reg} (h : KeepsCluster c d e) (hr : .lneGlbStatus ≠ r) (hn : n ≠ c) :
    KeepsCluster c d (e.setBit r n i b) := h.put_other hr hn

theorem KeepsCluster.refFound_other {n : Nat} (h : KeepsCluster c d e) (hn : n ≠ c) : KeepsCluster c d (Dev.refFound refB e n) :=
  .ite ((h.setRef_other hn).put_other (by decide) hn)
    (.ite h (((h.setRef_other hn).setBit_other (by decide) hn).refBack.each fun _ _ he => .ite he.laneDeep he))

theorem Dev.good_refFound (d : Dev) (n : Nat) : (Dev.refFound refB d n).get .lneGlbStatus 0 = d.get .lneGlbStatus 0 :=
  ((KeepsCluster.refl (n + 1) d).refFound_other (Nat.ne_of_lt n.lt_succ_self)).good

theorem Dev.laneSt_put_reg (d : Dev) {r : Reg} (k v l : Nat) (h : .lneStatus ≠ r) : (d.put r k v).laneSt l = d.laneSt l :=
  Dev.laneSt_of_get d (d.get_put_reg k l v h)

theorem Dev.laneSt_refBack (d : Dev) (c l : Nat) : (d.refBack c).laneSt l = d.laneSt l := rfl

theorem Dev.laneSt_setRef (d : Dev) (c l : Nat) (refB : Bool) : (d.setRef c refB).laneSt l = d.laneSt l :=
  (Dev.each_keeps (fun d => d.laneSt l) (fun e n _ => e.laneSt_setBit 24 refB (by decide)) _).trans
    (d.laneSt_put_reg _ _ l (by decide))

/-- A lane that rested goes to DEEP, and no lane leaves UP or goes there. -/
theorem Dev.laneSt_laneAwaits_up (d : Dev) (k l : Nat) : (d.laneAwaits k).laneSt l = 9 ↔ d.laneSt l = 9 := by
  unfold Dev.laneAwaits
  split
  case isFalse => rfl
  case isTrue hoff =>
    by_cases hl : l = k
    · subst hl
      rw [d.laneSt_laneDeep_same, hoff, if_neg (by decide)]
      split <;> decide
    · rw [Dev.laneSt_of_get d (d.get_laneDeep_other hl)]

theorem Dev.laneSt_refFound_up (d : Dev) (c l : Nat) : (Dev.refFound refB d c).laneSt l = 9 ↔ d.laneSt l = 9 := by
  unfold Dev.refFound
  split
  · rw [Dev.setBit, Dev.setFld, Dev.laneSt_put_reg _ _ _ _ (by decide), d.laneSt_setRef]
  · split
    · rfl
    · have hregained := (((d.setRef c refB).setBit .cluStatus c 31 true).laneSt_refBack c l).trans
        (((d.setRef c refB).laneSt_put_reg (r := .cluStatus) _ _ l (by decide)).trans (d.laneSt_setRef c l refB))
      rw [← hregained]
      exact iff_of_eq (Dev.each_keeps (fun e => e.laneSt l = 9) (fun e k _ => propext (e.laneSt_laneAwaits_up k l)) _)

theorem referenceGood_locks (hc : c ∈ refClusters) (hallowed : s.dev.refAllowed c refB = true)
    (hheld : s.dev.bit .cluStatus c 29 = true) :
    Completes (.referenceGood refB) s fun e =>
      e.refOk refB = true ∧ e.bit .cluStatus c 29 = false ∧ e.bit .cluStatus c 30 = refB ∧
      ∀ l, e.laneSt l = 9 ↔ s.dev.laneSt l = 9 := by
  have hyields : Yields (.referenceGood refB) s
      ((s.dev.setRefOk refB true).each (refClusters.filter fun c => (s.dev.setRefOk refB true).refAllowed c refB)
        (Dev.refFound refB)) := rfl
  refine hyields.completes ?_
  obtain ⟨e, hbefore, hafter⟩ := Dev.each_turn (R := KeepsCluster c) (f := Dev.refFound refB) (k := c) (KeepsCluster.refl c)
    (fun _ _ _ => KeepsCluster.trans) (fun e n hn => (KeepsCluster.refl c e).refFound_other hn)
    (List.mem_filter.mpr ⟨hc, hallowed⟩) (refClusters_nodup fun c => (s.dev.setRefOk refB true).refAllowed c refB)
    (s.dev.setRefOk refB true)
  have hturn : Dev.refFound refB e c = (e.setRef c refB).setBit .cluStatus c 29 false :=
    if_pos (by rw [hbefore.bit, Dev.bit_setRefOk, hheld])
  rw [hturn] at hafter
  refine ⟨?_, ?_, ?_, fun l => ?_⟩
  · refine Eq.trans ?_ (s.dev.refOk_setRefOk_same (refB := refB) true)
    exact congrArg (fun v => bits v (if refB then 2 else 3) 1 == 1)
      (Dev.each_keeps (fun d => d.get .lneGlbStatus 0) (fun e n _ => Dev.good_refFound e n) _)
  · exact (hafter.bit 29).trans (Dev.bit_setBit_same _ .cluStatus c 29 false (by decide))
  · rw [hafter.bit, Dev.bit_setBit_other _ _ _ _ _ (by decide) (by decide)]
    exact (e.setRef_shows c refB).1
  · rw [← s.dev.laneSt_put_reg (r := .lneGlbStatus) _ _ l (by decide)]
    exact iff_of_eq (Dev.each_keeps (fun e => e.laneSt l = 9) (fun e k _ => propext (e.laneSt_refFound_up k l)) _)

end

/-! ### The end of holdover (R389) -/

/-- A cluster is without a reference. -/
def Dev.withoutRef (d : Dev) (c : Nat) : Dev := { d with lne := { d.lne with noRef := d.lne.noRef ++ [c] } }

/-- A cluster has no reference any more. -/
def Dev.refGone (d : Dev) (c : Nat) : Dev := ((d.setBit .cluStatus c 29 false).setBit .cluStatus c 31 false).withoutRef c

/-- The ports of a cluster go down. -/
def Dev.portsDown (d : Dev) (c : Nat) : Dev := (clusterGroups c).foldl (fun d g => d.groupDown g) d

/-- The lanes of a cluster go OFF. -/
def Dev.clusterOff (d : Dev) (c : Nat) : Dev := d.each (clusterLanes c) fun d l => d.setLaneSt l 0

/-- What becomes of a cluster at the end of its holdover. -/
def Dev.holdoverEnds (d : Dev) (c : Nat) : Dev := ((d.refGone c).portsDown c).clusterOff c

/-- A cluster has lost its reference and its lanes are OFF. -/
structure Dev.Unreferenced (d : Dev) (c : Nat) : Prop where
  held : d.bit .cluStatus c 29 = false
  locked : d.bit .cluStatus c 31 = false
  noRef : c ∈ d.lne.noRef
  off : ∀ l ∈ clusterLanes c, d.laneSt l = 0

/-- What the ports of cluster n do to other clusters. -/
structure KeepsOthers (n : Nat) (d e : Dev) : Prop where
  outside : ∀ l, l / 16 ≠ n → e.get .lneStatus l = d.get .lneStatus l
  status : ∀ c, e.get .cluStatus c = d.get .cluStatus c
  noRef : e.lne.noRef = d.lne.noRef

section
variable {n c l : Nat} {d e e' : Dev}

theorem mem_clusterLanes : l ∈ clusterLanes c ↔ l / 16 = c := by
  rw [clusterLanes, List.mem_map]
  constructor
  · rintro ⟨i, hi, rfl⟩
    have := List.mem_range.mp hi
    omega
  · exact fun h => ⟨l % 16, List.mem_range.mpr (by omega), by omega⟩

theorem KeepsOthers.refl (n : Nat) (d : Dev) : KeepsOthers n d d := ⟨fun _ _ => rfl, fun _ => rfl, rfl⟩

theorem KeepsOthers.trans (h : KeepsOthers n d e) (h' : KeepsOthers n e e') : KeepsOthers n d e' :=
  ⟨fun l hl => (h'.outside l hl).trans (h.outside l hl), fun c => (h'.status c).trans (h.status c), h'.noRef.trans h.noRef⟩

/-- A port of a cluster that goes down. -/
theorem KeepsOthers.groupDown (h : KeepsOthers n d e) {g : LaneGroup} (hg : g ∈ clusterGroups n) : KeepsOthers n d (e.groupDown g) := by
  obtain ⟨l, hl, rfl⟩ := List.mem_map.mp (List.mem_eraseDups.mp hg)
  have hkeeps := (KeepsLanes.refl (laneGroup l) e).groupDown fun _ hi => mirror_lt_of_laneGroup hi
  refine h.trans ⟨fun k hk => hkeeps.outside k fun hin => hk ?_, fun c => hkeeps.get (by decide) c, hkeeps.noRef⟩
  exact (cluster_of_mem_lanes hin).trans (mem_clusterLanes.mp hl)

theorem KeepsOthers.portsDown (h : KeepsOthers n d e) : KeepsOthers n d (e.portsDown n) :=
  List.foldlRecOn (motive := KeepsOthers n d) _ _ h fun _ he _ hg => he.groupDown hg

theorem KeepsOthers.clusterOff (h : KeepsOthers n d e) : KeepsOthers n d (e.clusterOff n) := by
  refine List.foldlRecOn (motive := KeepsOthers n d) _ _ h fun e he l hl => he.trans ⟨fun k hk => ?_, fun c => ?_, ?_⟩
  · exact e.get_setLaneSt_other 0 fun hkl => hk (hkl ▸ mem_clusterLanes.mp hl)
  · exact Dev.get_spared (x := setLaneStReach none) rfl rfl fun hin => (Footprint.holds_refl _ e).setLaneSt hin .any
  · exact congrArg LaneState.noRef (e.lne_setLaneSt l 0)

theorem Dev.laneSt_clusterOff (d : Dev) (h : l ∈ clusterLanes c) : (d.clusterOff c).laneSt l = 0 := by
  refine Dev.each_of_mem (P := fun _ => True) (Q := fun e => e.laneSt l = 0) h trivial (fun _ _ _ => trivial)
    (fun e _ => e.laneSt_setLaneSt_same 0) fun e k _ hoff => ?_
  by_cases hk : l = k
  · exact hk ▸ e.laneSt_setLaneSt_same 0
  · exact (e.laneSt_setLaneSt_other 0 hk).trans hoff

theorem Dev.get_withoutRef (d : Dev) (n : Nat) (r : Reg) (k : Nat) : (d.withoutRef n).get r k = d.get r k := rfl

theorem Dev.bit_refGone_same (d : Dev) : (d.refGone c).bit .cluStatus c 29 = false ∧ (d.refGone c).bit .cluStatus c 31 = false := by
  rw [Dev.refGone, Dev.bit_of_get (Dev.get_withoutRef _ _ _ _), Dev.bit_of_get (Dev.get_withoutRef _ _ _ _),
    Dev.bit_setBit_other _ _ _ _ _ (by decide) (by decide)]
  exact ⟨d.bit_setBit_same .cluStatus c 29 false (by decide), Dev.bit_setBit_same _ .cluStatus c 31 false (by decide)⟩

theorem Dev.noRef_refGone (d : Dev) : (d.refGone n).lne.noRef = d.lne.noRef ++ [n] := rfl

theorem Dev.get_refGone_reg (d : Dev) {r : Reg} (k : Nat) (h : r ≠ .cluStatus) : (d.refGone n).get r k = d.get r k := by
  rw [Dev.refGone, Dev.get_withoutRef, Dev.setBit, Dev.setFld, Dev.get_put_reg _ _ _ _ h, Dev.setBit, Dev.setFld,
    Dev.get_put_reg _ _ _ _ h]

theorem Dev.get_refGone_other (d : Dev) (h : c ≠ n) : (d.refGone n).get .cluStatus c = d.get .cluStatus c := by
  rw [Dev.refGone, Dev.get_withoutRef, Dev.setBit, Dev.get_setFld_other _ _ _ _ _ h, Dev.setBit,
    Dev.get_setFld_other _ _ _ _ _ h]

theorem Dev.holdoverEnds_shows (d : Dev) (c : Nat) : (d.holdoverEnds c).Unreferenced c := by
  have hkeeps : KeepsOthers c (d.refGone c) (d.holdoverEnds c) := (KeepsOthers.refl c _).portsDown.clusterOff
  obtain ⟨hheld, hlocked⟩ := d.bit_refGone_same (c := c)
  refine ⟨(Dev.bit_of_get (hkeeps.status c) 29).trans hheld, (Dev.bit_of_get (hkeeps.status c) 31).trans hlocked, ?_,
    fun l hl => Dev.laneSt_clusterOff _ hl⟩
  rw [hkeeps.noRef, Dev.noRef_refGone]
  exact List.mem_append_right _ List.mem_cons_self

theorem Dev.Unreferenced.holdoverEnds (h : d.Unreferenced c) (n : Nat) : (d.holdoverEnds n).Unreferenced c := by
  by_cases hn : c = n
  · exact hn ▸ d.holdoverEnds_shows c
  have hkeeps : KeepsOthers n (d.refGone n) (d.holdoverEnds n) := (KeepsOthers.refl n _).portsDown.clusterOff
  have hstatus := (hkeeps.status c).trans (d.get_refGone_other hn)
  refine ⟨(Dev.bit_of_get hstatus 29).trans h.held, (Dev.bit_of_get hstatus 31).trans h.locked, ?_, fun l hl => ?_⟩
  · rw [hkeeps.noRef, Dev.noRef_refGone]
    exact List.mem_append_left _ h.noRef
  · refine (Dev.laneSt_of_get d ((hkeeps.outside l ?_).trans (d.get_refGone_reg l (by decide)))).trans (h.off l hl)
    rwa [mem_clusterLanes.mp hl]

theorem Dev.get_laneSurrender (d : Dev) {r : Reg} {k : Nat} (h : surrenderReach.spares r k 0 64 = true) :
    d.laneSurrender.get r k = d.get r k := by
  have hop : (d.surrender 3).get r k = d.get r k :=
    Dev.get_spared (x := surrenderReach) rfl h fun hin => (Footprint.holds_refl _ d).surrender hin
  unfold Dev.laneSurrender
  split
  · split
    · exact hop
    · rfl
  · rfl

/-- Telling the loss of references leaves what became of the clusters. -/
theorem Dev.Unreferenced.told (h : d.Unreferenced c) :
    (((d.event .lneGlbEvent 0 3).raise .lneRefLost 0).laneSurrender).Unreferenced c := by
  have hget {r : Reg} {k : Nat} (hr : r = .cluStatus ∨ r = .lneStatus) :
      (((d.event .lneGlbEvent 0 3).raise .lneRefLost 0).laneSurrender).get r k = d.get r k := by
    obtain rfl | rfl := hr
    · exact (Dev.get_laneSurrender _ rfl).trans (d.get_event 0 3 rfl rfl)
    · exact (Dev.get_laneSurrender _ rfl).trans (d.get_event 0 3 rfl rfl)
  have hnoRef := (((KeepsLanes.refl .pcie d).event (r := .lneGlbEvent) (k := 0) (i := 3) rfl fun _ => rfl).raise
    (c := .lneRefLost) (p := 0)).laneSurrender.noRef
  exact ⟨(Dev.bit_of_get (hget (.inl rfl)) 29).trans h.held, (Dev.bit_of_get (hget (.inl rfl)) 31).trans h.locked,
    hnoRef ▸ h.noRef, fun l hl => (Dev.laneSt_of_get d (hget (.inr rfl))).trans (h.off l hl)⟩

end

section
variable {s : State} {c : Nat}

theorem refHoldoverEnd_loses (hc : c ∈ refClusters) (hheld : s.dev.bit .cluStatus c 29 = true) :
    Completes .refHoldoverEnd s fun e =>
      e.bit .cluStatus c 29 = false ∧ e.bit .cluStatus c 31 = false ∧ c ∈ e.lne.noRef ∧ (ECode.lneRefLost, 0) ∈ e.raised ∧
      ∀ l ∈ clusterLanes c, e.laneSt l = 0 := by
  have hmem : c ∈ refClusters.filter fun c => s.dev.bit .cluStatus c 29 := List.mem_filter.mpr ⟨hc, hheld⟩
  have hyields : Yields .refHoldoverEnd s ((((s.dev.each (refClusters.filter fun c => s.dev.bit .cluStatus c 29)
      Dev.holdoverEnds).event .lneGlbEvent 0 3).raise .lneRefLost 0).laneSurrender) := by
    change execRefHoldoverEnd s = _
    have hne : (refClusters.filter fun c => s.dev.bit .cluStatus c 29).isEmpty = false :=
      List.isEmpty_eq_false_iff.mpr (List.ne_nil_of_mem hmem)
    simp only [execRefHoldoverEnd, State.run_eq, hne, Bool.false_eq_true, if_false]
    rfl
  have hlost : (s.dev.each (refClusters.filter fun c => s.dev.bit .cluStatus c 29) Dev.holdoverEnds).Unreferenced c :=
    Dev.each_of_mem (P := fun _ => True) (Q := fun e => e.Unreferenced c) hmem trivial (fun _ _ _ => trivial)
      (fun e _ => e.holdoverEnds_shows c) fun e n _ h => h.holdoverEnds n
  obtain ⟨hheld, hlocked, hnoRef, hoff⟩ := hlost.told
  exact hyields.completes ⟨hheld, hlocked, hnoRef, Raises.mem (KeepsLanes.refl .pcie _).laneSurrender.raised, hoff⟩

theorem refHoldoverEnd_ignored (h : (refClusters.filter fun c => s.dev.bit .cluStatus c 29) = []) :
    Yields .refHoldoverEnd s s.dev := by
  change execRefHoldoverEnd s = _
  simp only [execRefHoldoverEnd, State.run_eq, h, List.isEmpty_nil, if_true]

end

/-! ### Test patterns (R399) -/

section
variable {s : State} {req : Fin 5} {lane : Fin 1024}

/-- A lane whose port does not use it goes into TEST. -/
theorem laneTest_enters (hst : s.dev.laneSt lane.val ≠ 10) (hfree : s.dev.testBusy lane.val = false) :
    Completes (.laneTest req lane true) s fun e =>
      e.laneSt lane.val = 10 ∧ e.bit .lneCtrl lane.val 0 = true ∧ (e.lane lane.val).good = false := by
  generalize hd1 : (if 2 ≤ s.dev.laneSt lane.val then s.dev.groupAnew (laneGroup lane.val) else s.dev) = d1
  have hyields : Yields (.laneTest req lane true) s
      (((d1.setLaneSt lane.val 10).setGood lane.val false).setBit .lneCtrl lane.val 0 true) := by
    change execLaneTest req lane true s = _
    simp only [execLaneTest, State.run_eq, if_true, if_neg hst, hfree, Bool.false_eq_true, if_false, hd1]
  refine hyields.completes ⟨?_, Dev.bit_setBit_same _ .lneCtrl lane.val 0 true (by decide), ?_⟩
  · exact (Dev.laneSt_put_reg _ _ _ _ (by decide)).trans ((Dev.laneSt_setGood _ false).trans (d1.laneSt_setLaneSt_same 10))
  · exact congrArg Lane.good (Dev.lane_setGood_same (d1.setLaneSt lane.val 10) false)

theorem laneTest_refused (hst : s.dev.laneSt lane.val ≠ 10) (hbusy : s.dev.testBusy lane.val = true) :
    Yields (.laneTest req lane true) s (s.dev.refuse req.val .lneBusy) := by
  change execLaneTest req lane true s = _
  simp only [execLaneTest, State.run_eq, if_true, if_neg hst, hbusy]

theorem laneTest_out_ignored (hst : s.dev.laneSt lane.val ≠ 10) : Yields (.laneTest req lane false) s s.dev := by
  change execLaneTest req lane false s = _
  simp only [execLaneTest, State.run_eq, Bool.false_eq_true, if_false, if_pos hst]

theorem laneTest_in_ignored (hst : s.dev.laneSt lane.val = 10) : Yields (.laneTest req lane true) s s.dev := by
  change execLaneTest req lane true s = _
  simp only [execLaneTest, State.run_eq, if_true, if_pos hst]

/-- A lane that leaves TEST has its control bits cleared, and its port runs bring-up again. -/
theorem laneTest_leaves (hst : s.dev.laneSt lane.val = 10) : Completes (.laneTest req lane false) s fun e =>
    e.laneSt lane.val ≠ 10 ∧ e.fld .lneCtrl lane.val 0 4 = 0 := by
  generalize hd1 : ((s.dev.prbsStop lane.val).injStop lane.val).setFld .lneCtrl lane.val 0 4 0 = d1
  have hyields : Yields (.laneTest req lane false) s
      (((d1.setLaneSt lane.val 1).laneDeep lane.val).groupAnew (laneGroup lane.val)) := by
    change execLaneTest req lane false s = _
    simp only [execLaneTest, State.run_eq, Bool.false_eq_true, if_false, if_neg (not_not.mpr hst), hd1]
  have hanew := (KeepsLanes.refl (laneGroup lane.val) ((d1.setLaneSt lane.val 1).laneDeep lane.val)).groupAnew fun _ hi =>
    mirror_lt_of_laneGroup hi
  refine hyields.completes ⟨fun h => ?_, ?_⟩
  · have hdeep := hanew.test lane.val h
    rw [Dev.laneSt_laneDeep_same, d1.laneSt_setLaneSt_same, if_neg (by decide)] at hdeep
    split at hdeep <;> exact absurd hdeep (by decide)
  · have hctrl : ((d1.setLaneSt lane.val 1).laneDeep lane.val).fld .lneCtrl lane.val 0 4 = d1.fld .lneCtrl lane.val 0 4 :=
      Dev.fld_spared (x := .both (setLaneStReach none) laneDeepReach) rfl rfl fun hin =>
        ((Footprint.holds_refl _ d1).setLaneSt hin.1 .any).laneDeep hin.2
    refine (congrArg (bits · 0 4) (hanew.get (r := .lneCtrl) (by decide) lane.val)).trans (hctrl.trans ?_)
    rw [← hd1]
    exact Dev.fld_setFld_same _ _ _ _ _ _ (by decide)

theorem prbsCheckerLock_locks : Completes (.prbsCheckerLock lane) s fun e =>
    if s.dev.laneSt lane.val = 10 ∧ s.dev.bit .lnePrbsCtrl lane.val 31 = true ∧ s.dev.bit .lneStatus lane.val 1 = false then
      e.bit .lneStatus lane.val 1 = true ∧ (e.lane lane.val).lockAt = some s.dev.now
    else e = s.dev := by
  split
  case isTrue h =>
    obtain ⟨hst, hon, hlocked⟩ := h
    have hyields : Yields (.prbsCheckerLock lane) s
        ((s.dev.setLane lane.val { s.dev.lane lane.val with lockAt := some s.dev.now }).setBit .lneStatus lane.val 1 true) := by
      change execPrbsCheckerLock lane s = _
      simp [execPrbsCheckerLock, hst, hon, hlocked]
    exact hyields.completes ⟨Dev.bit_setBit_same _ .lneStatus lane.val 1 true (by decide),
      congrArg Lane.lockAt (s.dev.lane_setLane_same _)⟩
  case isFalse h =>
    have hyields : Yields (.prbsCheckerLock lane) s s.dev := by
      change execPrbsCheckerLock lane s = _
      rw [execPrbsCheckerLock, State.run_eq]
      dsimp only
      rw [if_pos]
      simp only [Bool.not_eq_true']
      rw [← Bool.not_eq_true (s.dev.bit .lnePrbsCtrl lane.val 31)]
      rw [← Bool.not_eq_true (s.dev.bit .lneStatus lane.val 1)] at h
      tauto
    exact hyields.completes rfl

theorem Dev.get_prbsStop (d : Dev) {l k : Nat} {r : Reg} (h : (prbsStopReach none).spares r k 0 64 = true) :
    (d.prbsStop l).get r k = d.get r k :=
  Dev.get_spared (x := prbsStopReach none) rfl h fun hin => (Footprint.holds_refl _ d).prbsStop hin .any

theorem prbsCheckerLockLoss_counts {errors : Nat} (h : s.dev.bit .lneStatus lane.val 1 = true) :
    Completes (.prbsCheckerLockLoss lane errors) s fun e =>
      e.bit .lneStatus lane.val 1 = false ∧ (e.lane lane.val).lockAt = none ∧
      e.get .lnePrbsErr lane.val = min (2 ^ 64 - 1) (s.dev.get .lnePrbsErr lane.val + errors) ∧
      e.get .lneLockLoss lane.val = min (s.dev.get .lneLockLoss lane.val + 1) (2 ^ 32 - 1) := by
  have hyields : Yields (.prbsCheckerLockLoss lane errors) s
      (((s.dev.put .lnePrbsErr lane.val (min (2 ^ 64 - 1) (s.dev.get .lnePrbsErr lane.val + errors))).prbsStop lane.val).count
        .lneLockLoss lane.val) := by
    change execPrbsCheckerLockLoss lane errors s = _
    simp only [execPrbsCheckerLockLoss, State.run_eq, h, Bool.not_true, Bool.false_eq_true, if_false]
  refine hyields.completes ⟨?_, ?_, ?_, ?_⟩
  · exact (Dev.bit_put_reg _ _ _ _ _ (by decide)).trans (Dev.bit_setBit_same _ .lneStatus lane.val 1 false (by decide))
  · exact congrArg Lane.lockAt (Dev.lane_setLane_same _ _)
  · rw [Dev.count, Dev.add32, Dev.get_put_reg _ _ _ _ (by decide), Dev.get_prbsStop _ rfl, Dev.get_put_same]
    exact Nat.mod_eq_of_lt (by omega)
  · rw [Dev.get_count_same, Dev.get_prbsStop _ rfl, Dev.get_put_reg _ _ _ _ (by decide)]
    rfl

end

/-! ### Injection (R400) -/

section
variable {s : State} {req : Fin 5} {lane : Fin 1024} {value : Word}

/-- Where nothing is injected periodically the count stands, as far as it goes. -/
theorem Dev.get_injStop_idle (d : Dev) {l : Nat} (h : (d.lane l).injectAt = none) :
    (d.injStop l).get .lneInjCount l = satAdd 32 (d.get .lneInjCount l) 0 := by
  have hcount : d.injCount l = satAdd 32 (d.get .lneInjCount l) 0 := by rw [Dev.injCount, h]
  refine (Dev.get_put_same ..).trans ?_
  rw [hcount, satAdd]
  exact Nat.mod_eq_of_lt (by omega)

/-- One error is injected in TEST. -/
theorem injCtrlWrite_injects (hst : s.dev.laneSt lane.val = 10) (hmode : bits value.toNat 28 3 = 0)
    (hon : bitOf value.toNat 31 = true) (hidle : (s.dev.lane lane.val).injectAt = none) :
    Completes (.injCtrlWrite req lane value) s fun e =>
      e.get .lneInjCtrl lane.val = value.toNat ∧
      e.get .lneInjCount lane.val = min (s.dev.get .lneInjCount lane.val + 1) (2 ^ 32 - 1) := by
  have hyields : Yields (.injCtrlWrite req lane value) s
      (((s.dev.injStop lane.val).put .lneInjCtrl lane.val value.toNat).count .lneInjCount lane.val) := by
    change execInjCtrlWrite req lane value s = _
    simp only [execInjCtrlWrite, State.run_eq, if_pos hst, hon, hmode, Bool.not_true, Bool.false_eq_true, if_false, if_true]
  refine hyields.completes ⟨?_, ?_⟩
  · rw [Dev.count, Dev.add32, Dev.get_put_reg _ _ _ _ (by decide), Dev.get_put_same]
    exact Nat.mod_eq_of_lt (value.isLt.trans (by decide))
  · rw [Dev.get_count_same, Dev.get_put_reg _ _ _ _ (by decide), Dev.get_injStop_idle _ hidle, satAdd, satAdd]
    omega

theorem Dev.fld_put_reg (d : Dev) {r q : Reg} (k j v l w : Nat) (h : q ≠ r) : (d.put r k v).fld q j l w = d.fld q j l w :=
  congrArg (bits · l w) (d.get_put_reg k j v h)

theorem Dev.groupUp_congr {d e : Dev} {g : LaneGroup} (hlink : ∀ n, e.linkState n = d.linkState n)
    (hcam : ∀ c, e.camState c = d.camState c)
    (hep : ∀ p, e.fld .epStatus p 28 4 = d.fld .epStatus p 28 4) (hhst : e.hst.linkUp = d.hst.linkUp)
    (hlive : ∀ i, e.linkIsLive i = d.linkIsLive i) : e.groupUp g = d.groupUp g := by
  cases g with
  | head n => exact congrArg (fun v => decide (3 ≤ v)) (hlink n)
  | camera c => exact congrArg (· == 3) (hcam c)
  | ethernet p => exact congrArg (· != 0) (hep p)
  | pcie => exact hhst
  | mirror i => exact hlive i
  | cascade l => exact hlive (8 + l)

theorem Dev.linkIsLive_of_get {d e : Dev} (hptn : e.get .ptnStatus 0 = d.get .ptnStatus 0)
    (hql : e.get .qlStatus 0 = d.get .qlStatus 0) (i : Nat) :
    e.linkIsLive i = d.linkIsLive i := by
  unfold Dev.linkIsLive
  rw [Dev.bit_of_get hptn, Dev.bit_of_get hql]

theorem Dev.groupUp_put_injCtrl (d : Dev) (g : LaneGroup) (k v : Nat) : (d.put .lneInjCtrl k v).groupUp g = d.groupUp g :=
  Dev.groupUp_congr (fun _ => d.fld_put_reg _ _ _ 29 3 (by decide)) (fun _ => d.fld_put_reg _ _ _ 29 3 (by decide))
    (fun _ => d.fld_put_reg _ _ _ 28 4 (by decide)) rfl
    (Dev.linkIsLive_of_get (d.get_put_reg _ _ _ (by decide)) (d.get_put_reg _ _ _ (by decide)))

theorem Dev.lanesInUse_put_injCtrl (d : Dev) (g : LaneGroup) (k v : Nat) :
    (d.put .lneInjCtrl k v).lanesInUse g = d.lanesInUse g := by
  cases g with
  | head n => exact congrArg (fun w => (d.goodOf (.head n)).take w) (d.fld_put_reg _ _ _ 24 3 (by decide))
  | camera c => exact congrArg (fun w => (d.goodOf (.camera c)).take w) (d.fld_put_reg _ _ _ 25 3 (by decide))
  | _ => rfl

/-- An error waits for the block that leaves next. -/
theorem Dev.inject_txInject (d : Dev) (q lane : Nat) (payload : Bool) :
    ((d.txInject q lane payload).tx q).inject.getLast? = some (((d.txInject q lane payload).tx q).block, lane, payload) := by
  have htx : (d.txInject q lane payload).tx q = { (d.txTo q ((d.tx q).posAt d.now)).tx q with
      inject := ((d.txTo q ((d.tx q).posAt d.now)).tx q).inject ++ [(((d.txTo q ((d.tx q).posAt d.now)).tx q).block, lane, payload)] } :=
    Tab.get_set_same _ _ _ _
  rw [htx, List.getLast?_concat]

/-- One error is injected on a native lane in use. -/
theorem injCtrlWrite_marks (hst : s.dev.laneSt lane.val ≠ 10)
    (hmode : bits value.toNat 28 3 = 3 ∨ bits value.toNat 28 3 = 4) (hon : bitOf value.toNat 31 = true)
    (hnative : (laneGroup lane.val).native = true) (hfiring : s.dev.laneFiring lane.val = false)
    (hup : s.dev.groupUp (laneGroup lane.val) = true) (huse : (s.dev.lanesInUse (laneGroup lane.val)).contains lane.val = true) :
    Completes (.injCtrlWrite req lane value) s fun e =>
      e.get .lneInjCtrl lane.val = value.toNat ∧
      e.get .lneInjCount lane.val = min (s.dev.get .lneInjCount lane.val + 1) (2 ^ 32 - 1) ∧
      (e.tx (lane.val / 4)).inject.getLast? = some ((e.tx (lane.val / 4)).block,
        (s.dev.lanesInUse (laneGroup lane.val)).idxOf lane.val, bits value.toNat 28 3 == 4) := by
  have hyields : Yields (.injCtrlWrite req lane value) s
      (((s.dev.put .lneInjCtrl lane.val value.toNat).txInject (lane.val / 4)
        ((s.dev.lanesInUse (laneGroup lane.val)).idxOf lane.val) (bits value.toNat 28 3 == 4)).count .lneInjCount lane.val) := by
    change execInjCtrlWrite req lane value s = _
    simp only [execInjCtrlWrite, State.run_eq, if_neg hst, if_pos (And.intro hmode hnative), hfiring, Bool.false_eq_true, if_false,
      Dev.groupUp_put_injCtrl, Dev.lanesInUse_put_injCtrl, hon, hup, huse, and_self, if_true]
  have hinject {r : Reg} (d : Dev) (q k : Nat) (payload : Bool) (hr : txInjectReach.spares r lane.val 0 64 = true) :
      (d.txInject q k payload).get r lane.val = d.get r lane.val :=
    Dev.get_spared (x := txInjectReach) rfl hr fun hin => (Footprint.holds_refl _ d).txInject hin
  refine hyields.completes ⟨?_, ?_, Dev.inject_txInject _ _ _ _⟩
  · rw [Dev.count, Dev.add32, Dev.get_put_reg _ _ _ _ (by decide), hinject _ _ _ _ rfl, Dev.get_put_same]
    exact Nat.mod_eq_of_lt (value.isLt.trans (by decide))
  · rw [Dev.get_count_same, hinject _ _ _ _ rfl, Dev.get_put_reg _ _ _ _ (by decide)]
    rfl

theorem injCtrlWrite_refused (hst : s.dev.laneSt lane.val ≠ 10)
    (hmode : bits value.toNat 28 3 = 3 ∨ bits value.toNat 28 3 = 4) (hnative : (laneGroup lane.val).native = true)
    (hfiring : s.dev.laneFiring lane.val = true) :
    Yields (.injCtrlWrite req lane value) s (s.dev.refuse req.val .lneFiring) := by
  change execInjCtrlWrite req lane value s = _
  simp only [execInjCtrlWrite, State.run_eq, if_neg hst, if_pos (And.intro hmode hnative), hfiring, if_true]

end

/-- Settles O49: each cluster takes its own turn and the ports of others leave it, a port that runs bring-up again takes no lane
into TEST, and an injected error waits behind those before it. -/
theorem referencesTestsAndInjection : Obligations.ReferencesTestsAndInjection := by
  refine ⟨?bad, ?back, ?stay, ?good, ?holdover, ?none, ?enter, ?leave, ?lock, ?loss, ?inject, ?mark, ?firing⟩
  case bad => exact fun s refB c hc hlocked hfree hon => refBad_moves hc hlocked hfree hon
  case back => exact fun s c hgood hc hsel hlocked hon => refReturn_moves hgood hc hsel hlocked hon
  case stay => exact fun s h => refReturn_ignored h
  case good => exact fun s refB c hc hallowed hheld => referenceGood_locks hc hallowed hheld
  case holdover => exact fun s c hc hheld => refHoldoverEnd_loses hc hheld
  case none => exact fun s h => refHoldoverEnd_ignored h
  case enter =>
    exact fun s req lane hst => ⟨fun h => laneTest_enters hst h, fun h => laneTest_refused hst h, laneTest_out_ignored hst⟩
  case leave => exact fun s req lane hst => ⟨laneTest_leaves hst, laneTest_in_ignored hst⟩
  case lock => exact fun s lane => prbsCheckerLock_locks
  case loss => exact fun s lane errors h => prbsCheckerLockLoss_counts h
  case inject => exact fun s req lane value hst hmode hon hidle => injCtrlWrite_injects hst hmode hon hidle
  case mark =>
    exact fun s req lane value hst hmode hon hnative hfiring hup huse =>
      injCtrlWrite_marks hst hmode hon hnative hfiring hup huse
  case firing => exact fun s req lane value hst hmode hnative hfiring => injCtrlWrite_refused hst hmode hnative hfiring

end Sys2Proof.Machine
end

section
open Sys2Proof
namespace Sys2Proof.Machine

/-! ### Signal on a lane (R392) -/

/-- A lane with signal begins bring-up. -/
def Dev.laneBegins (d : Dev) (l : Nat) : Dev :=
  ((d.setLane l { d.lane l with fails := 0, start := 0 }).setLaneSt l 2).put .lneRateKbps l bringUpRate

/-- The port of a lane that begins bring-up is in TRAINING. -/
def Dev.portBegins (d : Dev) (g : LaneGroup) : Dev :=
  match g with
  | .head n => d.linkTraining n
  | .camera c => d.camTraining c
  | _ => d

section
variable {d e : Dev} {l k : Nat} {g : LaneGroup}

def portBeginsReach : Reach := .of [linkTrainingReach, camTrainingReach]

theorem Footprint.holds.portBegins {F : Footprint} (he : F.holds d e) (h : portBeginsReach.within F d) : F.holds d (e.portBegins g) := by
  obtain ⟨hlink, hcam, -⟩ := h
  cases g with
  | head n => exact he.linkTraining hlink
  | camera c => exact he.camTraining hcam
  | _ => exact he

theorem Dev.groupUp_setGood (d : Dev) (l : Nat) (b : Bool) (g : LaneGroup) : (d.setGood l b).groupUp g = d.groupUp g := by
  have hfld {r : Reg} {k a w : Nat} (h : setGoodReach.spares r k a w = true) : (d.setGood l b).fld r k a w = d.fld r k a w :=
    Dev.fld_spared (x := setGoodReach) rfl h fun hin => (Footprint.holds_refl _ d).setGood hin
  exact Dev.groupUp_congr (fun _ => hfld rfl) (fun _ => hfld rfl) (fun _ => hfld rfl)
    (congrArg HstState.linkUp (Dev.area_spared (p := .hst) (x := setGoodReach) rfl rfl fun hin =>
      (Footprint.holds_refl _ d).setGood hin))
    (Dev.linkIsLive_of_get (d.get_setGood b rfl) (d.get_setGood b rfl))

theorem Dev.laneSignal_begins (hst : d.laneSt l = 1) (hmark : d.laneMarked l = false)
    (hwaits : (laneGroup l).native = false ∨ d.groupUp (laneGroup l) = false) :
    d.laneSignal l = ((d.setGood l true).laneBegins l).portBegins (laneGroup l) := by
  have hidle : ((d.setGood l true).groupUp (laneGroup l) && (laneGroup l).native) = false := by
    rw [Dev.groupUp_setGood]
    obtain h | h := hwaits <;> simp [h]
  unfold Dev.laneSignal
  rw [if_neg (by simp [hst, hmark])]
  dsimp only
  rw [if_neg (Bool.eq_false_iff.mp hidle)]
  rfl

theorem Dev.lane_of_lne (h : e.lne = d.lne) : e.lane l = d.lane l := congrArg (fun x : LaneState => Tab.get x.lane l Lane.reset) h

theorem Dev.lane_put (d : Dev) (r : Reg) (j v : Nat) : (d.put r j v).lane l = d.lane l := rfl

theorem Dev.laneBegins_shows (d : Dev) (l : Nat) : (d.laneBegins l).laneSt l = 2 ∧
    (d.laneBegins l).lane l = { d.lane l with fails := 0, start := 0 } ∧ (d.laneBegins l).get .lneRateKbps l = 12500000 := by
  unfold Dev.laneBegins
  rw [Dev.laneSt_put_reg _ _ _ _ (by decide), Dev.laneSt_setLaneSt_same, Dev.get_put_same, Dev.lane_put,
    Dev.lane_of_lne (Dev.lne_setLaneSt _ _ _), Dev.lane_setLane_same]
  exact ⟨rfl, rfl, rfl⟩

end

section
variable {s : State} {lane : Fin 1024}

/-- A port that goes into TRAINING leaves its lanes. -/
theorem Dev.portBegins_keeps (d : Dev) {l rate : Nat} {g : LaneGroup} (hst : d.laneSt l = 2)
    (hlane : (d.lane l).good = true ∧ (d.lane l).fails = 0) (hrate : d.get .lneRateKbps l = rate) :
    (d.portBegins g).laneSt l = 2 ∧ ((d.portBegins g).lane l).good = true ∧ ((d.portBegins g).lane l).fails = 0 ∧
      (d.portBegins g).get .lneRateKbps l = rate := by
  have hop (hin : portBeginsReach.within (portBeginsReach.exact d) d) := (Footprint.holds_refl _ d).portBegins (g := g) hin
  have hlne : (d.portBegins g).lne = d.lne := Dev.area_spared (p := .lne) (x := portBeginsReach) rfl rfl hop
  rw [Dev.lane_of_lne hlne]
  exact ⟨(Dev.fld_spared (x := portBeginsReach) rfl rfl hop).trans hst, hlane.1, hlane.2,
    (Dev.get_spared (x := portBeginsReach) rfl rfl hop).trans hrate⟩

theorem laneSignalDetect_begins (hst : s.dev.laneSt lane.val = 1) (hmark : s.dev.laneMarked lane.val = false)
    (hwaits : (laneGroup lane.val).native = false ∨ s.dev.groupUp (laneGroup lane.val) = false) :
    Completes (.laneSignalDetect lane) s fun e =>
      e.laneSt lane.val = 2 ∧ (e.lane lane.val).good = true ∧ (e.lane lane.val).fails = 0 ∧
        e.get .lneRateKbps lane.val = 12500000 := by
  have hyields : Yields (.laneSignalDetect lane) s
      (((s.dev.setGood lane.val true).laneBegins lane.val).portBegins (laneGroup lane.val)) := by
    change execLaneSignalDetect lane s = _
    rw [execLaneSignalDetect, State.run_eq, Dev.laneSignal_begins hst hmark hwaits]
  obtain ⟨hbegun, hlane, hrate⟩ := (s.dev.setGood lane.val true).laneBegins_shows lane.val
  have hgood : (((s.dev.setGood lane.val true).laneBegins lane.val).lane lane.val).good = true ∧
      (((s.dev.setGood lane.val true).laneBegins lane.val).lane lane.val).fails = 0 := by
    rw [hlane, Dev.lane_setGood_same]
    exact ⟨rfl, rfl⟩
  exact hyields.completes (Dev.portBegins_keeps _ hbegun hgood hrate)

theorem laneSignalDetect_ignored (h : s.dev.laneSt lane.val ≠ 1 ∨ s.dev.laneMarked lane.val = true) :
    Yields (.laneSignalDetect lane) s s.dev := by
  change execLaneSignalDetect lane s = _
  rw [execLaneSignalDetect, State.run_eq, Dev.laneSignal, if_pos h]

end

/-! ### Stages of bring-up (R392) -/

section
variable {d : Dev} {l ctle w h : Nat} {taps : List Nat}

theorem Dev.stageDone_detect (hst : d.laneSt l = 2) : d.stageDone l ctle taps w h = (d.setLaneSt l 3).setBit .lneStatus l 0 true := by
  simp only [Dev.stageDone, hst, if_true]

theorem Dev.stageDone_cdr (hst : d.laneSt l = 3) : d.stageDone l ctle taps w h = (d.setLaneSt l 4).put .lneCtle l ctle := by
  simp only [Dev.stageDone, hst, Nat.reduceEqDiff, if_false, if_true]

theorem Dev.stageDone_ctle (hst : d.laneSt l = 4) : d.stageDone l ctle taps w h = d.setLaneSt l 5 := by
  simp only [Dev.stageDone, hst, Nat.reduceEqDiff, if_false, if_true]

theorem Dev.stageDone_block (hst : d.laneSt l = 5) : d.stageDone l ctle taps w h =
    (d.setLaneSt l 6).each (List.range 12) fun d i => d.put .lneDfe (12 * l + i) (taps.getD i 0) := by
  simp only [Dev.stageDone, hst, Nat.reduceEqDiff, if_false, if_true]

theorem Dev.stageDone_dfe (hst : d.laneSt l = 6) (heye : d.eyeBelow .marginFail w h = false) :
    d.stageDone l ctle taps w h = (d.setEye l w h).setLaneSt l 7 := by
  have hbelow : (d.setEye l w h).eyeBelow .marginFail w h = false := heye
  simp only [Dev.stageDone, hst, Nat.reduceEqDiff, if_false, if_true, hbelow, Bool.false_eq_true]

/-- Lanes of a port that stand in ALIGN or UP. -/
def Dev.aligned (d : Dev) (ls : List Nat) : Bool := ls.all fun k => d.laneSt k == 8 || d.laneSt k == 9

theorem Dev.stageDone_qualify (hst : d.laneSt l = 7) : d.stageDone l ctle taps w h =
    if (d.setLaneSt l 8).aligned ((d.setLaneSt l 8).trainers l) then
      ((d.setLaneSt l 8).each ((d.setLaneSt l 8).trainers l) fun d k => d.setLaneSt k 9).groupTrained (laneGroup l)
    else d.setLaneSt l 8 := by
  simp only [Dev.stageDone, hst, Nat.reduceEqDiff, if_false, if_true]
  rfl

theorem Dev.get_each_put_at {ns : List Nat} (d : Dev) (r : Reg) (k : Nat) (f : Nat → Nat) {i : Nat} (hi : i ∈ ns) :
    (d.each ns fun d i => d.put r (k + i) (f i)).get r (k + i) = f i % 2 ^ 64 := by
  refine Dev.each_of_mem (P := fun _ => True) (Q := fun e => e.get r (k + i) = f i % 2 ^ 64) hi trivial (fun _ _ _ => trivial)
    (fun e _ => Dev.get_put_same _ _ _ _) fun e n _ hq => ?_
  by_cases hn : n = i
  · subst hn
    exact Dev.get_put_same _ _ _ _
  · exact (e.get_put_num r _ (by omega)).trans hq

end

section
variable {s : State} {lane : Fin 1024} {ctle : BitVec 4} {taps : List (BitVec 6)} {width height : BitVec 8}

theorem laneStageDone_runs (h : lane.val ∈ s.dev.trainers lane.val) : Yields (.laneStageDone lane ctle taps width height) s
    (s.dev.stageDone lane.val ctle.toNat (taps.map BitVec.toNat) width.toNat height.toNat) := by
  change execLaneStageDone lane ctle taps width height s = _
  rw [execLaneStageDone, State.run_eq, if_pos (List.contains_iff_mem.mpr h)]

theorem laneStageDone_ignored (h : lane.val ∉ s.dev.trainers lane.val) :
    Yields (.laneStageDone lane ctle taps width height) s s.dev := by
  change execLaneStageDone lane ctle taps width height s = _
  rw [execLaneStageDone, State.run_eq, if_neg fun hin => h (List.contains_iff_mem.mp hin)]

theorem laneStageDone_detects (hin : lane.val ∈ s.dev.trainers lane.val) (hst : s.dev.laneSt lane.val = 2) :
    Completes (.laneStageDone lane ctle taps width height) s fun e =>
      e.laneSt lane.val = 3 ∧ e.bit .lneStatus lane.val 0 = true := by
  refine (laneStageDone_runs hin).completes ?_
  rw [Dev.stageDone_detect hst]
  exact ⟨(Dev.laneSt_setBit _ 0 true (by decide)).trans (s.dev.laneSt_setLaneSt_same 3),
    Dev.bit_setBit_same _ .lneStatus lane.val 0 true (by decide)⟩

theorem laneStageDone_recovers (hin : lane.val ∈ s.dev.trainers lane.val) (hst : s.dev.laneSt lane.val = 3) :
    Completes (.laneStageDone lane ctle taps width height) s fun e =>
      e.laneSt lane.val = 4 ∧ e.get .lneCtle lane.val = ctle.toNat := by
  refine (laneStageDone_runs hin).completes ?_
  rw [Dev.stageDone_cdr hst]
  exact ⟨(Dev.laneSt_put_reg _ _ _ _ (by decide)).trans (s.dev.laneSt_setLaneSt_same 4),
    (Dev.get_put_same _ _ _ _).trans (Nat.mod_eq_of_lt (ctle.isLt.trans (by decide)))⟩

theorem laneStageDone_equalizes (hin : lane.val ∈ s.dev.trainers lane.val) (hst : s.dev.laneSt lane.val = 4) :
    Completes (.laneStageDone lane ctle taps width height) s fun e => e.laneSt lane.val = 5 := by
  refine (laneStageDone_runs hin).completes ?_
  rw [Dev.stageDone_ctle hst]
  exact s.dev.laneSt_setLaneSt_same 5

theorem getD_toNat_lt (taps : List (BitVec 6)) (i : Nat) : (taps.map BitVec.toNat).getD i 0 < 64 := by
  rw [List.getD_eq_getElem?_getD, List.getElem?_map]
  cases taps[i]? with
  | none => decide
  | some b => exact b.isLt

theorem laneStageDone_locks (hin : lane.val ∈ s.dev.trainers lane.val) (hst : s.dev.laneSt lane.val = 5) :
    Completes (.laneStageDone lane ctle taps width height) s fun e =>
      e.laneSt lane.val = 6 ∧ ∀ i, i < 12 → e.get .lneDfe (12 * lane.val + i) = (taps.map BitVec.toNat).getD i 0 := by
  refine (laneStageDone_runs hin).completes ?_
  rw [Dev.stageDone_block hst]
  refine ⟨?_, fun i hi => ?_⟩
  · exact (Dev.each_keeps (fun e => e.laneSt lane.val) (fun e _ _ => e.laneSt_put_reg _ _ _ (by decide)) _).trans
      (s.dev.laneSt_setLaneSt_same 6)
  · rw [Dev.get_each_put_at _ _ _ _ (List.mem_range.mpr hi)]
    exact Nat.mod_eq_of_lt ((getD_toNat_lt taps i).trans (by decide))

theorem Dev.setEye_shows (d : Dev) (l : Nat) (w h : BitVec 8) : (d.setEye l w.toNat h.toNat).fld .lneStatus l 16 8 = w.toNat ∧
    (d.setEye l w.toNat h.toNat).fld .lneStatus l 8 8 = h.toNat := by
  refine ⟨?_, ?_⟩
  · rw [Dev.setEye, Dev.fld_setFld_other _ _ _ _ _ _ _ _ (by decide) (by decide), Dev.fld_setFld_same _ _ _ _ _ _ (by decide)]
    exact Nat.mod_eq_of_lt w.isLt
  · rw [Dev.setEye, Dev.fld_setFld_same _ _ _ _ _ _ (by decide)]
    exact Nat.mod_eq_of_lt h.isLt

theorem laneStageDone_measures (hin : lane.val ∈ s.dev.trainers lane.val) (hst : s.dev.laneSt lane.val = 6)
    (heye : s.dev.eyeBelow .marginFail width.toNat height.toNat = false) :
    Completes (.laneStageDone lane ctle taps width height) s fun e =>
      e.laneSt lane.val = 7 ∧ e.fld .lneStatus lane.val 16 8 = width.toNat ∧ e.fld .lneStatus lane.val 8 8 = height.toNat := by
  refine (laneStageDone_runs hin).completes ?_
  rw [Dev.stageDone_dfe hst heye, Dev.laneSt_setLaneSt_same, Dev.fld_setLaneSt _ _ _ _ (by decide), Dev.fld_setLaneSt _ _ _ _ (by decide)]
  exact ⟨rfl, s.dev.setEye_shows lane.val width height⟩

/-- A lane of an Ethernet port or of PCIe trains alone. -/
theorem Dev.trainers_alone (d : Dev) {l : Nat} (hlo : 864 ≤ l) (hhi : l < 960) :
    d.trainers l = [l] ∧ ∀ e : Dev, e.groupTrained (laneGroup l) = e := by
  have hgroup : (∃ p, laneGroup l = .ethernet p) ∨ laneGroup l = .pcie := by
    rw [laneGroup, if_neg (by omega), if_neg (by omega), if_pos hhi]
    split
    · exact .inl ⟨_, rfl⟩
    · exact .inr rfl
  unfold Dev.trainers
  obtain ⟨p, hgroup⟩ | hgroup := hgroup
  · rw [hgroup]
    exact ⟨rfl, fun _ => rfl⟩
  · rw [hgroup]
    exact ⟨rfl, fun _ => rfl⟩

theorem laneStageDone_up (hin : lane.val ∈ s.dev.trainers lane.val) (hst : s.dev.laneSt lane.val = 7) (hlo : 864 ≤ lane.val)
    (hhi : lane.val < 960) : Completes (.laneStageDone lane ctle taps width height) s fun e => e.laneSt lane.val = 9 := by
  refine (laneStageDone_runs hin).completes ?_
  obtain ⟨htrainers, htrained⟩ := (s.dev.setLaneSt lane.val 8).trainers_alone hlo hhi
  rw [Dev.stageDone_qualify hst, htrainers, if_pos (by simp [Dev.aligned, Dev.laneSt_setLaneSt_same]), htrained]
  exact Dev.laneSt_setLaneSt_same _ 9

theorem laneStageDone_waits (hin : lane.val ∈ s.dev.trainers lane.val) (hst : s.dev.laneSt lane.val = 7)
    (hother : ∃ k ∈ s.dev.trainers lane.val, k ≠ lane.val ∧ s.dev.laneSt k ≠ 8 ∧ s.dev.laneSt k ≠ 9)
    (hsame : (s.dev.setLaneSt lane.val 8).trainers lane.val = s.dev.trainers lane.val) :
    Completes (.laneStageDone lane ctle taps width height) s fun e => e.laneSt lane.val = 8 := by
  obtain ⟨k, hk, hne, h8, h9⟩ := hother
  have hwaits : (s.dev.setLaneSt lane.val 8).aligned (s.dev.trainers lane.val) = false := by
    rw [Dev.aligned, List.all_eq_false]
    exact ⟨k, hk, by simp [s.dev.laneSt_setLaneSt_other 8 hne, h8, h9]⟩
  refine (laneStageDone_runs hin).completes ?_
  rw [Dev.stageDone_qualify hst, hsame, hwaits, if_neg Bool.false_ne_true]
  exact s.dev.laneSt_setLaneSt_same 8

end

/-! ### A stage that fails (R392, R402) -/

section
variable {s : State} {lane : Fin 1024}

/-- A lane that starts again. -/
def Dev.laneAgain (d : Dev) (l : Nat) : Dev :=
  ((d.setLane l { d.lane l with fails := (d.lane l).fails + 1, start := ((d.lane l).start + 1) % 16 }).setLaneSt l 2).setBit .lneStatus
    l 0 false

theorem Dev.laneAgain_shows (d : Dev) (l : Nat) : (d.laneAgain l).laneSt l = 2 ∧ ((d.laneAgain l).lane l).fails = (d.lane l).fails + 1 ∧
    ((d.laneAgain l).lane l).start = ((d.lane l).start + 1) % 16 := by
  unfold Dev.laneAgain
  rw [Dev.laneSt_setBit _ _ _ (by decide), Dev.laneSt_setLaneSt_same, Dev.setBit, Dev.setFld, Dev.lane_put,
    Dev.lane_of_lne (Dev.lne_setLaneSt _ _ _), Dev.lane_setLane_same]
  exact ⟨rfl, rfl, rfl⟩

/-- A lane shows its mark. -/
def Dev.markShown (d : Dev) (l : Nat) : Dev :=
  (((d.setLaneSt l 1).setBit .lneStatus l 25 true).setGood l false).event .lneEvent l 0

/-- A mark is told and counted. -/
def Dev.markTold (d : Dev) (l : Nat) : Dev :=
  let d2 := (d.raise .lneTrain l).event .lneGlbEvent 0 1
  d2.put .lneGlbDown 0 (d2.get .lneGlbDown 0 + 1)

theorem Dev.markDown_eq (d : Dev) (l : Nat) : d.markDown l = ((d.markShown l).markTold l).portLoses l := rfl

/-- A lane that is marked down is told, and no failure of it counts. -/
theorem Dev.markDown_shows (d : Dev) {l : Nat} (hl : l < 1024) (hfails : (d.lane l).fails = 0) :
    (ECode.lneTrain, l) ∈ (d.markDown l).raised ∧ ((d.markDown l).lane l).fails = 0 := by
  have hmem := mem_lanes_laneGroup hl
  have hshown : KeepsLanes (laneGroup l) d (d.markShown l) :=
    ((((KeepsLanes.refl _ d).setLaneSt hmem (by decide)).setLaneBit hmem (by decide)).setGood).event rfl fun _ => rfl
  have htold : KeepsLanes (laneGroup l) ((d.markShown l).raise .lneTrain l) ((d.markShown l).markTold l) :=
    ((KeepsLanes.refl _ ((d.markShown l).raise .lneTrain l)).event rfl fun _ => rfl).put (by decide)
  rw [Dev.markDown_eq]
  exact ⟨htold.portLoses.raised.mem, htold.portLoses.fails l (hshown.fails l hfails)⟩

theorem laneStageTimeout_fails (hlo : 2 ≤ s.dev.laneSt lane.val) (hhi : s.dev.laneSt lane.val ≤ 8) :
    Completes (.laneStageTimeout lane) s fun e =>
      if (s.dev.lane lane.val).fails < 2 then
        e.laneSt lane.val = 2 ∧ (e.lane lane.val).fails = (s.dev.lane lane.val).fails + 1 ∧
        (e.lane lane.val).start = ((s.dev.lane lane.val).start + 1) % 16
      else (ECode.lneTrain, lane.val) ∈ e.raised ∧ (e.lane lane.val).fails = 0 := by
  have hyields : Yields (.laneStageTimeout lane) s (s.dev.stageFail lane.val) := by
    change execLaneStageTimeout lane s = _
    rw [execLaneStageTimeout, State.run_eq, if_pos ⟨hlo, hhi⟩]
  refine hyields.completes ?_
  unfold Dev.stageFail
  split
  case isTrue h =>
    rw [if_neg (by omega)]
    exact s.dev.laneAgain_shows lane.val
  case isFalse h =>
    rw [if_pos (by omega)]
    exact Dev.markDown_shows _ lane.isLt (congrArg Lane.fails (s.dev.lane_setLane_same _))

end

/-! ### Lanes that leave UP (R393, R394, R396) -/

section
variable {s : State} {lane : Fin 1024}

/-- A block is counted by its lane where its header is invalid. -/
theorem Dev.get_judgeHeader (d : Dev) (l h : Nat) : (d.judgeHeaders [(l, h)]).get .lneBlockErr l =
    if headerValid h then d.get .lneBlockErr l else min (d.get .lneBlockErr l + 1) (2 ^ 32 - 1) := by
  have hone : (d.judgeHeaders [(l, h)]).get .lneBlockErr l = (if headerValid h then d else d.count .lneBlockErr l).get .lneBlockErr l := by
    simp only [Dev.judgeHeaders, List.foldl_cons, List.foldl_nil]
    split
    · split
      · exact Dev.get_put_reg _ _ _ _ (by decide)
      · rfl
    · rfl
  rw [hone]
  split
  · rfl
  · exact Dev.get_count_same _ _ _

/-- The invalid headers of a lane's blocks are counted. -/
theorem Dev.get_judgeHeaders (d : Dev) (l : Nat) (hs : List Nat) :
    (d.judgeHeaders (hs.map fun h => (l, h))).get .lneBlockErr l =
      if (hs.filter fun h => !headerValid h).length = 0 then d.get .lneBlockErr l
      else min (d.get .lneBlockErr l + (hs.filter fun h => !headerValid h).length) (2 ^ 32 - 1) := by
  induction hs generalizing d with
  | nil => rfl
  | cons h hs ih =>
    have hcons : d.judgeHeaders ((h :: hs).map fun h => (l, h)) =
        (d.judgeHeaders [(l, h)]).judgeHeaders (hs.map fun h => (l, h)) := rfl
    rw [hcons, ih, Dev.get_judgeHeader]
    by_cases hvalid : headerValid h = true
    · rw [List.filter_cons_of_neg (by simp [hvalid]), if_pos hvalid]
    · rw [List.filter_cons_of_pos (by simp [hvalid]), List.length_cons, if_neg hvalid, if_neg (Nat.succ_ne_zero _)]
      split <;> omega

theorem Dev.laneFail_shows (d : Dev) {l : Nat} (hl : l < 1024) : (ECode.lneDown, l) ∈ ((d.raise .lneDown l).laneFail l).raised ∧
    ((d.raise .lneDown l).laneFail l).get .lneBlockErr l = d.get .lneBlockErr l ∧
    ((d.raise .lneDown l).laneFail l).bit .lneEvent l 2 = d.bit .lneEvent l 2 := by
  have hfail := (KeepsLanes.refl (laneGroup l) (d.raise .lneDown l)).laneFail hl
  exact ⟨hfail.raised.mem, hfail.get (by decide) l,
    congrArg (· == 1) (hfail.kept (.lneEvent, 2, 1) (by decide) l)⟩

theorem blockLockLoss_fails {headers : Vector Byte 64} (hst : s.dev.laneSt lane.val = 9)
    (hbad : 16 ≤ (headers.toList.filter fun h => !headerValid h.toNat).length) :
    Completes (.blockLockLoss lane headers) s fun e => (ECode.lneDown, lane.val) ∈ e.raised ∧
      e.get .lneBlockErr lane.val =
        min (s.dev.get .lneBlockErr lane.val + (headers.toList.filter fun h => !headerValid h.toNat).length) (2 ^ 32 - 1) := by
  have hlen : ((headers.toList.map BitVec.toNat).filter fun h => !headerValid h).length =
      (headers.toList.filter fun h => !headerValid h.toNat).length := by
    rw [List.filter_map, List.length_map]
    rfl
  generalize hd1 : s.dev.setLane lane.val { s.dev.lane lane.val with blockLoss := (s.dev.lane lane.val).blockLoss + 1 } = d1
  have hyields : Yields (.blockLockLoss lane headers) s
      (((d1.judgeHeaders ((headers.toList.map BitVec.toNat).map fun h => (lane.val, h))).raise .lneDown lane.val).laneFail
        lane.val) := by
    change execBlockLockLoss lane headers s = _
    rw [execBlockLockLoss, State.run_eq]
    dsimp only
    rw [if_neg (by rw [hlen]; omega), hd1]
  obtain ⟨hraised, hcount, -⟩ := Dev.laneFail_shows (d1.judgeHeaders ((headers.toList.map BitVec.toNat).map fun h => (lane.val, h)))
    lane.isLt
  refine hyields.completes ⟨hraised, hcount.trans ?_⟩
  rw [Dev.get_judgeHeaders, hlen, if_neg (by omega), ← hd1]
  rfl

theorem blockLockLoss_ignored {headers : Vector Byte 64} (h : s.dev.laneSt lane.val ≠ 9 ∨
    (headers.toList.filter fun h => !headerValid h.toNat).length < 16) : Yields (.blockLockLoss lane headers) s s.dev := by
  have hlen : ((headers.toList.map BitVec.toNat).filter fun h => !headerValid h).length =
      (headers.toList.filter fun h => !headerValid h.toNat).length := by
    rw [List.filter_map, List.length_map]
    rfl
  change execBlockLockLoss lane headers s = _
  rw [execBlockLockLoss, State.run_eq]
  dsimp only
  rw [hlen, if_pos h]

theorem laneLos_fails (hst : s.dev.laneSt lane.val = 9) (hawake : s.dev.bit .lneStatus lane.val 26 = false) :
    Completes (.laneLos lane) s fun e => (ECode.lneDown, lane.val) ∈ e.raised ∧ e.bit .lneEvent lane.val 2 = true := by
  generalize hd1 : s.dev.setLane lane.val { s.dev.lane lane.val with los := (s.dev.lane lane.val).los + 1 } = d1
  have hyields : Yields (.laneLos lane) s (((d1.event .lneEvent lane.val 2).raise .lneDown lane.val).laneFail lane.val) := by
    change execLaneLos lane s = _
    rw [execLaneLos, State.run_eq]
    dsimp only
    rw [if_neg (by simp [hst, hawake]), hd1]
  obtain ⟨hraised, -, hevent⟩ := (d1.event .lneEvent lane.val 2).laneFail_shows lane.isLt
  exact hyields.completes ⟨hraised, hevent.trans (d1.bit_event_same .lneEvent lane.val 2 (by decide))⟩

theorem laneLos_ignored (h : s.dev.laneSt lane.val ≠ 9 ∨ s.dev.bit .lneStatus lane.val 26 = true) :
    Yields (.laneLos lane) s s.dev := by
  change execLaneLos lane s = _
  rw [execLaneLos, State.run_eq]
  dsimp only
  rw [if_pos h]

theorem alignmentMarkerLost_fails (hst : s.dev.laneSt lane.val = 9) (hnative : (laneGroup lane.val).native = true) :
    Completes (.alignmentMarkerLost lane none none) s fun e => (ECode.lneDown, lane.val) ∈ e.raised := by
  have hyields : Yields (.alignmentMarkerLost lane none none) s ((s.dev.raise .lneDown lane.val).laneFail lane.val) := by
    change execAlignmentMarkerLost lane none none s = _
    simp [execAlignmentMarkerLost, hst, hnative, Dev.markerMissed]
  exact hyields.completes (s.dev.laneFail_shows lane.isLt).1

theorem alignmentMarkerLost_ignored {first second : Option (Byte × Word × Word)} (h : s.dev.laneSt lane.val ≠ 9 ∨
    s.dev.markerMissed lane.val first = false ∨ s.dev.markerMissed lane.val second = false) :
    Yields (.alignmentMarkerLost lane first second) s s.dev := by
  change execAlignmentMarkerLost lane first second s = _
  rw [execAlignmentMarkerLost, State.run_eq]
  dsimp only
  rw [if_pos]
  obtain h | h | h := h
  · exact .inl h
  · exact .inr (.inr (.inl (by rw [h]; rfl)))
  · exact .inr (.inr (.inr (by rw [h]; rfl)))

theorem laneSignalReturn_counts (hst : s.dev.laneSt lane.val = 9) (hawake : s.dev.bit .lneStatus lane.val 26 = false) :
    Completes (.laneSignalReturn lane) s fun e =>
      e.get .lneLosCount lane.val = min (s.dev.get .lneLosCount lane.val + 1) (2 ^ 32 - 1) := by
  have hyields : Yields (.laneSignalReturn lane) s (s.dev.count .lneLosCount lane.val) := by
    change execLaneSignalReturn lane s = _
    simp [execLaneSignalReturn, hst, hawake]
  exact hyields.completes (Dev.get_count_same _ _ _)

theorem laneSignalReturn_ignored (hst : s.dev.laneSt lane.val ≠ 9) : Yields (.laneSignalReturn lane) s s.dev := by
  change execLaneSignalReturn lane s = _
  simp [execLaneSignalReturn, hst]

/-- A lane is scanned first. -/
def Dev.scanFirst (d : Dev) (l : Nat) : Dev :=
  if d.lne.ahead.contains l then d else { d with lne := { d.lne with ahead := d.lne.ahead ++ [l] } }

theorem Dev.scanFirst_shows (d : Dev) (l : Nat) : l ∈ (d.scanFirst l).lne.ahead ∧ (d.scanFirst l).raised = d.raised ∧
    (d.scanFirst l).regs = d.regs := by
  unfold Dev.scanFirst
  split
  case isTrue h => exact ⟨List.contains_iff_mem.mp h, rfl, rfl⟩
  case isFalse => exact ⟨List.mem_append_right _ List.mem_cons_self, rfl, rfl⟩

theorem laneRail_scans {tap : Fin 13} (hst : s.dev.laneSt lane.val = 9) (hawake : s.dev.bit .lneStatus lane.val 26 = false) :
    Completes (.laneRail lane tap) s fun e =>
      (ECode.lneRail, lane.val) ∈ e.raised ∧ e.bit .lneEvent lane.val 5 = true ∧ lane.val ∈ e.lne.ahead := by
  have hyields : Yields (.laneRail lane tap) s
      (((s.dev.event .lneEvent lane.val 5).raise .lneRail lane.val).scanFirst lane.val) := by
    change execLaneRail lane tap s = _
    rw [execLaneRail, State.run_eq]
    dsimp only
    rw [if_neg (by simp [hst, hawake])]
    rfl
  obtain ⟨hahead, hraised, hregs⟩ := ((s.dev.event .lneEvent lane.val 5).raise .lneRail lane.val).scanFirst_shows lane.val
  refine hyields.completes ⟨?_, ?_, hahead⟩
  · rw [hraised]
    exact List.mem_append_right _ List.mem_cons_self
  · exact (Dev.bit_of_regs hregs _ _ _).trans (s.dev.bit_event_same .lneEvent lane.val 5 (by decide))

theorem laneRail_ignored {tap : Fin 13} (hst : s.dev.laneSt lane.val ≠ 9) : Yields (.laneRail lane tap) s s.dev := by
  change execLaneRail lane tap s = _
  rw [execLaneRail, State.run_eq]
  dsimp only
  rw [if_pos (.inl hst)]

end

/-! ### Lanes that are retrained (R394, R403) -/

section
variable {s : State} {lane : Fin 1024} {i : Nat} {d : Dev}

theorem LaneGroup.lanes_nodup (g : LaneGroup) : g.lanes.Nodup :=
  (List.nodup_range).map fun _ _ h => Nat.add_left_cancel h

def noMirrorReach : Reach := .of [.area .ptn, partnerAckedReach]

theorem Footprint.holds.noMirror {F : Footprint} {e : Dev} (he : F.holds d e) (h : noMirrorReach.within F d) : F.holds d e.noMirror := by
  obtain ⟨hptn, hacked, -⟩ := h
  exact holds_ite he ((he.inPtn hptn).partnerAcked hacked)

/-- A mirror link that goes out of service is told. -/
def Dev.mirrorTold (d : Dev) (i : Nat) : Dev := ((d.setBit .ptnStatus 0 (16 + i) false).event .ptnEvent 0 1).raise .ptnMirror i

def mirrorDeadReach : Reach := .of [.reg .ptnStatus (some 0), eventReach .ptnEvent (some 0) 1, .area .raised, noMirrorReach]

theorem mirrorDead_holds {F : Footprint} (h : mirrorDeadReach.within F d) : F.holds d (d.mirrorTold i).noMirror := by
  obtain ⟨hstatus, hevent, hraised, hnone, -⟩ := h
  exact ((((Footprint.holds_refl _ d).setBit hstatus.field .self).event hevent .self).raise hraised).noMirror hnone

/-- The lanes of a mirror link that goes out of service stay as they are. -/
theorem Dev.linkDead_mirror (hi : i < 8) (hlive : d.linkIsLive i = true) : (d.linkDead i).linkIsLive i = false ∧
    (∀ l, (d.linkDead i).get .lneStatus l = d.get .lneStatus l) ∧
    ∀ l, (d.linkDead i).get .lneRetrains l = d.get .lneRetrains l := by
  have hdead : d.linkDead i = (d.mirrorTold i).noMirror := by
    rw [Dev.linkDead, if_neg (by simp [hlive]), if_pos hi]
    rfl
  have htold : (d.mirrorTold i).bit .ptnStatus 0 (16 + i) = false :=
    (Dev.bit_event (d.setBit .ptnStatus 0 (16 + i) false) (r := .ptnEvent) (q := .ptnStatus) 0 1 rfl rfl).trans
      (d.bit_setBit_same .ptnStatus 0 (16 + i) false (by omega))
  have hnone : (d.mirrorTold i).noMirror.get .ptnStatus 0 = (d.mirrorTold i).get .ptnStatus 0 :=
    Dev.get_spared (x := noMirrorReach) rfl rfl fun hin => (Footprint.holds_refl _ (d.mirrorTold i)).noMirror hin
  rw [hdead, Dev.linkIsLive, if_pos hi]
  exact ⟨(Dev.bit_of_get hnone _).trans htold, fun l => Dev.get_spared (x := mirrorDeadReach) rfl rfl mirrorDead_holds,
    fun l => Dev.get_spared (x := mirrorDeadReach) rfl rfl mirrorDead_holds⟩

def noteRetrainReach : Reach := .of [.reg .lneRetrains none, eventReach .lneEvent none 1]

theorem Footprint.holds.noteRetrain {F : Footprint} {e : Dev} {ls : List Nat} (he : F.holds d e) (h : noteRetrainReach.within F d) :
    F.holds d (e.noteRetrain ls) := by
  obtain ⟨hcount, hevent, -⟩ := h
  exact he.each fun _ _ ho => (ho.count hcount .any).event hevent .any

/-- Lanes that are retrained are counted once each. -/
theorem Dev.lneRetrains_noteRetrain (d : Dev) {g : LaneGroup} {l : Nat} (hl : l ∈ g.lanes) :
    (d.noteRetrain g.lanes).get .lneRetrains l = min (d.get .lneRetrains l + 1) (2 ^ 32 - 1) := by
  have hevent (e : Dev) (n : Nat) : ((e.count .lneRetrains n).event .lneEvent n 1).get .lneRetrains l =
      (e.count .lneRetrains n).get .lneRetrains l := Dev.get_event _ n 1 rfl rfl
  obtain ⟨e, hbefore, hafter⟩ := Dev.each_turn (R := fun d e => e.get .lneRetrains l = d.get .lneRetrains l)
    (f := fun d l => (d.count .lneRetrains l).event .lneEvent l 1) (fun _ => rfl) (fun _ _ _ h h' => h'.trans h)
    (fun e n hn => (hevent e n).trans (e.get_put_num .lneRetrains _ (Ne.symm hn))) hl g.lanes_nodup d
  refine hafter.trans ((hevent e l).trans ((Dev.get_count_same _ _ _).trans ?_))
  rw [hbefore]
  rfl

theorem Dev.laneSt_trainLanes (d : Dev) {ls : List Nat} {rate l : Nat} (hl : l ∈ ls) (hst : d.laneSt l ≠ 10) :
    (d.trainLanes ls rate).laneSt l = 2 := by
  refine Dev.each_of_mem (P := fun _ => True) (Q := fun e => e.laneSt l = 2) (List.mem_filter.mpr ⟨hl, by simpa using hst⟩) trivial
    (fun _ _ _ => trivial) (fun e _ => ?_) fun e n _ h2 => ?_
  · rw [Dev.laneSt_put_reg _ _ _ _ (by decide), Dev.laneSt_setBit _ _ _ (by decide), Dev.laneSt_setLaneSt_same]
  · rw [Dev.laneSt_put_reg _ _ _ _ (by decide), Dev.laneSt_setBit _ _ _ (by decide)]
    by_cases hn : l = n
    · subst hn
      exact Dev.laneSt_setLaneSt_same _ 2
    · rw [Dev.laneSt_setLaneSt_other _ _ hn]
      exact h2

/-- All lanes of a mirror link are retrained. -/
def Dev.mirrorRetrained (d : Dev) (i : Nat) (ls : List Nat) : Dev :=
  (d.noteRetrain (LaneGroup.mirror i).lanes).trainLanes ls fullRate

theorem Dev.mirrorRetrained_shows (d : Dev) {l : Nat} {ls : List Nat} (hmem : l ∈ (LaneGroup.mirror i).lanes) (hin : l ∈ ls)
    (hst : d.laneSt l = 9) : (∀ k, (d.mirrorRetrained i ls).linkIsLive k = d.linkIsLive k) ∧ (d.mirrorRetrained i ls).laneSt l = 2 ∧
      (d.mirrorRetrained i ls).get .lneRetrains l = min (d.get .lneRetrains l + 1) (2 ^ 32 - 1) := by
  have hnote (hin : noteRetrainReach.within (noteRetrainReach.exact d) d) :=
    (Footprint.holds_refl _ d).noteRetrain (ls := (LaneGroup.mirror i).lanes) hin
  have hstatus : (d.noteRetrain (LaneGroup.mirror i).lanes).get .lneStatus l = d.get .lneStatus l :=
    Dev.get_spared (x := noteRetrainReach) rfl rfl hnote
  have hptn : (d.noteRetrain (LaneGroup.mirror i).lanes).get .ptnStatus 0 = d.get .ptnStatus 0 :=
    Dev.get_spared (x := noteRetrainReach) rfl rfl hnote
  have hql : (d.noteRetrain (LaneGroup.mirror i).lanes).get .qlStatus 0 = d.get .qlStatus 0 :=
    Dev.get_spared (x := noteRetrainReach) rfl rfl hnote
  have hcount := d.lneRetrains_noteRetrain hmem
  unfold Dev.mirrorRetrained
  generalize d.noteRetrain (LaneGroup.mirror i).lanes = e at *
  have htrain (hin : trainLanesReach.within (trainLanesReach.exact e) e) :=
    (Footprint.holds_refl _ e).trainLanes (ls := ls) (kbps := fullRate) hin
  refine ⟨fun k => ?_, Dev.laneSt_trainLanes e hin ?_, ?_⟩
  · exact Dev.linkIsLive_of_get ((Dev.get_spared (x := trainLanesReach) rfl rfl htrain).trans hptn)
      ((Dev.get_spared (x := trainLanesReach) rfl rfl htrain).trans hql) k
  · rw [Dev.laneSt_of_get d hstatus, hst]
    decide
  · exact (Dev.get_spared (x := trainLanesReach) rfl rfl htrain).trans hcount

/-- A lane of a mirror link that must be retrained takes the link out of service. -/
theorem Dev.askRetrain_mirror {l : Nat} (hgroup : laneGroup l = .mirror i) (hl : l < 1024) (hlive : d.linkIsLive i = true)
    (hmark : d.laneMarked l = false) (hst : d.laneSt l = 9) (hgood : (d.lane l).good = true) :
    (d.askRetrain l).linkIsLive i = false ∧ (d.askRetrain l).laneSt l = 2 ∧
      (d.askRetrain l).get .lneRetrains l = min (d.get .lneRetrains l + 1) (2 ^ 32 - 1) := by
  have hi := mirror_lt_of_laneGroup hgroup
  have hmem : l ∈ (LaneGroup.mirror i).lanes := hgroup ▸ mem_lanes_laneGroup hl
  obtain ⟨hdead, hstatus, hretrains⟩ := Dev.linkDead_mirror hi hlive
  have hask : d.askRetrain l = (d.linkDead i).mirrorRetrained i (d.goodOf (.mirror i)) := by
    rw [Dev.askRetrain, if_pos ⟨by rw [hgroup]; rfl, by rw [hgroup]; exact hlive, by rw [hmark]; rfl⟩, Dev.laneFail, hgroup]
    rfl
  have hst1 : (d.linkDead i).laneSt l = 9 := (Dev.laneSt_of_get d (hstatus l)).trans hst
  obtain ⟨hlive2, hst2, hcount2⟩ := (d.linkDead i).mirrorRetrained_shows hmem
    (List.mem_filter.mpr ⟨hmem, hgood⟩ : l ∈ d.goodOf (.mirror i)) hst1
  rw [hask]
  exact ⟨(hlive2 i).trans hdead, hst2, hcount2.trans (by rw [hretrains])⟩

theorem laneBlockErrRetrain_asks (hst : s.dev.laneSt lane.val = 9) :
    Yields (.laneBlockErrRetrain lane) s (s.dev.askRetrain lane.val) := by
  change execLaneBlockErrRetrain lane s = _
  rw [execLaneBlockErrRetrain, State.run_eq, if_pos hst]

theorem laneBlockErrRetrain_ignored (hst : s.dev.laneSt lane.val ≠ 9) : Yields (.laneBlockErrRetrain lane) s s.dev := by
  change execLaneBlockErrRetrain lane s = _
  rw [execLaneBlockErrRetrain, State.run_eq, if_neg hst]

theorem laneRetrain_asks : Yields (.laneRetrain lane) s (s.dev.askRetrain lane.val) := rfl

theorem laneRetrain_ignored (h : s.dev.groupUp (laneGroup lane.val) = false) : Yields (.laneRetrain lane) s s.dev := by
  have hask : s.dev.askRetrain lane.val = s.dev := if_neg (by simp [h])
  have hyields : Yields (.laneRetrain lane) s (s.dev.askRetrain lane.val) := laneRetrain_asks
  rwa [hask] at hyields

end

/-! ### Sleep and the down mark (R396, R397, R402) -/

section
variable {s : State} {lane : Fin 1024}

theorem Dev.get_noteAwake (d : Dev) {l k : Nat} {b : Bool} {r : Reg} (h : noteAwakeReach.spares r k 0 64 = true) :
    (d.noteAwake l b).get r k = d.get r k :=
  Dev.get_spared (x := noteAwakeReach) rfl h fun hin => (Footprint.holds_refl _ d).noteAwake hin

theorem sleepBlock_sleeps (hst : s.dev.laneSt lane.val = 9) (hnative : (laneGroup lane.val).native = true) :
    Completes (.sleepBlock lane) s fun e => e.bit .lneStatus lane.val 26 = true ∧ e.laneSt lane.val = 9 := by
  have hyields : Yields (.sleepBlock lane) s ((s.dev.setBit .lneStatus lane.val 26 true).noteAwake lane.val false) := by
    change execSleepBlock lane s = _
    rw [execSleepBlock, State.run_eq]
    dsimp only
    rw [if_pos ⟨hst, hnative⟩]
  have hkept : ((s.dev.setBit .lneStatus lane.val 26 true).noteAwake lane.val false).get .lneStatus lane.val =
    (s.dev.setBit .lneStatus lane.val 26 true).get .lneStatus lane.val := Dev.get_noteAwake _ rfl
  exact hyields.completes ⟨(Dev.bit_of_get hkept 26).trans (s.dev.bit_setBit_same .lneStatus lane.val 26 true (by decide)),
    (Dev.laneSt_of_get _ hkept).trans ((s.dev.laneSt_setBit 26 true (by decide)).trans hst)⟩

theorem sleepBlock_ignored (hst : s.dev.laneSt lane.val ≠ 9) : Yields (.sleepBlock lane) s s.dev := by
  change execSleepBlock lane s = _
  rw [execSleepBlock, State.run_eq]
  dsimp only
  rw [if_neg fun h => hst h.1]

theorem laneWake_wakes (hst : s.dev.laneSt lane.val = 9) (hasleep : s.dev.bit .lneStatus lane.val 26 = true) :
    Completes (.laneWake lane) s fun e =>
      e.bit .lneStatus lane.val 26 = false ∧ e.get .lneWakes lane.val = min (s.dev.get .lneWakes lane.val + 1) (2 ^ 32 - 1) := by
  have hyields : Yields (.laneWake lane) s
      (((s.dev.setBit .lneStatus lane.val 26 false).count .lneWakes lane.val).noteAwake lane.val true) := by
    change execLaneWake lane s = _
    rw [execLaneWake, State.run_eq]
    dsimp only
    rw [if_pos ⟨hst, hasleep⟩]
  refine hyields.completes ⟨(Dev.bit_of_get (Dev.get_noteAwake _ rfl) 26).trans ?_, (Dev.get_noteAwake _ rfl).trans ?_⟩
  · exact (Dev.bit_put_reg _ _ _ _ _ (by decide)).trans (s.dev.bit_setBit_same .lneStatus lane.val 26 false (by decide))
  · rw [Dev.get_count_same, Dev.setBit, Dev.setFld, Dev.get_put_reg _ _ _ _ (by decide)]
    rfl

theorem laneWake_ignored (hst : s.dev.laneSt lane.val ≠ 9) : Yields (.laneWake lane) s s.dev := by
  change execLaneWake lane s = _
  rw [execLaneWake, State.run_eq]
  dsimp only
  rw [if_neg fun h => hst h.1]

theorem Dev.laneMarked_unmark (d : Dev) (l : Nat) : (d.unmark l).laneMarked l = false := by
  unfold Dev.unmark
  split
  case isTrue => exact (Dev.bit_put_reg _ _ _ _ _ (by decide)).trans (d.bit_setBit_same .lneStatus l 25 false (by decide))
  case isFalse h => exact Bool.eq_false_iff.mpr h

theorem Dev.lneGlbDown_unmark (d : Dev) (l : Nat) :
    (d.unmark l).get .lneGlbDown 0 = d.get .lneGlbDown 0 - (if d.laneMarked l then 1 else 0) := by
  unfold Dev.unmark
  split
  · have hlt := d.get_lt .lneGlbDown 0
    dsimp only
    rw [Dev.get_put_same, Dev.setBit, Dev.setFld, Dev.get_put_reg _ _ _ _ (by decide)]
    omega
  · rfl

theorem laneRevive_clears : Completes (.laneRevive lane) s fun e =>
    e.laneMarked lane.val = false ∧
    e.get .lneGlbDown 0 = s.dev.get .lneGlbDown 0 - (if s.dev.laneMarked lane.val then 1 else 0) :=
  have hyields : Yields (.laneRevive lane) s (s.dev.unmark lane.val) := rfl
  hyields.completes ⟨s.dev.laneMarked_unmark lane.val, s.dev.lneGlbDown_unmark lane.val⟩

end

/-! ### Margin scans (R401) -/

section
variable {s : State} {lane : Fin 1024} {w h : BitVec 8}

/-- A scan is done with a lane. -/
def Dev.scanned (d : Dev) (l : Nat) : Dev := { d with lne := { d.lne with ahead := d.lne.ahead.filter fun x => x != l } }

/-- A margin below MARGIN_WARN is told. -/
def Dev.marginTold (d : Dev) (l w h : Nat) : Dev :=
  if d.eyeBelow .marginWarn w h then (d.event .lneEvent l 3).raise .lneMargin l else d

theorem Dev.marginTold_shows (d : Dev) (l w h : Nat) : (∀ k, (d.marginTold l w h).get .lneStatus k = d.get .lneStatus k) ∧
    (d.marginTold l w h).lne = d.lne ∧ (d.marginTold l w h).img = d.img ∧ (d.eyeBelow .marginWarn w h = true →
      (ECode.lneMargin, l) ∈ (d.marginTold l w h).raised ∧ (d.marginTold l w h).bit .lneEvent l 3 = true) := by
  unfold Dev.marginTold
  split
  case isTrue =>
    exact ⟨fun k => d.get_event l 3 rfl rfl, d.area_event (p := .lne) (r := .lneEvent) l 3 rfl rfl,
      d.area_event (p := .img) (r := .lneEvent) l 3 rfl rfl,
      fun _ => ⟨List.mem_append_right _ List.mem_cons_self, d.bit_event_same .lneEvent l 3 (by decide)⟩⟩
  case isFalse hbelow => exact ⟨fun _ => rfl, rfl, rfl, fun h => absurd h hbelow⟩

theorem Dev.eyeBelow_of_img {d e : Dev} (h : e.img = d.img) (f : Field) (w k : Nat) : e.eyeBelow f w k = d.eyeBelow f w k := by
  rw [Dev.eyeBelow, Dev.eyeBelow, Dev.cfg, Dev.cfg, h]

theorem marginScanDone_stores (hst : s.dev.laneSt lane.val = 9) (hawake : s.dev.bit .lneStatus lane.val 26 = false)
    (heye : s.dev.eyeBelow .marginFail w.toNat h.toNat = false) :
    Completes (.marginScanDone lane (some (w, h))) s fun e =>
      e.fld .lneStatus lane.val 16 8 = w.toNat ∧ e.fld .lneStatus lane.val 8 8 = h.toNat ∧ lane.val ∉ e.lne.ahead ∧
      (s.dev.eyeBelow .marginWarn w.toNat h.toNat = true →
        (ECode.lneMargin, lane.val) ∈ e.raised ∧ e.bit .lneEvent lane.val 3 = true) := by
  obtain ⟨hwidth, hheight⟩ := (s.dev.scanned lane.val).setEye_shows lane.val w h
  have himg : ((s.dev.scanned lane.val).setEye lane.val w.toNat h.toNat).img = s.dev.img := rfl
  have hahead : lane.val ∉ ((s.dev.scanned lane.val).setEye lane.val w.toNat h.toNat).lne.ahead := fun hin => by
    simpa using (List.mem_filter.mp hin).2
  obtain ⟨hstatus, hlne, himg2, hwarn⟩ :=
    ((s.dev.scanned lane.val).setEye lane.val w.toNat h.toNat).marginTold_shows lane.val w.toNat h.toNat
  have hyields : Yields (.marginScanDone lane (some (w, h))) s
      (((s.dev.scanned lane.val).setEye lane.val w.toNat h.toNat).marginTold lane.val w.toNat h.toNat) := by
    have hfine : (((s.dev.scanned lane.val).setEye lane.val w.toNat h.toNat).marginTold lane.val w.toNat h.toNat).eyeBelow .marginFail
      w.toNat h.toNat = false := (Dev.eyeBelow_of_img (himg2.trans himg) _ _ _).trans heye
    change execMarginScanDone lane (some (w, h)) s = _
    rw [execMarginScanDone, State.run_eq]
    simp only [hst, hawake, BEq.rfl, Bool.not_false, Bool.and_self]
    exact congrArg (fun e : Dev => Host.Outcome.next { s with dev := e }) (if_neg (Bool.eq_false_iff.mp hfine))
  refine hyields.completes ⟨?_, ?_, ?_, fun hbelow => hwarn ?_⟩
  · exact (congrArg (bits · 16 8) (hstatus _)).trans hwidth
  · exact (congrArg (bits · 8 8) (hstatus _)).trans hheight
  · rw [hlne]
    exact hahead
  · exact (Dev.eyeBelow_of_img himg _ _ _).trans hbelow

theorem marginScanDone_skips {eye : Option (BitVec 8 × BitVec 8)} (hskip : eye = none ∨ s.dev.laneSt lane.val ≠ 9 ∨
    s.dev.bit .lneStatus lane.val 26 = true) :
    Completes (.marginScanDone lane eye) s fun e =>
      e.get .lneScanSkip lane.val = min (s.dev.get .lneScanSkip lane.val + 1) (2 ^ 32 - 1) ∧ e.lne = s.dev.lne := by
  have hyields : Yields (.marginScanDone lane eye) s (s.dev.count .lneScanSkip lane.val) := by
    change execMarginScanDone lane eye s = _
    rw [execMarginScanDone, State.run_eq]
    dsimp only
    split
    case h_1 w h hup =>
      exfalso
      obtain heye | hst | hasleep := hskip
      · exact absurd heye (by simp)
      · simp [hst] at hup
      · simp [hasleep] at hup
    case h_2 => rfl
  exact hyields.completes ⟨Dev.get_count_same _ _ _, rfl⟩

theorem scanNow_waits (hidle : s.dev.taskActive 2 = false) :
    Completes .scanNow s fun e => e.taskBit 2 29 = true ∧ (e.task 2).due = [some (s.dev.now + s.dev.taskLimit 2 * 1000000000)] := by
  have hyields : Yields .scanNow s (s.dev.taskDue 2 (s.dev.taskDeadlineAt 2 false 0)) := rfl
  refine hyields.completes ?_
  rw [Dev.taskDue_idle _ _ hidle, Dev.taskBit_taskStand, Dev.task_taskStand, Dev.task_setTask]
  exact ⟨rfl, rfl⟩

end

/-! ### Ethernet ports that are down (R402) -/

section
variable {s : State} {ep : Fin 20} {sub : Fin 4}

/-- A lane is tried again. -/
def Dev.laneTried (d : Dev) (l : Nat) : Dev := ((d.unmark l).laneDeep l).setGood l false

/-- What a lane and whether it is powered depend on. -/
structure KeepsLane (l : Nat) (d e : Dev) : Prop where
  status : e.get .lneStatus l = d.get .lneStatus l
  lane : e.lane l = d.lane l
  img : e.img = d.img
  shed : e.lne.shed = d.lne.shed
  noRef : e.lne.noRef = d.lne.noRef

section
variable {d e e' : Dev} {l n : Nat}

theorem KeepsLane.refl (l : Nat) (d : Dev) : KeepsLane l d d := ⟨rfl, rfl, rfl, rfl, rfl⟩

theorem KeepsLane.trans (h : KeepsLane l d e) (h' : KeepsLane l e e') : KeepsLane l d e' :=
  ⟨h'.status.trans h.status, h'.lane.trans h.lane, h'.img.trans h.img, h'.shed.trans h.shed, h'.noRef.trans h.noRef⟩

theorem KeepsLane.of_lne (hstatus : e.get .lneStatus l = d.get .lneStatus l) (himg : e.img = d.img) (hlne : e.lne = d.lne) :
    KeepsLane l d e :=
  ⟨hstatus, Dev.lane_of_lne hlne, himg, congrArg LaneState.shed hlne, congrArg LaneState.noRef hlne⟩

theorem Dev.img_unmark (d : Dev) (n : Nat) : (d.unmark n).img = d.img :=
  Dev.area_spared (p := .img) (x := unmarkReach none) rfl rfl fun hin => (Footprint.holds_refl _ d).unmark hin .any

theorem Dev.img_laneDeep (d : Dev) (n : Nat) : (d.laneDeep n).img = d.img :=
  Dev.area_spared (p := .img) (x := laneDeepReach) rfl rfl fun hin => (Footprint.holds_refl _ d).laneDeep hin

theorem Dev.img_setGood (d : Dev) (n : Nat) (b : Bool) : (d.setGood n b).img = d.img :=
  Dev.area_spared (p := .img) (x := setGoodReach) rfl rfl fun hin => (Footprint.holds_refl _ d).setGood hin

theorem Dev.power_setGood (d : Dev) (n : Nat) (b : Bool) : (d.setGood n b).lne.shed = d.lne.shed ∧
    (d.setGood n b).lne.noRef = d.lne.noRef := by
  rw [d.lne_setGood]
  exact ⟨rfl, rfl⟩

/-- Trying another lane again. -/
theorem KeepsLane.laneTried (d : Dev) (hn : n ≠ l) : KeepsLane l d (d.laneTried n) := by
  have hdeep : KeepsLane l d ((d.unmark n).laneDeep n) := .trans
    (.of_lne (d.get_unmark_other (Ne.symm hn)) (d.img_unmark n) (d.lne_unmark n))
    (.of_lne (Dev.get_laneDeep_other _ (Ne.symm hn)) (Dev.img_laneDeep _ n) (Dev.lne_laneDeep _ n))
  refine hdeep.trans ⟨Dev.get_setGood _ false rfl, Dev.lane_setGood_other _ false (Ne.symm hn), Dev.img_setGood _ n false,
    (Dev.power_setGood _ n false).1, (Dev.power_setGood _ n false).2⟩

theorem KeepsLane.laneMarked (h : KeepsLane l d e) : e.laneMarked l = d.laneMarked l := Dev.bit_of_get h.status 25

theorem KeepsLane.laneSt (h : KeepsLane l d e) : e.laneSt l = d.laneSt l := Dev.laneSt_of_get d h.status

theorem KeepsLane.laneEnabled (h : KeepsLane l d e) : e.laneEnabled l = d.laneEnabled l := by
  rw [Dev.laneEnabled, Dev.laneEnabled, Dev.cfg, Dev.cfg, h.img]

theorem KeepsLane.lanePowered (h : KeepsLane l d e) : e.lanePowered l = d.lanePowered l := by
  rw [Dev.lanePowered, Dev.lanePowered, h.shed, h.noRef]

/-- A lane that is tried again has no mark, is not good, and is at rest. -/
theorem Dev.laneTried_shows (d : Dev) (l : Nat) : (d.laneTried l).laneMarked l = false ∧ ((d.laneTried l).lane l).good = false ∧
    (d.laneSt l ≠ 10 → (d.laneTried l).laneSt l = if d.laneEnabled l && d.lanePowered l then 1 else 0) := by
  refine ⟨?_, congrArg Lane.good (Dev.lane_setGood_same _ false), fun hst => ?_⟩
  · have hdeep : ((d.unmark l).laneDeep l).laneMarked l = (d.unmark l).laneMarked l :=
      Dev.bit_spared (x := laneDeepReach) rfl rfl fun hin => (Footprint.holds_refl _ (d.unmark l)).laneDeep hin
    exact (Dev.bit_of_get (Dev.get_setGood _ false rfl) 25).trans (hdeep.trans (d.laneMarked_unmark l))
  · have henabled : (d.unmark l).laneEnabled l = d.laneEnabled l := by
      rw [Dev.laneEnabled, Dev.laneEnabled, Dev.cfg, Dev.cfg, d.img_unmark]
    have hpowered : (d.unmark l).lanePowered l = d.lanePowered l := by
      rw [Dev.lanePowered, Dev.lanePowered, d.lne_unmark]
    rw [Dev.laneTried, Dev.laneSt_setGood, Dev.laneSt_laneDeep_same, Dev.laneSt_unmark, if_neg hst, henabled, hpowered]

end

theorem ethLinkRetry_tries (hone : s.dev.bit .epCtrl ep.val 1 = false) (hdown : s.dev.bit .epStatus ep.val 28 = false) :
    Completes (.ethLinkRetry ep sub) s fun e =>
      ∀ l ∈ (LaneGroup.ethernet ep.val).lanes, e.laneMarked l = false ∧ (e.lane l).good = false ∧
        (s.dev.laneSt l ≠ 10 → e.laneSt l = if s.dev.laneEnabled l && s.dev.lanePowered l then 1 else 0) := by
  have hyields : Yields (.ethLinkRetry ep sub) s (s.dev.each (LaneGroup.ethernet ep.val).lanes Dev.laneTried) := by
    change execEthLinkRetry ep sub s = _
    rw [execEthLinkRetry, State.run_eq]
    dsimp only
    simp only [hone, hdown, Bool.false_eq_true, if_false]
    rfl
  refine hyields.completes fun l hl => ?_
  obtain ⟨e, hbefore, hafter⟩ := Dev.each_turn (R := KeepsLane l) (f := Dev.laneTried) (KeepsLane.refl l)
    (fun _ _ _ => KeepsLane.trans) (fun e _ hn => KeepsLane.laneTried e hn) hl (LaneGroup.lanes_nodup _) s.dev
  obtain ⟨hmark, hgood, hst⟩ := e.laneTried_shows l
  rw [hbefore.laneSt, hbefore.laneEnabled, hbefore.lanePowered] at hst
  exact ⟨hafter.laneMarked.trans hmark, (congrArg Lane.good hafter.lane).trans hgood, fun h => hafter.laneSt.trans (hst h)⟩

theorem ethLinkRetry_ignored (hone : s.dev.bit .epCtrl ep.val 1 = false) (hup : s.dev.bit .epStatus ep.val 28 = true) :
    Yields (.ethLinkRetry ep sub) s s.dev := by
  change execEthLinkRetry ep sub s = _
  simp [execEthLinkRetry, hone, hup]

end

/-- Settles O48: the stages of bring-up one by one, what the port of a lane that fails leaves (`KeepsLanes`), and the one turn of
each lane where several are retrained or tried again. -/
theorem lanesComeUpAndAreMarked : Obligations.LanesComeUpAndAreMarked := by
  refine ⟨?signal, ?noSignal, ?stage, ?idle, ?timeout, ?up, ?notUp, ?mirror, ?notAsked, ?sleep, ?revive, ?scan, ?skip, ?now,
    ?retry, ?noRetry⟩
  case signal => exact fun s lane hst hmark hwaits => laneSignalDetect_begins hst hmark hwaits
  case noSignal => exact fun s lane h => laneSignalDetect_ignored h
  case stage =>
    exact fun s lane ctle taps width height hin =>
      ⟨fun hst => laneStageDone_detects hin hst, fun hst => laneStageDone_recovers hin hst,
        fun hst => laneStageDone_equalizes hin hst, fun hst => laneStageDone_locks hin hst,
        fun hst heye => laneStageDone_measures hin hst heye, fun hst hlo hhi => laneStageDone_up hin hst hlo hhi,
        fun hst hother hsame => laneStageDone_waits hin hst hother hsame⟩
  case idle => exact fun s lane ctle taps width height h => laneStageDone_ignored h
  case timeout => exact fun s lane hlo hhi => laneStageTimeout_fails hlo hhi
  case up =>
    exact fun s lane hst =>
      ⟨fun headers hbad => blockLockLoss_fails hst hbad, fun headers hfew => blockLockLoss_ignored (.inr hfew),
        fun hawake => laneLos_fails hst hawake, fun hasleep => laneLos_ignored (.inr hasleep),
        fun hnative => alignmentMarkerLost_fails hst hnative, fun first second h => alignmentMarkerLost_ignored (.inr h),
        fun hawake => laneSignalReturn_counts hst hawake, fun hawake tap => laneRail_scans hst hawake⟩
  case notUp =>
    exact fun s lane tap headers first second hst =>
      ⟨blockLockLoss_ignored (.inl hst), laneLos_ignored (.inl hst), alignmentMarkerLost_ignored (.inl hst),
        laneSignalReturn_ignored hst, laneRail_ignored hst, laneBlockErrRetrain_ignored hst, sleepBlock_ignored hst,
        laneWake_ignored hst⟩
  case mirror =>
    intro s lane i hgroup hlive hmark hst hgood
    have hask := Dev.askRetrain_mirror hgroup lane.isLt hlive hmark hst hgood
    exact ⟨(laneBlockErrRetrain_asks hst).completes hask, laneRetrain_asks.completes hask⟩
  case notAsked => exact fun s lane h => laneRetrain_ignored h
  case sleep => exact fun s lane hst hnative => ⟨sleepBlock_sleeps hst hnative, fun hasleep => laneWake_wakes hst hasleep⟩
  case revive => exact fun s lane => laneRevive_clears
  case scan => exact fun s lane w h hst hawake heye => marginScanDone_stores hst hawake heye
  case skip => exact fun s lane eye hskip => marginScanDone_skips hskip
  case now => exact fun s hidle => scanNow_waits hidle
  case retry => exact fun s ep sub hone hdown => ethLinkRetry_tries hone hdown
  case noRetry => exact fun s ep sub hone hup => ethLinkRetry_ignored hone hup

end Sys2Proof.Machine
end
